-- ==== Sys2Proof/Word.lean ====
section
/-!
DEFINITION. The widths of the part's words and their plainest arithmetic (00_scope.md R4, R7).
-/

namespace Sys2Proof

/-- A byte of a packet, record or register. -/
abbrev Byte := BitVec 8

/-- A 32-bit word of a register, a status word or a frame number. -/
abbrev Word := BitVec 32

/-- Frame `a` is later than frame `b` (00_scope.md R7): the difference modulo 2^32 lies between 1 and 2,147,483,647. -/
def frameLater (a b : Word) : Bool := 1 ≤ (a - b).toNat && (a - b).toNat ≤ 2147483647

/-- `n` saturated at `m`. -/
def satTo (m n : Nat) : Nat := if n ≤ m then n else m

/-- A counter of width `m` that saturates: one more, but never above `m`. -/
def bump (m n : Nat) : Nat := satTo m (n + 1)

/-- `x` forced into the range `lo` to `hi`. -/
def clampInt (lo hi x : Int) : Int := if x < lo then lo else if x > hi then hi else x

end Sys2Proof
end

