-- ==== Sys2Proof/Syntax.lean ====
section
/-!
DEFINITION. The commands of the part: one constructor per row of opcode_table.json, with the operands each row needs.
An operand is either a field the carrier brings (bytes of a packet, a register address) or a fact of the world outside
the block that the row depends on (a converted code, a level, the result of a test).
-/

namespace Sys2Proof

/-- The ports a packet arrives on or a reply leaves on, with their Table 17.4 codes: the safety block and the module
itself 1, ring 2, SPI 3, CAN-A 4, CAN-B 5. -/
inductive Port where
  | own | ring | spi | canA | canB
deriving DecidableEq, Repr

/-- The header of a request as it executes (17_ploza_protocol.md R405): its port of arrival, TARGET, SEQUENCE, FLAGS. -/
structure Hdr where
  /-- Port of arrival (Table 17.4). -/
  port : Port := .spi
  /-- TARGET: 0 to 7 ring position, 0xFE string broadcast, 0xFF bank broadcast. -/
  target : BitVec 8 := 0
  /-- SEQUENCE. -/
  seq : BitVec 8 := 0
  /-- FLAGS (Table 17.3): bit 7 RETRY, bit 6 NO_REPLY. -/
  flags : BitVec 8 := 0
deriving DecidableEq, Repr

/-- The jobs of the non-anchored recipes: those of Table 5.1, and the M and O jobs that the chapters on each recipe
describe. -/
inductive JobKind where
  /-- Cell pan, M: scaling, lead correction and status of its cells (02 R43 to R47, R56). -/
  | cellScale
  /-- Cell pan, P: the BLENDED or COUNTING step (06 R142). -/
  | blended
  /-- Cell pan, P: spectroscopy bin accumulation (07 R184). -/
  | specBin
  /-- Cell pan, P: health update (06 R162). -/
  | health
  /-- Cell pan, O: statistics and trends (Table 5.5). -/
  | cellStats
  /-- P32, M: current aggregation and the current record (03 R80). -/
  | currentAgg
  /-- P33, M: string current and current plausibility at the primary (03 R82, R83). -/
  | plausibility
  /-- P33, P: module summary, SoC and remaining energy (06 R164). -/
  | summary
  /-- P33, P: power limits (06 R165). -/
  | powerLimits
  /-- P33, P: string figures at the primary (06 R166). -/
  | stringFigures
  /-- P37, O: PASSIVE coherence search (Table 5.5). -/
  | coherence
  /-- P37, P: cross-spectral estimation (07 R187). -/
  | crossSpec
  /-- P37, P: thermometry (07 R193). -/
  | thermo
  /-- P38, M: the switch pattern of a frame (09 R228). -/
  | pattern
  /-- P38, P: the slot plan (09 R227). -/
  | slotPlan
  /-- P38, O: automatic target refinement (09 R223). -/
  | refine
  /-- P39, M: the open-wire step (02 R50). -/
  | openWire
  /-- P39, P: lead-resistance measurement (02 R54). -/
  | leadR
  /-- P39, M: the strap check of unused channels (02 R38). -/
  | strapCheck
  /-- P39, M: the protection-set CRC check (10 R246). -/
  | threshCheck
  /-- P39, O: self-tests (Table 5.5). -/
  | selfTest
  /-- P39, P: the event record write (10 R247). -/
  | eventWrite
deriving DecidableEq, Repr

/-- The CRC-32C signatures of a job, or of a sub-period of an anchored role, over every value written in it (04 R98). -/
structure SigSet where
  /-- Signature of the pan that serves the role. -/
  own : BitVec 32 := 0
  /-- Signature of the spare that shadows it, in an arbitration window that of the original pan. -/
  a : BitVec 32 := 0
  /-- In an arbitration window, signature of the shadow spare. -/
  b : BitVec 32 := 0
deriving DecidableEq, Repr

/-- What a completed job reports beside its outputs (04 R90, R98, R101; 05 R129). -/
structure JobRes where
  /-- An RNORM saturated (SAT). -/
  sat : Bool := false
  /-- An RNORM underflowed (UFL). -/
  ufl : Bool := false
  /-- The accumulator saturated (ACC_SAT). -/
  accSat : Bool := false
  /-- The job ran past its declared worst-case length without reaching twice that length. -/
  overrun : Bool := false
  /-- The signatures of the job (zeros where no pan shadows the role). -/
  sig : SigSet := {}
  /-- Corrected data-memory errors of the pan during the job. -/
  ecc : Nat := 0
  /-- The job was the last of the pan's list: its checkpoint is written and the window of this pan ends. -/
  last : Bool := false
deriving DecidableEq, Repr

/-- Pan faults, LAST_FAULT of Table 4.6, with the correction-rate limit of R101 (`eccRate`) beside them. -/
inductive PanFault where
  | none | eccRate | dataEcc | recipeParity | illegal | address | watchdog | transit | bist
deriving DecidableEq, Repr

/-- Lane faults of Table 14.2 that release the token at once or retire the lane. -/
inductive LaneFault where
  | lockstep | sramUncorrectable | illegalAccess | writeVerify
deriving DecidableEq, Repr

/-- The fault-channel square wave of a front end (10_hardware_protection.md R237). -/
inductive FaultFreq where
  | mhz1 | khz250 | khz500 | khz125
deriving DecidableEq, Repr

/-- What the safety block reads at one 25 us sample (15_safety_block.md R356, R359). -/
structure SafeSample where
  /-- Inputs that read high, in the order of Table 15.1: bit 0 ESTOP_A to bit 6 TWOHAND_2. -/
  high : BitVec 7 := 0
  /-- Inputs in their evaluation window of R360, not evaluated in this sample. -/
  masked : BitVec 7 := 0
  /-- K_VSUP is below its fault threshold. -/
  kLow : Bool := false
  /-- Two oscillators differ by more than 10 %, or the program-flow check failed. -/
  internal : Bool := false
  /-- An output that is off reads 2 V or more, or an output that is on carries an open load: outputs K_POS, K_NEG,
  K_PRE, SAFE_OK from bit 0. -/
  outBad : BitVec 4 := 0
deriving DecidableEq, Repr

/-- What a check of one block of the table finds (08 R214). -/
structure BlockCheck where
  /-- The block of the SRAM copy matches its BLOCK_CRC. -/
  sramOk : Bool
  /-- The non-volatile block matches its BLOCK_CRC. -/
  nvmOk : Bool
deriving DecidableEq, Repr

/-- A copy of the ring frame as it reaches the port that feeds it (13 R299, R310). -/
structure RingCopy where
  /-- The CW copy. -/
  cw : Bool
  /-- Its 3,125 bytes, none where a byte was not received. -/
  rx : List (Option Byte)
deriving DecidableEq, Repr

/-- What the monitor of a wake source saw (16 R396). -/
structure WakeSeen where
  /-- Source 3: the cell, 0 for none. -/
  cell : Nat := 0
  /-- Source 1: the last ten samples of BUS_TERM, mV. -/
  bus : List Int := []
deriving DecidableEq, Repr

/-- The data of an SPI transaction (19 R452). -/
structure SpiData where
  /-- The data words completed before CS_N rises. -/
  words : List (BitVec 32)
  /-- The last edge falls after t+92.000. -/
  late : Bool := false
deriving DecidableEq, Repr

/-- The commands: one constructor per row of opcode_table.json, in its order. -/
inductive Instr where
  /-- SAMPLE_STROBE (R17). Operands: temperatures of NTC1 to NTC16, 0.01 C; none: open. -/
  | sampleStrobe (ntc : List (Option Int))
  /-- FRAME_BOUNDARY (R26). Operands: lateness of the boundary after its nominal t+8.000, ns. -/
  | frameBoundary (lateNs : Nat)
  /-- GOVERNOR_DECISION (R115). -/
  | governorDecision
  /-- PAN_JOB_COMPLETE (R112). Operands: pan, job, result flags and signature comparison. -/
  | panJobComplete (pan : Nat) (job : JobKind) (res : JobRes)
  /-- COMPUTE_WINDOW_END (R128). Operands: role that finished last and its end after the successor's nominal boundary, ns. -/
  | computeWindowEnd (lastSlot : Nat) (lateNs : Nat)
  /-- COMET (R128). -/
  | comet
  /-- SCHEDULE_FAULT (R135). -/
  | scheduleFault
  /-- O_WORK_RESUME (R135). -/
  | oWorkResume
  /-- TRANSIT_SUSPENDED (R99). -/
  | transitSuspended
  /-- CONTROL_SUBPERIOD (R277). Operands: sub-period, eight phase-sensor means and the bus-sense mean, uV; GD_FAULT_N and the FAULT_N line read low at the sample. -/
  | controlSubperiod (sub : Nat) (phaseUv : List Nat) (busUv : Nat) (gdLow lineLow : Bool)
  /-- CONTROL_OUTPUT (R20). Operands: pans still computing at the output instant; the signatures of the sub-period of each anchored role. -/
  | controlOutput (late34 late35 late36 : Bool) (sig34 sig35 sig36 : SigSet)
  /-- LOOP_FAULT (R278). Operands: anchored role whose seventh consecutive set is missing. -/
  | loopFault (slot : Nat)
  /-- LOOP_IMPLAUSIBLE (R290). -/
  | loopImplausible
  /-- SAFE_LAW_GATES_OFF (R291). -/
  | safeLawGatesOff
  /-- FE_FRAME_PACKET (R40). Operands: front end 1 to 6, packet as received, channels with a first-stage code at full scale. -/
  | feFramePacket (fe : Nat) (bytes : List Byte) (clipLo clipHi : BitVec 16)
  /-- CFE_SUBSAMPLE_PACKET (R65). Operands: first-stage instant and packet as received. -/
  | cfeSubsamplePacket (idx : Nat) (bytes : List Byte)
  /-- CFE_FRAME_PACKET (R67). Operands: packet as received. -/
  | cfeFramePacket (bytes : List Byte)
  /-- BACK_CHANNEL_MESSAGE (R41). Operands: front end 1 to 7; a valid message was received for the frame. -/
  | backChannelMessage (fe : Nat) (ok : Bool)
  /-- BACK_CHANNEL_CUTOFF (R132). -/
  | backChannelCutoff
  /-- PORT_LINE_DOWN (R60). Operands: front end 1 to 7; the fault channel instead of the port line. -/
  | portLineDown (fe : Nat) (faultCh : Bool)
  /-- FE_LINK_FAULT (R60). Operands: front end 1 to 6. -/
  | feLinkFault (fe : Nat)
  /-- RELINK_ATTEMPT_END (R61). Operands: front end 1 to 7; measured delay, none when the attempt failed. -/
  | relinkAttemptEnd (fe : Nat) (delayNs : Option Nat)
  /-- RELINK_RETRY (R61). Operands: front end 1 to 7. -/
  | relinkRetry (fe : Nat)
  /-- STROBE_DELAY_MEASURE (R46). Operands: measured one-way delays of the seven ports, ns. -/
  | strobeDelayMeasure (delays : List Nat)
  /-- FE_SUPPLY_CHANGEOVER (R42). Operands: front end 1 to 7. -/
  | feSupplyChangeover (fe : Nat)
  /-- FE_AUX_RETURN (R42). Operands: front end 1 to 7. -/
  | feAuxReturn (fe : Nat)
  /-- STACK_KEEPALIVE_TEST (R42). Operands: front end 1 to 7 and the test's result. -/
  | stackKeepaliveTest (fe : Nat) (pass : Bool)
  /-- COMPARATOR_ASSERT (R236). Operands: front end 1 to 6, local channel 1 to 16, OV or UV. -/
  | comparatorAssert (fe ch : Nat) (ov : Bool)
  /-- COMPARATOR_RELEASE (R236). Operands: as COMPARATOR_ASSERT. -/
  | comparatorRelease (fe ch : Nat) (ov : Bool)
  /-- FAULT_CHANNEL_CHANGE (R237). Operands: front end 1 to 6 and the decoded frequency. -/
  | faultChannelChange (fe : Nat) (freq : FaultFreq)
  /-- PROT_EVENT_RECORD_WRITE (R247). -/
  | protEventRecordWrite
  /-- FE_THERMAL_SHUTDOWN (R241). Operands: front end 1 to 6. -/
  | feThermalShutdown (fe : Nat)
  /-- FE_THERMAL_RELEASE (R241). Operands: front end 1 to 6. -/
  | feThermalRelease (fe : Nat)
  /-- OVERCURRENT_TRIP (R77). Operands: direction of the comparator. -/
  | overcurrentTrip (charge : Bool)
  /-- FAST_CHANNEL_LOST (R240). -/
  | fastChannelLost
  /-- FAST_CHANNEL_RESTORED (R240). -/
  | fastChannelRestored
  /-- FAULT_LINE_LOW (R243). -/
  | faultLineLow
  /-- FAULT_AUTO_RELEASE (R244). Operands: cause bit 22 to 31. -/
  | faultAutoRelease (bit : Nat)
  /-- DIE_TEMP_CONVERSION (R117). Operands: reading, 0.01 C. -/
  | dieTempConversion (temp : Int)
  /-- DIE_TEMP_TIMEOUT (R119). -/
  | dieTempTimeout
  /-- PAN_HARD_FAULT (R101). Operands: pan and fault. -/
  | panHardFault (pan : Nat) (fault : PanFault)
  /-- SLUICE_LOAD_COMPLETE (R102). Operands: pan loaded and the role slot it was loaded for. -/
  | sluiceLoadComplete (pan slot : Nat)
  /-- PAN_BIST_COMPLETE (R95). Operands: pan and result. -/
  | panBistComplete (pan : Nat) (pass : Bool)
  /-- SLUICE_FAIL (R107). Operands: 1 load, 2 map parity, 3 checkpoint. -/
  | sluiceFail (cause : Nat)
  /-- ZERO_TRACK_COMPLETE (R70). -/
  | zeroTrackComplete
  /-- ZERO_VALID_EXPIRE (R70). -/
  | zeroValidExpire
  /-- CURRENT_RECORD_RX (R81). Operands: record of Table 3.5 as received. -/
  | currentRecordRx (bytes : List Byte)
  /-- CURRENT_RECORD_MISSING (R81). Operands: branch and stamp. -/
  | currentRecordMissing (branch : Nat) (stamp : BitVec 32)
  /-- REST_STARVED (R158). -/
  | restStarved
  /-- REST_REQUEST_REPEAT (R158). -/
  | restRequestRepeat
  /-- ANCHOR_STARVED (R161). -/
  | anchorStarved
  /-- ESTIMATOR_STATE_SAVE (R153). -/
  | estimatorStateSave
  /-- MODULE_MISSING_LIMIT (R166). Operands: ring position missing. -/
  | moduleMissingLimit (pos : Nat)
  /-- SWEEP_START_FRAME (R178). -/
  | sweepStartFrame
  /-- EIS_BLOCK_END (R186). -/
  | eisBlockEnd
  /-- EIS_CONTROL_RECORD_RX (R186). Operands: record of Table 7.4 as received. -/
  | eisControlRecordRx (bytes : List Byte)
  /-- EIS_VERDICT_TIMEOUT (R186). -/
  | eisVerdictTimeout
  /-- EIS_RESUME_TIMEOUT (R188). -/
  | eisResumeTimeout
  /-- SWEEP_DRAIN_END (R177). -/
  | sweepDrainEnd
  /-- BLOCK_STATUS_PERIODIC (R186). -/
  | blockStatusPeriodic
  /-- TABLE_VALIDATION_COMPLETE (R209). -/
  | tableValidationComplete
  /-- TABLE_BLOCK_CHECK (R214). Operands: the lane is the standby lane; the SRAM block and the non-volatile block match their BLOCK_CRC. -/
  | tableBlockCheck (standby : Bool) (found : BlockCheck)
  /-- SLICE_WRITE_COMPLETE (R204). Operands: cell 1 to 96. -/
  | sliceWriteComplete (cell : Nat)
  /-- BAL_SLOT_START (R224). -/
  | balSlotStart
  /-- GATE_DRIVER_READY (R266). -/
  | gateDriverReady
  /-- START_TIMEOUT (R266). -/
  | startTimeout
  /-- SOFT_START_DONE (R266). -/
  | softStartDone
  /-- DRAIN_COMPLETE (R267). -/
  | drainComplete
  /-- DRAIN_TIMEOUT (R267). -/
  | drainTimeout
  /-- GATE_DRIVER_FAULT (R270). -/
  | gateDriverFault
  /-- BUS_OV (R258). Operands: bus-sense input, uV. -/
  | busOv (busUv : Nat)
  /-- HICCUP_TRIGGER (R272). Operands: phase 1 to 8. -/
  | hiccupTrigger (phase : Nat)
  /-- HICCUP_RETRY (R272). -/
  | hiccupRetry
  /-- SHED_DWELL_EXPIRE (R260). -/
  | shedDwellExpire
  /-- STEP_BLOCK_END (R262). -/
  | stepBlockEnd
  /-- FAULT_RECORD_WRITE (R274). -/
  | faultRecordWrite
  /-- RING_FRAME_EMIT (R304). -/
  | ringFrameEmit
  /-- RING_COPY_EMIT (R299). Operands: copy: CW or CCW; the 3,125 bytes of it as they reach the port that feeds it, none where a byte was not received. -/
  | ringCopyEmit (copy : RingCopy)
  /-- RING_HEADER_RX (R315). Operands: port's copy, header as received, timing error e and (both ports up) the difference of the two arrivals, ns. -/
  | ringHeaderRx (cw : Bool) (bytes : List Byte) (errNs : Int) (deltaNs : Option Int)
  /-- HARVEST_COMPLETE (R309). Operands: the 2,880 slot bytes of each copy as received. -/
  | harvestComplete (cw ccw : List Byte)
  /-- SIDE_WINDOW_RX (R310). Operands: copy and the 113 bytes as received. -/
  | sideWindowRx (cw : Bool) (bytes : List Byte)
  /-- RING_MESSAGE_RX (R312). Operands: 0 to 7 uplink of that position, 8 downlink; segment header and data. -/
  | ringMessageRx (src : Nat) (seg : List Byte)
  /-- RING_PORT_DOWN (R320). Operands: port. -/
  | ringPortDown (cw : Bool)
  /-- RING_PORT_RESTORED (R326). Operands: port. -/
  | ringPortRestored (cw : Bool)
  /-- HEADER_MISS (R321). Operands: positions whose slot arrived valid and those of them that are eligible. -/
  | headerMiss (members eligible : BitVec 8)
  /-- PRIMARY_HANDOVER (R322). -/
  | primaryHandover
  /-- ENUMERATION_END (R302). Operands: modules found. -/
  | enumerationEnd (found : Nat)
  /-- SYNC_IN_EDGE (R317). Operands: strobe of the frame minus the edge, ns. -/
  | syncInEdge (offsetNs : Int)
  /-- PPS_LOST (R317). -/
  | ppsLost
  /-- RING_WAKE_TONE (R328). Operands: port whose detector recognised the tone. -/
  | ringWakeTone (cw : Bool)
  /-- TOKEN_WATCHDOG_EXPIRE (R337). -/
  | tokenWatchdogExpire
  /-- LANE_HARD_FAULT (R343). Operands: lane (false A, true B) and fault. -/
  | laneHardFault (lane : Bool) (fault : LaneFault)
  /-- TOKEN_GRANT (R336). Operands: claim lines in the clock cycle. -/
  | tokenGrant (claimA claimB : Bool)
  /-- TAKEOVER_COMPLETE (R340). -/
  | takeoverComplete
  /-- TOKEN_BELIEF_MISMATCH (R338). Operands: lane whose belief differs. -/
  | tokenBeliefMismatch (lane : Bool)
  /-- RERUN_ARBITRATION (R338). -/
  | rerunArbitration
  /-- MIRROR_RX (R334). Operands: MIRROR_SEQ; complete with a good CRC. -/
  | mirrorRx (frame : BitVec 32) (ok : Bool)
  /-- RESYNC_COMPLETE (R335). -/
  | resyncComplete
  /-- LANE_REBOOT_COMPLETE (R344). Operands: lane and self-test result. -/
  | laneRebootComplete (lane pass : Bool)
  /-- ECLIPSE_SWAP_DUE (R345). -/
  | eclipseSwapDue
  /-- ECLIPSE_HANDOVER (R346). Operands: takeover self-test and echo test passed. -/
  | eclipseHandover (testOk : Bool)
  /-- ECLIPSE_CHECK_END (R347). Operands: every write verified; the old lane's expected values differ. -/
  | eclipseCheckEnd (verifyOk diverge : Bool)
  /-- SWAP_OVERDUE (R345). -/
  | swapOverdue
  /-- PROT_ONLY_ENTRY (R348). -/
  | protOnlyEntry
  /-- PROT_ONLY_NOTICE (R349). -/
  | protOnlyNotice
  /-- FALLBACK_GATES_OFF (R348). -/
  | fallbackGatesOff
  /-- PROT_ONLY_CONTACTOR_OPEN (R348). -/
  | protOnlyContactorOpen
  /-- PROT_ONLY_RESET (R351). Operands: port and packet as received. -/
  | protOnlyReset (port : Port) (bytes : List Byte)
  /-- SAFETY_SAMPLE (R363). Operands: levels read at the sample. -/
  | safetySample (inp : SafeSample)
  /-- SAFETY_DISCREPANCY (R361). Operands: the door pair instead of the emergency-stop pair. -/
  | safetyDiscrepancy (door : Bool)
  /-- TEST_OUTPUT_DROP (R360). Operands: T1 or T2 dropped; inputs that read low in the drop (bit order of Table 15.1). -/
  | testOutputDrop (t2 : Bool) (low : BitVec 7)
  /-- OUTPUT_TEST_DROP (R367). Operands: output 0 K_POS, 1 K_NEG, 2 K_PRE, 3 SAFE_OK; readback as required. -/
  | outputTestDrop (out : Nat) (ok : Bool)
  /-- SAFETY_SELF_TEST (R356). Operands: results of the three tests. -/
  | safetySelfTest (ramOk progOk setOk : Bool)
  /-- ARMING_READY (R363). -/
  | armingReady
  /-- K_PRE_ON (R368). -/
  | kPreOn
  /-- PRECHARGE_COMPLETE (R368). -/
  | prechargeComplete
  /-- K_PRE_OFF (R368). -/
  | kPreOff
  /-- PRECHARGE_TIMEOUT (R368). -/
  | prechargeTimeout
  /-- INRUSH_TRIP (R368). -/
  | inrushTrip
  /-- K_NEG_OPEN (R369). -/
  | kNegOpen
  /-- TRIP_CONTACTOR_OFF (R370). -/
  | tripContactorOff
  /-- TWOHAND_INPUT (R372). Operands: the two inputs after the change, true: actuated. -/
  | twohandInput (one two : Bool)
  /-- K_SUPPLY_LOW (R375). -/
  | kSupplyLow
  /-- OUTPUT_OVERCURRENT (R366). Operands: output as OUTPUT_TEST_DROP. -/
  | outputOvercurrent (out : Nat)
  /-- AUX_OK_CLEAR (R383). -/
  | auxOkClear
  /-- AUX_OK_SET (R388). -/
  | auxOkSet
  /-- BRIDGE_RUN_EXPIRE (R384). -/
  | bridgeRunExpire
  /-- STACK_LOW (R384). -/
  | stackLow
  /-- AON_POWER_LOSS (R318). -/
  | aonPowerLoss
  /-- HANDSHAKE_TIMEOUT (R390). -/
  | handshakeTimeout
  /-- ENTRY_STEP_COMPLETE (R393). -/
  | entryStepComplete
  /-- ENTRY_FORCED (R393). -/
  | entryForced
  /-- WAKE_CONFIRMED (R396). Operands: wake source 1 to 8; what its monitor saw. -/
  | wakeConfirmed (src : Nat) (seen : WakeSeen)
  /-- WAKE_DWELL_EXPIRE (R394). -/
  | wakeDwellExpire
  /-- RETURN_STAGE_READY (R399). Operands: at stage 5: every kept bank of a boot image passed its seal. -/
  | returnStageReady (sealsOk : Bool)
  /-- RETURN_STAGE_TIMEOUT (R401). -/
  | returnStageTimeout
  /-- CORE_LDO_RETRY (R401). -/
  | coreLdoRetry
  /-- COLD_START (R318). Operands: ADDR pins; the always-on domain is first powered by the bridge alone. -/
  | coldStart (straps : Nat) (bridgeOnly : Bool)
  /-- PACKET_RECEIVED (R411). Operands: port, received after t+92.000, packet as received. -/
  | packetReceived (port : Port) (late : Bool) (bytes : List Byte)
  /-- PING (R427). Operands: the packet header and the payload bytes. -/
  | ping (h : Hdr) (p : List Byte)
  /-- IDENTIFY (R427). Operands: the packet header and the payload bytes. -/
  | identify (h : Hdr) (p : List Byte)
  /-- HEALTH (R427). Operands: the packet header and the payload bytes. -/
  | health (h : Hdr) (p : List Byte)
  /-- PARAM_GET (R416). Operands: the packet header and the payload bytes. -/
  | paramGet (h : Hdr) (p : List Byte)
  /-- PARAM_SET (R416). Operands: the packet header and the payload bytes. -/
  | paramSet (h : Hdr) (p : List Byte)
  /-- COMMIT (R417). Operands: the packet header and the payload bytes. -/
  | commit (h : Hdr) (p : List Byte)
  /-- DISCARD (R418). Operands: the packet header and the payload bytes. -/
  | discard (h : Hdr) (p : List Byte)
  /-- TABLE_WRITE (R208). Operands: the packet header and the payload bytes. -/
  | tableWrite (h : Hdr) (p : List Byte)
  /-- TABLE_READ (R208). Operands: the packet header and the payload bytes. -/
  | tableRead (h : Hdr) (p : List Byte)
  /-- POWER_STATE (R389). Operands: the packet header and the payload bytes. -/
  | powerState (h : Hdr) (p : List Byte)
  /-- WAKE_RECORD (R398). Operands: the packet header and the payload bytes. -/
  | wakeRecord (h : Hdr) (p : List Byte)
  /-- MODE (R504). Operands: the packet header and the payload bytes. -/
  | mode (h : Hdr) (p : List Byte)
  /-- CONV_ENABLE (R265). Operands: the packet header and the payload bytes. -/
  | convEnable (h : Hdr) (p : List Byte)
  /-- CONV_DISABLE (R268). Operands: the packet header and the payload bytes. -/
  | convDisable (h : Hdr) (p : List Byte)
  /-- CONV_SETPOINT (R281). Operands: the packet header and the payload bytes. -/
  | convSetpoint (h : Hdr) (p : List Byte)
  /-- CONV_FAULT_RECORD (R274). Operands: the packet header and the payload bytes. -/
  | convFaultRecord (h : Hdr) (p : List Byte)
  /-- BAL_PLAN (R218). Operands: the packet header and the payload bytes. -/
  | balPlan (h : Hdr) (p : List Byte)
  /-- BAL_STOP (R219). Operands: the packet header and the payload bytes. -/
  | balStop (h : Hdr) (p : List Byte)
  /-- EIS_START (R176). Operands: the packet header and the payload bytes. -/
  | eisStart (h : Hdr) (p : List Byte)
  /-- EIS_RESULT (R189). Operands: the packet header and the payload bytes. -/
  | eisResult (h : Hdr) (p : List Byte)
  /-- EIS_ABORT (R188). Operands: the packet header and the payload bytes. -/
  | eisAbort (h : Hdr) (p : List Byte)
  /-- SNAPSHOT (R435). Operands: the packet header and the payload bytes. -/
  | snapshot (h : Hdr) (p : List Byte)
  /-- STREAM_CONFIG (R437). Operands: the packet header and the payload bytes. -/
  | streamConfig (h : Hdr) (p : List Byte)
  /-- FW_STAGE (R466). Operands: the packet header and the payload bytes. -/
  | fwStage (h : Hdr) (p : List Byte)
  /-- FW_ACTIVATE (R467). Operands: the packet header and the payload bytes. -/
  | fwActivate (h : Hdr) (p : List Byte)
  /-- JOURNAL_READ (R463). Operands: the packet header and the payload bytes. -/
  | journalRead (h : Hdr) (p : List Byte)
  /-- ATTEST (R469). Operands: the packet header and the payload bytes. -/
  | attest (h : Hdr) (p : List Byte)
  /-- REPROVISION (R474). Operands: the packet header and the payload bytes. -/
  | reprovision (h : Hdr) (p : List Byte)
  /-- RING_STATUS (R329). Operands: the packet header and the payload bytes. -/
  | ringStatus (h : Hdr) (p : List Byte)
  /-- RING_ENUMERATE (R302). Operands: the packet header and the payload bytes. -/
  | ringEnumerate (h : Hdr) (p : List Byte)
  /-- SAFETY_STATUS (R376). Operands: the packet header and the payload bytes. -/
  | safetyStatus (h : Hdr) (p : List Byte)
  /-- SAFETY_RESET (R364). Operands: the packet header and the payload bytes. -/
  | safetyReset (h : Hdr) (p : List Byte)
  /-- ECLIPSE_SWAP (R345). Operands: the packet header and the payload bytes. -/
  | eclipseSwap (h : Hdr) (p : List Byte)
  /-- RESET (R505). Operands: the packet header and the payload bytes. -/
  | reset (h : Hdr) (p : List Byte)
  /-- DIAG_DIE_TEMP (R117). Operands: the packet header and the payload bytes. -/
  | diagDieTemp (h : Hdr) (p : List Byte)
  /-- DIAG_CUR_CAL (R71). Operands: the packet header and the payload bytes. -/
  | diagCurCal (h : Hdr) (p : List Byte)
  /-- CUR_CAL_COMPLETE (R71). -/
  | curCalComplete
  /-- DIAG_FAULT_CLEAR (R244). Operands: the packet header and the payload bytes. -/
  | diagFaultClear (h : Hdr) (p : List Byte)
  /-- DIAG_PROT_EVENTS (R247). Operands: the packet header and the payload bytes. -/
  | diagProtEvents (h : Hdr) (p : List Byte)
  /-- DIAG_CELL_RESET (R152). Operands: the packet header and the payload bytes. -/
  | diagCellReset (h : Hdr) (p : List Byte)
  /-- DIAG_THERMO_CAL (R197). Operands: the packet header and the payload bytes. -/
  | diagThermoCal (h : Hdr) (p : List Byte)
  /-- DIAG_ABSORBED_EVENTS (R352). Operands: the packet header and the payload bytes. -/
  | diagAbsorbedEvents (h : Hdr) (p : List Byte)
  /-- DIAG_POWER_TEST (R392). Operands: the packet header and the payload bytes. -/
  | diagPowerTest (h : Hdr) (p : List Byte)
  /-- CONFIG_IMAGE_WRITTEN (R433). -/
  | configImageWritten
  /-- JOURNAL_SEAL_WRITE (R462). -/
  | journalSealWrite
  /-- FW_VERIFY_COMPLETE (R467). -/
  | fwVerifyComplete
  /-- FW_TRIAL_RESULT (R468). Operands: a first valid frame was reached; false: a boot of the TRIAL slot failed. -/
  | fwTrialResult (pass : Bool)
  /-- EPHEMERAL_KEY_EXPIRE (R474). -/
  | ephemeralKeyExpire
  /-- TAMPER_DETECT (R470). Operands: sources detected in the clock cycle (bit k-1 for code k); die temperature for source 4. -/
  | tamperDetect (sources : BitVec 4) (value : Int)
  /-- CAN_FRAME_RX (R447). Operands: port (false CAN-A, true CAN-B), identifier, format, end of frame after t+92.000, data field. -/
  | canFrameRx (b : Bool) (id : BitVec 29) (fd late : Bool) (data : List Byte)
  /-- CAN_SEGMENT_TIMEOUT (R409). Operands: port and identifier bits 28..8 of the partial packet. -/
  | canSegmentTimeout (b : Bool) (key : BitVec 21)
  /-- CAN_TX_COMPLETE (R448). Operands: port, the frame was the alarm slot's, measured loop delay. -/
  | canTxComplete (b alarm : Bool) (loopDelay : Nat)
  /-- CAN_BUS_OFF (R448). Operands: port. -/
  | canBusOff (b : Bool)
  /-- CAN_BUS_OFF_RECOVERY (R448). Operands: port. -/
  | canBusOffRecovery (b : Bool)
  /-- SPI_IN_DATA_WRITE (R453). Operands: word; its last edge falls after t+92.000. -/
  | spiInDataWrite (w : BitVec 32) (late : Bool)
  /-- SPI_OUT_DATA_READ (R454). -/
  | spiOutDataRead
  /-- SPI_IRQ_STATUS_WRITE (R452). Operands: word. -/
  | spiIrqStatusWrite (w : BitVec 32)
  /-- SPI_REGISTER_WRITE (R452). Operands: command word (Table 19.6); its data. -/
  | spiRegisterWrite (cmd : BitVec 32) (data : SpiData)
  /-- SPI_CS_RISE (R453). -/
  | spiCsRise
  /-- SPI_IN_TIMEOUT (R453). -/
  | spiInTimeout
  /-- PWM_PERIOD_START (R257). Operands: phase 1 to 8; of the period just ended, whether the comparator was near its threshold, the instant at which it was last looked at, counts of 250 ps after the control switch turned on, and the sensor voltage then, uV. -/
  | pwmPeriodStart (phase : Nat) (near : Bool) (count uv : Nat)
  /-- NVM_TRANSFER_COMPLETE (R108). -/
  | nvmTransferComplete
  /-- TABLE_BLOCK_STORED (R208). Operands: the readback carries its BLOCK_CRC. -/
  | tableBlockStored (readbackOk : Bool)
  /-- DOZE_BLOCK_ASK (R390). -/
  | dozeBlockAsk
  /-- WAKE_PULSE_END (R397). -/
  | wakePulseEnd
  /-- RING_WAKE_TONE_END (R328). -/
  | ringWakeToneEnd
  /-- CORRECTED_SRAM_ERROR (R343). Operands: lane. -/
  | correctedSramError (lane : Bool)
  /-- CAN_BUS_ERROR (R441). Operands: port; the module was transmitting. -/
  | canBusError (b tx : Bool)
deriving DecidableEq, Repr

end Sys2Proof
end

