-- ==== Sys2Proof/Machine/State.lean ====
section
/-!
DEFINITION. The state of the part as plain data, one structure per unit, each field's default its value at reset, and the
two ways a step can stop. Each field names the rule of the spec it comes from; a field whose reset value no rule states is
marked DESIGN CHOICE with its log entry.
-/

namespace Sys2Proof.Machine

/-- Why a step stops with a fault. -/
inductive Fault where
  /-- Raised by a command that names a front end, pan, phase, port, cell, position, output or cause bit which the part
  does not have (00_scope.md Table 0.3). Safe: the part has no such unit, and nothing else happens. -/
  | noSuchUnit
deriving DecidableEq, Repr

/-- Why a step refuses a command. -/
inductive Refusal where
  /-- Raised by the dispatch arm of a command that has no meaning yet, with its mnemonic. Safe: nothing is claimed. -/
  | notModelled (mnemonic : String)
deriving DecidableEq, Repr

/-- The operating modes (Table 0.4). -/
inductive Mode where
  | service | standby | active
deriving DecidableEq, Repr

/-- Pan states, STATE of Table 4.6 in its code order. -/
inductive PanState where
  | active | spareIdle | shadowing | referee | bist | halted | retired | gated
deriving DecidableEq, Repr

/-- The eight recipe images (04 R92). -/
inductive Recipe where
  | cell | agg | law | plaus | phase | eis | balplan | diag
deriving DecidableEq, Repr

/-- Thermal states of the governor (Table 5.2). -/
inductive Thermal where
  | normal | throttle | hot | crit
deriving DecidableEq, Repr

/-- States of a switchable function (Table 17.9). -/
inductive FnState where
  | off | starting | on | draining
deriving DecidableEq, Repr

/-- KIND of Table 7.11. -/
inductive EisKind where
  | none | hostActive | hostPassive | watch
deriving DecidableEq, Repr

/-- STAGED_STATE of Table 8.5, with LOADING and VALIDATING apart. -/
inductive StagedSt where
  | empty | loading | validating | ready | rejected
deriving DecidableEq, Repr

/-- Phase states, STATE of Table 11.10 in its code order. -/
inductive PhaseSt where
  | notConfigured | off | active | rampOut | shed | faulted
deriving DecidableEq, Repr

/-- Law modes (Table 12.4). -/
inductive LawMode where
  | current | power | busVoltage
deriving DecidableEq, Repr

/-- RING_STATE in its code order (Table 13.2). -/
inductive RingSt where
  | closed | broken | partialRing | forming
deriving DecidableEq, Repr

/-- What a lane is doing (14 R338, R344). -/
inductive LaneSt where
  | inCharge | standby | rebooting | retired | off
deriving DecidableEq, Repr

/-- States of the safety block in their code order (Table 15.2). -/
inductive SafeSt where
  | safe | armed | tripped | notUsed
deriving DecidableEq, Repr

/-- Where the contactor sequences stand (15 R368, R369). -/
inductive ContactorSeq where
  /-- all contactor outputs off -/
  | opened
  /-- a close sequence before K_POS turns on -/
  | closing
  /-- K_POS on, K_PRE still on -/
  | overlap
  /-- K_POS and K_NEG on, the sequence ended -/
  | closed
  /-- a normal open: K_POS and K_PRE off, K_NEG still on -/
  | opening
deriving DecidableEq, Repr

/-- Why the contactors opened (15 R371). -/
inductive OpenWhy where
  /-- by the request of a MODE -/
  | byMode
  /-- for any other reason -/
  | other
deriving DecidableEq, Repr

/-- Power states in their code order (Table 16.8). -/
inductive PowerSt where
  | run | watch | doze | aphelion
deriving DecidableEq, Repr

/-- PHASE of Table 16.8 in its code order. -/
inductive PowerPhase where
  | settled | handshake | committed | returning
deriving DecidableEq, Repr

/-- CONTEXT of Table 16.8 in its code order. -/
inductive PowerCtx where
  | normal | startUp | test | recovery
deriving DecidableEq, Repr

/-- BUS_STATE of Table 19.9 in its code order. -/
inductive BusState where
  | errorActive | errorPassive | busOff | off
deriving DecidableEq, Repr

/-- Classes of packets that wait for a carrier (19 R448, R454). -/
inductive OutClass where
  | reply | notice | stream
deriving DecidableEq, Repr

/-- Arbitration targets (17_ploza_protocol.md R415). -/
inductive Claim where
  | param (id : Nat) | stagedSet | convEnable | convSetpoint | balPlan | opMode | powerState | tableBlock (b : Nat) | firmware
deriving DecidableEq, Repr

/-- A single value in block-floating form. -/
structure Single where
  /-- MANT, mantissa M [04_pan_array.md R87 Table 4.2]. -/
  mant : Int := 0
  /-- EXP, exponent E; the value is M * 2^(E - 23) [04_pan_array.md R87 Table 4.2]. -/
  exp : Int := -128
deriving DecidableEq, Repr

/-- The multiply-accumulate unit's accumulator, which holds A * 2^(Eacc - 46). -/
structure Acc where
  /-- A [04_pan_array.md R89]. -/
  a : Int := 0
  /-- Eacc, the sum of two exponents [04_pan_array.md R89]. -/
  e : Int := 0
  /-- ACC_SAT: a sum has saturated [04_pan_array.md R89]. -/
  sat : Bool := false
deriving DecidableEq, Repr

/-- The command that a later completion answers. -/
structure DeferRef where
  /-- ORIG_OPCODE (0 none) [17_ploza_protocol.md R419]. -/
  opcode : BitVec 8 := 0
  /-- ORIG_SEQ [17_ploza_protocol.md R419]. -/
  seq : BitVec 8 := 0
  /-- ORIG_PORT [17_ploza_protocol.md R419]. -/
  port : Port := .ring
  /-- The command was answered DEFERRED [17_ploza_protocol.md R419]. -/
  deferred : Bool := false
deriving DecidableEq, Repr

/-- An enable latched while its function drains. -/
structure LatchedCmd where
  /-- Its port, TARGET, SEQUENCE and FLAGS [17_ploza_protocol.md R422]. -/
  hdr : Hdr := {}
  /-- Its payload [17_ploza_protocol.md R422]. -/
  payload : List (BitVec 8) := []
deriving DecidableEq, Repr

/-- A MODE answered DEFERRED. -/
structure DeferredMode where
  /-- Mode asked for [00_scope.md R504]. -/
  target : Mode := .service
  /-- Its port and SEQ [00_scope.md R504]. -/
  ref : DeferRef := {}
  /-- Trip cause with which its close sequence ended [15_safety_block.md R371]. -/
  refused : Option Nat := none
  /-- Its close sequence or drain has ended: the next boundary applies it [15_safety_block.md R371]. -/
  done : Bool := false
deriving DecidableEq, Repr

/-- A CUR_CAL measurement. -/
structure CalRun where
  /-- REF_MA [03_current_front_end.md R71]. -/
  ref : Int := 0
  /-- Sum of the frame currents [03_current_front_end.md R71]. -/
  sum : Int := 0
  /-- Frames measured [03_current_front_end.md R71]. -/
  n : Nat := 0
  /-- Port and SEQ of the DIAG CUR_CAL [03_current_front_end.md R71]. -/
  cmd : DeferRef := {}
deriving DecidableEq, Repr

/-- A referee arbitration of a transit mismatch. -/
structure Arb where
  /-- Role slot [04_pan_array.md R100]. -/
  slot : Nat := 0
  /-- Original pan [04_pan_array.md R100]. -/
  orig : Nat := 0
  /-- Shadow spare [04_pan_array.md R100]. -/
  shadow : Nat := 0
  /-- Referee pan (none: no further spare, the shadow runs BIST) [04_pan_array.md R100]. -/
  referee : Option Nat := none
  /-- Arbitration windows run [04_pan_array.md R100]. -/
  windows : Nat := 0
  /-- The boundary of F+1 has passed [04_pan_array.md R100]. -/
  started : Bool := false
  /-- The pan that is to take the role has been loaded [04_pan_array.md R97, R102]. -/
  loaded : Bool := false
  /-- In the present window the original pan agrees with the referee [04_pan_array.md R100]. -/
  eqA : Bool := true
  /-- In the present window the shadow spare agrees with the referee [04_pan_array.md R100]. -/
  eqB : Bool := true
  /-- In the present window the original pan agrees with the shadow spare [04_pan_array.md R100]. -/
  eqAB : Bool := true
deriving DecidableEq, Repr

/-- A request for the NVM write port. -/
structure NvmReq where
  /-- Asked by the lane in charge instead of a pan [04_pan_array.md R108]. -/
  lane : Bool := false
  /-- Job class: 0 M, 1 P, 2 O [04_pan_array.md R108]. -/
  cls : Nat := 0
  /-- Pan number [04_pan_array.md R108]. -/
  pan : Nat := 0
  /-- 64-byte transfers still to make [04_pan_array.md R108]. -/
  left : Nat := 1
deriving DecidableEq, Repr

/-- One job on an admission list. -/
structure Work where
  /-- Role slot [05_frame_budget_scheduler.md R115]. -/
  slot : Nat := 0
  /-- Job [05_frame_budget_scheduler.md R115]. -/
  job : JobKind := .cellScale
  /-- Release window of the instance of a P job; 0 for an M or O job [05_frame_budget_scheduler.md R111, R116]. -/
  rel : Nat := 0
deriving DecidableEq, Repr

/-- One decision of the budget governor. -/
structure GovDecision where
  /-- Admission lists [05_frame_budget_scheduler.md R115]. -/
  admitted : List Work := []
  /-- Pause level [05_frame_budget_scheduler.md R115]. -/
  pause : Nat := 0
  /-- Balance caps of FE1 to FE6 [05_frame_budget_scheduler.md R115]. -/
  feCaps : List Nat := List.replicate 6 0
  /-- Module balance cap [05_frame_budget_scheduler.md R115]. -/
  moduleCap : Nat := 0
  /-- Excitation permitted [05_frame_budget_scheduler.md R115]. -/
  excPermit : Bool := false
  /-- No O work admitted [05_frame_budget_scheduler.md R116]. -/
  oStopped : Bool := false
  /-- P instances with slack withheld [05_frame_budget_scheduler.md R116]. -/
  slackPStopped : Bool := false
  /-- P_est exceeds the cap with mandatory work only [05_frame_budget_scheduler.md R125]. -/
  capUnmet : Bool := false
  /-- P_est [05_frame_budget_scheduler.md R125]. -/
  powerEst : Nat := 0
  /-- Spares that may run a transit check [05_frame_budget_scheduler.md R116, R125]. -/
  transit : List Nat := []
deriving DecidableEq, Repr

/-- A TABLE_WRITE whose NVM write and readback are still to come. -/
structure TblWrite where
  /-- BLOCK [08_chemistry_model_table.md R208]. -/
  block : Nat := 0
  /-- TABLE_TAG [08_chemistry_model_table.md R208]. -/
  tag : BitVec 32 := 0
  /-- The block's entries [08_chemistry_model_table.md R206]. -/
  words : List (BitVec 32) := []
  /-- BLOCK_CRC [08_chemistry_model_table.md R207]. -/
  crc : BitVec 32 := 0
  /-- Failed readbacks [08_chemistry_model_table.md R208]. -/
  tries : Nat := 0
  /-- Port and SEQ of the TABLE_WRITE [08_chemistry_model_table.md R208]. -/
  cmd : DeferRef := {}
deriving DecidableEq, Repr

/-- One front-end frame packet of Table 2.2, as it waits in a port buffer. -/
structure FeSample where
  /-- Frame of the samples [02_cell_taps_and_front_ends.md R40]. -/
  stamp : BitVec 32 := 0
  /-- Raw s24 codes, local channel 1 first [02_cell_taps_and_front_ends.md R40]. -/
  codes : List Int := []
  /-- OV_STATE [02_cell_taps_and_front_ends.md R40]. -/
  ov : BitVec 16 := 0
  /-- UV_STATE [02_cell_taps_and_front_ends.md R40]. -/
  uv : BitVec 16 := 0
  /-- SW_STATE as read back [02_cell_taps_and_front_ends.md R40]. -/
  sw : BitVec 16 := 0
  /-- SW_COND [02_cell_taps_and_front_ends.md R40 Table 2.3]. -/
  swCond : BitVec 8 := 0
  /-- STATUS [02_cell_taps_and_front_ends.md R40 Table 2.4]. -/
  status : BitVec 8 := 0x1F
  /-- SW_CURRENT, four values in 0.1 mA [02_cell_taps_and_front_ends.md R40]. -/
  swCur : List Nat := []
  /-- MOD_FAULT [02_cell_taps_and_front_ends.md R40]. -/
  modFault : BitVec 16 := 0
  /-- Channels with a first-stage code at the lower full-scale limit [02_cell_taps_and_front_ends.md R44]. -/
  clipLo : BitVec 16 := 0
  /-- Channels with a first-stage code at the upper full-scale limit [02_cell_taps_and_front_ends.md R44]. -/
  clipHi : BitVec 16 := 0
  /-- The packet was bad: the channels repeat their value [02_cell_taps_and_front_ends.md R59]. -/
  held : Bool := false
  /-- Fourth or later bad packet: the channels are invalid [02_cell_taps_and_front_ends.md R59]. -/
  bad : Bool := false
deriving DecidableEq, Repr

/-- One processed sample of a cell, kept for the open-wire and lead-resistance evaluations. -/
structure Smp where
  /-- Frame stamp [02_cell_taps_and_front_ends.md R50]. -/
  stamp : BitVec 32 := 0
  /-- Calibrated value V before lead correction [02_cell_taps_and_front_ends.md R43]. -/
  vm : Int := 0
  /-- Lead-corrected value [02_cell_taps_and_front_ends.md R56]. -/
  vc : Int := 0
  /-- HELD [02_cell_taps_and_front_ends.md R50]. -/
  held : Bool := false
  /-- INVALID [02_cell_taps_and_front_ends.md R50]. -/
  invalid : Bool := true
  /-- INVALID because the upper lead is declared open [02_cell_taps_and_front_ends.md R51]. -/
  owU : Bool := false
  /-- INVALID because the lower lead is declared open [02_cell_taps_and_front_ends.md R51]. -/
  owD : Bool := false
  /-- CLIPPED [02_cell_taps_and_front_ends.md R50]. -/
  clipped : Bool := false
  /-- UNCORR [02_cell_taps_and_front_ends.md R57]. -/
  unc : Bool := false
  /-- The switch conducted, as read back [02_cell_taps_and_front_ends.md R54]. -/
  sw : Bool := false
  /-- Switch current in use for this frame [02_cell_taps_and_front_ends.md R54]. -/
  cur : Nat := 0
  /-- SW_CURRENT reported this switch in this frame [02_cell_taps_and_front_ends.md R54]. -/
  curNew : Bool := false
  /-- Eighths of the frame during which the switch conducted [02_cell_taps_and_front_ends.md R56]. -/
  frac8 : Nat := 0
  /-- Supplies drawn from the stack in the frame: bit 0 by the serving front end, bit 1 by this module's CFE, bit 2 by the stack bridge [06_state_estimation.md R138, 07_impedance_spectroscopy.md R185]. -/
  draw : BitVec 3 := 0
deriving DecidableEq, Repr

/-- One CFE sub-sample packet of Table 3.1 received with a good CRC in the present frame. -/
structure CfeSub where
  /-- INDEX [03_current_front_end.md R65]. -/
  idx : Nat := 0
  /-- Raw current code [03_current_front_end.md R65]. -/
  cur : Int := 0
  /-- Raw string-voltage code [03_current_front_end.md R65]. -/
  vstr : Int := 0
  /-- FLAGS [03_current_front_end.md R65]. -/
  flags : BitVec 8 := 0
deriving DecidableEq, Repr

/-- One accepted CFE frame packet. -/
structure CfeFrame where
  /-- Frame of the samples [03_current_front_end.md R65]. -/
  stamp : BitVec 32 := 0
  /-- CUR_MEAN [03_current_front_end.md R65]. -/
  curMean : Int := 0
  /-- VSTR_MEAN [03_current_front_end.md R65]. -/
  vstrMean : Int := 0
  /-- SHUNT_NTC [03_current_front_end.md R65]. -/
  ntcRaw : BitVec 16 := 0
  /-- RAW_SUM [03_current_front_end.md R65]. -/
  rawSum : BitVec 64 := 0
  /-- CUR_MIN [03_current_front_end.md R65]. -/
  curMin : Int := 0
  /-- CUR_MAX [03_current_front_end.md R65]. -/
  curMax : Int := 0
  /-- OC_STATE [03_current_front_end.md Table 3.3]. -/
  ocState : BitVec 8 := 0
  /-- STATUS [03_current_front_end.md Table 3.2]. -/
  status : BitVec 8 := 0
  /-- RESET_COUNT [03_current_front_end.md Table 3.2]. -/
  resetCount : BitVec 8 := 0
deriving DecidableEq, Repr

/-- A CFE frame sample as it waits in its port buffer. -/
structure CfeSamp where
  /-- Frame of the samples [01_one_frame.md R19, 05_frame_budget_scheduler.md R131]. -/
  stamp : BitVec 32 := 0
  /-- The accepted frame packet [03_current_front_end.md R65]. -/
  pkt : CfeFrame := {}
  /-- Sum of the eight sub-sample codes of the frame, when all came [03_current_front_end.md R67, R72]. -/
  subSum : Option Int := none
  /-- The packet was bad: the current is HELD [03_current_front_end.md R73]. -/
  held : Bool := false
  /-- Fourth or later bad packet, or before the second full frame after alignment: invalid [03_current_front_end.md R73]. -/
  bad : Bool := false
deriving DecidableEq, Repr

/-- A gap across a restart of the raw sum whose charge is still to be settled. -/
structure CfeBridge where
  /-- Frame of the first good packet after the gap [03_current_front_end.md R73]. -/
  stamp : BitVec 32 := 0
  /-- Frames from the last good packet to that one [03_current_front_end.md R73]. -/
  frames : Nat := 0
  /-- Last current before the gap [03_current_front_end.md R73]. -/
  before : Int := 0
  /-- First current after it [03_current_front_end.md R73]. -/
  after : Int := 0
deriving DecidableEq, Repr

/-- One current record of Table 3.5. -/
structure CurRec where
  /-- SOURCE bit 7 [03_current_front_end.md R80]. -/
  branch : Nat := 0
  /-- SOURCE bit 6 [03_current_front_end.md R80]. -/
  check : Bool := false
  /-- SOURCE bits 2..0 [03_current_front_end.md R80]. -/
  pos : Nat := 0
  /-- FLAGS [03_current_front_end.md R80]. -/
  flags : BitVec 16 := 0
  /-- FRAME [03_current_front_end.md R80]. -/
  stamp : BitVec 32 := 0
  /-- PLANT_TIME [03_current_front_end.md R80]. -/
  time : BitVec 64 := 0
  /-- CURRENT [03_current_front_end.md R80]. -/
  cur : Int := 0
  /-- FRAME_CHARGE [03_current_front_end.md R80]. -/
  chg : Int := 0
  /-- ACCUMULATOR [03_current_front_end.md R80]. -/
  acc : Int := 0
  /-- VSTRING [03_current_front_end.md R80]. -/
  vstr : Int := 0
deriving DecidableEq, Repr

/-- A pending P instance. -/
structure PInst where
  /-- Role slot [05_frame_budget_scheduler.md R111]. -/
  slot : Nat := 0
  /-- Job [05_frame_budget_scheduler.md R114]. -/
  job : JobKind := .blended
  /-- Release window Wr [05_frame_budget_scheduler.md R111]. -/
  rel : Nat := 0
  /-- Deadline D in windows [05_frame_budget_scheduler.md R111]. -/
  dl : Nat := 1
deriving DecidableEq, Repr

/-- One learning point. -/
structure LearnPt where
  /-- Stamp [06_state_estimation.md R150]. -/
  stamp : BitVec 32 := 0
  /-- Soc just after the point [06_state_estimation.md R150]. -/
  soc : Rat := 0
  /-- Net charge counter CQ [06_state_estimation.md R150]. -/
  cq : Int := 0
  /-- A STALE period, a re-initialisation or a CHARGE_GAP has followed the point [06_state_estimation.md R150]. -/
  broken : Bool := false
deriving DecidableEq, Repr

/-- Estimator state of one cell in the wake and health region. -/
structure SavedEst where
  /-- Soc [06_state_estimation.md R153]. -/
  soc : Rat := 0
  /-- SIGMA [06_state_estimation.md R153]. -/
  sigma : Rat := 0
  /-- Hysteresis state [06_state_estimation.md R153]. -/
  h : Rat := 0
  /-- Learned capacity [06_state_estimation.md R153]. -/
  q : Rat := 0
  /-- Resistance factor [06_state_estimation.md R153]. -/
  kr : Rat := 1
  /-- Last two learning points [06_state_estimation.md R153]. -/
  pts : List LearnPt := []
  /-- Anchor age [06_state_estimation.md R153]. -/
  anchorAge : Nat := 0
  /-- Rest age [06_state_estimation.md R153]. -/
  restAge : Nat := 0
deriving DecidableEq, Repr

/-- One sample of a cell as a step takes it. -/
structure Ivl where
  /-- Stamp [01_one_frame.md R18]. -/
  stamp : BitVec 32 := 0
  /-- Frames since the sample before it [06_state_estimation.md R137]. -/
  frames : Nat := 1
  /-- Corrected value [06_state_estimation.md R139]. -/
  vc : Int := 0
  /-- Neither HELD, INVALID, CLIPPED nor UNCORR [06_state_estimation.md R139]. -/
  usable : Bool := false
  /-- Balance charge of its frames [06_state_estimation.md R138]. -/
  balUc : Rat := 0
  /-- Supply draw of its frames [06_state_estimation.md R138]. -/
  drawUc : Rat := 0
  /-- The balance switch conducted [06_state_estimation.md R144]. -/
  sw : Bool := false
deriving DecidableEq, Repr

/-- One module summary record of Table 6.6. -/
structure Summary where
  /-- SOURCE bit 7 [06_state_estimation.md R170]. -/
  branch : Nat := 0
  /-- SOURCE bits 2..0 [06_state_estimation.md R170]. -/
  pos : Nat := 0
  /-- FLAGS [06_state_estimation.md R170]. -/
  flags : BitVec 16 := 0
  /-- FRAME [06_state_estimation.md R170]. -/
  stamp : BitVec 32 := 0
  /-- SOC_MIN [06_state_estimation.md R170]. -/
  socMin : Nat := 0xFFFF
  /-- MIN_CELL [06_state_estimation.md R170]. -/
  minCell : Nat := 0
  /-- CELLS [06_state_estimation.md R170]. -/
  cells : Nat := 0
  /-- SIGMA_MIN [06_state_estimation.md R170]. -/
  sigmaMin : Nat := 0xFFFF
  /-- Q_AVAIL [06_state_estimation.md R170]. -/
  qAvail : Nat := 0
  /-- Q_AVAIL_STR [06_state_estimation.md R170]. -/
  qAvailStr : Nat := 0xFFFF
  /-- E_REM [06_state_estimation.md R170]. -/
  eRem : Nat := 0
  /-- E_OWN [06_state_estimation.md R170]. -/
  eOwn : Nat := 0
  /-- E_FULL [06_state_estimation.md R170]. -/
  eFull : Nat := 0
  /-- I_CHG [06_state_estimation.md R170]. -/
  iChg : List Nat := [0, 0, 0]
  /-- I_DIS [06_state_estimation.md R170]. -/
  iDis : List Nat := [0, 0, 0]
  /-- V_OPEN [06_state_estimation.md R170]. -/
  vOpen : List Nat := [0, 0, 0]
  /-- R_SUM [06_state_estimation.md R170]. -/
  rSum : List Nat := [0, 0, 0]
deriving DecidableEq, Repr

/-- One tone of a sweep descriptor. -/
structure Tone where
  /-- INDEX m_k [07_impedance_spectroscopy.md R174]. -/
  m : Nat := 0
  /-- AMP [07_impedance_spectroscopy.md R174]. -/
  amp : Nat := 0
deriving DecidableEq, Repr

/-- A sweep descriptor with its assignment. -/
structure Sweep where
  /-- MODE: 1 ACTIVE, 2 PASSIVE [07_impedance_spectroscopy.md R174]. -/
  modeByte : Nat := 1
  /-- BLOCK_FRAMES [07_impedance_spectroscopy.md R174]. -/
  lb : Nat := 1000
  /-- BLOCKS [07_impedance_spectroscopy.md R174]. -/
  nb : Nat := 0
  /-- SETTLE [07_impedance_spectroscopy.md R174]. -/
  settle : Nat := 0
  /-- Tones, ascending [07_impedance_spectroscopy.md R174]. -/
  tones : List Tone := []
  /-- SWEEP_ID; 0: thermometry watch [07_impedance_spectroscopy.md R175]. -/
  id : Nat := 0
  /-- Start frame S0 [07_impedance_spectroscopy.md R178]. -/
  s0 : BitVec 32 := 0
deriving DecidableEq, Repr

/-- One complex value. -/
structure Phasor where
  /-- Real part [07_impedance_spectroscopy.md R172]. -/
  re : Rat := 0
  /-- Imaginary part [07_impedance_spectroscopy.md R172]. -/
  im : Rat := 0
deriving DecidableEq, Repr

/-- Spectral sums of one cell and one tone. -/
structure SpecAcc where
  /-- Accumulator of the real part since the last write-back [07_impedance_spectroscopy.md R184, 04_pan_array.md R89]. -/
  accRe : Acc := {}
  /-- Accumulator of the imaginary part since the last write-back [07_impedance_spectroscopy.md R184, 04_pan_array.md R89]. -/
  accIm : Acc := {}
  /-- Real part of the block in progress as written back [07_impedance_spectroscopy.md R184, 04_pan_array.md R90]. -/
  sumRe : Single := {}
  /-- Imaginary part of the block in progress as written back [07_impedance_spectroscopy.md R184, 04_pan_array.md R90]. -/
  sumIm : Single := {}
  /-- Sum over kept blocks of v_b * conj i_b [07_impedance_spectroscopy.md R187]. -/
  svi : Phasor := {}
  /-- Sum over kept blocks of |i_b|^2 [07_impedance_spectroscopy.md R187]. -/
  sii : Rat := 0
  /-- Sum over kept blocks of |v_b|^2 [07_impedance_spectroscopy.md R187]. -/
  svv : Rat := 0
deriving DecidableEq, Repr

/-- One completed block that waits for its verdict. -/
structure DoneBlk where
  /-- Block index [07_impedance_spectroscopy.md R186]. -/
  block : Nat := 0
  /-- Phasors X_bk [07_impedance_spectroscopy.md R184]. -/
  x : List Phasor := []
  /-- Discarded for sample or current flags or a supply change [07_impedance_spectroscopy.md R185]. -/
  samp : Bool := false
  /-- Discarded for a switch change [07_impedance_spectroscopy.md R185]. -/
  bal : Bool := false
deriving DecidableEq, Repr

/-- Spectral state of one cell. -/
structure CellSpec where
  /-- One per tone [07_impedance_spectroscopy.md R184]. -/
  acc : List SpecAcc := []
  /-- Blocks kept [07_impedance_spectroscopy.md R187]. -/
  kept : Nat := 0
  /-- Mean of the previous block, or the first sample in the first block [07_impedance_spectroscopy.md R184]. -/
  mean : Option Rat := none
  /-- Sum of the block in progress [07_impedance_spectroscopy.md R184]. -/
  sum : Rat := 0
  /-- Newest stamp seen; none: none yet [07_impedance_spectroscopy.md R184]. -/
  last : Option (BitVec 32) := none
  /-- A block is in progress [07_impedance_spectroscopy.md R184]. -/
  running : Bool := false
  /-- The block in progress is discarded for sample or current flags or a supply change [07_impedance_spectroscopy.md R185]. -/
  bSamp : Bool := false
  /-- The block in progress is discarded for a switch change [07_impedance_spectroscopy.md R185]. -/
  bBal : Bool := false
  /-- SAMPLE_DISCARD [07_impedance_spectroscopy.md R185]. -/
  sampDis : Bool := false
  /-- BAL_DISCARD [07_impedance_spectroscopy.md R185]. -/
  balDis : Bool := false
  /-- Switch states of the cell and its neighbours at the previous stamp [07_impedance_spectroscopy.md R185]. -/
  lastSw : BitVec 3 := 0
  /-- Supply sources at the previous stamp [07_impedance_spectroscopy.md R185]. -/
  lastDraw : BitVec 3 := 0
  /-- Completed blocks not yet taken by P37, oldest first [07_impedance_spectroscopy.md R186]. -/
  dones : List DoneBlk := []
deriving DecidableEq, Repr

/-- One cell impedance record of Table 7.9 (value none: invalid). -/
structure ZRec where
  /-- Accepted impedance [07_impedance_spectroscopy.md R189]. -/
  z : Option Phasor := none
  /-- SIGMA [07_impedance_spectroscopy.md R189]. -/
  sigma : Nat := 0
  /-- Coherence [07_impedance_spectroscopy.md R189]. -/
  coh : Option Rat := none
  /-- NBLK [07_impedance_spectroscopy.md R189]. -/
  nblk : Nat := 0
  /-- FLAGS [07_impedance_spectroscopy.md R189 Table 7.10]. -/
  flags : BitVec 16 := 0x8000
deriving DecidableEq, Repr

/-- One tone entry of Table 7.8. -/
structure ToneRec where
  /-- FREQ [07_impedance_spectroscopy.md R189]. -/
  freqMhz : Nat := 0
  /-- I_RE [07_impedance_spectroscopy.md R189]. -/
  iRe : Int := 0
  /-- I_IM [07_impedance_spectroscopy.md R189]. -/
  iIm : Int := 0
  /-- I_SIGMA [07_impedance_spectroscopy.md R189]. -/
  iSigma : Nat := 0
  /-- BLOCKS_KEPT [07_impedance_spectroscopy.md R189]. -/
  kept : Nat := 0
deriving DecidableEq, Repr

/-- The result set of the last ended sweep. -/
structure ResultSet where
  /-- Descriptor [07_impedance_spectroscopy.md R189]. -/
  sweep : Sweep := {}
  /-- END_CAUSE [07_impedance_spectroscopy.md R189]. -/
  endCause : Nat := 0
  /-- LAST_STAMP [07_impedance_spectroscopy.md R189]. -/
  lastStamp : BitVec 32 := 0
  /-- BLOCKS [07_impedance_spectroscopy.md R189]. -/
  blocks : Nat := 0
  /-- ENERGY [07_impedance_spectroscopy.md R189]. -/
  energyMj : Nat := 0
  /-- Tone entries [07_impedance_spectroscopy.md R189]. -/
  tones : List ToneRec := []
  /-- Cell records in tone order [07_impedance_spectroscopy.md R189]. -/
  cells : List (List ZRec) := []
deriving DecidableEq, Repr

/-- One re-reference as the wake and health records keep it. -/
structure Reref where
  /-- Frame [07_impedance_spectroscopy.md R198]. -/
  frame : BitVec 32 := 0
  /-- Plant time [07_impedance_spectroscopy.md R198]. -/
  time : BitVec 64 := 0
  /-- New normalised reference [07_impedance_spectroscopy.md R198]. -/
  rRef : Rat := 0
  /-- New reference temperature [07_impedance_spectroscopy.md R198]. -/
  tRef : Rat := 0
deriving DecidableEq, Repr

/-- One physical bank of the table region, with its index area. -/
structure TableBank where
  /-- TABLE_TAG [08_chemistry_model_table.md R207]. -/
  tag : BitVec 32 := 0
  /-- Stored blocks, as single-value block words [08_chemistry_model_table.md R206]. -/
  blocks : List (Option (List (BitVec 32))) := []
  /-- BLOCK_CRC values [08_chemistry_model_table.md R207]. -/
  crcs : List (BitVec 32) := []
deriving DecidableEq, Repr

/-- The slice of one cell. -/
structure Slice where
  /-- Slice temperature [08_chemistry_model_table.md R204]. -/
  temp : Int := 2500
  /-- Tag of the table it was built from [08_chemistry_model_table.md R204]. -/
  tag : BitVec 32 := 0
  /-- Its SoC breakpoints [08_chemistry_model_table.md R201, R204]. -/
  bp : List Int := []
  /-- OCV_CHG, OCV_DIS, RSER, RF, CF, RSL and CSL at the breakpoints (none: no slice) [08_chemistry_model_table.md R204]. -/
  vals : List Single := []
deriving DecidableEq, Repr

/-- Balancing state of one cell. -/
structure BalCell where
  /-- Requested duty of the plan in force [09_balancing.md R218]. -/
  dReq : Nat := 0
  /-- Frames granted in the current slot [09_balancing.md R233 GRANT]. -/
  grant : Nat := 0
  /-- Frames conducted in the last completed slot [09_balancing.md R233 ACHIEVED]. -/
  achieved : Nat := 0
  /-- Frames conducted so far in the current slot [09_balancing.md R233 CONDUCTED]. -/
  conducted : Nat := 0
  /-- ALTERNATED [09_balancing.md R233]. -/
  alternated : Bool := false
  /-- PULSE [09_balancing.md R233]. -/
  pulse : Bool := false
  /-- ILIM [09_balancing.md R233]. -/
  ilim : Bool := false
  /-- Slots for which ILIM still excludes the cell [09_balancing.md R217]. -/
  ilimSlots : Nat := 0
  /-- ILIM was set in the slot before [09_balancing.md R217]. -/
  ilimWas : Bool := false
  /-- FROZEN [09_balancing.md R233]. -/
  frozen : Bool := false
  /-- HOLD [09_balancing.md R233]. -/
  hold : Bool := false
  /-- EXCL, reset 0b111 (Table 9.3) [09_balancing.md R233 EXCL]. -/
  excl : Nat := 7
  /-- Frames granted for the next slot [09_balancing.md R227]. -/
  planned : Nat := 0
  /-- Duty requested in the next slot, of an eligible cell or not [09_balancing.md R225]. -/
  plannedReq : Nat := 0
  /-- Restricted in the next slot [09_balancing.md R225]. -/
  plannedAlt : Bool := false
  /-- AUTO candidate [09_balancing.md R223]. -/
  candidate : Bool := false
  /-- Frames conducted over the plan's slots [09_balancing.md R219]. -/
  delivered : Nat := 0
deriving DecidableEq, Repr

/-- One balancing plan. -/
structure BalPlan where
  /-- SOURCE: 1 HOST, 2 AUTO [09_balancing.md R218]. -/
  source : Nat := 1
  /-- DURATION; 0: until BAL_STOP [09_balancing.md R218]. -/
  duration : Nat := 0
  /-- DUTY [09_balancing.md R218]. -/
  duty : List Nat := []
  /-- Port and SEQ of the BAL_PLAN [09_balancing.md R219]. -/
  cmd : Option DeferRef := none
deriving DecidableEq, Repr

/-- A replaced plan whose COMPLETION is still to come. -/
structure BalEnd where
  /-- Its slots [09_balancing.md R220]. -/
  slots : Nat := 0
  /-- Frames conducted over its slots [09_balancing.md R220]. -/
  delivered : List Nat := []
  /-- Port and SEQ of the BAL_PLAN that replaced it [17_ploza_protocol.md R419]. -/
  cmd : Option DeferRef := none
deriving DecidableEq, Repr

/-- The protection set. -/
structure ThrSet where
  /-- CELL_OV_MV [10_hardware_protection.md R245]. -/
  ov : Nat := 4250
  /-- CELL_UV_MV [10_hardware_protection.md R245]. -/
  uv : Nat := 2700
  /-- PROT_HYST_MV [10_hardware_protection.md R245]. -/
  hyst : Nat := 50
  /-- FAULT_RELEASE: 0 LATCH, 1 AUTO [10_hardware_protection.md R245]. -/
  release : Nat := 0
  /-- FAULT_RELEASE_MS [10_hardware_protection.md R245]. -/
  releaseMs : Nat := 100
  /-- OC_CHG_MV [03_current_front_end.md R76]. -/
  ocChg : Nat := 220
  /-- OC_DIS_MV [03_current_front_end.md R76]. -/
  ocDis : Nat := 220
deriving DecidableEq, Repr

/-- One entry of the capture FIFO. -/
structure CapEntry where
  /-- 1 ASSERT, 2 RELEASE, 3 EVENT [10_hardware_protection.md R247]. -/
  kind : Nat := 1
  /-- CAUSE [10_hardware_protection.md R247]. -/
  cause : Nat := 1
  /-- DIE [10_hardware_protection.md R247]. -/
  die : Nat := 0
  /-- Frame of the capture [10_hardware_protection.md R247]. -/
  frame : BitVec 32 := 0
  /-- Plant time of the capture [10_hardware_protection.md R247]. -/
  time : BitVec 64 := 0
  /-- Cause register after the event [10_hardware_protection.md R247]. -/
  causeReg : BitVec 32 := 0
  /-- CELL, named by the die's packet of the frame of capture or of the next [10_hardware_protection.md R247]. -/
  cell : Nat := 0
deriving DecidableEq, Repr

/-- One protection event record (128 bytes) of the ring. -/
structure ProtRec where
  /-- SEQ [10_hardware_protection.md R247]. -/
  seq : Nat := 0
  /-- The record [10_hardware_protection.md R247 Table 10.5]. -/
  bytes : List (BitVec 8) := []
deriving DecidableEq, Repr

/-- One converter fault record (120 bytes). -/
structure ConvRec where
  /-- SEQ [11_string_converter.md R274]. -/
  seq : Nat := 0
  /-- ACTION [11_string_converter.md R274]. -/
  action : Nat := 0
  /-- The record [11_string_converter.md R274 Table 11.7]. -/
  bytes : List (BitVec 8) := []
deriving DecidableEq, Repr

/-- One capture waiting in the fault FIFO: the values taken at the trigger instant. -/
structure ConvCap where
  /-- CAUSE [11_string_converter.md R274]. -/
  cause : Nat := 0
  /-- ACTION [11_string_converter.md R274]. -/
  action : Nat := 0
  /-- PHASE [11_string_converter.md R274]. -/
  phase : Nat := 0
  /-- It first stopped the converter after it last left OFF [11_string_converter.md R274]. -/
  first : Bool := false
  /-- Bytes 0 to 115 of the record with SEQ still 0 [11_string_converter.md R274]. -/
  body : List (BitVec 8) := []
deriving DecidableEq, Repr

/-- The output sets the anchored pans have written for the next output instant. -/
structure OutSet where
  /-- P34 wrote a complete set [12_control_engine.md R278]. -/
  law : Bool := false
  /-- P35 wrote a complete set [12_control_engine.md R278]. -/
  plaus : Bool := false
  /-- P36 wrote a complete set [12_control_engine.md R278]. -/
  phase : Bool := false
  /-- I_PK of P34's set [12_control_engine.md R288]. -/
  iPk : Rat := 0
  /-- Phase that P36's set sheds [11_string_converter.md R260]. -/
  shed : Option Nat := none
  /-- Phases that P36's set adds [11_string_converter.md R260, R261]. -/
  adds : List Nat := []
  /-- P36's set carries STEP [11_string_converter.md R262]. -/
  step : Bool := false
deriving DecidableEq, Repr

/-- One harvest slot of Table 13.3 as delivered. -/
structure Slot where
  /-- Position field of SOURCE [13_ceyth_ring.md R306]. -/
  pos : Nat := 0
  /-- Branch [13_ceyth_ring.md R306]. -/
  branch : Nat := 0
  /-- Series position [13_ceyth_ring.md R306]. -/
  series : Nat := 0
  /-- CELLS [13_ceyth_ring.md R306]. -/
  cells : Nat := 0
  /-- FRAME [13_ceyth_ring.md R306]. -/
  stamp : BitVec 32 := 0
  /-- VOLTS [13_ceyth_ring.md R306]. -/
  volts : List (BitVec 24) := []
  /-- CURRENT (none: -2^31) [13_ceyth_ring.md R306]. -/
  current : Int := 0
  /-- HELD [13_ceyth_ring.md R306]. -/
  held : List Bool := []
  /-- CAUSE_REG [13_ceyth_ring.md R306]. -/
  causeReg : BitVec 32 := 0
  /-- STATE [13_ceyth_ring.md R306 Table 13.4]. -/
  state : BitVec 32 := 0
  /-- UP_HDR [13_ceyth_ring.md R306]. -/
  upHdr : BitVec 32 := 0
  /-- UP_DATA [13_ceyth_ring.md R306]. -/
  upData : List (BitVec 8) := []
deriving DecidableEq, Repr

/-- A ring mailbox message under reassembly. -/
structure Reasm where
  /-- KIND [13_ceyth_ring.md R312]. -/
  kind : Nat := 0
  /-- MSG [13_ceyth_ring.md R312]. -/
  msg : Nat := 0
  /-- Next segment index [13_ceyth_ring.md R312]. -/
  next : Nat := 0
  /-- Bytes so far [13_ceyth_ring.md R312]. -/
  data : List (BitVec 8) := []
  /-- No segment missing [13_ceyth_ring.md R312]. -/
  ok : Bool := true
deriving DecidableEq, Repr

/-- A message queued for a mailbox. -/
structure RingMsg where
  /-- KIND [13_ceyth_ring.md R312]. -/
  kind : Nat := 1
  /-- 0 reply, 1 EIS block status, 2 summary, 3 NOTIFY [13_ceyth_ring.md R314]. -/
  prio : Nat := 0
  /-- Job class of the pan that made the record: 0 M, 1 P, 2 O [04_pan_array.md R108]. -/
  cls : Nat := 0
  /-- Pan that made the record [04_pan_array.md R108]. -/
  pan : Nat := 0
  /-- Bytes [13_ceyth_ring.md R312]. -/
  data : List (BitVec 8) := []
  /-- Segments already sent [13_ceyth_ring.md R314]. -/
  sent : Nat := 0
deriving DecidableEq, Repr

/-- A forwarded packet whose reply is to leave on the port it came from. -/
structure FwdRef where
  /-- Target position [13_ceyth_ring.md R313]. -/
  target : Nat := 0
  /-- Port of arrival [13_ceyth_ring.md R313]. -/
  port : Port := .canA
  /-- SEQUENCE [13_ceyth_ring.md R313]. -/
  seq : Nat := 0
  /-- OPCODE [13_ceyth_ring.md R313]. -/
  opcode : Nat := 0
  /-- Replies still to come: one, or one from every other module for target 0xFE [13_ceyth_ring.md R313]. -/
  left : Nat := 1
deriving DecidableEq, Repr

/-- One absorbed-event record (Table 14.7). -/
structure AbsEvt where
  /-- SOURCE [14_lanes_and_failover.md R352]. -/
  source : Nat := 0
  /-- UNIT [14_lanes_and_failover.md R352]. -/
  unit : Nat := 0xFF
  /-- CODE [14_lanes_and_failover.md R352]. -/
  code : Nat := 0
  /-- SEQ [14_lanes_and_failover.md R352]. -/
  seq : Nat := 0
  /-- FRAME [14_lanes_and_failover.md R352]. -/
  frame : BitVec 32 := 0
  /-- PLANT_TIME [14_lanes_and_failover.md R352]. -/
  time : BitVec 64 := 0
  /-- CELL [14_lanes_and_failover.md R352]. -/
  cell : Nat := 0
  /-- LANE [14_lanes_and_failover.md R352]. -/
  lane : Nat := 0
  /-- DETAIL [14_lanes_and_failover.md R352]. -/
  detail : List (BitVec 8) := []
deriving DecidableEq, Repr

/-- One accepted packet in the inboxes of both lanes. -/
structure InboxPkt where
  /-- Port of arrival [14_lanes_and_failover.md R331]. -/
  port : Port := .canA
  /-- The packet [14_lanes_and_failover.md R331]. -/
  bytes : List (BitVec 8) := []
  /-- Boundary it belongs to [14_lanes_and_failover.md R331, 01_one_frame.md R27]. -/
  frame : BitVec 32 := 0
  /-- Frame in which it arrived [14_lanes_and_failover.md R331]. -/
  arrival : BitVec 32 := 0
deriving DecidableEq, Repr

/-- One value of the staged set. -/
structure StagedVal where
  /-- Parameter ID [17_ploza_protocol.md R416]. -/
  id : Nat := 0
  /-- Staged value, one number per element [17_ploza_protocol.md R416]. -/
  val : List Int := []
  /-- Port whose PARAM_SET staged it [17_ploza_protocol.md R416, 20_security_and_journal.md R461 STAGED_BY]. -/
  cmd : Port := .ring
deriving DecidableEq, Repr

/-- A configured stream. -/
structure Stream where
  /-- PORT [18_parameter_map.md R437]. -/
  port : Port := .spi
  /-- SECTION [18_parameter_map.md R437]. -/
  sect : Nat := 0
  /-- DIVIDER in frames; 0: stopped [18_parameter_map.md R437]. -/
  divider : Nat := 0
  /-- Records sent, modulo 256 [18_parameter_map.md R437]. -/
  seq : Nat := 0
  /-- Frames whose boundary was skipped or replayed since its last record [18_parameter_map.md R437]. -/
  skipped : Nat := 0
deriving DecidableEq, Repr

/-- A command answered DEFERRED that waits for its COMPLETION. -/
structure Deferred where
  /-- Opcode [17_ploza_protocol.md R419]. -/
  opcode : BitVec 8 := 0
  /-- SEQUENCE [17_ploza_protocol.md R419]. -/
  seq : BitVec 8 := 0
  /-- Port [17_ploza_protocol.md R419]. -/
  port : Port := .ring
deriving DecidableEq, Repr

/-- One entry of a port's history of executed packets. -/
structure HistEntry where
  /-- SEQUENCE [17_ploza_protocol.md R424]. -/
  seq : BitVec 8 := 0
  /-- OPCODE [17_ploza_protocol.md R424]. -/
  opcode : BitVec 8 := 0
  /-- TARGET [17_ploza_protocol.md R424]. -/
  target : BitVec 8 := 0
  /-- CRC-32C of the packet with FLAGS taken as 0x00 [17_ploza_protocol.md R424]. -/
  crc : BitVec 32 := 0
  /-- Reply sent [17_ploza_protocol.md R424]. -/
  reply : List (BitVec 8) := []
  /-- Frame count at which it executed, set back by the frames that pass in DOZE [17_ploza_protocol.md R424]. -/
  frame : Int := 0
deriving DecidableEq, Repr

/-- The mirror message of one boundary: what the steps of R26 change. -/
structure MirrorMsg where
  /-- MIRROR_SEQ, the boundary's frame [14_lanes_and_failover.md R334]. -/
  seq : BitVec 32 := 0
  /-- Mode after the boundary [14_lanes_and_failover.md R334, 01_one_frame.md R30]. -/
  mode : Mode := .service
  /-- MODE that waits for its close sequence or drain [14_lanes_and_failover.md R334, 01_one_frame.md R30]. -/
  deferredMode : Option DeferredMode := none
  /-- Converter state [14_lanes_and_failover.md R334, 01_one_frame.md R30]. -/
  conv : FnState := .off
  /-- Balancing state [14_lanes_and_failover.md R334, 01_one_frame.md R30]. -/
  bal : FnState := .off
  /-- Spectroscopy state [14_lanes_and_failover.md R334, 01_one_frame.md R30]. -/
  eis : FnState := .off
  /-- Contactor request driven [14_lanes_and_failover.md R334, 01_one_frame.md R30]. -/
  closeReq : Bool := false
  /-- Setpoint target driven [14_lanes_and_failover.md R334, 01_one_frame.md R30]. -/
  target : Int := 0
  /-- Active parameter values [14_lanes_and_failover.md R334, 01_one_frame.md R30]. -/
  params : List (Nat × List Int) := []
  /-- Staged set [14_lanes_and_failover.md R334, 01_one_frame.md R30]. -/
  staged : List StagedVal := []
  /-- Streams [14_lanes_and_failover.md R334, 01_one_frame.md R30]. -/
  streams : List (Option Stream) := [none, none, none, none]
  /-- Commands answered DEFERRED [14_lanes_and_failover.md R334, 01_one_frame.md R30]. -/
  waiting : List Deferred := []
  /-- Histories of the ports, which hold the executed packets with their replies [14_lanes_and_failover.md R334, 01_one_frame.md R30]. -/
  executed : List (List HistEntry) := []
  /-- Next record INDEX of the journal [14_lanes_and_failover.md R334, 01_one_frame.md R30]. -/
  journal : Nat := 0
deriving DecidableEq, Repr

/-- The safety set. -/
structure SafetySet where
  /-- SAFE_USED [15_safety_block.md R377]. -/
  used : Bool := true
  /-- SAFE_RESTART = AUTO [15_safety_block.md R377]. -/
  auto : Bool := false
  /-- SAFE_DOOR_USED [15_safety_block.md R377]. -/
  doorUsed : Bool := true
  /-- SAFE_DISC_MS [15_safety_block.md R377]. -/
  discMs : Nat := 50
  /-- SAFE_K_DELAY_MS [15_safety_block.md R377]. -/
  kDelayMs : Nat := 5
  /-- SAFE_PRE_MIN_MS [15_safety_block.md R377]. -/
  preMinMs : Nat := 100
  /-- SAFE_PRE_MAX_MS [15_safety_block.md R377]. -/
  preMaxMs : Nat := 2000
  /-- SAFE_PRE_END_MA [15_safety_block.md R377]. -/
  preEndMa : Nat := 100
  /-- SAFE_PRE_OVERLAP_MS [15_safety_block.md R377]. -/
  preOverlapMs : Nat := 50
  /-- SAFE_INRUSH_A [15_safety_block.md R377]. -/
  inrushA : Nat := 300
  /-- SAFE_OPEN_GAP_MS [15_safety_block.md R377]. -/
  openGapMs : Nat := 20
deriving DecidableEq, Repr

/-- One safety input. -/
structure SafeIn where
  /-- The channel reads closed (high) [15_safety_block.md R361]. -/
  closed : Bool := false
  /-- Consecutive low samples outside the evaluation window [15_safety_block.md R361]. -/
  lowRun : Nat := 0
  /-- STUCK_INPUT [15_safety_block.md R360]. -/
  stuck : Bool := false
  /-- CROSS_SHORT [15_safety_block.md R360]. -/
  cross : Bool := false
  /-- Consecutive own drops through which it stayed high [15_safety_block.md R360]. -/
  stuckRun : Nat := 0
  /-- Consecutive drops of the other output it followed [15_safety_block.md R360]. -/
  crossRun : Nat := 0
  /-- Consecutive own drops it followed without following the other [15_safety_block.md R360]. -/
  goodRun : Nat := 0
deriving DecidableEq, Repr

/-- One channel pair. -/
structure SafePair where
  /-- Time the channels have differed [15_safety_block.md R361]. -/
  discUs : Nat := 0
  /-- A discrepancy is unresolved [15_safety_block.md R361]. -/
  unresolved : Bool := false
  /-- Both channels have read open since the discrepancy [15_safety_block.md R361]. -/
  bothOpen : Bool := false
  /-- Time since the first channel closed again [15_safety_block.md R361]. -/
  reclose : Nat := 0
deriving DecidableEq, Repr

/-- The last-wake record of Table 16.6. -/
structure WakeRec where
  /-- SOURCE [16_power_states.md R398]. -/
  source : Nat := 0
  /-- FROM [16_power_states.md R398]. -/
  fromSrc : BitVec 8 := 0
  /-- STAGE [16_power_states.md R398]. -/
  stage : Nat := 0
  /-- CELL [16_power_states.md R398]. -/
  cell : Nat := 0
  /-- FRAME [16_power_states.md R398]. -/
  frame : BitVec 32 := 0
  /-- PLANT_TIME [16_power_states.md R398]. -/
  time : BitVec 64 := 0
  /-- RETURN_US [16_power_states.md R398]. -/
  returnUs : Nat := 0
  /-- DWELL_S [16_power_states.md R398]. -/
  dwellS : Nat := 0
  /-- COUNTS [16_power_states.md R398]. -/
  counts : List Nat := List.replicate 10 0
deriving DecidableEq, Repr

/-- A power-state request. -/
structure PowerReq where
  /-- Target [16_power_states.md R389]. -/
  target : PowerSt := .run
  /-- Port and SEQ [16_power_states.md R389]. -/
  ref : Option DeferRef := none
  /-- TEST context [16_power_states.md R392]. -/
  test : Bool := false
  /-- It was a string broadcast [16_power_states.md R390]. -/
  broadcast : Bool := false
deriving DecidableEq, Repr

/-- An ended power-state command whose COMPLETION is still to come. -/
structure PowerOut where
  /-- Port and SEQ [16_power_states.md R389]. -/
  ref : DeferRef := {}
  /-- FINAL: 0x00 OK, 0x04 SUPERSEDED, 0x20 REFUSED [16_power_states.md R389]. -/
  final : Nat := 0
  /-- Reason of Table 16.3 [16_power_states.md R390]. -/
  reason : Nat := 0
  /-- State reached [17_ploza_protocol.md R419 END_CAUSE]. -/
  reached : PowerSt := .run
  /-- Block that refused [16_power_states.md R391]. -/
  block : Option Nat := none
deriving DecidableEq, Repr

/-- A NOTIFY raised and not yet sent. -/
structure Notice where
  /-- SUBTYPE [17_ploza_protocol.md R420]. -/
  sub : Nat := 0
  /-- FRAME [17_ploza_protocol.md R420]. -/
  frame : BitVec 32 := 0
  /-- PLANT_TIME [17_ploza_protocol.md R420]. -/
  time : BitVec 64 := 0
  /-- DATA [17_ploza_protocol.md R420]. -/
  data : List (BitVec 8) := []
  /-- SOURCE, ring position that notifies [17_ploza_protocol.md R406]. -/
  source : Nat := 0
deriving DecidableEq, Repr

/-- One configuration image. -/
structure CfgImage where
  /-- Committed values that differ from their defaults, by rising ID [18_parameter_map.md R433]. -/
  vals : List (Nat × List Int) := []
  /-- Its CRC-32C is good [18_parameter_map.md R433]. -/
  good : Bool := true
  /-- CONFIG_SEQ of the image [18_parameter_map.md R433]. -/
  seq : Nat := 0
  /-- ACTIVE_BANK recorded in the image [08_chemistry_model_table.md R207]. -/
  bank : Nat := 0
deriving DecidableEq, Repr

/-- One CAN frame. -/
structure CanFrame where
  /-- Identifier [19_can_fd_and_spi.md R443]. -/
  id : BitVec 29 := 0
  /-- Data field with its padding [19_can_fd_and_spi.md R439]. -/
  data : List (BitVec 8) := []
  /-- Plant time of its end of frame [19_can_fd_and_spi.md R447]. -/
  time : BitVec 64 := 0
deriving DecidableEq, Repr

/-- A packet under reassembly on a CAN port. -/
structure CanReasm where
  /-- Identifier bits 28..8 without FORM [19_can_fd_and_spi.md R447]. -/
  key : BitVec 21 := 0
  /-- Next segment index [17_ploza_protocol.md R409]. -/
  next : Nat := 1
  /-- Bytes so far [17_ploza_protocol.md R409]. -/
  data : List (BitVec 8) := []
  /-- Plant time of the last segment [17_ploza_protocol.md R409]. -/
  lastAt : BitVec 64 := 0
deriving DecidableEq, Repr

/-- A packet waiting for its carrier. -/
structure OutPkt where
  /-- Reply, notice or stream record [19_can_fd_and_spi.md R448, R454]. -/
  cls : OutClass := .reply
  /-- CAN PRIORITY [19_can_fd_and_spi.md R445]. -/
  prio : Nat := 0
  /-- The packet [19_can_fd_and_spi.md R448]. -/
  bytes : List (BitVec 8) := []
deriving DecidableEq, Repr

/-- One journal entry slot. -/
structure JEntry where
  /-- INDEX [20_security_and_journal.md R459]. -/
  index : Nat := 0
  /-- The stored bytes [20_security_and_journal.md R459]. -/
  bytes : List (BitVec 8) := []
deriving DecidableEq, Repr

/-- One boot slot of the program flash. -/
structure FwSlot where
  /-- FW_VERSION of the image in the slot [20_security_and_journal.md R467]. -/
  version : BitVec 32 := 0
  /-- FW_HASH, SHA-256 of the plaintext in the slot [20_security_and_journal.md R468]. -/
  hash : List (BitVec 8) := []
  /-- SEC_VERSION [20_security_and_journal.md R468]. -/
  secVersion : Nat := 0
deriving DecidableEq, Repr

/-- A tamper detection that waits in the always-on domain for a lane. -/
structure TamperRec where
  /-- SOURCE [20_security_and_journal.md R471]. -/
  source : Nat := 1
  /-- ACTION [20_security_and_journal.md R471]. -/
  action : Nat := 0
  /-- Count after the detection [20_security_and_journal.md R471]. -/
  count : Nat := 0
  /-- VALUE [20_security_and_journal.md R471]. -/
  value : Int := 0
  /-- Frame of the detection [20_security_and_journal.md R471]. -/
  frame : BitVec 32 := 0
  /-- Plant time [20_security_and_journal.md R471]. -/
  time : BitVec 64 := 0
deriving DecidableEq, Repr

/-- The frame grid, the sample clock, the boundary and the operating mode. -/
structure Grid where
  /-- Frame counter [01_one_frame.md R17]. -/
  frame : BitVec 32 := 0
  /-- Plant time of the strobe of the present frame, in ns [00_scope.md R7, 01_one_frame.md R18]. -/
  plantNs : BitVec 64 := 0
  /-- Control sub-period s whose control sample was taken last [01_one_frame.md R20]. DESIGN CHOICE (log 1). -/
  sub : Nat := 0
  /-- The cut-off of this frame for the back-channel messages has passed [05_frame_budget_scheduler.md R132]. DESIGN CHOICE (log 1). -/
  cutDone : Bool := false
  /-- Frames counted from the first valid frame, the base of every cadence [01_one_frame.md R31]. -/
  validFrames : Nat := 0
  /-- A first valid frame has been reached since start-up [01_one_frame.md R31, 20_security_and_journal.md R468]. DESIGN CHOICE (log 1). -/
  firstValid : Bool := false
  /-- Operating mode in force [00_scope.md R11]. -/
  mode : Mode := .service
  /-- The deferred MODE with its target, port and SEQ [00_scope.md R504]. DESIGN CHOICE (log 1). -/
  deferredMode : Option DeferredMode := none
  /-- Parameters that the waiting COMMIT applies [17_ploza_protocol.md R417, 01_one_frame.md R26]. DESIGN CHOICE (log 1). -/
  commitIds : List Nat := []
deriving DecidableEq, Repr

/-- One front end FE1 to FE6 and its port. -/
structure Fe where
  /-- Port buffer, oldest sample first [01_one_frame.md Table 1.1, 02_cell_taps_and_front_ends.md R40]. DESIGN CHOICE (log 1). -/
  buf : List FeSample := []
  /-- CRC_ERRORS, saturating at 0xFFFF [02_cell_taps_and_front_ends.md R62]. -/
  crcErrors : Nat := 0
  /-- LOST [02_cell_taps_and_front_ends.md R62]. -/
  lost : Bool := false
  /-- RELINKING [02_cell_taps_and_front_ends.md R62]. -/
  relinking : Bool := false
  /-- LINK_UP [02_cell_taps_and_front_ends.md R62]. -/
  linkUp : Bool := false
  /-- POWERED_DOWN [02_cell_taps_and_front_ends.md R62]. -/
  poweredDown : Bool := false
  /-- STRAP_FAULT [02_cell_taps_and_front_ends.md R62]. -/
  strapFault : Bool := false
  /-- Unused channels that failed the latest strap check [02_cell_taps_and_front_ends.md R38]. DESIGN CHOICE (log 1). -/
  strapBad : BitVec 16 := 0
  /-- SUPPLY_STACK [02_cell_taps_and_front_ends.md R62]. -/
  supplyStack : Bool := false
  /-- AUX_SUPPLY_FAIL [02_cell_taps_and_front_ends.md R62]. -/
  auxSupplyFail : Bool := false
  /-- STACK_SUPPLY_FAIL [02_cell_taps_and_front_ends.md R62]. -/
  stackSupplyFail : Bool := false
  /-- TSD_ACTIVE [02_cell_taps_and_front_ends.md R62]. -/
  tsdActive : Bool := false
  /-- STROBE_ADJ [02_cell_taps_and_front_ends.md R62]. -/
  strobeAdj : Bool := false
  /-- HELD_RUN, consecutive held frames, 0 to 3 [02_cell_taps_and_front_ends.md R62]. -/
  heldRun : Nat := 0
  /-- Consecutive bad packets [02_cell_taps_and_front_ends.md R59]. DESIGN CHOICE (log 1). -/
  badRun : Nat := 0
  /-- Compensated one-way delay of the port [02_cell_taps_and_front_ends.md R46]. DESIGN CHOICE (log 1). -/
  delayNs : Nat := 0
  /-- Re-measured delay that takes effect at the next strobe [02_cell_taps_and_front_ends.md R46]. DESIGN CHOICE (log 1). -/
  delayNext : Option Nat := none
  /-- The port line is down [02_cell_taps_and_front_ends.md R60]. DESIGN CHOICE (log 1). -/
  lineDown : Bool := false
  /-- The fault channel is down [02_cell_taps_and_front_ends.md R60]. DESIGN CHOICE (log 1). -/
  faultChDown : Bool := false
  /-- A relink attempt runs [02_cell_taps_and_front_ends.md R61]. DESIGN CHOICE (log 1). -/
  attempt : Bool := false
  /-- Frame in which the last relink attempt failed [02_cell_taps_and_front_ends.md R61]. DESIGN CHOICE (log 1). -/
  attemptAt : BitVec 32 := 0
  /-- Failed relink attempts in a row [02_cell_taps_and_front_ends.md R61]. DESIGN CHOICE (log 1). -/
  relinkTries : Nat := 0
  /-- Samples after alignment that are not yet reported [02_cell_taps_and_front_ends.md R61]. DESIGN CHOICE (log 1). -/
  skipSamples : Nat := 0
  /-- Frames of recent BC_ERR flags, newest first (3 in 100 frames are an event) [02_cell_taps_and_front_ends.md Table 2.12]. DESIGN CHOICE (log 1). -/
  bcErrFrames : List (BitVec 32) := []
  /-- BC_ERR of the frame: the back-channel message was missing or bad [02_cell_taps_and_front_ends.md R41]. -/
  bcErr : Bool := false
  /-- The back-channel message for the coming frame was missing or bad [02_cell_taps_and_front_ends.md R41]. DESIGN CHOICE (log 1). -/
  bcErrNext : Bool := false
  /-- The die has lost power: no aux and fewer than four active cells [02_cell_taps_and_front_ends.md R39]. DESIGN CHOICE (log 1). -/
  noFallback : Bool := false
  /-- Balance-switch states in effect in this frame [01_one_frame.md R21]. DESIGN CHOICE (log 1). -/
  swNow : BitVec 16 := 0
  /-- Pattern the next strobe applies (from the back-channel message) [01_one_frame.md R21, 02_cell_taps_and_front_ends.md R41]. DESIGN CHOICE (log 1). -/
  swNext : BitVec 16 := 0
  /-- Completed switch patterns by the frame of their strobe, newest first [01_one_frame.md R21, 05_frame_budget_scheduler.md R132]. DESIGN CHOICE (log 1). -/
  swDec : List (BitVec 32 × BitVec 16) := []
  /-- Local tap with the test current in this frame (none: 0b11111) [02_cell_taps_and_front_ends.md R40 OW_TAP]. -/
  owNow : Option Nat := none
  /-- Local tap the next strobe applies [02_cell_taps_and_front_ends.md R41]. DESIGN CHOICE (log 1). -/
  owNext : Option Nat := none
  /-- Completed open-wire decisions by the frame of their strobe, newest first [02_cell_taps_and_front_ends.md R48, 05_frame_budget_scheduler.md R132]. DESIGN CHOICE (log 1). -/
  owDec : List (BitVec 32 × Option Nat) := []
  /-- Threshold registers held by the die [02_cell_taps_and_front_ends.md R41, 10_hardware_protection.md R235]. -/
  thr : ThrSet := {}
  /-- Threshold write carried to the next strobe [01_one_frame.md R29, 02_cell_taps_and_front_ends.md R41]. DESIGN CHOICE (log 1). -/
  thrNext : Option ThrSet := none
  /-- Filtered OV outputs [10_hardware_protection.md R236]. DESIGN CHOICE (log 1). -/
  ovOut : BitVec 16 := 0
  /-- Filtered UV outputs [10_hardware_protection.md R236]. DESIGN CHOICE (log 1). -/
  uvOut : BitVec 16 := 0
  /-- The die is in thermal shutdown: all its switches are open [10_hardware_protection.md R241]. DESIGN CHOICE (log 1). -/
  tsdLatched : Bool := false
  /-- Thermal shutdown opened the switches during this frame [02_cell_taps_and_front_ends.md Table 2.3 TSD_EDGE]. -/
  tsdEdge : Bool := false
deriving DecidableEq, Repr

/-- One cell channel. -/
structure Chan where
  /-- Calibrated and lead-corrected value [02_cell_taps_and_front_ends.md R43]. DESIGN CHOICE (log 1). -/
  v : Int := 0
  /-- S24 reported form [02_cell_taps_and_front_ends.md R44]. -/
  s24 : BitVec 24 := 0x800000
  /-- U16 reported form [02_cell_taps_and_front_ends.md R44]. -/
  u16 : BitVec 16 := 0xFFFF
  /-- Channel status word [02_cell_taps_and_front_ends.md R47 Table 2.9]. -/
  status : BitVec 16 := 0x8000
  /-- Consecutive frames with MOD_FAULT [02_cell_taps_and_front_ends.md R44]. DESIGN CHOICE (log 1). -/
  modFaultRun : Nat := 0
  /-- Newest samples first [02_cell_taps_and_front_ends.md R50, R54]. DESIGN CHOICE (log 1). -/
  hist : List Smp := []
  /-- Latest SW_CURRENT of the switch [02_cell_taps_and_front_ends.md R54]. DESIGN CHOICE (log 1). -/
  swCur : Nat := 0
  /-- Frame of that report [02_cell_taps_and_front_ends.md R54]. DESIGN CHOICE (log 1). -/
  swCurFrame : BitVec 32 := 0
deriving DecidableEq, Repr

/-- One tap lead: 0 to 47, 48L, 48H, 49 to 96. -/
structure Tap where
  /-- Lead-resistance figure RL [02_cell_taps_and_front_ends.md R54]. DESIGN CHOICE (log 1). -/
  rl : Int := 0
  /-- Frame in which it was measured [02_cell_taps_and_front_ends.md R54]. DESIGN CHOICE (log 1). -/
  rlFrame : BitVec 32 := 0
  /-- Age of the figure, the basis of its freshness [02_cell_taps_and_front_ends.md R54, R57]. DESIGN CHOICE (log 1). -/
  rlAge : Nat := 0
  /-- A figure has been measured [02_cell_taps_and_front_ends.md R54]. DESIGN CHOICE (log 1). -/
  rlKnown : Bool := false
  /-- Consecutive conclusive failing steps [02_cell_taps_and_front_ends.md R51]. DESIGN CHOICE (log 1). -/
  failRun : Nat := 0
  /-- Consecutive conclusive passing steps [02_cell_taps_and_front_ends.md R51]. DESIGN CHOICE (log 1). -/
  passRun : Nat := 0
  /-- The last conclusive step failed [02_cell_taps_and_front_ends.md R51]. DESIGN CHOICE (log 1). -/
  suspect : Bool := false
  /-- The tap is declared open [02_cell_taps_and_front_ends.md R51]. DESIGN CHOICE (log 1). -/
  isOpen : Bool := false
  /-- The span over the open tap crosses twice the thresholds [02_cell_taps_and_front_ends.md R52]. DESIGN CHOICE (log 1). -/
  spanCross : Bool := false
deriving DecidableEq, Repr

/-- The open-wire test of P39. -/
structure Ow where
  /-- Tap of the next step [02_cell_taps_and_front_ends.md R48]. DESIGN CHOICE (log 1). -/
  tap : Nat := 0
  /-- Tap of the newest decision [02_cell_taps_and_front_ends.md R48]. DESIGN CHOICE (log 1). -/
  last : Nat := 0
  /-- Window that made it [02_cell_taps_and_front_ends.md R48]. DESIGN CHOICE (log 1). -/
  lastWin : Nat := 0
deriving DecidableEq, Repr

/-- The current front end, its port and the charge accumulator (P32). -/
structure Cfe where
  /-- CRC_ERRORS, saturating at 0xFFFF [03_current_front_end.md R85]. -/
  crcErrors : Nat := 0
  /-- LOST [03_current_front_end.md R85]. -/
  lost : Bool := false
  /-- RELINKING [03_current_front_end.md R85]. -/
  relinking : Bool := false
  /-- LINK_UP [03_current_front_end.md R85]. -/
  linkUp : Bool := false
  /-- FAST_OK [03_current_front_end.md R85]. -/
  fastOk : Bool := false
  /-- OC_LATCHED [03_current_front_end.md R85]. -/
  ocLatched : Bool := false
  /-- DISAGREE [03_current_front_end.md R85]. -/
  disagree : Bool := false
  /-- SUPPLY_STACK [03_current_front_end.md R85]. -/
  supplyStack : Bool := false
  /-- AUX_SUPPLY_FAIL [03_current_front_end.md R85]. -/
  auxSupplyFail : Bool := false
  /-- ZERO_VALID [03_current_front_end.md R85]. -/
  zeroValid : Bool := false
  /-- Plant time of the last update of the zero [03_current_front_end.md R70]. DESIGN CHOICE (log 1). -/
  zeroAt : BitVec 64 := 0
  /-- CHARGE_GAP [03_current_front_end.md R85]. -/
  chargeGap : Bool := false
  /-- VSTR_OVER [03_current_front_end.md R85]. -/
  vstrOver : Bool := false
  /-- HELD_RUN [03_current_front_end.md R85]. -/
  heldRun : Nat := 0
  /-- Consecutive bad frame packets [03_current_front_end.md R73]. DESIGN CHOICE (log 1). -/
  badRun : Nat := 0
  /-- Sub-sample packets of the present frame, newest first [03_current_front_end.md R67]. DESIGN CHOICE (log 1). -/
  subs : List CfeSub := []
  /-- Sub-sample packets of the previous frame, compared with its frame packet [03_current_front_end.md R67]. DESIGN CHOICE (log 1). -/
  subsPrev : List CfeSub := []
  /-- The current input of the present sub-period is missing [03_current_front_end.md R66]. DESIGN CHOICE (log 1). -/
  ctlMissing : Bool := true
  /-- Counter of lost sub-sample packets [03_current_front_end.md Table 3.6]. DESIGN CHOICE (log 1). -/
  ctlMissCount : Nat := 0
  /-- Current of the latest usable control sample [03_current_front_end.md R65, R68]. DESIGN CHOICE (log 1). -/
  ctlCur : Int := 0
  /-- String voltage of the latest usable control sample [03_current_front_end.md R65, R75]. DESIGN CHOICE (log 1). -/
  ctlVstr : Int := 0
  /-- The previous accepted frame packet [03_current_front_end.md R67]. DESIGN CHOICE (log 1). -/
  prev : Option CfeFrame := none
  /-- Port buffer, oldest sample first [01_one_frame.md Table 1.1, 05_frame_budget_scheduler.md R131]. DESIGN CHOICE (log 1). -/
  buf : List CfeSamp := []
  /-- The packet up to which the charge has been counted [03_current_front_end.md R72]. DESIGN CHOICE (log 1). -/
  last : Option CfeFrame := none
  /-- Running sum of the charge counted by this CFE alone [03_current_front_end.md R72]. DESIGN CHOICE (log 1). -/
  ownSum : Int := 0
  /-- That sum after each frame, newest first [03_current_front_end.md R80, R84]. DESIGN CHOICE (log 1). -/
  ownSums : List (BitVec 32 × Int) := []
  /-- A restart gap whose charge is still to be settled [03_current_front_end.md R73]. DESIGN CHOICE (log 1). -/
  bridge : Option CfeBridge := none
  /-- Reported frame current [03_current_front_end.md R68]. DESIGN CHOICE (log 1). -/
  iMa : Int := 0
  /-- The current reports the invalid code [03_current_front_end.md R68, R73]. -/
  iInvalid : Bool := true
  /-- The current is HELD [03_current_front_end.md R73]. DESIGN CHOICE (log 1). -/
  iHeld : Bool := false
  /-- CUR_OVER_RANGE [03_current_front_end.md R68]. DESIGN CHOICE (log 1). -/
  curOverRange : Bool := false
  /-- CUR_CLIPPED [03_current_front_end.md R68]. DESIGN CHOICE (log 1). -/
  curClipped : Bool := false
  /-- Consecutive frames with the current modulator stalled [03_current_front_end.md R68]. DESIGN CHOICE (log 1). -/
  stallRun : Nat := 0
  /-- Reported string voltage [03_current_front_end.md R75]. DESIGN CHOICE (log 1). -/
  vstrMv : Int := 0
  /-- The string voltage reports the invalid code [03_current_front_end.md R75]. -/
  vstrInvalid : Bool := true
  /-- Shunt temperature; none while the NTC is open [03_current_front_end.md R64]. DESIGN CHOICE (log 1). -/
  tShunt : Option Int := none
  /-- SHUNT_NTC_FAULT [03_current_front_end.md R64]. DESIGN CHOICE (log 1). -/
  shuntNtcFault : Bool := false
  /-- Charge of the latest frame [03_current_front_end.md R72]. DESIGN CHOICE (log 1). -/
  frameChargeNc : Int := 0
  /-- Branch charge accumulator [03_current_front_end.md R72]. DESIGN CHOICE (log 1). -/
  acc : Int := 0
  /-- Sub-uC remainder carried forward [03_current_front_end.md R72]. DESIGN CHOICE (log 1). -/
  accRem : Rat := 0
  /-- Length of the gap that the next good packet credits [03_current_front_end.md R73]. DESIGN CHOICE (log 1). -/
  gapFrames : Nat := 0
  /-- Zero-tracking offset v_zero_nv (calibration region of the NVM) [03_current_front_end.md R68, R70]. DESIGN CHOICE (log 1). -/
  vZeroNv : Rat := 0
  /-- Accepted offset, effective from the next frame [03_current_front_end.md R70]. DESIGN CHOICE (log 1). -/
  zeroNext : Option Rat := none
  /-- Frames the zero-tracking conditions have held [03_current_front_end.md R70]. DESIGN CHOICE (log 1). -/
  zeroHold : Nat := 0
  /-- Sum of the frame means of the averaging period [03_current_front_end.md R70]. DESIGN CHOICE (log 1). -/
  zeroSum : Int := 0
  /-- Frames averaged [03_current_front_end.md R70]. DESIGN CHOICE (log 1). -/
  zeroN : Nat := 0
  /-- OC_STATE of the latest frame packet [03_current_front_end.md Table 3.3]. -/
  ocState : BitVec 8 := 0
  /-- The current wake comparator asserts [03_current_front_end.md R79]. DESIGN CHOICE (log 1). -/
  wakeAsserted : Bool := false
  /-- A CUR_CAL measurement in progress [03_current_front_end.md R71]. DESIGN CHOICE (log 1). -/
  calRun : Option CalRun := none
  /-- Re-measured delay that takes effect at the next strobe [02_cell_taps_and_front_ends.md R46]. DESIGN CHOICE (log 1). -/
  delayNext : Option Nat := none
  /-- Compensated one-way delay of the CFE port [02_cell_taps_and_front_ends.md R46, 03_current_front_end.md R73]. DESIGN CHOICE (log 1). -/
  delayNs : Nat := 0
  /-- The CFE port line is down [03_current_front_end.md R66]. DESIGN CHOICE (log 1). -/
  lineDown : Bool := false
  /-- A relink attempt runs [02_cell_taps_and_front_ends.md R61, 03_current_front_end.md R73]. DESIGN CHOICE (log 1). -/
  attempt : Bool := false
  /-- Frame in which the last relink attempt failed [02_cell_taps_and_front_ends.md R61, 03_current_front_end.md R73]. DESIGN CHOICE (log 1). -/
  attemptAt : BitVec 32 := 0
  /-- Failed relink attempts in a row [03_current_front_end.md R73]. DESIGN CHOICE (log 1). -/
  relinkTries : Nat := 0
  /-- Samples after alignment not yet reported [02_cell_taps_and_front_ends.md R61, 03_current_front_end.md R73]. DESIGN CHOICE (log 1). -/
  skipSamples : Nat := 0
  /-- OC_CHG_MV threshold held by the die [03_current_front_end.md R76]. -/
  ocChg : Nat := 220
  /-- OC_DIS_MV threshold held by the die [03_current_front_end.md R76]. -/
  ocDis : Nat := 220
  /-- OC_CHG_MV and OC_DIS_MV carried to the next strobe [01_one_frame.md R29, 02_cell_taps_and_front_ends.md R41]. DESIGN CHOICE (log 1). -/
  ocNext : Option (Nat × Nat) := none
  /-- The stack-derived input failed its last test [03_current_front_end.md R74, 02_cell_taps_and_front_ends.md R42]. DESIGN CHOICE (log 1). -/
  stackSupplyFail : Bool := false
deriving DecidableEq, Repr

/-- One branch of the string as this module sees it. -/
structure Branch where
  /-- MAIN records received, newest first [03_current_front_end.md R81]. DESIGN CHOICE (log 1). -/
  mainRecs : List CurRec := []
  /-- CHECK records received, newest first [03_current_front_end.md R83]. DESIGN CHOICE (log 1). -/
  checkRecs : List CurRec := []
  /-- This module's copy of the branch accumulator [03_current_front_end.md R81]. DESIGN CHOICE (log 1). -/
  accCopy : Int := 0
  /-- The current of the latest paired stamp is HELD [03_current_front_end.md R81]. DESIGN CHOICE (log 1). -/
  curHeld : Bool := false
  /-- Current paired with the cell samples of the latest stamp [03_current_front_end.md R81]. DESIGN CHOICE (log 1). -/
  pairCur : Int := 0
  /-- No valid current [03_current_front_end.md R81, R82]. -/
  pairInvalid : Bool := true
  /-- Consecutive out-of-bounds stamps [03_current_front_end.md R83]. DESIGN CHOICE (log 1). -/
  outRun : Nat := 0
  /-- Consecutive in-bounds stamps [03_current_front_end.md R83, R84]. DESIGN CHOICE (log 1). -/
  inRun : Nat := 0
  /-- DISAGREE of the branch [03_current_front_end.md R83]. -/
  disagree : Bool := false
  /-- The CHECK CFE has taken over [03_current_front_end.md R84]. DESIGN CHOICE (log 1). -/
  useCheck : Bool := false
  /-- Newest stamp compared [03_current_front_end.md R83]. DESIGN CHOICE (log 1). -/
  plausStamp : BitVec 32 := 0
  /-- A stamp has been compared [03_current_front_end.md R83]. DESIGN CHOICE (log 1). -/
  plausKnown : Bool := false
  /-- Consecutive invalid MAIN stamps [03_current_front_end.md R84]. DESIGN CHOICE (log 1). -/
  mainInvalidRun : Nat := 0
deriving DecidableEq, Repr

/-- One pan P00 to P47. -/
structure Pan where
  /-- Role slot 0 to 39; 0xFE no role; 0xFF retired [04_pan_array.md R110 ROLE]. -/
  role : Nat := 0xFE
  /-- Pan state [04_pan_array.md R110 STATE]. -/
  st : PanState := .spareIdle
  /-- Last fault [04_pan_array.md R110 LAST_FAULT]. -/
  lastFault : PanFault := .none
  /-- RETIRE_COUNT, kept over restarts [04_pan_array.md R110, R105]. -/
  retireCount : Nat := 0
  /-- SAT of the last completed window [04_pan_array.md R110]. -/
  sat : Bool := false
  /-- UFL of the last completed window [04_pan_array.md R110]. -/
  ufl : Bool := false
  /-- SAT, UFL and ACC_SAT of the window in progress (bits 2 to 0) [04_pan_array.md R90, R110]. DESIGN CHOICE (log 1). -/
  flagRun : BitVec 3 := 0
  /-- ACC_SAT of the last completed window [04_pan_array.md R110]. -/
  accSat : Bool := false
  /-- ECC_RATE [04_pan_array.md R110]. -/
  eccRate : Bool := false
  /-- Times of corrected data-memory errors in the last 36,000,000 frames (ECC_CORR counts them) [04_pan_array.md R101, R110]. DESIGN CHOICE (log 1). -/
  eccFrames : List Nat := []
  /-- Role slot this spare shadows in the window [04_pan_array.md R97]. DESIGN CHOICE (log 1). -/
  shadowOf : Option Nat := none
  /-- Recipe loaded [04_pan_array.md R92]. DESIGN CHOICE (log 1). -/
  recipe : Option Recipe := none
  /-- Signature of the latest job that the pan ran or shadowed [04_pan_array.md R98]. DESIGN CHOICE (log 1). -/
  sig : BitVec 32 := 0
  /-- The pan takes part in an arbitration as its original pan or shadow spare [04_pan_array.md R100]. DESIGN CHOICE (log 1). -/
  inArb : Bool := false
  /-- Output queue: the role and job whose results have not been released [04_pan_array.md R86 Table 4.1]. DESIGN CHOICE (log 1). -/
  queue : List (Nat × JobKind) := []
  /-- The outputs of this window are withheld [04_pan_array.md R101, R103]. DESIGN CHOICE (log 1). -/
  withheld : Bool := false
  /-- Role slot for which a load for a move is in progress [04_pan_array.md R102]. DESIGN CHOICE (log 1). -/
  loadFor : Option Nat := none
deriving DecidableEq, Repr

/-- One role slot. -/
structure RoleSlot where
  /-- Pan serving the slot [04_pan_array.md R92, R95]. DESIGN CHOICE (log 1). -/
  pan : Option Nat := none
  /-- Outputs of the slot are HELD in this window [04_pan_array.md R103]. DESIGN CHOICE (log 1). -/
  held : Bool := false
  /-- Shadowed again since TRANSIT_SUSPENDED was set [04_pan_array.md R99]. DESIGN CHOICE (log 1). -/
  again : Bool := false
  /-- Frames without a completed shadow run [04_pan_array.md R99]. DESIGN CHOICE (log 1). -/
  unshadowed : Nat := 0
  /-- The role is suspended [04_pan_array.md R104]. DESIGN CHOICE (log 1). -/
  suspended : Bool := false
  /-- The role is lost [04_pan_array.md R104]. DESIGN CHOICE (log 1). -/
  lost : Bool := false
  /-- Pan that takes the role at the next boundary [04_pan_array.md R102]. DESIGN CHOICE (log 1). -/
  moveTo : Option Nat := none
deriving DecidableEq, Repr

/-- The sluice. -/
structure Sluice where
  /-- FROZEN [04_pan_array.md R110 FROZEN]. -/
  frozen : Bool := false
  /-- TRANSIT_SUSPENDED [04_pan_array.md R110]. -/
  transitSuspended : Bool := false
  /-- Referee arbitrations in progress [04_pan_array.md R100, R110 ARBITRATING]. -/
  arbs : List Arb := []
  /-- Rotation counter r [04_pan_array.md R97, R110 ROTATION]. -/
  rotation : Nat := 0
  /-- Role moves since start-up, saturating at 0xFF [04_pan_array.md R110 MOVES]. -/
  moves : Nat := 0
  /-- SPARES_LOW was sent for the present shortage [04_pan_array.md R104]. DESIGN CHOICE (log 1). -/
  sparesLowSent : Bool := false
deriving DecidableEq, Repr

/-- The NVM write port. -/
structure NvmPort where
  /-- The transfer that holds the port [04_pan_array.md R108]. DESIGN CHOICE (log 1). -/
  busy : Option NvmReq := none
  /-- Waiting requests in order of arrival [04_pan_array.md R108]. DESIGN CHOICE (log 1). -/
  waiting : List NvmReq := []
  /-- The last grant went to the lane in charge (grants alternate) [04_pan_array.md R108]. DESIGN CHOICE (log 1). -/
  lastLane : Bool := false
deriving DecidableEq, Repr

/-- The frame scheduler. -/
structure Sched where
  /-- Number of the window in the count of windows, each one once [05_frame_budget_scheduler.md R111, R113]. DESIGN CHOICE (log 1). -/
  no : Nat := 0
  /-- Count up to which P jobs have been released [05_frame_budget_scheduler.md R113]. DESIGN CHOICE (log 1). -/
  relWin : Nat := 0
  /-- Windows since the latest comet [05_frame_budget_scheduler.md R135]. DESIGN CHOICE (log 1). -/
  calm : Nat := 0
  /-- Windows since the last one that did not open, their samples being discarded [05_frame_budget_scheduler.md R113, R134]. DESIGN CHOICE (log 1). -/
  skipped : Nat := 0
  /-- P instances that ran in this window with their outputs withheld [04_pan_array.md R103]. DESIGN CHOICE (log 1). -/
  passed : List Work := []
  /-- Count of R31 of the running window: one for each frame of RUN, ten for each window of WATCH, windows that did not open included [05_frame_budget_scheduler.md R113]. DESIGN CHOICE (log 1). -/
  window : Nat := 0
  /-- Stamp of the sample that the running window processes [01_one_frame.md R19, R25]. DESIGN CHOICE (log 1). -/
  stamp : BitVec 32 := 0
  /-- A compute window is running [05_frame_budget_scheduler.md R128]. DESIGN CHOICE (log 1). -/
  windowOpen : Bool := false
  /-- The current window is a tail window [05_frame_budget_scheduler.md R136 IN_TAIL]. -/
  inTail : Bool := false
  /-- The running window has passed its successor's nominal boundary [05_frame_budget_scheduler.md R128]. DESIGN CHOICE (log 1). -/
  isComet : Bool := false
  /-- Consecutive tail windows [05_frame_budget_scheduler.md R135]. DESIGN CHOICE (log 1). -/
  tailLen : Nat := 0
  /-- Largest backlog of the tail [05_frame_budget_scheduler.md R135]. DESIGN CHOICE (log 1). -/
  maxBacklog : Nat := 0
  /-- Role that ended each tail window last, newest first [05_frame_budget_scheduler.md R135]. DESIGN CHOICE (log 1). -/
  lastRoles : List Nat := []
  /-- Waiting samples just after the latest boundary [05_frame_budget_scheduler.md R131, R136 BACKLOG]. -/
  backlog : Nat := 0
  /-- COMETS, saturating [05_frame_budget_scheduler.md R136 COMETS]. -/
  comets : Nat := 0
  /-- SCHED_FAULTS, saturating [05_frame_budget_scheduler.md R136]. -/
  schedFaults : Nat := 0
  /-- DISCARDS, saturating [05_frame_budget_scheduler.md R136]. -/
  discards : Nat := 0
  /-- A schedule fault has stopped O work [05_frame_budget_scheduler.md R135]. DESIGN CHOICE (log 1). -/
  oStopFault : Bool := false
  /-- A sample was discarded while the present window ran [05_frame_budget_scheduler.md R134]. DESIGN CHOICE (log 1). -/
  discarded : Bool := false
  /-- P instances released and not yet run [05_frame_budget_scheduler.md R111, R112]. DESIGN CHOICE (log 1). -/
  pending : List PInst := []
  /-- Lateness of the current window [05_frame_budget_scheduler.md R128]. DESIGN CHOICE (log 1). -/
  lateNs : Nat := 0
  /-- M and O jobs that the running window has completed [05_frame_budget_scheduler.md R111, R112]. DESIGN CHOICE (log 1). -/
  done : List (Nat × JobKind) := []
deriving DecidableEq, Repr

/-- The budget governor. -/
structure Gov where
  /-- Pause level in force [05_frame_budget_scheduler.md R136 PAUSE_LEVEL]. -/
  pause : Nat := 0
  /-- Thermal state [05_frame_budget_scheduler.md R136 THERMAL_STATE]. -/
  thermal : Thermal := .normal
  /-- R at or above RISE_LIMIT at the latest rate value [05_frame_budget_scheduler.md R136 RISE]. -/
  rise : Bool := false
  /-- DIODE_BAD [05_frame_budget_scheduler.md R136 DIODE_BAD]. -/
  diodeBad : Bool := false
  /-- No O work admitted in the current window [05_frame_budget_scheduler.md R136 O_STOPPED]. -/
  oStopped : Bool := false
  /-- P instances with slack withheld [05_frame_budget_scheduler.md R136]. -/
  slackPStopped : Bool := false
  /-- Excitation permitted [05_frame_budget_scheduler.md R136 EXC_PERMIT]. -/
  excPermit : Bool := false
  /-- P_est exceeds the cap with mandatory work only [05_frame_budget_scheduler.md R136 CAP_UNMET]. -/
  capUnmet : Bool := false
  /-- Module balance cap in force [05_frame_budget_scheduler.md R136 MODULE_BAL_CAP]. -/
  moduleCap : Nat := 0
  /-- P_est [05_frame_budget_scheduler.md R136 POWER_EST]. -/
  powerEst : Nat := 0
  /-- Balance caps of FE1 to FE6 in force [05_frame_budget_scheduler.md R136 Table 5.8]. -/
  feCaps : List Nat := List.replicate 6 0
  /-- Admission list in force [05_frame_budget_scheduler.md R115]. DESIGN CHOICE (log 1). -/
  admitted : List Work := []
  /-- Spares that may run a transit check [05_frame_budget_scheduler.md R115, 04_pan_array.md R97]. DESIGN CHOICE (log 1). -/
  transit : List Nat := []
  /-- Decisions completed for coming windows, by the frame of the window, newest first [05_frame_budget_scheduler.md R115]. DESIGN CHOICE (log 1). -/
  next : List (BitVec 32 × GovDecision) := []
  /-- Latest reading, plausible or not (0x8000: not completed) [05_frame_budget_scheduler.md R118 DIE_TEMP]. DESIGN CHOICE (log 1). -/
  dieTemp : Int := 0
  /-- The latest conversion did not complete [05_frame_budget_scheduler.md R119, 00_scope.md R5]. DESIGN CHOICE (log 1). -/
  dieNoConv : Bool := true
  /-- Latest plausible reading [05_frame_budget_scheduler.md R120]. DESIGN CHOICE (log 1). -/
  lastPlausible : Option Int := none
  /-- Readings of the 1,000-frame grid with their place on it, newest first; none: implausible [05_frame_budget_scheduler.md R118]. DESIGN CHOICE (log 1). -/
  gridReads : List (Nat × Option Int) := []
  /-- Place on the grid of the running conversion [05_frame_budget_scheduler.md R118]. DESIGN CHOICE (log 1). -/
  convAt : Nat := 0
  /-- Rate of rise r [05_frame_budget_scheduler.md R118]. DESIGN CHOICE (log 1). -/
  rate : Rat := 0
  /-- Consecutive plausible readings while DIODE_BAD [05_frame_budget_scheduler.md R119]. DESIGN CHOICE (log 1). -/
  goodRun : Nat := 0
  /-- A conversion is running [05_frame_budget_scheduler.md R117]. DESIGN CHOICE (log 1). -/
  convBusy : Bool := false
  /-- The running conversion belongs to the 1,000-frame grid [05_frame_budget_scheduler.md R118]. DESIGN CHOICE (log 1). -/
  convGrid : Bool := false
  /-- Frames since the last demand while DIODE_BAD [05_frame_budget_scheduler.md R119]. DESIGN CHOICE (log 1). -/
  sinceBadRead : Nat := 0
  /-- Model junction temperatures [05_frame_budget_scheduler.md R123]. DESIGN CHOICE (log 1). -/
  feTj : List Rat := List.replicate 6 0
  /-- Tj reached FE_TJ_LIMIT and has not fallen by THERMAL_HYST [05_frame_budget_scheduler.md R124]. DESIGN CHOICE (log 1). -/
  feTjOver : List Bool := List.replicate 6 false
  /-- Highest SW_CURRENT reports with their valid frame, the last 100,000 frames [05_frame_budget_scheduler.md R124]. DESIGN CHOICE (log 1). -/
  feImax : List (List (Nat × Nat)) := List.replicate 6 []
  /-- The model starts at the next frame [05_frame_budget_scheduler.md R123]. DESIGN CHOICE (log 1). -/
  feTjStart : List Bool := List.replicate 6 true
  /-- Excitation energy of the sweep [05_frame_budget_scheduler.md R126]. DESIGN CHOICE (log 1). -/
  excEnergy : Rat := 0
deriving DecidableEq, Repr

/-- The estimator of one cell. -/
structure Est where
  /-- The first step after initialisation has run [06_state_estimation.md R152]. DESIGN CHOICE (log 1). -/
  inited : Bool := false
  /-- State of charge [06_state_estimation.md R142]. DESIGN CHOICE (log 1). -/
  soc : Rat := 0
  /-- Fast relaxation voltage [06_state_estimation.md R142]. DESIGN CHOICE (log 1). -/
  vf : Rat := 0
  /-- Slow relaxation voltage [06_state_estimation.md R142]. DESIGN CHOICE (log 1). -/
  vs : Rat := 0
  /-- Hysteresis state [06_state_estimation.md R142]. DESIGN CHOICE (log 1). -/
  h : Rat := 0
  /-- Covariance, row by row [06_state_estimation.md R142]. DESIGN CHOICE (log 1). -/
  p : List Rat := List.replicate 16 0
  /-- Learned capacity [06_state_estimation.md R141]. -/
  q : Rat := 100
  /-- Resistance factor [06_state_estimation.md R152]. -/
  kr : Rat := 1
  /-- One-sigma uncertainty [06_state_estimation.md R142, R149]. DESIGN CHOICE (log 1). -/
  sigma : Rat := 0
  /-- Reported SoC [06_state_estimation.md R154]. DESIGN CHOICE (log 1). -/
  rep : Rat := 0
  /-- Withheld correction [06_state_estimation.md R154]. DESIGN CHOICE (log 1). -/
  withheld : Rat := 0
  /-- Net charge counter [06_state_estimation.md R150]. -/
  cq : Int := 0
  /-- Sub-uC remainder of the counter [06_state_estimation.md R150]. DESIGN CHOICE (log 1). -/
  cqRem : Rat := 0
  /-- Learning points, newest first [06_state_estimation.md R150]. DESIGN CHOICE (log 1). -/
  pts : List LearnPt := []
  /-- State held in the wake and health region [06_state_estimation.md R153]. DESIGN CHOICE (log 1). -/
  saved : Option SavedEst := none
  /-- Newest stamp used by the previous step [06_state_estimation.md R137]. DESIGN CHOICE (log 1). -/
  lastStamp : BitVec 32 := 0
  /-- Its plant time [06_state_estimation.md R137]. DESIGN CHOICE (log 1). -/
  lastTime : BitVec 64 := 0
  /-- Branch accumulator of that stamp [06_state_estimation.md R138]. DESIGN CHOICE (log 1). -/
  lastAcc : Int := 0
  /-- Samples processed since the newest stamp used by the previous step, oldest first [06_state_estimation.md R137 to R139]. DESIGN CHOICE (log 1). -/
  ivl : List Ivl := []
  /-- Stamp of the newest processed sample [01_one_frame.md R25]. DESIGN CHOICE (log 1). -/
  smpLast : Option (BitVec 32) := none
  /-- Learned capacity that applies from the next step [06_state_estimation.md R150]. DESIGN CHOICE (log 1). -/
  qNext : Option Rat := none
  /-- The newest learning point has not yet been paired [06_state_estimation.md R150]. DESIGN CHOICE (log 1). -/
  learnDue : Bool := false
  /-- The EMPTY condition held in the last step [06_state_estimation.md R148]. DESIGN CHOICE (log 1). -/
  emptyNow : Bool := false
  /-- Integral of the bridge input current at the previous step [06_state_estimation.md R138]. DESIGN CHOICE (log 1). -/
  lastBridge : Int := 0
  /-- Newest stamp looked at for a current step [06_state_estimation.md R162]. DESIGN CHOICE (log 1). -/
  lastKr : BitVec 32 := 0
  /-- Frames without a usable voltage sample [06_state_estimation.md R139]. DESIGN CHOICE (log 1). -/
  noVolt : Nat := 0
  /-- Voltage input of the last step [06_state_estimation.md R139]. DESIGN CHOICE (log 1). -/
  vm : Rat := 0
  /-- Cell current of the last step [06_state_estimation.md R138]. DESIGN CHOICE (log 1). -/
  i : Rat := 0
  /-- Vle of the last step [06_state_estimation.md R146]. DESIGN CHOICE (log 1). -/
  vle : Rat := 0
  /-- Voltage-based SoC of the last step [06_state_estimation.md R146]. DESIGN CHOICE (log 1). -/
  socV : Rat := 0
  /-- Temperature used [06_state_estimation.md R140]. DESIGN CHOICE (log 1). -/
  tUsed : Int := 2500
  /-- RESERVE [06_state_estimation.md R155]. -/
  reserve : Rat := 0
  /-- Consecutive rejected updates [06_state_estimation.md R143]. DESIGN CHOICE (log 1). -/
  rejectRun : Nat := 0
  /-- Rejected updates counted [06_state_estimation.md R143]. DESIGN CHOICE (log 1). -/
  rejects : Nat := 0
  /-- Time the cell has been at rest [06_state_estimation.md R144]. DESIGN CHOICE (log 1). -/
  restNs : Nat := 0
  /-- The rest period has given its rest point [06_state_estimation.md R144]. DESIGN CHOICE (log 1). -/
  restTaken : Bool := false
  /-- The first step after a return takes a rest point [06_state_estimation.md R153]. DESIGN CHOICE (log 1). -/
  restDue : Bool := false
  /-- Sigma of the last anchor [06_state_estimation.md R149]. DESIGN CHOICE (log 1). -/
  anchorSigma : Rat := 0
  /-- Time since the anchor [06_state_estimation.md R149]. DESIGN CHOICE (log 1). -/
  tSince : Nat := 0
  /-- Charge throughput since the anchor [06_state_estimation.md R149]. DESIGN CHOICE (log 1). -/
  qThru : Rat := 0
  /-- Sum of the gap bounds [06_state_estimation.md R149]. DESIGN CHOICE (log 1). -/
  qGaps : Rat := 0
  /-- Gap bound not yet added to the covariance [06_state_estimation.md R149]. DESIGN CHOICE (log 1). -/
  gapNew : Rat := 0
  /-- Resistance ratios since the last health update, oldest first [06_state_estimation.md R162]. DESIGN CHOICE (log 1). -/
  krSamples : List Rat := []
  /-- SOH_C [06_state_estimation.md R163]. DESIGN CHOICE (log 1). -/
  sohC : Rat := 0
  /-- SOH_R [06_state_estimation.md R163]. DESIGN CHOICE (log 1). -/
  sohR : Rat := 0
  /-- INVALID [06_state_estimation.md R169 Table 6.5]. -/
  fInvalid : Bool := true
  /-- REST [06_state_estimation.md R169]. -/
  fRest : Bool := false
  /-- DISCHARGE [06_state_estimation.md R169]. -/
  fDischarge : Bool := false
  /-- WITHHOLDING [06_state_estimation.md R169]. -/
  fWithholding : Bool := false
  /-- SLEW_DOWN [06_state_estimation.md R169]. -/
  fSlewDown : Bool := false
  /-- FLOOR_HOLD [06_state_estimation.md R169]. -/
  fFloorHold : Bool := false
  /-- VOLT_EMPTY [06_state_estimation.md R169]. -/
  fVoltEmpty : Bool := false
  /-- STALE [06_state_estimation.md R169]. -/
  fStale : Bool := false
  /-- TEMP_DEFAULT [06_state_estimation.md R169]. -/
  fTempDefault : Bool := false
  /-- EOL_CAP [06_state_estimation.md R169]. -/
  fEolCap : Bool := false
  /-- EOL_R [06_state_estimation.md R169]. -/
  fEolR : Bool := false
  /-- GAP_BOUND [06_state_estimation.md R169]. -/
  fGapBound : Bool := false
  /-- HELD [06_state_estimation.md R169]. -/
  fHeld : Bool := false
deriving DecidableEq, Repr

/-- Module-level estimation. -/
structure EstMod where
  /-- Effective mode: COUNTING [06_state_estimation.md R151, R169 MODE]. -/
  counting : Bool := false
  /-- The module has switched itself to BLENDED [06_state_estimation.md R161]. DESIGN CHOICE (log 1). -/
  autoBlended : Bool := false
  /-- Time the FULL conditions have held [06_state_estimation.md R147]. DESIGN CHOICE (log 1). -/
  fullNs : Nat := 0
  /-- The FULL anchor is armed [06_state_estimation.md R147]. DESIGN CHOICE (log 1). -/
  fullArmed : Bool := true
  /-- Branch accumulator at the latest FULL anchor [06_state_estimation.md R147]. DESIGN CHOICE (log 1). -/
  fullAcc : Int := 0
  /-- The EMPTY anchor is armed [06_state_estimation.md R148]. DESIGN CHOICE (log 1). -/
  emptyArmed : Bool := true
  /-- Branch accumulator at the latest EMPTY anchor [06_state_estimation.md R148]. DESIGN CHOICE (log 1). -/
  emptyAcc : Int := 0
  /-- Plant time since the last anchor or the change to COUNTING [06_state_estimation.md R161]. DESIGN CHOICE (log 1). -/
  anchorNs : Nat := 0
  /-- ANCHOR_STARVED [06_state_estimation.md R161]. -/
  anchorStarved : Bool := false
  /-- Plant time since the last qualifying rest [06_state_estimation.md R158]. DESIGN CHOICE (log 1). -/
  restAgeNs : Nat := 0
  /-- REST_STARVED [06_state_estimation.md R158]. -/
  restStarved : Bool := false
  /-- Charge current limits of the latest power-limits job, for 2 s, 10 s and 60 s [06_state_estimation.md R165]. DESIGN CHOICE (log 1). -/
  iChg : List Nat := [0, 0, 0]
  /-- Discharge current limits of the latest power-limits job, for 2 s, 10 s and 60 s [06_state_estimation.md R165]. DESIGN CHOICE (log 1). -/
  iDis : List Nat := [0, 0, 0]
  /-- V_OPEN of the latest power-limits job, for 2 s, 10 s and 60 s [06_state_estimation.md R165]. DESIGN CHOICE (log 1). -/
  vOpen : List Nat := [0, 0, 0]
  /-- R_SUM of the latest power-limits job, for 2 s, 10 s and 60 s [06_state_estimation.md R165]. DESIGN CHOICE (log 1). -/
  rSum : List Nat := [0, 0, 0]
  /-- A STALE cell has halved them [06_state_estimation.md R165]. DESIGN CHOICE (log 1). -/
  halved : Bool := false
  /-- Plant time of the module's latest step [06_state_estimation.md R147, R158]. DESIGN CHOICE (log 1). -/
  lastTime : Option (BitVec 64) := none
  /-- Stamp of the module's latest step [06_state_estimation.md R150]. DESIGN CHOICE (log 1). -/
  lastStamp : BitVec 32 := 0
  /-- Latest summary of this module [06_state_estimation.md R164]. DESIGN CHOICE (log 1). -/
  summary : Option Summary := none
deriving DecidableEq, Repr

/-- String figures (meaningful at the primary). -/
structure Str where
  /-- Latest summary of each ring position [06_state_estimation.md R166]. DESIGN CHOICE (log 1). -/
  sums : List (Option Summary) := List.replicate 8 none
  /-- Frames each live position's summary has been missing [06_state_estimation.md R166]. DESIGN CHOICE (log 1). -/
  missingFrames : List Nat := List.replicate 8 0
  /-- Stamp of the window of the latest string-figures job [06_state_estimation.md R166]. DESIGN CHOICE (log 1). -/
  lastJob : Option (BitVec 32) := none
  /-- Stamp of the harvest that the string sums are of [01_one_frame.md R22]. DESIGN CHOICE (log 1). -/
  sumStamp : BitVec 32 := 0
  /-- Sum of the harvested cell voltages of each branch [01_one_frame.md R22]. DESIGN CHOICE (log 1). -/
  vSums : List Int := []
  /-- A cell of the string has no valid voltage in the harvest [01_one_frame.md R22]. DESIGN CHOICE (log 1). -/
  vSumBad : Bool := true
  /-- The string record holds figures [06_state_estimation.md R171]. DESIGN CHOICE (log 1). -/
  valid : Bool := false
  /-- SOC_MIN [06_state_estimation.md R171]. -/
  socMin : Nat := 0xFFFF
  /-- MIN_POS [06_state_estimation.md R171]. DESIGN CHOICE (log 1). -/
  minPos : Nat := 0xFF
  /-- MIN_CELL [06_state_estimation.md R171]. DESIGN CHOICE (log 1). -/
  minCell : Nat := 0xFF
  /-- SOC_EW [06_state_estimation.md R171]. -/
  socEw : Nat := 0xFFFF
  /-- SIGMA_MIN [06_state_estimation.md R171]. DESIGN CHOICE (log 1). -/
  sigmaMin : Nat := 0xFFFF
  /-- E_REM [06_state_estimation.md R171]. DESIGN CHOICE (log 1). -/
  eRem : Nat := 0
  /-- FRAME, oldest summary stamp used [06_state_estimation.md R171]. DESIGN CHOICE (log 1). -/
  stamp : BitVec 32 := 0
  /-- P_CHG [06_state_estimation.md R171]. DESIGN CHOICE (log 1). -/
  pChg : List Nat := [0, 0, 0]
  /-- P_DIS [06_state_estimation.md R171]. DESIGN CHOICE (log 1). -/
  pDis : List Nat := [0, 0, 0]
  /-- I_CHG [06_state_estimation.md R171]. DESIGN CHOICE (log 1). -/
  iChg : List Nat := [0, 0, 0]
  /-- I_DIS [06_state_estimation.md R171]. DESIGN CHOICE (log 1). -/
  iDis : List Nat := [0, 0, 0]
  /-- FLAGS [06_state_estimation.md R171 Table 6.8]. -/
  flags : BitVec 16 := 0
  /-- MODULES [06_state_estimation.md R171]. DESIGN CHOICE (log 1). -/
  modules : BitVec 8 := 0
  /-- Q_AVAIL_STR of the latest record from the primary [06_state_estimation.md R164, R166]. DESIGN CHOICE (log 1). -/
  qAvailStr : Option Nat := none
  /-- String current; none: invalid [03_current_front_end.md R82]. DESIGN CHOICE (log 1). -/
  current : Option Int := none
  /-- REST_REQUESTED [06_state_estimation.md R158]. -/
  restRequested : Bool := false
  /-- Plant time of the last REST_REQUEST [06_state_estimation.md R158]. DESIGN CHOICE (log 1). -/
  restAskAt : BitVec 64 := 0
deriving DecidableEq, Repr

/-- Sweeps and the thermometry watch (P37). -/
structure Eis where
  /-- Sweep state [07_impedance_spectroscopy.md R190 STATE]. -/
  st : FnState := .off
  /-- HALTED [07_impedance_spectroscopy.md R190]. -/
  halted : Bool := false
  /-- Latched EIS_START [07_impedance_spectroscopy.md R190 LATCHED]. -/
  latched : Option LatchedCmd := none
  /-- KIND [07_impedance_spectroscopy.md R190 KIND]. -/
  kind : EisKind := .none
  /-- SWEEP_ID of the current or last sweep [07_impedance_spectroscopy.md R190]. -/
  sweepId : Nat := 0
  /-- Blocks counted [07_impedance_spectroscopy.md R190]. -/
  blocks : Nat := 0
  /-- END_CAUSE of the last sweep [07_impedance_spectroscopy.md R190]. -/
  endCause : Nat := 0
  /-- Sweep in progress [07_impedance_spectroscopy.md R177]. DESIGN CHOICE (log 1). -/
  sweep : Option Sweep := none
  /-- The EIS_ABORT that ended the sweep [17_ploza_protocol.md R419]. DESIGN CHOICE (log 1). -/
  stopBy : Option DeferRef := none
  /-- OUTCOME and REASON of a latched enable [17_ploza_protocol.md R422]. DESIGN CHOICE (log 1). -/
  enableOutcome : Nat × Nat := (0, 0)
  /-- Plant time at which the present rise of g begins [07_impedance_spectroscopy.md R179]. DESIGN CHOICE (log 1). -/
  gStart : Option Nat := none
  /-- Interim coherence of a PASSIVE sweep [07_impedance_spectroscopy.md R187]. DESIGN CHOICE (log 1). -/
  interimCoh : List (List Nat) := []
  /-- The current, accumulated as a cell is [07_impedance_spectroscopy.md R184]. DESIGN CHOICE (log 1). -/
  cur : CellSpec := {}
  /-- Verdicts not yet taken by P37, oldest first [07_impedance_spectroscopy.md R186]. DESIGN CHOICE (log 1). -/
  verdicts : List (Nat × Nat) := []
  /-- Accepted estimates at f_th that wait for the thermometry job [07_impedance_spectroscopy.md R193]. DESIGN CHOICE (log 1). -/
  thermoQ : List (Nat × Rat) := []
  /-- Index b of the block in progress [07_impedance_spectroscopy.md R178]. DESIGN CHOICE (log 1). -/
  blockIdx : Nat := 0
  /-- Blocks not counted before counting resumes [07_impedance_spectroscopy.md R178, R180]. DESIGN CHOICE (log 1). -/
  settleLeft : Nat := 0
  /-- Block start at which the excitation is back at full amplitude [07_impedance_spectroscopy.md R180]. DESIGN CHOICE (log 1). -/
  resumeAt : Option (BitVec 32) := none
  /-- Verdict code the block in progress has earned so far [07_impedance_spectroscopy.md R186]. DESIGN CHOICE (log 1). -/
  blockVoid : Nat := 0
  /-- Tones of the excitation while g is not 0 [07_impedance_spectroscopy.md R179]. DESIGN CHOICE (log 1). -/
  excSweep : Option Sweep := none
  /-- Excitation gain at the latest control sample [07_impedance_spectroscopy.md R179]. DESIGN CHOICE (log 1). -/
  g : Rat := 0
  /-- G rises [07_impedance_spectroscopy.md R179]. DESIGN CHOICE (log 1). -/
  gRising : Bool := false
  /-- The fall of g has begun [07_impedance_spectroscopy.md R179]. DESIGN CHOICE (log 1). -/
  gFalling : Bool := false
  /-- Completed blocks whose verdict has not arrived [07_impedance_spectroscopy.md R186]. DESIGN CHOICE (log 1). -/
  waits : List Nat := []
  /-- Spectral state of each cell [07_impedance_spectroscopy.md R184]. DESIGN CHOICE (log 1). -/
  cells : List CellSpec := []
  /-- Current phasors of the VALID blocks, for the tone entries [07_impedance_spectroscopy.md R189]. DESIGN CHOICE (log 1). -/
  curBlocks : List (List Phasor) := []
  /-- Result set of the last ended sweep [07_impedance_spectroscopy.md R189]. DESIGN CHOICE (log 1). -/
  result : Option ResultSet := none
  /-- RSER_SUM of each position's latest block status record [07_impedance_spectroscopy.md R181]. DESIGN CHOICE (log 1). -/
  rserSum : List Nat := List.replicate 8 0
  /-- Blocks of the watch group so far [07_impedance_spectroscopy.md R192]. DESIGN CHOICE (log 1). -/
  watchBlocks : Nat := 0
  /-- The watch runs ACTIVE [07_impedance_spectroscopy.md R192]. DESIGN CHOICE (log 1). -/
  watchActive : Bool := false
  /-- The first block of the watch is over [07_impedance_spectroscopy.md R192]. DESIGN CHOICE (log 1). -/
  watchGoing : Bool := false
  /-- EIS_THERMO_MODE that the watch follows [07_impedance_spectroscopy.md R199]. -/
  thermoMode : Nat := 1
  /-- EIS_THERMO_AMP that the watch follows [07_impedance_spectroscopy.md R199]. -/
  thermoAmp : Nat := 500
  /-- Frame count at which the present halt began [07_impedance_spectroscopy.md R180, R188]. DESIGN CHOICE (log 1). -/
  haltedAt : Nat := 0
  /-- Last counted stamp [07_impedance_spectroscopy.md R189]. DESIGN CHOICE (log 1). -/
  lastCounted : BitVec 32 := 0
deriving DecidableEq, Repr

/-- Impedance thermometry of one cell. -/
structure Thermo where
  /-- Normalised reference resistance (calibration region) [07_impedance_spectroscopy.md R193]. DESIGN CHOICE (log 1). -/
  rRef : Option Rat := none
  /-- Reference temperature [07_impedance_spectroscopy.md R193]. DESIGN CHOICE (log 1). -/
  tRef : Rat := 0
  /-- First point of a two-point calibration [07_impedance_spectroscopy.md R197]. DESIGN CHOICE (log 1). -/
  rRef1 : Option (Rat × Rat) := none
  /-- Age of the reference [07_impedance_spectroscopy.md R195]. DESIGN CHOICE (log 1). -/
  refAge : Nat := 0
  /-- Offset d(n) [07_impedance_spectroscopy.md R194]. -/
  d : Rat := 0
  /-- Last accepted T_IMP [07_impedance_spectroscopy.md R195]. DESIGN CHOICE (log 1). -/
  tImp : Option Int := none
  /-- Last accepted Re(Z) at f_th [07_impedance_spectroscopy.md R197]. DESIGN CHOICE (log 1). -/
  lastZ : Option Rat := none
  /-- Age of lastZ [07_impedance_spectroscopy.md R197]. DESIGN CHOICE (log 1). -/
  zAge : Option Nat := none
  /-- Frames since the last accepted estimate; none: never [07_impedance_spectroscopy.md R195 AGE]. DESIGN CHOICE (log 1). -/
  age : Option Nat := none
  /-- REJECTED [07_impedance_spectroscopy.md R195]. DESIGN CHOICE (log 1). -/
  rejected : Bool := false
  /-- Consecutive rejections [07_impedance_spectroscopy.md R193]. DESIGN CHOICE (log 1). -/
  rejectRun : Nat := 0
  /-- Re-references since shipment [07_impedance_spectroscopy.md R198]. DESIGN CHOICE (log 1). -/
  rerefs : Nat := 0
  /-- Newest re-reference in the wake and health records [07_impedance_spectroscopy.md R198]. DESIGN CHOICE (log 1). -/
  reref : Option Reref := none
  /-- Frames left of the 300 s in which the next estimate re-references the cell [07_impedance_spectroscopy.md R198]. DESIGN CHOICE (log 1). -/
  rerefWin : Nat := 0
deriving DecidableEq, Repr

/-- NTC inputs NTC1 to NTC16 on J3. -/
structure Ntc where
  /-- Temperature of each input; none: open [07_impedance_spectroscopy.md R194]. DESIGN CHOICE (log 1). -/
  temp : List (Option Int) := List.replicate 16 none
deriving DecidableEq, Repr

/-- The chemistry model table. -/
structure Tbl where
  /-- Physical banks [08_chemistry_model_table.md R207]. DESIGN CHOICE (log 9). -/
  banks : List TableBank := [{}, {}]
  /-- Bank holding the active table [08_chemistry_model_table.md R215 ACTIVE_BANK]. -/
  activeBank : Nat := 0
  /-- Staged-bank state [08_chemistry_model_table.md R215 STAGED_STATE]. -/
  staged : StagedSt := .empty
  /-- Staged tag [08_chemistry_model_table.md R208]. DESIGN CHOICE (log 1). -/
  stagedTag : BitVec 32 := 0
  /-- TABLE_FAULT [08_chemistry_model_table.md R215]. -/
  fault : Bool := false
  /-- SWITCHING [08_chemistry_model_table.md R215]. -/
  switching : Bool := false
  /-- REJECT [08_chemistry_model_table.md R215]. -/
  reject : Nat := 0
  /-- REJECT_ENTRY [08_chemistry_model_table.md R215]. -/
  rejectEntry : Nat := 0
  /-- Slices of the cells [08_chemistry_model_table.md R204]. DESIGN CHOICE (log 1). -/
  slices : List Slice := List.replicate 96 {}
  /-- Cells whose slice is to be rebuilt [08_chemistry_model_table.md R204, R211]. DESIGN CHOICE (log 1). -/
  rebuild : List Nat := []
  /-- Slices written and used from the next boundary [08_chemistry_model_table.md R204]. DESIGN CHOICE (log 1). -/
  sliceNext : List (Nat × Slice) := []
  /-- Staged blocks that wait for their NVM write and readback [08_chemistry_model_table.md R208]. DESIGN CHOICE (log 1). -/
  writing : List TblWrite := []
deriving DecidableEq, Repr

/-- The balancing planner (P38). -/
structure Bal where
  /-- STATE [09_balancing.md R233 STATE]. -/
  st : FnState := .off
  /-- SOURCE [09_balancing.md R233 SOURCE]. -/
  source : Nat := 0
  /-- Latched BAL_PLAN [09_balancing.md R233 LATCHED]. -/
  latched : Option LatchedCmd := none
  /-- HOLD [09_balancing.md R233 HOLD]. -/
  hold : Bool := false
  /-- Tap pulsed in the current slot (none: 0b1111111) [09_balancing.md R233 PULSE_TAP]. -/
  pulseTap : Option Nat := none
  /-- SLOTS_LEFT [09_balancing.md R233 SLOTS_LEFT]. -/
  slotsLeft : Nat := 0
  /-- Plan in force [09_balancing.md R218]. DESIGN CHOICE (log 1). -/
  plan : Option BalPlan := none
  /-- Plan executed whose first slot has not begun [09_balancing.md R220]. DESIGN CHOICE (log 1). -/
  pendingPlan : Option BalPlan := none
  /-- Slots of the plan in force so far [09_balancing.md R219]. DESIGN CHOICE (log 1). -/
  planSlots : Nat := 0
  /-- A slot plan has completed for the next slot [09_balancing.md R224]. DESIGN CHOICE (log 1). -/
  slotPlanned : Bool := false
  /-- The completed slot plan is that of the pending plan [09_balancing.md R220]. DESIGN CHOICE (log 1). -/
  plannedNew : Bool := false
  /-- Age at the slot's start of the figure pulsed in it (none: unknown) [09_balancing.md R226]. DESIGN CHOICE (log 1). -/
  pulseAge : Option Nat := none
  /-- Latest patterns by the window that decided them, newest first: the conducting cells [09_balancing.md R228]. DESIGN CHOICE (log 1). -/
  decs : List (Nat × List Nat) := []
  /-- Replaced plan not yet reported [09_balancing.md R220]. DESIGN CHOICE (log 1). -/
  ending : Option BalEnd := none
  /-- OUTCOME and REASON of a latched enable [17_ploza_protocol.md R422]. DESIGN CHOICE (log 1). -/
  enableOutcome : Nat × Nat := (0, 0)
  /-- Tap pulsed in the next slot [09_balancing.md R226]. DESIGN CHOICE (log 1). -/
  nextPulse : Option Nat := none
  /-- End cause of the drain [09_balancing.md R219]. DESIGN CHOICE (log 1). -/
  endCause : Nat := 0
  /-- Frame of the first all-open strobe [09_balancing.md R219]. DESIGN CHOICE (log 1). -/
  drainFrom : BitVec 32 := 0
  /-- The cells [09_balancing.md R233]. -/
  cells : List BalCell := List.replicate 96 {}
  /-- Port and SEQ of the BAL_STOP [09_balancing.md R219]. DESIGN CHOICE (log 1). -/
  stopBy : Option DeferRef := none
  /-- Slots since the target refinement job last completed (0: never) [09_balancing.md R223]. DESIGN CHOICE (log 1). -/
  refineSlots : Nat := 0
  /-- Target refinement has completed at least once [09_balancing.md R223]. DESIGN CHOICE (log 1). -/
  refined : Bool := false
  /-- Frames since each tap's last conclusive step [09_balancing.md R229]. DESIGN CHOICE (log 1). -/
  owAge : List Nat := List.replicate 98 0
  /-- Number of the slot that has begun [09_balancing.md R224]. DESIGN CHOICE (log 1). -/
  slotNo : Nat := 0
  /-- BAL_MIN_V_MV as of the latest plan computed [09_balancing.md R234]. -/
  minV : Nat := 33000
  /-- BAL_EIS_HOLD = ALWAYS as of the latest plan computed [09_balancing.md R234]. -/
  eisHold : Bool := false
  /-- BAL_IN_WATCH as of the latest plan computed [09_balancing.md R234]. -/
  inWatch : Nat := 1
  /-- Tap whose step is frozen [09_balancing.md R229]. DESIGN CHOICE (log 1). -/
  freezeTap : Option Nat := none
deriving DecidableEq, Repr

/-- The fault cause register, the fault line and the protection records. -/
structure Prot where
  /-- Fault cause register, bits 31..22, FIFO_OVERFLOW and DIE_MASK as latched [10_hardware_protection.md R244 Table 10.3]. -/
  cause : BitVec 32 := 0
  /-- Causes that are present now, bit 9 CELL_OV down to bit 0 PROT_ONLY [10_hardware_protection.md R244]. DESIGN CHOICE (log 1). -/
  present : BitVec 10 := 0
  /-- Plant time at which each cause was last withdrawn, PROT_ONLY first [10_hardware_protection.md R244]. DESIGN CHOICE (log 1). -/
  clearAt : List (BitVec 64) := List.replicate 10 0
  /-- Die that the newest occurrence of each cause named, bit 22 first (0: none) [10_hardware_protection.md R247]. DESIGN CHOICE (log 1). -/
  lastDie : List Nat := List.replicate 10 0
  /-- Dies whose fault channel shows OV [10_hardware_protection.md R237]. DESIGN CHOICE (log 1). -/
  feOv : BitVec 7 := 0
  /-- Dies whose fault channel shows UV [10_hardware_protection.md R237]. DESIGN CHOICE (log 1). -/
  feUv : BitVec 7 := 0
  /-- The FAULT_N line is low [10_hardware_protection.md Table 10.3 LINE_LOW]. -/
  lineLow : Bool := false
  /-- Capture FIFO, oldest first [10_hardware_protection.md R247]. DESIGN CHOICE (log 1). -/
  fifo : List CapEntry := []
  /-- Ring of the protection-event region, newest first [10_hardware_protection.md R247]. DESIGN CHOICE (log 1). -/
  recs : List ProtRec := []
  /-- Records written since shipment [10_hardware_protection.md R247]. DESIGN CHOICE (log 1). -/
  seq : Nat := 0
  /-- Protection set held by the lane in charge [10_hardware_protection.md R245]. -/
  set : ThrSet := {}
  /-- Protection set of the active configuration image [10_hardware_protection.md R246]. -/
  image : ThrSet := {}
  /-- The active image fails its CRC [10_hardware_protection.md R246]. DESIGN CHOICE (log 1). -/
  imageBad : Bool := false
  /-- Committed set that takes effect at the strobe two frames after its boundary [01_one_frame.md R29, 10_hardware_protection.md R245]. DESIGN CHOICE (log 1). -/
  setPending : Option ThrSet := none
  /-- Strobes until it takes effect [01_one_frame.md R29]. DESIGN CHOICE (log 1). -/
  setAge : Nat := 0
  /-- Frame of the latest overcurrent trip [03_current_front_end.md R77, 10_hardware_protection.md R244]. DESIGN CHOICE (log 1). -/
  ocFrame : BitVec 32 := 0
  /-- The newest trip was in the charge direction [03_current_front_end.md R77]. DESIGN CHOICE (log 1). -/
  ocCharge : Bool := false
deriving DecidableEq, Repr

/-- One converter phase. -/
structure Phase where
  /-- Phase state [11_string_converter.md R275 STATE]. -/
  st : PhaseSt := .off
  /-- Current-sharing trim (a fraction) [11_string_converter.md R259, R275 TRIM]. -/
  trim : Single := {}
  /-- Share factor [11_string_converter.md R256, R261]. DESIGN CHOICE (log 1). -/
  share8 : Nat := 8
  /-- DAC code of the last period [11_string_converter.md R275]. -/
  peakCode : Nat := 0x800
  /-- SENSE_BAD [11_string_converter.md R275]. -/
  senseBad : Bool := false
  /-- Consecutive sub-periods outside the sense range [11_string_converter.md R263]. DESIGN CHOICE (log 1). -/
  senseBadRun : Nat := 0
  /-- Consecutive sub-periods with the trim at its limit [11_string_converter.md R263]. DESIGN CHOICE (log 1). -/
  shareRun : Nat := 0
  /-- ILIM_RUN, saturating at 0xFF [11_string_converter.md R275]. -/
  ilimRun : Nat := 0
  /-- Reading of the latest control sample [11_string_converter.md R258]. DESIGN CHOICE (log 1). -/
  read : Rat := 0
  /-- Sensor voltage of that reading [11_string_converter.md R250]. DESIGN CHOICE (log 1). -/
  vSense : Rat := 0
  /-- Peak reference the phase applies [11_string_converter.md R257]. DESIGN CHOICE (log 1). -/
  iPk : Rat := 0
  /-- Start offset after phase 1 [11_string_converter.md R254]. DESIGN CHOICE (log 1). -/
  offset : Nat := 0
  /-- Target offset [11_string_converter.md R257, R261]. DESIGN CHOICE (log 1). -/
  target : Nat := 0
  /-- Trim taken at the latest output instant [11_string_converter.md R257]. DESIGN CHOICE (log 1). -/
  trimOut : Single := {}
  /-- The reference of the present period was clamped [11_string_converter.md R256]. DESIGN CHOICE (log 1). -/
  clamped : Bool := false
  /-- Periods left of a re-spread [11_string_converter.md R261]. DESIGN CHOICE (log 1). -/
  spread : Nat := 0
  /-- Period starts left of a ramp-out [11_string_converter.md R261]. DESIGN CHOICE (log 1). -/
  ramp : Nat := 0
  /-- The control switch is that of charge [11_string_converter.md R254]. DESIGN CHOICE (log 1). -/
  dirChg : Bool := false
  /-- Control-switch duty of the last complete period [11_string_converter.md R274]. DESIGN CHOICE (log 1). -/
  duty : Nat := 0
  /-- A switching period of the phase is running [11_string_converter.md R254, R255]. DESIGN CHOICE (log 1). -/
  inPeriod : Bool := false
  /-- Fraction of the last complete period with the high-side switch conducting [12_control_engine.md R289]. DESIGN CHOICE (log 1). -/
  hsFrac : Rat := 0
deriving DecidableEq, Repr

/-- The converter of the owner and P36. -/
structure Conv where
  /-- Converter state [11_string_converter.md R275 STATE]. -/
  st : FnState := .off
  /-- This module is converter owner [11_string_converter.md R275 OWNER]. -/
  owner : Bool := false
  /-- HW_LATCH [11_string_converter.md R275]. -/
  hwLatch : Bool := false
  /-- FAULT_LATCH [11_string_converter.md R275]. -/
  faultLatch : Bool := false
  /-- HICCUP [11_string_converter.md R275]. -/
  hiccup : Bool := false
  /-- Latched CONV_ENABLE [11_string_converter.md R275 LATCHED_ENABLE]. -/
  latched : Option LatchedCmd := none
  /-- SHED_BUSY [11_string_converter.md R275]. -/
  shedBusy : Bool := false
  /-- STEP_BLOCK [11_string_converter.md R275]. -/
  stepBlock : Bool := false
  /-- CUR_LIMITED of the last sub-period [11_string_converter.md R275]. -/
  curLimited : Bool := false
  /-- CUR_LIMITED of the sub-period before [12_control_engine.md R289]. DESIGN CHOICE (log 1). -/
  curLimPrev : Bool := false
  /-- A current-limited period in the running sub-period [11_string_converter.md R256]. DESIGN CHOICE (log 1). -/
  curLimNow : Bool := false
  /-- SS_ACTIVE [11_string_converter.md R275]. -/
  ssActive : Bool := false
  /-- FAULT_MASK [11_string_converter.md R275]. -/
  faultMask : BitVec 8 := 0
  /-- LAST_CAUSE [11_string_converter.md R275]. -/
  lastCause : Nat := 0
  /-- CAPTURE_OVERFLOW [11_string_converter.md R275]. -/
  capOverflow : Bool := false
  /-- RECORDS, saturating [11_string_converter.md R275]. -/
  records : Nat := 0
  /-- Converter enable held by the output register [14_lanes_and_failover.md R332, 01_one_frame.md R26]. DESIGN CHOICE (log 1). -/
  enabled : Bool := false
  /-- PWM outputs may switch [11_string_converter.md R251]. DESIGN CHOICE (log 1). -/
  gatesOn : Bool := false
  /-- GD_EN [11_string_converter.md R251]. -/
  gdEn : Bool := false
  /-- GD_FAULT_N reads low [11_string_converter.md R251]. DESIGN CHOICE (log 1). -/
  gdFaultLow : Bool := false
  /-- Time GD_FAULT_N has been low while GD_EN is low [11_string_converter.md R265]. DESIGN CHOICE (log 1). -/
  gdFaultUs : Nat := 0
  /-- Control samples since GD_EN rose, up to 40 [11_string_converter.md R266]. DESIGN CHOICE (log 1). -/
  gdEnSubs : Nat := 0
  /-- Step of STARTING: 0 zero check, 1 gate drivers, 2 waiting for soft-start, 3 soft-start [11_string_converter.md R266]. DESIGN CHOICE (log 1). -/
  startStep : Nat := 0
  /-- Control samples of the zero check taken [11_string_converter.md R266]. DESIGN CHOICE (log 1). -/
  zeroSamples : Nat := 0
  /-- Output instants until the soft-start begins [11_string_converter.md R266]. DESIGN CHOICE (log 1). -/
  ssWait : Nat := 0
  /-- Soft-start limit [11_string_converter.md R266]. DESIGN CHOICE (log 1). -/
  ssLimit : Rat := 0
  /-- The limit has reached the rated current [11_string_converter.md R266]. DESIGN CHOICE (log 1). -/
  ssReached : Bool := false
  /-- FAULT_LATCH is set at the boundary at which the state becomes OFF [11_string_converter.md R270]. DESIGN CHOICE (log 1). -/
  latchPend : Bool := false
  /-- A stop has occurred: OFF at the next boundary [11_string_converter.md R270]. DESIGN CHOICE (log 1). -/
  toOff : Bool := false
  /-- A hiccup has occurred: STARTING with HICCUP at the next boundary [11_string_converter.md R272]. DESIGN CHOICE (log 1). -/
  toHiccup : Bool := false
  /-- Hiccup off-time [11_string_converter.md R272]. DESIGN CHOICE (log 1). -/
  hiccupOff : Bool := false
  /-- Starts of the retries within HICCUP_WINDOW_S, newest first [11_string_converter.md R273, R275 RETRIES]. -/
  retries : List (BitVec 64) := []
  /-- End cause of the drain [11_string_converter.md R267]. DESIGN CHOICE (log 1). -/
  drainCause : Nat := 0
  /-- Consecutive sub-periods meeting the drain condition [11_string_converter.md R267]. DESIGN CHOICE (log 1). -/
  drainOk : Nat := 0
  /-- Drain complete: OFF at the next boundary [11_string_converter.md R267]. DESIGN CHOICE (log 1). -/
  drainDone : Bool := false
  /-- Outcome of a latched enable and its reason [11_string_converter.md R267]. DESIGN CHOICE (log 1). -/
  enableOutcome : Nat × Nat := (0, 0)
  /-- Control samples since DRAINING began, up to 40,000 [11_string_converter.md R267]. DESIGN CHOICE (log 1). -/
  drainSubs : Nat := 0
  /-- Control samples since the hiccup trigger, up to 40,000 [11_string_converter.md R272]. DESIGN CHOICE (log 1). -/
  hiccupSubs : Nat := 0
  /-- Control samples since the output that began the step block, up to 40,000 [11_string_converter.md R262]. DESIGN CHOICE (log 1). -/
  stepSubs : Nat := 0
  /-- Port and SEQ of the CONV_DISABLE [11_string_converter.md R267]. DESIGN CHOICE (log 1). -/
  drainBy : Option DeferRef := none
  /-- Sub-periods of low load [11_string_converter.md R260]. DESIGN CHOICE (log 1). -/
  shedTimer : Nat := 0
  /-- Low load has held for SHED_DWELL_MS [11_string_converter.md R260]. DESIGN CHOICE (log 1). -/
  shedReady : Bool := false
  /-- Sub-periods since the previous shed or add decision (none: no decision yet) [11_string_converter.md R260]. DESIGN CHOICE (log 1). -/
  spacing : Option Nat := none
  /-- Phase in ramp-out [11_string_converter.md R261]. DESIGN CHOICE (log 1). -/
  shedPhase : Option Nat := none
  /-- STEP of the set P36 wrote last [11_string_converter.md R262]. DESIGN CHOICE (log 1). -/
  stepFlag : Bool := false
  /-- Sub-periods since the output that carried a STEP, up to 8 [12_control_engine.md R289]. DESIGN CHOICE (log 1). -/
  stepSince : Nat := 8
  /-- Sub-periods since the output that carried a changed active set, up to 8 [12_control_engine.md R289]. DESIGN CHOICE (log 1). -/
  setSince : Nat := 8
  /-- P36's set of this sub-period changes the active set [12_control_engine.md R289]. DESIGN CHOICE (log 1). -/
  setChanged : Bool := false
  /-- I_CONV of the latest control sample [11_string_converter.md R258]. DESIGN CHOICE (log 1). -/
  iConv : Rat := 0
  /-- I_CONV of the sub-period before [11_string_converter.md R262]. DESIGN CHOICE (log 1). -/
  iConvPrev : Rat := 0
  /-- Bus reading [11_string_converter.md R258]. DESIGN CHOICE (log 1). -/
  vBus : Rat := 0
  /-- Bus-sense input [11_string_converter.md R250]. DESIGN CHOICE (log 1). -/
  vBusSense : Rat := 0
  /-- Consecutive sub-periods with the bus out of range [11_string_converter.md R270 cause 6]. DESIGN CHOICE (log 1). -/
  busRun : Nat := 0
  /-- Captures waiting, oldest first [11_string_converter.md R274]. DESIGN CHOICE (log 1). -/
  fifo : List ConvCap := []
  /-- Slots 1 to 64, newest first [11_string_converter.md R274]. DESIGN CHOICE (log 1). -/
  ring : List ConvRec := []
  /-- Last-fault slot 0 [11_string_converter.md R274]. DESIGN CHOICE (log 1). -/
  lastFault : Option ConvRec := none
  /-- A STOP or LATCH record was captured since the converter last left OFF [11_string_converter.md R274]. DESIGN CHOICE (log 1). -/
  stopRecorded : Bool := false
  /-- Records written since shipment [11_string_converter.md R274]. DESIGN CHOICE (log 1). -/
  seq : Nat := 0
  /-- Time the FAULT_N line has been high [11_string_converter.md R271]. DESIGN CHOICE (log 1). -/
  lineHighUs : Nat := 0
deriving DecidableEq, Repr

/-- The control law, the supervisor and the output sets (P34, P35). -/
structure Law where
  /-- Law mode in force [12_control_engine.md R295 LAW_MODE]. -/
  mode : LawMode := .current
  /-- Target stored by CONV_SETPOINT [12_control_engine.md R281]. DESIGN CHOICE (log 1). -/
  target : Int := 0
  /-- Law mode stored by CONV_SETPOINT [12_control_engine.md R281]. DESIGN CHOICE (log 1). -/
  newMode : LawMode := .current
  /-- Law mode held by the output register [14_lanes_and_failover.md R332, 01_one_frame.md R26]. DESIGN CHOICE (log 1). -/
  outMode : LawMode := .current
  /-- Setpoint target held by the output register [14_lanes_and_failover.md R332, 01_one_frame.md R26]. DESIGN CHOICE (log 1). -/
  outTarget : Int := 0
  /-- A mode change acts at the next control sample [12_control_engine.md R283]. DESIGN CHOICE (log 1). -/
  modeChange : Bool := false
  /-- Slewed target (mA, W or mV) [12_control_engine.md R280, R282]. DESIGN CHOICE (log 1). -/
  x : Single := {}
  /-- Voltage integrator (A) [12_control_engine.md R280, R284]. DESIGN CHOICE (log 1). -/
  vint : Single := {}
  /-- Current-loop integrator LAW_INT (A) [12_control_engine.md R280, R288]. DESIGN CHOICE (log 1). -/
  lint : Single := {}
  /-- Notch state s1 [12_control_engine.md R280, R286]. DESIGN CHOICE (log 1). -/
  s1 : Single := {}
  /-- Notch state s2 [12_control_engine.md R280, R286]. DESIGN CHOICE (log 1). -/
  s2 : Single := {}
  /-- Supervisor model (A) [12_control_engine.md R280, R289]. DESIGN CHOICE (log 1). -/
  m : Single := {}
  /-- I_REF of the latest computation [12_control_engine.md R287]. DESIGN CHOICE (log 1). -/
  iRef : Rat := 0
  /-- I_REF of the previous output [12_control_engine.md R293]. DESIGN CHOICE (log 1). -/
  iRefPrev : Rat := 0
  /-- N_eff of the previous output [12_control_engine.md R279, R293]. DESIGN CHOICE (log 1). -/
  nEff : Rat := 0
  /-- Dem before clamps [12_control_engine.md R295]. DESIGN CHOICE (log 1). -/
  iTarget : Rat := 0
  /-- V_REF [12_control_engine.md R284]. -/
  vRef : Option Rat := none
  /-- I_PK in force [12_control_engine.md R288]. DESIGN CHOICE (log 1). -/
  iPk : Rat := 0
  /-- Branch current in use [12_control_engine.md R279]. DESIGN CHOICE (log 1). -/
  iBr : Rat := 0
  /-- String voltage in use [12_control_engine.md R279]. DESIGN CHOICE (log 1). -/
  vStr : Rat := 0
  /-- P35 runs the safe law [12_control_engine.md R291]. DESIGN CHOICE (log 1). -/
  safeRun : Bool := false
  /-- An earlier declaration within PLAUS_LATCH_S: FAULT_LATCH is set with the stop [12_control_engine.md R292]. DESIGN CHOICE (log 1). -/
  safeLatch : Bool := false
  /-- SAFE_LAW [12_control_engine.md R295]. -/
  safeLaw : Bool := false
  /-- SLEWING [12_control_engine.md R295]. -/
  slewing : Bool := false
  /-- CLAMP_STRING [12_control_engine.md R295]. -/
  clampString : Bool := false
  /-- CLAMP_RATED [12_control_engine.md R295]. -/
  clampRated : Bool := false
  /-- DRAIN_RAMP [12_control_engine.md R295]. -/
  drainRamp : Bool := false
  /-- EXC_ON [12_control_engine.md R295]. -/
  excOn : Bool := false
  /-- LAW_SAT [12_control_engine.md R295]. -/
  lawSat : Bool := false
  /-- CFE_HELD [12_control_engine.md R295]. -/
  cfeHeld : Bool := false
  /-- CFE_FALLBACK [12_control_engine.md R295]. -/
  cfeFallback : Bool := false
  /-- SET_REPEATED [12_control_engine.md R295]. -/
  setRepeated : Bool := false
  /-- EXC_C [12_control_engine.md R295]. -/
  excC : Bool := false
  /-- EXC_S [12_control_engine.md R295]. -/
  excS : Bool := false
  /-- EXC_V [12_control_engine.md R295]. -/
  excV : Bool := false
  /-- PLAUS_COUNT [12_control_engine.md R295]. -/
  plausCount : Nat := 0
  /-- Consecutive repeated sets of P34, P35 and P36 [12_control_engine.md R295 HELD_SETS]. -/
  heldSets : List Nat := [0, 0, 0]
  /-- MISSED_SETS, saturating [12_control_engine.md R295]. -/
  missedSets : Nat := 0
  /-- RHO_C; none: suppressed [12_control_engine.md R295]. DESIGN CHOICE (log 1). -/
  rhoC : Option Rat := none
  /-- RHO_S; none: suppressed [12_control_engine.md R295]. DESIGN CHOICE (log 1). -/
  rhoS : Option Rat := none
  /-- RHO_V; none: suppressed [12_control_engine.md R295]. DESIGN CHOICE (log 1). -/
  rhoV : Option Rat := none
  /-- Sub-periods I_BR and V_STR have been held [12_control_engine.md R279]. DESIGN CHOICE (log 1). -/
  heldSubs : Nat := 0
  /-- Consecutive valid local samples [12_control_engine.md R279]. DESIGN CHOICE (log 1). -/
  goodSubs : Nat := 0
  /-- Sets written for the next output instant [12_control_engine.md R277]. DESIGN CHOICE (log 1). -/
  sets : OutSet := {}
  /-- I0 of the safe law [12_control_engine.md R291]. DESIGN CHOICE (log 1). -/
  safeI0 : Rat := 0
  /-- P34's last total peak reference [12_control_engine.md R291]. DESIGN CHOICE (log 1). -/
  safeTotal : Rat := 0
  /-- I_SAFE [12_control_engine.md R291]. DESIGN CHOICE (log 1). -/
  iSafe : Rat := 0
  /-- Output instants since the output that carried I_SAFE = 0 [12_control_engine.md R291]. DESIGN CHOICE (log 1). -/
  safeZeroOut : Nat := 0
  /-- Cause of the safe law: LOOP_IMPLAUSIBLE or LOOP_FAULT [12_control_engine.md R291, R294]. DESIGN CHOICE (log 1). -/
  safeCause : Nat := 0
  /-- Times of the declarations of LOOP_IMPLAUSIBLE, newest first [12_control_engine.md R292]. DESIGN CHOICE (log 1). -/
  loopStops : List (BitVec 64) := []
  /-- Slot 35 is lost: P34 ramps I_REF to 0 at 10 A/ms [12_control_engine.md R294]. DESIGN CHOICE (log 1). -/
  rampDown : Bool := false
deriving DecidableEq, Repr

/-- The Ceyth ring interface. -/
structure Ring where
  /-- Own position [13_ceyth_ring.md R329 POSITION]. -/
  position : Nat := 0
  /-- Position stored at the last enumeration (non-volatile) [13_ceyth_ring.md R300]. DESIGN CHOICE (log 1). -/
  enumPos : Option Nat := none
  /-- ADDR2..ADDR0 as read at the start-up from cold [13_ceyth_ring.md R300]. DESIGN CHOICE (log 1). -/
  straps : Nat := 0
  /-- Primary position [13_ceyth_ring.md R329 PRIMARY]. -/
  primary : Nat := 0
  /-- RING_STATE [13_ceyth_ring.md R329 RING_STATE]. -/
  st : RingSt := .closed
  /-- IS_PRIMARY [13_ceyth_ring.md R329]. -/
  isPrimary : Bool := false
  /-- TIME_LOCKED [13_ceyth_ring.md R329]. -/
  timeLocked : Bool := false
  /-- CW_UP [13_ceyth_ring.md R329]. -/
  cwUp : Bool := false
  /-- CCW_UP [13_ceyth_ring.md R329]. -/
  ccwUp : Bool := false
  /-- Regenerating the CW copy [13_ceyth_ring.md R320 REGEN_CW]. -/
  regenCw : Bool := false
  /-- Regenerating the CCW copy [13_ceyth_ring.md R320 REGEN_CCW]. -/
  regenCcw : Bool := false
  /-- POS_MISMATCH [13_ceyth_ring.md R329]. -/
  posMismatch : Bool := false
  /-- Consecutive frames that contradict POS_MISMATCH's present value [13_ceyth_ring.md R301]. DESIGN CHOICE (log 1). -/
  misRun : Nat := 0
  /-- CONFIG_CONFLICT [13_ceyth_ring.md R329]. -/
  configConflict : Bool := false
  /-- The last enumeration found another number of modules [13_ceyth_ring.md R302]. DESIGN CHOICE (log 1). -/
  conflictEnum : Bool := false
  /-- HEADER_MISS [13_ceyth_ring.md R329]. -/
  headerMiss : Bool := false
  /-- Live positions [13_ceyth_ring.md R329 LIVE]. -/
  live : BitVec 8 := 0
  /-- Live and eligible positions [13_ceyth_ring.md R305 ELIGIBLE]. DESIGN CHOICE (log 1). -/
  eligible : BitVec 8 := 0
  /-- First broken link [13_ceyth_ring.md R324, R329 BREAK]. -/
  break1 : Option Nat := none
  /-- Second broken link [13_ceyth_ring.md R324]. DESIGN CHOICE (log 1). -/
  break2 : Option Nat := none
  /-- RELAYING [13_ceyth_ring.md R329]. -/
  relaying : Bool := false
  /-- Election term [13_ceyth_ring.md R329 TERM]. -/
  term : Nat := 0
  /-- ELECTIONS, saturating [13_ceyth_ring.md R329]. -/
  elections : Nat := 0
  /-- BREAKS, saturating [13_ceyth_ring.md R329]. -/
  breaks : Nat := 0
  /-- TIME_SRC: 0 FREE, 1 SYNC_IN [13_ceyth_ring.md R305, R317]. DESIGN CHOICE (log 1). -/
  timeSrc : Nat := 0
  /-- Correction that the last PPS edge asks of the length of a frame, at most 10 ns [13_ceyth_ring.md R315, R317]. DESIGN CHOICE (log 1). -/
  ppsNs : Int := 0
  /-- Consecutive frames that contradict TIME_LOCKED's present value [13_ceyth_ring.md R315]. DESIGN CHOICE (log 1). -/
  lockRun : Nat := 0
  /-- The frame timer runs in holdover [13_ceyth_ring.md R315]. DESIGN CHOICE (log 1). -/
  holdover : Bool := false
  /-- Slot used for each position in the latest harvest [13_ceyth_ring.md R309]. DESIGN CHOICE (log 1). -/
  slots : List (Option Slot) := List.replicate 8 none
  /-- Consecutive frames each position has not been live [13_ceyth_ring.md R309]. DESIGN CHOICE (log 1). -/
  notLive : List Nat := List.replicate 8 0
  /-- Consecutive frames each position has been eligible and time-locked [13_ceyth_ring.md R322]. DESIGN CHOICE (log 1). -/
  eligRun : List Nat := List.replicate 8 0
  /-- Handover target named in the header [13_ceyth_ring.md R322]. DESIGN CHOICE (log 1). -/
  handover : Option Nat := none
  /-- It becomes primary at the next boundary [13_ceyth_ring.md R321]. DESIGN CHOICE (log 1). -/
  becomePrimary : Bool := false
  /-- FORMING frames left [13_ceyth_ring.md R302]. DESIGN CHOICE (log 1). -/
  forming : Nat := 0
  /-- Hop count received in FORMING [13_ceyth_ring.md R302]. DESIGN CHOICE (log 1). -/
  hopSeen : Option Nat := none
  /-- Modules found by the enumeration [13_ceyth_ring.md R302]. DESIGN CHOICE (log 1). -/
  enumFound : Nat := 0
  /-- Port and SEQ of the RING_ENUMERATE [13_ceyth_ring.md R302]. DESIGN CHOICE (log 1). -/
  enumBy : Option DeferRef := none
  /-- Slot content fixed for the present emission [13_ceyth_ring.md R307]. DESIGN CHOICE (log 1). -/
  ownSlot : Option Slot := none
  /-- Frame in which the slot content was fixed [13_ceyth_ring.md R307]. DESIGN CHOICE (log 1). -/
  slotFrame : Option (BitVec 32) := none
  /-- The slot as inserted into both copies [13_ceyth_ring.md R306]. DESIGN CHOICE (log 1). -/
  slotOut : List (BitVec 8) := []
  /-- Side window emitted with the CW and the CCW copy [13_ceyth_ring.md R310]. DESIGN CHOICE (log 1). -/
  sideOut : List (List (BitVec 8)) := [[], []]
  /-- The CW and the CCW copy of the ring frame as this module emits them [13_ceyth_ring.md R299, R304]. DESIGN CHOICE (log 1). -/
  copyOut : List (List (BitVec 8)) := [[], []]
  /-- Change of the length of the frame that the time loop asks for, at most 10 ns [13_ceyth_ring.md R315]. DESIGN CHOICE (log 1). -/
  adjNs : Int := 0
  /-- TIME_LOCKED and its run before a header of the other port stood in for the preferred one [13_ceyth_ring.md R315]. DESIGN CHOICE (log 1). -/
  lockSave : Option (Bool × Nat) := none
  /-- Plant time of the strobe of the frame of the last PPS edge [13_ceyth_ring.md R317]. DESIGN CHOICE (log 1). -/
  ppsAt : BitVec 64 := 0
  /-- Frame of the last valid header [13_ceyth_ring.md R322]. DESIGN CHOICE (log 1). -/
  hdrFrame : Option (BitVec 32) := none
  /-- STATE bits written by the lane at the boundary [13_ceyth_ring.md R307 Table 13.4]. -/
  slotState : BitVec 32 := 0
  /-- Packets waiting for the downlink, in order of arrival [13_ceyth_ring.md R313]. DESIGN CHOICE (log 1). -/
  dnQueue : List RingMsg := []
  /-- MSG number of the downlink [13_ceyth_ring.md R312]. DESIGN CHOICE (log 1). -/
  dnMsg : Nat := 0
  /-- Downlink segment of the present header [13_ceyth_ring.md R305]. DESIGN CHOICE (log 1). -/
  dnSeg : List (BitVec 8) := []
  /-- Messages waiting for the uplink [13_ceyth_ring.md R314]. DESIGN CHOICE (log 1). -/
  upQueue : List RingMsg := []
  /-- MSG number of the uplink [13_ceyth_ring.md R312]. DESIGN CHOICE (log 1). -/
  upMsg : Nat := 0
  /-- Downlink message under reassembly [13_ceyth_ring.md R312]. DESIGN CHOICE (log 1). -/
  rxDn : Option Reasm := none
  /-- Uplink messages under reassembly, by position [13_ceyth_ring.md R312]. DESIGN CHOICE (log 1). -/
  rxUp : List (Option Reasm) := List.replicate 8 none
  /-- Forwarded packets that wait for a reply [13_ceyth_ring.md R313]. DESIGN CHOICE (log 1). -/
  fwd : List FwdRef := []
  /-- Header written by the primary for the present ring frame [13_ceyth_ring.md R305]. DESIGN CHOICE (log 1). -/
  header : List (BitVec 8) := []
  /-- Side-window entries this module writes [13_ceyth_ring.md R310]. DESIGN CHOICE (log 1). -/
  sideTx : List (Option CurRec) := List.replicate 4 none
  /-- MAIN entries relayed into the CW copy [13_ceyth_ring.md R325]. DESIGN CHOICE (log 1). -/
  sideRelayCw : List (Option CurRec) := [none, none]
  /-- MAIN entries relayed into the CCW copy [13_ceyth_ring.md R325]. DESIGN CHOICE (log 1). -/
  sideRelayCcw : List (Option CurRec) := [none, none]
  /-- EIS control records that wait for a header, oldest first [13_ceyth_ring.md R305 EIS, 07_impedance_spectroscopy.md R186]. DESIGN CHOICE (log 1). -/
  eisCtl : List (List (BitVec 8)) := []
  /-- Converter owner position [13_ceyth_ring.md R305 OWNER]. DESIGN CHOICE (log 1). -/
  ownerPos : Option Nat := none
  /-- Plant time at which it began its last tone [13_ceyth_ring.md R328]. DESIGN CHOICE (log 1). -/
  toneFrom : Option (BitVec 64) := none
  /-- The module sends a ring wake tone [13_ceyth_ring.md R328]. DESIGN CHOICE (log 1). -/
  toneSending : Bool := false
  /-- Satellites whose slot has shown PROT_ONLY [14_lanes_and_failover.md R349]. DESIGN CHOICE (log 1). -/
  protSeen : BitVec 8 := 0
deriving DecidableEq, Repr

/-- One lane. -/
structure Lane where
  /-- In charge, standby, rebooting, retired or off [14_lanes_and_failover.md R338]. DESIGN CHOICE (log 1). -/
  st : LaneSt := .standby
  /-- X_RETIRED [14_lanes_and_failover.md R354]. -/
  retired : Bool := false
  /-- X_RETIRE_COUNT [14_lanes_and_failover.md R354]. -/
  retireCount : Nat := 0
  /-- Lockstep clean and last self-test passed [14_lanes_and_failover.md R337 LOCKSTEP]. DESIGN CHOICE (log 1). -/
  lockstepOk : Bool := true
  /-- No uncorrectable SRAM error since the last self-test [14_lanes_and_failover.md R337 MEMORY]. DESIGN CHOICE (log 1). -/
  memOk : Bool := true
  /-- Output path verified since the start-up from cold [14_lanes_and_failover.md R337 OUTPUT_PATH]. DESIGN CHOICE (log 1). -/
  outOk : Bool := false
  /-- Absorbed lane events of the last 864,000,000 frames [14_lanes_and_failover.md R337 RECORD]. DESIGN CHOICE (log 1). -/
  laneEvents : List Nat := []
  /-- Corrected SRAM errors of the last 36,000,000 frames [14_lanes_and_failover.md R343]. DESIGN CHOICE (log 1). -/
  eccFrames : List Nat := []
  /-- Reboots of the last 864,000,000 frames [14_lanes_and_failover.md R344]. DESIGN CHOICE (log 1). -/
  reboots : List Nat := []
  /-- Reruns in which the lane's belief differed, last 36,000,000 frames [14_lanes_and_failover.md R338]. DESIGN CHOICE (log 1). -/
  beliefDiffs : List Nat := []
  /-- The lane is current [14_lanes_and_failover.md R334]. DESIGN CHOICE (log 1). -/
  current : Bool := false
  /-- MIRROR_SEQ of the last mirror applied [14_lanes_and_failover.md R334]. DESIGN CHOICE (log 1). -/
  lastMirror : Option (BitVec 32) := none
  /-- Last mirror applied [14_lanes_and_failover.md R334]. DESIGN CHOICE (log 1). -/
  mirror : Option MirrorMsg := none
  /-- The lane is resyncing [14_lanes_and_failover.md R335]. DESIGN CHOICE (log 1). -/
  resync : Bool := false
  /-- SRAM banks kept and sealed [16_power_states.md R382]. DESIGN CHOICE (log 1). -/
  sealed : BitVec 8 := 0
  /-- Next block of its copy of the active table that the lane checks [08_chemistry_model_table.md R214]. DESIGN CHOICE (log 1). -/
  tblIdx : Nat := 0
deriving DecidableEq, Repr

/-- The token, the lanes together and the absorbed events. -/
structure Lanes where
  /-- The token is held [14_lanes_and_failover.md R354 VALID]. -/
  valid : Bool := false
  /-- HOLDER: false A, true B [14_lanes_and_failover.md R354 HOLDER]. -/
  holder : Bool := false
  /-- LAST [14_lanes_and_failover.md R336]. -/
  last : Bool := true
  /-- SWAP_ACTIVE [14_lanes_and_failover.md R354]. -/
  swapActive : Bool := false
  /-- SWAP_OVERDUE [14_lanes_and_failover.md R354]. -/
  swapOverdue : Bool := false
  /-- HOLD [14_lanes_and_failover.md R354]. -/
  hold : Bool := false
  /-- PROT_ONLY [14_lanes_and_failover.md R354]. -/
  protOnly : Bool := false
  /-- Cause of the protection-only state [14_lanes_and_failover.md R349]. DESIGN CHOICE (log 1). -/
  protCause : Nat := 0
  /-- Reduced form: no pan runs and no slot is inserted [16_power_states.md R401]. DESIGN CHOICE (log 1). -/
  protReduced : Bool := false
  /-- FALLBACK runs [14_lanes_and_failover.md R348]. DESIGN CHOICE (log 1). -/
  fallback : Bool := false
  /-- I_REF decrease of FALLBACK per sub-period [14_lanes_and_failover.md R348]. DESIGN CHOICE (log 1). -/
  fallbackStep : Rat := 0
  /-- Events counted by the always-on domain in that state [14_lanes_and_failover.md R352]. DESIGN CHOICE (log 1). -/
  protEvents : Nat := 0
  /-- LAST_SWAP_RESULT [14_lanes_and_failover.md R354]. -/
  lastSwap : Nat := 0
  /-- SWITCHOVERS, saturating [14_lanes_and_failover.md R354]. -/
  switchovers : Nat := 0
  /-- RERUNS, saturating [14_lanes_and_failover.md R354]. -/
  reruns : Nat := 0
  /-- SWAPS, saturating [14_lanes_and_failover.md R354]. -/
  swaps : Nat := 0
  /-- REBOOTS, saturating [14_lanes_and_failover.md R354]. -/
  rebootCount : Nat := 0
  /-- A swap is due [14_lanes_and_failover.md R345]. DESIGN CHOICE (log 1). -/
  swapDue : Bool := false
  /-- Frames since the last completed swap or start-up [14_lanes_and_failover.md R345]. DESIGN CHOICE (log 1). -/
  swapTimer : Nat := 0
  /-- Frames after which the next swap falls due [14_lanes_and_failover.md R347, R355]. -/
  swapNext : Nat := 864000000
  /-- Corrected SRAM errors ask for a swap [14_lanes_and_failover.md R343 Table 14.2]. DESIGN CHOICE (log 1). -/
  eccSwap : Bool := false
  /-- Frames of the check of a swap [14_lanes_and_failover.md R347]. DESIGN CHOICE (log 1). -/
  swapFrames : Nat := 0
  /-- Frame in which VALID last cleared [14_lanes_and_failover.md R338, R348]. DESIGN CHOICE (log 1). -/
  releasedAt : BitVec 32 := 0
  /-- Frame of the last notice of the protection-only state [14_lanes_and_failover.md R349]. DESIGN CHOICE (log 1). -/
  protAt : BitVec 32 := 0
  /-- Control samples in the protection-only state, up to 8,000 [14_lanes_and_failover.md R348]. DESIGN CHOICE (log 1). -/
  protSubs : Nat := 0
  /-- Consecutive sub-periods of that state with the branch current at most CONV_OFF_I_A [14_lanes_and_failover.md R348]. DESIGN CHOICE (log 1). -/
  protQuiet : Nat := 0
  /-- Port and SEQ of the ECLIPSE_SWAP [14_lanes_and_failover.md R345]. DESIGN CHOICE (log 1). -/
  swapBy : Option DeferRef := none
  /-- 0 none, 1 handover to come, 2 check [14_lanes_and_failover.md R346]. DESIGN CHOICE (log 1). -/
  swapPhase : Nat := 0
  /-- Lane that self-tests after DIVERGE [14_lanes_and_failover.md R347 Table 14.5]. DESIGN CHOICE (log 1). -/
  selfTest : Option Bool := none
  /-- Frames since the last switchover or rerun, up to 1,000 [14_lanes_and_failover.md R345]. DESIGN CHOICE (log 1). -/
  sinceSwitch : Nat := 1000
  /-- Lane granted that has not completed its takeover [14_lanes_and_failover.md R340]. DESIGN CHOICE (log 1). -/
  granted : Option Bool := none
  /-- Accepted packets that wait for their boundary [14_lanes_and_failover.md R331]. DESIGN CHOICE (log 1). -/
  inbox : List InboxPkt := []
  /-- Contactor request that step 3 of the next boundary drives: CLOSE [14_lanes_and_failover.md R332, 01_one_frame.md R26]. DESIGN CHOICE (log 1). -/
  closeReq : Bool := false
  /-- Mirror message of the last boundary carried out [14_lanes_and_failover.md R334, 01_one_frame.md R30]. DESIGN CHOICE (log 1). -/
  mirror : Option MirrorMsg := none
  /-- Last boundary completed [14_lanes_and_failover.md R341]. DESIGN CHOICE (log 1). -/
  lastBoundary : BitVec 32 := 0
  /-- Absorbed-event records, newest first [14_lanes_and_failover.md R352]. DESIGN CHOICE (log 1). -/
  absRecs : List AbsEvt := []
  /-- Absorbed events since shipment [14_lanes_and_failover.md R352]. DESIGN CHOICE (log 1). -/
  absSeq : Nat := 0
  /-- Absorbed events whose record write P39 has not been released for [05_frame_budget_scheduler.md Table 5.1, 10_hardware_protection.md R247]. DESIGN CHOICE (log 1). -/
  evDue : Nat := 0
  /-- Counts per SOURCE since shipment [14_lanes_and_failover.md R352]. DESIGN CHOICE (log 1). -/
  absCounts : List Nat := List.replicate 17 0
  /-- A switchover gap: no lane carries out boundaries [14_lanes_and_failover.md R341]. DESIGN CHOICE (log 1). -/
  gap : Bool := false
  /-- Takeover complete: the passed boundaries are replayed at the next boundary [14_lanes_and_failover.md R340]. DESIGN CHOICE (log 1). -/
  takeoverDone : Bool := false
  /-- A lane has taken the token since start-up from cold [16_power_states.md R402]. DESIGN CHOICE (log 1). -/
  started : Bool := false
  /-- The lanes have booted and none has taken the token yet [16_power_states.md R402]. DESIGN CHOICE (log 1). -/
  booting : Bool := true
deriving DecidableEq, Repr

/-- The safety block. -/
structure Safe where
  /-- STATE [15_safety_block.md R376 STATE]. -/
  st : SafeSt := .safe
  /-- CAUSE [15_safety_block.md R376 CAUSE]. -/
  cause : Nat := 0
  /-- RESET_READY [15_safety_block.md R376]. -/
  resetReady : Bool := false
  /-- GATE_KILL [15_safety_block.md R376]. -/
  gateKill : Bool := true
  /-- SAFE_OK [15_safety_block.md R376]. -/
  safeOk : Bool := false
  /-- K_POS [15_safety_block.md R376]. -/
  kPos : Bool := false
  /-- K_NEG [15_safety_block.md R376]. -/
  kNeg : Bool := false
  /-- K_PRE [15_safety_block.md R376]. -/
  kPre : Bool := false
  /-- PRECHARGING [15_safety_block.md R376]. -/
  precharging : Bool := false
  /-- TWOHAND_CLOSE [15_safety_block.md R376]. -/
  twohandClose : Bool := false
  /-- CLOSE_REQ [15_safety_block.md R376]. -/
  closeReq : Bool := false
  /-- K_VSUP_OK [15_safety_block.md R376]. -/
  kVsupOk : Bool := false
  /-- OUT_FAULT [15_safety_block.md R376]. -/
  outFault : BitVec 4 := 0
  /-- Outputs whose latest readback differed from the drive, K_POS in bit 0 [15_safety_block.md R367]. DESIGN CHOICE (log 1). -/
  rbBad : BitVec 4 := 0
  /-- ESTOP_A [15_safety_block.md R359]. -/
  estopA : SafeIn := {}
  /-- ESTOP_B [15_safety_block.md R359]. -/
  estopB : SafeIn := {}
  /-- DOOR_A [15_safety_block.md R359]. -/
  doorA : SafeIn := {}
  /-- DOOR_B [15_safety_block.md R359]. -/
  doorB : SafeIn := {}
  /-- DOOR_LOCK_FB [15_safety_block.md R359]. -/
  lockFb : SafeIn := {}
  /-- TWOHAND_1 [15_safety_block.md R359]. -/
  two1 : SafeIn := {}
  /-- TWOHAND_2 [15_safety_block.md R359]. -/
  two2 : SafeIn := {}
  /-- The emergency-stop pair [15_safety_block.md R361]. DESIGN CHOICE (log 1). -/
  estop : SafePair := {}
  /-- The door pair [15_safety_block.md R361]. DESIGN CHOICE (log 1). -/
  door : SafePair := {}
  /-- Time the arming conditions have held [15_safety_block.md R363]. DESIGN CHOICE (log 1). -/
  armSamples : Nat := 0
  /-- Contactor sequence in progress [15_safety_block.md R368, R369]. DESIGN CHOICE (log 1). -/
  seq : ContactorSeq := .opened
  /-- Time since the sequence began (K_NEG on, or the open began) [15_safety_block.md R368]. DESIGN CHOICE (log 1). -/
  seqT : Nat := 0
  /-- Time since K_PRE turned on [15_safety_block.md R368]. DESIGN CHOICE (log 1). -/
  preT : Nat := 0
  /-- Time since K_POS turned on [15_safety_block.md R368]. DESIGN CHOICE (log 1). -/
  posT : Nat := 0
  /-- PreT at the last strobe, the end of the last frame [15_safety_block.md R368]. DESIGN CHOICE (log 1). -/
  preTEnd : Nat := 0
  /-- PosT at the last strobe, the end of the last frame [15_safety_block.md R368]. DESIGN CHOICE (log 1). -/
  posTEnd : Nat := 0
  /-- A frame mean in the 20 ms after K_POS has exceeded SAFE_INRUSH_A [15_safety_block.md R368]. DESIGN CHOICE (log 1). -/
  inrush : Bool := false
  /-- The series switch that the next off-pulse test of each output opens, K_POS in bit 0 [15_safety_block.md R357]. DESIGN CHOICE (log 1). -/
  testSw : BitVec 4 := 0
  /-- Consecutive qualifying frames [15_safety_block.md R368]. DESIGN CHOICE (log 1). -/
  preRun : Nat := 0
  /-- Time since a trip whose contactor-off delay runs [15_safety_block.md R370]. DESIGN CHOICE (log 1). -/
  tripT : Option Nat := none
  /-- LAST_CAUSE [15_safety_block.md R375]. DESIGN CHOICE (log 1). -/
  lastCause : Nat := 0
  /-- LAST_FRAME [15_safety_block.md R375]. DESIGN CHOICE (log 1). -/
  lastFrame : BitVec 32 := 0
  /-- LAST_PLANT_TIME [15_safety_block.md R375]. DESIGN CHOICE (log 1). -/
  lastTime : BitVec 64 := 0
  /-- Trips since shipment [15_safety_block.md R376]. DESIGN CHOICE (log 1). -/
  trips : Nat := 0
  /-- Causes that arrived while TRIPPED [15_safety_block.md R375]. DESIGN CHOICE (log 1). -/
  lateCauses : Nat := 0
  /-- Safety set in force in the block [15_safety_block.md R377]. -/
  set : SafetySet := {}
  /-- Configuration fault [15_safety_block.md R356]. DESIGN CHOICE (log 1). -/
  setBad : Bool := false
  /-- Internal fault [15_safety_block.md R356]. DESIGN CHOICE (log 1). -/
  internalFault : Bool := false
  /-- Time K_VSUP has been below its threshold [15_safety_block.md R375]. DESIGN CHOICE (log 1). -/
  kLowSamples : Nat := 0
  /-- Time since the first two-hand input went active [15_safety_block.md R372]. DESIGN CHOICE (log 1). -/
  twoFirst : Option Nat := none
  /-- Both two-hand inputs have been released together since a close-in or a lone release [15_safety_block.md R372]. DESIGN CHOICE (log 1). -/
  twoReleased : Bool := true
  /-- Why the contactors opened, for the mode at the next boundary [15_safety_block.md R371]. DESIGN CHOICE (log 1). -/
  opened : Option OpenWhy := none
deriving DecidableEq, Repr

/-- The power controller. -/
structure Power where
  /-- STATE [16_power_states.md R403 STATE]. -/
  st : PowerSt := .run
  /-- TARGET [16_power_states.md R403 TARGET]. -/
  target : PowerSt := .run
  /-- PHASE [16_power_states.md R403 PHASE]. -/
  phase : PowerPhase := .settled
  /-- CONTEXT [16_power_states.md R403 CONTEXT]. -/
  context : PowerCtx := .normal
  /-- AUX_OK [16_power_states.md R403]. -/
  auxOk : Bool := false
  /-- ON_BRIDGE [16_power_states.md R403]. -/
  onBridge : Bool := false
  /-- AUX_LOSS [16_power_states.md R403]. -/
  auxLoss : Bool := false
  /-- Latched wake source [16_power_states.md R403 WAKE_LATCHED]. -/
  wakeLatched : Option Nat := none
  /-- Queued request [16_power_states.md R403 QUEUED, QUEUED_TARGET]. -/
  queued : Option PowerReq := none
  /-- CLOCK_DEGRADED [16_power_states.md R403]. -/
  clockDegraded : Bool := false
  /-- Block asked (none: 0b111) [16_power_states.md R403 BLOCK]. -/
  block : Option Nat := none
  /-- Frames until the block is asked again [16_power_states.md R403 DELAY_LEFT]. -/
  delayLeft : Nat := 0
  /-- Delays of each block in the handshake [16_power_states.md R390]. DESIGN CHOICE (log 1). -/
  delayTotals : List Nat := List.replicate 6 0
  /-- The block was asked at the previous boundary and its answer is due [16_power_states.md R390]. DESIGN CHOICE (log 1). -/
  asked : Bool := false
  /-- Request of the entry in progress [16_power_states.md R389]. DESIGN CHOICE (log 1). -/
  req : Option PowerReq := none
  /-- Ended entries whose COMPLETION waits for a boundary [16_power_states.md R389]. DESIGN CHOICE (log 1). -/
  outs : List PowerOut := []
  /-- Entry steps completed [16_power_states.md R393]. DESIGN CHOICE (log 1). -/
  entryStep : Nat := 0
  /-- Return stage in progress [16_power_states.md R399]. DESIGN CHOICE (log 1). -/
  stage : Nat := 0
  /-- Attempts of the present stage that have failed [16_power_states.md R401]. DESIGN CHOICE (log 1). -/
  stageTries : Nat := 0
  /-- The core LDO waits 50 ms for its next attempt [16_power_states.md R401]. DESIGN CHOICE (log 1). -/
  retryWait : Bool := false
  /-- The return runs on the short path [16_power_states.md R394]. DESIGN CHOICE (log 1). -/
  shortPath : Bool := false
  /-- The minimum dwell of the settled state still runs [16_power_states.md R394]. DESIGN CHOICE (log 1). -/
  dwell : Bool := false
  /-- Wake that starts the full sequence after the dwell [16_power_states.md R394]. DESIGN CHOICE (log 1). -/
  wakePending : Option Nat := none
  /-- Last-wake record [16_power_states.md R398]. DESIGN CHOICE (log 1). -/
  wake : WakeRec := {}
  /-- State the return left [16_power_states.md R399]. DESIGN CHOICE (log 1). -/
  fromSt : PowerSt := .run
  /-- The return is a start-up from cold [16_power_states.md R399]. DESIGN CHOICE (log 1). -/
  cold : Bool := false
  /-- CORE_FAIL [16_power_states.md R401]. DESIGN CHOICE (log 1). -/
  coreFail : Bool := false
  /-- The module pulls WAKE low [16_power_states.md R397]. DESIGN CHOICE (log 1). -/
  wakeLine : Bool := false
  /-- Plant time at which the module began its own WAKE pulse [16_power_states.md R397]. DESIGN CHOICE (log 1). -/
  wakeFrom : Option (BitVec 64) := none
  /-- Frame of the commit point C [16_power_states.md R393]. DESIGN CHOICE (log 1). -/
  commitAt : BitVec 32 := 0
  /-- Frame in which the return stage began [16_power_states.md R399]. DESIGN CHOICE (log 1). -/
  stageAt : BitVec 32 := 0
  /-- Frame in which AUX_OK last cleared in RUN [16_power_states.md R384]. DESIGN CHOICE (log 1). -/
  bridgeAt : BitVec 32 := 0
  /-- The bridge is in its RUN range [16_power_states.md R384]. DESIGN CHOICE (log 1). -/
  bridgeRun : Bool := false
  /-- Integral of the bridge input current [06_state_estimation.md R138, 16_power_states.md R384]. DESIGN CHOICE (log 1). -/
  bridgeUc : Int := 0
  /-- Target of a RECOVERY entry that begins at the next boundary [16_power_states.md R384, R385, R386]. DESIGN CHOICE (log 1). -/
  recoverTo : Option PowerSt := none
  /-- The always-on domain has power [13_ceyth_ring.md R318, 16_power_states.md R384]. DESIGN CHOICE (log 1). -/
  aonPower : Bool := true
  /-- Frames at whose strobe the bridge carried the controller domain, newest first [06_state_estimation.md R138, 07_impedance_spectroscopy.md R185]. DESIGN CHOICE (log 1). -/
  bridged : List (BitVec 32) := []
  /-- Module stack voltage at the entry to APHELION [06_state_estimation.md R149]. DESIGN CHOICE (log 1). -/
  stackMv : Option Int := none
  /-- Plant time at which the settled state was reached [16_power_states.md R398]. DESIGN CHOICE (log 1). -/
  dwellStart : BitVec 64 := 0
  /-- Plant time at which the return started [16_power_states.md R398]. DESIGN CHOICE (log 1). -/
  returnStart : BitVec 64 := 0
  /-- Frames since the first valid frame of the last start-up from cold or return from APHELION, up to 1,000 [16_power_states.md R392]. DESIGN CHOICE (log 1). -/
  framesSinceStart : Nat := 0
  /-- A lane boots from NVM (its kept banks failed or are lost) [16_power_states.md R402]. DESIGN CHOICE (log 1). -/
  laneBoot : Bool := false
  /-- The controller domain is powered down or has not finished its start [16_power_states.md R393, R399]. DESIGN CHOICE (log 1). -/
  off : Bool := false
deriving DecidableEq, Repr

/-- The Ploza side of a port: ring, SPI, CAN-A, CAN-B. -/
structure PortSt where
  /-- History, newest first [17_ploza_protocol.md R424]. DESIGN CHOICE (log 1). -/
  hist : List HistEntry := []
  /-- Notice counter [17_ploza_protocol.md R423]. DESIGN CHOICE (log 1). -/
  notices : Nat := 0
  /-- SEQUENCE and boundary frame of the replies sent [14_lanes_and_failover.md R340]. DESIGN CHOICE (log 1). -/
  sentReplies : List (BitVec 8 × BitVec 32) := []
deriving DecidableEq, Repr

/-- The Ploza interpreter, the staged set, the parameters and the streams. -/
structure Ploza where
  /-- Active parameter values by rising ID [18_parameter_map.md R434]. -/
  params : List (Nat × List Int) := []
  /-- Staged set by rising ID [17_ploza_protocol.md R416]. -/
  staged : List StagedVal := []
  /-- Arbitration targets claimed at the present boundary [17_ploza_protocol.md R415]. DESIGN CHOICE (log 1). -/
  claims : List Claim := []
  /-- Commands answered DEFERRED [17_ploza_protocol.md R419]. DESIGN CHOICE (log 1). -/
  deferred : List Deferred := []
  /-- Streams 0 to 3 [18_parameter_map.md R437]. -/
  streams : List (Option Stream) := [none, none, none, none]
  /-- Notices raised and not yet sent [17_ploza_protocol.md R420]. DESIGN CHOICE (log 1). -/
  notices : List Notice := []
  /-- The commands of a boundary are being executed: its notices wait for its replies [19_can_fd_and_spi.md R448]. DESIGN CHOICE (log 1). -/
  holdNotices : Bool := false
  /-- Configuration images [18_parameter_map.md R433]. -/
  images : List CfgImage := [{}, {}]
  /-- Image marked active [18_parameter_map.md R433]. DESIGN CHOICE (log 1). -/
  activeImage : Nat := 0
  /-- CONFIG_SEQ [18_parameter_map.md Table 18.2 CONFIG_SEQ]. -/
  configSeq : Nat := 0
  /-- CONFIG_STATE [18_parameter_map.md Table 18.2 CONFIG_STATE]. -/
  configState : Nat := 0
  /-- Image write in progress [18_parameter_map.md R433]. DESIGN CHOICE (log 1). -/
  imageWrite : Option CfgImage := none
  /-- ATTEST commands executed at the present boundary [20_security_and_journal.md R469]. DESIGN CHOICE (log 1). -/
  attests : Nat := 0
  /-- DIAG DIE_TEMP commands that wait for the conversion of this boundary [05_frame_budget_scheduler.md R117]. DESIGN CHOICE (log 1). -/
  dieAsk : List LatchedCmd := []
  /-- SERIAL [18_parameter_map.md Table 18.2 SERIAL]. DESIGN CHOICE (log 9). -/
  serial : BitVec 64 := 0
deriving DecidableEq, Repr

/-- One CAN controller. -/
structure Can where
  /-- TEC, saturating at 0xFF [19_can_fd_and_spi.md R454 Table 19.9]. -/
  tecCnt : Nat := 0
  /-- REC, saturating at 0xFF [19_can_fd_and_spi.md Table 19.9]. -/
  recCnt : Nat := 0
  /-- BUS_STATE [19_can_fd_and_spi.md Table 19.9 BUS_STATE]. -/
  bus : BusState := .off
  /-- SILENT [19_can_fd_and_spi.md Table 19.9]. -/
  silent : Bool := false
  /-- TIMING_ERR [19_can_fd_and_spi.md Table 19.9]. -/
  timingErr : Bool := false
  /-- TDC_ON [19_can_fd_and_spi.md Table 19.9]. -/
  tdcOn : Bool := false
  /-- TDC_VALUE [19_can_fd_and_spi.md Table 19.9]. -/
  tdcValue : Nat := 0
  /-- Place of the secondary sample point in the last frame with BRS [19_can_fd_and_spi.md R441]. DESIGN CHOICE (log 1). -/
  ssp : Nat := 0
  /-- BUS_OFFS, saturating [19_can_fd_and_spi.md Table 19.10]. -/
  busOffs : Nat := 0
  /-- RX_DROPPED, saturating [19_can_fd_and_spi.md Table 19.10]. -/
  rxDropped : Nat := 0
  /-- Alarm slot [19_can_fd_and_spi.md R450, Table 19.10 ALARM_BUSY]. -/
  alarm : Option CanFrame := none
  /-- Transmit FIFO, head first [19_can_fd_and_spi.md R448, Table 19.10 TX_LEVEL]. -/
  fifo : List CanFrame := []
  /-- Per-port queue behind the FIFO [19_can_fd_and_spi.md R448]. DESIGN CHOICE (log 1). -/
  queue : List CanFrame := []
  /-- Receive ring, oldest first [19_can_fd_and_spi.md R447, Table 19.10 RX_LEVEL]. -/
  rxRing : List CanFrame := []
  /-- Packets under reassembly [19_can_fd_and_spi.md R447]. DESIGN CHOICE (log 1). -/
  reasm : List CanReasm := []
  /-- STB is driven high [19_can_fd_and_spi.md R442]. DESIGN CHOICE (log 1). -/
  stb : Bool := true
  /-- Nominal bit timing [19_can_fd_and_spi.md R440]. DESIGN CHOICE (log 1). -/
  nom : Nat × Nat × Nat := (0, 0, 0)
  /-- Data-phase bit timing [19_can_fd_and_spi.md R440]. DESIGN CHOICE (log 1). -/
  dat : Nat × Nat × Nat := (0, 0, 0)
  /-- Position for which the filter table was built [19_can_fd_and_spi.md R447]. DESIGN CHOICE (log 1). -/
  filterPos : Nat := 0
  /-- String ID for which it was built [19_can_fd_and_spi.md R447]. DESIGN CHOICE (log 1). -/
  filterString : Nat := 0
  /-- It passes requests to the other positions [19_can_fd_and_spi.md R447]. DESIGN CHOICE (log 1). -/
  filterPrimary : Bool := false
  /-- PRIORITY of the requests received, by SEQUENCE, for their replies [19_can_fd_and_spi.md R445]. DESIGN CHOICE (log 1). -/
  rxPrio : List (BitVec 8 × Nat) := []
deriving DecidableEq, Repr

/-- The SPI port and its mailbox. -/
structure Spi where
  /-- IRQ_STATUS without OUT_READY, which OUT_LEN shows [19_can_fd_and_spi.md R452 Table 19.8]. -/
  irqStatus : BitVec 32 := 1
  /-- IRQ_ENABLE [19_can_fd_and_spi.md R452 Table 19.7]. -/
  irqEnable : BitVec 32 := 4
  /-- Inbound packet in progress [19_can_fd_and_spi.md R453]. DESIGN CHOICE (log 1). -/
  inPart : List (BitVec 8) := []
  /-- Plant time of the last word of the packet in progress [19_can_fd_and_spi.md R453]. DESIGN CHOICE (log 1). -/
  inAt : BitVec 64 := 0
  /-- Words are dropped up to the next CS_N rise [19_can_fd_and_spi.md R453]. DESIGN CHOICE (log 1). -/
  inDrop : Bool := false
  /-- Outbound queue, head first [19_can_fd_and_spi.md R454]. -/
  outQ : List OutPkt := []
  /-- Words of the head packet already read [19_can_fd_and_spi.md R454]. DESIGN CHOICE (log 1). -/
  outPos : Nat := 0
  /-- Inbound packets discarded, saturating [19_can_fd_and_spi.md Table 19.7 SPI_ERRORS]. -/
  inErrors : Nat := 0
  /-- Outbound packets discarded, saturating [19_can_fd_and_spi.md Table 19.7 SPI_ERRORS]. -/
  outErrors : Nat := 0
  /-- Word last shifted out by a read [19_can_fd_and_spi.md R452, R454]. DESIGN CHOICE (log 1). -/
  miso : BitVec 32 := 0
deriving DecidableEq, Repr

/-- Keys, tamper, the journal and firmware. -/
structure Sec where
  /-- TAMPER latch [20_security_and_journal.md R471]. DESIGN CHOICE (log 1). -/
  tamper : Bool := false
  /-- The key store holds its keys (false: erased) [20_security_and_journal.md R456]. DESIGN CHOICE (log 1). -/
  keys : Bool := true
  /-- KEY_EPOCH [20_security_and_journal.md R456]. -/
  keyEpoch : Nat := 0
  /-- Detections per source since shipment [20_security_and_journal.md R471]. DESIGN CHOICE (log 1). -/
  tamperCounts : List Nat := [0, 0, 0, 0]
  /-- Last notice per source [20_security_and_journal.md R471]. DESIGN CHOICE (log 1). -/
  tamperNotice : List (Option Int) := [none, none, none, none]
  /-- Detections whose journal entry waits for a lane [20_security_and_journal.md R471]. DESIGN CHOICE (log 1). -/
  tamperWait : List TamperRec := []
  /-- Per source: latest detection not yet notified [20_security_and_journal.md R471]. DESIGN CHOICE (log 1). -/
  tamperPend : List (Option TamperRec) := [none, none, none, none]
  /-- TAMPER_POLICY as written to the always-on domain [20_security_and_journal.md R470]. -/
  policy : BitVec 4 := 0x7
  /-- Entries written, newest first [20_security_and_journal.md R459]. DESIGN CHOICE (log 1). -/
  journal : List JEntry := []
  /-- Next record INDEX [20_security_and_journal.md R459]. DESIGN CHOICE (log 1). -/
  jNext : Nat := 0
  /-- Stored bytes of the last record entry (none before the first) [20_security_and_journal.md R461]. DESIGN CHOICE (log 1). -/
  jLast : List (BitVec 8) := []
  /-- Groups whose seal is pending, oldest first [20_security_and_journal.md R462]. DESIGN CHOICE (log 1). -/
  seals : List Nat := []
  /-- The ephemeral key pair E is held [20_security_and_journal.md R474]. DESIGN CHOICE (log 1). -/
  ephemeral : Bool := false
  /-- Number of the key pair E (selects its opaque public key) [20_security_and_journal.md R474]. DESIGN CHOICE (log 2). -/
  ephId : Nat := 0
  /-- Frame count at which the pair E was generated [20_security_and_journal.md R474]. DESIGN CHOICE (log 1). -/
  ephFrame : Nat := 0
  /-- REPROVISION steps in progress [20_security_and_journal.md R474]. DESIGN CHOICE (log 1). -/
  reprov : List LatchedCmd := []
  /-- Staging area [20_security_and_journal.md R466]. DESIGN CHOICE (log 1). -/
  fwStaged : List (BitVec 8) := []
  /-- Activation under verification [20_security_and_journal.md R467]. DESIGN CHOICE (log 1). -/
  fwVerify : Option DeferRef := none
  /-- Boot slots [20_security_and_journal.md R465]. DESIGN CHOICE (log 9). -/
  fwSlots : List FwSlot := [{}, {}]
  /-- Boot slot [20_security_and_journal.md R468]. DESIGN CHOICE (log 1). -/
  fwBoot : Nat := 0
  /-- A TRIAL slot waits for its result [20_security_and_journal.md R468]. DESIGN CHOICE (log 1). -/
  fwTrial : Option DeferRef := none
  /-- Consecutive failed boots of the TRIAL slot [20_security_and_journal.md R468]. DESIGN CHOICE (log 1). -/
  fwTrialFails : Nat := 0
  /-- FW_VERSION before the TRIAL [20_security_and_journal.md R468]. DESIGN CHOICE (log 1). -/
  fwOldVersion : BitVec 32 := 0
  /-- Rollback floor (SEC_VERSION) [20_security_and_journal.md R467]. DESIGN CHOICE (log 1). -/
  secFloor : Nat := 0
  /-- The controller domain restarts after this boundary [20_security_and_journal.md R467, 17_ploza_protocol.md R505]. DESIGN CHOICE (log 1). -/
  restart : Bool := false
deriving DecidableEq, Repr

/-- The model's own fields. -/
structure Free where
  /-- Number of fresh free values drawn so far (Config.free is applied to it) [the model's own]. DESIGN CHOICE (log 2). -/
  ctr : Nat := 0
deriving DecidableEq, Repr

/-- What a role's recipe keeps from window to window, as a checkpoint holds it; a field that the role does not keep stays at its default. -/
structure RoleMem where
  /-- Cell pan: the estimators of its cells [04_pan_array.md R86, R98]. -/
  est : List Est := []
  /-- Cell pan: the corrected samples kept of its cells [04_pan_array.md R86, 03_current_front_end.md R81]. -/
  hist : List (List Smp) := []
  /-- Cell pan: the spectral sums of its cells [04_pan_array.md R86, R98]. -/
  spec : List CellSpec := []
  /-- P32: charge and zero-tracking state [04_pan_array.md R86, 03_current_front_end.md R72]. -/
  cfe : Cfe := {}
  /-- P33: string figures [04_pan_array.md R86]. -/
  str : Str := {}
  /-- P33: module figures [04_pan_array.md R86]. -/
  estMod : EstMod := {}
  /-- P37: thermometry state [04_pan_array.md R86]. -/
  thermo : List Thermo := []
  /-- P37: verdicts not yet taken [04_pan_array.md R86]. -/
  verdicts : List (Nat × Nat) := []
  /-- P37: estimates that wait for thermometry [04_pan_array.md R86]. -/
  thermoQ : List (Nat × Rat) := []
  /-- P38: grants, patterns and pulses [04_pan_array.md R86]. -/
  bal : Bal := {}
  /-- P39: the open-wire sweep [04_pan_array.md R86]. -/
  ow : Ow := {}
  /-- P39: the state of the leads [04_pan_array.md R86]. -/
  tap : List Tap := []
  /-- P39: age of each lead's last conclusive step [04_pan_array.md R86]. -/
  owAge : List Nat := []
  /-- P34 and P35: the law and the supervisor [04_pan_array.md R96]. -/
  law : Law := {}
  /-- P36: phase trims [04_pan_array.md R96]. -/
  trims : List Single := []
deriving DecidableEq, Repr

/-- The checkpoint memory of the sluice. -/
structure Ckpt where
  /-- Last checkpoint of each role slot [04_pan_array.md R86, R96, R98]. DESIGN CHOICE (log 1). -/
  slots : List RoleMem := List.replicate 40 {}
deriving DecidableEq, Repr

/-- The whole state of the part, with the commands that wait. Every field's default is its value at reset. -/
structure State where
  /-- The frame grid, the sample clock, the boundary and the operating mode. -/
  grid : Grid := {}
  /-- One front end FE1 to FE6 and its port. -/
  fe : List Fe := List.replicate 6 {}
  /-- One cell channel. -/
  chan : List Chan := List.replicate 96 {}
  /-- One tap lead: 0 to 47, 48L, 48H, 49 to 96. -/
  tap : List Tap := List.replicate 98 {}
  /-- The open-wire test of P39. -/
  ow : Ow := {}
  /-- The current front end, its port and the charge accumulator (P32). -/
  cfe : Cfe := {}
  /-- One branch of the string as this module sees it. -/
  branch : List Branch := List.replicate 2 {}
  /-- One pan P00 to P47. -/
  pan : List Pan := List.replicate 48 {}
  /-- One role slot. -/
  slot : List RoleSlot := List.replicate 40 {}
  /-- The sluice. -/
  sluice : Sluice := {}
  /-- The NVM write port. -/
  nvm : NvmPort := {}
  /-- The frame scheduler. -/
  sched : Sched := {}
  /-- The budget governor. -/
  gov : Gov := {}
  /-- The estimator of one cell. -/
  est : List Est := List.replicate 96 {}
  /-- Module-level estimation. -/
  estMod : EstMod := {}
  /-- String figures (meaningful at the primary). -/
  str : Str := {}
  /-- Sweeps and the thermometry watch (P37). -/
  eis : Eis := {}
  /-- Impedance thermometry of one cell. -/
  thermo : List Thermo := List.replicate 96 {}
  /-- NTC inputs NTC1 to NTC16 on J3. -/
  ntc : Ntc := {}
  /-- The chemistry model table. -/
  tbl : Tbl := {}
  /-- The balancing planner (P38). -/
  bal : Bal := {}
  /-- The fault cause register, the fault line and the protection records. -/
  prot : Prot := {}
  /-- One converter phase. -/
  phase : List Phase := List.replicate 8 {}
  /-- The converter of the owner and P36. -/
  conv : Conv := {}
  /-- The control law, the supervisor and the output sets (P34, P35). -/
  law : Law := {}
  /-- The Ceyth ring interface. -/
  ring : Ring := {}
  /-- One lane. -/
  lane : List Lane := List.replicate 2 {}
  /-- The token, the lanes together and the absorbed events. -/
  lanes : Lanes := {}
  /-- The safety block. -/
  safe : Safe := {}
  /-- The power controller. -/
  power : Power := {}
  /-- The Ploza side of a port: ring, SPI, CAN-A, CAN-B. -/
  port : List PortSt := List.replicate 4 {}
  /-- The Ploza interpreter, the staged set, the parameters and the streams. -/
  ploza : Ploza := {}
  /-- One CAN controller. -/
  can : List Can := List.replicate 2 {}
  /-- The SPI port and its mailbox. -/
  spi : Spi := {}
  /-- Keys, tamper, the journal and firmware. -/
  sec : Sec := {}
  /-- The model's own fields. -/
  free : Free := {}
  /-- The checkpoint memory of the sluice. -/
  ckpt : Ckpt := {}
  /-- Commands that wait, first in first out: the host's queue, not the spec's. -/
  pending : List Instr := []
deriving DecidableEq, Repr

/-- The machine right after reset: every field at its default. -/
def State.reset : State := {}

end Sys2Proof.Machine
end

