-- ==== Sys2Proof/Decode.lean ====
section
/-!
DEFINITION. The command that a word spells by the bits of opcode_table.json. No row of the table gives bits: the commands
are events and packets, not words, so no word spells one.
-/

namespace Sys2Proof

/-- The command that a word of the table spells: none for every word. -/
def decodeTableWord (_nbits _w : Nat) : Option Instr := none

end Sys2Proof
end

