-- ==== Sys2Proof/Config.lean ====
section
/-!
DEFINITION. What an implementation fixes and the spec leaves open: every constant here has no body, so no statement can
rest on a value of it. Each names its log entry.
-/

namespace Sys2Proof.Config

/-- The n-th free value: what a field takes where a rule names an effect and no value (log entry 2). -/
opaque freeValue : Nat → BitVec 64

/-- Gain of a cell channel, uV per code, from the calibration region (log entry 9). -/
opaque chanGain : Nat → Rat

/-- Offset of a cell channel, uV (log entry 9). -/
opaque chanOffset : Nat → Rat

/-- Gain of the CFE string-voltage channel, mV per code (log entry 9). -/
opaque vstrGain : Rat

/-- Offset of the CFE string-voltage channel, mV (log entry 9). -/
opaque vstrOffset : Rat

/-- Resistance of a balance switch, ohm, from the calibration region: cell 1 to 96 (log entry 9). -/
opaque switchOhm : Nat → Rat

/-- Temperature of an NTC reading, 0.01 C; none when the input is open (log entry 9). -/
opaque ntcTemp : Nat → Option Int

/-- Natural exponential (log entry 5). -/
opaque exp : Rat → Rat

/-- Natural logarithm (log entry 5). -/
opaque ln : Rat → Rat

/-- Square root (log entry 5). -/
opaque sqrt : Rat → Rat

/-- Sine of an angle given in turns (log entry 5). -/
opaque sinTurn : Rat → Rat

/-- Cosine of an angle given in turns (log entry 5). -/
opaque cosTurn : Rat → Rat

/-- Tangent of an angle given in turns (log entry 5). -/
opaque tanTurn : Rat → Rat

/-- What the law makes of a division by zero of `a`, for which R284 to R291 of 12_control_engine.md state no result (log
entry 24). -/
opaque divZero : Rat → Rat

/-- Declared worst-case length of a job in cycles: recipe number and job number (log entry 6). -/
opaque jobCycles : Nat → Nat → Nat

/-- Entries of the placeholder chemistry table: block and entry (log entry 9). -/
opaque placeholder : Nat → Nat → BitVec 32

/-- The public half of the identity key of a key epoch: 64 bytes as a number (log entry 7). -/
opaque identityPub : Nat → BitVec 512

/-- The public half of the journal key of a key epoch (log entry 7). -/
opaque journalPub : Nat → BitVec 512

/-- The public half of the n-th ephemeral key pair of REPROVISION (log entry 7). -/
opaque ephemeralPub : Nat → BitVec 512

/-- Signature with the identity key of an epoch over a hash (log entry 7). -/
opaque signIdentity : Nat → BitVec 256 → BitVec 512

/-- Signature with the journal key of an epoch over a hash (log entry 7). -/
opaque signJournal : Nat → BitVec 256 → BitVec 512

/-- The vendor firmware key accepts a signature of a hash (log entry 7). -/
opaque vendorFwOk : BitVec 256 → BitVec 512 → Bool

/-- The vendor provisioning key accepts a signature of a hash (log entry 7). -/
opaque vendorProvOk : BitVec 256 → BitVec 512 → Bool

/-- The GCM tag of a REPROVISION token is good: number of the ephemeral key, and the 200 token bytes as a number (log
entry 7). -/
opaque tokenTagOk : Nat → BitVec 1600 → Bool

/-- Decryption of a firmware image with its header: key epoch and image; none when the tag is bad (log entry 7). -/
opaque decryptFw : Nat → List Byte → Option (List Byte)

/-- A recipe image of a firmware with what it declares (04_pan_array.md R92). -/
structure Recipe where
  /-- the image -/
  image : List Byte
  /-- the CRC-32C stored with it -/
  crc : Word
  /-- bytes of persistent state -/
  stateBytes : Nat
  /-- each job's worst-case length in cycles and its class: 0 M, 1 P, 2 O -/
  jobs : List (Nat × Nat)
  /-- the recipe is that of an anchored pan -/
  anchored : Bool
  /-- jobs of the worst job list of one frame -/
  worstJobs : Nat
  /-- cycles of those jobs -/
  worstCycles : Nat
  deriving DecidableEq, Repr

/-- The recipe images of a decrypted firmware; the spec gives no place for them in the image (log entry 7). -/
opaque recipes : List Byte → List Recipe

end Sys2Proof.Config
end

