-- ==== Sys2Proof/Machine/Bits.lean ====
section
/-!
DEFINITION. Byte order, sign, bit fields, rounding and CRC-32C (00_scope.md R4, 17_ploza_protocol.md R407): every other
file of the machine reads and writes bytes through these.
-/

namespace Sys2Proof.Machine

/-- The number whose little-endian bytes are `bs`. -/
def leNat : List Byte → Nat
  | [] => 0
  | b :: bs => b.toNat + 256 * leNat bs

/-- `v` as `n` little-endian bytes, modulo 256^n. -/
def toLe : Nat → Nat → List Byte
  | 0, _ => []
  | n + 1, v => BitVec.ofNat 8 v :: toLe n (v / 256)

/-- `v` as `n` little-endian bytes in two's complement. -/
def toLeInt (n : Nat) (v : Int) : List Byte := toLe n (v % (256 ^ n : Nat)).toNat

/-- The two's complement number of `8 n` bits whose unsigned value is `v`. -/
def signed (n v : Nat) : Int := if v < 256 ^ n / 2 then (v : Int) else (v : Int) - (256 ^ n : Nat)

/-- The `n`-byte unsigned field at byte `off`. -/
def getU (bs : List Byte) (off n : Nat) : Nat := leNat ((bs.drop off).take n)

/-- The `n`-byte two's complement field at byte `off`. -/
def getS (bs : List Byte) (off n : Nat) : Int := signed n (getU bs off n)

/-- The byte at `off`, 0 where there is none. -/
def getB (bs : List Byte) (off : Nat) : Byte := bs.getD off 0

/-- Bytes `off` to `off + n - 1`. -/
def slice (bs : List Byte) (off n : Nat) : List Byte := (bs.drop off).take n

/-- `bs` cut or filled with 0x00 to `n` bytes. -/
def padTo (n : Nat) (bs : List Byte) : List Byte := bs.take n ++ List.replicate (n - bs.length) 0

/-- `n` bytes of 0x00. -/
def zeros (n : Nat) : List Byte := List.replicate n 0

/-- `x` with bit `i` set to `b`. -/
def setBit {n : Nat} (x : BitVec n) (i : Nat) (b : Bool) : BitVec n :=
  if b then x ||| BitVec.ofNat n (2 ^ i) else x &&& ~~~(BitVec.ofNat n (2 ^ i))

/-- `b` as the number 0 or 1. -/
def bit (b : Bool) : Nat := if b then 1 else 0

/-- The word of a field map: each entry is the lowest bit of a field, its width and its value (taken modulo 2^width). -/
def pack (fields : List (Nat × Nat × Nat)) : Nat :=
  (fields.map fun (lo, w, v) => (v % 2 ^ w) * 2 ^ lo).sum

/-- Numbers of the set bits among the lowest `n`. -/
def bitsOf {w : Nat} (n : Nat) (x : BitVec w) : List Nat := (List.range n).filter fun i => x.getLsbD i

/-- A bit vector from a predicate on bit numbers. -/
def ofBits (n : Nat) (f : Nat → Bool) : BitVec n := BitVec.ofNat n ((List.range n).map fun i => if f i then 2 ^ i else 0).sum

/-- One bit of the reflected CRC-32C register. -/
def crcBit (c : BitVec 32) : BitVec 32 := if c.getLsbD 0 then (c >>> 1) ^^^ 0x82F63B78#32 else c >>> 1

/-- The register after one more byte. -/
def crcByte (c : BitVec 32) (b : Byte) : BitVec 32 :=
  crcBit (crcBit (crcBit (crcBit (crcBit (crcBit (crcBit (crcBit (c ^^^ b.setWidth 32))))))))

/-- CRC-32C (17_ploza_protocol.md R407): polynomial 0x1EDC_6F41 reflected, initial value and final XOR 0xFFFF_FFFF. -/
def crc32c (bs : List Byte) : BitVec 32 := ~~~(bs.foldl crcByte 0xFFFFFFFF#32)

/-- `bs` followed by its CRC-32C, little-endian. -/
def withCrc (bs : List Byte) : List Byte := bs ++ toLe 4 (crc32c bs).toNat

/-- The last four bytes of the `n + 4` bytes at the start of `bs` are the CRC-32C of the first `n`. -/
def crcGood (n : Nat) (bs : List Byte) : Bool := getU bs n 4 == (crc32c (bs.take n)).toNat

/-- The rational `a / b` (0 where `b` is 0). -/
def ratio (a b : Int) : Rat := (a : Rat) / (b : Rat)

/-- `x` rounded to the nearest whole number, halves to the even one (04_pan_array.md R88). -/
def roundEven (x : Rat) : Int :=
  let f := x.floor
  let d := x - f
  if d < 1 / 2 then f else if 1 / 2 < d then f + 1 else if f % 2 = 0 then f else f + 1

/-- `x` rounded to the nearest whole number, halves away from zero. -/
def roundAway (x : Rat) : Int := if 0 ≤ x then (x + 1 / 2).floor else -((-x + 1 / 2).floor)

/-- `x` forced into the range `lo` to `hi`. -/
def clampRat (lo hi x : Rat) : Rat := if x < lo then lo else if hi < x then hi else x

/-- The magnitude of `x`. -/
def absRat (x : Rat) : Rat := if x < 0 then -x else x

/-- An s16 field, `none` carried as the invalid code 0x8000 (00_scope.md R4). -/
def s16 : Option Int → List Byte
  | none => [0x00, 0x80]
  | some v => toLeInt 2 (clampInt (-32767) 32767 v)

/-- An s32 field, `none` carried as the invalid code 0x8000_0000 (00_scope.md R4). -/
def s32 : Option Int → List Byte
  | none => [0x00, 0x00, 0x00, 0x80]
  | some v => toLeInt 4 (clampInt (-2147483647) 2147483647 v)

/-- A u16 field saturating at `m`. -/
def u16 (m v : Nat) : List Byte := toLe 2 (satTo m v)

/-- A u32 field of a word. -/
def w32 (w : Word) : List Byte := toLe 4 w.toNat

/-- A u64 field. -/
def w64 (w : BitVec 64) : List Byte := toLe 8 w.toNat

/-- A list with element `i` set, unchanged where there is no element `i`. -/
def setAt {α : Type} (l : List α) (i : Nat) (v : α) : List α := l.modify i fun _ => v

end Sys2Proof.Machine
end

