-- ==== Sys2Proof/Machine/Hash.lean ====
section
/-!
DEFINITION. SHA-256, the hash of the journal chain, of firmware images and of the attestation statement
(20_security_and_journal.md R457). The constants are computed as their definition has them: the first 32 bits
after the binary point of the cube roots of the first 64 primes, and of the square roots of the first eight.
-/

namespace Sys2Proof.Machine

/-- The 64 primes up to 311; a number up to 323 with a factor has one that is at most 17. -/
def shaPrimes : List Nat :=
  (List.range 312).filter fun n => 2 ≤ n && [2, 3, 5, 7, 11, 13, 17].all fun d => n ≤ d || n % d != 0

/-- The largest number whose `deg`-th power is at most `n`, found bit by bit below `acc + 2 ^ bits`. -/
def rootBits (deg n : Nat) : (bits acc : Nat) → Nat
  | 0, acc => acc
  | b + 1, acc => rootBits deg n b (if (acc + 2 ^ b) ^ deg ≤ n then acc + 2 ^ b else acc)

/-- 32 bits after the binary point of the `deg`-th root of `p`. -/
def rootFraction (deg p : Nat) : Word := BitVec.ofNat 32 (rootBits deg (p * 2 ^ (32 * deg)) 37 0)

/-- Two rotations and a third word: the sum functions rotate it, the schedule functions shift it. -/
def shaMix (x : Word) (i j : Nat) (third : Word) : Word := third ^^^ x.rotateRight j ^^^ x.rotateRight i

/-- The eight registers of the hash, as two halves of four. -/
structure ShaRegs where
  /-- The half whose first register takes the sum of both temporaries. -/
  up : Word × Word × Word × Word
  /-- The half whose first register takes the fourth of `up` and the first temporary. -/
  dn : Word × Word × Word × Word
  deriving DecidableEq, Repr

/-- Registers added pairwise. -/
def ShaRegs.plus (x y : ShaRegs) : ShaRegs :=
  let add (p q : Word × Word × Word × Word) : Word × Word × Word × Word :=
    (p.1 + q.1, p.2.1 + q.2.1, p.2.2.1 + q.2.2.1, p.2.2.2 + q.2.2.2)
  { up := add x.up y.up, dn := add x.dn y.dn }

/-- Four words in order, as one half. -/
def shaHalf (l : List Word) : Word × Word × Word × Word := (l.getD 0 0, l.getD 1 0, l.getD 2 0, l.getD 3 0)

/-- The registers before the first block. -/
def shaStart : ShaRegs :=
  let roots := (shaPrimes.take 8).map (rootFraction 2)
  { up := shaHalf roots, dn := shaHalf (roots.drop 4) }

/-- One round with the prime and the message word it takes. -/
def ShaRegs.turn (r : ShaRegs) (prime : Nat) (word : Word) : ShaRegs :=
  let (x0, x1, x2, x3) := r.up
  let (y0, y1, y2, y3) := r.dn
  let chosen := y2 ^^^ (y0 &&& (y1 ^^^ y2))
  let most := (x0 &&& (x1 ||| x2)) ||| (x1 &&& x2)
  let lower := rootFraction 3 prime + word + y3 + chosen + shaMix y0 6 11 (y0.rotateRight 25)
  { up := (lower + most + shaMix x0 2 13 (x0.rotateRight 22), x0, x1, x2), dn := (x3 + lower, y0, y1, y2) }

/-- The window of sixteen message words moved on by one: the oldest leaves, the next of the schedule enters. -/
def shaSlide (win : List Word) : List Word :=
  let old := win.getD 1 0
  let new := win.getD 14 0
  win.drop 1 ++ [win.getD 9 0 + win.getD 0 0 + shaMix old 7 18 (old >>> 3) + shaMix new 17 19 (new >>> 10)]

/-- The rounds over a list of primes, with the window whose first word the next round takes. -/
def shaRounds : List Nat → List Word → ShaRegs → ShaRegs
  | [], _, r => r
  | p :: ps, win, r => shaRounds ps (shaSlide win) (r.turn p (win.getD 0 0))

/-- Word `k` of a block, its most significant byte first. -/
def shaWord (block : List Byte) (k : Nat) : Word := BitVec.ofNat 32 (leNat (slice block (4 * k) 4).reverse)

/-- The registers after one block of 64 bytes. -/
def ShaRegs.take (r : ShaRegs) (block : List Byte) : ShaRegs :=
  r.plus (shaRounds shaPrimes ((List.range 16).map (shaWord block)) r)

/-- The message with its closing bit, zeros to eight bytes short of a block, and its length in bits. -/
def shaPad (msg : List Byte) : List Byte :=
  let body := msg ++ [0x80]
  body ++ zeros ((120 - body.length % 64) % 64) ++ (toLe 8 (msg.length * 8)).reverse

/-- SHA-256 of a byte string: 32 bytes. -/
def sha256 (msg : List Byte) : List Byte :=
  let text := shaPad msg
  let r := (List.range (text.length / 64)).foldl (fun r k => r.take (slice text (64 * k) 64)) shaStart
  [r.up.1, r.up.2.1, r.up.2.2.1, r.up.2.2.2, r.dn.1, r.dn.2.1, r.dn.2.2.1, r.dn.2.2.2].flatMap
    fun w => (toLe 4 w.toNat).reverse

end Sys2Proof.Machine
end

