-- ==== Sys2Proof/Machine/Params.lean ====
section
/-!
DEFINITION. The parameters of Tables 18.2 to 18.17 (18_parameter_map.md R429, R434): identifiers, the table of record
(type, range, step, default, where it may be changed), and the active and staged values. Values are whole numbers in
units of the LSB of their type.
-/

namespace Sys2Proof.Machine

namespace P

/-- ORDER_CODE (Table 18.2, R1). -/
abbrev orderCode : Nat := 0x0100
/-- SERIAL (Table 18.2, IDENTIFY). -/
abbrev serial : Nat := 0x0101
/-- FW_VERSION (Table 18.2, IDENTIFY). -/
abbrev fwVersion : Nat := 0x0102
/-- CONFIG_SEQ (Table 18.2, number of COMMITs since shipment that wrote an image, counting the one in force). -/
abbrev configSeq : Nat := 0x0103
/-- CONFIG_STATE (Table 18.2, R433). -/
abbrev configState : Nat := 0x0104
/-- ASSET_TAG (Table 18.2, kept for you; not interpreted). -/
abbrev assetTag : Nat := 0x0105
/-- T_THROTTLE (Table 18.3, R120, R121). -/
abbrev tThrottle : Nat := 0x0200
/-- T_HOT (Table 18.3, R120). -/
abbrev tHot : Nat := 0x0201
/-- T_CRIT (Table 18.3, R119, R120). -/
abbrev tCrit : Nat := 0x0202
/-- THERMAL_HYST (Table 18.3, R120, R121, R124). -/
abbrev thermalHyst : Nat := 0x0203
/-- PAUSE_STEP (Table 18.3, R121). -/
abbrev pauseStep : Nat := 0x0204
/-- RISE_LIMIT (Table 18.3, R120). -/
abbrev riseLimit : Nat := 0x0205
/-- FE_TJ_LIMIT (Table 18.3, R124). -/
abbrev feTjLimit : Nat := 0x0206
/-- BAL_MAX_MODULE (Table 18.3, Table 5.2). -/
abbrev balMaxModule : Nat := 0x0207
/-- MODULE_POWER_CAP (Table 18.3, R125). -/
abbrev modulePowerCap : Nat := 0x0208
/-- EIS_ENERGY_CAP (Table 18.3, R126, R181). -/
abbrev eisEnergyCap : Nat := 0x0209
/-- SPARE_LOW (Table 18.3, R104). -/
abbrev spareLow : Nat := 0x020A
/-- CELL_COUNT (Table 18.4, R36, R94). -/
abbrev cellCount : Nat := 0x0300
/-- OW_THRESHOLD (Table 18.4, R50). -/
abbrev owThreshold : Nat := 0x0301
/-- OW_ACTION (Table 18.4, R52). -/
abbrev owAction : Nat := 0x0302
/-- LEAD_R_EDGE (Table 18.4, R55). -/
abbrev leadREdge : Nat := 0x0303
/-- CFE_ROLE (Table 18.5, R63). -/
abbrev cfeRole : Nat := 0x0400
/-- SHUNT_UOHM (Table 18.5, R64, R68). -/
abbrev shuntUohm : Nat := 0x0401
/-- SHUNT_TC (Table 18.5, R68). -/
abbrev shuntTc : Nat := 0x0402
/-- CUR_GAIN_TRIM (Table 18.5, R68, R71). -/
abbrev curGainTrim : Nat := 0x0403
/-- CUR_WAKE_MV (Table 18.5, R79). -/
abbrev curWakeMv : Nat := 0x0404
/-- CUR_PLAUS_ABS (Table 18.5, R83). -/
abbrev curPlausAbs : Nat := 0x0405
/-- CUR_PLAUS_REL (Table 18.5, R83). -/
abbrev curPlausRel : Nat := 0x0406
/-- CUR_PLAUS_FRAMES (Table 18.5, R83, R84). -/
abbrev curPlausFrames : Nat := 0x0407
/-- EST_MODE (Table 18.6, R151). -/
abbrev estMode : Nat := 0x0500
/-- AUTO_BLEND (Table 18.6, R161). -/
abbrev autoBlend : Nat := 0x0501
/-- CELL_RATED_AH (Table 18.6, R152, R163). -/
abbrev cellRatedAh : Nat := 0x0502
/-- I_REST_MA (Table 18.6, R144, R154). -/
abbrev iRestMa : Nat := 0x0503
/-- REST_SETTLE_S (Table 18.6, R144). -/
abbrev restSettleS : Nat := 0x0504
/-- REST_STARVE_HOURS (Table 18.6, R158). -/
abbrev restStarveHours : Nat := 0x0505
/-- REST_WINDOW_S (Table 18.6, R158, R160). -/
abbrev restWindowS : Nat := 0x0506
/-- ANCHOR_STARVE_DAYS (Table 18.6, R161). -/
abbrev anchorStarveDays : Nat := 0x0507
/-- I_FULL_MA (Table 18.6, R147). -/
abbrev iFullMa : Nat := 0x0508
/-- T_FULL_S (Table 18.6, R147). -/
abbrev tFullS : Nat := 0x0509
/-- V_FULL_MV (Table 18.6, R147). -/
abbrev vFullMv : Nat := 0x050A
/-- V_FULL_TOL_MV (Table 18.6, R147). -/
abbrev vFullTolMv : Nat := 0x050B
/-- V_EMPTY_MV (Table 18.6, R148, R156). -/
abbrev vEmptyMv : Nat := 0x050C
/-- V_MIN_DIS_MV (Table 18.6, R165). -/
abbrev vMinDisMv : Nat := 0x050D
/-- V_MAX_CHG_MV (Table 18.6, R165, R216). -/
abbrev vMaxChgMv : Nat := 0x050E
/-- FLOOR_MARGIN (Table 18.6, R155). -/
abbrev floorMargin : Nat := 0x050F
/-- HYST_GAIN (Table 18.6, R142). -/
abbrev hystGain : Nat := 0x0510
/-- EST_R_UV (Table 18.6, R142, R144). -/
abbrev estRUv : Nat := 0x0511
/-- EST_MODEL_ERR (Table 18.6, R142). -/
abbrev estModelErr : Nat := 0x0512
/-- EST_Q_SOC (Table 18.6, R142). -/
abbrev estQSoc : Nat := 0x0513
/-- SOC_INIT_SIGMA (Table 18.6, R143, R152). -/
abbrev socInitSigma : Nat := 0x0514
/-- CAP_LEARN_MIN_DSOC (Table 18.6, R150). -/
abbrev capLearnMinDsoc : Nat := 0x0515
/-- CAP_LEARN_GAIN (Table 18.6, R150). -/
abbrev capLearnGain : Nat := 0x0516
/-- CAP_LEARN_STEP_MAX (Table 18.6, R150). -/
abbrev capLearnStepMax : Nat := 0x0517
/-- EOL_CAP_PCT (Table 18.6, R163). -/
abbrev eolCapPct : Nat := 0x0518
/-- EOL_R_PCT (Table 18.6, R163). -/
abbrev eolRPct : Nat := 0x0519
/-- CHG_CAP_MA (Table 18.6, R166). -/
abbrev chgCapMa : Nat := 0x051A
/-- DIS_CAP_MA (Table 18.6, R166). -/
abbrev disCapMa : Nat := 0x051B
/-- CMT_T_BP (Table 18.6, R201). -/
abbrev cmtTBp : Nat := 0x051C
/-- CMT_SOC_BP (Table 18.6, R201). -/
abbrev cmtSocBp : Nat := 0x051D
/-- EIS_COH_MIN (Table 18.7, R187). -/
abbrev eisCohMin : Nat := 0x0600
/-- EIS_MIN_BLOCKS (Table 18.7, R174, R187). -/
abbrev eisMinBlocks : Nat := 0x0601
/-- EIS_RESUME_S (Table 18.7, R180). -/
abbrev eisResumeS : Nat := 0x0602
/-- EIS_RSER_MIN_HZ (Table 18.7, R196). -/
abbrev eisRserMinHz : Nat := 0x0603
/-- EIS_THERMO_MODE (Table 18.7, R192). -/
abbrev eisThermoMode : Nat := 0x0604
/-- EIS_THERMO_HZ (Table 18.7, R192). -/
abbrev eisThermoHz : Nat := 0x0605
/-- EIS_THERMO_AMP (Table 18.7, R192). -/
abbrev eisThermoAmp : Nat := 0x0606
/-- EIS_THERMO_BLOCKS (Table 18.7, R192). -/
abbrev eisThermoBlocks : Nat := 0x0607
/-- THERMO_B (Table 18.7, R193, R197). -/
abbrev thermoB : Nat := 0x0608
/-- THERMO_C1 (Table 18.7, R193). -/
abbrev thermoC1 : Nat := 0x0609
/-- THERMO_C2 (Table 18.7, R193). -/
abbrev thermoC2 : Nat := 0x060A
/-- THERMO_BLEND_W (Table 18.7, R194). -/
abbrev thermoBlendW : Nat := 0x060B
/-- THERMO_MAX_AGE_S (Table 18.7, R194). -/
abbrev thermoMaxAgeS : Nat := 0x060C
/-- THERMO_MAX_DEV (Table 18.7, R193). -/
abbrev thermoMaxDev : Nat := 0x060D
/-- THERMO_REREF (Table 18.7, R198). -/
abbrev thermoReref : Nat := 0x060E
/-- THERMO_EQUIL_S (Table 18.7, R198). -/
abbrev thermoEquilS : Nat := 0x060F
/-- NTC_GROUP (Table 18.7, R194). -/
abbrev ntcGroup : Nat := 0x0610
/-- BAL_MIN_V_MV (Table 18.8, R216, R222). -/
abbrev balMinVMv : Nat := 0x0700
/-- BAL_DEADBAND (Table 18.8, R223). -/
abbrev balDeadband : Nat := 0x0701
/-- LEAD_R_REFRESH_AGE (Table 18.8, R226). -/
abbrev leadRRefreshAge : Nat := 0x0702
/-- BAL_EIS_HOLD (Table 18.8, R230). -/
abbrev balEisHold : Nat := 0x0703
/-- BAL_IN_WATCH (Table 18.8, R232). -/
abbrev balInWatch : Nat := 0x0704
/-- CELL_OV_MV (Table 18.9, R235, R245). -/
abbrev cellOvMv : Nat := 0x0800
/-- CELL_UV_MV (Table 18.9, R235, R245). -/
abbrev cellUvMv : Nat := 0x0801
/-- PROT_HYST_MV (Table 18.9, R235). -/
abbrev protHystMv : Nat := 0x0802
/-- FAULT_RELEASE (Table 18.9, R244). -/
abbrev faultRelease : Nat := 0x0803
/-- FAULT_RELEASE_MS (Table 18.9, R244). -/
abbrev faultReleaseMs : Nat := 0x0804
/-- OC_CHG_MV (Table 18.9, R76). -/
abbrev ocChgMv : Nat := 0x0805
/-- OC_DIS_MV (Table 18.9, R76). -/
abbrev ocDisMv : Nat := 0x0806
/-- CONV_STAGE (Table 18.10, R252). -/
abbrev convStage : Nat := 0x0900
/-- CONV_OWNER (Table 18.10, R252, R253). -/
abbrev convOwner : Nat := 0x0901
/-- CONV_TOPOLOGY (Table 18.10, R249). -/
abbrev convTopology : Nat := 0x0902
/-- CONV_PHASES (Table 18.10, R249). -/
abbrev convPhases : Nat := 0x0903
/-- CONV_PHASES_MIN (Table 18.10, R260, R263). -/
abbrev convPhasesMin : Nat := 0x0904
/-- CONV_FSW_HZ (Table 18.10, R254). -/
abbrev convFswHz : Nat := 0x0905
/-- CONV_DEADTIME_NS (Table 18.10, R255). -/
abbrev convDeadtimeNs : Nat := 0x0906
/-- CONV_LEB_NS (Table 18.10, R255). -/
abbrev convLebNs : Nat := 0x0907
/-- CONV_TON_MIN_NS (Table 18.10, R255). -/
abbrev convTonMinNs : Nat := 0x0908
/-- CONV_TOFF_MIN_NS (Table 18.10, R255). -/
abbrev convToffMinNs : Nat := 0x0909
/-- CONV_SLOPE_MV_US (Table 18.10, R256). -/
abbrev convSlopeMvUs : Nat := 0x090A
/-- PH_SENSE_A_PER_V (Table 18.10, R250). -/
abbrev phSenseAPerV : Nat := 0x090B
/-- PHASE_I_RATED_A (Table 18.10, R260, R263). -/
abbrev phaseIRatedA : Nat := 0x090C
/-- PHASE_I_LIMIT_A (Table 18.10, R256). -/
abbrev phaseILimitA : Nat := 0x090D
/-- BUS_SENSE_V_FS (Table 18.10, R250). -/
abbrev busSenseVFs : Nat := 0x090E
/-- CONV_BUS_OV_V (Table 18.10, Table 11.5). -/
abbrev convBusOvV : Nat := 0x090F
/-- CONV_BUS_UV_V (Table 18.10, Table 11.5). -/
abbrev convBusUvV : Nat := 0x0910
/-- CONV_START_MARGIN_V (Table 18.10, Table 11.4). -/
abbrev convStartMarginV : Nat := 0x0911
/-- CONV_SS_SLEW_A_MS (Table 18.10, R266). -/
abbrev convSsSlewAMs : Nat := 0x0912
/-- CONV_DRAIN_SLEW_A_MS (Table 18.10, R267). -/
abbrev convDrainSlewAMs : Nat := 0x0913
/-- CONV_DRAIN_MAX_MS (Table 18.10, R267). -/
abbrev convDrainMaxMs : Nat := 0x0914
/-- CONV_OFF_I_A (Table 18.10, R267, R348). -/
abbrev convOffIA : Nat := 0x0915
/-- HICCUP_N (Table 18.10, R272). -/
abbrev hiccupN : Nat := 0x0916
/-- HICCUP_TOFF_MS (Table 18.10, R272). -/
abbrev hiccupToffMs : Nat := 0x0917
/-- HICCUP_RETRIES (Table 18.10, R273). -/
abbrev hiccupRetries : Nat := 0x0918
/-- HICCUP_WINDOW_S (Table 18.10, R273). -/
abbrev hiccupWindowS : Nat := 0x0919
/-- SHED_ENABLE (Table 18.10, R260, R261). -/
abbrev shedEnable : Nat := 0x091A
/-- SHED_PCT (Table 18.10, R260). -/
abbrev shedPct : Nat := 0x091B
/-- ADD_PCT (Table 18.10, R260). -/
abbrev addPct : Nat := 0x091C
/-- SHED_DWELL_MS (Table 18.10, R260). -/
abbrev shedDwellMs : Nat := 0x091D
/-- SHED_SPACING_MS (Table 18.10, R260). -/
abbrev shedSpacingMs : Nat := 0x091E
/-- STEP_DIDT_A_MS (Table 18.10, R262). -/
abbrev stepDidtAMs : Nat := 0x091F
/-- STEP_ERR_PCT (Table 18.10, R262). -/
abbrev stepErrPct : Nat := 0x0920
/-- STEP_BLOCK_MS (Table 18.10, R262). -/
abbrev stepBlockMs : Nat := 0x0921
/-- SHARE_TRIM_MAX_PCT (Table 18.10, R259, R263). -/
abbrev shareTrimMaxPct : Nat := 0x0922
/-- SHARE_BW_HZ (Table 18.10, R259). -/
abbrev shareBwHz : Nat := 0x0923
/-- LAW_SLEW_A_MS (Table 18.11, R282). -/
abbrev lawSlewAMs : Nat := 0x0A00
/-- LAW_SLEW_KW_MS (Table 18.11, R282). -/
abbrev lawSlewKwMs : Nat := 0x0A01
/-- LAW_SLEW_V_MS (Table 18.11, R282). -/
abbrev lawSlewVMs : Nat := 0x0A02
/-- LAW_I_CHG_MAX_A (Table 18.11, R287). -/
abbrev lawIChgMaxA : Nat := 0x0A03
/-- LAW_I_DIS_MAX_A (Table 18.11, R287). -/
abbrev lawIDisMaxA : Nat := 0x0A04
/-- LAW_STRING_LIMITS (Table 18.11, R287). -/
abbrev lawStringLimits : Nat := 0x0A05
/-- LAW_KP_I (Table 18.11, R288). -/
abbrev lawKpI : Nat := 0x0A06
/-- LAW_KI_I (Table 18.11, R288). -/
abbrev lawKiI : Nat := 0x0A07
/-- LAW_KP_V (Table 18.11, R284). -/
abbrev lawKpV : Nat := 0x0A08
/-- LAW_KI_V (Table 18.11, R284). -/
abbrev lawKiV : Nat := 0x0A09
/-- LAW_DROOP_V_A (Table 18.11, R283, R284). -/
abbrev lawDroopVA : Nat := 0x0A0A
/-- NOTCH_ENABLE (Table 18.11, R286). -/
abbrev notchEnable : Nat := 0x0A0B
/-- NOTCH_HZ (Table 18.11, R286). -/
abbrev notchHz : Nat := 0x0A0C
/-- NOTCH_Q (Table 18.11, R286). -/
abbrev notchQ : Nat := 0x0A0D
/-- PLAUS_I_A (Table 18.11, R289). -/
abbrev plausIA : Nat := 0x0A0E
/-- PLAUS_TAU_US (Table 18.11, R289). -/
abbrev plausTauUs : Nat := 0x0A0F
/-- PLAUS_ISTR_A (Table 18.11, R289). -/
abbrev plausIstrA : Nat := 0x0A10
/-- PLAUS_ISTR_PCT (Table 18.11, R289). -/
abbrev plausIstrPct : Nat := 0x0A11
/-- PLAUS_V_PCT (Table 18.11, R289). -/
abbrev plausVPct : Nat := 0x0A12
/-- PLAUS_LATCH_S (Table 18.11, R292). -/
abbrev plausLatchS : Nat := 0x0A13
/-- STRING_ID (Table 18.12, Table 13.2; CAN identifiers). -/
abbrev stringId : Nat := 0x0B00
/-- RING_MODULES (Table 18.12, R297). -/
abbrev ringModules : Nat := 0x0B01
/-- RING_POS_SRC (Table 18.12, R300, R302). -/
abbrev ringPosSrc : Nat := 0x0B02
/-- RING_BRANCHES (Table 18.12, R166, R303). -/
abbrev ringBranches : Nat := 0x0B03
/-- BRANCH (Table 18.12, R303). -/
abbrev branch : Nat := 0x0B04
/-- SERIES_POS (Table 18.12, R303). -/
abbrev seriesPos : Nat := 0x0B05
/-- PRIMARY_ELIGIBLE (Table 18.12, R303, R321). -/
abbrev primaryEligible : Nat := 0x0B06
/-- RING_TIME_SRC (Table 18.12, R317). -/
abbrev ringTimeSrc : Nat := 0x0B07
/-- RING_WAKE_OUT (Table 18.12, R328). -/
abbrev ringWakeOut : Nat := 0x0B08
/-- ECLIPSE_PERIOD_H (Table 18.13, R345, R355). -/
abbrev eclipsePeriodH : Nat := 0x0C00
/-- ECLIPSE_CHECK_FRAMES (Table 18.13, R347). -/
abbrev eclipseCheckFrames : Nat := 0x0C01
/-- SAFE_USED (Table 18.14, R365). -/
abbrev safeUsed : Nat := 0x0D00
/-- SAFE_RESTART (Table 18.14, R363). -/
abbrev safeRestart : Nat := 0x0D01
/-- SAFE_DOOR_USED (Table 18.14, R362). -/
abbrev safeDoorUsed : Nat := 0x0D02
/-- SAFE_DISC_MS (Table 18.14, R361). -/
abbrev safeDiscMs : Nat := 0x0D03
/-- SAFE_K_DELAY_MS (Table 18.14, R370). -/
abbrev safeKDelayMs : Nat := 0x0D04
/-- SAFE_PRE_MIN_MS (Table 18.14, R368). -/
abbrev safePreMinMs : Nat := 0x0D05
/-- SAFE_PRE_MAX_MS (Table 18.14, R368). -/
abbrev safePreMaxMs : Nat := 0x0D06
/-- SAFE_PRE_END_MA (Table 18.14, R368). -/
abbrev safePreEndMa : Nat := 0x0D07
/-- SAFE_PRE_OVERLAP_MS (Table 18.14, R368). -/
abbrev safePreOverlapMs : Nat := 0x0D08
/-- SAFE_INRUSH_A (Table 18.14, R368). -/
abbrev safeInrushA : Nat := 0x0D09
/-- SAFE_OPEN_GAP_MS (Table 18.14, R369). -/
abbrev safeOpenGapMs : Nat := 0x0D0A
/-- WAKE_ENABLE (Table 18.15, R396). -/
abbrev wakeEnable : Nat := 0x0E00
/-- WAKE_BUS_V (Table 18.15, Table 16.5). -/
abbrev wakeBusV : Nat := 0x0E01
/-- WAKE_OUT (Table 18.15, R397). -/
abbrev wakeOut : Nat := 0x0E02
/-- RETAIN_A (Table 18.15, R382). -/
abbrev retainA : Nat := 0x0E03
/-- RETAIN_B (Table 18.15, R382). -/
abbrev retainB : Nat := 0x0E04
/-- NOTIFY_PORTS (Table 18.16, R420). -/
abbrev notifyPorts : Nat := 0x0F00
/-- CAN_A_ENABLE (Table 18.16, CAN FD and SPI Host Ports). -/
abbrev canAEnable : Nat := 0x0F01
/-- CAN_A_FD (Table 18.16, as 0x0F01). -/
abbrev canAFd : Nat := 0x0F02
/-- CAN_A_NOM_BPS (Table 18.16, as 0x0F01). -/
abbrev canANomBps : Nat := 0x0F03
/-- CAN_A_NOM_SP (Table 18.16, as 0x0F01). -/
abbrev canANomSp : Nat := 0x0F04
/-- CAN_A_DATA_BPS (Table 18.16, as 0x0F01). -/
abbrev canADataBps : Nat := 0x0F05
/-- CAN_A_DATA_SP (Table 18.16, as 0x0F01). -/
abbrev canADataSp : Nat := 0x0F06
/-- CAN_A_TDC_OFFSET (Table 18.16, as 0x0F01). -/
abbrev canATdcOffset : Nat := 0x0F07
/-- CAN_B_ENABLE (Table 18.16, as 0x0F01). -/
abbrev canBEnable : Nat := 0x0F11
/-- CAN_B_FD (Table 18.16, as 0x0F01). -/
abbrev canBFd : Nat := 0x0F12
/-- CAN_B_NOM_BPS (Table 18.16, as 0x0F01). -/
abbrev canBNomBps : Nat := 0x0F13
/-- CAN_B_NOM_SP (Table 18.16, as 0x0F01). -/
abbrev canBNomSp : Nat := 0x0F14
/-- CAN_B_DATA_BPS (Table 18.16, as 0x0F01). -/
abbrev canBDataBps : Nat := 0x0F15
/-- CAN_B_DATA_SP (Table 18.16, as 0x0F01). -/
abbrev canBDataSp : Nat := 0x0F16
/-- CAN_B_TDC_OFFSET (Table 18.16, as 0x0F01). -/
abbrev canBTdcOffset : Nat := 0x0F17
/-- TAMPER_POLICY (Table 18.17, Security, Tamper and the Journal). -/
abbrev tamperPolicy : Nat := 0x1000

end P

/-- One row of Tables 18.2 to 18.17. -/
structure ParamRow where
  /-- identifier: page and index (R429) -/
  id : Nat
  /-- bytes of one element -/
  size : Nat
  /-- elements: more than one for an array -/
  count : Nat := 1
  /-- two's complement -/
  signed : Bool := false
  /-- least and greatest value -/
  lo : Int
  hi : Int
  /-- the value is a whole multiple of it -/
  step : Int := 1
  /-- one further value of the Range column -/
  alt : Option Int := none
  /-- bits that read 1 and ignore writes -/
  force : Nat := 0
  /-- the Default column -/
  dflt : List Int
  /-- changeable only in SERVICE -/
  service : Bool := false
  /-- the Mode column reads "—" -/
  ro : Bool := false
deriving DecidableEq, Repr

/-- ORDER_CODE: ZX-GS96-A in ASCII, padded with 0x00 to 16 bytes (Table 18.2). -/
def orderCode : List Int := [0x5A, 0x58, 0x2D, 0x47, 0x53, 0x39, 0x36, 0x2D, 0x41, 0, 0, 0, 0, 0, 0, 0]

/-- Table 18.2, Page 0x01xx, system and identity. -/
def paramTable2 : List ParamRow := [
  { id := P.orderCode, size := 1, count := 16, lo := 0, hi := 255, dflt := orderCode, ro := true },
  { id := P.serial, size := 8, lo := 0, hi := 18446744073709551615, dflt := [0], ro := true },
  { id := P.fwVersion, size := 4, lo := 0, hi := 4294967295, dflt := [0], ro := true },
  { id := P.configSeq, size := 4, lo := 0, hi := 4294967295, dflt := [0], ro := true },
  { id := P.configState, size := 1, lo := 0, hi := 2, dflt := [0], ro := true },
  { id := P.assetTag, size := 1, count := 32, lo := 0, hi := 255, dflt := List.replicate 32 0 }]

/-- Table 18.3, Page 0x02xx, frame and scheduler. -/
def paramTable3 : List ParamRow := [
  { id := P.tThrottle, size := 2, signed := true, lo := 7000, hi := 11500, dflt := [10000] },
  { id := P.tHot, size := 2, signed := true, lo := 8000, hi := 12500, dflt := [11500] },
  { id := P.tCrit, size := 2, signed := true, lo := 9000, hi := 13000, dflt := [12500] },
  { id := P.thermalHyst, size := 2, lo := 100, hi := 1000, dflt := [300] },
  { id := P.pauseStep, size := 2, lo := 50, hi := 500, dflt := [250] },
  { id := P.riseLimit, size := 2, lo := 50, hi := 1000, dflt := [200] },
  { id := P.feTjLimit, size := 2, signed := true, lo := 10000, hi := 14000, dflt := [13000] },
  { id := P.balMaxModule, size := 1, lo := 0, hi := 48, dflt := [32] },
  { id := P.modulePowerCap, size := 2, lo := 380, hi := 550, dflt := [550] },
  { id := P.eisEnergyCap, size := 4, lo := 1, hi := 100000, dflt := [2000] },
  { id := P.spareLow, size := 1, lo := 0, hi := 8, dflt := [2] }]

/-- Table 18.4, Page 0x03xx, cell measurement and taps. -/
def paramTable4 : List ParamRow := [
  { id := P.cellCount, size := 1, lo := 48, hi := 96, dflt := [96], service := true },
  { id := P.owThreshold, size := 2, lo := 50, hi := 2000, dflt := [200] },
  { id := P.owAction, size := 1, lo := 0, hi := 1, dflt := [0] },
  { id := P.leadREdge, size := 2, lo := 0, hi := 50000, dflt := [1000] }]

/-- Table 18.5, Page 0x04xx, current. -/
def paramTable5 : List ParamRow := [
  { id := P.cfeRole, size := 1, lo := 0, hi := 2, dflt := [1], service := true },
  { id := P.shuntUohm, size := 2, lo := 2500, hi := 20000, dflt := [10000], service := true },
  { id := P.shuntTc, size := 2, signed := true, lo := -200, hi := 200, dflt := [0] },
  { id := P.curGainTrim, size := 4, signed := true, lo := -20000, hi := 20000, dflt := [0], service := true },
  { id := P.curWakeMv, size := 2, lo := 5, hi := 1000, step := 5, dflt := [20] },
  { id := P.curPlausAbs, size := 4, lo := 100, hi := 50000, dflt := [2000] },
  { id := P.curPlausRel, size := 2, lo := 1, hi := 100, dflt := [10] },
  { id := P.curPlausFrames, size := 2, lo := 10, hi := 10000, dflt := [100] }]

/-- Table 18.6, Page 0x05xx, estimation. -/
def paramTable6 : List ParamRow := [
  { id := P.estMode, size := 1, lo := 0, hi := 1, dflt := [0] },
  { id := P.autoBlend, size := 1, lo := 0, hi := 1, dflt := [1] },
  { id := P.cellRatedAh, size := 2, lo := 100, hi := 65500, dflt := [10000], service := true },
  { id := P.iRestMa, size := 4, lo := 10, hi := 20000, dflt := [1000] },
  { id := P.restSettleS, size := 2, lo := 60, hi := 7200, dflt := [600] },
  { id := P.restStarveHours, size := 2, lo := 1, hi := 720, dflt := [48] },
  { id := P.restWindowS, size := 2, lo := 300, hi := 7200, dflt := [900] },
  { id := P.anchorStarveDays, size := 1, lo := 1, hi := 90, dflt := [14] },
  { id := P.iFullMa, size := 4, lo := 50, hi := 50000, dflt := [2000] },
  { id := P.tFullS, size := 2, lo := 10, hi := 3600, dflt := [300] },
  { id := P.vFullMv, size := 2, lo := 20000, hi := 48000, dflt := [41500] },
  { id := P.vFullTolMv, size := 2, lo := 20, hi := 500, dflt := [100] },
  { id := P.vEmptyMv, size := 2, lo := 15000, hi := 40000, dflt := [31000] },
  { id := P.vMinDisMv, size := 2, lo := 15000, hi := 40000, dflt := [30000] },
  { id := P.vMaxChgMv, size := 2, lo := 30000, hi := 48000, dflt := [42000] },
  { id := P.floorMargin, size := 2, lo := 10, hi := 1000, dflt := [100] },
  { id := P.hystGain, size := 1, lo := 1, hi := 200, dflt := [20] },
  { id := P.estRUv, size := 2, lo := 100, hi := 20000, dflt := [1500] },
  { id := P.estModelErr, size := 1, lo := 0, hi := 100, dflt := [20] },
  { id := P.estQSoc, size := 2, lo := 1, hi := 1000, dflt := [50] },
  { id := P.socInitSigma, size := 2, lo := 50, hi := 2000, dflt := [500] },
  { id := P.capLearnMinDsoc, size := 2, lo := 2000, hi := 10000, dflt := [6000] },
  { id := P.capLearnGain, size := 1, lo := 5, hi := 100, dflt := [25] },
  { id := P.capLearnStepMax, size := 1, lo := 10, hi := 100, dflt := [50] },
  { id := P.eolCapPct, size := 2, lo := 5000, hi := 9500, dflt := [7000] },
  { id := P.eolRPct, size := 2, lo := 110, hi := 400, dflt := [200] },
  { id := P.chgCapMa, size := 4, lo := 0, hi := 2000000, dflt := [500000] },
  { id := P.disCapMa, size := 4, lo := 0, hi := 2000000, dflt := [1000000] },
  { id := P.cmtTBp, size := 2, count := 16, signed := true, lo := -5000, hi := 10000, dflt := (List.range 16).map fun i => -2000 + 500 * (i : Int), service := true },
  { id := P.cmtSocBp, size := 2, count := 128, lo := 0, hi := 10000, dflt := (List.range 128).map fun i => (((20000 * i + 127) / 254 : Nat) : Int), service := true }]

/-- Table 18.7, Page 0x06xx, spectroscopy and thermometry. -/
def paramTable7 : List ParamRow := [
  { id := P.eisCohMin, size := 2, lo := 500, hi := 999, dflt := [900] },
  { id := P.eisMinBlocks, size := 2, lo := 4, hi := 1000, dflt := [8] },
  { id := P.eisResumeS, size := 2, lo := 0, hi := 600, dflt := [60] },
  { id := P.eisRserMinHz, size := 2, lo := 100, hi := 4000, dflt := [500] },
  { id := P.eisThermoMode, size := 1, lo := 0, hi := 2, dflt := [1] },
  { id := P.eisThermoHz, size := 2, lo := 10, hi := 2000, step := 10, dflt := [1000], service := true },
  { id := P.eisThermoAmp, size := 2, lo := 200, hi := 2000, dflt := [500] },
  { id := P.eisThermoBlocks, size := 2, lo := 10, hi := 600, dflt := [50] },
  { id := P.thermoB, size := 2, lo := 500, hi := 10000, dflt := [3000] },
  { id := P.thermoC1, size := 2, signed := true, lo := -1000, hi := 1000, dflt := [0] },
  { id := P.thermoC2, size := 2, signed := true, lo := -1000, hi := 1000, dflt := [0] },
  { id := P.thermoBlendW, size := 1, lo := 1, hi := 100, dflt := [25] },
  { id := P.thermoMaxAgeS, size := 2, lo := 10, hi := 3600, dflt := [120] },
  { id := P.thermoMaxDev, size := 2, lo := 200, hi := 4000, dflt := [1500] },
  { id := P.thermoReref, size := 1, lo := 0, hi := 1, dflt := [1] },
  { id := P.thermoEquilS, size := 4, lo := 600, hi := 86400, dflt := [3600] },
  { id := P.ntcGroup, size := 1, lo := 1, hi := 6, dflt := [6] }]

/-- Table 18.8, Page 0x07xx, balancing. -/
def paramTable8 : List ParamRow := [
  { id := P.balMinVMv, size := 2, lo := 25000, hi := 42000, dflt := [33000] },
  { id := P.balDeadband, size := 2, lo := 10, hi := 1000, dflt := [50] },
  { id := P.leadRRefreshAge, size := 4, lo := 10000, hi := 95000, dflt := [80000] },
  { id := P.balEisHold, size := 1, lo := 0, hi := 1, dflt := [0] },
  { id := P.balInWatch, size := 1, lo := 0, hi := 2, dflt := [1] }]

/-- Table 18.9, Page 0x08xx, protection. -/
def paramTable9 : List ParamRow := [
  { id := P.cellOvMv, size := 2, lo := 2000, hi := 5000, step := 5, dflt := [4250], service := true },
  { id := P.cellUvMv, size := 2, lo := 0, hi := 4000, step := 5, dflt := [2700], service := true },
  { id := P.protHystMv, size := 2, lo := 10, hi := 200, step := 5, dflt := [50], service := true },
  { id := P.faultRelease, size := 1, lo := 0, hi := 1, dflt := [0], service := true },
  { id := P.faultReleaseMs, size := 2, lo := 10, hi := 10000, dflt := [100], service := true },
  { id := P.ocChgMv, size := 2, lo := 500, hi := 6000, step := 25, dflt := [5500], service := true },
  { id := P.ocDisMv, size := 2, lo := 500, hi := 6000, step := 25, dflt := [5500], service := true }]

/-- Table 18.10, Page 0x09xx, converter. -/
def paramTable10 : List ParamRow := [
  { id := P.convStage, size := 1, lo := 0, hi := 1, dflt := [0], service := true },
  { id := P.convOwner, size := 1, lo := 0, hi := 7, alt := some 255, dflt := [255], service := true },
  { id := P.convTopology, size := 1, lo := 0, hi := 1, dflt := [0], service := true },
  { id := P.convPhases, size := 1, lo := 1, hi := 8, dflt := [4], service := true },
  { id := P.convPhasesMin, size := 1, lo := 1, hi := 8, dflt := [1] },
  { id := P.convFswHz, size := 4, lo := 20000, hi := 250000, dflt := [80000], service := true },
  { id := P.convDeadtimeNs, size := 2, lo := 80, hi := 4000, dflt := [400], service := true },
  { id := P.convLebNs, size := 2, lo := 160, hi := 1600, dflt := [400], service := true },
  { id := P.convTonMinNs, size := 2, lo := 320, hi := 4000, dflt := [320], service := true },
  { id := P.convToffMinNs, size := 2, lo := 320, hi := 4000, dflt := [800], service := true },
  { id := P.convSlopeMvUs, size := 2, count := 8, lo := 0, hi := 4000, dflt := List.replicate 8 100, service := true },
  { id := P.phSenseAPerV, size := 4, lo := 1000, hi := 1000000, dflt := [33333], service := true },
  { id := P.phaseIRatedA, size := 2, lo := 5, hi := 4000, dflt := [200], service := true },
  { id := P.phaseILimitA, size := 2, lo := 5, hi := 5000, dflt := [250], service := true },
  { id := P.busSenseVFs, size := 2, lo := 100, hi := 2000, dflt := [1000], service := true },
  { id := P.convBusOvV, size := 2, lo := 50, hi := 1960, dflt := [900], service := true },
  { id := P.convBusUvV, size := 2, lo := 0, hi := 1900, dflt := [0] },
  { id := P.convStartMarginV, size := 2, lo := 5, hi := 200, dflt := [20] },
  { id := P.convSsSlewAMs, size := 2, lo := 1, hi := 1000, dflt := [50] },
  { id := P.convDrainSlewAMs, size := 2, lo := 1, hi := 1000, dflt := [100] },
  { id := P.convDrainMaxMs, size := 2, lo := 10, hi := 1000, dflt := [200] },
  { id := P.convOffIA, size := 2, lo := 1, hi := 500, dflt := [20] },
  { id := P.hiccupN, size := 1, lo := 1, hi := 255, dflt := [16] },
  { id := P.hiccupToffMs, size := 2, lo := 1, hi := 1000, dflt := [100] },
  { id := P.hiccupRetries, size := 1, lo := 0, hi := 15, dflt := [5] },
  { id := P.hiccupWindowS, size := 2, lo := 1, hi := 600, dflt := [10] },
  { id := P.shedEnable, size := 1, lo := 0, hi := 1, dflt := [1] },
  { id := P.shedPct, size := 1, lo := 5, hi := 50, dflt := [20] },
  { id := P.addPct, size := 1, lo := 10, hi := 90, dflt := [35] },
  { id := P.shedDwellMs, size := 2, lo := 1, hi := 1000, dflt := [5] },
  { id := P.shedSpacingMs, size := 1, lo := 1, hi := 100, dflt := [2] },
  { id := P.stepDidtAMs, size := 2, lo := 10, hi := 10000, dflt := [200] },
  { id := P.stepErrPct, size := 1, lo := 5, hi := 100, dflt := [15] },
  { id := P.stepBlockMs, size := 2, lo := 10, hi := 1000, dflt := [50] },
  { id := P.shareTrimMaxPct, size := 1, lo := 0, hi := 100, dflt := [100] },
  { id := P.shareBwHz, size := 2, lo := 20, hi := 1000, dflt := [200] }]

/-- Table 18.11, Page 0x0Axx, control law. -/
def paramTable11 : List ParamRow := [
  { id := P.lawSlewAMs, size := 2, lo := 1, hi := 10000, dflt := [100] },
  { id := P.lawSlewKwMs, size := 2, lo := 1, hi := 10000, dflt := [100] },
  { id := P.lawSlewVMs, size := 2, lo := 1, hi := 10000, dflt := [100] },
  { id := P.lawIChgMaxA, size := 2, lo := 0, hi := 40000, dflt := [40000] },
  { id := P.lawIDisMaxA, size := 2, lo := 0, hi := 40000, dflt := [40000] },
  { id := P.lawStringLimits, size := 1, lo := 0, hi := 1, dflt := [1] },
  { id := P.lawKpI, size := 2, lo := 0, hi := 400, dflt := [50] },
  { id := P.lawKiI, size := 2, lo := 0, hi := 50000, dflt := [5000] },
  { id := P.lawKpV, size := 2, lo := 0, hi := 10000, dflt := [100] },
  { id := P.lawKiV, size := 4, lo := 0, hi := 100000, dflt := [400] },
  { id := P.lawDroopVA, size := 2, lo := 0, hi := 1000, dflt := [100] },
  { id := P.notchEnable, size := 1, lo := 0, hi := 1, dflt := [0] },
  { id := P.notchHz, size := 4, lo := 2000, hi := 80000, dflt := [10000] },
  { id := P.notchQ, size := 1, lo := 5, hi := 200, dflt := [20] },
  { id := P.plausIA, size := 2, lo := 10, hi := 5000, dflt := [250], service := true },
  { id := P.plausTauUs, size := 2, lo := 25, hi := 5000, dflt := [200], service := true },
  { id := P.plausIstrA, size := 2, lo := 10, hi := 5000, dflt := [200], service := true },
  { id := P.plausIstrPct, size := 1, lo := 10, hi := 200, dflt := [50], service := true },
  { id := P.plausVPct, size := 1, lo := 10, hi := 200, dflt := [50], service := true },
  { id := P.plausLatchS, size := 2, lo := 10, hi := 3600, dflt := [600], service := true }]

/-- Table 18.12, Page 0x0Bxx, ring and cascade. -/
def paramTable12 : List ParamRow := [
  { id := P.stringId, size := 1, lo := 0, hi := 63, dflt := [0], service := true },
  { id := P.ringModules, size := 1, lo := 1, hi := 8, dflt := [1], service := true },
  { id := P.ringPosSrc, size := 1, lo := 0, hi := 1, dflt := [0], service := true },
  { id := P.ringBranches, size := 1, lo := 1, hi := 2, dflt := [1], service := true },
  { id := P.branch, size := 1, lo := 0, hi := 1, dflt := [0], service := true },
  { id := P.seriesPos, size := 1, lo := 0, hi := 7, dflt := [0], service := true },
  { id := P.primaryEligible, size := 1, lo := 0, hi := 1, dflt := [1], service := true },
  { id := P.ringTimeSrc, size := 1, lo := 0, hi := 1, dflt := [0] },
  { id := P.ringWakeOut, size := 1, lo := 0, hi := 1, dflt := [1] }]

/-- Table 18.13, Page 0x0Cxx, lanes. -/
def paramTable13 : List ParamRow := [
  { id := P.eclipsePeriodH, size := 1, lo := 0, hi := 168, dflt := [24] },
  { id := P.eclipseCheckFrames, size := 2, lo := 10, hi := 10000, dflt := [100] }]

/-- Table 18.14, Page 0x0Dxx, safety. -/
def paramTable14 : List ParamRow := [
  { id := P.safeUsed, size := 1, lo := 0, hi := 1, dflt := [1], service := true },
  { id := P.safeRestart, size := 1, lo := 0, hi := 1, dflt := [0], service := true },
  { id := P.safeDoorUsed, size := 1, lo := 0, hi := 1, dflt := [1], service := true },
  { id := P.safeDiscMs, size := 2, lo := 5, hi := 500, dflt := [50], service := true },
  { id := P.safeKDelayMs, size := 1, lo := 0, hi := 8, dflt := [5], service := true },
  { id := P.safePreMinMs, size := 2, lo := 10, hi := 5000, dflt := [100], service := true },
  { id := P.safePreMaxMs, size := 2, lo := 50, hi := 10000, dflt := [2000], service := true },
  { id := P.safePreEndMa, size := 2, lo := 50, hi := 50000, dflt := [100], service := true },
  { id := P.safePreOverlapMs, size := 2, lo := 10, hi := 500, dflt := [50], service := true },
  { id := P.safeInrushA, size := 2, lo := 10, hi := 2000, dflt := [300], service := true },
  { id := P.safeOpenGapMs, size := 1, lo := 5, hi := 100, dflt := [20], service := true }]

/-- Table 18.15, Page 0x0Exx, power states. -/
def paramTable15 : List ParamRow := [
  { id := P.wakeEnable, size := 1, lo := 0, hi := 127, force := 8, dflt := [127] },
  { id := P.wakeBusV, size := 2, lo := 20, hi := 1500, dflt := [60] },
  { id := P.wakeOut, size := 1, lo := 0, hi := 1, dflt := [1] },
  { id := P.retainA, size := 1, lo := 0, hi := 255, dflt := [15] },
  { id := P.retainB, size := 1, lo := 0, hi := 255, dflt := [15] }]

/-- Table 18.16, Page 0x0Fxx, CAN and SPI. -/
def paramTable16 : List ParamRow := [
  { id := P.notifyPorts, size := 1, lo := 0, hi := 15, dflt := [10] },
  { id := P.canAEnable, size := 1, lo := 0, hi := 1, dflt := [1] },
  { id := P.canAFd, size := 1, lo := 0, hi := 2, dflt := [2] },
  { id := P.canANomBps, size := 4, lo := 125000, hi := 1000000, dflt := [500000] },
  { id := P.canANomSp, size := 2, lo := 500, hi := 900, dflt := [800] },
  { id := P.canADataBps, size := 4, lo := 1000000, hi := 8000000, dflt := [2000000] },
  { id := P.canADataSp, size := 2, lo := 500, hi := 900, dflt := [750] },
  { id := P.canATdcOffset, size := 1, lo := 0, hi := 127, dflt := [0] },
  { id := P.canBEnable, size := 1, lo := 0, hi := 1, dflt := [1] },
  { id := P.canBFd, size := 1, lo := 0, hi := 2, dflt := [2] },
  { id := P.canBNomBps, size := 4, lo := 125000, hi := 1000000, dflt := [500000] },
  { id := P.canBNomSp, size := 2, lo := 500, hi := 900, dflt := [800] },
  { id := P.canBDataBps, size := 4, lo := 1000000, hi := 8000000, dflt := [2000000] },
  { id := P.canBDataSp, size := 2, lo := 500, hi := 900, dflt := [750] },
  { id := P.canBTdcOffset, size := 1, lo := 0, hi := 127, dflt := [0] }]

/-- Table 18.17, Page 0x10xx, security. -/
def paramTable17 : List ParamRow := [
  { id := P.tamperPolicy, size := 1, lo := 1, hi := 15, force := 1, dflt := [7], service := true }]

/-- Every parameter of the module, by rising identifier (R434). -/
def paramTable : List ParamRow :=
  paramTable2 ++ paramTable3 ++ paramTable4 ++ paramTable5 ++ paramTable6 ++ paramTable7 ++ paramTable8 ++ paramTable9 ++ paramTable10 ++ paramTable11 ++ paramTable12 ++ paramTable13 ++ paramTable14 ++ paramTable15 ++ paramTable16 ++ paramTable17

/-- The row of a parameter; none where no parameter has the identifier (R431). -/
def paramRow (id : Nat) : Option ParamRow := paramTable.find? fun r => r.id == id

/-- The boot slot whose image runs: the TRIAL slot from the restart that follows its verification (20 R467, R468). -/
def State.fwRunning (s : State) : Nat :=
  if s.sec.fwTrial.isSome && !s.sec.restart then 1 - s.sec.fwBoot else s.sec.fwBoot

/-- The active value of a parameter, one number per element. Read-only rows show the state they report (Table 18.2);
every other parameter stands at its default until a COMMIT applies a value. -/
def State.paramVals (s : State) (id : Nat) : List Int :=
  if id = P.serial then [(s.ploza.serial.toNat : Int)]
  else if id = P.fwVersion then [(((s.sec.fwSlots.getD s.fwRunning {}).version.toNat : Nat) : Int)]
  else if id = P.configSeq then [(s.ploza.configSeq : Int)]
  else if id = P.configState then [(s.ploza.configState : Int)]
  else match s.ploza.params.lookup id with
    | some v => v
    | none => match paramRow id with
      | some r => r.dflt
      | none => []

/-- The active value of a parameter of one element. -/
def State.pv (s : State) (id : Nat) : Int := (s.paramVals id).headD 0

/-- The same as a natural number. -/
def State.pn (s : State) (id : Nat) : Nat := (s.pv id).toNat

/-- The same as a rational. -/
def State.pr (s : State) (id : Nat) : Rat := (s.pv id : Rat)

/-- A parameter that is 0 or 1, as a truth value. -/
def State.pb (s : State) (id : Nat) : Bool := s.pv id == 1

/-- The value staged for a parameter. -/
def State.stagedVal (s : State) (id : Nat) : Option (List Int) := (s.ploza.staged.find? fun v => v.id == id).map (·.val)

/-- The staged value, with the active one standing in where none is staged (18_parameter_map.md R432). -/
def State.wouldBe (s : State) (id : Nat) : List Int := (s.stagedVal id).getD (s.paramVals id)

/-- Its first element. -/
def State.wb (s : State) (id : Nat) : Int := (s.wouldBe id).headD 0

/-- VALUE of a parameter as bytes (R429). -/
def ParamRow.encode (r : ParamRow) (v : List Int) : List Byte := v.flatMap (toLeInt r.size)

/-- Elements `i` to `i + n - 1` of VALUE. -/
def ParamRow.elements (r : ParamRow) (bs : List Byte) : List Int :=
  (List.range r.count).map fun i =>
    if r.signed then getS bs (i * r.size) r.size else (getU bs (i * r.size) r.size : Int)

/-- VALUE read from bytes, with the bits that read 1 set before the range check (R429). -/
def ParamRow.decode (r : ParamRow) (bs : List Byte) : List Int :=
  (r.elements bs).map fun v => if r.force = 0 then v else ((v.toNat ||| r.force : Nat) : Int)

/-- Length of VALUE in bytes. -/
def ParamRow.bytes (r : ParamRow) : Nat := r.size * r.count

/-- One element lies in the range and on a step (R429). -/
def ParamRow.elemOk (r : ParamRow) (v : Int) : Bool := (decide (r.lo ≤ v ∧ v ≤ r.hi) && v % r.step == 0) || r.alt == some v

/-- A whole value lies in the range. -/
def ParamRow.ok (r : ParamRow) (v : List Int) : Bool := v.all r.elemOk

/-- The list of values that differ from their defaults with one more value set, kept by rising identifier and without
entries equal to the default. -/
def setParam (l : List (Nat × List Int)) (id : Nat) (v : List Int) : List (Nat × List Int) :=
  let rest := l.filter fun e => e.1 != id
  if (paramRow id).map (·.dflt) = some v then rest
  else rest.filter (fun e => e.1 < id) ++ (id, v) :: rest.filter (fun e => id < e.1)

/-- The configured cell count N (02_cell_taps_and_front_ends.md R36). -/
def State.cells (s : State) : Nat := s.pn P.cellCount

/-- Front end `k` is active: it serves at least one cell of 1 to N (R37). -/
def State.feActive (s : State) (k : Nat) : Bool := 16 * k - 15 ≤ s.cells

end Sys2Proof.Machine
end

