-- ==== Sys2Proof/Machine/Ops.lean ====
section
/-!
DEFINITION. The named operations every command shares: reaching into the lists of State, packets and their carriers,
notices, completions, absorbed events, the fault cause register with its capture FIFO, the journal, free values.
-/

namespace Sys2Proof.Machine

/-! ### Reaching into the lists -/

/-- Front end `k`, 1 to 6. -/
def State.feAt (s : State) (k : Nat) : Fe := s.fe.getD (k - 1) {}
/-- `s` with front end `k` changed. -/
def State.modFe (s : State) (k : Nat) (f : Fe → Fe) : State := { s with fe := s.fe.modify (k - 1) f }
/-- Cell channel `n`, 1 to 96. -/
def State.chanAt (s : State) (n : Nat) : Chan := s.chan.getD (n - 1) {}
/-- `s` with channel `n` changed. -/
def State.modChan (s : State) (n : Nat) (f : Chan → Chan) : State := { s with chan := s.chan.modify (n - 1) f }
/-- Tap lead `t` by its place in the list: 0 to 47, 48 for 48L, 49 for 48H, then 50 to 97 for taps 49 to 96. -/
def State.tapAt (s : State) (t : Nat) : Tap := s.tap.getD t {}
/-- `s` with one tap lead changed. -/
def State.modTap (s : State) (t : Nat) (f : Tap → Tap) : State := { s with tap := s.tap.modify t f }
/-- Pan `p`, 0 to 47. -/
def State.panAt (s : State) (p : Nat) : Pan := s.pan.getD p {}
/-- `s` with pan `p` changed. -/
def State.modPan (s : State) (p : Nat) (f : Pan → Pan) : State := { s with pan := s.pan.modify p f }
/-- Role slot `k`, 0 to 39. -/
def State.slotAt (s : State) (k : Nat) : RoleSlot := s.slot.getD k {}
/-- `s` with role slot `k` changed. -/
def State.modSlot (s : State) (k : Nat) (f : RoleSlot → RoleSlot) : State := { s with slot := s.slot.modify k f }
/-- Estimator of cell `n`. -/
def State.estAt (s : State) (n : Nat) : Est := s.est.getD (n - 1) {}
/-- `s` with the estimator of cell `n` changed. -/
def State.modEst (s : State) (n : Nat) (f : Est → Est) : State := { s with est := s.est.modify (n - 1) f }
/-- Thermometry of cell `n`. -/
def State.thermoAt (s : State) (n : Nat) : Thermo := s.thermo.getD (n - 1) {}
/-- `s` with the thermometry of cell `n` changed. -/
def State.modThermo (s : State) (n : Nat) (f : Thermo → Thermo) : State := { s with thermo := s.thermo.modify (n - 1) f }
/-- Converter phase `j`, 1 to 8. -/
def State.phaseAt (s : State) (j : Nat) : Phase := s.phase.getD (j - 1) {}
/-- `s` with converter phase `j` changed. -/
def State.modPhase (s : State) (j : Nat) (f : Phase → Phase) : State := { s with phase := s.phase.modify (j - 1) f }
/-- Branch `b`, 0 or 1. -/
def State.branchAt (s : State) (b : Nat) : Branch := s.branch.getD b {}
/-- `s` with branch `b` changed. -/
def State.modBranch (s : State) (b : Nat) (f : Branch → Branch) : State := { s with branch := s.branch.modify b f }
/-- A lane: false A, true B. -/
def State.laneAt (s : State) (b : Bool) : Lane := s.lane.getD (bit b) {}
/-- `s` with one lane changed. -/
def State.modLane (s : State) (b : Bool) (f : Lane → Lane) : State := { s with lane := s.lane.modify (bit b) f }
/-- A CAN controller: false CAN-A, true CAN-B. -/
def State.canAt (s : State) (b : Bool) : Can := s.can.getD (bit b) {}
/-- `s` with one CAN controller changed. -/
def State.modCan (s : State) (b : Bool) (f : Can → Can) : State := { s with can := s.can.modify (bit b) f }
/-- Balancing state of cell `n`. -/
def State.balAt (s : State) (n : Nat) : BalCell := s.bal.cells.getD (n - 1) {}

/-! ### Codes -/

/-- Table 17.4 code of a port. -/
def portCode : Port → Nat
  | .own => 1 | .ring => 2 | .spi => 3 | .canA => 4 | .canB => 5

/-- Place of a port in the list of port records: ring, SPI, CAN-A, CAN-B. -/
def portIdx : Port → Nat
  | .own => 0 | .ring => 0 | .spi => 1 | .canA => 2 | .canB => 3

/-- The port record of a port. -/
def State.portAt (s : State) (p : Port) : PortSt := s.port.getD (portIdx p) {}
/-- `s` with one port record changed. -/
def State.modPort (s : State) (p : Port) (f : PortSt → PortSt) : State := { s with port := s.port.modify (portIdx p) f }

/-- MODE codes (Table 17.12). -/
def Mode.code : Mode → Nat
  | .service => 0 | .standby => 1 | .active => 2

/-- Power-state codes (Table 17.12). -/
def PowerSt.code : PowerSt → Nat
  | .run => 0 | .watch => 1 | .doze => 2 | .aphelion => 3

/-- Codes of a switchable function's states. -/
def FnState.code : FnState → Nat
  | .off => 0 | .starting => 1 | .on => 2 | .draining => 3

/-- Law-mode codes (Table 17.14). -/
def LawMode.code : LawMode → Nat
  | .current => 0 | .power => 1 | .busVoltage => 2

/-- Safety-state codes (Table 15.6). -/
def SafeSt.code : SafeSt → Nat
  | .safe => 0 | .armed => 1 | .tripped => 2 | .notUsed => 3

/-- The status of a reply or completion (Table 17.11). -/
inductive Status where
  | ok | deferred | busy | draining | superseded | unknownOpcode | badLength | badCrc | unknownParam | outOfRange
  | wrongState | lostArbitration | readOnly | refused | tamperLatched | signatureInvalid | internal
deriving DecidableEq, Repr

/-- Status codes of Table 17.11. -/
def Status.code : Status → Nat
  | .ok => 0x00 | .deferred => 0x01 | .busy => 0x02 | .draining => 0x03 | .superseded => 0x04 | .unknownOpcode => 0x10
  | .badLength => 0x11 | .badCrc => 0x12 | .unknownParam => 0x13 | .outOfRange => 0x14 | .wrongState => 0x15
  | .lostArbitration => 0x16 | .readOnly => 0x17 | .refused => 0x20 | .tamperLatched => 0x30
  | .signatureInvalid => 0x31 | .internal => 0x3F

/-! ### Free values -/

/-- The next free value, and the state with the counter of free values advanced (log entry 2). -/
def State.draw (s : State) : BitVec 64 × State :=
  (Config.freeValue s.free.ctr, { s with free.ctr := s.free.ctr + 1 })

/-! ### Who runs -/

/-- The controller domain is clocked: RUN or WATCH, and not restarting. -/
def State.clockOn (s : State) : Bool := (s.power.st == .run || s.power.st == .watch) && !s.power.off

/-- An entry to DOZE or APHELION has switched its ports off (16 R393 step 4). -/
def State.portsCut (s : State) : Bool := s.power.phase == .committed && s.power.target != .watch && decide (4 ≤ s.power.entryStep)

/-- The ports of the controller domain are on. -/
def State.portsOn (s : State) : Bool := s.clockOn && !s.portsCut

/-- A lane carries out boundaries: the token is held, no gap runs and the module is not in the protection-only state. -/
def State.laneRuns (s : State) : Bool := s.lanes.valid && !s.lanes.gap && !s.lanes.protOnly && s.portsOn

/-- Number of the lane in charge: 0 A, 1 B. -/
def State.laneNo (s : State) : Nat := bit s.lanes.holder

/-- The module is the string's primary: a module alone in its string always is (13 R315). -/
def State.isPrimary (s : State) : Bool := s.ring.isPrimary || s.pn P.ringModules == 1

/-! ### Packets and their carriers -/

/-- A packet of Table 17.1 or 17.2 with its CRC: first four header bytes and payload. -/
def mkPacket (b0 b1 b2 b3 : Nat) (payload : List Byte) : List Byte :=
  withCrc (toLe 1 b0 ++ toLe 1 b1 ++ toLe 1 b2 ++ toLe 1 b3 ++ toLe 2 payload.length ++ payload)

/-- A reply packet (17 R406): the opcode with bit 7 set, SEQUENCE, STATUS, own position. -/
def State.replyPacket (s : State) (opcode : Byte) (seq : Byte) (st : Status) (payload : List Byte) : List Byte :=
  mkPacket (opcode ||| 0x80).toNat seq.toNat st.code s.ring.position payload

/-- Bytes held in the SPI outbound queue (Table 19.7 OUT_QUEUED). -/
def outBytes (q : List OutPkt) : Nat := (q.map (·.bytes.length)).sum

/-- `q` without its oldest packet of a class. -/
def dropOldest (c : OutClass) : List OutPkt → List OutPkt
  | [] => []
  | p :: q => if p.cls = c then q else p :: dropOldest c q

/-- One discard of 19 R454: the oldest stream record, else the oldest notice, else the oldest reply. -/
def discardOne (q : List OutPkt) : List OutPkt :=
  if q.any (·.cls == .stream) then dropOldest .stream q
  else if q.any (·.cls == .notice) then dropOldest .notice q else dropOldest .reply q

/-- Discards, at most `n`, until `len` more bytes fit in 16,384; the number discarded beside the queue. -/
def discardFor : Nat → Nat → List OutPkt → List OutPkt × Nat
  | 0, _, q => (q, 0)
  | n + 1, len, q =>
    if outBytes q + len ≤ 16384 then (q, 0)
    else
      let (q', k) := discardFor n len (discardOne q)
      (q', k + 1)

/-- A packet enters the SPI outbound queue (19 R454); one discarded counts in SPI_ERRORS and sets OUT_OVF. When the head
is discarded the host reads the new head from its start (log entry 12). -/
def State.sendSpi (s : State) (cls : OutClass) (bytes : List Byte) : State :=
  let (q, k) := discardFor s.spi.outQ.length bytes.length s.spi.outQ
  { s with
    spi.outQ := q ++ [{ cls := cls, bytes := bytes }]
    spi.outPos := if q.head? = s.spi.outQ.head? then s.spi.outPos else 0
    spi.outErrors := satTo 0xFFFF (s.spi.outErrors + k)
    spi.irqStatus := if k = 0 then s.spi.irqStatus else setBit s.spi.irqStatus 7 true }

/-- The next CAN FD data length at or above `n` (17 R409). -/
def fdLength (n : Nat) : Nat :=
  if n ≤ 8 then n else if n ≤ 12 then 12 else if n ≤ 16 then 16 else if n ≤ 20 then 20 else if n ≤ 24 then 24
  else if n ≤ 32 then 32 else if n ≤ 48 then 48 else 64

/-- `bs` cut into pieces of `n` bytes, at most `fuel` of them. -/
def chunks : Nat → Nat → List Byte → List (List Byte)
  | 0, _, _ => []
  | fuel + 1, n, bs => if bs.length ≤ n then [bs] else bs.take n :: chunks fuel n (bs.drop n)

/-- The 29-bit identifier of Table 19.2 from its fields. -/
def canId (prio str pos cls form addr seq : Nat) : BitVec 29 :=
  BitVec.ofNat 29 (pack [(26, 3, prio), (20, 6, str), (17, 3, pos), (15, 2, cls), (13, 2, form), (11, 2, addr), (0, 8, seq)])

/-- CLASS code of Table 19.3 of a packet that the module sends. -/
def OutClass.code : OutClass → Nat
  | .reply => 1 | .notice => 2 | .stream => 3

/-- CAN_x_FD of a port: 0 CLASSICAL, 1 FD, 2 FD_BRS. -/
def State.canFd (s : State) (b : Bool) : Nat := s.pn (if b then P.canBFd else P.canAFd)

/-- The frames of a packet on a CAN port (17 R409, 19 R443, R446): none when a CLASSICAL port cannot carry it. -/
def State.canFrames (s : State) (b : Bool) (cls : OutClass) (prio : Nat) (bytes : List Byte) : List CanFrame :=
  let size := if s.canFd b = 0 then 8 else 64
  if s.canFd b = 0 && 2048 < bytes.length then []
  else
    let segs := chunks 257 size bytes
    let many := 1 < segs.length
    (List.range segs.length).map fun k =>
      let seg := segs.getD k []
      let form := if !many then 0 else if k = 0 then 1 else 2
      let seq := if !many then (getB bytes 1).toNat else k
      { id := canId prio (s.pn P.stringId) s.ring.position cls.code form 0 seq
        data := if size = 8 then seg else padTo (fdLength seg.length) seg
        time := s.grid.plantNs }

/-- Frames enter a port whole: first the FIFO of 32 while the queue behind it is empty, then the queue (19 R448). -/
def canEnqueue (c : Can) (fs : List CanFrame) : Can :=
  let all := c.fifo ++ c.queue ++ fs
  { c with fifo := all.take (max 32 c.fifo.length), queue := all.drop (max 32 c.fifo.length) }

/-- A packet enters a CAN port's transmit path. -/
def State.sendCan (s : State) (b : Bool) (cls : OutClass) (prio : Nat) (bytes : List Byte) : State :=
  s.modCan b fun c => canEnqueue c (s.canFrames b cls prio bytes)

/-- A message is queued for the uplink (13 R314). -/
def State.sendRing (s : State) (kind prio : Nat) (bytes : List Byte) : State :=
  { s with ring.upQueue := s.ring.upQueue ++ [{ kind := kind, prio := prio, data := bytes }] }

/-- A record that the pan of role slot `k` puts on the ring: it keeps its job class while it waits (04 R108). -/
def State.sendPanRecord (s : State) (kind prio cls k : Nat) (bytes : List Byte) : State :=
  { s with ring.upQueue := s.ring.upQueue ++
      [{ kind := kind, prio := prio, cls := cls, pan := ((s.slotAt k).pan).getD k, data := bytes }] }

/-- The priority of a reply: that of its request (19 R445); 4 where no request is known. -/
def State.replyPrio (s : State) (p : Port) (seq : Byte) : Nat :=
  ((s.canAt (p == .canB)).rxPrio.lookup seq).getD 4

/-- A reply leaves on the port of its request; a change of the module's own has no port. -/
def State.sendReply (s : State) (p : Port) (bytes : List Byte) : State :=
  let s := s.modPort p fun t =>
    { t with sentReplies := ((getB bytes 1, s.grid.frame) :: t.sentReplies).take 256 }
  match p with
  | .own => s
  | .ring => s.sendRing 1 0 bytes
  | .spi => s.sendSpi .reply bytes
  | .canA => s.sendCan false .reply (s.replyPrio .canA (getB bytes 1)) bytes
  | .canB => s.sendCan true .reply (s.replyPrio .canB (getB bytes 1)) bytes

/-! ### Notices -/

/-- NOTIFY payload of Table 17.6. -/
def noticePayload (n : Notice) : List Byte :=
  toLe 1 n.sub ++ zeros 3 ++ w32 n.frame ++ w64 n.time ++ n.data

/-- Subtypes that use the alarm slot (19 R450): SAFETY, THERMAL_CRIT, FE_LOST, ROLE_LOST. -/
def isAlarm (sub : Nat) : Bool := [0x05, 0x0F, 0x08, 0x0C].contains sub

/-- A notice on a CAN port: an alarm takes the free alarm slot of an FD port; everything else queues (19 R445, R450). -/
def State.noticeCan (s : State) (b : Bool) (sub : Nat) (bytes : List Byte) : State :=
  let prio := if isAlarm sub then 0 else 4
  if isAlarm sub && s.canFd b != 0 && (s.canAt b).alarm.isNone then
    match s.canFrames b .notice prio bytes with
    | [f] => s.modCan b fun c => { c with alarm := some f }
    | _ => s.sendCan b .notice prio bytes
  else s.sendCan b .notice prio bytes

/-- A notice as it leaves on one port, with the port's notice counter advanced (17 R423). Only a satellite sends a ring
notice, on its uplink (17 R420). -/
def State.noticeOn (s : State) (p : Port) (n : Notice) : State :=
  let bytes := mkPacket 0x70 (s.portAt p).notices 0 n.source (noticePayload n)
  let s := s.modPort p fun x => { x with notices := (x.notices + 1) % 256 }
  match p with
  | .own => s
  | .spi => s.sendSpi .notice bytes
  | .canA => s.noticeCan false n.sub bytes
  | .canB => s.noticeCan true n.sub bytes
  | .ring => if s.isPrimary then s else s.sendRing 1 3 bytes

/-- The ports of a NOTIFY_PORTS value, in its bit order (17 R420). -/
def noticePorts (m : Nat) : List Port :=
  (if m.testBit 0 then [.spi] else []) ++ (if m.testBit 1 then [.canA] else []) ++
  (if m.testBit 2 then [.canB] else []) ++ (if m.testBit 3 then [.ring] else [])

/-- A notice leaves on every port of NOTIFY_PORTS at once. -/
def State.sendNotice (s : State) (n : Notice) : State :=
  (noticePorts (s.pn P.notifyPorts)).foldl (fun s p => s.noticeOn p n) s

/-- A NOTIFY of this module (17 R420): sent while a lane runs, behind the replies of a boundary under way (19 R448),
otherwise kept until one does. -/
def State.notify (s : State) (sub : Nat) (data : List Byte) : State :=
  let n : Notice := { sub := sub, frame := s.grid.frame, time := s.grid.plantNs, data := data, source := s.ring.position }
  if s.laneRuns && !s.ploza.holdNotices then s.sendNotice n else { s with ploza.notices := s.ploza.notices ++ [n] }

/-- The notices kept so far leave. -/
def State.flushNotices (s : State) : State :=
  s.ploza.notices.foldl State.sendNotice { s with ploza.notices := [] }

/-- The COMPLETION notice of Table 17.5. -/
def completionData (r : DeferRef) (final : Status) (outcome reason endCause : Nat) (detail : List Byte) : List Byte :=
  [r.opcode, r.seq] ++ toLe 1 (if r.opcode = 0 then 0 else portCode r.port) ++ toLe 1 final.code ++ toLe 1 outcome ++
  toLe 1 reason ++ toLe 1 endCause ++ [0] ++ detail

/-- A command or function completes (17 R419): its COMPLETION is sent and it waits no longer. -/
def State.complete (s : State) (r : DeferRef) (final : Status) (outcome reason endCause : Nat) (detail : List Byte) : State :=
  let s := { s with ploza.deferred := s.ploza.deferred.filter fun d =>
    !(d.opcode == r.opcode && d.seq == r.seq && d.port == r.port) }
  s.notify 0x01 (completionData r final outcome reason endCause detail)

/-! ### Absorbed events -/

/-- The record of Table 14.7. -/
def absBytes (e : AbsEvt) : List Byte :=
  withCrc (toLe 1 e.source ++ toLe 1 e.unit ++ toLe 2 e.code ++ toLe 4 e.seq ++ w32 e.frame ++ w64 e.time ++
    toLe 1 e.cell ++ toLe 1 e.lane ++ padTo 6 e.detail)

/-- An absorbed event (14 R352): recorded and sent with NOTIFY ABSORBED_EVENT; in the protection-only state it is only
counted. `unit` 0xFF and `cell` 0 stand for none. -/
def State.absorb (s : State) (source event unit cell : Nat) (detail : List Byte) : State :=
  if s.lanes.protOnly then { s with lanes.protEvents := s.lanes.protEvents + 1 }
  else
    let e : AbsEvt :=
      { source := source, unit := unit, code := 256 * source + event, seq := s.lanes.absSeq % 2 ^ 32,
        frame := s.grid.frame, time := s.grid.plantNs, cell := cell, lane := s.laneNo, detail := padTo 6 detail }
    let s := { s with
      lanes.absRecs := (e :: s.lanes.absRecs).take 128
      lanes.absSeq := s.lanes.absSeq + 1
      lanes.evDue := s.lanes.evDue + 1
      lanes.absCounts := s.lanes.absCounts.modify (source - 1) (· + 1) }
    s.notify 0x02 (absBytes e)

/-! ### The fault cause register -/

/-- This module pulls FAULT_N: a bit of [31:22] is set (10 R242); in APHELION the output is off. -/
def State.pinDriven (s : State) : Bool := (s.prot.cause >>> 22) != 0 && s.power.st != .aphelion

/-- The FAULT_N line is low, by this module or another. -/
def State.lineIsLow (s : State) : Bool := s.prot.lineLow || s.pinDriven

/-- The fault cause register of Table 10.3. -/
def State.causeWord (s : State) : Word :=
  setBit (setBit s.prot.cause 15 s.lineIsLow) 14 s.pinDriven

/-- An entry for the capture FIFO (10 R247): a full FIFO drops it and sets FIFO_OVERFLOW. -/
def State.capture (s : State) (kind cause die : Nat) : State :=
  if s.prot.fifo.length < 16 then
    { s with prot.fifo := s.prot.fifo ++
        [{ kind := kind, cause := cause, die := die, frame := s.grid.frame, time := s.grid.plantNs, causeReg := s.causeWord }] }
  else { s with prot.cause := setBit s.prot.cause 13 true }

/-- A cause of bit 22 to 31 occurs, named by die 1 to 7 or by none (0): the bit is set whatever its state (10 R244), with
the die's DIE_MASK bit, and an entry is made for a new bit or a further die (10 R247). -/
def State.setCause (s : State) (b die : Nat) : State :=
  let was := s.prot.cause.getLsbD b
  let dieWas := die = 0 ∨ s.prot.cause.getLsbD (die - 1) = true
  let c := setBit s.prot.cause b true
  let s' := { s with
    prot.cause := if die = 0 then c else setBit c (die - 1) true
    prot.present := setBit s.prot.present (b - 22) true
    prot.lastDie := setAt s.prot.lastDie (b - 22) die }
  if was ∧ dieWas then s' else s'.capture 1 (32 - b) die

/-- Dies that hold an asserted cause now: OV or UV on the fault channel, a line or channel down, and for the CFE an
overcurrent, a lost fast channel or a port line down. -/
def State.dieAsserts (s : State) (d : Nat) : Bool :=
  if d = 7 then s.prot.present.getLsbD 7 || s.prot.present.getLsbD 6
  else s.prot.feOv.getLsbD (d - 1) || s.prot.feUv.getLsbD (d - 1) ||
    (s.prot.present.getLsbD 5 && ((s.feAt d).lineDown || (s.feAt d).faultChDown))

/-- Clears one latched bit whose cause has cleared, with a RELEASE entry and the DIE_MASK bits of dies that assert
nothing more (10 R244, R247). DESIGN CHOICE (log entry 93): the entry names the die of the cause's newest occurrence. -/
def State.clearCause (s : State) (b : Nat) : State :=
  if s.prot.cause.getLsbD b && !s.prot.present.getLsbD (b - 22) then
    let c := setBit s.prot.cause b false
    let c := (List.range 7).foldl (fun c i => if s.dieAsserts (i + 1) then c else setBit c i false) c
    let s' := { s with prot.cause := c }
    s'.capture 2 (32 - b) (s.prot.lastDie.getD (b - 22) 0)
  else s

/-- A cause is no longer present. Its bit stays latched, but that under AUTO a cause of the firmware clears with its
withdrawal: THRESH_CRC, ROLE_LOST, OW_OPEN and OW_SPAN (10 R244, Table 10.3). -/
def State.withdrawCause (s : State) (b : Nat) : State :=
  let t := { s with
    prot.present := setBit s.prot.present (b - 22) false
    prot.clearAt := if s.prot.present.getLsbD (b - 22) then setAt s.prot.clearAt (b - 22) s.grid.plantNs else s.prot.clearAt }
  if t.prot.set.release = 1 && 23 ≤ b && b ≤ 26 then t.clearCause b else t

/-! ### The NVM write port -/

/-- A request for the NVM write port (04 R108): granted at once when the port is free, otherwise it waits. -/
def State.nvmAsk (s : State) (r : NvmReq) : State :=
  if s.nvm.busy.isNone then { s with nvm.busy := some r, nvm.lastLane := r.lane }
  else { s with nvm.waiting := s.nvm.waiting ++ [r] }

/-- The pan that serves a role slot, active in its role and neither lost nor suspended (04 R96, R104). -/
def State.roleRuns (s : State) (k : Nat) : Bool :=
  match (s.slotAt k).pan with
  | some p => ((s.panAt p).st == .active || (s.panAt p).st == .referee) && !(s.slotAt k).lost && !(s.slotAt k).suspended
  | none => false

/-! ### The journal -/

/-- A journal value: up to 8 bytes stored little-endian, a longer one as the first 8 bytes of its SHA-256 (20 R461). -/
def journalValue (v : List Byte) : List Byte := if v.length ≤ 8 then padTo 8 v else (sha256 v).take 8

/-- INDEX after a record entry: a group's two seal places are passed over (20 R462). -/
def nextIndex (i : Nat) : Nat := if i % 64 = 61 then i + 3 else i + 1

/-- Slots of the journal after an entry is written: entry INDEX takes slot INDEX mod 4,096 (20 R459). -/
def journalPut (l : List JEntry) (e : JEntry) : List JEntry :=
  e :: l.filter fun x => x.index % 4096 != e.index % 4096

/-- A record entry of Table 20.3, unless the module is in the protection-only state (20 R461, R464): one transfer of the NVM
write port (04 R108). -/
def State.record (s : State) (kind : Nat) (port opcode stagedBy item : Nat) (old new : List Byte) : State :=
  if s.lanes.protOnly then s
  else
    let digest := 8 < old.length || 8 < new.length
    let flags := pack [(0, 1, bit digest), (1, 1, bit s.sec.tamper), (4, 3, stagedBy)]
    let prev := if s.sec.jLast = [] then sha256 (w64 s.ploza.serial) else sha256 s.sec.jLast
    let body := withCrc (toLe 1 kind ++ toLe 1 port ++ toLe 1 opcode ++ toLe 1 flags ++ toLe 4 s.sec.jNext ++
      w32 s.grid.frame ++ w64 s.grid.plantNs ++ toLe 2 item ++ toLe 2 (max old.length new.length) ++
      journalValue old ++ journalValue new ++ prev.take 20)
    { s.nvmAsk { lane := true, left := 1 } with
      sec.journal := journalPut s.sec.journal { index := s.sec.jNext, bytes := body }
      sec.jNext := nextIndex s.sec.jNext
      sec.jLast := body
      sec.seals := if s.sec.jNext % 64 = 61 then s.sec.seals ++ [s.sec.jNext / 64] else s.sec.seals }

/-- A record entry of kind EVENT for an executed command. -/
def State.journal (s : State) (port : Port) (opcode item : Nat) (old new : List Byte) : State :=
  s.record 2 (portCode port) opcode 0 item old new

end Sys2Proof.Machine
end

