-- ==== Sys2Proof/Machine/Operands.lean ====
section
/-!
DEFINITION. The operand forms of the commands: which numbers name a unit, which payload lengths an opcode allows
(Tables 17.12 and 17.16), and the fields of a request packet (Table 17.1).
-/

namespace Sys2Proof.Machine

/-- FE1 to FE6. -/
def feOk (k : Nat) : Bool := 1 ≤ k && k ≤ 6
/-- The seven ports: FE1 to FE6, and the CFE as 7. -/
def portNoOk (k : Nat) : Bool := 1 ≤ k && k ≤ 7
/-- Local channels 1 to 16 of a front end. -/
def channelOk (c : Nat) : Bool := 1 ≤ c && c ≤ 16
/-- Cells 1 to 96. -/
def cellOk (n : Nat) : Bool := 1 ≤ n && n ≤ 96
/-- P00 to P47. -/
def panOk (p : Nat) : Bool := p < 48
/-- Role slots 0 to 39. -/
def slotOk (k : Nat) : Bool := k < 40
/-- Phases 1 to 8. -/
def phaseOk (j : Nat) : Bool := 1 ≤ j && j ≤ 8
/-- Ring positions 0 to 7. -/
def posOk (p : Nat) : Bool := p < 8
/-- K_POS, K_NEG, K_PRE and SAFE_OK as 0 to 3. -/
def outOk (o : Nat) : Bool := o < 4
/-- Cause bits 31 to 22. -/
def causeBitOk (b : Nat) : Bool := 22 ≤ b && b ≤ 31
/-- A header of a request that a module can have received: a port that carries packets, TARGET 0 to 7, 0xFE or 0xFF. -/
def hdrOk (h : Hdr) : Bool := h.port != .own && (h.target.toNat < 8 || h.target == 0xFE || h.target == 0xFF)

/-- Fields of a request packet (17_ploza_protocol.md R405). -/
structure Request where
  /-- OPCODE -/
  opcode : Byte
  /-- SEQUENCE -/
  seq : Byte
  /-- FLAGS -/
  flags : Byte
  /-- TARGET -/
  target : Byte
  /-- LENGTH as the packet states it -/
  length : Nat
  /-- the bytes between header and CRC -/
  payload : List Byte
  /-- the CRC-32C is good -/
  crcOk : Bool
deriving DecidableEq, Repr

/-- A packet of at least 10 bytes read as a request. -/
def parseRequest (bs : List Byte) : Option Request :=
  if bs.length < 10 then none
  else some
    { opcode := getB bs 0, seq := getB bs 1, flags := getB bs 2, target := getB bs 3, length := getU bs 4 2,
      payload := slice bs 6 (bs.length - 10), crcOk := crcGood (bs.length - 4) bs }

/-- Payload length of a DIAG subcommand with its SUB byte (Table 17.16); none where the table does not list SUB. -/
def diagLength (sub : Nat) : Option Nat :=
  match sub with
  | 0x01 => some 1 | 0x02 => some 5 | 0x03 => some 1 | 0x04 => some 6 | 0x05 => some 2 | 0x06 => some 4
  | 0x07 => some 6 | 0x08 => some 2 | _ => none

/-- The opcode is in Table 17.12 and a host may send it. -/
def opcodeKnown (op : Nat) : Bool :=
  [0x01, 0x02, 0x03, 0x10, 0x11, 0x12, 0x13, 0x14, 0x15, 0x20, 0x21, 0x22, 0x30, 0x31, 0x32, 0x33, 0x40, 0x41, 0x50,
   0x51, 0x52, 0x60, 0x61, 0x80, 0x81, 0x90, 0x91, 0x92, 0xA0, 0xA1, 0xB0, 0xB1, 0xE0, 0xF0, 0xF1].contains op

/-- The payload length is one that Table 17.12 allows for the opcode (17 R411): for PARAM_SET at least 5 and 4 + SIZE; for
DIAG as its SUB asks, any length from 1 where SUB is not listed. An opcode outside the table has no length to break. -/
def lengthOk (op : Nat) (p : List Byte) : Bool :=
  let n := p.length
  match op with
  | 0x01 => n ≤ 64
  | 0x10 => n == 3
  | 0x11 => 5 ≤ n && n == 4 + getU p 2 2
  | 0x14 => n == 1036
  | 0x15 => n == 2
  | 0x20 | 0x22 => n == 1
  | 0x32 => n == 8
  | 0x33 => n == 6
  | 0x40 => n == 100
  | 0x50 =>
    let k := (getB p 1).toNat
    if 1 ≤ k && k ≤ 8 then n == 12 + 4 * k else 16 ≤ n && n ≤ 44 && n % 4 == 0
  | 0x51 => n == 2
  | 0x60 => n == 3
  | 0x61 => n == 6
  | 0x80 => 5 ≤ n && n ≤ 1028
  | 0x81 | 0xF0 => n == 4
  | 0x90 => n == 5
  | 0x91 => n == 32
  | 0x92 => 1 ≤ n && n ≤ 512
  | 0xF1 => match p with
    | [] => false
    | sub :: _ => match diagLength sub.toNat with
      | some k => n == k
      | none => true
  | 0x02 | 0x03 | 0x12 | 0x13 | 0x21 | 0x30 | 0x31 | 0x41 | 0x52 | 0xA0 | 0xA1 | 0xB0 | 0xB1 | 0xE0 => n == 0
  | _ => true

end Sys2Proof.Machine
end

