-- ==== Sys2Proof/Machine/Answer.lean ====
section
/-!
DEFINITION. How a command of Table 17.12 executes at its boundary: the checks common to every opcode, claims, the
history, the reply (17_ploza_protocol.md R406, R410 to R415, R424).
-/

namespace Sys2Proof.Machine

/-- What an opcode answers when its own checks have run: the status, the reply payload, the arbitration targets it
writes, and the state it leaves if it is applied. -/
structure Ans where
  /-- STATUS -/
  st : Status
  /-- reply payload -/
  payload : List Byte := []
  /-- arbitration targets it writes (R415) -/
  claims : List Claim := []
  /-- the state that results -/
  s : State

/-- A command that fails a check changes nothing. -/
def fail (s : State) (st : Status) (payload : List Byte := []) : Ans := { st := st, payload := payload, s := s }

/-- REFUSED with a reason byte. -/
def refuse (s : State) (reason : Nat) : Ans := { st := .refused, payload := toLe 1 reason, s := s }

/-- OK with a payload and the state that results. -/
def okAns (s : State) (payload : List Byte := []) (claims : List Claim := []) : Ans :=
  { st := .ok, payload := payload, claims := claims, s := s }

/-- Applied means answered OK, DEFERRED or DRAINING (R415). -/
def Status.applied : Status → Bool
  | .ok | .deferred | .draining => true
  | _ => false

/-- Opcodes that execute as a bank broadcast (R410). -/
def bankOpcode (op : Byte) : Bool := [0x11, 0x12, 0x13, 0x20, 0x22, 0x31, 0x32, 0x41].contains op.toNat

/-- The reference by which a completion names a command. -/
def hdrRef (h : Hdr) (op : Byte) (deferred : Bool) : DeferRef :=
  { opcode := op, seq := h.seq, port := h.port, deferred := deferred }

/-- The CRC-32C of a packet with FLAGS taken as 0x00 (R424). -/
def historyCrc (op : Byte) (h : Hdr) (p : List Byte) : Word :=
  crc32c ([op, h.seq, 0, h.target] ++ toLe 2 p.length ++ p)

/-- The history entry that a RETRY packet repeats: same SEQUENCE, OPCODE, TARGET and CRC, executed within the preceding
10,000 frames (R424). -/
def State.duplicateOf (s : State) (op : Byte) (h : Hdr) (p : List Byte) : Option HistEntry :=
  if h.flags.getLsbD 7 then
    (s.portAt h.port).hist.find? fun e =>
      e.seq == h.seq && e.opcode == op && e.target == h.target && e.crc == historyCrc op h p &&
        decide ((s.grid.validFrames : Int) ≤ e.frame + 10000)
  else none

/-- The module takes a packet with this TARGET as its own or as a string broadcast (R410). -/
def State.takes (s : State) (target : Byte) : Bool := target.toNat == s.ring.position || target == 0xFE

/-- A reply whose payload passes 4,096 bytes, or whose packet passes 2,048 bytes on a CLASSICAL CAN port, is never built
(R408, 19 R446). -/
def State.replyTooLong (s : State) (p : Port) (n : Nat) : Bool :=
  4096 < n || (2048 < n + 10 && ((p == .canA && s.canFd false == 0) || (p == .canB && s.canFd true == 0)))

/-- What a command leaves and answers once R415 and R408 have acted on it. -/
def State.settle (s : State) (port : Port) (a : Ans) : Ans :=
  if a.st.applied && a.claims.any s.ploza.claims.contains then fail s .lostArbitration
  else if s.replyTooLong port a.payload.length then fail s .outOfRange
  else a

/-- The reply leaves, unless the packet carries NO_REPLY or was a bank broadcast. -/
def State.answer (s : State) (h : Hdr) (reply : List Byte) : State :=
  if h.flags.getLsbD 6 || h.target == 0xFF then s else s.sendReply h.port reply

/-- The claims, the deferred command and the history entry of an executed command. -/
def State.noteExecuted (s : State) (op : Byte) (h : Hdr) (p : List Byte) (a : Ans) (reply : List Byte) : State :=
  let s := if a.st.applied then { s with ploza.claims := s.ploza.claims ++ a.claims } else s
  let s := if a.st = .deferred then
      { s with ploza.deferred := s.ploza.deferred ++ [{ opcode := op, seq := h.seq, port := h.port }] } else s
  s.modPort h.port fun x => { x with hist :=
    ({ seq := h.seq, opcode := op, target := h.target, crc := historyCrc op h p, reply := reply,
       frame := s.grid.validFrames } :: x.hist).take 32 }

/-- A latched enable executes with every check at the boundary at which its function reaches OFF (R422); OUTCOME and
REASON of the drain's COMPLETION are given with the state it leaves. -/
def State.runLatched (s : State) (l : LatchedCmd) (f : Hdr → List Byte → State → Ans) : State × (Nat × Nat) :=
  let a := f l.hdr l.payload s
  if a.st.applied && a.claims.any s.ploza.claims.contains then (s, (5, Status.lostArbitration.code))
  else if a.st.applied then ({ a.s with ploza.claims := a.s.ploza.claims ++ a.claims }, (1, 0))
  else if a.st = .refused then (s, (4, (getB a.payload 0).toNat))
  else (s, (5, a.st.code))

/-- An executed command leaves its state, its claims, its history entry and its reply (R406, R408, R415, R424). -/
def State.finish (s : State) (op : Byte) (h : Hdr) (p : List Byte) (answered : Ans) : State :=
  let a := s.settle h.port answered
  let reply := s.replyPacket op h.seq a.st a.payload
  (a.s.noteExecuted op h p a reply).answer h reply

/-- One command of Table 17.12 executes at its boundary. In the protection-only state, in DOZE and in APHELION nothing
executes or is answered (R412, R427). A packet whose length no row allows is answered BAD_LENGTH, as at receipt (R411);
a bank broadcast of another opcode is dropped (R410); a duplicate is not executed and its recorded reply is sent again
(R424). -/
def runCmd (op : Byte) (f : Hdr → List Byte → State → Ans) (h : Hdr) (p : List Byte) (s : State) : State :=
  if s.lanes.protOnly || !s.portsOn then s
  else if !lengthOk op.toNat p then
    if s.takes h.target then s.sendReply h.port (s.replyPacket op h.seq .badLength []) else s
  else if h.target == 0xFF && !bankOpcode op then s
  else match s.duplicateOf op h p with
    | some e => s.answer h e.reply
    | none => s.finish op h p (f h p s)

end Sys2Proof.Machine
end

