-- ==== Sys2Proof/Machine/Flags.lean ====
section
/-!
DEFINITION. The status words: every field map of the spec composed from the fields of State that hold its bits.
-/

namespace Sys2Proof.Machine

/-- Front-end status word (Table 2.13). -/
def feWord (f : Fe) : Nat :=
  pack [(16, 16, f.crcErrors), (12, 1, bit f.lost), (11, 1, bit f.relinking), (10, 1, bit f.linkUp),
    (9, 1, bit f.poweredDown), (8, 1, bit f.strapFault), (7, 1, bit f.supplyStack), (6, 1, bit f.auxSupplyFail),
    (5, 1, bit f.stackSupplyFail), (4, 1, bit f.tsdActive), (3, 1, bit f.strobeAdj), (0, 3, satTo 3 f.heldRun)]

/-- CFE status word (Table 3.7). -/
def State.cfeWord (s : State) : Nat :=
  let c := s.cfe
  pack [(16, 16, c.crcErrors), (14, 2, s.pn P.cfeRole), (13, 1, bit c.lost), (12, 1, bit c.relinking),
    (11, 1, bit c.linkUp), (10, 1, bit c.fastOk), (9, 1, bit c.ocLatched), (8, 1, bit c.disagree),
    (7, 1, bit c.supplyStack), (6, 1, bit c.auxSupplyFail), (5, 1, bit c.zeroValid), (4, 1, bit c.chargeGap),
    (3, 1, bit c.vstrOver), (0, 3, satTo 3 c.heldRun)]

/-- STATE codes of Table 4.6. -/
def PanState.code : PanState → Nat
  | .active => 0 | .spareIdle => 1 | .shadowing => 2 | .referee => 3 | .bist => 4 | .halted => 5 | .retired => 6 | .gated => 7

/-- LAST_FAULT codes of Table 4.6; the correction-rate limit counts as a data-memory fault (log entry 13). -/
def panFaultCode : PanFault → Nat
  | .none => 0 | .dataEcc => 1 | .eccRate => 1 | .recipeParity => 2 | .illegal => 3 | .address => 4 | .watchdog => 5
  | .transit => 6 | .bist => 7

/-- Corrected data-memory errors of a pan within the last 36,000,000 frames (Table 4.6 ECC_CORR). -/
def State.eccCorr (s : State) (p : Pan) : Nat :=
  (p.eccFrames.filter fun t => s.grid.validFrames < t + 36000000).length

/-- Pan status word (Table 4.6). -/
def State.panWord (s : State) (p : Pan) : Nat :=
  pack [(24, 8, p.role), (21, 3, p.st.code), (18, 3, panFaultCode p.lastFault), (16, 2, satTo 3 p.retireCount),
    (15, 1, bit p.sat), (14, 1, bit p.ufl), (13, 1, bit p.accSat), (12, 1, bit p.eccRate),
    (0, 8, satTo 0xFF (s.eccCorr p))]

/-- A pan in the spare pool that runs no BIST, is no referee and is not being loaded for a move (04 R97); a pan that takes part
in an arbitration is not free for another task (DESIGN CHOICE, log entry 84). -/
def Pan.available (p : Pan) : Bool := (p.st == .spareIdle || p.st == .shadowing) && p.loadFor.isNone && !p.inArb

/-- Available spares in ascending pan order (04 R97). -/
def State.spares (s : State) : List Nat := (List.range 48).filter fun p => (s.panAt p).available

/-- Sluice status word (Table 4.7). Before the sluice has loaded a map the spare pool is the eight pans of its reset
value, P40 to P47 (log entry 14). -/
def State.sluiceWord (s : State) : Nat :=
  let spares := if s.slot.any (·.pan.isSome) then s.spares.length else 8
  pack [(31, 1, bit s.sluice.frozen), (30, 1, bit s.sluice.transitSuspended), (29, 1, bit (!s.sluice.arbs.isEmpty)),
    (16, 8, s.sluice.rotation), (8, 8, satTo 0xFF s.sluice.moves), (0, 6, spares)]

/-- THERMAL_STATE codes of Table 5.7. -/
def Thermal.code : Thermal → Nat
  | .normal => 0 | .throttle => 1 | .hot => 2 | .crit => 3

/-- Governor status word (Table 5.7). -/
def State.govWord (s : State) : Nat :=
  let g := s.gov
  pack [(29, 3, g.pause), (27, 2, g.thermal.code), (26, 1, bit g.rise), (25, 1, bit g.diodeBad), (24, 1, bit g.oStopped),
    (23, 1, bit g.slackPStopped), (22, 1, bit g.excPermit), (21, 1, bit g.capUnmet), (20, 1, bit s.sched.inTail),
    (18, 2, satTo 3 s.sched.backlog), (12, 6, g.moduleCap), (0, 12, g.powerEst)]

/-- Front-end balance cap word (Table 5.8). -/
def State.feCapWord (s : State) : Nat := pack ((List.range 6).map fun i => (4 * i, 4, s.gov.feCaps.getD i 0))

/-- Scheduler counter word (Table 5.9). -/
def State.schedWord (s : State) : Nat :=
  pack [(16, 16, satTo 0xFFFF s.sched.comets), (8, 8, satTo 0xFF s.sched.schedFaults), (0, 8, satTo 0xFF s.sched.discards)]

/-- Estimator flags (Table 6.5). -/
def State.estFlags (s : State) (e : Est) : Nat :=
  pack [(15, 1, bit e.fInvalid), (14, 1, bit s.estMod.counting), (13, 1, bit e.fRest), (12, 1, bit e.fDischarge),
    (11, 1, bit e.fWithholding), (10, 1, bit e.fSlewDown), (9, 1, bit e.fFloorHold), (8, 1, bit e.fVoltEmpty),
    (7, 1, bit e.fStale), (6, 1, bit e.fTempDefault), (5, 1, bit s.estMod.anchorStarved),
    (4, 1, bit s.estMod.restStarved), (3, 1, bit e.fEolCap), (2, 1, bit e.fEolR), (1, 1, bit e.fGapBound), (0, 1, bit e.fHeld)]

/-- KIND codes of Table 7.11. -/
def EisKind.code : EisKind → Nat
  | .none => 0 | .hostActive => 1 | .hostPassive => 2 | .watch => 3

/-- Sweep status word (Table 7.11). -/
def State.sweepWord (s : State) : Nat :=
  pack [(30, 2, s.eis.st.code), (29, 1, bit s.eis.halted), (28, 1, bit s.eis.latched.isSome), (26, 2, s.eis.kind.code),
    (16, 8, s.eis.sweepId), (6, 10, s.eis.blocks), (2, 4, s.eis.endCause)]

/-- STAGED_STATE codes of Table 8.5. -/
def StagedSt.code : StagedSt → Nat
  | .empty => 0 | .loading => 1 | .validating => 1 | .ready => 2 | .rejected => 3

/-- The physical bank that is staged. -/
def State.stagedBank (s : State) : TableBank := s.tbl.banks.getD (1 - s.tbl.activeBank) {}

/-- Distinct staged blocks stored (Table 8.5 BLOCKS_WRITTEN). -/
def State.blocksWritten (s : State) : Nat :=
  if s.tbl.staged == .empty then 0 else (s.stagedBank.blocks.filter Option.isSome).length

/-- Table status word (Table 8.5). -/
def State.tableWord (s : State) : Nat :=
  pack [(30, 2, s.tbl.staged.code), (29, 1, bit s.tbl.fault), (28, 1, bit s.tbl.switching), (24, 4, s.tbl.reject),
    (23, 1, s.tbl.activeBank), (16, 7, if s.tbl.staged = .empty then 0 else s.blocksWritten), (0, 14, s.tbl.rejectEntry)]

/-- Balancing status word (Table 9.2). -/
def State.balWord (s : State) : Nat :=
  pack [(30, 2, s.bal.st.code), (28, 2, s.bal.source), (27, 1, bit s.bal.latched.isSome), (26, 1, bit s.bal.hold),
    (19, 7, s.bal.pulseTap.getD 0x7F), (0, 16, s.bal.slotsLeft)]

/-- Balancing cell word (Table 9.3). -/
def balCellWord (c : BalCell) : Nat :=
  pack [(25, 7, c.grant), (18, 7, c.achieved), (17, 1, bit c.alternated), (16, 1, bit c.pulse), (15, 1, bit c.ilim),
    (14, 1, bit c.frozen), (13, 1, bit c.hold), (10, 3, c.excl), (3, 7, c.conducted)]

/-- STATE codes of Table 11.10. -/
def PhaseSt.code : PhaseSt → Nat
  | .notConfigured => 0 | .off => 1 | .active => 2 | .rampOut => 3 | .shed => 4 | .faulted => 5

/-- A phase that switches: active or in ramp-out. -/
def Phase.switching (p : Phase) : Bool := p.st == .active || p.st == .rampOut

/-- Phases that switch while the gates are on, bit k-1 for phase k (Table 11.8 ACTIVE_MASK). -/
def State.activeMask (s : State) : BitVec 8 := ofBits 8 fun i => s.conv.gatesOn && (s.phaseAt (i + 1)).switching

/-- The number of active phases. -/
def State.activeN (s : State) : Nat := ((List.range 8).filter fun i => (s.phaseAt (i + 1)).st == .active).length

/-- Converter status word (Table 11.8). -/
def State.convWord (s : State) : Nat :=
  let c := s.conv
  pack [(30, 2, c.st.code), (29, 1, bit c.owner), (28, 1, bit c.hwLatch), (27, 1, bit c.faultLatch), (26, 1, bit c.hiccup),
    (25, 1, bit c.latched.isSome), (24, 1, bit c.shedBusy), (23, 1, bit c.stepBlock), (22, 1, bit (s.phaseAt 1).dirChg),
    (21, 1, bit c.curLimited), (20, 1, bit c.ssActive), (16, 4, s.activeN), (8, 8, s.activeMask.toNat),
    (0, 8, c.faultMask.toNat)]

/-- Retries begun within HICCUP_WINDOW_S (Table 11.9 RETRIES). -/
def State.retriesNow (s : State) : Nat :=
  (s.conv.retries.filter fun t => s.grid.plantNs.toNat < t.toNat + s.pn P.hiccupWindowS * 1000000000).length

/-- Converter fault word (Table 11.9). -/
def State.convFaultWord (s : State) : Nat :=
  pack [(24, 8, s.conv.lastCause), (20, 4, satTo 15 s.retriesNow), (19, 1, bit s.conv.capOverflow),
    (0, 16, satTo 0xFFFF s.conv.records)]

/-- The value of a single value: M * 2^(E - 23) (04 R87). -/
def Single.val (x : Single) : Rat :=
  if 23 ≤ x.exp then (x.mant : Rat) * (2 ^ (x.exp - 23).toNat : Nat) else (x.mant : Rat) / (2 ^ (23 - x.exp).toNat : Nat)

/-- Phase status word (Table 11.10). -/
def phaseWord (p : Phase) : Nat :=
  pack [(24, 8, ((clampInt (-128) 127 (roundAway (p.trim.val * 1000))) % 256).toNat), (12, 12, p.peakCode),
    (9, 3, p.st.code), (8, 1, bit p.senseBad), (0, 8, satTo 0xFF p.ilimRun)]

/-- The longest run of repeated sets (Table 12.7 HELD_SETS). -/
def Law.held (l : Law) : Nat := l.heldSets.foldl max 0

/-- Law status word (Table 12.7). -/
def State.lawWord (s : State) : Nat :=
  let l := s.law
  pack [(30, 2, l.mode.code), (29, 1, bit l.safeLaw), (28, 1, bit l.slewing), (27, 1, bit l.clampString),
    (26, 1, bit l.clampRated), (25, 1, bit l.drainRamp), (24, 1, bit l.excOn),
    (23, 1, bit (s.pb P.notchEnable && l.mode == .busVoltage)), (22, 1, bit l.lawSat), (21, 1, bit l.cfeHeld),
    (20, 1, bit l.cfeFallback), (19, 1, bit l.setRepeated), (17, 1, bit l.excC), (16, 1, bit l.excS), (15, 1, bit l.excV),
    (11, 4, l.plausCount), (8, 3, satTo 7 l.held), (0, 8, satTo 0xFF l.missedSets)]

/-- RING_STATE codes. -/
def RingSt.code : RingSt → Nat
  | .closed => 0 | .broken => 1 | .partialRing => 2 | .forming => 3

/-- Ring status word (Table 13.10). -/
def State.ringWord (s : State) : Nat :=
  let r := s.ring
  pack [(29, 3, r.position), (26, 3, r.primary), (24, 2, r.st.code), (23, 1, bit r.isPrimary), (22, 1, bit r.timeLocked),
    (21, 1, bit r.cwUp), (20, 1, bit r.ccwUp), (19, 1, bit (r.regenCw || r.regenCcw)), (18, 1, bit r.posMismatch),
    (17, 1, bit r.configConflict), (16, 1, bit r.headerMiss), (8, 8, r.live.toNat), (7, 1, bit r.break1.isSome),
    (4, 3, r.break1.getD 0), (3, 1, bit r.relaying)]

/-- Ring counter word (Table 13.11). -/
def State.ringCountWord (s : State) : Nat :=
  pack [(16, 16, s.ring.term), (8, 8, satTo 0xFF s.ring.elections), (0, 8, satTo 0xFF s.ring.breaks)]

/-- The slot STATE word (Table 13.4): the bits that the lane and the always-on domain write, with those the ring
interface samples as the slot is fixed (13 R307). -/
def State.slotStateWord (s : State) (repeated : Bool) : Nat :=
  let r := s.ring
  pack [(30, 2, s.grid.mode.code), (28, 2, s.power.st.code), (26, 2, s.conv.st.code), (24, 2, s.pn P.cfeRole),
    (23, 1, s.laneNo), (22, 1, bit (s.pb P.primaryEligible && !r.posMismatch && !s.power.clockDegraded)),
    (21, 1, bit r.timeLocked), (20, 1, bit r.cwUp), (19, 1, bit r.ccwUp), (18, 1, bit r.regenCw), (17, 1, bit r.regenCcw),
    (16, 1, bit repeated), (15, 1, bit s.conv.owner), (14, 1, bit (s.safe.st == .armed)), (13, 1, bit s.sec.tamper),
    (12, 1, bit s.lanes.protOnly), (11, 1, bit s.sluice.frozen), (10, 1, bit r.posMismatch)]

/-- Frames of the last `n` in which an event listed by its valid-frame count occurred. -/
def State.within (s : State) (n : Nat) (l : List Nat) : Nat := (l.filter fun t => s.grid.validFrames < t + n).length

/-- Health score of a lane (14 R337 Table 14.1): 0 while its LOCKSTEP condition is not met or it is retired. -/
def State.score (s : State) (b : Bool) : Nat :=
  let l := s.laneAt b
  if l.retired || !l.lockstepOk then 0
  else
    128 + (if l.st == .inCharge || l.current then 64 else 0) +
    (if l.memOk && s.within 36000000 l.eccFrames < 16 then 32 else 0) + (if l.outOk then 16 else 0) +
    (15 - satTo 15 (s.within 864000000 l.laneEvents))

/-- The lane that is not in charge. -/
def State.otherLane (s : State) : Lane := s.laneAt (!s.lanes.holder)

/-- Lane status word (Table 14.8); a lane that has not started shows score 0. -/
def State.laneWord (s : State) : Nat :=
  let l := s.lanes
  let sc := fun b => if l.valid || l.granted.isSome || l.protOnly then s.score b else 0
  pack [(31, 1, bit l.holder), (30, 1, bit l.valid), (29, 1, bit (s.laneAt false).retired),
    (28, 1, bit (s.laneAt true).retired), (27, 1, bit (l.valid && s.otherLane.current)), (26, 1, bit l.swapActive),
    (25, 1, bit l.swapOverdue), (24, 1, bit l.hold), (23, 1, bit l.protOnly), (22, 1, bit s.otherLane.resync),
    (20, 2, l.lastSwap), (18, 2, satTo 3 (s.laneAt false).retireCount), (16, 2, satTo 3 (s.laneAt true).retireCount),
    (8, 8, sc false), (0, 8, sc true)]

/-- Lane counter word (Table 14.9). -/
def State.laneCountWord (s : State) : Nat :=
  pack [(24, 8, satTo 0xFF s.lanes.switchovers), (16, 8, satTo 0xFF s.lanes.reruns), (8, 8, satTo 0xFF s.lanes.swaps),
    (0, 8, satTo 0xFF s.lanes.rebootCount)]

/-- The seven safety inputs in the order of Table 15.1. -/
def Safe.inputs (x : Safe) : List SafeIn := [x.estopA, x.estopB, x.doorA, x.doorB, x.lockFb, x.two1, x.two2]

/-- A STUCK_INPUT, CROSS_SHORT or unresolved discrepancy is present (Table 15.6 INPUT_FAULT). -/
def Safe.inputFault (x : Safe) : Bool :=
  x.inputs.any (fun i => i.stuck || i.cross) || x.estop.unresolved || x.door.unresolved

/-- Safety status word (Table 15.6). -/
def safeWord (x : Safe) : Nat :=
  pack [(30, 2, x.st.code), (25, 5, x.cause), (24, 1, bit x.resetReady), (23, 1, bit x.gateKill), (22, 1, bit x.safeOk),
    (21, 1, bit x.kPos), (20, 1, bit x.kNeg), (19, 1, bit x.kPre), (18, 1, bit x.precharging),
    (17, 1, bit (x.twohandClose && x.kPos && x.kNeg)), (16, 1, bit x.closeReq), (15, 1, bit x.kVsupOk), (14, 1, bit x.estopA.closed),
    (13, 1, bit x.estopB.closed), (12, 1, bit x.doorA.closed), (11, 1, bit x.doorB.closed), (10, 1, bit x.lockFb.closed),
    (9, 1, bit x.two1.closed), (8, 1, bit x.two2.closed), (4, 4, x.outFault.toNat), (3, 1, bit x.inputFault)]

/-- PHASE codes of Table 16.8. -/
def PowerPhase.code : PowerPhase → Nat
  | .settled => 0 | .handshake => 1 | .committed => 2 | .returning => 3

/-- CONTEXT codes of Table 16.8. -/
def PowerCtx.code : PowerCtx → Nat
  | .normal => 0 | .startUp => 1 | .test => 2 | .recovery => 3

/-- Power status word (Table 16.8). -/
def powerWord (p : Power) : Nat :=
  pack [(30, 2, p.st.code), (28, 2, p.target.code), (26, 2, p.phase.code), (24, 2, p.context.code), (23, 1, bit p.auxOk),
    (22, 1, bit p.onBridge), (21, 1, bit p.auxLoss), (20, 1, bit p.wakeLatched.isSome), (19, 1, bit p.queued.isSome),
    (17, 2, match p.queued with
      | some q => q.target.code
      | none => 0),
    (16, 1, bit p.clockDegraded), (13, 3, p.block.getD 7), (6, 7, p.delayLeft)]

/-- BUS_STATE codes of Table 19.9. -/
def BusState.code : BusState → Nat
  | .errorActive => 0 | .errorPassive => 1 | .busOff => 2 | .off => 3

/-- CAN status word (Table 19.9). -/
def canWord (c : Can) : Nat :=
  pack [(24, 8, satTo 0xFF c.tecCnt), (16, 8, satTo 0xFF c.recCnt), (14, 2, c.bus.code), (13, 1, bit c.silent),
    (12, 1, bit c.timingErr), (11, 1, bit c.tdcOn), (4, 7, satTo 127 c.tdcValue)]

/-- CAN counter word (Table 19.10). -/
def canCountWord (c : Can) : Nat :=
  pack [(24, 8, satTo 0xFF c.busOffs), (16, 8, satTo 0xFF c.rxDropped), (10, 6, c.fifo.length), (9, 1, bit c.alarm.isSome),
    (0, 8, c.rxRing.length)]

/-- Bytes of complete inbound SPI packets that wait for their boundary (19 R453). -/
def State.spiHeld (s : State) : Nat := ((s.lanes.inbox.filter (·.port == .spi)).map (·.bytes.length)).sum

/-- Bytes free in the 8,192-byte inbound buffer (Table 19.7 IN_FREE). -/
def State.spiFree (s : State) : Nat := 8192 - s.spiHeld - s.spi.inPart.length

/-- The SPI registers as they read (Table 19.7): IRQ_STATUS shows OUT_READY while the outbound queue holds a packet. -/
def State.spiReg (s : State) (addr : Nat) : Word :=
  match addr with
  | 0x00 => 0x00965A01
  | 0x01 => setBit s.spi.irqStatus 2 (!s.spi.outQ.isEmpty)
  | 0x02 => s.spi.irqEnable
  | 0x03 => BitVec.ofNat 32 s.spiFree
  | 0x05 => BitVec.ofNat 32 (match s.spi.outQ with
    | [] => 0
    | p :: _ => p.bytes.length)
  | 0x07 => BitVec.ofNat 32 (outBytes s.spi.outQ)
  | 0x08 => BitVec.ofNat 32 (pack [(16, 16, s.spi.inErrors), (0, 16, s.spi.outErrors)])
  | 0x09 => BitVec.ofNat 32 (canWord (s.canAt false))
  | 0x0A => BitVec.ofNat 32 (canWord (s.canAt true))
  | 0x0B => BitVec.ofNat 32 (canCountWord (s.canAt false))
  | 0x0C => BitVec.ofNat 32 (canCountWord (s.canAt true))
  | _ => 0

/-- IRQ_N is low: an enabled cause is present (Table 19.8). -/
def State.irqLow (s : State) : Bool := (s.spiReg 0x01 &&& s.spiReg 0x02) != 0

end Sys2Proof.Machine
end

