-- ==== Sys2Proof/Machine/Arith.lean ====
section
/-!
DEFINITION. Block-floating arithmetic of the pans (04_pan_array.md R87 to R90): single values, stages, the accumulator with
ALIGN and its saturation, and RNORM with its flags. Where no rule says how a recipe forms a value it is an exact rational
until it is written back (log entry 4).
-/

namespace Sys2Proof.Machine

/-- 2^e. -/
def pow2 (e : Int) : Rat := if 0 ≤ e then ((2 ^ e.toNat : Nat) : Rat) else 1 / ((2 ^ (-e).toNat : Nat) : Rat)

/-- The exponent E with 2^(E-1) ≤ n / d < 2^E, for n and d above 0. -/
def normExp (n d : Nat) : Int :=
  let e : Int := (Nat.log2 n : Int) - (Nat.log2 d : Int)
  if pow2 e ≤ (n : Rat) / (d : Rat) then e + 1 else e

/-- What RNORM reports beside its result. -/
structure Rnorm where
  /-- the single value -/
  v : Single
  /-- SAT -/
  sat : Bool := false
  /-- UFL -/
  ufl : Bool := false
deriving DecidableEq, Repr

/-- The mantissa of `x` at exponent `e`, rounded half to even. -/
def mantAt (x : Rat) (e : Int) : Int := roundEven (x * pow2 (23 - e))

/-- A rounding that carried the magnitude to 2^23 is halved, with the exponent one more. -/
def carryMant (m e : Int) : Single := if m.natAbs = 8388608 then { mant := m / 2, exp := e + 1 } else { mant := m, exp := e }

/-- `x` written back as a single value (R90). -/
def rnorm (x : Rat) : Rnorm :=
  if x = 0 then { v := {} }
  else
    let e := normExp x.num.natAbs x.den
    let s := carryMant (mantAt x e) e
    if 127 < s.exp then { v := { mant := if x < 0 then -8388608 else 8388607, exp := 127 }, sat := true }
    else if s.exp < -128 then { v := { mant := mantAt x (-128), exp := -128 }, ufl := true }
    else { v := s }

/-- `x` as a single value. -/
def Single.ofRat (x : Rat) : Single := (rnorm x).v

/-- The flag of R280: the write of `x` sets SAT or UFL. -/
def rnormFlag (x : Rat) : Bool := (rnorm x).sat || (rnorm x).ufl

/-- The block word of Table 4.2. -/
def Single.word (v : Single) : Nat := pack [(8, 24, (v.mant % 16777216).toNat), (0, 8, (v.exp % 256).toNat)]

/-- The single value of a block word. -/
def Single.ofWord (w : Word) : Single :=
  { mant := signed 3 (w.toNat / 256), exp := signed 1 (w.toNat % 256) }

/-- The value of a single value is that of its mantissa at its exponent (R87). -/
def valAt (m e : Int) : Rat := (m : Rat) * pow2 (e - 23)

/-! ### Stages -/

/-- A stage: up to 64 mantissas that share one exponent (R88). -/
structure Stage where
  /-- the shared exponent -/
  exp : Int := -128
  /-- the mantissas -/
  mant : List Int := []
deriving DecidableEq, Repr

/-- A stage written with the values `l` (R88): the exponent is the largest that an element would take alone, the others are
shifted right to it half to even, and an all-zero stage has exponent -128. -/
def Stage.write (l : List Rat) : Stage :=
  let e := (l.map fun x => (rnorm x).v.exp).foldl max (-128)
  { exp := e, mant := l.map fun x => clampInt (-8388608) 8388607 (mantAt x e) }

/-- The value of element `i` of a stage. -/
def Stage.get (x : Stage) (i : Nat) : Rat := valAt (x.mant.getD i 0) x.exp

/-! ### The accumulator -/

/-- A number shifted right by `n` places, half to even. -/
def shiftEven (m : Int) (n : Nat) : Int := roundEven ((m : Rat) / ((2 ^ n : Nat) : Rat))

/-- ALIGN (R89): the accumulator or the incoming product, whichever has the smaller exponent, is shifted right to the larger
one. An empty accumulator takes the exponent of its first product. -/
def Acc.align (x : Acc) (p e : Int) : Acc × Int :=
  if x.a = 0 then ({ x with e := e }, p)
  else if x.e < e then ({ x with a := shiftEven x.a (e - x.e).toNat, e := e }, p)
  else (x, shiftEven p (x.e - e).toNat)

/-- A product of exponent sum `e` enters the accumulator, which saturates at the limits of its 56 bits (R89). -/
def Acc.add (x : Acc) (p e : Int) : Acc :=
  let (y, q) := x.align p e
  let t := y.a + q
  if t < -(2 ^ 55) then { y with a := -(2 ^ 55), sat := true }
  else if 2 ^ 55 - 1 < t then { y with a := 2 ^ 55 - 1, sat := true }
  else { y with a := t }

/-- The product of two single values accumulated. -/
def Acc.mac (x : Acc) (p q : Single) : Acc := x.add (p.mant * q.mant) (p.exp + q.exp)

/-- The elements of two stages multiplied and accumulated (R89). -/
def Acc.dot (x : Acc) (p q : Stage) : Acc :=
  (p.mant.zip q.mant).foldl (fun (x : Acc) (m : Int × Int) => x.add (m.1 * m.2) (p.exp + q.exp)) x

/-- The value that the accumulator holds: A x 2^(Eacc - 46). -/
def Acc.value (x : Acc) : Rat := (x.a : Rat) * pow2 (x.e - 46)

/-- RNORM of the accumulator (R90): the single value of what it holds, with SAT and UFL. -/
def Acc.rnorm (x : Acc) : Rnorm := Machine.rnorm x.value

/-! ### Values -/

/-- A value moved toward `target` by at most `step`, stopping on it. -/
def toward (x target step : Rat) : Rat :=
  if absRat (target - x) ≤ step then target else if x < target then x + step else x - step

/-- The mean of a list (0 of an empty one). -/
def meanRat (l : List Rat) : Rat := if l = [] then 0 else l.sum / (l.length : Rat)

end Sys2Proof.Machine
end

