-- ==== Sys2Proof/Machine/Converter.lean ====
section
/-!
DEFINITION. The string converter (11_string_converter.md): ownership, states, stops, hiccup, fault records, the switching
periods of the phases, and the opcodes CONV_ENABLE, CONV_DISABLE, CONV_SETPOINT and CONV_FAULT_RECORD.
-/

namespace Sys2Proof.Machine

/-! ### Figures from the parameters -/

/-- PHASE_I_RATED_A in A. -/
def State.rated (s : State) : Rat := s.pr P.phaseIRatedA / 10
/-- PHASE_I_LIMIT_A in A. -/
def State.phaseLimit (s : State) : Rat := s.pr P.phaseILimitA / 10
/-- PH_SENSE_A_PER_V. -/
def State.senseGain (s : State) : Rat := s.pr P.phSenseAPerV / 1000
/-- CONV_TOPOLOGY is STRING_LOW (R249). -/
def State.stringLow (s : State) : Bool := s.pn P.convTopology == 0
/-- T in counts of 250 ps (R254). -/
def State.pwmT (s : State) : Nat := (roundAway (4000000000 / s.pr P.convFswHz)).toNat
/-- Phase `j` is configured (R249). -/
def State.configured (s : State) (j : Nat) : Bool := 1 ≤ j && j ≤ s.pn P.convPhases
/-- Phase `j` is a healthy configured phase (R263). -/
def State.healthy (s : State) (j : Nat) : Bool := s.configured j && (s.phaseAt j).st != .faulted
/-- The phases 1 to 8. -/
def phases : List Nat := [1, 2, 3, 4, 5, 6, 7, 8]
/-- n_ok, the number of healthy configured phases. -/
def State.nOk (s : State) : Nat := (phases.filter s.healthy).length
/-- The active phases in ascending order. -/
def State.actives (s : State) : List Nat := phases.filter fun j => (s.phaseAt j).st == .active
/-- A phase-sensor voltage lies within 0.050 V to 2.950 V (R263). -/
def senseOk (v : Rat) : Bool := decide (1 / 20 ≤ v) && decide (v ≤ 59 / 20)
/-- The bus voltage of a bus-sense input in uV (R250). -/
def State.busOf (s : State) (uv : Nat) : Rat := (uv : Rat) / 3000000 * s.pr P.busSenseVFs

/-- CONV_OWNER names this module (R252): PRIMARY is 255. -/
def State.ownerNamed (s : State) : Bool :=
  if s.pn P.convOwner = 255 then s.isPrimary else s.pn P.convOwner == s.ring.position

/-- Why this module is no converter owner: 1 NOT_OWNER, 2 NO_STAGE, 0 it is (R252, Table 11.4). -/
def State.ownerReason (s : State) : Nat := if !s.ownerNamed then 1 else if s.pb P.convStage then 0 else 2

/-- The phase ADC samples of a trigger instant, which no row gives: one free value for each phase (log entry 2). -/
def State.drawPhases : Nat → State → List Rat × State
  | 0, s => ([], s)
  | n + 1, s =>
    let (v, s) := s.draw
    let (l, s) := State.drawPhases n s
    (((v.toNat % 4096 : Nat) : Rat) * (3 / 4096) :: l, s)

/-! ### Fault records -/

/-- Causes that the converter block captures at the trigger instant (R274). -/
def hwCapture (cause : Nat) : Bool := [1, 2, 3, 4, 5, 7, 8].contains cause

/-- The highest valid NTC input (Table 11.7 NTC_MAX). -/
def State.ntcMax (s : State) : Option Int :=
  s.ntc.temp.foldl (fun m t => match m, t with
    | none, t => t
    | m, none => m
    | some a, some b => some (max a b)) none

/-- mA or mV as s32 of a value in A or V. -/
def milli (x : Rat) : List Byte := s32 (some (roundAway (x * 1000)))

/-- Bytes 0 to 115 of a record (Table 11.7), with SEQ 0. `iph` are the phase currents of the capture, `vbus` its bus
voltage. -/
def State.convBody (s : State) (cause action phase : Nat) (iph : List Rat) (vbus : Rat) : List Byte :=
  let c := s.conv
  let sum := (s.actives.map fun j => iph.getD (j - 1) 0).sum
  let time := if hwCapture cause then s.grid.plantNs else s.grid.plantNs + BitVec.ofNat 64 (25000 * s.grid.sub)
  toLe 1 cause ++ toLe 1 action ++
  toLe 1 (pack [(6, 2, c.st.code), (4, 2, s.grid.mode.code), (2, 2, s.law.mode.code)]) ++ toLe 1 phase ++ zeros 4 ++
  w32 s.grid.frame ++ w64 time ++ toLe 1 (s.grid.sub % 4) ++ toLe 1 s.activeMask.toNat ++ toLe 1 c.faultMask.toNat ++
  toLe 1 (satTo 255 s.retriesNow) ++
  (phases.flatMap fun j =>
    s16 (if s.configured j then some (roundAway (iph.getD (j - 1) 0 * 100)) else none)) ++
  (phases.flatMap fun j => u16 0xFFFF (s.phaseAt j).duty) ++
  milli vbus ++ milli s.law.vStr ++ milli sum ++ milli s.law.iBr ++ milli s.law.iRef ++ milli s.law.iTarget ++
  milli s.law.lint.val ++
  (phases.flatMap fun j => toLeInt 1 (clampInt (-128) 127 (roundAway ((s.phaseAt j).trim.val * 1000)))) ++
  s16 (if s.gov.dieNoConv then none else some s.gov.dieTemp) ++ s16 s.cfe.tShunt ++ s16 s.ntcMax ++ zeros 2 ++
  w32 s.causeWord ++ toLe 4 s.convWord ++ zeros 8

/-- A capture (R274): a full FIFO of 8 drops it. A record of ACTION STOP or LATCH that first stopped the converter after
it last left OFF is marked for the last-fault slot. `bus` is the bus voltage of the trigger, where the row gives it. -/
def State.convCapture (s : State) (cause action phase : Nat) (bus : Option Rat) : State :=
  let stops := action = 2 || action = 3
  let (iph, vbus, s') :=
    if hwCapture cause then
      let (v, s1) := State.drawPhases 8 s
      let (b, s2) := match bus with
        | some b => (b, s1)
        | none => (s1.busOf (s1.draw.1.toNat % 3000001), s1.draw.2)
      (v.map fun x => (x - 3 / 2) * s.senseGain, b, s2)
    else (phases.map fun j => (s.phaseAt j).read, s.conv.vBus, s)
  let s' := if s'.conv.fifo.length < 8 then
      { s' with conv.fifo := s'.conv.fifo ++
          [{ cause := cause, action := action, phase := phase, first := stops && !s'.conv.stopRecorded,
             body := s.convBody cause action phase iph vbus }] }
    else { s' with conv.capOverflow := true }
  if stops then { s' with conv.stopRecorded := true } else s'

/-! ### Stops -/

/-- Causes for which Table 11.5 sets FAULT_LATCH; LOOP_IMPLAUSIBLE follows R292. -/
def latchingCause (c : Nat) : Bool := [1, 2, 4, 5, 8, 11, 13].contains c

/-- No phase switches any longer. -/
def State.noPeriods (s : State) : State := { s with phase := s.phase.map fun (p : Phase) => { p with inPeriod := false } }

/-- Every PWM output and GD_EN low; the law of the safe ramp ends. -/
def State.gatesOff (s : State) : State :=
  { s.noPeriods with
    conv.gatesOn := false, conv.gdEn := false, conv.hiccupOff := false, conv.toHiccup := false, conv.drainDone := false
    conv.ssWait := 0, law.safeRun := false, law.safeLaw := false, law.safeCause := 0, law.rampDown := false, law.safeZeroOut := 0 }

/-- A stop (R270): gates off, HW_LATCH, OFF at the next boundary. While the converter is OFF only the hardware causes 1,
2, 3 and 5 act, on the latches alone. `rec` is false where the capture was taken earlier (R290). -/
def State.convStopWith (s : State) (cause : Nat) (latch rec : Bool) (phase : Nat) (bus : Option Rat) : State :=
  if s.conv.st = .off then
    if [1, 2, 3, 5].contains cause then
      { s.gatesOff with conv.hwLatch := true, conv.faultLatch := s.conv.faultLatch || latch }
    else s
  else
    let s := if rec then s.convCapture cause (if cause = 8 then 3 else 2) phase bus else s
    { s.gatesOff with
      conv.hwLatch := true, conv.toOff := true
      conv.faultLatch := s.conv.faultLatch || (latch && s.conv.toOff)
      conv.latchPend := s.conv.latchPend || latch }

/-- A stop with cause `cause` of Table 11.5. -/
def State.convStop (s : State) (cause : Nat) : State := s.convStopWith cause (latchingCause cause) true 0 none

/-- New target offsets of the active phases, reached in eight periods (R254, R261). -/
def State.respread (s : State) : State :=
  let act := s.actives
  act.zipIdx.foldl (fun s (j, i) => s.modPhase j fun p =>
    { p with spread := 8
             target := (roundAway ((i : Rat) * (s.pwmT : Rat) / (act.length : Rat))).toNat }) s

/-- Phases are added at their offsets for the new count; the others re-spread (R261). -/
def State.addPhases (s : State) (l : List Nat) : State :=
  let s := (l.foldl (fun s j => s.modPhase j fun p => { p with st := .active, share8 := 8, ramp := 0 }) s).respread
  let s := l.foldl (fun s j => s.modPhase j fun p => { p with offset := p.target, spread := 0 }) s
  { s with conv.spacing := some 0, conv.setSince := 0 }

/-- DRAINING begins (R267), with its end cause and the command that began it. During a hiccup off-time the pending retry
is cancelled and the gates and GD_EN go low (R273). Every healthy phase switches and none is shed. -/
def State.beginDrain (s : State) (cause : Nat) (ref : Option DeferRef) : State :=
  if s.conv.toOff || !(s.conv.st == .starting || s.conv.st == .on) then s
  else
    let off := s.conv.hiccupOff
    let s := if off then s.gatesOff else s
    let s := { s with
      conv.st := .draining, conv.drainCause := cause, conv.drainBy := ref, conv.drainOk := 0, conv.drainSubs := 0
      conv.drainDone := off, conv.hiccup := false, conv.enableOutcome := (0, 0)
      conv.shedPhase := none, conv.shedBusy := false }
    let back := phases.filter fun j => (s.phaseAt j).st == .shed || (s.phaseAt j).st == .rampOut
    if back = [] then s else s.addPhases back

/-! ### Events of the converter block -/

/-- GD_FAULT_N reads high after GD_EN rose (R266 step 2): the soft-start begins at the first output instant at least
100 us later, which is the fifth output from now (log entry 16). -/
def execGateDriverReady (s : State) : Host.Outcome State Fault Refusal :=
  .next (if s.conv.st = .starting ∧ s.conv.startStep = 1 ∧ s.conv.toOff = false then
    { s with conv.gdFaultLow := false, conv.startStep := 2, conv.ssWait := 5 } else s)

/-- GD_FAULT_N has not read high 1 ms after GD_EN rose (R266 step 2); that time holds 40 control samples. -/
def execStartTimeout (s : State) : Host.Outcome State Fault Refusal :=
  .next (if s.conv.st = .starting ∧ s.conv.startStep = 1 ∧ s.conv.toOff = false ∧ 40 ≤ s.conv.gdEnSubs then
    { s with conv.gdFaultLow := true }.convStop 16 else s)

/-- The soft-start limit has reached n_ok x PHASE_I_RATED_A: ON at the next boundary (R266 step 4). -/
def execSoftStartDone (s : State) : Host.Outcome State Fault Refusal :=
  .next (if s.conv.st = .starting ∧ s.conv.startStep = 3 ∧ (s.nOk : Rat) * s.rated ≤ s.conv.ssLimit then
    { s with conv.ssReached := true } else s)

/-- Drain is complete (R267): the phases stop and GD_EN falls; OFF at the next boundary. -/
def execDrainComplete (s : State) : Host.Outcome State Fault Refusal :=
  .next (if s.conv.st = .draining ∧ 4 ≤ s.conv.drainOk ∧ s.conv.toOff = false then
    { s.gatesOff with conv.drainDone := true } else s)

/-- Drain is not complete CONV_DRAIN_MAX_MS after it began (R267); each millisecond holds 40 control samples. -/
def execDrainTimeout (s : State) : Host.Outcome State Fault Refusal :=
  .next (if s.conv.st = .draining ∧ s.conv.drainDone = false ∧ s.conv.toOff = false ∧
      s.pn P.convDrainMaxMs * 40 ≤ s.conv.drainSubs then s.convStop 15 else s)

/-- GD_FAULT_N low for 1 us while GD_EN is high, after step 2 of R266 (Table 11.5 cause 4). -/
def execGateDriverFault (s : State) : Host.Outcome State Fault Refusal :=
  .next (if s.conv.gdEn ∧ ¬(s.conv.st = .starting ∧ s.conv.startStep ≤ 1) then
    { s with conv.gdFaultLow := true }.convStop 4 else s)

/-- The bus sense is at or above CONV_BUS_OV_V (R258, Table 11.5 cause 5). -/
def execBusOv (busUv : Nat) (s : State) : Host.Outcome State Fault Refusal :=
  .next (if s.pr P.convBusOvV ≤ s.busOf busUv then
    s.convStopWith 5 true true 0 (some (s.busOf busUv)) else s)

/-- A trigger of R272 with ILIM_RUN of a phase at HICCUP_N. -/
def State.hiccup (s : State) (phase : Nat) : State :=
  if s.conv.st = .draining then
    let s := s.convCapture 7 2 phase none
    { s.gatesOff with conv.drainDone := true
                      conv.latched := none
                      conv.enableOutcome := if s.conv.latched.isSome then (3, 0) else s.conv.enableOutcome }
  else if s.pn P.hiccupRetries ≤ s.retriesNow then s.convStopWith 8 true true phase none
  else
    let s := s.convCapture 7 1 phase none
    { s.noPeriods with
      conv.gatesOn := false, conv.toHiccup := true, conv.hiccupOff := true, conv.ssLimit := 0, conv.hiccupSubs := 0
      conv.ssActive := false, conv.ssReached := false, conv.ssWait := 0 }

/-- HICCUP_TRIGGER (R272, R273): every ILIM_RUN restarts. -/
def execHiccupTrigger (phase : Nat) (s : State) : Host.Outcome State Fault Refusal :=
  if phaseOk phase then
    .next (if s.conv.gatesOn ∧ s.conv.st ≠ .off ∧ s.conv.toOff = false ∧ s.pn P.hiccupN ≤ (s.phaseAt phase).ilimRun then
      let s := s.hiccup phase
      { s with phase := s.phase.map fun p => { p with ilimRun := 0 } } else s)
  else .fault .noSuchUnit

/-- Every healthy configured phase becomes active with share 1 at its offset. -/
def State.startPhases (s : State) : State :=
  let n := s.nOk
  (phases.filter s.healthy).zipIdx.foldl (fun s (j, i) => s.modPhase j fun p =>
    { p with st := .active, share8 := 8, ramp := 0, spread := 0, ilimRun := 0
             offset := (roundAway ((i : Rat) * (s.pwmT : Rat) / (n : Rat))).toNat
             target := (roundAway ((i : Rat) * (s.pwmT : Rat) / (n : Rat))).toNat }) s

/-- The soft-start of R266 step 3 begins: every healthy phase switches, from a limit of 0 A. -/
def State.beginSoftStart (s : State) : State :=
  { s.startPhases with conv.gatesOn := true, conv.startStep := 3, conv.ssLimit := 0, conv.ssWait := 0
                       conv.ssReached := false, conv.ssActive := true, conv.setSince := 0, conv.shedPhase := none
                       conv.shedTimer := 0, conv.shedReady := false }

/-- HICCUP_TOFF_MS after a trigger the retry begins, with the law integrator at 0 (R272, R288); each millisecond holds 40
control samples. -/
def execHiccupRetry (s : State) : Host.Outcome State Fault Refusal :=
  .next (if s.conv.hiccupOff ∧ s.conv.toOff = false ∧ (s.conv.st = .starting ∨ s.conv.st = .on) ∧
      s.pn P.hiccupToffMs * 40 ≤ s.conv.hiccupSubs then
    { s.beginSoftStart with conv.hiccupOff := false, conv.retries := (s.grid.plantNs :: s.conv.retries).take 16
                            law.lint := {} } else s)

/-- Low load has held for SHED_DWELL_MS (R260); each millisecond holds 40 sub-periods. -/
def execShedDwellExpire (s : State) : Host.Outcome State Fault Refusal :=
  .next (if s.conv.st = .on ∧ s.pn P.shedDwellMs * 40 ≤ s.conv.shedTimer then { s with conv.shedReady := true } else s)

/-- The step block ends STEP_BLOCK_MS after the output that carried STEP (R262); each millisecond holds 40 control samples. -/
def execStepBlockEnd (s : State) : Host.Outcome State Fault Refusal :=
  .next (if s.pn P.stepBlockMs * 40 ≤ s.conv.stepSubs then { s with conv.stepBlock := false } else s)

/-- The oldest capture becomes record SEQ of the converter fault region (R274). -/
def State.writeConvRecord (s : State) : State :=
  match s.conv.fifo with
  | [] => s
  | c :: rest =>
    let bytes := withCrc (c.body.take 4 ++ toLe 4 s.conv.seq ++ c.body.drop 8)
    let r : ConvRec := { seq := s.conv.seq, action := c.action, bytes := bytes }
    let s := { s with
      conv.fifo := rest
      conv.ring := (r :: s.conv.ring).take 64
      conv.lastFault := if c.first then some r else s.conv.lastFault
      conv.seq := s.conv.seq + 1
      conv.records := bump 0xFFFF s.conv.records
      conv.lastCause := c.cause }
    (s.nvmAsk { lane := false, cls := 0, pan := ((s.slotAt 36).pan).getD 36, left := 2 }).notify 0x07 bytes

/-- FAULT_RECORD_WRITE (R274): in the protection-only state captures wait. -/
def execFaultRecordWrite (s : State) : Host.Outcome State Fault Refusal :=
  .next (if s.lanes.protOnly then s else s.writeConvRecord)

/-! ### Switching periods -/

/-- The converter block takes the share of energy flow of R289: fraction of the period with the high-side switch
conducting, dead times included. -/
def State.highSide (s : State) (charge : Bool) (duty : Nat) : Rat :=
  let d : Rat := (duty : Rat) / 65536
  if s.stringLow == charge then d else 1 - d

/-- The peak reference of R256 before its clamp. -/
def Phase.rawPk (p : Phase) (iPk : Rat) : Rat := iPk * (1 + p.trimOut.val) * ((p.share8 : Rat) / 8)

/-- The DAC code of a peak reference (R256). -/
def State.dacCode (s : State) (ipk : Rat) : Nat :=
  (clampInt 0 4095 (2048 + roundAway (ipk / (s.senseGain * 3 / 4096)))).toNat

/-- The least and the greatest control on-time, counts (R255). -/
def State.onBounds (s : State) : Nat × Nat :=
  (max (s.pn P.convLebNs) (s.pn P.convTonMinNs), s.pwmT - s.pn P.convToffMinNs - 2 * s.pn P.convDeadtimeNs)

/-- v_dac less or plus v_ramp of phase `j`, `t` counts after its control switch turned on, uV (R256, Table 11.1): the ramp rises
at CONV_SLOPE_MV_US, in steps of 0.5 mV/us. -/
def State.tripLevel (s : State) (j t : Nat) : Rat :=
  let dac : Rat := ((s.phaseAt j).peakCode : Rat) * 3000000 / 4096
  let ramp : Rat := ((s.paramVals P.convSlopeMvUs).getD (j - 1) 0 : Rat) * (t : Rat) / 8
  if (s.phaseAt j).dirChg then dac - ramp else dac + ramp

/-- The comparator of phase `j` is asserted with the sensor at `uv`, `t` counts into the period (Table 11.1). -/
def State.peakTrip (s : State) (j t uv : Nat) : Bool :=
  if (s.phaseAt j).dirChg then decide (s.tripLevel j t ≤ (uv : Rat)) else decide ((uv : Rat) ≤ s.tripLevel j t)

/-- The control on-time of a period and whether the comparator ended it (R255): it is ignored up to the least on-time, and a
period in which it does not trip ends at the maximum on-time. -/
def State.onTime (s : State) (j : Nat) (trip : Option (Nat × Nat)) : Nat × Bool :=
  let (least, most) := s.onBounds
  match trip with
  | some (t, uv) => if max t least < most && s.peakTrip j (max t least) uv then (max t least, true) else (most, false)
  | none => (most, false)

/-- The period just ended: ILIM_RUN, duty and the high-side fraction (R255, R256, R289). -/
def State.endPeriod (s : State) (j : Nat) (trip : Option (Nat × Nat)) : State :=
  let p := s.phaseAt j
  let (on, tripped) := s.onTime j trip
  let lim := (p.clamped && tripped) || !tripped
  let duty := satTo 0xFFFF (roundAway ((on : Rat) * 65536 / (s.pwmT : Rat))).toNat
  let s := s.modPhase j fun p =>
    { p with ilimRun := if lim then bump 0xFF p.ilimRun else 0
             duty := duty, hsFrac := s.highSide p.dirChg duty }
  { s with conv.curLimNow := s.conv.curLimNow || lim }

/-- Eight equal steps of the offset (R261); a phase in ramp-out steps its share down, and after its eighth period its PWM
stays low. -/
def Phase.advance (p : Phase) : Phase :=
  let p := if p.spread = 0 then p else
    { p with offset := (roundAway ((p.offset : Rat) + ((p.target : Rat) - (p.offset : Rat)) / (p.spread : Rat))).toNat
             spread := p.spread - 1 }
  if p.st = .rampOut then
    if p.ramp = 0 then { p with st := .shed } else { p with ramp := p.ramp - 1, share8 := p.share8 - 1 }
  else p

/-- The values a phase applies at a period start (R256, R257). -/
def State.applyPeak (s : State) (j : Nat) : State :=
  s.modPhase j fun p =>
    let raw := p.rawPk s.law.iPk
    let ipk := clampRat (-s.phaseLimit) s.phaseLimit raw
    { p with iPk := ipk, clamped := ipk != raw, peakCode := s.dacCode ipk
             dirChg := if 0 < ipk then true else if ipk < 0 then false else p.dirChg, inPeriod := true }

/-- A shed ends with its re-spread; a change of phase count that ends restarts the shed dwell (R260, R261). -/
def State.spreadDone (s : State) (before : State) : State :=
  if s.phase.all (·.spread == 0) && before.phase.any (·.spread != 0) then
    { s with conv.shedBusy := s.conv.shedBusy && s.conv.shedPhase.isSome, conv.shedTimer := 0, conv.shedReady := false }
  else s

/-- PWM_PERIOD_START (R254 to R257, R261) of a switching phase. Before its first period none has ended. -/
def State.periodStart (s : State) (j : Nat) (trip : Option (Nat × Nat)) : State :=
  let s1 := if (s.phaseAt j).inPeriod then s.endPeriod j trip else s
  let s2 := s1.modPhase j Phase.advance
  let s3 := if s.conv.shedPhase = some j ∧ (s2.phaseAt j).st = .shed then
      { s2 with conv.shedPhase := none }.respread else s2
  let s4 := if (s3.phaseAt j).switching then s3.applyPeak j else s3.modPhase j fun p => { p with inPeriod := false }
  s4.spreadDone s

/-- PWM_PERIOD_START: a phase that does not switch has no period. -/
def execPwmPeriodStart (phase : Nat) (near : Bool) (count uv : Nat) (s : State) : Host.Outcome State Fault Refusal :=
  if phaseOk phase then
    .next (if s.conv.gatesOn ∧ (s.phaseAt phase).switching then
      s.periodStart phase (if near then some (count, uv) else none)
    else s)
  else .fault .noSuchUnit

/-! ### The opcodes -/

/-- The newest valid MAIN record of the branch, at most four frames old, and its string voltage in mV (R265). -/
def State.recString (s : State) : Option Int :=
  match (s.branchAt (s.pn P.branch)).mainRecs.find? fun r => !r.flags.getLsbD 1 with
  | some r => if (s.grid.frame - r.stamp).toNat ≤ 4 && r.vstr != -2147483648 then some r.vstr else none
  | none => none

/-- The string voltage of R265, mV: the local CFE reading where valid, otherwise the record's. -/
def State.stringMv (s : State) : Option Int :=
  if (s.pn P.cfeRole = 1 ∨ s.pn P.cfeRole = 2) ∧ s.cfe.vstrInvalid = false ∧ s.cfe.iHeld = false then some s.cfe.vstrMv
  else s.recString

/-- BUS_RANGE of Table 11.4 for a string voltage in V. -/
def State.busRangeBad (s : State) (vs : Rat) : Bool :=
  let vb := s.conv.vBus
  let m := s.pr P.convStartMarginV
  decide (s.pr P.convBusOvV ≤ vb) || (if s.stringLow then decide (vb < vs + m) else decide (vs < vb + m))

/-- The first refusal reason of Table 11.4 in its row order, 0 for none. -/
def State.enableReason (s : State) : Nat :=
  if s.ownerReason ≠ 0 then s.ownerReason
  else if s.conv.hwLatch || s.conv.faultLatch then 0x03
  else if s.lineIsLow then 0x04
  else match s.stringMv with
    | none => 0x0A
    | some mv =>
      if s.busRangeBad ((mv : Rat) / 1000) then 0x05
      else if s.conv.gdFaultLow && !s.conv.gdEn && decide (1000 ≤ s.conv.gdFaultUs) then 0x06
      else if (phases.filter fun j => s.configured j && senseOk (s.phaseAt j).vSense).length < s.pn P.convPhasesMin then 0x07
      else if !(s.roleRuns 34 && s.roleRuns 35 && s.roleRuns 36) then 0x08
      else if s.safe.st != .armed && s.safe.st != .notUsed then 0x09
      else 0

/-- STARTING begins (R263, R265, R266): FAULT_MASK is cleared, the law starts under R283 and R288. -/
def State.beginStart (s : State) : State :=
  let v := s.conv.vBus
  { s with
    conv.st := .starting, conv.startStep := 0, conv.zeroSamples := 0, conv.faultMask := 0, conv.hiccup := false
    conv.ssLimit := 0, conv.ssWait := 0, conv.ssReached := false, conv.ssActive := false, conv.stopRecorded := false
    conv.drainCause := 0, conv.drainBy := none, conv.drainOk := 0, conv.drainDone := false, conv.enableOutcome := (0, 0)
    conv.busRun := 0, conv.shedBusy := false, conv.shedPhase := none, conv.shedTimer := 0, conv.shedReady := false
    conv.stepBlock := false, conv.curLimited := false, conv.curLimPrev := false, conv.curLimNow := false
    law.mode := s.law.newMode, law.modeChange := false, law.vint := {}, law.lint := {}, law.iRef := 0, law.iRefPrev := 0
    law.iPk := 0, law.iTarget := 0
    law.x := if s.law.newMode = .busVoltage then Single.ofRat (v * 1000) else {}
    phase := s.phase.zipIdx.map fun (p, i) =>
      { p with st := if s.configured (i + 1) then .off else .notConfigured
               senseBadRun := 0, shareRun := 0, ilimRun := 0, spread := 0, ramp := 0, share8 := 8, iPk := 0, clamped := false } }

/-- The journal entry of CONV_ENABLE and CONV_DISABLE (Table 20.2): converter state codes. -/
def State.journalConv (s : State) (h : Hdr) (op : Nat) (old : FnState) : State :=
  s.journal h.port op 0 (toLe 1 old.code) (toLe 1 s.conv.st.code)

/-- CONV_ENABLE (R265, R268, R270). -/
def opConvEnable (h : Hdr) (p : List Byte) (s : State) : Ans :=
  if s.power.st ≠ .run ∨ s.grid.mode ≠ .active then fail s .wrongState
  else if s.conv.st = .draining ∧ s.conv.toOff = false then
    if s.conv.latched.isSome then fail s .busy
    else { st := .draining, claims := [.convEnable], s := { s with conv.latched := some { hdr := h, payload := p } } }
  else if s.conv.st ≠ .off ∧ s.conv.toOff = false then okAns s [] [.convEnable]
  else if s.conv.st = .off ∧ s.conv.latched.isSome then fail s .busy
  else if s.enableReason ≠ 0 then refuse s s.enableReason
  else okAns (s.beginStart.journalConv h 0x30 s.conv.st) [] [.convEnable]

/-- CONV_DISABLE (R252, R268, R270, R271). -/
def opConvDisable (h : Hdr) (_p : List Byte) (s : State) : Ans :=
  if s.ownerReason ≠ 0 then refuse s s.ownerReason
  else if s.conv.st = .off ∨ s.conv.toOff = true then
    if s.conv.hwLatch then refuse s 0x03
    else if s.conv.st = .off ∧ s.conv.latched.isSome then
      okAns ({ s with
        conv.faultLatch := false, conv.latchPend := false, conv.latched := none
        conv.enableOutcome := (2, 0) }.journalConv h 0x31 s.conv.st) [] [.convEnable]
    else if s.conv.faultLatch || s.conv.latchPend then
      okAns ({ s with conv.faultLatch := false, conv.latchPend := false }.journalConv h 0x31 s.conv.st) [] [.convEnable]
    else okAns s [] [.convEnable]
  else if s.conv.st = .draining then
    if s.conv.latched.isSome then
      okAns ({ s with conv.latched := none, conv.enableOutcome := (2, 0) }.journalConv h 0x31 s.conv.st) [] [.convEnable]
    else okAns s [] [.convEnable]
  else okAns ((s.beginDrain 1 (some (hdrRef h 0x31 false))).journalConv h 0x31 s.conv.st) [] [.convEnable]

/-- The law mode of a LAW_MODE byte (Table 17.14). -/
def lawModeOf (b : Byte) : Option LawMode :=
  if b = 0 then some .current else if b = 1 then some .power else if b = 2 then some .busVoltage else none

/-- The range of a target (Table 12.4). -/
def State.targetOk (s : State) (m : LawMode) (t : Int) : Bool :=
  match m with
  | .current => decide (-4000000 ≤ t ∧ t ≤ 4000000)
  | .power => decide (-2000000 ≤ t ∧ t ≤ 2000000)
  | .busVoltage =>
    decide (max (s.pv P.convBusUvV * 1000 + 10000) 50000 ≤ t ∧ t ≤ s.pv P.convBusOvV * 1000 - 20000)

/-- Table 17.14 as stored. -/
def State.setpointBytes (s : State) : List Byte := toLe 1 s.law.newMode.code ++ zeros 3 ++ toLeInt 4 s.law.target

/-- The value of a setpoint in the journal (Table 20.2). -/
def State.setpointValue (s : State) : List Byte := toLe 1 s.law.newMode.code ++ toLeInt 4 s.law.target

/-- CONV_SETPOINT (R281): stored in every converter state; step 3 of the boundary drives it, and a change of mode acts at the
next control sample. -/
def opConvSetpoint (h : Hdr) (p : List Byte) (s : State) : Ans :=
  match lawModeOf (getB p 0) with
  | none => fail s .outOfRange
  | some m =>
    let t := getS p 4 4
    if !s.targetOk m t then fail s .outOfRange
    else if s.ownerReason ≠ 0 then refuse s s.ownerReason
    else
      let s' := { s with law.newMode := m, law.target := t }
      okAns (s'.journal h.port 0x32 0 s.setpointValue s'.setpointValue) s'.setpointBytes [.convSetpoint]

/-- CONV_FAULT_RECORD (R274): the last-fault slot, or the records from a given SEQ onward. -/
def opConvFaultRecord (_h : Hdr) (p : List Byte) (s : State) : Ans :=
  let which := (getB p 0).toNat
  let n := (getB p 5).toNat
  if 1 < which ∨ n < 1 ∨ 34 < n then fail s .outOfRange
  else
    let recs := if which = 0 then s.conv.lastFault.toList
      else (s.conv.ring.reverse.filter fun r => getU p 1 4 ≤ r.seq).take n
    okAns s (toLe 1 recs.length ++ zeros 3 ++ recs.flatMap (·.bytes))

/-- CONV_ENABLE. -/
def execConvEnable (h : Hdr) (p : List Byte) (s : State) : Host.Outcome State Fault Refusal :=
  .next (runCmd 0x30 opConvEnable h p s)

/-- CONV_DISABLE. -/
def execConvDisable (h : Hdr) (p : List Byte) (s : State) : Host.Outcome State Fault Refusal :=
  .next (runCmd 0x31 opConvDisable h p s)

/-- CONV_SETPOINT. -/
def execConvSetpoint (h : Hdr) (p : List Byte) (s : State) : Host.Outcome State Fault Refusal :=
  .next (runCmd 0x32 opConvSetpoint h p s)

/-- CONV_FAULT_RECORD. -/
def execConvFaultRecord (h : Hdr) (p : List Byte) (s : State) : Host.Outcome State Fault Refusal :=
  .next (runCmd 0x33 opConvFaultRecord h p s)

/-! ### The boundary -/

/-- The law is reset after a stop (R270). -/
def State.lawReset (s : State) : State :=
  { s with law.vint := {}, law.lint := {}, law.x := {}, law.s1 := {}, law.s2 := {}, law.m := {}, law.plausCount := 0 }

/-- The state becomes OFF. -/
def State.convOff (s : State) : State :=
  let s := s.gatesOff
  { s with
    conv.st := .off, conv.toOff := false, conv.hiccup := false, conv.startStep := 0, conv.ssActive := false
    conv.ssLimit := 0, conv.shedBusy := false, conv.shedPhase := none, conv.stepBlock := false, conv.curLimited := false
    conv.faultLatch := s.conv.faultLatch || s.conv.latchPend, conv.latchPend := false
    law.iRef := 0, law.iRefPrev := 0, law.iPk := 0, law.iTarget := 0, law.drainRamp := false, law.clampString := false
    law.clampRated := false
    phase := s.phase.map fun p => if p.switching || p.st == .shed then { p with st := .off } else p }

/-- HW_LATCH is released at the first boundary at which every condition of R271 holds, and with it OC_LATCHED, since no trip
holds the gates off any longer (03 R85). -/
def State.releaseHwLatch (s : State) : State :=
  if s.conv.hwLatch ∧ s.conv.st = .off ∧ s.lineIsLow = false ∧ 1000 ≤ s.conv.lineHighUs ∧
      s.prot.cause.getLsbD 29 = false ∧ s.prot.cause.getLsbD 28 = false ∧
      s.conv.vBus < 98 / 100 * s.pr P.convBusOvV ∧ s.safe.gateKill = false then
    { s with conv.hwLatch := false, cfe.ocLatched := false }
  else s

/-- Which phases exist, outside operation (Table 11.10). -/
def State.configurePhases (s : State) : State :=
  if s.conv.st = .off then
    { s with phase := s.phase.zipIdx.map fun (p, i) =>
        if !s.configured (i + 1) then { p with st := .notConfigured }
        else if p.st = .notConfigured then { p with st := .off } else p }
  else s

/-- OWNER as the boundary finds it (R252, R253): a module that ceases to be owner drains with OWNER_LOST. -/
def State.checkOwner (s : State) : State :=
  let own := s.ownerReason == 0
  let s := if s.conv.owner && !own && (s.conv.st == .starting || s.conv.st == .on) && !s.conv.toOff then
      (s.convCapture 17 4 0 none).beginDrain 4 none else s
  { s with conv.owner := own }

end Sys2Proof.Machine
end

