-- ==== Sys2Proof/Machine/Pans.lean ====
section
/-!
DEFINITION. The pan array and the sluice (04_pan_array.md): roles, transit checks, referee arbitration, pan failures,
role moves and the NVM write port. The data memory of the pan that serves a role is held in the fields of State that its
recipe works on; the sluice keeps the last checkpoint of each role, from which a pan that was not shadowing it starts.
-/

namespace Sys2Proof.Machine

/-! ### Roles and jobs -/

/-- The active role slots in ascending order (R94). -/
def State.activeSlots (s : State) : List Nat := (List.range 40).filter fun k => 32 ≤ k || 3 * k + 1 ≤ s.cells

/-- The cells that the cell pan of slot `k` serves and that are in use (R93). -/
def State.slotCells (s : State) (k : Nat) : List Nat := [3 * k + 1, 3 * k + 2, 3 * k + 3].filter fun n => n ≤ s.cells

/-- The recipe of a role slot (Table 4.3). -/
def slotRecipe (k : Nat) : Recipe :=
  if k < 32 then .cell else if k < 34 then .agg else if k = 34 then .law else if k = 35 then .plaus
  else if k = 36 then .phase else if k = 37 then .eis else if k = 38 then .balplan else .diag

/-- Cycles of an anchored role in a frame (Table 4.3). -/
def anchoredCycles (k : Nat) : Nat := if k = 34 then 3600 else if k = 35 then 2800 else if k = 36 then 3400 else 0

/-- Class codes of jobs: 0 M, 1 P, 2 O (05 R111, Table 5.1). -/
def jobClass : JobKind → Nat
  | .cellScale | .currentAgg | .plausibility | .pattern | .openWire | .strapCheck | .threshCheck => 0
  | .blended | .specBin | .health | .summary | .powerLimits | .stringFigures | .crossSpec | .thermo | .slotPlan | .leadR
  | .eventWrite => 1
  | .cellStats | .coherence | .refine | .selfTest => 2

/-- The role slot whose recipe holds the job. -/
def jobInSlot (k : Nat) : JobKind → Bool
  | .cellScale | .blended | .specBin | .health | .cellStats => k < 32
  | .currentAgg => k == 32
  | .plausibility | .summary | .powerLimits | .stringFigures => k == 33
  | .coherence | .crossSpec | .thermo => k == 37
  | .pattern | .slotPlan | .refine => k == 38
  | .openWire | .leadR | .strapCheck | .threshCheck | .selfTest | .eventWrite => k == 39

/-- The jobs in the order of their recipes. -/
def allJobs : List JobKind :=
  [.cellScale, .blended, .specBin, .health, .cellStats, .currentAgg, .plausibility, .summary, .powerLimits, .stringFigures,
   .coherence, .crossSpec, .thermo, .pattern, .slotPlan, .refine, .openWire, .leadR, .strapCheck, .threshCheck, .selfTest,
   .eventWrite]

/-- Number of a job for its declared length. -/
def jobNo (j : JobKind) : Nat := allJobs.idxOf j

/-- Number of a recipe in the order of R92. -/
def recipeNo (k : Nat) : Nat :=
  match slotRecipe k with
  | .cell => 0 | .agg => 1 | .law => 2 | .plaus => 3 | .phase => 4 | .eis => 5 | .balplan => 6 | .diag => 7

/-- The pan serves its role: active in it or its referee. -/
def Pan.serving (p : Pan) : Bool := p.st == .active || p.st == .referee

/-- The role whose outputs come from pan `p` in this window: the role it serves, or the one it has shadowed and takes
over at the next boundary because the role's own pan has halted (R102). -/
def State.roleOf (s : State) (p : Nat) : Option Nat :=
  let x := s.panAt p
  if x.serving then (if x.role < 40 then some x.role else none)
  else match x.shadowOf with
    | some k => if (s.slotAt k).moveTo = some p then some k else none
    | none => none

/-- The spare that shadows a role in this window. -/
def State.shadowerOf (s : State) (k : Nat) : Option Nat :=
  (List.range 48).find? fun p => (s.panAt p).st == PanState.shadowing && (s.panAt p).shadowOf == some k

/-- An arbitration window of the role runs. -/
def State.arbOf (s : State) (k : Nat) : Option Arb := s.sluice.arbs.find? fun a => a.slot == k && a.started && a.referee.isSome

/-! ### Checkpoints -/

/-- What the recipe of role slot `k` keeps now (R86, R98). -/
def State.roleMem (s : State) (k : Nat) : RoleMem :=
  if k < 32 then
    let l := s.slotCells k
    { est := l.map s.estAt, hist := l.map fun n => (s.chanAt n).hist, spec := l.map fun n => s.eis.cells.getD (n - 1) {} }
  else if k = 32 then { cfe := s.cfe }
  else if k = 33 then { str := s.str, estMod := s.estMod }
  else if k = 37 then { thermo := s.thermo, verdicts := s.eis.verdicts, thermoQ := s.eis.thermoQ }
  else if k = 38 then { bal := s.bal }
  else if k = 39 then { ow := s.ow, tap := s.tap, owAge := s.bal.owAge }
  else if k = 36 then { trims := s.phase.map (·.trim) }
  else { law := s.law }

/-- The checkpoints of the roles `l` are written: by a pan that serves its role and whose outputs are not withheld, and by
none while the sluice is frozen (R96, R107). -/
def State.checkpoint (s : State) (l : List Nat) : State :=
  if s.sluice.frozen then s
  else
    { s with ckpt.slots := l.foldl (fun c k =>
        match (s.slotAt k).pan with
        | some p => if ((s.panAt p).st == .active || (s.panAt p).st == .referee) && !(s.panAt p).withheld then setAt c k (s.roleMem k) else c
        | none => c) s.ckpt.slots }

/-- The fields of the charge accumulator and of zero tracking, which P32 keeps (03 R70 to R73). -/
def Cfe.restored (c m : Cfe) : Cfe :=
  { c with
    acc := m.acc, accRem := m.accRem, ownSum := m.ownSum, ownSums := m.ownSums, last := m.last, bridge := m.bridge
    frameChargeNc := m.frameChargeNc, stallRun := m.stallRun, zeroHold := m.zeroHold, zeroSum := m.zeroSum, zeroN := m.zeroN }

/-- The fields of the planner that are not the lane's own (09 R227 to R229). -/
def Bal.restored (b m : Bal) : Bal :=
  { b with
    hold := m.hold, pulseTap := m.pulseTap, slotPlanned := m.slotPlanned, plannedNew := m.plannedNew, pulseAge := m.pulseAge
    decs := m.decs, nextPulse := m.nextPulse, cells := m.cells, refineSlots := m.refineSlots, refined := m.refined
    freezeTap := m.freezeTap }

/-- The fields of the law that P34 keeps (12 R280 to R290). -/
def Law.restored34 (x m : Law) : Law :=
  { x with mode := m.mode, x := m.x, vint := m.vint, lint := m.lint, s1 := m.s1, s2 := m.s2, iRef := m.iRef, vRef := m.vRef }

/-- The fields of the supervisor that P35 keeps (12 R291 to R293). -/
def Law.restored35 (x m : Law) : Law :=
  { x with m := m.m, plausCount := m.plausCount, safeI0 := m.safeI0, iSafe := m.iSafe, safeTotal := m.safeTotal }

/-- The new pan of role slot `k` starts from the role's last checkpoint (R96, R100, R102): what an unfinished window or
sub-period has written since is lost. A slot without a checkpoint starts from what it holds. -/
def State.restoreRole (s : State) (k : Nat) : State :=
  let m := s.ckpt.slots.getD k {}
  if m = {} then s
  else if k < 32 then
    (s.slotCells k).zipIdx.foldl (fun s (n, i) =>
      let s := match m.est[i]? with
        | some e => s.modEst n fun _ => e
        | none => s
      let s := match m.hist[i]? with
        | some h => s.modChan n fun c => { c with hist := h }
        | none => s
      match m.spec[i]? with
      | some c => { s with eis.cells := setAt s.eis.cells (n - 1) c }
      | none => s) s
  else if k = 32 then { s with cfe := s.cfe.restored m.cfe }
  else if k = 33 then { s with str := m.str, estMod := m.estMod }
  else if k = 37 then { s with thermo := s.thermo.zipIdx.map (fun (t, i) => m.thermo.getD i t), eis.verdicts := m.verdicts, eis.thermoQ := m.thermoQ }
  else if k = 38 then { s with bal := s.bal.restored m.bal }
  else if k = 39 then { s with ow := m.ow, tap := s.tap.zipIdx.map (fun (t, i) => m.tap.getD i t), bal.owAge := m.owAge }
  else if k = 36 then { s with phase := s.phase.zipIdx.map fun (p, i) => { p with trim := m.trims.getD i p.trim } }
  else if k = 34 then { s with law := s.law.restored34 m.law }
  else { s with law := s.law.restored35 m.law }

/-! ### The spare pool -/

/-- SPARES_LOW once for each fall to SPARE_LOW (R104). -/
def State.checkSpares (s : State) : State :=
  let n := s.spares.length
  if n ≤ s.pn P.spareLow then
    if s.sluice.sparesLowSent then s
    else { s with sluice.sparesLowSent := true }.notify 0x0D (toLe 1 n)
  else { s with sluice.sparesLowSent := false }

/-- A pan without a role. -/
def State.toPool (s : State) (p : Nat) : State :=
  s.modPan p fun x =>
    { x with role := 0xFE, st := .spareIdle, shadowOf := none, loadFor := none, withheld := false
             inArb := false, queue := [] }

/-- A pan is retired (R105): an absorbed event; at RETIRE_COUNT 3 for good. -/
def State.retirePan (s : State) (p : Nat) (f : PanFault) : State :=
  (s.modPan p fun x =>
    { x with st := .retired, role := 0xFF, retireCount := satTo 3 (x.retireCount + 1), lastFault := f, shadowOf := none
             recipe := none, loadFor := none, withheld := false, inArb := false, queue := [] }).absorb 3 2 p 0 []

/-- The role is given to pan `p`. -/
def State.giveRole (s : State) (k p : Nat) (st : PanState) : State :=
  let s := s.modPan p fun x =>
    { x with role := k, st := st, shadowOf := none, loadFor := none, withheld := false, recipe := some (slotRecipe k)
             inArb := false, queue := [] }
  s.modSlot k fun x => { x with pan := some p, moveTo := none, held := false, lost := false, suspended := false }

/-- A channel without a valid value. -/
def Chan.invalidate (c : Chan) : Chan :=
  { c with s24 := 0x800000, u16 := 0xFFFF, status := setBit (setBit c.status 15 true) 14 false }

/-! ### Failed roles -/

/-- The role is lost (R104): the cells of a cell pan have no value and no estimate any more. -/
def State.loseRole (s : State) (k : Nat) : State :=
  let s := s.modSlot k fun x => { x with lost := true, pan := none, moveTo := none }
  if k < 32 then (s.slotCells k).foldl (fun s n =>
    (s.modChan n Chan.invalidate).modEst n fun e => { e with inited := false, fInvalid := true }) s
  else if k = 32 || k = 33 || k = 39 then (s.setCause 24 0).notify 0x0C (toLe 1 k)
  else s

/-- The sluice takes the pan of slot `low` for the failed role: that role is suspended (R104). -/
def State.takeOver (s : State) (low k p : Nat) : State :=
  let s := s.modSlot low fun x => { x with suspended := true, pan := none, moveTo := none }
  let s := s.toPool p
  (s.modPan p fun x => { x with loadFor := some k }).notify 0x0B (toLe 1 low ++ toLe 1 k)

/-- The pan of a role that still runs. -/
def State.runningPan (s : State) (k : Nat) : Option Nat := if s.roleRuns k then (s.slotAt k).pan else none

/-- No spare is available: the pan of slot 37, else of slot 38, else the role is lost. A role takes only the pan of a
role of lower rank, slot 37 being the lowest (log entry 18). -/
def State.noSpare (s : State) (k : Nat) : State :=
  match (if k = 37 then none else s.runningPan 37), (if k = 37 || k = 38 then none else s.runningPan 38) with
  | some p, _ => s.takeOver 37 k p
  | none, some p => s.takeOver 38 k p
  | none, none => s.loseRole k

/-- A failed role finds its next pan (R102, R104, R107): the spare that shadows it, else the lowest available spare, which is
loaded for it; with the map frozen it is lost. -/
def State.replace (s : State) (k : Nat) : State :=
  if s.sluice.frozen then s.loseRole k
  else match s.shadowerOf k with
    | some p => s.modSlot k fun x => { x with moveTo := some p }
    | none => match s.spares with
      | p :: _ => s.modPan p fun x => { x with st := .spareIdle, shadowOf := none, loadFor := some k }
      | [] => s.noSpare k

/-- The offending role of a discard moves to a spare under R102 (05 R134); with the map frozen it keeps its pan (R107).
DESIGN CHOICE (log entry 85): with no spare it keeps its pan too, which is healthy. -/
def State.offends (s : State) (k : Nat) : State :=
  if s.sluice.frozen || ((s.shadowerOf k).isNone && s.spares == []) then s else s.replace k

/-- A hard fault of a pan (R101). DESIGN CHOICE (log entry 86): when it is the original pan, the shadow spare or the referee
of an arbitration, the arbitration ends without a verdict; a referee that still serves goes on in its role. -/
def State.panFails (s : State) (p : Nat) (f : PanFault) : State :=
  let x := s.panAt p
  let k := x.role
  let s := s.modPan p fun x => { x with st := .halted, lastFault := f, eccRate := x.eccRate || f == .eccRate, shadowOf := none
                                        loadFor := none, withheld := true, inArb := false, queue := [] }
  let gone := s.sluice.arbs.filter fun a => a.orig == p || a.shadow == p || a.referee == some p
  let s := gone.foldl (fun s a =>
    let s := match a.referee with
      | some q => if a.started || q == p then s else s.modPan q fun y => { y with loadFor := none }
      | none => s
    [a.orig, a.shadow].foldl (fun s q => if q == p then s else
      s.modPan q fun y => { y with inArb := false, st := if y.st == PanState.shadowing then .spareIdle else y.st }) s) s
  let s := { s with sluice.arbs := s.sluice.arbs.filter fun a => a.orig != p && a.shadow != p && a.referee != some p }
  let s := match x.loadFor with
    | some j => s.replace j
    | none => s
  let s := match s.slot.findIdx? (fun y => y.moveTo == some p) with
    | some j => (s.modSlot j fun y => { y with moveTo := none }).replace j
    | none => s
  let s := if x.serving && k < 40 then (s.modSlot k fun y => { y with held := true }).replace k else s
  s.checkSpares

/-- PAN_HARD_FAULT: a pan that is powered or clocked down has none. -/
def execPanHardFault (pan : Nat) (fault : PanFault) (s : State) : Host.Outcome State Fault Refusal :=
  if panOk pan then
    .next (if [PanState.retired, .gated, .halted].contains (s.panAt pan).st then s else s.panFails pan fault)
  else .fault .noSuchUnit

/-- SLUICE_LOAD_COMPLETE (R95, R97, R102): a pan loaded for a move takes the role at the next boundary; that of an arbitration
takes it by the arbitration (R100). -/
def State.loaded (s : State) (p k : Nat) : State :=
  let x := s.panAt p
  let s := if x.st == .retired || x.st == PanState.halted then s else s.modPan p fun x => { x with recipe := some (slotRecipe k) }
  let forArb := fun (a : Arb) => a.slot == k && (a.referee == some p || (a.referee.isNone && a.shadow == p))
  if x.loadFor = some k ∧ s.sluice.frozen = false then
    if s.sluice.arbs.any forArb then
      { s with sluice.arbs := s.sluice.arbs.map fun a => if forArb a then { a with loaded := true } else a }
    else s.modSlot k fun y => { y with moveTo := some p }
  else s

/-- SLUICE_LOAD_COMPLETE. -/
def execSluiceLoadComplete (pan slot : Nat) (s : State) : Host.Outcome State Fault Refusal :=
  if panOk pan && slotOk slot then .next (s.loaded pan slot) else .fault .noSuchUnit

/-- A BIST ends (R95, R100, R105): a spare under test because of a mismatch decides the arbitration. -/
def State.bistEnds (s : State) (p : Nat) (pass : Bool) : State :=
  let mine := fun (a : Arb) => a.shadow == p && a.referee.isNone && !a.started
  if s.sluice.arbs.any mine then
    if pass then
      { s.toPool p with sluice.arbs := s.sluice.arbs.map fun a => if mine a then { a with started := true } else a }.modPan p
        fun x => { x with loadFor := (s.sluice.arbs.find? mine).map Arb.slot }
    else { s with sluice.arbs := s.sluice.arbs.filter fun a => !mine a }.retirePan p .bist
  else if pass then s.toPool p
  else s.retirePan p .bist

/-- PAN_BIST_COMPLETE. -/
def execPanBistComplete (pan : Nat) (pass : Bool) (s : State) : Host.Outcome State Fault Refusal :=
  if panOk pan then .next (if (s.panAt pan).st = .bist then (s.bistEnds pan pass).checkSpares else s)
  else .fault .noSuchUnit

/-- The sluice fails (R107): no shadow run, no load and no move goes on. -/
def State.freeze (s : State) (cause : Nat) : State :=
  let s := { s with
    sluice.frozen := true, sluice.arbs := []
    pan := s.pan.map fun (x : Pan) => if x.st == PanState.shadowing then { x with st := .spareIdle, shadowOf := none } else { x with loadFor := none }
    slot := s.slot.map fun (x : RoleSlot) => { x with moveTo := none } }
  let s := (List.range 40).foldl (fun s k =>
    match (s.slotAt k).pan with
    | some p => if (s.panAt p).st == PanState.halted then s.loseRole k else s
    | none => s) s
  s.notify 0x0E (toLe 1 cause)

/-- SLUICE_FAIL. -/
def execSluiceFail (cause : Nat) (s : State) : Host.Outcome State Fault Refusal :=
  if 1 ≤ cause ∧ cause ≤ 3 then .next (if s.sluice.frozen then s else s.freeze cause) else .fault .noSuchUnit

/-! ### Transit checks -/

/-- TRANSIT_SUSPENDED (R99): an active role has gone more than 48 frames without a completed shadow run. -/
def execTransitSuspended (s : State) : Host.Outcome State Fault Refusal :=
  .next (
    let worst := (s.activeSlots.map fun k => (s.slotAt k).unshadowed).foldl max 0
    if 48 < worst ∧ s.sluice.transitSuspended = false then
      { s with sluice.transitSuspended := true, slot := s.slot.map fun (x : RoleSlot) => { x with again := false } }.absorb
        4 1 0xFF 0 (toLe 4 worst)
    else s)

/-- A role has completed a shadow run (R99). TRANSIT_SUSPENDED clears when every role has been shadowed again. -/
def State.shadowed (s : State) (k : Nat) : State :=
  let s := s.modSlot k fun x => { x with unshadowed := 0, again := true }
  if s.activeSlots.all fun j => (s.slotAt j).again then { s with sluice.transitSuspended := false } else s

/-- The lowest-numbered available spare other than the shadow (R100). -/
def State.refereeFor (s : State) (shadow : Nat) : Option Nat := s.spares.find? (· != shadow)

/-- A mismatch found while a spare shadows the role (Table 4.4): the outputs of a non-anchored role are withheld, and
arbitration is arranged. -/
def State.mismatch (s : State) (k orig shadow : Nat) : State :=
  let s := s.absorb 3 1 orig 0 []
  let ref := s.refereeFor shadow
  let a : Arb := { slot := k, orig := orig, shadow := shadow, referee := ref }
  let s := { s with sluice.arbs := s.sluice.arbs ++ [a] }
  let s := if 34 ≤ k && k ≤ 36 then s
    else (s.modPan orig fun x => { x with withheld := true }).modSlot k fun x => { x with held := true }
  match ref with
  | some p => (s.modPan shadow fun x => { x with inArb := true }).modPan p fun x =>
      { x with st := .spareIdle, shadowOf := none, loadFor := some k }
  | none => s.modPan shadow fun x => { x with st := .bist, shadowOf := none, inArb := true }

/-- The signatures of a completed job, or of a sub-period of an anchored role (R98, R100), each held by its pan. In an
arbitration window they enter the verdict. -/
def State.compare (s : State) (k p : Nat) (r : SigSet) : State :=
  let s := s.modPan p fun x => { x with sig := r.own }
  match s.arbOf k with
  | some a =>
    let s := (s.modPan a.orig fun x => { x with sig := r.a }).modPan a.shadow fun x => { x with sig := r.b }
    { s with sluice.arbs := s.sluice.arbs.map fun a =>
        if a.slot == k then { a with eqA := a.eqA && r.a == r.own, eqB := a.eqB && r.b == r.own, eqAB := a.eqAB && r.a == r.b }
        else a }
  | none => match s.shadowerOf k with
    | some q =>
      let s := s.modPan q fun x => { x with sig := r.a }
      if r.a == r.own || s.sluice.arbs.any (·.slot == k) then s else s.mismatch k p q
    | none => s

/-- The verdict of an arbitration window, at the boundary after it (Table 4.4). -/
def State.verdict (s : State) (a : Arb) (ref : Nat) : State :=
  let drop := fun (s : State) => { s with sluice.arbs := s.sluice.arbs.filter fun x => x.slot != a.slot }
  let keep := fun (s : State) => s.giveRole a.slot ref .active
  if a.eqA && a.eqB then drop (keep ((s.toPool a.orig).toPool a.shadow))
  else if a.eqA then drop (keep ((s.toPool a.orig).retirePan a.shadow .transit))
  else if a.eqB then drop (keep ((s.toPool a.shadow).retirePan a.orig .transit))
  else if a.eqAB then
    let s := (s.retirePan ref .transit).toPool a.shadow
    drop { s.giveRole a.slot a.orig .active with sluice.moves := bump 0xFF s.sluice.moves }
  else if a.windows < 3 then
    { s with sluice.arbs := s.sluice.arbs.map fun x =>
        if x.slot == a.slot then { x with windows := x.windows + 1, eqA := true, eqB := true, eqAB := true } else x }
  else
    (drop (keep ((s.retirePan a.orig .transit).retirePan a.shadow .transit))).notify 0x0A
      (toLe 1 a.slot ++ toLe 1 a.orig ++ toLe 1 a.shadow)

/-- One arbitration at a boundary. -/
def State.arbStep (s : State) (a : Arb) : State :=
  match a.referee, a.started with
  | some ref, true => s.verdict a ref
  | some ref, false =>
    if !a.loaded then s else
    let s := (s.restoreRole a.slot).giveRole a.slot ref .referee
    let shadow := fun (s : State) (p : Nat) => s.modPan p fun x =>
      { x with st := .shadowing, role := 0xFE, shadowOf := some a.slot, withheld := false, inArb := true, queue := [] }
    let s := shadow (shadow s a.orig) a.shadow
    { s with
      sluice.moves := bump 0xFF s.sluice.moves
      sluice.arbs := s.sluice.arbs.map fun x => if x.slot == a.slot then { x with started := true, windows := 1 } else x }
  | none, true =>
    if !a.loaded then s else
    let s := ((s.restoreRole a.slot).retirePan a.orig .transit).giveRole a.slot a.shadow .active
    { s with sluice.moves := bump 0xFF s.sluice.moves, sluice.arbs := s.sluice.arbs.filter fun x => x.slot != a.slot }
  | none, false => s

/-- A move that waits for the boundary (R102, 05 R134): a halted pan is retired, an offending one returns to the pool. A spare
that has shadowed the role goes on from its own state, any other starts from the last checkpoint. -/
def State.applyMove (s : State) (k : Nat) : State :=
  match (s.slotAt k).moveTo with
  | none => s
  | some q =>
    let old := (s.slotAt k).pan
    let s := match old with
      | some p => if (s.panAt p).serving then (s.toPool p).absorb 3 4 p 0 (toLe 1 k) else s
      | none => s
    let s := if (s.panAt q).shadowOf == some k then s else s.restoreRole k
    { s.giveRole k q .active with sluice.moves := bump 0xFF s.sluice.moves }

/-- Pans that halted are retired once their role has moved or is lost (R102, R105); a frozen map keeps them. -/
def State.retireHalted (s : State) : State :=
  (List.range 48).foldl (fun s p =>
    if (s.panAt p).st == PanState.halted && !s.slot.any (·.pan == some p) then s.retirePan p (s.panAt p).lastFault else s) s

/-- Step 4 of the boundary: the sluice completes the role moves (R26, R100, R102, R106). Outputs held in the window that
ended are released, except of a role whose new pan is still being loaded. -/
def State.completeMoves (s : State) : State :=
  if s.sluice.frozen then s
  else
    let s := (List.range 40).foldl State.applyMove s
    let s := s.sluice.arbs.foldl State.arbStep s
    let s := s.retireHalted
    let s := { s with slot := s.slot.map fun (x : RoleSlot) => { x with held := match x.pan with
                        | some p => (s.panAt p).st == PanState.halted
                        | none => false } }
    s.checkSpares

/-- The moves of the anchored roles, which a lane switchover gap does not hold up (R106). -/
def State.anchoredMoves (s : State) : State :=
  if s.sluice.frozen then s
  else
    let s := [34, 35, 36].foldl State.applyMove s
    (s.sluice.arbs.filter fun a => 34 ≤ a.slot && a.slot ≤ 36).foldl State.arbStep s

/-- The role that each of the spares `sp` shadows in a window (R97): the i-th available spare takes place r s + i of the
active slots. -/
def State.shadowPlan (s : State) (sp : List Nat) : List (Nat × Nat) :=
  let l := s.activeSlots
  let av := s.spares
  (av.zipIdx.filter fun (p, _) => sp.contains p).map fun (p, i) =>
    (p, l.getD ((s.sluice.rotation * av.length + i) % l.length) 0)

/-- The shadow runs of the window that opens (R97, R99): `admitted` are the spares the governor lets run. -/
def State.startShadows (s : State) (go : Bool) (spares : List Nat) : State :=
  let arb := s.sluice.arbs
  let s := { s with
    pan := s.pan.zipIdx.map fun (x, p) =>
      if x.st == PanState.shadowing && !arb.any (fun a => a.orig == p || a.shadow == p) then
        { x with st := .spareIdle, shadowOf := none, queue := [] } else x
    slot := s.slot.zipIdx.map fun (x, k) => if s.activeSlots.contains k then { x with unshadowed := x.unshadowed + (if s.power.st == PowerSt.watch then 10 else 1) } else x }
  if go && !s.sluice.frozen then
    let s' := (s.shadowPlan spares).foldl (fun s (p, k) =>
      s.modPan p fun x => { x with st := .shadowing, shadowOf := some k }) s
    { s' with sluice.rotation := s.sluice.rotation + 1 }
  else s

/-! ### Loading the array -/

/-- BIST starts on every pan that is not retired for good (R95, R105, R107): the map is dropped. -/
def State.startBist (s : State) : State :=
  { s with
    sluice.frozen := false, sluice.arbs := [], sluice.transitSuspended := false, sluice.rotation := 0, sluice.moves := 0
    sluice.sparesLowSent := false
    slot := s.slot.map fun _ => {}
    pan := s.pan.map fun (x : Pan) =>
      if x.st == .retired && 3 ≤ x.retireCount then x
      else { x with st := PanState.bist, role := 0xFE, shadowOf := none, loadFor := none, withheld := false
                    recipe := none, sat := false, ufl := false, accSat := false, flagRun := 0,
                    sig := 0, inArb := false, queue := [] }
    ckpt := {} }

/-- Each active role slot is given to its own pan when that pan is a healthy spare, and each remaining one, in ascending
order, to the lowest healthy pan that holds no role (R95). -/
def State.assignRoles (s : State) : State :=
  let s := s.activeSlots.foldl (fun s k =>
    if (s.slotAt k).pan.isNone && !(s.slotAt k).lost && (s.panAt k).available then s.giveRole k k .active else s) s
  let s := s.activeSlots.foldl (fun s k =>
    if (s.slotAt k).pan.isNone && !(s.slotAt k).lost && !(s.slotAt k).suspended then
      match s.spares with
      | p :: _ => s.giveRole k p .active
      | [] => s.noSpare k
    else s) s
  s.checkSpares

/-- The commit frame of CELL_COUNT (R94): cell pans above N join the spare pool, and slots that become active find their
pans. -/
def State.fitRoles (s : State) : State :=
  let s := (List.range 32).foldl (fun s k =>
    if s.activeSlots.contains k then s
    else
      let s := match (s.slotAt k).pan with
        | some p => if (s.panAt p).serving then s.toPool p else s
        | none => s
      s.modSlot k fun _ => {}) s
  let gone := fun (a : Arb) => !s.activeSlots.contains a.slot
  let s := (s.sluice.arbs.filter gone).foldl (fun s a => [a.orig, a.shadow].foldl (fun s p =>
    if (s.panAt p).inArb then s.toPool p else s) s) s
  let s := { s with
    sluice.arbs := s.sluice.arbs.filter fun a => !gone a
    pan := s.pan.map fun (x : Pan) => match x.loadFor with
      | some k => if s.activeSlots.contains k then x else { x with loadFor := none }
      | none => x }
  if s.sluice.frozen then s else s.assignRoles

/-! ### The NVM write port -/

/-- The waiting requests of pans in grant order: class, then pan number. -/
def nvmBest (l : List NvmReq) : Option NvmReq :=
  l.foldl (fun b r => match b with
    | none => some r
    | some x => if r.cls < x.cls || (r.cls == x.cls && r.pan < x.pan) then some r else b) none

/-- The next grant of the NVM write port (R108). -/
def State.nvmGrant (s : State) : State :=
  let lane := s.nvm.waiting.find? (·.lane)
  let pan := nvmBest (s.nvm.waiting.filter fun r => !r.lane)
  let pick := match lane, pan with
    | some l, some p => if s.nvm.lastLane then some p else some l
    | some l, none => some l
    | none, p => p
  match pick with
  | none => { s with nvm.busy := none }
  | some r => { s with nvm.busy := some r, nvm.waiting := s.nvm.waiting.erase r, nvm.lastLane := r.lane }

/-- NVM_TRANSFER_COMPLETE (R108): a grant lasts one 64-byte transfer; a longer write asks again. -/
def execNvmTransferComplete (s : State) : Host.Outcome State Fault Refusal :=
  .next (match s.nvm.busy with
    | none => s
    | some r =>
      let rest := if 1 < r.left then [{ r with left := r.left - 1 }] else []
      { s with nvm.busy := none, nvm.waiting := rest ++ s.nvm.waiting }.nvmGrant)

end Sys2Proof.Machine
end

