-- ==== Sys2Proof/Machine/Table.lean ====
section
/-!
DEFINITION. The chemistry model table (08_chemistry_model_table.md): blocks and banks, validation, activation, slices and
their interpolation, the integrity check, and the opcodes TABLE_WRITE and TABLE_READ. A lane's SRAM copy holds what its
bank holds (log entry 9).
-/

namespace Sys2Proof.Machine

/-! ### Banks and entries -/

/-- The physical bank that is active. -/
def State.activeTable (s : State) : TableBank := s.tbl.banks.getD s.tbl.activeBank {}

/-- `s` with the staged bank changed. -/
def State.modStaged (s : State) (f : TableBank → TableBank) : State :=
  { s with tbl.banks := s.tbl.banks.modify (1 - s.tbl.activeBank) f }

/-- Word `i` of block `b` of the active table: a bank that no block was stored in holds the placeholder table (R212). -/
def tableWordAt (k : TableBank) (b i : Nat) : Word :=
  match k.blocks.getD b none with
  | some ws => ws.getD i 0
  | none => Config.placeholder b i

/-- Entry (q, t, s) of a table (R200). -/
def tableEntry (k : TableBank) (q t i : Nat) : Single :=
  let n := 2048 * q + 128 * t + i
  Single.ofWord (tableWordAt k (n / 256) (n % 256))

/-- Bytes 0 to 1,031 of a table block with BANK 0x00 (Table 8.2). -/
def blockBytes (b : Nat) (tag : Word) (ws : List Word) : List Byte :=
  toLe 1 b ++ zeros 3 ++ w32 tag ++ ws.flatMap w32

/-! ### Validation -/

/-- Normalised or zero (R87). -/
def Single.normal (x : Single) : Bool :=
  (decide (4194304 ≤ x.mant.natAbs ∧ x.mant.natAbs < 8388608) || x.mant == -8388608) || (x.mant == 0 && x.exp == -128)

/-- Valid ranges (Table 8.1). -/
def inRange8 (q : Nat) (v : Rat) : Bool :=
  match q with
  | 0 | 1 => decide (1 / 2 ≤ v) && decide (v ≤ 5)
  | 2 | 3 | 5 => decide (1 / 1000000 ≤ v) && decide (v ≤ 1)
  | 4 | 6 => decide (1 ≤ v) && decide (v ≤ 10000000)
  | _ => decide (-5 / 1000 ≤ v) && decide (v ≤ 5 / 1000)

/-- The first check of Table 8.4 that entry (q, t, i) fails, 0 for none. A check over several entries fails at the one
of highest index (log entry 19). -/
def entryReject (k : TableBank) (q t i : Nat) : Nat :=
  let e := fun q i => (tableEntry k q t i).val
  let v := e q i
  if !(tableEntry k q t i).normal then 1
  else if !inRange8 q v then 2
  else if q = 1 ∧ e 0 i < v then 3
  else if q ≤ 1 ∧ 0 < i ∧ v < e q (i - 1) then 4
  else if q = 4 ∧ ¬(1 / 100 ≤ e 3 i * v ∧ e 3 i * v ≤ 100) then 5
  else if q = 6 ∧ ¬(1 ≤ e 5 i * v ∧ e 5 i * v ≤ 10000 ∧ e 3 i * e 4 i < e 5 i * v) then 5
  else 0

/-- The first failing entry from index `n` on, at most `fuel` entries (R209). -/
def firstReject (k : TableBank) : Nat → Nat → Option (Nat × Nat)
  | 0, _ => none
  | fuel + 1, n =>
    match entryReject k (n / 2048) (n / 128 % 16) (n % 128) with
    | 0 => firstReject k fuel (n + 1)
    | c => some (c, n)

/-- TABLE_VALIDATION_COMPLETE (R208, R209). -/
def execTableValidationComplete (s : State) : Host.Outcome State Fault Refusal :=
  .next (if s.tbl.staged = .validating then
    match firstReject s.stagedBank 16384 0 with
    | none => { s with tbl.staged := .ready, tbl.reject := 0, tbl.rejectEntry := 0 }
    | some (c, n) => { s with tbl.staged := .rejected, tbl.reject := c, tbl.rejectEntry := n }
  else s)

/-! ### Slices -/

/-- The number of the segment of `xs` that contains `x`: the last one whose left end is not above it (R202). -/
def segOf (xs : List Rat) (x : Rat) : Nat := min (xs.length - 2) ((xs.takeWhile fun b => b ≤ x).length - 1)

/-- Interpolation between breakpoints, held beyond the ends. -/
def interp (xs ys : List Rat) (x : Rat) : Rat :=
  let i := segOf xs x
  let x0 := xs.getD i 0
  let x1 := xs.getD (i + 1) 0
  let y0 := ys.getD i 0
  let y1 := ys.getD (i + 1) 0
  if x ≤ x0 then y0 else if x1 ≤ x then y1 else y0 + (y1 - y0) * (x - x0) / (x1 - x0)

/-- Slope of the segment that contains `x`. -/
def slopeAt (xs ys : List Rat) (x : Rat) : Rat :=
  let i := segOf xs x
  (ys.getD (i + 1) 0 - ys.getD i 0) / (xs.getD (i + 1) 0 - xs.getD i 0)

/-- A quantity of the table at temperature `t` (0.01 C) and SoC breakpoint `i` (R203). -/
def State.tableAt (s : State) (q : Nat) (t : Rat) (i : Nat) : Rat :=
  let k := s.activeTable
  let bp : List Rat := (s.paramVals P.cmtTBp).map fun v => (v : Rat)
  let r := segOf bp t
  let lo := bp.getD r 0
  let hi := bp.getD (r + 1) 0
  let w := clampRat 0 1 ((t - lo) / (hi - lo))
  let x := fun q r => (tableEntry k q r i).val
  if q ≤ 1 then
    let tt := clampRat (bp.getD 0 0 - 1000) (bp.getD 15 0 + 1000) t
    (1 - w) * (x q r + x 7 r * (tt - lo) / 100) + w * (x q (r + 1) + x 7 (r + 1) * (tt - hi) / 100)
  else (1 - w) * x q r + w * x q (r + 1)

/-- The slice of a cell at temperature `t`, 0.01 C (R204). -/
def State.buildSlice (s : State) (t : Int) : Slice :=
  { temp := t, tag := s.activeTable.tag, bp := s.paramVals P.cmtSocBp
    vals := (List.range 7).flatMap fun q => (List.range 128).map fun i => Single.ofRat (s.tableAt q (t : Rat) i) }

/-- SoC breakpoints of a slice as fractions. -/
def Slice.xs (x : Slice) : List Rat := x.bp.map fun v => (v : Rat) / 10000

/-- Quantity `q` of a slice at its breakpoints. -/
def Slice.ys (x : Slice) (q : Nat) : List Rat := ((x.vals.drop (128 * q)).take 128).map Single.val

/-- Quantity `q` at `soc` (R202). -/
def Slice.get (x : Slice) (q : Nat) (soc : Rat) : Rat := interp x.xs (x.ys q) soc

/-- The slice of cell `n`. -/
def State.sliceAt (s : State) (n : Nat) : Slice := s.tbl.slices.getD (n - 1) {}

/-- A cell's slice is to be rebuilt (R204); not while TABLE_FAULT stands (R214). -/
def State.wantSlice (s : State) (n : Nat) : State :=
  if s.tbl.fault || s.tbl.rebuild.contains n then s else { s with tbl.rebuild := s.tbl.rebuild ++ [n] }

/-- The cell's temperature has moved more than 0.25 C from its slice's (R204). -/
def State.sliceStale (s : State) (n : Nat) : Bool :=
  decide (25 < ((s.estAt n).tUsed - (s.sliceAt n).temp).natAbs)

/-- SLICE_WRITE_COMPLETE (R204, R211): the new slice is used from the next boundary on. -/
def execSliceWriteComplete (cell : Nat) (s : State) : Host.Outcome State Fault Refusal :=
  if cellOk cell then
    .next (if s.tbl.rebuild.contains cell ∧ s.tbl.fault = false then
      { s with
        tbl.rebuild := s.tbl.rebuild.erase cell
        tbl.sliceNext := (cell, s.buildSlice (s.estAt cell).tUsed) :: s.tbl.sliceNext.filter fun e => e.1 != cell }
      else s)
  else .fault .noSuchUnit

/-- At a boundary the slices written since the last one come into use, and SWITCHING clears with the last (R204, R211). -/
def State.takeSlices (s : State) : State :=
  let s := { s with
    tbl.slices := s.tbl.sliceNext.foldl (fun l e => setAt l (e.1 - 1) e.2) s.tbl.slices
    tbl.sliceNext := [] }
  if s.tbl.rebuild = [] then { s with tbl.switching := false } else s

/-- The slice of cell `n` is written in the load of its pan. -/
def State.loadSlice (s : State) (n : Nat) : State :=
  { s with
    tbl.slices := setAt s.tbl.slices (n - 1) (s.buildSlice (s.estAt n).tUsed)
    tbl.rebuild := s.tbl.rebuild.erase n
    tbl.sliceNext := s.tbl.sliceNext.filter fun e => e.1 != n }

/-- The slices of a cell role are written in the load of its pan, at the present temperatures (R204, R205); not while
TABLE_FAULT stands (R214), and a cell without a slice waits for its own write. -/
def State.reloadSlices (s : State) (k : Nat) : State :=
  if s.tbl.fault then s
  else (s.slotCells k).foldl (fun s n => if (s.sliceAt n).vals = [] then s else s.loadSlice n) s

/-- After DOZE the slices of each gated pan are written with its recipe (R205), but not while TABLE_FAULT stands (R214). -/
def State.rewriteSlices (s : State) (k : Nat) : State :=
  if s.tbl.fault then s else (s.slotCells k).foldl State.loadSlice s

/-- Every slice is lost with the memory of its pan (16 R382). -/
def State.dropSlices (s : State) : State := { s with tbl.slices := List.replicate 96 {}, tbl.sliceNext := [], tbl.rebuild := [] }

/-- The slices of all cells are to be built, as their pans are loaded at a start (R204); not while TABLE_FAULT stands (R214). -/
def State.wantSlices (s : State) : State :=
  (List.range s.cells).foldl (fun s i => s.wantSlice (i + 1)) { s with tbl.rebuild := [] }

/-! ### Activation -/

/-- A COMMIT includes the staged bank: READY, and the mode is SERVICE (R210). -/
def State.tableInCommit (s : State) : Bool := s.tbl.staged == .ready && s.grid.mode == .service

/-- The banks swap (R210, R211): the former active bank is EMPTY, its words staying in the memory until they are written
over (R207), and every slice is rebuilt. -/
def State.activateTable (s : State) : State :=
  let old := s.tbl.activeBank
  { s with
    tbl.activeBank := 1 - old
    tbl.staged := .empty, tbl.stagedTag := 0, tbl.reject := 0, tbl.rejectEntry := 0, tbl.fault := false
    tbl.switching := true
    lane := s.lane.map fun (l : Lane) => { l with tblIdx := 0 }
    tbl.rebuild := (List.range 96).map (· + 1) |>.filter fun n => n ≤ s.cells
    tbl.sliceNext := [] }

/-- DISCARD drops the staged bank to EMPTY (R210); a block still being written ends with it. -/
def State.discardTable (s : State) : State :=
  let w := s.tbl.writing
  let s := (s.modStaged fun _ => {})
  let s := { s with tbl.staged := .empty, tbl.stagedTag := 0, tbl.reject := 0, tbl.rejectEntry := 0, tbl.writing := [] }
  w.foldl (fun s x => s.complete x.cmd .superseded 0 0 0 (toLe 1 x.block)) s

/-! ### Integrity -/

/-- TABLE_BLOCK_CHECK (R214), of the lane in charge or of the standby lane: a block of the lane's SRAM copy that fails is
reloaded; one whose non-volatile block fails sets TABLE_FAULT and stops the rebuilding of slices. -/
def execTableBlockCheck (standby : Bool) (found : BlockCheck) (s : State) : Host.Outcome State Fault Refusal :=
  let who := if standby then 1 - s.laneNo else s.laneNo
  let b := (s.laneAt (who == 1)).tblIdx
  let s := s.modLane (who == 1) fun l => { l with tblIdx := (b + 1) % 64 }
  .next (if found.nvmOk = false then
      if s.tbl.fault then s else { s with tbl.fault := true }.notify 0x11 (toLe 1 b)
    else if found.sramOk then s else s.absorb 8 1 who 0 (toLe 1 b))

/-! ### TABLE_WRITE and TABLE_READ -/

/-- A block is accepted (R208): another tag drops every other block, one still being written among them (log entry 90); the
block's own place is empty until it is stored. -/
def State.acceptBlock (s : State) (h : Hdr) (b : Nat) (tag : Word) (ws : List Word) (crc : Word) : State :=
  let fresh := s.tbl.staged == .empty || s.tbl.stagedTag != tag
  let s := s.modStaged fun k =>
    if fresh then { tag := tag, blocks := List.replicate 64 none, crcs := List.replicate 64 0 }
    else { k with blocks := setAt k.blocks b none }
  let dropped := if fresh then s.tbl.writing else []
  let w : TblWrite := { block := b, tag := tag, words := ws, crc := crc, cmd := hdrRef h 0x14 true }
  let s := { s with
    tbl.staged := .loading, tbl.stagedTag := tag, tbl.reject := 0, tbl.rejectEntry := 0
    tbl.writing := (if fresh then [] else s.tbl.writing) ++ [w] }
  (dropped.foldl (fun s x => s.complete x.cmd .superseded 0 0 0 (toLe 1 x.block)) s).nvmAsk { lane := true, left := 17 }

/-- TABLE_WRITE (R206, R208). Storing a block and its CRC takes 17 transfers of the NVM port, longer than R27 allows a
reply, so the answer is DEFERRED (log entry 20). -/
def opTableWrite (h : Hdr) (p : List Byte) (s : State) : Ans :=
  let b := (getB p 0).toNat
  if 63 < b ∨ getB p 1 ≠ 0 then fail s .outOfRange
  else if s.tbl.staged = .validating then fail s .busy
  else
    let tag : Word := BitVec.ofNat 32 (getU p 4 4)
    let crc : Word := BitVec.ofNat 32 (getU p 1032 4)
    if crc32c (p.take 1032) ≠ crc then fail s .badCrc
    else
      let ws : List Word := (List.range 256).map fun i => BitVec.ofNat 32 (getU p (8 + 4 * i) 4)
      { st := .deferred, claims := [.tableBlock b], s := s.acceptBlock h b tag ws crc }

/-- A block has been stored with its CRC and read back (R207, R208): VALIDATING with the 64th distinct block. -/
def State.blockStored (s : State) (w : TblWrite) : State :=
  let again := s.tbl.writing.any (·.block == w.block)
  let s := s.modStaged fun k =>
    { k with blocks := setAt k.blocks w.block (if again then none else some w.words), crcs := setAt k.crcs w.block w.crc }
  let s := if s.blocksWritten = 64 then { s with tbl.staged := .validating } else s
  s.complete w.cmd .ok 0 0 0 (toLe 1 w.block)

/-- TABLE_BLOCK_STORED (R207, R208): a readback that fails twice ends the write with INTERNAL. -/
def execTableBlockStored (readbackOk : Bool) (s : State) : Host.Outcome State Fault Refusal :=
  .next (match s.tbl.writing with
    | [] => s
    | w :: rest =>
      if readbackOk then { s with tbl.writing := rest }.blockStored w
      else if w.tries = 0 then { s with tbl.writing := { w with tries := 1 } :: rest }
      else { s with tbl.writing := rest }.complete w.cmd .internal 0 0 0 (toLe 1 w.block))

/-- `n` free words: the entries of a staged block that is not stored, which the spec does not give. -/
def State.drawWords : Nat → State → List Word × State
  | 0, s => ([], s)
  | n + 1, s =>
    let (v, s) := s.draw
    let (l, s) := State.drawWords n s
    (v.setWidth 32 :: l, s)

/-- TABLE_READ (R206, R208). -/
def opTableRead (_h : Hdr) (p : List Byte) (s : State) : Ans :=
  let b := (getB p 0).toNat
  let staged := getB p 1 == 0
  if staged ∧ s.tbl.staged = .empty then fail s .wrongState
  else if 63 < b ∨ 1 < (getB p 1).toNat then fail s .outOfRange
  else
    let k := if staged then s.stagedBank else s.activeTable
    let (ws, crc, s) := match k.blocks.getD b none with
      | some ws => (ws, k.crcs.getD b 0, s)
      | none =>
        let (ws, s) := if staged then s.drawWords 256 else ((List.range 256).map fun i => Config.placeholder b i, s)
        (ws, crc32c (blockBytes b k.tag ws), s)
    okAns s (toLe 1 b ++ toLe 1 (getB p 1).toNat ++ (blockBytes b k.tag ws).drop 2 ++ w32 crc)

/-- TABLE_WRITE. -/
def execTableWrite (h : Hdr) (p : List Byte) (s : State) : Host.Outcome State Fault Refusal :=
  .next (runCmd 0x14 opTableWrite h p s)

/-- TABLE_READ. -/
def execTableRead (h : Hdr) (p : List Byte) (s : State) : Host.Outcome State Fault Refusal :=
  .next (runCmd 0x15 opTableRead h p s)

end Sys2Proof.Machine
end

