-- ==== Sys2Proof/Machine/FrontEnd.lean ====
section
/-!
DEFINITION. Cell taps and front ends (02_cell_taps_and_front_ends.md): the port packets, the back channel, relinks and
supplies, and the jobs that turn a sample into a cell voltage: scaling with lead correction, the open-wire step, the
lead-resistance measurement and the strap check.
-/

namespace Sys2Proof.Machine

/-! ### Cells, front ends and taps -/

/-- Front end of a cell, 1 to 6. -/
def feOfCell (n : Nat) : Nat := (n - 1) / 16 + 1
/-- Local channel of a cell, from 0. -/
def localOf (n : Nat) : Nat := (n - 1) % 16
/-- The place of tap `k` in the tap list; tap 48 as 48L (R34). -/
def tapIdx (k : Nat) : Nat := if k ≤ 48 then k else k + 1
/-- The place of 48H. -/
def tap48H : Nat := 49
/-- Place of the upper lead of cell `n`; of its lower lead (R56). -/
def upperTap (n : Nat) : Nat := tapIdx n
/-- Place of the lower lead of cell `n`. -/
def lowerTap (n : Nat) : Nat := if n = 49 then tap48H else tapIdx (n - 1)
/-- The tap number of a place in the tap list. -/
def tapOf (i : Nat) : Nat := if i ≤ 48 then i else i - 1
/-- The cells beside a tap lead, within 1 to N (R51). -/
def State.tapCells (s : State) (i : Nat) : List Nat :=
  let k := tapOf i
  (if i = 48 then [48] else if i = tap48H then [49] else [k, k + 1]).filter fun n => 1 ≤ n && n ≤ s.cells
/-- The leads that no neighbour's current crosses: tap 0, tap N, 48L and 48H (R55). -/
def State.edgeTap (s : State) (i : Nat) : Bool := i == 0 || i == 48 || i == tap48H || tapOf i ≥ s.cells
/-- Frames between the strobe that opened the present frame and the sample of the running window; a port buffer holds four
frames at most. -/
def State.sampleLag (s : State) : Nat := min 4 (s.grid.frame - s.sched.stamp).toNat

/-- Resistance of a lead in uOhm, and whether the figure is fresh at the sample of the running window (R54, R55). -/
def State.leadR (s : State) (i : Nat) : Rat × Bool :=
  if s.edgeTap i then (s.pr P.leadREdge * 10, true)
  else
    let t := s.tapAt i
    ((t.rl : Rat), t.rlKnown && decide (t.rlAge ≤ 100000 + s.sampleLag))

/-- Active cells of front end `k` (R39). -/
def State.feCells (s : State) (k : Nat) : Nat := min 16 (s.cells - 16 * (k - 1))

/-! ### Frame packets -/

/-- The 16 codes of SAMPLE. -/
def feCodes (bs : List Byte) : List Int := (List.range 16).map fun i => getS bs (4 + 3 * i) 3

/-- The four values of SW_CURRENT. -/
def feCurrents (bs : List Byte) : List Nat := (List.range 4).map fun i => getU bs 60 6 / 4096 ^ i % 4096

/-- A frame packet of front end `fe` for the sample `stamp` (Table 2.2, R59). -/
def feGood (fe : Nat) (stamp : Word) (bs : List Byte) : Bool :=
  bs.length == 72 && getB bs 0 == 0x5A && (getB bs 1).toNat == fe && getU bs 2 2 == stamp.toNat % 65536 && crcGood 68 bs

/-- The sample a good packet carries. -/
def feSampleOf (stamp : Word) (bs : List Byte) (lo hi : BitVec 16) : FeSample :=
  { stamp := stamp, codes := feCodes bs, ov := BitVec.ofNat 16 (getU bs 52 2), uv := BitVec.ofNat 16 (getU bs 54 2)
    sw := BitVec.ofNat 16 (getU bs 56 2), swCond := getB bs 58, status := getB bs 59, swCur := feCurrents bs
    modFault := BitVec.ofNat 16 (getU bs 66 2), clipLo := lo, clipHi := hi }

/-- Stamps of the samples that wait in a port buffer for their window, oldest first (05 R131). -/
def State.waitingOf (s : State) (l : List Word) : List Word := l.filter fun t => !(s.sched.windowOpen && t == s.sched.stamp)

/-- Samples that wait in the port buffer of a front end (05 R131). -/
def State.waitingIn (s : State) (f : Fe) : Nat := (s.waitingOf (f.buf.map (·.stamp))).length

/-- Stamps of frame samples in the port buffers that are later than the last window's. -/
def State.waitingStamps (s : State) : List Word :=
  ((((List.range 6).filter fun i => s.feActive (i + 1)).flatMap fun i => (s.feAt (i + 1)).buf.map (·.stamp)) ++
    s.cfe.buf.map (·.stamp)).filter fun t => frameLater t s.sched.stamp

/-- Frame samples that have arrived and on which no window has opened (05 R131). -/
def State.backlogNow (s : State) : Nat := min 3 s.waitingStamps.eraseDups.length

/-- An arrival inside a tail window counts for the largest backlog of the tail (05 R135). -/
def State.noteBacklog (s : State) : State :=
  if s.sched.inTail && s.sched.windowOpen then { s with sched.maxBacklog := max s.sched.maxBacklog s.backlogNow } else s

/-- A sample whose window does not open: the cells repeat with HELD set (05 R134). -/
def holdChan (stamp : Word) (c : Chan) : Chan :=
  let last : Smp := c.hist.headD {}
  { c with
    status := if c.status.getLsbD 15 then c.status else setBit c.status 14 true
    hist := ({ last with stamp := stamp, held := true, curNew := false } :: c.hist).take 24 }

/-- R134: a sample that arrives while three are waiting discards the oldest waiting sample on every port, the CFE's
included; the next window counts the one that does not open (R113). `l` holds the stamps in the port buffer that is full. -/
def State.discardSample (s : State) (l : List Word) : State :=
  match s.waitingOf l with
  | [] => s
  | t :: _ =>
    let s := { s with
      fe := s.fe.map fun (g : Fe) => { g with buf := g.buf.filter fun y => y.stamp != t }
      cfe.buf := s.cfe.buf.filter fun y => y.stamp != t
      chan := s.chan.zipIdx.map fun (c, i) => if i < s.cells then holdChan t c else c
      sched.discards := bump 0xFF s.sched.discards, sched.discarded := true
      sched.skipped := s.sched.skipped + 1 }
    s.absorb 5 3 0xFF 0 (w32 t)

/-- Values of SW_CURRENT with their place, the lowest switch of four being 4j+1 (Table 2.2). -/
def State.takeCurrents (s : State) (fe : Nat) (x : FeSample) : State :=
  x.swCur.zipIdx.foldl (fun s (v, i) =>
    s.modChan (16 * (fe - 1) + 4 * (x.stamp.toNat % 4) + i + 1) fun c => { c with swCur := v, swCurFrame := x.stamp }) s

/-- The highest reports of a die within 100,000 frames (05 R124): a report makes every older one that is no higher
superfluous. -/
def State.noteImax (s : State) (fe : Nat) (x : FeSample) : State :=
  let v := x.swCur.foldl max 0
  if v = 0 then s
  else { s with gov.feImax := s.gov.feImax.modify (fe - 1) fun l =>
      (v, s.grid.validFrames) :: l.filter fun e => v < e.1 && s.grid.validFrames < e.2 + 100000 }

/-- The supply and error bits of a good packet, with the absorbed events of Table 2.12. BC_ERR of the packet is counted
here; the die's own flag is `bcErr`. -/
def State.noteStatus (s : State) (fe : Nat) (x : FeSample) : State :=
  let f := s.feAt fe
  let aux := x.status.getLsbD 6
  let stk := x.status.getLsbD 5
  let bc := x.swCond.getLsbD 5
  let edge := x.swCond.getLsbD 6
  let frames := (if bc then x.stamp :: f.bcErrFrames else f.bcErrFrames).filter fun t => (x.stamp - t).toNat < 100
  let burst := bc && 3 ≤ frames.length
  let s := s.modFe fe fun f =>
    { f with supplyStack := x.status.getLsbD 7, auxSupplyFail := aux, stackSupplyFail := stk
             tsdActive := x.swCond.getLsbD 7, tsdEdge := edge, bcErrFrames := if burst then [] else frames }
  let s := if aux && !f.auxSupplyFail then s.absorb 1 3 fe 0 [] else s
  let s := if stk && !f.stackSupplyFail then s.absorb 1 4 fe 0 [] else s
  let s := if burst then s.absorb 1 6 fe 0 [] else s
  if edge then
    { s with gov.feTj := setAt s.gov.feTj (fe - 1) (s.pr P.feTjLimit), gov.feTjStart := setAt s.gov.feTjStart (fe - 1) false
             gov.feTjOver := setAt s.gov.feTjOver (fe - 1) true }.absorb 5 4 fe 0 []
  else s

/-- CELL of a capture of OV or UV: the lowest cell that the die's packet of the frame of capture shows, or that of the
next frame when none is set there (10 R247). -/
def State.nameCells (s : State) (fe : Nat) (x : FeSample) : State :=
  let low := fun (m : BitVec 16) => ((List.range 16).find? fun i => m.getLsbD i).map (16 * (fe - 1) + · + 1)
  { s with prot.fifo := s.prot.fifo.map fun (e : CapEntry) =>
      if e.die = fe ∧ e.cell = 0 ∧ (e.kind = 1 ∧ (e.cause = 1 ∨ e.cause = 2)) ∧ (x.stamp = e.frame ∨ x.stamp = e.frame + 1) then
        { e with cell := (low (if e.cause = 1 then x.ov else x.uv)).getD 0 }
      else e }

/-- A relink of a port begins (R59 to R61). -/
def State.startRelink (s : State) (fe : Nat) : State :=
  s.modFe fe fun f => { f with linkUp := false, relinking := true, relinkTries := 0, attempt := true }

/-- A good frame packet; one that comes before the second full frame after alignment is not reported (R61). -/
def State.goodPacket (s : State) (fe : Nat) (x : FeSample) : State :=
  let f := s.feAt fe
  let s := if 1 ≤ f.badRun && f.badRun ≤ 3 then s.absorb 1 1 fe 0 (toLe 1 f.badRun) else s
  let x' := if 0 < f.skipSamples then { x with bad := true } else x
  let s := s.modFe fe fun f => { f with badRun := 0, heldRun := 0, skipSamples := f.skipSamples - 1, buf := f.buf ++ [x'] }
  (((s.noteStatus fe x).takeCurrents fe x).noteImax fe x).nameCells fe x

/-- A bad or missing packet (R59): held for three frames, invalid with a relink from the fourth on. DESIGN CHOICE (log
entry 77): the switch states that count for the frame in the corrections of R56 are those of the sample before it in the
port buffer, none conducting where there is none. -/
def State.badPacket (s : State) (fe : Nat) (stamp : Word) : State :=
  let f := s.feAt fe
  let run := f.badRun + 1
  let x : FeSample := { f.buf.getLastD {} with stamp := stamp, held := true, bad := 4 ≤ run }
  let s := s.modFe fe fun f =>
    { f with badRun := run, heldRun := satTo 3 run, crcErrors := bump 0xFFFF f.crcErrors, buf := f.buf ++ [x] }
  if 4 ≤ run then s.startRelink fe else s

/-- FE_FRAME_PACKET (R40, R59, 05 R131, R134). A port that is down, relinking, lost or powered down delivers none. -/
def State.framePacket (s : State) (fe : Nat) (bs : List Byte) (lo hi : BitVec 16) : State :=
  let f := s.feAt fe
  if !s.feActive fe || !f.linkUp || f.lost then s
  else
    let stamp := s.grid.frame - 1
    let s := if 3 ≤ s.waitingIn f then s.discardSample (f.buf.map (·.stamp)) else s
    (if feGood fe stamp bs then s.goodPacket fe (feSampleOf stamp bs lo hi) else s.badPacket fe stamp).noteBacklog

/-- FE_FRAME_PACKET. -/
def execFeFramePacket (fe : Nat) (bytes : List Byte) (clipLo clipHi : BitVec 16) (s : State) :
    Host.Outcome State Fault Refusal :=
  if feOk fe then .next (s.framePacket fe bytes clipLo clipHi) else .fault .noSuchUnit

/-! ### The back channel -/

/-- The newest decision for a strobe not later than `f`. -/
def pickDec {α : Type} (f : Word) (l : List (Word × α)) : Option α :=
  (l.find? fun e => !frameLater e.1 f).map (·.2)

/-- Decisions still to come after those for strobes up to `f`. -/
def laterDec {α : Type} (f : Word) (l : List (Word × α)) : List (Word × α) := l.filter fun e => frameLater e.1 f

/-- The protection set as the next strobe has it (01 R29). -/
def State.strobeSet (s : State) : ThrSet :=
  match s.prot.setPending with
  | some p => if s.prot.setAge ≤ 1 then p else s.prot.set
  | none => s.prot.set

/-- BACK_CHANNEL_CUTOFF (R41, 05 R132): the message for the next strobe carries the newest switch pattern completed and the
open-wire step completed for that strobe; with none, or in a switchover gap (14 Table 14.3), the previous pattern and no
test current, and in the protection-only state all switches open (14 R348). The whole protection set goes with it, the
CFE's thresholds included (10 R246), as the strobe that the message is for has it (01 R29). -/
def State.cutoff (s : State) : State :=
  let strobe := s.grid.frame + 1
  let set := s.strobeSet
  let write := !(s.prot.imageBad || s.lanes.protOnly)
  { s with
    grid.cutDone := true
    cfe.ocNext := if write then some (set.ocChg, set.ocDis) else none
    fe := s.fe.map fun (f : Fe) =>
      { f with
        swNext := if s.lanes.protOnly then 0 else if s.laneRuns then (pickDec strobe f.swDec).getD f.swNow else f.swNow
        owNext := if s.laneRuns then ((f.owDec.find? fun e => e.1 == strobe).map (·.2)).getD none else none
        swDec := laterDec strobe f.swDec, owDec := laterDec strobe f.owDec
        bcErrNext := false, thrNext := if write then some set else none } }

/-- BACK_CHANNEL_CUTOFF. -/
def execBackChannelCutoff (s : State) : Host.Outcome State Fault Refusal := .next s.cutoff

/-- BACK_CHANNEL_MESSAGE (R41): without a valid message a die opens its switches, applies no test current, keeps its
thresholds and sets BC_ERR for the frame; the CFE keeps its thresholds. -/
def execBackChannelMessage (fe : Nat) (ok : Bool) (s : State) : Host.Outcome State Fault Refusal :=
  if portNoOk fe then
    .next (if ok then s
      else if fe = 7 then { s with cfe.ocNext := none }
      else s.modFe fe fun f => { f with swNext := 0, owNext := none, thrNext := none, bcErrNext := true })
  else .fault .noSuchUnit

/-! ### Links -/

/-- A relink of the CFE port begins (03 R73): its current and string voltage are invalid, its control samples missing (03
R66), and zero tracking starts afresh (03 R70). A CFE declared lost is relinked no more. -/
def State.cfeRelink (s : State) : State :=
  { s with cfe.linkUp := false, cfe.relinking := !s.cfe.lost, cfe.attempt := !s.cfe.lost, cfe.relinkTries := 0
           cfe.iHeld := false, cfe.iInvalid := true, cfe.vstrInvalid := true, cfe.ctlMissing := true
           cfe.zeroHold := 0, cfe.zeroSum := 0, cfe.zeroN := 0 }

/-- PORT_LINE_DOWN (R60, 03 R66): no symbol, or no edge on the fault channel, for 50 us. -/
def execPortLineDown (fe : Nat) (faultCh : Bool) (s : State) : Host.Outcome State Fault Refusal :=
  if portNoOk fe then
    .next (if fe = 7 then
        if s.pn P.cfeRole = 0 ∨ faultCh then s
        else { s.cfeRelink with cfe.lineDown := true, cfe.heldRun := 0 }
      else if !s.feActive fe then s
      else if faultCh then s.modFe fe fun f => { f with faultChDown := true }
      else
        let s := s.modFe fe fun f => { f with lineDown := true, linkUp := false, heldRun := 0 }
        if (s.feAt fe).lost then s else s.startRelink fe)
  else .fault .noSuchUnit

/-- FE_LINK_FAULT (R60): 200 us down without a break on an active front end; in DOZE the fault channels alone count, in
APHELION nothing does (10 R248). -/
def execFeLinkFault (fe : Nat) (s : State) : Host.Outcome State Fault Refusal :=
  if feOk fe then
    .next (if s.feActive fe && s.power.st != .aphelion &&
        ((s.feAt fe).lineDown && s.power.st != .doze || (s.feAt fe).faultChDown) then s.setCause 27 fe else s)
  else .fault .noSuchUnit

/-- FE_LINK is present no longer when no active front end has a line or channel down (R60). -/
def State.linksUp (s : State) : State :=
  if (List.range 6).any fun i => s.feActive (i + 1) && ((s.feAt (i + 1)).lineDown || (s.feAt (i + 1)).faultChDown) then s
  else s.withdrawCause 27

/-- A one-way delay inside the limits of R46. -/
def delayOk (d : Nat) : Bool := 50 ≤ d && d ≤ 400

/-- A relink attempt of a front end ends (R61, Table 2.12): a port that was relinked for bad packets records RELINK_OK. -/
def State.relinkEnd (s : State) (fe : Nat) (d : Option Nat) : State :=
  let f := s.feAt fe
  match d.filter delayOk with
  | some d =>
    let s := if 4 ≤ f.badRun then s.absorb 1 2 fe 0 [] else s
    (s.modFe fe fun f =>
      { f with linkUp := true, relinking := false, attempt := false, relinkTries := 0, delayNs := d, lineDown := false
               badRun := 0, heldRun := 0, skipSamples := 2 }).linksUp
  | none =>
    let s := s.modFe fe fun f => { f with attempt := false, relinkTries := f.relinkTries + 1, attemptAt := s.grid.frame }
    if 10 ≤ f.relinkTries + 1 then (s.modFe fe fun f => { f with relinking := false, lost := true }).notify 0x08 (toLe 1 fe)
    else s

/-- The same for the CFE (03 R73); its relink restarts zero tracking (03 R70). -/
def State.cfeRelinkEnd (s : State) (d : Option Nat) : State :=
  match d.filter delayOk with
  | some d =>
    let s := if 4 ≤ s.cfe.badRun then s.absorb 2 6 7 0 [] else s
    { s with cfe.linkUp := true, cfe.relinking := false, cfe.attempt := false, cfe.relinkTries := 0, cfe.delayNs := d
             cfe.lineDown := false, cfe.badRun := 0, cfe.heldRun := 0, cfe.skipSamples := 2, cfe.zeroHold := 0, cfe.zeroSum := 0
             cfe.zeroN := 0 }
  | none =>
    let s := { s with cfe.attempt := false, cfe.relinkTries := s.cfe.relinkTries + 1, cfe.attemptAt := s.grid.frame }
    if 10 ≤ s.cfe.relinkTries then { s with cfe.relinking := false, cfe.lost := true }.notify 0x08 (toLe 1 7) else s

/-- RELINK_ATTEMPT_END. -/
def execRelinkAttemptEnd (fe : Nat) (delayNs : Option Nat) (s : State) : Host.Outcome State Fault Refusal :=
  if portNoOk fe then
    .next (if fe = 7 then (if s.cfe.relinking && s.cfe.attempt then s.cfeRelinkEnd delayNs else s)
      else if (s.feAt fe).relinking && (s.feAt fe).attempt then s.relinkEnd fe delayNs else s)
  else .fault .noSuchUnit

/-- RELINK_RETRY (R61): 100 frames after a failed attempt. -/
def execRelinkRetry (fe : Nat) (s : State) : Host.Outcome State Fault Refusal :=
  if portNoOk fe then
    .next (if fe = 7 then
        { s with cfe.attempt := s.cfe.relinking && (s.cfe.attempt || decide (100 ≤ (s.grid.frame - s.cfe.attemptAt).toNat)) }
      else s.modFe fe fun f =>
        { f with attempt := f.relinking && (f.attempt || decide (100 ≤ (s.grid.frame - f.attemptAt).toNat)) })
  else .fault .noSuchUnit

/-- One re-measured delay (R46). -/
def State.measureDelay (s : State) (fe d : Nat) : State :=
  if fe = 7 then
    if !s.cfe.linkUp then s
    else if !delayOk d then s.cfeRelink
    else if 10 < ((d : Int) - s.cfe.delayNs).natAbs then { s with cfe.delayNext := some d } else s
  else if !(s.feAt fe).linkUp then s
  else if !delayOk d then s.startRelink fe
  else
    let far := decide (10 < ((d : Int) - (s.feAt fe).delayNs).natAbs)
    s.modFe fe fun f => { f with strobeAdj := far, delayNext := if far then some d else f.delayNext }

/-- STROBE_DELAY_MEASURE (R46), every 10,000 frames. -/
def execStrobeDelayMeasure (delays : List Nat) (s : State) : Host.Outcome State Fault Refusal :=
  if delays.length = 7 then .next (delays.zipIdx.foldl (fun s (d, i) => s.measureDelay (i + 1) d) s) else .fault .noSuchUnit

/-! ### Supplies -/

/-- A die without a stack fallback: fewer than four active cells, or a stack-derived supply that failed its test (R39). -/
def State.noRide (s : State) (fe : Nat) : Bool := decide (s.feCells fe < 4) || (s.feAt fe).stackSupplyFail

/-- FE_SUPPLY_CHANGEOVER (R39, R42, 03 R74): the aux supply of a die falls below its limit. -/
def execFeSupplyChangeover (fe : Nat) (s : State) : Host.Outcome State Fault Refusal :=
  if portNoOk fe then
    .next (if fe = 7 then
        let s' := { s with cfe.supplyStack := true, cfe.auxSupplyFail := true }
        if s.pn P.cfeRole = 0 then s else if s.cfe.auxSupplyFail then s' else s'.absorb 2 5 7 0 []
      else if !s.feActive fe then s
      else
        let was := (s.feAt fe).auxSupplyFail
        let lostPower := s.noRide fe
        let s := s.modFe fe fun f =>
          { f with auxSupplyFail := true, supplyStack := !lostPower, noFallback := lostPower
                   lineDown := f.lineDown || lostPower, faultChDown := f.faultChDown || lostPower
                   linkUp := f.linkUp && !lostPower, swNow := if lostPower then 0 else f.swNow
                   owNow := if lostPower then none else f.owNow }
        if was then s else s.absorb 1 3 fe 0 [])
  else .fault .noSuchUnit

/-- FE_AUX_RETURN (R42): 100 ms after its aux supply has come back the die is on aux again; one that had lost power is
relinked, its thresholds at their power-up values until a message comes. -/
def execFeAuxReturn (fe : Nat) (s : State) : Host.Outcome State Fault Refusal :=
  if portNoOk fe then
    .next (if fe = 7 then { s with cfe.supplyStack := false, cfe.auxSupplyFail := false }
      else
        let dead := (s.feAt fe).noFallback
        let s := s.modFe fe fun f => { f with supplyStack := false, auxSupplyFail := false, noFallback := false }
        if dead then (s.modFe fe fun f => { f with faultChDown := false, thr := {} }).startRelink fe else s)
  else .fault .noSuchUnit

/-- STACK_KEEPALIVE_TEST (R42): while on aux. -/
def execStackKeepaliveTest (fe : Nat) (pass : Bool) (s : State) : Host.Outcome State Fault Refusal :=
  if portNoOk fe then
    .next (if fe = 7 then (if s.cfe.supplyStack then s else { s with cfe.stackSupplyFail := !pass })
      else if (s.feAt fe).supplyStack || !s.feActive fe then s
      else
        let was := (s.feAt fe).stackSupplyFail
        let s := s.modFe fe fun f => { f with stackSupplyFail := !pass }
        if !pass && !was then s.absorb 1 4 fe 0 [] else s)
  else .fault .noSuchUnit

/-! ### From code to cell voltage -/

/-- The sample of front end `fe` with a stamp, as it waits in its port buffer. -/
def State.feSample (s : State) (fe : Nat) (stamp : Word) : Option FeSample :=
  (s.feAt fe).buf.find? fun x => x.stamp == stamp

/-- Eighths of the frame during which switch `n` conducted (R56). -/
def frac8Of (x : FeSample) (i : Nat) : Nat :=
  if !x.sw.getLsbD i then 0 else if x.swCond.getLsbD 6 then x.swCond.toNat % 8 else 8

/-- Weighted current of switch `n` in a sample, in 0.1 mA (R56); 0 outside 1 to N and without a sample. -/
def State.swWeighted (s : State) (n : Nat) (stamp : Word) : Rat :=
  if n < 1 || s.cells < n then 0
  else match s.feSample (feOfCell n) stamp with
    | some x => if x.bad then 0 else ((s.chanAt n).swCur : Rat) * (frac8Of x (localOf n) : Rat) / 8
    | none => 0

/-- Calibrated value before clamping, uV (R43), not yet rounded to 1 uV. -/
def calibrated (n : Nat) (code : Int) : Rat := Config.chanGain n * (code : Rat) + Config.chanOffset n

/-- The value of R44 after clamping, and its clip: 0 none, 1 lower, 2 upper. DESIGN CHOICE (log entry 78): the calibrated
value is rounded to 1 uV with ties away from zero; the spec names no rounding. -/
def clampCell (lo hi : Bool) (v : Rat) : Int × Nat :=
  if lo || decide (v ≤ -250000) then (-250000, 1)
  else if hi || decide (5250000 ≤ v) then (5250000, 2)
  else (roundAway v, 0)

/-- Lead correction of R56 and R57: the corrected value, LEAD_CORR and UNCORR. Currents in 0.1 mA. -/
def State.leadCorrect (s : State) (n : Nat) (vm : Int) (i iUp iDn : Rat) : Rat × Bool × Bool :=
  let (u, uf) := s.leadR (upperTap n)
  let (d, df) := s.leadR (lowerTap n)
  let iUp := if n = 48 then 0 else iUp
  let iDn := if n = 49 then 0 else iDn
  if i = 0 ∧ iUp = 0 ∧ iDn = 0 then (vm, false, false)
  else if ((i ≠ 0 ∨ iUp ≠ 0) ∧ uf = false) ∨ ((i ≠ 0 ∨ iDn ≠ 0) ∧ df = false) then (vm, false, true)
  else
    let c := (i * (u + d) - iUp * u - iDn * d) / 10000
    ((vm : Rat) + c, c != 0, false)

/-- The supplies drawn from the stack in the frame of a stamp (06 R138, 07 R185): by the serving front end, as its packet says,
by this module's CFE, and by the stack bridge. -/
def State.drawsAt (s : State) (stamp : Word) (fe : Bool) : BitVec 3 :=
  let cfe := match s.cfe.buf.find? fun x => x.stamp == stamp with
    | some x => if x.held || x.bad then s.cfe.supplyStack else x.pkt.status.getLsbD 7
    | none => s.cfe.supplyStack
  ofBits 3 fun k => match k with
    | 0 => fe | 1 => cfe | _ => s.power.bridged.contains stamp

/-- What the sample with a stamp says of cell `n`: the figures of the scaling job, with the flags of R57; a clipped value is
reported as its limit (R44). -/
def State.scaled (s : State) (n : Nat) (stamp : Word) : Option (FeSample × Smp × Nat × Bool × Bool) :=
  match s.feSample (feOfCell n) stamp with
  | none => none
  | some x =>
    let i := localOf n
    let (vm, clip) := clampCell (x.clipLo.getLsbD i) (x.clipHi.getLsbD i) (calibrated n (x.codes.getD i 0))
    let (vc, corr, unc) := s.leadCorrect n vm (s.swWeighted n stamp) (s.swWeighted (n + 1) stamp) (s.swWeighted (n - 1) stamp)
    some (x,
      { stamp := stamp, vm := vm, vc := if clip = 0 then clampInt (-250000) 5250000 (roundAway vc) else vm, held := x.held
        invalid := x.bad
        owU := (s.tapAt (upperTap n)).isOpen, owD := (s.tapAt (lowerTap n)).isOpen
        clipped := clip != 0, unc := unc, sw := x.sw.getLsbD i, cur := (s.chanAt n).swCur
        curNew := i / 4 == x.stamp.toNat % 4 && !x.held, frac8 := frac8Of x i, draw := s.drawsAt stamp (x.status.getLsbD 7) },
      clip, corr, unc)

/-- The processed sample of cell `n` with a stamp: kept, or taken from the port buffer for the running window. -/
def State.smpAt (s : State) (n : Nat) (stamp : Word) : Option Smp :=
  match (s.chanAt n).hist.find? fun x => x.stamp == stamp with
  | some x => some x
  | none => (s.scaled n stamp).map fun r => r.2.1

/-- OW_SUSPECT and OW_OPEN of cell `n`: of the taps beside it (R51). -/
def State.tapFlags (s : State) (n : Nat) : Bool × Bool :=
  let u := s.tapAt (upperTap n)
  let d := s.tapAt (lowerTap n)
  (u.suspect || d.suspect, u.isOpen || d.isOpen)

/-- A tap beside cell `n` carried the test current in the sample (OW_STEP, R47). -/
def State.owStepAt (s : State) (n : Nat) (x : FeSample) : Bool :=
  let m := x.status.toNat % 32
  let i := localOf n
  let up := match s.feSample (feOfCell n + 1) x.stamp with
    | some y => i == 15 && n != 48 && y.status.toNat % 32 == 0
    | none => false
  let dn := match s.feSample (feOfCell n - 1) x.stamp with
    | some y => i == 0 && n != 49 && y.status.toNat % 32 == 16
    | none => false
  (m != 31 && (m == i || m == i + 1)) || up || dn

/-- The reported forms of a corrected value (Table 2.6). DESIGN CHOICE (log entry 79): BELOW_ZERO and OVER_RANGE judge the
value reported, after lead correction. -/
def Chan.report (c : Chan) (v : Int) (st : BitVec 16) : Chan :=
  { c with v := v, s24 := BitVec.ofInt 24 v, u16 := BitVec.ofNat 16 (((max v 0).toNat + 50) / 100)
           status := setBit (setBit st 13 (decide (v ≤ 0))) 12 (decide (5000000 < v)) }

/-- The status bits of Table 2.9 that come with a sample. -/
def State.sampleBits (s : State) (n : Nat) (x : FeSample) (clip : Nat) (corr unc : Bool) : BitVec 16 :=
  let i := localOf n
  let (sus, opn) := s.tapFlags n
  ofBits 16 fun b => match b with
    | 11 => clip != 0 | 10 => sus | 9 => opn | 8 => s.owStepAt n x | 7 => x.sw.getLsbD i | 6 => corr | 5 => unc
    | 4 => x.ov.getLsbD i | 3 => x.uv.getLsbD i | 2 => x.swCond.getLsbD 7 | 1 => x.status.getLsbD 7
    | 0 => x.modFault.getLsbD i | _ => false

/-- The scaling job for one cell (R43 to R47, R51, R56, R59). -/
def State.scaleCell (s : State) (n : Nat) : State :=
  let stamp := s.sched.stamp
  match s.scaled n stamp with
  | none => s.modChan n fun c =>
      { c.invalidate with hist := ({ stamp := stamp } :: c.hist).take 24 }
  | some (x, smp, clip, corr, unc) =>
    if x.bad then s.modChan n fun c => { c.invalidate with hist := (smp :: c.hist).take 24 }
    else if x.held then s.modChan n (holdChan stamp)
    else
      let fault := x.modFault.getLsbD (localOf n)
      let run := if fault then (s.chanAt n).modFaultRun + 1 else 0
      let bits := s.sampleBits n x clip corr unc
      let out := decide (4 ≤ run) || (s.tapFlags n).2
      let smp := { smp with invalid := decide (4 ≤ run) }
      let s := s.modChan n fun c =>
        let c := c.report smp.vc bits
        let c := if out then { c with status := bits }.invalidate else c
        { c with modFaultRun := run, hist := (smp :: c.hist).take 24 }
      if run = 4 then s.absorb 1 5 (feOfCell n) n [] else s

/-- A withheld scaling job: the cell repeats its value with HELD set (04 R103). -/
def State.holdCell (s : State) (n : Nat) : State := s.modChan n (holdChan s.sched.stamp)

/-! ### The open-wire test -/

/-- The lead that a front end's OW_TAP names (R40); none where none did. -/
def owTapOf (fe : Nat) (m : Nat) : Option Nat :=
  if 16 < m then none
  else if fe = 4 ∧ m = 0 then some tap48H
  else some (tapIdx (16 * (fe - 1) + m))

/-- Signature cells of a lead with their direction: true for a rise (Table 2.10). -/
def State.owSignature (s : State) (i : Nat) : List (Nat × Bool) :=
  let k := tapOf i
  if i = 0 then [(1, false)] else if i = 48 then [(48, false)] else if i = tap48H then [(49, false)]
  else if k = s.cells then [(k, false)] else [(k, false), (k + 1, true)]

/-- The samples of cell `n` for frames S, S-1 and S-2. DESIGN CHOICE (log entry 80): they are the sample of the window and
the two sampled frames before it, so that at the 1 kHz rate of WATCH they lie 10 and 20 frames back. -/
def State.owSamples (s : State) (n : Nat) : Option (Smp × Smp × Smp) :=
  let t := s.sched.stamp
  let step : Word := if s.power.st == PowerSt.watch then 10 else 1
  match s.smpAt n t, s.smpAt n (t - step), s.smpAt n (t - 2 * step) with
  | some a, some b, some c => some (a, b, c)
  | _, _, _ => none

/-- The sample is INVALID (Table 2.9). -/
def Smp.inv (x : Smp) : Bool := x.invalid || x.owU || x.owD

/-- The sample of cell `n` is INVALID for another cause than the opening of the lead at place `i` itself, which the step on
that lead is to judge (R51, log entry 74). -/
def Smp.invBut (x : Smp) (n i : Nat) : Bool := x.invalid || (x.owU && upperTap n != i) || (x.owD && lowerTap n != i)

/-- Every sample of `n` is there with one switch state. -/
def State.owSteady (s : State) (n : Nat) : Bool :=
  if n < 1 || s.cells < n then true
  else match s.owSamples n with
    | some (a, b, c) => a.sw == b.sw && b.sw == c.sw
    | none => false

/-- Result of the step on a lead: none inconclusive, some true failed (R50). -/
def State.owResult (s : State) (i : Nat) : Option Bool :=
  let sig := s.owSignature i
  let good := fun (n : Nat) (x : Smp) => !x.held && !x.invBut n i && !x.clipped
  let usable := sig.all fun (n, _) => s.owSteady n && s.owSteady (n - 1) && s.owSteady (n + 1) &&
    (match s.owSamples n with
     | some (a, b, c) => good n a && good n b && good n c
     | none => false)
  if !usable then none
  else some (sig.all fun (n, up) => match s.owSamples n with
    | some (a, b, c) =>
      let d : Int := 2 * a.vc - b.vc - c.vc
      decide (200 * s.pv P.owThreshold < if up then d else -d)
    | none => false)

/-- Lead code of an absorbed event: 0 a single lead, 1 48L, 2 48H. -/
def leadCode (i : Nat) : Nat := if i = 48 then 1 else if i = tap48H then 2 else 0

/-- UNIT of the absorbed event of a lead: the front end that the lead serves, the lower of two (DESIGN CHOICE, log entry
81: Table 17.8 does not say which; 48H serves FE4). -/
def leadUnit (i : Nat) : Nat := if i = tap48H then 4 else feOfCell (max 1 (tapOf i))

/-- OW_OPEN by OW_ACTION in force: asserted while a tap is open with FAULT, withdrawn otherwise (R52, log entry 82). -/
def State.owOpenCause (s : State) : State :=
  if s.pn P.owAction = 1 && s.tap.any (·.isOpen) then s.setCause 25 0 else s.withdrawCause 25

/-- The kept sample of the window is INVALID through the opening of the lead at place `i`. -/
def Chan.markOpen (c : Chan) (stamp : Word) (n i : Nat) : Chan :=
  { c with hist := c.hist.map fun x => if x.stamp == stamp then
      { x with owU := x.owU || upperTap n == i, owD := x.owD || lowerTap n == i } else x }

/-- A lead is declared open (R51, R52): its cells are invalid from this sample on. -/
def State.tapOpens (s : State) (i : Nat) : State :=
  let s := s.modTap i fun t => { t with isOpen := true }
  let s := (s.tapCells i).foldl (fun s n => s.modChan n fun c =>
    { c.markOpen s.sched.stamp n i with status := setBit c.status 9 true }.invalidate) s
  (s.absorb 1 8 (leadUnit i) 0 (toLe 1 (tapOf i) ++ toLe 1 (leadCode i))).owOpenCause

/-- A lead is found closed again (R51). -/
def State.tapCloses (s : State) (i : Nat) : State :=
  let s := s.modTap i fun t => { t with isOpen := false, spanCross := false }
  (s.absorb 1 9 (leadUnit i) 0 (toLe 1 (tapOf i) ++ toLe 1 (leadCode i))).owOpenCause

/-- A conclusive step (R51): three in a row decide. -/
def State.owConclude (s : State) (i : Nat) (failed : Bool) : State :=
  let s := s.modTap i fun t =>
    { t with suspect := failed, failRun := if failed then satTo 3 (t.failRun + 1) else 0
             passRun := if failed then 0 else satTo 3 (t.passRun + 1) }
  let s := { s with bal.owAge := setAt s.bal.owAge i 0 }
  let t := s.tapAt i
  let s := if failed && t.failRun = 3 && !t.isOpen then s.tapOpens i
    else if !failed && t.passRun = 3 && t.isOpen then s.tapCloses i else s
  (s.tapCells i).foldl (fun s n => s.modChan n fun c =>
    { c with status := setBit (setBit c.status 10 (s.tapFlags n).1) 9 (s.tapFlags n).2 }) s

/-- The span over an open tap crosses twice a threshold (R52). DESIGN CHOICE (log entry 83): a span equal to twice a
threshold does not cross it. -/
def State.spanBad (s : State) (i : Nat) : Bool :=
  let k := tapOf i
  if k < 1 || s.cells ≤ k then false
  else match s.smpAt k s.sched.stamp, s.smpAt (k + 1) s.sched.stamp with
    | some a, some b =>
      if a.invalid || b.invalid then (s.tapAt i).spanCross
      else decide (2000 * (s.prot.set.ov : Int) < a.vc + b.vc) || decide (a.vc + b.vc < 2000 * (s.prot.set.uv : Int))
    | _, _ => (s.tapAt i).spanCross

/-- The span check of every open tap (R52). -/
def State.spanCheck (s : State) : State :=
  let s := (List.range 98).foldl (fun s i => if (s.tapAt i).isOpen then
    s.modTap i fun t => { t with spanCross := s.spanBad i } else s) s
  if s.tap.any fun t => t.isOpen && t.spanCross then s.setCause 26 0 else s.withdrawCause 26

/-- The local tap that front end `fe` drives for tap `k` (R40, R48). -/
def State.owDrive (s : State) (fe k : Nat) : Option Nat :=
  if k = 0 then (if fe = 1 then some 0 else none)
  else if k = 48 ∧ fe = 4 ∧ 48 < s.cells then some 0
  else if fe = feOfCell k then some (k - 16 * (fe - 1)) else none

/-- The strobe for which the window decides: two frames after the one it belongs to in RUN, that of the next sampled frame
in WATCH (R48, 01 R21, 16 R381). -/
def State.owStrobe (s : State) : Word := s.sched.stamp + (if s.power.st == PowerSt.watch then 10 else 3)

/-- The message for a strobe can carry no more: the strobe or its cut-off has passed (05 R132). -/
def State.cutPast (s : State) (strobe : Word) : Bool :=
  !frameLater strobe s.grid.frame || (s.grid.cutDone && strobe == s.grid.frame + 1)

/-- The step that the present window decides (R48). Past the cut-off of its strobe nothing is decided, and the sweep slips:
the next window decides for the same tap (05 R132). -/
def State.owDecide (s : State) : State :=
  let k := s.ow.tap
  let strobe := s.owStrobe
  if s.cutPast strobe then s
  else
    { s with
      fe := s.fe.zipIdx.map fun ((f, i) : Fe × Nat) => { f with owDec := ((strobe, s.owDrive (i + 1) k) :: f.owDec).take 4 }
      ow.tap := if s.cells ≤ k then 0 else k + 1, ow.last := k, ow.lastWin := s.sched.window }

/-- The open-wire step of P39 (R48 to R53). -/
def State.openWireJob (s : State) : State :=
  let s := (List.range 6).foldl (fun s j =>
    match s.feSample (j + 1) s.sched.stamp with
    | none => s
    | some x =>
      if x.bad || x.held then s
      else match owTapOf (j + 1) (x.status.toNat % 32) with
        | none => s
        | some i => match s.owResult i with
          | none => s
          | some r => s.owConclude i r) s
  s.spanCheck.owDecide

/-! ### Lead resistance -/

/-- Sample of cell `t` corrected for every switch but `j` (R54, R56, R57), in uV. -/
def State.partCorrected (s : State) (t j o : Nat) : Option Rat :=
  match (s.chanAt t).hist[o]? with
  | none => none
  | some x =>
    if x.held || x.inv then none
    else
      let cur := fun m => if m = j || m < 1 || s.cells < m then (0 : Rat) else match (s.chanAt m).hist[o]? with
        | some y => (y.cur : Rat) * (y.frac8 : Rat) / 8
        | none => 0
      some (s.leadCorrect t x.vm (cur t) (cur (t + 1)) (cur (t - 1))).1

/-- Mean of four corrected samples of cell `t` from place `o` of its history on. -/
def State.fourMean (s : State) (t j o : Nat) : Option Rat :=
  match s.partCorrected t j o, s.partCorrected t j (o + 1), s.partCorrected t j (o + 2), s.partCorrected t j (o + 3) with
  | some a, some b, some c, some d => some ((a + b + c + d) / 4)
  | _, _, _, _ => none

/-- Switch states of cell `n` in the eight samples from place `o` on, newest first. -/
def State.swRun (s : State) (n o : Nat) : List Bool := (((s.chanAt n).hist.drop o).take 8).map (·.sw)

/-- Cell `n` holds one switch state through the eight samples; outside 1 to N there is none. -/
def State.swConst (s : State) (n o : Nat) : Bool :=
  if n < 1 || s.cells < n then true
  else
    let l := s.swRun n o
    l.length == 8 && (l.all id || !l.any id)

/-- Switch `j` changed between the samples `o + 4` and `o + 3` and is steady on both sides (R54). -/
def State.swChanged (s : State) (j o : Nat) : Bool :=
  let l := s.swRun j o
  let after := l.take 4
  let before := l.drop 4
  l.length == 8 && (after.all id || !after.any id) && (before.all id || !before.any id) && after.head? != before.head?

/-- SW_CURRENT of switch `j`: the report in the four frames of the conducting side, 0.1 mA (R54). -/
def State.changeCurrent (s : State) (j o : Nat) : Nat :=
  let on := (s.swRun j o).headD false
  let l := (((s.chanAt j).hist.drop (if on then o else o + 4)).take 4)
  ((l.find? (·.curNew)).map (·.cur)).getD 0

/-- The figure of one lead from the shift of cell `t` at a change of switch `j` (R54); none while a sample used is HELD or
INVALID. -/
def State.leadFigure (s : State) (j t o : Nat) : Option (Int × Word) :=
  match s.fourMean t j o, s.fourMean t j (o + 4), (s.chanAt t).hist[o + 3]? with
  | some a, some b, some x =>
    let dv := if (s.swRun j o).headD false then a - b else b - a
    some (roundAway (dv * 10000 / (s.changeCurrent j o : Rat)), x.stamp)
  | _, _, _ => none

/-- A figure replaces one measured before it (R54). -/
def Tap.take (tp : Tap) (now : Word) (v : Int) (stamp : Word) : Tap :=
  let age := (now - stamp).toNat
  if tp.rlKnown && decide (tp.rlAge ≤ age) then tp
  else { tp with rl := v, rlFrame := stamp, rlKnown := true, rlAge := age }

/-- The cells from which a change of switch `j` is measured, each with its lead (R54). -/
def State.leadPairs (s : State) (j : Nat) : List (Nat × Nat) :=
  (if j + 1 ≤ s.cells && j != 48 then [(j + 1, tapIdx j)] else []) ++ (if 1 ≤ j - 1 && j != 49 then [(j - 1, tapIdx (j - 1))] else [])

/-- The switch conditions of R54 at a change of switch `j` whose newest sample is at place `o`. -/
def State.changeGood (s : State) (j o : Nat) : Bool :=
  s.swChanged j o && s.swConst (j - 1) o && s.swConst (j + 1) o && decide (500 ≤ s.changeCurrent j o)

/-- The measurements from a change of switch `j` whose newest sample is at place `o`. -/
def State.measureChange (s : State) (j o : Nat) : State :=
  if s.changeGood j o then
    (s.leadPairs j).foldl (fun s (t, i) => match s.leadFigure j t o with
      | some (v, stamp) => s.modTap i fun tp => tp.take s.grid.frame v stamp
      | none => s) s
  else s

/-- The lead-resistance job of P39: every qualifying change not yet measured within its deadline of eight windows, oldest
first (R54, 05 Table 5.1). -/
def State.leadRJob (s : State) : State :=
  (List.range 9).reverse.foldl (fun s o => (List.range s.cells).foldl (fun s i => s.measureChange (i + 1) o) s) s

/-- A change that qualifies under R54 has its eight samples (05 Table 5.1). -/
def State.leadRReleases (s : State) : Bool :=
  (List.range s.cells).any fun i =>
    s.changeGood (i + 1) 0 && (s.leadPairs (i + 1)).any fun (t, _) => (s.leadFigure (i + 1) t 0).isSome

/-! ### The strap check -/

/-- The strap check of front end `k` (R38): one without unused channels has no fault. -/
def State.strapCheck (s : State) (k : Nat) : State :=
  let first := s.feCells k
  if 16 ≤ first then s.modFe k fun f => { f with strapBad := 0, strapFault := false }
  else match s.feSample k s.sched.stamp with
    | none => s
    | some x =>
      if x.bad || x.held then s
      else
        let bad := ofBits 16 fun i => first ≤ i && decide (20000 < absRat (calibrated (16 * (k - 1) + i + 1) (x.codes.getD i 0)))
        let was := (s.feAt k).strapBad
        let s := s.modFe k fun f => { f with strapBad := bad, strapFault := bad != 0 }
        (bitsOf 16 (bad &&& ~~~was)).foldl (fun s i => s.absorb 1 7 k (16 * (k - 1) + i + 1) []) s

/-- The strap check of every active front end (R38). -/
def State.strapJob (s : State) : State :=
  (List.range 6).foldl (fun s i => if s.feActive (i + 1) then s.strapCheck (i + 1) else s) s

end Sys2Proof.Machine
end

