-- ==== Sys2Proof/Machine/Current.lean ====
section
/-!
DEFINITION. The current front end and charge integration (03_current_front_end.md): sub-sample and frame packets, the
charge accumulator, zero tracking, gain calibration, current records and the two CFEs of a branch.
-/

namespace Sys2Proof.Machine

/-! ### From code to current -/

/-- The module carries a CFE with CFE_ROLE MAIN or CHECK (R63). -/
def State.hasCfe (s : State) : Bool := s.pn P.cfeRole == 1 || s.pn P.cfeRole == 2

/-- One raw code in nV (R68). -/
def codeNv : Rat := 7450580597 / 1000000000

/-- Shunt voltage of a code in nV, before the zero-tracking offset. -/
def State.shuntNv (s : State) (c : Rat) : Rat := c * codeNv * (1 + s.pr P.curGainTrim / 1000000)

/-- Shunt resistance in uOhm at the shunt temperature, 25 C while its NTC is open (R64, R68). -/
def State.shuntR (s : State) : Rat :=
  s.pr P.shuntUohm / 100 * (1 + s.pr P.shuntTc / 1000000 * ((((s.cfe.tShunt.getD 2500 : Int) : Rat) / 100) - 25))

/-- Current in mA of `n` codes that sum to `sum` (R68). -/
def State.currentOf (s : State) (sum : Rat) (n : Nat) : Rat := (s.shuntNv sum - (n : Rat) * s.cfe.vZeroNv) / s.shuntR

/-- String voltage of a code in mV, with VSTR_OVER (R75). -/
def vstrOf (c : Int) : Int × Bool :=
  let v := roundAway (Config.vstrGain * (c : Rat) + Config.vstrOffset)
  if 1650000 < v then (1650000, true) else (v, false)

/-! ### Sub-sample packets -/

/-- A usable sub-sample packet (Table 3.1, R66). -/
def subGood (idx : Nat) (frame : Word) (bs : List Byte) : Bool :=
  bs.length == 16 && getB bs 0 == 0x5C && (getB bs 1).toNat == idx && getU bs 2 2 == frame.toNat % 65536 && crcGood 12 bs

/-- CFE_SUBSAMPLE_PACKET (R65, R66): the packets with even INDEX are the control samples. -/
def State.subPacket (s : State) (idx : Nat) (bs : List Byte) : State :=
  let ok := s.cfe.linkUp && subGood idx s.grid.frame bs
  let ctl := idx % 2 = 0
  let s := if ctl then { s with cfe.ctlMissing := !ok } else s
  if ok then
    let cur := getS bs 4 3
    let vs := getS bs 7 3
    let s := { s with cfe.subs := { idx := idx, cur := cur, vstr := vs, flags := getB bs 10 } :: s.cfe.subs }
    if ctl then { s with cfe.ctlCur := roundAway (s.currentOf (cur : Rat) 1), cfe.ctlVstr := (vstrOf vs).1 } else s
  else if s.cfe.linkUp then { s with cfe.ctlMissCount := s.cfe.ctlMissCount + 1 } else s

/-- CFE_SUBSAMPLE_PACKET: a module without a CFE has no such port (R63). -/
def execCfeSubsamplePacket (idx : Nat) (bytes : List Byte) (s : State) : Host.Outcome State Fault Refusal :=
  if idx < 8 then .next (if s.hasCfe then s.subPacket idx bytes else s) else .fault .noSuchUnit

/-! ### Charge -/

/-- Charge in uC enters the accumulator and the CFE's own sum; the remainder below 1 uC is carried forward (R72). -/
def State.credit (s : State) (uc : Rat) : State :=
  let t := s.cfe.accRem + uc
  let n := t.floor
  { s with cfe.acc := s.cfe.acc + n, cfe.accRem := t - n, cfe.ownSum := s.cfe.ownSum + n }

/-- Charge in uC of codes that sum to `sum` over `n` codes: each covers 12.5 us (R72). -/
def State.chargeOf (s : State) (sum : Rat) (n : Nat) : Rat := s.currentOf sum n * (25 / 2) / 1000

/-- The difference of two RAW_SUM values modulo 2^64 (R72). -/
def rawDiff (a b : BitVec 64) : Int := (a - b).toInt

/-- The sum of the eight sub-sample codes of the previous frame, when all eight came (R67). -/
def State.subSum (s : State) : Option Int :=
  if (List.range 8).all fun i => s.cfe.subsPrev.any (·.idx == i) then
    some ((List.range 8).map fun i => ((s.cfe.subsPrev.find? (·.idx == i)).map (·.cur)).getD 0).sum
  else none

/-- The charge of the frame of a sample in uC: of its eight codes, or of their mean when one of them did not come (R72). -/
def State.ownCharge (s : State) (x : CfeSamp) : Rat := s.chargeOf ((x.subSum.getD (8 * x.pkt.curMean) : Int) : Rat) 8

/-- The charge since the packet up to which it has been counted (R72, R73): exact over a gap of bad packets or discarded
samples; across a restart of the raw sum only the frame's own charge, the gap being bridged. -/
def State.creditFrame (s : State) (x : CfeSamp) : State :=
  let own := s.ownCharge x
  let s := { s with cfe.frameChargeNc := roundAway (own * 1000), cfe.gapFrames := 0 }
  match s.cfe.last with
  | none => s.credit own
  | some p =>
    let n := (x.stamp - p.stamp).toNat
    if x.pkt.resetCount ≠ p.resetCount then
      let now := roundAway (s.currentOf (8 * (x.pkt.curMean : Rat)) 8 / 8)
      { s.credit own with cfe.bridge := some { stamp := x.stamp, frames := n, before := s.cfe.iMa, after := now } }
    else
      let q := s.chargeOf (rawDiff x.pkt.rawSum p.rawSum : Rat) (8 * n)
      let s := s.credit q
      if 1 < n then { s with cfe.chargeGap := false } else { s with cfe.frameChargeNc := roundAway (q * 1000) }

/-- A gap across a restart of the raw sum is bridged by estimate (R73). -/
def State.bridgeByMean (s : State) (g : CfeBridge) : State :=
  let mean : Rat := ((g.before + g.after : Int) : Rat) / 2
  { s.credit (mean * ((g.frames - 1 : Nat) : Rat) / 10) with cfe.chargeGap := true, cfe.bridge := none }.absorb
    2 1 7 0 (toLe 4 (satTo 0xFFFFFFFF ((g.frames + 4) / 10)) ++ toLe 1 1)

/-- A record with a value that is neither HELD nor invalid. -/
def CurRec.good (r : CurRec) : Bool := !r.flags.getLsbD 1 && !r.flags.getLsbD 0 && r.cur != -2147483648

/-- The accumulator takes the branch's value after the frame of a record of the other CFE, with its own charge since (R73,
R80, R84). -/
def State.rebase (s : State) (r : CurRec) : State :=
  match s.cfe.ownSums.find? (·.1 == r.stamp) with
  | some e => { s with cfe.acc := r.acc + (s.cfe.ownSum - e.2) }
  | none => s

/-- The charge of a restart gap is settled (R73): on the MAIN CFE from the record of the CHECK CFE for the first frame after
the gap, which has arrived by the window that opens four frames later (R82); otherwise by estimate. -/
def State.settleBridge (s : State) : State :=
  match s.cfe.bridge with
  | none => s
  | some g =>
    let l := if s.pn P.cfeRole = 1 then (s.branchAt (s.pn P.branch)).checkRecs else []
    match l.find? fun r => r.stamp == g.stamp with
    | some r => if r.good then { s.rebase r with cfe.chargeGap := false, cfe.bridge := none } else s.bridgeByMean g
    | none => if l == [] || 3 ≤ (s.sched.stamp - g.stamp).toNat then s.bridgeByMean g else s

/-! ### Zero tracking and calibration -/

/-- The readback of K_POS and of K_NEG shows them open, and the converter is OFF (R70): an output reads as driven unless its
latest readback differed. -/
def State.zeroCond (s : State) : Bool :=
  s.safe.kPos == s.safe.rbBad.getLsbD 0 && s.safe.kNeg == s.safe.rbBad.getLsbD 1 && s.conv.st == .off

/-- Both periods of R70 start afresh. -/
def State.zeroRestart (s : State) : State := { s with cfe.zeroHold := 0, cfe.zeroSum := 0, cfe.zeroN := 0 }

/-- The conditions of R70 are looked at in every window, whether its frame packet was good or not. -/
def State.zeroCheck (s : State) : State := if s.zeroCond then s else s.zeroRestart

/-- One accepted frame of zero tracking (R70), while its conditions hold. -/
def State.zeroFrame (s : State) (x : CfeFrame) : State :=
  if !s.zeroCond then s
  else if s.cfe.zeroHold < 10000 then { s with cfe.zeroHold := s.cfe.zeroHold + 1 }
  else if s.cfe.zeroN < 10000 then { s with cfe.zeroSum := s.cfe.zeroSum + x.curMean, cfe.zeroN := s.cfe.zeroN + 1 }
  else s

/-- ZERO_TRACK_COMPLETE (R70). -/
def execZeroTrackComplete (s : State) : Host.Outcome State Fault Refusal :=
  .next (if s.hasCfe ∧ 10000 ≤ s.cfe.zeroN then
    let m := s.shuntNv ((s.cfe.zeroSum : Rat) / (s.cfe.zeroN : Rat))
    let s := { s with cfe.zeroSum := 0, cfe.zeroN := 0 }
    if absRat m ≤ 5000 then { s with cfe.zeroNext := some m, cfe.zeroValid := true, cfe.zeroAt := s.grid.plantNs } else s.absorb 2 3 7 0 []
  else s)

/-- ZERO_VALID_EXPIRE (R70): no update for 720 h. -/
def execZeroValidExpire (s : State) : Host.Outcome State Fault Refusal :=
  .next (if decide (2592000000000000 ≤ (s.grid.plantNs - s.cfe.zeroAt).toNat) then { s with cfe.zeroValid := false } else s)

/-- CUR_CAL measures the frame currents that are neither HELD nor invalid (R71). -/
def State.calFrame (s : State) : State :=
  match s.cfe.calRun with
  | some c => if c.n < 10000 && !s.cfe.iInvalid then
      { s with cfe.calRun := some { c with sum := c.sum + s.cfe.iMa, n := c.n + 1 } } else s
  | none => s

/-! ### Frame packets -/

/-- A frame packet read (Table 3.2). -/
def cfeFrameOf (stamp : Word) (bs : List Byte) : CfeFrame :=
  { stamp := stamp, curMean := getS bs 4 3, vstrMean := getS bs 7 3, ntcRaw := BitVec.ofNat 16 (getU bs 10 2)
    rawSum := BitVec.ofNat 64 (getU bs 12 8), curMin := getS bs 20 3, curMax := getS bs 23 3, ocState := getB bs 26
    status := getB bs 27, resetCount := getB bs 28 }

/-- R67: the mean and the raw sum agree with the eight sub-samples; the raw sum is compared across one frame only (log
entry 21). -/
def State.cfeAccepts (s : State) (bs : List Byte) (x : CfeFrame) : Bool :=
  bs.length == 40 && getB bs 0 == 0x5B && getB bs 1 == 7 && getU bs 2 2 == x.stamp.toNat % 65536 && crcGood 36 bs &&
    (match s.subSum with
     | none => true
     | some t => roundAway ((t : Rat) / 8) == x.curMean &&
        (match s.cfe.prev with
         | some p => p.resetCount != x.resetCount || p.stamp + 1 != x.stamp || rawDiff x.rawSum p.rawSum == t
         | none => true))

/-- The reported current and string voltage of a good packet (R68, R75). A comparator output that it shows released ends
the cause of a trip up to its frame (10 R244). -/
def State.cfeReport (s : State) (x : CfeFrame) : State :=
  let clipped := x.status.getLsbD 3
  let code : Int := if clipped then (if 0 ≤ x.curMean then 8388607 else -8388608) else x.curMean
  let ovr := decide (50000000 < absRat (s.shuntNv (x.curMean : Rat))) && !clipped
  let stall := if x.status.getLsbD 5 then s.cfe.stallRun + 1 else 0
  let (mv, vover) := vstrOf x.vstrMean
  let s := { s with
    cfe.iMa := roundAway (s.currentOf (code : Rat) 1)
    cfe.iInvalid := decide (4 ≤ stall), cfe.iHeld := false, cfe.curOverRange := ovr, cfe.curClipped := clipped
    cfe.stallRun := stall, cfe.vstrMv := mv, cfe.vstrOver := vover, cfe.vstrInvalid := false, cfe.ocState := x.ocState
    cfe.wakeAsserted := x.status.getLsbD 0, cfe.supplyStack := x.status.getLsbD 7 }
  let s := if stall = 4 then s.absorb 2 4 7 0 [] else s
  let s := if x.ocState.getLsbD 5 || frameLater s.prot.ocFrame x.stamp then s else s.withdrawCause 29
  let aux := x.status.getLsbD 6
  let was := s.cfe.auxSupplyFail
  let s := { s with cfe.auxSupplyFail := aux }
  if aux && !was then s.absorb 2 5 7 0 [] else s

/-- A sample enters the CFE's port buffer (01 R19, 05 R131, R134). -/
def State.cfeStore (s : State) (x : CfeSamp) : State :=
  let l := s.cfe.buf.map (·.stamp)
  let s := if 3 ≤ (s.waitingOf l).length then s.discardSample l else s
  { s with cfe.buf := s.cfe.buf ++ [x] }.noteBacklog

/-- An accepted frame packet. -/
def State.cfeGood (s : State) (x : CfeFrame) : State :=
  { s with cfe.badRun := 0, cfe.heldRun := 0, cfe.prev := some x }.cfeStore { stamp := x.stamp, pkt := x, subSum := s.subSum }

/-- A bad or missing frame packet (R73): held for three frames, invalid with a relink from the fourth on. -/
def State.cfeBad (s : State) (stamp : Word) : State :=
  let run := s.cfe.badRun + 1
  let s := { s with cfe.badRun := run, cfe.heldRun := satTo 3 run, cfe.crcErrors := bump 0xFFFF s.cfe.crcErrors
                    cfe.gapFrames := s.cfe.gapFrames + 1 }.cfeStore { stamp := stamp, held := true, bad := 4 ≤ run }
  if 4 ≤ run then s.cfeRelink else s

/-- CFE_FRAME_PACKET (R67, R73, 05 R131). Samples before the second full frame after an alignment are not reported (02
R61). -/
def State.cfePacket (s : State) (bs : List Byte) : State :=
  let stamp := s.grid.frame - 1
  if !s.hasCfe || !s.cfe.linkUp then s
  else if 0 < s.cfe.skipSamples then { s with cfe.skipSamples := s.cfe.skipSamples - 1 }.cfeStore { stamp := stamp, bad := true }
  else
    let x := cfeFrameOf stamp bs
    if s.cfeAccepts bs x then s.cfeGood x else s.cfeBad stamp

/-- CFE_FRAME_PACKET. -/
def execCfeFramePacket (bytes : List Byte) (s : State) : Host.Outcome State Fault Refusal := .next (s.cfePacket bytes)

/-! ### The sample of a window -/

/-- A good sample gives the current, the string voltage and the charge of its frame (R68, R70 to R72, R75). -/
def State.cfeUse (s : State) (x : CfeSamp) : State :=
  let t := Config.ntcTemp x.pkt.ntcRaw.toNat
  let s := { s with cfe.tShunt := t, cfe.shuntNtcFault := t.isNone }
  let restarted := match s.cfe.last with
    | some p => p.resetCount != x.pkt.resetCount
    | none => false
  let s := if restarted then s.zeroRestart else s
  let s := s.creditFrame x
  let s := (s.cfeReport x.pkt).zeroFrame x.pkt
  { s.calFrame with cfe.last := some x.pkt, cfe.ownSums := ((x.stamp, s.cfe.ownSum) :: s.cfe.ownSums).take 16 }

/-- No current of a frame: the code for no value (R73). -/
def State.cfeNoValue (s : State) : State :=
  { s with cfe.iHeld := false, cfe.iInvalid := true, cfe.vstrInvalid := true }

/-- The CFE sample with the stamp that the window processes (01 R19): a bad packet repeats the current with HELD up to the
third, and a port that is down or relinking gives no value (R73). -/
def State.cfeWindow (s : State) : State :=
  let s := s.zeroCheck
  match s.cfe.buf.find? fun x => x.stamp == s.sched.stamp with
  | some x => if x.bad then s.cfeNoValue else if x.held then { s with cfe.iHeld := !s.cfe.iInvalid } else s.cfeUse x
  | none => if s.cfe.linkUp then { s with cfe.iHeld := !s.cfe.iInvalid } else s.cfeNoValue

/-! ### Current records -/

/-- FLAGS of Table 3.5. -/
def State.recFlags (s : State) : BitVec 16 :=
  ofBits 16 fun b => match b with
    | 0 => s.cfe.iHeld | 1 => s.cfe.iInvalid | 2 => s.cfe.curOverRange | 3 => s.cfe.curClipped | 4 => s.cfe.chargeGap
    | 5 => s.cfe.disagree | 6 => s.cfe.zeroValid | _ => false

/-- The record of the sample that the window processes (R80). -/
def State.ownRecord (s : State) : CurRec :=
  { branch := s.pn P.branch, check := s.pn P.cfeRole == 2, pos := s.ring.position, flags := s.recFlags
    stamp := s.sched.stamp
    time := s.grid.plantNs - BitVec.ofNat 64 (100000 * (s.grid.frame - s.sched.stamp).toNat)
    cur := if s.cfe.iInvalid then -2147483648 else s.cfe.iMa
    chg := s.cfe.frameChargeNc, acc := s.cfe.acc
    vstr := if s.cfe.vstrInvalid then -2147483648 else s.cfe.vstrMv }

/-- A record as its 40 bytes (Table 3.5). -/
def recBytes (r : CurRec) : List Byte :=
  withCrc (toLe 1 0x31 ++ toLe 1 (pack [(7, 1, r.branch), (6, 1, bit r.check), (0, 3, r.pos)]) ++ toLe 2 r.flags.toNat ++
    w32 r.stamp ++ w64 r.time ++ toLeInt 4 r.cur ++ toLeInt 4 r.chg ++ toLeInt 8 r.acc ++ toLeInt 4 r.vstr)

/-- 40 bytes read as a record; none when the type or the CRC is wrong. -/
def recOf (bs : List Byte) : Option CurRec :=
  if bs.length == 40 && getB bs 0 == 0x31 && crcGood 36 bs then
    let src := (getB bs 1).toNat
    some { branch := src / 128, check := src / 64 % 2 == 1, pos := src % 8, flags := BitVec.ofNat 16 (getU bs 2 2)
           stamp := BitVec.ofNat 32 (getU bs 4 4), time := BitVec.ofNat 64 (getU bs 8 8), cur := getS bs 16 4
           chg := getS bs 20 4, acc := getS bs 24 8, vstr := getS bs 32 4 }
  else none

/-- INVALID of a record. -/
def CurRec.invalid (r : CurRec) : Bool := r.flags.getLsbD 1 || r.cur == -2147483648

/-- The mean of a frame is delivered to the block (15 R368 step 3): it counts when the frame ended at least SAFE_PRE_MIN_MS
after K_PRE turned on; a HELD or invalid one breaks the count. `stamp` is the frame of the mean. With K_POS on, the mean of
a frame that ended within 20 ms of it is held against SAFE_INRUSH_A. -/
def State.prechargeFrame (s : State) (stamp : Word) (cur : Int) (good : Bool) : State :=
  let back := 40 * (s.grid.frame - stamp - 1).toNat
  if s.safe.kPos then
    { s with safe.inrush := s.safe.inrush || (good && decide (back ≤ s.safe.posTEnd) && decide (s.safe.posTEnd - back ≤ 800) &&
        decide (1000 * s.safe.set.inrushA < cur.natAbs)) }
  else if s.safe.seq = .closing ∧ s.safe.kPre = true then
    let since := s.safe.preTEnd - back
    if !good then { s with safe.preRun := 0 }
    else if since < 40 * s.safe.set.preMinMs then s
    else if cur.natAbs ≤ s.safe.set.preEndMa then { s with safe.preRun := s.safe.preRun + 1 }
    else { s with safe.preRun := 0 }
  else s

/-- A CFE that is not the one in use keeps its accumulator on the branch's (R80: a record carries the branch accumulator;
R84): it takes the value of each good record of the CFE in use, with its own charge since that stamp. -/
def State.followBranch (s : State) (r : CurRec) : State :=
  let mine := (s.pn P.cfeRole == 2) == r.check
  if s.hasCfe && s.pn P.branch == r.branch && !mine && r.check == (s.branchAt r.branch).useCheck && r.good then s.rebase r else s

/-- A record is taken (R81): the newest sixteen of each CFE are kept, and the copy of the branch accumulator follows every
record; the paired current is that of the CFE in use. -/
def State.takeRecord (s : State) (r : CurRec) : State :=
  (s.followBranch r).modBranch r.branch fun b =>
    let l := (r :: (if r.check then b.checkRecs else b.mainRecs).filter fun x => x.stamp != r.stamp).take 16
    let b := if r.check then { b with checkRecs := l } else { b with mainRecs := l }
    let b := { b with accCopy := r.acc }
    let b := if r.check == b.useCheck then
        { b with curHeld := r.flags.getLsbD 0, pairCur := r.cur, pairInvalid := r.invalid } else b
    if r.check then b else { b with mainInvalidRun := if r.invalid then b.mainInvalidRun + 1 else 0 }

/-- A record arrives on the ring: a module without a CFE takes its branch current from it (15 R368), once for each
stamp. -/
def State.ringRecord (s : State) (r : CurRec) : State :=
  let b := s.branchAt r.branch
  let mine := !s.hasCfe && r.branch == s.pn P.branch && r.check == b.useCheck &&
    !((if r.check then b.checkRecs else b.mainRecs).any (·.stamp == r.stamp))
  let t := s.takeRecord r
  if mine then t.prechargeFrame r.stamp r.cur (!r.flags.getLsbD 0 && !r.invalid) else t

/-- CURRENT_RECORD_RX. -/
def execCurrentRecordRx (bytes : List Byte) (s : State) : Host.Outcome State Fault Refusal :=
  .next (match recOf bytes with
    | some r => s.ringRecord r
    | none => s)

/-- The records in use of a branch, newest first (R82, R84). -/
def Branch.inUse (b : Branch) : List CurRec := if b.useCheck then b.checkRecs else b.mainRecs

/-- A stamp without a record of the CFE in use (R81): its current is HELD. A stamp without a MAIN record counts for R84. -/
def State.recordMissing (s : State) (branch : Nat) (stamp : Word) : State :=
  let t := s.modBranch branch fun b =>
    let b := if b.inUse.any (·.stamp == stamp) then b else { b with curHeld := true }
    if b.mainRecs.any (·.stamp == stamp) then b else { b with mainInvalidRun := b.mainInvalidRun + 1 }
  if !s.hasCfe && branch == s.pn P.branch then t.prechargeFrame stamp 0 false else t

/-- CURRENT_RECORD_MISSING. -/
def execCurrentRecordMissing (branch : Nat) (stamp : Word) (s : State) : Host.Outcome State Fault Refusal :=
  if branch < 2 then .next (s.recordMissing branch stamp) else .fault .noSuchUnit

/-- The record of the window goes to the side window and counts as received here; the safety block has its mean (R80, 15
R368). -/
def State.sendRecord (s : State) : State :=
  let r := s.ownRecord
  let s := (s.takeRecord r).prechargeFrame r.stamp r.cur (!r.flags.getLsbD 0 && !r.invalid)
  { s with ring.sideTx := setAt s.ring.sideTx (2 * r.branch + bit r.check) (some r) }

/-- The current aggregation job of P32 (R68 to R75, R80): the sample of the window, its charge and its record. -/
def State.currentAggJob (s : State) : State := if s.hasCfe then s.cfeWindow.settleBridge.sendRecord else s

/-- A withheld current aggregation job (04 R103): the record repeats the last current with HELD set, and the next job that
runs credits the charge of the frame from the RAW_SUM difference (R72). -/
def State.holdCurrent (s : State) : State :=
  if s.hasCfe then { s with cfe.iHeld := !s.cfe.iInvalid }.sendRecord else s

/-! ### String current and the two CFEs of a branch -/

/-- R82: the newest stamp, at most three before the window's own, for which every branch has a record. -/
def State.stringCurrent (s : State) : Option Int :=
  let bs := (List.range (s.pn P.ringBranches)).map s.branchAt
  let t := (s.branchAt 0).inUse.find? fun r =>
    (s.sched.stamp - r.stamp).toNat ≤ 3 && bs.all fun b => b.inUse.any (·.stamp == r.stamp)
  match t with
  | none => none
  | some r =>
    let l := bs.map fun b => (b.inUse.find? (·.stamp == r.stamp)).getD {}
    if l.any CurRec.invalid then none else some (l.map (·.cur)).sum

/-- R83: a stamp is out of bounds. -/
def State.outOfBounds (s : State) (m c : Int) : Bool :=
  decide (s.pr P.curPlausAbs + s.pr P.curPlausRel / 1000 * absRat (m : Rat) < absRat ((m : Rat) - (c : Rat)))

/-- DISAGREE of a branch, and of the own CFE's status where the branch is its own (R83). -/
def State.setDisagree (s : State) (b : Nat) (v : Bool) : State :=
  let s := s.modBranch b fun x => { x with disagree := v }
  if s.pn P.branch = b then { s with cfe.disagree := v } else s

/-- One stamp of R83: every module counts the stamps in and out of bounds, for R84; the primary acts on the disagreement. -/
def State.plausStamp (s : State) (b : Nat) (m c : CurRec) : State :=
  let s := s.modBranch b fun x => { x with plausStamp := m.stamp, plausKnown := true }
  if !m.good || !c.good then s
  else if s.outOfBounds m.cur c.cur then
    let s := s.modBranch b fun x => { x with outRun := x.outRun + 1, inRun := 0 }
    let x := s.branchAt b
    if s.isPrimary && s.pn P.curPlausFrames ≤ x.outRun && !x.disagree then
      ((s.setDisagree b true).absorb 2 7 7 0 (toLe 1 b ++ toLeInt 4 m.cur)).notify 0x09
        (toLe 1 b ++ toLeInt 4 m.cur ++ toLeInt 4 c.cur)
    else s
  else
    let s := s.modBranch b fun x => { x with inRun := x.inRun + 1, outRun := 0 }
    if s.pn P.curPlausFrames ≤ (s.branchAt b).inRun then s.setDisagree b false else s

/-- The stamps of a branch not yet compared, oldest first (R83); the records kept lie within 16 frames of each other unless
they are left from before a pause, and a stamp not later than the newest compared has been compared. -/
def State.plausBranch (s : State) (b : Nat) : State :=
  let x := s.branchAt b
  let l := x.mainRecs.reverse.filterMap fun m =>
    if !x.plausKnown || frameLater m.stamp x.plausStamp then (x.checkRecs.find? (·.stamp == m.stamp)).map fun c => (m, c)
    else none
  l.foldl (fun s (m, c) => s.plausStamp b m c) s

/-- R84 for a branch: the CHECK CFE takes over when the MAIN CFE's current has been invalid for more than three frames, or
its own module has lost its port; the MAIN CFE resumes when it is relinked and in bounds. The accumulators have followed the
branch's (`followBranch`), so that it continues from its last value, with the charge since the last good MAIN stamp from the
CHECK CFE. -/
def State.takeover84 (s : State) (b : Nat) : State :=
  let x := s.branchAt b
  let good := match x.checkRecs with
    | r :: _ => r.good
    | [] => false
  let portLost := s.pn P.cfeRole == 1 && s.pn P.branch == b && (s.cfe.lineDown || s.cfe.lost)
  if !x.useCheck && (3 < x.mainInvalidRun || portLost) && good then
    (s.modBranch b fun y => { y with useCheck := true, inRun := 0 }).absorb 2 2 7 0 (toLe 1 b)
  else if x.useCheck && x.mainInvalidRun == 0 && !portLost && s.pn P.curPlausFrames ≤ x.inRun then
    s.modBranch b fun y => { y with useCheck := false }
  else s

/-- The plausibility job of P33: R83 and R84 at every module, and the string current at the primary (R82 to R84). -/
def State.plausibilityJob (s : State) : State :=
  let bl := List.range (s.pn P.ringBranches)
  let s := bl.foldl State.plausBranch s
  bl.foldl State.takeover84 (if s.isPrimary then { s with str.current := s.stringCurrent } else s)

/-! ### CUR_CAL -/

/-- DIAG CUR_CAL (R71). A second one while one measures is answered BUSY (log entry 22). -/
def opCurCal (h : Hdr) (p : List Byte) (s : State) : Ans :=
  if s.power.st ≠ .run ∨ s.grid.mode ≠ .service then fail s .wrongState
  else if s.cfe.calRun.isSome then fail s .busy
  else { st := .deferred, s := { s with cfe.calRun := some { ref := getS p 1 4, cmd := hdrRef h 0xF1 true } } }

/-- DIAG_CUR_CAL. -/
def execDiagCurCal (h : Hdr) (p : List Byte) (s : State) : Host.Outcome State Fault Refusal :=
  .next (runCmd 0xF1 opCurCal h (0x02 :: p) s)

/-- A value is staged by a port; it replaces any value staged for the parameter (17 R416). -/
def State.stage (s : State) (id : Nat) (v : List Int) (by' : Port) : State :=
  let rest := s.ploza.staged.filter fun e => e.id != id
  { s with ploza.staged := rest.filter (fun e => e.id < id) ++ { id := id, val := v, cmd := by' } ::
      rest.filter (fun e => id < e.id) }

/-- CUR_CAL_COMPLETE (R71): the trim is staged, or the measurement ends OUT_OF_RANGE. -/
def execCurCalComplete (s : State) : Host.Outcome State Fault Refusal :=
  .next (match s.cfe.calRun with
    | none => s
    | some c =>
      if c.n < 10000 then s
      else
        let s := { s with cfe.calRun := none }
        let trim := roundAway (((c.ref : Rat) * (c.n : Rat) / (c.sum : Rat) - 1) * 1000000)
        if c.sum = 0 ∨ trim < -20000 ∨ 20000 < trim then s.complete c.cmd .outOfRange 0 0 0 []
        else (s.stage P.curGainTrim [trim] c.cmd.port).complete c.cmd .ok 0 0 0 (toLeInt 4 trim))

end Sys2Proof.Machine
end

