-- ==== Sys2Proof/Machine/Estimation.lean ====
section
/-!
DEFINITION. State of charge, capacity and power limits (06_state_estimation.md): the estimator step of a cell in both
modes, anchors, learning, reporting, health, the module summary and the string figures.
-/

namespace Sys2Proof.Machine

/-! ### Temperature -/

/-- NTC input of a cell, 1 to 16 (07 R194). -/
def State.ntcOf (s : State) (n : Nat) : Nat := min 16 ((n - 1) / max 1 (s.pn P.ntcGroup) + 1)

/-- Temperature of the cell's NTC, 0.01 C; none while it is open. -/
def State.tNtc (s : State) (n : Nat) : Option Int := s.ntc.temp.getD (s.ntcOf n - 1) none

/-- The published cell temperature T_CELL, 0.01 C (07 R194). -/
def State.tCell (s : State) (n : Nat) : Option Rat :=
  let x := s.thermoAt n
  match s.tNtc n with
  | some t => some ((t : Rat) + if x.rRef.isSome then 100 * x.d else 0)
  | none =>
    if x.rRef.isNone then none
    else match x.age, x.tImp with
      | some a, some t => if a ≤ s.pn P.thermoMaxAgeS * 10000 then some (t : Rat) else none
      | _, _ => none

/-- Temperature input of an estimator, 0.01 C, and TEMP_DEFAULT (R140). -/
def State.tempInput (s : State) (n : Nat) : Int × Bool :=
  match s.tCell n with
  | some t => (roundAway t, false)
  | none =>
    let l : List Rat := (s.ntc.temp.filterMap id).map fun t => (t : Rat)
    if l = [] then (2500, true) else (roundAway (meanRat l), false)

/-! ### The model of a cell -/

/-- Quantities of the table at one SoC of a slice (R141). -/
structure CellModel where
  /-- OCV_CHG -/
  ocvC : Rat
  /-- OCV_DIS -/
  ocvD : Rat
  /-- slope of OCV_CHG -/
  slopeC : Rat
  /-- slope of OCV_DIS -/
  slopeD : Rat
  /-- RSER -/
  rser : Rat
  /-- RF -/
  rf : Rat
  /-- RF times CF -/
  tauF : Rat
  /-- RSL -/
  rsl : Rat
  /-- RSL times CSL -/
  tauS : Rat

/-- The model of a slice at `soc`. -/
def modelAt (x : Slice) (soc : Rat) : CellModel :=
  { ocvC := x.get 0 soc, ocvD := x.get 1 soc, slopeC := slopeAt x.xs (x.ys 0) soc, slopeD := slopeAt x.xs (x.ys 1) soc
    rser := x.get 2 soc, rf := x.get 3 soc, tauF := x.get 3 soc * x.get 4 soc, rsl := x.get 5 soc
    tauS := x.get 5 soc * x.get 6 soc }

/-- OCV at hysteresis state `h` (R141). -/
def CellModel.ocv (m : CellModel) (h : Rat) : Rat := m.ocvD + (m.ocvC - m.ocvD) * (1 + h) / 2

/-- Slope of the OCV at hysteresis state `h`. -/
def CellModel.slope (m : CellModel) (h : Rat) : Rat := m.slopeD + (m.slopeC - m.slopeD) * (1 + h) / 2

/-- The SoC at which the OCV at hysteresis state `h` equals `v`, clamped to 0 to 1 (R146); on a flat stretch its midpoint
(08 R202). -/
def socOfOcv (x : Slice) (h v : Rat) : Rat :=
  let ys := (x.ys 1).zipWith (fun d c => d + (c - d) * (1 + h) / 2) (x.ys 0)
  let xs := x.xs
  let k := (ys.takeWhile fun y => y ≤ v).length
  let a := (ys.takeWhile fun y => y < v).length
  let r := if k = 0 then xs.getD 0 0
    else if a + 2 ≤ k then (xs.getD a 0 + xs.getD (k - 1) 0) / 2
    else if ys.length ≤ k then xs.getD (ys.length - 1) 0
    else
      let y0 := ys.getD (k - 1) 0
      let y1 := ys.getD k 0
      xs.getD (k - 1) 0 + (v - y0) * (xs.getD k 0 - xs.getD (k - 1) 0) / (y1 - y0)
  clampRat 0 1 r

/-- sgn with sgn(0) = 0. -/
def sgnRat (x : Rat) : Rat := if 0 < x then 1 else if x < 0 then -1 else 0

/-! ### Filter -/

/-- Element (i, j) of a covariance. -/
def covAt (p : List Rat) (i j : Nat) : Rat := p.getD (4 * i + j) 0

/-- A covariance from its elements. -/
def covOf (f : Nat → Nat → Rat) : List Rat := (List.range 16).map fun k => f (k / 4) (k % 4)

/-- A covariance carried through the Jacobian `f`: f p f' (R142). -/
def covThrough (f : Nat → Nat → Rat) (p : List Rat) : Nat → Nat → Rat := fun r c =>
  ((List.range 4).map fun i => ((List.range 4).map fun j => f r i * covAt p i j * f c j).sum).sum

/-- The part of the prediction of a relaxation voltage that depends on soc, through the table (R142): the derivative of
v exp(-dt / tau) + i kr r (1 - exp(-dt / tau)) where r has the slope `dr` and tau the slope `dtau`. -/
def relaxSlope (v i kr r dr tau dtau dt : Rat) : Rat :=
  let ex := Config.exp (-dt / tau)
  let dex := ex * (dt / tau ^ 2) * dtau
  v * dex + i * kr * (dr * (1 - ex) - r * dex)

/-- Prediction of R142 with the charge `dq` in C over `dt` s; the covariance goes through the Jacobian of its four lines. The
table quantities are those at the soc of the second line. In COUNTING the covariance is not carried. -/
def State.predict (s : State) (e : Est) (x : Slice) (dt dq : Rat) : Est :=
  let q := 3600 * e.q
  let soc := e.soc + dq / q
  let i := dq / dt
  let m := modelAt x soc
  let slope := fun k => slopeAt x.xs (x.ys k) soc
  let a := s.pr P.hystGain * absRat dq / q
  let h := e.h + a * (sgnRat i - e.h)
  let ef := Config.exp (-dt / m.tauF)
  let es := Config.exp (-dt / m.tauS)
  let f := fun r c => match r, c with
    | 0, 0 => (1 : Rat)
    | 1, 0 => relaxSlope e.vf i e.kr m.rf (slope 3) m.tauF (slope 3 * x.get 4 soc + m.rf * slope 4) dt
    | 1, 1 => ef
    | 2, 0 => relaxSlope e.vs i e.kr m.rsl (slope 5) m.tauS (slope 5 * x.get 6 soc + m.rsl * slope 6) dt
    | 2, 2 => es
    | 3, 3 => if h < -1 ∨ 1 < h then 0 else 1 - a
    | _, _ => 0
  let w := fun k => match k with
    | 0 => (s.pr P.estQSoc / 100000) ^ 2 * dt / 3600 | 1 => (1 / 10000) ^ 2 | 2 => (1 / 10000) ^ 2 | _ => 0
  { e with
    soc := soc, i := i, h := clampRat (-1) 1 h
    vf := e.vf * ef + i * e.kr * m.rf * (1 - ef), vs := e.vs * es + i * e.kr * m.rsl * (1 - es)
    p := if s.estMod.counting then e.p else covOf fun r c => covThrough f e.p r c + if r = c then w r else 0 }

/-- A measurement update of R142 at voltage `vm` with noise `r`, against the OCV at `h`; `useH` gives the hysteresis
state its column. The flag says that it was accepted. -/
def measure (e : Est) (x : Slice) (vm r h : Rat) (useH : Bool) : Est × Bool :=
  let m := modelAt x e.soc
  let vp := m.ocv h + e.i * e.kr * m.rser + e.vf + e.vs
  let hm := fun k => match k with
    | 0 => m.slope h | 1 => (1 : Rat) | 2 => 1 | _ => if useH then (m.ocvC - m.ocvD) / 2 else 0
  let ph := fun r => ((List.range 4).map fun c => covAt e.p r c * hm c).sum
  let hp := fun c => ((List.range 4).map fun r => hm r * covAt e.p r c).sum
  let sv := ((List.range 4).map fun r => hm r * ph r).sum + r ^ 2
  let err := vm - vp
  if 25 * sv < err ^ 2 then (e, false)
  else
    let k := fun r => ph r / sv
    ({ e with
       soc := e.soc + k 0 * err, vf := e.vf + k 1 * err, vs := e.vs + k 2 * err, h := e.h + k 3 * err
       p := covOf fun r c => covAt e.p r c - k r * hp c }, true)

/-- The voltage-based SoC at hysteresis state `h` (R146). -/
def Est.socVat (e : Est) (x : Slice) (h : Rat) : Rat := socOfOcv x h e.vle

/-- Offset current of the branch shunt, A (R149): the ZERO_VALID of its record. -/
def State.offsetA (s : State) (zeroValid : Bool) : Rat := (if zeroValid then 50 else 200) / s.pr P.shuntUohm

/-- The published SIGMA as a fraction (R142, R149). -/
def State.sigmaOf (s : State) (e : Est) (zeroValid : Bool) : Rat :=
  if s.estMod.counting then
    let b := (s.offsetA zeroValid * ((e.tSince : Rat) / 1000000000) + e.qThru / 1000 + e.qGaps) / (3600 * e.q)
    Config.sqrt (e.anchorSigma ^ 2 + (b / 2) ^ 2)
  else Config.sqrt (covAt e.p 0 0)

/-! ### Initialisation and modes -/

/-- Covariance with p[soc, soc] = `sigma`^2; the remaining terms start at 0. -/
def covInit (sigma : Rat) : List Rat := covOf fun r c => if r = 0 ∧ c = 0 then sigma ^ 2 else 0

/-- SOC_INIT_SIGMA as a fraction. -/
def State.initSigma (s : State) : Rat := s.pr P.socInitSigma / 10000

/-- CELL_RATED_AH in Ah. -/
def State.ratedAh (s : State) : Rat := s.pr P.cellRatedAh / 100

/-- A cell waits for its first step (R152), with the state held for it or without. -/
def State.initCell (s : State) (n : Nat) (keep : Bool) : State :=
  s.modEst n fun e =>
    { saved := if keep then e.saved else none, q := s.ratedAh, cq := e.cq, cqRem := e.cqRem, tUsed := e.tUsed
      fTempDefault := e.fTempDefault, lastBridge := e.lastBridge, smpLast := e.smpLast }

/-- Every cell waits for its first step, and the ages of the module are those held with the cells (R153); at a start-up
from cold the net charge counters start afresh (R150, R152). -/
def State.initCells (s : State) (keep cold : Bool) : State :=
  let s := (List.range 96).foldl (fun s i => s.initCell (i + 1) keep) s
  let s := match (if keep then s.est.findSome? (·.saved) else none) with
    | some v => { s with estMod.anchorNs := v.anchorAge, estMod.restAgeNs := v.restAge }
    | none => s
  if cold then { s with est := s.est.map fun (e : Est) => { e with cq := 0, cqRem := 0 } } else s

/-- What a cell keeps over DOZE (R153): the stored state. DESIGN CHOICE (log entry 87): what R153 does not store starts as at an
initialisation, and the next step covers the interval from the step before DOZE (R137). -/
def State.restoreCell (s : State) (n : Nat) : State :=
  s.modEst n fun e => match e.saved with
    | some v => if !e.inited then e else
      { e with
        soc := v.soc, vf := 0, vs := 0, h := v.h, p := covInit v.sigma, sigma := v.sigma, q := v.q, qNext := none, kr := v.kr
        pts := v.pts, learnDue := false, rep := clampRat 0 10000 (v.soc * 10000), withheld := 0, ivl := [], rejectRun := 0
        restNs := 0, restTaken := false, krSamples := [], noVolt := 0, anchorSigma := v.sigma, tSince := 0, qThru := 0
        qGaps := 0, emptyNow := false, fFloorHold := false, fVoltEmpty := false, fWithholding := false, fSlewDown := false
        fStale := false, fRest := false, reserve := 0 }
    | none => e

/-- The state written for a cell (R153). -/
def State.savedOf (s : State) (e : Est) : SavedEst :=
  { soc := e.soc, sigma := e.sigma, h := e.h, q := e.qNext.getD e.q, kr := e.kr, pts := e.pts, anchorAge := s.estMod.anchorNs
    restAge := s.estMod.restAgeNs }

/-- The estimator state of every initialised cell is written to the wake and health region (R153). -/
def State.saveEst (s : State) : State :=
  { s with est := s.est.map fun (e : Est) => if e.inited then { e with saved := some (s.savedOf e) } else e }

/-- ESTIMATOR_STATE_SAVE (R153), every 36,000,000 frames. -/
def execEstimatorStateSave (s : State) : Host.Outcome State Fault Refusal :=
  .next (if s.grid.validFrames % 36000000 = 0 then s.saveEst else s)

/-- One cell goes from BLENDED to COUNTING: SIGMA becomes the anchor sigma (R151). -/
def Est.toCounting (e : Est) : Est := { e with anchorSigma := e.sigma, tSince := 0, qThru := 0, qGaps := 0 }

/-- One cell goes from COUNTING to BLENDED (R151). -/
def Est.toBlended (e : Est) : Est := { e with p := covInit e.sigma, gapNew := 0, rejectRun := 0 }

/-- The module changes its effective mode (R151). -/
def State.setCounting (s : State) (c : Bool) : State :=
  if s.estMod.counting = c then s
  else
    { s with
      estMod.counting := c
      estMod.anchorNs := if c then 0 else s.estMod.anchorNs
      est := s.est.map fun (e : Est) => if c then e.toCounting else e.toBlended }

/-- EST_MODE acts at the first step whose window opens at or after the commit frame (R151, R168). A module that the host
sets to BLENDED is not starved of anchors any more. -/
def State.applyEstMode (s : State) : State :=
  if s.pn P.estMode = 0 then
    { s.setCounting false with estMod.autoBlended := false, estMod.anchorStarved := false }
  else if s.estMod.autoBlended then s
  else s.setCounting true

/-! ### Learning -/

/-- A period that makes a pair of learning points unusable follows the newest point (R150); a point of the present step,
which has not been paired yet, comes after the period. -/
def Est.breakPts (e : Est) : Est :=
  { e with pts := match e.pts, e.learnDue with
    | [], _ => []
    | p :: rest, false => { p with broken := true } :: rest
    | p :: old :: rest, true => p :: { old with broken := true } :: rest
    | [p], true => [p] }

/-- The new capacity from a pair of points (R150); none: the pair is not used; some none: it is rejected. -/
def State.learned (s : State) (q : Rat) (new old : LearnPt) : Option (Option Rat) :=
  let ds := absRat (new.soc - old.soc)
  if ds < s.pr P.capLearnMinDsoc / 10000 ∨ old.broken = true then none
  else
    let qm := absRat ((new.cq : Rat) - (old.cq : Rat)) / ds / 3600000000
    if 1 / 5 < absRat (qm / q - 1) then some none
    else
      let lim := s.pr P.capLearnStepMax / 1000 * q
      some (some (q + clampRat (-lim) lim (s.pr P.capLearnGain / 100 * (qm - q))))

/-- A learning point of cell `n` (R150). When an anchor falls in the step of a rest point, only the anchor is recorded
(R151). -/
def State.learnPoint (s : State) (n : Nat) : State :=
  s.modEst n fun e =>
    let prev := match e.pts with
      | p :: rest => if p.stamp == e.lastStamp then rest else p :: rest
      | [] => []
    { e with pts := ({ stamp := e.lastStamp, soc := e.soc, cq := e.cq } :: prev).take 2, learnDue := true, fGapBound := false }

/-- The newest point is paired with the previous one, once the anchors of its step are known; the new capacity applies from
the next step (R150). -/
def State.pairPoint (s : State) (n : Nat) : State :=
  let e := s.estAt n
  if !e.learnDue then s
  else
    let s := s.modEst n fun e => { e with learnDue := false }
    match e.pts with
    | new :: old :: _ => match s.learned e.q new old with
      | none => s
      | some none => s.absorb 6 3 ((s.slotAt ((n - 1) / 3)).pan.getD 0xFF) n []
      | some (some q) => s.modEst n fun e => { e with qNext := some q }
    | _ => s

/-! ### Anchors -/

/-- What an anchor does to one cell (R147 to R149): `zero` for the cell that is empty in COUNTING. DESIGN CHOICE (log entry
96): in BLENDED the update gives h no column, the 25 s gate applies to it, and its rejection is not counted. -/
def State.anchorCell (s : State) (n : Nat) (h sigma : Rat) (zero : Bool) : State :=
  let e := s.estAt n
  let x := s.sliceAt n
  if !e.inited || (e.fStale && !zero) then s
  else
    let s := s.modEst n fun e =>
      if s.estMod.counting then
        { e with soc := if zero then 0 else e.socVat x h, h := h, anchorSigma := sigma, sigma := sigma, tSince := 0
                 qThru := 0, qGaps := 0 }
      else
        let e := (measure e x e.vm (1 / 1000) h false).1
        { e with soc := clampRat (-1) 2 e.soc, h := h, sigma := Config.sqrt (covAt e.p 0 0) }
    s.learnPoint n

/-- A FULL or EMPTY anchor of the module (R147 to R149), EMPTY with the cells that met its condition; one that has switched
itself to BLENDED returns to COUNTING, initialised from it (R161). -/
def State.anchor (s : State) (full : Bool) (empty : List Nat) : State :=
  let s := if s.estMod.autoBlended then { s with estMod.autoBlended := false }.setCounting true else s
  let s := { s with estMod.anchorNs := 0, estMod.anchorStarved := false }
  (List.range s.cells).foldl (fun s i =>
    s.anchorCell (i + 1) (if full then 1 else -1) (if full then 1 / 200 else 1 / 100) (!full && empty.contains (i + 1))) s

/-- 5 % of CELL_RATED_AH in uC. -/
def State.rearm (s : State) : Rat := s.ratedAh / 20 * 3600000000

/-- Re-arming of the anchors by the branch accumulator (R147, R148). -/
def State.rearmAnchors (s : State) (acc : Int) : State :=
  { s with
    estMod.fullArmed := s.estMod.fullArmed || decide (s.rearm ≤ ((s.estMod.fullAcc - acc : Int) : Rat))
    estMod.emptyArmed := s.estMod.emptyArmed || decide (s.rearm ≤ ((acc - s.estMod.emptyAcc : Int) : Rat)) }

/-- The EMPTY condition of cell `n` in its step (R148, R156). -/
def State.emptyCheck (s : State) (n : Nat) : State :=
  let rest := s.pr P.iRestMa / 1000
  let lim := s.pr P.vEmptyMv / 10000
  s.modEst n fun e =>
    if e.vle ≤ lim ∧ e.i < -rest then { e with emptyNow := true, fVoltEmpty := true, fFloorHold := false, reserve := 0 }
    else if lim + 1 / 20 < e.vle ∨ rest < e.i then { e with fVoltEmpty := false }
    else e

/-- COUNT_DRIFT of cell `n` (R155, R156): est and SoC_v. -/
def State.countDrift (s : State) (n : Nat) : State :=
  let e := s.estAt n
  s.absorb 6 2 ((s.slotAt ((n - 1) / 3)).pan.getD 0xFF) n
    (toLeInt 2 (clampInt (-10000) 20000 (roundAway (e.soc * 10000))) ++ u16 10000 (roundAway (e.socV * 10000)).toNat)

/-- The EMPTY anchor (R148), in the module's step; the count of a cell that still showed charge has drifted (R156). -/
def State.emptyAnchor (s : State) (acc : Int) : State :=
  let hits := (List.range s.cells).map (· + 1) |>.filter fun n => (s.estAt n).emptyNow
  let s := { s with est := s.est.map fun (e : Est) => { e with emptyNow := false } }
  if hits = [] ∨ s.estMod.emptyArmed = false then s
  else
    let s := hits.foldl (fun s n => if 0 < (s.estAt n).soc then s.countDrift n else s) s
    { s with estMod.emptyArmed := false, estMod.emptyAcc := acc }.anchor false hits

/-- The FULL anchor (R147), in the module's step of length `dt` ns. -/
def State.fullCheck (s : State) (dt : Nat) (cur : Int) (acc : Int) : State :=
  let top := ((List.range s.cells).map fun i => (s.estAt (i + 1)).vm).foldl max 0
  let ok := decide (0 < cur) && decide (cur ≤ s.pv P.iFullMa) && decide ((s.pr P.vFullMv - s.pr P.vFullTolMv) / 10000 ≤ top)
  let t := if ok then s.estMod.fullNs + dt else 0
  let s := { s with estMod.fullNs := t }
  if ok && s.pn P.tFullS * 1000000000 ≤ t && s.estMod.fullArmed then
    { s with estMod.fullArmed := false, estMod.fullAcc := acc }.anchor true []
  else s

/-! ### Reporting -/

/-- R154 and R155 for one cell after its step of `dt` s. -/
def State.report154 (s : State) (n : Nat) (dt dq : Rat) : State :=
  let e := s.estAt n
  let rest := s.pr P.iRestMa / 1000
  let est := e.soc * 10000
  let base := e.rep + 10000 * dq / (3600 * e.q)
  let corr := est - base
  let down := decide (corr < 0) && decide (est < base - 200 * dt)
  let raw := if corr < 0 then max est (base - 200 * dt)
    else if e.i < -rest then base
    else min est (base + 50 * dt)
  let enter := decide (est ≤ 0) && decide (s.pr P.floorMargin / 10000 ≤ e.socV) && !e.emptyNow
  let hold := (e.fFloorHold && decide (est ≤ 0)) || enter
  let rep := if hold then 0 else clampRat 0 10000 raw
  let wh := max 0 (est - rep)
  let dis := decide (e.i < -rest)
  let s' := s.modEst n fun e =>
    { e with rep := rep, withheld := wh, fDischarge := dis, fWithholding := decide (0 < wh) && dis, fSlewDown := down
             fFloorHold := hold, reserve := if hold then e.socV * e.q else 0 }
  if hold && !e.fFloorHold then s'.countDrift n else s'

/-! ### The step of a cell -/

/-- The newest record of this module's branch whose stamp the cell has a sample of (R138). -/
def State.usable (s : State) (n : Nat) : Option CurRec :=
  (s.branchAt (s.pn P.branch)).inUse.find? fun r => (s.chanAt n).hist.any (·.stamp == r.stamp)

/-- Usable for the voltage input (R139). -/
def Smp.usable (x : Smp) : Bool := !x.held && !x.invalid && !x.clipped && !x.unc

/-- The samples of cell `n` in the interval of a step that ends at stamp `b` (R137). -/
def State.between (s : State) (n : Nat) (b : Word) : List Ivl := (s.estAt n).ivl.filter fun x => !frameLater x.stamp b

/-- Voltage input of the interval in V (R139); none: the step is prediction-only. -/
def voltageInput (l : List Ivl) : Option Rat :=
  let u := l.filter Ivl.usable
  if u = [] ∨ 2 * u.length < l.length then none
  else some (meanRat (u.map fun x => ((x.vc : Int) : Rat)) / 1000000)

/-- Spectroscopy excitation runs on the string (R144): at the primary, which injects it, while g is not 0; elsewhere as the
sweep and the primary's control records have it. -/
def State.excRuns (s : State) : Bool :=
  if s.isPrimary then s.eis.g != 0
  else (s.eis.kind == .hostActive && !s.eis.halted && (s.eis.st == .on || s.eis.st == .draining ||
      (s.eis.st == .starting && (s.eis.sweep.map fun w => decide ((w.s0 - s.grid.frame).toNat ≤ 20)).getD false))) ||
    (s.eis.kind == .watch && s.eis.watchActive)

/-- Active cells with an estimate. -/
def State.estCells (s : State) : List Nat :=
  ((List.range s.cells).map (· + 1)).filter fun n => (s.estAt n).inited

/-- The charge of cell `n` over the interval, in C (R138). -/
def State.stepCharge (s : State) (e : Est) (r : CurRec) (l : List Ivl) : Rat :=
  (((r.acc - e.lastAcc : Int) : Rat) - (l.map fun x => x.balUc + x.drawUc).sum -
    ((s.power.bridgeUc - e.lastBridge : Int) : Rat)) / 1000000

/-- The counters of a step: CQ, the time and throughput since the anchor, the gap bound (R149, R150). -/
def State.stepCounters (s : State) (e : Est) (r : CurRec) (dtNs : Nat) (dq : Rat) : Est :=
  let t := e.cqRem + dq * 1000000
  let k := (3600 * e.q)
  let e := { e with
    cq := e.cq + t.floor, cqRem := t - t.floor, tSince := e.tSince + dtNs, qThru := e.qThru + absRat dq
    lastStamp := r.stamp, lastTime := r.time, lastAcc := r.acc, lastBridge := s.power.bridgeUc
    fHeld := false }
  if e.gapNew = 0 then e
  else if s.estMod.counting then { e with qGaps := e.qGaps + e.gapNew, gapNew := 0, fGapBound := true }
  else { e with p := covOf fun a b => covAt e.p a b + (if a = 0 ∧ b = 0 then (e.gapNew / (2 * k)) ^ 2 else 0)
                gapNew := 0, fGapBound := true }

/-- The filter of a cell is re-initialised after 50 rejected steps (R143). -/
def State.reinit (s : State) (n : Nat) : State :=
  let s' := s.modEst n fun e =>
    ({ e with soc := e.socV, vf := 0, vs := 0, h := sgnRat e.i, rejectRun := 0
              p := e.p.set 0 (s.initSigma ^ 2) } : Est).breakPts
  s'.absorb 6 1 ((s.slotAt ((n - 1) / 3)).pan.getD 0xFF) n []

/-- NTC inputs within 1.00 C of one another (07 R198). -/
def State.ntcClose (s : State) : Bool :=
  let l := s.ntc.temp.filterMap id
  l != [] && l.foldl max (-40000) - l.foldl min 40000 ≤ 100

/-- Rest of a cell after its step (R144, 07 R198): the step is a rest point. -/
def State.restOf (s : State) (e : Est) (dtNs : Nat) (sw : Bool) : Est × Bool :=
  let at' := decide (absRat e.i ≤ s.pr P.iRestMa / 1000) && !s.excRuns && !sw
  let t := if at' then e.restNs + dtNs else 0
  let qual := (at' && !e.restTaken && decide (s.pn P.restSettleS * 1000000000 ≤ t)) || e.restDue
  ({ e with restNs := t, fRest := at' }, qual)

/-- The rest of a cell that ended lasted long enough for a re-reference (07 R198). -/
def State.rerefStart (s : State) (n : Nat) (was : Est) : State :=
  if was.restTaken && !(s.estAt n).fRest && s.pb P.thermoReref && s.ntcClose &&
      s.pn P.thermoEquilS * 1000000000 ≤ was.restNs then
    s.modThermo n fun x => { x with rerefWin := 3000000 }
  else s

/-- The last line of R142; the count of a COUNTING module has no bound (R145). -/
def State.clampSoc (s : State) (x : Rat) : Rat := if s.estMod.counting then x else clampRat (-1) 2 x

/-- The measurement part of a step with voltage `vm` (R142, R143, R146). -/
def State.measureStep (s : State) (n : Nat) (vm : Rat) (qual : Bool) : State :=
  let x := s.sliceAt n
  let e := s.estAt n
  let m := modelAt x e.soc
  let r0 := s.pr P.estRUv / 1000000
  let r := if qual then r0 else r0 + s.pr P.estModelErr / 100 * absRat e.i * e.kr * m.rser
  let (e, ok) := if s.estMod.counting then (e, true) else measure e x vm r e.h true
  let m := modelAt x e.soc
  let vle := vm - e.i * e.kr * m.rser - e.vf - e.vs
  let e := { e with soc := s.clampSoc e.soc, vm := vm, vle := vle, socV := socOfOcv x e.h vle
                    rejectRun := if ok then 0 else e.rejectRun + 1, rejects := if ok then e.rejects else e.rejects + 1 }
  let s := s.modEst n fun _ => e
  if e.rejectRun = 50 then s.reinit n else s

/-- A rest point or a qualifying rest in COUNTING (R144, R150, R158). -/
def State.restPoint (s : State) (n : Nat) : State :=
  let s := s.modEst n fun e => { e with restTaken := true, restDue := false, fGapBound := e.fGapBound && s.estMod.counting }
  let s := { s with estMod.restAgeNs := 0, estMod.restStarved := false }
  if s.estMod.counting then s else s.learnPoint n

/-- The first step after an initialisation (R152), with voltage `vm` and the current of record `r`; after a long enough stay in
DOZE or APHELION it takes a rest point (R153). DESIGN CHOICE (log entry 88): with no state held, RSER is read at 50 %. A
COUNTING module takes the stored SIGMA as its anchor sigma, and its counts since the anchor start afresh. -/
def State.firstStep (s : State) (n : Nat) (r : CurRec) (vm : Rat) : State :=
  let x := s.sliceAt n
  let e := s.estAt n
  let i : Rat := (r.cur : Rat) / 1000
  let kr := (e.saved.map (·.kr)).getD 1
  let m := modelAt x ((e.saved.map (·.soc)).getD (1 / 2))
  let vle := vm - i * kr * m.rser
  let h := (e.saved.map (·.h)).getD (sgnRat i)
  let socV := socOfOcv x h vle
  let s0 := s.initSigma
  let far := match e.saved with
    | none => true
    | some v => decide (9 * (v.sigma ^ 2 + s0 ^ 2) < (v.soc - socV) ^ 2)
  let soc := if far then socV else (e.saved.map (·.soc)).getD socV
  let sigma := if far then s0 else (e.saved.map (·.sigma)).getD s0
  let s' := s.modEst n fun e =>
    { e with
      inited := true, fInvalid := false, soc := soc, vf := 0, vs := 0, h := h, p := covInit sigma, sigma := sigma
      anchorSigma := sigma, q := (e.saved.map (·.q)).getD s.ratedAh, kr := kr
      pts := match e.saved with
        | some v => (match v.pts with
          | p :: rest => { p with broken := true } :: rest
          | [] => [])
        | none => []
      ivl := e.ivl.filter fun y => frameLater y.stamp r.stamp
      withheld := 0, lastStamp := r.stamp, lastTime := r.time, lastAcc := r.acc, lastBridge := s.power.bridgeUc, lastKr := r.stamp, vm := vm, i := i, vle := vle, socV := socV
      sohC := (e.saved.map (·.q)).getD s.ratedAh / s.ratedAh, sohR := kr }
  let s' := if far && e.saved.isSome then s'.absorb 6 4 ((s.slotAt ((n - 1) / 3)).pan.getD 0xFF) n [] else s'
  let s' := if e.restDue then (if s.estMod.counting then s' else s'.measureStep n vm true).restPoint n else s'
  s'.modEst n fun e => { e with rep := clampRat 0 10000 (e.soc * 10000), sigma := s'.sigmaOf e (r.flags.getLsbD 6) }

/-- The step of a cell after its first (R137 to R156). -/
def State.nextStep (s : State) (n : Nat) (r : CurRec) : State :=
  let was := s.estAt n
  let was := { was with q := was.qNext.getD was.q, qNext := none }
  let l := s.between n r.stamp
  let dtNs := (r.time - was.lastTime).toNat
  let dt : Rat := (dtNs : Rat) / 1000000000
  let dq := s.stepCharge was r l
  let e := s.predict was (s.sliceAt n) dt dq
  let e := s.stepCounters e r dtNs dq
  let (e, qual) := s.restOf e dtNs (l.any (·.sw))
  let e := if e.fRest then e else { e with restTaken := false }
  let vm := voltageInput l
  let s := s.modEst n fun _ =>
    { e with ivl := was.ivl.filter fun x => frameLater x.stamp r.stamp, rejectRun := if vm.isSome then e.rejectRun else 0 }
  let s := s.rerefStart n was
  let s := match vm with
    | some v =>
      let s := (s.measureStep n v qual).emptyCheck n
      if qual then s.restPoint n else s
    | none => s.modEst n fun e =>
      { e with soc := s.clampSoc e.soc, fVoltEmpty := e.fVoltEmpty && decide (e.i ≤ s.pr P.iRestMa / 1000) }
  let s := s.modEst n fun e => { e with sigma := s.sigmaOf e (r.flags.getLsbD 6) }
  s.report154 n dt dq

/-- The estimator step of cell `n` (R137, R152): none without a slice (08 R205), without a usable stamp later than the
last, or, at the first step, without a voltage. -/
def State.stepCell (s : State) (n : Nat) : State :=
  if (s.sliceAt n).vals = [] then s
  else match s.usable n with
    | none => s
    | some r =>
      if r.invalid then s
      else if (s.estAt n).inited then
        (if frameLater r.stamp (s.estAt n).lastStamp then s.nextStep n r else s)
      else match voltageInput ((s.between n r.stamp).filter fun x => frameLater x.stamp (r.stamp - 10)) with
        | some v => s.firstStep n r v
        | none => s

/-- A gap bridged by estimate, or a DOZE gap, ends in the interval after stamp `a` up to `b` (R150): a record shows CHARGE_GAP
that the one before it did not show, or after a current that was HELD, INVALID or missing. -/
def State.gapIn (s : State) (a b : Word) : Bool :=
  let l := (s.branchAt (s.pn P.branch)).inUse
  l.any fun r => frameLater r.stamp a && !frameLater r.stamp b && r.flags.getLsbD 4 &&
    (match l.find? fun x => x.stamp == r.stamp - 1 with
     | some x => !x.flags.getLsbD 4 || x.flags.getLsbD 0 || x.flags.getLsbD 1
     | none => l.any fun x => frameLater r.stamp x.stamp)

/-- The module's part of a step, with the newest record `r` used: ages, re-arming, CHARGE_GAP, the anchors, and the pairing of
the learning points (R147, R148, R150, R158, R161). -/
def State.moduleStep (s : State) (r : CurRec) : State :=
  let dt := (s.estMod.lastTime.map fun t => (r.time - t).toNat).getD 0
  let s := if s.estMod.lastTime.isSome && s.gapIn s.estMod.lastStamp r.stamp then { s with est := s.est.map Est.breakPts } else s
  let s := { s with
    estMod.lastTime := some r.time, estMod.lastStamp := r.stamp
    estMod.restAgeNs := s.estMod.restAgeNs + dt, estMod.anchorNs := s.estMod.anchorNs + dt }
  let s := ((s.rearmAnchors r.acc).fullCheck dt r.cur r.acc).emptyAnchor r.acc
  (List.range s.cells).foldl (fun s i => s.pairPoint (i + 1)) s

/-- The step jobs of every other cell slot have run: the job of slot `k` carries the module's part of the step. -/
def State.stepsDone (s : State) (k : Nat) : Bool :=
  !s.sched.pending.any fun x => x.job == .blended && x.slot != k && s.roleRuns x.slot && decide (x.rel ≤ s.sched.no)

/-- The BLENDED step job of a cell pan (R137). -/
def State.stepJob (s : State) (k : Nat) : State :=
  let s := (s.slotCells k).foldl State.stepCell s
  if s.stepsDone k then
    match (s.estCells.head?).bind s.usable with
    | some r => if s.estMod.lastTime = some r.time then s else s.moduleStep r
    | none => s
  else s

/-- A withheld step: the outputs of the previous one are repeated (04 R103). -/
def State.holdStep (s : State) (k : Nat) : State :=
  (s.slotCells k).foldl (fun s n => s.modEst n fun e => { e with fHeld := true }) s

/-! ### What the scaling job does for the estimator -/

/-- Resistance samples of the current steps not yet looked at (R162). -/
def State.krScan (s : State) (n : Nat) : State :=
  let e := s.estAt n
  let x := s.sliceAt n
  let l := (s.branchAt (s.pn P.branch)).inUse
  let hist := (s.chanAt n).hist
  let get := fun t => match l.find? (fun r => r.stamp == t), hist.find? (fun y => y.stamp == t) with
    | some r, some y => if r.invalid || !y.usable then none else some (r.cur, y.vc)
    | _, _ => none
  if x.vals = [] || !e.inited then s
  else
    let rser := (modelAt x e.soc).rser
    let new := (l.filter fun r => frameLater r.stamp e.lastKr && hist.any (·.stamp == r.stamp)).reverse
    let out := new.filterMap fun r => match get r.stamp, get (r.stamp - 2) with
      | some (i1, v1), some (i0, v0) =>
        if e.q * 200 ≤ absRat (((i1 - i0 : Int)) : Rat) then
          some (((v1 - v0 : Int) : Rat) / (((i1 - i0 : Int) : Rat) * 1000 * rser))
        else none
      | _, _ => none
    s.modEst n fun e => { e with krSamples := e.krSamples ++ out, lastKr := (new.getLast?.map (·.stamp)).getD e.lastKr }

/-- The offset d(n) decays while no estimate has been accepted for THERMO_MAX_AGE_S (07 R194): `k` frames. -/
def State.thermoDecay (s : State) (n k : Nat) : State :=
  let age := s.pn P.thermoMaxAgeS
  s.modThermo n fun x => match x.age with
    | some a => if a ≤ age * 10000 then x else { x with d := x.d * Config.exp (-(k : Rat) / (10000 * (age : Rat))) }
    | none => x

/-- Frames that one window stands for (05 R113). -/
def State.windowFrames (s : State) : Nat := if s.power.st = .watch then 10 else 1

/-- The sample that the window processes, as a step takes it, `k` frames after the one before it (R138, R139). -/
def ivlOf (t : Word) (k : Nat) (x : Smp) : Ivl :=
  let f : Rat := (k : Nat)
  { stamp := t, frames := k, vc := x.vc, usable := x.usable, sw := x.sw, balUc := f * (x.cur : Rat) * (x.frac8 : Rat) / 800
    drawUc := f * ((if x.draw.getLsbD 0 then 1 / 4 else 0) + if x.draw.getLsbD 1 then 3 / 50 else 0) }

/-- What the estimator takes from each processed sample: the interval of the step, the time without a voltage, the temperature
input and current steps (R138 to R140, R162, 08 R204). All of it goes by the stamps, not by the windows (01 R25). -/
def State.estWindow (s : State) (n : Nat) : State :=
  let t := s.sched.stamp
  let k := match (s.estAt n).smpLast with
    | some u => (t - u).toNat
    | none => s.windowFrames
  let x := ((s.chanAt n).hist.find? fun x => x.stamp == t).getD { stamp := t }
  let (temp, df) := s.tempInput n
  let s := s.modEst n fun e =>
    let nv := if x.usable then 0 else e.noVolt + k
    let lapse := decide (e.noVolt < 30000) && (if x.usable then decide (30000 < e.noVolt + k) else decide (30000 ≤ nv))
    let ivl := e.ivl ++ [ivlOf t k x]
    let e := { e with
      ivl := if e.inited then ivl else ivl.drop (ivl.length - 24)
      smpLast := some t, noVolt := nv, fStale := decide (30000 ≤ nv), tUsed := temp, fTempDefault := df }
    if lapse then e.breakPts else e
  let s := if s.sliceStale n && (s.sliceAt n).vals != [] then s.wantSlice n else s
  (s.thermoDecay n k).krScan n

/-- The scaling job of a cell pan (02 R43, with what the estimator takes from each window). -/
def State.scaleJob (s : State) (k : Nat) (held : Bool) : State :=
  (s.slotCells k).foldl (fun s n => (if held then s.holdCell n else s.scaleCell n).estWindow n) s

/-! ### Health -/

/-- The health update of one cell (R162, R163). -/
def State.healthCell (s : State) (n : Nat) : State :=
  let e := s.estAt n
  if !e.inited then s
  else
    let kr := e.krSamples.foldl (fun k x => clampRat (1 / 2) 4 (k + (x - k) / 100)) e.kr
    let c := e.q / s.ratedAh
    let cl := s.pr P.eolCapPct / 10000
    let rl := s.pr P.eolRPct / 100
    let ec := if c ≤ cl then true else if cl + 1 / 100 ≤ c then false else e.fEolCap
    let er := if rl ≤ kr then true else if kr ≤ rl - 1 / 100 then false else e.fEolR
    let s' := s.modEst n fun e => { e with kr := kr, krSamples := [], sohC := c, sohR := kr, fEolCap := ec, fEolR := er }
    let pct := fun (x : Rat) => u16 0xFFFE (roundAway (x * 10000)).toNat
    let s' := if ec && !e.fEolCap then s'.notify 0x10 (toLe 1 n ++ toLe 1 1 ++ pct c) else s'
    if er && !e.fEolR then s'.notify 0x10 (toLe 1 n ++ toLe 1 2 ++ pct kr) else s'

/-- The health update job of a cell pan. -/
def State.healthJob (s : State) (k : Nat) : State := (s.slotCells k).foldl State.healthCell s

/-! ### Module summary and power limits -/

/-- Integral of a piecewise linear function from the first breakpoint to `b`, by the trapezoid rule over the
breakpoints (R164). -/
def integTo (xs ys : List Rat) (b : Rat) : Rat :=
  ((List.range (xs.length - 1)).map fun i =>
    let x0 := xs.getD i 0
    let x1 := min b (xs.getD (i + 1) 0)
    if x1 ≤ x0 then 0 else (x1 - x0) * (ys.getD i 0 + interp xs ys x1) / 2).sum

/-- Energy of cell `n` between two SoC values, Wh (R164). -/
def State.energy (s : State) (n : Nat) (a b : Rat) : Rat :=
  let x := s.sliceAt n
  (s.estAt n).q * (integTo x.xs (x.ys 1) b - integTo x.xs (x.ys 1) a)

/-- The reported SoC as the host sees it, 0.01 %. -/
def Est.repInt (e : Est) : Nat := (roundAway e.rep).toNat

/-- Reported SoC as a fraction. -/
def Est.repFrac (e : Est) : Rat := e.rep / 10000

/-- SIGMA as reported, 0.01 %. -/
def Est.sigmaInt (e : Est) : Nat := satTo 10000 (roundAway (e.sigma * 10000)).toNat

/-- Q_AVAIL in Ah (R164); none with no estimate. -/
def State.qAvail (s : State) : Option Rat :=
  match s.estCells.map fun n => (s.estAt n).repFrac * (s.estAt n).q with
  | [] => none
  | x :: l => some (l.foldl min x)

/-- The energy sums E_OWN, E_FULL and E_REM in Wh (R164). -/
def State.energies (s : State) : Rat × Rat × Rat :=
  let qs : Rat := match s.str.qAvailStr with
    | some v => (v : Rat) / 100
    | none => s.qAvail.getD 0
  let l := s.estCells
  let sum := fun (f : Nat → Rat) => (l.map f).sum
  (sum fun n => s.energy n 0 (s.estAt n).repFrac, sum fun n => s.energy n 0 1,
   sum fun n => s.energy n ((s.estAt n).repFrac - qs / (s.estAt n).q) (s.estAt n).repFrac)

/-- FLAGS of Table 6.6. -/
def State.summaryFlags (s : State) : BitVec 16 :=
  let l := (List.range s.cells).map fun i => s.estAt (i + 1)
  ofBits 16 fun b => match b with
    | 0 => l.any (·.fStale) | 1 => l.any (·.fVoltEmpty) | 2 => l.any (·.fFloorHold) | 3 => l.all fun e => e.inited && e.fRest
    | 4 => s.estMod.restStarved | 5 => s.estMod.halved | _ => false

/-- The cell of the lowest reported SoC. -/
def State.minCell (s : State) : Option Nat :=
  s.estCells.foldl (fun b n => match b with
    | none => some n
    | some m => if (s.estAt n).rep < (s.estAt m).rep then some n else some m) none

/-- The module summary record (R164, R170). -/
def State.buildSummary (s : State) : Summary :=
  let (own, full, rem) := s.energies
  let tenth := fun (x : Rat) => satTo 0xFFFFFFFE (roundAway (x * 10)).toNat
  let stamp := (s.estCells.map fun n => (s.estAt n).lastStamp).foldl (fun a t => if frameLater t a then t else a)
    ((s.estAt (s.estCells.headD 1)).lastStamp)
  { branch := s.pn P.branch, pos := s.ring.position, flags := s.summaryFlags, stamp := stamp
    socMin := (s.minCell.map fun n => (s.estAt n).repInt).getD 0xFFFF, minCell := s.minCell.getD 0, cells := s.cells
    sigmaMin := (s.minCell.map fun n => (s.estAt n).sigmaInt).getD 0xFFFF
    qAvail := (s.qAvail.map fun x => satTo 0xFFFE (roundAway (x * 100)).toNat).getD 0xFFFF
    qAvailStr := if s.isPrimary then s.str.qAvailStr.getD 0xFFFF else 0xFFFF
    eRem := tenth rem, eOwn := tenth own, eFull := tenth full
    iChg := s.estMod.iChg, iDis := s.estMod.iDis, vOpen := s.estMod.vOpen, rSum := s.estMod.rSum }

/-- The 84 bytes of Table 6.6. -/
def summaryBytes (x : Summary) : List Byte :=
  withCrc (toLe 1 0x32 ++ toLe 1 (pack [(7, 1, x.branch), (0, 3, x.pos)]) ++ toLe 2 x.flags.toNat ++ w32 x.stamp ++
    toLe 2 x.socMin ++ toLe 1 x.minCell ++ toLe 1 x.cells ++ toLe 2 x.sigmaMin ++ toLe 2 x.qAvail ++ toLe 2 x.qAvailStr ++
    zeros 2 ++ toLe 4 x.eRem ++ toLe 4 x.eOwn ++ toLe 4 x.eFull ++
    (List.range 3).flatMap fun j =>
      toLe 4 (x.iChg.getD j 0) ++ toLe 4 (x.iDis.getD j 0) ++ toLe 4 (x.vOpen.getD j 0) ++ toLe 4 (x.rSum.getD j 0))

/-- 84 bytes read as a summary; none when TYPE or CRC is wrong. -/
def summaryOf (bs : List Byte) : Option Summary :=
  if bs.length == 84 && getB bs 0 == 0x32 && crcGood 80 bs then
    let src := (getB bs 1).toNat
    let four := fun off => (List.range 3).map fun j => getU bs (off + 16 * j) 4
    some { branch := src / 128, pos := src % 8, flags := BitVec.ofNat 16 (getU bs 2 2), stamp := BitVec.ofNat 32 (getU bs 4 4)
           socMin := getU bs 8 2, minCell := getU bs 10 1, cells := getU bs 11 1, sigmaMin := getU bs 12 2
           qAvail := getU bs 14 2, qAvailStr := getU bs 16 2, eRem := getU bs 20 4, eOwn := getU bs 24 4
           eFull := getU bs 28 4, iChg := four 32, iDis := four 36, vOpen := four 40, rSum := four 44 }
  else none

/-- A summary is kept for its position; one from the primary brings Q_AVAIL_STR (R164, R166). -/
def State.takeSummary (s : State) (x : Summary) : State :=
  let s := { s with str.sums := setAt s.str.sums x.pos (some x) }
  if x.pos = s.ring.primary ∧ x.qAvailStr ≠ 0xFFFF then { s with str.qAvailStr := some x.qAvailStr } else s

/-- The summary job of P33 (R164): the record is kept and goes to the uplink, in place of one that has not started. -/
def State.summaryJob (s : State) : State :=
  let x := s.buildSummary
  let s := { s with estMod.summary := some x, str.sums := setAt s.str.sums s.ring.position (some x) }
  if 1 < s.pn P.ringModules then
    { s with ring.upQueue := s.ring.upQueue.filter fun m => !(m.kind == 2 && m.sent == 0) }.sendPanRecord 2 2 1 33 (summaryBytes x)
  else s

/-- The limits of one cell for a horizon of `tau` s: vo, rt, idis and ichg (R165). A count neither lowers nor raises a limit
(R157): in COUNTING the model is read at the voltage-based SoC (DEDUCED, log entry 89). -/
def State.cellLimits (s : State) (n : Nat) (tau : Rat) : Rat × Rat × Rat × Rat :=
  let e := s.estAt n
  let m := modelAt (s.sliceAt n) (if s.estMod.counting then e.socV else e.soc)
  let ef := Config.exp (-tau / m.tauF)
  let es := Config.exp (-tau / m.tauS)
  let vo := m.ocv e.h + e.vf * ef + e.vs * es
  let rt := e.kr * (m.rser + m.rf * (1 - ef) + m.rsl * (1 - es)) + m.slope e.h * tau / (3600 * e.q)
  (vo, rt, max 0 ((vo - s.pr P.vMinDisMv / 10000) / rt), max 0 ((s.pr P.vMaxChgMv / 10000 - vo) / rt))

/-- Lowest of a list (0 of an empty one). -/
def minRat : List Rat → Rat
  | [] => 0
  | x :: l => l.foldl min x

/-- The power-limits job of P33 (R165, 08 R211). -/
def State.powerLimitsJob (s : State) : State :=
  let l := s.estCells.filter fun n => (s.sliceAt n).vals != []
  let stale := l.any fun n => (s.estAt n).fStale
  let empty := l.any fun n => (s.estAt n).fVoltEmpty
  let full := l.any fun n => s.pr P.vMaxChgMv / 10000 ≤ (s.estAt n).vm
  let half := fun (x : Rat) => if stale then x / 2 else x
  let ma := fun (x : Rat) => satTo 0xFFFFFFFE (x * 1000).floor.toNat
  let at' := fun (tau : Rat) => l.map fun n => s.cellLimits n tau
  let taus : List Rat := [2, 10, 60]
  { s with
    estMod.iDis := taus.map fun t => if empty || s.tbl.switching then 0 else ma (half (minRat ((at' t).map fun c => c.2.2.1)))
    estMod.iChg := taus.map fun t => if full || s.tbl.switching then 0 else ma (half (minRat ((at' t).map fun c => c.2.2.2)))
    estMod.vOpen := taus.map fun t => satTo 0xFFFFFFFE (roundAway (((at' t).map fun c => c.1).sum * 1000)).toNat
    estMod.rSum := taus.map fun t => satTo 0xFFFFFFFE (roundAway (((at' t).map fun c => c.2.1).sum * 1000000)).toNat
    estMod.halved := stale }

/-! ### String figures -/

/-- A position of the string that counts as missing because it has not been live for 300 frames (13 R309). -/
def State.notLive166 (s : State) (p : Nat) : Bool := p != s.ring.position && 300 ≤ s.ring.notLive.getD p 0

/-- The latest summaries of the string's positions, less those of missing ones: not live, or with a FRAME more than 300 frames
older than the newest (R166). A position that is not live for less keeps its data (13 R309). -/
def State.present166 (s : State) : List Summary :=
  let l := ((List.range (s.pn P.ringModules)).filter fun p => !s.notLive166 p).filterMap fun p => s.str.sums.getD p none
  let newest := (l.map (·.stamp)).foldl (fun a t => if frameLater t a then t else a) ((l.map (·.stamp)).headD 0)
  l.filter fun x => (newest - x.stamp).toNat ≤ 300

/-- Positions of the string without a present summary. -/
def State.missing166 (s : State) : List Nat :=
  (List.range (s.pn P.ringModules)).filter fun p => !s.present166.any (·.pos == p)

/-- Terminal voltage of each branch in mV at the string current `i` mA (R166). -/
def State.branchVolts (s : State) (l : List Summary) (j : Nat) (i : Rat) (sign : Rat) : List Rat :=
  (List.range (s.pn P.ringBranches)).map fun b =>
    ((l.filter (·.branch == b)).map fun x =>
      (x.vOpen.getD j 0 : Rat) + sign * i / (s.pr P.ringBranches) * (x.rSum.getD j 0 : Rat) / 1000000).sum

/-- Current and power limit for a horizon before halving: mA, W, and whether the cap set it (R166). -/
def State.stringLimit (s : State) (l : List Summary) (j : Nat) (dis : Bool) : Rat × Rat × Bool :=
  let own := minRat (l.map fun x => ((if dis then x.iDis else x.iChg).getD j 0 : Rat)) * s.pr P.ringBranches
  let cap := s.pr (if dis then P.disCapMa else P.chgCapMa)
  let i := min own cap
  let vs := s.branchVolts l j i (if dis then -1 else 1)
  let vt := match vs with
    | [] => 0
    | v :: r => if dis then r.foldl min v else r.foldl max v
  (i, i * vt / 1000000, decide (cap < own))

/-- REST_REQUEST of the primary (R158). The time since rest of another module is not on the ring: with a starved
satellite it is a free value. -/
def State.restRequest (s : State) : State :=
  let l := s.present166
  let starved := l.filter fun x => x.flags.getLsbD 4
  let only := starved.all fun x => x.pos == s.ring.position
  let (h, s) := if only then (s.estMod.restAgeNs / 3600000000000, s)
    else
      let (v, s) := s.draw
      (v.toNat % 65536, s)
  let sig := (l.map fun x => if x.sigmaMin = 0xFFFF then 0 else x.sigmaMin).foldl max 0
  { s with str.restAskAt := s.grid.plantNs }.notify 0x03 (toLe 1 (s.pn P.stringId) ++ u16 0xFFFE h ++ toLe 2 (s.pn P.restWindowS) ++ toLe 2 sig)

/-- The figures of Table 6.7 from the summaries present (R166). -/
def State.stringJob (s : State) : State :=
  if !s.isPrimary then s
  else
    let miss := s.missing166
    let k := match s.str.lastJob with
      | some t => (s.sched.stamp - t).toNat
      | none => 0
    let s := { s with
      str.lastJob := some s.sched.stamp
      str.missingFrames := (List.range 8).map fun p => if miss.contains p then s.str.missingFrames.getD p 0 + k else 0 }
    let l := s.present166
    let zero := s.str.missingFrames.any (10000 ≤ ·)
    let lim := fun (dis : Bool) => (List.range 3).map fun j => s.stringLimit l j dis
    let adj := fun (x : Rat) => if zero then 0 else satTo 0xFFFFFFFE (if miss = [] then x else x / 2).floor.toNat
    let socs := l.filter fun x => x.socMin != 0xFFFF
    let low := socs.foldl (fun (b : Option Summary) x => match b with
      | none => some x
      | some y => if x.socMin < y.socMin then some x else some y) none
    let full := (l.map (·.eFull)).sum
    let starved := l.any fun x => x.flags.getLsbD 4
    let first := starved && !s.str.restRequested
    let s := { s with
      str.valid := true
      str.socMin := (low.map (·.socMin)).getD 0xFFFF, str.minPos := (low.map (·.pos)).getD 0xFF
      str.minCell := (low.map (·.minCell)).getD 0xFF, str.sigmaMin := (low.map (·.sigmaMin)).getD 0xFFFF
      str.socEw := if full = 0 then 0xFFFF else (roundAway (10000 * (((l.map (·.eOwn)).sum : Nat) : Rat) / (full : Rat))).toNat
      str.eRem := (roundAway ((((l.map (·.eRem)).sum : Nat) : Rat) / 10)).toNat
      str.stamp := (l.map (·.stamp)).foldl (fun a t => if frameLater a t then t else a) ((l.map (·.stamp)).headD 0)
      str.pChg := (lim false).map fun x => adj x.2.1, str.pDis := (lim true).map fun x => adj x.2.1
      str.iChg := (lim false).map fun x => adj x.1, str.iDis := (lim true).map fun x => adj x.1
      str.qAvailStr := match (l.map (·.qAvail)).filter (· != 0xFFFF) with
        | [] => none
        | x :: r => some (r.foldl min x)
      str.restRequested := starved
      str.flags := ofBits 16 fun b => match b with
        | 7 => (lim true ++ lim false).any fun x => x.2.2
        | 6 => miss == [] && l != [] && l.all fun x => x.flags.getLsbD 3
        | 5 => starved | 4 => l.any fun x => x.flags.getLsbD 2 | 3 => l.any fun x => x.flags.getLsbD 1
        | 2 => zero | 1 => miss != [] || l.any fun x => x.flags.getLsbD 5 | 0 => miss != [] | _ => false
      str.modules := ofBits 8 fun p => l.any (·.pos == p) }
    if first then s.restRequest else s

/-- The string sums of R22: the cell voltages of each branch, from the harvest complete in this frame; a position that is not
live keeps its slot (13 R309). -/
def State.sumHarvest (s : State) : State :=
  if !s.isPrimary then s
  else
    let l := s.ring.slots.filterMap id
    let vs : List (BitVec 24) := l.flatMap fun x => x.volts.take x.cells
    { s with
      str.sumStamp := ((l.find? fun x => x.pos == s.ring.position).map (·.stamp)).getD s.sched.stamp
      str.vSumBad := l == [] || vs.any (· == 0x800000#24)
      str.vSums := (List.range (s.pn P.ringBranches)).map fun b =>
        let own := (l.filter (·.branch == b)).flatMap fun x => x.volts.take x.cells
        roundAway (((own.map fun v => if v = 0x800000#24 then 0 else v.toInt).sum : Int) / 1000) }

/-- MODULE_MISSING_LIMIT (R166): a position's summary has been missing for 10,000 frames. -/
def execModuleMissingLimit (pos : Nat) (s : State) : Host.Outcome State Fault Refusal :=
  if posOk pos then
    .next (if s.isPrimary && s.missing166.contains pos &&
        decide (10000 ≤ s.str.missingFrames.getD pos 0 + (s.str.lastJob.map fun t => (s.sched.stamp - t).toNat).getD 0) then
      { s with
        str.missingFrames := setAt s.str.missingFrames pos (max 10000 (s.str.missingFrames.getD pos 0))
        str.iChg := [0, 0, 0], str.iDis := [0, 0, 0], str.pChg := [0, 0, 0], str.pDis := [0, 0, 0]
        str.flags := setBit s.str.flags 2 true }
    else s)
  else .fault .noSuchUnit

/-! ### Starvation -/

/-- REST_STARVED (R158): the time since the last qualifying rest has reached REST_STARVE_HOURS. -/
def execRestStarved (s : State) : Host.Outcome State Fault Refusal :=
  .next (if decide (s.pn P.restStarveHours ≤ s.estMod.restAgeNs / 3600000000000) then { s with estMod.restStarved := true } else s)

/-- REST_REQUEST_REPEAT (R158): every 4 h while a module shows REST_STARVED. -/
def execRestRequestRepeat (s : State) : Host.Outcome State Fault Refusal :=
  .next (if s.isPrimary && s.str.restRequested &&
      decide (14400000000000 ≤ (s.grid.plantNs - s.str.restAskAt).toNat) then s.restRequest else s)

/-- ANCHOR_STARVED (R161): a COUNTING module has taken no anchor for ANCHOR_STARVE_DAYS. -/
def execAnchorStarved (s : State) : Host.Outcome State Fault Refusal :=
  .next (if s.estMod.counting && !s.estMod.anchorStarved && s.pn P.anchorStarveDays * 86400000000000 ≤ s.estMod.anchorNs then
    let s := { s with estMod.anchorStarved := true }.absorb 6 5 0xFF 0 []
    if s.pb P.autoBlend then { s.setCounting false with estMod.autoBlended := true } else s
  else s)

/-! ### CELL_RESET -/

/-- DIAG CELL_RESET (R152, Table 17.16). -/
def opCellReset (h : Hdr) (p : List Byte) (s : State) : Ans :=
  let n := (getB p 1).toNat
  if s.grid.mode ≠ .service then fail s .wrongState
  else if n < 1 ∨ s.cells < n then fail s .outOfRange
  else okAns ((s.initCell n false).journal h.port 0xF1 0x05 (toLe 1 0) (toLe 1 n))

/-- DIAG_CELL_RESET. -/
def execDiagCellReset (h : Hdr) (p : List Byte) (s : State) : Host.Outcome State Fault Refusal :=
  .next (runCmd 0xF1 opCellReset h (0x05 :: p) s)

/-! ### Records -/

/-- The 20 bytes of Table 6.4; cells above N and cells not yet initialised carry the invalid codes (R169). -/
def State.estBytes (s : State) (n : Nat) : List Byte :=
  let e := s.estAt n
  let fl := toLe 2 (s.estFlags e)
  if s.cells < n || !e.inited then
    toLe 2 0xFFFF ++ s16 none ++ (List.range 6).flatMap (fun _ => toLe 2 0xFFFF) ++ s16 none ++ fl
  else
    toLe 2 e.repInt ++ toLeInt 2 (clampInt (-10000) 20000 (roundAway (e.soc * 10000))) ++ toLe 2 e.sigmaInt ++
    u16 0xFFFE (roundAway e.withheld).toNat ++ u16 0xFFFE (roundAway (e.q * 100)).toNat ++
    u16 0xFFFE (roundAway (e.sohC * 10000)).toNat ++ u16 0xFFFE (roundAway (e.sohR * 10000)).toNat ++
    u16 0xFFFE (roundAway (e.reserve * 100)).toNat ++ s16 (some e.tUsed) ++ fl

/-- The 68 bytes of Table 6.7; a satellite carries the invalid codes (R171). -/
def State.stringBytes (s : State) : List Byte :=
  let x := s.str
  if s.isPrimary && x.valid then
    toLe 2 x.socMin ++ toLe 1 x.minPos ++ toLe 1 x.minCell ++ toLe 2 x.socEw ++ toLe 2 x.sigmaMin ++ toLe 4 x.eRem ++
    w32 x.stamp ++ (x.pChg ++ x.pDis ++ x.iChg ++ x.iDis).flatMap (toLe 4) ++ toLe 2 x.flags.toNat ++
    toLe 1 x.modules.toNat ++ [0]
  else List.replicate 64 0xFF ++ zeros 2 ++ [0xFF, 0]

end Sys2Proof.Machine
end

