-- ==== Sys2Proof/Machine/Governor.lean ====
section
/-!
DEFINITION. The frame timer, the scheduler and the budget governor (01_one_frame.md, 05_frame_budget_scheduler.md): the
sample strobe, die temperature and thermal states, the front-end thermal model and caps, admission, the power cap,
excitation permission, comets and schedule faults.
-/

namespace Sys2Proof.Machine

/-! ### Reference temperature and thermal model -/

/-- t_ref in 0.01 C (R123): the latest plausible reading, T_CRIT while DIODE_BAD is set or before the first reading. -/
def State.tRef (s : State) : Int :=
  if s.gov.diodeBad then s.pv P.tCrit else s.gov.lastPlausible.getD (s.pv P.tCrit)

/-- Power of a front-end die in W from the newest samples of its cells (R123). -/
def State.fePower (s : State) (k : Nat) : Rat :=
  3 / 25 + ((List.range 16).map fun i =>
    let n := 16 * (k - 1) + i + 1
    match (s.chanAt n).hist with
    | x :: _ => if n ≤ s.cells then
        ((s.chanAt n).swCur / 10000 : Rat) ^ 2 * Config.switchOhm n * (x.frac8 : Rat) / 8 else 0
    | [] => 0).sum

/-- One frame of the model junction temperature of a front end, 0.01 C (R123, R124). -/
def State.feModel (s : State) (k : Nat) : State :=
  let i := k - 1
  let tRef : Rat := (s.tRef : Rat)
  if !s.feActive k then
    { s with gov.feTjStart := setAt s.gov.feTjStart i true, gov.feTjOver := setAt s.gov.feTjOver i false
             gov.feImax := setAt s.gov.feImax i [] }
  else if s.gov.lastPlausible.isNone && !s.gov.diodeBad then s
  else
    let tj := s.gov.feTj.getD i 0
    let start := s.gov.feTjStart.getD i true
    let new := if start then tRef + 480 else tj + (tRef + 4000 * s.fePower k - tj) / 20000
    let lim := s.pr P.feTjLimit
    let hotNow := if lim ≤ new then true else if new ≤ lim - s.pr P.thermalHyst then false else s.gov.feTjOver.getD i false
    { s with gov.feTj := setAt s.gov.feTj i new, gov.feTjStart := setAt s.gov.feTjStart i false
             gov.feTjOver := setAt s.gov.feTjOver i hotNow }

/-- FE_TJ as it is reported (18 Table 18.19, 10 R247). DESIGN CHOICE (log entry 92): a front end whose model has not started, a
powered-down one among them, has no temperature and is carried as 0x8000. -/
def State.feTjShown (s : State) (k : Nat) : Option Int :=
  if s.gov.feTjStart.getD (k - 1) true then none else some (roundAway (s.gov.feTj.getD (k - 1) 0))

/-! ### Excitation -/

/-- The module's own sum of kR times RSER, uOhm (07 R181). -/
def State.ownRser (s : State) : Nat :=
  (roundAway ((s.estCells.map fun n =>
    (s.estAt n).kr * (s.sliceAt n).get 2 (s.estAt n).soc).sum * 1000000)).toNat

/-- R_str in ohm: the module's own sum and the latest record of each other position (07 R181). -/
def State.stringRser (s : State) : Rat :=
  (((setAt s.eis.rserSum s.ring.position s.ownRser).sum : Nat) : Rat) / 1000000

/-- Excitation power in W of the tones that run (R126): the string's RSER sum times half the squared amplitudes. -/
def State.excWatts (s : State) : Rat :=
  let r := s.stringRser
  match if s.eis.g = 0 then s.eis.sweep else s.eis.excSweep with
  | some w => r * ((w.tones.map fun t => ((t.amp : Rat) / 1000) ^ 2 / 2).sum)
  | none => 0

/-- The excitation of a sweep or of an ACTIVE watch is on. -/
def State.excActive (s : State) : Bool := s.eis.g != 0

/-- The energy of the frame that ends, while the excitation runs (R126). -/
def State.countExcitation (s : State) : State :=
  if s.excActive then { s with gov.excEnergy := s.gov.excEnergy + s.excWatts / 10000 } else s

/-! ### The sample strobe -/

/-- What the strobe applies on a front-end die (01 R21): switch states, test current, thresholds and a re-measured
delay; a die in thermal shutdown keeps its switches open (10 R241). -/
def Fe.strobe (f : Fe) : Fe :=
  { f with
    delayNs := f.delayNext.getD f.delayNs, delayNext := none, bcErr := f.bcErrNext, bcErrNext := false
    swNow := if f.tsdLatched || f.noFallback || f.poweredDown then 0 else f.swNext
    owNow := if f.noFallback || f.poweredDown then none else f.owNext
    thr := f.thrNext.getD f.thr, thrNext := none }

/-- The committed protection set takes effect at the strobe two frames after its boundary (01 R29). -/
def State.ageSet (s : State) : State :=
  match s.prot.setPending with
  | none => s
  | some p =>
    if s.prot.setAge ≤ 1 then { s with prot.set := p, prot.setPending := none, prot.setAge := 0 }
    else { s with prot.setAge := s.prot.setAge - 1 }

/-- The stack bridge integrates its input current (R138, 16 R384): from at least 100 V at most 6.5 W in its RUN range, so at
most 7 uC in a frame, and at most 0.80 W otherwise, so at most 1 uC; how much is not the module's to say. -/
def State.bridgeDraw (s : State) : State :=
  if s.power.onBridge then
    let (v, s) := s.draw
    { s with power.bridgeUc := s.power.bridgeUc + ((v.toNat % (if s.power.bridgeRun then 8 else 2) : Nat) : Int) }
  else s

/-- SAMPLE_STROBE (01 R17, R18, R21): a frame opens; the frame number and plant time advance. Figures counted in frames
age by one. -/
def State.strobe (s : State) (ntc : List (Option Int)) : State :=
  let s := { s with
    ntc.temp := ntc
    grid.frame := s.grid.frame + 1, grid.plantNs := s.grid.plantNs + 100000
    grid.validFrames := if s.grid.firstValid then s.grid.validFrames + 1 else 0
    fe := s.fe.map Fe.strobe
    grid.cutDone := false
    cfe.ocChg := (s.cfe.ocNext.getD (s.cfe.ocChg, s.cfe.ocDis)).1, cfe.ocDis := (s.cfe.ocNext.getD (s.cfe.ocChg, s.cfe.ocDis)).2
    cfe.ocNext := none
    cfe.delayNs := s.cfe.delayNext.getD s.cfe.delayNs, cfe.delayNext := none
    cfe.vZeroNv := s.cfe.zeroNext.getD s.cfe.vZeroNv, cfe.zeroNext := none
    cfe.subsPrev := s.cfe.subs, cfe.subs := [], safe.preTEnd := s.safe.preT, safe.posTEnd := s.safe.posT
    power.bridged := if s.power.onBridge then ((s.grid.frame + 1) :: s.power.bridged).take 64 else s.power.bridged.filter fun t => (s.grid.frame - t).toNat < 64
    tap := s.tap.map fun (t : Tap) => { t with rlAge := satTo 0xFFFFFFFF (t.rlAge + 1) }
    bal.owAge := s.bal.owAge.map fun a => satTo 0xFFFFFFFF (a + 1)
    thermo := s.thermo.map fun (t : Thermo) =>
      { t with age := t.age.map (· + 1), zAge := t.zAge.map (· + 1), refAge := t.refAge + 1, rerefWin := t.rerefWin - 1 } }
  (List.range 6).foldl (fun s i => s.feModel (i + 1)) s.ageSet.bridgeDraw.countExcitation

/-- SAMPLE_STROBE: no strobe while the controller domain is off. -/
def execSampleStrobe (ntc : List (Option Int)) (s : State) : Host.Outcome State Fault Refusal :=
  if ntc.length = 16 then .next (if s.clockOn then s.strobe ntc else s) else .fault .noSuchUnit

/-! ### Thermal states -/

/-- A plausible reading (R119). -/
def plausibleTemp (t : Int) : Bool := decide (-6000 ≤ t) && decide (t ≤ 17000)

/-- Order of the states of Table 5.2. -/
def thermalOf (n : Nat) : Thermal := if n = 0 then .normal else if n = 1 then .throttle else if n = 2 then .hot else .crit

/-- The highest state whose entry condition holds (Table 5.2). -/
def State.thermalEntry (s : State) : Nat :=
  let g := s.gov
  match g.diodeBad, g.lastPlausible with
  | true, _ => 3
  | false, none => 0
  | false, some t =>
    if s.pv P.tCrit ≤ t then 3 else if s.pv P.tHot ≤ t then 2
    else if s.pv P.tThrottle ≤ t ∨ s.pr P.riseLimit ≤ g.rate then 1 else 0

/-- The condition to leave the present state (Table 5.2). -/
def State.thermalLeave (s : State) : Bool :=
  let t := s.gov.lastPlausible.getD 0
  let hyst := s.pv P.thermalHyst
  match s.gov.thermal with
  | .normal => true
  | .throttle => decide (t ≤ s.pv P.tThrottle - hyst) && decide (s.gov.rate < s.pr P.riseLimit)
  | .hot => decide (t ≤ s.pv P.tHot - hyst)
  | .crit => decide (t ≤ s.pv P.tCrit - hyst) && !s.gov.diodeBad

/-- DIE_TEMP as SNAPSHOT and the replies carry it (R119). -/
def State.dieBytes (s : State) : List Byte := s16 (if s.gov.dieNoConv then none else some s.gov.dieTemp)

/-- The thermal state is evaluated (R120): at each reading, each rate value and each commit of its thresholds. -/
def State.evalThermal (s : State) : State :=
  let rise := decide (s.pr P.riseLimit ≤ s.gov.rate)
  let s := { s with gov.rise := rise }
  let now := s.gov.thermal.code
  let e := s.thermalEntry
  let new := if now ≤ e || s.thermalLeave then e else now
  let s := { s with gov.thermal := thermalOf new }
  if new = 3 ∧ now ≠ 3 then s.notify 0x0F (toLe 1 1 ++ s.dieBytes)
  else if new ≠ 3 ∧ now = 3 then s.notify 0x0F (toLe 1 0 ++ s.dieBytes)
  else s

/-- Pause level of a temperature (R121). -/
def State.pauseLvl (s : State) (x : Int) : Nat :=
  if x < s.pv P.tThrottle then 0 else min 7 (1 + ((x - s.pv P.tThrottle) / max 1 (s.pv P.pauseStep)).toNat)

/-- The pause level of the next window (Table 5.2, R121). -/
def State.pauseNext (s : State) : Nat :=
  match s.gov.thermal with
  | .normal => 0
  | .hot => 7
  | .crit => 7
  | .throttle =>
    let t := s.gov.lastPlausible.getD 0
    let falling := s.pauseLvl (t + s.pv P.thermalHyst)
    max 1 (max (s.pauseLvl t) (max (min s.gov.pause falling) (if s.gov.rise then 1 else 0)))

/-! ### Die temperature readings -/

/-- A conversion starts at this boundary (R117); one for the grid of R118 carries its place there. -/
def State.startConversion (s : State) (grid : Bool) : State :=
  { s with gov.convGrid := grid || (s.gov.convBusy && s.gov.convGrid), gov.convBusy := true
           gov.convAt := if grid then s.grid.validFrames / 1000 else s.gov.convAt }

/-- The rate of rise from the newest readings of the grid (R118): over ten grid periods, with all eleven readings there and
plausible; 0 otherwise. -/
def riseOf (l : List (Nat × Option Int)) : Rat :=
  match l.head?, l.getLast? with
  | some (k, some new), some (_, some old) =>
    if l.length = 11 ∧ l.zipIdx.all (fun (e, i) => e.1 + i == k && e.2.isSome) then ((new - old : Int) : Rat) else 0
  | _, _ => 0

/-- A reading enters the grid of R118. -/
def State.gridReading (s : State) (t : Option Int) : State :=
  if !s.gov.convGrid then s
  else
    let l := ((s.gov.convAt, t) :: s.gov.gridReads).take 11
    { s with gov.gridReads := l, gov.rate := riseOf l }

/-- An implausible reading (R119). -/
def State.badReading (s : State) : State :=
  let fresh := !s.gov.diodeBad || 0 < s.gov.goodRun
  let s := { s with gov.diodeBad := true, gov.goodRun := 0, gov.sinceBadRead := if s.gov.diodeBad then s.gov.sinceBadRead else 0 }
  if fresh then s.absorb 5 1 0xFF 0 [] else s

/-- A plausible reading (R119). -/
def State.goodReading (s : State) (t : Int) : State :=
  let n := if s.gov.diodeBad then s.gov.goodRun + 1 else 0
  { s with gov.lastPlausible := some t, gov.diodeBad := s.gov.diodeBad && decide (n < 2), gov.goodRun := n }

/-- The replies of the DIAG DIE_TEMP commands that wait for this reading (R117, 17 R424). -/
def State.dieReplies (s : State) : State :=
  let l := s.ploza.dieAsk
  let s := { s with ploza.dieAsk := [] }
  l.foldl (fun s c => s.finish 0xF1 c.hdr c.payload (okAns s s.dieBytes)) s

/-- A conversion has ended: `t` is the reading, none when it has not completed. -/
def State.reading (s : State) (t : Option Int) : State :=
  let good := t.filter plausibleTemp
  let s := { s with gov.dieTemp := clampInt (-32767) 32767 (t.getD s.gov.dieTemp), gov.dieNoConv := t.isNone }
  let s := s.gridReading good
  let s := match good with
    | some v => s.goodReading v
    | none => s.badReading
  { s.evalThermal with gov.convBusy := false, gov.convGrid := false }.dieReplies

/-- DIE_TEMP_CONVERSION (R117, R119). -/
def execDieTempConversion (temp : Int) (s : State) : Host.Outcome State Fault Refusal :=
  .next (if s.gov.convBusy then s.reading (some temp) else s)

/-- DIE_TEMP_TIMEOUT (R119): 80 us after the start the conversion has not completed. -/
def execDieTempTimeout (s : State) : Host.Outcome State Fault Refusal :=
  .next (if s.gov.convBusy then s.reading none else s)

/-- DIAG_DIE_TEMP (R117): the reading is taken at the boundary at which the command executes, and the reply leaves with
it. -/
def execDiagDieTemp (h : Hdr) (p : List Byte) (s : State) : Host.Outcome State Fault Refusal :=
  let bs := (0x01 : Byte) :: p
  .next (
    if s.lanes.protOnly || !s.portsOn then s
    else if !lengthOk 0xF1 bs then
      if s.takes h.target then s.sendReply h.port (s.replyPacket 0xF1 h.seq .badLength []) else s
    else if h.target == 0xFF then s
    else match s.duplicateOf 0xF1 h bs with
      | some e => s.answer h e.reply
      | none => { s.startConversion false with ploza.dieAsk := s.ploza.dieAsk ++ [{ hdr := h, payload := bs }] })

/-! ### Balance caps -/

/-- Highest resistance of the switches of a die. -/
def ronMax (k : Nat) : Rat := ((List.range 16).map fun i => Config.switchOhm (16 * (k - 1) + i + 1)).foldl max 0

/-- The cap of front end `k` (R124). -/
def State.feCap (s : State) (k : Nat) : Nat :=
  let f := s.feAt k
  if !s.feActive k || f.poweredDown || f.lost || f.relinking || s.gov.feTjOver.getD (k - 1) false then 0
  else
    let imax := (((s.gov.feImax.getD (k - 1) []).filter fun e => s.grid.validFrames < e.2 + 100000).map (·.1)).foldl max 0
    let i : Rat := (if imax = 0 then 3000 else imax : Nat) / 10000
    let avail := (s.pr P.feTjLimit - (s.tRef : Rat)) / 4000 - 3 / 25
    if avail ≤ 0 then 0 else min 8 (avail / (i ^ 2 * ronMax k)).floor.toNat

/-- The six caps. -/
def State.feCapsNext (s : State) : List Nat := (List.range 6).map fun i => s.feCap (i + 1)

/-- The module cap (Table 5.2). -/
def State.moduleCapNext (s : State) : Nat :=
  let base := min (s.pn P.balMaxModule) s.feCapsNext.sum
  match s.gov.thermal with
  | .normal => base
  | .throttle => base
  | .hot => min 16 base
  | .crit => 0

/-! ### Releases and admission -/

/-- The M jobs of a role slot (01 Table 1.3). -/
def mJobs (k : Nat) : List JobKind :=
  if k < 32 then [.cellScale] else if k = 32 then [.currentAgg] else if k = 33 then [.plausibility]
  else if k = 38 then [.pattern] else if k = 39 then [.openWire, .strapCheck, .threshCheck] else []

/-- The O jobs of a role slot (Table 5.5). -/
def oJobs (k : Nat) : List JobKind :=
  if k < 32 then [.cellStats] else if k = 37 then [.coherence] else if k = 38 then [.refine]
  else if k = 39 then [.selfTest] else []

/-- Deadline of a P job in windows (Table 5.1). -/
def pDeadline : JobKind → Nat
  | .blended => 10 | .specBin => 4 | .powerLimits => 10 | .leadR => 8 | _ => 100

/-- A sweep or the thermometry watch accumulates spectra. -/
def State.specRuns (s : State) : Bool := s.eis.sweep.isSome && s.eis.st != .off || s.eis.kind == .watch

/-- Number of the window whose count of R31 is `w`, each window counting once (R113). -/
def State.windowNo (s : State) (w : Nat) : Nat := s.sched.no + (w - s.sched.window) / s.windowFrames

/-- P jobs of a role slot released between the counts `last` and `w` of R31: by their period, or by a switch change or a
running sweep (Table 5.1). A window of WATCH counts ten; a period in windows is ten times as long there (R113), and a
balancing slot is 100 as R31 counts (09 R224). A release whose own window did not open falls to the next one. -/
def State.releases (s : State) (k last w : Nat) : List JobKind :=
  let every := fun n => w / n ≠ last / n
  let per := fun n => every (n * s.windowFrames)
  if k < 32 then
    (if per 10 then [.blended] else []) ++ (if s.specRuns then [.specBin] else []) ++ (if per 100 then [.health] else [])
  else if k = 33 then
    if per 100 then [.summary, .powerLimits] ++ (if s.isPrimary then [.stringFigures] else []) else []
  else if k = 38 then (if every 100 then [.slotPlan] else [])
  else if k = 39 then (if s.leadRReleases then [.leadR] else [])
  else []

/-- Event records that P39 is still to write: protection captures and absorbed events (Table 5.1, 10 R247). -/
def State.eventsDue (s : State) : Nat := s.prot.fifo.length + s.lanes.evDue

/-- Pending instances of the event record write. -/
def State.eventWrites (s : State) : Nat := (s.sched.pending.filter (·.job == .eventWrite)).length

/-- The pending instances with those released for the window of count `w`; a second look at the same window adds none. -/
def State.releaseFor (s : State) (w : Nat) : State :=
  let no := s.windowNo w
  let inst := fun (k : Nat) (j : JobKind) =>
    ({ slot := k, job := j, rel := no, dl := if j == .slotPlan then 100 / s.windowFrames else pDeadline j } : PInst)
  let new : List PInst := s.activeSlots.flatMap fun k => (s.releases k s.sched.relWin w).map (inst k)
  let new := new.filter fun x => !s.sched.pending.any fun y => y.slot == x.slot && y.job == x.job && y.rel == no
  let ev := List.replicate (s.eventsDue - s.eventWrites) (inst 39 .eventWrite)
  { s with sched.pending := s.sched.pending ++ new ++ ev, sched.relWin := max s.sched.relWin w }

/-- An instance has no slack in window number `no` (R111): it must run no later than window Wr + D - 1. -/
def PInst.due (x : PInst) (no : Nat) : Bool := x.rel + x.dl ≤ no + 1

/-- A cell role's slices are complete (08 R205). -/
def State.slicesReady (s : State) (k : Nat) : Bool := (s.slotCells k).all fun n => (s.sliceAt n).vals != []

/-- An instance that may not run: a P job that needs a slice not yet complete (08 R205). -/
def State.waitsSlice (s : State) (x : PInst) : Bool :=
  (x.job == .blended || x.job == .health) && !s.slicesReady x.slot

/-- Pause cycles of a level (Table 5.3). -/
def pauseCycles (l : Nat) : Nat := if l = 0 then 0 else 2 ^ (l - 1)

/-- Declared cycles of a list of jobs of slot `k`. -/
def busyCycles (k : Nat) (l : List JobKind) : Nat := (l.map fun j => Config.jobCycles (recipeNo k) (jobNo j)).sum

/-- A list fits in a window: its jobs, the pauses between them and the checkpoint (R116). -/
def fitsWindow (k pause : Nat) (l : List JobKind) : Bool :=
  busyCycles k l + (l.length - 1) * pauseCycles pause + 256 ≤ 10000

/-- Instances by earliest deadline, earlier release first. -/
def byDeadline (l : List PInst) : List PInst := l.mergeSort fun a b => decide (a.rel + a.dl ≤ b.rel + b.dl)

/-- Instances by earliest release. -/
def byRelease (l : List PInst) : List PInst := l.mergeSort fun a b => decide (a.rel ≤ b.rel)

/-- O work may be admitted (Table 5.2, R127, R135). -/
def State.oAllowed (s : State) : Bool :=
  (s.gov.thermal == .normal || s.gov.thermal == .throttle) && !s.sched.oStopFault && s.power.st == .run

/-- P instances with slack may be admitted (Table 5.2). -/
def State.slackAllowed (s : State) : Bool := s.gov.thermal != .crit

/-- An M or O job as a piece of work. -/
def workOf (k : Nat) (j : JobKind) : Work := { slot := k, job := j }

/-- A pending instance as a piece of work. -/
def PInst.work (x : PInst) : Work := { slot := x.slot, job := x.job, rel := x.rel }

/-- The instance of a piece of work is pending with no slack. -/
def State.dueWork (s : State) (no : Nat) (x : Work) : Bool :=
  s.sched.pending.any fun y => y.work == x && y.due no

/-- Jobs admitted one after the other while they fit; one that does not is passed over (R116). -/
def admitMore (k pause : Nat) : List Work → List Work → List Work
  | acc, [] => acc
  | acc, j :: rest =>
    if fitsWindow k pause ((acc ++ [j]).map (·.job)) then admitMore k pause (acc ++ [j]) rest else admitMore k pause acc rest

/-- The admission list of slot `k` for window number `no` (R116): M, P without slack, P with slack, O. -/
def State.admitSlot (s : State) (no pause k : Nat) : List Work :=
  let mine := s.sched.pending.filter fun x => x.slot == k && decide (x.rel ≤ no) && !s.waitsSlice x
  let due := (byRelease (mine.filter (·.due no))).map PInst.work
  let slack := if s.slackAllowed then (byDeadline (mine.filter fun x => !x.due no)).map PInst.work else []
  let o := if s.oAllowed then (oJobs k).map (workOf k) else []
  admitMore k pause (admitMore k pause ((mJobs k).map (workOf k) ++ due) slack) o

/-- The admission lists of all slots that run. -/
def State.admitAll (s : State) (no pause : Nat) : List Work :=
  (s.activeSlots.filter fun k => s.roleRuns k && !(34 ≤ k && k ≤ 36)).flatMap (s.admitSlot no pause)

/-- Cycles of a role in a window with the admission lists `adm`. -/
def roleCycles (adm : List Work) (k : Nat) : Nat :=
  if 34 ≤ k && k ≤ 36 then anchoredCycles k else busyCycles k ((adm.filter (·.slot == k)).map (·.job))

/-- p_est in units of 10 mW (R125): the admitted jobs, the anchored pans, and each transit check with the work of the role it
repeats (04 R98). -/
def State.powerOf (s : State) (adm : List Work) (spares : List Nat) : Rat :=
  let anchored := (([34, 35, 36].filter s.roleRuns).map anchoredCycles).sum
  let jobs := (adm.map fun x => busyCycles x.slot [x.job]).sum
  let checks := ((s.shadowPlan spares).map fun x => roleCycles adm x.2).sum
  352 + 150 * ((jobs + anchored + checks : Nat) : Rat) / 480000

/-- A piece of work that the power cap may withdraw: a job of a slot, or a spare's transit check. -/
inductive Withdraw where
  /-- a job of a slot -/
  | job (x : Work)
  /-- a transit check -/
  | transit (p : Nat)
deriving DecidableEq, Repr

/-- The order of Table 5.5: within a step the lowest pan number first. -/
def State.withdrawOrder (s : State) (no : Nat) (adm : List Work) (spares : List Nat) : List Withdraw :=
  let pan := fun (k : Nat) => (s.slotAt k).pan.getD 0
  let pick := fun (j : JobKind) => ((adm.filter (·.job == j)).mergeSort fun a b => decide (pan a.slot ≤ pan b.slot)).map
    Withdraw.job
  let slack := (s.sched.pending.filter fun x => !x.due no && adm.contains x.work).mergeSort fun a b =>
    decide (b.rel + b.dl < a.rel + a.dl) || (decide (a.rel + a.dl = b.rel + b.dl) && decide (pan a.slot ≤ pan b.slot))
  pick .cellStats ++ pick .coherence ++ pick .refine ++ pick .selfTest ++ spares.map Withdraw.transit ++
    slack.map fun x => Withdraw.job x.work

/-- Work is withdrawn one job at a time while p_est exceeds the cap (R125). -/
def State.withdraw (s : State) (cap : Rat) : List Withdraw → List Work × List Nat → List Work × List Nat
  | [], r => r
  | x :: rest, (adm, sp) =>
    if s.powerOf adm sp ≤ cap then (adm, sp)
    else match x with
      | .job w => s.withdraw cap rest (adm.erase w, sp)
      | .transit p => s.withdraw cap rest (adm, sp.erase p)

/-! ### Excitation permission -/

/-- Energy already used in the sweep or watch that runs (R126). -/
def State.excUsed (s : State) : Rat := if s.eis.sweep.isSome || s.excActive then s.gov.excEnergy else 0

/-- Excitation is permitted in the next window (R126, R127). -/
def State.permitExc (s : State) (unmet : Bool) : Bool :=
  (s.gov.thermal == .normal || s.gov.thermal == .throttle) && !unmet && s.power.st == .run &&
    decide (s.excUsed + s.excWatts / 10000 ≤ s.pr P.eisEnergyCap)

/-! ### The decision -/

/-- Count of R31 of the window of the next frame, however late the running one is (R115, R128). -/
def State.nextCount (s : State) : Nat :=
  if s.power.st == .watch then s.sched.window + 10 else s.sched.window + max 1 (min 40 (s.grid.frame - s.sched.stamp).toNat)

/-- GOVERNOR_DECISION (R115, R116, R125, R126): the decision for the window of the next frame. -/
def State.decide115 (s : State) : State :=
  let w := s.nextCount
  let no := s.windowNo w
  let s := s.releaseFor w
  let pause := s.pauseNext
  let all := s.admitAll no pause
  let spares := if s.oAllowed && !s.sluice.frozen then s.spares else []
  let cap := s.pr P.modulePowerCap
  let (adm, spares) := s.withdraw cap (s.withdrawOrder no all spares) (all, spares)
  let unmet := decide (cap < s.powerOf adm spares)
  let slackCut := all.any fun x => jobClass x.job == 1 && !adm.contains x
  let d : GovDecision :=
    { admitted := adm, pause := pause, feCaps := s.feCapsNext, moduleCap := s.moduleCapNext
      excPermit := s.permitExc unmet, oStopped := spares == [] && !adm.any fun x => jobClass x.job == 2
      slackPStopped := !s.slackAllowed || slackCut, capUnmet := unmet
      powerEst := satTo 0xFFF (roundAway (s.powerOf adm spares)).toNat, transit := spares }
  { s with gov.next := ((s.grid.frame + 1, d) :: s.gov.next).take 8 }

/-- GOVERNOR_DECISION: made by the lane in charge. -/
def execGovernorDecision (s : State) : Host.Outcome State Fault Refusal := .next (if s.laneRuns then s.decide115 else s)

/-- The decision made for the window of frame `f`: the newest that is not for a later frame. -/
def State.decisionFor (s : State) (f : Word) : Option GovDecision := (s.gov.next.find? fun e => !frameLater e.1 f).map (·.2)

/-- A decision takes effect (R115); with none made, and in a lane gap, the last one stays in force. -/
def State.useDecision (s : State) (lane : Bool) : State :=
  let f := s.sched.stamp + 1
  match if lane then s.decisionFor f else none with
  | none => s
  | some d =>
    { s with
      gov.admitted := d.admitted, gov.pause := d.pause, gov.feCaps := d.feCaps, gov.moduleCap := d.moduleCap
      gov.excPermit := d.excPermit, gov.oStopped := d.oStopped, gov.slackPStopped := d.slackPStopped
      gov.capUnmet := d.capUnmet, gov.powerEst := d.powerEst, gov.transit := d.transit
      gov.next := s.gov.next.filter fun e => frameLater e.1 f }

/-- The part of a decision that a tail window admits: M jobs, P instances without slack and no transit check (R130). -/
def State.tailOnly (s : State) : State :=
  { s with
    gov.admitted := s.gov.admitted.filter fun x => jobClass x.job == 0 || s.dueWork s.sched.no x
    gov.oStopped := true, gov.slackPStopped := true, gov.transit := [] }

/-- Outside RUN no O work, no transit check and no excitation (R127, 04 R99), whenever the decision was made. -/
def State.noExtras (s : State) : State :=
  { s with gov.admitted := s.gov.admitted.filter fun x => jobClass x.job != 2
           gov.oStopped := true, gov.excPermit := false, gov.transit := [] }

/-- The decision of the window that opens (R115, R127, R130), with what has been released since it was made. -/
def State.applyDecision (s : State) (lane tail : Bool) : State :=
  let s := (s.releaseFor s.sched.window).useDecision lane
  let s := if s.power.st == .run then s else s.noExtras
  if tail then s.tailOnly else s

/-! ### Windows -/

/-- A window has ended: each role's pan has written its checkpoint, and the places of the sample in use are freed (R131, 04
R98). -/
def State.closeWindow (s : State) : State :=
  let s := s.checkpoint (s.activeSlots.filter fun k => !(34 ≤ k && k ≤ 36))
  { s with
    sched.windowOpen := false
    fe := s.fe.map fun (f : Fe) => { f with buf := f.buf.filter fun x => x.stamp != s.sched.stamp }
    cfe.buf := s.cfe.buf.filter fun x => x.stamp != s.sched.stamp }

/-- COMPUTE_WINDOW_END (R128, R134): after a discard the role whose pan ran last is the offending one and moves at the
boundary. -/
def State.windowEnds (s : State) (lastSlot lateNs : Nat) : State :=
  let s := { s.closeWindow with
    sched.lateNs := lateNs
    sched.lastRoles := if s.sched.inTail then (lastSlot :: s.sched.lastRoles).take 8 else s.sched.lastRoles }
  if s.sched.discarded then { s with sched.discarded := false }.offends lastSlot else s

/-- COMPUTE_WINDOW_END. -/
def execComputeWindowEnd (lastSlot lateNs : Nat) (s : State) : Host.Outcome State Fault Refusal :=
  if slotOk lastSlot then .next (if s.sched.windowOpen then s.windowEnds lastSlot lateNs else s) else .fault .noSuchUnit

/-- COMET (R128): the window has not ended by its successor's nominal boundary. -/
def execComet (s : State) : Host.Outcome State Fault Refusal :=
  .next (if s.sched.windowOpen && !s.sched.isComet then
    { s with sched.isComet := true, sched.calm := 0, sched.comets := bump 0xFFFF s.sched.comets } else s)

/-- SCHEDULE_FAULT (R135): the tail reaches its eighth window. -/
def execScheduleFault (s : State) : Host.Outcome State Fault Refusal :=
  .next (if s.sched.inTail && decide (8 ≤ s.sched.tailLen) then
    { s with sched.schedFaults := bump 0xFF s.sched.schedFaults, sched.oStopFault := true }.absorb
      5 2 0xFF 0 (toLe 1 s.sched.tailLen ++ toLe 1 s.sched.maxBacklog ++ s.sched.lastRoles.reverse.flatMap (toLe 1))
  else s)

/-- O_WORK_RESUME (R135): 10,000 windows have passed without a comet. -/
def execOWorkResume (s : State) : Host.Outcome State Fault Refusal :=
  .next (if 10000 ≤ s.sched.calm then { s with sched.oStopFault := false } else s)

end Sys2Proof.Machine
end

