-- ==== Sys2Proof/Machine/Eis.lean ====
section
/-!
DEFINITION. Impedance spectroscopy and impedance thermometry (07_impedance_spectroscopy.md): sweeps and the thermometry
watch, excitation and halts, block accumulation, cross-spectra, results, T_IMP and its calibration.
-/

namespace Sys2Proof.Machine

/-! ### Sweep descriptors -/

/-- The descriptor of Table 7.1. -/
def sweepOf (p : List Byte) : Sweep :=
  { modeByte := (getB p 0).toNat, lb := getU p 4 4, nb := getU p 8 2, settle := (getB p 10).toNat
    tones := (List.range (getB p 1).toNat).map fun k => { m := getU p (12 + 4 * k) 2, amp := getU p (14 + 4 * k) 2 } }

/-- Frequency of a tone in Hz. -/
def toneHz (w : Sweep) (t : Tone) : Rat := (t.m : Rat) * 10000 / (w.lb : Rat)

/-- Successive pairs of a list satisfy a relation. -/
def chain {α : Type} (r : α → α → Bool) : List α → Bool
  | a :: b :: rest => r a b && chain r (b :: rest)
  | _ => true

/-- The conditions of R174. -/
def State.sweepOk (s : State) (w : Sweep) : Bool :=
  let act := w.modeByte == 1
  let n := w.tones.length
  (w.modeByte == 1 || w.modeByte == 2) && 1 ≤ n && n ≤ 8 && 10 ≤ w.lb && w.lb ≤ 200000 &&
    s.pn P.eisMinBlocks ≤ w.nb && w.nb ≤ 1000 && w.settle ≤ 4 && (w.settle + w.nb) * w.lb ≤ 36000000 &&
    chain (fun a b => decide (a.m < b.m)) w.tones &&
    (if act then
      w.tones.all (fun t => decide (1 / 20 ≤ toneHz w t) && decide (toneHz w t ≤ 4000) && 200 ≤ t.amp && t.amp ≤ 10000) &&
        (w.tones.map (·.amp)).sum ≤ 20000
    else
      w.tones.all (fun t => decide (1 / 20 ≤ toneHz w t) && decide (toneHz w t ≤ 2000) && t.amp == 0) &&
        2 ≤ (w.tones.headD {}).m && chain (fun a b => decide (a.m + 3 ≤ b.m)) w.tones)

/-- The measurement in progress injects excitation. -/
def State.eisInjects (s : State) : Bool := s.eis.kind == .hostActive || (s.eis.kind == .watch && s.eis.watchActive)

/-- The sweep is in STARTING or ON. -/
def State.sweepLive (s : State) : Bool := s.eis.st == .starting || s.eis.st == .on

/-- Planned energy of an ACTIVE sweep in J (R181). -/
def State.plannedEnergy (s : State) (w : Sweep) : Rat :=
  s.stringRser * ((w.tones.map fun t => ((t.amp : Rat) / 1000) ^ 2 / 2).sum) *
    ((((w.settle + w.nb) * w.lb : Nat) : Rat) / 10000 + 3 / 1000)

/-- A cell of the string is VOLT_EMPTY or has vm at or above V_MAX_CHG_MV (R176, R180): of another module as its latest
summary shows it. -/
def State.cellLimit (s : State) : Bool :=
  s.estCells.any (fun n => (s.estAt n).fVoltEmpty || decide (s.pr P.vMaxChgMv / 10000 ≤ (s.estAt n).vm)) ||
    (s.isPrimary && s.present166.any fun x =>
      x.pos != s.ring.position && (x.flags.getLsbD 1 || x.iChg.all (· == 0)))

/-- The first refusal reason of Table 7.2, 0 for none. -/
def State.sweepReason (s : State) (w : Sweep) : Nat :=
  let act := w.modeByte == 1
  if !s.isPrimary then 0x01
  else if act && s.ownerReason != 0 then 0x02
  else if act && !s.gov.excPermit then 0x03
  else if act && decide (s.pr P.eisEnergyCap < s.plannedEnergy w) then 0x04
  else if !s.roleRuns 37 then 0x05
  else if s.power.clockDegraded then 0x06
  else if act && s.cellLimit then 0x07
  else 0

/-! ### Ring records -/

/-- EIS control record (Table 7.4). -/
def State.eisControl (s : State) (block : Nat) (start : Word) (verdict : Nat) : List Byte :=
  let st := if s.eis.kind == EisKind.watch then (if s.eis.watchActive then 2 else 0) else s.eis.st.code
  withCrc (toLe 1 0x33 ++ toLe 1 (if s.eis.kind == EisKind.watch then 0 else s.eis.sweepId) ++
    toLe 1 (pack [(7, 1, bit s.eis.halted), (0, 2, st)]) ++ toLe 1 (if s.eis.kind == EisKind.watch then 0 else s.eis.endCause) ++
    w32 start ++ toLe 2 block ++ toLe 1 verdict ++ [0])

/-- EIS block status record (Table 7.5). -/
def State.eisStatus (s : State) (block cells id : Nat) : List Byte :=
  withCrc (toLe 1 0x34 ++ toLe 1 (pack [(7, 1, s.pn P.branch), (0, 3, s.ring.position)]) ++ toLe 2 block ++
    toLe 4 s.ownRser ++ toLe 1 cells ++ toLe 1 id ++ zeros 2)

/-- A block status record received: the RSER_SUM of its position. -/
def State.takeStatus (s : State) (bs : List Byte) : State :=
  if bs.length == 16 && getB bs 0 == 0x34 && crcGood 12 bs then
    { s with eis.rserSum := setAt s.eis.rserSum ((getB bs 1).toNat % 8) (getU bs 4 4) } else s

/-- First stamp of block `b`. -/
def State.blockStart (s : State) (b : Nat) : Word :=
  match s.eis.sweep with
  | some w => if s.eis.kind == EisKind.watch then BitVec.ofNat 32 (1000 * b) else w.s0 + BitVec.ofNat 32 (b * w.lb)
  | none => 0

/-! ### Start and end -/

/-- A control record waits for the next header of the primary (R186, 13 R305). -/
def State.queueControl (s : State) (bs : List Byte) : State := { s with ring.eisCtl := s.ring.eisCtl ++ [bs] }

/-- Spectral state cleared for a new measurement. -/
def State.clearSpectra (s : State) : State :=
  { s with
    eis.cells := List.replicate 96 {}, eis.cur := {}, eis.curBlocks := [], eis.verdicts := [], eis.waits := []
    eis.interimCoh := [], eis.watchBlocks := 0, eis.blockIdx := 0, eis.blockVoid := 0, eis.resumeAt := none
    eis.watchGoing := false }

/-- STARTING is entered (R177 to R179). -/
def State.startSweep (s : State) (w : Sweep) (id : Nat) (s0 : Word) : State :=
  let act := w.modeByte == 1
  let t0 := s.grid.plantNs.toNat + 100000 * (s0 - s.grid.frame).toNat
  let s := s.clearSpectra
  { s with
    eis.st := .starting, eis.kind := if act then .hostActive else .hostPassive, eis.sweepId := id
    eis.sweep := some { w with id := id, s0 := s0 }, eis.blocks := 0, eis.endCause := 0, eis.settleLeft := w.settle
    eis.halted := false, eis.watchActive := false, eis.stopBy := none, eis.enableOutcome := (0, 0), eis.thermoQ := []
    eis.gStart := if act && s.isPrimary then some (t0 - 2000000) else none, eis.gRising := act && s.isPrimary
    eis.latched := none, eis.lastCounted := s0
    gov.excEnergy := 0 }

/-- The next SWEEP_ID: 1 to 255, skipping 0 (R175). -/
def nextSweepId (n : Nat) : Nat := if 255 ≤ n then 1 else n + 1

/-- A packet of the primary for every satellite (13 R313). -/
def State.toSatellites (s : State) (bytes : List Byte) : State :=
  if s.isPrimary && 1 < s.pn P.ringModules then
    { s with ring.dnQueue := s.ring.dnQueue ++ [{ kind := 1, data := bytes }] } else s

/-- A sweep ends (R188): DRAINING, with the excitation falling. In DRAINING a further end cause only cancels a latched
enable (17 R422). -/
def State.endSweep (s : State) (cause : Nat) (cmd : Option DeferRef) : State :=
  if s.sweepLive then
    let s := { s with
      eis.st := .draining, eis.endCause := cause, eis.stopBy := cmd, eis.halted := false, eis.gRising := false
      eis.gStart := none, eis.resumeAt := none }
    if s.isPrimary then s.queueControl (s.eisControl s.eis.blockIdx (s.blockStart s.eis.blockIdx) 2) else s
  else if s.eis.st == .draining && s.eis.latched.isSome then
    { s with eis.latched := none, eis.enableOutcome := (3, 0) }
  else s

/-- EIS_START as the primary executes it, and as a satellite acts on it with the primary's SWEEP_ID and S0 (R174 to R178,
17 R422). -/
def opEisStart (asg : Option (Nat × Word)) (h : Hdr) (p : List Byte) (s : State) : Ans :=
  let w := sweepOf p
  let modeOk := if w.modeByte = 1 then s.grid.mode == .active else s.grid.mode != .service
  if s.power.st ≠ .run ∨ modeOk = false then fail s .wrongState
  else match asg with
    | some (id, s0) => okAns (s.startSweep w id s0) (toLe 1 id ++ zeros 3 ++ w32 s0)
    | none =>
      if s.eis.st = .draining then
        if s.eis.latched.isSome then fail s .busy
        else { st := .draining, s := { s with eis.latched := some { hdr := h, payload := p } } }
      else if !s.sweepOk w then fail s .outOfRange
      else if s.eis.st = .off ∧ s.eis.latched.isSome then fail s .busy
      else if s.sweepLive then fail s .busy
      else if s.sweepReason w ≠ 0 then refuse s (s.sweepReason w)
      else
        let id := nextSweepId s.eis.sweepId
        let s0 := s.grid.frame + 50
        let s' := s.startSweep w id s0
        let reply := toLe 1 id ++ zeros 3 ++ w32 s0
        let s' := s'.toSatellites (mkPacket 0x50 h.seq.toNat 0x40 0xFE (p ++ reply))
        okAns (s'.journal h.port 0x50 id (toLe 1 0) (toLe 1 1)) reply

/-- The part of a forwarded EIS_START that carries SWEEP_ID and S0, after a descriptor of K tones (log entry 23). -/
def forwardedSweep (h : Hdr) (p : List Byte) : Option (Nat × Word) :=
  let n := 12 + 4 * (getB p 1).toNat
  if h.port = .ring ∧ h.target = 0xFE ∧ p.length = n + 8 then some (getU p n 1, BitVec.ofNat 32 (getU p (n + 4) 4)) else none

/-- EIS_START. -/
def execEisStart (h : Hdr) (p : List Byte) (s : State) : Host.Outcome State Fault Refusal :=
  .next (match forwardedSweep h p with
    | some a => runCmd 0x50 (opEisStart (if s.isPrimary then none else some a)) h (p.take (p.length - 8)) s
    | none => runCmd 0x50 (opEisStart none) h p s)

/-- EIS_ABORT (R188, 17 R422): executed at the primary, and by satellites when it arrives forwarded. -/
def opEisAbort (h : Hdr) (_p : List Byte) (s : State) : Ans :=
  let here := s.isPrimary || (h.port == .ring && h.target == 0xFE)
  if s.power.st ≠ .run ∨ here = false then fail s .wrongState
  else if s.sweepLive then
    let s' := (s.endSweep 2 (some (hdrRef h 0x52 false))).toSatellites (mkPacket 0x52 h.seq.toNat 0x40 0xFE [])
    okAns (s'.journal h.port 0x52 s.eis.sweepId (toLe 1 1) (toLe 1 0))
  else if s.eis.latched.isSome then
    okAns ({ s with eis.latched := none, eis.enableOutcome := (2, 0) }.journal h.port 0x52 s.eis.sweepId (toLe 1 1) (toLe 1 0))
  else fail s .wrongState

/-- EIS_ABORT. -/
def execEisAbort (h : Hdr) (p : List Byte) (s : State) : Host.Outcome State Fault Refusal :=
  .next (runCmd 0x52 opEisAbort h p s)

/-- SWEEP_START_FRAME (R177, R189): S0 is reached; the held result set goes. Block 0 has earned no verdict yet, unless the
excitation is not at full amplitude (R186). -/
def execSweepStartFrame (s : State) : Host.Outcome State Fault Refusal :=
  .next (if s.eis.st = .starting then
    let ramp := match s.eis.resumeAt with
      | some t => frameLater t (s.blockStart 0)
      | none => false
    { s with eis.st := .on, eis.result := none, eis.blockVoid := if s.eis.halted || ramp then 2 else 0
             eis.resumeAt := if ramp then s.eis.resumeAt else none }
  else s)

/-! ### The boundary -/

/-- A halt begins (R180). -/
def State.haltSweep (s : State) : State :=
  { s with eis.halted := true, eis.gRising := false, eis.gStart := none, eis.blockVoid := 2, eis.resumeAt := none
           eis.haltedAt := s.grid.validFrames }

/-- The excitation resumes: g reaches full amplitude at the next block start on the S0 grid (R180). DESIGN CHOICE (log entry
47): the first one at least 31 frames away, so that the fall of the halt is over before the rise begins. -/
def State.resumeSweep (s : State) (w : Sweep) : State :=
  let gone := (s.grid.frame + 31 - w.s0).toInt.toNat
  let b := (gone + w.lb - 1) / w.lb
  let st := w.s0 + BitVec.ofNat 32 (b * w.lb)
  let t := s.grid.plantNs.toNat + 100000 * (st - s.grid.frame).toNat
  { s with eis.halted := false, eis.gRising := true, eis.gStart := some (t - 2000000), eis.resumeAt := some st
           eis.settleLeft := w.settle }

/-- RESUME_TIMEOUT is due (R188, Table 7.6): a halt has lasted longer than EIS_RESUME_S, or the planned end plus EIS_RESUME_S
has passed. -/
def State.resumeOver (s : State) (w : Sweep) : Bool :=
  let r := s.pn P.eisResumeS * 10000
  (s.eis.halted && decide (r < s.grid.validFrames - s.eis.haltedAt)) ||
    frameLater s.grid.frame (w.s0 + BitVec.ofNat 32 ((w.settle + w.nb) * w.lb + r))

/-- What a host sweep finds at a boundary (R180, R181, R188). -/
def State.sweepBoundary (s : State) : State :=
  if !s.sweepLive then s
  else
    let act := s.eis.kind == .hostActive
    let energy := decide (s.pr P.eisEnergyCap < s.gov.excEnergy + s.excWatts / 10000)
    if !s.roleRuns 37 then s.endSweep 7 none
    else if (if act then s.grid.mode != .active else s.grid.mode == .service) then s.endSweep 5 none
    else if act && s.isPrimary && energy then s.endSweep 3 none
    else if s.isPrimary && s.eis.sweep.any s.resumeOver then s.endSweep 4 none
    else if act && s.isPrimary then
      let cause := !s.gov.excPermit || s.conv.st != .on || s.cellLimit
      match s.eis.halted, cause, s.eis.sweep with
      | false, true, _ => s.haltSweep
      | true, false, some w => s.resumeSweep w
      | _, _, _ => s
    else s

/-- An ACTIVE watch is possible (R192). -/
def State.watchCan (s : State) : Bool :=
  s.eis.thermoMode == 2 && s.isPrimary && s.grid.mode == .active && s.conv.st == .on && s.ownerReason == 0 &&
    s.gov.excPermit && !s.cellLimit && !s.power.clockDegraded

/-- The watch stops, its partial group discarded (R192). -/
def State.stopWatch (s : State) : State :=
  if s.eis.kind == EisKind.watch then
    let s := s.clearSpectra
    { s with eis.kind := .none, eis.sweep := none, eis.watchActive := false, eis.gRising := false, eis.gStart := none }
  else s

/-- The watch starts at the next multiple of 1,000 frames (R192). DESIGN CHOICE (log entry 49): the first one at least 31
frames away, as in R180. A satellite injects nothing. -/
def State.startWatch (s : State) (act : Bool) : State :=
  let n := s.grid.frame.toNat
  let k := (n + 31 + 999) / 1000
  let s0 : Word := if 2 ^ 32 ≤ 1000 * k then 0 else BitVec.ofNat 32 (1000 * k)
  let t := s.grid.plantNs.toNat + 100000 * (s0 - s.grid.frame).toNat
  let s := s.clearSpectra
  { s with
    eis.kind := .watch, eis.watchActive := act, eis.blockIdx := s0.toNat / 1000
    eis.sweep := some
      { modeByte := if act then 1 else 2, lb := 1000, nb := s.pn P.eisThermoBlocks
        tones := [{ m := s.pn P.eisThermoHz / 10, amp := if act then s.eis.thermoAmp else 0 }], s0 := s0 }
    eis.gStart := if act && s.isPrimary then some (t - 2000000) else none, eis.gRising := act && s.isPrimary
    gov.excEnergy := 0 }

/-- The amplitude of a running ACTIVE watch follows EIS_THERMO_AMP (R199). -/
def State.watchAmp (s : State) : State :=
  if s.eis.watchActive then
    { s with eis.sweep := s.eis.sweep.map fun (w : Sweep) =>
        { w with tones := w.tones.map fun (t : Tone) => { t with amp := s.eis.thermoAmp } } }
  else s

/-- What the watch does at a boundary, by the parameters of the boundary before (R192, R199). -/
def State.watchStep (s : State) : State :=
  let may := s.eis.thermoMode != 0 && s.eis.st == .off && s.eis.latched.isNone && s.roleRuns 37 && s.power.st == .run
  if !may then s.stopWatch
  else if s.eis.kind != .watch then s.startWatch s.watchCan
  else if s.isPrimary && s.eis.watchActive != s.watchCan then s.stopWatch.startWatch s.watchCan
  else s.watchAmp

/-- The thermometry watch at a boundary (R192). -/
def State.watchBoundary (s : State) : State :=
  { s.watchStep with eis.thermoMode := s.pn P.eisThermoMode, eis.thermoAmp := s.pn P.eisThermoAmp }

/-- A block of the measurement is in progress: from S0 on (R177, R178). -/
def State.blockRuns (s : State) : Bool :=
  if s.eis.kind == .watch then s.eis.watchGoing || s.eis.sweep.any fun w => !frameLater w.s0 s.grid.frame else s.eis.st == .on

/-- A block during which a cycle was current-limited or the law clamped the reference is void (R182). -/
def State.eisLimited (s : State) : State :=
  if (s.conv.curLimited || s.law.clampString || s.law.clampRated) && s.eis.blockVoid = 0 && s.blockRuns then
    { s with eis.blockVoid := 3 } else s

/-! ### Verdicts -/

/-- A P instance of P37 is released for window `w`. -/
def State.releaseP37 (s : State) (j : JobKind) (w : Nat) : State :=
  { s with sched.pending := s.sched.pending ++ [{ slot := 37, job := j, rel := w, dl := 100 }] }

/-- The verdict of block `b` is known (R178, R186): P37 takes it when the last bins of the block can be there. -/
def State.applyVerdict (s : State) (b v : Nat) : State :=
  let host := s.eis.kind == .hostActive || s.eis.kind == .hostPassive
  let lb := (s.eis.sweep.map (·.lb)).getD 1
  let s := { s with
    eis.waits := s.eis.waits.filter (· != b), eis.verdicts := s.eis.verdicts ++ [(b, v)]
    eis.blocks := if host && v == 0 then s.eis.blocks + 1 else s.eis.blocks
    eis.lastCounted := if v = 0 then s.blockStart b + BitVec.ofNat 32 (lb - 1) else s.eis.lastCounted }
  s.releaseP37 .crossSpec (s.sched.window + 6)

/-- The primary's verdict on the block in progress: halted or ramp, then settling, then limited (R186). -/
def State.verdictNow (s : State) : Nat :=
  if s.eis.halted || s.eis.blockVoid = 2 then 2 else if 0 < s.eis.settleLeft then 1 else s.eis.blockVoid

/-- A block of the watch is over: the phase reference moves on by a block, which is a whole number of periods (R179, R192). -/
def State.watchShift (s : State) : State :=
  if s.eis.kind == .watch then
    { s with eis.watchGoing := true, eis.sweep := s.eis.sweep.map fun (w : Sweep) => { w with s0 := w.s0 + 1000 }
             eis.excSweep := s.eis.excSweep.map fun (w : Sweep) => if w.id = 0 then { w with s0 := w.s0 + 1000 } else w }
  else s

/-- EIS_BLOCK_END (R178, R186, R188): the primary decides and sends its verdict; a satellite waits for it. -/
def State.blockEnd (s : State) : State :=
  let b := s.eis.blockIdx
  let next := if s.eis.kind == .watch && s.blockStart b + 1000 < s.blockStart b then 0 else (b + 1)
  let ramp := match s.eis.resumeAt with
    | some t => frameLater t (s.blockStart (b + 1))
    | none => false
  let adv := fun (s : State) => { s.watchShift with
    eis.blockIdx := next, eis.blockVoid := if s.eis.halted || ramp then 2 else 0
    eis.resumeAt := if ramp then s.eis.resumeAt else none }
  if !s.isPrimary then adv { s with eis.waits := s.eis.waits ++ [b] }
  else
    let v := s.verdictNow
    let s := if v = 1 then { s with eis.settleLeft := s.eis.settleLeft - 1 } else s
    let s := s.applyVerdict b v
    let s := adv (s.queueControl (s.eisControl b (s.blockStart b) v))
    match s.eis.sweep with
    | none => s
    | some w => if s.eis.kind != EisKind.watch && w.nb ≤ s.eis.blocks then s.endSweep 1 none else s

/-- Frames since the last stamp of block `b`; none while it has not come (R178). -/
def State.sinceBlock (s : State) (b : Nat) : Option Nat :=
  let last := s.blockStart b + BitVec.ofNat 32 ((s.eis.sweep.map (·.lb)).getD 1000 - 1)
  if frameLater last s.grid.frame then none else some (s.grid.frame - last).toNat

/-- EIS_BLOCK_END: the last stamp of the block in progress has come. -/
def execEisBlockEnd (s : State) : Host.Outcome State Fault Refusal :=
  .next (if (s.eis.st = .on || s.eis.kind = .watch) && (s.sinceBlock s.eis.blockIdx).isSome then s.blockEnd else s)

/-- A satellite follows the watch of its primary between ACTIVE and PASSIVE, with a new start as the primary's own (R192). -/
def State.followWatch (s : State) (act : Bool) : State :=
  if s.eis.watchActive != act then s.stopWatch.startWatch act else s

/-- EIS_CONTROL_RECORD_RX (R186, R188): only a satellite takes it. -/
def State.controlRx (s : State) (bs : List Byte) : State :=
  if s.isPrimary || !(bs.length == 16 && getB bs 0 == 0x33 && crcGood 12 bs) then s
  else
    let id := (getB bs 1).toNat
    let st := (getB bs 2).toNat
    let b := getU bs 8 2
    let v := (getB bs 10).toNat
    let watch := s.eis.kind == .watch && id == 0
    let mine := s.eis.st != .off && id == s.eis.sweepId && id != 0
    if !watch && !mine then s
    else
      let s := match s.eis.waits.find? fun x => x % 65536 == b with
        | some x => s.applyVerdict x (v % 4)
        | none => s
      let s := if watch then s.followWatch (st % 4 != 0) else { s with eis.halted := st.testBit 7 && s.sweepLive }
      if mine && getB bs 3 != 0 && s.sweepLive then s.endSweep (getB bs 3).toNat none else s

/-- EIS_CONTROL_RECORD_RX. -/
def execEisControlRecordRx (bytes : List Byte) (s : State) : Host.Outcome State Fault Refusal := .next (s.controlRx bytes)

/-- EIS_VERDICT_TIMEOUT (R186): the oldest block without a verdict is discarded, 100 frames after its last stamp. -/
def execEisVerdictTimeout (s : State) : Host.Outcome State Fault Refusal :=
  .next (match s.eis.waits with
    | [] => s
    | b :: _ => if (s.sinceBlock b).any (100 ≤ ·) then s.applyVerdict b 2 else s)

/-- EIS_RESUME_TIMEOUT (R180, R188): the halt has lasted EIS_RESUME_S, or the planned end is that long past. -/
def execEisResumeTimeout (s : State) : Host.Outcome State Fault Refusal :=
  .next (
    let halt := s.eis.halted && decide (s.pn P.eisResumeS * 10000 ≤ s.grid.validFrames - s.eis.haltedAt)
    if s.sweepLive && s.isPrimary && (halt || s.eis.sweep.any s.resumeOver) then s.endSweep 4 none else s)

/-- BLOCK_STATUS_PERIODIC (R186): every 1,000 frames while no sweep runs. -/
def execBlockStatusPeriodic (s : State) : Host.Outcome State Fault Refusal :=
  .next (if s.isPrimary || s.eis.st != .off || s.grid.validFrames % 1000 != 0 then s
    else s.sendPanRecord 3 1 1 37 (s.eisStatus 0xFFFF 0 s.eis.sweepId))

/-! ### Bin accumulation -/

/-- Weight of sample `j` of a block (R183, R184). -/
def binWeight (w : Sweep) (j : Nat) : Rat :=
  if w.modeByte = 1 then 1 else 1 / 2 - Config.cosTurn ((j : Rat) / (w.lb : Rat)) / 2

/-- Sum of the weights of a block: LB, or LB / 2 for the Hann window. -/
def weightSum (w : Sweep) : Rat := if w.modeByte = 1 then (w.lb : Rat) else (w.lb : Rat) / 2

/-- Block index and place of a stamp; none before the first block. -/
def State.blockPlace (s : State) (w : Sweep) (t : Word) : Option (Nat × Nat) :=
  if !(s.eis.kind == EisKind.watch && s.eis.watchGoing) && frameLater w.s0 t then none
  else if s.eis.kind == EisKind.watch then some (t.toNat / 1000, t.toNat % 1000)
  else
    let d := (t - w.s0).toNat
    some (d / w.lb, d % w.lb)

/-- A new block begins with empty sums. -/
def SpecAcc.begin (a : SpecAcc) : SpecAcc := { a with accRe := {}, accIm := {}, sumRe := {}, sumIm := {} }

/-- The sum of two single values, added by ALIGN (04 R89, R90). -/
def addSingles (a b : Single) : Single := (((({} : Acc).add (a.mant * 8388608) a.exp).add (b.mant * 8388608) b.exp).rnorm).v

/-- The accumulators are written back as single values and added to what was written before (R184). -/
def SpecAcc.writeBack (a : SpecAcc) : SpecAcc :=
  { a with accRe := {}, accIm := {}, sumRe := addSingles a.sumRe a.accRe.rnorm.v, sumIm := addSingles a.sumIm a.accIm.rnorm.v }

/-- One product of a tone enters: x_j against the weighted factors of index (m j) mod LB (R184). -/
def SpecAcc.enter (a : SpecAcc) (w : Sweep) (m j : Nat) (x : Single) : SpecAcc :=
  let th := ((m * j % w.lb : Nat) : Rat) / (w.lb : Rat)
  { a with accRe := a.accRe.mac x (Single.ofRat (binWeight w j * Config.cosTurn th))
           accIm := a.accIm.mac x (Single.ofRat (-(binWeight w j * Config.sinTurn th))) }

/-- One value enters the sums of a block at place `j`; every 256 stamps, and with the last, the sums are written back (R184). -/
def CellSpec.add (c : CellSpec) (w : Sweep) (j : Nat) (v : Rat) : CellSpec :=
  let c := if j = 0 then
      { c with running := true, bSamp := false, bBal := false, sum := 0, mean := some (c.mean.getD v)
               acc := w.tones.zipIdx.map fun (_, k) => (c.acc.getD k {}).begin }
    else c
  let x := Single.ofRat (v - c.mean.getD v)
  let back := (j + 1) % 256 == 0 || j + 1 == w.lb
  { c with
    sum := c.sum + v
    acc := c.acc.zipIdx.map fun (a, k) =>
      let a := a.enter w (w.tones.getD k {}).m j x
      if back then a.writeBack else a }

/-- The block ends with its last stamp: its phasors wait for the verdict, and its mean is the reference of the next. -/
def CellSpec.finish (c : CellSpec) (w : Sweep) (b : Nat) : CellSpec :=
  let f := 2 / weightSum w
  let d : DoneBlk := { block := b, samp := c.bSamp, bal := c.bBal
                       x := c.acc.map fun a => { re := (Single.ofRat (a.sumRe.val * f)).val, im := (Single.ofRat (a.sumIm.val * f)).val } }
  { c with running := false, mean := some (Single.ofRat (c.sum / (w.lb : Rat))).val, dones := c.dones ++ [d] }

/-- The current of a stamp in mA from FRAME_CHARGE, and whether it is HELD, INVALID or missing (R173, R185). -/
def State.specCurrent (s : State) (t : Word) : Rat × Bool :=
  match (s.branchAt (s.pn P.branch)).inUse.find? fun r => r.stamp == t with
  | some r => ((r.chg : Rat) / 100, r.flags.getLsbD 0 || r.invalid)
  | none => (0, true)

/-- The current of stamp `t` enters P37's sums. -/
def State.curStamp (s : State) (w : Sweep) (t : Word) : State :=
  match s.blockPlace w t with
  | none => s
  | some (b, j) =>
    let (v, bad) := s.specCurrent t
    if j ≠ 0 ∧ s.eis.cur.running = false then { s with eis.cur := { s.eis.cur with last := some t } }
    else
      let c := s.eis.cur.add w j v
      let c := { c with last := some t, bSamp := c.bSamp || bad }
      { s with eis.cur := if j + 1 = w.lb then c.finish w b else c }

/-- Switch states of a cell and its neighbours at a stamp: the neighbours below and above, then the cell. -/
def State.switches3 (s : State) (n : Nat) (t : Word) : BitVec 3 × Bool :=
  let at' := fun m => if m < 1 || s.cells < m then (false, false) else match (s.chanAt m).hist.find? fun x => x.stamp == t with
    | some x => (x.sw, x.sw && x.frac8 != 8)
    | none => (false, false)
  (ofBits 3 fun k => (at' (n + k - 1)).1, (at' (n - 1)).2 || (at' n).2 || (at' (n + 1)).2)

/-- A stamp of cell `n` enters its sums (R184, R185). -/
def State.cellStamp (s : State) (w : Sweep) (n : Nat) (t : Word) : State :=
  match s.blockPlace w t with
  | none => s
  | some (b, j) =>
    let c := s.eis.cells.getD (n - 1) {}
    let (sw, edge) := s.switches3 n t
    let smp := (s.chanAt n).hist.find? fun x => x.stamp == t
    let dr := match smp with
      | some x => x.draw
      | none => s.drawsAt t (s.feAt (feOfCell n)).supplyStack
    if j ≠ 0 ∧ c.running = false then
      { s with eis.cells := setAt s.eis.cells (n - 1) { c with last := some t, lastSw := sw, lastDraw := dr } }
    else
      let v : Rat := ((smp.map (·.vc)).getD 0 : Int)
      let bad := match smp with
        | some x => !x.usable
        | none => true
      let c1 := c.add w j v
      let c2 := { c1 with
        last := some t, lastSw := sw, lastDraw := dr
        bSamp := c1.bSamp || bad || (j != 0 && dr != c.lastDraw)
        bBal := c1.bBal || edge || (j != 0 && sw != c.lastSw) }
      { s with eis.cells := setAt s.eis.cells (n - 1) (if j + 1 = w.lb then c2.finish w b else c2) }

/-- Stamps after `last` up to `t`, at most eight: those a pan still keeps (R184). The first instance takes its own alone. -/
def stampsTo (last : Option Word) (t : Word) : List Word :=
  let n := match last with
    | some l => if frameLater t l then min 8 (t - l).toNat else 0
    | none => 1
  (List.range n).map fun i => t - BitVec.ofNat 32 (n - 1 - i)

/-- The bin accumulation job of a cell pan (R184): the stamp two before the window's, and any before it still kept. -/
def State.specJob (s : State) (k : Nat) : State :=
  match s.eis.sweep with
  | none => s
  | some w =>
    let t := s.sched.stamp - 2
    let s := (stampsTo s.eis.cur.last t).foldl (fun s t => s.curStamp w t) s
    (s.slotCells k).foldl (fun s n =>
      (stampsTo (s.eis.cells.getD (n - 1) {}).last t).foldl (fun s t => s.cellStamp w n t) s) s

/-! ### Cross-spectra -/

/-- Product of a phasor with the conjugate of another. -/
def Phasor.mulConj (a b : Phasor) : Phasor := { re := a.re * b.re + a.im * b.im, im := a.im * b.re - a.re * b.im }

/-- Squared magnitude. -/
def Phasor.sq (a : Phasor) : Rat := a.re ^ 2 + a.im ^ 2

/-- A kept block enters the sums of a cell (R187). -/
def SpecAcc.fold (a : SpecAcc) (v i : Phasor) : SpecAcc :=
  let p := v.mulConj i
  { a with svi := { re := a.svi.re + p.re, im := a.svi.im + p.im }, sii := a.sii + i.sq, svv := a.svv + v.sq }

/-- P37 takes the verdict of a block for one cell. -/
def CellSpec.take (c : CellSpec) (b v : Nat) (cur : Option DoneBlk) : CellSpec :=
  match c.dones.find? fun d => d.block == b with
  | none => c
  | some d =>
    let c := { c with dones := c.dones.filter fun x => x.block != b }
    match v, cur with
    | 0, some i =>
      let c := { c with sampDis := c.sampDis || d.samp || i.samp, balDis := c.balDis || d.bal }
      if d.samp || d.bal || i.samp then c
      else { c with
        kept := c.kept + 1
        acc := c.acc.zipIdx.map fun (a, k) => a.fold (d.x.getD k {}) (i.x.getD k {}) }
    | _, _ => c

/-- A verdict is taken by P37; a satellite reports the block (R186). -/
def State.takeVerdict (s : State) (b v : Nat) : State :=
  let cur := s.eis.cur.dones.find? fun d => d.block == b
  let ok := ((s.eis.cells.take s.cells).filter fun c =>
    v == 0 && (c.dones.any fun d => d.block == b && !d.samp && !d.bal) && ((cur.map fun d => !d.samp).getD false)).length
  let s := { s with
    eis.cells := s.eis.cells.map fun (c : CellSpec) => c.take b v cur
    eis.cur := { s.eis.cur with dones := s.eis.cur.dones.filter fun d => d.block != b }
    eis.curBlocks := match v, cur with
      | 0, some d => s.eis.curBlocks ++ [d.x]
      | _, _ => s.eis.curBlocks
    eis.watchBlocks := if s.eis.kind == EisKind.watch then s.eis.watchBlocks + 1 else s.eis.watchBlocks }
  if s.isPrimary then s
  else s.sendPanRecord 3 1 1 37 (s.eisStatus b ok (if s.eis.kind == EisKind.watch then 0 else s.eis.sweepId))

/-- Coherence of a tone. -/
def SpecAcc.coh (a : SpecAcc) : Rat := if a.sii = 0 ∨ a.svv = 0 then 0 else a.svi.sq / (a.sii * a.svv)

/-- Impedance of a tone in uOhm. -/
def SpecAcc.z (a : SpecAcc) : Phasor := { re := 1000 * a.svi.re / a.sii, im := 1000 * a.svi.im / a.sii }

/-- The bin is accepted (R187). -/
def State.binOk (s : State) (c : CellSpec) (a : SpecAcc) : Bool :=
  s.pn P.eisMinBlocks ≤ c.kept && decide (0 < c.kept) && decide (0 < a.sii) && decide (s.pr P.eisCohMin / 1000 ≤ a.coh)

/-- The record of one cell and tone (R187, R189). -/
def State.zRec (s : State) (c : CellSpec) (a : SpecAcc) (part : Bool) : ZRec :=
  let ok := s.binOk c a
  let z := a.z
  let n : Rat := (c.kept : Rat)
  let sig := Config.sqrt z.sq * Config.sqrt ((1 - a.coh) / (2 * n * a.coh))
  { z := if ok then some z else none
    sigma := if ok then satTo 65535 (roundAway sig).toNat else 0xFFFF
    coh := if ok then some a.coh else none, nblk := if c.kept = 0 then 0xFFFF else c.kept
    flags := ofBits 16 fun b => match b with
      | 15 => !ok | 14 => decide (c.kept < s.pn P.eisMinBlocks)
      | 13 => decide (0 < c.kept) && decide (a.coh < s.pr P.eisCohMin / 1000)
      | 12 => c.balDis | 11 => c.sampDis | 10 => part | _ => false }

/-- A group of the watch yields one estimate for each cell (R192). -/
def State.watchGroup (s : State) : State :=
  if s.eis.kind == .watch && s.pn P.eisThermoBlocks ≤ s.eis.watchBlocks then
    let q := (List.range s.cells).filterMap fun i =>
      let c := s.eis.cells.getD i {}
      let a := c.acc.getD 0 {}
      if s.binOk c a then some (i + 1, a.z.re) else none
    let s := { s with
      eis.thermoQ := s.eis.thermoQ ++ q, eis.watchBlocks := 0, gov.excEnergy := 0
      eis.cells := s.eis.cells.map fun (c : CellSpec) =>
        { c with kept := 0, sampDis := false, balDis := false
                 acc := c.acc.map fun (a : SpecAcc) => { a with svi := {}, sii := 0, svv := 0 } } }
    if q = [] then s else s.releaseP37 .thermo (s.sched.window + 1)
  else s

/-- The cross-spectral estimation job of P37 (R187). -/
def State.crossJob (s : State) : State :=
  let l := s.eis.verdicts
  l.foldl (fun s (b, v) => (s.takeVerdict b v).watchGroup) { s with eis.verdicts := [] }

/-- The PASSIVE coherence job of P37 (R187): 8 values of 10,000 times the coherence, 0xFFFF for none. -/
def State.coherenceJob (s : State) : State :=
  if s.eis.kind == .hostPassive then
    { s with eis.interimCoh := (List.range 96).map fun i =>
        let c := s.eis.cells.getD i {}
        (List.range 8).map fun k => match c.acc[k]? with
          | some a => if c.kept = 0 then 0xFFFF else (roundAway (a.coh * 10000)).toNat
          | none => 0xFFFF }
  else s

/-! ### Results -/

/-- A tone entry of Table 7.8. -/
def State.toneRec (s : State) (w : Sweep) (t : Tone) (k : Nat) : ToneRec :=
  let l := s.eis.curBlocks.map fun x => x.getD k {}
  let re := meanRat (l.map (·.re))
  let im := meanRat (l.map (·.im))
  let var := meanRat (l.map fun x => (x.re - re) ^ 2 + (x.im - im) ^ 2)
  { freqMhz := (roundAway (toneHz w t * 1000)).toNat, iRe := roundAway re, iIm := roundAway im
    iSigma := satTo 65535 (roundAway (Config.sqrt var)).toNat, kept := l.length }

/-- The tone that feeds the health update: the highest accepted one at or above EIS_RSER_MIN_HZ (R196). -/
def State.rserTone (s : State) (w : Sweep) (c : CellSpec) : Option Nat :=
  ((List.range w.tones.length).filter fun k =>
    decide (s.pr P.eisRserMinHz ≤ toneHz w (w.tones.getD k {})) && s.binOk c (c.acc.getD k {})).getLast?

/-- The tone at f_th exactly (R192). -/
def State.thermoTone (s : State) (w : Sweep) : Option Nat :=
  w.tones.findIdx? fun t => t.m * 10000 == s.pn P.eisThermoHz * w.lb

/-- RSER of cell `n` at its NTC temperature and its SoC (R196). -/
def State.rserAtNtc (s : State) (n : Nat) : Option Rat :=
  (s.tNtc n).map fun t =>
    interp ((s.paramVals P.cmtSocBp).map fun v => (v : Rat) / 10000)
      ((List.range 128).map fun i => s.tableAt 2 (t : Rat) i) (s.estAt n).soc

/-- What the results of a sweep feed: thermometry and the health update (R192, R196). -/
def State.feedResults (s : State) (w : Sweep) : State :=
  let s := (List.range s.cells).foldl (fun s i =>
    let n := i + 1
    let c := s.eis.cells.getD i {}
    match s.rserTone w c, s.rserAtNtc n with
    | some k, some r => s.modEst n fun e => { e with krSamples := e.krSamples ++ [(c.acc.getD k {}).z.re / (r * 1000000)] }
    | _, _ => s) s
  match s.thermoTone w with
  | none => s
  | some k =>
    let q := (List.range s.cells).filterMap fun i =>
      let c := s.eis.cells.getD i {}
      if s.binOk c (c.acc.getD k {}) then some (i + 1, (c.acc.getD k {}).z.re) else none
    let s := { s with eis.thermoQ := s.eis.thermoQ ++ q }
    if q = [] then s else s.releaseP37 .thermo (s.sched.window + 1)

/-- The result set (R188, R189). -/
def State.resultSet (s : State) (w : Sweep) : ResultSet :=
  let part := decide (s.eis.blocks < w.nb)
  let tt := s.thermoTone w
  { sweep := w, endCause := s.eis.endCause, lastStamp := s.eis.lastCounted, blocks := s.eis.blocks
    energyMj := if w.modeByte = 1 then (roundAway (s.gov.excEnergy * 1000)).toNat else 0
    tones := w.tones.zipIdx.map fun (t, k) => s.toneRec w t k
    cells := (List.range 96).map fun i =>
      let c := if i < s.cells then s.eis.cells.getD i {} else {}
      let rt := if (s.tNtc (i + 1)).isSome then s.rserTone w c else none
      (List.range w.tones.length).map fun k =>
        let z := s.zRec c (c.acc.getD k {}) part
        let ok := s.binOk c (c.acc.getD k {})
        { z with flags := setBit (setBit z.flags 9 (ok && tt == some k)) 8 (ok && rt == some k) } }

/-- SWEEP_DRAIN_END (R177, R188, R189, 17 R419): with a latched enable the COMPLETION waits for its outcome. -/
def State.drainEnds (s : State) : State :=
  let s := match s.eis.sweep with
    | none => s
    | some w => if s.eis.endCause = 7 then s else { s.feedResults w with eis.result := some (s.resultSet w) }
  let s := { s with eis.st := .off, eis.kind := .none, eis.sweep := none, eis.g := 0 }
  if s.eis.latched.isSome then s
  else s.complete (s.eis.stopBy.getD {}) .ok s.eis.enableOutcome.1 s.eis.enableOutcome.2 s.eis.endCause
    (toLe 1 s.eis.sweepId ++ toLe 2 s.eis.blocks)

/-- SWEEP_DRAIN_END. -/
def execSweepDrainEnd (s : State) : Host.Outcome State Fault Refusal :=
  .next (if s.eis.st = .draining then s.drainEnds else s)

/-- A cell record of Table 7.9. -/
def zBytes (z : ZRec) : List Byte :=
  s32 (z.z.map fun x => roundAway x.re) ++ s32 (z.z.map fun x => roundAway x.im) ++ toLe 2 z.sigma ++
    toLe 2 (match z.coh with
      | some c => (roundAway (c * 10000)).toNat
      | none => 0xFFFF) ++ toLe 2 z.nblk ++ toLe 2 z.flags.toNat

/-- EIS_RESULT (R189). -/
def opEisResult (_h : Hdr) (p : List Byte) (s : State) : Ans :=
  let a := (getB p 0).toNat
  let b := (getB p 1).toNat
  match s.power.st, s.eis.result with
  | .run, some r =>
    if a < 1 ∨ b < a ∨ 96 < b then fail s .outOfRange
    else
      let k := r.sweep.tones.length
      okAns s (toLe 1 r.sweep.id ++ toLe 1 r.sweep.modeByte ++ toLe 1 k ++ toLe 1 r.endCause ++ w32 r.sweep.s0 ++
        w32 r.lastStamp ++ toLe 4 r.sweep.lb ++ toLe 2 r.blocks ++ toLe 1 s.ring.position ++ toLe 1 s.cells ++
        toLe 4 r.energyMj ++
        (r.tones.flatMap fun t => toLe 4 t.freqMhz ++ s32 (some t.iRe) ++ s32 (some t.iIm) ++ toLe 2 t.iSigma ++ toLe 2 t.kept) ++
        ((r.cells.drop (a - 1)).take (b + 1 - a)).flatMap fun l => l.flatMap zBytes)
  | _, _ => fail s .wrongState

/-- EIS_RESULT. -/
def execEisResult (h : Hdr) (p : List Byte) (s : State) : Host.Outcome State Fault Refusal :=
  .next (runCmd 0x51 opEisResult h p s)

/-! ### Thermometry -/

/-- THERMO_C1 x + THERMO_C2 x^2 for cell `n` (R193). -/
def State.socTerm (s : State) (n : Nat) : Rat :=
  let x := (s.estAt n).soc - 1 / 2
  s.pr P.thermoC1 / 1000 * x + s.pr P.thermoC2 / 1000 * x ^ 2

/-- T_IMP in C from Re(Z) (R193). -/
def State.tImpOf (s : State) (n : Nat) (rRef tRef z : Rat) : Rat :=
  let lnr := Config.ln (z / rRef) - s.socTerm n
  1 / (1 / (tRef + 5463 / 20) + lnr / s.pr P.thermoB) - 5463 / 20

/-- Re(Z) normalised to the SoC of the reference (R197). -/
def State.normalised (s : State) (n : Nat) (z : Rat) : Rat := z * Config.exp (-(s.socTerm n))

/-- One accepted estimate at f_th (R193, R194, R198). -/
def State.thermoEst (s : State) (n : Nat) (z : Rat) : State :=
  let s := s.modThermo n fun x => { x with lastZ := some z, zAge := some 0 }
  let x := s.thermoAt n
  match x.rRef with
  | none => s
  | some r =>
    let t := s.tImpOf n r x.tRef z
    let far := match s.tNtc n with
      | some v => decide (s.pr P.thermoMaxDev < absRat (100 * t - (v : Rat)))
      | none => false
    if t < -40 ∨ 90 < t ∨ far = true then
      let s := s.modThermo n fun x => { x with rejected := true, rejectRun := x.rejectRun + 1 }
      if x.rejectRun + 1 = 3 then s.absorb 7 1 ((s.slotAt 37).pan.getD 0xFF) n [] else s
    else
      s.modThermo n fun x =>
        let x := { x with rejected := false, rejectRun := 0, tImp := some (roundAway (100 * t)), age := some 0 }
        match s.tNtc n with
        | none => x
        | some v =>
          let tn : Rat := (v : Rat) / 100
          let x := { x with d := x.d + s.pr P.thermoBlendW / 100 * (t - tn - x.d) }
          if 0 < x.rerefWin then
            { x with
              rRef := some (s.normalised n z), tRef := tn, refAge := 0, rerefWin := 0, rerefs := x.rerefs + 1
              reref := some { frame := s.grid.frame, time := s.grid.plantNs, rRef := s.normalised n z, tRef := tn } }
          else x

/-- The thermometry job of P37 (R193). -/
def State.thermoJob (s : State) : State :=
  let l := s.eis.thermoQ
  l.foldl (fun s (n, z) => s.thermoEst n z) { s with eis.thermoQ := [] }

/-- The thermometry record of a cell (Table 7.13). -/
def State.thermoBytes (s : State) (n : Nat) : List Byte :=
  let x := s.thermoAt n
  let t := if s.cells < n then none else s.tCell n
  let old := match x.age with
    | some a => decide (s.pn P.thermoMaxAgeS * 10000 < a)
    | none => false
  s16 (t.map roundAway) ++ s16 x.tImp ++
    toLe 2 (match x.age with
      | some a => satTo 0xFFFE (a / 10000)
      | none => 0xFFFF) ++
    toLe 2 (pack [(15, 1, bit t.isNone), (14, 1, bit x.rRef.isNone), (13, 1, bit (s.tNtc n).isNone), (12, 1, bit old),
      (11, 1, bit x.rejected), (10, 1, bit (x.rRef.isSome && decide (25920000000 < x.refAge)))])

/-- Median of a list of numbers; the mean of the middle two of an even count. -/
def medianRat (l : List Rat) : Rat :=
  let l := l.mergeSort fun a b => decide (a ≤ b)
  let n := l.length
  if n % 2 = 1 then l.getD (n / 2) 0 else (l.getD (n / 2 - 1) 0 + l.getD (n / 2) 0) / 2

/-- Cells with an estimate accepted within 600 s (R197). -/
def State.calCells (s : State) : List Nat :=
  ((List.range s.cells).map (· + 1)).filter fun n => match (s.thermoAt n).zAge with
    | some a => a ≤ 6000000
    | none => false

/-- The reference of a cell is stored (R197). -/
def State.calStore (s : State) (n : Nat) (t : Rat) (first : Bool) : State :=
  let r := s.normalised n (((s.thermoAt n).lastZ).getD 0)
  s.modThermo n fun x => { x with rRef := some r, tRef := t, refAge := 0
                                  rRef1 := if first then some (r, t + 5463 / 20) else x.rRef1 }

/-- b(n) of a two-point calibration in K (R197). -/
def State.calB (s : State) (t : Rat) (n : Nat) : Option Rat :=
  match (s.thermoAt n).rRef1 with
  | some (r1, t1) =>
    let d := 1 / t1 - 1 / (t + 5463 / 20)
    if d = 0 then none else some (Config.ln (r1 / s.normalised n (((s.thermoAt n).lastZ).getD 0)) / d)
  | none => none

/-- DIAG THERMO_CAL (R197). A second point whose median no THERMO_B can hold is answered OUT_OF_RANGE. -/
def opThermoCal (h : Hdr) (p : List Byte) (s : State) : Ans :=
  let pt := (getB p 1).toNat
  let ref := getS p 2 2
  let ntc := s.ntc.temp.filterMap id
  let t : Rat := if ref = -32768 then meanRat (ntc.map fun v => (v : Rat)) / 100 else (ref : Rat) / 100
  if s.power.st ≠ .run ∨ s.grid.mode = .service then fail s .wrongState
  else if pt < 1 ∨ 2 < pt ∨ (ref = -32768 ∧ ntc = []) then fail s .outOfRange
  else
    let l := s.calCells
    if pt = 1 then
      okAns ((l.foldl (fun s n => s.calStore n t true) s).journal h.port 0xF1 0x06 (toLe 1 0) (toLe 1 l.length)) (toLe 1 l.length ++ [0] ++ toLe 2 0)
    else
      let b := roundAway (medianRat (l.filterMap (s.calB t)))
      if l.filterMap (s.calB t) = [] ∨ b < 500 ∨ 10000 < b then fail s .outOfRange
      else
        let s' := (l.foldl (fun s n => s.calStore n t false) s).stage P.thermoB [b] h.port
        okAns (s'.journal h.port 0xF1 0x06 (toLe 1 0) (toLe 1 l.length)) (toLe 1 l.length ++ [0] ++ toLe 2 b.toNat)

/-- DIAG_THERMO_CAL. -/
def execDiagThermoCal (h : Hdr) (p : List Byte) (s : State) : Host.Outcome State Fault Refusal :=
  .next (runCmd 0xF1 opThermoCal h (0x06 :: p) s)

end Sys2Proof.Machine
end

