-- ==== Sys2Proof/Machine/Balancing.lean ====
section
/-!
DEFINITION. Balancing under a heat budget (09_balancing.md): plans, eligibility, slots and the neighbour rule, refresh
pulses, grants, the pattern of each frame with its freezes and holds, and the drain.
-/

namespace Sys2Proof.Machine

/-! ### Eligibility and requests -/

/-- The cells 1 to 96. -/
def allCells : List Nat := (List.range 96).map (· + 1)

/-- The Table 9.5 code of a cell as its conditions stand, 0 for an eligible cell (R222). -/
def State.balWhy (s : State) (n : Nat) : Nat :=
  if s.cells < n then 7
  else
    let c := s.chanAt n
    let e := s.estAt n
    let low := decide ((c.hist.headD {}).vm < 100 * (s.bal.minV : Int))
    if c.status.getLsbD 15 || e.fStale then 2
    else if (s.tapAt (lowerTap n)).isOpen || (s.tapAt (upperTap n)).isOpen then 3
    else if low || c.status.getLsbD 3 || e.fVoltEmpty then 4
    else if s.gov.feCaps.getD (feOfCell n - 1) 0 = 0 then 5
    else if (s.balAt n).ilim then 6 else 0

/-- SOC_EST in 0.01 % (06 R154). -/
def Est.estInt (e : Est) : Int := clampInt (-10000) 20000 (roundAway (e.soc * 10000))

/-- The AUTO target: the eligible cell of lowest SOC_EST among those with an estimate, the lowest of equal ones (R223). -/
def State.balTarget (s : State) : Option Nat :=
  (allCells.filter fun n => s.balWhy n == 0 && (s.estAt n).inited).foldl (fun t n => match t with
    | none => some n
    | some m => if (s.estAt n).estInt < (s.estAt m).estInt then some n else t) none

/-- A cell is an AUTO candidate now (R223). -/
def State.balCandidate (s : State) (t : Option Nat) (n : Nat) : Bool :=
  match t with
  | none => (s.balAt n).candidate
  | some m =>
    let e := (s.estAt n).estInt - (s.estAt m).estInt
    let band := s.pv P.balDeadband
    let extra : Int := if s.bal.refined && decide (s.bal.refineSlots ≤ 100) then
      ((s.estAt n).sigmaInt + (s.estAt m).sigmaInt : Nat) else 0
    (s.estAt n).inited && if (s.balAt n).candidate then decide (band < 2 * e) else decide (band + extra < e)

/-- The duty a plan requests for each cell, 1 to 96. -/
def State.balDuties (s : State) (p : BalPlan) : List Nat :=
  if p.source = 1 then padTo' p.duty
  else allCells.map fun n => if s.balCandidate s.balTarget n then 100 else 0
where
  /-- Exactly 96 entries. -/
  padTo' (l : List Nat) : List Nat := (List.range 96).map fun i => l.getD i 0

/-! ### The plan of a slot -/

/-- An age that no figure reaches. -/
def ageUnknown : Nat := 0xFFFFFFFF

/-- Age of the figure of lead `k` as a plan judges it: a tap pulsed in this slot keeps the age it had before (R225,
R226). -/
def State.planAge (s : State) (k : Nat) : Nat :=
  if s.bal.pulseTap = some k then (s.bal.pulseAge.map (· + s.sched.window % 100)).getD ageUnknown
  else
    let t := s.tapAt (tapIdx k)
    if t.rlKnown then t.rlAge else ageUnknown

/-- The figure of lead `k` is fresh at the last frame of the slot being planned (R225). -/
def State.planFresh (s : State) (k : Nat) : Bool := decide (s.planAge k + 201 ≤ 100000)

/-- A cell is requested: eligible, with a duty above 0 (R225). -/
def State.requested (s : State) (d : List Nat) (n : Nat) : Bool :=
  1 ≤ n && n ≤ s.cells && s.balWhy n == 0 && 0 < d.getD (n - 1) 0

/-- A cell is parity-restricted (R225). -/
def State.restricted (s : State) (d : List Nat) (n : Nat) : Bool :=
  s.requested d n &&
    ((n != 48 && s.requested d (n + 1) && !s.planFresh n) ||
     (n != 1 && n != 49 && s.requested d (n - 1) && !s.planFresh (n - 1)))

/-- A hold applies (R230). -/
def State.balHolds (s : State) : Bool :=
  s.eis.st != .off || (s.bal.eisHold && s.eis.kind == .watch)

/-- The tap that a slot pulses, `prev` being the one pulsed in the slot before it (R226); none in WATCH (R232). -/
def State.pulseFor (s : State) (d : List Nat) (prev : Option Nat) : Option Nat :=
  if s.balHolds || s.power.st == .watch then none
  else
    ((List.range s.cells).filter fun k => k != 0 && k != 48 && s.requested d k && s.requested d (k + 1) &&
      prev != some k && 1 ≤ s.gov.feCaps.getD (feOfCell k - 1) 0 &&
      decide (s.pn P.leadRRefreshAge < s.planAge k + 201)).foldl
      (fun b k => match b with
        | none => some k
        | some m => if s.planAge m < s.planAge k then some k else b) none

/-- Frames of a pulse on `t` in which the cell may not conduct, less the pulse cell's own four (R227). -/
def reservedFrames (t : Option Nat) (n : Nat) (alt : Bool) : Nat :=
  match t with
  | none => 0
  | some k =>
    if n = k then (if alt then 0 else 4)
    else if n + 1 = k ∨ n = k + 1 then (if alt then 4 else 8) else 0

/-- In WATCH bounds are rounded down to multiples of 10 frames (R232). -/
def State.watchRound (s : State) (x : Nat) : Nat := if s.power.st == .watch then x / 10 * 10 else x

/-- One cell of a plan: its number, its bound and whether it is restricted. -/
abbrev PlanCell := Nat × Nat × Bool

/-- A limit holds over cells of a plan under a cap (R227). -/
def limitOk (l : List PlanCell) (cap lim : Nat) : Bool :=
  let sum := fun (l : List PlanCell) => (l.map fun x => min x.2.1 lim).sum
  decide (sum l ≤ 100 * cap) && decide (sum (l.filter fun x => x.2.2 && x.1 % 2 == 1) ≤ 50 * cap) &&
    decide (sum (l.filter fun x => x.2.2 && x.1 % 2 == 0) ≤ 50 * cap)

/-- The largest limit 0 to 100 that holds (R227). -/
def largestLimit (l : List PlanCell) (cap : Nat) : Nat := ((List.range 101).reverse.find? (limitOk l cap)).getD 0

/-- The grants of a slot, 1 to 96: bound, front-end limit, module limit (R227). -/
def State.grantsFor (s : State) (d : List Nat) (t : Option Nat) : List PlanCell :=
  let l : List PlanCell := allCells.map fun n =>
    let alt := s.restricted d n
    let b := if s.balWhy n = 0 then min (d.getD (n - 1) 0) (if alt then 50 else 100) - reservedFrames t n alt else 0
    (n, s.watchRound b, alt)
  let l := l.map fun (n, b, alt) =>
    let f := feOfCell n
    (n, min b (s.watchRound (largestLimit (l.filter fun x => feOfCell x.1 == f) (s.gov.feCaps.getD (f - 1) 0))), alt)
  let lm := s.watchRound (largestLimit l s.gov.moduleCap)
  l.map fun (n, b, alt) => (n, min b lm, alt)

/-- The parameters of Table 9.4 act from the first plan computed after their commit (R234). -/
def State.balParams (s : State) : State :=
  { s with bal.minV := s.pn P.balMinVMv, bal.eisHold := s.pb P.balEisHold, bal.inWatch := s.pn P.balInWatch }

/-- EXCL of a cell for which a duty is requested or not, as the conditions stand (R222). -/
def State.exclOf (s : State) (n d : Nat) : Nat :=
  let w := s.balWhy n
  if w = 0 ∧ d = 0 then 1 else w

/-- The slot-plan job of P38 (R222, R224 to R227, R234). -/
def State.slotPlanJob (s : State) : State :=
  let s := s.balParams
  match if s.bal.pendingPlan.isSome then s.bal.pendingPlan else s.bal.plan with
  | none => s
  | some p =>
    if s.bal.st != .starting && s.bal.st != .on then s
    else
      let d := s.balDuties p
      let t := s.pulseFor d s.bal.pulseTap
      let g := s.grantsFor d t
      let tgt := s.balTarget
      { s with
        bal.slotPlanned := true, bal.plannedNew := s.bal.pendingPlan.isSome, bal.nextPulse := t
        bal.cells := s.bal.cells.zipIdx.map fun ((c, i) : BalCell × Nat) =>
          let x := g.getD i (0, 0, false)
          { c with planned := x.2.1, plannedAlt := x.2.2, plannedReq := d.getD i 0, excl := s.exclOf (i + 1) (d.getD i 0)
                   candidate := if p.source = 2 then s.balCandidate tgt (i + 1) else c.candidate } }

/-- The target refinement of P38 (R223). -/
def State.refineJob (s : State) : State := { s with bal.refined := true, bal.refineSlots := 0 }

/-! ### Drains and ends -/

/-- Balancing begins to drain (R219, R220); an end cause met while it drains cancels a latched enable (17 R422). -/
def State.balDrain (s : State) (cause : Nat) (ref : Option DeferRef) : State :=
  if s.bal.st = .starting ∨ s.bal.st = .on then
    { s with
      bal.st := .draining, bal.endCause := cause, bal.stopBy := ref, bal.drainFrom := s.grid.frame + 2
      bal.planSlots := if s.bal.plan.isSome then s.bal.planSlots else 0
      bal.plan := if s.bal.plan.isSome then s.bal.plan else s.bal.pendingPlan
      bal.pendingPlan := none, bal.slotPlanned := false, bal.plannedNew := false, bal.nextPulse := none
      bal.pulseTap := none, bal.slotsLeft := 0, bal.freezeTap := none, bal.enableOutcome := (0, 0)
      fe := s.fe.map fun (f : Fe) => { f with swDec := ((s.grid.frame + 2, 0) :: f.swDec).take 4 } }
  else if s.bal.st = .draining ∧ s.bal.latched.isSome = true then
    { s with bal.latched := none, bal.enableOutcome := (3, 0) }
  else s

/-- The duty of a cell over a number of slots, rounded to 1 % (R219). -/
def dutyOf (frames slots : Nat) : Nat := if slots = 0 then 0 else min 100 (roundAway ((frames : Rat) / (slots : Rat))).toNat

/-- DETAIL of a balancing COMPLETION: 96 duties. -/
def State.balDetail (s : State) : List Byte := s.bal.cells.flatMap fun c => toLe 1 (dutyOf c.delivered s.bal.planSlots)

/-- The newest packet of every active front end is of the first all-open strobe or later and shows every switch open
(R219). -/
def State.balAllOpen (s : State) : Bool :=
  (List.range 6).all fun i => !s.feActive (i + 1) ||
    (match (s.feAt (i + 1)).buf.getLast? with
     | some x => !frameLater s.bal.drainFrom x.stamp && !x.held && !x.bad && x.sw == 0
     | none => false)

/-! ### Commands -/

/-- BAL_PLAN in DRAINING is latched; otherwise R218 to R221. -/
def opBalPlan (h : Hdr) (p : List Byte) (s : State) : Ans :=
  let src := (getB p 0).toNat
  let dur := getU p 2 2
  let duty := (p.drop 4).map (·.toNat)
  if s.bal.st = .draining then
    if s.bal.latched.isSome then fail s .busy
    else { st := .draining, claims := [.balPlan], s := { s with bal.latched := some { hdr := h, payload := p } } }
  else if (src ≠ 1 ∧ src ≠ 2) ∨ dur = 65535 ∨ (duty.take s.cells).any (100 < ·) = true then fail s .outOfRange
  else if s.bal.latched.isSome then fail s .busy
  else if (s.slotAt 38).suspended then refuse s 0x05
  else
    let plan : BalPlan := { source := src, duration := dur, duty := duty, cmd := some (hdrRef h 0x40 false) }
    let first := s.balParams
    let d := first.balDuties plan
    let prev := if s.bal.slotPlanned && s.sched.window % 100 != 0 then s.bal.nextPulse else s.bal.pulseTap
    let g := first.grantsFor d (first.pulseFor d prev)
    let left := if dur = 0 then 0xFFFF else dur
    let old := (s.bal.pendingPlan <|> s.bal.plan).map fun (q : BalPlan) =>
      toLe 1 q.source ++ [0] ++ toLe 2 q.duration ++ q.duty.flatMap (toLe 1)
    let s' := { s with
      bal.pendingPlan := some plan
      bal.slotPlanned := s.bal.slotPlanned && !s.bal.plannedNew, bal.plannedNew := false
      bal.source := if s.bal.plan.isSome then s.bal.source else src
      bal.slotsLeft := if s.bal.plan.isSome then s.bal.slotsLeft else left
      bal.st := if s.bal.st = FnState.off then FnState.starting else s.bal.st }
    okAns (s'.journal h.port 0x40 0 (old.getD []) p) (g.flatMap fun x => toLe 1 (x.2.1 + if x.2.2 then 128 else 0)) [.balPlan]

/-- BAL_PLAN. -/
def execBalPlan (h : Hdr) (p : List Byte) (s : State) : Host.Outcome State Fault Refusal := .next (runCmd 0x40 opBalPlan h p s)

/-- BAL_STOP (R219, R220, 17 R422). -/
def opBalStop (h : Hdr) (_p : List Byte) (s : State) : Ans :=
  let old := (s.bal.pendingPlan <|> s.bal.plan).map fun (q : BalPlan) =>
    toLe 1 q.source ++ [0] ++ toLe 2 q.duration ++ q.duty.flatMap (toLe 1)
  let done := fun (s' : State) => okAns (s'.journal h.port 0x41 0 (old.getD []) []) [] [.balPlan]
  match s.bal.st with
  | FnState.off | .draining =>
    if s.bal.latched.isSome then done { s with bal.latched := none, bal.enableOutcome := (2, 0) } else okAns s [] [.balPlan]
  | _ => done (s.balDrain 2 (some (hdrRef h 0x41 false)))

/-- BAL_STOP. -/
def execBalStop (h : Hdr) (p : List Byte) (s : State) : Host.Outcome State Fault Refusal := .next (runCmd 0x41 opBalStop h p s)

/-! ### Readback -/

/-- The sample in use showed the switch of cell `n` conducting (R228). -/
def State.readOn (s : State) (n : Nat) : Bool :=
  match s.feSample (feOfCell n) s.sched.stamp with
  | some x => !x.held && !x.bad && x.sw.getLsbD (localOf n)
  | none => false

/-- Conducted frames are counted from the sample of the window that opens (R228): the first three windows of a slot still
read frames of the slot before it (R224), whether or not the new slot has begun. A sample of WATCH stands for ten frames (R232). -/
def State.balReadback (s : State) : State :=
  let k := s.windowFrames
  let late := s.sched.window % 100 < 3 && s.bal.slotNo == s.sched.window / 100
  let add := fun (x : Nat) (n : Nat) => if s.readOn n then x + k else x
  { s with
    bal.ending := match s.bal.ending with
      | some e => if late then some { e with delivered := e.delivered.zipIdx.map fun ((v, i) : Nat × Nat) => add v (i + 1) } else some e
      | none => none
    bal.cells := s.bal.cells.zipIdx.map fun ((c, i) : BalCell × Nat) =>
      { c with
        delivered := if late && s.bal.ending.isSome then c.delivered else add c.delivered (i + 1)
        achieved := if late then min 100 (add c.achieved (i + 1)) else c.achieved
        conducted := if late then c.conducted else min 100 (add c.conducted (i + 1)) } }

/-- The replaced plan is reported once its last frame has been read (R220). -/
def State.balReport (s : State) : State :=
  match s.bal.ending with
  | some e =>
    if s.sched.window % 100 < 2 then s
    else
      { s with bal.ending := none }.complete (e.cmd.getD {}) .ok 0 0 2
        (e.delivered.flatMap fun v => toLe 1 (dutyOf v e.slots))
  | none => s

/-! ### Slots -/

/-- The grants of a slot begin: those planned, or with no plan completed those of the slot before (R224). -/
def State.beginSlot (s : State) (planned : Bool) : State :=
  let t := if planned && s.power.st != .watch then s.bal.nextPulse else none
  { s with
    bal.slotPlanned := false, bal.plannedNew := false, bal.nextPulse := none
    bal.pulseTap := t
    bal.pulseAge := t.bind fun k => if (s.tapAt (tapIdx k)).rlKnown then some (s.tapAt (tapIdx k)).rlAge else none
    bal.planSlots := s.bal.planSlots + 1
    bal.slotsLeft := match s.bal.plan with
      | some p => if p.duration = 0 then 0xFFFF else p.duration - s.bal.planSlots
      | none => 0
    bal.cells := s.bal.cells.zipIdx.map fun ((c, i) : BalCell × Nat) =>
      let c := if planned then { c with grant := c.planned, alternated := c.plannedAlt, dReq := c.plannedReq } else c
      { c with pulse := match t with
          | some k => k ≤ i + 2 && i ≤ k
          | none => false } }

/-- The pending plan takes over with its first slot; the plan it replaces is reported (R219, R220). -/
def State.newPlan (s : State) (p : BalPlan) : State :=
  { s with
    bal.ending := if s.bal.plan.isSome then
        some { slots := s.bal.planSlots, delivered := s.bal.cells.map (·.delivered), cmd := p.cmd }
      else none
    bal.plan := some p, bal.pendingPlan := none, bal.st := .on, bal.source := p.source, bal.planSlots := 0
    bal.cells := s.bal.cells.map fun (c : BalCell) => { c with delivered := 0 } }

/-- What ends with a slot whatever the plan: counts, ILIM and the age of the refinement. -/
def State.turnSlot (s : State) : State :=
  { s with
    bal.refineSlots := s.bal.refineSlots + 1, bal.pulseTap := none, bal.slotNo := (s.sched.window + s.windowFrames) / 100
    bal.cells := s.bal.cells.map fun (c : BalCell) =>
      { c with achieved := c.conducted, conducted := 0, ilimSlots := c.ilimSlots - 1, ilim := 1 < c.ilimSlots
               ilimWas := c.ilim, pulse := false } }

/-- BAL_SLOT_START (R219, R220, R224). -/
def State.slotStart (s : State) : State :=
  let s := s.turnSlot
  if s.bal.st != .starting && s.bal.st != .on then s
  else match s.bal.slotPlanned && s.bal.plannedNew, s.bal.pendingPlan, s.bal.plan with
    | true, some p, _ => (s.newPlan p).beginSlot true
    | _, _, none => s
    | _, _, some p =>
      if p.duration ≠ 0 ∧ p.duration ≤ s.bal.planSlots then s.balDrain 1 none
      else s.beginSlot (s.bal.slotPlanned && !s.bal.plannedNew)

/-- BAL_SLOT_START. -/
def execBalSlotStart (s : State) : Host.Outcome State Fault Refusal := .next s.slotStart

/-! ### The pattern of a frame -/

/-- The newest pattern decided in window `w` or earlier. -/
def State.decidedAt (s : State) (w : Nat) : List Nat := ((s.bal.decs.find? fun e => e.1 ≤ w).map (·.2)).getD []

/-- Frames of this slot decided for a cell and not yet read back: the two before the frame being decided. -/
def State.inFlight (s : State) (n : Nat) : Nat :=
  let w := s.sched.window
  if s.power.st == .watch then 0
  else ([w - 1, w - 2].filter fun v => v / 100 = w / 100 && v < w && (s.decidedAt v).contains n).length

/-- Granted frames that remain (R228). -/
def State.remaining (s : State) (n : Nat) : Nat := (s.balAt n).grant - (s.balAt n).conducted - s.inFlight n

/-- A set of conducting cells is within the caps in force (R228). -/
def State.fitsCaps (s : State) (l : List Nat) : Bool :=
  decide (l.length ≤ s.gov.moduleCap) &&
    (List.range 6).all fun i => decide ((l.filter fun n => feOfCell n == i + 1).length ≤ s.gov.feCaps.getD i 0)

/-- Cells `n` and `n` + 1 share lead `n` and its figure is not fresh (R225). -/
def State.leadStale (s : State) (n : Nat) : Bool := n != 48 && !(s.leadR (tapIdx n)).2

/-- `x` put before the first element it ranks above. -/
def insertRank (before : Nat → Nat → Bool) (x : Nat) : List Nat → List Nat
  | [] => [x]
  | y :: l => if before x y then x :: y :: l else y :: insertRank before x l

/-- The rank of R228 step 3. -/
def State.ranks (s : State) (prev : List Nat) (a b : Nat) : Bool :=
  let ra := s.remaining a
  let rb := s.remaining b
  let aa := (s.balAt a).alternated
  let ab := (s.balAt b).alternated
  if aa != ab then aa
  else if ra ≠ rb then decide (rb < ra)
  else if prev.contains a != prev.contains b then prev.contains a else decide (a < b)

/-- Ranked cells enter one by one while the caps and the neighbour rule let them (R228 step 4). -/
def State.fill (s : State) (on : List Nat) (ranked : List Nat) : List Nat :=
  ranked.foldl (fun on n =>
    if s.fitsCaps (n :: on) && !(on.contains (n + 1) && s.leadStale n) && !(on.contains (n - 1) && s.leadStale (n - 1))
    then n :: on else on) on

/-- The open-wire steps of the strobe that this window decides for, and of the one after it (02 R48). -/
def State.nextTaps (s : State) : Nat × Nat :=
  let k := if s.ow.lastWin = s.sched.window then s.ow.last else s.ow.tap
  (k, if s.cells ≤ k then 0 else k + 1)

/-- A tap's last conclusive step is at least 8 x (N + 1) frames old (R229). -/
def State.owOld (s : State) (k : Nat) : Bool :=
  let old := fun i => decide (8 * (s.cells + 1) ≤ s.bal.owAge.getD i 0)
  old (tapIdx k) || (k == 48 && 48 < s.cells && old tap48H)

/-- Cells held by a freeze of tap `k`, within 1 to N (R229). -/
def State.frozenBy (s : State) (k : Nat) : List Nat := (allCells.filter fun n => k ≤ n + 1 && n ≤ k + 2 && n ≤ s.cells)

/-- Parity of the frame being decided: odd or even frame, sample count in WATCH, block index under a hold (R225, R230,
R232). -/
def State.balParity (s : State) (block : Option Nat) : Nat :=
  match block with
  | some b => b % 2
  | none => if s.power.st == .watch then s.sched.window / 10 % 2 else s.sched.window % 2

/-- Pulse states of frame index `j`: the cells it decides for, and those that conduct (R226). -/
def State.pulseStates (s : State) (j : Nat) : List Nat × List Nat :=
  match s.bal.pulseTap with
  | some k =>
    if 8 ≤ j || s.balHolds || s.power.st == .watch then ([], [])
    else ([k - 1, k, k + 1], if 4 ≤ j && s.balWhy k == 0 && s.fitsCaps [k] then [k] else [])
  | none => ([], [])

/-- The conducting cells of a frame, and the tap whose freeze begins (R228, R229). -/
def State.choose (s : State) (block : Option Nat) : List Nat × Option Nat × List Nat :=
  let prev := s.decidedAt (s.sched.window - 1)
  let (skip, on) := s.pulseStates (s.sched.window % 100)
  let (k2, k3) := s.nextTaps
  let starts := s.owOld k3
  let fz := ((if s.bal.freezeTap == some k2 then s.frozenBy k2 else []) ++ (if starts then s.frozenBy k3 else [])).eraseDups
  let fz := fz.filter fun n => !skip.contains n
  let fzOn := fz.filter fun n => prev.contains n && !(s.balAt n).ilim
  let held := s.fitsCaps (on ++ fzOn)
  let fz := if held then fz else []
  let on := if held then on ++ fzOn else on
  let cand := allCells.filter fun n =>
    !skip.contains n && !fz.contains n && 0 < s.remaining n && s.balWhy n == 0 &&
      (!(s.balAt n).alternated || n % 2 == s.balParity block)
  (s.fill on (cand.foldr (insertRank (s.ranks prev)) []), if starts && held then some k3 else none, fz)

/-- Index of the block that the strobe frame opens (R230). -/
def State.blockOpened (s : State) (f : Word) : Option Nat :=
  match s.eis.sweep with
  | some w =>
    if s.eis.kind == .watch then (if f.toNat % 1000 = 0 then some (f.toNat / 1000) else none)
    else if frameLater w.s0 f then none
    else
      let d := (f - w.s0).toNat
      if d % w.lb = 0 then some (d / w.lb) else none
  | none => none

/-- Balancing delivers patterns now: ON, and in WATCH as BAL_IN_WATCH says (R232). -/
def State.balRuns (s : State) : Bool :=
  s.bal.st == .on &&
    (s.power.st == .run || s.bal.inWatch == 2 ||
      (s.bal.inWatch == 1 && (List.range 6).all fun i => !s.feActive (i + 1) || !(s.feAt (i + 1)).supplyStack))

/-- A switch current of 290 mA marks its cell, with one absorbed event for a run of slots (R217). -/
def State.checkIlim (s : State) : State :=
  allCells.foldl (fun s n =>
    let c := s.chanAt n
    if n ≤ s.cells && 2900 ≤ c.swCur && !frameLater s.sched.stamp c.swCurFrame then
      let new := !(s.balAt n).ilim && !(s.balAt n).ilimWas
      let s := { s with bal.cells := s.bal.cells.modify (n - 1) fun (x : BalCell) => { x with ilim := true, ilimSlots := 2 } }
      if new then s.absorb 9 1 0xFF n [] else s
    else s) s

/-- A decided pattern goes to the front ends and to the words of Table 9.3. -/
def State.setPattern (s : State) (on fz : List Nat) : State :=
  let strobe := s.sched.stamp + 3
  { s with
    bal.decs := ((s.sched.window, on) :: s.bal.decs).take 4
    fe := s.fe.zipIdx.map fun ((f, i) : Fe × Nat) =>
      { f with swDec := ((strobe, ofBits 16 fun b => on.contains (16 * i + b + 1)) :: f.swDec).take 4 }
    bal.cells := s.bal.cells.zipIdx.map fun ((c, i) : BalCell × Nat) =>
      { c with frozen := fz.contains (i + 1), hold := s.bal.hold && i < s.cells && s.bal.st == FnState.on } }

/-- EXCL as the conditions stand (R222, R228). -/
def State.showExcl (s : State) : State :=
  { s with bal.cells := s.bal.cells.zipIdx.map fun ((c, i) : BalCell × Nat) =>
      { c with excl := s.exclOf (i + 1) c.dReq } }

/-- The pattern job of P38 (R217, R228 to R232). -/
def State.patternJob (s : State) : State :=
  let s := s.checkIlim
  let s := { s with bal.hold := s.balHolds }
  if !s.balRuns then { s with bal.freezeTap := none }.setPattern [] []
  else
    let s := s.showExcl
    let prev := s.decidedAt (s.sched.window - 1)
    let block := s.blockOpened (s.sched.stamp + 3)
    if s.bal.hold && block.isNone then
      let (k2, k3) := s.nextTaps
      let starts := s.owOld k3
      let fz := (if s.bal.freezeTap == some k2 then s.frozenBy k2 else []) ++ (if starts then s.frozenBy k3 else [])
      { s with bal.freezeTap := if starts then some k3 else none }.setPattern
        (s.fill [] (prev.reverse.filter fun n => !(s.balAt n).ilim)) fz
    else
      let (on, fz, cells) := s.choose (if s.bal.hold then block else none)
      { s with bal.freezeTap := fz }.setPattern on cells

/-! ### The boundary -/

/-- Balancing drains when the pattern job is suspended or lost (R219). -/
def State.balBoundary (s : State) : State :=
  if (s.slotAt 38).suspended || (s.slotAt 38).lost then s.balDrain 4 none else s

/-- Balancing reaches OFF with the first readback that shows every switch open (R219); with a latched plan the COMPLETION
waits for its outcome (17 R422). -/
def State.balReachesOff (s : State) : State :=
  if s.bal.st = .draining ∧ s.balAllOpen = true then
    let t : State := { s with
      bal.st := .off, bal.source := 0, bal.plan := none, bal.planSlots := 0
      bal.stopBy := none, bal.enableOutcome := (0, 0)
      bal.cells := s.bal.cells.map fun (c : BalCell) =>
        { c with grant := 0, alternated := false, dReq := 0, frozen := false, hold := false, delivered := 0, candidate := false } }
    if s.bal.latched.isSome then t
    else t.complete (s.bal.stopBy.getD {}) .ok s.bal.enableOutcome.1 s.bal.enableOutcome.2 s.bal.endCause s.balDetail
  else s

end Sys2Proof.Machine
end

