-- ==== Sys2Proof/Machine/Protection.lean ====
section
/-!
DEFINITION. Hardware protection and the fault line (10_hardware_protection.md): comparators and fault channels,
overcurrent and the fast channel, thermal shutdown, the fault cause register, the check of the protection set and the
protection event records.
-/

namespace Sys2Proof.Machine

/-! ### Comparators and fault channels -/

/-- The comparators of a die are live: it is active and has power, and the module is not in APHELION (R238, R248). -/
def State.dieLive (s : State) (fe : Nat) : Bool :=
  s.feActive fe && !(s.feAt fe).poweredDown && !(s.feAt fe).noFallback && s.power.st != .aphelion

/-- A filtered output of local channel `ch` takes a value; channels above N are disabled (R236, R238). -/
def State.comparator (s : State) (fe ch : Nat) (ov v : Bool) : State :=
  if s.dieLive fe && ch ≤ s.feCells fe then
    s.modFe fe fun f =>
      if ov then { f with ovOut := setBit f.ovOut (ch - 1) v } else { f with uvOut := setBit f.uvOut (ch - 1) v }
  else s

/-- COMPARATOR_ASSERT (R236): eight consecutive samples beyond the threshold. -/
def execComparatorAssert (fe ch : Nat) (ov : Bool) (s : State) : Host.Outcome State Fault Refusal :=
  if feOk fe && channelOk ch then .next (s.comparator fe ch ov true) else .fault .noSuchUnit

/-- COMPARATOR_RELEASE (R236): eight consecutive samples inside the return band. -/
def execComparatorRelease (fe ch : Nat) (ov : Bool) (s : State) : Host.Outcome State Fault Refusal :=
  if feOk fe && channelOk ch then .next (s.comparator fe ch ov false) else .fault .noSuchUnit

/-- What a fault-channel frequency says: OV asserted, UV asserted (R237). -/
def freqShows : FaultFreq → Bool × Bool
  | .mhz1 => (false, false) | .khz250 => (true, false) | .khz500 => (false, true) | .khz125 => (true, true)

/-- The frequency that the fault channel of a die carries for its filtered outputs (R237). -/
def Fe.carried (f : Fe) : FaultFreq :=
  if f.ovOut = 0 then (if f.uvOut = 0 then .mhz1 else .khz500) else if f.uvOut = 0 then .khz250 else .khz125

/-- One of the causes CELL_OV (31) and CELL_UV (30) as the fault channels show it (R237, R244). -/
def State.cellCause (s : State) (b fe : Nat) (on : Bool) (any : Bool) : State :=
  if on then s.setCause b fe else if any then s else s.withdrawCause b

/-- FAULT_CHANNEL_CHANGE (R237): the always-on domain decodes a frequency; edges end a channel that was down (R60). -/
def State.faultChannel (s : State) (fe : Nat) (q : FaultFreq) : State :=
  let s := (s.modFe fe fun f => { f with faultChDown := false }).linksUp
  let was := (s.prot.feOv.getLsbD (fe - 1), s.prot.feUv.getLsbD (fe - 1))
  let s := { s with prot.feOv := setBit s.prot.feOv (fe - 1) (freqShows q).1, prot.feUv := setBit s.prot.feUv (fe - 1) (freqShows q).2 }
  let s := if (freqShows q).1 && was.1 then s else s.cellCause 31 fe (freqShows q).1 (s.prot.feOv != 0)
  if (freqShows q).2 && was.2 then s else s.cellCause 30 fe (freqShows q).2 (s.prot.feUv != 0)

/-- FAULT_CHANNEL_CHANGE: only the frequency that the die's channel carries can be decoded from it. -/
def execFaultChannelChange (fe : Nat) (freq : FaultFreq) (s : State) : Host.Outcome State Fault Refusal :=
  if feOk fe then .next (if s.dieLive fe && freq == (s.feAt fe).carried then s.faultChannel fe freq else s)
  else .fault .noSuchUnit

/-! ### Overcurrent and thermal shutdown -/

/-- A CFE with a fast channel is present and live (R248). -/
def State.fastLive (s : State) : Bool := s.hasCfe && s.power.st != .aphelion

/-- OVERCURRENT_TRIP (R239, 03 R77): the gates are killed and FAULT_N is asserted. -/
def execOvercurrentTrip (charge : Bool) (s : State) : Host.Outcome State Fault Refusal :=
  .next (if s.fastLive then
    ({ s with cfe.ocLatched := true, prot.ocFrame := s.grid.frame, prot.ocCharge := charge }.setCause 29 7).convStop 1
  else s)

/-- FAST_CHANNEL_LOST (R240): no heartbeat edge for 2 us. -/
def execFastChannelLost (s : State) : Host.Outcome State Fault Refusal :=
  .next (if s.fastLive then ({ s with cfe.fastOk := false }.setCause 28 7).convStop 2 else s)

/-- FAST_CHANNEL_RESTORED (R240): the first heartbeat edge withdraws the cause. -/
def execFastChannelRestored (s : State) : Host.Outcome State Fault Refusal :=
  .next (if s.fastLive then { s with cfe.fastOk := true }.withdrawCause 28 else s)

/-- FE_THERMAL_SHUTDOWN (R241): the die opens its 16 switches at once; FAULT_N is not asserted. The entry of the capture
FIFO is made by the always-on domain (R247). -/
def State.thermalTrip (s : State) (fe : Nat) : State :=
  let s := s.modFe fe fun f => { f with tsdLatched := true, swNow := 0 }
  (s.capture 3 11 fe).absorb 1 0x0A fe 0 []

/-- FE_THERMAL_SHUTDOWN. -/
def execFeThermalShutdown (fe : Nat) (s : State) : Host.Outcome State Fault Refusal :=
  if feOk fe then .next (if s.dieLive fe && !(s.feAt fe).tsdLatched then s.thermalTrip fe else s) else .fault .noSuchUnit

/-- FE_THERMAL_RELEASE (R241): the back channel commands the switches again from the next strobe. -/
def execFeThermalRelease (fe : Nat) (s : State) : Host.Outcome State Fault Refusal :=
  if feOk fe then .next (s.modFe fe fun f => { f with tsdLatched := false }) else .fault .noSuchUnit

/-! ### The fault line and the cause register -/

/-- FAULT_LINE_LOW (R243): below 0.8 V for 1 us, by whatever module. -/
def execFaultLineLow (s : State) : Host.Outcome State Fault Refusal :=
  .next ({ s with prot.lineLow := true, conv.lineHighUs := 0 }.convStop 3)

/-- FAULT_AUTO_RELEASE (R244): under AUTO a bit clears once its cause has been clear for FAULT_RELEASE_MS. -/
def execFaultAutoRelease (bit : Nat) (s : State) : Host.Outcome State Fault Refusal :=
  if causeBitOk bit then
    .next (if s.prot.set.release = 1 && decide (1000000 * s.prot.set.releaseMs ≤
        (s.grid.plantNs - s.prot.clearAt.getD (bit - 22) 0).toNat + 100000) then s.clearCause bit else s)
  else .fault .noSuchUnit

/-- Bits [31:22] in order. -/
def causeBits : List Nat := [31, 30, 29, 28, 27, 26, 25, 24, 23, 22]

/-- DIAG FAULT_CLEAR (R244, R247): under LATCH each bit whose cause has cleared; FIFO_OVERFLOW under both settings when the
FIFO is empty. The reply gives the cause bits still set. -/
def opFaultClear (h : Hdr) (_p : List Byte) (s : State) : Ans :=
  let old := s.causeWord
  let empty := s.prot.fifo = []
  let s' := if s.prot.set.release = 0 then causeBits.foldl State.clearCause s else s
  let s' := if empty then { s' with prot.cause := setBit s'.prot.cause 13 false } else s'
  okAns (s'.journal h.port 0xF1 0x03 (w32 old) (w32 s'.causeWord)) (w32 (s'.prot.cause &&& 0xFFC00000))

/-- DIAG_FAULT_CLEAR. -/
def execDiagFaultClear (h : Hdr) (p : List Byte) (s : State) : Host.Outcome State Fault Refusal :=
  .next (runCmd 0xF1 opFaultClear h (0x03 :: p) s)

/-! ### The check of the protection set -/

/-- The comparison of P39 (R246): an image that fails its own CRC sets THRESH_CRC; a set that differs from it is
reloaded. A set on its way to its strobe is not compared, and in the protection-only state nothing is (R248). -/
def State.threshJob (s : State) : State :=
  if s.lanes.protOnly then s
  else if s.prot.imageBad then s.setCause 23 0
  else if s.prot.setPending.isNone && s.prot.set != s.prot.image then
    { s with prot.set := s.prot.image }.absorb 10 1 0xFF 0 []
  else s

/-! ### Protection event records -/

/-- The set as its parameters are stored, in ascending ID. -/
def ThrSet.bytes (x : ThrSet) : List Byte :=
  toLe 2 x.ov ++ toLe 2 x.uv ++ toLe 2 x.hyst ++ toLe 1 x.release ++ toLe 2 x.releaseMs ++ toLe 2 (25 * x.ocChg) ++
    toLe 2 (25 * x.ocDis)

/-- The branch current now, mA. -/
def State.branchNow (s : State) : Option Int :=
  let b := s.branchAt (s.pn P.branch)
  if b.pairInvalid then none else some b.pairCur

/-- The record of Table 10.5 for a capture entry. -/
def State.protBytes (s : State) (e : CapEntry) : List Byte :=
  let fe := 1 ≤ e.die && e.die ≤ 6
  let group := (List.range 16).map fun i => 16 * (e.die - 1) + i + 1
  let mask := fun (b : Nat) => (List.range 12).flatMap fun k =>
    toLe 1 ((List.range 8).map fun i =>
      if 8 * k + i < s.cells ∧ (s.chanAt (8 * k + i + 1)).status.getLsbD b then 2 ^ i else 0).sum
  withCrc (toLe 1 e.kind ++ toLe 1 e.cause ++ zeros 2 ++ toLe 4 s.prot.seq ++ w32 e.frame ++ w64 e.time ++ w32 e.causeReg ++
    toLe 1 e.die ++ toLe 1 e.cell ++ toLe 1 (pack [(6, 2, s.grid.mode.code), (3, 3, s.power.st.code)]) ++ zeros 1 ++
    w32 (crc32c s.prot.set.bytes) ++ toLe 2 (10 * s.prot.set.ov) ++ toLe 2 (10 * s.prot.set.uv) ++ s32 s.branchNow ++
    s32 s.stringMv ++ (if fe then group.flatMap fun n => toLe 2 (s.chanAt n).u16.toNat else (List.replicate 16 [0xFF, 0xFF]).flatten) ++
    mask 4 ++ mask 3 ++ s16 (if s.gov.dieNoConv then none else some s.gov.dieTemp) ++
    s16 (if fe then s.feTjShown e.die else none) ++ zeros 20)

/-- The oldest capture becomes record SEQ of the protection-event region (R247). -/
def State.writeProtRecord (s : State) : State :=
  match s.prot.fifo with
  | [] => s
  | e :: rest =>
    let bytes := s.protBytes e
    let r : ProtRec := { seq := s.prot.seq, bytes := bytes }
    let s := { s with prot.fifo := rest, prot.seq := s.prot.seq + 1, prot.recs := (r :: s.prot.recs).take 256 }
    (s.nvmAsk { lane := false, cls := 1, pan := ((s.slotAt 39).pan).getD 39, left := 2 }).notify 0x06 bytes

/-- The event record write of P39 (05 Table 5.1): the oldest capture, or else the record of an absorbed event, which the lane
has laid out. -/
def State.eventWriteJob (s : State) : State :=
  if s.prot.fifo != [] then s.writeProtRecord
  else if s.lanes.evDue = 0 then s
  else { s with lanes.evDue := s.lanes.evDue - 1 }.nvmAsk { lane := false, cls := 1, pan := ((s.slotAt 39).pan).getD 39, left := 1 }

/-- PROT_EVENT_RECORD_WRITE: by P39, whose oldest pending instance it is (05 Table 5.1); in the protection-only state no record
is written (R247). -/
def execProtEventRecordWrite (s : State) : Host.Outcome State Fault Refusal :=
  .next (if s.lanes.protOnly || !s.portsOn || !s.roleRuns 39 || s.prot.fifo == [] then s
    else { s.writeProtRecord with sched.pending := s.sched.pending.eraseP fun x => x.job == .eventWrite })

/-- DIAG PROT_EVENTS (R247): the records from a SEQ onward. -/
def opProtEvents (_h : Hdr) (p : List Byte) (s : State) : Ans :=
  let n := (getB p 5).toNat
  if n < 1 ∨ 31 < n then fail s .outOfRange
  else
    let l := (s.prot.recs.reverse.filter fun r => getU p 1 4 ≤ r.seq).take n
    okAns s (toLe 1 l.length ++ zeros 3 ++ l.flatMap (·.bytes))

/-- DIAG_PROT_EVENTS. -/
def execDiagProtEvents (h : Hdr) (p : List Byte) (s : State) : Host.Outcome State Fault Refusal :=
  .next (runCmd 0xF1 opProtEvents h (0x04 :: p) s)

end Sys2Proof.Machine
end

