-- ==== Sys2Proof/Machine/Law.lean ====
section
/-!
DEFINITION. The control engine and the phase manager (12_control_engine.md; 11_string_converter.md R258 to R267): what
P34, P35 and P36 do with a control sample, and what the converter block takes at the output instant.
-/

namespace Sys2Proof.Machine

/-- `a / b` with a free value for a zero divisor (log entry 24). -/
def quot (a b : Rat) : Rat := if b = 0 then Config.divZero a else a / b

/-- The circle constant to the precision of the single values it enters (log entry 5). -/
def piRat : Rat := 3141592653589793 / 1000000000000000

/-- One sub-period in s. -/
def subS : Rat := 1 / 40000

/-- The role of an anchored slot writes its sets: its pan runs, or a spare that shadowed it takes over (R278). -/
def State.anchorRuns (s : State) (k : Nat) : Bool :=
  s.roleRuns k || (match (s.slotAt k).moveTo with
    | some p => (s.panAt p).st == .shadowing && (s.panAt p).shadowOf == some k
    | none => false)

/-- Plant time of the control sample, ns. -/
def State.sampleNs (s : State) : BitVec 64 := s.grid.plantNs + BitVec.ofNat 64 (25000 * s.grid.sub)

/-! ### Readings -/

/-- Readings of a control sample (11 R250, R258): phases, bus, driver fault and fault line. Inputs above CONV_PHASES are ignored
(11 R249). -/
def State.takeReadings (s : State) (sub : Nat) (phaseUv : List Nat) (busUv : Nat) (gdLow lineLow : Bool) : State :=
  let s := { s with
    grid.sub := sub, prot.lineLow := lineLow
    phase := s.phase.zipIdx.map fun ((p, i) : Phase × Nat) =>
      let v : Rat := ((phaseUv.getD i 0 : Nat) : Rat) / 1000000
      if !s.configured (i + 1) then { p with vSense := 0, read := 0, senseBad := false } else
      { p with vSense := v, read := (v - 3 / 2) * s.senseGain, senseBad := !senseOk v }
    conv.vBusSense := (busUv : Rat) / 1000000, conv.vBus := s.busOf busUv
    conv.gdFaultLow := gdLow, conv.gdFaultUs := if gdLow && !s.conv.gdEn then min 1000 (s.conv.gdFaultUs + 25) else 0
    conv.curLimPrev := s.conv.curLimited, conv.curLimited := s.conv.curLimNow, conv.curLimNow := false
    conv.gdEnSubs := min 40 (s.conv.gdEnSubs + 1), conv.drainSubs := min 40000 (s.conv.drainSubs + 1)
    conv.hiccupSubs := min 40000 (s.conv.hiccupSubs + 1), conv.stepSubs := min 40000 (s.conv.stepSubs + 1)
    conv.spacing := s.conv.spacing.map fun n => min 4000 (n + 1) }
  { s with
    conv.lineHighUs := if s.lineIsLow then 0 else min 1000 (s.conv.lineHighUs + 25)
    conv.iConvPrev := s.conv.iConv, conv.iConv := (s.actives.map fun j => (s.phaseAt j).read).sum }

/-! ### Inputs of the law -/

/-- The string values of the ring record, where one has them (R279). -/
def State.fromRecord (s : State) : State :=
  match (s.branchAt (s.pn P.branch)).mainRecs.find? fun r => !r.flags.getLsbD 1 with
  | some r =>
    { s with law.iBr := (r.cur : Rat) / 1000
             law.vStr := if r.vstr = -2147483648 then s.law.vStr else (r.vstr : Rat) / 1000 }
  | none => s

/-- The local control sample is usable (03 R66): its packet was good, and the port is up and not relinking. -/
def State.ctlUsable (s : State) : Bool := !s.cfe.ctlMissing && s.cfe.linkUp && !s.cfe.relinking

/-- I_BR and V_STR of a sub-period (R279, Table 12.2). -/
def State.lawInputs (s : State) : State :=
  if !s.hasCfe then
    { s.fromRecord with law.cfeFallback := true, law.cfeHeld := false, law.heldSubs := 0, law.goodSubs := 0 }
  else if s.ctlUsable then
    let good := min 4 (s.law.goodSubs + 1)
    if s.law.cfeFallback && good < 4 then { s.fromRecord with law.goodSubs := good }
    else { s with law.goodSubs := good, law.heldSubs := 0, law.cfeHeld := false, law.cfeFallback := false
                  law.iBr := (s.cfe.ctlCur : Rat) / 1000, law.vStr := (s.cfe.ctlVstr : Rat) / 1000 }
  else if s.law.cfeFallback then { s.fromRecord with law.goodSubs := 0 }
  else if 40 ≤ s.law.heldSubs && s.recString.isSome then
    { s.fromRecord with law.goodSubs := 0, law.cfeHeld := false, law.cfeFallback := true }
  else { s with law.goodSubs := 0, law.cfeHeld := true, law.heldSubs := min 40 (s.law.heldSubs + 1) }

/-- k_str and k_bus (12, "The law"). -/
def State.sideFactors (s : State) : Rat × Rat :=
  if s.stringLow then (1, quot s.conv.vBus s.law.vStr) else (quot s.law.vStr s.conv.vBus, 1)

/-- I_CHG2 and I_DIS2 in A: of the string record on the primary, of the module's own summary otherwise (Table 12.2). -/
def State.twoSecond (s : State) : Rat × Rat :=
  let (c, d) := if s.isPrimary then (s.str.iChg.getD 0 0, s.str.iDis.getD 0 0)
    else (s.estMod.iChg.getD 0 0, s.estMod.iDis.getD 0 0)
  ((c : Rat) / 1000, (d : Rat) / 1000)

/-! ### Excitation -/

/-- The plant time of the control sample less that of the strobe of S0, ns (07 R179). -/
def State.sinceS0 (s : State) (w : Sweep) : Int :=
  (s.grid.frame - w.s0).toInt * 100000 + ((25000 * s.grid.sub : Nat) : Int)

/-- The rise of g runs at this control sample (07 R179). -/
def State.excRising (s : State) : Bool :=
  s.eis.gRising && (match s.eis.gStart with
    | some t => decide (t ≤ s.sampleNs.toNat)
    | none => false)

/-- g at a control sample: rising over 2 ms to its full value; from the first sample at which a stop applies, falling by a
fortieth at each later one, so that it is 0 after 1 ms (07 R179, Table 7.15). -/
def State.excGain (s : State) : Rat :=
  match s.eis.gStart with
  | some t =>
    if s.excRising then clampRat 0 1 (((s.sampleNs.toNat : Int) - (t : Int) : Int) / (2000000 : Rat))
    else if s.eis.gFalling then max 0 (s.eis.g - 1 / 40) else s.eis.g
  | none => if s.eis.gFalling then max 0 (s.eis.g - 1 / 40) else s.eis.g

/-- The excitation advances by a sub-period. The tones of a measurement that has been stopped or replaced stay until g is
0. -/
def State.excStep (s : State) : State :=
  let g := s.excGain
  { s with eis.g := g, eis.gFalling := !s.excRising
           eis.excSweep := if s.excRising then s.eis.sweep else if g = 0 then none else s.eis.excSweep }

/-- e(t) in A (07 R179). -/
def State.excitation (s : State) : Rat :=
  match s.eis.excSweep with
  | none => 0
  | some w =>
    if s.eis.g = 0 then 0
    else
      let t : Rat := (s.sinceS0 w : Rat) / 1000000000
      let k := w.tones.length
      s.eis.g * (w.tones.zipIdx.map fun (tn, i) =>
        (tn.amp : Rat) / 1000 * Config.sinTurn (toneHz w tn * t - ((i * (i + 1) : Nat) : Rat) / ((2 * k : Nat) : Rat))).sum

/-! ### P34: the law -/

/-- The pan that runs anchored slot `k` in this sub-period: its own, or the spare that shadowed it and takes over (R278). -/
def State.anchorPan (s : State) (k : Nat) : Option Nat := if s.roleRuns k then (s.slotAt k).pan else (s.slotAt k).moveTo

/-- The flags that the RNORM of `x` sets in the pan of anchored slot `k` (04 R90); P35 runs FALLBACK in the place of slot 34
(14 R348). -/
def State.rnormFlags (s : State) (k : Nat) (x : Rat) : State :=
  match s.anchorPan (if s.anchorRuns k then k else 35) with
  | some p => s.modPan p fun y => { y with
      flagRun := y.flagRun ||| BitVec.ofNat 3 (pack [(2, 1, bit (rnorm x).sat), (1, 1, bit (rnorm x).ufl)]) }
  | none => s

/-- LAW_SAT, the flags of P34's pan and the single value of a state variable (R280). -/
def State.single (s : State) (x : Rat) : Single × State :=
  (Single.ofRat x, { s with law.lawSat := s.law.lawSat || rnormFlag x }.rnormFlags 34 x)

/-- A single value for an integrator: one whose update saturated keeps its value (R280). -/
def State.singleKeep (s : State) (old : Single) (x : Rat) : Single × State :=
  (if rnormFlag x then old else Single.ofRat x, { s with law.lawSat := s.law.lawSat || rnormFlag x }.rnormFlags 34 x)

/-- A single value that P35 writes, with the flags of its pan. -/
def State.single35 (s : State) (x : Rat) : Single × State := (Single.ofRat x, s.rnormFlags 35 x)

/-- Slew of x per sub-period in its own unit (R282, Table 12.4). -/
def State.slewStep (s : State) : Rat :=
  match s.law.mode with
  | .current => s.pr P.lawSlewAMs * 25
  | .power => s.pr P.lawSlewKwMs * 5 / 2
  | .busVoltage => s.pr P.lawSlewVMs / 4

/-- The bumpless change of mode (R283). -/
def State.changeMode (s : State) (kStr kBus iBus : Rat) : State :=
  let iStr := quot s.law.iRefPrev kStr
  let s := { s with law.mode := s.law.outMode, law.modeChange := false }
  match s.law.mode with
  | .current => let (x, s) := s.single (iStr * 1000); { s with law.x := x }
  | .power => let (x, s) := s.single (s.law.vStr * iStr); { s with law.x := x }
  | .busVoltage =>
    let (x, s) := s.single ((s.conv.vBus - s.pr P.lawDroopVA / 1000 * iBus) * 1000)
    let (v, s) := s.single (quot s.law.iRefPrev kBus)
    { s with law.x := x, law.vint := v, law.s1 := {}, law.s2 := {} }

/-- The notch on an input (R286): its output and the state with s1 and s2 advanced. -/
def State.notch (s : State) (u : Rat) : Rat × State :=
  if s.pb P.notchEnable then
    let k := Config.tanTurn (s.pr P.notchHz / 800000)
    let q := s.pr P.notchQ / 10
    let d := 1 + k / q + k ^ 2
    let b0 := quot (1 + k ^ 2) d
    let b1 := quot (2 * (k ^ 2 - 1)) d
    let a2 := quot (1 - k / q + k ^ 2) d
    let y := b0 * u + s.law.s1.val
    let (n1, s') := s.single (b1 * u - b1 * y + s.law.s2.val)
    let (n2, s') := s'.single (b0 * u - a2 * y)
    (y, { s' with law.s1 := n1, law.s2 := n2 })
  else (u, s)

/-- What the clamps of R287 make of a demand: the reference, CLAMP_STRING, CLAMP_RATED, and whether the soft-start limit
bounds it. -/
def State.clamps (s : State) (dem kStr : Rat) : Rat × Bool × Bool × Bool :=
  let r := dem + kStr * (if s.conv.st = .on then s.excitation else 0)
  let (c2, d2) := s.twoSecond
  let chg := s.pr P.lawIChgMaxA / 10
  let dis := s.pr P.lawIDisMaxA / 10
  let chg := if s.pb P.lawStringLimits then min c2 chg else chg
  let dis := if s.pb P.lawStringLimits then min d2 dis else dis
  let r1 := clampRat (-dis * kStr) (chg * kStr) r
  let m := (s.nOk : Rat) * s.rated
  let r2 := clampRat (-m) m r1
  let ss := s.conv.st = .starting || s.conv.hiccupOff
  let r3 := if ss then clampRat (-s.conv.ssLimit) s.conv.ssLimit r2 else r2
  (r3, r1 != r, r2 != r1, r3 != r2)

/-- The outer demand and the clamped reference, with x, the integrator and the flags that follow (R282, R284, R285,
R287). `slew` is false at the sample of a mode change. -/
def State.outerLaw (s : State) (kStr kBus iBus : Rat) (slew : Bool) : State :=
  let (x, s) := if slew then s.single (toward s.law.x.val (s.law.outTarget : Rat) s.slewStep) else (s.law.x, s)
  let s := { s with law.x := x, law.drainRamp := false }
  let finish := fun (s : State) (dem ref : Rat) (cs cr sb : Bool) => { s with
    law.iTarget := dem, law.iRef := ref, law.clampString := cs, law.clampRated := cr, conv.ssActive := sb
    law.excOn := s.conv.st == FnState.on && s.excitation != 0 }
  match s.law.mode with
  | .busVoltage =>
    let vRef := x.val / 1000 + s.pr P.lawDroopVA / 1000 * iBus
    let (err, s) := s.notch (s.conv.vBus - vRef)
    let kp := s.pr P.lawKpV / 100
    let (vint, s) := s.singleKeep s.law.vint (s.law.vint.val + s.pr P.lawKiV * err * subS)
    let s := { s with law.vRef := some vRef }
    let dem := kBus * (kp * err + vint.val)
    let (ref, cs, cr, sb) := s.clamps dem kStr
    let full := dem + kStr * (if s.conv.st = .on then s.excitation else 0)
    if (ref < full ∧ 0 < kBus * err) ∨ (full < ref ∧ kBus * err < 0) then
      let dem := kBus * (kp * err + s.law.vint.val)
      let (ref, cs, cr, sb) := s.clamps dem kStr
      finish s dem ref cs cr sb
    else finish { s with law.vint := vint } dem ref cs cr sb
  | _ =>
    let (_, s) := s.notch 0
    let dem := if s.law.mode = .current then kStr * (x.val / 1000) else quot (kStr * x.val) s.law.vStr
    let (ref, cs, cr, sb) := s.clamps dem kStr
    let s := finish { s with law.vRef := none } dem ref cs cr sb
    if cs || cr || sb then
      let i := quot ref kStr
      let (x, s) := s.single (if s.law.mode = .current then i * 1000 else i * s.law.vStr)
      { s with law.x := x }
    else s

/-- I_PK from I_REF (R288). -/
def State.peakLaw (s : State) : State :=
  let ei := s.law.iRef - s.conv.iConv
  let lim := (s.nOk : Rat) * s.phaseLimit / 4
  let (l, s) := s.singleKeep s.law.lint (clampRat (-lim) lim (s.law.lint.val + s.pr P.lawKiI * ei * subS))
  let pk := fun (l : Single) => quot (s.law.iRef + s.pr P.lawKpI / 100 * ei + l.val) s.law.nEff
  let l := if s.conv.curLimited && absRat (pk s.law.lint) < absRat (pk l) then s.law.lint else l
  { s with law.lint := l, law.sets.iPk := pk l, law.sets.law := true }

/-- P34 in one sub-period (R280 to R288, R294): the ramp of FALLBACK (14 R348), the drain ramp and the ramp after the
loss of slot 35 replace the outer law. -/
def State.runLaw (s : State) : State :=
  let s := { s with law.lawSat := false }
  let (kStr, kBus) := s.sideFactors
  let iBus := quot s.conv.iConv kBus
  let ramp := fun (s : State) (step : Rat) => { s with
    law.iRef := toward s.law.iRefPrev 0 step, law.clampString := false, law.clampRated := false, law.excOn := false
    conv.ssActive := false }
  let s :=
    if s.lanes.fallback then ramp s s.lanes.fallbackStep
    else if s.conv.st = .draining then { ramp s (s.pr P.convDrainSlewAMs / 40) with law.drainRamp := true }
    else if s.law.rampDown then ramp s (1 / 4)
    else if s.law.modeChange then (s.changeMode kStr kBus iBus).outerLaw kStr kBus iBus false
    else s.outerLaw kStr kBus iBus true
  let s := s.peakLaw
  { s with law.slewing := s.law.x.val != (s.law.outTarget : Rat) }

/-! ### P35: the supervisor and the safe law -/

/-- The reasons of Table 12.5 that a change of the active set or a STEP gives for eight sub-periods. -/
def State.justChanged (s : State) : Bool := s.conv.setSince < 8 || s.conv.stepSince < 8

/-- V_low and V_high in side order. -/
def State.lowHigh (s : State) : Rat × Rat := if s.stringLow then (s.law.vStr, s.conv.vBus) else (s.conv.vBus, s.law.vStr)

/-- The three residuals and PLAUS_COUNT (R289, R290). -/
def State.supervise (s : State) : State :=
  let i := s.conv.iConv
  let n := s.actives.length
  let lim := s.conv.curLimited
  let zero := s.conv.st == .starting && s.conv.startStep == 0
  let supC := lim || s.conv.curLimPrev || s.conv.hiccupOff || zero || s.justChanged
  let supS := s.law.cfeHeld || s.law.cfeFallback || s.pn P.ringBranches == 2 || s.conv.stepSince < 8
  let supV := decide (absRat i < (n : Rat) * s.rated / 10) || lim || s.conv.hiccupOff || s.justChanged ||
    s.law.cfeHeld || s.law.cfeFallback
  let a := 1 - Config.exp (-25 / s.pr P.plausTauUs)
  let (m, s) := s.single35 (if supC then i else s.law.m.val + a * (s.law.iRefPrev - s.law.m.val))
  let (kStr, _) := s.sideFactors
  let (lo, hi) := s.lowHigh
  let d := meanRat (s.actives.map fun j => (s.phaseAt j).hsFrac)
  let rc := if supC then none else some (absRat (i - m.val) / (s.pr P.plausIA / 10))
  let rs := if supS then none
    else some (absRat (s.law.iBr - quot i kStr) / (s.pr P.plausIstrA / 10 + s.pr P.plausIstrPct / 1000 * absRat s.law.iBr))
  let rv := if supV then none else some (absRat (lo - hi * d) / (s.pr P.plausVPct / 1000 * hi + 5))
  let exc := fun (r : Option Rat) => r.any (1 < ·)
  { s with
    law.m := m, law.rhoC := rc, law.rhoS := rs, law.rhoV := rv, law.excC := exc rc, law.excS := exc rs, law.excV := exc rv
    law.plausCount := if exc rc || exc rs || exc rv then min 8 (s.law.plausCount + 1) else 0, law.sets.plaus := true }

/-- The set of the safe law at its present I_SAFE (R291). -/
def State.safeSet (s : State) : State :=
  let l := s.law
  let pk := if absRat l.safeI0 < 1 then quot l.iSafe l.nEff else quot (l.safeTotal * l.iSafe / l.safeI0) l.nEff
  { s with law.iRef := l.iSafe, law.sets.iPk := pk, law.sets.plaus := true }

/-- P35 runs the safe law for a sub-period: 0.25 A toward 0. -/
def State.safeStep (s : State) : State := { s with law.iSafe := toward s.law.iSafe 0 (1 / 4) }.safeSet

/-- The safe law begins from the I_REF of the previous output (R291); before switching it takes the gates off at once. -/
def State.startSafe (s : State) (cause : Nat) (latch : Bool) : State :=
  if s.conv.st = .starting ∧ s.conv.startStep < 3 then s.convStopWith cause latch false 0 none
  else
    let i0 := s.law.iRefPrev
    { s with
      law.safeRun := true, law.safeCause := cause, law.safeLatch := latch, law.safeI0 := i0
      law.safeTotal := s.law.iPk * s.law.nEff, law.iSafe := i0, law.safeZeroOut := 0, law.rampDown := false
      law.excOn := false, law.clampString := false, law.clampRated := false }.safeStep

/-- LOOP_IMPLAUSIBLE (R290 to R293): the eighth consecutive exceeding sub-period. Its time counts against PLAUS_LATCH_S. -/
def State.declare (s : State) : State :=
  let latch := s.law.loopStops.any fun t => (s.sampleNs - t).toNat ≤ s.pn P.plausLatchS * 1000000000
  let s := s.convCapture 12 2 0 none
  { s with law.loopStops := (s.sampleNs :: s.law.loopStops).take 8 }.startSafe 12 latch

/-- LOOP_IMPLAUSIBLE. -/
def execLoopImplausible (s : State) : Host.Outcome State Fault Refusal :=
  .next (if 8 ≤ s.law.plausCount ∧ s.conv.st ≠ .off ∧ s.conv.toOff = false ∧ s.law.safeRun = false then s.declare else s)

/-! ### P36: the phase manager -/

/-- A phase is faulted and its fault absorbed (11 R263): cause 9 PHASE_SENSE or 10 PHASE_SHARE. -/
def State.faultPhase (s : State) (j cause : Nat) : State :=
  let was := (s.phaseAt j).st
  let s := (s.convCapture cause 0 j none).absorb 11 (cause - 8) j 0 []
  let s := s.modPhase j fun p => { p with
    st := .faulted, share8 := 8, ramp := 0, spread := 0, senseBadRun := 0, shareRun := 0, inPeriod := false }
  let s := { s with
    conv.faultMask := setBit s.conv.faultMask (j - 1) true
    conv.setChanged := s.conv.setChanged || was == .active || was == .rampOut
    conv.shedBusy := s.conv.shedBusy && s.conv.shedPhase != some j
    conv.shedPhase := if s.conv.shedPhase = some j then none else s.conv.shedPhase }
  let s := if (was == .active || was == .rampOut) && s.conv.gatesOn then s.respread else s
  if s.nOk < s.pn P.convPhasesMin then s.convStop 11 else s

/-- Sense checks of a control sample, the zero check among them (11 R263, R266). -/
def State.checkSense (s : State) : State :=
  let zero := s.conv.st == .starting && s.conv.startStep == 0
  let s := { s with
    conv.zeroSamples := if zero then min 4 (s.conv.zeroSamples + 1) else s.conv.zeroSamples
    phase := s.phase.map fun (p : Phase) => { p with senseBadRun := if p.senseBad then satTo 4 (p.senseBadRun + 1) else 0 } }
  phases.foldl (fun s j =>
    let p := s.phaseAt j
    let off0 := zero && decide (s.conv.zeroSamples ≤ 4) && decide (3 / 20 < absRat (p.vSense - 3 / 2))
    if s.healthy j && (4 ≤ p.senseBadRun || off0) then s.faultPhase j 9 else s) s

/-- Per-phase load (11 R260). -/
def State.phaseLoad (s : State) : Rat := quot (absRat s.conv.iConv) ((s.actives.length : Rat) * s.rated)

/-- The trims of a sub-period (11 R259). -/
def State.shareTrims (s : State) : State :=
  let lim := Single.ofRat (s.pr P.shareTrimMaxPct / 1000)
  if s.pn P.shareTrimMaxPct = 0 then { s with phase := s.phase.map fun (p : Phase) => { p with trim := {} } }
  else
    let l := s.actives.filter fun j => (s.phaseAt j).share8 == 8
    let ibar := meanRat (l.map fun j => (s.phaseAt j).read)
    if l = [] ∨ absRat ibar < s.rated / 20 then s
    else
      let g := (Single.ofRat (2 * piRat * s.pr P.shareBwHz / 40000)).val
      let raw := l.map fun j => (s.phaseAt j).trim.val + g * (ibar - (s.phaseAt j).read) / ibar
      let mean := meanRat raw
      (l.zip raw).foldl (fun s (j, t) =>
        let x := clampRat (-lim.val) lim.val (t - mean)
        (s.modPhase j fun p => { p with trim := Single.ofRat x }).rnormFlags 36 x) s

/-- PHASE_SHARE: 400 consecutive sub-periods with the trim at its limit under load (11 R263). -/
def State.checkShare (s : State) : State :=
  let lim := (Single.ofRat (s.pr P.shareTrimMaxPct / 1000)).val
  let loaded := s.pn P.shareTrimMaxPct != 0 && decide (s.pr P.shedPct / 100 ≤ s.phaseLoad)
  s.actives.foldl (fun s j =>
    let at' := loaded && decide (lim ≤ absRat (s.phaseAt j).trim.val)
    let s := s.modPhase j fun p => { p with shareRun := if at' then p.shareRun + 1 else 0 }
    if 400 ≤ (s.phaseAt j).shareRun then s.faultPhase j 10 else s) s

/-- STEP in this sub-period (11 R262). -/
def State.isStep (s : State) : Bool :=
  decide (s.pr P.stepDidtAMs / 40 ≤ absRat (s.conv.iConv - s.conv.iConvPrev)) ||
    decide (s.pr P.stepErrPct / 100 * s.pr P.convPhases * s.rated ≤ absRat (s.law.iRefPrev - s.conv.iConv))

/-- SHED_SPACING_MS has passed since the previous decision (11 R260). -/
def State.spaced (s : State) : Bool := s.conv.spacing.all fun n => s.pn P.shedSpacingMs * 40 ≤ n

/-- Healthy phases that are shed. -/
def State.shedPhases (s : State) : List Nat := phases.filter fun j => (s.phaseAt j).st == .shed && s.configured j

/-- The decision of a sub-period in ON on the number of phases (11 R260 to R262): STEP before all, SHED_ENABLE = 0 adds
every shed phase, otherwise an add, otherwise a shed. The dwell counts only while shedding is evaluated. -/
def State.decideShed (s : State) : State :=
  let n := s.actives.length
  let l := s.phaseLoad
  let shedPct := s.pr P.shedPct / 100
  let addPct := s.pr P.addPct / 100
  let low := decide (l < shedPct)
  let evals := s.pb P.shedEnable && !s.conv.shedBusy && !s.conv.stepBlock
  let s := { s with
    conv.shedTimer := if low && evals then s.conv.shedTimer + 1 else 0, conv.shedReady := s.conv.shedReady && low && evals }
  if s.conv.stepFlag then s
  else if !s.pb P.shedEnable then { s with law.sets.adds := s.shedPhases }
  else if s.conv.shedBusy then s
  else if addPct < l ∧ s.shedPhases ≠ [] ∧ s.spaced = true then { s with law.sets.adds := s.shedPhases.take 1 }
  else if s.conv.shedReady ∧ s.conv.stepBlock = false ∧ l * (n : Rat) / ((n - 1 : Nat) : Rat) < addPct - 1 / 50 ∧
      s.pn P.convPhasesMin < n ∧ 1 < n ∧ s.spaced = true then { s with law.sets.shed := s.actives.getLast? }
  else s

/-- BUS_RANGE (Table 11.5 cause 6): four consecutive sub-periods with the bus too low or the side order reversed. -/
def State.checkBusRange (s : State) : State :=
  let (lo, hi) := s.lowHigh
  let bad := decide (s.conv.vBus < s.pr P.convBusUvV) || decide (hi < lo)
  let s := { s with conv.busRun := if bad then min 4 (s.conv.busRun + 1) else 0 }
  if 4 ≤ s.conv.busRun then s.convStop 6 else s

/-- The drain condition of a sub-period (11 R267). -/
def State.checkDrain (s : State) : State :=
  let quiet := s.law.iRefPrev == 0 && s.actives.all fun j => decide (absRat (s.phaseAt j).read ≤ s.pr P.convOffIA / 10)
  if s.conv.st = .draining then { s with conv.drainOk := if quiet then min 4 (s.conv.drainOk + 1) else 0 } else s

/-- P36 in one sub-period. Under the safe law it keeps sharing and neither sheds nor adds (12 R291). -/
def State.managePhases (s : State) : State :=
  let s := s.checkSense
  let s := { s with conv.stepFlag := s.isStep, law.sets.step := s.isStep }
  let sharing := (s.conv.st == .starting || s.conv.st == .on) && s.conv.gatesOn
  let s := if sharing || s.pn P.shareTrimMaxPct == 0 then s.shareTrims else s
  let s := if sharing then s.checkShare else s
  let s := if s.conv.st = .on && s.conv.gatesOn && !s.law.safeRun then s.decideShed else s
  let s := s.checkBusRange.checkDrain
  { s with law.sets.phase := true }

/-! ### The control sample -/

/-- CONTROL_SUBPERIOD (R277, 14 R348): readings, inputs (the string sample is used up: a later sub-period needs its own, 03 R66), and
the three anchored pans in a converter that is not OFF. An anchored
pan that does not run writes no set; P35 runs FALLBACK in the place of slot 34 (14 R348). -/
def State.controlSample (s : State) (sub : Nat) (phaseUv : List Nat) (busUv : Nat) (gdLow lineLow : Bool) : State :=
  let s := ((s.takeReadings sub phaseUv busUv gdLow lineLow).lawInputs).excStep
  let quiet := s.lanes.protOnly && decide (absRat s.law.iBr ≤ s.pr P.convOffIA / 10)
  let s := { s with
    law.sets := {}, cfe.ctlMissing := true, lanes.protQuiet := if quiet then min 4 (s.lanes.protQuiet + 1) else 0
    lanes.protSubs := if s.lanes.protOnly then min 8000 (s.lanes.protSubs + 1) else 0 }
  if s.conv.st = .off ∨ s.conv.toOff = true ∨ (s.conv.st = .starting ∧ s.conv.enabled = false) then
    { s with
      law.sets.law := s.anchorRuns 34, law.sets.plaus := s.anchorRuns 35, law.sets.phase := s.anchorRuns 36
      law.mode := s.law.outMode, law.modeChange := false, law.excC := false, law.excS := false, law.excV := false
      law.rhoC := none, law.rhoS := none, law.rhoV := none, law.excOn := false
      law.slewing := s.law.x.val != (s.law.outTarget : Rat) }
  else
    let s := if s.anchorRuns 35 then (if s.law.safeRun then s.safeStep else s.supervise) else s
    let s := if s.anchorRuns 34 || (s.lanes.fallback && s.anchorRuns 35) then
        (if s.law.safeRun then { s with law.sets.law := true } else s.runLaw) else s
    let s := if s.anchorRuns 36 then s.managePhases else s
    { s with conv.setSince := min 8 (s.conv.setSince + 1), conv.stepSince := min 8 (s.conv.stepSince + 1) }

/-- CONTROL_SUBPERIOD. -/
def execControlSubperiod (sub : Nat) (phaseUv : List Nat) (busUv : Nat) (gdLow lineLow : Bool) (s : State) :
    Host.Outcome State Fault Refusal :=
  if sub < 4 ∧ phaseUv.length = 8 then
    .next (if s.portsOn then s.controlSample sub phaseUv busUv gdLow lineLow else s)
  else .fault .noSuchUnit

/-! ### The output instant -/

/-- A late set (R278): gates off with LOOP_FAULT, the pan as after a hard fault (04 R101). -/
def State.lateSet (s : State) (k : Nat) : State :=
  match s.runningPan k with
  | some p => (s.convStop 13).panFails p .watchdog
  | none => s

/-- HELD_SETS, MISSED_SETS and SET_REPEATED of an output (R278). -/
def State.countSets (s : State) : State :=
  let w := [s.law.sets.law, s.law.sets.plaus, s.law.sets.phase]
  let missed := (w.filter (!·)).length
  { s with
    law.heldSets := s.law.heldSets.zipIdx.map fun ((h, i) : Nat × Nat) => if w.getD i false then 0 else min 7 (h + 1)
    law.setRepeated := 0 < missed, law.missedSets := satTo 0xFF (s.law.missedSets + missed) }

/-- The full set with its offsets at once (11 R262). -/
def State.fullSet (s : State) : State :=
  let changed := (phases.filter s.healthy).any fun j => (s.phaseAt j).st != PhaseSt.active
  let l := phases.filter s.healthy
  let s := l.zipIdx.foldl (fun s (j, i) => s.modPhase j fun p =>
    let o := (roundAway ((i : Rat) * (s.pwmT : Rat) / (l.length : Rat))).toNat
    { p with st := .active, share8 := 8, ramp := 0, spread := 0, offset := o, target := o }) s
  { s with conv.shedBusy := false, conv.shedPhase := none, conv.stepBlock := true, conv.stepSubs := 0
           conv.shedTimer := 0, conv.shedReady := false, conv.setSince := if changed then 0 else s.conv.setSince }

/-- P36's set is taken (11 R257, R261, R262): trims, and the phase it sheds or adds. A STEP outside ON is recorded and changes no
phase. -/
def State.takePhaseSet (s : State) : State :=
  let s := { s with phase := s.phase.map fun (p : Phase) => { p with trimOut := p.trim } }
  let s := if s.conv.setChanged then { s with conv.setChanged := false, conv.setSince := 0 } else s
  let s := if s.law.sets.step then { s with conv.stepSince := 0 } else s
  if s.law.sets.step then (if s.conv.st = .on && s.conv.gatesOn && !s.law.safeRun then s.fullSet else s)
  else if s.law.sets.adds ≠ [] then s.addPhases s.law.sets.adds
  else match s.law.sets.shed with
    | some j =>
      let s := s.modPhase j fun p => { p with st := .rampOut, ramp := 8 }
      { s with conv.shedBusy := true, conv.shedPhase := some j, conv.spacing := some 0, conv.setSince := 0
               conv.shedReady := false, conv.shedTimer := 0 }
    | none => s

/-- The peak reference is taken: from P35 under the safe law, from P34 otherwise (R278, R291). -/
def State.takeLawSet (s : State) : State :=
  let there := if s.law.safeRun then s.law.sets.plaus else s.law.sets.law
  let s := if there then { s with law.iPk := s.law.sets.iPk, law.iRefPrev := s.law.iRef } else s
  let zero := (s.law.safeRun || s.law.rampDown || s.lanes.fallback) && s.law.iRefPrev == 0
  { s with law.safeLaw := s.law.safeRun, law.safeZeroOut := if zero then min 5 (s.law.safeZeroOut + 1) else 0 }

/-- The start sequence at an output (11 R266): GD_EN after the fourth sample, the soft-start, its limit. -/
def State.startOutput (s : State) : State :=
  if s.conv.st = .starting ∧ s.conv.startStep = 0 ∧ 4 ≤ s.conv.zeroSamples then
    { s with conv.gdEn := true, conv.gdEnSubs := 0, conv.startStep := 1 }
  else if s.conv.st = .starting ∧ s.conv.startStep = 2 ∧ 0 < s.conv.ssWait then
    if s.conv.ssWait = 1 then s.beginSoftStart else { s with conv.ssWait := s.conv.ssWait - 1 }
  else if s.conv.startStep = 3 ∧ s.conv.gatesOn = true ∧ s.conv.st = .starting then
    { s with conv.ssLimit := s.conv.ssLimit + s.pr P.convSsSlewAMs / 40 }
  else s

/-- A lost anchored role acts (R294): the safe law for slot 34, the ramp of P34 for slot 35. -/
def State.lostAnchors (s : State) : State :=
  if s.law.safeRun ∨ s.law.rampDown then s
  else if (s.slotAt 34).lost && s.anchorRuns 35 then (s.convCapture 13 2 0 none).startSafe 13 true
  else if (s.slotAt 35).lost && s.anchorRuns 34 then
    { s.convCapture 13 2 0 none with law.rampDown := true, law.safeCause := 13, law.safeLatch := true, law.safeZeroOut := 0 }
  else s

/-- The signatures of a sub-period of an anchored role (04 R98 to R100). With the fourth sub-period of a frame its shadow run
is complete and its pan's flags are those of the completed window (Table 4.6). -/
def State.compareAnchor (s : State) (k : Nat) (r : SigSet) : State :=
  match s.anchorPan k with
  | none => s
  | some p =>
    let s := if (s.slotAt k).moveTo.isSome then s else s.compare k p r
    if s.grid.sub = 3 then
      let s := s.modPan p fun x =>
        { x with sat := x.flagRun.getLsbD 2, ufl := x.flagRun.getLsbD 1, accSat := x.flagRun.getLsbD 0, flagRun := 0 }
      if (s.shadowerOf k).isSome && !s.sluice.arbs.any (fun a => a.slot == k && !a.started) then s.shadowed k else s
    else s

/-- n_eff: the share factors of the phases that P36's set has on, before the soft-start those of every healthy phase (Table
12.2). -/
def State.shareSum (s : State) : Rat :=
  (phases.map fun j =>
    if (s.phaseAt j).switching || (s.conv.st == .starting && s.conv.startStep < 3 && s.healthy j) then
      ((s.phaseAt j).share8 : Rat) / 8 else 0).sum

/-- CONTROL_OUTPUT (01 R20, 11 R257, 12 R278): the latest complete sets are taken, and the roles that completed the sub-period
are checkpointed (04 R96). -/
def State.controlOutput (s : State) (late34 late35 late36 : Bool) (sig34 sig35 sig36 : SigSet) : State :=
  let s := { s with
    law.sets.law := s.law.sets.law && !late34, law.sets.plaus := s.law.sets.plaus && !late35
    law.sets.phase := s.law.sets.phase && !late36 }
  let s := if late34 then s.lateSet 34 else s
  let s := if late35 then s.lateSet 35 else s
  let s := if late36 then s.lateSet 36 else s
  let s := s.checkpoint ((if s.law.sets.law then [34] else []) ++ (if s.law.sets.plaus then [35] else []) ++
    (if s.law.sets.phase then [36] else []))
  let s := s.countSets
  let s := if s.conv.st = .off ∨ s.conv.toOff = true then s
    else
      let s := s.lostAnchors
      let s := if s.law.sets.phase then s.takePhaseSet else s
      let s := s.takeLawSet.startOutput
      { s with law.nEff := s.shareSum }.eisLimited
  let s := { s with law.sets := {} }
  ((s.compareAnchor 34 sig34).compareAnchor 35 sig35).compareAnchor 36 sig36

/-- CONTROL_OUTPUT. -/
def execControlOutput (late34 late35 late36 : Bool) (sig34 sig35 sig36 : SigSet) (s : State) :
    Host.Outcome State Fault Refusal :=
  .next (if s.portsOn then s.controlOutput late34 late35 late36 sig34 sig35 sig36 else s)

/-- LOOP_FAULT (R278): the seventh consecutive set of one pan is missing. -/
def execLoopFault (slot : Nat) (s : State) : Host.Outcome State Fault Refusal :=
  if 34 ≤ slot ∧ slot ≤ 36 then
    .next (if 7 ≤ s.law.heldSets.getD (slot - 34) 0 ∧ s.conv.st ≠ .off ∧ s.conv.toOff = false then s.convStop 13 else s)
  else .fault .noSuchUnit

/-- SAFE_LAW_GATES_OFF (R291, R292, R294): four output instants after the output that carries I_SAFE = 0. -/
def execSafeLawGatesOff (s : State) : Host.Outcome State Fault Refusal :=
  .next (if 5 ≤ s.law.safeZeroOut ∧ s.conv.st ≠ .off ∧ s.conv.toOff = false then
    s.convStopWith s.law.safeCause s.law.safeLatch false 0 none else s)

end Sys2Proof.Machine
end

