-- ==== Sys2Proof/Machine/SafetyBlock.lean ====
section
/-!
DEFINITION. The safety block (15_safety_block.md): inputs and their tests, the states, trips, the close and open
sequences, the two-hand close-in, SAFETY_STATUS and SAFETY_RESET.
-/

namespace Sys2Proof.Machine

/-! ### Inputs -/

/-- Input `i` in the order of Table 15.1. -/
def Safe.input (x : Safe) (i : Nat) : SafeIn :=
  match i with
  | 0 => x.estopA | 1 => x.estopB | 2 => x.doorA | 3 => x.doorB | 4 => x.lockFb | 5 => x.two1 | _ => x.two2

/-- `x` with input `i` replaced. -/
def Safe.setInput (x : Safe) (i : Nat) (v : SafeIn) : Safe :=
  match i with
  | 0 => { x with estopA := v } | 1 => { x with estopB := v } | 2 => { x with doorA := v } | 3 => { x with doorB := v }
  | 4 => { x with lockFb := v } | 5 => { x with two1 := v } | _ => { x with two2 := v }

/-- Input `i` is fed from T2 (Table 15.1). -/
def fedFromT2 (i : Nat) : Bool := i == 1 || i == 3 || i == 4 || i == 6

/-- A door input, neither read nor tested with SAFE_DOOR_USED = 0 (R362). -/
def isDoorInput (i : Nat) : Bool := i == 2 || i == 3 || i == 4

/-- Input `i` is read and tested. -/
def Safe.reads (x : Safe) (i : Nat) : Bool := !isDoorInput i || x.set.doorUsed

/-- Any contactor output is on. -/
def Safe.anyOn (x : Safe) : Bool := x.kPos || x.kNeg || x.kPre

/-- Both door channels are closed and the lock reads locked, or the door is not used (R362). -/
def Safe.doorsClosed (x : Safe) : Bool := !x.set.doorUsed || (x.doorA.closed && x.doorB.closed && x.lockFb.closed)

/-- No input has STUCK_INPUT, CROSS_SHORT or an unresolved discrepancy. -/
def Safe.noInputFault (x : Safe) : Bool :=
  ((List.range 7).all fun i => !(x.reads i && ((x.input i).stuck || (x.input i).cross))) && !x.estop.unresolved &&
    !(x.set.doorUsed && x.door.unresolved)

/-- The inputs are healthy (R362). -/
def Safe.healthy (x : Safe) : Bool :=
  x.estopA.closed && x.estopB.closed && x.doorsClosed && x.noInputFault && x.kVsupOk

/-- The conditions that must hold for 100 ms (R363). -/
def Safe.armable (x : Safe) : Bool := x.healthy && !x.internalFault && !x.setBad

/-- A break of the arming conditions ends RESET_READY. -/
def Safe.settleArming (x : Safe) : Safe := if x.armable then x else { x with armSamples := 0, resetReady := false }

/-- The block runs its inputs and outputs: not NOT_USED, not APHELION (R363, R365). -/
def State.safeActive (s : State) : Bool := s.safe.st != SafeSt.notUsed && s.power.st != PowerSt.aphelion

/-! ### Trips and arming -/

/-- NOTIFY SAFETY with the state and the cause (R375, Table 17.7). -/
def State.notifySafety (s : State) : State := s.notify 0x05 (toLe 1 s.safe.st.code ++ toLe 1 s.safe.cause)

/-- A trip cause occurs (R363, R370, R371, R375). The first one trips the block; later ones are counted. -/
def State.trip (s : State) (cause : Nat) : State :=
  match s.safe.st with
  | .notUsed => s
  | .tripped => { s with safe.lateCauses := s.safe.lateCauses + 1 }
  | _ =>
    let open' := s.safe.anyOn
    let s := { s with
      safe.st := .tripped, safe.cause := cause, safe.lastCause := cause, safe.lastFrame := s.grid.frame
      safe.lastTime := s.grid.plantNs, safe.trips := s.safe.trips + 1, safe.gateKill := true, safe.safeOk := false
      safe.precharging := false, safe.twohandClose := false, safe.seq := .opened
      safe.tripT := if open' then some 0 else none
      grid.deferredMode := s.grid.deferredMode.map fun (d : DeferredMode) =>
        if d.target == Mode.standby then { d with refused := some cause } else d }
    (s.convStop 14).notifySafety

/-- The block arms: gate kill released, SAFE_OK high, CAUSE 0 and the output faults cleared (Table 15.2, R375). -/
def State.armSafety (s : State) : State :=
  { s with safe.st := .armed, safe.cause := 0, safe.gateKill := false, safe.safeOk := true, safe.outFault := 0 }.notifySafety

/-- ARMED is left for SAFE: a door opened while every output was off (R363). -/
def State.disarmSafety (s : State) : State :=
  ({ s with safe.st := .safe, safe.gateKill := true, safe.safeOk := false, safe.twohandClose := false }.convStop
    14).notifySafety

/-! ### Sequences -/

/-- A normal open begins: K_POS and K_PRE turn off at once (R369). -/
def State.beginOpen (s : State) : State :=
  { s with
    safe.kPos := false, safe.kPre := false, safe.precharging := false, safe.preRun := 0
    safe.seq := .opening, safe.seqT := 0
    safe.opened := if s.safe.opened.isNone then some .byMode else s.safe.opened
    grid.deferredMode := s.grid.deferredMode.map fun (d : DeferredMode) =>
      if d.target == Mode.standby && !s.safe.kPos then { d with refused := some 0x09 } else d }

/-- The contactor request or a two-hand close-in asks for closed contactors. -/
def Safe.wantsClosed (x : Safe) : Bool := x.closeReq || x.twohandClose

/-- The sequences of R368 and R369 follow the request while the block is ARMED. A request that changes while a sequence
runs waits for its end, except that OPEN overtakes a close before K_POS. -/
def State.followRequest (s : State) : State :=
  if s.safe.st != SafeSt.armed || s.safe.tripT.isSome then s
  else match s.safe.seq with
    | .opened =>
      if s.safe.wantsClosed then { s with safe.kNeg := true, safe.seq := .closing, safe.seqT := 0, safe.preRun := 0,
                                          safe.preTEnd := 0 } else s
    | .closing => if s.safe.wantsClosed then s else s.beginOpen
    | .closed => if s.safe.wantsClosed then s else s.beginOpen
    | .overlap | .opening => s

/-- The two-hand inputs as they now read (R372): the close-in begins when the second follows the first within 500 ms and
both had been released together; the release of either ends it. -/
def State.twoHand (s : State) (one two : Bool) : State :=
  let was1 := s.safe.two1.closed
  let was2 := s.safe.two2.closed
  let s := { s with safe.two1.closed := one, safe.two2.closed := two }
  if was1 == one && was2 == two then s
  else if !one && !two then { s with safe.twoReleased := true, safe.twoFirst := none, safe.twohandClose := false }
  else if one && two then
    let inTime := (!was1 && !was2) || (match s.safe.twoFirst with
      | some t => decide (t ≤ 20000)
      | none => false)
    let go := s.safe.twoReleased && inTime && s.grid.mode == Mode.service && s.safe.st == SafeSt.armed
    { s with safe.twohandClose := go, safe.twoReleased := false, safe.twoFirst := none }
  else if !was1 && !was2 then { s with safe.twoFirst := some 0 }
  else { s with safe.twohandClose := false, safe.twoReleased := false, safe.twoFirst := none }

/-- TWOHAND_INPUT. -/
def execTwohandInput (one two : Bool) (s : State) : Host.Outcome State Fault Refusal :=
  .next (if s.safeActive then (s.twoHand one two).followRequest else s)

/-! ### SAFETY_SAMPLE -/

/-- One input at a sample (R361): open after two consecutive low samples outside its evaluation window. -/
def SafeIn.sample (x : SafeIn) (high masked : Bool) : SafeIn :=
  if masked then x
  else if high then { x with closed := true, lowRun := 0 }
  else { x with lowRun := satTo 3 (x.lowRun + 1), closed := if 2 ≤ x.lowRun + 1 then false else x.closed }

/-- The input has just been found open. -/
def justOpen (old new : SafeIn) : Bool := new.lowRun == 2 && old.lowRun == 1

/-- A channel pair at a sample (R361): how long it has differed, and how it resolves an old discrepancy. -/
def SafePair.sample (p : SafePair) (a b : Bool) (limit : Nat) : SafePair :=
  let p := { p with discUs := if a == b then 0 else p.discUs + 1 }
  if !p.unresolved then p
  else if !a && !b then { p with bothOpen := true, reclose := 0 }
  else if !p.bothOpen then p
  else if a && b then
    if p.reclose ≤ limit then { p with unresolved := false, bothOpen := false, reclose := 0 }
    else { p with bothOpen := false, reclose := 0 }
  else { p with reclose := p.reclose + 1 }

/-- Times that run at every sample. -/
def Safe.tick (x : Safe) : Safe :=
  { x with
    seqT := x.seqT + 1
    preT := if x.kPre then x.preT + 1 else 0
    posT := if x.kPos then x.posT + 1 else 0
    tripT := x.tripT.map (· + 1)
    twoFirst := x.twoFirst.map (· + 1) }

/-- The levels of the seven inputs at a sample, those that the safety set reads (R359, R360). -/
def Safe.readLevels (x : Safe) (i : SafeSample) : Safe :=
  (List.range 7).foldl (fun (x : Safe) k =>
    if x.reads k then x.setInput k ((x.input k).sample (i.high.getLsbD k) (i.masked.getLsbD k)) else x) x

/-- The block's readings of a sample: inputs, pairs, K_VSUP and the arming time. The two-hand inputs are read with their
filter here and act in `twoHand`. -/
def Safe.readInputs (x : Safe) (i : SafeSample) : Safe :=
  let old := x
  let x := x.readLevels i
  let lim := 40 * x.set.discMs
  let x := { x with
    kVsupOk := !i.kLow, kLowSamples := if i.kLow then x.kLowSamples + 1 else 0
    estop := x.estop.sample x.estopA.closed x.estopB.closed lim
    door := if x.set.doorUsed then x.door.sample x.doorA.closed x.doorB.closed lim else x.door
    internalFault := x.internalFault || i.internal
    two1 := { x.two1 with closed := old.two1.closed }, two2 := { x.two2 with closed := old.two2.closed } }
  let x := { x with armSamples := satTo 4000 (x.armSamples + 1) }
  x.settleArming

/-- Trip causes found in a sample, K_SUPPLY in place of an input cause while K_VSUP is low (R375). -/
def sampleCauses (old new : Safe) (i : SafeSample) : List Nat :=
  let estop := justOpen old.estopA new.estopA || justOpen old.estopB new.estopB
  let door := old.anyOn && new.set.doorUsed &&
    (justOpen old.doorA new.doorA || justOpen old.doorB new.doorB || justOpen old.lockFb new.lockFb)
  let ins := (if estop then [1] else []) ++ (if door then [2] else [])
  (if i.kLow && !ins.isEmpty then [8] else ins) ++
    (if i.outBad &&& ~~~(reverse4 old.outFault) != 0 then [6] else []) ++
    (if new.internalFault && !old.internalFault then [12] else [])
where
  /-- Bit order of OUT_FAULT (K_POS highest) turned into that of the readbacks (K_POS lowest). -/
  reverse4 (b : BitVec 4) : BitVec 4 := ofBits 4 fun k => b.getLsbD (3 - k)

/-- OUT_FAULT bit of output 0 K_POS to 3 SAFE_OK (Table 15.6). -/
def Safe.faultOut (x : Safe) (out : Nat) : Safe := { x with outFault := setBit x.outFault (3 - out) true }

/-- Two-hand levels after the filter of R361. -/
def filtered (old : SafeIn) (high masked : Bool) : Bool := (old.sample high masked).closed

/-- SAFETY_SAMPLE (R356, R361 to R363, R369 to R372, R375). -/
def State.safetySample (s : State) (i : SafeSample) : State :=
  let old := s.safe
  let x := (old.tick).readInputs i
  let causes := sampleCauses old x i
  let x := (List.range 4).foldl (fun (x : Safe) k => if i.outBad.getLsbD k then x.faultOut k else x) x
  let s := { s with safe := { x with rbBad := i.outBad } }
  let s := causes.foldl State.trip s
  let s := if s.safe.st == SafeSt.armed && !s.safe.doorsClosed && !s.safe.anyOn then s.disarmSafety else s
  let s := s.twoHand (filtered old.two1 (i.high.getLsbD 5) (i.masked.getLsbD 5))
    (filtered old.two2 (i.high.getLsbD 6) (i.masked.getLsbD 6))
  s.followRequest

/-- SAFETY_SAMPLE. -/
def execSafetySample (inp : SafeSample) (s : State) : Host.Outcome State Fault Refusal :=
  .next (if s.safeActive then s.safetySample inp else s)

/-! ### Faults of inputs and outputs -/

/-- A change of the safety block, with the arming conditions settled. -/
def State.modSafe (s : State) (f : Safe → Safe) : State := { s with safe := (f s.safe).settleArming }

/-- SAFETY_DISCREPANCY (R361): the channels of the pair have differed for longer than SAFE_DISC_MS. -/
def execSafetyDiscrepancy (door : Bool) (s : State) : Host.Outcome State Fault Refusal :=
  .next (if !s.safeActive || (door && !s.safe.set.doorUsed) ||
      (if door then s.safe.door else s.safe.estop).discUs ≤ 40 * s.safe.set.discMs then s
    else
      let mark := fun (p : SafePair) => { p with unresolved := true, bothOpen := false, reclose := 0 }
      let s := s.modSafe fun x => if door then { x with door := mark x.door } else { x with estop := mark x.estop }
      s.trip 3)

/-- An input's record of one drop of its own test output (R360). -/
def SafeIn.ownDrop (x : SafeIn) (low : Bool) : SafeIn :=
  if low then { x with stuckRun := 0, goodRun := x.goodRun + 1 } else { x with stuckRun := x.stuckRun + 1, goodRun := 0 }

/-- An input's record of one drop of the other test output: a closed input that reads low has followed it (R360). -/
def SafeIn.otherDrop (x : SafeIn) (low : Bool) : SafeIn :=
  if low && x.closed then { x with crossRun := x.crossRun + 1, goodRun := 0 } else { x with crossRun := 0 }

/-- The flags of R360: an input that does both is CROSS_SHORT only; two good own drops clear them. -/
def SafeIn.flags (x : SafeIn) : SafeIn :=
  if 2 ≤ x.crossRun then { x with cross := true, stuck := false }
  else if 2 ≤ x.stuckRun && x.crossRun == 0 then { x with stuck := !x.cross }
  else if 2 ≤ x.goodRun then { x with cross := false, stuck := false }
  else x

/-- One input at a drop of T1 or T2. The two-hand inputs are checked only while actuated. -/
def Safe.dropInput (x : Safe) (t2 : Bool) (low : BitVec 7) (k : Nat) : Safe :=
  let v := x.input k
  if !x.reads k || (5 ≤ k && !v.closed) then x
  else
    let l := low.getLsbD k
    x.setInput k (if fedFromT2 k == t2 then v.ownDrop l else v.otherDrop l).flags

/-- TEST_OUTPUT_DROP (R360). -/
def execTestOutputDrop (t2 : Bool) (low : BitVec 7) (s : State) : Host.Outcome State Fault Refusal :=
  .next (if s.safeActive then
    let old := s.safe
    let s := s.modSafe fun x => (List.range 7).foldl (fun (x : Safe) k => x.dropInput t2 low k) x
    let new := s.safe
    let stuck := (List.range 7).any fun k => (new.input k).stuck && !(old.input k).stuck
    let cross := (List.range 7).any fun k => (new.input k).cross && !(old.input k).cross
    let s := if stuck then s.trip 4 else s
    if cross then s.trip 5 else s
  else s)

/-- Output `k` is on. -/
def Safe.outOn (x : Safe) (k : Nat) : Bool :=
  match k with
  | 0 => x.kPos | 1 => x.kNeg | 2 => x.kPre | _ => x.safeOk

/-- The series switch of output `out` that the next test opens is the other one (R357). -/
def Safe.nextSwitch (x : Safe) (out : Nat) : Safe :=
  { x with testSw := setBit x.testSw out (!x.testSw.getLsbD out) }

/-- OUTPUT_TEST_DROP (R357, R367): only an output that is on is tested, its two series switches in turn. -/
def execOutputTestDrop (out : Nat) (ok : Bool) (s : State) : Host.Outcome State Fault Refusal :=
  if out < 4 then
    .next (if s.safeActive && s.safe.outOn out then
      let s := { s with safe := s.safe.nextSwitch out }
      if ok then s else { s with safe := s.safe.faultOut out }.trip 6
    else s)
  else .fault .noSuchUnit

/-- OUTPUT_OVERCURRENT (R366, Table 15.3). -/
def execOutputOvercurrent (out : Nat) (s : State) : Host.Outcome State Fault Refusal :=
  if out < 4 then
    .next (if s.safeActive && s.safe.outOn out then { s with safe := s.safe.faultOut out }.trip 7 else s)
  else .fault .noSuchUnit

/-- SAFETY_SELF_TEST (R356): RAM or program failed is an internal fault, the safety set a configuration fault. -/
def execSafetySelfTest (ramOk progOk setOk : Bool) (s : State) : Host.Outcome State Fault Refusal :=
  .next (if s.safeActive then
    let wasSet := s.safe.setBad
    let wasInt := s.safe.internalFault
    let s := s.modSafe fun x => { x with internalFault := !(ramOk && progOk), setBad := !setOk }
    let s := if !setOk && !wasSet then s.trip 11 else s
    if !(ramOk && progOk) && !wasInt then s.trip 12 else s
  else s)

/-- K_SUPPLY_LOW (R375, Table 15.3): K_VSUP has been below its threshold for 1 ms. -/
def execKSupplyLow (s : State) : Host.Outcome State Fault Refusal :=
  .next (if s.safeActive && decide (40 ≤ s.safe.kLowSamples) then (s.modSafe fun x => { x with kVsupOk := false }).trip 8 else s)

/-- ARMING_READY (R363): the conditions have held for 100 ms; AUTO restart arms from SAFE. -/
def execArmingReady (s : State) : Host.Outcome State Fault Refusal :=
  .next (if s.safeActive && s.safe.armable && decide (4000 ≤ s.safe.armSamples) then
    let s := { s with safe.resetReady := true }
    if s.safe.set.auto && s.safe.st == SafeSt.safe then s.armSafety else s
  else s)

/-! ### The steps of the sequences -/

/-- K_PRE_ON (R368 step 2), 20 ms after K_NEG. -/
def execKPreOn (s : State) : Host.Outcome State Fault Refusal :=
  .next (if s.safeActive && s.safe.seq = .closing && !s.safe.kPre && decide (800 ≤ s.safe.seqT) then
    { s with safe.kPre := true, safe.preT := 0, safe.preTEnd := 0, safe.preRun := 0, safe.precharging := true }
  else s)

/-- PRECHARGE_COMPLETE (R368 step 4). -/
def execPrechargeComplete (s : State) : Host.Outcome State Fault Refusal :=
  .next (if s.safeActive && s.safe.seq = .closing && s.safe.kPre && decide (10 ≤ s.safe.preRun) then
    { s with safe.kPos := true, safe.posT := 0, safe.posTEnd := 0, safe.seq := .overlap, safe.precharging := false,
             safe.inrush := false }
  else s)

/-- K_PRE_OFF (R368 step 5), SAFE_PRE_OVERLAP_MS after K_POS: the sequence ends, and a deferred MODE STANDBY waits for the next boundary (R371). -/
def execKPreOff (s : State) : Host.Outcome State Fault Refusal :=
  .next (if s.safeActive && s.safe.seq = .overlap && decide (40 * s.safe.set.preOverlapMs ≤ s.safe.posT) then
    let s := { s with
      safe.kPre := false, safe.seq := .closed
      grid.deferredMode := s.grid.deferredMode.map fun (d : DeferredMode) =>
        if d.target == Mode.standby then { d with done := true } else d }
    s.followRequest
  else s)

/-- PRECHARGE_TIMEOUT (R368): SAFE_PRE_MAX_MS after K_PRE turned on. -/
def execPrechargeTimeout (s : State) : Host.Outcome State Fault Refusal :=
  .next (if s.safeActive && s.safe.seq = .closing && s.safe.kPre && decide (40 * s.safe.set.preMaxMs ≤ s.safe.preT) then
    s.trip 9 else s)

/-- INRUSH_TRIP (R368): a frame mean in the 20 ms after K_POS has exceeded SAFE_INRUSH_A (`State.prechargeFrame`). -/
def execInrushTrip (s : State) : Host.Outcome State Fault Refusal :=
  .next (if s.safeActive && s.safe.kPos && s.safe.inrush then { s with safe.inrush := false }.trip 10 else s)

/-- K_NEG_OPEN (R369), SAFE_OPEN_GAP_MS after the open began: the sequence ends, and a changed request is then acted
on. -/
def execKNegOpen (s : State) : Host.Outcome State Fault Refusal :=
  .next (if s.safeActive && s.safe.seq = .opening && decide (40 * s.safe.set.openGapMs ≤ s.safe.seqT) then
    { s with safe.kNeg := false, safe.seq := .opened }.followRequest
  else s)

/-- TRIP_CONTACTOR_OFF (R370), SAFE_K_DELAY_MS after the trip decision: the contactors open, and the mode becomes SERVICE at the next boundary (R371). -/
def execTripContactorOff (s : State) : Host.Outcome State Fault Refusal :=
  .next (if (match s.safe.tripT with
      | some t => decide (40 * s.safe.set.kDelayMs ≤ t)
      | none => false) then
    { s with
      safe.kPos := false, safe.kNeg := false, safe.kPre := false, safe.tripT := none
      safe.opened := some .other }.followRequest
  else s)

/-! ### The safety set -/

/-- The safety set that the active parameters give (R377). -/
def State.paramSafetySet (s : State) : SafetySet :=
  { used := s.pb P.safeUsed, auto := s.pb P.safeRestart, doorUsed := s.pb P.safeDoorUsed, discMs := s.pn P.safeDiscMs
    kDelayMs := s.pn P.safeKDelayMs, preMinMs := s.pn P.safePreMinMs, preMaxMs := s.pn P.safePreMaxMs
    preEndMa := s.pn P.safePreEndMa, preOverlapMs := s.pn P.safePreOverlapMs, inrushA := s.pn P.safeInrushA
    openGapMs := s.pn P.safeOpenGapMs }

/-- The set's bytes, values in ascending parameter order at their Table 18.14 sizes. -/
def SafetySet.bytes (x : SafetySet) : List Byte :=
  [BitVec.ofNat 8 (bit x.used), BitVec.ofNat 8 (bit x.auto), BitVec.ofNat 8 (bit x.doorUsed)] ++ toLe 2 x.discMs ++
    toLe 1 x.kDelayMs ++ toLe 2 x.preMinMs ++ toLe 2 x.preMaxMs ++ toLe 2 x.preEndMa ++ toLe 2 x.preOverlapMs ++
    toLe 2 x.inrushA ++ toLe 1 x.openGapMs

/-- A committed set is loaded (R377). SAFE_USED moves the block between NOT_USED and SAFE (R363, R365). -/
def State.loadSafetySet (s : State) : State :=
  let n := s.paramSafetySet
  let s := s.modSafe fun x => { x with set := n, setBad := false }
  if !n.used && s.safe.st != SafeSt.notUsed then
    { s with safe.st := .notUsed, safe.cause := 0, safe.gateKill := false, safe.safeOk := false, safe.resetReady := false
             safe.twohandClose := false, safe.armSamples := 0, safe.seq := .opened }.notifySafety
  else if n.used && s.safe.st == SafeSt.notUsed then
    { s with safe.st := .safe, safe.gateKill := true }.notifySafety
  else s

/-! ### The lane's request -/

/-- The lane in charge sets the contactor request: the output register takes the level at step 3 of the boundary (01 R26). -/
def State.requestContactors (s : State) (close : Bool) : State := { s with lanes.closeReq := close }

/-- The contactor request as a level (R368, R369, R372; 14 R332): CLOSE also takes over a two-hand close-in. -/
def State.driveContactors (s : State) (close : Bool) : State :=
  if s.safe.closeReq == close then s
  else { s with safe.closeReq := close
                safe.twohandClose := if close then false else s.safe.twohandClose }.followRequest

/-! ### Opcodes -/

/-- Table 17.15. -/
def State.safetyStatusBytes (s : State) : List Byte :=
  toLe 4 (safeWord s.safe) ++ w32 (crc32c s.safe.set.bytes) ++ toLe 4 s.safe.trips ++ toLe 1 s.safe.lastCause ++ zeros 3 ++
    w32 s.safe.lastFrame ++ w64 s.safe.lastTime

/-- SAFETY_STATUS (R376). -/
def opSafetyStatus (_ : Hdr) (_ : List Byte) (s : State) : Ans := okAns s s.safetyStatusBytes

/-- SAFETY_STATUS. -/
def execSafetyStatus (h : Hdr) (p : List Byte) (s : State) : Host.Outcome State Fault Refusal :=
  .next (runCmd 0xB0 opSafetyStatus h p s)

/-- SAFETY_RESET (R364), journalled with the states before and after (Table 20.2). -/
def opSafetyReset (h : Hdr) (_ : List Byte) (s : State) : Ans :=
  match s.safe.st with
  | .notUsed => fail s .wrongState
  | .armed => okAns s
  | _ =>
    if s.safe.resetReady then
      let t := s.armSafety
      okAns (t.journal h.port 0xB1 0 (toLe 1 s.safe.st.code) (toLe 1 t.safe.st.code))
    else fail s .refused (toLe 4 (safeWord s.safe))

/-- SAFETY_RESET. -/
def execSafetyReset (h : Hdr) (p : List Byte) (s : State) : Host.Outcome State Fault Refusal :=
  .next (runCmd 0xB1 opSafetyReset h p s)

end Sys2Proof.Machine
end

