-- ==== Sys2Proof/Machine/Lanes.lean ====
section
/-!
DEFINITION. The two lanes (14_lanes_and_failover.md): the token, switchover and rerun, the mirror, eclipse swaps and the
protection-only state.
-/

namespace Sys2Proof.Machine

/-! ### What the parameters give at a start -/

/-- The protection set that the active parameters give (10 R245, 03 R76). -/
def State.paramThrSet (s : State) : ThrSet :=
  { ov := s.pn P.cellOvMv, uv := s.pn P.cellUvMv, hyst := s.pn P.protHystMv, release := s.pn P.faultRelease
    releaseMs := s.pn P.faultReleaseMs, ocChg := s.pn P.ocChgMv / 25, ocDis := s.pn P.ocDisMv / 25 }

/-- The configuration image in force. -/
def State.image (s : State) (k : Nat) : CfgImage := s.ploza.images.getD k {}

/-- One image is taken into force. -/
def State.takeImage (s : State) (k : Nat) : State :=
  { s with ploza.params := (s.image k).vals, ploza.activeImage := k, tbl.activeBank := (s.image k).bank }

/-- The position that RING_POS_SRC gives (13 R300). -/
def State.commitPosition (s : State) : State :=
  { s with ring.position := if s.pn P.ringPosSrc = 0 then s.ring.straps else s.ring.enumPos.getD 0 }

/-- The active image is loaded at a start; a bad one falls back on the other, and two bad ones on the defaults, which are
written as a new image (18 R433). The protection set follows from it (10 R246), and so does the position (13 R300). -/
def State.loadConfig (s : State) : State :=
  let k := s.ploza.activeImage
  let s :=
    if (s.image k).good then s.takeImage k
    else if (s.image (1 - k)).good then { s.takeImage (1 - k) with ploza.configState := 1 }
    else { s with
      ploza.params := [], ploza.activeImage := 1 - k, ploza.configState := 2, grid.mode := .service
      ploza.images := setAt s.ploza.images (1 - k)
        { vals := [], good := true, seq := (s.image k).seq, bank := s.tbl.activeBank } }
  { s with
    prot.set := s.paramThrSet, prot.image := s.paramThrSet, prot.imageBad := false, prot.setPending := none, prot.setAge := 0
    fe := s.fe.zipIdx.map fun ((f : Fe), i) => { f with poweredDown := !s.feActive (i + 1) }
    lanes.swapNext := s.pn P.eclipsePeriodH * 36000000, estMod.counting := s.pn P.estMode != 0 && !s.estMod.autoBlended }.commitPosition

/-! ### Lanes and the token -/

/-- Lane number: 0 A, 1 B. -/
def laneUnit (b : Bool) : Nat := bit b

/-- A lane that has claimed may be granted (R336, R339). Before a lane has taken the token since start-up, and in the
protection-only state, no lane can be current, and a lane that has booted or rebooted claims (R350, 16 R402). -/
def State.mayClaim (s : State) (b : Bool) : Bool :=
  let l := s.laneAt b
  l.st == .standby && decide (0 < s.score b) && (s.lanes.booting || s.lanes.protOnly || (l.current && !l.resync))

/-- The lane that the latch grants among two claims in one clock cycle (R336). -/
def State.arbitrate (s : State) (a b : Bool) : Option Bool :=
  match a, b with
  | false, false => none
  | true, false => some false
  | false, true => some true
  | true, true =>
    if s.score true < s.score false then some false
    else if s.score false < s.score true then some true
    else some (!s.lanes.last)

/-- The token is granted to a lane. -/
def State.grant (s : State) (b : Bool) : State :=
  let s := s.modLane b fun l => { l with st := .inCharge, resync := false }
  { s with
    lanes.valid := true, lanes.holder := b, lanes.granted := some b, lanes.takeoverDone := false
    lanes.last := if s.lanes.started then s.lanes.holder else s.lanes.last
    lanes.sinceSwitch := if s.lanes.booting then s.lanes.sinceSwitch else 0 }

/-- VALID clears: no lane carries out boundaries until another one has taken over. -/
def State.releaseToken (s : State) : State :=
  { s with lanes.valid := false, lanes.granted := none, lanes.takeoverDone := false, lanes.gap := true
           lanes.releasedAt := s.grid.frame }

/-- An absorbed lane event of lane `b` (R352), which counts in its RECORD weight (R337). -/
def State.laneAbsorb (s : State) (event : Nat) (b : Bool) (detail : List Byte) : State :=
  (s.modLane b fun l => { l with laneEvents := s.grid.validFrames :: l.laneEvents }).absorb 14 event (laneUnit b) 0 detail

/-- A lane is retired (R344). -/
def State.retireLane (s : State) (b : Bool) : State :=
  let s := s.modLane b fun l =>
    { l with st := .retired, retired := true, retireCount := l.retireCount + 1, current := false, resync := false }
  s.notify 0x15 (toLe 1 (laneUnit b) ++ toLe 1 (s.laneAt b).retireCount)

/-- A lane reboots and self-tests; a second reboot within 24 h retires it (R344). -/
def State.rebootLane (s : State) (b : Bool) : State :=
  let again := 0 < s.within 864000000 (s.laneAt b).reboots
  let s := s.modLane b fun l =>
    { l with st := .rebooting, current := false, resync := false, reboots := s.grid.validFrames :: l.reboots }
  let s := { s with lanes.rebootCount := bump 0xFF s.lanes.rebootCount }.laneAbsorb 1 b []
  if again then s.retireLane b else s

/-- An eclipse swap ends: 1 PASS, 2 FAIL, 3 DIVERGE (R347, Table 14.5); a commanded one has its COMPLETION. -/
def State.endSwap (s : State) (result : Nat) : State :=
  let ref := s.lanes.swapBy
  let s := { s with
    lanes.swapActive := false, lanes.swapPhase := 0, lanes.lastSwap := result, lanes.swapBy := none }
  let s := if result = 2 then s
    else { s with
      lanes.swaps := bump 0xFF s.lanes.swaps, lanes.swapTimer := 0, lanes.swapOverdue := false
      lanes.swapNext := if result = 3 then 36000000 else s.pn P.eclipsePeriodH * 36000000 }
  match ref with
  | some r => s.complete r .ok 0 0 result []
  | none => s

/-- A swap whose handover has not come is put off to the next boundary that meets the conditions of R345. -/
def State.putOffSwap (s : State) : State :=
  if s.lanes.swapPhase = 1 then
    { s with lanes.swapPhase := 0, lanes.swapActive := false, lanes.swapDue := s.lanes.swapDue || s.lanes.swapBy.isNone }
  else s

/-- The lane in charge fails (R337, R343): the token is released. During a swap's check the lane is the new one, and it is
retired with result FAIL (Table 14.5). -/
def State.laneFails (s : State) (b : Bool) (retire : Bool) : State :=
  let inCharge := s.lanes.valid && s.lanes.holder == b
  let swap := inCharge && s.lanes.swapPhase == 2
  let s := if inCharge then { s.releaseToken.putOffSwap with lanes.switchovers := bump 0xFF s.lanes.switchovers } else s
  let s := if retire || swap then s.retireLane b else s.rebootLane b
  if swap then s.endSwap 2 else s

/-- TOKEN_WATCHDOG_EXPIRE (R337). -/
def execTokenWatchdogExpire (s : State) : Host.Outcome State Fault Refusal :=
  .next (if s.lanes.valid then s.laneFails s.lanes.holder false else s)

/-- LANE_HARD_FAULT (R343, Table 14.2); a lane that reboots or is retired has no fault to find. -/
def execLaneHardFault (lane : Bool) (fault : LaneFault) (s : State) : Host.Outcome State Fault Refusal :=
  .next (
    let l := s.laneAt lane
    if l.st != .inCharge && l.st != .standby then s
    else
      let s := s.modLane lane fun l =>
        { l with
          lockstepOk := l.lockstepOk && fault != .lockstep
          memOk := l.memOk && fault != .sramUncorrectable
          outOk := l.outOk && fault != .writeVerify }
      s.laneFails lane (fault == .writeVerify))

/-- TOKEN_GRANT (R336): a free token goes to the claiming lane with the higher score, or to the one that is not LAST. -/
def execTokenGrant (claimA claimB : Bool) (s : State) : Host.Outcome State Fault Refusal :=
  .next (if s.lanes.valid || s.lanes.hold then s
    else match s.arbitrate (claimA && s.mayClaim false) (claimB && s.mayClaim true) with
      | some b => s.grant b
      | none => s)

/-- Lane memory begins afresh (R350): what no image and no output register holds is gone; the notice counters are the ports'. -/
def State.freshLane (s : State) : State :=
  { s with
    grid.mode := .service, grid.deferredMode := none, grid.commitIds := [], lanes.inbox := []
    ploza := { s.ploza with
      staged := [], claims := [], deferred := [], streams := [none, none, none, none], imageWrite := none, attests := 0
      dieAsk := [] }
    port := s.port.map fun (p : PortSt) => { notices := p.notices }
    bal := {}
    eis := { s.eis with
      st := .off, kind := .none, latched := none, sweep := none, stopBy := none, halted := false, waits := [], verdicts := [] }
    ring.dnQueue := [], ring.upQueue := [], ring.rxDn := none, ring.rxUp := List.replicate 8 none, ring.fwd := []
    sec.ephemeral := false, sec.reprov := [], sec.fwVerify := none
    tbl.writing := [] }

/-- A lane ends the protection-only state (R350): its state is rebuilt from the active configuration image, nothing is replayed,
the mode is SERVICE and the converter OFF; the events counted there become one record (R352). -/
def State.leaveProtOnly (s : State) : State :=
  let n := s.lanes.protEvents
  let s := { s.freshLane.loadConfig with
    lanes.protOnly := false, lanes.protReduced := false, lanes.protCause := 0, lanes.fallback := false
    lanes.protEvents := 0, power.coreFail := false }
  let s := if s.conv.st == FnState.off then s else s.convOff
  let s := (s.withdrawCause 22).requestContactors false |>.driveContactors false
  if n = 0 then s else s.absorb 14 5 0xFF 0 (toLe 4 (satTo 0xFFFFFFFF n))

/-- TAKEOVER_COMPLETE (R340): the lane carries out the boundaries from the next nominal one. -/
def execTakeoverComplete (s : State) : Host.Outcome State Fault Refusal :=
  .next (match s.lanes.granted with
    | none => s
    | some b =>
      let s := if s.lanes.protOnly then s.leaveProtOnly else s
      let s := s.modLane b fun l => { l with outOk := true, current := true }
      let s := if s.lanes.booting && (s.laneAt (!b)).st == .standby then
          s.modLane (!b) fun l => { l with current := false, resync := true } else s
      { s with lanes.granted := none, lanes.takeoverDone := true, lanes.started := true, lanes.booting := false
               lanes.gap := true, lanes.hold := false })

/-! ### Reruns -/

/-- TOKEN_BELIEF_MISMATCH (R338 steps 1 and 2): write enables closed, VALID clear, both lanes forced to STANDBY; a lane
that differs in two reruns within 36,000,000 frames is retired. -/
def execTokenBeliefMismatch (lane : Bool) (s : State) : Host.Outcome State Fault Refusal :=
  .next (if (s.laneAt lane).st != .inCharge && (s.laneAt lane).st != .standby then s
    else
      let again := 0 < s.within 36000000 (s.laneAt lane).beliefDiffs
      let s := s.releaseToken.putOffSwap
      let s := { s with
        lanes.hold := true, lanes.reruns := bump 0xFF s.lanes.reruns, lanes.sinceSwitch := 0
        lane := s.lane.map fun (l : Lane) =>
          if l.st == LaneSt.inCharge then
            { l with st := .standby, current := true, lastMirror := some s.lanes.lastBoundary, mirror := s.lanes.mirror }
          else l }
      let s := s.modLane lane fun l => { l with beliefDiffs := s.grid.validFrames :: l.beliefDiffs }
      let s := s.laneAbsorb 2 lane []
      if again then s.retireLane lane else s)

/-- RERUN_ARBITRATION (R338 steps 3 and 4): both claims are sampled at one instant, 500 us after the signal, which take in five
strobes. -/
def execRerunArbitration (s : State) : Host.Outcome State Fault Refusal :=
  .next (if s.lanes.hold && !s.lanes.valid && decide (5 ≤ (s.grid.frame - s.lanes.releasedAt).toNat) then
      match s.arbitrate (s.mayClaim false) (s.mayClaim true) with
      | some b => s.grant b
      | none => { s with lanes.hold := false }
    else s)

/-! ### The mirror -/

/-- The mirror message sent after a boundary: the state as every step of R26 has left it (R334, 01 R30). -/
def State.mirrorMsg (s : State) : MirrorMsg :=
  { seq := s.grid.frame, mode := s.grid.mode, deferredMode := s.grid.deferredMode, conv := s.conv.st, bal := s.bal.st
    eis := s.eis.st, closeReq := s.safe.closeReq, target := s.law.outTarget, params := s.ploza.params
    staged := s.ploza.staged, streams := s.ploza.streams, waiting := s.ploza.deferred, executed := s.port.map (·.hist)
    journal := s.sec.jNext }

/-- The lane in charge sends its mirror; its own copy of that state is the state itself. -/
def State.sendMirror (s : State) : State := { s with lanes.mirror := some s.mirrorMsg }

/-- Boundary `f` is the successor of boundary `m` (R334): the next frame, or in WATCH the next frame with a boundary. -/
def State.successor (s : State) (m f : Word) : Bool :=
  f == m + 1 || (s.power.st == .watch && f.toNat % 10 == 0 && decide (1 ≤ (f - m).toNat) && decide ((f - m).toNat ≤ 10))

/-- MIRROR_RX (R334, R335). A bad mirror during the check of a swap fails the new lane (Table 14.5). -/
def execMirrorRx (frame : Word) (ok : Bool) (s : State) : Host.Outcome State Fault Refusal :=
  .next (
    let b := !s.lanes.holder
    let l := s.laneAt b
    if !s.lanes.valid || l.st != .standby || l.resync then s
    else if !ok && s.lanes.swapPhase == 2 then s.laneFails s.lanes.holder true
    else if ok && (match l.lastMirror with
        | some m => s.successor m frame
        | none => false) then
      s.modLane b fun l => { l with lastMirror := some frame, mirror := s.lanes.mirror, current := true }
    else s.modLane b fun l => { l with current := false, resync := true })

/-- RESYNC_COMPLETE (R335). -/
def execResyncComplete (s : State) : Host.Outcome State Fault Refusal :=
  .next (
    let b := !s.lanes.holder
    let l := s.laneAt b
    if s.lanes.valid && l.st == .standby && l.resync then
      s.modLane b fun l => { l with resync := false, current := true, lastMirror := some s.lanes.lastBoundary, mirror := s.lanes.mirror }
    else s)

/-- LANE_REBOOT_COMPLETE (R344, and the self-test of Table 14.5 after DIVERGE). -/
def execLaneRebootComplete (lane pass : Bool) (s : State) : Host.Outcome State Fault Refusal :=
  .next (if (s.laneAt lane).st != .rebooting then s
    else
      let diverge := s.lanes.selfTest == some lane
      let s := if diverge then { s with lanes.selfTest := none } else s
      if pass then
        let s := s.modLane lane fun l =>
          { l with st := .standby, retired := false, lockstepOk := true, memOk := true, current := false, resync := true }
        if diverge then s.laneAbsorb 3 lane [] else s
      else s.retireLane lane)

/-- CORRECTED_SRAM_ERROR (R343): at 16 in 36,000,000 frames the MEMORY weight is lost, and an eclipse swap is to bring the
other lane in when its score is then higher. -/
def execCorrectedSramError (lane : Bool) (s : State) : Host.Outcome State Fault Refusal :=
  .next (
    let s := s.modLane lane fun l => { l with eccFrames := (s.grid.validFrames :: l.eccFrames).take 16 }
    let lost := 16 ≤ s.within 36000000 (s.laneAt lane).eccFrames
    if lost ∧ s.lanes.valid = true ∧ s.lanes.holder = lane ∧ s.score lane < s.score (!lane) then
      { s with lanes.eccSwap := true } else s)

/-! ### Eclipse swaps -/

/-- ECLIPSE_SWAP_DUE (R345): the period has passed; with ECLIPSE_PERIOD_H = 0 none falls due. -/
def execEclipseSwapDue (s : State) : Host.Outcome State Fault Refusal :=
  .next (if s.pn P.eclipsePeriodH = 0 ∨ s.lanes.swapTimer < s.lanes.swapNext then s else { s with lanes.swapDue := true })

/-- A committed ECLIPSE_PERIOD_H (R355). -/
def State.commitEclipse (s : State) : State :=
  let n := s.pn P.eclipsePeriodH * 36000000
  { s with lanes.swapNext := n, lanes.swapDue := n != 0 && (s.lanes.swapDue || decide (n ≤ s.lanes.swapTimer)) }

/-- At a boundary: the swap's clock, and the start of a swap that is due or asked for (R345, R346). -/
def State.swapBoundary (s : State) : State :=
  let s := { s with
    lanes.swapFrames := if s.lanes.swapPhase = 2 then s.lanes.swapFrames + s.windowFrames else 0
    lanes.swapTimer := s.lanes.swapTimer + s.windowFrames, lanes.sinceSwitch := min 1000 (s.lanes.sinceSwitch + s.windowFrames) }
  let s := if s.pn P.eclipsePeriodH ≠ 0 ∧ s.lanes.swapNext ≤ s.lanes.swapTimer then { s with lanes.swapDue := true } else s
  let other := s.otherLane
  if (s.lanes.swapDue || s.lanes.eccSwap || s.lanes.swapBy.isSome) && s.lanes.swapPhase == 0 && s.power.st == .run && s.sched.lateNs == 0 &&
      decide (0 < s.score false) && decide (0 < s.score true) && other.st == .standby && other.current && !other.resync &&
      !s.lanes.hold && decide (1000 ≤ s.lanes.sinceSwitch) then
    { s with lanes.swapPhase := 1, lanes.swapActive := true, lanes.swapDue := false, lanes.eccSwap := false }
  else s

/-- ECLIPSE_HANDOVER (R346 steps 3 and 4): the token moves without VALID clearing; a failed takeover self-test or echo test
retires the new lane (Table 14.5). -/
def execEclipseHandover (testOk : Bool) (s : State) : Host.Outcome State Fault Refusal :=
  .next (if s.lanes.swapPhase != 1 || !s.lanes.valid then s
    else
      let old := s.lanes.holder
      if testOk && (s.laneAt (!old)).st == .standby then
        let s := s.modLane old fun l => { l with
          st := .standby, current := true, lastMirror := some s.lanes.lastBoundary, mirror := s.lanes.mirror }
        let s := s.modLane (!old) fun l => { l with st := .inCharge }
        { s with lanes.holder := !old, lanes.last := old, lanes.swapPhase := 2, lanes.swapFrames := 0 }
      else (if (s.laneAt (!old)).st == .retired then s else s.retireLane (!old)).endSwap 2)

/-- ECLIPSE_CHECK_END (R347, Table 14.5): ECLIPSE_CHECK_FRAMES after the swap. -/
def execEclipseCheckEnd (verifyOk diverge : Bool) (s : State) : Host.Outcome State Fault Refusal :=
  .next (if s.lanes.swapPhase != 2 || !s.lanes.valid || decide (s.lanes.swapFrames < s.pn P.eclipseCheckFrames) then s
    else
      let new := s.lanes.holder
      if !verifyOk then s.laneFails new true
      else if diverge then
        let s := s.modLane (!new) fun l => { l with st := .rebooting, current := false, resync := false }
        { s with lanes.selfTest := some (!new) }.endSwap 3
      else (s.modLane new fun l => { l with outOk := true }).endSwap 1)

/-- SWAP_OVERDUE (R345): no swap has completed for 168 h. -/
def execSwapOverdue (s : State) : Host.Outcome State Fault Refusal :=
  .next (if s.lanes.swapOverdue || decide (s.lanes.swapTimer < 6048000000) then s else { s with lanes.swapOverdue := true }.absorb 14 4 0xFF 0 [])

/-- ECLIPSE_SWAP (R345), journalled with the lane in charge (Table 20.2). -/
def opEclipseSwap (h : Hdr) (_ : List Byte) (s : State) : Ans :=
  if s.power.st ≠ .run then fail s .wrongState
  else if (s.laneAt false).retired || (s.laneAt true).retired || !s.otherLane.current then refuse s 0x01
  else if s.lanes.swapPhase != 0 || s.lanes.swapBy.isSome then fail s .busy
  else
    let t := { s with lanes.swapBy := some (hdrRef h 0xE0 true) }
    { st := .deferred, s := t.journal h.port 0xE0 0 (toLe 1 s.laneNo) (toLe 1 s.laneNo) }

/-- ECLIPSE_SWAP. -/
def execEclipseSwap (h : Hdr) (p : List Byte) (s : State) : Host.Outcome State Fault Refusal :=
  .next (runCmd 0xE0 opEclipseSwap h p s)

/-! ### Both lanes lost -/

/-- NOTIFY PROT_ONLY on every host port of NOTIFY_PORTS, built in hardware (R349). -/
def State.protNotice (s : State) : State :=
  let n : Notice :=
    { sub := 0x16, frame := s.grid.frame, time := s.grid.plantNs, source := s.ring.position
      data := toLe 1 s.lanes.protCause ++ toLe 1 (pack [(0, 1, bit (s.laneAt false).retired), (1, 1, bit (s.laneAt true).retired)]) }
  if s.lanes.protReduced || !s.portsOn then s
  else ((noticePorts (s.pn P.notifyPorts)).filter (· != .ring)).foldl (fun s p => s.noticeOn p n) s

/-- The protection-only state is entered (R348, R351): causes 1 no lane granted, 2 last lane retired, 3 failed power-up. -/
def State.enterProtOnly (s : State) (cause : Nat) (reduced : Bool) : State :=
  let s := { s.releaseToken with
    lanes.protOnly := true, lanes.protCause := cause, lanes.protReduced := reduced, lanes.hold := false, lanes.inbox := []
    lanes.fallback := s.conv.st != FnState.off, lanes.fallbackStep := absRat s.law.iRefPrev / 1600
    lanes.swapPhase := 0, lanes.swapActive := false, lanes.protAt := s.grid.frame, lanes.protSubs := 0, lanes.protQuiet := 0
    law.excOn := false, gov.pause := 7, gov.excPermit := false, gov.next := [] }
  (s.setCause 22 0).protNotice

/-- PROT_ONLY_ENTRY (R348): with both lanes retired, or 100 us, which take in a strobe, after VALID cleared. -/
def execProtOnlyEntry (s : State) : Host.Outcome State Fault Refusal :=
  .next (
    let none' := (s.laneAt false).retired && (s.laneAt true).retired
    if s.lanes.valid || s.lanes.protOnly || !s.portsOn || (!none' && s.lanes.releasedAt == s.grid.frame) then s
    else s.enterProtOnly (if none' then 2 else 1) false)

/-- PROT_ONLY_NOTICE (R349): every 10,000 frames while the state lasts. -/
def execProtOnlyNotice (s : State) : Host.Outcome State Fault Refusal :=
  .next (if s.lanes.protOnly && decide (10000 ≤ (s.grid.frame - s.lanes.protAt).toNat) then
      { s.protNotice with lanes.protAt := s.grid.frame } else s)

/-- FALLBACK_GATES_OFF (R348): four outputs after I_REF has reached 0 A. -/
def execFallbackGatesOff (s : State) : Host.Outcome State Fault Refusal :=
  .next (if s.lanes.fallback ∧ 5 ≤ s.law.safeZeroOut then
    { s.gatesOff with lanes.fallback := false, conv.toOff := s.conv.st != FnState.off }
  else s)

/-- PROT_ONLY_CONTACTOR_OPEN (R348): the branch current has been at most CONV_OFF_I_A for four sub-periods, or 200 ms, which hold
8,000 control samples, have passed; in the reduced form no control sample is taken (16 R401). The request becomes OPEN, and the
mode will be SERVICE (15 R371). -/
def execProtOnlyContactorOpen (s : State) : Host.Outcome State Fault Refusal :=
  .next (if s.lanes.protOnly && (s.lanes.protReduced || s.lanes.protQuiet == 4 || s.lanes.protSubs == 8000) then
    { s with safe.closeReq := false, safe.twohandClose := false, lanes.closeReq := false
             safe.opened := if s.safe.anyOn then some .other else s.safe.opened }.followRequest
  else s)

end Sys2Proof.Machine
end

