-- ==== Sys2Proof/Machine/Receive.lean ====
section
/-!
DEFINITION. A packet received complete on a port: its checks before any boundary, its forwarding and its place in the
inboxes (17_ploza_protocol.md R410, R411, R424, 13_ceyth_ring.md R313, 01_one_frame.md R27).
-/

namespace Sys2Proof.Machine

/-- The first frame from `f` on that has a boundary: every frame, in WATCH every tenth (16 R381). -/
def State.boundaryAt (s : State) (f : Word) : Word :=
  if s.power.st = .watch then BitVec.ofNat 32 ((f.toNat + 9) / 10 * 10) else f

/-- The boundary that a packet received now takes part in (R27). -/
def State.dueBoundary (s : State) (late : Bool) : Word := s.boundaryAt (s.grid.frame + (if late then 2 else 1))

/-- The module takes a packet of this TARGET from this port (R410, R411): its own position, or 0xFE at the primary or when
forwarded on the ring. -/
def State.takesFrom (s : State) (port : Port) (target : Byte) : Bool :=
  target.toNat == s.ring.position || (target == 0xFE && (port == .ring || s.isPrimary))

/-- The primary forwards a packet of this TARGET (13 R313). -/
def State.forwards (s : State) (port : Port) (target : Byte) : Bool :=
  s.isPrimary && port != .ring && decide (1 < s.pn P.ringModules) &&
    (target == 0xFE || (decide (target.toNat < 8) && target.toNat != s.ring.position))

/-- Length of a request that its opcode allows: on the ring an EIS_START also carries its SWEEP_ID and S0 (07 R175, log
entry 23). -/
def lengthOn (port : Port) (op : Byte) (p : List Byte) : Bool :=
  lengthOk op.toNat p || (port == .ring && op == 0x50 && p.length == 20 + 4 * (getB p 1).toNat)

/-- Two packets that R424 takes for the same: SEQUENCE, OPCODE, TARGET and the CRC with FLAGS taken as 0x00. -/
def sameRequest (a b : Request) : Bool :=
  a.opcode == b.opcode && a.seq == b.seq && a.target == b.target && a.payload == b.payload

/-- A RETRY of a packet that still waits for its boundary (R424). -/
def State.retryWaits (s : State) (port : Port) (r : Request) : Bool :=
  r.flags.getLsbD 7 && s.lanes.inbox.any fun e => e.port == port &&
    (match parseRequest e.bytes with
     | some q => sameRequest q r
     | none => false)

/-- The status with which a packet fails at receipt (R411); none: it waits for its boundary, or is dropped as a RETRY. -/
def State.receiptFault (s : State) (port : Port) (r : Request) : Option Status :=
  if !r.crcOk then some .badCrc
  else if 4096 < r.length || r.length != r.payload.length || !lengthOn port r.opcode r.payload then some .badLength
  else if !opcodeKnown r.opcode.toNat || (r.opcode == 0xF1 && (diagLength (getB r.payload 0).toNat).isNone) then
    some .unknownOpcode
  else if 32 ≤ (s.lanes.inbox.filter (·.port == port)).length && !s.retryWaits port r then some .busy
  else none

/-- The packet goes into the downlink, in order of arrival, and its port is kept for the reply (13 R313). -/
def State.forward (s : State) (port : Port) (r : Request) (bs : List Byte) : State :=
  { s with
    ring.dnQueue := s.ring.dnQueue ++ [{ kind := 1, prio := 0, data := bs }]
    ring.fwd := ({ target := r.target.toNat, port := port, seq := r.seq.toNat, opcode := r.opcode.toNat
                   left := if r.target == 0xFE then s.pn P.ringModules - 1 else 1 } :: s.ring.fwd).take 64 }

/-- A reply that leaves at receipt, whatever NO_REPLY says (R411). -/
def State.receiptReply (s : State) (port : Port) (r : Request) (st : Status) : State :=
  s.sendReply port (s.replyPacket r.opcode r.seq st [])

/-- A packet that passed the checks enters the inboxes of both lanes (14 R331); a RETRY of one that waits is dropped
(R424). -/
def State.accept (s : State) (port : Port) (late : Bool) (r : Request) (bs : List Byte) : State :=
  if s.retryWaits port r then s
  else { s with lanes.inbox := s.lanes.inbox ++ [{ port := port, bytes := bs, frame := s.dueBoundary late, arrival := s.grid.frame }] }

/-- PACKET_RECEIVED (R410, R411). The protection-only state drops every packet but a RESET (14 R351), which
PROT_ONLY_RESET takes. -/
def State.receive (s : State) (port : Port) (late : Bool) (bs : List Byte) : State :=
  if !s.portsOn || s.lanes.protOnly then s
  else match parseRequest bs with
    | none => s
    | some r =>
      let mine := s.takesFrom port r.target
      let bank := r.target == 0xFF && port != .ring
      let s := if s.forwards port r.target && r.crcOk && r.length == r.payload.length then s.forward port r bs else s
      match s.receiptFault port r with
      | some .badCrc => if r.target.toNat == s.ring.position then s.receiptReply port r .badCrc else s
      | some st => if mine then s.receiptReply port r st else s
      | none => if mine || (bank && bankOpcode r.opcode) then s.accept port late r bs else s

/-- PACKET_RECEIVED. -/
def execPacketReceived (port : Port) (late : Bool) (bytes : List Byte) (s : State) : Host.Outcome State Fault Refusal :=
  if port = .own then .fault .noSuchUnit else .next (s.receive port late bytes)

end Sys2Proof.Machine
end

