-- ==== Sys2Proof/Machine/Ring.lean ====
section
/-!
DEFINITION. The Ceyth ring (13_ceyth_ring.md): header, slots, side window and mailboxes, the time discipline, the election
of a primary, breaks, and enumeration.
-/

namespace Sys2Proof.Machine

/-! ### Mailboxes -/

/-- Goes before in the arbitration of one transmit slot (04 R108): class M, then P, then O, then the lowest pan. -/
def RingMsg.before (a b : RingMsg) : Bool := decide (a.cls < b.cls) || (a.cls == b.cls && decide (a.pan < b.pan))

/-- The place of the message of R314's class `p` that goes next: of the pans' records the winner of R108, of equals the oldest. -/
def pickMsg (q : List RingMsg) (p : Nat) : Option Nat :=
  q.zipIdx.foldl (fun (b : Option Nat) (x : RingMsg × Nat) =>
    if x.1.prio != p then b
    else match b with
      | none => some x.2
      | some i => if x.1.before (q.getD i {}) then some x.2 else b) none

/-- One segment of the next message of a queue (R312, R314): a message that has begun is finished first, then the lowest
class, then the winner among the pans that wait (04 R108), then the oldest. The segment's header and data, the queue and the message number that remain. -/
def nextSegment (size : Nat) (q : List RingMsg) (msg : Nat) : List Byte × List RingMsg × Nat :=
  let pick := match q.findIdx? (fun m => 0 < m.sent) with
    | some i => some i
    | none => (List.range 4).findSome? (pickMsg q)
  match pick with
  | none => (zeros (4 + size), q, msg)
  | some i =>
    let m := q.getD i {}
    let last := decide (m.data.length ≤ (m.sent + 1) * size)
    let hdr := toLe 1 m.kind ++ toLe 1 msg ++ toLe 2 (m.sent + (if last then 32768 else 0))
    let seg := hdr ++ padTo size (slice m.data (m.sent * size) size)
    if last then (seg, q.eraseIdx i, (msg + 1) % 256) else (seg, q.modify i fun m => { m with sent := m.sent + 1 }, msg)

/-- A segment is taken (R312): a message is dropped when a segment is missing, out of order, or overtaken by a new MSG. The
partial message that remains, and the complete one with its KIND. -/
def takeSegment (r : Option Reasm) (seg : List Byte) : Option Reasm × Option (Nat × List Byte) :=
  let kind := (getB seg 0).toNat
  let msg := (getB seg 1).toNat
  let idx := getU seg 2 2 % 32768
  let last := decide (32768 ≤ getU seg 2 2)
  let data := seg.drop 4
  let start : Reasm := { kind := kind, msg := msg }
  if kind = 0 then (r, none)
  else
    let cur := if idx = 0 then some start else r.filter fun x => x.kind == kind && x.msg == msg && x.next == idx
    match cur with
    | none => (none, none)
    | some x =>
      let x := { x with data := x.data ++ data, next := idx + 1 }
      if last then (none, some (kind, x.data)) else (some x, none)

/-- A complete message without the bytes past its end (R312). -/
def messageBytes (kind : Nat) (bs : List Byte) : List Byte :=
  if kind = 1 then bs.take (10 + getU bs 4 2) else if kind = 2 then bs.take 84 else bs.take 16

/-- A satellite's uplink packet at the primary (R313, 17 R420): a reply leaves on the port of the oldest request that it
answers, a NOTIFY on the
host ports of NOTIFY_PORTS with the satellite's SOURCE. -/
def State.relayUp (s : State) (src : Nat) (bs : List Byte) : State :=
  let op := getB bs 0
  let seq := (getB bs 1).toNat
  if op == 0x70 then
    ((noticePorts (s.pn P.notifyPorts)).filter (· != .ring)).foldl (fun s p =>
      let out := mkPacket 0x70 (s.portAt p).notices 0 src (slice bs 6 (getU bs 4 2))
      let s := s.modPort p fun x => { x with notices := (x.notices + 1) % 256 }
      match p with
      | .canA => s.noticeCan false (getB bs 6).toNat out
      | .canB => s.noticeCan true (getB bs 6).toNat out
      | _ => s.sendSpi .notice out) s
  else match s.ring.fwd.reverse.findIdx? fun f =>
      f.seq == seq && f.opcode == op.toNat && (f.target == src || f.target == 0xFE) with
    | some i =>
      let i := s.ring.fwd.length - 1 - i
      let f := s.ring.fwd.getD i {}
      { s with ring.fwd := if f.left ≤ 1 then s.ring.fwd.eraseIdx i
                 else s.ring.fwd.modify i fun f => { f with left := f.left - 1 } }.sendReply f.port bs
    | none => s

/-- RING_MESSAGE_RX (R312, R313): source 0 to 7 is that position's uplink, 8 the downlink. -/
def State.messageRx (s : State) (src : Nat) (seg : List Byte) : State :=
  let dn := src == 8
  let old := if dn then s.ring.rxDn else s.ring.rxUp.getD src none
  let (rest, done) := takeSegment old seg
  let s := if dn then { s with ring.rxDn := rest } else { s with ring.rxUp := setAt s.ring.rxUp src rest }
  match done with
  | none => s
  | some (kind, raw) =>
    let bs := messageBytes kind raw
    if kind = 1 then
      if dn then (if s.isPrimary then s else s.receive .ring false bs)
      else if s.isPrimary then s.relayUp src bs else s
    else if kind = 2 then
      (match summaryOf bs with
       | some x => s.takeSummary x
       | none => s)
    else s.takeStatus bs

/-- RING_MESSAGE_RX. -/
def execRingMessageRx (src : Nat) (seg : List Byte) (s : State) : Host.Outcome State Fault Refusal :=
  if src ≤ 8 then .next (if s.portsOn then s.messageRx src seg else s) else .fault .noSuchUnit

/-! ### The slot -/

/-- The newest stamp for which every cell pan and P32 have released their first job (R307). -/
def State.slotReady (s : State) : Bool :=
  ((List.range s.cells).all fun i => ((s.chanAt (i + 1)).hist.headD {}).stamp == s.sched.stamp) &&
    (!s.hasCfe || (s.branchAt (s.pn P.branch)).mainRecs.any (·.stamp == s.sched.stamp) ||
      (s.branchAt (s.pn P.branch)).checkRecs.any (·.stamp == s.sched.stamp))

/-- Bits of STATE that the ring interface and the always-on domain write as the slot is fixed (R307): 21 to 17, 12 and
10. -/
def stateFresh : Nat := 0x003E1400

/-- STATE of the slot: the lane's bits of the last boundary with the fresh ones. -/
def State.slotWord (s : State) (rep : Bool) : Word :=
  let m : Word := BitVec.ofNat 32 stateFresh
  let fresh : Word := BitVec.ofNat 32 (s.slotStateWord false)
  setBit ((s.ring.slotState &&& ~~~m) ||| (fresh &&& m)) 16 rep

/-- The slot as its 360 bytes (Table 13.3). -/
def slotBytes (x : Slot) : List Byte :=
  withCrc (toLe 1 (pack [(7, 1, x.branch), (6, 1, 1), (3, 3, x.series), (0, 3, x.pos)]) ++ toLe 1 x.cells ++ zeros 2 ++
    w32 x.stamp ++ (x.volts.flatMap fun v => toLe 3 v.toNat) ++ toLeInt 4 x.current ++
    (List.range 12).map (fun j => BitVec.ofNat 8 (pack ((List.range 8).map fun b => (b, 1, bit (x.held.getD (8 * j + b) false))))) ++
    w32 x.causeReg ++ w32 x.state ++ w32 x.upHdr ++ x.upData)

/-- The slot of Table 13.3 in 360 bytes; none when CRC, FILLED or position is wrong (R309). -/
def slotOf (p : Nat) (bs : List Byte) : Option Slot :=
  let src := (getB bs 0).toNat
  if bs.length == 360 && crcGood 356 bs && src.testBit 6 && src % 8 == p then
    some
      { pos := p, branch := src / 128, series := src / 8 % 8, cells := (getB bs 1).toNat, stamp := BitVec.ofNat 32 (getU bs 4 4)
        volts := (List.range 96).map fun i => BitVec.ofNat 24 (getU bs (8 + 3 * i) 3), current := getS bs 296 4
        held := (List.range 96).map fun i => (getB bs (300 + i / 8)).getLsbD (i % 8)
        causeReg := BitVec.ofNat 32 (getU bs 312 4), state := BitVec.ofNat 32 (getU bs 316 4)
        upHdr := BitVec.ofNat 32 (getU bs 320 4), upData := slice bs 324 32 }
  else none

/-- This module's own current record of a stamp. -/
def State.recordAt (s : State) (t : Word) : Option CurRec :=
  let b := s.branchAt (s.pn P.branch)
  if s.hasCfe then (b.mainRecs ++ b.checkRecs).find? fun r => r.stamp == t && r.pos == s.ring.position else none

/-- The content that a slot takes from the released outputs. -/
def State.slotFresh (s : State) : Slot :=
  { pos := s.ring.position, branch := s.pn P.branch, series := s.pn P.seriesPos, cells := s.cells, stamp := s.sched.stamp
    volts := (List.range 96).map fun i => if i < s.cells then (s.chanAt (i + 1)).s24 else 0x800000
    current := match s.recordAt s.sched.stamp with
      | some r => if r.invalid then -2147483648 else r.cur
      | none => -2147483648
    held := (List.range 96).map fun i => (s.chanAt (i + 1)).status.getLsbD 14 && decide (i < s.cells) }

/-- The slot content is fixed once in a frame, at the start of the module's earlier emission (R307, R314). -/
def State.fixSlot (s : State) : State :=
  if s.ring.slotFrame = some s.grid.frame then s
  else
    let fresh := s.slotReady && s.ring.ownSlot.all fun o => o.stamp != s.sched.stamp
    let x := if fresh then s.slotFresh else s.ring.ownSlot.getD s.slotFresh
    let rep := !fresh && s.ring.ownSlot.isSome
    let (seg, q, m) := if s.lanes.protOnly then (zeros 36, s.ring.upQueue, s.ring.upMsg) else nextSegment 32 s.ring.upQueue s.ring.upMsg
    let x := { x with
      causeReg := s.causeWord, state := s.slotWord rep, upHdr := BitVec.ofNat 32 (getU seg 0 4), upData := seg.drop 4 }
    { s with
      ring.ownSlot := some x, ring.slotFrame := some s.grid.frame, ring.slotOut := slotBytes x
      ring.upQueue := q, ring.upMsg := m }

/-! ### The side window -/

/-- A record in the ring form of Table 13.7. -/
def ringRec (r : CurRec) (relayed : Bool) : List Byte :=
  withCrc (toLe 1 (pack [(7, 1, r.branch), (6, 1, bit r.check), (5, 1, bit relayed), (0, 3, r.pos)]) ++
    toLe 1 (r.flags.toNat % 128) ++ toLe 2 r.stamp.toNat ++ toLeInt 4 r.cur ++ toLeInt 4 r.chg ++ toLeInt 8 r.acc ++
    toLeInt 4 r.vstr)

/-- The latest frame not later than `now` whose low 16 bits are `lo` (R311). -/
def latestFrame (now : Word) (lo : Nat) : Word := now - BitVec.ofNat 32 ((now.toNat + 65536 - lo) % 65536)

/-- A ring-form entry rebuilt as a record (R311); none when it is empty. -/
def State.ringRecOf (s : State) (bs : List Byte) : Option CurRec :=
  if bs.length == 28 && crcGood 24 bs && bs.any (· != 0) then
    let src := (getB bs 0).toNat
    let f := latestFrame s.grid.frame (getU bs 2 2)
    some { branch := src / 128, check := src / 64 % 2 == 1, pos := src % 8, flags := BitVec.ofNat 16 ((getB bs 1).toNat % 128)
           stamp := f, time := s.grid.plantNs - BitVec.ofNat 64 (100000 * (s.grid.frame - f).toNat)
           cur := getS bs 4 4, chg := getS bs 8 4, acc := getS bs 12 8, vstr := getS bs 20 4 }
  else none

/-- Entry of the side window for this module's record (R310): b for MAIN, 2 + b for CHECK; after a takeover under R84 the
CHECK module writes entry b. -/
def State.sideEntry (s : State) : Option (Nat × CurRec) :=
  if !s.hasCfe then none
  else
    let b := s.pn P.branch
    let chk := s.pn P.cfeRole == 2
    let r := s.ring.sideTx.getD (2 * b + bit chk) none
    r.map fun r => (if chk && !(s.branchAt b).useCheck then 2 + b else b, r)

/-- The side window of one copy (R310, R325): this module's entry, at the primary the relayed MAIN entries, and the bytes `rx` of
the window it passes on. In FORMING byte 0 of the CW copy is the hop count (R302). -/
def State.sideWindow (s : State) (cw : Bool) (rx : List Byte) : List Byte :=
  let relay := if s.isPrimary then (if cw then s.ring.sideRelayCw else s.ring.sideRelayCcw) else [none, none]
  let entry := fun (i : Nat) =>
    match s.sideEntry.filter fun e => e.1 == i, relay.getD i none with
    | some (_, r), _ => ringRec r false
    | none, some x => ringRec x true
    | none, none => padTo 28 (slice rx (1 + 28 * i) 28)
  let hop := if s.isPrimary then 0 else (getB rx 0).toNat + 1
  toLe 1 (if cw && s.ring.st == .forming then hop else 0x53) ++ entry 0 ++ entry 1 ++ entry 2 ++ entry 3

/-- A copy of the ring frame as this module emits it (Table 13.1, R299, R306, R308): the header, its own slot among the slots it
passes on, the seal over both, and the side window. Bytes not received are filler. -/
def State.emitCopy (s : State) (cw : Bool) (hdr : List Byte) (rx : List (Option Byte)) : List Byte :=
  let pass := fun (o n : Nat) => (List.range n).map fun i => (rx.getD (o + i) none).getD 0
  withCrc (hdr ++ (List.range 8).flatMap fun p => if p = s.ring.position then s.ring.slotOut else pass (128 + 360 * p) 360) ++
    s.sideWindow cw (pass 3012 113)

/-- SIDE_WINDOW_RX (R310, R311, R325). -/
def State.sideRx (s : State) (cw : Bool) (bs : List Byte) : State :=
  let s := if cw && s.ring.st == .forming && !s.isPrimary then { s with ring.hopSeen := some (getB bs 0).toNat } else s
  let rec' := fun (i : Nat) => s.ringRecOf (slice bs (1 + 28 * i) 28)
  let own := s.ring.position
  let s := (List.range 4).foldl (fun s i =>
    match rec' i with
    | some r => if r.pos == own && s.hasCfe then s else s.ringRecord r
    | none => s) s
  if s.isPrimary && s.ring.break1.isSome then
    let l := [rec' 0, rec' 1].map fun e => e.filter fun r => r.pos != own
    let s := if cw then { s with ring.sideRelayCw := l } else { s with ring.sideRelayCcw := l }
    { s with ring.relaying := (s.ring.sideRelayCw ++ s.ring.sideRelayCcw).any Option.isSome }
  else { s with ring.sideRelayCw := [none, none], ring.sideRelayCcw := [none, none], ring.relaying := false }

/-- SIDE_WINDOW_RX. -/
def execSideWindowRx (cw : Bool) (bytes : List Byte) (s : State) : Host.Outcome State Fault Refusal :=
  .next (if s.portsOn && bytes.length == 113 then s.sideRx cw bytes else s)

/-! ### Emission -/

/-- The ring frame runs in this frame (R297, R319). -/
def State.ringFrame (s : State) : Bool :=
  decide (1 < s.pn P.ringModules) && (s.power.st == .run || (s.power.st == .watch && s.grid.frame.toNat % 10 == 0)) &&
    !s.lanes.protReduced

/-- Bits of BREAK (Table 13.2). -/
def breakByte (r : Ring) : Nat :=
  pack [(0, 3, r.break1.getD 0), (3, 3, r.break2.getD 0), (6, 1, bit r.break2.isSome), (7, 1, bit r.break1.isSome)]

/-- The header of Table 13.2 with its downlink segment. -/
def State.headerBytes (s : State) (seg : List Byte) : List Byte :=
  let r := s.ring
  withCrc (toLe 1 0x48 ++ toLe 1 (s.pn P.stringId) ++
    toLe 1 (pack [(0, 3, r.position), (3, 3, r.handover.getD 0), (6, 1, bit r.handover.isSome)]) ++ toLe 1 r.st.code ++
    w32 s.grid.frame ++ w64 s.grid.plantNs ++ toLe 2 r.term ++ toLe 1 r.live.toNat ++ toLe 1 r.eligible.toNat ++
    toLe 1 (breakByte r) ++ toLe 1 (r.ownerPos.getD 0xFF) ++ toLe 1 r.timeSrc ++ toLe 1 (s.pn P.ringModules) ++
    padTo 16 (r.eisCtl.headD []) ++ seg)

/-- RING_FRAME_EMIT (R304, R305, R312): the primary's header and downlink, its slot and its side window, in both copies. -/
def execRingFrameEmit (s : State) : Host.Outcome State Fault Refusal :=
  .next (if !s.isPrimary || !s.ringFrame || s.lanes.protOnly then s
    else
      let s := s.fixSlot
      let (seg, q, m) := nextSegment 80 s.ring.dnQueue s.ring.dnMsg
      let hdr := s.headerBytes seg
      { s with
        ring.header := hdr, ring.dnSeg := seg, ring.dnQueue := q, ring.dnMsg := m, ring.eisCtl := s.ring.eisCtl.tail
        ring.copyOut := [s.emitCopy true hdr [], s.emitCopy false hdr []]
        ring.sideOut := [s.sideWindow true [], s.sideWindow false []] })

/-- RING_COPY_EMIT (R299, R307, R310, R320, R326): the slot is inserted as fixed; regeneration ends at the start of an emission
once the port that feeds the copy is back, and while it lasts no received byte is passed on. The CW copy enters on the CCW
port. -/
def execRingCopyEmit (copy : RingCopy) (s : State) : Host.Outcome State Fault Refusal :=
  .next (if s.isPrimary || !s.ringFrame then s
    else
      let cw := copy.cw
      let s := if cw then { s with ring.regenCw := s.ring.regenCw && !s.ring.ccwUp }
        else { s with ring.regenCcw := s.ring.regenCcw && !s.ring.cwUp }
      let s := s.fixSlot
      let rx := if (if cw then s.ring.regenCw else s.ring.regenCcw) then [] else copy.rx
      let pass := fun (o n : Nat) => (List.range n).map fun i => (rx.getD (o + i) none).getD 0
      let k := if cw then 0 else 1
      { s with ring.copyOut := setAt s.ring.copyOut k (s.emitCopy cw (pass 0 128) rx)
               ring.sideOut := setAt s.ring.sideOut k (s.sideWindow cw (pass 3012 113)) })

/-! ### Ports -/

/-- RING_PORT_DOWN (R320): the copy that enters on this port is regenerated. -/
def execRingPortDown (cw : Bool) (s : State) : Host.Outcome State Fault Refusal :=
  .next (if !s.portsOn || s.pn P.ringModules = 1 then s
    else if cw then { s with ring.cwUp := false, ring.regenCcw := true }
    else { s with ring.ccwUp := false, ring.regenCw := true })

/-- RING_PORT_RESTORED (R326): valid headers for 16 frames. -/
def execRingPortRestored (cw : Bool) (s : State) : Host.Outcome State Fault Refusal :=
  .next (if !s.portsOn || s.pn P.ringModules = 1 then s
    else if cw then { s with ring.cwUp := true } else { s with ring.ccwUp := true })

/-! ### The header at a satellite -/

/-- A valid header (Table 13.2). -/
def headerGood (bs : List Byte) : Bool := bs.length == 128 && getB bs 0 == 0x48 && crcGood 124 bs

/-- Hop counts of position `p` from primary `q` in the CW and the CCW direction (13, "Topology"). -/
def hops (n p q : Nat) : Nat × Nat := ((p + n - q % n) % n, (q + n - p % n) % n)

/-- The frame and the plant time of the header are adopted; each difference is absorbed (R316). -/
def State.adoptTime (s : State) (f : Word) (t : BitVec 64) : State :=
  let s := if f == s.grid.frame then s else s.absorb 13 2 s.ring.position 0 []
  let s := if t == s.grid.plantNs then s else s.absorb 13 2 s.ring.position 0 []
  { s with grid.frame := f, grid.plantNs := t }

/-- TIME_LOCKED after 16 consecutive frames inside 50 ns, clear after 16 outside (R315). The loop's change of the length of a frame
is a free value of at most 10 ns. -/
def State.lockStep (s : State) (e : Int) : State :=
  let good := decide (e.natAbs ≤ 50)
  let run := if good == s.ring.timeLocked then 0 else s.ring.lockRun + 1
  let (v, s) := s.draw
  let s := { s with ring.holdover := false, ring.adjNs := ((v.toNat % 21 : Nat) : Int) - 10 }
  if 16 ≤ run then { s with ring.timeLocked := good, ring.lockRun := 0 } else { s with ring.lockRun := run }

/-- The position check of a frame (R301): `d` is the CCW arrival less the CW arrival, each less its link delay, in ns. -/
def State.positionStep (s : State) (d : Int) (hcw hccw : Nat) : State :=
  let off := decide (100 < (d - 200 * ((hccw : Int) - hcw)).natAbs)
  let run := if off == s.ring.posMismatch then 0 else s.ring.misRun + 1
  if 16 ≤ run then
    let s := { s with ring.posMismatch := off, ring.misRun := 0 }
    if off then s.absorb 13 1 s.ring.position 0 [] else s
  else { s with ring.misRun := run }

/-- What a followed header sets (Table 13.2). -/
def State.followHeader (s : State) (bs : List Byte) : State :=
  let b2 := (getB bs 2).toNat
  let b20 := (getB bs 20).toNat
  { s with
    ring.primary := b2 % 8, ring.term := getU bs 16 2, ring.headerMiss := false
    ring.st := (if getB bs 3 == 1 then .broken else if getB bs 3 == 2 then .partialRing else if getB bs 3 == 3 then .forming
      else .closed)
    ring.hopSeen := if getB bs 3 == 3 then s.ring.hopSeen else none
    ring.live := getB bs 18, ring.eligible := getB bs 19
    ring.break1 := if b20.testBit 7 then some (b20 % 8) else none
    ring.break2 := if b20.testBit 6 then some (b20 / 8 % 8) else none
    ring.ownerPos := if getB bs 21 == 0xFF then none else some (getB bs 21).toNat
    ring.timeSrc := (getB bs 22).toNat % 2
    ring.becomePrimary := s.ring.becomePrimary || (b2.testBit 6 && b2 / 8 % 8 == s.ring.position) }

/-- The primary of a module changes or is lost: its sweep ends with PRIMARY_LOST, and a forwarded packet whose segments are cut
off is discarded (R323, 07 R188). -/
def State.primaryLost (s : State) : State :=
  { s with ring.rxDn := none, ring.rxUp := List.replicate 8 none
           ring.dnQueue := s.ring.dnQueue.filter fun m => m.sent == 0 }.endSweep 8 none

/-- The frame timer follows one header of a frame (R315): that of the port with the smaller hop count, of equals the CCW port's,
which the CW copy feeds; the other one's stands in until it comes. -/
def State.discipline (s : State) (again preferred : Bool) (e : Int) : State :=
  if !again then
    { s with ring.lockSave := if preferred then none else some (s.ring.timeLocked, s.ring.lockRun) }.lockStep e
  else match s.ring.lockSave with
    | some (l, n) =>
      if preferred then { s with ring.timeLocked := l, ring.lockRun := n, ring.lockSave := none }.lockStep e else s
    | none => s

/-- RING_HEADER_RX (R301, R315, R316, R322). A module that originates yields to a lower position and outbids a higher one;
of two primaries a satellite follows the lower. -/
def State.headerRx (s : State) (cw : Bool) (bs : List Byte) (e : Int) (d : Option Int) : State :=
  let q := (getB bs 2).toNat % 8
  let p := s.ring.position
  if !headerGood bs || q == p then s
  else if s.isPrimary && decide (p < q) then { s with ring.term := (max s.ring.term (getU bs 16 2) + 1) % 65536 }
  else
    let s := if s.isPrimary then { s with ring.isPrimary := false, ring.lockRun := 0 }.primaryLost else s
    let f := BitVec.ofNat 32 (getU bs 4 4)
    let again := s.ring.hdrFrame == some f
    if again && decide (s.ring.primary < q) then s
    else
      let matching := f == s.grid.frame
      let s := s.adoptTime f (BitVec.ofNat 64 (getU bs 8 8))
      let s := { s.followHeader bs with ring.hdrFrame := some f }
      let (hcw, hccw) := hops (s.pn P.ringModules) p q
      let s := match d with
        | some v => if again && s.ring.cwUp && s.ring.ccwUp then s.positionStep v hcw hccw else s
        | none => s
      let preferred := cw == decide (hcw ≤ hccw)
      if s.ring.posMismatch then { s with ring.holdover := true }
      else if matching then s.discipline again preferred e else s

/-- RING_HEADER_RX. -/
def execRingHeaderRx (cw : Bool) (bytes : List Byte) (errNs : Int) (deltaNs : Option Int) (s : State) :
    Host.Outcome State Fault Refusal :=
  .next (if s.ringFrame then s.headerRx cw bytes errNs deltaNs else s)

/-! ### The harvest at the primary -/

/-- The slot of position `p` in a harvest: the CW copy's when both qualify (R309). -/
def State.harvestSlot (s : State) (cw ccw : List Byte) (p : Nat) : Option Slot :=
  let ok := fun (x : Slot) => match s.ring.slots.getD p none with
    | some o => s.ring.notLive.getD p 0 != 0 || !frameLater o.stamp x.stamp
    | none => true
  match (slotOf p (slice cw (360 * p) 360)).filter ok with
  | some x => some x
  | none => (slotOf p (slice ccw (360 * p) 360)).filter ok

/-- Broken links that the live slots report, with the state of their CW and CCW lanes (R324). -/
def brokenLinks (n : Nat) (l : List (Option Slot)) : List (Nat × Bool × Bool) :=
  (List.range n).filterMap fun h =>
    let ccwDown := match l.getD h none with
      | some x => !x.state.getLsbD 20
      | none => false
    let cwDown := match l.getD ((h + 1) % n) none with
      | some x => !x.state.getLsbD 19
      | none => false
    if cwDown || ccwDown then some (h, cwDown, ccwDown) else none

/-- The failing condition of R303 and R63 among the live slots: 1 series order, 2 duplicate pair, 3 CFE roles; 0 none. -/
def configFault (nb : Nat) (l : List Slot) : Nat :=
  let pairs := l.map fun x => (x.branch, x.series)
  let br := List.range nb
  let gap := [0, 1].any fun b =>
    let ss := (l.filter (·.branch == b)).map (·.series)
    (List.range ss.length).any fun k => !ss.contains k
  let roles := br.any fun b =>
    let rs := (l.filter (·.branch == b)).map fun x => x.state.toNat / 2 ^ 24 % 4
    (rs.filter (· == 1)).length != 1 || 1 < (rs.filter (· == 2)).length
  if pairs.any fun q => 1 < (pairs.filter (· == q)).length then 2 else if gap then 1 else if roles then 3 else 0

/-- Positions whose slot first shows PROT_ONLY: the primary passes the notice on (14 R349); its two data bytes, which the
slot does not carry, are free values (log entry 2). -/
def State.protRelay (s : State) (l : List (Option Slot)) : State :=
  (List.range 8).foldl (fun s p =>
    let on := match l.getD p none with
      | some x => x.state.getLsbD 12 && p != s.ring.position
      | none => s.ring.protSeen.getLsbD p
    let was := s.ring.protSeen.getLsbD p
    let s := { s with ring.protSeen := setBit s.ring.protSeen p on }
    if on && !was then
      let (v, s) := s.draw
      let n : Notice :=
        { sub := 0x16, frame := s.grid.frame, time := s.grid.plantNs, source := p
          data := toLe 1 (v.toNat % 3 + 1) ++ toLe 1 (v.toNat / 4 % 4) }
      s.sendNotice n
    else s) s

/-- Breaks that are new are counted, notified and absorbed (R324). -/
def State.noteBreaks (s : State) (old : List Nat) (l : List (Nat × Bool × Bool)) : State :=
  l.foldl (fun s (h, c, w) =>
    if old.contains h then s
    else
      let s := { s with ring.breaks := bump 0xFF s.ring.breaks }
      (s.notify 0x13 (toLe 1 h ++ toLe 1 (bit c) ++ toLe 1 (bit w))).absorb 13 4 s.ring.position 0 (toLe 1 h)) s

/-- RING_STATE, BREAK and the notices of a harvest (R324, R326, R327). -/
def State.ringStateOf (s : State) (l : List (Option Slot)) : State :=
  let n := s.pn P.ringModules
  let links := brokenLinks n l
  let old := s.ring.break1.toList ++ s.ring.break2.toList
  let s := s.noteBreaks old links
  let hs := links.map (·.1)
  let live := ((List.range n).filter fun p => (l.getD p none).isSome).length
  let back := hs = [] ∧ old ≠ []
  let s := { s with
    ring.break1 := hs[0]?, ring.break2 := hs[1]?
    ring.st := if 0 < s.ring.forming then .forming else if live < n then .partialRing
      else if hs ≠ [] then .broken else .closed }
  if back then s.notify 0x14 [] else s

/-- CONFIG_CONFLICT from the slots of the live modules (R302, R303). -/
def State.configCheck (s : State) (l : List Slot) : State :=
  let f := configFault (s.pn P.ringBranches) l
  let was := s.ring.configConflict
  let enumBad := s.ring.conflictEnum && s.ring.enumFound != s.pn P.ringModules
  let s := { s with ring.conflictEnum := enumBad, ring.configConflict := f != 0 || enumBad }
  if f != 0 && !was then s.notify 0x12 (toLe 1 f) else s

/-- HARVEST_COMPLETE (R303, R309, R324 to R327). -/
def State.harvest (s : State) (cw ccw : List Byte) : State :=
  let n := s.pn P.ringModules
  let l := (List.range 8).map fun p => if p < n then s.harvestSlot cw ccw p else none
  let on := fun (p b : Nat) => match l.getD p none with
    | some x => x.state.getLsbD b
    | none => false
  let s := { s with
    ring.live := ofBits 8 fun p => (l.getD p none).isSome
    ring.eligible := ofBits 8 fun p => on p 22
    ring.slots := (List.range 8).map fun p => match l.getD p none with
      | some x => some x
      | none => s.ring.slots.getD p none
    ring.notLive := (List.range 8).map fun p => if (l.getD p none).isSome || n ≤ p then 0 else s.ring.notLive.getD p 0 + s.windowFrames
    ring.eligRun := (List.range 8).map fun p => if on p 22 && on p 21 then min 10000 (s.ring.eligRun.getD p 0 + s.windowFrames) else 0
    ring.ownerPos := (List.range n).find? fun p => on p 15 }
  let s := s.ringStateOf l
  (s.configCheck (l.filterMap id)).protRelay l

/-- HARVEST_COMPLETE. -/
def execHarvestComplete (cw ccw : List Byte) (s : State) : Host.Outcome State Fault Refusal :=
  .next (if s.ring.isPrimary && s.ringFrame && cw.length == 2880 && ccw.length == 2880 then s.harvest cw ccw else s)

/-! ### Election and handover -/

/-- This module is eligible (Table 13.4 ELIGIBLE). -/
def State.selfEligible (s : State) : Bool := s.pb P.primaryEligible && !s.ring.posMismatch && !s.power.clockDegraded

/-- HEADER_MISS (R321): the candidate is the lowest eligible member; when it is this module, it originates at the next
boundary with TERM + 1. -/
def State.missHeader (s : State) (members eligible : BitVec 8) : State :=
  let p := s.ring.position
  let cand := (List.range 8).find? fun q =>
    if q = p then s.selfEligible else members.getLsbD q && eligible.getLsbD q
  let s := { s with ring.headerMiss := true, ring.holdover := true }
  match cand with
  | none => s.primaryLost
  | some c =>
    if c = s.ring.primary then s
    else { s with ring.elections := bump 0xFF s.ring.elections, ring.becomePrimary := decide (c = p) }.primaryLost

/-- HEADER_MISS. -/
def execHeaderMiss (members eligible : BitVec 8) (s : State) : Host.Outcome State Fault Refusal :=
  .next (if s.ringFrame && !s.isPrimary && !s.lanes.protOnly then s.missHeader members eligible else s)

/-- PRIMARY_HANDOVER (R322): the header of this frame names the lowest position below the primary's that has been eligible
and locked for 10,000 frames. -/
def execPrimaryHandover (s : State) : Host.Outcome State Fault Refusal :=
  .next (if !s.ring.isPrimary then s
    else match (List.range s.ring.position).find? fun p => decide (10000 ≤ s.ring.eligRun.getD p 0) with
      | some p => { s with ring.handover := some p }
      | none => s)

/-- The ring at a boundary: a module alone is its own primary (R297, R315); a candidate or a named module becomes primary
with TERM + 1 (R321, R322); one that handed over in the last frame becomes a satellite; FORMING runs down (R302); the lane
writes its STATE bits (R307). -/
def State.ringBoundary (s : State) : State :=
  let n := s.pn P.ringModules
  let p := s.ring.position
  let s :=
    if n = 1 then { s with
      ring.cwUp := false, ring.ccwUp := false, ring.regenCw := false, ring.regenCcw := false, ring.relaying := false
      ring.isPrimary := true, ring.timeLocked := true, ring.primary := p, ring.live := setBit 0 p true
      ring.eligible := setBit 0 p s.selfEligible, ring.becomePrimary := false, ring.handover := none, ring.headerMiss := false
      ring.ownerPos := if s.conv.owner then some p else none }.configCheck
        [{ branch := s.pn P.branch, series := s.pn P.seriesPos, state := BitVec.ofNat 32 (s.slotStateWord false) }]
    else if s.ring.becomePrimary then { s with
      ring.isPrimary := true, ring.timeLocked := true, ring.primary := p, ring.becomePrimary := false
      ring.term := (s.ring.term + 1) % 65536, ring.holdover := false, ring.headerMiss := false, ring.handover := none
      ring.notLive := List.replicate 8 0, ring.eligRun := List.replicate 8 0, ring.slots := List.replicate 8 none
      ring.break1 := none, ring.break2 := none, str := {} }
    else match s.ring.handover with
      | some q => if s.ring.isPrimary && s.ring.header ≠ [] && (getB s.ring.header 2).toNat.testBit 6 then
          { s with ring.isPrimary := false, ring.primary := q, ring.handover := none, ring.timeLocked := true, ring.lockRun := 0 }
            |>.primaryLost
        else s
      | none => s
  let s := if s.power.clockDegraded && !s.isPrimary && !s.ring.cwUp && !s.ring.ccwUp then { s with ring.timeLocked := false } else s
  let s := if 0 < s.ring.forming then { s with ring.forming := s.ring.forming - 1, ring.st := .forming } else s
  { s with ring.slotState := BitVec.ofNat 32 (s.slotStateWord false) }

/-! ### Enumeration -/

/-- Every module of `l` has RING_POS_SRC = ENUM, which no slot shows the primary: a free value for each (log entry 94). -/
def State.allEnum : List Nat → State → Bool × State
  | [], s => (true, s)
  | _ :: l, s =>
    let (v, s) := s.draw
    let (b, s) := State.allEnum l s
    (v.getLsbD 0 && b, s)

/-- RING_ENUMERATE (R302). -/
def opRingEnumerate (h : Hdr) (_ : List Byte) (s : State) : Ans :=
  let others := (List.range 8).filter fun p => p != s.ring.position && s.ring.live.getLsbD p
  let svc := s.grid.mode == .service && others.all fun p => match s.ring.slots.getD p none with
    | some x => x.state.toNat / 2 ^ 30 == 0
    | none => true
  let (enum, s') := State.allEnum others s
  if !s.isPrimary then refuse s 0x01
  else if !svc then refuse s 0x02
  else if s.pn P.ringPosSrc ≠ 1 then refuse s 0x03
  else let s := s'; if !enum then refuse s 0x03
  else { st := .deferred, s := { s with ring.forming := 16, ring.st := .forming, ring.enumBy := some (hdrRef h 0xA1 true) } }

/-- RING_ENUMERATE. -/
def execRingEnumerate (h : Hdr) (p : List Byte) (s : State) : Host.Outcome State Fault Refusal :=
  .next (runCmd 0xA1 opRingEnumerate h p s)

/-- The module takes a new position, which it stores (R302), and journals it (20 Table 20.2). -/
def State.takePosition (s : State) (port : Port) (p : Nat) : State :=
  let old := s.ring.position
  { s with ring.position := p, ring.enumPos := some p }.journal port 0xA1 0 (toLe 1 old) (toLe 1 p)

/-- ENUMERATION_END (R302): sixteen boundaries after it began, at the primary with the COMPLETION and CONFIG_CONFLICT; at a
satellite the received hop count plus 1. -/
def execEnumerationEnd (found : Nat) (s : State) : Host.Outcome State Fault Refusal :=
  .next (if s.isPrimary then
      match s.ring.enumBy.filter fun _ => s.ring.forming == 0 with
      | none => s
      | some r =>
        let s := s.takePosition r.port 0
        let bad := found != s.pn P.ringModules
        let s := { s with
          ring.primary := 0, ring.forming := 0, ring.st := .closed, ring.enumBy := none, ring.enumFound := found
          ring.conflictEnum := bad, ring.configConflict := s.ring.configConflict || bad }
        let s := s.complete r .ok 0 0 0 (toLe 1 found)
        if bad then s.notify 0x12 (toLe 1 4) else s
    else match s.ring.hopSeen with
      | some n => if s.ring.st = .forming then
          { s.takePosition .own ((n + 1) % 8) with ring.hopSeen := none, ring.primary := 0 } else s
      | none => s)

/-! ### Time source -/

/-- SYNC_IN_EDGE (R317): only the primary steers by it. -/
def execSyncInEdge (offsetNs : Int) (s : State) : Host.Outcome State Fault Refusal :=
  .next (if s.isPrimary && s.pn P.ringTimeSrc == 1 then { s with
      ring.timeSrc := 1, ring.ppsNs := clampInt (-10) 10 offsetNs, ring.ppsAt := s.grid.plantNs } else s)

/-- PPS_LOST (R317): 3 s without an edge, which take in at least 29,999 strobes. -/
def execPpsLost (s : State) : Host.Outcome State Fault Refusal :=
  .next (if s.ring.timeSrc = 1 ∧ s.isPrimary = true ∧ 2999900000 ≤ (s.grid.plantNs - s.ring.ppsAt).toNat then { s with ring.timeSrc := 0 }.absorb 13 3 s.ring.position 0 [] else s)

/-! ### Status -/

/-- RING_STATUS (R329). -/
def opRingStatus (_ : Hdr) (_ : List Byte) (s : State) : Ans := okAns s (toLe 4 s.ringWord ++ toLe 4 s.ringCountWord)

/-- RING_STATUS. -/
def execRingStatus (h : Hdr) (p : List Byte) (s : State) : Host.Outcome State Fault Refusal :=
  .next (runCmd 0xA0 opRingStatus h p s)

end Sys2Proof.Machine
end

