-- ==== Sys2Proof/Machine/Power.lean ====
section
/-!
DEFINITION. Power states, wake and start-up (16_power_states.md): aux and the stack bridge, the entry handshake, the entry
steps, wake sources, the return stages, the start-up from cold, and what a start from NVM keeps and loses
(17_ploza_protocol.md R505, 18_parameter_map.md R433).
-/

namespace Sys2Proof.Machine

/-! ### Configuration and supplies -/

/-- VIO_3V3 on J5 (21 R484): on in RUN, WATCH and DOZE, off in APHELION. -/
def State.vio33 (s : State) : Bool := s.power.aonPower && s.power.st != .aphelion

/-- The image write of a COMMIT ends, and that image is marked active (18 R433). -/
def State.finishImage (s : State) : State :=
  match s.ploza.imageWrite with
  | none => s
  | some x => { s with
      ploza.images := setAt s.ploza.images (1 - s.ploza.activeImage) { x with good := true }
      ploza.activeImage := 1 - s.ploza.activeImage, ploza.imageWrite := none }

/-! ### Starts from NVM -/

/-- The lanes and the token lose what is not kept in NVM; the lanes boot (14 R351, 17 R505). -/
def State.loseLanes (s : State) : State :=
  { s with
    lane := s.lane.map fun (l : Lane) =>
      { retired := l.retired, retireCount := l.retireCount, sealed := 0, st := .off }
    lanes := { s.lanes with
      valid := false, granted := none, takeoverDone := false, gap := true, hold := false, inbox := [], swapActive := false
      swapPhase := 0, swapOverdue := false, swapDue := false, eccSwap := false, swapTimer := 0, swapBy := none, selfTest := none, booting := true
      switchovers := 0, reruns := 0, swaps := 0, rebootCount := 0, lastSwap := 0, sinceSwitch := 1000 } }

/-- All pan data is lost (R382): the working state of the roles, their samples, spectra (07 R189), slices and checkpoints. The
branch charge accumulator goes on (03 R74), and so do the ages of the module (06 R153). -/
def State.losePanData (s : State) : State :=
  let s := s.dropSlices
  { s with
    ckpt := {}
    chan := s.chan.map fun (c : Chan) => { c.invalidate with hist := [], modFaultRun := 0, swCur := 0 }
    tap := s.tap.map fun (_ : Tap) => {}
    ow := {}
    cfe := { s.cfe with
      lost := false, heldRun := 0, badRun := 0, zeroValid := false, zeroNext := none, zeroHold := 0, zeroSum := 0, zeroN := 0
      iInvalid := true, iHeld := false, vstrInvalid := true, subs := [], subsPrev := [], calRun := none, ctlMissing := true
      buf := [], last := none, bridge := none, ocNext := none, ownSums := []
      crcErrors := 0, delayNext := none, stallRun := 0 }
    branch := s.branch.map fun (b : Branch) => { accCopy := b.accCopy }
    estMod := { counting := s.estMod.counting, autoBlended := s.estMod.autoBlended, anchorNs := s.estMod.anchorNs
                anchorStarved := s.estMod.anchorStarved, restAgeNs := s.estMod.restAgeNs, restStarved := s.estMod.restStarved
                lastTime := s.estMod.lastTime, lastStamp := s.estMod.lastStamp }
    str := {}
    eis := {}
    thermo := s.thermo.map fun (t : Thermo) =>
      { rRef := t.rRef, tRef := t.tRef, rRef1 := t.rRef1, refAge := t.refAge, d := t.d }
    bal := {}
    law := {}
    phase := s.phase.map fun (_ : Phase) => {} }

/-- The schedules and figures that lane memory held (R382, 17 R505). Records, retirements, tables, committed parameters and
calibration are non-volatile, and the always-on domain keeps the frame number, plant time, the fault cause register, the
capture FIFOs and the wake record. -/
def State.loseLaneData (s : State) : State :=
  let s := s.convOff
  { s with
    grid.mode := .service, grid.deferredMode := none, grid.commitIds := []
    fe := s.fe.map fun (f : Fe) =>
      { f with buf := [], swDec := [], owDec := [], swNow := 0, swNext := 0, owNow := none, owNext := none, badRun := 0
               heldRun := 0, bcErrFrames := [], lost := false, crcErrors := 0, delayNext := none, thrNext := none, bcErr := false, bcErrNext := false }
    nvm := {}, sched := {}, gov := {}
    conv := { s.conv with
      owner := false, hiccup := false, latched := none, drainBy := none, retries := [], records := 0, lastCause := 0
      capOverflow := false, shedTimer := 0, shedReady := false, spacing := none, enableOutcome := (0, 0) }
    ring := { position := s.ring.position, enumPos := s.ring.enumPos, straps := s.ring.straps, toneFrom := s.ring.toneFrom
              toneSending := s.ring.toneSending }
    ploza := { s.ploza with
      staged := [], claims := [], deferred := [], streams := [none, none, none, none], imageWrite := none, attests := 0
      dieAsk := [] }
    port := s.port.map fun (_ : PortSt) => {}
    can := s.can.map fun (_ : Can) => {}
    spi := {}
    sec.ephemeral := false, sec.reprov := [], sec.fwVerify := none, sec.restart := false
    sec.tamperNotice := [none, none, none, none]
    tbl.writing := [] }.loseLanes

/-- What a start from NVM begins afresh: the map of the pans among it (04 R95), and the count of R31. -/
def State.loseVolatile (s : State) : State :=
  let s := s.loseLaneData.losePanData.startBist
  { s with grid.validFrames := 0, grid.firstValid := false, estMod := {} }.initCells true true

/-- The lanes are up (R402, 14 R344): a lane retired once or twice tests itself again at a start from NVM, one retired
three times stays so, and every other joins. -/
def State.bootLanes (s : State) (nvm : Bool) : State :=
  { s with
    lanes.booting := true, lanes.valid := false, lanes.granted := none, lanes.takeoverDone := false, lanes.hold := false
    lane := s.lane.map fun (l : Lane) =>
      if l.retired then (if nvm && l.retireCount < 3 then { l with st := .rebooting } else { l with st := .retired })
      else { l with st := .standby, current := false, resync := false, lockstepOk := true, memOk := true } }

/-- The return of Table 16.7 from stage 2, booting from NVM (17 R505, 14 R351, 20 R467): the safety block, the front ends
and the always-on domain keep running. -/
def State.restart (s : State) : State :=
  let s := (s.loseVolatile.requestContactors false).driveContactors false
  { s with
    power.phase := .returning, power.stage := 2, power.stageTries := 0, power.retryWait := false, power.laneBoot := true
    power.shortPath := false, power.cold := false, power.off := true, power.fromSt := s.power.st
    power.target := if s.power.auxOk then .run else .watch, power.context := .normal
    power.block := none, power.asked := false, power.delayLeft := 0, power.req := none, power.queued := none, power.outs := []
    power.recoverTo := none, power.entryStep := 0, power.wakePending := none, power.wakeLatched := none
    power.returnStart := s.grid.plantNs
    fe := s.fe.map fun (f : Fe) => { f with linkUp := false }
    cfe.linkUp := false
    lanes.fallback := false, sec.restart := false }

/-! ### Wake sources -/

/-- Armed in a power state (Table 16.5): WAKE_ENABLE masks 1 to 3 and 5 to 7. -/
def State.armedIn (s : State) (t : PowerSt) (src : Nat) : Bool :=
  (src == 4 || src == 8 || (1 ≤ src && src ≤ 7 && (s.pn P.wakeEnable).testBit (src - 1))) &&
    (match t with
     | .run => false
     | .watch => true
     | .doze => src != 8
     | .aphelion => src == 1 || src == 4)

/-- The sources armed now: from H those of the target, in a return those of the state left (R389, R394, R404). -/
def State.armed (s : State) (src : Nat) : Bool :=
  match s.power.phase with
  | .settled => s.armedIn s.power.st src
  | .handshake | .committed => s.armedIn s.power.target src
  | .returning => !s.power.cold && s.armedIn s.power.fromSt src

/-- The last-wake record takes a confirmation (R398). -/
def State.recordWake (s : State) (src cell left : Nat) (latched short : Bool) : State :=
  { s with power.wake := {
      source := src
      fromSrc := BitVec.ofNat 8 (pack [(0, 3, left), (3, 1, bit short), (4, 1, bit latched),
        (5, 1, bit s.power.clockDegraded), (6, 1, bit s.power.coreFail)])
      stage := 0, cell := cell, frame := s.grid.frame, time := s.grid.plantNs, returnUs := 0, dwellS := 0
      counts := s.power.wake.counts.modify (src - 1) fun n => bump 0xFFFF n } }

/-- Time passes in DOZE, APHELION or a start, where no strobe runs: how much is not the module's to say (log entry 2). In DOZE
the stack bridge, while it carries the controller domain, draws at most 0.80 W from at least 100 V (R384, 06 R138), which is
0.8 uC in a frame. -/
def State.elapse (s : State) : State :=
  let (v, s) := s.draw
  let n := v.toNat % 2 ^ 40
  let s := if s.power.st == .doze && !s.power.auxOk then
      let (c, s) := s.draw
      { s with power.bridgeUc := s.power.bridgeUc + ((c.toNat % (4 * n / 5 + 1) : Nat) : Int) }
    else s
  { s with grid.frame := s.grid.frame + BitVec.ofNat 32 n, grid.plantNs := s.grid.plantNs + BitVec.ofNat 64 (100000 * n)
           lanes.swapTimer := s.lanes.swapTimer + n
           port := s.port.map fun (x : PortSt) => { x with hist := x.hist.map fun e => { e with frame := e.frame - (n : Int) } }
           sec.tamperNotice := s.sec.tamperNotice.map fun x => x.map fun f => f - (n : Int) }

/-- 100 ms have not passed since an instant of plant time. -/
def State.within100ms (s : State) (t : Option (BitVec 64)) : Bool :=
  match t with
  | some t => (s.grid.plantNs - t).toNat < 100000000
  | none => false

/-- The module sends the ring wake tone (13 R328). -/
def State.sendTone (s : State) : State :=
  { s with ring.toneSending := true, ring.toneFrom := some s.grid.plantNs }

/-- A return starts (R399). A module woken by another source than the WAKE line pulls it, and one woken by another than
the tone sends the tone (R397, 13 R328). -/
def State.startReturn (s : State) (short : Bool) : State :=
  let src := s.power.wake.source
  let s := { s with
    power.fromSt := s.power.st, power.phase := .returning, power.stage := if s.power.st == .watch then 7 else 2
    power.stageTries := 0, power.retryWait := false, power.shortPath := short, power.dwell := false
    power.cold := false, power.laneBoot := false, power.stageAt := s.grid.frame
    power.target := if s.power.auxOk then .run else .watch, power.context := .normal
    power.wakePending := none, power.wakeLatched := none, power.returnStart := s.grid.plantNs
    power.wake.dwellS := satTo 0xFFFFFFFF ((s.grid.plantNs - s.power.dwellStart).toNat / 1000000000) }
  let s := if src != 4 && s.pb P.wakeOut then { s with power.wakeLine := true, power.wakeFrom := some s.grid.plantNs } else s
  if src != 7 && s.pb P.ringWakeOut && s.power.fromSt != .aphelion then s.sendTone else s

/-! ### Ends of power-state commands -/

/-- The end of a request, reported at the first boundary at which a lane runs (R389). -/
def State.endRequest (s : State) (q : Option PowerReq) (final reason : Nat) (block : Option Nat) : State :=
  match q.bind (·.ref) with
  | some r => { s with power.outs := s.power.outs ++
      [{ ref := r, final := final, reason := reason, reached := s.power.st, block := block }] }
  | none => s

/-- The reports leave. -/
def State.reportPower (s : State) : State :=
  s.power.outs.foldl (fun s o =>
    s.complete o.ref (if o.final = 4 then .superseded else if o.final = 0x20 then .refused else .ok) 0 o.reason o.reached.code
      (o.block.toList.flatMap fun b => toLe 1 b)) { s with power.outs := [] }

/-- The handshake ends and the state is unchanged. -/
def State.endHandshake (s : State) : State :=
  { s with power.phase := .settled, power.block := none, power.asked := false, power.delayLeft := 0, power.req := none
           power.target := s.power.st, power.context := .normal }

/-! ### Entries -/

/-- The context in which a request executes (R392). -/
def State.contextOf (s : State) (test : Bool) : PowerCtx :=
  if test then .test else if s.power.framesSinceStart < 1000 then .startUp else .normal

/-- A handshake begins: pans are asked (R389, R390). -/
def State.beginEntry (s : State) (q : PowerReq) (ctx : PowerCtx) : State :=
  { s with
    power.phase := .handshake, power.target := q.target, power.context := ctx, power.req := some q, power.block := some 0
    power.asked := true, power.delayLeft := 0, power.delayTotals := List.replicate 6 0, power.entryStep := 0 }

/-- What a block answers (Table 16.3). -/
inductive BlockAnswer where
  | accept | delay | refuse (reason : Nat)
deriving DecidableEq, Repr

/-- Mean of |I_BR| over the last 10 frames, mA; 0 where no valid record is held (DESIGN CHOICE, log entry 95). -/
def State.meanBranch (s : State) : Rat :=
  let b := s.branchAt (s.pn P.branch)
  let l := (if b.useCheck then b.checkRecs else b.mainRecs).filter fun r =>
    !r.flags.getLsbD 1 && (s.grid.frame - r.stamp).toNat ≤ 11
  let l := l.take 10
  if l = [] then 0 else ((l.map fun r => r.cur.natAbs).sum : Rat) / (l.length : Rat)

/-- The answer of block `b` for the entry in progress. From DOZE every block is off and accepts (R390); an entry to
APHELION in the RECOVERY context does not wait for a draining converter (R385). -/
def State.blockAnswer (s : State) (b : Nat) : BlockAnswer :=
  let deep := s.power.target != PowerSt.watch
  if s.power.st == .doze then .accept
  else if b = 0 then
    if s.slot.any (·.moveTo.isSome) || s.pan.any (·.loadFor.isSome) || s.sluice.arbs != [] || s.tbl.staged == .validating then
      .delay else .accept
  else if b = 1 then
    if s.conv.st == .draining then
      (if s.power.context == .recovery && s.power.target == PowerSt.aphelion then .accept else .delay)
    else if s.conv.st != .off then .refuse 1
    else if deep && s.pr P.convOffIA * 100 < s.meanBranch then .refuse 2 else .accept
  else if b = 2 then
    if s.fe.any (·.relinking) || s.tap.any (·.suspect) then .delay else .accept
  else if b = 3 then
    let others := (List.range 8).any fun p => p != s.ring.position && s.ring.live.getLsbD p && s.ring.eligible.getLsbD p
    if 0 < s.ring.forming || s.ring.becomePrimary || (s.ring.headerMiss && !s.isPrimary) then .delay
    else if deep && s.ring.isPrimary && decide (1 < s.pn P.ringModules) && !(s.power.req.any (·.broadcast)) && !others then
      .refuse 3 else .accept
  else if b = 4 then (if s.can.any (fun c => c.fifo != []) then .delay else .accept)
  else if s.nvm.busy.isSome || s.nvm.waiting != [] || s.sec.seals != [] || s.lanes.swapPhase != 0 || s.lanes.swapActive ||
      s.lane.any (·.resync) then .delay
  else .accept

/-- The commit point (R391): balancing drains for DOZE and APHELION, and sweeps and the watch end (R188, R219). -/
def State.commitEntry (s : State) : State :=
  let s := { s with power.phase := .committed, power.block := none, power.asked := false, power.delayLeft := 0
                    power.entryStep := 0, power.commitAt := s.grid.frame }
  let s := if s.power.target != PowerSt.watch then s.balDrain 3 none else s
  (s.endSweep 6 none).stopWatch

/-- Block `b` has accepted. -/
def State.blockAccepts (s : State) (b : Nat) : State :=
  if 5 ≤ b then s.commitEntry else { s with power.block := some (b + 1), power.asked := true, power.delayLeft := 0 }

/-- Block `b` refuses (R391, R392). -/
def State.blockRefuses (s : State) (b reason : Nat) : State :=
  if s.power.context == .normal then (s.endRequest s.power.req 0x20 reason (some b)).endHandshake
  else (s.absorb 16 1 0xFF 0 (toLe 1 b ++ toLe 1 reason)).blockAccepts b

/-- POWER_HANDSHAKE_ASK (R390): the answer of the block asked at the previous boundary is taken, or a delayed block is
asked again. -/
def State.handshakeStep (s : State) : State :=
  match s.power.phase, s.power.block with
  | .handshake, some b =>
    if !s.power.asked then
      let left := s.power.delayLeft - s.windowFrames
      if left = 0 ∧ s.power.delayTotals.getD b 0 < 10000 then { s with power.delayLeft := 0, power.asked := true }
      else { s with power.delayLeft := left }
    else match s.blockAnswer b with
      | .accept => s.blockAccepts b
      | .refuse r => s.blockRefuses b r
      | .delay =>
        let (v, s) := s.draw
        let n := v.toNat % 64 + 1
        { s with power.asked := false, power.delayLeft := n, power.delayTotals := s.power.delayTotals.modify b (· + n) }
  | _, _ => s

/-- DOZE_BLOCK_ASK (R390): one block per millisecond. -/
def execDozeBlockAsk (s : State) : Host.Outcome State Fault Refusal :=
  .next (if s.power.st == .doze then s.handshakeStep else s)

/-- HANDSHAKE_TIMEOUT (R390). -/
def execHandshakeTimeout (s : State) : Host.Outcome State Fault Refusal :=
  .next (match s.power.phase, s.power.block with
    | .handshake, some b => if 10000 ≤ s.power.delayTotals.getD b 0 then s.blockRefuses b 4 else s
    | _, _ => s)

/-- A mode change that the module makes on its own account (20 R460). -/
def State.ownMode (s : State) (m : Mode) : State :=
  if s.grid.mode == m then s
  else { s with grid.mode := m }.journal .own 0x22 0 (toLe 1 s.grid.mode.code) (toLe 1 m.code)

/-- A change that is made at a boundary takes the first place in Table 17.4 and claims the mode (17 R414, R415). -/
def State.boundaryMode (s : State) (m : Mode) : State :=
  if s.grid.mode == m then s else { s.ownMode m with ploza.claims := s.ploza.claims ++ [.opMode] }

/-- A RECOVERY entry begins (R385, R386): it takes the place of a handshake, whose request is superseded, and is journalled
(20 Table 20.2). -/
def State.beginRecovery (s : State) (t : PowerSt) : State :=
  let s := if s.power.phase == .handshake then s.endRequest s.power.req 4 0 none else s
  let old := s.power.st
  let s := if t == .aphelion then
      let s := (s.boundaryMode .service).requestContactors false
      { s with grid.deferredMode := s.grid.deferredMode.map fun (d : DeferredMode) =>
          if d.target == Mode.standby then { d with refused := some 0x09 } else d }
    else s
  ({ s with power.recoverTo := none }.beginEntry { target := t } .recovery).journal .own 0x20 0 (toLe 1 old.code)
    (toLe 1 t.code)

/-- At a boundary: a RECOVERY entry that waits for it begins, once an earlier entry or return has settled. -/
def State.recoveryBoundary (s : State) : State :=
  match s.power.recoverTo with
  | none => s
  | some t =>
    if s.power.phase == .committed || s.power.phase == .returning then s
    else if t.code ≤ s.power.st.code then { s with power.recoverTo := none }
    else s.beginRecovery t

/-! ### Entry steps -/

/-- The steps of Table 16.4 that an entry takes after step `k`. -/
def nextStepOf (t : PowerSt) (k : Nat) : Option Nat :=
  if t == .watch then (if k < 2 then some 2 else if k < 4 then some (k + 1) else none)
  else if k < 6 then some (k + 1) else none

/-- Every capture FIFO entry is written, and the NVM queue (Table 16.4 step 2). -/
def State.writeAll (s : State) : State :=
  let s := (List.range 16).foldl (fun s _ => s.writeProtRecord) s
  let s := (List.range 8).foldl (fun s _ => s.writeConvRecord) s
  { s.saveEst.finishImage with nvm := {} }

/-- Pans are gated: all, or in WATCH the pans of slots 34 to 37 and the spares (Table 16.1). With the spares their arbitrations
and moves end; a role that waited for its move on a halted pan fails again. -/
def State.gatePans (s : State) (all : Bool) : State :=
  let goes := fun (k : Nat) => all || 40 ≤ k || (34 ≤ k && k ≤ 37)
  let moving := (List.range 40).filter fun k => !goes k && (s.slotAt k).moveTo.isSome
  let s := { s with
    sluice.arbs := []
    slot := s.slot.map fun (x : RoleSlot) => { x with moveTo := none }
    pan := s.pan.map fun (p : Pan) =>
      if p.st == PanState.retired || p.st == PanState.halted then p
      else if goes p.role then
        { p with st := .gated, shadowOf := none, loadFor := none, inArb := false, queue := [] }
      else p }
  moving.foldl (fun s k => if s.roleRuns k then s else s.replace k) s

/-- Gated pans are loaded again, with their slices; the map is kept (04 R95, 08 R205). -/
def State.ungatePans (s : State) : State :=
  let roles := (List.range 32).filter fun k => (s.slotAt k).pan.any fun p => (s.panAt p).st == PanState.gated
  roles.foldl State.rewriteSlices { s with pan := s.pan.map fun (p : Pan) =>
      if p.st == PanState.gated then { p with st := if p.role < 40 then .active else .spareIdle } else p }

/-- The safety block loses its supply: SAFE with every output de-energised (R385, 15 R363). -/
def State.safetyOff (s : State) : State :=
  { s with safe := { s.safe with
      st := if s.safe.st == SafeSt.notUsed then .notUsed else .safe, gateKill := s.safe.st != SafeSt.notUsed, safeOk := false
      kPos := false, kNeg := false, kPre := false, precharging := false, twohandClose := false, closeReq := false
      seq := .opened, tripT := none, armSamples := 0, resetReady := false, opened := none } }

/-- The mailboxes, the staged set, the streams and the ephemeral key are dropped, and CAN and SPI go off; their registers
stand at the reset values of Tables 19.7 to 19.10, RESET_DONE among them (17 R416, 18 R437, 19 R442, R454, 20 R474). -/
def State.portsDown (s : State) : State :=
  { s with
    ploza.staged := [], ploza.streams := [none, none, none, none], lanes.inbox := []
    spi := {}, can := s.can.map fun (_ : Can) => {}
    sec.ephemeral := false, sec.reprov := []
    ring.dnQueue := [], ring.upQueue := [], ring.rxDn := none, ring.rxUp := List.replicate 8 none, ring.fwd := []
    ring.dnSeg := [], ring.header := [], ring.hdrFrame := none, ring.sideTx := List.replicate 4 none }

/-- Lanes seal their kept banks and power down; VALID clears (R382). -/
def State.lanesDown (s : State) (keep : Bool) : State :=
  let down := fun (l : Lane) (m : Nat) =>
    { l with sealed := if keep then BitVec.ofNat 8 m else 0, st := if l.st == LaneSt.retired then .retired else .off
             current := false, resync := false }
  let s := (s.modLane false fun l => down l (s.pn P.retainA)).modLane true fun l => down l (s.pn P.retainB)
  { s.releaseToken with lanes.swapPhase := 0, lanes.swapActive := false }

/-- The action of one step of Table 16.4; at an entry to DOZE the protection set is checked (10 R248). A converter that still runs when its pan is gated has its gates off (R385). -/
def State.entryAction (s : State) (k : Nat) : State :=
  let deep := s.power.target != PowerSt.watch
  match k with
  | 2 => if deep && s.power.st != .doze then (if s.power.target == .doze then s.threshJob else s).writeAll else s
  | 3 =>
    let s := s.gatePans deep
    if s.conv.st == .off then s else if deep then s.convOff else { s.gatesOff with conv.toOff := true }
  | 4 => if deep then s.portsDown else s
  | 5 => if deep then s.lanesDown (s.power.target == .doze) else s
  | 6 =>
    if !deep then s
    else
      let s := { s with
        fe := s.fe.map fun (f : Fe) => { f with linkUp := false, relinking := false, attempt := false, swNow := 0, owNow := none }
        cfe.linkUp := false, cfe.relinking := false, ring.cwUp := false, ring.ccwUp := false }
      if s.power.target == PowerSt.aphelion then
        { s.safetyOff with
          fe := s.fe.map fun (f : Fe) => { f with linkUp := false, relinking := false, swNow := 0, owNow := none, thr := {} } }
      else s
  | _ => s

/-- A step is complete (Table 16.4). -/
def State.stepDone (s : State) (k : Nat) : Bool :=
  match k with
  | 1 => s.bal.st == .off
  | 2 => s.eis.st == .off
  | _ => true

/-- What waits at the settling instant (R394, R395). -/
def State.resolveQueue (s : State) : State :=
  let q := s.power.queued
  let s := { s with power.queued := none }
  match s.power.wakeLatched, q with
  | some _, some r =>
    if s.power.st.code < r.target.code then (s.endRequest q 4 0 none).startReturn true
    else { s with power.req := q }.startReturn true
  | some _, none => s.startReturn true
  | none, some r =>
    if r.target.code < s.power.st.code then
      if r.target == .run && !s.power.auxOk then s.endRequest q 0x20 6 none
      else { s.recordWake 9 0 s.power.st.code false true with power.req := q }.startReturn true
    else if r.target == s.power.st then s.endRequest q 0 0 none
    else s.beginEntry r (s.contextOf r.test)
  | none, none =>
    if s.power.wakePending.isSome && s.power.st == .watch then s.startReturn false else s

/-- Module stack voltage in mV, the sum of the cell voltages; none while one of them has no valid value. -/
def State.stackMv (s : State) : Option Int :=
  let l := (List.range s.cells).map fun i => s.chanAt (i + 1)
  if l.any (fun c => c.u16 == 0xFFFF) then none else some ((l.map (·.v)).sum / 1000)

/-- The settling instant S (R393): the request has reached its state. A RECOVERY entry that still waits begins at once
from DOZE, which has no boundary. -/
def State.settleEntry (s : State) : State :=
  let t := s.power.target
  let q := s.power.req
  let s := { s with
    power.st := t, power.phase := .settled, power.context := .normal, power.req := none, power.entryStep := 0
    power.block := none, power.dwellStart := s.grid.plantNs, power.dwell := t != PowerSt.watch, power.bridgeRun := false
    power.onBridge := !s.power.auxOk && t == PowerSt.watch
    power.stackMv := if t == PowerSt.aphelion then s.stackMv else none }
  let s := (s.endRequest q 0 0 none).resolveQueue
  if s.power.st == .doze && s.power.phase == .settled && s.power.recoverTo == some .aphelion then s.beginRecovery .aphelion
  else s

/-- One entry step is carried out; the last one of DOZE and APHELION marks S. -/
def State.doStep (s : State) : State :=
  match nextStepOf s.power.target s.power.entryStep with
  | none => s
  | some k =>
    let s := { s.entryAction k with power.entryStep := k }
    if k = 6 then s.settleEntry else s

/-- ENTRY_STEP_COMPLETE (R393). -/
def execEntryStepComplete (s : State) : Host.Outcome State Fault Refusal :=
  .next (if s.power.phase != .committed then s
    else match nextStepOf s.power.target s.power.entryStep with
      | none => s
      | some k => if s.stepDone k then s.doStep else s)

/-- An entry to WATCH settles at the first boundary of R381 after step 4 (R393). -/
def State.watchSettles (s : State) : State :=
  if s.power.phase == .committed && s.power.target == PowerSt.watch && s.power.entryStep == 4 && s.grid.frame.toNat % 10 == 0 then
    s.settleEntry else s

/-- Strobes from the commit point to the deadline of the next step (Table 16.4), with none left to the 50 ms in which an entry is
to settle. -/
def State.entryLimit (s : State) : Nat :=
  match nextStepOf s.power.target s.power.entryStep with
  | some k => [0, 3, 50, 51, 52, 60, 65].getD k 500
  | none => 500

/-- ENTRY_FORCED (R393): a deadline has passed, and the steps that are left are carried out at once. An entry to WATCH then
settles here. -/
def execEntryForced (s : State) : Host.Outcome State Fault Refusal :=
  .next (if s.power.phase != .committed || (s.clockOn && decide ((s.grid.frame - s.power.commitAt).toNat < s.entryLimit)) then s
    else
      let s := s.absorb 16 2 0xFF 0 []
      let s := if s.power.target == PowerSt.watch then s
        else { s with
          bal.st := .off, bal.latched := none
          eis := { s.eis with st := .off, kind := .none, latched := none, sweep := none, excSweep := none, g := 0 } }
      let s := (List.range 6).foldl (fun s _ => if s.power.phase == .committed then s.doStep else s) s
      if s.power.phase == .committed && s.power.target == PowerSt.watch then s.settleEntry else s)

/-! ### Aux and the stack -/

/-- AUX_OK_CLEAR (R13, R383, R386, R387). In RUN the mode leaves ACTIVE in the same frame, the converter drains with end
cause POWER_STATE, and a RECOVERY entry to WATCH begins at the next boundary. -/
def execAuxOkClear (s : State) : Host.Outcome State Fault Refusal :=
  .next (if !s.power.auxOk then s
    else
      let s := { s with power.auxOk := false }
      let s := if s.power.phase == .returning then { s with power.target := .watch } else s
      match s.power.st with
      | .run =>
        if s.power.off then s
        else
          let leave := s.grid.mode == .active
          let s := { s with
            power.onBridge := true, power.bridgeRun := true, power.auxLoss := true, power.recoverTo := some .watch
            power.bridgeAt := s.grid.frame }
          let s := if leave then s.ownMode .standby else s
          s.beginDrain 3 none
      | .watch => { s with power.onBridge := true }
      | _ => s)

/-- A wake is confirmed from source `src` (R394, R396, R398). -/
def State.wakeBy (s : State) (src cell : Nat) : State :=
  match s.power.phase with
  | .handshake =>
    let s := s.recordWake src cell s.power.st.code false false
    if s.power.context == .normal then (s.endRequest s.power.req 0x20 5 none).endHandshake
    else { s with power.wakePending := some src }
  | .committed =>
    if s.power.context == .normal then
      { s.recordWake src cell s.power.target.code true true with power.wakeLatched := some src }
    else { s.recordWake src cell s.power.target.code false false with power.wakePending := some src }
  | .returning =>
    let s' := s.recordWake src cell s.power.fromSt.code false s.power.shortPath
    { s' with power.wake.stage := s.power.wake.stage, power.wake.dwellS := s.power.wake.dwellS }
  | .settled =>
    let s := if s.clockOn then s else s.elapse
    let s := s.recordWake src cell s.power.st.code false false
    if s.power.st == .watch || s.power.dwell then { s with power.wakePending := some src } else s.startReturn false

/-- AUX_OK_SET (R383, R388): a wake when WATCH was entered through loss of aux. -/
def execAuxOkSet (s : State) : Host.Outcome State Fault Refusal :=
  .next (if s.power.auxOk || !s.power.aonPower then s
    else
      let lost := s.power.auxLoss
      let s := { s with power.auxOk := true, power.onBridge := false, power.bridgeRun := false, power.auxLoss := false }
      let s := if s.power.phase == .returning then { s with power.target := .run } else s
      if !lost then s
      else if s.power.recoverTo == some .watch then { s with power.recoverTo := none }
      else if s.armed 8 then s.wakeBy 8 0 else s)

/-- BRIDGE_RUN_EXPIRE (R384): 1.5 s after AUX_OK cleared. -/
def execBridgeRunExpire (s : State) : Host.Outcome State Fault Refusal :=
  .next (if 15000 ≤ (s.grid.frame - s.power.bridgeAt).toNat then { s with power.bridgeRun := false } else s)

/-- STACK_LOW (R384, R385): only while the bridge carries the controller domain, AUX_OK being clear. From DOZE, which has no
boundary, the entry begins at once. -/
def execStackLow (s : State) : Host.Outcome State Fault Refusal :=
  .next (if s.power.auxOk || s.power.st == .aphelion || s.power.target == PowerSt.aphelion && s.power.phase == .committed then s
    else
      let s := { s with power.bridgeRun := false }
      if s.power.st == .doze && (s.power.phase == .settled || s.power.phase == .handshake) then
        (s.beginRecovery .aphelion).driveContactors false
      else { s with power.recoverTo := some .aphelion })

/-- AON_POWER_LOSS (R384, 13 R318): nothing is powered any more; the next start is from cold. -/
def execAonPowerLoss (s : State) : Host.Outcome State Fault Refusal :=
  .next (if s.power.auxOk then s
    else
      let s := ((s.convOff.portsDown.lanesDown false).safetyOff.gatePans true)
      { s with
        power.aonPower := false, power.off := true, power.st := .aphelion, power.phase := .settled, power.stage := 0
        power.req := none, power.queued := none, power.wakePending := none, power.wakeLatched := none, power.recoverTo := none
        power.outs := [], power.block := none, power.asked := false, power.entryStep := 0, power.onBridge := false
        power.bridgeRun := false, power.dwell := false, power.wakeLine := false, ring.toneSending := false
        lanes.protOnly := false, lanes.protReduced := false, lanes.fallback := false })

/-! ### Wakes -/

/-- The last ten samples of BUS_TERM all reach WAKE_BUS_V (Table 16.5). -/
def State.busWakes (s : State) (bus : List Int) : Bool :=
  bus.length == 10 && bus.all fun v => decide (s.pn P.wakeBusV * 1000 ≤ v.natAbs)

/-- WAKE_CONFIRMED (R396, R397, R401). A module ignores WAKE for 100 ms from its own pulse; after a core failure each new
WAKE assertion restarts the return. AUX_RETURN comes with AUX_OK_SET (R388). -/
def execWakeConfirmed (src : Nat) (seen : WakeSeen) (s : State) : Host.Outcome State Fault Refusal :=
  if 1 ≤ src ∧ src ≤ 8 ∧ seen.cell ≤ 96 then
    .next (if !s.power.aonPower || src == 8 || (src == 1 && !s.busWakes seen.bus) || (src == 4 && s.within100ms s.power.wakeFrom) then s
      else if s.power.coreFail && s.power.phase == .returning && s.power.stage == 0 then
        if src == 4 then
          { s.recordWake 4 0 s.power.fromSt.code false false with power.stage := 2, power.stageTries := 0, power.retryWait := false }
        else s
      else if s.armed src then s.wakeBy src (if src = 3 then seen.cell else 0) else s)
  else .fault .noSuchUnit

/-- WAKE_DWELL_EXPIRE (R394). -/
def execWakeDwellExpire (s : State) : Host.Outcome State Fault Refusal :=
  .next (if !s.power.dwell || s.power.phase != .settled then s
    else
      let s := { s with power.dwell := false }
      if s.power.wakePending.isSome then s.elapse.startReturn false else s)

/-- From WATCH a return begins at the first boundary after confirmation (R399). -/
def State.wakeBoundary (s : State) : State :=
  if s.power.wakePending.isSome && s.power.st == .watch && s.power.phase == .settled then s.startReturn false else s

/-- 5 ms have not passed since an instant of plant time, as far as strobes tell. -/
def State.within5ms (s : State) (t : Option (BitVec 64)) : Bool :=
  match t with
  | some t => s.clockOn && s.power.fromSt == .watch && decide ((s.grid.plantNs - t).toNat < 5000000)
  | none => false

/-- WAKE_PULSE_END (R397): 5 ms after the pulse began. -/
def execWakePulseEnd (s : State) : Host.Outcome State Fault Refusal :=
  .next (if s.within5ms s.power.wakeFrom then s else { s with power.wakeLine := false })

/-- RING_WAKE_TONE (13 R328): a module woken by the tone sends it once; one that has sent a tone ignores others for 100 ms. -/
def execRingWakeTone (_ : Bool) (s : State) : Host.Outcome State Fault Refusal :=
  .next (if !s.power.aonPower || s.within100ms s.ring.toneFrom || !s.armed 7 then s
    else s.sendTone.wakeBy 7 0)

/-- RING_WAKE_TONE_END (13 R328): 5 ms after the tone began. -/
def execRingWakeToneEnd (s : State) : Host.Outcome State Fault Refusal :=
  .next (if s.within5ms s.ring.toneFrom then s else { s with ring.toneSending := false })

/-! ### Return stages -/

/-- A one-way delay that a relink has measured and found within 50 ns to 400 ns (02 R46); which is not the module's to say. -/
def State.drawDelay (s : State) : Nat × State :=
  let (v, s) := s.draw
  (50 + v.toNat % 351, s)

/-- Ports that the relink of stage 6 brings up, each with the delay that it measured (02 R46, R61). -/
def State.portsUp (s : State) : State :=
  let s := (List.range 6).foldl (fun s i =>
    if s.feActive (i + 1) && !(s.feAt (i + 1)).linkUp && !(s.feAt (i + 1)).noFallback then
      let (d, s) := s.drawDelay
      s.modFe (i + 1) fun f =>
        { f with linkUp := true, relinking := false, attempt := false, relinkTries := 0, lineDown := false, faultChDown := false
                 badRun := 0, heldRun := 0, skipSamples := 2, lost := false, delayNs := d, delayNext := none, strobeAdj := false }
    else s) s
  let s := if s.hasCfe && !s.cfe.linkUp then
      let (d, s) := s.drawDelay
      { s with cfe.linkUp := true, cfe.relinking := false, cfe.attempt := false, cfe.relinkTries := 0, cfe.lineDown := false
               cfe.heldRun := 0, cfe.badRun := 0, cfe.skipSamples := 2, cfe.lost := false, cfe.zeroHold := 0, cfe.zeroSum := 0
               cfe.zeroN := 0, cfe.delayNs := d, cfe.delayNext := none }
    else s
  s.linksUp

/-- Ports not up at the timeout of stage 6 relink under 02 R61 (R402). -/
def State.portsRelink (s : State) : State :=
  let s := (List.range 6).foldl (fun s i =>
    if s.feActive (i + 1) && !(s.feAt (i + 1)).linkUp then s.startRelink (i + 1) else s) s
  if s.hasCfe && !s.cfe.linkUp then { s with cfe.relinking := true, cfe.attempt := true, cfe.relinkTries := 0 } else s

/-- A lane boots from its kept banks only when every bank of its boot image is kept and passes its seal; the boot image is
in banks 0 to 3 (R402, Table 16.10). -/
def State.keptBoot (s : State) (sealsOk : Bool) : Bool :=
  s.power.fromSt == .doze && !s.power.laneBoot && sealsOk && s.lane.any fun l => !l.retired && l.sealed &&& 0x0F == 0x0F

/-- Stage 5 is ready (R402, 18 R433). Pan data is lost in every case (R382). After DOZE the map of the pans, the count of R31 and
the mode are kept (R399, 01 R31, 04 R95), and with kept banks lane memory too; the estimators take their stored state (06
R153). Any other return is a start-up from cold. -/
def State.lanesUp (s : State) (sealsOk : Bool) : State :=
  let restore := fun (s : State) => (List.range 96).foldl (fun s i => s.restoreCell (i + 1)) s
  if s.keptBoot sealsOk then restore (s.losePanData.loadConfig.bootLanes false)
  else if s.power.fromSt == .doze && !s.power.off then
    restore (({ s.loseLaneData.losePanData with grid.mode := s.grid.mode }.loadConfig).bootLanes false)
  else
    let s := if s.power.off && s.power.laneBoot then s else s.loseVolatile
    (s.loadConfig.bootLanes true).initCells true true

/-- The charge that may have passed unmeasured, C (06 R149): in DOZE what the wake comparator lets pass (03 R74), in APHELION
the stack draw of 2 mW; without a known stack voltage that of the 60 V below which nothing is powered (R384). -/
def State.gapBound (s : State) (left : PowerSt) (ns : Nat) : Rat :=
  let t : Rat := (ns : Rat) / 1000000000
  if left == .doze then s.pr P.curWakeMv / 100000 / (s.shuntR / 1000000) * t
  else 2 / (match s.power.stackMv with
    | some v => if v < 60000 then 60000 else (v : Rat)
    | none => 60000) * t

/-- After DOZE or APHELION: the bound that each cell's uncertainty takes (06 R149), the rest point of a long enough stay (06
R153), and after DOZE CHARGE_GAP with its absorbed event (03 R74), which parts learning points (06 R150). -/
def State.afterGap (s : State) : State :=
  let ns := (s.grid.plantNs - s.power.dwellStart).toNat
  let left := s.power.fromSt
  let bound := s.gapBound left ns
  let rest := decide (s.pn P.restSettleS * 1000000000 ≤ ns)
  let s := { s with est := s.est.map fun (e : Est) => { e with gapNew := e.gapNew + bound, restDue := e.restDue || rest } }
  if left == .doze then
    let s := { s with est := s.est.map Est.breakPts }
    if s.hasCfe then
      { s with cfe.chargeGap := true, cfe.prev := none, cfe.last := none, cfe.bridge := none, cfe.gapFrames := 0 }.absorb 2 1 7 0
        (toLe 4 (satTo 0xFFFFFFFF (ns / 1000000)) ++ toLe 1 2)
    else s
  else s

/-- The return settles at the first valid frame: in RUN with aux, in WATCH without (R388, R399). -/
def State.settleReturn (s : State) : State :=
  let left := s.power.fromSt
  let s :=
    if s.power.cold then { s with grid.frame := 0, grid.plantNs := 0, power.returnStart := 0 }
    else if s.clockOn then s else s.elapse
  let s := { s with
    power.st := if s.power.auxOk then .run else .watch
    power.onBridge := !s.power.auxOk
    power.auxLoss := !s.power.auxOk, power.phase := .settled, power.stage := 0, power.off := false
    power.wake.returnUs := satTo 0xFFFFFFFF ((s.grid.plantNs - s.power.returnStart).toNat / 1000)
    power.framesSinceStart := if s.power.cold || left == PowerSt.aphelion then 0 else s.power.framesSinceStart
    lanes.lastBoundary := if left == PowerSt.watch then s.lanes.lastBoundary else s.grid.frame
    lanes.gap := s.lanes.gap && (left == PowerSt.watch || !s.lanes.takeoverDone)
    lanes.takeoverDone := s.lanes.takeoverDone && left == PowerSt.watch }
  let s := if left == PowerSt.doze || left == PowerSt.aphelion then s.afterGap else s
  let s := if left == PowerSt.doze then s.threshJob else s
  let s := if s.power.clockDegraded && decide (1 < s.pn P.ringModules) then { s with ring.isPrimary := false } else s
  let q := s.power.req
  let s := { s with power.req := none, power.cold := false, power.laneBoot := false, power.target := s.power.st
                    power.dwellStart := s.grid.plantNs }
  (s.endRequest q 0 0 none).resolveQueue

/-- The next stage. -/
def State.toStage (s : State) (k : Nat) : State :=
  { s with power.stage := k, power.stageTries := 0, power.retryWait := false, power.stageAt := s.grid.frame }

/-- Stage 7 is ready: gated pans are loaded again with the map kept, or after a start from NVM the roles are given out
(04 R95). -/
def State.pansUp (s : State) : State :=
  if s.slot.any (·.pan.isSome) then s.ungatePans
  else
    let t := s.assignRoles.wantSlices
    if [32, 33, 39].all fun k => !(t.slotAt k).lost then t.withdrawCause 24 else t

/-- RETURN_STAGE_READY (R399, R402). -/
def execReturnStageReady (sealsOk : Bool) (s : State) : Host.Outcome State Fault Refusal :=
  .next (if s.power.phase != .returning || s.power.retryWait then s
    else match s.power.stage with
      | 0 => s
      | 5 => (s.lanesUp sealsOk).toStage 6
      | 6 => s.portsUp.toStage 7
      | 7 => s.pansUp.toStage 8
      | 8 => s.settleReturn
      | k => s.toStage (k + 1))

/-- Every attempt has failed (R401): the protection-only state in its reduced form, with CORE_FAIL recorded. -/
def State.coreFails (s : State) : State :=
  let s := { s with power.coreFail := true, power.stage := 0, power.stageTries := 0, power.retryWait := false
                    power.wake.fromSrc := setBit s.power.wake.fromSrc 6 true
                    lane := s.lane.map fun (l : Lane) => if l.st == LaneSt.retired then l else { l with st := .off } }
  if s.lanes.protOnly then { s.releaseToken with lanes.protReduced := true } else s.enterProtOnly 3 true

/-- Roles whose pans were not loaded are lost (R402, 04 R104). -/
def State.loseUnloaded (s : State) : State :=
  s.activeSlots.foldl (fun s k =>
    match (s.slotAt k).pan with
    | some p => if (s.panAt p).st == PanState.gated then s.loseRole k else s
    | none => if (s.slotAt k).suspended || (s.slotAt k).lost then s else s.loseRole k) s

/-- RETURN_STAGE_TIMEOUT (R400 to R402): written to STAGE, and retried or handled as failed. From WATCH, where strobes run, the
10 ms of stages 7 and 8 take in 100 of them. -/
def execReturnStageTimeout (s : State) : Host.Outcome State Fault Refusal :=
  .next (if s.power.phase != .returning || s.power.stage = 0 || s.power.retryWait ||
      (s.clockOn && decide ((s.grid.frame - s.power.stageAt).toNat < 100 * (s.power.stageTries + 1))) then s
    else
      let k := s.power.stage
      let n := s.power.stageTries + 1
      let s := { s with power.wake.stage := k, power.stageTries := n }
      match k with
      | 2 => if 4 ≤ n then s.coreFails else { s with power.retryWait := true }
      | 3 => { s with power.clockDegraded := true, power.wake.fromSrc := setBit s.power.wake.fromSrc 5 true }.toStage 4
      | 4 => if 2 ≤ n then s.coreFails else s
      | 5 => if s.power.fromSt == .doze && !s.power.laneBoot then { s with power.laneBoot := true, power.stageTries := 0 }
          else s.coreFails
      | 6 => s.portsRelink.toStage 7
      | 7 => if 2 ≤ n then (s.freeze 1).loseUnloaded.toStage 8 else s
      | 8 => s.settleReturn.absorb 16 3 0xFF 0 (toLe 1 8)
      | _ => s)

/-- CORE_LDO_RETRY (R401): 50 ms after a failed attempt. -/
def execCoreLdoRetry (s : State) : Host.Outcome State Fault Refusal :=
  .next (if s.power.phase == .returning && s.power.stage == 2 then { s with power.retryWait := false } else s)

/-! ### Start-up from cold -/

/-- What is left of the state when the always-on domain has had no power: its non-volatile parts (18 R433, 17 R505). -/
def State.nonVolatile (s : State) : State :=
  { State.reset with
    pan := s.pan.map fun (p : Pan) => if p.st == PanState.retired then p else { retireCount := p.retireCount }
    est := s.est.map fun (e : Est) => { saved := e.saved }
    thermo := s.thermo.map fun (t : Thermo) => { rRef := t.rRef, tRef := t.tRef, rRef1 := t.rRef1, d := t.d }
    cfe := { vZeroNv := s.cfe.vZeroNv }
    tbl := { banks := s.tbl.banks, activeBank := s.tbl.activeBank, staged := s.tbl.staged, stagedTag := s.tbl.stagedTag
             reject := s.tbl.reject, rejectEntry := s.tbl.rejectEntry, fault := s.tbl.fault }
    prot.recs := s.prot.recs, prot.seq := s.prot.seq
    conv.ring := s.conv.ring, conv.lastFault := s.conv.lastFault, conv.seq := s.conv.seq
    ring.enumPos := s.ring.enumPos
    lane := s.lane.map fun (l : Lane) => { retired := l.retired, retireCount := l.retireCount, st := .off }
    lanes.absRecs := s.lanes.absRecs, lanes.absSeq := s.lanes.absSeq, lanes.absCounts := s.lanes.absCounts
    safe.set := s.safe.set, safe.trips := s.safe.trips, safe.st := if s.safe.st == SafeSt.notUsed then .notUsed else .safe
    safe.gateKill := s.safe.st != SafeSt.notUsed
    safe.lastCause := s.safe.lastCause, safe.lastFrame := s.safe.lastFrame, safe.lastTime := s.safe.lastTime
    power.wake.counts := s.power.wake.counts
    ploza.images := s.ploza.images, ploza.activeImage := s.ploza.activeImage, ploza.configSeq := s.ploza.configSeq
    ploza.configState := s.ploza.configState, ploza.serial := s.ploza.serial, ploza.params := s.ploza.params
    sec := { s.sec with
      ephemeral := false, reprov := [], fwVerify := none, restart := false
      tamperNotice := [none, none, none, none] }
    free := s.free, pending := s.pending }

/-- A start from cold: what non-volatile memory keeps, the straps, and the tests and estimates of the start (R399). -/
def State.coldBase (s : State) (straps : Nat) : State :=
  State.initCells (State.startBist { s.nonVolatile with ring.straps := straps, power.aonPower := true, power.off := true }) true true

/-- The return from stage 1 with source COLD_START (R399). -/
def State.coldReturn (s : State) : State :=
  { s.recordWake 10 0 4 false false with
    power.phase := .returning, power.stage := 1, power.cold := true, power.laneBoot := true
    power.target := if s.power.auxOk then .run else .watch }

/-- COLD_START (R399, 13 R300, R318): the return from stage 1, with source COLD_START; a module first powered by the bridge
alone enters APHELION without waking. -/
def execColdStart (straps : Nat) (bridgeOnly : Bool) (s : State) : Host.Outcome State Fault Refusal :=
  if straps < 8 then
    .next (if bridgeOnly then { s.coldBase straps with power.st := .aphelion, power.target := .aphelion, power.dwell := false }
      else (s.coldBase straps).coldReturn)
  else .fault .noSuchUnit

/-! ### POWER_STATE, POWER_TEST, WAKE_RECORD -/

/-- Permitted combinations of mode and power state (00 Table 0.5). -/
def permitted (m : Mode) (t : PowerSt) : Bool :=
  match t with
  | .run => true
  | .watch | .doze => m != .active
  | .aphelion => m == .service

/-- The power state in force, that of an entry under way and that of a queued request: those in which a mode would come to
stand. -/
def State.statesAhead (s : State) : List PowerSt :=
  s.power.st :: ((if s.power.phase == .handshake || s.power.phase == .committed then [s.power.target] else []) ++
    s.power.queued.toList.map (·.target))

/-- A mode that makes no combination marked "no" (00 R12). -/
def State.mayMode (s : State) (m : Mode) : Bool := s.statesAhead.all (permitted m)

/-- A power state that makes no combination marked "no", with the mode in force and a deferred one (00 R12). -/
def State.mayState (s : State) (t : PowerSt) : Bool :=
  permitted s.grid.mode t && s.grid.deferredMode.toList.all fun d => permitted d.target t

/-- The power state of a TARGET byte (Table 17.12). -/
def powerStOf (b : Byte) : Option PowerSt :=
  if b = 0 then some .run else if b = 1 then some .watch else if b = 2 then some .doze else if b = 3 then some .aphelion
  else none

/-- The journal entry of POWER_STATE: state codes; POWER_TEST writes none (20 Table 20.2, R460). -/
def State.journalPower (s : State) (h : Hdr) (test : Bool) (old new : PowerSt) : State :=
  if test then s else s.journal h.port 0x20 0 (toLe 1 old.code) (toLe 1 new.code)

/-- A request waits one deep; an earlier one is superseded (R395). -/
def State.queueRequest (s : State) (q : PowerReq) : State :=
  { (s.endRequest s.power.queued 4 0 none) with power.queued := some q }

/-- POWER_STATE, and DIAG POWER_TEST in the TEST context (R12, R389, R392, R395). -/
def opPowerState (test : Bool) (h : Hdr) (p : List Byte) (s : State) : Ans :=
  match powerStOf (getB p (if test then 1 else 0)) with
  | none => fail s .outOfRange
  | some t =>
    let q : PowerReq :=
      { target := t, ref := some (hdrRef h (if test then 0xF1 else 0x20) true), test := test, broadcast := h.target == 0xFE }
    let done := fun (s' : State) => s'.journalPower h test s.power.st t
    let deferred := fun (s' : State) => ({ st := .deferred, claims := [.powerState], s := done s' } : Ans)
    if !s.mayState t then fail s .wrongState
    else if s.power.phase == .committed || s.power.phase == .returning || s.power.context == .recovery then
      deferred (s.queueRequest q)
    else if t == s.power.st then
      if s.power.phase == .handshake then okAns (done (s.endRequest s.power.req 4 0 none).endHandshake) [] [.powerState]
      else okAns s [] [.powerState]
    else if t.code < s.power.st.code then
      if t == .run && !s.power.auxOk then refuse s 6
      else
        let s' := if s.power.phase == .handshake then (s.endRequest s.power.req 4 0 none).endHandshake else s
        deferred { s'.recordWake 9 0 s.power.st.code false false with power.req := some q, power.wakePending := some 9 }
    else
      let s' := if s.power.phase == .handshake then s.endRequest s.power.req 4 0 none else s
      deferred (s'.beginEntry q (s.contextOf test))

/-- POWER_STATE. -/
def execPowerState (h : Hdr) (p : List Byte) (s : State) : Host.Outcome State Fault Refusal :=
  .next (runCmd 0x20 (opPowerState false) h p s)

/-- DIAG POWER_TEST. -/
def execDiagPowerTest (h : Hdr) (p : List Byte) (s : State) : Host.Outcome State Fault Refusal :=
  .next (runCmd 0xF1 (opPowerState true) h (0x08 :: p) s)

/-- Table 16.6. -/
def wakeBytes (w : WakeRec) : List Byte :=
  withCrc (toLe 1 w.source ++ [w.fromSrc] ++ toLe 1 w.stage ++ toLe 1 w.cell ++ w32 w.frame ++ w64 w.time ++ toLe 4 w.returnUs ++
    toLe 4 w.dwellS ++ w.counts.flatMap (toLe 2))

/-- WAKE_RECORD (R398). -/
def opWakeRecord (_ : Hdr) (_ : List Byte) (s : State) : Ans := okAns s (wakeBytes s.power.wake)

/-- WAKE_RECORD. -/
def execWakeRecord (h : Hdr) (p : List Byte) (s : State) : Host.Outcome State Fault Refusal :=
  .next (runCmd 0x21 opWakeRecord h p s)

/-! ### RESET in the protection-only state -/

/-- PROT_ONLY_RESET (14 R351): a packet that passes R411, RESET to this module's position or 0xFE with CONFIRM = 0xA55A;
no reply. After a core failure the ports do not run. -/
def execProtOnlyReset (port : Port) (bytes : List Byte) (s : State) : Host.Outcome State Fault Refusal :=
  if port = .own then .fault .noSuchUnit
  else
    .next (match parseRequest bytes with
      | some r =>
        if s.lanes.protOnly && !s.lanes.protReduced && s.portsOn && r.crcOk && r.length == r.payload.length && r.opcode == 0xF0 &&
            r.payload.length == 4 && getU r.payload 0 4 == 0xA55A && (r.target.toNat == s.ring.position || r.target == 0xFE) then
          s.restart
        else s
      | none => s)

end Sys2Proof.Machine
end

