-- ==== Sys2Proof/Machine/Ploza.lean ====
section
/-!
DEFINITION. The common opcodes: identity and health, the staged set, COMMIT with the conditions of Table 18.1, the
operating mode, snapshots and streams, the absorbed-event records (17_ploza_protocol.md, 18_parameter_map.md).
-/

namespace Sys2Proof.Machine

/-! ### PING, IDENTIFY, HEALTH -/

/-- PING. -/
def opPing (_ : Hdr) (p : List Byte) (s : State) : Ans := okAns s p

/-- PING. -/
def execPing (h : Hdr) (p : List Byte) (s : State) : Host.Outcome State Fault Refusal := .next (runCmd 0x01 opPing h p s)

/-- IDENTIFY (Table 17.12). -/
def opIdentify (_ : Hdr) (_ : List Byte) (s : State) : Ans :=
  okAns s (orderCode.map (fun v => BitVec.ofInt 8 v) ++ w64 s.ploza.serial ++ toLe 4 (s.pn P.fwVersion) ++ toLe 1 s.ring.position ++
    toLe 1 (s.pn P.stringId) ++ toLe 1 s.cells ++ [0])

/-- IDENTIFY. -/
def execIdentify (h : Hdr) (p : List Byte) (s : State) : Host.Outcome State Fault Refusal :=
  .next (runCmd 0x02 opIdentify h p s)

/-- HEALTH (Table 17.12): the words of Tables 4.7, 5.7, 10.3, 11.8, 13.10, 14.8, 15.6 and 16.8. -/
def opHealth (_ : Hdr) (_ : List Byte) (s : State) : Ans :=
  okAns s (toLe 4 s.sluiceWord ++ toLe 4 s.govWord ++ w32 s.causeWord ++ toLe 4 s.convWord ++ toLe 4 s.ringWord ++
    toLe 4 s.laneWord ++ toLe 4 (safeWord s.safe) ++ toLe 4 (powerWord s.power) ++ toLe 4 s.lanes.absSeq)

/-- HEALTH. -/
def execHealth (h : Hdr) (p : List Byte) (s : State) : Host.Outcome State Fault Refusal := .next (runCmd 0x03 opHealth h p s)

/-! ### The staged set -/

/-- PARAM_GET (R416). -/
def opParamGet (_ : Hdr) (p : List Byte) (s : State) : Ans :=
  let id := getU p 0 2
  match paramRow id with
  | none => fail s .unknownParam (toLe 2 id)
  | some r =>
    if 1 < (getB p 2).toNat then fail s .outOfRange
    else
      let st := if getB p 2 = 1 then s.stagedVal id else none
      okAns s (toLe 2 id ++ toLe 2 r.bytes ++ toLe 1 (bit st.isSome) ++ [0] ++ r.encode (st.getD (s.paramVals id)))

/-- PARAM_GET. -/
def execParamGet (h : Hdr) (p : List Byte) (s : State) : Host.Outcome State Fault Refusal :=
  .next (runCmd 0x10 opParamGet h p s)

/-- PARAM_SET (R412 step 4, R416). -/
def opParamSet (h : Hdr) (p : List Byte) (s : State) : Ans :=
  let id := getU p 0 2
  match paramRow id with
  | none => fail s .unknownParam (toLe 2 id)
  | some r =>
    let v := r.decode (p.drop 4)
    if r.ro then fail s .readOnly (toLe 2 id)
    else if getU p 2 2 ≠ r.bytes then fail s .badLength
    else if r.service && s.grid.mode != .service then fail s .wrongState (toLe 2 id)
    else if !r.ok v then fail s .outOfRange (toLe 2 id)
    else if 256 ≤ s.ploza.staged.length && (s.stagedVal id).isNone then fail s .busy
    else okAns (s.stage id v h.port) (toLe 2 id) [.param id]

/-- PARAM_SET. -/
def execParamSet (h : Hdr) (p : List Byte) (s : State) : Host.Outcome State Fault Refusal :=
  .next (runCmd 0x11 opParamSet h p s)

/-- DISCARD (R418). -/
def opDiscard (_ : Hdr) (_ : List Byte) (s : State) : Ans :=
  let n := s.ploza.staged.length
  okAns ({ s with ploza.staged := [] }.discardTable) (toLe 2 n) [.stagedSet]

/-- DISCARD. -/
def execDiscard (h : Hdr) (p : List Byte) (s : State) : Host.Outcome State Fault Refusal :=
  .next (runCmd 0x13 opDiscard h p s)

/-! ### COMMIT -/

/-- Two breakpoints in order, at least `d` apart. -/
def spacedBy (d : Int) : List Int → Bool
  | [] => true
  | [_] => true
  | a :: b :: l => decide (a + d ≤ b) && spacedBy d (b :: l)

/-- CMT_T_BP and CMT_SOC_BP in order (08 R201). -/
def breakpointsOk (t soc : List Int) : Bool :=
  spacedBy 50 t && spacedBy 1 soc && soc.headD 1 == 0 && soc.getLastD 0 == 10000

/-- A staged value that differs from the one in force. -/
def State.changes (s : State) (id : Nat) : Bool := s.wouldBe id != s.paramVals id

/-- The timing condition of 11 R255, in units of 250 ps. -/
def State.timingOk (s : State) : Bool :=
  let t := roundAway ((4000000000 : Rat) / (s.wb P.convFswHz : Rat))
  decide (2 * (2 * s.wb P.convDeadtimeNs + max (s.wb P.convLebNs) (s.wb P.convTonMinNs) + s.wb P.convToffMinNs) ≤ t)

/-- The conditions of Table 18.1 on the values that would be in force, each with the parameters it relates. -/
def State.conditions (s : State) : List (List Nat × Bool) :=
  let w := s.wb
  let table := s.tableInCommit || !(s.changes P.cmtTBp || s.changes P.cmtSocBp)
  [([P.tThrottle, P.tHot, P.tCrit], decide (w P.tThrottle + 500 ≤ w P.tHot ∧ w P.tHot + 500 ≤ w P.tCrit)),
   ([P.restSettleS, P.restWindowS], decide (w P.restSettleS + 60 ≤ w P.restWindowS)),
   ([P.vFullMv, P.vEmptyMv, P.vMinDisMv, P.vMaxChgMv],
     decide (w P.vMinDisMv ≤ w P.vEmptyMv ∧ w P.vEmptyMv < w P.vFullMv ∧ w P.vFullMv ≤ w P.vMaxChgMv)),
   ([P.cmtTBp, P.cmtSocBp], breakpointsOk (s.wouldBe P.cmtTBp) (s.wouldBe P.cmtSocBp) && table),
   ([P.cellOvMv, P.cellUvMv], decide (w P.cellUvMv + 200 ≤ w P.cellOvMv)),
   ([P.convFswHz, P.convDeadtimeNs, P.convLebNs, P.convTonMinNs, P.convToffMinNs], s.timingOk),
   ([P.phSenseAPerV, P.phaseILimitA], decide (w P.phaseILimitA * 1000 ≤ 14 * w P.phSenseAPerV)),
   ([P.phaseIRatedA, P.phaseILimitA], decide (w P.phaseIRatedA ≤ w P.phaseILimitA)),
   ([P.busSenseVFs, P.convBusOvV], decide (100 * w P.convBusOvV ≤ 98 * w P.busSenseVFs)),
   ([P.shedPct, P.addPct], decide (w P.shedPct + 5 ≤ w P.addPct)),
   ([P.safePreMinMs, P.safePreMaxMs], decide (w P.safePreMinMs < w P.safePreMaxMs)),
   ([P.convPhases, P.convPhasesMin], decide (w P.convPhasesMin ≤ w P.convPhases)),
   ([P.convOwner, P.ringModules], decide (w P.convOwner = 255 ∨ w P.convOwner ≤ w P.ringModules - 1)),
   ([P.ringBranches, P.branch], decide (w P.branch ≤ w P.ringBranches - 1)),
   ([P.ringModules, P.seriesPos], decide (w P.seriesPos ≤ w P.ringModules - 1)),
   ([P.canANomBps, P.canADataBps], decide (w P.canANomBps ≤ w P.canADataBps)),
   ([P.canBNomBps, P.canBDataBps], decide (w P.canBNomBps ≤ w P.canBDataBps))]

/-- A member of the safety set (15 R377). -/
def safetyParam (id : Nat) : Bool := id / 256 == 0x0D

/-- The first staged parameter that WRONG_STATE names (R417 step 1). -/
def State.commitWrongState (s : State) : Option Nat :=
  (s.ploza.staged.find? fun v =>
    (s.grid.mode != .service && (paramRow v.id).any (·.service)) || (safetyParam v.id && s.safe.anyOn)).map (·.id)

/-- The first staged parameter that OUT_OF_RANGE names (R417 step 2): one of a condition that does not hold. -/
def State.commitOutOfRange (s : State) : Option Nat :=
  let bad := (s.conditions.filter fun c => !c.2).flatMap (·.1)
  (s.ploza.staged.find? fun v => bad.contains v.id).map (·.id)

/-- VALUE of a parameter as the journal and PARAM_GET carry it. -/
def valueBytes (id : Nat) (v : List Int) : List Byte :=
  match paramRow id with
  | some r => r.encode v
  | none => []

/-- One staged value comes into force, with its journal entry (20 R460, R461). -/
def State.commitOne (s : State) (h : Hdr) (v : StagedVal) : State :=
  let old := valueBytes v.id (s.paramVals v.id)
  let s := { s with ploza.params := setParam s.ploza.params v.id v.val }
  s.record 1 (portCode h.port) 0x12 (portCode v.cmd) v.id old (valueBytes v.id v.val)

/-- The table of a COMMIT in SERVICE (08 R210), with its journal entry. -/
def State.commitTable (s : State) (h : Hdr) : State :=
  if s.tableInCommit then
    let old := s.activeTable.tag
    let s := s.activateTable
    s.journal h.port 0x12 0xFFFF (w32 old) (w32 s.activeTable.tag)
  else s

/-- The image that a COMMIT writes (18 R433); the bank of a table activated alone is recorded in the active image, since
such a COMMIT writes none, and in an image that is still being written (08 R207). -/
def State.writeImage (s : State) : State :=
  { s with
    ploza.configSeq := (s.ploza.configSeq + 1) % 2 ^ 32, ploza.configState := 0
    ploza.imageWrite := some
      { vals := s.ploza.params, good := true, seq := (s.ploza.configSeq + 1) % 2 ^ 32, bank := s.tbl.activeBank } }.nvmAsk
    { lane := true, left := 256 }

/-- COMMIT (R417, 18 R432, R433). Its values count as committed from here on (01 R26); what each takes effect on follows at
step 2 of the boundary. -/
def opCommit (h : Hdr) (_ : List Byte) (s : State) : Ans :=
  match s.commitWrongState, s.commitOutOfRange with
  | some id, _ => fail s .wrongState (toLe 2 id)
  | none, some id => fail s .outOfRange (toLe 2 id)
  | none, none =>
    let l := s.ploza.staged
    if l != [] && s.ploza.imageWrite.isSome then fail s .busy
    else
      let table := s.tableInCommit
      let t := (l.foldl (fun s v => s.commitOne h v) s).commitTable h
      let t := { t with ploza.staged := [], grid.commitIds := l.map (·.id) }
      let t := if l != [] then t.writeImage
        else if table then { t with
          ploza.images := t.ploza.images.modify t.ploza.activeImage fun x => { x with bank := t.tbl.activeBank }
          ploza.imageWrite := t.ploza.imageWrite.map fun x => { x with bank := t.tbl.activeBank } }
        else t
      okAns t (w32 s.grid.frame ++ toLe 2 l.length ++ toLe 1 (bit table) ++ [0]) [.stagedSet]

/-- COMMIT. -/
def execCommit (h : Hdr) (p : List Byte) (s : State) : Host.Outcome State Fault Refusal := .next (runCmd 0x12 opCommit h p s)

/-- CONFIG_IMAGE_WRITTEN (18 R433). -/
def execConfigImageWritten (s : State) : Host.Outcome State Fault Refusal := .next s.finishImage

/-! ### MODE -/

/-- The mode of a MODE byte (Table 17.12). -/
def modeOf (b : Byte) : Option Mode :=
  if b = 0 then some .service else if b = 1 then some .standby else if b = 2 then some .active else none

/-- A deferred MODE is superseded by a later one (00 R504). -/
def State.supersedeMode (s : State) : State :=
  match s.grid.deferredMode with
  | some d => { s with grid.deferredMode := none }.complete d.ref .superseded 0 0 0 []
  | none => s

/-- The drain that a superseded MODE began reports to the MODE that asks for the same, and otherwise to none, since its
command has had its COMPLETION (00 R504, 17 R419). -/
def State.drainPasses (s : State) (m : Mode) (r : DeferRef) : State :=
  match s.grid.deferredMode with
  | some d =>
    if s.conv.drainBy = some d.ref then { s with conv.drainBy := if d.target == m then some r else none } else s
  | none => s

/-- A MODE is answered DEFERRED. -/
def State.deferMode (s : State) (m : Mode) (r : DeferRef) : State :=
  { s with grid.deferredMode := some { target := m, ref := r } }

/-- MODE SERVICE (11 R269, 15 R371): with the converter not OFF the mode is STANDBY at once and the rest waits for OFF. -/
def State.toService (s : State) (r : DeferRef) : Status × State :=
  if s.conv.st == .off then (.ok, { s with grid.mode := .service }.requestContactors false)
  else (.deferred, ({ s with grid.mode := .standby }.beginDrain 2 (some r)).deferMode .service r)

/-- MODE STANDBY from SERVICE (15 R371, R372): the contactor request becomes CLOSE; with K_POS on, or with no safety block
in use, the mode changes at once. -/
def State.toStandby (s : State) (r : DeferRef) : Status × State :=
  let t := s.requestContactors true
  if t.safe.st == SafeSt.notUsed || s.safe.kPos then (.ok, { t with grid.mode := .standby })
  else (.deferred, t.deferMode .standby r)

/-- MODE once its checks have passed and it changes something. -/
def State.applyMode (s : State) (m : Mode) (r : DeferRef) : Status × State :=
  match s.grid.deferredMode.map (·.target) with
  | some t =>
    let s := (s.drainPasses m r).supersedeMode
    if t == m then (.deferred, s.deferMode m r)
    else match m with
      | .service => (.ok, s.requestContactors false)
      | m => (.ok, { s with grid.mode := m })
  | none => match m with
    | .service => s.toService r
    | .active => (.ok, { s with grid.mode := .active })
    | .standby =>
      if s.grid.mode == .service then s.toStandby r
      else (.ok, { s with grid.mode := .standby }.beginDrain 2 (some { r with deferred := false }))

/-- MODE (R12, 00 R504, 11 R269, 15 R371, R372). -/
def opMode (h : Hdr) (p : List Byte) (s : State) : Ans :=
  match modeOf (getB p 0) with
  | none => fail s .outOfRange
  | some m =>
    let old := s.grid.mode
    if !s.mayMode m || (m == .active && old == .service) then fail s .wrongState
    else if m != .service && s.safe.st != SafeSt.armed && s.safe.st != SafeSt.notUsed then refuse s 0x09
    else if m == old && s.grid.deferredMode.isNone then okAns s [] [.opMode]
    else
      let (st, t) := s.applyMode m (hdrRef h 0x22 true)
      { st := st, claims := [.opMode], s := t.journal h.port 0x22 0 (toLe 1 old.code) (toLe 1 m.code) }

/-- MODE. -/
def execMode (h : Hdr) (p : List Byte) (s : State) : Host.Outcome State Fault Refusal := .next (runCmd 0x22 opMode h p s)

/-! ### Sections -/

/-- First and last element index and element size of a section (Table 18.19). -/
def sectionShape (c : Nat) : Option (Nat × Nat × Nat) :=
  match c with
  | 0x01 => some (1, 96, 8) | 0x02 => some (1, 6, 4) | 0x03 => some (0, 0, 32) | 0x04 => some (0, 48, 4)
  | 0x05 => some (0, 0, 28) | 0x06 => some (1, 96, 20) | 0x07 => some (0, 0, 68) | 0x08 => some (0, 0, 84)
  | 0x09 => some (0, 0, 4) | 0x0A => some (1, 96, 16) | 0x0B => some (1, 96, 8) | 0x0C => some (0, 0, 12)
  | 0x0D => some (0, 0, 4) | 0x0E => some (1, 96, 4) | 0x0F => some (0, 0, 4) | 0x10 => some (0, 0, 8)
  | 0x11 => some (1, 8, 4) | 0x12 => some (0, 0, 32) | 0x13 => some (0, 0, 8) | 0x14 => some (0, 0, 8)
  | 0x15 => some (0, 0, 4) | 0x16 => some (0, 0, 4) | 0x17 => some (1, 17, 2)
  | _ => none

/-- Table 18.20. -/
def State.cellVBytes (s : State) (n : Nat) : List Byte :=
  let c := s.chanAt n
  s32 (if c.s24 = 0x800000 then none else some c.s24.toInt) ++ toLe 2 c.u16.toNat ++ toLe 2 c.status.toNat

/-- The latest record of the branch in use by this module. -/
def State.branchRec (s : State) : CurRec :=
  let b := s.branchAt (s.pn P.branch)
  (if b.useCheck then b.checkRecs else b.mainRecs).headD { cur := -2147483648, vstr := -2147483648, flags := 2 }

/-- CURRENT of Table 18.21. -/
def State.currentSection (s : State) : List Byte :=
  let r := s.branchRec
  toLe 4 s.cfeWord ++ s32 s.branchNow ++ toLeInt 8 (s.branchAt (s.pn P.branch)).accCopy ++ toLeInt 4 r.vstr ++
    s16 (if s.hasCfe then s.cfe.tShunt else none) ++ toLe 2 r.flags.toNat ++ w32 r.stamp ++
    s32 (if s.isPrimary then s.str.current else none)

/-- GOVERNOR of Table 18.21. -/
def State.governorSection (s : State) : List Byte :=
  toLe 4 s.govWord ++ toLe 4 s.feCapWord ++ toLe 4 s.schedWord ++ s.dieBytes ++ s16 (some (roundAway s.gov.rate)) ++
    (List.range 6).flatMap fun i => s16 (s.feTjShown (i + 1))

/-- A RHO field of Table 18.21. -/
def rhoBytes (x : Option Rat) : List Byte :=
  match x with
  | some r => u16 0xFFFE (roundAway (r * 1000)).toNat
  | none => toLe 2 0xFFFF

/-- LAW of Table 18.21. -/
def State.lawSection (s : State) : List Byte :=
  let x := s.law
  toLe 4 s.lawWord ++ milli x.iTarget ++ milli x.iRef ++ milli x.lint.val ++ s32 (some (roundAway x.x.val)) ++
    s32 (x.vRef.map fun v => roundAway (v * 1000)) ++ rhoBytes x.rhoC ++ rhoBytes x.rhoS ++ rhoBytes x.rhoV ++ zeros 2

/-- Element `i` of a section (Table 18.19). -/
def State.element (s : State) (c i : Nat) : List Byte :=
  match c with
  | 0x01 => s.cellVBytes i
  | 0x02 => toLe 4 (feWord (s.feAt i))
  | 0x03 => s.currentSection
  | 0x04 => toLe 4 (if i < 48 then s.panWord (s.panAt i) else s.sluiceWord)
  | 0x05 => s.governorSection
  | 0x06 => s.estBytes i
  | 0x07 => s.stringBytes
  | 0x08 => summaryBytes (s.estMod.summary.getD {})
  | 0x09 => toLe 4 s.sweepWord
  | 0x0A => ((s.eis.interimCoh.getD (i - 1) (List.replicate 8 0xFFFF))).flatMap (toLe 2)
  | 0x0B => s.thermoBytes i
  | 0x0C => toLe 4 s.tableWord ++ w32 s.activeTable.tag ++ w32 s.tbl.stagedTag
  | 0x0D => toLe 4 s.balWord
  | 0x0E => toLe 4 (balCellWord (s.balAt i))
  | 0x0F => w32 s.causeWord
  | 0x10 => toLe 4 s.convWord ++ toLe 4 s.convFaultWord
  | 0x11 => toLe 4 (phaseWord (s.phaseAt i))
  | 0x12 => s.lawSection
  | 0x13 => toLe 4 s.ringWord ++ toLe 4 s.ringCountWord
  | 0x14 => toLe 4 s.laneWord ++ toLe 4 s.laneCountWord
  | 0x15 => toLe 4 (safeWord s.safe)
  | 0x16 => toLe 4 (powerWord s.power)
  | 0x17 => s16 (if i ≤ 16 then s.ntc.temp.getD (i - 1) none else s.cfe.tShunt)
  | _ => []

/-- The section payload of Table 18.18. -/
def State.sectionPayload (s : State) (c first count skipped stream : Nat) : List Byte :=
  toLe 1 c ++ toLe 1 first ++ toLe 1 count ++ toLe 1 (pack [(0, 1, bit (decide (0 < skipped))), (1, 1, bit (!s.isPrimary))]) ++
    toLe 2 (satTo 0xFFFF skipped) ++ toLe 1 stream ++ [0] ++ w32 s.grid.frame ++ w64 s.grid.plantNs ++
    ((List.range count).flatMap fun k => s.element c (first + k))

/-- SNAPSHOT (18 R435). -/
def opSnapshot (_ : Hdr) (p : List Byte) (s : State) : Ans :=
  let c := (getB p 0).toNat
  let first := (getB p 1).toNat
  match sectionShape c with
  | none => fail s .outOfRange
  | some (lo, hi, _) =>
    let n := if getB p 2 = 0 then hi + 1 - first else (getB p 2).toNat
    if first < lo || hi < first || hi < first + n - 1 then fail s .outOfRange
    else okAns s (s.sectionPayload c first n 0 0xFF)

/-- SNAPSHOT. -/
def execSnapshot (h : Hdr) (p : List Byte) (s : State) : Host.Outcome State Fault Refusal :=
  .next (runCmd 0x60 opSnapshot h p s)

/-! ### Streams -/

/-- Bytes of a whole section. -/
def sectionBytes (c : Nat) : Nat :=
  match sectionShape c with
  | some (lo, hi, n) => (hi + 1 - lo) * n
  | none => 0

/-- Rate of a stream, bytes per second (18 R438). -/
def streamRate (x : Stream) : Rat :=
  if x.divider = 0 then 0 else ((20 + sectionBytes x.sect + 10) * 10000 : Nat) / (x.divider : Rat)

/-- Budget of a port, bytes per second (18 R438). -/
def State.portBudget (s : State) (p : Port) : Rat :=
  let can := fun (b : Bool) =>
    if s.canFd b = 2 then s.pr (if b then P.canBDataBps else P.canADataBps) / 32
    else s.pr (if b then P.canBNomBps else P.canANomBps) / 32
  match p with
  | .canA => can false
  | .canB => can true
  | _ => 2000000

/-- The sum of the rates of a port's streams. -/
def portRate (l : List (Option Stream)) (p : Port) : Rat :=
  ((l.filterMap id).filter (·.port == p) |>.map streamRate).sum

/-- The port of a PORT byte 3 to 5 (Table 17.4). -/
def streamPort (b : Byte) : Option Port :=
  if b = 3 then some .spi else if b = 4 then some .canA else if b = 5 then some .canB else none

/-- STREAM_CONFIG (18 R437, R438, 19 R446). -/
def opStreamConfig (_ : Hdr) (p : List Byte) (s : State) : Ans :=
  let k := (getB p 0).toNat
  let c := (getB p 2).toNat
  let d := getU p 4 2
  match streamPort (getB p 1), sectionShape c with
  | some port, some _ =>
    let classical := (port == .canA && s.canFd false == 0) || (port == .canB && s.canFd true == 0)
    if 3 < k || (classical && d != 0 && 2048 < 20 + sectionBytes c + 10) then fail s .outOfRange
    else
      let x : Option Stream := if d = 0 then none else some { port := port, sect := c, divider := d }
      let l := setAt s.ploza.streams k x
      if x.isSome && decide (s.portBudget port < portRate l port) then fail s .busy
      else okAns { s with ploza.streams := l }
  | _, _ => fail s .outOfRange

/-- STREAM_CONFIG. -/
def execStreamConfig (h : Hdr) (p : List Byte) (s : State) : Host.Outcome State Fault Refusal :=
  .next (runCmd 0x61 opStreamConfig h p s)

/-- A committed bit rate leaves too little: streams stop in descending number until the rest fits (18 R438). -/
def State.trimStreams (s : State) : State :=
  [3, 2, 1, 0].foldl (fun s k => match s.ploza.streams.getD k none with
    | some x => if s.portBudget x.port < portRate s.ploza.streams x.port then
        { s with ploza.streams := setAt s.ploza.streams k none } else s
    | none => s) s

/-- A record of a stream is due (18 R437): the frame count has reached a multiple of DIVIDER since the boundary before,
which in WATCH lies ten frames back. -/
def State.streamDue (s : State) (x : Stream) : Bool :=
  let n := s.grid.validFrames
  0 < x.divider && (n % x.divider == 0 || (1 < s.windowFrames && n / x.divider != (n - s.windowFrames) / x.divider))

/-- STREAM_RECORD_BUILD (18 R437): the record leaves as a reply to STREAM_CONFIG. -/
def State.streamRecord (s : State) (k : Nat) : State :=
  match s.ploza.streams.getD k none with
  | none => s
  | some x =>
    if s.streamDue x then
      match sectionShape x.sect with
      | none => s
      | some (lo, hi, _) =>
        let pkt := s.replyPacket 0x61 (BitVec.ofNat 8 x.seq) .ok (s.sectionPayload x.sect lo (hi + 1 - lo) x.skipped k)
        let y : Stream := { x with seq := (x.seq + 1) % 256, skipped := 0 }
        let s := { s with ploza.streams := setAt s.ploza.streams k (some y) }
        match x.port with
        | .canA => s.sendCan false .stream 6 pkt
        | .canB => s.sendCan true .stream 6 pkt
        | _ => s.sendSpi .stream pkt
    else s

/-- The records of every stream. -/
def State.streamRecords (s : State) : State := (List.range 4).foldl State.streamRecord s

/-- A boundary is skipped or replayed (14 R342): the next record of each stream counts it. -/
def State.skipRecords (s : State) (n : Nat) : State :=
  { s with ploza.streams := s.ploza.streams.map fun x => x.map fun (y : Stream) => { y with skipped := y.skipped + n } }

/-! ### Absorbed events -/

/-- DIAG ABSORBED_EVENTS (Table 17.16, 14 R352). -/
def opAbsorbedEvents (_ : Hdr) (p : List Byte) (s : State) : Ans :=
  let from' := getU p 1 4
  let n := (getB p 5).toNat
  if n = 0 || 120 < n then fail s .outOfRange
  else
    let l := (s.lanes.absRecs.reverse.filter fun e => from' ≤ e.seq).take n
    okAns s (toLe 1 l.length ++ zeros 3 ++ l.flatMap absBytes ++ s.lanes.absCounts.flatMap (toLe 4))

/-- DIAG_ABSORBED_EVENTS. -/
def execDiagAbsorbedEvents (h : Hdr) (p : List Byte) (s : State) : Host.Outcome State Fault Refusal :=
  .next (runCmd 0xF1 opAbsorbedEvents h (0x07 :: p) s)

end Sys2Proof.Machine
end

