-- ==== Sys2Proof/Machine/Can.lean ====
section
/-!
DEFINITION. The CAN FD controllers and the SPI mailbox: bit timing, the receive ring with its filter and reassembly, the
transmit FIFO and alarm slot, bus states, the SPI words (19_can_fd_and_spi.md, 17_ploza_protocol.md R409, 16_power_states.md
R400).
-/

namespace Sys2Proof.Machine

/-! ### Bit timing -/

/-- The smallest prescaler from 1 to `top` for which 80 MHz / (p × rate) is an integer in the range; with that integer. -/
def prescaler (top rate lo hi : Nat) : Option (Nat × Nat) :=
  ((List.range top).map (fun i => (i + 1, 80000000 / ((i + 1) * rate)))).find? fun x =>
    decide (80000000 = x.1 * rate * x.2) && decide (lo ≤ x.2) && decide (x.2 ≤ hi)

/-- p, TSEG1 and TSEG2 of one phase (19 R440), the sample point in thousandths. -/
def bitTiming (top rate lo hi sp least : Nat) : Option (Nat × Nat × Nat) :=
  match prescaler top rate lo hi with
  | none => none
  | some (p, n) =>
    let sq := (2 * n * sp + 1000) / 2000
    if sq + least ≤ n && 1 ≤ sq then some (p, sq - 1, n - sq) else none

/-- CAN_x_ENABLE. -/
def State.canEnabled (s : State) (b : Bool) : Bool := s.pb (if b then P.canBEnable else P.canAEnable)

/-- Nominal timing of a port. -/
def State.nominalTiming (s : State) (b : Bool) : Option (Nat × Nat × Nat) :=
  bitTiming 32 (s.pn (if b then P.canBNomBps else P.canANomBps)) 8 80 (s.pn (if b then P.canBNomSp else P.canANomSp)) 2

/-- Data-phase timing of a port; used only when CAN_x_FD is not CLASSICAL. -/
def State.dataTiming (s : State) (b : Bool) : Option (Nat × Nat × Nat) :=
  bitTiming 4 (s.pn (if b then P.canBDataBps else P.canADataBps)) 5 25 (s.pn (if b then P.canBDataSp else P.canADataSp)) 1

/-- A port's change of BUS_STATE sets its event bit (Table 19.8). -/
def State.setBus (s : State) (b : Bool) (st : BusState) : State :=
  if (s.canAt b).bus = st then s
  else { s.modCan b (fun c => { c with bus := st }) with spi.irqStatus := setBit s.spi.irqStatus (4 + bit b) true }

/-- A port takes its configuration from the committed parameters (19 R440 to R442, 16 R400). -/
def State.canConfigure (s : State) (b : Bool) : State :=
  let fd := s.canFd b
  let nom := s.nominalTiming b
  let dat := s.dataTiming b
  let on := s.canEnabled b
  let bad := nom.isNone || (fd != 0 && dat.isNone)
  let silent := on && s.power.clockDegraded &&
    (decide (250000 < s.pn (if b then P.canBNomBps else P.canANomBps)) || fd == 2)
  let t := s.modCan b fun c => { c with
    nom := nom.getD (0, 0, 0), dat := if fd = 0 then (0, 0, 0) else dat.getD (0, 0, 0), timingErr := bad, silent := silent
    tdcOn := on && fd == 2, stb := !on }
  if !on || bad || silent then t.setBus b .off
  else if (s.canAt b).bus = .off then
    (t.modCan b fun c => { c with tecCnt := 0, recCnt := 0 }).setBus b .errorActive
  else t

/-- The filter table is built from the position, the string ID and the primary role (19 R447). -/
def State.canFilter (s : State) (b : Bool) : State :=
  s.modCan b fun c => { c with
    filterPos := s.ring.position, filterString := s.pn P.stringId, filterPrimary := s.isPrimary }

/-! ### Receiving -/

/-- A controller takes part in bus traffic. -/
def Can.onBus (c : Can) : Bool := c.bus == BusState.errorActive || c.bus == BusState.errorPassive

/-- A field of a 29-bit identifier. -/
def idField (id : BitVec 29) (lo w : Nat) : Nat := (id.toNat / 2 ^ lo) % 2 ^ w

/-- A frame passes the filter table (19 R443 to R445, R447): a request without a reserved value, of PRIORITY 1 to 7, to
this module, to its string, to the bank, or on the primary to another position. -/
def Can.keeps (c : Can) (id : BitVec 29) : Bool :=
  let str := idField id 20 6
  let pos := idField id 17 3
  let addr := idField id 11 2
  idField id 15 2 == 0 && idField id 8 3 == 0 && idField id 13 2 != 3 && idField id 26 3 != 0 &&
    ((addr == 0 && str == c.filterString && (pos == c.filterPos || c.filterPrimary)) ||
     (addr == 1 && str == c.filterString && pos == 0) || (addr == 2 && str == 0 && pos == 0))

/-- Identifier bits 28 to 8 without FORM: one packet in progress for each value (19 R447). -/
def reasmKey (id : BitVec 29) : BitVec 21 :=
  BitVec.ofNat 21 (id.toNat / 256 - idField id 13 2 * 32)

/-- The identifier agrees with the TARGET of its packet (19 R444). -/
def targetAgrees (id : BitVec 29) (bs : List Byte) : Bool :=
  let t := (getB bs 3).toNat
  match idField id 11 2 with
  | 0 => t == idField id 17 3
  | 1 => t == 0xFE
  | _ => t == 0xFF

/-- A packet's bytes without the padding of its last segment (17 R409): `data` as received, its last segment `last` bytes
long. A segment longer than the packet's rest needs is no padding, and its bytes count as received. -/
def trimPadding (data : List Byte) (last : Nat) : List Byte :=
  let total := 10 + getU data 4 2
  let rest := total - (data.length - last)
  if total ≤ data.length && fdLength rest == last then data.take total else data

/-- A packet is complete on a CAN port: PRIORITY is kept for the reply, and the checks of receipt follow. -/
def State.canPacket (s : State) (b late : Bool) (id : BitVec 29) (bs : List Byte) : State :=
  if targetAgrees id bs then
    (s.modCan b fun c => { c with
      rxPrio := ((getB bs 1, idField id 26 3) :: c.rxPrio.filter fun x => x.1 != getB bs 1) }).receive
      (if b then .canB else .canA) late bs
  else s

/-- Firmware takes one frame from the ring (19 R447, 17 R409): filter, then reassembly. -/
def State.canTake (s : State) (b late : Bool) (id : BitVec 29) (data : List Byte) : State :=
  let c := s.canAt b
  let key := reasmKey id
  let idx := idField id 0 8
  if !c.keeps id then s
  else match idField id 13 2 with
    | 0 => s.canPacket b late id (trimPadding data data.length)
    | 1 =>
      let others := c.reasm.filter (·.key != key)
      if idx ≠ 0 then s
      else s.modCan b fun c => { c with reasm := others ++ [{ key := key, next := 1, data := data, lastAt := s.grid.plantNs }] }
    | _ =>
      match c.reasm.find? (·.key == key) with
      | none => s
      | some r =>
        let others := c.reasm.filter (·.key != key)
        if idx ≠ r.next || (if s.canFd b = 0 then 255 else 64) < idx then s.modCan b fun c => { c with reasm := others }
        else
          let all := r.data ++ data
          if 10 + getU all 4 2 ≤ all.length then
            (s.modCan b fun c => { c with reasm := others }).canPacket b late id (trimPadding all data.length)
          else
            let r' : CanReasm := { r with next := idx + 1, data := all, lastAt := s.grid.plantNs }
            s.modCan b fun c => { c with reasm := others ++ [r'] }

/-- Firmware reads a ring to its end. -/
def State.readRing (s : State) (b late : Bool) : State :=
  (s.canAt b).rxRing.foldl (fun s f => s.canTake b late f.id f.data) (s.modCan b fun c => { c with rxRing := [] })

/-- A lane reads the rings: one holds the token, or the module is in the protection-only state. -/
def State.ringsRead (s : State) : Bool := s.portsOn && (s.lanes.valid || s.lanes.protOnly)

/-- REC after a frame received without error (ISO 11898-1). -/
def recAfterGood (n : Nat) : Nat := if 127 < n then 127 else n - 1

/-- BUS_STATE by the counters, while the port is on the bus. -/
def State.settleBus (s : State) (b : Bool) : State :=
  let c := s.canAt b
  if c.onBus then s.setBus b (if 127 < c.tecCnt || 127 < c.recCnt then .errorPassive else .errorActive) else s

/-- An extended data frame without error arrives on a port (19 R439, R447). -/
def State.canFrameRx (s : State) (b fd late : Bool) (id : BitVec 29) (data : List Byte) : State :=
  if !s.portsOn || !(s.canAt b).onBus || (fd && s.canFd b == 0) then s
  else
    let s := (s.modCan b fun c => { c with recCnt := recAfterGood c.recCnt }).settleBus b
    let s := if (s.canAt b).rxRing.length < 128 then
        s.modCan b fun c => { c with rxRing := c.rxRing ++ [{ id := id, data := data, time := s.grid.plantNs }] }
      else s.modCan b fun c => { c with rxDropped := bump 0xFF c.rxDropped }
    if s.ringsRead then s.readRing b late else s

/-- CAN_FRAME_RX. -/
def execCanFrameRx (b : Bool) (id : BitVec 29) (fd late : Bool) (data : List Byte) (s : State) :
    Host.Outcome State Fault Refusal := .next (s.canFrameRx b fd late id data)

/-- 10 ms pass since an instant of plant time; the plant time of the last strobe stands for now. -/
def State.past10ms (s : State) (t : BitVec 64) : Bool := decide (9900000 ≤ (s.grid.plantNs - t).toNat)

/-- 10 ms pass without the next segment of a partial packet (17 R409). -/
def State.canSegmentTimeout (s : State) (b : Bool) (key : BitVec 21) : State :=
  s.modCan b fun c => { c with reasm := c.reasm.filter fun r => !(r.key == key && s.past10ms r.lastAt) }

/-- CAN_SEGMENT_TIMEOUT. -/
def execCanSegmentTimeout (b : Bool) (key : BitVec 21) (s : State) : Host.Outcome State Fault Refusal :=
  .next (s.canSegmentTimeout b key)

/-! ### Transmitting and the bus -/

/-- The FIFO takes frames from the queue as entries free (19 R448). -/
def Can.refill (c : Can) : Can :=
  let all := c.fifo ++ c.queue
  { c with fifo := all.take 32, queue := all.drop 32 }

/-- A bus error: TEC by 8 as transmitter, REC by 1 as receiver (ISO 11898-1, log entry 25). -/
def State.canError (s : State) (b tx : Bool) : State :=
  if !s.portsOn || !(s.canAt b).onBus then s
  else (s.modCan b fun c =>
    if tx then { c with tecCnt := satTo 0xFF (c.tecCnt + 8) } else { c with recCnt := bump 0xFF c.recCnt }).settleBus b

/-- Where the secondary sample point of a frame with BRS lies, in kernel clock periods from its bit's start (19 R441): the
measured delay plus CAN_x_TDC_OFFSET data-phase quanta of p periods each, or with 0 the `s` quanta of the data sample
point (DEDUCED, log entry 98). -/
def State.sampleAt (s : State) (b : Bool) (delay : Nat) : Nat :=
  let (p, t1, _) := (s.canAt b).dat
  let off := s.pn (if b then P.canBTdcOffset else P.canATdcOffset)
  delay + p * (if off = 0 then t1 + 1 else off)

/-- A frame finishes transmission (19 R441, R448, R450): the alarm slot's or the FIFO head. A loop delay above 127 periods
on an FD_BRS port ends the frame with a bit error instead, and the frame is offered again. -/
def State.canTxComplete (s : State) (b alarm : Bool) (delay : Nat) : State :=
  let c := s.canAt b
  let brs := s.canFd b == 2
  if !s.portsOn || !c.onBus || (alarm && c.alarm.isNone) || (!alarm && c.fifo.isEmpty) then s
  else
    let s := if brs then s.modCan b fun c => { c with tdcValue := satTo 127 delay, ssp := s.sampleAt b delay } else s
    if brs && 127 < delay then s.canError b true
    else
      (s.modCan b fun c =>
        let c : Can := { c with tecCnt := c.tecCnt - 1 }
        if alarm then { c with alarm := none } else Can.refill { c with fifo := c.fifo.drop 1 }).settleBus b

/-- CAN_TX_COMPLETE. -/
def execCanTxComplete (b alarm : Bool) (loopDelay : Nat) (s : State) : Host.Outcome State Fault Refusal :=
  .next (s.canTxComplete b alarm loopDelay)

/-- CAN_BUS_ERROR. -/
def execCanBusError (b tx : Bool) (s : State) : Host.Outcome State Fault Refusal := .next (s.canError b tx)

/-- A port goes bus-off; FIFO and queue are kept (19 R448). -/
def State.canBusOff (s : State) (b : Bool) : State :=
  if !s.portsOn || !(s.canAt b).onBus then s
  else (s.modCan b fun c => { c with busOffs := bump 0xFF c.busOffs }).setBus b .busOff

/-- CAN_BUS_OFF. -/
def execCanBusOff (b : Bool) (s : State) : Host.Outcome State Fault Refusal := .next (s.canBusOff b)

/-- 128 occurrences of 11 recessive bits: the port is error active again, its counters at 0 (ISO 11898-1). -/
def State.canRecover (s : State) (b : Bool) : State :=
  if s.portsOn && (s.canAt b).bus == BusState.busOff then
    (s.modCan b fun c => { c with tecCnt := 0, recCnt := 0 }).setBus b .errorActive
  else s

/-- CAN_BUS_OFF_RECOVERY. -/
def execCanBusOffRecovery (b : Bool) (s : State) : Host.Outcome State Fault Refusal := .next (s.canRecover b)

/-! ### The SPI mailbox -/

/-- The packet in progress is discarded: it counts in SPI_ERRORS and sets IN_ERR (Tables 19.7 and 19.8). -/
def State.spiDiscard (s : State) : State :=
  { s with spi.inPart := [], spi.inErrors := bump 0xFFFF s.spi.inErrors, spi.irqStatus := setBit s.spi.irqStatus 6 true }

/-- The bytes of a word, the least significant first (19 R453). -/
def wordBytes (w : Word) : List Byte := toLe 4 w.toNat

/-- A word written to IN_DATA (19 R453). -/
def State.spiIn (s : State) (w : Word) (late : Bool) : State :=
  if !s.portsOn || s.spi.inDrop then s
  else if s.spiFree < 4 then { s.spiDiscard with spi.inDrop := true }
  else
    let bs := s.spi.inPart ++ wordBytes w
    let total := 10 + getU bs 4 2
    if bs.length < 6 || bs.length < total then { s with spi.inPart := bs, spi.inAt := s.grid.plantNs }
    else if (bs.drop total).any (· != 0) then s.spiDiscard
    else { s with spi.inPart := [], spi.irqStatus := setBit s.spi.irqStatus 1 true }.receive .spi late (bs.take total)

/-- SPI_IN_DATA_WRITE. -/
def execSpiInDataWrite (w : BitVec 32) (late : Bool) (s : State) : Host.Outcome State Fault Refusal := .next (s.spiIn w late)

/-- A read of OUT_DATA (19 R454): the next word of the head packet, which its last word releases. -/
def State.spiOut (s : State) : State :=
  if !s.portsOn then s
  else match s.spi.outQ with
    | [] => { s with spi.miso := 0 }
    | p :: q =>
      let w := BitVec.ofNat 32 (getU (padTo (p.bytes.length + 4) p.bytes) (4 * s.spi.outPos) 4)
      if p.bytes.length ≤ 4 * (s.spi.outPos + 1) then { s with spi.miso := w, spi.outQ := q, spi.outPos := 0 }
      else { s with spi.miso := w, spi.outPos := s.spi.outPos + 1 }

/-- SPI_OUT_DATA_READ. -/
def execSpiOutDataRead (s : State) : Host.Outcome State Fault Refusal := .next s.spiOut

/-- A write to IRQ_STATUS clears the W1C bits written 1: 7, 6, 5, 4, 1 and 0 (Table 19.8). -/
def State.spiIrqStatus (s : State) (w : Word) : State :=
  if s.portsOn then { s with spi.irqStatus := s.spi.irqStatus &&& ~~~(w &&& 0xF3) } else s

/-- SPI_IRQ_STATUS_WRITE. -/
def execSpiIrqStatusWrite (w : BitVec 32) (s : State) : Host.Outcome State Fault Refusal := .next (s.spiIrqStatus w)

/-- A data word written at an address (Table 19.7): IRQ_ENABLE keeps bit 2 set; a read-only or unlisted address ignores
it. -/
def State.spiWrite (s : State) (addr : Nat) (w : Word) (late : Bool) : State :=
  match addr with
  | 0x01 => s.spiIrqStatus w
  | 0x02 => { s with spi.irqEnable := setBit w 2 true }
  | 0x04 => s.spiIn w late
  | _ => s

/-- A data word read at an address (Table 19.7). -/
def State.spiRead (s : State) (addr : Nat) : State :=
  if addr = 0x06 then s.spiOut else { s with spi.miso := s.spiReg addr }

/-- The address of the next word: it stays at IN_DATA and OUT_DATA and advances by one elsewhere (19 R452). -/
def spiNext (addr : Nat) : Nat := if addr = 0x04 ∨ addr = 0x06 then addr else (addr + 1) % 128

/-- The data words of a transaction from an address on (19 R452). -/
def State.spiWords (write late : Bool) : Nat → List Word → State → State
  | _, [], s => s
  | addr, w :: l, s => spiWords write late (spiNext addr) l (if write then s.spiWrite addr w late else s.spiRead addr)

/-- A transaction: its command word of Table 19.6 and the data words completed before CS_N rises, at most N of them.
MISO carries IRQ_STATUS with the command word; a reserved bit that is set makes the module ignore the rest. -/
def State.spiTransaction (s : State) (cmd : Word) (words : List Word) (late : Bool) : State :=
  if !s.portsOn then s
  else
    let c := cmd.toNat
    let t := { s with spi.miso := s.spiReg 0x01 }
    if (c / 2 ^ 11) % 2 ^ 13 ≠ 0 then t
    else t.spiWords (decide (2 ^ 31 ≤ c)) late ((c / 2 ^ 24) % 128) (words.take (c % 2 ^ 11))

/-- SPI_REGISTER_WRITE: a whole transaction, whichever registers its address runs over. -/
def execSpiRegisterWrite (cmd : BitVec 32) (data : SpiData) (s : State) : Host.Outcome State Fault Refusal :=
  .next (s.spiTransaction cmd data.words data.late)

/-- CS_N rises: an incomplete packet is discarded and words are taken again (19 R453). -/
def State.spiCsRise (s : State) : State :=
  if !s.portsOn then s
  else if s.spi.inPart = [] then { s with spi.inDrop := false } else { s.spiDiscard with spi.inDrop := false }

/-- SPI_CS_RISE. -/
def execSpiCsRise (s : State) : Host.Outcome State Fault Refusal := .next s.spiCsRise

/-- 10 ms pass without a word of a partial packet (19 R453). -/
def State.spiInTimeout (s : State) : State :=
  if s.portsOn && s.spi.inPart != [] && s.past10ms s.spi.inAt then s.spiDiscard else s

/-- SPI_IN_TIMEOUT. -/
def execSpiInTimeout (s : State) : Host.Outcome State Fault Refusal := .next s.spiInTimeout

end Sys2Proof.Machine
end

