-- ==== Sys2Proof/Machine/Security.lean ====
section
/-!
DEFINITION. Keys, the tamper circuit, seals and reading of the journal, firmware staging and activation, attestation and
re-provisioning (20_security_and_journal.md).
-/

namespace Sys2Proof.Machine

/-! ### Firmware -/

/-- A big-endian byte string as a number (R457). -/
def beNat (bs : List Byte) : Nat := leNat bs.reverse

/-- A number as 64 bytes, most significant first: X ‖ Y or r ‖ s (R457). -/
def be64 (x : BitVec 512) : List Byte := (toLe 64 x.toNat).reverse

/-- A SHA-256 as a number. -/
def hashNum (bs : List Byte) : BitVec 256 := BitVec.ofNat 256 (beNat (sha256 bs))

/-- FW_STAGE (R466). -/
def opFwStage (_ : Hdr) (p : List Byte) (s : State) : Ans :=
  let off := getU p 0 4
  let data := p.drop 4
  if s.power.st != PowerSt.run || s.sec.fwVerify.isSome then fail s .wrongState
  else if s.sec.tamper then fail s .tamperLatched
  else if (off ≠ 0 && off ≠ s.sec.fwStaged.length) || 2097152 < off + data.length then fail s .outOfRange
  else
    let l := if off = 0 then data else s.sec.fwStaged ++ data
    okAns { s with sec.fwStaged := l } (toLe 4 off ++ toLe 4 l.length) [.firmware]

/-- FW_STAGE. -/
def execFwStage (h : Hdr) (p : List Byte) (s : State) : Host.Outcome State Fault Refusal :=
  .next (runCmd 0x80 opFwStage h p s)

/-- FW_ACTIVATE (R467); while an earlier activation is verified a second is answered WRONG_STATE, as FW_STAGE is. -/
def opFwActivate (h : Hdr) (p : List Byte) (s : State) : Ans :=
  let n := getU p 0 4
  let im := s.sec.fwStaged
  if s.power.st != PowerSt.run || s.grid.mode != Mode.service || s.sec.fwVerify.isSome then fail s .wrongState
  else if s.sec.tamper then fail s .tamperLatched
  else if n ≠ im.length || n ≠ 128 + getU im 16 4 || getU im 0 4 ≠ 0x5A583936 || getU im 4 2 ≠ 1 then fail s .outOfRange
  else { st := .deferred, claims := [.firmware], s := { s with sec.fwVerify := some (hdrRef h 0x81 true) } }

/-- FW_ACTIVATE. -/
def execFwActivate (h : Hdr) (p : List Byte) (s : State) : Host.Outcome State Fault Refusal :=
  .next (runCmd 0x81 opFwActivate h p s)

/-- FW_VERSION of the running image. -/
def State.fwVersion (s : State) : Word := (s.sec.fwSlots.getD s.fwRunning {}).version

/-- An activation ends without a new image: its COMPLETION, with the DETAIL of R468. -/
def State.endVerify (s : State) (final : Status) (reason : Nat) : State :=
  match s.sec.fwVerify with
  | none => s
  | some r =>
    { s with sec.fwVerify := none }.complete r final 0 reason 0
      (w32 s.fwVersion ++ w32 s.fwVersion ++ toLe 2 (getU s.sec.fwStaged 12 2))

/-- Verification is abandoned when the mode leaves SERVICE or the power state leaves RUN (R467). -/
def State.checkVerify (s : State) : State :=
  if s.sec.fwVerify.isSome && (s.grid.mode != Mode.service || s.power.st != PowerSt.run || s.power.phase == .committed) then
    s.endVerify .wrongState 0
  else s

/-- The checks that the sluice makes of a recipe image (04 R92): 8 KiB and CRC-32C, 2 KiB of persistent state, jobs of at most
128 cycles and of class M, P or O, and a worst frame at pause level 7 that leaves 256 cycles. -/
def recipeOk (r : Config.Recipe) : Bool :=
  r.image.length ≤ 8192 && crc32c r.image == r.crc && r.stateBytes ≤ 2048 &&
    r.jobs.all (fun j => j.1 ≤ 128 && j.2 ≤ 2) &&
    (r.anchored || r.worstCycles + (r.worstJobs - 1) * 64 + 256 ≤ 10000)

/-- A firmware image carries the eight recipe images, and each of them passes (04 R92). -/
def recipesOk (l : List Config.Recipe) : Bool := l.length == 8 && l.all recipeOk

/-- Verification ends (R467): signature, rollback floor, decryption, recipes, in this order; an image that passes is marked
TRIAL and the module restarts at the next boundary. -/
def State.verifyEnds (s : State) : State :=
  match s.sec.fwVerify with
  | none => s
  | some r =>
    let im := s.sec.fwStaged
    let secV := getU im 12 2
    let sig := BitVec.ofNat 512 (beNat (slice im 64 64))
    if !Config.vendorFwOk (hashNum (im.take 64 ++ im.drop 128)) sig then s.endVerify .signatureInvalid 0
    else if secV < s.sec.secFloor then s.endVerify .refused 1
    else match Config.decryptFw s.sec.keyEpoch im with
      | none => s.endVerify .signatureInvalid 0
      | some plain =>
        if !recipesOk (Config.recipes plain) then s.endVerify .refused 2
        else
          let old := s.fwVersion
          let new := BitVec.ofNat 32 (getU im 8 4)
          let slot : FwSlot := { version := new, hash := sha256 plain, secVersion := secV }
          let s := s.journal r.port 0x81 0 (w32 old) (w32 new)
          { s with
            sec.fwVerify := none, sec.fwTrial := some r, sec.fwTrialFails := 0, sec.fwOldVersion := old, sec.restart := true
            sec.fwSlots := setAt s.sec.fwSlots (1 - s.sec.fwBoot) slot }

/-- FW_VERIFY_COMPLETE. -/
def execFwVerifyComplete (s : State) : Host.Outcome State Fault Refusal :=
  .next (if s.laneRuns then s.verifyEnds else s)

/-- The result of a boot of the TRIAL slot (R468). -/
def State.trialResult (s : State) (pass : Bool) : State :=
  match s.sec.fwTrial with
  | none => s
  | some r =>
    let slot := s.sec.fwSlots.getD (1 - s.sec.fwBoot) {}
    let detail := fun (now : Word) => w32 s.sec.fwOldVersion ++ w32 now ++ toLe 2 slot.secVersion
    if s.sec.restart then s
    else if pass then
      { s with
        sec.fwTrial := none, sec.fwTrialFails := 0, sec.fwBoot := 1 - s.sec.fwBoot
        sec.secFloor := max s.sec.secFloor slot.secVersion }.complete r .ok 0 0 0 (detail slot.version)
    else if s.sec.fwTrialFails = 0 then { s with sec.fwTrialFails := 1 }
    else
      let s := { s with sec.fwTrial := none, sec.fwTrialFails := 0 }.absorb 17 3 0xFF 0 []
      s.complete r .internal 0 0 0 (detail s.fwVersion)

/-- FW_TRIAL_RESULT. -/
def execFwTrialResult (pass : Bool) (s : State) : Host.Outcome State Fault Refusal := .next (s.trialResult pass)

/-! ### The journal -/

/-- The newest record INDEX; none before the first. -/
def State.newestRecord (s : State) : Option Nat :=
  if s.sec.jLast = [] then none else some (if s.sec.jNext % 64 = 0 then s.sec.jNext - 3 else s.sec.jNext - 1)

/-- The newest INDEX written, seals included. -/
def State.newestIndex (s : State) : Option Nat :=
  s.sec.journal.foldl (fun m e => some (max e.index (m.getD 0))) none

/-- The 64 stored bytes of an entry; a slot not written reads as KIND 0. -/
def State.entryBytes (s : State) (i : Nat) : List Byte :=
  match s.sec.journal.find? (·.index == i) with
  | some e => padTo 64 e.bytes
  | none => zeros 64

/-- JOURNAL_READ (R463). -/
def opJournalRead (_ : Hdr) (p : List Byte) (s : State) : Ans :=
  let from' := getU p 0 4
  let n := (getB p 4).toNat
  match s.newestIndex with
  | none => fail s .outOfRange
  | some top =>
    if n = 0 || 63 < n || top < from' || from' + 4095 < top then fail s .outOfRange
    else
      let k := min n (top + 1 - from')
      let l := (List.range k).map fun i => s.entryBytes (from' + i)
      let bad := l.filter fun e => getB e 0 != 0 && !crcGood 60 e
      okAns (bad.foldl (fun s _ => s.absorb 17 4 0xFF 0 []) s) (toLe 1 k ++ zeros 3 ++ l.flatMap id)

/-- JOURNAL_READ. -/
def execJournalRead (h : Hdr) (p : List Byte) (s : State) : Host.Outcome State Fault Refusal :=
  .next (runCmd 0x90 opJournalRead h p s)

/-- One part of a seal (Table 20.4). -/
def State.sealPart (s : State) (kind index : Nat) (sig : List Byte) : JEntry :=
  { index := index
    bytes := withCrc (toLe 1 kind ++ zeros 2 ++ toLe 1 (pack [(1, 1, bit s.sec.tamper)]) ++ toLe 4 index ++ w32 s.grid.frame ++
      w64 s.grid.plantNs ++ toLe 2 s.sec.keyEpoch ++ zeros 2 ++ sig ++ zeros 4) }

/-- The seal of the oldest group that waits is signed and written (R462). -/
def State.writeSeal (s : State) : State :=
  match s.sec.seals with
  | [] => s
  | g :: rest =>
    let records := (List.range 62).flatMap fun k => s.entryBytes (64 * g + k)
    let sig := if s.sec.tamper then zeros 64 else be64 (Config.signJournal s.sec.keyEpoch (hashNum records))
    let t := { s.nvmAsk { lane := true, left := 2 } with
      sec.seals := rest
      sec.journal := journalPut (journalPut s.sec.journal (s.sealPart 3 (64 * g + 62) (sig.take 32)))
        (s.sealPart 4 (64 * g + 63) (sig.drop 32)) }
    if s.sec.tamper then t.absorb 17 2 0xFF 0 [] else t

/-- JOURNAL_SEAL_WRITE. -/
def execJournalSealWrite (s : State) : Host.Outcome State Fault Refusal := .next (if s.laneRuns then s.writeSeal else s)

/-! ### Attestation -/

/-- `n` free bytes (log entry 2). -/
def State.drawBytes (s : State) : Nat → List Byte × State
  | 0 => ([], s)
  | n + 1 =>
    let (v, t) := s.draw
    let (l, u) := t.drawBytes n
    (BitVec.ofNat 8 v.toNat :: l, u)

/-- JOURNAL_INDEX and JOURNAL_HEAD; before the first record the rules name no value for them. -/
def State.journalHead (s : State) : List Byte × State :=
  match s.newestRecord with
  | some i => (toLe 4 i ++ sha256 s.sec.jLast, s)
  | none => s.drawBytes 36

/-- Bytes 0 to 279 of the statement of Table 20.6, with the journal's part given. -/
def State.statement (s : State) (nonce head : List Byte) : List Byte :=
  let slot := s.sec.fwSlots.getD s.fwRunning {}
  let m := s.estMod.summary.getD {}
  let ew := if m.eFull = 0 then 0xFFFF else roundAway ((10000 * m.eOwn : Nat) / (m.eFull : Rat))
  toLe 1 1 ++ toLe 1 s.ring.position ++ toLe 1 (s.pn P.stringId) ++
    toLe 1 (pack [(0, 1, bit s.isPrimary), (1, 1, bit s.power.clockDegraded)]) ++ w64 s.ploza.serial ++ w32 slot.version ++
    toLe 2 s.sec.secFloor ++ toLe 2 s.sec.keyEpoch ++ w32 s.grid.frame ++ w64 s.grid.plantNs ++ padTo 32 nonce ++
    padTo 32 slot.hash ++ toLe 4 s.ploza.configSeq ++ head ++ toLe 2 m.socMin ++ toLe 1 m.minCell ++ toLe 1 s.cells ++
    toLe 2 (satTo 0xFFFF ew.toNat) ++ toLe 2 m.sigmaMin ++ toLe 4 m.eRem ++
    toLe 2 (if s.isPrimary then s.str.socMin else 0xFFFF) ++ zeros 2 ++
    be64 (Config.identityPub s.sec.keyEpoch) ++ be64 (Config.journalPub s.sec.keyEpoch)

/-- ATTEST (R469). -/
def opAttest (_ : Hdr) (p : List Byte) (s : State) : Ans :=
  if s.power.st != PowerSt.run then fail s .wrongState
  else if s.sec.tamper then fail s .tamperLatched
  else if 2 ≤ s.ploza.attests then fail s .busy
  else
    let (head, t) := s.journalHead
    let body := s.statement p head
    okAns { t with ploza.attests := t.ploza.attests + 1 }
      (body ++ be64 (Config.signIdentity s.sec.keyEpoch (hashNum body)))

/-- ATTEST. -/
def execAttest (h : Hdr) (p : List Byte) (s : State) : Host.Outcome State Fault Refusal :=
  .next (runCmd 0x91 opAttest h p s)

/-! ### Tamper -/

/-- A source is monitored now (Table 20.7). -/
def State.monitored (s : State) (src : Nat) : Bool :=
  let returning := s.power.phase == .returning
  match src with
  | 1 => true
  | 2 => s.clockOn || (returning && decide (3 ≤ s.power.stage))
  | 3 => s.clockOn || (returning && decide (5 ≤ s.power.stage))
  | _ => s.power.st != PowerSt.aphelion

/-- One detection is counted and kept for its journal entry and its notice (R471). -/
def State.noteTamper (s : State) (src : Nat) (value : Int) : State :=
  let erase := src = 1 || s.sec.policy.getLsbD (src - 1)
  let n := bump 0xFFFF (s.sec.tamperCounts.getD (src - 1) 0)
  let r : TamperRec :=
    { source := src, action := bit erase, count := n, value := if src = 4 then value else -32768, frame := s.grid.frame
      time := s.grid.plantNs }
  { s with
    sec.tamperCounts := setAt s.sec.tamperCounts (src - 1) n
    sec.tamperWait := s.sec.tamperWait ++ [r], sec.tamperPend := setAt s.sec.tamperPend (src - 1) (some r) }

/-- The journal entry of one detection, and for RECORD its absorbed event (R471). -/
def State.writeTamper (s : State) (r : TamperRec) : State :=
  let s := s.record 5 1 0 0 r.source (toLe 2 (r.count - 1)) (toLe 2 r.count)
  if r.action = 0 then s.absorb 17 1 0xFF 0 (toLe 1 r.source) else s

/-- The notice of a source, at most one in 10,000 frames, with the count reached (R471). -/
def State.notifyTamper (s : State) (i : Nat) : State :=
  match s.sec.tamperPend.getD i none with
  | none => s
  | some r =>
    let early := match s.sec.tamperNotice.getD i none with
      | some f => decide ((s.grid.validFrames : Int) < f + 10000)
      | none => false
    if early then s
    else
      { s with sec.tamperPend := setAt s.sec.tamperPend i none
               sec.tamperNotice := setAt s.sec.tamperNotice i (some s.grid.validFrames) }.sendNotice
        { sub := 0x04, frame := r.frame, time := r.time, source := s.ring.position
          data := toLe 1 r.source ++ toLe 1 r.action ++ toLe 2 r.count ++ s16 (some r.value) }

/-- What waits in the always-on domain is written and sent once a lane runs (R464, R471). -/
def State.flushTamper (s : State) : State :=
  if s.laneRuns then
    (List.range 4).foldl State.notifyTamper (s.sec.tamperWait.foldl State.writeTamper { s with sec.tamperWait := [] })
  else s

/-- The key store is erased and TAMPER latches (R471); an activation under verification and a re-provisioning under way end
with TAMPER_LATCHED (R467, R474). -/
def State.eraseKeys (s : State) : State :=
  let l := s.sec.reprov.filter fun c => decide (1 < c.payload.length)
  let s := { s with sec.keys := false, sec.tamper := true, sec.reprov := s.sec.reprov.filter fun c => c.payload.length ≤ 1 }
  (l.foldl (fun s c => s.complete (hdrRef c.hdr 0x92 true) .tamperLatched 0 0 0 []) s).endVerify .tamperLatched 0

/-- Sources detected in one clock cycle (R470 to R472): each is recorded; the keys are erased once. -/
def State.tamperDetect (s : State) (sources : BitVec 4) (value : Int) : State :=
  let hit := ([1, 2, 3, 4].filter fun k => sources.getLsbD (k - 1)).filter s.monitored
  let erase := hit.any fun k => k = 1 || s.sec.policy.getLsbD (k - 1)
  let s := if erase then s.eraseKeys else s
  (hit.foldl (fun s k => s.noteTamper k value) s).flushTamper

/-- TAMPER_DETECT. -/
def execTamperDetect (sources : BitVec 4) (value : Int) (s : State) : Host.Outcome State Fault Refusal :=
  .next (s.tamperDetect sources value)

/-! ### Re-provisioning -/

/-- REPROVISION (R474): both steps are answered DEFERRED and complete at the next boundary. -/
def opReprovision (h : Hdr) (p : List Byte) (s : State) : Ans :=
  if s.power.st != PowerSt.run || s.grid.mode != Mode.service then fail s .wrongState
  else { st := .deferred, s := { s with sec.reprov := s.sec.reprov ++ [{ hdr := h, payload := p }] } }

/-- REPROVISION. -/
def execReprovision (h : Hdr) (p : List Byte) (s : State) : Host.Outcome State Fault Refusal :=
  .next (runCmd 0x92 opReprovision h p s)

/-- The checks of step 2 (R474, Table 20.8). -/
def State.tokenGood (s : State) (t : List Byte) : Bool :=
  t.length == 264 && getB t 0 == 1 && slice t 1 3 == zeros 3 &&
    Config.vendorProvOk (hashNum (t.take 200)) (BitVec.ofNat 512 (beNat (slice t 200 64))) &&
    getU t 4 8 == s.ploza.serial.toNat && s.sec.ephemeral && slice t 12 64 == be64 (Config.ephemeralPub s.sec.ephId) &&
    Config.tokenTagOk s.sec.ephId (BitVec.ofNat 1600 (beNat (t.take 200)))

/-- Step 1: a new ephemeral pair (R474). -/
def State.challenge (s : State) (r : DeferRef) : State :=
  let s := { s with sec.ephemeral := true, sec.ephId := s.sec.ephId + 1, sec.ephFrame := s.grid.validFrames }
  s.complete r .ok 0 0 0 (w64 s.ploza.serial ++ be64 (Config.ephemeralPub s.sec.ephId))

/-- Step 2 with a good token: the keys are replaced and TAMPER clears (R474). -/
def State.newKeys (s : State) (r : DeferRef) : State :=
  let old := be64 (Config.identityPub s.sec.keyEpoch)
  let e := (s.sec.keyEpoch + 1) % 65536
  let new := be64 (Config.identityPub e)
  let s := { s with sec.keys := true, sec.keyEpoch := e, sec.tamper := false, sec.ephemeral := false }
  (s.journal r.port 0x92 e old new).complete r .ok 0 0 0 (new ++ be64 (Config.journalPub e) ++ toLe 2 e)

/-- The steps under way complete. -/
def State.reprovSteps (s : State) : State :=
  s.sec.reprov.foldl (fun s c =>
    let r := hdrRef c.hdr 0x92 true
    if c.payload == [0] then s.challenge r
    else if s.tokenGood c.payload then s.newKeys r
    else s.complete r .signatureInvalid 0 0 0 []) { s with sec.reprov := [] }

/-- EPHEMERAL_KEY_EXPIRE (R474): the pair has been held for 36,000,000 frames. -/
def execEphemeralKeyExpire (s : State) : Host.Outcome State Fault Refusal :=
  .next (if decide (36000000 ≤ s.grid.validFrames - s.sec.ephFrame) then { s with sec.ephemeral := false } else s)

end Sys2Proof.Machine
end

