-- ==== Sys2Proof/Machine/Jobs.lean ====
section
/-!
DEFINITION. The jobs of the non-anchored pans: which may run in a window, what each one's outputs do when they are released,
and what a withheld job leaves (04_pan_array.md R98, R101, R103, 05_frame_budget_scheduler.md R111, R112, R129).
-/

namespace Sys2Proof.Machine

/-- The pending instances of slot `k` that may run in this window (R111, 08 R205), by release. -/
def State.runnable (s : State) (k : Nat) : List PInst :=
  byRelease (s.sched.pending.filter fun x => x.slot == k && decide (x.rel ≤ s.sched.no) && !s.waitsSlice x)

/-- The work that slot `k` has still to do in this window, in the order of R112: M jobs in recipe order, P instances without
slack by release, admitted ones with slack by deadline, admitted O jobs in recipe order. -/
def State.workLeft (s : State) (k : Nat) : List Work :=
  let l := s.runnable k
  let undone := fun (j : JobKind) => !s.sched.done.contains (k, j)
  let admitted := fun (x : Work) => s.gov.admitted.contains x
  ((mJobs k).filter undone).map (workOf k) ++ (l.filter (·.due s.sched.no)).map PInst.work ++
    (byDeadline (l.filter fun x => !x.due s.sched.no && admitted x.work)).map PInst.work ++
    ((oJobs k).filter fun j => undone j && admitted (workOf k j)).map (workOf k)

/-- The job is the next of its slot (R112). A withheld P instance, which stays pending, is passed over (04 R103). -/
def State.mayRun (s : State) (k : Nat) (j : JobKind) : Bool :=
  jobInSlot k j && ((s.workLeft k).filter fun x => !s.sched.passed.contains x).head?.any fun x => x.job == j

/-- The outputs of a job are released. Statistics, trends and self-tests have no effect that the rules name. -/
def State.runJob (s : State) (k : Nat) : JobKind → State
  | .cellScale => s.scaleJob k false
  | .blended => s.stepJob k
  | .specBin => s.specJob k
  | .health => s.healthJob k
  | .cellStats => s
  | .currentAgg => s.currentAggJob
  | .plausibility => s.plausibilityJob.sumHarvest
  | .summary => s.summaryJob
  | .powerLimits => s.powerLimitsJob
  | .stringFigures => s.stringJob
  | .coherence => s.coherenceJob
  | .crossSpec => s.crossJob
  | .thermo => s.thermoJob
  | .pattern => s.patternJob
  | .slotPlan => s.slotPlanJob
  | .refine => s.refineJob
  | .openWire => s.openWireJob
  | .leadR => s.leadRJob
  | .strapCheck => s.strapJob
  | .threshCheck => s.threshJob
  | .selfTest => s
  | .eventWrite => s.eventWriteJob

/-- The outputs of a job are withheld (R103): the values of the previous frame stand, with HELD where they carry it. -/
def State.holdJob (s : State) (k : Nat) : JobKind → State
  | .cellScale => s.scaleJob k true
  | .blended => s.holdStep k
  | .currentAgg => s.holdCurrent
  | _ => s

/-- The P instance that runs next of job `j` in slot `k`. -/
def State.nextInstance (s : State) (k : Nat) (j : JobKind) : Option PInst :=
  match (s.workLeft k).find? fun x => x.job == j && !s.sched.passed.contains x with
  | some x => s.sched.pending.find? fun y => y.work == x
  | none => none

/-- A P instance has run and leaves the pending list; one whose outputs were withheld stays, for a later window (04 R103). -/
def State.takeInstance (s : State) (k : Nat) (j : JobKind) (held : Bool) : State :=
  match s.nextInstance k j with
  | some x => if held then { s with sched.passed := x.work :: s.sched.passed } else { s with sched.pending := s.sched.pending.erase x }
  | none => s

/-- A job is done: a P instance that was withheld stays pending (R103). -/
def State.noteDone (s : State) (k : Nat) (j : JobKind) (held : Bool) : State :=
  if jobClass j = 1 then s.takeInstance k j held
  else { s with sched.done := (k, j) :: s.sched.done }

/-- The flags of R90 in the pan's window, and with its last job those of the completed window (Table 4.6). -/
def State.jobFlags (s : State) (p : Nat) (r : JobRes) : State :=
  s.modPan p fun x =>
    let f := x.flagRun ||| BitVec.ofNat 3 (pack [(2, 1, bit r.sat), (1, 1, bit r.ufl), (0, 1, bit r.accSat)])
    if r.last then { x with sat := f.getLsbD 2, ufl := f.getLsbD 1, accSat := f.getLsbD 0, flagRun := 0 }
    else { x with flagRun := f }

/-- Corrected data-memory errors of a pan; more than 16 within 36,000,000 frames are a hard fault (04 R101). -/
def State.eccErrors (s : State) (p n : Nat) : State :=
  if n = 0 then s
  else
    let now := s.grid.validFrames
    let s := s.modPan p fun x =>
      { x with eccFrames := (List.replicate (min n 256) now ++ x.eccFrames.filter fun t => now < t + 36000000).take 256 }
    if 16 < (s.panAt p).eccFrames.length then s.panFails p .eccRate else s

/-- PAN_JOB_COMPLETE (04 R98, R101, R103, 05 R112, R129): the overrun of a job is an absorbed event with the role and the job;
the signatures are compared; the outputs are released, or withheld and kept in the output queue; after the last job a role
whose shadow has agreed counts as shadowed. -/
def State.jobDone (s : State) (p k : Nat) (j : JobKind) (r : JobRes) : State :=
  let s := if r.overrun then s.absorb 3 3 p 0 (toLe 1 k ++ toLe 1 (jobNo j)) else s
  let s := (s.eccErrors p r.ecc).compare k p r.sig
  let held := (s.panAt p).withheld
  let s := (if held then (s.holdJob k j).modPan p fun x => { x with queue := x.queue ++ [(k, j)] } else s.runJob k j)
  let s := (s.noteDone k j held).jobFlags p r
  if r.last && !held && (s.shadowerOf k).isSome then s.shadowed k else s

/-- PAN_JOB_COMPLETE. -/
def execPanJobComplete (pan : Nat) (job : JobKind) (res : JobRes) (s : State) : Host.Outcome State Fault Refusal :=
  if panOk pan then
    .next (match s.roleOf pan with
      | some k => if s.sched.windowOpen && s.clockOn && s.mayRun k job then s.jobDone pan k job res else s
      | none => s)
  else .fault .noSuchUnit

end Sys2Proof.Machine
end

