-- ==== Sys2Proof/Machine/Boundary.lean ====
section
/-!
DEFINITION. The frame boundary (01_one_frame.md R26 to R31): the changes that the module makes on its own account, the
commands in port order, the values of a COMMIT, role moves, the governor decision and the opening of the compute window;
RESET (17_ploza_protocol.md R505).
-/

namespace Sys2Proof.Machine

/-! ### RESET -/

/-- RESET (R505): accepted in SERVICE. -/
def opReset (h : Hdr) (p : List Byte) (s : State) : Ans :=
  if s.grid.mode != Mode.service then fail s .wrongState
  else if getU p 0 4 ≠ 0xA55A then fail s .outOfRange
  else okAns ({ s with sec.restart := true }.journal h.port 0xF0 0 (toLe 1 s.laneNo) (toLe 1 s.laneNo))

/-- Each command still answered DEFERRED completes as SUPERSEDED, but for the activation whose image now starts (R505,
20 R468). -/
def State.supersedeDeferred (s : State) : State :=
  s.ploza.deferred.foldl (fun s d =>
    if s.sec.fwTrial.any fun r => r.opcode == d.opcode && r.seq == d.seq && r.port == d.port then s
    else s.complete { opcode := d.opcode, seq := d.seq, port := d.port, deferred := true } .superseded 0 0 0 []) s

/-- Before the controller domain restarts (R505 steps 1 and 2), and the restart. -/
def State.resetTail (s : State) : State :=
  let s := s.supersedeDeferred
  let s := if s.bal.st == FnState.off then s else s.complete (s.bal.stopBy.getD {}) .ok 0 0 6 s.balDetail
  s.writeAll.restart

/-- RESET. -/
def execReset (h : Hdr) (p : List Byte) (s : State) : Host.Outcome State Fault Refusal :=
  .next (
    let t := runCmd 0xF0 opReset h p s
    if t.sec.restart && !s.sec.restart then t.resetTail else t)

/-! ### Commands -/

/-- The state of an outcome; every command of Table 17.12 answers a next state. -/
def outState (s : State) : Host.Outcome State Fault Refusal → State
  | .next t => t
  | _ => s

/-- A DIAG by its SUB (Table 17.16). -/
def runDiag (sub : Nat) (h : Hdr) (p : List Byte) (s : State) : State :=
  outState s (match sub with
    | 0x01 => execDiagDieTemp h p s
    | 0x02 => execDiagCurCal h p s
    | 0x03 => execDiagFaultClear h p s
    | 0x04 => execDiagProtEvents h p s
    | 0x05 => execDiagCellReset h p s
    | 0x06 => execDiagThermoCal h p s
    | 0x07 => execDiagAbsorbedEvents h p s
    | 0x08 => execDiagPowerTest h p s
    | _ => .next s)

/-- A command by its opcode (Table 17.12). -/
def runOpcode (op : Nat) (h : Hdr) (p : List Byte) (s : State) : State :=
  outState s (match op with
    | 0x01 => execPing h p s
    | 0x02 => execIdentify h p s
    | 0x03 => execHealth h p s
    | 0x10 => execParamGet h p s
    | 0x11 => execParamSet h p s
    | 0x12 => execCommit h p s
    | 0x13 => execDiscard h p s
    | 0x14 => execTableWrite h p s
    | 0x15 => execTableRead h p s
    | 0x20 => execPowerState h p s
    | 0x21 => execWakeRecord h p s
    | 0x22 => execMode h p s
    | 0x30 => execConvEnable h p s
    | 0x31 => execConvDisable h p s
    | 0x32 => execConvSetpoint h p s
    | 0x33 => execConvFaultRecord h p s
    | 0x40 => execBalPlan h p s
    | 0x41 => execBalStop h p s
    | 0x50 => execEisStart h p s
    | 0x51 => execEisResult h p s
    | 0x52 => execEisAbort h p s
    | 0x60 => execSnapshot h p s
    | 0x61 => execStreamConfig h p s
    | 0x80 => execFwStage h p s
    | 0x81 => execFwActivate h p s
    | 0x90 => execJournalRead h p s
    | 0x91 => execAttest h p s
    | 0x92 => execReprovision h p s
    | 0xA0 => execRingStatus h p s
    | 0xA1 => execRingEnumerate h p s
    | 0xB0 => execSafetyStatus h p s
    | 0xB1 => execSafetyReset h p s
    | 0xE0 => execEclipseSwap h p s
    | 0xF0 => .next (runCmd 0xF0 opReset h p s)
    | 0xF1 => .next (runDiag (getB p 0).toNat h (p.drop 1) s)
    | _ => .next s)

/-- One packet of the inboxes executes. -/
def State.runPacket (s : State) (e : InboxPkt) : State :=
  match parseRequest e.bytes with
  | some r => runOpcode r.opcode.toNat { port := e.port, target := r.target, seq := r.seq, flags := r.flags } r.payload s
  | none => s

/-- A latched enable whose function has reached OFF, with what the drain's COMPLETION says. -/
structure LatchDue where
  opcode : Nat
  cmd : LatchedCmd
  ref : DeferRef
  cause : Nat
  detail : List Byte
  deriving DecidableEq, Repr

/-- The latched enables whose functions reach OFF at this boundary (17 R422). -/
def State.latchesDue (s : State) : List LatchDue :=
  let conv := match s.conv.latched with
    | some c =>
      if s.conv.st == FnState.draining && s.conv.drainDone && !s.conv.toOff then
        [{ opcode := 0x30, cmd := c, ref := s.conv.drainBy.getD {}, cause := s.conv.drainCause, detail := [] : LatchDue }]
      else []
    | none => []
  let bal := match s.bal.latched with
    | some c =>
      if s.bal.st == FnState.draining && s.balAllOpen then
        [{ opcode := 0x40, cmd := c, ref := s.bal.stopBy.getD {}, cause := s.bal.endCause, detail := s.balDetail : LatchDue }]
      else []
    | none => []
  let eis := match s.eis.latched with
    | some c =>
      if s.eis.st == FnState.off then
        [{ opcode := 0x50, cmd := c, ref := s.eis.stopBy.getD {}, cause := s.eis.endCause
           detail := toLe 1 s.eis.sweepId ++ toLe 2 s.eis.blocks : LatchDue }]
      else []
    | none => []
  conv ++ bal ++ eis

/-- A latched enable executes with every check; one that a command of this boundary has cancelled gives OUTCOME 2 (17
R422). -/
def State.runLatchDue (s : State) (d : LatchDue) : State :=
  let (s, out) := match d.opcode with
    | 0x30 =>
      if s.conv.latched.isSome then { s with conv.latched := none }.runLatched d.cmd opConvEnable
      else ({ s with conv.enableOutcome := (0, 0) }, (2, 0))
    | 0x40 =>
      if s.bal.latched.isSome then { s with bal.latched := none }.runLatched d.cmd opBalPlan
      else ({ s with bal.enableOutcome := (0, 0) }, (2, 0))
    | _ =>
      if s.eis.latched.isSome then { s with eis.latched := none }.runLatched d.cmd (opEisStart none)
      else ({ s with eis.enableOutcome := (0, 0) }, (2, 0))
  s.complete d.ref .ok out.1 out.2 d.cause d.detail

/-- The commands that take part in the present boundary, port by port in the order of Table 17.4 and in order of arrival
within a port; a latched enable takes its port's place, ahead of the packets that came after it (17 R414, R422, R27). -/
def State.runDue (s : State) (latches : List LatchDue) : State :=
  let due := s.lanes.inbox.filter fun e => !frameLater e.frame s.grid.frame
  let s := { s with lanes.inbox := s.lanes.inbox.filter fun e => frameLater e.frame s.grid.frame }
  [Port.ring, .spi, .canA, .canB].foldl (fun s p =>
    (due.filter (·.port == p)).foldl State.runPacket
      ((latches.filter (·.cmd.hdr.port == p)).foldl State.runLatchDue s)) s

/-! ### The module's own changes -/

/-- MODE and the contactors (15 R371, 00 R504). -/
def State.contactorMode (s : State) : State :=
  let s := match s.safe.opened with
    | some .other => ({ s with safe.opened := none }.boundaryMode .service).requestContactors false
    | _ => { s with safe.opened := none }
  match s.grid.deferredMode with
  | some d =>
    if d.target == Mode.standby then
      match d.refused with
      | some c => { s with grid.deferredMode := none }.complete d.ref .refused 0 c 0 []
      | none =>
        if d.done then { s with grid.deferredMode := none, grid.mode := .standby }.complete d.ref .ok 0 0 0 [] else s
    else s
  | none => s

/-- A deferred MODE SERVICE ends with the converter OFF; when its command began the drain, the drain's notice serves both
(11 R269, 17 R419). -/
def State.serviceDone (s : State) (told : Option DeferRef) : State :=
  match s.grid.deferredMode with
  | some d =>
    if d.target == Mode.service && s.conv.st == FnState.off then
      let s := { s with grid.deferredMode := none, grid.mode := .service }.requestContactors false
      if told = some d.ref then s else s.complete d.ref .ok 0 0 0 []
    else s
  | none => s

/-- The converter reaches OFF after a stop or a complete drain (11 R267, R268, R270, R273); after a drain with a latched
enable the COMPLETION waits for its outcome (17 R422). -/
def State.convReachesOff (s : State) : State :=
  let stop := s.conv.toOff
  let drained := s.conv.st == FnState.draining
  let ref := s.conv.drainBy.getD {}
  let cause := s.conv.drainCause
  let waits := s.conv.latched.isSome && !stop
  let out := if stop && s.conv.latched.isSome then (3, 0) else s.conv.enableOutcome
  let s := if stop then { s.convOff.lawReset with conv.latched := none } else s.convOff
  let s := { s with conv.drainBy := none, conv.enableOutcome := (0, 0) }
  let s := if drained && !waits then s.complete ref .ok out.1 out.2 cause [] else s
  s.serviceDone (if drained then some ref else none)

/-- The converter's changes of state at a boundary (11 R253, R266, R267, R270 to R272). -/
def State.convBoundary (s : State) : State :=
  let s :=
    if s.conv.st != FnState.off && (s.conv.toOff || (s.conv.st == FnState.draining && s.conv.drainDone)) then s.convReachesOff
    else { s with conv.toOff := false }.serviceDone none
  let s :=
    if s.conv.toHiccup && (s.conv.st == FnState.on || s.conv.st == FnState.starting) then
      { s with conv.st := .starting, conv.hiccup := true, conv.toHiccup := false }
    else if s.conv.ssReached && s.conv.st == FnState.starting then
      { s with conv.st := .on, conv.hiccup := false, conv.ssReached := false, conv.ssActive := false, conv.ssLimit := 0 }
    else s
  (s.checkOwner.configurePhases).releaseHwLatch

/-! ### Step 2: a COMMIT takes effect -/

/-- Channels above N assert nothing, and no more does a front end that is powered down (02 R37, R38, 10 R238). -/
def State.downOutputs (s : State) : State :=
  let s : State := { s with fe := s.fe.zipIdx.map fun ((f, i) : Fe × Nat) =>
    let live : BitVec 16 := ofBits 16 fun c => decide (16 * i + c < s.cells)
    { f with ovOut := f.ovOut &&& live, uvOut := f.uvOut &&& live } }
  let m : BitVec 7 := ofBits 7 fun i => s.feActive (i + 1)
  let s : State := { s with prot.feOv := s.prot.feOv &&& m, prot.feUv := s.prot.feUv &&& m }
  let s := if s.prot.feOv = 0 then s.withdrawCause 31 else s
  if s.prot.feUv = 0 then s.withdrawCause 30 else s

/-- CFE_ROLE (03 R63): with NONE the CFE is powered down and asserts nothing; a CFE that powers up is relinked. -/
def State.commitCfe (s : State) : State :=
  if s.hasCfe then
    if s.cfe.linkUp || s.cfe.relinking || s.cfe.lost then s
    else { s with cfe.relinking := true, cfe.attempt := true, cfe.relinkTries := 0 }
  else
    ({ s with
        cfe.linkUp := false, cfe.relinking := false, cfe.attempt := false, cfe.lost := false, cfe.lineDown := false
        cfe.badRun := 0, cfe.heldRun := 0, cfe.iHeld := false, cfe.iInvalid := true, cfe.vstrInvalid := true
        cfe.fastOk := false }.withdrawCause 29).withdrawCause 28

/-- CELL_COUNT (02 R37, 04 R94, 07 Table 7.6, 08 R205, 09 R219): the front ends, roles and slices of the cells in use. -/
def State.commitCells (s : State) : State :=
  let s := (s.endSweep 9 none).stopWatch.balDrain 5 none
  let s := (List.range 6).foldl (fun s i =>
    let k := i + 1
    if s.feActive k then
      if (s.feAt k).poweredDown then (s.modFe k fun f => { f with poweredDown := false }).startRelink k else s
    else s.modFe k fun f =>
      { f with poweredDown := true, linkUp := false, relinking := false, attempt := false, lineDown := false, faultChDown := false
               lost := false, buf := [], swNow := 0, swNext := 0, owNow := none, owNext := none
               strapBad := 0, strapFault := false }) s
  let s := (List.range 96).foldl (fun s i =>
    if s.cells ≤ i then s.modChan (i + 1) Chan.invalidate
    else if (s.sliceAt (i + 1)).vals == [] then s.wantSlice (i + 1) else s) s
  s.linksUp.downOutputs.fitRoles

/-- The protection set (01 R29, 10 R246): written to the dies at the strobe two frames later. Any COMMIT in SERVICE writes a
good set with its image. -/
def State.commitProtection (s : State) : State :=
  { s with prot.image := s.paramThrSet, prot.imageBad := false, prot.setPending := some s.paramThrSet, prot.setAge := 2 }.withdrawCause 23

/-- Parameters of the governor that decide its thermal state (05 R120, Table 5.4). -/
def thermalIds : List Nat := [P.tThrottle, P.tHot, P.tCrit, P.thermalHyst, P.pauseStep, P.riseLimit, P.feTjLimit, P.balMaxModule,
  P.modulePowerCap, P.eisEnergyCap]

/-- One effect of a commit, when one of its parameters was committed. -/
def State.commitStep (s : State) (due : Bool) (f : State → State) : State := if due then f s else s

/-- TAMPER_POLICY takes effect (20 R471). -/
def State.commitPolicy (s : State) : State := { s with sec.policy := BitVec.ofNat 4 (s.pn P.tamperPolicy) }

/-- A committed set is applied (R26 step 2); a parameter not named here takes effect where its rule reads it. -/
def State.applyCommit (s : State) : State :=
  let ids := s.grid.commitIds
  let has := fun (l : List Nat) => ids.any l.contains
  let page := fun (n : Nat) => ids.any fun i => i / 256 == n
  { s with grid.commitIds := [] }.commitStep (has [P.cellCount]) State.commitCells
    |>.commitStep (has [P.cfeRole, P.shuntUohm, P.eisThermoHz]) (fun s => (s.endSweep 9 none).stopWatch)
    |>.commitStep (has [P.cfeRole]) State.commitCfe
    |>.commitStep (has [P.owAction]) State.owOpenCause
    |>.commitStep (has [P.estMode]) State.applyEstMode
    |>.commitStep (has [P.cellRatedAh]) (fun s => s.initCells false false)
    |>.commitStep (ids.any (fun i => 0x0800 ≤ i && i ≤ 0x0806) || (ids != [] && s.prot.imageBad && s.grid.mode == Mode.service))
        State.commitProtection
    |>.commitStep (page 0x0D) State.loadSafetySet
    |>.commitStep (has [P.eclipsePeriodH]) State.commitEclipse
    |>.commitStep (has [P.ringPosSrc]) State.commitPosition
    |>.commitStep (has [P.ringTimeSrc] && s.pn P.ringTimeSrc == 0 && s.isPrimary) (fun s => { s with ring.timeSrc := 0 })
    |>.commitStep (has thermalIds) State.evalThermal
    |>.commitStep (page 0x0F) (fun s => ((s.canConfigure false).canConfigure true).trimStreams)
    |>.commitStep (has [P.tamperPolicy]) State.commitPolicy

/-- Step 3: a mode other than ACTIVE drains the converter (11 Table 11.3), and the output registers take their levels:
contactor request, converter enable, setpoint target and law mode (14 R332). -/
def State.applyOutputs (s : State) : State :=
  let s := if s.grid.mode != Mode.active && (s.conv.st == FnState.starting || s.conv.st == FnState.on) then s.beginDrain 2 none
    else s
  { s.driveContactors s.lanes.closeReq with
    conv.enabled := s.conv.st == FnState.starting || s.conv.st == FnState.on
    law.outMode := s.law.newMode, law.outTarget := s.law.target
    law.modeChange := s.law.newMode != s.law.mode }

/-- The role moves, each with the load of its slices (08 R204, R205). -/
def State.movesAndSlices (s : State) : State :=
  let was := s.slot.map (·.pan)
  let s := s.completeMoves
  (List.range 32).foldl (fun s k =>
    if (s.slotAt k).pan.isSome && (s.slotAt k).pan != was.getD k none then s.reloadSlices k else s) s

/-- Steps 1 to 4 of R26, which a lane in charge carries out; the notices raised in them follow the replies (19 R448). -/
def State.lanePart (s : State) : State :=
  let s := { s with ploza.holdNotices := true }.contactorMode
  let latches := s.latchesDue
  let s := s.convBoundary.balReachesOff.reprovSteps.reportPower
  let s := (s.runDue latches).applyCommit.applyOutputs.checkVerify.movesAndSlices
  { s with ploza.holdNotices := false }.flushNotices

/-- `f` as of a boundary `n` frames back (R26, 14 R340): frame number, plant time and frame count are those of that frame. -/
def State.asOf (n : Nat) (f : State → State) (s : State) : State :=
  let m := min n s.grid.validFrames
  let t := f { s with
    grid.frame := s.grid.frame - BitVec.ofNat 32 n, grid.plantNs := s.grid.plantNs - BitVec.ofNat 64 (100000 * n)
    grid.validFrames := s.grid.validFrames - m }
  { t with
    grid.frame := t.grid.frame + BitVec.ofNat 32 n, grid.plantNs := t.grid.plantNs + BitVec.ofNat 64 (100000 * n)
    grid.validFrames := t.grid.validFrames + m }

/-- A boundary begins with nothing claimed (17 R415) and no attestation yet (20 R462). -/
def State.freshBoundary (s : State) : State := { s with ploza.claims := [], ploza.attests := 0 }

/-- The die diode is read at multiples of 1,000 frames, and every 10 while DIODE_BAD (05 R117, R119). -/
def State.dieDemand (s : State) : State :=
  let n := s.grid.validFrames
  let k := s.windowFrames
  let grid := n % 1000 = 0 || n / 1000 ≠ (n - k) / 1000
  let s := if grid then s.startConversion true else s
  if s.gov.diodeBad then
    if 10 ≤ s.gov.sinceBadRead + k then { s.startConversion false with gov.sinceBadRead := 0 }
    else { s with gov.sinceBadRead := s.gov.sinceBadRead + k }
  else s

/-- Boundaries that passed in a gap are carried out as of their own frames, with their demand for a die reading, and their
telemetry is skipped (14 R340, R342, 05 R117). -/
def State.replay (s : State) : State :=
  let n := min 20 ((s.grid.frame - s.lanes.lastBoundary).toNat - 1)
  let l := ((List.range n).map (· + 1)).reverse.filter fun k =>
    s.power.st != PowerSt.watch || (s.grid.frame - BitVec.ofNat 32 k).toNat % 10 == 0
  let t := (l.foldl (fun s k => s.asOf k fun s => s.freshBoundary.lanePart.dieDemand) s).skipRecords l.length
  { t with ploza.claims := s.ploza.claims, ploza.attests := 0 }

/-! ### The window opens -/

/-- Cells of a role whose outputs of the last window never came repeat with HELD, as a P job due in it does (04 R103). -/
def State.holdUndone (s : State) : State :=
  (s.activeSlots.filter fun k => (s.slotAt k).held).foldl (fun s k =>
    let s := if k < 32 && !s.sched.done.contains (k, .cellScale) then s.scaleJob k true else s
    let s := if k = 32 && !s.sched.done.contains (k, .currentAgg) then s.holdCurrent else s
    if s.sched.pending.any fun x => x.slot == k && x.job == .blended && x.due s.sched.no then s.holdStep k
    else s) s

/-- The sample that the next window processes: the oldest that waits, else that of the frame before (R19, 05 R128). -/
def State.nextStamp (s : State) : Word :=
  let l := if s.sched.window = 0 then [] else s.waitingStamps
  match l with
  | [] => s.grid.frame - 1
  | t :: rest => rest.foldl (fun a b => if frameLater a b then b else a) t

/-- The pans of a new window: outputs withheld in the last one are released afresh, except that in a lane gap those of a role
that waits for its move stay withheld (04 R106). -/
def State.freshPans (s : State) (lane : Bool) : State :=
  { s with pan := s.pan.map fun (p : Pan) =>
      let waits := !lane && p.withheld && p.role < 40 && !(34 ≤ p.role && p.role ≤ 36) &&
        ((s.slotAt p.role).moveTo.isSome || s.sluice.arbs.any fun a => a.slot == p.role && !a.started)
      if (p.st == .active || p.st == .referee) && !waits then { p with withheld := false, flagRun := 0, queue := [] } else p }

/-- A window opens: stamp, tail and backlog (05 R128, R131, R135, R136). The windows that did not open since the last one,
their samples being discarded, count with it (05 R113). -/
def State.startWindow (s : State) (lane : Bool) (lateNs : Nat) : State :=
  let t := s.nextStamp
  let tail := decide (0 < lateNs)
  let n := 1 + s.sched.skipped
  let s := s.freshPans lane
  let s := { s with
    fe := s.fe.map fun (f : Fe) => { f with buf := f.buf.filter fun x => !frameLater t x.stamp }
    cfe.buf := s.cfe.buf.filter fun x => !frameLater t x.stamp
    sched.stamp := t }
  let back := s.backlogNow
  { s with
    sched.windowOpen := true, sched.window := s.sched.window + n * s.windowFrames, sched.no := s.sched.no + n, sched.skipped := 0
    sched.calm := s.sched.calm + 1, sched.isComet := false
    sched.done := [], sched.passed := [], sched.lateNs := lateNs, sched.inTail := tail, sched.backlog := back
    sched.tailLen := if tail then s.sched.tailLen + 1 else 0
    sched.maxBacklog := if tail then max s.sched.maxBacklog back else 0
    sched.lastRoles := if tail then s.sched.lastRoles else [] }

/-- The decision for the window (R26 step 5): the governor's; in the protection-only state pause level 7 with M work and P
without slack only (14 Table 14.7 and R348); in a gap the last one (05 R115), transit checks included. -/
def State.takeDecision (s : State) (lane : Bool) : State :=
  if s.lanes.protOnly then
    { s.releaseFor s.sched.window with
      gov.admitted := [], gov.pause := 7, gov.oStopped := true, gov.slackPStopped := true, gov.excPermit := false
      gov.transit := [] }.startShadows false []
  else
    let s := s.applyDecision lane s.sched.inTail
    s.startShadows (s.gov.transit != []) s.gov.transit

/-- What the pan array does with the new window, whoever is in charge. Without a planner every pattern is all-open (04
R104); while its role is only being moved the last pattern stands (09 R231). -/
def State.windowWork (s : State) : State :=
  let s := s.balReadback
  let x := s.slotAt 38
  if x.lost || x.suspended || x.pan.isNone then s.setPattern [] [] else s

/-- What the lane in charge does beside the window (R31, 03 to 20). -/
def State.laneWork (s : State) : State :=
  let s := s.balReport.balBoundary.dieDemand.sweepBoundary.watchBoundary.ringBoundary.swapBoundary
  let s := (((s.canConfigure false).canConfigure true).canFilter false).canFilter true
  let s := ((s.readRing false false).readRing true false).flushTamper.flushNotices.streamRecords
  { s with
    grid.firstValid := s.grid.firstValid || s.power.phase == .settled
    power.framesSinceStart := min 1000 (s.power.framesSinceStart + s.windowFrames)
    lanes.lastBoundary := s.grid.frame }

/-- What the power controller does at a boundary (16 R390, R394, R401). -/
def State.powerBoundary (s : State) : State := s.recoveryBoundary.handshakeStep.wakeBoundary.watchSettles

/-- A takeover that is complete ends the gap, and the boundaries that passed in it are carried out first (14 R340). -/
def State.gapEnds (s : State) : State :=
  if s.lanes.valid && s.lanes.takeoverDone && s.lanes.gap && !s.lanes.protOnly then
    { s with lanes.gap := false, lanes.takeoverDone := false }.replay
  else s

/-- The steps of R26 at a boundary, those of the lane in charge only while one carries out boundaries. -/
def State.stepsOf (lane : Bool) (lateNs : Nat) (s : State) : State :=
  let s := if lane then s.holdUndone.lanePart.takeSlices else s.holdUndone.anchoredMoves
  let s := ((s.startWindow lane lateNs).takeDecision lane).windowWork
  if lane then s.laneWork.sendMirror else s

/-- The boundary with the frame number it belongs to. -/
def State.boundaryBody (lateNs : Nat) (s : State) : State :=
  let s := s.freshBoundary.powerBoundary.gapEnds
  s.stepsOf s.laneRuns lateNs

/-- FRAME_BOUNDARY (R26): of a window not yet reported as ended, the end comes with it, and no offending role is named (05 R134). `lateNs` after the nominal instant
the boundary can fall in a later frame than its own (05 R128). In WATCH only frames that are multiples of 10 have one (16
R381). -/
def State.boundary (s : State) (lateNs : Nat) : State :=
  let back := (lateNs + 8000) / 100000
  if !s.clockOn || (s.power.st == PowerSt.watch && (s.grid.frame - BitVec.ofNat 32 back).toNat % 10 != 0) then s
  else
    let s := if s.sched.windowOpen then { s.closeWindow with sched.discarded := false } else s
    let t := s.asOf back (State.boundaryBody lateNs)
    if t.sec.restart && t.laneRuns then t.resetTail else t

/-- FRAME_BOUNDARY. -/
def execFrameBoundary (lateNs : Nat) (s : State) : Host.Outcome State Fault Refusal := .next (s.boundary lateNs)

end Sys2Proof.Machine
end

