-- ==== Sys2Proof/Machine/Dispatch.lean ====
section
/-!
DEFINITION. One arm per command, each one direct call of its meaning.
-/

namespace Sys2Proof.Machine

def exec (i : Instr) (s : State) : Host.Outcome State Fault Refusal :=
  match i with
  | .sampleStrobe ntc => Sys2Proof.Machine.execSampleStrobe ntc s
  | .frameBoundary lateNs => Sys2Proof.Machine.execFrameBoundary lateNs s
  | .governorDecision => Sys2Proof.Machine.execGovernorDecision s
  | .panJobComplete pan job res => Sys2Proof.Machine.execPanJobComplete pan job res s
  | .computeWindowEnd lastSlot lateNs => Sys2Proof.Machine.execComputeWindowEnd lastSlot lateNs s
  | .comet => Sys2Proof.Machine.execComet s
  | .scheduleFault => Sys2Proof.Machine.execScheduleFault s
  | .oWorkResume => Sys2Proof.Machine.execOWorkResume s
  | .transitSuspended => Sys2Proof.Machine.execTransitSuspended s
  | .controlSubperiod sub phaseUv busUv gdLow lineLow => Sys2Proof.Machine.execControlSubperiod sub phaseUv busUv gdLow lineLow s
  | .controlOutput late34 late35 late36 sig34 sig35 sig36 => Sys2Proof.Machine.execControlOutput late34 late35 late36 sig34 sig35 sig36 s
  | .loopFault slot => Sys2Proof.Machine.execLoopFault slot s
  | .loopImplausible => Sys2Proof.Machine.execLoopImplausible s
  | .safeLawGatesOff => Sys2Proof.Machine.execSafeLawGatesOff s
  | .feFramePacket fe bytes clipLo clipHi => Sys2Proof.Machine.execFeFramePacket fe bytes clipLo clipHi s
  | .cfeSubsamplePacket idx bytes => Sys2Proof.Machine.execCfeSubsamplePacket idx bytes s
  | .cfeFramePacket bytes => Sys2Proof.Machine.execCfeFramePacket bytes s
  | .backChannelMessage fe ok => Sys2Proof.Machine.execBackChannelMessage fe ok s
  | .backChannelCutoff => Sys2Proof.Machine.execBackChannelCutoff s
  | .portLineDown fe faultCh => Sys2Proof.Machine.execPortLineDown fe faultCh s
  | .feLinkFault fe => Sys2Proof.Machine.execFeLinkFault fe s
  | .relinkAttemptEnd fe delayNs => Sys2Proof.Machine.execRelinkAttemptEnd fe delayNs s
  | .relinkRetry fe => Sys2Proof.Machine.execRelinkRetry fe s
  | .strobeDelayMeasure delays => Sys2Proof.Machine.execStrobeDelayMeasure delays s
  | .feSupplyChangeover fe => Sys2Proof.Machine.execFeSupplyChangeover fe s
  | .feAuxReturn fe => Sys2Proof.Machine.execFeAuxReturn fe s
  | .stackKeepaliveTest fe pass => Sys2Proof.Machine.execStackKeepaliveTest fe pass s
  | .comparatorAssert fe ch ov => Sys2Proof.Machine.execComparatorAssert fe ch ov s
  | .comparatorRelease fe ch ov => Sys2Proof.Machine.execComparatorRelease fe ch ov s
  | .faultChannelChange fe freq => Sys2Proof.Machine.execFaultChannelChange fe freq s
  | .protEventRecordWrite => Sys2Proof.Machine.execProtEventRecordWrite s
  | .feThermalShutdown fe => Sys2Proof.Machine.execFeThermalShutdown fe s
  | .feThermalRelease fe => Sys2Proof.Machine.execFeThermalRelease fe s
  | .overcurrentTrip charge => Sys2Proof.Machine.execOvercurrentTrip charge s
  | .fastChannelLost => Sys2Proof.Machine.execFastChannelLost s
  | .fastChannelRestored => Sys2Proof.Machine.execFastChannelRestored s
  | .faultLineLow => Sys2Proof.Machine.execFaultLineLow s
  | .faultAutoRelease bit => Sys2Proof.Machine.execFaultAutoRelease bit s
  | .dieTempConversion temp => Sys2Proof.Machine.execDieTempConversion temp s
  | .dieTempTimeout => Sys2Proof.Machine.execDieTempTimeout s
  | .panHardFault pan fault => Sys2Proof.Machine.execPanHardFault pan fault s
  | .sluiceLoadComplete pan slot => Sys2Proof.Machine.execSluiceLoadComplete pan slot s
  | .panBistComplete pan pass => Sys2Proof.Machine.execPanBistComplete pan pass s
  | .sluiceFail cause => Sys2Proof.Machine.execSluiceFail cause s
  | .zeroTrackComplete => Sys2Proof.Machine.execZeroTrackComplete s
  | .zeroValidExpire => Sys2Proof.Machine.execZeroValidExpire s
  | .currentRecordRx bytes => Sys2Proof.Machine.execCurrentRecordRx bytes s
  | .currentRecordMissing branch stamp => Sys2Proof.Machine.execCurrentRecordMissing branch stamp s
  | .restStarved => Sys2Proof.Machine.execRestStarved s
  | .restRequestRepeat => Sys2Proof.Machine.execRestRequestRepeat s
  | .anchorStarved => Sys2Proof.Machine.execAnchorStarved s
  | .estimatorStateSave => Sys2Proof.Machine.execEstimatorStateSave s
  | .moduleMissingLimit pos => Sys2Proof.Machine.execModuleMissingLimit pos s
  | .sweepStartFrame => Sys2Proof.Machine.execSweepStartFrame s
  | .eisBlockEnd => Sys2Proof.Machine.execEisBlockEnd s
  | .eisControlRecordRx bytes => Sys2Proof.Machine.execEisControlRecordRx bytes s
  | .eisVerdictTimeout => Sys2Proof.Machine.execEisVerdictTimeout s
  | .eisResumeTimeout => Sys2Proof.Machine.execEisResumeTimeout s
  | .sweepDrainEnd => Sys2Proof.Machine.execSweepDrainEnd s
  | .blockStatusPeriodic => Sys2Proof.Machine.execBlockStatusPeriodic s
  | .tableValidationComplete => Sys2Proof.Machine.execTableValidationComplete s
  | .tableBlockCheck standby found => Sys2Proof.Machine.execTableBlockCheck standby found s
  | .sliceWriteComplete cell => Sys2Proof.Machine.execSliceWriteComplete cell s
  | .balSlotStart => Sys2Proof.Machine.execBalSlotStart s
  | .gateDriverReady => Sys2Proof.Machine.execGateDriverReady s
  | .startTimeout => Sys2Proof.Machine.execStartTimeout s
  | .softStartDone => Sys2Proof.Machine.execSoftStartDone s
  | .drainComplete => Sys2Proof.Machine.execDrainComplete s
  | .drainTimeout => Sys2Proof.Machine.execDrainTimeout s
  | .gateDriverFault => Sys2Proof.Machine.execGateDriverFault s
  | .busOv busUv => Sys2Proof.Machine.execBusOv busUv s
  | .hiccupTrigger phase => Sys2Proof.Machine.execHiccupTrigger phase s
  | .hiccupRetry => Sys2Proof.Machine.execHiccupRetry s
  | .shedDwellExpire => Sys2Proof.Machine.execShedDwellExpire s
  | .stepBlockEnd => Sys2Proof.Machine.execStepBlockEnd s
  | .faultRecordWrite => Sys2Proof.Machine.execFaultRecordWrite s
  | .ringFrameEmit => Sys2Proof.Machine.execRingFrameEmit s
  | .ringCopyEmit copy => Sys2Proof.Machine.execRingCopyEmit copy s
  | .ringHeaderRx cw bytes errNs deltaNs => Sys2Proof.Machine.execRingHeaderRx cw bytes errNs deltaNs s
  | .harvestComplete cw ccw => Sys2Proof.Machine.execHarvestComplete cw ccw s
  | .sideWindowRx cw bytes => Sys2Proof.Machine.execSideWindowRx cw bytes s
  | .ringMessageRx src seg => Sys2Proof.Machine.execRingMessageRx src seg s
  | .ringPortDown cw => Sys2Proof.Machine.execRingPortDown cw s
  | .ringPortRestored cw => Sys2Proof.Machine.execRingPortRestored cw s
  | .headerMiss members eligible => Sys2Proof.Machine.execHeaderMiss members eligible s
  | .primaryHandover => Sys2Proof.Machine.execPrimaryHandover s
  | .enumerationEnd found => Sys2Proof.Machine.execEnumerationEnd found s
  | .syncInEdge offsetNs => Sys2Proof.Machine.execSyncInEdge offsetNs s
  | .ppsLost => Sys2Proof.Machine.execPpsLost s
  | .ringWakeTone cw => Sys2Proof.Machine.execRingWakeTone cw s
  | .tokenWatchdogExpire => Sys2Proof.Machine.execTokenWatchdogExpire s
  | .laneHardFault lane fault => Sys2Proof.Machine.execLaneHardFault lane fault s
  | .tokenGrant claimA claimB => Sys2Proof.Machine.execTokenGrant claimA claimB s
  | .takeoverComplete => Sys2Proof.Machine.execTakeoverComplete s
  | .tokenBeliefMismatch lane => Sys2Proof.Machine.execTokenBeliefMismatch lane s
  | .rerunArbitration => Sys2Proof.Machine.execRerunArbitration s
  | .mirrorRx frame ok => Sys2Proof.Machine.execMirrorRx frame ok s
  | .resyncComplete => Sys2Proof.Machine.execResyncComplete s
  | .laneRebootComplete lane pass => Sys2Proof.Machine.execLaneRebootComplete lane pass s
  | .eclipseSwapDue => Sys2Proof.Machine.execEclipseSwapDue s
  | .eclipseHandover testOk => Sys2Proof.Machine.execEclipseHandover testOk s
  | .eclipseCheckEnd verifyOk diverge => Sys2Proof.Machine.execEclipseCheckEnd verifyOk diverge s
  | .swapOverdue => Sys2Proof.Machine.execSwapOverdue s
  | .protOnlyEntry => Sys2Proof.Machine.execProtOnlyEntry s
  | .protOnlyNotice => Sys2Proof.Machine.execProtOnlyNotice s
  | .fallbackGatesOff => Sys2Proof.Machine.execFallbackGatesOff s
  | .protOnlyContactorOpen => Sys2Proof.Machine.execProtOnlyContactorOpen s
  | .protOnlyReset port bytes => Sys2Proof.Machine.execProtOnlyReset port bytes s
  | .safetySample inp => Sys2Proof.Machine.execSafetySample inp s
  | .safetyDiscrepancy door => Sys2Proof.Machine.execSafetyDiscrepancy door s
  | .testOutputDrop t2 low => Sys2Proof.Machine.execTestOutputDrop t2 low s
  | .outputTestDrop out ok => Sys2Proof.Machine.execOutputTestDrop out ok s
  | .safetySelfTest ramOk progOk setOk => Sys2Proof.Machine.execSafetySelfTest ramOk progOk setOk s
  | .armingReady => Sys2Proof.Machine.execArmingReady s
  | .kPreOn => Sys2Proof.Machine.execKPreOn s
  | .prechargeComplete => Sys2Proof.Machine.execPrechargeComplete s
  | .kPreOff => Sys2Proof.Machine.execKPreOff s
  | .prechargeTimeout => Sys2Proof.Machine.execPrechargeTimeout s
  | .inrushTrip => Sys2Proof.Machine.execInrushTrip s
  | .kNegOpen => Sys2Proof.Machine.execKNegOpen s
  | .tripContactorOff => Sys2Proof.Machine.execTripContactorOff s
  | .twohandInput one two => Sys2Proof.Machine.execTwohandInput one two s
  | .kSupplyLow => Sys2Proof.Machine.execKSupplyLow s
  | .outputOvercurrent out => Sys2Proof.Machine.execOutputOvercurrent out s
  | .auxOkClear => Sys2Proof.Machine.execAuxOkClear s
  | .auxOkSet => Sys2Proof.Machine.execAuxOkSet s
  | .bridgeRunExpire => Sys2Proof.Machine.execBridgeRunExpire s
  | .stackLow => Sys2Proof.Machine.execStackLow s
  | .aonPowerLoss => Sys2Proof.Machine.execAonPowerLoss s
  | .handshakeTimeout => Sys2Proof.Machine.execHandshakeTimeout s
  | .entryStepComplete => Sys2Proof.Machine.execEntryStepComplete s
  | .entryForced => Sys2Proof.Machine.execEntryForced s
  | .wakeConfirmed src seen => Sys2Proof.Machine.execWakeConfirmed src seen s
  | .wakeDwellExpire => Sys2Proof.Machine.execWakeDwellExpire s
  | .returnStageReady sealsOk => Sys2Proof.Machine.execReturnStageReady sealsOk s
  | .returnStageTimeout => Sys2Proof.Machine.execReturnStageTimeout s
  | .coreLdoRetry => Sys2Proof.Machine.execCoreLdoRetry s
  | .coldStart straps bridgeOnly => Sys2Proof.Machine.execColdStart straps bridgeOnly s
  | .packetReceived port late bytes => Sys2Proof.Machine.execPacketReceived port late bytes s
  | .ping h p => Sys2Proof.Machine.execPing h p s
  | .identify h p => Sys2Proof.Machine.execIdentify h p s
  | .health h p => Sys2Proof.Machine.execHealth h p s
  | .paramGet h p => Sys2Proof.Machine.execParamGet h p s
  | .paramSet h p => Sys2Proof.Machine.execParamSet h p s
  | .commit h p => Sys2Proof.Machine.execCommit h p s
  | .discard h p => Sys2Proof.Machine.execDiscard h p s
  | .tableWrite h p => Sys2Proof.Machine.execTableWrite h p s
  | .tableRead h p => Sys2Proof.Machine.execTableRead h p s
  | .powerState h p => Sys2Proof.Machine.execPowerState h p s
  | .wakeRecord h p => Sys2Proof.Machine.execWakeRecord h p s
  | .mode h p => Sys2Proof.Machine.execMode h p s
  | .convEnable h p => Sys2Proof.Machine.execConvEnable h p s
  | .convDisable h p => Sys2Proof.Machine.execConvDisable h p s
  | .convSetpoint h p => Sys2Proof.Machine.execConvSetpoint h p s
  | .convFaultRecord h p => Sys2Proof.Machine.execConvFaultRecord h p s
  | .balPlan h p => Sys2Proof.Machine.execBalPlan h p s
  | .balStop h p => Sys2Proof.Machine.execBalStop h p s
  | .eisStart h p => Sys2Proof.Machine.execEisStart h p s
  | .eisResult h p => Sys2Proof.Machine.execEisResult h p s
  | .eisAbort h p => Sys2Proof.Machine.execEisAbort h p s
  | .snapshot h p => Sys2Proof.Machine.execSnapshot h p s
  | .streamConfig h p => Sys2Proof.Machine.execStreamConfig h p s
  | .fwStage h p => Sys2Proof.Machine.execFwStage h p s
  | .fwActivate h p => Sys2Proof.Machine.execFwActivate h p s
  | .journalRead h p => Sys2Proof.Machine.execJournalRead h p s
  | .attest h p => Sys2Proof.Machine.execAttest h p s
  | .reprovision h p => Sys2Proof.Machine.execReprovision h p s
  | .ringStatus h p => Sys2Proof.Machine.execRingStatus h p s
  | .ringEnumerate h p => Sys2Proof.Machine.execRingEnumerate h p s
  | .safetyStatus h p => Sys2Proof.Machine.execSafetyStatus h p s
  | .safetyReset h p => Sys2Proof.Machine.execSafetyReset h p s
  | .eclipseSwap h p => Sys2Proof.Machine.execEclipseSwap h p s
  | .reset h p => Sys2Proof.Machine.execReset h p s
  | .diagDieTemp h p => Sys2Proof.Machine.execDiagDieTemp h p s
  | .diagCurCal h p => Sys2Proof.Machine.execDiagCurCal h p s
  | .curCalComplete => Sys2Proof.Machine.execCurCalComplete s
  | .diagFaultClear h p => Sys2Proof.Machine.execDiagFaultClear h p s
  | .diagProtEvents h p => Sys2Proof.Machine.execDiagProtEvents h p s
  | .diagCellReset h p => Sys2Proof.Machine.execDiagCellReset h p s
  | .diagThermoCal h p => Sys2Proof.Machine.execDiagThermoCal h p s
  | .diagAbsorbedEvents h p => Sys2Proof.Machine.execDiagAbsorbedEvents h p s
  | .diagPowerTest h p => Sys2Proof.Machine.execDiagPowerTest h p s
  | .configImageWritten => Sys2Proof.Machine.execConfigImageWritten s
  | .journalSealWrite => Sys2Proof.Machine.execJournalSealWrite s
  | .fwVerifyComplete => Sys2Proof.Machine.execFwVerifyComplete s
  | .fwTrialResult pass => Sys2Proof.Machine.execFwTrialResult pass s
  | .ephemeralKeyExpire => Sys2Proof.Machine.execEphemeralKeyExpire s
  | .tamperDetect sources value => Sys2Proof.Machine.execTamperDetect sources value s
  | .canFrameRx b id fd late data => Sys2Proof.Machine.execCanFrameRx b id fd late data s
  | .canSegmentTimeout b key => Sys2Proof.Machine.execCanSegmentTimeout b key s
  | .canTxComplete b alarm loopDelay => Sys2Proof.Machine.execCanTxComplete b alarm loopDelay s
  | .canBusOff b => Sys2Proof.Machine.execCanBusOff b s
  | .canBusOffRecovery b => Sys2Proof.Machine.execCanBusOffRecovery b s
  | .spiInDataWrite w late => Sys2Proof.Machine.execSpiInDataWrite w late s
  | .spiOutDataRead => Sys2Proof.Machine.execSpiOutDataRead s
  | .spiIrqStatusWrite w => Sys2Proof.Machine.execSpiIrqStatusWrite w s
  | .spiRegisterWrite cmd data => Sys2Proof.Machine.execSpiRegisterWrite cmd data s
  | .spiCsRise => Sys2Proof.Machine.execSpiCsRise s
  | .spiInTimeout => Sys2Proof.Machine.execSpiInTimeout s
  | .pwmPeriodStart phase near count uv => Sys2Proof.Machine.execPwmPeriodStart phase near count uv s
  | .nvmTransferComplete => Sys2Proof.Machine.execNvmTransferComplete s
  | .tableBlockStored readbackOk => Sys2Proof.Machine.execTableBlockStored readbackOk s
  | .dozeBlockAsk => Sys2Proof.Machine.execDozeBlockAsk s
  | .wakePulseEnd => Sys2Proof.Machine.execWakePulseEnd s
  | .ringWakeToneEnd => Sys2Proof.Machine.execRingWakeToneEnd s
  | .correctedSramError lane => Sys2Proof.Machine.execCorrectedSramError lane s
  | .canBusError b tx => Sys2Proof.Machine.execCanBusError b tx s

end Sys2Proof.Machine
end

