-- ==== Sys2Proof/WellFormed.lean ====
section
/-!
DEFINITION. Well-formed commands: an operand that names a unit names one the part has (00_scope.md Table 0.3), and the
payload of an opcode has a length Table 17.12 or 17.16 allows.
-/

namespace Sys2Proof

open Sys2Proof.Machine

/-- The command names only units that exist, and its payload has an allowed length. -/
def Instr.wf : Instr → Bool
  | .sampleStrobe ntc => ntc.length == 16
  | .frameBoundary _ => true
  | .governorDecision => true
  | .panJobComplete pan _ _ => panOk pan
  | .computeWindowEnd lastSlot _ => slotOk lastSlot
  | .comet => true
  | .scheduleFault => true
  | .oWorkResume => true
  | .transitSuspended => true
  | .controlSubperiod sub phaseUv _ _ _ => sub < 4 && phaseUv.length == 8
  | .controlOutput _ _ _ _ _ _ => true
  | .loopFault slot => 34 ≤ slot && slot ≤ 36
  | .loopImplausible => true
  | .safeLawGatesOff => true
  | .feFramePacket fe _ _ _ => feOk fe
  | .cfeSubsamplePacket idx _ => idx < 8
  | .cfeFramePacket _ => true
  | .backChannelMessage fe _ => portNoOk fe
  | .backChannelCutoff => true
  | .portLineDown fe _ => portNoOk fe
  | .feLinkFault fe => feOk fe
  | .relinkAttemptEnd fe _ => portNoOk fe
  | .relinkRetry fe => portNoOk fe
  | .strobeDelayMeasure delays => delays.length == 7
  | .feSupplyChangeover fe => portNoOk fe
  | .feAuxReturn fe => portNoOk fe
  | .stackKeepaliveTest fe _ => portNoOk fe
  | .comparatorAssert fe ch _ => feOk fe && channelOk ch
  | .comparatorRelease fe ch _ => feOk fe && channelOk ch
  | .faultChannelChange fe _ => feOk fe
  | .protEventRecordWrite => true
  | .feThermalShutdown fe => feOk fe
  | .feThermalRelease fe => feOk fe
  | .overcurrentTrip _ => true
  | .fastChannelLost => true
  | .fastChannelRestored => true
  | .faultLineLow => true
  | .faultAutoRelease bit => causeBitOk bit
  | .dieTempConversion _ => true
  | .dieTempTimeout => true
  | .panHardFault pan _ => panOk pan
  | .sluiceLoadComplete pan slot => panOk pan && slotOk slot
  | .panBistComplete pan _ => panOk pan
  | .sluiceFail cause => 1 ≤ cause && cause ≤ 3
  | .zeroTrackComplete => true
  | .zeroValidExpire => true
  | .currentRecordRx _ => true
  | .currentRecordMissing branch _ => branch < 2
  | .restStarved => true
  | .restRequestRepeat => true
  | .anchorStarved => true
  | .estimatorStateSave => true
  | .moduleMissingLimit pos => posOk pos
  | .sweepStartFrame => true
  | .eisBlockEnd => true
  | .eisControlRecordRx _ => true
  | .eisVerdictTimeout => true
  | .eisResumeTimeout => true
  | .sweepDrainEnd => true
  | .blockStatusPeriodic => true
  | .tableValidationComplete => true
  | .tableBlockCheck _ _ => true
  | .sliceWriteComplete cell => cellOk cell
  | .balSlotStart => true
  | .gateDriverReady => true
  | .startTimeout => true
  | .softStartDone => true
  | .drainComplete => true
  | .drainTimeout => true
  | .gateDriverFault => true
  | .busOv _ => true
  | .hiccupTrigger phase => phaseOk phase
  | .hiccupRetry => true
  | .shedDwellExpire => true
  | .stepBlockEnd => true
  | .faultRecordWrite => true
  | .ringFrameEmit => true
  | .ringCopyEmit copy => copy.rx.length == 3125
  | .ringHeaderRx _ _ _ _ => true
  | .harvestComplete _ _ => true
  | .sideWindowRx _ _ => true
  | .ringMessageRx src _ => src < 9
  | .ringPortDown _ => true
  | .ringPortRestored _ => true
  | .headerMiss _ _ => true
  | .primaryHandover => true
  | .enumerationEnd found => 1 ≤ found && found ≤ 8
  | .syncInEdge _ => true
  | .ppsLost => true
  | .ringWakeTone _ => true
  | .tokenWatchdogExpire => true
  | .laneHardFault _ _ => true
  | .tokenGrant _ _ => true
  | .takeoverComplete => true
  | .tokenBeliefMismatch _ => true
  | .rerunArbitration => true
  | .mirrorRx _ _ => true
  | .resyncComplete => true
  | .laneRebootComplete _ _ => true
  | .eclipseSwapDue => true
  | .eclipseHandover _ => true
  | .eclipseCheckEnd _ _ => true
  | .swapOverdue => true
  | .protOnlyEntry => true
  | .protOnlyNotice => true
  | .fallbackGatesOff => true
  | .protOnlyContactorOpen => true
  | .protOnlyReset port _ => port != .own
  | .safetySample _ => true
  | .safetyDiscrepancy _ => true
  | .testOutputDrop _ _ => true
  | .outputTestDrop out _ => outOk out
  | .safetySelfTest _ _ _ => true
  | .armingReady => true
  | .kPreOn => true
  | .prechargeComplete => true
  | .kPreOff => true
  | .prechargeTimeout => true
  | .inrushTrip => true
  | .kNegOpen => true
  | .tripContactorOff => true
  | .twohandInput _ _ => true
  | .kSupplyLow => true
  | .outputOvercurrent out => outOk out
  | .auxOkClear => true
  | .auxOkSet => true
  | .bridgeRunExpire => true
  | .stackLow => true
  | .aonPowerLoss => true
  | .handshakeTimeout => true
  | .entryStepComplete => true
  | .entryForced => true
  | .wakeConfirmed src seen => 1 ≤ src && src ≤ 8 && seen.cell ≤ 96 && (src != 1 || seen.bus.length == 10)
  | .wakeDwellExpire => true
  | .returnStageReady _ => true
  | .returnStageTimeout => true
  | .coreLdoRetry => true
  | .coldStart straps _ => straps < 8
  | .packetReceived port _ _ => port != .own
  | .ping h p => hdrOk h && lengthOk 0x01 p
  | .identify h p => hdrOk h && lengthOk 0x02 p
  | .health h p => hdrOk h && lengthOk 0x03 p
  | .paramGet h p => hdrOk h && lengthOk 0x10 p
  | .paramSet h p => hdrOk h && lengthOk 0x11 p
  | .commit h p => hdrOk h && lengthOk 0x12 p
  | .discard h p => hdrOk h && lengthOk 0x13 p
  | .tableWrite h p => hdrOk h && lengthOk 0x14 p
  | .tableRead h p => hdrOk h && lengthOk 0x15 p
  | .powerState h p => hdrOk h && lengthOk 0x20 p
  | .wakeRecord h p => hdrOk h && lengthOk 0x21 p
  | .mode h p => hdrOk h && lengthOk 0x22 p
  | .convEnable h p => hdrOk h && lengthOk 0x30 p
  | .convDisable h p => hdrOk h && lengthOk 0x31 p
  | .convSetpoint h p => hdrOk h && lengthOk 0x32 p
  | .convFaultRecord h p => hdrOk h && lengthOk 0x33 p
  | .balPlan h p => hdrOk h && lengthOk 0x40 p
  | .balStop h p => hdrOk h && lengthOk 0x41 p
  | .eisStart h p => hdrOk h && lengthOk 0x50 p
  | .eisResult h p => hdrOk h && lengthOk 0x51 p
  | .eisAbort h p => hdrOk h && lengthOk 0x52 p
  | .snapshot h p => hdrOk h && lengthOk 0x60 p
  | .streamConfig h p => hdrOk h && lengthOk 0x61 p
  | .fwStage h p => hdrOk h && lengthOk 0x80 p
  | .fwActivate h p => hdrOk h && lengthOk 0x81 p
  | .journalRead h p => hdrOk h && lengthOk 0x90 p
  | .attest h p => hdrOk h && lengthOk 0x91 p
  | .reprovision h p => hdrOk h && lengthOk 0x92 p
  | .ringStatus h p => hdrOk h && lengthOk 0xA0 p
  | .ringEnumerate h p => hdrOk h && lengthOk 0xA1 p
  | .safetyStatus h p => hdrOk h && lengthOk 0xB0 p
  | .safetyReset h p => hdrOk h && lengthOk 0xB1 p
  | .eclipseSwap h p => hdrOk h && lengthOk 0xE0 p
  | .reset h p => hdrOk h && lengthOk 0xF0 p
  | .diagDieTemp h p => hdrOk h && lengthOk 0xF1 (1 :: p)
  | .diagCurCal h p => hdrOk h && lengthOk 0xF1 (2 :: p)
  | .curCalComplete => true
  | .diagFaultClear h p => hdrOk h && lengthOk 0xF1 (3 :: p)
  | .diagProtEvents h p => hdrOk h && lengthOk 0xF1 (4 :: p)
  | .diagCellReset h p => hdrOk h && lengthOk 0xF1 (5 :: p)
  | .diagThermoCal h p => hdrOk h && lengthOk 0xF1 (6 :: p)
  | .diagAbsorbedEvents h p => hdrOk h && lengthOk 0xF1 (7 :: p)
  | .diagPowerTest h p => hdrOk h && lengthOk 0xF1 (8 :: p)
  | .configImageWritten => true
  | .journalSealWrite => true
  | .fwVerifyComplete => true
  | .fwTrialResult _ => true
  | .ephemeralKeyExpire => true
  | .tamperDetect _ _ => true
  | .canFrameRx _ _ _ _ _ => true
  | .canSegmentTimeout _ _ => true
  | .canTxComplete _ _ _ => true
  | .canBusOff _ => true
  | .canBusOffRecovery _ => true
  | .spiInDataWrite _ _ => true
  | .spiOutDataRead => true
  | .spiIrqStatusWrite _ => true
  | .spiRegisterWrite _ _ => true
  | .spiCsRise => true
  | .spiInTimeout => true
  | .pwmPeriodStart phase _ _ _ => phaseOk phase
  | .nvmTransferComplete => true
  | .tableBlockStored _ => true
  | .dozeBlockAsk => true
  | .wakePulseEnd => true
  | .ringWakeToneEnd => true
  | .correctedSramError _ => true
  | .canBusError _ _ => true

end Sys2Proof
end

