-- ==== Sys2Proof/Safety.lean ====
section
/-!
DEFINITION. The words the statements use: the parts of the state, which parts a command may touch, the shape of a state that
runs reach, when an opcode executes, and which commands may move a state that the spec names.
-/

namespace Sys2Proof.Machine

/-- How many units of each kind the state holds: front ends, channels, taps, branches, pans, role slots, estimators,
thermometers, phases, lanes, ports, CAN controllers. -/
def State.lengths (s : State) : List Nat :=
  [s.fe.length, s.chan.length, s.tap.length, s.branch.length, s.pan.length, s.slot.length, s.est.length, s.thermo.length,
   s.phase.length, s.lane.length, s.port.length, s.can.length]

/-- The state holds as many units of each kind as the part has (00_scope.md Table 0.3). -/
def State.Shaped (s : State) : Prop := s.lengths = [6, 96, 98, 2, 48, 40, 96, 96, 8, 2, 4, 2]

/-- Keys are held exactly while TAMPER is not latched (20 R469, R470). -/
def State.KeysFollowTamper (s : State) : Prop := s.sec.keys = !s.sec.tamper

/-- The gate kill is held in SAFE and TRIPPED alone, and SAFE_OK is on in ARMED alone (15 Table 15.2). -/
def State.SafetyOutputsFollowState (s : State) : Prop :=
  s.safe.gateKill = (s.safe.st == .safe || s.safe.st == .tripped) ∧ s.safe.safeOk = (s.safe.st == .armed)

/-- The gates run only in a converter state other than OFF (11 Table 11.3, R253). -/
def State.GatesOnlyWhileRunning (s : State) : Prop := s.conv.gatesOn = true → s.conv.st ≠ .off

/-- There are two lanes, and a lane is IN_CHARGE exactly while the token is valid and it is the holder (14 R336, R337). -/
def State.OneLaneInCharge (s : State) : Prop :=
  s.lane.length = 2 ∧ ∀ b, (s.laneAt b).st = .inCharge ↔ (s.lanes.valid = true ∧ s.lanes.holder = b)

/-- A packet of an opcode executes: the module is not in the protection-only state, its ports run, the payload length is one
that Table 17.12 or 17.16 allows, a bank broadcast carries an opcode of R410, and no history entry repeats it (17 R410, R411,
R424, R427). -/
def State.executes (s : State) (op : Byte) (h : Hdr) (p : List Byte) : Prop :=
  s.lanes.protOnly = false ∧ s.portsOn = true ∧ lengthOk op.toNat p = true ∧ (h.target == 0xFF && !bankOpcode op) = false ∧
    s.duplicateOf op h p = none

/-- Parts of the state. -/
inductive Part where
  /-- frame grid and mode -/
  | grid
  /-- front ends -/
  | fe
  /-- cell channels -/
  | chan
  /-- tap leads -/
  | tap
  /-- open-wire test -/
  | ow
  /-- current front end -/
  | cfe
  /-- branches -/
  | branch
  /-- pans -/
  | pan
  /-- role slots -/
  | slot
  /-- sluice -/
  | sluice
  /-- NVM write port -/
  | nvm
  /-- scheduler -/
  | sched
  /-- governor -/
  | gov
  /-- cell estimators -/
  | est
  /-- module estimation -/
  | estMod
  /-- string figures -/
  | str
  /-- sweeps -/
  | eis
  /-- impedance thermometry -/
  | thermo
  /-- NTC inputs -/
  | ntc
  /-- chemistry table -/
  | tbl
  /-- balancing -/
  | bal
  /-- cause register and protection -/
  | prot
  /-- converter phases -/
  | phase
  /-- converter -/
  | conv
  /-- control law -/
  | law
  /-- ring interface -/
  | ring
  /-- lanes -/
  | lane
  /-- token and absorbed events -/
  | lanes
  /-- safety block -/
  | safe
  /-- power controller -/
  | power
  /-- Ploza ports -/
  | port
  /-- Ploza interpreter and parameters -/
  | ploza
  /-- CAN controllers -/
  | can
  /-- SPI mailbox -/
  | spi
  /-- security and journal -/
  | sec
  /-- the model's free-value counter -/
  | free
  /-- checkpoints and signatures of the pan array -/
  | ckpt
deriving DecidableEq, Repr

/-- The part is the same in two states. -/
def Part.same (p : Part) (s t : State) : Prop :=
  match p with
  | .grid => t.grid = s.grid
  | .fe => t.fe = s.fe
  | .chan => t.chan = s.chan
  | .tap => t.tap = s.tap
  | .ow => t.ow = s.ow
  | .cfe => t.cfe = s.cfe
  | .branch => t.branch = s.branch
  | .pan => t.pan = s.pan
  | .slot => t.slot = s.slot
  | .sluice => t.sluice = s.sluice
  | .nvm => t.nvm = s.nvm
  | .sched => t.sched = s.sched
  | .gov => t.gov = s.gov
  | .est => t.est = s.est
  | .estMod => t.estMod = s.estMod
  | .str => t.str = s.str
  | .eis => t.eis = s.eis
  | .thermo => t.thermo = s.thermo
  | .ntc => t.ntc = s.ntc
  | .tbl => t.tbl = s.tbl
  | .bal => t.bal = s.bal
  | .prot => t.prot = s.prot
  | .phase => t.phase = s.phase
  | .conv => t.conv = s.conv
  | .law => t.law = s.law
  | .ring => t.ring = s.ring
  | .lane => t.lane = s.lane
  | .lanes => t.lanes = s.lanes
  | .safe => t.safe = s.safe
  | .power => t.power = s.power
  | .port => t.port = s.port
  | .ploza => t.ploza = s.ploza
  | .can => t.can = s.can
  | .spi => t.spi = s.spi
  | .sec => t.sec = s.sec
  | .free => t.free = s.free
  | .ckpt => t.ckpt = s.ckpt

/-- The parts that a command may change. -/
def touches : Instr → List Part
  | .sampleStrobe _ =>
    [.grid, .fe, .tap, .cfe, .gov, .thermo, .ntc, .bal, .prot, .safe, .power, .free]
  | .frameBoundary _ =>
    [.grid, .fe, .chan, .tap, .ow, .cfe, .branch, .pan, .slot, .sluice, .nvm, .sched, .gov, .est, .estMod, .str,
     .eis, .thermo, .tbl, .bal, .prot, .phase, .conv, .law, .ring, .lane, .lanes, .safe, .power, .port, .ploza,
     .can, .spi, .sec, .free, .ckpt]
  | .governorDecision =>
    [.sched, .gov]
  | .panJobComplete _ _ _ =>
    [.fe, .chan, .tap, .ow, .cfe, .branch, .pan, .slot, .sluice, .nvm, .sched, .gov, .est, .estMod, .str, .eis,
     .thermo, .tbl, .bal, .prot, .ring, .lanes, .safe, .port, .ploza, .can, .spi, .free]
  | .computeWindowEnd _ _ =>
    [.fe, .chan, .cfe, .pan, .slot, .sched, .est, .prot, .ring, .port, .ploza, .can, .spi, .ckpt]
  | .comet | .oWorkResume =>
    [.sched]
  | .scheduleFault =>
    [.sched, .ring, .lanes, .port, .ploza, .can, .spi]
  | .transitSuspended =>
    [.slot, .sluice, .ring, .lanes, .port, .ploza, .can, .spi]
  | .controlSubperiod _ _ _ _ _ =>
    [.grid, .cfe, .pan, .eis, .prot, .phase, .conv, .law, .ring, .lanes, .port, .ploza, .can, .spi, .free]
  | .controlOutput _ _ _ _ _ _ =>
    [.chan, .pan, .slot, .sluice, .est, .eis, .prot, .phase, .conv, .law, .ring, .lanes, .port, .ploza, .can, .spi,
     .free, .ckpt]
  | .loopFault _ | .loopImplausible | .safeLawGatesOff | .startTimeout | .drainTimeout | .gateDriverFault
  | .busOv _ | .hiccupTrigger _ =>
    [.phase, .conv, .law, .free]
  | .feFramePacket _ _ _ _ =>
    [.fe, .chan, .cfe, .sched, .gov, .prot, .ring, .lanes, .port, .ploza, .can, .spi]
  | .cfeSubsamplePacket _ _ | .zeroValidExpire =>
    [.cfe]
  | .cfeFramePacket _ =>
    [.fe, .chan, .cfe, .sched, .ring, .lanes, .port, .ploza, .can, .spi]
  | .backChannelMessage _ _ | .portLineDown _ _ | .relinkRetry _ | .strobeDelayMeasure _ | .feAuxReturn _ =>
    [.fe, .cfe]
  | .backChannelCutoff =>
    [.grid, .fe, .cfe]
  | .feLinkFault _ | .faultAutoRelease _ =>
    [.prot]
  | .relinkAttemptEnd _ _ =>
    [.fe, .cfe, .prot, .ring, .lanes, .port, .ploza, .can, .spi]
  | .feSupplyChangeover _ | .stackKeepaliveTest _ _ =>
    [.fe, .cfe, .ring, .lanes, .port, .ploza, .can, .spi]
  | .comparatorAssert _ _ _ | .comparatorRelease _ _ _ | .feThermalRelease _ =>
    [.fe]
  | .faultChannelChange _ _ =>
    [.fe, .prot]
  | .protEventRecordWrite =>
    [.nvm, .sched, .prot, .ring, .port, .ploza, .can, .spi]
  | .feThermalShutdown _ =>
    [.fe, .prot, .ring, .lanes, .port, .ploza, .can, .spi]
  | .overcurrentTrip _ | .fastChannelLost =>
    [.cfe, .prot, .phase, .conv, .law, .free]
  | .fastChannelRestored =>
    [.cfe, .prot]
  | .faultLineLow =>
    [.prot, .phase, .conv, .law, .free]
  | .dieTempConversion _ | .dieTempTimeout =>
    [.gov, .ring, .lanes, .port, .ploza, .can, .spi]
  | .panHardFault _ _ | .sluiceFail _ =>
    [.chan, .pan, .slot, .sluice, .est, .prot, .ring, .port, .ploza, .can, .spi]
  | .sluiceLoadComplete _ _ =>
    [.pan, .slot, .sluice]
  | .panBistComplete _ _ =>
    [.pan, .sluice, .ring, .lanes, .port, .ploza, .can, .spi]
  | .zeroTrackComplete =>
    [.cfe, .ring, .lanes, .port, .ploza, .can, .spi]
  | .currentRecordRx _ =>
    [.cfe, .branch, .safe]
  | .currentRecordMissing _ _ =>
    [.branch, .safe]
  | .restStarved =>
    [.estMod]
  | .restRequestRepeat =>
    [.str, .ring, .port, .ploza, .can, .spi, .free]
  | .anchorStarved =>
    [.est, .estMod, .ring, .lanes, .port, .ploza, .can, .spi]
  | .estimatorStateSave =>
    [.est]
  | .moduleMissingLimit _ =>
    [.str]
  | .sweepStartFrame =>
    [.eis]
  | .eisBlockEnd =>
    [.sched, .eis, .ring]
  | .eisControlRecordRx _ =>
    [.sched, .gov, .eis, .ring]
  | .eisVerdictTimeout =>
    [.sched, .eis]
  | .eisResumeTimeout | .headerMiss _ _ =>
    [.eis, .ring]
  | .sweepDrainEnd =>
    [.sched, .est, .eis, .ring, .port, .ploza, .can, .spi]
  | .blockStatusPeriodic | .ringFrameEmit | .ringCopyEmit _ | .ringPortDown _ | .ringPortRestored _
  | .primaryHandover | .syncInEdge _ | .ringWakeToneEnd =>
    [.ring]
  | .tableValidationComplete | .sliceWriteComplete _ =>
    [.tbl]
  | .tableBlockCheck _ _ =>
    [.tbl, .ring, .lane, .lanes, .port, .ploza, .can, .spi]
  | .balSlotStart =>
    [.fe, .bal]
  | .gateDriverReady | .softStartDone | .shedDwellExpire | .stepBlockEnd =>
    [.conv]
  | .drainComplete | .hiccupRetry =>
    [.phase, .conv, .law]
  | .faultRecordWrite =>
    [.nvm, .conv, .ring, .port, .ploza, .can, .spi]
  | .ringHeaderRx _ _ _ _ =>
    [.grid, .eis, .ring, .lanes, .port, .ploza, .can, .spi, .free]
  | .harvestComplete _ _ =>
    [.ring, .lanes, .port, .ploza, .can, .spi, .free]
  | .sideWindowRx _ _ =>
    [.cfe, .branch, .ring, .safe]
  | .ringMessageRx _ _ =>
    [.str, .eis, .ring, .lanes, .port, .can, .spi]
  | .enumerationEnd _ | .fwVerifyComplete =>
    [.nvm, .ring, .port, .ploza, .can, .spi, .sec]
  | .ppsLost | .swapOverdue | .journalRead _ _ =>
    [.ring, .lanes, .port, .ploza, .can, .spi]
  | .ringWakeTone _ | .auxOkSet | .wakeConfirmed _ _ | .wakeDwellExpire =>
    [.grid, .ring, .lanes, .power, .port, .sec, .free]
  | .tokenWatchdogExpire | .laneHardFault _ _ | .tokenBeliefMismatch _ | .mirrorRx _ _ | .laneRebootComplete _ _
  | .eclipseHandover _ | .eclipseCheckEnd _ _ =>
    [.ring, .lane, .lanes, .port, .ploza, .can, .spi]
  | .tokenGrant _ _ | .rerunArbitration | .correctedSramError _ =>
    [.lane, .lanes]
  | .takeoverComplete =>
    [.grid, .fe, .estMod, .eis, .tbl, .bal, .prot, .phase, .conv, .law, .ring, .lane, .lanes, .safe, .power, .port,
     .ploza, .can, .spi, .sec]
  | .resyncComplete =>
    [.lane]
  | .eclipseSwapDue =>
    [.lanes]
  | .protOnlyEntry =>
    [.gov, .prot, .law, .ring, .lanes, .port, .can, .spi]
  | .protOnlyNotice | .packetReceived _ _ _ | .canFrameRx _ _ _ _ _ | .spiInDataWrite _ _ | .spiRegisterWrite _ _ =>
    [.ring, .lanes, .port, .can, .spi]
  | .fallbackGatesOff =>
    [.phase, .conv, .law, .lanes]
  | .protOnlyContactorOpen =>
    [.grid, .lanes, .safe]
  | .protOnlyReset _ _ =>
    [.grid, .fe, .chan, .tap, .ow, .cfe, .branch, .pan, .slot, .sluice, .nvm, .sched, .gov, .est, .estMod, .str,
     .eis, .thermo, .tbl, .bal, .phase, .conv, .law, .ring, .lane, .lanes, .safe, .power, .port, .ploza, .can,
     .spi, .sec, .ckpt]
  | .safetySample _ | .safetyDiscrepancy _ | .testOutputDrop _ _ | .outputTestDrop _ _ | .safetySelfTest _ _ _
  | .prechargeTimeout | .inrushTrip | .kSupplyLow | .outputOvercurrent _ =>
    [.grid, .phase, .conv, .law, .ring, .safe, .port, .ploza, .can, .spi, .free]
  | .armingReady =>
    [.ring, .safe, .port, .ploza, .can, .spi]
  | .kPreOn | .prechargeComplete =>
    [.safe]
  | .kPreOff | .kNegOpen | .tripContactorOff | .twohandInput _ _ =>
    [.grid, .safe]
  | .auxOkClear =>
    [.grid, .nvm, .phase, .conv, .law, .power, .sec]
  | .bridgeRunExpire | .coreLdoRetry | .wakePulseEnd =>
    [.power]
  | .stackLow =>
    [.grid, .nvm, .lanes, .safe, .power, .ploza, .sec]
  | .aonPowerLoss =>
    [.chan, .pan, .slot, .sluice, .est, .prot, .phase, .conv, .law, .ring, .lane, .lanes, .safe, .power, .port,
     .ploza, .can, .spi, .sec]
  | .handshakeTimeout =>
    [.fe, .eis, .bal, .ring, .lanes, .power, .port, .ploza, .can, .spi]
  | .entryStepComplete =>
    [.grid, .fe, .chan, .cfe, .pan, .slot, .sluice, .nvm, .est, .prot, .phase, .conv, .law, .ring, .lane, .lanes,
     .safe, .power, .port, .ploza, .can, .spi, .sec]
  | .entryForced =>
    [.grid, .fe, .chan, .cfe, .pan, .slot, .sluice, .nvm, .est, .eis, .bal, .prot, .phase, .conv, .law, .ring,
     .lane, .lanes, .safe, .power, .port, .ploza, .can, .spi, .sec]
  | .returnStageReady _ =>
    [.grid, .fe, .chan, .tap, .ow, .cfe, .branch, .pan, .slot, .sluice, .nvm, .sched, .gov, .est, .estMod, .str,
     .eis, .thermo, .tbl, .bal, .prot, .phase, .conv, .law, .ring, .lane, .lanes, .power, .port, .ploza, .can,
     .spi, .sec, .free, .ckpt]
  | .returnStageTimeout =>
    [.grid, .fe, .chan, .cfe, .pan, .slot, .sluice, .gov, .est, .prot, .law, .ring, .lane, .lanes, .power, .port,
     .ploza, .can, .spi, .sec, .free]
  | .coldStart _ _ =>
    [.grid, .fe, .chan, .tap, .ow, .cfe, .branch, .pan, .slot, .sluice, .nvm, .sched, .gov, .est, .estMod, .str,
     .eis, .thermo, .ntc, .tbl, .bal, .prot, .phase, .conv, .law, .ring, .lane, .lanes, .safe, .power, .port,
     .ploza, .can, .spi, .sec, .free, .ckpt]
  | .ping _ _ | .identify _ _ | .health _ _ | .paramGet _ _ | .paramSet _ _ | .wakeRecord _ _
  | .convFaultRecord _ _ | .eisResult _ _ | .snapshot _ _ | .streamConfig _ _ | .ringStatus _ _ | .safetyStatus _ _
  | .diagProtEvents _ _ | .diagAbsorbedEvents _ _ =>
    [.ring, .port, .ploza, .can, .spi]
  | .commit _ _ =>
    [.grid, .nvm, .tbl, .ring, .lane, .port, .ploza, .can, .spi, .sec]
  | .discard _ _ | .tableBlockStored _ =>
    [.tbl, .ring, .port, .ploza, .can, .spi]
  | .tableWrite _ _ =>
    [.nvm, .tbl, .ring, .port, .ploza, .can, .spi]
  | .tableRead _ _ | .attest _ _ | .ringEnumerate _ _ =>
    [.ring, .port, .ploza, .can, .spi, .free]
  | .powerState _ _ | .diagPowerTest _ _ =>
    [.nvm, .ring, .power, .port, .ploza, .can, .spi, .sec]
  | .mode _ _ =>
    [.grid, .nvm, .phase, .conv, .law, .ring, .lanes, .port, .ploza, .can, .spi, .sec]
  | .convEnable _ _ | .convDisable _ _ =>
    [.nvm, .phase, .conv, .law, .ring, .port, .ploza, .can, .spi, .sec]
  | .convSetpoint _ _ =>
    [.nvm, .law, .ring, .port, .ploza, .can, .spi, .sec]
  | .balPlan _ _ =>
    [.nvm, .bal, .ring, .port, .ploza, .can, .spi, .sec]
  | .balStop _ _ =>
    [.fe, .nvm, .bal, .ring, .port, .ploza, .can, .spi, .sec]
  | .eisStart _ _ =>
    [.nvm, .gov, .eis, .ring, .port, .ploza, .can, .spi, .sec]
  | .eisAbort _ _ =>
    [.nvm, .eis, .ring, .port, .ploza, .can, .spi, .sec]
  | .fwStage _ _ | .fwActivate _ _ | .reprovision _ _ =>
    [.ring, .port, .ploza, .can, .spi, .sec]
  | .safetyReset _ _ =>
    [.nvm, .ring, .safe, .port, .ploza, .can, .spi, .sec]
  | .eclipseSwap _ _ | .journalSealWrite | .tamperDetect _ _ =>
    [.nvm, .ring, .lanes, .port, .ploza, .can, .spi, .sec]
  | .reset _ _ =>
    [.grid, .fe, .chan, .tap, .ow, .cfe, .branch, .pan, .slot, .sluice, .nvm, .sched, .gov, .est, .estMod, .str,
     .eis, .thermo, .tbl, .bal, .prot, .phase, .conv, .law, .ring, .lane, .lanes, .safe, .power, .port, .ploza,
     .can, .spi, .sec, .ckpt]
  | .diagDieTemp _ _ =>
    [.gov, .ring, .port, .ploza, .can, .spi]
  | .diagCurCal _ _ | .curCalComplete =>
    [.cfe, .ring, .port, .ploza, .can, .spi]
  | .diagFaultClear _ _ =>
    [.nvm, .prot, .ring, .port, .ploza, .can, .spi, .sec]
  | .diagCellReset _ _ =>
    [.nvm, .est, .ring, .port, .ploza, .can, .spi, .sec]
  | .diagThermoCal _ _ =>
    [.nvm, .thermo, .ring, .port, .ploza, .can, .spi, .sec]
  | .configImageWritten =>
    [.ploza]
  | .fwTrialResult _ =>
    [.ring, .lanes, .port, .ploza, .can, .spi, .sec]
  | .ephemeralKeyExpire =>
    [.sec]
  | .canSegmentTimeout _ _ =>
    [.can]
  | .canTxComplete _ _ _ | .canBusOff _ | .canBusOffRecovery _ | .canBusError _ _ =>
    [.can, .spi]
  | .spiOutDataRead | .spiIrqStatusWrite _ | .spiCsRise | .spiInTimeout =>
    [.spi]
  | .pwmPeriodStart _ _ _ _ =>
    [.phase, .conv]
  | .nvmTransferComplete =>
    [.nvm]
  | .dozeBlockAsk =>
    [.fe, .eis, .bal, .ring, .lanes, .power, .port, .ploza, .can, .spi, .free]

/-- The safety block of `s` has tripped with `cause` and become that of `t` (15 R363, R369): one trip more, recorded with the
frame; SAFE_OK low and the gates killed, no sequence left, the converter stopped. -/
def State.TrippedBy (s : State) (cause : Nat) (t : State) : Prop :=
  t.safe.st = .tripped ∧ t.safe.cause = cause ∧ t.safe.lastCause = cause ∧ t.safe.lastFrame = s.grid.frame ∧
    t.safe.trips = s.safe.trips + 1 ∧ t.safe.gateKill = true ∧ t.safe.safeOk = false ∧ t.safe.seq = .opened ∧
    t.conv.gatesOn = (s.conv.gatesOn && s.conv.st == .off) ∧ (s.conv.st ≠ .off → t.conv.toOff = true)

/-- The outcome `o` of a command on `s` grants lane `b` the token (14 R337, R340): it is in charge and holds a valid token, its
takeover is still to come, and the other lane stays as it was. -/
def State.GrantedTo (s : State) (b : Bool) (o : Host.Outcome State Fault Refusal) : Prop :=
  ∃ t : State, o = .next t ∧ t.lanes.valid = true ∧ t.lanes.holder = b ∧ t.lanes.granted = some b ∧
    t.lanes.takeoverDone = false ∧ (t.laneAt b).st = .inCharge ∧ (t.laneAt b).resync = false ∧ t.laneAt (!b) = s.laneAt (!b)

/-- A stop has taken `s` to `t` (11 R270): the gates and GD_EN are low, HW_LATCH is set and OFF follows at the next boundary;
the state itself has not moved yet, nor have the frame, the lanes and the safety block. -/
def State.StoppedAs (s t : State) : Prop :=
  t.conv.gatesOn = false ∧ t.conv.gdEn = false ∧ t.conv.hwLatch = true ∧ t.conv.toOff = true ∧ t.conv.st = s.conv.st ∧
    t.grid = s.grid ∧ t.lanes = s.lanes ∧ t.safe = s.safe

end Sys2Proof.Machine

namespace Sys2Proof

open Sys2Proof.Machine

/-- The commands that may move the operating mode (00 Table 0.5, R13; 11 R252; 15 R371; 16 R383). -/
def Instr.movesMode : Instr → Bool
  | .frameBoundary _ | .takeoverComplete | .protOnlyReset _ _ | .auxOkClear | .stackLow | .entryStepComplete
  | .entryForced | .returnStageReady _ | .coldStart _ _ | .mode _ _ | .reset _ _ => true
  | _ => false

/-- The commands that may move the power state (16 Table 16.2, R384, R393, R399, R404). -/
def Instr.movesPower : Instr → Bool
  | .frameBoundary _ | .aonPowerLoss | .entryStepComplete | .entryForced | .returnStageReady _
  | .returnStageTimeout | .coldStart _ _ => true
  | _ => false

/-- The commands that may move the converter state (11 Table 11.3). -/
def Instr.movesConverter : Instr → Bool
  | .frameBoundary _ | .takeoverComplete | .protOnlyReset _ _ | .auxOkClear | .aonPowerLoss | .entryStepComplete
  | .entryForced | .returnStageReady _ | .coldStart _ _ | .mode _ _ | .convEnable _ _ | .convDisable _ _
  | .reset _ _ => true
  | _ => false

/-- The commands that may move the safety state, the gate kill or SAFE_OK (15 Table 15.2, Table 15.3). -/
def Instr.movesSafety : Instr → Bool
  | .frameBoundary _ | .safetySample _ | .safetyDiscrepancy _ | .testOutputDrop _ _ | .outputTestDrop _ _
  | .safetySelfTest _ _ _ | .armingReady | .prechargeTimeout | .inrushTrip | .kSupplyLow | .outputOvercurrent _
  | .aonPowerLoss | .entryStepComplete | .entryForced | .coldStart _ _ | .safetyReset _ _ => true
  | _ => false

/-- The opcode, header and payload of the packet that an opcode command stands for (17 Table 17.12, 17.16): a DIAG carries its
SUB byte first, and a forwarded EIS_START is checked without the SWEEP_ID and S0 it carries (log entry 23). -/
def Instr.packet : Instr → Option (Byte × Hdr × List Byte)
  | .ping h p => some (0x01, h, p)
  | .identify h p => some (0x02, h, p)
  | .health h p => some (0x03, h, p)
  | .paramGet h p => some (0x10, h, p)
  | .paramSet h p => some (0x11, h, p)
  | .commit h p => some (0x12, h, p)
  | .discard h p => some (0x13, h, p)
  | .tableWrite h p => some (0x14, h, p)
  | .tableRead h p => some (0x15, h, p)
  | .powerState h p => some (0x20, h, p)
  | .wakeRecord h p => some (0x21, h, p)
  | .mode h p => some (0x22, h, p)
  | .convEnable h p => some (0x30, h, p)
  | .convDisable h p => some (0x31, h, p)
  | .convSetpoint h p => some (0x32, h, p)
  | .convFaultRecord h p => some (0x33, h, p)
  | .balPlan h p => some (0x40, h, p)
  | .balStop h p => some (0x41, h, p)
  | .eisStart h p =>
    some (0x50, h, if (forwardedSweep h p).isSome then p.take (p.length - 8) else p)
  | .eisResult h p => some (0x51, h, p)
  | .eisAbort h p => some (0x52, h, p)
  | .snapshot h p => some (0x60, h, p)
  | .streamConfig h p => some (0x61, h, p)
  | .fwStage h p => some (0x80, h, p)
  | .fwActivate h p => some (0x81, h, p)
  | .journalRead h p => some (0x90, h, p)
  | .attest h p => some (0x91, h, p)
  | .reprovision h p => some (0x92, h, p)
  | .ringStatus h p => some (0xA0, h, p)
  | .ringEnumerate h p => some (0xA1, h, p)
  | .safetyStatus h p => some (0xB0, h, p)
  | .safetyReset h p => some (0xB1, h, p)
  | .eclipseSwap h p => some (0xE0, h, p)
  | .reset h p => some (0xF0, h, p)
  | .diagDieTemp h p => some (0xF1, h, 0x01 :: p)
  | .diagCurCal h p => some (0xF1, h, 0x02 :: p)
  | .diagFaultClear h p => some (0xF1, h, 0x03 :: p)
  | .diagProtEvents h p => some (0xF1, h, 0x04 :: p)
  | .diagCellReset h p => some (0xF1, h, 0x05 :: p)
  | .diagThermoCal h p => some (0xF1, h, 0x06 :: p)
  | .diagAbsorbedEvents h p => some (0xF1, h, 0x07 :: p)
  | .diagPowerTest h p => some (0xF1, h, 0x08 :: p)
  | _ => none

end Sys2Proof
end

