-- ==== Sys2Proof/Certificates/Slice0/Obligations.lean ====
section
/-!
DEFINITION. The statements for the provers. An opcode command's effect is what `finish` records of its answer, which
AnswersAreRecorded and ArbitrationAndReplySize state.
-/

open Sys2Proof Sys2Proof.Machine

/-- For every command c and state s, a step of s with c at the front of its queue is exec of c on s with the queue's rest.
On an empty queue the step answers the same state, which is the model's own choice, log entry 8. (opcode_table.json) -/
def Obligations.StepRunsFront : Prop :=
  (∀ (c : Instr) (rest : List Instr) (s : State), s.pending = c :: rest → step s = exec c { s with pending := rest }) ∧
    ∀ s : State, s.pending = [] → step s = .next s

/-- For every state, a command whose operands name units the part has answers a next state; any command answers a next
state or the fault noSuchUnit, the latter only with operands that are not well formed. (opcode_table.json,
00_scope.md) -/
def Obligations.CommandsAnswer : Prop :=
  ∀ (c : Instr) (s : State), (c.wf = true → ∃ t, exec c s = .next t) ∧
    ∀ o, exec c s = o → (∃ t, o = .next t) ∨ (o = .fault .noSuchUnit ∧ c.wf = false)

/-- Whatever a command does, the queue it leaves is the queue it found. (opcode_table.json) -/
def Obligations.QueueUntouched : Prop :=
  ∀ (c : Instr) (s t : State), exec c s = .next t → t.pending = s.pending

/-- For each of the 207 commands, touches lists the parts of the state it may change; every other part is the same after
it. (opcode_table.json, 95_what_each_step_holds.md) -/
def Obligations.CommandsTouchTheirParts : Prop :=
  ∀ (c : Instr) (s t : State) (p : Part), exec c s = .next t → p ∉ touches c → p.same s t

/-- Each step from a state with 6 front ends, 96 channels, 98 taps, 2 branches, 48 pans, 40 role slots, 96 estimators, 96
thermometers, 8 phases, 2 lanes, 4 ports and 2 CAN controllers leaves a state with as many of each. (00_scope.md) -/
def Obligations.UnitsStay : Prop :=
  ∀ s t : State, step s = .next t → s.Shaped → t.Shaped

/-- Each step keeps the invariant that the module holds its keys exactly while TAMPER is not latched: a detection with
erase sets both, REPROVISION releases both, nothing else moves either. (20_security_and_journal.md) -/
def Obligations.KeysFollowTamper : Prop :=
  ∀ s t : State, step s = .next t → s.KeysFollowTamper → t.KeysFollowTamper

/-- Each step keeps the invariant that the gate kill is held in SAFE and TRIPPED alone and that SAFE_OK is on in ARMED
alone. (15_safety_block.md) -/
def Obligations.SafetyOutputsFollowState : Prop :=
  ∀ s t : State, step s = .next t → s.SafetyOutputsFollowState → t.SafetyOutputsFollowState

/-- Each step keeps the invariant that the gates run only while the converter is STARTING, ON or DRAINING.
(11_string_converter.md) -/
def Obligations.GatesOnlyWhileRunning : Prop :=
  ∀ s t : State, step s = .next t → s.GatesOnlyWhileRunning → t.GatesOnlyWhileRunning

/-- Each step keeps the invariant that a lane is IN_CHARGE exactly while the token is valid and that lane is its holder,
so that never both are. (14_lanes_and_failover.md) -/
def Obligations.OneLaneInCharge : Prop :=
  ∀ s t : State, step s = .next t → s.OneLaneInCharge → t.OneLaneInCharge

/-- State.reset has every unit of the part, and meets the invariants on the keys, the safety outputs, the gates and the
token. (00_scope.md, 14_lanes_and_failover.md, 15_safety_block.md) -/
def Obligations.ResetMeetsInvariants : Prop :=
  State.reset.Shaped ∧ State.reset.KeysFollowTamper ∧ State.reset.SafetyOutputsFollowState ∧
    State.reset.GatesOnlyWhileRunning ∧ State.reset.OneLaneInCharge

/-- A command after which the mode is ACTIVE although it was not before is MODE, or the boundary at which a deferred mode
change completes or queued packets execute: no event, fault or restart starts string work on its own. (00_scope.md,
17_ploza_protocol.md) -/
def Obligations.OnlyModeMakesActive : Prop :=
  ∀ (c : Instr) (s t : State), exec c s = .next t → s.grid.mode ≠ .active → t.grid.mode = .active →
    (∃ h p, c = .mode h p) ∨ ∃ n, c = .frameBoundary n

/-- A command that changes the operating mode, the power state, the converter state, or the safety state and its outputs
is one of those listed for it. (00_scope.md, 11_string_converter.md, 15_safety_block.md, 16_power_states.md) -/
def Obligations.FunctionStatesHaveTheirMovers : Prop :=
  ∀ (c : Instr) (s t : State), exec c s = .next t →
    (t.grid.mode ≠ s.grid.mode → c.movesMode = true) ∧ (t.power.st ≠ s.power.st → c.movesPower = true) ∧
    (t.conv.st ≠ s.conv.st → c.movesConverter = true) ∧
    ((t.safe.st ≠ s.safe.st ∨ t.safe.gateKill ≠ s.safe.gateKill ∨ t.safe.safeOk ≠ s.safe.safeOk) → c.movesSafety = true)

/-- For every opcode, sequence, flags, target and payload of at most 4,096 bytes, the packet laid out as Table 17.1 with
its CRC-32C parses to exactly these fields with a good CRC; with any other CRC field the CRC is bad.
(17_ploza_protocol.md) -/
def Obligations.PacketReadsBack : Prop :=
  ∀ (op seq flags target : Byte) (p : List Byte), p.length ≤ 4096 →
    parseRequest (mkPacket op.toNat seq.toNat flags.toNat target.toNat p) =
        some { opcode := op, seq := seq, flags := flags, target := target, length := p.length, payload := p, crcOk := true } ∧
      ∀ (body : List Byte) (v : Nat) (r : Request), v < 2 ^ 32 → v ≠ (crc32c body).toNat →
        parseRequest (body ++ toLe 4 v) = some r → r.crcOk = false

/-- In the protection-only state, with the ports off, and for bytes that are no packet, nothing happens. Otherwise a
packet whose TARGET the primary forwards, with a good CRC and its whole payload, goes to the end of the downlink as it
came. Beside that: one that passes the checks and is for this module, or is a bank broadcast of an opcode that one may
carry, enters the inboxes with its arrival frame and the boundary it is due at, unless it is a RETRY of one that waits
there; one that passes them and is not for this module leaves nothing more; one with a bad CRC is answered BAD_CRC
where its TARGET is this position and dropped otherwise; any other failed check is answered with its status where the
packet is for this module and leaves nothing more otherwise. (17_ploza_protocol.md, 13_ceyth_ring.md) -/
def Obligations.PacketReception : Prop :=
  ∀ (port : Port) (late : Bool) (bs : List Byte) (s : State), port ≠ .own →
    (s.portsOn = false ∨ s.lanes.protOnly = true ∨ parseRequest bs = none → exec (.packetReceived port late bs) s = .next s) ∧
    ∀ (r : Request) (u : State), s.portsOn = true → s.lanes.protOnly = false → parseRequest bs = some r →
      u = (if s.forwards port r.target = true ∧ r.crcOk = true ∧ r.length = r.payload.length then
        { s with
          ring.dnQueue := s.ring.dnQueue ++ [{ kind := 1, prio := 0, data := bs }]
          ring.fwd := ({ target := r.target.toNat, port := port, seq := r.seq.toNat, opcode := r.opcode.toNat
                         left := if r.target = 0xFE then s.pn P.ringModules - 1 else 1 } :: s.ring.fwd).take 64 } else s) →
      (s.receiptFault port r = none → s.takesFrom port r.target = true ∨ (r.target = 0xFF ∧ port ≠ .ring ∧ bankOpcode r.opcode = true) →
        (s.retryWaits port r = false → exec (.packetReceived port late bs) s = .next { u with
          lanes.inbox := s.lanes.inbox ++ [{ port := port, bytes := bs, frame := s.dueBoundary late, arrival := s.grid.frame }] }) ∧
        (s.retryWaits port r = true → exec (.packetReceived port late bs) s = .next u)) ∧
      (s.receiptFault port r = none → s.takesFrom port r.target = false →
        ¬(r.target = 0xFF ∧ port ≠ .ring ∧ bankOpcode r.opcode = true) → exec (.packetReceived port late bs) s = .next u) ∧
      (r.crcOk = false → r.target.toNat = s.ring.position → exec (.packetReceived port late bs) s =
        .next (s.sendReply port (s.replyPacket r.opcode r.seq .badCrc []))) ∧
      (r.crcOk = false → r.target.toNat ≠ s.ring.position → exec (.packetReceived port late bs) s = .next s) ∧
      ∀ st, s.receiptFault port r = some st → st ≠ .badCrc →
        exec (.packetReceived port late bs) s =
          .next (if s.takesFrom port r.target = true then u.sendReply port (u.replyPacket r.opcode r.seq st []) else u)

/-- For every opcode command: in the protection-only state and with the ports off nothing happens; a payload length that
no row allows is answered BAD_LENGTH when the packet is for this module and dropped otherwise; a bank broadcast of an
opcode that no bank broadcast may carry is dropped; a duplicate is not executed again and its recorded reply is sent
once more. (17_ploza_protocol.md) -/
def Obligations.OpcodesDoNotExecute : Prop :=
  ∀ (c : Instr) (op : Byte) (h : Hdr) (p : List Byte) (s : State), c.packet = some (op, h, p) →
    (s.lanes.protOnly = true ∨ s.portsOn = false → exec c s = .next s) ∧
    (s.lanes.protOnly = false → s.portsOn = true →
      (lengthOk op.toNat p = false → s.takes h.target = true →
        exec c s = .next (s.sendReply h.port (s.replyPacket op h.seq .badLength []))) ∧
      (lengthOk op.toNat p = false → s.takes h.target = false → exec c s = .next s) ∧
      (lengthOk op.toNat p = true → h.target = 0xFF → bankOpcode op = false → exec c s = .next s) ∧
      ∀ e, lengthOk op.toNat p = true → (h.target = 0xFF → bankOpcode op = true) → s.duplicateOf op h p = some e →
        exec c s = .next (s.answer h e.reply))

/-- Where no claim is contested and the reply fits, finishing a command keeps what the command left in every part but the
port, ring, Ploza, CAN and SPI records; an applied command's claims are added; and the port's history starts with an
entry of its sequence, opcode, target, CRC and reply. (17_ploza_protocol.md) -/
def Obligations.AnswersAreRecorded : Prop :=
  ∀ (s : State) (op : Byte) (h : Hdr) (p : List Byte) (a : Ans), s.settle h.port a = a → a.s.port.length = 4 →
    (s.finish op h p a).ploza.claims = (if a.st.applied then a.s.ploza.claims ++ a.claims else a.s.ploza.claims) ∧
    ((s.finish op h p a).portAt h.port).hist =
      ({ seq := h.seq, opcode := op, target := h.target, crc := historyCrc op h p
         reply := s.replyPacket op h.seq a.st a.payload, frame := a.s.grid.validFrames } :: (a.s.portAt h.port).hist).take 32 ∧
    ∀ x : Part, x ∉ [Part.ring, .port, .ploza, .can, .spi] → x.same a.s (s.finish op h p a)

/-- A command that would be applied and claims a target claimed earlier at the boundary finishes exactly as
LOST_ARBITRATION does, and one whose reply payload passes 4,096 bytes finishes exactly as OUT_OF_RANGE does: in both
cases every part but the port, ring, Ploza, CAN and SPI records is as before the command. (17_ploza_protocol.md) -/
def Obligations.ArbitrationAndReplySize : Prop :=
  ∀ (s : State) (op : Byte) (h : Hdr) (p : List Byte) (a : Ans),
    (a.st.applied = true → (∃ c ∈ a.claims, c ∈ s.ploza.claims) →
      s.finish op h p a = s.finish op h p { st := .lostArbitration, s := s } ∧
      ∀ x : Part, x ∉ [Part.ring, .port, .ploza, .can, .spi] → x.same s (s.finish op h p a)) ∧
    (¬(a.st.applied = true ∧ ∃ c ∈ a.claims, c ∈ s.ploza.claims) → 4096 < a.payload.length →
      s.finish op h p a = s.finish op h p { st := .outOfRange, s := s } ∧
      ∀ x : Part, x ∉ [Part.ring, .port, .ploza, .can, .spi] → x.same s (s.finish op h p a))

/-- PARAM_GET and PARAM_SET of an ID that no table of the chapter lists are answered UNKNOWN_PARAM with the ID, and
nothing is staged; so are the unused indices of each page. (R431) -/
def Obligations.UnlistedParameters : Prop :=
  ∀ (h : Hdr) (p : List Byte) (s : State), paramRow (getU p 0 2) = none →
    (s.executes 0x10 h p → exec (.paramGet h p) s =
      .next (s.finish 0x10 h p { st := .unknownParam, payload := toLe 2 (getU p 0 2), s := s })) ∧
    (s.executes 0x11 h p → exec (.paramSet h p) s =
      .next (s.finish 0x11 h p { st := .unknownParam, payload := toLe 2 (getU p 0 2), s := s }))

/-- A DISCARD that executes leaves no staged value and a staged table bank that is EMPTY, and is answered OK with the
number of parameters dropped. (R418) -/
def Obligations.DiscardEmptiesTheStagedSet : Prop :=
  ∀ (h : Hdr) (s : State), s.executes 0x13 h [] →
    ∃ t : State, exec (.discard h []) s =
        .next (s.finish 0x13 h [] { st := .ok, payload := toLe 2 s.ploza.staged.length, claims := [.stagedSet], s := t }) ∧
      t.ploza.staged = [] ∧ t.tbl.staged = .empty

/-- In its mode, with room in the staged set, a PARAM_SET of a writable parameter with the right size and a value in range
is answered OK and stages that value alone; PARAM_GET then gives the staged value, or the active one, which staging
does not change. (17_ploza_protocol.md, 18_parameter_map.md) -/
def Obligations.StagedValuesReadBack : Prop :=
  ∀ (h : Hdr) (p : List Byte) (s : State) (r : ParamRow), paramRow (getU p 0 2) = some r →
    (s.executes 0x11 h p → r.ro = false → getU p 2 2 = r.bytes → (r.service = true → s.grid.mode = .service) →
      r.ok (r.decode (p.drop 4)) = true → s.ploza.staged.length < 256 →
      ∃ t : State, exec (.paramSet h p) s =
          .next (s.finish 0x11 h p { st := .ok, payload := toLe 2 (getU p 0 2), claims := [.param (getU p 0 2)], s := t }) ∧
        t.stagedVal (getU p 0 2) = some (r.decode (p.drop 4)) ∧
        (∀ i, i ≠ getU p 0 2 → t.stagedVal i = s.stagedVal i) ∧ ∀ i, t.paramVals i = s.paramVals i) ∧
    (s.executes 0x10 h p → (getB p 2).toNat ≤ 1 → exec (.paramGet h p) s =
      .next (s.finish 0x10 h p { st := .ok, s := s, payload :=
        (toLe 2 (getU p 0 2) ++ toLe 2 r.bytes ++
          toLe 1 (if getB p 2 = 1 ∧ (s.stagedVal (getU p 0 2)).isSome = true then 1 else 0) ++ [0] ++
          r.encode (if getB p 2 = 1 then (s.stagedVal (getU p 0 2)).getD (s.paramVals (getU p 0 2)) else s.paramVals (getU p 0 2))) }))

/-- With every condition met and no image being written, a COMMIT empties the staged set, makes the value staged last for
each parameter its active one and leaves every other parameter as it was, counts CONFIG_SEQ up by one where parameters
were committed, and is answered OK with the commit frame and the number committed. (17_ploza_protocol.md,
18_parameter_map.md) -/
def Obligations.CommitAppliesTheStagedSet : Prop :=
  ∀ (h : Hdr) (s : State), s.executes 0x12 h [] → s.commitWrongState = none → s.commitOutOfRange = none →
    s.ploza.imageWrite = none →
    ∃ t : State, exec (.commit h []) s = .next (s.finish 0x12 h []
        { st := .ok, claims := [.stagedSet], s := t
          payload := w32 s.grid.frame ++ toLe 2 s.ploza.staged.length ++ toLe 1 (if s.tableInCommit then 1 else 0) ++ [0] }) ∧
      t.ploza.staged = [] ∧ t.grid.commitIds = s.ploza.staged.map (·.id) ∧
      (∀ i, i ≠ P.serial → i ≠ P.fwVersion → i ≠ P.configSeq → i ≠ P.configState →
        t.paramVals i = ((s.ploza.staged.reverse.find? (·.id == i)).map (·.val)).getD (s.paramVals i)) ∧
      (s.ploza.staged ≠ [] → t.ploza.configSeq = (s.ploza.configSeq + 1) % 2 ^ 32) ∧
      (s.ploza.staged = [] → t.ploza.configSeq = s.ploza.configSeq ∧ t.ploza.params = s.ploza.params)

/-- PING echoes its payload; IDENTIFY, HEALTH, WAKE_RECORD, RING_STATUS, SAFETY_STATUS and, for a request in range,
SNAPSHOT, CONV_FAULT_RECORD, DIAG PROT_EVENTS, DIAG ABSORBED_EVENTS and EIS_RESULT are answered OK, and nothing but
the answer changes; a SNAPSHOT count of 0 reads to the end of the section; a request out of range is OUT_OF_RANGE, and
EIS_RESULT outside RUN or without a result WRONG_STATE. (17_ploza_protocol.md, 18_parameter_map.md) -/
def Obligations.QueriesChangeNothing : Prop :=
  (∀ (h : Hdr) (p : List Byte) (s : State), s.executes 0x01 h p → exec (.ping h p) s = .next (s.finish 0x01 h p (okAns s p))) ∧
  (∀ (h : Hdr) (s : State),
    (s.executes 0x02 h [] → exec (.identify h []) s = .next (s.finish 0x02 h []
      (okAns s (orderCode.map (fun v => BitVec.ofInt 8 v) ++ w64 s.ploza.serial ++ toLe 4 (s.pn P.fwVersion) ++
        toLe 1 s.ring.position ++ toLe 1 (s.pn P.stringId) ++ toLe 1 s.cells ++ [0])))) ∧
    (s.executes 0x03 h [] → exec (.health h []) s = .next (s.finish 0x03 h []
      (okAns s (toLe 4 s.sluiceWord ++ toLe 4 s.govWord ++ w32 s.causeWord ++ toLe 4 s.convWord ++ toLe 4 s.ringWord ++
        toLe 4 s.laneWord ++ toLe 4 (safeWord s.safe) ++ toLe 4 (powerWord s.power) ++ toLe 4 s.lanes.absSeq)))) ∧
    (s.executes 0x21 h [] → exec (.wakeRecord h []) s = .next (s.finish 0x21 h [] (okAns s (wakeBytes s.power.wake)))) ∧
    (s.executes 0xA0 h [] → exec (.ringStatus h []) s =
      .next (s.finish 0xA0 h [] (okAns s (toLe 4 s.ringWord ++ toLe 4 s.ringCountWord)))) ∧
    (s.executes 0xB0 h [] → exec (.safetyStatus h []) s = .next (s.finish 0xB0 h [] (okAns s s.safetyStatusBytes)))) ∧
  ∀ (h : Hdr) (p : List Byte) (s : State),
    (s.executes 0x60 h p → ∀ lo hi n, sectionShape (getB p 0).toNat = some (lo, hi, n) → lo ≤ (getB p 1).toNat →
      (getB p 1).toNat + (getB p 2).toNat ≤ hi + 1 → (getB p 1).toNat ≤ hi → getB p 2 ≠ 0 → exec (.snapshot h p) s =
        .next (s.finish 0x60 h p (okAns s (s.sectionPayload (getB p 0).toNat (getB p 1).toNat (getB p 2).toNat 0 0xFF)))) ∧
    (s.executes 0x60 h p → ∀ lo hi n, sectionShape (getB p 0).toNat = some (lo, hi, n) →
      (lo ≤ (getB p 1).toNat → (getB p 1).toNat ≤ hi → getB p 2 = 0 → exec (.snapshot h p) s =
        .next (s.finish 0x60 h p (okAns s (s.sectionPayload (getB p 0).toNat (getB p 1).toNat (hi + 1 - (getB p 1).toNat) 0 0xFF)))) ∧
      ((getB p 1).toNat < lo ∨ hi < (getB p 1).toNat ∨ (getB p 2 ≠ 0 ∧ hi + 1 < (getB p 1).toNat + (getB p 2).toNat) →
        exec (.snapshot h p) s = .next (s.finish 0x60 h p { st := .outOfRange, s := s }))) ∧
    (s.executes 0x60 h p → sectionShape (getB p 0).toNat = none →
      exec (.snapshot h p) s = .next (s.finish 0x60 h p { st := .outOfRange, s := s })) ∧
    (s.executes 0x33 h p → 1 < (getB p 0).toNat ∨ (getB p 5).toNat = 0 ∨ 34 < (getB p 5).toNat →
      exec (.convFaultRecord h p) s = .next (s.finish 0x33 h p { st := .outOfRange, s := s })) ∧
    (s.executes 0xF1 h (0x04 :: p) → (getB p 4).toNat = 0 ∨ 31 < (getB p 4).toNat →
      exec (.diagProtEvents h p) s = .next (s.finish 0xF1 h (0x04 :: p) { st := .outOfRange, s := s })) ∧
    (s.executes 0xF1 h (0x07 :: p) → (getB p 4).toNat = 0 ∨ 120 < (getB p 4).toNat →
      exec (.diagAbsorbedEvents h p) s = .next (s.finish 0xF1 h (0x07 :: p) { st := .outOfRange, s := s })) ∧
    (s.executes 0x51 h p → s.power.st ≠ .run ∨ s.eis.result = none →
      exec (.eisResult h p) s = .next (s.finish 0x51 h p { st := .wrongState, s := s })) ∧
    (s.executes 0x51 h p → s.power.st = .run → s.eis.result.isSome = true →
      (getB p 0).toNat = 0 ∨ (getB p 1).toNat < (getB p 0).toNat ∨ 96 < (getB p 1).toNat →
      exec (.eisResult h p) s = .next (s.finish 0x51 h p { st := .outOfRange, s := s })) ∧
    (s.executes 0x33 h p → (getB p 0).toNat ≤ 1 → 1 ≤ (getB p 5).toNat → (getB p 5).toNat ≤ 34 →
      ∃ l : List ConvRec, exec (.convFaultRecord h p) s =
          .next (s.finish 0x33 h p (okAns s (toLe 1 l.length ++ zeros 3 ++ l.flatMap (·.bytes)))) ∧
        (getB p 0 = 0 → l = s.conv.lastFault.toList) ∧
        (getB p 0 = 1 → l = (s.conv.ring.reverse.filter fun r => getU p 1 4 ≤ r.seq).take (getB p 5).toNat)) ∧
    (s.executes 0xF1 h (0x04 :: p) → 1 ≤ (getB p 4).toNat → (getB p 4).toNat ≤ 31 →
      ∃ l : List ProtRec, exec (.diagProtEvents h p) s =
          .next (s.finish 0xF1 h (0x04 :: p) (okAns s (toLe 1 l.length ++ zeros 3 ++ l.flatMap (·.bytes)))) ∧
        l = (s.prot.recs.reverse.filter fun r => getU p 0 4 ≤ r.seq).take (getB p 4).toNat) ∧
    (s.executes 0xF1 h (0x07 :: p) → 1 ≤ (getB p 4).toNat → (getB p 4).toNat ≤ 120 →
      ∃ l : List AbsEvt, exec (.diagAbsorbedEvents h p) s = .next (s.finish 0xF1 h (0x07 :: p)
          (okAns s (toLe 1 l.length ++ zeros 3 ++ l.flatMap absBytes ++ s.lanes.absCounts.flatMap (toLe 4)))) ∧
        l = (s.lanes.absRecs.reverse.filter fun e => getU p 0 4 ≤ e.seq).take (getB p 4).toNat) ∧
    (s.executes 0x51 h p → s.power.st = .run → s.eis.result.isSome = true → 1 ≤ (getB p 0).toNat →
      (getB p 0).toNat ≤ (getB p 1).toNat → (getB p 1).toNat ≤ 96 → ∃ d, exec (.eisResult h p) s =
        .next (s.finish 0x51 h p (okAns s d)))

/-- The combinations of mode and power state that Table 0.5 marks no are ACTIVE in WATCH, DOZE and APHELION and STANDBY in
APHELION. A MODE that asks for a mode not permitted in the power state in force, and a POWER_STATE that asks for a
state not permitted with the mode in force, are answered WRONG_STATE and change nothing but the answer. (R12) -/
def Obligations.ForbiddenCombinations : Prop :=
  (∀ (m : Mode) (t : PowerSt), permitted m t = false ↔
    (m, t) ∈ [(Mode.active, PowerSt.watch), (.active, .doze), (.active, .aphelion), (.standby, .aphelion)]) ∧
  ∀ (h : Hdr) (p : List Byte) (s : State),
    (∀ m : Mode, s.executes 0x22 h p → modeOf (getB p 0) = some m → permitted m s.power.st = false →
      exec (.mode h p) s = .next (s.finish 0x22 h p { st := .wrongState, s := s })) ∧
    (∀ t : PowerSt, s.executes 0x20 h p → powerStOf (getB p 0) = some t → permitted s.grid.mode t = false →
      exec (.powerState h p) s = .next (s.finish 0x20 h p { st := .wrongState, s := s }))

/-- MODE of a mode that the power state does not permit, or ACTIVE from SERVICE, is answered WRONG_STATE; of another mode
than SERVICE with the safety block neither ARMED nor unused, REFUSED 0x09; of the running mode otherwise OK with no
effect; STANDBY to ACTIVE makes the mode ACTIVE, SERVICE with the converter OFF makes it SERVICE and the lane's
contactor request OPEN and otherwise drains the converter and is DEFERRED, STANDBY from SERVICE makes the request
CLOSE and is DEFERRED until K_POS is on, ACTIVE to STANDBY makes it STANDBY and drains a running converter; while a
change is deferred, MODE of its target is DEFERRED in its place and MODE of another mode ends it and is answered OK.
(00_scope.md, 15_safety_block.md, 17_ploza_protocol.md) -/
def Obligations.ModeCommands : Prop :=
  ∀ (h : Hdr) (p : List Byte) (s : State) (m : Mode), s.executes 0x22 h p → modeOf (getB p 0) = some m →
    (s.grid.deferredMode = none → s.mayMode m = true → m = s.grid.mode →
      m = .service ∨ s.safe.st = .armed ∨ s.safe.st = .notUsed →
      exec (.mode h p) s = .next (s.finish 0x22 h p (okAns s [] [.opMode]))) ∧
    (∀ d, s.grid.deferredMode = some d → s.mayMode m = true → ¬(m = .active ∧ s.grid.mode = .service) →
      m = .service ∨ s.safe.st = .armed ∨ s.safe.st = .notUsed →
      (d.target = m → ∃ t : State, exec (.mode h p) s =
          .next (s.finish 0x22 h p { st := .deferred, claims := [.opMode], s := t }) ∧ t.grid.mode = s.grid.mode ∧
        ∃ d', t.grid.deferredMode = some d' ∧ d'.target = m ∧ d'.ref = hdrRef h 0x22 true) ∧
      (d.target ≠ m → ∃ t : State, exec (.mode h p) s = .next (s.finish 0x22 h p (okAns t [] [.opMode])) ∧
        t.grid.deferredMode = none ∧ (m ≠ .service → t.grid.mode = m) ∧
        (m = .service → t.grid.mode = s.grid.mode ∧ t.lanes.closeReq = false))) ∧
    (permitted m s.power.st = false ∨ (m = .active ∧ s.grid.mode = .service) →
      exec (.mode h p) s = .next (s.finish 0x22 h p { st := .wrongState, s := s })) ∧
    (s.mayMode m = true → ¬(m = .active ∧ s.grid.mode = .service) → m ≠ .service →
      s.safe.st ≠ .armed → s.safe.st ≠ .notUsed →
      exec (.mode h p) s = .next (s.finish 0x22 h p { st := .refused, payload := [0x09], s := s })) ∧
    (s.grid.deferredMode = none → s.mayMode m = true → m = .active → s.grid.mode = .standby → s.safe.st = .armed ∨ s.safe.st = .notUsed →
      ∃ t : State, exec (.mode h p) s = .next (s.finish 0x22 h p (okAns t [] [.opMode])) ∧ t.grid = { s.grid with mode := .active }) ∧
    (s.grid.deferredMode = none → s.mayMode m = true → m = .service → s.grid.mode ≠ .service →
      (s.conv.st = .off → ∃ t : State, exec (.mode h p) s = .next (s.finish 0x22 h p (okAns t [] [.opMode])) ∧
        t.grid.mode = .service ∧ t.lanes.closeReq = false) ∧
      (s.conv.st ≠ .off → ∃ t : State, exec (.mode h p) s =
          .next (s.finish 0x22 h p { st := .deferred, claims := [.opMode], s := t }) ∧ t.grid.mode = .standby ∧
        (s.conv.st = .on → s.conv.toOff = false → t.conv.st = .draining ∧ t.conv.drainCause = 2) ∧
        ∃ d, t.grid.deferredMode = some d ∧ d.target = .service)) ∧
    (s.grid.deferredMode = none → s.mayMode m = true → m = .standby → s.grid.mode = .service →
      s.safe.st = .armed ∨ s.safe.st = .notUsed →
      (s.safe.kPos = true ∨ s.safe.st = .notUsed → ∃ t : State,
        exec (.mode h p) s = .next (s.finish 0x22 h p (okAns t [] [.opMode])) ∧ t.grid.mode = .standby ∧
        t.lanes.closeReq = true) ∧
      (s.safe.kPos = false → s.safe.st = .armed → ∃ t : State, exec (.mode h p) s =
          .next (s.finish 0x22 h p { st := .deferred, claims := [.opMode], s := t }) ∧ t.grid.mode = .service ∧
        t.lanes.closeReq = true ∧ ∃ d, t.grid.deferredMode = some d ∧ d.target = .standby)) ∧
    (s.grid.deferredMode = none → s.mayMode m = true → m = .standby → s.grid.mode = .active → s.safe.st = .armed ∨ s.safe.st = .notUsed →
      ∃ t : State, exec (.mode h p) s = .next (s.finish 0x22 h p (okAns t [] [.opMode])) ∧ t.grid.mode = .standby ∧
        (s.conv.st = .on → s.conv.toOff = false → t.conv.st = .draining ∧ t.conv.drainCause = 2))

/-- Enable in RUN and ACTIVE with no reason against it begins STARTING; while DRAINING it is latched, and a second one is
BUSY; STARTING or ON it has no effect; a reason is answered REFUSED, and another mode or power state WRONG_STATE.
Disable of a running converter begins DRAINING with end cause 1; OFF with HW_LATCH it is REFUSED 0x03, and OFF without
it FAULT_LATCH is cleared. A setpoint in range from an owner becomes the mode and target of the law; one out of range,
or of no mode of the law, is OUT_OF_RANGE. (11_string_converter.md, 12_control_engine.md, 17_ploza_protocol.md) -/
def Obligations.ConverterCommands : Prop :=
  ∀ (h : Hdr) (p : List Byte) (s : State),
    (s.executes 0x30 h p → s.power.st = .run → s.grid.mode = .active →
      (s.conv.st = .off → s.conv.latched = none → s.enableReason = 0 → ∃ t : State,
        exec (.convEnable h p) s = .next (s.finish 0x30 h p (okAns t [] [.convEnable])) ∧ t.conv.st = .starting ∧
          t.conv.startStep = 0 ∧ t.law.mode = s.law.newMode ∧ t.phase.length = s.phase.length) ∧
      (s.conv.st = .off → s.conv.latched = none → s.enableReason ≠ 0 → exec (.convEnable h p) s =
        .next (s.finish 0x30 h p { st := .refused, payload := toLe 1 s.enableReason, s := s })) ∧
      (s.conv.st = .starting ∨ s.conv.st = .on → s.conv.toOff = false →
        exec (.convEnable h p) s = .next (s.finish 0x30 h p (okAns s [] [.convEnable]))) ∧
      (s.conv.st = .off ∨ s.conv.st = .draining → s.conv.toOff = false → s.conv.latched.isSome = true →
        exec (.convEnable h p) s = .next (s.finish 0x30 h p { st := .busy, s := s })) ∧
      (s.conv.st = .draining → s.conv.toOff = false → s.conv.latched = none → exec (.convEnable h p) s =
        .next (s.finish 0x30 h p { st := .draining, claims := [.convEnable]
                                   s := { s with conv.latched := some { hdr := h, payload := p } } }))) ∧
    (s.executes 0x30 h p → s.power.st ≠ .run ∨ s.grid.mode ≠ .active →
      exec (.convEnable h p) s = .next (s.finish 0x30 h p { st := .wrongState, s := s })) ∧
    (s.executes 0x31 h p → s.ownerReason ≠ 0 → exec (.convDisable h p) s =
      .next (s.finish 0x31 h p { st := .refused, payload := toLe 1 s.ownerReason, s := s })) ∧
    (s.executes 0x31 h p → s.ownerReason = 0 →
      (s.conv.st = .draining → s.conv.toOff = false → ∃ t : State,
        exec (.convDisable h p) s = .next (s.finish 0x31 h p (okAns t [] [.convEnable])) ∧ t.conv.st = .draining ∧
          t.conv.latched = none) ∧
      (s.conv.st = .starting ∨ s.conv.st = .on → s.conv.toOff = false → ∃ t : State,
        exec (.convDisable h p) s = .next (s.finish 0x31 h p (okAns t [] [.convEnable])) ∧ t.conv.st = .draining ∧
          t.conv.drainCause = 1 ∧ t.conv.hwLatch = s.conv.hwLatch) ∧
      (s.conv.st = .off → s.conv.hwLatch = true →
        exec (.convDisable h p) s = .next (s.finish 0x31 h p { st := .refused, payload := [0x03], s := s })) ∧
      (s.conv.st = .off → s.conv.hwLatch = false → ∃ t : State,
        exec (.convDisable h p) s = .next (s.finish 0x31 h p (okAns t [] [.convEnable])) ∧ t.conv.faultLatch = false)) ∧
    (s.executes 0x32 h p → ∀ m, lawModeOf (getB p 0) = some m →
      (s.targetOk m (getS p 4 4) = true → s.ownerReason = 0 → ∃ t : State,
        exec (.convSetpoint h p) s = .next (s.finish 0x32 h p (okAns t t.setpointBytes [.convSetpoint])) ∧
          t.law = { s.law with newMode := m, target := getS p 4 4 } ∧ t.conv = s.conv) ∧
      (s.targetOk m (getS p 4 4) = true → s.ownerReason ≠ 0 → exec (.convSetpoint h p) s =
        .next (s.finish 0x32 h p { st := .refused, payload := toLe 1 s.ownerReason, s := s })) ∧
      (s.targetOk m (getS p 4 4) = false →
        exec (.convSetpoint h p) s = .next (s.finish 0x32 h p { st := .outOfRange, s := s }))) ∧
    (s.executes 0x32 h p → lawModeOf (getB p 0) = none →
      exec (.convSetpoint h p) s = .next (s.finish 0x32 h p { st := .outOfRange, s := s }))

/-- A plan in range, while balancing does not drain and P38 is not suspended, is answered OK and waits for the next slot;
from OFF balancing is then STARTING. A plan during DRAINING is latched, a second one is BUSY, one out of range
OUT_OF_RANGE, and with P38 suspended REFUSED 5. BAL_STOP of a running plan drains it with end cause 2 at the second
strobe from now; in OFF or DRAINING it only drops a latched plan. (09_balancing.md, 17_ploza_protocol.md) -/
def Obligations.BalancingCommands : Prop :=
  ∀ (h : Hdr) (p : List Byte) (s : State),
    (s.executes 0x40 h p →
      (s.bal.st = .draining → s.bal.latched = none → exec (.balPlan h p) s = .next (s.finish 0x40 h p
        { st := .draining, claims := [.balPlan], s := { s with bal.latched := some { hdr := h, payload := p } } })) ∧
      (s.bal.st ≠ .draining → s.bal.latched = none → (getB p 0).toNat = 1 ∨ (getB p 0).toNat = 2 → getU p 2 2 < 65535 →
        (((p.drop 4).map (·.toNat)).take s.cells).any (100 < ·) = false → (s.slotAt 38).suspended = false → ∃ (t : State) (d : List Byte),
        exec (.balPlan h p) s = .next (s.finish 0x40 h p (okAns t d [.balPlan])) ∧
          t.bal.pendingPlan = some { source := (getB p 0).toNat, duration := getU p 2 2, duty := (p.drop 4).map (·.toNat)
                                     cmd := some (hdrRef h 0x40 false) } ∧
          t.bal.st = (if s.bal.st = .off then .starting else s.bal.st) ∧ t.fe = s.fe) ∧
      (s.bal.st ≠ .draining → ((getB p 0).toNat ≠ 1 ∧ (getB p 0).toNat ≠ 2) ∨ getU p 2 2 = 65535 ∨
          (((p.drop 4).map (·.toNat)).take s.cells).any (100 < ·) = true →
        exec (.balPlan h p) s = .next (s.finish 0x40 h p { st := .outOfRange, s := s })) ∧
      (s.bal.st = .draining → s.bal.latched.isSome = true →
        exec (.balPlan h p) s = .next (s.finish 0x40 h p { st := .busy, s := s })) ∧
      (s.bal.st ≠ .draining → s.bal.latched = none → (getB p 0).toNat = 1 ∨ (getB p 0).toNat = 2 → getU p 2 2 < 65535 →
        (((p.drop 4).map (·.toNat)).take s.cells).any (100 < ·) = false → (s.slotAt 38).suspended = true →
        exec (.balPlan h p) s = .next (s.finish 0x40 h p { st := .refused, payload := [5], s := s }))) ∧
    (s.executes 0x41 h p →
      (s.bal.st = .starting ∨ s.bal.st = .on → ∃ t : State,
        exec (.balStop h p) s = .next (s.finish 0x41 h p (okAns t [] [.balPlan])) ∧ t.bal.st = .draining ∧ t.bal.endCause = 2 ∧
          t.bal.drainFrom = s.grid.frame + 2 ∧
          t.fe = s.fe.map fun (f : Fe) => { f with swDec := ((s.grid.frame + 2, 0) :: f.swDec).take 4 }) ∧
      (s.bal.st = .off ∨ s.bal.st = .draining → s.bal.latched = none →
        exec (.balStop h p) s = .next (s.finish 0x41 h p (okAns s [] [.balPlan]))) ∧
      (s.bal.st = .off ∨ s.bal.st = .draining → s.bal.latched.isSome = true → ∃ t : State,
        exec (.balStop h p) s = .next (s.finish 0x41 h p (okAns t [] [.balPlan])) ∧ t.bal.latched = none ∧
          t.bal.st = s.bal.st ∧ t.fe = s.fe))

/-- In RUN, with the mode its kind needs, a descriptor in range and no sweep running, the primary answers OK with the next
SWEEP_ID and S0 = this frame + 50, and the sweep is STARTING; a satellite takes both from the forwarded packet; while
DRAINING the command is latched; a descriptor out of range is OUT_OF_RANGE, a second sweep BUSY and one with a reason
against it REFUSED; outside RUN, or in a mode that its kind does not permit, it is WRONG_STATE. EIS_ABORT, at the
primary or forwarded to a satellite, of a running sweep drains it with end cause 2, drops a latched one, and without
either, elsewhere or outside RUN it is WRONG_STATE. (07_impedance_spectroscopy.md, 17_ploza_protocol.md) -/
def Obligations.SweepCommands : Prop :=
  ∀ (h : Hdr) (p : List Byte) (s : State),
    let here := s.isPrimary = true ∨ (h.port = .ring ∧ h.target = 0xFE)
    (s.executes 0x50 h p → forwardedSweep h p = none →
      s.power.st ≠ .run ∨ (if (sweepOf p).modeByte = 1 then s.grid.mode ≠ .active else s.grid.mode = .service) →
      exec (.eisStart h p) s = .next (s.finish 0x50 h p { st := .wrongState, s := s })) ∧
    (s.power.st = .run → s.executes 0x50 h p → forwardedSweep h p = none →
      (if (sweepOf p).modeByte = 1 then s.grid.mode = .active else s.grid.mode ≠ .service) →
      (s.eis.st = .off → s.eis.latched = none → s.sweepOk (sweepOf p) = true → s.sweepReason (sweepOf p) = 0 → ∃ t : State,
        exec (.eisStart h p) s = .next (s.finish 0x50 h p
          (okAns t (toLe 1 (nextSweepId s.eis.sweepId) ++ zeros 3 ++ w32 (s.grid.frame + 50)))) ∧
        t.eis.st = .starting ∧ t.eis.sweepId = nextSweepId s.eis.sweepId ∧
        t.eis.sweep = some { sweepOf p with id := nextSweepId s.eis.sweepId, s0 := s.grid.frame + 50 }) ∧
      (s.eis.st ≠ .draining → s.sweepOk (sweepOf p) = false →
        exec (.eisStart h p) s = .next (s.finish 0x50 h p { st := .outOfRange, s := s })) ∧
      (s.eis.st = .starting ∨ s.eis.st = .on → s.sweepOk (sweepOf p) = true →
        exec (.eisStart h p) s = .next (s.finish 0x50 h p { st := .busy, s := s })) ∧
      (s.eis.st = .off → s.eis.latched = none → s.sweepOk (sweepOf p) = true → s.sweepReason (sweepOf p) ≠ 0 →
        exec (.eisStart h p) s = .next (s.finish 0x50 h p
          { st := .refused, payload := toLe 1 (s.sweepReason (sweepOf p)), s := s })) ∧
      (s.eis.st = .draining → s.eis.latched = none → exec (.eisStart h p) s = .next (s.finish 0x50 h p
        { st := .draining, s := { s with eis.latched := some { hdr := h, payload := p } } }))) ∧
    (∀ a, s.power.st = .run → s.executes 0x50 h (p.take (p.length - 8)) → forwardedSweep h p = some a → s.isPrimary = false →
      (if (sweepOf (p.take (p.length - 8))).modeByte = 1 then s.grid.mode = .active else s.grid.mode ≠ .service) → ∃ t : State,
        exec (.eisStart h p) s = .next (s.finish 0x50 h (p.take (p.length - 8)) (okAns t (toLe 1 a.1 ++ zeros 3 ++ w32 a.2))) ∧
        t.eis.st = .starting ∧ t.eis.sweepId = a.1) ∧
    (s.power.st = .run → s.executes 0x52 h p → here → s.eis.st = .starting ∨ s.eis.st = .on → ∃ t : State,
      exec (.eisAbort h p) s = .next (s.finish 0x52 h p (okAns t)) ∧ t.eis.st = .draining ∧ t.eis.endCause = 2 ∧
        t.eis.stopBy = some (hdrRef h 0x52 false)) ∧
    (s.power.st = .run → s.executes 0x52 h p → here → s.eis.st ≠ .starting → s.eis.st ≠ .on → s.eis.latched.isSome = true →
      ∃ t : State, exec (.eisAbort h p) s = .next (s.finish 0x52 h p (okAns t)) ∧ t.eis.latched = none ∧ t.eis.st = s.eis.st) ∧
    (s.executes 0x52 h p → s.power.st ≠ .run ∨ ¬here ∨ (s.eis.st ≠ .starting ∧ s.eis.st ≠ .on ∧ s.eis.latched = none) →
      exec (.eisAbort h p) s = .next (s.finish 0x52 h p { st := .wrongState, s := s }))

/-- For a state the mode permits, settled or in a handshake: the state the module is in is answered OK and ends a
handshake, whose request is SUPERSEDED; a lower state begins the handshake of Table 16.3, asking block 0, in the TEST
context for DIAG POWER_TEST; a higher one, with AUX_OK set or not RUN, records the wake and waits for the boundary.
RUN without AUX_OK is REFUSED 6; during an entry after its commit point, a return or a RECOVERY entry the request is
queued; a state the mode does not permit is answered WRONG_STATE, and a code of no state OUT_OF_RANGE.
(16_power_states.md, 17_ploza_protocol.md) -/
def Obligations.PowerCommands : Prop :=
  ∀ (h : Hdr) (p : List Byte) (s : State) (target : PowerSt) (test : Bool),
    let c : Instr := if test then .diagPowerTest h p else .powerState h p
    let op : Byte := if test then 0xF1 else 0x20
    let q : List Byte := if test then 0x08 :: p else p
    s.executes op h q →
    (powerStOf (getB p 0) = none → exec c s = .next (s.finish op h q { st := .outOfRange, s := s })) ∧
    (powerStOf (getB p 0) = some target →
    (s.mayState target = false → exec c s = .next (s.finish op h q { st := .wrongState, s := s })) ∧
    (s.mayState target = true → s.power.phase = .committed ∨ s.power.phase = .returning ∨ s.power.context = .recovery →
      ∃ t : State, exec c s = .next (s.finish op h q { st := .deferred, claims := [.powerState], s := t }) ∧
        t.power.phase = s.power.phase ∧ t.power.st = s.power.st ∧ t.power.target = s.power.target ∧
        ∃ r, t.power.queued = some r ∧ r.target = target ∧ r.ref = some (hdrRef h op true)) ∧
    (s.mayState target = true → s.power.phase = .settled ∨ s.power.phase = .handshake → s.power.context ≠ .recovery →
      (target = s.power.st → s.power.phase = .settled → exec c s = .next (s.finish op h q (okAns s [] [.powerState]))) ∧
      (target = s.power.st → s.power.phase = .handshake → ∃ t : State,
        exec c s = .next (s.finish op h q (okAns t [] [.powerState])) ∧ t.power.phase = .settled ∧ t.power.st = s.power.st ∧
          t.power.req = none ∧ ∀ x y, s.power.req = some x → x.ref = some y → t.power.outs = s.power.outs ++
            [{ ref := y, final := 4, reason := 0, reached := s.power.st, block := none }]) ∧
      (s.power.st.code < target.code → ∃ t : State,
        exec c s = .next (s.finish op h q { st := .deferred, claims := [.powerState], s := t }) ∧ t.power.phase = .handshake ∧
          t.power.target = target ∧ t.power.block = some 0 ∧ t.power.st = s.power.st ∧ (test = true → t.power.context = .test)) ∧
      (target.code < s.power.st.code → target = .run → s.power.auxOk = false →
        exec c s = .next (s.finish op h q { st := .refused, payload := [6], s := s })) ∧
      (target.code < s.power.st.code → (target = .run → s.power.auxOk = true) → ∃ t : State,
        exec c s = .next (s.finish op h q { st := .deferred, claims := [.powerState], s := t }) ∧
          t.power.wakePending = some 9 ∧ t.power.wake.source = 9 ∧ t.power.st = s.power.st)))

/-- DIE_TEMP starts a conversion and its reply waits for the reading; CUR_CAL in RUN and SERVICE begins the calibration
and is DEFERRED, a second one is BUSY, and elsewhere it is WRONG_STATE; FAULT_CLEAR answers with the causes left,
which under LATCH are those still present; CELL_RESET in SERVICE starts one cell's estimator afresh and leaves the
others, for another cell is OUT_OF_RANGE and elsewhere WRONG_STATE; THERMO_CAL of the first point, at a reference
temperature given, stores the reference of each cell with a recent estimate, and outside RUN or in SERVICE is
WRONG_STATE. (03_current_front_end.md, 05_frame_budget_scheduler.md, 06_state_estimation.md,
07_impedance_spectroscopy.md, 10_hardware_protection.md, 17_ploza_protocol.md) -/
def Obligations.DiagCommands : Prop :=
  ∀ (h : Hdr) (p : List Byte) (s : State),
    (s.executes 0xF1 h (0x01 :: p) → exec (.diagDieTemp h p) s = .next
      { s with gov.convBusy := true, gov.convGrid := s.gov.convBusy && s.gov.convGrid
               ploza.dieAsk := s.ploza.dieAsk ++ [{ hdr := h, payload := 0x01 :: p }] }) ∧
    (s.executes 0xF1 h (0x02 :: p) → s.power.st = .run → s.grid.mode = .service → s.cfe.calRun = none →
      exec (.diagCurCal h p) s = .next (s.finish 0xF1 h (0x02 :: p)
        { st := .deferred, s := { s with cfe.calRun := some { ref := getS (0x02 :: p) 1 4, cmd := hdrRef h 0xF1 true } } })) ∧
    (s.executes 0xF1 h (0x02 :: p) → s.power.st = .run → s.grid.mode = .service → s.cfe.calRun.isSome = true →
      exec (.diagCurCal h p) s = .next (s.finish 0xF1 h (0x02 :: p) { st := .busy, s := s })) ∧
    (s.executes 0xF1 h (0x02 :: p) → s.power.st ≠ .run ∨ s.grid.mode ≠ .service →
      exec (.diagCurCal h p) s = .next (s.finish 0xF1 h (0x02 :: p) { st := .wrongState, s := s })) ∧
    (s.executes 0xF1 h (0x03 :: p) → ∃ t : State,
      exec (.diagFaultClear h p) s = .next (s.finish 0xF1 h (0x03 :: p) (okAns t (w32 (t.prot.cause &&& 0xFFC00000)))) ∧
        (s.prot.set.release = 0 → ∀ b, 22 ≤ b → b ≤ 31 →
          t.prot.cause.getLsbD b = (s.prot.cause.getLsbD b && s.prot.present.getLsbD (b - 22))) ∧
        (s.prot.set.release ≠ 0 → t.prot.cause = if s.prot.fifo = [] then setBit s.prot.cause 13 false else s.prot.cause)) ∧
    (s.executes 0xF1 h (0x05 :: p) → s.grid.mode = .service → 1 ≤ (getB p 0).toNat → (getB p 0).toNat ≤ s.cells → ∃ t : State,
      exec (.diagCellReset h p) s = .next (s.finish 0xF1 h (0x05 :: p) (okAns t)) ∧
        (∀ n, 1 ≤ n → n ≠ (getB p 0).toNat → t.estAt n = s.estAt n) ∧
        (s.est.length = 96 → (getB p 0).toNat ≤ 96 → let e := s.estAt (getB p 0).toNat
          t.estAt (getB p 0).toNat = { q := s.ratedAh, cq := e.cq, cqRem := e.cqRem, tUsed := e.tUsed
                                       fTempDefault := e.fTempDefault, lastBridge := e.lastBridge, smpLast := e.smpLast })) ∧
    (s.executes 0xF1 h (0x05 :: p) → s.grid.mode ≠ .service →
      exec (.diagCellReset h p) s = .next (s.finish 0xF1 h (0x05 :: p) { st := .wrongState, s := s })) ∧
    (s.executes 0xF1 h (0x05 :: p) → s.grid.mode = .service → (getB p 0).toNat = 0 ∨ s.cells < (getB p 0).toNat →
      exec (.diagCellReset h p) s = .next (s.finish 0xF1 h (0x05 :: p) { st := .outOfRange, s := s })) ∧
    (s.executes 0xF1 h (0x06 :: p) → s.power.st ≠ .run ∨ s.grid.mode = .service →
      exec (.diagThermoCal h p) s = .next (s.finish 0xF1 h (0x06 :: p) { st := .wrongState, s := s })) ∧
    (s.executes 0xF1 h (0x06 :: p) → s.power.st = .run → s.grid.mode ≠ .service → getB p 0 = 1 → getS p 1 2 ≠ -32768 →
      ∃ t : State, exec (.diagThermoCal h p) s = .next (s.finish 0xF1 h (0x06 :: p)
        (okAns t (toLe 1 s.calCells.length ++ [0] ++ toLe 2 0))) ∧ t.ploza.staged = s.ploza.staged ∧
        ∀ n ∈ s.calCells, n ≤ s.thermo.length → (t.thermoAt n).rRef = some (s.normalised n ((s.thermoAt n).lastZ.getD 0)) ∧
          (t.thermoAt n).tRef = (getS p 1 2 : Rat) / 100 ∧ (t.thermoAt n).lastZ = (s.thermoAt n).lastZ)

/-- RING_ENUMERATE at the primary with the string in SERVICE and RING_POS_SRC set to enumeration in every module starts
forming and is DEFERRED, at a satellite REFUSED 1, outside SERVICE 2 and without that setting 3 (that of the other
modules is a free value, log entry 94); SAFETY_RESET arms the safety block once its conditions have held and is
REFUSED with the status word before; ECLIPSE_SWAP with both lanes sound and the other current is DEFERRED, and
otherwise REFUSED 1 or BUSY; a stream in range and within its port's budget is configured, one over it is BUSY; RESET
in SERVICE with its CONFIRM restarts the module. (13_ceyth_ring.md, 14_lanes_and_failover.md, 15_safety_block.md,
17_ploza_protocol.md, 18_parameter_map.md) -/
def Obligations.RingSafetyAndRestartCommands : Prop :=
  ∀ (h : Hdr) (p : List Byte) (s : State),
    (s.executes 0xA1 h p →
      (s.isPrimary = false → exec (.ringEnumerate h p) s = .next (s.finish 0xA1 h p { st := .refused, payload := [1], s := s })) ∧
      (let others := (List.range 8).filter fun k => k != s.ring.position && s.ring.live.getLsbD k
        let svc := s.grid.mode = .service ∧ ∀ k ∈ others, ∀ x, s.ring.slots.getD k none = some x → x.state.toNat / 2 ^ 30 = 0
        let t := (State.allEnum others s).2
        (s.isPrimary = true → ¬svc → exec (.ringEnumerate h p) s =
          .next (s.finish 0xA1 h p { st := .refused, payload := [2], s := s })) ∧
        (s.isPrimary = true → svc → s.pn P.ringPosSrc ≠ 1 → exec (.ringEnumerate h p) s =
          .next (s.finish 0xA1 h p { st := .refused, payload := [3], s := s })) ∧
        (s.isPrimary = true → svc → s.pn P.ringPosSrc = 1 → (State.allEnum others s).1 = false →
          exec (.ringEnumerate h p) s = .next (s.finish 0xA1 h p { st := .refused, payload := [3], s := t })) ∧
        (s.isPrimary = true → svc → s.pn P.ringPosSrc = 1 → (State.allEnum others s).1 = true →
          t = { s with free := t.free } ∧
          exec (.ringEnumerate h p) s = .next (s.finish 0xA1 h p { st := .deferred, s :=
            { t with ring.forming := 16, ring.st := .forming, ring.enumBy := some (hdrRef h 0xA1 true) } })))) ∧
    (s.executes 0xB1 h p →
      (s.safe.st = .notUsed → exec (.safetyReset h p) s = .next (s.finish 0xB1 h p { st := .wrongState, s := s })) ∧
      (s.safe.st = .safe ∨ s.safe.st = .tripped → s.safe.resetReady = false → exec (.safetyReset h p) s =
        .next (s.finish 0xB1 h p { st := .refused, payload := toLe 4 (safeWord s.safe), s := s })) ∧
      (s.safe.st = .safe ∨ s.safe.st = .tripped → s.safe.resetReady = true → ∃ t : State,
        exec (.safetyReset h p) s = .next (s.finish 0xB1 h p (okAns t)) ∧ t.safe.st = .armed ∧ t.safe.gateKill = false ∧
          t.safe.safeOk = true ∧ t.safe.cause = 0)) ∧
    (s.executes 0xE0 h p → s.power.st = .run → (s.laneAt false).retired = false → (s.laneAt true).retired = false →
      s.otherLane.current = true → s.lanes.swapPhase = 0 → s.lanes.swapBy = none → ∃ t : State,
      exec (.eclipseSwap h p) s = .next (s.finish 0xE0 h p { st := .deferred, s := t }) ∧
        t.lanes = { s.lanes with swapBy := some (hdrRef h 0xE0 true) }) ∧
    (s.executes 0xE0 h p → s.power.st = .run →
      (s.laneAt false).retired = true ∨ (s.laneAt true).retired = true ∨ s.otherLane.current = false →
      exec (.eclipseSwap h p) s = .next (s.finish 0xE0 h p { st := .refused, payload := [1], s := s })) ∧
    (s.executes 0xE0 h p → s.power.st = .run → (s.laneAt false).retired = false → (s.laneAt true).retired = false →
      s.otherLane.current = true → s.lanes.swapPhase ≠ 0 ∨ s.lanes.swapBy.isSome = true →
      exec (.eclipseSwap h p) s = .next (s.finish 0xE0 h p { st := .busy, s := s })) ∧
    (s.executes 0x61 h p → ∀ port shape, streamPort (getB p 1) = some port → sectionShape (getB p 2).toNat = some shape →
      (getB p 0).toNat ≤ 3 → getU p 4 2 = 0 → exec (.streamConfig h p) s =
        .next (s.finish 0x61 h p (okAns { s with ploza.streams := setAt s.ploza.streams (getB p 0).toNat none }))) ∧
    (s.executes 0x61 h p → ∀ (shape : Nat × Nat × Nat) (port : Port), streamPort (getB p 1) = some port →
      sectionShape (getB p 2).toNat = some shape → (getB p 0).toNat ≤ 3 → getU p 4 2 ≠ 0 →
      let l := setAt s.ploza.streams (getB p 0).toNat
        (some { port := port, sect := (getB p 2).toNat, divider := getU p 4 2 })
      let tooLong := ((port = .canA ∧ s.canFd false = 0) ∨ (port = .canB ∧ s.canFd true = 0)) ∧
        2048 < 20 + sectionBytes (getB p 2).toNat + 10
      (tooLong → exec (.streamConfig h p) s = .next (s.finish 0x61 h p { st := .outOfRange, s := s })) ∧
      (¬tooLong → portRate l port ≤ s.portBudget port → exec (.streamConfig h p) s =
        .next (s.finish 0x61 h p (okAns { s with ploza.streams := l }))) ∧
      (¬tooLong → s.portBudget port < portRate l port → exec (.streamConfig h p) s =
        .next (s.finish 0x61 h p { st := .busy, s := s }))) ∧
    (s.executes 0x61 h p → streamPort (getB p 1) = none ∨ sectionShape (getB p 2).toNat = none ∨ 3 < (getB p 0).toNat →
      exec (.streamConfig h p) s = .next (s.finish 0x61 h p { st := .outOfRange, s := s })) ∧
    (s.executes 0xF0 h p → s.grid.mode ≠ .service → s.sec.restart = false →
      ∃ t : State, exec (.reset h p) s = .next t ∧ t = s.finish 0xF0 h p { st := .wrongState, s := s }) ∧
    (s.executes 0xF0 h p → s.grid.mode = .service → getU p 0 4 ≠ 0xA55A → s.sec.restart = false →
      exec (.reset h p) s = .next (s.finish 0xF0 h p { st := .outOfRange, s := s })) ∧
    (s.executes 0xF0 h p → s.grid.mode = .service → getU p 0 4 = 0xA55A → s.sec.restart = false →
      ∃ t : State, exec (.reset h p) s = .next t ∧ t.sec.restart = false ∧ t.grid.mode = .service ∧ t.ploza.staged = [] ∧
        t.lanes.valid = false)

/-- FW_STAGE in RUN with no verification running appends at the staged length or starts afresh at offset 0, and at another
offset or past 2 MiB is OUT_OF_RANGE; FW_ACTIVATE of a complete image in SERVICE is DEFERRED to its verification, and
of another OUT_OF_RANGE; under a latched TAMPER both, and ATTEST, are answered TAMPER_LATCHED with no effect;
JOURNAL_READ answers the entries asked for, and OUT_OF_RANGE where there are none; ATTEST in RUN is answered OK and
counted, and a third at one boundary is answered BUSY; REPROVISION in RUN and SERVICE is DEFERRED; outside its states
each of FW_STAGE, FW_ACTIVATE, ATTEST and REPROVISION is answered WRONG_STATE. (17_ploza_protocol.md,
20_security_and_journal.md) -/
def Obligations.SecurityCommands : Prop :=
  ∀ (h : Hdr) (p : List Byte) (s : State),
    (s.executes 0x80 h p →
      (s.power.st ≠ .run ∨ s.sec.fwVerify.isSome = true →
        exec (.fwStage h p) s = .next (s.finish 0x80 h p { st := .wrongState, s := s })) ∧
      (s.power.st = .run → s.sec.fwVerify = none → s.sec.tamper = true →
        exec (.fwStage h p) s = .next (s.finish 0x80 h p { st := .tamperLatched, s := s })) ∧
      (s.power.st = .run → s.sec.fwVerify = none → s.sec.tamper = false →
        ((getU p 0 4 ≠ 0 ∧ getU p 0 4 ≠ s.sec.fwStaged.length) ∨ 2097152 < getU p 0 4 + (p.drop 4).length →
          exec (.fwStage h p) s = .next (s.finish 0x80 h p { st := .outOfRange, s := s })) ∧
        (getU p 0 4 = s.sec.fwStaged.length → getU p 0 4 + (p.drop 4).length ≤ 2097152 →
          exec (.fwStage h p) s = .next (s.finish 0x80 h p (okAns { s with sec.fwStaged := s.sec.fwStaged ++ p.drop 4 }
            (toLe 4 s.sec.fwStaged.length ++ toLe 4 (s.sec.fwStaged ++ p.drop 4).length) [.firmware]))) ∧
        (getU p 0 4 = 0 → (p.drop 4).length ≤ 2097152 →
          exec (.fwStage h p) s = .next (s.finish 0x80 h p (okAns { s with sec.fwStaged := p.drop 4 }
            (toLe 4 0 ++ toLe 4 (p.drop 4).length) [.firmware]))))) ∧
    (s.executes 0x81 h p →
      (s.power.st ≠ .run ∨ s.grid.mode ≠ .service ∨ s.sec.fwVerify.isSome = true →
        exec (.fwActivate h p) s = .next (s.finish 0x81 h p { st := .wrongState, s := s })) ∧
      (s.power.st = .run → s.grid.mode = .service → s.sec.fwVerify = none →
        (s.sec.tamper = true → exec (.fwActivate h p) s = .next (s.finish 0x81 h p { st := .tamperLatched, s := s })) ∧
        (s.sec.tamper = false → getU p 0 4 ≠ s.sec.fwStaged.length ∨ getU p 0 4 ≠ 128 + getU s.sec.fwStaged 16 4 ∨
            getU s.sec.fwStaged 0 4 ≠ 0x5A583936 ∨ getU s.sec.fwStaged 4 2 ≠ 1 →
          exec (.fwActivate h p) s = .next (s.finish 0x81 h p { st := .outOfRange, s := s })) ∧
        (s.sec.tamper = false → getU p 0 4 = s.sec.fwStaged.length → getU p 0 4 = 128 + getU s.sec.fwStaged 16 4 →
          getU s.sec.fwStaged 0 4 = 0x5A583936 → getU s.sec.fwStaged 4 2 = 1 → exec (.fwActivate h p) s =
            .next (s.finish 0x81 h p { st := .deferred, claims := [.firmware]
                                       s := { s with sec.fwVerify := some (hdrRef h 0x81 true) } })))) ∧
    (s.executes 0x90 h p →
      (∀ top, s.newestIndex = some top → 1 ≤ (getB p 4).toNat → (getB p 4).toNat ≤ 63 → getU p 0 4 ≤ top →
        top ≤ getU p 0 4 + 4095 → ∃ (t : State) (l : List (List Byte)),
          exec (.journalRead h p) s = .next (s.finish 0x90 h p (okAns t (toLe 1 l.length ++ zeros 3 ++ l.flatMap id))) ∧
          l = (List.range (min (getB p 4).toNat (top + 1 - getU p 0 4))).map (fun i => s.entryBytes (getU p 0 4 + i)) ∧
          t.sec = s.sec) ∧
      (s.newestIndex = none ∨ (getB p 4).toNat = 0 ∨ 63 < (getB p 4).toNat ∨
          (∃ top, s.newestIndex = some top ∧ (top < getU p 0 4 ∨ getU p 0 4 + 4095 < top)) →
        exec (.journalRead h p) s = .next (s.finish 0x90 h p { st := .outOfRange, s := s }))) ∧
    (s.executes 0x91 h p →
      (s.power.st ≠ .run → exec (.attest h p) s = .next (s.finish 0x91 h p { st := .wrongState, s := s })) ∧
      (s.power.st = .run → s.sec.tamper = true →
        exec (.attest h p) s = .next (s.finish 0x91 h p { st := .tamperLatched, s := s })) ∧
      (s.power.st = .run → s.sec.tamper = false → 2 ≤ s.ploza.attests →
        exec (.attest h p) s = .next (s.finish 0x91 h p { st := .busy, s := s })) ∧
      (s.power.st = .run → s.sec.tamper = false → s.ploza.attests < 2 → ∃ (t : State) (d : List Byte),
        exec (.attest h p) s = .next (s.finish 0x91 h p (okAns t d)) ∧ t.ploza.attests = s.ploza.attests + 1 ∧ t.sec = s.sec)) ∧
    (s.executes 0x92 h p →
      (s.power.st ≠ .run ∨ s.grid.mode ≠ .service →
        exec (.reprovision h p) s = .next (s.finish 0x92 h p { st := .wrongState, s := s })) ∧
      (s.power.st = .run → s.grid.mode = .service → exec (.reprovision h p) s = .next (s.finish 0x92 h p
        { st := .deferred, s := { s with sec.reprov := s.sec.reprov ++ [{ hdr := h, payload := p }] } })))

/-- A block 0 to 63 whose CRC matches, while the staged bank is not VALIDATING, is DEFERRED, makes the bank LOADING under
its tag and clears the last rejection; a wrong CRC is answered BAD_CRC; a block above 63 OUT_OF_RANGE; during
validation BUSY. TABLE_READ of a stored block answers its words and CRC, and of the staged bank while EMPTY
WRONG_STATE. (08_chemistry_model_table.md, 17_ploza_protocol.md) -/
def Obligations.TableCommands : Prop :=
  ∀ (h : Hdr) (p : List Byte) (s : State),
    (s.executes 0x14 h p →
      (63 < (getB p 0).toNat → exec (.tableWrite h p) s = .next (s.finish 0x14 h p { st := .outOfRange, s := s })) ∧
      ((getB p 0).toNat ≤ 63 → getB p 1 = 0 → s.tbl.staged = .validating →
        exec (.tableWrite h p) s = .next (s.finish 0x14 h p { st := .busy, s := s })) ∧
      ((getB p 0).toNat ≤ 63 → getB p 1 = 0 → s.tbl.staged ≠ .validating → crc32c (p.take 1032) ≠ BitVec.ofNat 32 (getU p 1032 4) →
        exec (.tableWrite h p) s = .next (s.finish 0x14 h p { st := .badCrc, s := s })) ∧
      ((getB p 0).toNat ≤ 63 → getB p 1 = 0 → s.tbl.staged ≠ .validating → crc32c (p.take 1032) = BitVec.ofNat 32 (getU p 1032 4) →
        ∃ t : State, exec (.tableWrite h p) s =
            .next (s.finish 0x14 h p { st := .deferred, claims := [.tableBlock (getB p 0).toNat], s := t }) ∧
          t.tbl.staged = .loading ∧ t.tbl.stagedTag = BitVec.ofNat 32 (getU p 4 4) ∧ t.tbl.reject = 0 ∧
          t.tbl.activeBank = s.tbl.activeBank)) ∧
    (s.executes 0x15 h p →
      (getB p 1 = 0 → s.tbl.staged = .empty → exec (.tableRead h p) s = .next (s.finish 0x15 h p { st := .wrongState, s := s })) ∧
      (∀ ws, (getB p 0).toNat ≤ 63 → getB p 1 = 1 → s.activeTable.blocks.getD (getB p 0).toNat none = some ws →
        exec (.tableRead h p) s = .next (s.finish 0x15 h p (okAns s (toLe 1 (getB p 0).toNat ++ toLe 1 1 ++
          (blockBytes (getB p 0).toNat s.activeTable.tag ws).drop 2 ++ w32 (s.activeTable.crcs.getD (getB p 0).toNat 0))))))

/-- With the controller domain clocked, a strobe advances the frame number by one and plant time by 100,000 ns, takes the
NTC readings, applies on each front end what the last back channel brought, and lets a pending protection set in its
second frame take effect; with the domain off there is no strobe. (01_one_frame.md, 02_cell_taps_and_front_ends.md) -/
def Obligations.StrobeOpensTheFrame : Prop :=
  ∀ (ntc : List (Option Int)) (s : State), ntc.length = 16 →
    (s.clockOn = false → exec (.sampleStrobe ntc) s = .next s) ∧
    (s.clockOn = true → ∃ t : State, exec (.sampleStrobe ntc) s = .next t ∧ t.grid.frame = s.grid.frame + 1 ∧
      t.grid.plantNs = s.grid.plantNs + 100000 ∧ t.ntc.temp = ntc ∧ t.fe = s.fe.map Fe.strobe ∧ t.cfe.subs = [] ∧
      (∀ x, s.prot.setPending = some x → s.prot.setAge ≤ 1 → t.prot.set = x ∧ t.prot.setPending = none) ∧
      (s.prot.setPending = none → t.prot = s.prot))

/-- With the domain off there is no boundary, and in WATCH only frames that are multiples of ten have one; any other
boundary leaves an open window with nothing done in it, in the tail exactly when it came late, unless the restart that
it carries out follows. (01_one_frame.md, 05_frame_budget_scheduler.md, 16_power_states.md) -/
def Obligations.BoundaryOpensTheWindow : Prop :=
  ∀ (late : Nat) (s : State),
    let own := s.grid.frame - BitVec.ofNat 32 ((late + 8000) / 100000)
    (s.clockOn = false → exec (.frameBoundary late) s = .next s) ∧
    (s.power.st = .watch → own.toNat % 10 ≠ 0 → exec (.frameBoundary late) s = .next s) ∧
    (s.clockOn = true → (s.power.st = .watch → own.toNat % 10 = 0) → ∃ u t : State, exec (.frameBoundary late) s = .next t ∧
      t = (if u.sec.restart && u.laneRuns then u.resetTail else u) ∧ u.sched.windowOpen = true ∧ u.sched.lateNs = late ∧
      u.sched.inTail = decide (0 < late) ∧ u.sched.isComet = false ∧ u.sched.done = [])

/-- The governor's decision of the lane in charge stands for the next window, and where its power estimate passes the cap
it says so and permits no excitation; a window end closes the window; a comet is counted once a window; a schedule
fault from the eighth window of a tail on stops O work until O_WORK_RESUME, after 10,000 windows without a comet; a
transit check that has starved is recorded; a finished conversion clears the conversion and shows whether it
completed; a job that may run in the open window is done. (04_pan_array.md, 05_frame_budget_scheduler.md) -/
def Obligations.WindowAndGovernorEvents : Prop :=
  ∀ s : State,
    (s.laneRuns = true → ∃ (t : State) (d : GovDecision), exec .governorDecision s = .next t ∧
      t.gov.next = ((s.grid.frame + 1, d) :: s.gov.next).take 8 ∧
      d.capUnmet = decide (s.pr P.modulePowerCap < s.powerOf d.admitted d.transit) ∧ (d.capUnmet = true → d.excPermit = false)) ∧
    (s.laneRuns = false → exec .governorDecision s = .next s) ∧
    (∀ slot late, slot < 40 → s.sched.windowOpen = true → ∃ t : State, exec (.computeWindowEnd slot late) s = .next t ∧
      t.sched.windowOpen = false ∧ t.sched.lateNs = late) ∧
    (∀ slot late, slot < 40 → s.sched.windowOpen = false → exec (.computeWindowEnd slot late) s = .next s) ∧
    (s.sched.windowOpen = true → s.sched.isComet = false → exec .comet s =
      .next { s with sched.isComet := true, sched.calm := 0, sched.comets := bump 0xFFFF s.sched.comets }) ∧
    (s.sched.inTail = true → 8 ≤ s.sched.tailLen → ∃ t : State, exec .scheduleFault s = .next t ∧ t.sched =
      { s.sched with schedFaults := bump 0xFF s.sched.schedFaults, oStopFault := true }) ∧
    exec .oWorkResume s = .next (if 10000 ≤ s.sched.calm then { s with sched.oStopFault := false } else s) ∧
    (∀ k ∈ s.activeSlots, 48 < (s.slotAt k).unshadowed → s.sluice.transitSuspended = false → ∃ t : State,
      exec .transitSuspended s = .next t ∧ t.sluice.transitSuspended = true) ∧
    (∀ v, s.gov.convBusy = true → ∃ t : State, exec (.dieTempConversion v) s = .next t ∧ t.gov.convBusy = false ∧
      t.gov.dieNoConv = false ∧ t.gov.dieTemp = clampInt (-32767) 32767 v) ∧
    (s.gov.convBusy = true → ∃ t : State, exec .dieTempTimeout s = .next t ∧ t.gov.convBusy = false ∧
      t.gov.dieNoConv = true ∧ t.gov.diodeBad = true) ∧
    (∀ pan job res k, pan < 48 → s.roleOf pan = some k → s.sched.windowOpen = true → s.clockOn = true → s.mayRun k job = true →
      jobClass job ≠ 1 → ∃ t : State, exec (.panJobComplete pan job res) s = .next t ∧ (k, job) ∈ t.sched.done)

/-- A hard fault of a pan that runs halts it and no spare, shadow or load keeps it; a pan that is halted, gated or retired
has none; a recipe that was loaded into a pan for a slot readies that slot's move, or where an arbitration waits for
it lets the arbitration go on; a self-test that passes puts the pan into the pool; a sluice failure freezes the
assignment; a finished NVM transfer frees the port for the next. (04_pan_array.md) -/
def Obligations.PanEvents : Prop :=
  ∀ s : State,
    (∀ pan fault, pan < 48 → (s.panAt pan).st = .retired ∨ (s.panAt pan).st = .gated ∨ (s.panAt pan).st = .halted →
      exec (.panHardFault pan fault) s = .next s) ∧
    (∀ pan fault, pan < 48 → s.pan.length = 48 → (s.panAt pan).st = .spareIdle → (s.panAt pan).loadFor = none →
      s.slot.all (fun y => y.moveTo != some pan) = true →
      ∃ t : State, exec (.panHardFault pan fault) s = .next t ∧ (t.panAt pan).st = .halted ∧ (t.panAt pan).lastFault = fault ∧
        t.slot = s.slot) ∧
    (∀ pan slot, pan < 48 → slot < 40 → s.pan.length = 48 → s.slot.length = 40 → (s.panAt pan).st = .spareIdle →
      (s.panAt pan).loadFor = some slot → s.sluice.frozen = false → ∃ t : State,
      exec (.sluiceLoadComplete pan slot) s = .next t ∧ (t.panAt pan).recipe = some (slotRecipe slot) ∧
        let mine (a : Arb) : Prop := a.slot = slot ∧ (a.referee = some pan ∨ (a.referee = none ∧ a.shadow = pan))
        ((∀ a ∈ s.sluice.arbs, ¬mine a) → (t.slotAt slot).moveTo = some pan ∧ t.sluice = s.sluice) ∧
        ((∃ a ∈ s.sluice.arbs, mine a) → t.slot = s.slot ∧
          t.sluice.arbs.length = s.sluice.arbs.length ∧ ∀ (i : Nat) (a : Arb), s.sluice.arbs[i]? = some a →
            (mine a → t.sluice.arbs[i]? = some { a with loaded := true }) ∧ (¬mine a → t.sluice.arbs[i]? = some a))) ∧
    (∀ pan, pan < 48 → s.pan.length = 48 → (s.panAt pan).st = .bist → s.sluice.arbs = [] → ∃ t : State,
      exec (.panBistComplete pan true) s = .next t ∧ (t.panAt pan).st = .spareIdle ∧ (t.panAt pan).role = 0xFE) ∧
    (∀ pan, pan < 48 → s.pan.length = 48 → (s.panAt pan).st = .bist → s.sluice.arbs = [] → ∃ t : State,
      exec (.panBistComplete pan false) s = .next t ∧ (t.panAt pan).st = .retired ∧
        (t.panAt pan).retireCount = satTo 3 ((s.panAt pan).retireCount + 1)) ∧
    (∀ cause, 1 ≤ cause → cause ≤ 3 → s.sluice.frozen = false → ∃ t : State,
      exec (.sluiceFail cause) s = .next t ∧ t.sluice.frozen = true ∧ t.sluice.arbs = []) ∧
    (s.nvm.busy = none → exec .nvmTransferComplete s = .next s) ∧
    (∀ r, s.nvm.busy = some r → r.left ≤ 1 → s.nvm.waiting = [] → exec .nvmTransferComplete s =
      .next { s with nvm.busy := none }) ∧
    (∀ r, s.nvm.busy = some r → 1 < r.left → s.nvm.waiting = [] → exec .nvmTransferComplete s =
      .next { s with nvm.busy := some { r with left := r.left - 1 }, nvm.waiting := [], nvm.lastLane := r.lane })

/-- A packet of an active front end whose link is up: a good one ends the run of bad ones and enters the buffer, marked
bad before the second full frame after an alignment; a bad or missing one enters it as a repeat with HELD, counts the
run and the CRC errors, and the fourth in a row starts a relink; when three samples wait in the buffer the oldest goes
first, on every port; a port that is down or lost delivers nothing. (02_cell_taps_and_front_ends.md,
05_frame_budget_scheduler.md) -/
def Obligations.FrontEndPackets : Prop :=
  ∀ (fe : Nat) (bs : List Byte) (lo hi : BitVec 16) (s : State), 1 ≤ fe → fe ≤ 6 → s.fe.length = 6 →
    let stamp := s.grid.frame - 1
    let run := (s.feAt fe).badRun + 1
    (s.feActive fe = false ∨ (s.feAt fe).linkUp = false ∨ (s.feAt fe).lost = true →
      exec (.feFramePacket fe bs lo hi) s = .next s) ∧
    (s.feActive fe = true → (s.feAt fe).linkUp = true → (s.feAt fe).lost = false →
      (feGood fe stamp bs = true → ∃ t : State,
        exec (.feFramePacket fe bs lo hi) s = .next t ∧ (t.feAt fe).badRun = 0 ∧ (t.feAt fe).heldRun = 0 ∧
          (t.feAt fe).skipSamples = (s.feAt fe).skipSamples - 1 ∧
          (s.waitingIn (s.feAt fe) < 3 → (t.feAt fe).buf = (s.feAt fe).buf ++
            [if 0 < (s.feAt fe).skipSamples then { feSampleOf stamp bs lo hi with bad := true } else feSampleOf stamp bs lo hi])) ∧
      (feGood fe stamp bs = false → ∃ t : State,
        exec (.feFramePacket fe bs lo hi) s = .next t ∧ (t.feAt fe).badRun = run ∧ (t.feAt fe).heldRun = min 3 run ∧
          (t.feAt fe).crcErrors = bump 0xFFFF (s.feAt fe).crcErrors ∧ (t.feAt fe).linkUp = decide (run < 4) ∧
          (t.feAt fe).relinking = (decide (4 ≤ run) || (s.feAt fe).relinking) ∧
          (s.waitingIn (s.feAt fe) < 3 → (t.feAt fe).buf = (s.feAt fe).buf ++
            [{ (s.feAt fe).buf.getLastD {} with stamp := stamp, held := true, bad := decide (4 ≤ run) }])) ∧
      (3 ≤ s.waitingIn (s.feAt fe) → ∀ old rest, s.waitingOf ((s.feAt fe).buf.map (·.stamp)) = old :: rest → ∃ t : State,
        exec (.feFramePacket fe bs lo hi) s = .next t ∧ t.sched.discards = bump 0xFF s.sched.discards ∧ t.sched.discarded = true ∧
          t.cfe.buf = (s.cfe.buf.filter fun y => y.stamp != old) ∧
          ∀ k, 1 ≤ k → k ≤ 6 → k ≠ fe → (t.feAt k).buf = (s.feAt k).buf.filter fun y => y.stamp != old))

/-- On a port of an active front end: a line down drops the link and starts a relink, a fault channel down is noted; a
link fault on one that is down is a cause; an attempt that ends with a delay inside 50 to 400 ns brings the link up,
one without is counted and the tenth makes the port lost; a retry begins the next attempt 100 frames after the last; a
delay outside its limits starts a relink; an aux supply that fails moves the die to its stack supply or takes its
power; its return undoes that; the keep-alive test marks the stack supply; a missing back-channel message opens every
switch. The same for the CFE port, which has no fault channel of this kind. (01_one_frame.md,
02_cell_taps_and_front_ends.md, 03_current_front_end.md) -/
def Obligations.FrontEndLinkEvents : Prop :=
  (∀ (fe : Nat) (s : State), 1 ≤ fe → fe ≤ 6 → s.fe.length = 6 →
    (s.feActive fe = false → (∀ b, exec (.portLineDown fe b) s = .next s) ∧ exec (.feLinkFault fe) s = .next s ∧
      exec (.feSupplyChangeover fe) s = .next s ∧ ∀ b, exec (.stackKeepaliveTest fe b) s = .next s) ∧
    (s.feActive fe = true → (∃ t : State, exec (.portLineDown fe false) s = .next t ∧
      (t.feAt fe).lineDown = true ∧ (t.feAt fe).linkUp = false ∧
      (t.feAt fe).relinking = (!(s.feAt fe).lost || (s.feAt fe).relinking)) ∧
      exec (.portLineDown fe true) s = .next (s.modFe fe fun f => { f with faultChDown := true })) ∧
    (s.feActive fe = true → s.power.st ≠ .aphelion →
      ((s.feAt fe).lineDown = true ∧ s.power.st ≠ .doze) ∨ (s.feAt fe).faultChDown = true → ∃ t : State,
      exec (.feLinkFault fe) s = .next t ∧ t.prot.cause.getLsbD 27 = true ∧ t.prot.present.getLsbD 5 = true) ∧
    ((s.feAt fe).relinking = true → (s.feAt fe).attempt = true →
      (∀ d, 50 ≤ d → d ≤ 400 → ∃ t : State, exec (.relinkAttemptEnd fe (some d)) s = .next t ∧ (t.feAt fe).linkUp = true ∧
        (t.feAt fe).relinking = false ∧ (t.feAt fe).delayNs = d ∧ (t.feAt fe).badRun = 0) ∧
      (∀ x : Option Nat, (∀ d, x = some d → d < 50 ∨ 400 < d) → ∃ t : State, exec (.relinkAttemptEnd fe x) s = .next t ∧
        (t.feAt fe).attempt = false ∧ (t.feAt fe).lost = (decide (10 ≤ (s.feAt fe).relinkTries + 1) || (s.feAt fe).lost))) ∧
    (100 ≤ (s.grid.frame - (s.feAt fe).attemptAt).toNat →
      exec (.relinkRetry fe) s = .next (s.modFe fe fun f => { f with attempt := f.relinking })) ∧
    ((s.feAt fe).attempt = false → (s.grid.frame - (s.feAt fe).attemptAt).toNat < 100 → ∃ t : State,
      exec (.relinkRetry fe) s = .next t ∧ (t.feAt fe).attempt = false) ∧
    ((s.feAt fe).linkUp = true → ∀ d : List Nat, d.length = 7 →
      (d.getD (fe - 1) 0 < 50 ∨ 400 < d.getD (fe - 1) 0 → ∃ t : State,
        exec (.strobeDelayMeasure d) s = .next t ∧ (t.feAt fe).linkUp = false ∧ (t.feAt fe).relinking = true) ∧
      (50 ≤ d.getD (fe - 1) 0 → d.getD (fe - 1) 0 ≤ 400 → ∃ t : State, exec (.strobeDelayMeasure d) s = .next t ∧
        (t.feAt fe).linkUp = true ∧
        (t.feAt fe).strobeAdj = decide (10 < ((d.getD (fe - 1) 0 : Int) - (s.feAt fe).delayNs).natAbs) ∧
        ((t.feAt fe).strobeAdj = true → (t.feAt fe).delayNext = some (d.getD (fe - 1) 0)))) ∧
    (s.feActive fe = true → ∃ t : State, exec (.feSupplyChangeover fe) s = .next t ∧ (t.feAt fe).auxSupplyFail = true ∧
      (t.feAt fe).supplyStack = !s.noRide fe ∧ (t.feAt fe).noFallback = s.noRide fe) ∧
    (∃ t : State, exec (.feAuxReturn fe) s = .next t ∧ (t.feAt fe).auxSupplyFail = false ∧ (t.feAt fe).supplyStack = false ∧
      (t.feAt fe).noFallback = false ∧ ((s.feAt fe).noFallback = true → (t.feAt fe).relinking = true)) ∧
    (∀ pass, s.feActive fe = true → (s.feAt fe).supplyStack = false → ∃ t : State,
      exec (.stackKeepaliveTest fe pass) s = .next t ∧ (t.feAt fe).stackSupplyFail = !pass) ∧
    exec (.backChannelMessage fe true) s = .next s ∧
    (∃ t : State, exec (.backChannelMessage fe false) s = .next t ∧ (t.feAt fe).swNext = 0 ∧ (t.feAt fe).owNext = none ∧
      (t.feAt fe).thrNext = none ∧ (t.feAt fe).bcErrNext = true) ∧
    (∃ t : State, exec .backChannelCutoff s = .next t ∧
      (t.feAt fe).swNext = (if s.lanes.protOnly then 0
        else if s.laneRuns then (pickDec (s.grid.frame + 1) (s.feAt fe).swDec).getD (s.feAt fe).swNow else (s.feAt fe).swNow) ∧
      (s.laneRuns = false → (t.feAt fe).owNext = none) ∧
      (t.feAt fe).thrNext = (if s.prot.imageBad || s.lanes.protOnly then none else some s.strobeSet))) ∧
  ∀ s : State,
    (s.pn P.cfeRole ≠ 0 → ∃ t : State, exec (.portLineDown 7 false) s = .next t ∧ t.cfe.lineDown = true ∧ t.cfe.linkUp = false ∧
      t.cfe.relinking = (!s.cfe.lost) ∧ t.cfe.iInvalid = true ∧ t.cfe.ctlMissing = true) ∧
    (s.pn P.cfeRole ≠ 0 → ∃ t : State, exec (.feSupplyChangeover 7) s = .next t ∧ t.cfe.auxSupplyFail = true ∧
      t.cfe.supplyStack = true) ∧
    (s.pn P.cfeRole = 0 → exec (.portLineDown 7 false) s = .next s ∧ exec (.feSupplyChangeover 7) s = .next s) ∧
    exec (.portLineDown 7 true) s = .next s ∧
    exec (.feAuxReturn 7) s = .next { s with cfe.supplyStack := false, cfe.auxSupplyFail := false } ∧
    (∀ pass, s.cfe.supplyStack = false → exec (.stackKeepaliveTest 7 pass) s = .next { s with cfe.stackSupplyFail := !pass }) ∧
    exec (.backChannelMessage 7 true) s = .next s ∧
    exec (.backChannelMessage 7 false) s = .next { s with cfe.ocNext := none } ∧
    (s.cfe.relinking = true → s.cfe.attempt = true →
      (∀ d, 50 ≤ d → d ≤ 400 → ∃ t : State, exec (.relinkAttemptEnd 7 (some d)) s = .next t ∧ t.cfe.linkUp = true ∧
        t.cfe.relinking = false ∧ t.cfe.delayNs = d ∧ t.cfe.badRun = 0) ∧
      (∀ x : Option Nat, (∀ d, x = some d → d < 50 ∨ 400 < d) → ∃ t : State, exec (.relinkAttemptEnd 7 x) s = .next t ∧
        t.cfe.attempt = false ∧ t.cfe.lost = (decide (10 ≤ s.cfe.relinkTries + 1) || s.cfe.lost))) ∧
    (100 ≤ (s.grid.frame - s.cfe.attemptAt).toNat →
      exec (.relinkRetry 7) s = .next { s with cfe.attempt := s.cfe.relinking })

/-- A good sub-sample enters the frame's set and the even ones are the control samples; a bad control sample, or one while
the link is down, is marked missing; a frame packet enters the port's buffer with what its sub-samples sum to, a bad
one as HELD, and the fourth bad one in a row takes the link down; the zero tracker takes a mean inside its bound,
which expires after 720 h; a record from the ring enters its branch; a missing one is held; a calibration whose trim
lies inside 2 % stages it, and one outside stages nothing. (03_current_front_end.md) -/
def Obligations.CurrentFrontEndEvents : Prop :=
  ∀ s : State,
    (∀ idx bs, idx < 8 → s.hasCfe = true → s.cfe.linkUp = true → subGood idx s.grid.frame bs = true → ∃ t : State,
      exec (.cfeSubsamplePacket idx bs) s = .next t ∧ t.cfe.subs =
        { idx := idx, cur := getS bs 4 3, vstr := getS bs 7 3, flags := getB bs 10 } :: s.cfe.subs ∧
      (idx % 2 = 0 → t.cfe.ctlMissing = false ∧ t.cfe.ctlCur = roundAway (s.currentOf (getS bs 4 3 : Rat) 1))) ∧
    (∀ idx bs, idx < 8 → s.hasCfe = true → s.cfe.linkUp = true → subGood idx s.grid.frame bs = false → ∃ t : State,
      exec (.cfeSubsamplePacket idx bs) s = .next t ∧ t.cfe.subs = s.cfe.subs ∧ t.cfe.ctlMissCount = s.cfe.ctlMissCount + 1 ∧
        (idx % 2 = 0 → t.cfe.ctlMissing = true)) ∧
    (∀ idx bs, idx < 8 → s.hasCfe = false → exec (.cfeSubsamplePacket idx bs) s = .next s) ∧
    (∀ idx bs, idx < 8 → s.hasCfe = true → s.cfe.linkUp = false → ∃ t : State, exec (.cfeSubsamplePacket idx bs) s = .next t ∧
      t.cfe.subs = s.cfe.subs ∧ (idx % 2 = 0 → t.cfe.ctlMissing = true)) ∧
    (∀ bs, s.hasCfe = false ∨ s.cfe.linkUp = false → exec (.cfeFramePacket bs) s = .next s) ∧
    (∀ bs, s.hasCfe = true → s.cfe.linkUp = true →
      let stamp := s.grid.frame - 1
      let room := (s.waitingOf (s.cfe.buf.map (·.stamp))).length < 3
      (0 < s.cfe.skipSamples → ∃ t : State, exec (.cfeFramePacket bs) s = .next t ∧
        t.cfe.skipSamples = s.cfe.skipSamples - 1 ∧ (room → t.cfe.buf = s.cfe.buf ++ [{ stamp := stamp, bad := true }])) ∧
      (s.cfe.skipSamples = 0 → s.cfeAccepts bs (cfeFrameOf stamp bs) = false → ∃ t : State,
        exec (.cfeFramePacket bs) s = .next t ∧ t.cfe.badRun = s.cfe.badRun + 1 ∧
        t.cfe.crcErrors = bump 0xFFFF s.cfe.crcErrors ∧ (s.cfe.badRun < 3 → t.cfe.linkUp = true) ∧
        (3 ≤ s.cfe.badRun → t.cfe.iInvalid = true ∧ t.cfe.linkUp = false ∧ t.cfe.relinking = !s.cfe.lost) ∧
        (room → t.cfe.buf = s.cfe.buf ++ [{ stamp := stamp, held := true, bad := decide (3 ≤ s.cfe.badRun) }])) ∧
      (s.cfe.skipSamples = 0 → s.cfeAccepts bs (cfeFrameOf stamp bs) = true → ∃ t : State,
        exec (.cfeFramePacket bs) s = .next t ∧ t.cfe.badRun = 0 ∧ t.cfe.prev = some (cfeFrameOf stamp bs) ∧
        (room → t.cfe.buf = s.cfe.buf ++ [{ stamp := stamp, pkt := cfeFrameOf stamp bs, subSum := s.subSum }]))) ∧
    (∀ m, s.hasCfe = true → 10000 ≤ s.cfe.zeroN → m = s.shuntNv ((s.cfe.zeroSum : Rat) / (s.cfe.zeroN : Rat)) →
      absRat m ≤ 5000 → exec .zeroTrackComplete s =
        .next { s with cfe.zeroSum := 0, cfe.zeroN := 0, cfe.zeroNext := some m, cfe.zeroValid := true, cfe.zeroAt := s.grid.plantNs }) ∧
    (∀ m, s.hasCfe = true → 10000 ≤ s.cfe.zeroN → m = s.shuntNv ((s.cfe.zeroSum : Rat) / (s.cfe.zeroN : Rat)) →
      5000 < absRat m → ∃ t : State, exec .zeroTrackComplete s = .next t ∧ t.cfe = { s.cfe with zeroSum := 0, zeroN := 0 }) ∧
    exec .zeroValidExpire s = .next (if 2592000000000000 ≤ (s.grid.plantNs - s.cfe.zeroAt).toNat then
      { s with cfe.zeroValid := false } else s) ∧
    (∀ bs r, recOf bs = some r → s.branch.length = 2 → r.branch < 2 → ∃ t : State, exec (.currentRecordRx bs) s = .next t ∧
      (if r.check then (t.branchAt r.branch).checkRecs else (t.branchAt r.branch).mainRecs).head? = some r) ∧
    (∀ bs, recOf bs = none → exec (.currentRecordRx bs) s = .next s) ∧
    (∀ b stamp, b < 2 → s.branch.length = 2 → ∃ t : State, exec (.currentRecordMissing b stamp) s = .next t ∧
      (t.branchAt b).curHeld = (!(s.branchAt b).inUse.any (·.stamp == stamp) || (s.branchAt b).curHeld) ∧
      (t.branchAt b).mainInvalidRun = (s.branchAt b).mainInvalidRun +
        (if (s.branchAt b).mainRecs.any (·.stamp == stamp) then 0 else 1)) ∧
    (∀ c, s.cfe.calRun = some c → 10000 ≤ c.n → (c.sum = 0 ∨ ∀ trim,
        trim = roundAway (((c.ref : Rat) * (c.n : Rat) / (c.sum : Rat) - 1) * 1000000) → trim < -20000 ∨ 20000 < trim) →
      ∃ t : State, exec .curCalComplete s = .next t ∧ t.cfe = { s.cfe with calRun := none } ∧ t.ploza.staged = s.ploza.staged) ∧
    (∀ c trim, s.cfe.calRun = some c → 10000 ≤ c.n → c.sum ≠ 0 →
      trim = roundAway (((c.ref : Rat) * (c.n : Rat) / (c.sum : Rat) - 1) * 1000000) → -20000 ≤ trim → trim ≤ 20000 →
      ∃ t : State, exec .curCalComplete s = .next t ∧ t.cfe.calRun = none ∧ t.stagedVal P.curGainTrim = some [trim])

/-- A missing summary at the primary zeroes the string's limits and marks it; a rest or an anchor that has not come for
its time is marked, and with AUTO_BLEND the starved module leaves COUNTING; a rest request is repeated by the primary
every 4 h without changing a cell; a save, every 36,000,000 frames, copies each estimator that has started.
(06_state_estimation.md) -/
def Obligations.EstimationEvents : Prop :=
  ∀ s : State,
    (∀ pos, pos < 8 → s.isPrimary = true → s.missing166.contains pos = true →
      10000 ≤ s.str.missingFrames.getD pos 0 + (s.str.lastJob.map fun t => (s.sched.stamp - t).toNat).getD 0 →
      exec (.moduleMissingLimit pos) s = .next { s with
      str.missingFrames := setAt s.str.missingFrames pos (max 10000 (s.str.missingFrames.getD pos 0)), str.iChg := [0, 0, 0], str.iDis := [0, 0, 0]
      str.pChg := [0, 0, 0], str.pDis := [0, 0, 0], str.flags := setBit s.str.flags 2 true }) ∧
    (∀ pos, pos < 8 → s.isPrimary = false → exec (.moduleMissingLimit pos) s = .next s) ∧
    exec .restStarved s = .next (if s.pn P.restStarveHours ≤ s.estMod.restAgeNs / 3600000000000 then
      { s with estMod.restStarved := true } else s) ∧
    (s.isPrimary = true → s.str.restRequested = true → 14400000000000 ≤ (s.grid.plantNs - s.str.restAskAt).toNat → ∃ t : State,
      exec .restRequestRepeat s = .next t ∧ t.str.restAskAt = s.grid.plantNs ∧ t.str.restRequested = true ∧
      t.est = s.est ∧ t.estMod = s.estMod) ∧
    (s.estMod.counting = true → s.estMod.anchorStarved = false →
      s.pn P.anchorStarveDays * 86400000000000 ≤ s.estMod.anchorNs → ∃ t : State, exec .anchorStarved s = .next t ∧
      t.estMod.anchorStarved = true ∧ t.estMod.counting = (if s.pb P.autoBlend then false else true) ∧
      t.estMod.autoBlended = (s.pb P.autoBlend || s.estMod.autoBlended)) ∧
    (s.grid.validFrames % 36000000 = 0 → ∃ t : State, exec .estimatorStateSave s = .next t ∧
      t.est = s.est.map fun (e : Est) => if e.inited then { e with saved := some (s.savedOf e) } else e)

/-- With its ports on, a control sub-period takes the sub-period number, the bus sense and the fault lines, and while the
converter is OFF the law stands in the mode that the outputs hold; an output instant leaves no set behind; a set of an
anchored pan that comes late while the converter runs takes the gates off; the eighth implausible sub-period starts
the safe law once the gates are on, which will latch when an earlier stop of its kind lies within PLAUS_LATCH_S.
(11_string_converter.md, 12_control_engine.md) -/
def Obligations.ControlLawEvents : Prop :=
  ∀ s : State,
    (∀ sub ph bus gd line, sub < 4 → ph.length = 8 → s.portsOn = true → ∃ t : State,
      exec (.controlSubperiod sub ph bus gd line) s = .next t ∧ t.grid.sub = sub ∧ t.prot.lineLow = line ∧
      (s.conv.st = .off → t.law.mode = s.law.outMode ∧ t.law.modeChange = false ∧ t.conv.vBus = s.busOf bus ∧
        t.conv.gdFaultLow = gd)) ∧
    (∀ sub ph bus gd line, sub < 4 → ph.length = 8 → s.portsOn = false → exec (.controlSubperiod sub ph bus gd line) s = .next s) ∧
    (∀ l1 l2 l3 d1 d2 d3, s.portsOn = true → ∃ t : State, exec (.controlOutput l1 l2 l3 d1 d2 d3) s = .next t ∧ t.law.sets = {}) ∧
    (∀ l1 l2 l3 d1 d2 d3, s.portsOn = false → exec (.controlOutput l1 l2 l3 d1 d2 d3) s = .next s) ∧
    (∀ l1 l2 l3 d1 d2 d3, s.portsOn = true → s.conv.st ≠ .off →
      (l1 = true ∧ (s.runningPan 34).isSome = true) ∨ (l2 = true ∧ (s.runningPan 35).isSome = true) ∨
        (l3 = true ∧ (s.runningPan 36).isSome = true) → ∃ t : State,
      exec (.controlOutput l1 l2 l3 d1 d2 d3) s = .next t ∧ t.conv.gatesOn = false ∧ t.conv.toOff = true) ∧
    (8 ≤ s.law.plausCount → s.conv.st ≠ .off → (s.conv.st = .starting → 3 ≤ s.conv.startStep) → s.conv.toOff = false →
      s.law.safeRun = false → ∃ t : State,
      exec .loopImplausible s = .next t ∧ t.law.safeRun = true ∧ t.law.safeCause = 12 ∧ t.law.safeI0 = s.law.iRefPrev ∧
      t.law.safeLatch = s.law.loopStops.any (fun x => (s.sampleNs - x).toNat ≤ s.pn P.plausLatchS * 1000000000))

/-- While the converter is not OFF, an overcurrent, a lost fast channel, a low fault line, a gate driver fault and a bus
over-voltage, and while no stop is pending a start or drain that takes too long, a lost control set, the end of the
safe law, an implausible loop before the soft-start and a hiccup with no retry left, each take the gates and GD_EN low
at once and set HW_LATCH, with OFF to follow at the next boundary; while it is OFF the hardware causes act on the
latches alone. (11_string_converter.md, 10_hardware_protection.md, 12_control_engine.md) -/
def Obligations.ConverterStops : Prop :=
  ∀ s : State,
    (s.conv.st ≠ .off →
      (∀ c, s.fastLive = true → ∃ t : State, exec (.overcurrentTrip c) s = .next t ∧ s.StoppedAs t ∧ t.cfe.ocLatched = true ∧
        t.prot.cause.getLsbD 29 = true) ∧
      (s.fastLive = true → ∃ t : State, exec .fastChannelLost s = .next t ∧ s.StoppedAs t ∧ t.cfe.fastOk = false ∧
        t.prot.cause.getLsbD 28 = true) ∧
      (∃ t : State, exec .faultLineLow s = .next t ∧ s.StoppedAs t ∧ t.prot.lineLow = true) ∧
      (s.conv.gdEn = true → ¬(s.conv.st = .starting ∧ s.conv.startStep ≤ 1) → ∃ t : State,
        exec .gateDriverFault s = .next t ∧ s.StoppedAs t ∧ t.conv.gdFaultLow = true) ∧
      (∀ uv, s.pr P.convBusOvV ≤ s.busOf uv → ∃ t : State, exec (.busOv uv) s = .next t ∧ s.StoppedAs t)) ∧
    (s.conv.st ≠ .off → s.conv.toOff = false →
      (s.conv.st = .starting → s.conv.startStep = 1 → 40 ≤ s.conv.gdEnSubs → ∃ t : State,
        exec .startTimeout s = .next t ∧ s.StoppedAs t) ∧
      (s.conv.st = .draining → s.conv.drainDone = false → s.pn P.convDrainMaxMs * 40 ≤ s.conv.drainSubs → ∃ t : State,
        exec .drainTimeout s = .next t ∧ s.StoppedAs t) ∧
      (∀ k, 34 ≤ k → k ≤ 36 → 7 ≤ s.law.heldSets.getD (k - 34) 0 → ∃ t : State, exec (.loopFault k) s = .next t ∧ s.StoppedAs t) ∧
      (5 ≤ s.law.safeZeroOut → ∃ t : State, exec .safeLawGatesOff s = .next t ∧ s.StoppedAs t) ∧
      (8 ≤ s.law.plausCount → s.law.safeRun = false → s.conv.st = .starting → s.conv.startStep < 3 → ∃ t : State,
        exec .loopImplausible s = .next t ∧ s.StoppedAs t) ∧
      (∀ j, 1 ≤ j → j ≤ 8 → s.conv.gatesOn = true → s.conv.st ≠ .draining → s.pn P.hiccupN ≤ (s.phaseAt j).ilimRun →
        s.pn P.hiccupRetries ≤ s.retriesNow → ∃ t : State, exec (.hiccupTrigger j) s = .next t ∧ s.StoppedAs t)) ∧
    (s.conv.st = .off →
      (∀ c, s.fastLive = true → ∃ t : State, exec (.overcurrentTrip c) s = .next t ∧ t.conv.hwLatch = true ∧
        t.conv.faultLatch = true ∧ t.conv.gatesOn = false ∧ t.conv.toOff = s.conv.toOff) ∧
      (s.fastLive = true → ∃ t : State, exec .fastChannelLost s = .next t ∧ t.conv.hwLatch = true ∧ t.conv.faultLatch = true ∧
        t.conv.gatesOn = false ∧ t.conv.toOff = s.conv.toOff) ∧
      (∃ t : State, exec .faultLineLow s = .next t ∧ t.conv.hwLatch = true ∧ t.conv.gatesOn = false ∧ t.conv.toOff = s.conv.toOff) ∧
      (∀ uv, s.pr P.convBusOvV ≤ s.busOf uv → ∃ t : State, exec (.busOv uv) s = .next t ∧ t.conv.hwLatch = true ∧
        t.conv.faultLatch = true ∧ t.conv.toOff = s.conv.toOff)) ∧
    (∀ uv, s.busOf uv < s.pr P.convBusOvV → exec (.busOv uv) s = .next s)

/-- A ready gate driver opens step 2 of the start with five output instants to the soft-start; a reached limit is marked;
a complete drain takes the gates off; a hiccup turns the gates off until its retry starts a soft-start from 0 A, and
in a drain it ends the drain; the dwell and the step block end after their times; a record leaves the capture FIFO for
the ring; an active phase reports the period that ended, its duty and whether it was limited, and applies its new
peak, and one in ramp-out steps its share down and is then shed. (11_string_converter.md) -/
def Obligations.ConverterSequence : Prop :=
  ∀ s : State,
    (s.conv.st = .starting → s.conv.startStep = 1 → s.conv.toOff = false → exec .gateDriverReady s =
      .next { s with conv.gdFaultLow := false, conv.startStep := 2, conv.ssWait := 5 }) ∧
    (s.conv.st = .starting → s.conv.startStep = 3 → (s.nOk : Rat) * s.rated ≤ s.conv.ssLimit → exec .softStartDone s =
      .next { s with conv.ssReached := true }) ∧
    (s.conv.st = .draining → 4 ≤ s.conv.drainOk → s.conv.toOff = false → ∃ t : State, exec .drainComplete s = .next t ∧
      t.conv.gatesOn = false ∧ t.conv.gdEn = false ∧ t.conv.drainDone = true ∧ t.conv.hwLatch = s.conv.hwLatch) ∧
    (∀ j, 1 ≤ j → j ≤ 8 → s.conv.gatesOn = true → s.conv.toOff = false → s.pn P.hiccupN ≤ (s.phaseAt j).ilimRun →
      (s.conv.st = .on ∨ s.conv.st = .starting → s.retriesNow < s.pn P.hiccupRetries → ∃ t : State, exec (.hiccupTrigger j) s = .next t ∧
        t.conv.gatesOn = false ∧ t.conv.toHiccup = true ∧ t.conv.hiccupOff = true ∧ t.conv.ssLimit = 0 ∧
        t.conv.hwLatch = s.conv.hwLatch ∧ t.conv.toOff = false ∧ ∀ p ∈ t.phase, p.ilimRun = 0) ∧
      (s.conv.st = .draining → ∃ t : State, exec (.hiccupTrigger j) s = .next t ∧ t.conv.gatesOn = false ∧
        t.conv.drainDone = true ∧ t.conv.latched = none ∧ t.conv.hwLatch = s.conv.hwLatch)) ∧
    (s.conv.hiccupOff = true → s.conv.toOff = false → s.conv.st = .on ∨ s.conv.st = .starting →
      s.pn P.hiccupToffMs * 40 ≤ s.conv.hiccupSubs → ∃ t : State, exec .hiccupRetry s = .next t ∧
      t.conv.gatesOn = true ∧ t.conv.hiccupOff = false ∧ t.conv.startStep = 3 ∧ t.conv.ssLimit = 0 ∧ t.law.lint = {} ∧
      t.conv.retries = (s.grid.plantNs :: s.conv.retries).take 16) ∧
    exec .shedDwellExpire s = .next (if s.conv.st = .on ∧ s.pn P.shedDwellMs * 40 ≤ s.conv.shedTimer then
      { s with conv.shedReady := true } else s) ∧
    exec .stepBlockEnd s = .next (if s.pn P.stepBlockMs * 40 ≤ s.conv.stepSubs then { s with conv.stepBlock := false } else s) ∧
    (s.lanes.protOnly = true ∨ s.conv.fifo = [] → exec .faultRecordWrite s = .next s) ∧
    (∀ c rest, s.lanes.protOnly = false → s.conv.fifo = c :: rest → ∃ t : State, exec .faultRecordWrite s = .next t ∧
      t.conv.fifo = rest ∧ t.conv.seq = s.conv.seq + 1 ∧ t.conv.lastCause = c.cause ∧
      t.conv.ring.head?.map ConvRec.seq = some s.conv.seq) ∧
    (∀ j near count uv, 1 ≤ j → j ≤ 8 → s.phase.length = 8 →
      let trip := if near = true then some (count, uv) else none
      (s.conv.gatesOn = false ∨ (s.phaseAt j).switching = false → exec (.pwmPeriodStart j near count uv) s = .next s) ∧
      (s.conv.gatesOn = true → (s.phaseAt j).st = .active → ∃ t : State, exec (.pwmPeriodStart j near count uv) s = .next t ∧
        ((s.phaseAt j).inPeriod = true →
          (t.phaseAt j).duty = satTo 0xFFFF (roundAway (((s.onTime j trip).1 : Rat) * 65536 / (s.pwmT : Rat))).toNat ∧
          (t.phaseAt j).ilimRun = (if ((s.phaseAt j).clamped && (s.onTime j trip).2) || !(s.onTime j trip).2 then
            bump 0xFF (s.phaseAt j).ilimRun else 0)) ∧
        ((s.phaseAt j).inPeriod = false →
          (t.phaseAt j).duty = (s.phaseAt j).duty ∧ (t.phaseAt j).ilimRun = (s.phaseAt j).ilimRun) ∧
        (t.phaseAt j).inPeriod = true ∧
        (t.phaseAt j).iPk = clampRat (-s.phaseLimit) s.phaseLimit ((s.phaseAt j).rawPk s.law.iPk)) ∧
      (s.conv.gatesOn = true → (s.phaseAt j).st = .rampOut → 1 ≤ (s.phaseAt j).ramp → ∃ t : State,
        exec (.pwmPeriodStart j near count uv) s = .next t ∧ (t.phaseAt j).st = .rampOut ∧
        (t.phaseAt j).ramp = (s.phaseAt j).ramp - 1 ∧ (t.phaseAt j).share8 = (s.phaseAt j).share8 - 1) ∧
      (s.conv.gatesOn = true → (s.phaseAt j).st = .rampOut → (s.phaseAt j).ramp = 0 → ∃ t : State,
        exec (.pwmPeriodStart j near count uv) s = .next t ∧ (t.phaseAt j).st = .shed ∧ (t.phaseAt j).inPeriod = false ∧
        t.conv.shedPhase = if s.conv.shedPhase = some j then none else s.conv.shedPhase))

/-- A comparator output of a live die's cell is taken and no other; a fault channel that carries the frequency of its
die's outputs sets both cell causes as the frequency says and latches a new one; a record leaves the capture FIFO for
the region under the next SEQ; a thermal shutdown opens the die's switches until its release; a heartbeat makes
FAST_CHANNEL absent; under AUTO a cause that has been clear for FAULT_RELEASE_MS clears, to within the frame of the
last strobe (the model's choice, log entry 97), and one that is present does not. (10_hardware_protection.md) -/
def Obligations.ProtectionEvents : Prop :=
  ∀ s : State,
    (∀ fe ch ov, 1 ≤ fe → fe ≤ 6 → s.fe.length = 6 → 1 ≤ ch → ch ≤ s.feCells fe → ch ≤ 16 → s.dieLive fe = true →
      (∃ t : State, exec (.comparatorAssert fe ch ov) s = .next t ∧
        (if ov then (t.feAt fe).ovOut else (t.feAt fe).uvOut).getLsbD (ch - 1) = true ∧
        (if ov then (t.feAt fe).uvOut = (s.feAt fe).uvOut else (t.feAt fe).ovOut = (s.feAt fe).ovOut)) ∧
      (∃ t : State, exec (.comparatorRelease fe ch ov) s = .next t ∧
        (if ov then (t.feAt fe).ovOut else (t.feAt fe).uvOut).getLsbD (ch - 1) = false)) ∧
    (∀ fe ch ov, 1 ≤ fe → fe ≤ 6 → 1 ≤ ch → ch ≤ 16 → s.dieLive fe = false ∨ s.feCells fe < ch →
      exec (.comparatorAssert fe ch ov) s = .next s ∧ exec (.comparatorRelease fe ch ov) s = .next s) ∧
    (∀ fe q, 1 ≤ fe → fe ≤ 6 → s.dieLive fe = false ∨ q ≠ (s.feAt fe).carried → exec (.faultChannelChange fe q) s = .next s) ∧
    (∀ fe q, 1 ≤ fe → fe ≤ 6 → s.fe.length = 6 → s.dieLive fe = true → q = (s.feAt fe).carried → ∃ t : State,
      exec (.faultChannelChange fe q) s = .next t ∧ (t.feAt fe).faultChDown = false ∧
      t.prot.feOv.getLsbD (fe - 1) = (freqShows q).1 ∧ t.prot.feUv.getLsbD (fe - 1) = (freqShows q).2 ∧
      ((freqShows q).1 = true → s.prot.feOv.getLsbD (fe - 1) = false → t.prot.cause.getLsbD 31 = true) ∧
      ((freqShows q).2 = true → s.prot.feUv.getLsbD (fe - 1) = false → t.prot.cause.getLsbD 30 = true)) ∧
    (∀ e rest, s.lanes.protOnly = false → s.portsOn = true → s.roleRuns 39 = true → s.prot.fifo = e :: rest → ∃ t : State,
      exec .protEventRecordWrite s = .next t ∧ t.prot = { s.prot with
        fifo := rest, seq := s.prot.seq + 1, recs := ({ seq := s.prot.seq, bytes := s.protBytes e } :: s.prot.recs).take 256 }) ∧
    (∀ fe, 1 ≤ fe → fe ≤ 6 → s.fe.length = 6 →
      (s.dieLive fe = true → (s.feAt fe).tsdLatched = false → ∃ t : State, exec (.feThermalShutdown fe) s = .next t ∧
        (t.feAt fe).tsdLatched = true ∧ (t.feAt fe).swNow = 0 ∧ t.prot.cause.getLsbD 22 = s.prot.cause.getLsbD 22) ∧
      (s.dieLive fe = false → exec (.feThermalShutdown fe) s = .next s) ∧
      exec (.feThermalRelease fe) s = .next (s.modFe fe fun f => { f with tsdLatched := false })) ∧
    (s.fastLive = true → ∃ t : State, exec .fastChannelRestored s = .next t ∧ t.cfe = { s.cfe with fastOk := true } ∧
      t.prot.present = setBit s.prot.present 6 false ∧ t.prot.cause = s.prot.cause) ∧
    (s.fastLive = false → exec .fastChannelRestored s = .next s) ∧
    (∀ b, 22 ≤ b → b ≤ 31 →
      let since := (s.grid.plantNs - s.prot.clearAt.getD (b - 22) 0).toNat
      s.prot.set.release = 1 → s.prot.cause.getLsbD b = true →
      (since + 100000 < 1000000 * s.prot.set.releaseMs → exec (.faultAutoRelease b) s = .next s) ∧
      (s.prot.present.getLsbD (b - 22) = false → 1000000 * s.prot.set.releaseMs ≤ since + 100000 → ∃ t : State, exec (.faultAutoRelease b) s = .next t ∧
        t.prot.cause.getLsbD b = false ∧ t.prot.present = s.prot.present) ∧
      (s.prot.present.getLsbD (b - 22) = true → exec (.faultAutoRelease b) s = .next s))

/-- With no valid lane since an earlier frame, or both lanes retired, and the ports on, the state is entered: the token is
free, estimation is paused, the excitation ends and cause 22 is set; its notice goes out every 10,000 frames on every
port of NOTIFY_PORTS but the ring; the fallback takes the gates off at its end; the contactor request becomes OPEN
once the branch current has been low for four control samples or 8,000 have passed; a RESET packet with its key that
names this module restarts it and another packet does nothing. (14_lanes_and_failover.md) -/
def Obligations.ProtectionOnlyState : Prop :=
  ∀ s : State,
    (s.lanes.valid = false → s.lanes.protOnly = false → s.portsOn = true →
      (s.lanes.releasedAt ≠ s.grid.frame ∨ ((s.laneAt false).retired = true ∧ (s.laneAt true).retired = true)) → ∃ t : State,
      exec .protOnlyEntry s = .next t ∧
      t.lanes.protOnly = true ∧ t.lanes.valid = false ∧ t.lanes.protReduced = false ∧
      t.lanes.protCause = (if (s.laneAt false).retired && (s.laneAt true).retired then 2 else 1) ∧
      t.lanes.fallback = (s.conv.st != FnState.off) ∧ t.gov.pause = 7 ∧ t.law.excOn = false ∧ t.prot.cause.getLsbD 22 = true) ∧
    (s.lanes.valid = true ∨ s.lanes.protOnly = true ∨ s.portsOn = false → exec .protOnlyEntry s = .next s) ∧
    (∀ p ∈ noticePorts (s.pn P.notifyPorts), s.lanes.protOnly = true → s.lanes.protReduced = false → s.portsOn = true →
      s.port.length = 4 → 10000 ≤ (s.grid.frame - s.lanes.protAt).toNat → ∃ t : State,
      exec .protOnlyNotice s = .next t ∧ t.lanes = { s.lanes with protAt := s.grid.frame } ∧
      (t.portAt p).notices = (if p = .ring then (s.portAt p).notices else ((s.portAt p).notices + 1) % 256)) ∧
    (s.lanes.fallback = true → 5 ≤ s.law.safeZeroOut → ∃ t : State, exec .fallbackGatesOff s = .next t ∧
      t.conv.gatesOn = false ∧ t.conv.gdEn = false ∧ t.lanes.fallback = false ∧ t.conv.toOff = (s.conv.st != FnState.off)) ∧
    (s.lanes.protOnly = false ∨ (s.grid.frame - s.lanes.protAt).toNat < 10000 → exec .protOnlyNotice s = .next s) ∧
    (s.lanes.protOnly = false ∨ (s.lanes.protReduced = false ∧ s.lanes.protQuiet ≠ 4 ∧ s.lanes.protSubs ≠ 8000) →
      exec .protOnlyContactorOpen s = .next s) ∧
    (s.lanes.protOnly = true → s.lanes.protReduced = true ∨ s.lanes.protQuiet = 4 ∨ s.lanes.protSubs = 8000 → ∃ t : State,
      exec .protOnlyContactorOpen s = .next t ∧ t.safe.closeReq = false ∧ t.lanes.closeReq = false ∧
      t.safe.twohandClose = false ∧ (s.safe.st = .armed → s.safe.tripT = none → s.safe.seq = .closed →
        t.safe.seq = .opening ∧ t.safe.kPos = false ∧ t.safe.kPre = false)) ∧
    (∀ port bs, port ≠ .own → parseRequest bs = none → exec (.protOnlyReset port bs) s = .next s) ∧
    ∀ port bs r, port ≠ .own → parseRequest bs = some r →
      let key := s.lanes.protOnly = true ∧ s.lanes.protReduced = false ∧ s.portsOn = true ∧ r.crcOk = true ∧
        r.length = r.payload.length ∧ r.opcode = 0xF0 ∧ r.payload.length = 4 ∧ getU r.payload 0 4 = 0xA55A ∧
        (r.target.toNat = s.ring.position ∨ r.target = 0xFE)
      (key → ∃ t : State, exec (.protOnlyReset port bs) s = .next t ∧ t.power.phase = .returning ∧ t.power.stage = 2 ∧
        t.grid.mode = .service ∧ t.lanes.valid = false) ∧
      (¬key → exec (.protOnlyReset port bs) s = .next s)

/-- The start frame turns a sweep ON; at the end of a block the primary takes its verdict and a satellite waits for one,
which a control record brings or a timeout after 100 frames replaces by a discard; a control record that ends the
sweep drains it with its cause; a halt that has lasted too long, or a planned end too long past, ends it with
RESUME_TIMEOUT; a drain that has ended leaves no sweep; a satellite's periodic status leaves on the ring every 1,000
frames. (07_impedance_spectroscopy.md) -/
def Obligations.SweepEvents : Prop :=
  ∀ s : State,
    (s.eis.st = .starting → ∃ t : State, exec .sweepStartFrame s = .next t ∧ t.eis.st = .on ∧ t.eis.result = none ∧
      (s.eis.resumeAt = none → t.eis.blockVoid = (if s.eis.halted then 2 else 0))) ∧
    (s.eis.st ≠ .starting → exec .sweepStartFrame s = .next s) ∧
    (s.sinceBlock s.eis.blockIdx = none → exec .eisBlockEnd s = .next s) ∧
    (s.eis.st = .on ∨ s.eis.kind = .watch → (s.sinceBlock s.eis.blockIdx).isSome = true → ∃ t : State,
      exec .eisBlockEnd s = .next t ∧
      t.eis.blockIdx = (if s.eis.kind = .watch ∧ s.blockStart s.eis.blockIdx + 1000 < s.blockStart s.eis.blockIdx then 0
        else s.eis.blockIdx + 1) ∧
      (s.isPrimary = false → t.eis.waits = s.eis.waits ++ [s.eis.blockIdx] ∧ t.eis.verdicts = s.eis.verdicts) ∧
      (s.isPrimary = true → t.eis.verdicts = s.eis.verdicts ++ [(s.eis.blockIdx, s.verdictNow)])) ∧
    (∀ bs, s.isPrimary = true ∨ bs.length ≠ 16 ∨ getB bs 0 ≠ 0x33 ∨ crcGood 12 bs = false →
      exec (.eisControlRecordRx bs) s = .next s) ∧
    (∀ bs, s.isPrimary = false → bs.length = 16 → getB bs 0 = 0x33 → crcGood 12 bs = true → s.sweepLive = true →
      (getB bs 1).toNat = s.eis.sweepId → s.eis.sweepId ≠ 0 →
      (getB bs 3 = 0 → ∀ x, s.eis.waits.find? (fun x => x % 65536 == getU bs 8 2) = some x → ∃ t : State,
        exec (.eisControlRecordRx bs) s = .next t ∧ t.eis.halted = ((getB bs 2).toNat.testBit 7) ∧
        t.eis.verdicts = s.eis.verdicts ++ [(x, (getB bs 10).toNat % 4)]) ∧
      (getB bs 3 = 0 → s.eis.waits.find? (fun x => x % 65536 == getU bs 8 2) = none → ∃ t : State,
        exec (.eisControlRecordRx bs) s = .next t ∧ t.eis = { s.eis with halted := (getB bs 2).toNat.testBit 7 }) ∧
      (getB bs 3 ≠ 0 → ∃ t : State, exec (.eisControlRecordRx bs) s = .next t ∧ t.eis.st = .draining ∧
        t.eis.endCause = (getB bs 3).toNat)) ∧
    (s.eis.waits = [] → exec .eisVerdictTimeout s = .next s) ∧
    (∀ b rest, s.eis.waits = b :: rest →
      (∀ n, s.sinceBlock b = some n → 100 ≤ n → ∃ t : State, exec .eisVerdictTimeout s = .next t ∧
        t.eis.verdicts = s.eis.verdicts ++ [(b, 2)] ∧ t.eis.waits = rest.filter (· != b) ∧ t.eis.blocks = s.eis.blocks) ∧
      ((∀ n, s.sinceBlock b = some n → n < 100) → exec .eisVerdictTimeout s = .next s)) ∧
    (s.sweepLive = true → s.isPrimary = true →
      (s.eis.halted = true ∧ s.pn P.eisResumeS * 10000 ≤ s.grid.validFrames - s.eis.haltedAt) ∨
        (∃ w, s.eis.sweep = some w ∧ s.resumeOver w = true) → ∃ t : State, exec .eisResumeTimeout s = .next t ∧
      t.eis.st = .draining ∧ t.eis.endCause = 4 ∧ t.eis.halted = false) ∧
    (s.eis.st = .draining → ∃ t : State, exec .sweepDrainEnd s = .next t ∧ t.eis.st = .off ∧ t.eis.sweep = none ∧ t.eis.g = 0) ∧
    (s.eis.st ≠ .draining → exec .sweepDrainEnd s = .next s) ∧
    (s.isPrimary = false → s.eis.st = .off → s.grid.validFrames % 1000 = 0 → exec .blockStatusPeriodic s =
      .next (s.sendPanRecord 3 1 1 37 (s.eisStatus 0xFFFF 0 s.eis.sweepId))) ∧
    (s.isPrimary = true ∨ s.eis.st ≠ .off ∨ s.grid.validFrames % 1000 ≠ 0 → exec .blockStatusPeriodic s = .next s)

/-- A staged table that is complete becomes READY or REJECTED with its first fault; a block check of a lane goes round its
64 blocks and makes the table faulty on an NVM error alone; a slice that is asked for is built; a block whose readback
is good is stored, unless a newer one of its number waits, and one that fails is tried once more and then ends
INTERNAL; a balancing slot starts with what its cells conducted in the last one, and a pending plan takes over in it.
(08_chemistry_model_table.md, 09_balancing.md) -/
def Obligations.TableAndSlotEvents : Prop :=
  ∀ s : State,
    (s.tbl.staged = .validating →
      (firstReject s.stagedBank 16384 0 = none → exec .tableValidationComplete s =
        .next { s with tbl.staged := .ready, tbl.reject := 0, tbl.rejectEntry := 0 }) ∧
      (∀ c n, firstReject s.stagedBank 16384 0 = some (c, n) → exec .tableValidationComplete s =
        .next { s with tbl.staged := .rejected, tbl.reject := c, tbl.rejectEntry := n })) ∧
    (∀ standby sram nvm, s.lane.length = 2 →
      let who := s.lanes.holder != standby
      ∃ t : State, exec (.tableBlockCheck standby ⟨sram, nvm⟩) s = .next t ∧
        t.tbl = { s.tbl with fault := !nvm || s.tbl.fault } ∧ (t.laneAt who).tblIdx = ((s.laneAt who).tblIdx + 1) % 64 ∧
        t.laneAt (!who) = s.laneAt (!who)) ∧
    (∀ cell, 1 ≤ cell → cell ≤ 96 → s.tbl.fault = false → s.tbl.rebuild.contains cell = true → ∃ t : State,
      exec (.sliceWriteComplete cell) s = .next t ∧ t.tbl.rebuild = s.tbl.rebuild.erase cell ∧
      t.tbl.sliceNext.head? = some (cell, s.buildSlice (s.estAt cell).tUsed)) ∧
    (∀ cell, 1 ≤ cell → cell ≤ 96 → s.tbl.fault = true ∨ s.tbl.rebuild.contains cell = false →
      exec (.sliceWriteComplete cell) s = .next s) ∧
    (s.tbl.staged ≠ .validating → exec .tableValidationComplete s = .next s) ∧
    (∀ b, s.tbl.writing = [] → exec (.tableBlockStored b) s = .next s) ∧
    (∀ w rest, s.tbl.writing = w :: rest →
      (∃ t : State, exec (.tableBlockStored true) s = .next t ∧ t.tbl.writing = rest ∧ t.tbl.banks =
        s.tbl.banks.modify (1 - s.tbl.activeBank) fun k =>
          { k with
              blocks := setAt k.blocks w.block (if rest.any (·.block == w.block) then none else some w.words)
              crcs := setAt k.crcs w.block w.crc }) ∧
      (w.tries = 0 → exec (.tableBlockStored false) s = .next { s with tbl.writing := { w with tries := 1 } :: rest }) ∧
      (w.tries ≠ 0 → ∃ t : State, exec (.tableBlockStored false) s = .next t ∧ t.tbl = { s.tbl with writing := rest })) ∧
    (∃ t : State, exec .balSlotStart s = .next t ∧ t.bal.refineSlots = s.bal.refineSlots + 1 ∧
      t.bal.cells.map BalCell.achieved = s.bal.cells.map BalCell.conducted ∧
      (∀ p, s.bal.st = .on → s.bal.slotPlanned = true → s.bal.plannedNew = true → s.bal.pendingPlan = some p →
        t.bal.plan = some p ∧ t.bal.pendingPlan = none ∧ t.bal.planSlots = 1 ∧ t.bal.source = p.source))

/-- The primary emits a frame with the next segment of its downstream queue; a satellite passes a copy on with its own
slot fixed for the frame; a good header of another module is followed once for each frame, a primary that outranks its
sender answers with a higher TERM, and one that the sender outranks is no longer primary; a harvest says which members
are live; a side window names the hop while the ring forms; a segment enters the message that is being put together,
and a complete packet is received, relayed or taken as a summary. (13_ceyth_ring.md) -/
def Obligations.RingTraffic : Prop :=
  ∀ s : State,
    (s.isPrimary = true → s.ringFrame = true → s.lanes.protOnly = false → ∃ t : State, exec .ringFrameEmit s = .next t ∧
      (t.ring.dnSeg, t.ring.dnQueue, t.ring.dnMsg) = nextSegment 80 s.ring.dnQueue s.ring.dnMsg ∧ t.ring.eisCtl = s.ring.eisCtl.tail ∧
      t.ring.slotFrame = some s.grid.frame) ∧
    (s.isPrimary = false ∨ s.ringFrame = false ∨ s.lanes.protOnly = true → exec .ringFrameEmit s = .next s) ∧
    (∀ cw rx, s.isPrimary = false → s.ringFrame = true → ∃ t : State, exec (.ringCopyEmit ⟨cw, rx⟩) s = .next t ∧
      t.ring.slotFrame = some s.grid.frame ∧ t.ring.regenCw = (s.ring.regenCw && !(cw && s.ring.ccwUp)) ∧
      t.ring.regenCcw = (s.ring.regenCcw && !(!cw && s.ring.cwUp))) ∧
    (∀ cw rx, s.isPrimary = true ∨ s.ringFrame = false → exec (.ringCopyEmit ⟨cw, rx⟩) s = .next s) ∧
    (∀ cw bs e d, s.ringFrame = false → exec (.ringHeaderRx cw bs e d) s = .next s) ∧
    (∀ cw bs e d, s.ringFrame = true →
      let q := (getB bs 2).toNat % 8
      let f := BitVec.ofNat 32 (getU bs 4 4)
      (headerGood bs = false ∨ q = s.ring.position → exec (.ringHeaderRx cw bs e d) s = .next s) ∧
      (headerGood bs = true → s.isPrimary = true → s.ring.position < q → exec (.ringHeaderRx cw bs e d) s =
        .next { s with ring.term := (max s.ring.term (getU bs 16 2) + 1) % 65536 }) ∧
      (headerGood bs = true → s.isPrimary = true → q < s.ring.position → ∃ t : State,
        exec (.ringHeaderRx cw bs e d) s = .next t ∧ t.ring.isPrimary = false) ∧
      (headerGood bs = true → q ≠ s.ring.position → s.isPrimary = false → s.ring.hdrFrame ≠ some f → ∃ t : State,
        exec (.ringHeaderRx cw bs e d) s = .next t ∧ t.ring.hdrFrame = some f)) ∧
    (∀ cw ccw, s.ring.isPrimary = true → s.ringFrame = true → cw.length = 2880 → ccw.length = 2880 → ∃ t : State,
      exec (.harvestComplete cw ccw) s = .next t ∧
      ∀ p, p < 8 → t.ring.live.getLsbD p = (decide (p < s.pn P.ringModules) && (s.harvestSlot cw ccw p).isSome)) ∧
    (∀ cw ccw, s.ring.isPrimary = false ∨ s.ringFrame = false ∨ cw.length ≠ 2880 ∨ ccw.length ≠ 2880 →
      exec (.harvestComplete cw ccw) s = .next s) ∧
    (∀ cw bs, s.portsOn = false ∨ bs.length ≠ 113 → exec (.sideWindowRx cw bs) s = .next s) ∧
    (∀ src seg, src ≤ 8 → s.portsOn = false → exec (.ringMessageRx src seg) s = .next s) ∧
    (∀ cw bs, s.portsOn = true → bs.length = 113 → ∃ t : State, exec (.sideWindowRx cw bs) s = .next t ∧
      (s.isPrimary = false → t.ring.relaying = false ∧ t.ring.sideRelayCw = [none, none] ∧
        (cw = true → s.ring.st = .forming → t.ring.hopSeen = some (getB bs 0).toNat))) ∧
    (∀ seg, s.portsOn = true →
      (∀ r, takeSegment s.ring.rxDn seg = (r, none) → exec (.ringMessageRx 8 seg) s = .next { s with ring.rxDn := r }) ∧
      (∀ src r, src < 8 → takeSegment (s.ring.rxUp.getD src none) seg = (r, none) →
        exec (.ringMessageRx src seg) s = .next { s with ring.rxUp := setAt s.ring.rxUp src r }) ∧
      (∀ r raw, takeSegment s.ring.rxDn seg = (r, some (1, raw)) → exec (.ringMessageRx 8 seg) s = .next
        (if s.isPrimary then { s with ring.rxDn := r } else ({ s with ring.rxDn := r } : State).receive .ring false (messageBytes 1 raw))) ∧
      (∀ src r raw, src < 8 → takeSegment (s.ring.rxUp.getD src none) seg = (r, some (1, raw)) →
        exec (.ringMessageRx src seg) s = .next (if s.isPrimary then
          ({ s with ring.rxUp := setAt s.ring.rxUp src r } : State).relayUp src (messageBytes 1 raw)
          else { s with ring.rxUp := setAt s.ring.rxUp src r })) ∧
      (∀ src r raw x, src < 8 → takeSegment (s.ring.rxUp.getD src none) seg = (r, some (2, raw)) →
        summaryOf (messageBytes 2 raw) = some x →
        exec (.ringMessageRx src seg) s = .next (State.takeSummary { s with ring.rxUp := setAt s.ring.rxUp src r } x)))

/-- A port that goes down asks for a regenerated copy until it is back; a satellite that misses its headers elects the
best candidate; the primary hands over to a steady member of higher rank; an enumeration that ends after its sixteen
boundaries closes the ring with the primary at position 0, and a hop that was seen gives a satellite its position; the
PPS gives the time and its loss for 3 s takes it; a tone wakes a module that is armed for it. (13_ceyth_ring.md,
16_power_states.md) -/
def Obligations.RingRoles : Prop :=
  ∀ s : State,
    (s.portsOn = true → s.pn P.ringModules ≠ 1 →
      exec (.ringPortDown true) s = .next { s with ring.cwUp := false, ring.regenCcw := true } ∧
      exec (.ringPortDown false) s = .next { s with ring.ccwUp := false, ring.regenCw := true } ∧
      exec (.ringPortRestored true) s = .next { s with ring.cwUp := true } ∧
      exec (.ringPortRestored false) s = .next { s with ring.ccwUp := true }) ∧
    (s.portsOn = false ∨ s.pn P.ringModules = 1 → ∀ b, exec (.ringPortDown b) s = .next s ∧ exec (.ringPortRestored b) s = .next s) ∧
    (∀ m e, s.ringFrame = false ∨ s.isPrimary = true ∨ s.lanes.protOnly = true → exec (.headerMiss m e) s = .next s) ∧
    (∀ m e, s.ringFrame = true → s.isPrimary = false → s.lanes.protOnly = false →
      let cand := (List.range 8).find? fun q =>
        if q = s.ring.position then s.selfEligible else m.getLsbD q && e.getLsbD q
      ∃ t : State, exec (.headerMiss m e) s = .next t ∧ t.ring.headerMiss = true ∧ t.ring.holdover = true ∧
        (∀ c, cand = some c → c ≠ s.ring.primary → t.ring.elections = bump 0xFF s.ring.elections ∧
          t.ring.becomePrimary = decide (c = s.ring.position))) ∧
    (∀ p, s.ring.isPrimary = true →
      ((List.range s.ring.position).find? fun p => decide (10000 ≤ s.ring.eligRun.getD p 0)) = some p →
      exec .primaryHandover s = .next { s with ring.handover := some p }) ∧
    (s.ring.isPrimary = false → exec .primaryHandover s = .next s) ∧
    (∀ found r, s.isPrimary = true → s.ring.enumBy = some r → s.ring.forming = 0 → ∃ t : State,
      exec (.enumerationEnd found) s = .next t ∧ t.ring.position = 0 ∧ t.ring.primary = 0 ∧ t.ring.st = .closed ∧ t.ring.enumBy = none ∧ t.ring.enumFound = found ∧
      t.ring.conflictEnum = (found != s.pn P.ringModules)) ∧
    (∀ found n, s.isPrimary = false → s.ring.hopSeen = some n → s.ring.st = .forming → ∃ t : State,
      exec (.enumerationEnd found) s = .next t ∧ t.ring.position = (n + 1) % 8 ∧ t.ring.enumPos = some ((n + 1) % 8) ∧
      t.ring.hopSeen = none ∧ t.ring.primary = 0) ∧
    (∀ o, s.isPrimary = true → s.pn P.ringTimeSrc = 1 → exec (.syncInEdge o) s =
      .next { s with ring.timeSrc := 1, ring.ppsNs := clampInt (-10) 10 o, ring.ppsAt := s.grid.plantNs }) ∧
    (∀ o, s.isPrimary = false ∨ s.pn P.ringTimeSrc ≠ 1 → exec (.syncInEdge o) s = .next s) ∧
    (s.ring.timeSrc ≠ 1 ∨ s.isPrimary = false ∨ (s.grid.plantNs - s.ring.ppsAt).toNat < 2999900000 → exec .ppsLost s = .next s) ∧
    (s.ring.timeSrc = 1 → s.isPrimary = true → 2999900000 ≤ (s.grid.plantNs - s.ring.ppsAt).toNat → ∃ t : State, exec .ppsLost s = .next t ∧ t.ring.timeSrc = 0) ∧
    (∀ b, s.power.aonPower = true → s.within100ms s.ring.toneFrom = false → s.armed 7 = true → s.power.phase = .settled →
      s.power.st = .watch → ∃ t : State, exec (.ringWakeTone b) s = .next t ∧ t.ring.toneSending = true ∧
      t.power.wakePending = some 7) ∧
    (∀ b, s.armed 7 = false → exec (.ringWakeTone b) s = .next s) ∧
    (s.power.aonPower = false → ∀ b, exec (.ringWakeTone b) s = .next s) ∧
    exec .ringWakeToneEnd s = .next (if s.within5ms s.ring.toneFrom then s else { s with ring.toneSending := false })

/-- A watchdog that expires frees the token; a hard fault takes its lane out of service, and the token with it when it is
the holder; the token goes to the one lane that may claim, to the higher score of two, and on a tie to the lane that
did not hold it last; a takeover lets the boundaries go on; a belief that differs frees the token for a rerun 500 us
later and, for the second time in 36,000,000 frames, retires its lane; a mirror that follows keeps the standby lane
current any other sends it to a resync, and a bad one during the check of a swap retires the new lane; a reboot ends
in standby or retirement. (14_lanes_and_failover.md) -/
def Obligations.LaneEvents : Prop :=
  ∀ s : State, s.lane.length = 2 →
    (s.lanes.valid = true → ∃ t : State, exec .tokenWatchdogExpire s = .next t ∧ t.lanes.valid = false ∧ t.lanes.gap = true ∧
      t.lanes.switchovers = bump 0xFF s.lanes.switchovers ∧ (t.laneAt s.lanes.holder).st ≠ .inCharge) ∧
    (s.lanes.valid = false → exec .tokenWatchdogExpire s = .next s) ∧
    (∀ b f, (s.laneAt b).st = .standby ∨ (s.laneAt b).st = .inCharge → ∃ t : State, exec (.laneHardFault b f) s = .next t ∧
      ((t.laneAt b).st = .rebooting ∨ (t.laneAt b).st = .retired) ∧ (f = .writeVerify → (t.laneAt b).st = .retired) ∧
      t.lanes.valid = (s.lanes.valid && s.lanes.holder != b) ∧ t.laneAt (!b) = s.laneAt (!b)) ∧
    (∀ a b, s.lanes.valid = true ∨ s.lanes.hold = true → exec (.tokenGrant a b) s = .next s) ∧
    (s.lanes.valid = false → s.lanes.hold = false →
      (∀ a b : Bool, (a && s.mayClaim false) = true → (b && s.mayClaim true) = false → s.GrantedTo false (exec (.tokenGrant a b) s)) ∧
      (∀ a b : Bool, (a && s.mayClaim false) = false → (b && s.mayClaim true) = true → s.GrantedTo true (exec (.tokenGrant a b) s)) ∧
      (∀ b : Bool, s.mayClaim b = true → s.mayClaim (!b) = true → s.score (!b) < s.score b →
        s.GrantedTo b (exec (.tokenGrant true true) s)) ∧
      (s.mayClaim false = true → s.mayClaim true = true → s.score false = s.score true →
        s.GrantedTo (!s.lanes.last) (exec (.tokenGrant true true) s)) ∧
      (∀ a b : Bool, (a && s.mayClaim false) = false → (b && s.mayClaim true) = false → exec (.tokenGrant a b) s = .next s)) ∧
    (∀ b, s.lanes.granted = some b → s.lanes.protOnly = false → ∃ t : State, exec .takeoverComplete s = .next t ∧
      t.lanes.granted = none ∧ t.lanes.takeoverDone = true ∧ t.lanes.booting = false ∧ (t.laneAt b).current = true ∧
      (t.laneAt b).outOk = true ∧ (s.lanes.booting = true → (s.laneAt (!b)).st = .standby → (t.laneAt (!b)).resync = true)) ∧
    (∀ b, (s.laneAt b).st = .standby ∨ (s.laneAt b).st = .inCharge → ∃ t : State,
      exec (.tokenBeliefMismatch b) s = .next t ∧ t.lanes.valid = false ∧ t.lanes.hold = true ∧
      t.lanes.reruns = bump 0xFF s.lanes.reruns ∧ (t.laneAt b).beliefDiffs = s.grid.validFrames :: (s.laneAt b).beliefDiffs ∧
      (t.laneAt b).st = (if 0 < s.within 36000000 (s.laneAt b).beliefDiffs then .retired else .standby)) ∧
    (s.lanes.hold = true → s.lanes.valid = false → 5 ≤ (s.grid.frame - s.lanes.releasedAt).toNat →
      (s.mayClaim false = false → s.mayClaim true = false → exec .rerunArbitration s = .next { s with lanes.hold := false }) ∧
      (∀ b : Bool, s.mayClaim b = true → s.mayClaim (!b) = false → s.GrantedTo b (exec .rerunArbitration s)) ∧
      (∀ b : Bool, s.mayClaim b = true → s.mayClaim (!b) = true → s.score (!b) < s.score b →
        s.GrantedTo b (exec .rerunArbitration s)) ∧
      (s.mayClaim false = true → s.mayClaim true = true → s.score false = s.score true →
        s.GrantedTo (!s.lanes.last) (exec .rerunArbitration s))) ∧
    (s.lanes.hold = false ∨ s.lanes.valid = true ∨ (s.grid.frame - s.lanes.releasedAt).toNat < 5 →
      exec .rerunArbitration s = .next s) ∧
    (s.lanes.valid = true → (s.laneAt (!s.lanes.holder)).st = .standby → (s.laneAt (!s.lanes.holder)).resync = false →
      (∀ f m, (s.laneAt (!s.lanes.holder)).lastMirror = some m → s.successor m f = true → exec (.mirrorRx f true) s =
        .next (s.modLane (!s.lanes.holder) fun l => { l with lastMirror := some f, mirror := s.lanes.mirror, current := true })) ∧
      (∀ f ok, s.lanes.swapPhase ≠ 2 ∨ ok = true → (ok = true → ∀ m, (s.laneAt (!s.lanes.holder)).lastMirror = some m → s.successor m f = false) →
        exec (.mirrorRx f ok) s = .next (s.modLane (!s.lanes.holder) fun l => { l with current := false, resync := true })) ∧
      (∀ f, s.lanes.swapPhase = 2 → ∃ t : State, exec (.mirrorRx f false) s = .next t ∧ t.lanes.valid = false ∧
        (t.laneAt s.lanes.holder).st = .retired)) ∧
    (∀ f ok, s.lanes.valid = false ∨ (s.laneAt (!s.lanes.holder)).st ≠ .standby ∨ (s.laneAt (!s.lanes.holder)).resync = true →
      exec (.mirrorRx f ok) s = .next s) ∧
    (s.lanes.valid = true → (s.laneAt (!s.lanes.holder)).st = .standby → (s.laneAt (!s.lanes.holder)).resync = true →
      exec .resyncComplete s = .next (s.modLane (!s.lanes.holder) fun l =>
        { l with resync := false, current := true, lastMirror := some s.lanes.lastBoundary, mirror := s.lanes.mirror })) ∧
    (∀ b, (s.laneAt b).st = .rebooting →
      (∃ t : State, exec (.laneRebootComplete b true) s = .next t ∧ (t.laneAt b).st = .standby ∧ (t.laneAt b).resync = true ∧
        (t.laneAt b).retired = false) ∧
      (∃ t : State, exec (.laneRebootComplete b false) s = .next t ∧ (t.laneAt b).st = .retired ∧
        (t.laneAt b).retireCount = (s.laneAt b).retireCount + 1)) ∧
    (∀ b, ∃ t : State, exec (.correctedSramError b) s = .next t ∧
      (t.laneAt b).eccFrames = (s.grid.validFrames :: (s.laneAt b).eccFrames).take 16 ∧ t.laneAt (!b) = s.laneAt (!b))

/-- A swap is due once its period has passed, never without one; with a good test the standby lane takes the token and the
old one stands by, and with a bad one it is retired with FAIL; at the end of the check, after its frames, the swap is
PASS, DIVERGE with the old lane rebooting, or FAIL with the new lane retired and the token free; a swap overdue for
168 h is recorded once. (14_lanes_and_failover.md) -/
def Obligations.SwapEvents : Prop :=
  ∀ s : State, s.lane.length = 2 →
    exec .eclipseSwapDue s = .next (if s.pn P.eclipsePeriodH = 0 ∨ s.lanes.swapTimer < s.lanes.swapNext then s
      else { s with lanes.swapDue := true }) ∧
    (s.lanes.swapPhase = 1 → s.lanes.valid = true →
      ((s.laneAt (!s.lanes.holder)).st = .standby → ∃ t : State, exec (.eclipseHandover true) s = .next t ∧
        t.lanes.holder = (!s.lanes.holder) ∧ t.lanes.valid = true ∧
        t.lanes.last = s.lanes.holder ∧ t.lanes.swapPhase = 2 ∧ (t.laneAt (!s.lanes.holder)).st = .inCharge ∧
        (t.laneAt s.lanes.holder).st = .standby) ∧
      (∀ ok : Bool, ok = false ∨ (s.laneAt (!s.lanes.holder)).st ≠ .standby → ∃ t : State,
        exec (.eclipseHandover ok) s = .next t ∧ t.lanes.holder = s.lanes.holder ∧ t.lanes.valid = true ∧
        t.lanes.swapPhase = 0 ∧ t.lanes.lastSwap = 2 ∧ t.lanes.swaps = s.lanes.swaps ∧
        (t.laneAt (!s.lanes.holder)).st = .retired)) ∧
    (∀ x y, s.lanes.swapPhase ≠ 1 → exec (.eclipseHandover x) s = .next s ∧
      (s.lanes.swapPhase ≠ 2 → exec (.eclipseCheckEnd x y) s = .next s)) ∧
    (∀ x y, s.lanes.swapFrames < s.pn P.eclipseCheckFrames → exec (.eclipseCheckEnd x y) s = .next s) ∧
    (s.lanes.swapPhase = 2 → s.lanes.valid = true → s.pn P.eclipseCheckFrames ≤ s.lanes.swapFrames →
      (∃ t : State, exec (.eclipseCheckEnd true false) s = .next t ∧ t.lanes.lastSwap = 1 ∧ t.lanes.swapPhase = 0 ∧
        t.lanes.swaps = bump 0xFF s.lanes.swaps ∧ t.lanes.swapTimer = 0 ∧ t.lanes.swapOverdue = false ∧
        (t.laneAt s.lanes.holder).outOk = true) ∧
      (∃ t : State, exec (.eclipseCheckEnd true true) s = .next t ∧ t.lanes.lastSwap = 3 ∧ t.lanes.swapPhase = 0 ∧
        (t.laneAt (!s.lanes.holder)).st = .rebooting ∧ t.lanes.selfTest = some (!s.lanes.holder) ∧
        t.lanes.swapNext = 36000000) ∧
      (∀ d, ∃ t : State, exec (.eclipseCheckEnd false d) s = .next t ∧ t.lanes.lastSwap = 2 ∧ t.lanes.swapPhase = 0 ∧
        t.lanes.valid = false ∧ (t.laneAt s.lanes.holder).st = .retired)) ∧
    (s.lanes.swapOverdue = false → 6048000000 ≤ s.lanes.swapTimer → ∃ t : State, exec .swapOverdue s = .next t ∧ t.lanes.swapOverdue = true ∧
      t.lane = s.lane) ∧
    (s.lanes.swapOverdue = true ∨ s.lanes.swapTimer < 6048000000 → exec .swapOverdue s = .next s)

/-- In SAFE or ARMED, a discrepancy, a new stuck or cross-short input, a bad output test or overcurrent, a bad self-test
or parameter set, a precharge that takes too long, an inrush, a low contactor supply and the causes of a sample each
trip the block with their cause, those with a time once it has passed and not before: SAFE_OK and the gates go off,
and contactors that are on follow; while it is TRIPPED a further cause is only counted; TRIP_CONTACTOR_OFF opens every
contactor. (15_safety_block.md) -/
def Obligations.SafetyTrips : Prop :=
  ∀ s : State,
    ((s.safe.st = .safe ∨ s.safe.st = .armed) → s.safeActive = true →
      (40 * s.safe.set.discMs < s.safe.estop.discUs → ∃ t : State, exec (.safetyDiscrepancy false) s = .next t ∧
        s.TrippedBy 3 t ∧ t.safe.estop.unresolved = true) ∧
      (s.safe.set.doorUsed = true → 40 * s.safe.set.discMs < s.safe.door.discUs → ∃ t : State,
        exec (.safetyDiscrepancy true) s = .next t ∧ s.TrippedBy 3 t ∧ t.safe.door.unresolved = true) ∧
      (∀ o, o < 4 → s.safe.outOn o = true → ∃ t u : State, exec (.outputTestDrop o false) s = .next t ∧ s.TrippedBy 6 t ∧
        t.safe.outFault.getLsbD (3 - o) = true ∧ t.safe.testSw = (s.safe.nextSwitch o).testSw ∧
        exec (.outputOvercurrent o) s = .next u ∧ s.TrippedBy 7 u ∧ u.safe.outFault.getLsbD (3 - o) = true ∧
        exec (.outputTestDrop o true) s = .next { s with safe := s.safe.nextSwitch o }) ∧
      (∀ o ok, o < 4 → s.safe.outOn o = false → exec (.outputTestDrop o ok) s = .next s ∧
        exec (.outputOvercurrent o) s = .next s) ∧
      (s.safe.setBad = false → ∃ t : State, exec (.safetySelfTest true true false) s = .next t ∧ s.TrippedBy 11 t ∧
        t.safe.setBad = true) ∧
      (∀ ram prog, (ram && prog) = false → s.safe.internalFault = false → ∃ t : State,
        exec (.safetySelfTest ram prog true) s = .next t ∧ s.TrippedBy 12 t ∧ t.safe.internalFault = true) ∧
      (∃ t : State, exec (.safetySelfTest true true true) s = .next t ∧ t.safe.internalFault = false ∧ t.safe.setBad = false ∧
        t.safe.st = s.safe.st) ∧
      (s.safe.seq = .closing → s.safe.kPre = true → 40 * s.safe.set.preMaxMs ≤ s.safe.preT → ∃ t : State,
        exec .prechargeTimeout s = .next t ∧ s.TrippedBy 9 t) ∧
      (s.safe.kPos = true → s.safe.inrush = true → ∃ t : State, exec .inrushTrip s = .next t ∧ s.TrippedBy 10 t ∧
        t.safe.inrush = false) ∧
      (40 ≤ s.safe.kLowSamples → ∃ t : State, exec .kSupplyLow s = .next t ∧ s.TrippedBy 8 t ∧ t.safe.kVsupOk = false) ∧
      (∀ i c rest, sampleCauses s.safe (s.safe.tick.readInputs i) i = c :: rest → ∃ t : State,
        exec (.safetySample i) s = .next t ∧ s.TrippedBy c t ∧ t.safe.lateCauses = s.safe.lateCauses + rest.length) ∧
      (∀ t2 low, let new := ((List.range 7).foldl (fun (x : Safe) k => x.dropInput t2 low k) s.safe).settleArming
        ((∃ k, k < 7 ∧ (((new.input k).stuck = true ∧ (s.safe.input k).stuck = false) ∨
            ((new.input k).cross = true ∧ (s.safe.input k).cross = false))) → ∃ t : State,
          exec (.testOutputDrop t2 low) s = .next t ∧ t.safe.st = .tripped ∧ t.safe.trips = s.safe.trips + 1) ∧
        ((∀ k, k < 7 → (new.input k).stuck = true → (s.safe.input k).stuck = true) →
          (∀ k, k < 7 → (new.input k).cross = true → (s.safe.input k).cross = true) →
          exec (.testOutputDrop t2 low) s = .next { s with safe := new }))) ∧
    (s.safe.st = .tripped → s.safeActive = true → 40 ≤ s.safe.kLowSamples → ∃ t : State, exec .kSupplyLow s = .next t ∧
      t.safe.trips = s.safe.trips ∧ t.safe.cause = s.safe.cause ∧ t.safe.lateCauses = s.safe.lateCauses + 1 ∧
      t.conv = s.conv) ∧
    (∀ x, s.safe.tripT = some x → 40 * s.safe.set.kDelayMs ≤ x → ∃ t : State, exec .tripContactorOff s = .next t ∧
      t.safe.tripT = none ∧ (s.safe.st = .tripped → t.safe.kPos = false ∧ t.safe.kNeg = false ∧ t.safe.kPre = false)) ∧
    ((∀ x, s.safe.tripT = some x → x < 40 * s.safe.set.kDelayMs) → exec .tripContactorOff s = .next s) ∧
    (s.safe.kLowSamples < 40 → exec .kSupplyLow s = .next s) ∧
    (s.safe.kPos = false ∨ s.safe.inrush = false → exec .inrushTrip s = .next s) ∧
    (s.safe.kPre = false ∨ s.safe.preT < 40 * s.safe.set.preMaxMs → exec .prechargeTimeout s = .next s) ∧
    (s.safe.estop.discUs ≤ 40 * s.safe.set.discMs → exec (.safetyDiscrepancy false) s = .next s) ∧
    (s.safe.set.doorUsed = false ∨ s.safe.door.discUs ≤ 40 * s.safe.set.discMs →
      exec (.safetyDiscrepancy true) s = .next s) ∧
    (s.safeActive = false → exec .kSupplyLow s = .next s ∧ exec .inrushTrip s = .next s ∧ exec .prechargeTimeout s = .next s ∧
      (∀ d, exec (.safetyDiscrepancy d) s = .next s) ∧ (∀ r p x, exec (.safetySelfTest r p x) s = .next s) ∧
      (∀ t2 low, exec (.testOutputDrop t2 low) s = .next s) ∧ ∀ i, exec (.safetySample i) s = .next s)

/-- A block whose conditions have held for 100 ms arms itself under AUTO; a close turns K_PRE on 20 ms after K_NEG, K_POS
after ten good frames of precharge, and K_PRE off after the overlap, and an opening ends with K_NEG after its gap; a
request that has changed meanwhile is followed at the end of its sequence; both hands pressed at once in SERVICE while
ARMED ask for closed contactors, and their release ends it. (15_safety_block.md) -/
def Obligations.ContactorSequence : Prop :=
  ∀ s : State, s.safeActive = true →
    (s.safe.armable = true → 4000 ≤ s.safe.armSamples →
      (s.safe.set.auto = true → s.safe.st = .safe → ∃ t : State, exec .armingReady s = .next t ∧ t.safe.st = .armed ∧
        t.safe.gateKill = false ∧ t.safe.safeOk = true ∧ t.safe.cause = 0 ∧ t.safe.resetReady = true) ∧
      (s.safe.set.auto = false → exec .armingReady s = .next { s with safe.resetReady := true })) ∧
    (s.safe.armable = false ∨ s.safe.armSamples < 4000 → exec .armingReady s = .next s) ∧
    (s.safe.seq = .closing → s.safe.kPre = false → 800 ≤ s.safe.seqT → exec .kPreOn s = .next { s with
      safe.kPre := true, safe.preT := 0, safe.preTEnd := 0, safe.preRun := 0, safe.precharging := true }) ∧
    (s.safe.seq ≠ .closing ∨ s.safe.seqT < 800 → exec .kPreOn s = .next s) ∧
    (s.safe.seq = .closing → s.safe.kPre = true → 10 ≤ s.safe.preRun → exec .prechargeComplete s = .next { s with
      safe.kPos := true, safe.posT := 0, safe.posTEnd := 0, safe.seq := .overlap, safe.precharging := false
      safe.inrush := false }) ∧
    (s.safe.seq ≠ .closing ∨ s.safe.preRun < 10 → exec .prechargeComplete s = .next s) ∧
    (s.safe.posT < 40 * s.safe.set.preOverlapMs → exec .kPreOff s = .next s) ∧
    (s.safe.seq = .overlap → 40 * s.safe.set.preOverlapMs ≤ s.safe.posT →
      (s.safe.wantsClosed = true → ∃ t : State, exec .kPreOff s = .next t ∧ t.safe = { s.safe with kPre := false, seq := .closed }) ∧
      (s.safe.wantsClosed = false → s.safe.st = .armed → s.safe.tripT = none → ∃ t : State, exec .kPreOff s = .next t ∧
        t.safe.kPre = false ∧ t.safe.kPos = false ∧ t.safe.seq = .opening)) ∧
    (s.safe.seqT < 40 * s.safe.set.openGapMs → exec .kNegOpen s = .next s) ∧
    (s.safe.seq = .opening → 40 * s.safe.set.openGapMs ≤ s.safe.seqT →
      (s.safe.wantsClosed = false → exec .kNegOpen s = .next { s with safe.kNeg := false, safe.seq := .opened }) ∧
      (s.safe.wantsClosed = true → s.safe.st = .armed → s.safe.tripT = none → ∃ t : State, exec .kNegOpen s = .next t ∧
        t.safe.kNeg = true ∧ t.safe.seq = .closing)) ∧
    (s.safe.two1.closed = false → s.safe.two2.closed = false → s.safe.twoReleased = true → s.grid.mode = .service →
      s.safe.st = .armed → ∃ t : State, exec (.twohandInput true true) s = .next t ∧ t.safe.twohandClose = true ∧
      (s.safe.tripT = none → s.safe.seq = .opened → t.safe.kNeg = true ∧ t.safe.seq = .closing)) ∧
    (s.safe.two1.closed = true ∨ s.safe.two2.closed = true → ∃ t : State, exec (.twohandInput false false) s = .next t ∧
      t.safe.twohandClose = false ∧ t.safe.twoReleased = true)

/-- Loss of aux in RUN sets AUX_LOSS, takes ACTIVE to STANDBY, drains the converter and plans a RECOVERY entry to WATCH;
in the other states it is only recorded; its return ends that plan or wakes the module from WATCH with source
AUX_RETURN; a low stack without aux begins a RECOVERY entry to APHELION, at once from DOZE; loss of all power leaves
everything off; a start from cold begins the return at stage 1 with source COLD_START and keeps non-volatile memory,
or goes to APHELION when the bridge alone feeds it; a block asked in DOZE accepts. (16_power_states.md, 00_scope.md,
13_ceyth_ring.md) -/
def Obligations.PowerSupply : Prop :=
  ∀ s : State,
    (s.power.auxOk = true → s.power.st = .run → s.power.off = false →
      ∃ t : State, exec .auxOkClear s = .next t ∧ t.power = { s.power with
        auxOk := false, onBridge := true, bridgeRun := true, auxLoss := true, recoverTo := some .watch
        bridgeAt := s.grid.frame, target := if s.power.phase = .returning then .watch else s.power.target } ∧
      t.grid.mode = (if s.grid.mode = .active then .standby else s.grid.mode) ∧
      ((s.conv.st = .on ∨ s.conv.st = .starting) → s.conv.toOff = false → t.conv.st = .draining ∧ t.conv.drainCause = 3)) ∧
    (s.power.auxOk = true → s.power.st = .watch → exec .auxOkClear s = .next { s with
      power.auxOk := false, power.onBridge := true
      power.target := if s.power.phase = .returning then .watch else s.power.target }) ∧
    (s.power.auxOk = true → s.power.st = .doze ∨ s.power.st = .aphelion ∨ (s.power.st = .run ∧ s.power.off = true) →
      exec .auxOkClear s = .next { s with
        power.auxOk := false, power.target := if s.power.phase = .returning then .watch else s.power.target }) ∧
    (s.power.auxOk = false → exec .auxOkClear s = .next s) ∧
    (s.power.auxOk = true ∨ s.power.aonPower = false → exec .auxOkSet s = .next s) ∧
    (s.power.auxOk = false → s.power.aonPower = true →
      (s.power.auxLoss = false ∨ (s.power.recoverTo ≠ some .watch ∧ s.armed 8 = false) → exec .auxOkSet s = .next { s with
        power.auxOk := true, power.onBridge := false, power.bridgeRun := false, power.auxLoss := false
        power.target := if s.power.phase = .returning then .run else s.power.target }) ∧
      (s.power.auxLoss = true → s.power.recoverTo = some .watch → exec .auxOkSet s = .next { s with
        power.auxOk := true, power.onBridge := false, power.bridgeRun := false, power.auxLoss := false, power.recoverTo := none
        power.target := if s.power.phase = .returning then .run else s.power.target }) ∧
      (s.power.auxLoss = true → s.power.recoverTo ≠ some .watch → s.power.st = .watch → s.power.phase = .settled →
        ∃ t : State, exec .auxOkSet s = .next t ∧ t.power.auxOk = true ∧ t.power.auxLoss = false ∧
          t.power.wakePending = some 8 ∧ t.power.wake.source = 8 ∧ t.power.st = .watch)) ∧
    exec .bridgeRunExpire s = .next (if 15000 ≤ (s.grid.frame - s.power.bridgeAt).toNat then
      { s with power.bridgeRun := false } else s) ∧
    (s.power.auxOk = true ∨ s.power.st = .aphelion ∨ (s.power.target = .aphelion ∧ s.power.phase = .committed) →
      exec .stackLow s = .next s) ∧
    (s.power.auxOk = false → s.power.st = .run ∨ s.power.st = .watch → ¬(s.power.target = .aphelion ∧ s.power.phase = .committed) →
      exec .stackLow s = .next { s with power.bridgeRun := false, power.recoverTo := some .aphelion }) ∧
    (s.power.auxOk = false → s.power.st = .doze → s.power.phase = .settled → ∃ t : State, exec .stackLow s = .next t ∧
      t.grid.mode = .service ∧ t.safe.closeReq = false ∧ t.lanes.closeReq = false ∧ t.power.phase = .handshake ∧ t.power.target = .aphelion ∧
      t.power.context = .recovery ∧ t.power.block = some 0 ∧ t.power.asked = true) ∧
    (s.power.auxOk = false → ∃ t : State, exec .aonPowerLoss s = .next t ∧ t.power.aonPower = false ∧ t.power.off = true ∧
      t.power.st = .aphelion ∧ t.conv.st = .off ∧ t.conv.gatesOn = false ∧ t.safe.kPos = false ∧ t.safe.kNeg = false ∧
      t.safe.kPre = false ∧ t.lanes.valid = false ∧ (s.lane.length = 2 → ∀ l ∈ t.lane, l.st = .off ∨ l.st = .retired)) ∧
    (s.power.auxOk = true → exec .aonPowerLoss s = .next s) ∧
    (∀ n, n < 8 →
      (∃ t : State, exec (.coldStart n true) s = .next t ∧ t.power.st = .aphelion ∧ t.power.phase = .settled ∧
        t.ring.straps = n ∧ t.power.aonPower = true) ∧
      (∃ t : State, exec (.coldStart n false) s = .next t ∧ t.power.phase = .returning ∧ t.power.stage = 1 ∧
        t.power.cold = true ∧ t.power.wake.source = 10 ∧ t.ring.straps = n ∧ t.tbl.banks = s.tbl.banks ∧
        t.ploza.images = s.ploza.images ∧ t.prot.recs = s.prot.recs ∧ t.conv.ring = s.conv.ring ∧
        t.lanes.absRecs = s.lanes.absRecs ∧ t.power.wake.counts = s.power.wake.counts.modify 9 (bump 0xFFFF) ∧
        t.lanes.valid = false ∧ t.conv.st = .off)) ∧
    (∀ n b, 8 ≤ n → exec (.coldStart n b) s = .fault .noSuchUnit) ∧
    (s.power.st = .doze → s.power.phase = .handshake → s.power.asked = true → ∀ b, s.power.block = some b →
      (b < 5 → exec .dozeBlockAsk s = .next { s with power.block := some (b + 1), power.asked := true, power.delayLeft := 0 }) ∧
      (5 ≤ b → ∃ t : State, exec .dozeBlockAsk s = .next t ∧ t.power.phase = .committed ∧ t.power.block = none ∧
        t.power.entryStep = 0)) ∧
    (s.power.st ≠ .doze → exec .dozeBlockAsk s = .next s)

/-- A block whose delays reach 10,000 frames counts as refusing with reason TIMEOUT: the entry ends unchanged in the
NORMAL context and is overridden in the others; each entry step that is complete is carried out in the order of the
table, and the last one settles the state; a forced entry, once the deadline of its next step has passed, carries out
the steps that are left and settles. (16_power_states.md) -/
def Obligations.PowerEntries : Prop :=
  ∀ s : State,
    (s.power.phase = .handshake → ∀ b, s.power.block = some b →
      (10000 ≤ s.power.delayTotals.getD b 0 → s.power.context = .normal → ∀ q r, s.power.req = some q → q.ref = some r →
        ∃ t : State, exec .handshakeTimeout s = .next t ∧ t.power.phase = .settled ∧ t.power.st = s.power.st ∧
          t.power.target = s.power.st ∧ t.power.req = none ∧ t.power.block = none ∧
          t.power.outs = s.power.outs ++ [{ ref := r, final := 0x20, reason := 4, reached := s.power.st, block := some b }]) ∧
      (10000 ≤ s.power.delayTotals.getD b 0 → s.power.context ≠ .normal → ∃ t : State, exec .handshakeTimeout s = .next t ∧
        (b < 5 → t.power.phase = .handshake ∧ t.power.block = some (b + 1) ∧ t.power.asked = true ∧ t.power.delayLeft = 0) ∧
        (5 ≤ b → t.power.phase = .committed ∧ t.power.entryStep = 0)) ∧
      (s.power.delayTotals.getD b 0 < 10000 → exec .handshakeTimeout s = .next s)) ∧
    (s.power.phase ≠ .handshake → exec .handshakeTimeout s = .next s) ∧
    (s.power.phase ≠ .committed → exec .entryStepComplete s = .next s ∧ exec .entryForced s = .next s) ∧
    (s.power.phase = .committed → ∀ k, nextStepOf s.power.target s.power.entryStep = some k →
      (s.stepDone k = false → exec .entryStepComplete s = .next s) ∧
      (s.stepDone k = true → k ≠ 6 → ∃ t : State, exec .entryStepComplete s = .next t ∧ t.power.entryStep = k ∧
        t.power.phase = .committed ∧
        (k = 3 → (∀ x ∈ s.slot, x.moveTo = none) → ∀ p, p < s.pan.length → (s.panAt p).st ≠ .retired → (s.panAt p).st ≠ .halted →
          (s.power.target ≠ .watch ∨ 40 ≤ (s.panAt p).role ∨ (34 ≤ (s.panAt p).role ∧ (s.panAt p).role ≤ 37) →
            (t.panAt p).st = .gated) ∧
          (s.power.target = .watch → (s.panAt p).role < 34 ∨ (37 < (s.panAt p).role ∧ (s.panAt p).role < 40) →
            t.panAt p = s.panAt p)) ∧
        (k = 3 → s.power.target ≠ .watch → t.conv.st = .off) ∧
        (k = 4 → s.power.target ≠ .watch → t.ploza.staged = [] ∧ t.ploza.streams = [none, none, none, none] ∧
          t.sec.ephemeral = false ∧ t.spi = {} ∧ (∀ c ∈ t.can, c = {})) ∧
        (k = 5 → s.power.target ≠ .watch → t.lanes.valid = false ∧
          (s.lane.length = 2 → ∀ l ∈ t.lane, l.st = .off ∨ l.st = .retired))) ∧
      (k = 6 → s.power.queued = none → s.power.wakeLatched = none → s.power.recoverTo = none → s.power.target ≠ .watch →
        ∃ t : State, exec .entryStepComplete s = .next t ∧ t.power.st = s.power.target ∧ t.power.phase = .settled ∧
          t.power.req = none ∧ t.power.dwell = true ∧
          (∀ f ∈ t.fe, f.linkUp = false) ∧ t.cfe.linkUp = false ∧
          (s.power.target = .aphelion → t.safe.safeOk = false ∧ t.safe.kPos = false ∧ t.safe.kNeg = false ∧ t.safe.kPre = false))) ∧
    (s.clockOn = true → (s.grid.frame - s.power.commitAt).toNat < s.entryLimit → exec .entryForced s = .next s) ∧
    (s.power.phase = .committed → (s.clockOn = true → s.entryLimit ≤ (s.grid.frame - s.power.commitAt).toNat) →
      s.power.entryStep ≤ 5 → s.power.queued = none → s.power.wakeLatched = none →
      s.power.wakePending = none → s.power.recoverTo = none → ∃ t : State, exec .entryForced s = .next t ∧
        t.power.st = s.power.target ∧ t.power.phase = .settled ∧ t.power.req = none)

/-- A wake from an armed source starts the return from DOZE or APHELION once the dwell has passed, waits for the boundary
in WATCH, aborts a NORMAL handshake, is latched after its commit point, and is only recorded in a return; each stage
of a return follows the one before; a stage that times out is retried or handled as the stage says, and an attempt
that fails for the last time leaves the protection-only state with CORE_FAIL; the return settles in RUN with aux and
in WATCH without. (16_power_states.md) -/
def Obligations.WakeAndReturn : Prop :=
  ∀ s : State,
    (∀ src cell bus, 1 ≤ src → src ≤ 7 → cell ≤ 96 → s.power.aonPower = true → s.armed src = true →
      (src = 1 → s.busWakes bus = true) → (src = 4 → s.within100ms s.power.wakeFrom = false) →
      ¬(s.power.coreFail = true ∧ s.power.phase = .returning ∧ s.power.stage = 0) →
      ∃ t : State, exec (.wakeConfirmed src ⟨cell, bus⟩) s = .next t ∧
        t.power.wake.source = src ∧ t.power.wake.counts = s.power.wake.counts.modify (src - 1) (bump 0xFFFF) ∧
        (s.power.phase = .settled → s.power.st = .watch ∨ s.power.dwell = true → t.power.wakePending = some src ∧
          t.power.phase = .settled ∧ t.power.st = s.power.st) ∧
        (s.power.phase = .settled → s.power.st = .doze ∨ s.power.st = .aphelion → s.power.dwell = false →
          t.power.phase = .returning ∧ t.power.stage = 2 ∧ t.power.fromSt = s.power.st ∧
          t.power.target = (if s.power.auxOk then .run else .watch)) ∧
        (s.power.phase = .handshake → s.power.context = .normal → t.power.phase = .settled ∧ t.power.st = s.power.st ∧
          ∀ q r, s.power.req = some q → q.ref = some r →
            t.power.outs = s.power.outs ++ [{ ref := r, final := 0x20, reason := 5, reached := s.power.st, block := none }]) ∧
        (s.power.phase = .handshake → s.power.context ≠ .normal → t.power.phase = .handshake ∧ t.power.wakePending = some src) ∧
        (s.power.phase = .committed → s.power.context = .normal → t.power.wakeLatched = some src) ∧
        (s.power.phase = .committed → s.power.context ≠ .normal → t.power.wakePending = some src) ∧
        (s.power.phase = .returning → ∃ w, t = { s with power.wake := w })) ∧
    (∀ src cell bus, 1 ≤ src → src ≤ 8 → cell ≤ 96 → s.power.aonPower = false ∨ src = 8 ∨
      (src = 1 ∧ s.busWakes bus = false) ∨ (src = 4 ∧ s.within100ms s.power.wakeFrom = true) →
      exec (.wakeConfirmed src ⟨cell, bus⟩) s = .next s) ∧
    (∀ src cell bus, 1 ≤ src → src ≤ 7 → cell ≤ 96 → s.armed src = false →
      ¬(s.power.coreFail = true ∧ s.power.phase = .returning ∧ s.power.stage = 0) →
      exec (.wakeConfirmed src ⟨cell, bus⟩) s = .next s) ∧
    (∀ src cell bus, 1 ≤ src → src ≤ 7 → cell ≤ 96 → s.power.aonPower = true → s.power.coreFail = true →
      s.power.phase = .returning → s.power.stage = 0 →
      (src ≠ 4 → exec (.wakeConfirmed src ⟨cell, bus⟩) s = .next s) ∧
      (src = 4 → s.within100ms s.power.wakeFrom = false → ∃ t : State, exec (.wakeConfirmed src ⟨cell, bus⟩) s = .next t ∧
        t.power.stage = 2 ∧ t.power.stageTries = 0 ∧ t.power.phase = .returning ∧ t.power.wake.source = 4)) ∧
    (s.power.dwell = true → s.power.phase = .settled →
      (s.power.wakePending = none → exec .wakeDwellExpire s = .next { s with power.dwell := false }) ∧
      (s.power.wakePending.isSome = true → ∃ t : State, exec .wakeDwellExpire s = .next t ∧ t.power.dwell = false ∧
        t.power.phase = .returning ∧ t.power.fromSt = s.power.st ∧ t.power.stage = (if s.power.st = .watch then 7 else 2))) ∧
    exec .wakePulseEnd s = .next (if s.within5ms s.power.wakeFrom then s else { s with power.wakeLine := false }) ∧
    (s.power.phase ≠ .returning → (∀ b, exec (.returnStageReady b) s = .next s) ∧ exec .returnStageTimeout s = .next s) ∧
    (s.power.phase = .returning → s.power.stage = 2 → exec .coreLdoRetry s = .next { s with power.retryWait := false }) ∧
    (s.power.phase ≠ .returning ∨ s.power.stage ≠ 2 → exec .coreLdoRetry s = .next s) ∧
    (s.power.retryWait = true ∨ s.power.stage = 0 → (∀ b, exec (.returnStageReady b) s = .next s) ∧
      exec .returnStageTimeout s = .next s) ∧
    (s.power.phase = .returning → s.power.retryWait = false → ∀ b,
      (1 ≤ s.power.stage → s.power.stage ≤ 4 → exec (.returnStageReady b) s = .next { s with
        power.stage := s.power.stage + 1, power.stageTries := 0, power.retryWait := false
        power.stageAt := s.grid.frame }) ∧
      (5 ≤ s.power.stage → s.power.stage ≤ 7 → ∃ t : State, exec (.returnStageReady b) s = .next t ∧
        t.power.stage = s.power.stage + 1 ∧ t.power.phase = .returning ∧
        (s.power.stage = 5 → ∀ l ∈ t.lane, l.st = .standby ∨ l.st = .retired ∨ l.st = .rebooting)) ∧
      (s.power.stage = 8 → s.power.queued = none → s.power.wakeLatched = none → s.power.wakePending = none →
        ∃ t : State, exec (.returnStageReady b) s = .next t ∧ t.power.phase = .settled ∧ t.power.stage = 0 ∧
          t.power.st = (if s.power.auxOk then .run else .watch) ∧ t.power.auxLoss = !s.power.auxOk ∧ t.power.req = none ∧
          t.power.cold = false)) ∧
    (s.clockOn = true → (s.grid.frame - s.power.stageAt).toNat < 100 * (s.power.stageTries + 1) →
      exec .returnStageTimeout s = .next s) ∧
    (s.power.phase = .returning → s.power.retryWait = false →
      (s.clockOn = true → 100 * (s.power.stageTries + 1) ≤ (s.grid.frame - s.power.stageAt).toNat) →
      ∃ t : State, exec .returnStageTimeout s = .next t ∧
      (s.power.stage ≠ 0 → s.power.queued = none → t.power.wake.stage = s.power.stage) ∧
      (s.power.stage = 2 → s.power.stageTries < 3 → t.power.retryWait = true ∧ t.power.stageTries = s.power.stageTries + 1) ∧
      (s.power.stage = 2 ∧ 3 ≤ s.power.stageTries ∨ s.power.stage = 4 ∧ 1 ≤ s.power.stageTries ∨
        s.power.stage = 5 ∧ (s.power.fromSt ≠ .doze ∨ s.power.laneBoot = true) →
        t.power.coreFail = true ∧ t.power.stage = 0 ∧ t.lanes.protOnly = true ∧ t.lanes.protReduced = true ∧
        t.lanes.valid = false) ∧
      (s.power.stage = 3 → t.power.clockDegraded = true ∧ t.power.stage = 4 ∧ t.power.wake.fromSrc.getLsbD 5 = true) ∧
      (s.power.stage = 4 → s.power.stageTries = 0 → t.power.stageTries = 1 ∧ t.power.stage = 4) ∧
      (s.power.stage = 5 → s.power.fromSt = .doze → s.power.laneBoot = false → t.power.laneBoot = true ∧ t.power.stage = 5 ∧
        t.power.stageTries = 0) ∧
      (s.power.stage = 6 → t.power.stage = 7 ∧ ∀ i, 1 ≤ i → i ≤ 6 → s.fe.length = 6 → s.feActive i = true →
        (s.feAt i).linkUp = false → (t.feAt i).relinking = true) ∧
      (s.power.stage = 7 → 1 ≤ s.power.stageTries → t.power.stage = 8 ∧ t.sluice.frozen = true) ∧
      (s.power.stage = 8 → s.power.queued = none → s.power.wakeLatched = none → s.power.wakePending = none →
        t.power.phase = .settled ∧ t.power.st = (if s.power.auxOk then .run else .watch)))

/-- An image write that ends makes the new image the active one; the oldest group that waits is sealed, with zeros for a
signature while TAMPER is latched; an image whose signature fails ends its activation and one that passes every check
becomes the TRIAL slot and asks for a restart; a trial that passes becomes the boot slot and raises the floor, one
that fails twice is dropped; a detection by a monitored source counts, and one whose policy is ERASE erases the keys
and latches TAMPER. (20_security_and_journal.md, 18_parameter_map.md) -/
def Obligations.SecurityEvents : Prop :=
  ∀ s : State,
    (s.ploza.imageWrite = none → exec .configImageWritten s = .next s) ∧
    (∀ x, s.ploza.imageWrite = some x → exec .configImageWritten s = .next { s with
      ploza.images := setAt s.ploza.images (1 - s.ploza.activeImage) { x with good := true }
      ploza.activeImage := 1 - s.ploza.activeImage, ploza.imageWrite := none }) ∧
    (s.laneRuns = false → exec .journalSealWrite s = .next s ∧ exec .fwVerifyComplete s = .next s) ∧
    (s.laneRuns = true →
      (s.sec.seals = [] → exec .journalSealWrite s = .next s) ∧
      (∀ g rest, s.sec.seals = g :: rest →
        let records := (List.range 62).flatMap fun k => s.entryBytes (64 * g + k)
        let sig := if s.sec.tamper then zeros 64 else be64 (Config.signJournal s.sec.keyEpoch (hashNum records))
        ∃ t : State, exec .journalSealWrite s = .next t ∧ t.sec = { s.sec with
          seals := rest
          journal := journalPut (journalPut s.sec.journal (s.sealPart 3 (64 * g + 62) (sig.take 32)))
            (s.sealPart 4 (64 * g + 63) (sig.drop 32)) } ∧
        t.lanes.absSeq = s.lanes.absSeq + (if s.sec.tamper then 1 else 0)) ∧
      (s.sec.fwVerify = none → exec .fwVerifyComplete s = .next s) ∧
      (∀ r, s.sec.fwVerify = some r →
        let im := s.sec.fwStaged
        let ok := Config.vendorFwOk (hashNum (im.take 64 ++ im.drop 128)) (BitVec.ofNat 512 (beNat (slice im 64 64)))
        (ok = false → exec .fwVerifyComplete s = .next (s.endVerify .signatureInvalid 0)) ∧
        (ok = true → getU im 12 2 < s.sec.secFloor → exec .fwVerifyComplete s = .next (s.endVerify .refused 1)) ∧
        (ok = true → s.sec.secFloor ≤ getU im 12 2 →
          (Config.decryptFw s.sec.keyEpoch im = none → exec .fwVerifyComplete s = .next (s.endVerify .signatureInvalid 0)) ∧
          (∀ plain, Config.decryptFw s.sec.keyEpoch im = some plain →
            (recipesOk (Config.recipes plain) = false → exec .fwVerifyComplete s = .next (s.endVerify .refused 2)) ∧
            (recipesOk (Config.recipes plain) = true → ∃ t : State, exec .fwVerifyComplete s = .next t ∧ t.sec.fwVerify = none ∧
              t.sec.fwTrial = some r ∧ t.sec.fwTrialFails = 0 ∧ t.sec.restart = true ∧ t.sec.secFloor = s.sec.secFloor ∧
              t.sec.fwBoot = s.sec.fwBoot ∧ t.sec.fwSlots = setAt s.sec.fwSlots (1 - s.sec.fwBoot)
                { version := BitVec.ofNat 32 (getU im 8 4), hash := sha256 plain, secVersion := getU im 12 2 }))))) ∧
    (∀ st reason, (s.endVerify st reason).sec = { s.sec with fwVerify := none }) ∧
    (∀ r, s.sec.fwTrial = some r → s.sec.restart = false →
      (∃ t : State, exec (.fwTrialResult true) s = .next t ∧ t.sec = { s.sec with
        fwTrial := none, fwTrialFails := 0, fwBoot := 1 - s.sec.fwBoot
        secFloor := max s.sec.secFloor (s.sec.fwSlots.getD (1 - s.sec.fwBoot) {}).secVersion }) ∧
      (s.sec.fwTrialFails = 0 → exec (.fwTrialResult false) s = .next { s with sec.fwTrialFails := 1 }) ∧
      (s.sec.fwTrialFails ≠ 0 → ∃ t : State, exec (.fwTrialResult false) s = .next t ∧
        t.sec = { s.sec with fwTrial := none, fwTrialFails := 0 })) ∧
    (s.sec.fwTrial = none → ∀ b, exec (.fwTrialResult b) s = .next s) ∧
    (s.sec.restart = true → ∀ b, exec (.fwTrialResult b) s = .next s) ∧
    exec .ephemeralKeyExpire s = .next (if 36000000 ≤ s.grid.validFrames - s.sec.ephFrame then
      { s with sec.ephemeral := false } else s) ∧
    (∀ src v, ∃ t : State, exec (.tamperDetect src v) s = .next t ∧
      ((∃ k, 1 ≤ k ∧ k ≤ 4 ∧ src.getLsbD (k - 1) = true ∧ s.monitored k = true ∧
          (k = 1 ∨ s.sec.policy.getLsbD (k - 1) = true)) → t.sec.tamper = true ∧ t.sec.keys = false ∧ t.sec.fwVerify = none) ∧
      ((∀ k, 1 ≤ k → k ≤ 4 → src.getLsbD (k - 1) = true → s.monitored k = true →
          k ≠ 1 ∧ s.sec.policy.getLsbD (k - 1) = false) → t.sec.tamper = s.sec.tamper ∧ t.sec.keys = s.sec.keys) ∧
      (s.sec.tamperCounts.length = 4 → ∀ k, 1 ≤ k → k ≤ 4 → t.sec.tamperCounts.getD (k - 1) 0 =
        (if src.getLsbD (k - 1) && s.monitored k then bump 0xFFFF (s.sec.tamperCounts.getD (k - 1) 0)
          else s.sec.tamperCounts.getD (k - 1) 0)))

/-- A frame received on a port that is on the bus goes to its receive ring, or is counted as dropped when the ring is
full; a lane that runs takes it, drops what the filter refuses, a first segment opens a packet, the next in order
joins it until it is whole, one out of order drops it, and a packet without its next segment for 10 ms is dropped; a
frame sent leaves the FIFO, which is refilled, or the alarm slot; a loop delay above 127 on an FD_BRS port is a bus
error and the frame stays; bus-off keeps FIFO and queue, and a recovery zeroes the counters. The error counts are the
model's choice (log entry 25). (19_can_fd_and_spi.md, 17_ploza_protocol.md) -/
def Obligations.CanEvents : Prop :=
  ∀ (s : State) (b : Bool), s.can.length = 2 →
    (s.portsOn = true → (s.canAt b).onBus = true →
      (∀ id fd late data, (fd && s.canFd b == 0) = false → s.ringsRead = false →
        ((s.canAt b).rxRing.length < 128 → ∃ t : State, exec (.canFrameRx b id fd late data) s = .next t ∧
          (t.canAt b).rxRing = (s.canAt b).rxRing ++ [{ id := id, data := data, time := s.grid.plantNs }] ∧
          (t.canAt b).rxDropped = (s.canAt b).rxDropped ∧ (t.canAt b).recCnt = recAfterGood (s.canAt b).recCnt) ∧
        (128 ≤ (s.canAt b).rxRing.length → ∃ t : State, exec (.canFrameRx b id fd late data) s = .next t ∧
          (t.canAt b).rxRing = (s.canAt b).rxRing ∧ (t.canAt b).rxDropped = bump 0xFF (s.canAt b).rxDropped)) ∧
      (∀ id fd late data, (fd && s.canFd b == 0) = false → s.ringsRead = true → (s.canAt b).rxRing = [] →
        ((s.canAt b).keeps id = false → ∃ t : State, exec (.canFrameRx b id fd late data) s = .next t ∧
          (t.canAt b).rxRing = [] ∧ (t.canAt b).reasm = (s.canAt b).reasm ∧ t.ploza = s.ploza) ∧
        ((s.canAt b).keeps id = true → idField id 13 2 = 1 → idField id 0 8 = 0 → ∃ t : State,
          exec (.canFrameRx b id fd late data) s = .next t ∧ (t.canAt b).rxRing = [] ∧
          (t.canAt b).reasm = (s.canAt b).reasm.filter (·.key != reasmKey id) ++
            [{ key := reasmKey id, next := 1, data := data, lastAt := s.grid.plantNs }]) ∧
        ((s.canAt b).keeps id = true → idField id 13 2 = 1 → idField id 0 8 ≠ 0 → ∃ t : State,
          exec (.canFrameRx b id fd late data) s = .next t ∧ (t.canAt b).rxRing = [] ∧
          (t.canAt b).reasm = (s.canAt b).reasm ∧ t.ploza = s.ploza) ∧
        ((s.canAt b).keeps id = true → idField id 13 2 = 0 → ∃ u : State, u = { s with can := u.can, spi := u.spi } ∧
          (u.canAt b).rxRing = [] ∧ (u.canAt b).reasm = (s.canAt b).reasm ∧ exec (.canFrameRx b id fd late data) s =
            .next (u.canPacket b late id (trimPadding data data.length))) ∧
        ((s.canAt b).keeps id = true → idField id 13 2 = 2 →
          ((s.canAt b).reasm.find? (·.key == reasmKey id) = none → ∃ t : State,
            exec (.canFrameRx b id fd late data) s = .next t ∧ (t.canAt b).reasm = (s.canAt b).reasm ∧ t.ploza = s.ploza) ∧
          (∀ r, (s.canAt b).reasm.find? (·.key == reasmKey id) = some r →
            let others := (s.canAt b).reasm.filter (·.key != reasmKey id)
            let all := r.data ++ data
            (idField id 0 8 ≠ r.next ∨ (if s.canFd b = 0 then 255 else 64) < idField id 0 8 → ∃ t : State,
              exec (.canFrameRx b id fd late data) s = .next t ∧ (t.canAt b).reasm = others ∧ t.ploza = s.ploza) ∧
            (idField id 0 8 = r.next → r.next ≤ (if s.canFd b = 0 then 255 else 64) →
              (all.length < 10 + getU all 4 2 → ∃ t : State, exec (.canFrameRx b id fd late data) s = .next t ∧
                (t.canAt b).reasm = others ++ [{ r with next := r.next + 1, data := all, lastAt := s.grid.plantNs }] ∧
                t.ploza = s.ploza) ∧
              (10 + getU all 4 2 ≤ all.length → ∃ u : State, u = { s with can := u.can, spi := u.spi } ∧
                (u.canAt b).reasm = others ∧ exec (.canFrameRx b id fd late data) s =
                  .next (u.canPacket b late id (trimPadding all data.length))))))) ∧
      (∀ f rest d, (s.canAt b).fifo = f :: rest → (s.canFd b ≠ 2 ∨ d ≤ 127) → ∃ t : State,
        exec (.canTxComplete b false d) s = .next t ∧ (t.canAt b).fifo = (rest ++ (s.canAt b).queue).take 32 ∧
        (t.canAt b).queue = (rest ++ (s.canAt b).queue).drop 32 ∧ (t.canAt b).alarm = (s.canAt b).alarm ∧
        (t.canAt b).tecCnt = (s.canAt b).tecCnt - 1 ∧ (s.canFd b = 2 → (t.canAt b).tdcValue = d ∧ (t.canAt b).ssp = s.sampleAt b d)) ∧
      (∀ d, (s.canAt b).alarm.isSome = true → (s.canFd b ≠ 2 ∨ d ≤ 127) → ∃ t : State,
        exec (.canTxComplete b true d) s = .next t ∧ (t.canAt b).alarm = none ∧ (t.canAt b).fifo = (s.canAt b).fifo ∧
        (t.canAt b).queue = (s.canAt b).queue) ∧
      (∀ f rest d, (s.canAt b).fifo = f :: rest → s.canFd b = 2 → 127 < d → ∃ t : State,
        exec (.canTxComplete b false d) s = .next t ∧ (t.canAt b).fifo = (s.canAt b).fifo ∧
        (t.canAt b).queue = (s.canAt b).queue ∧ (t.canAt b).tdcValue = 127 ∧
        (t.canAt b).tecCnt = satTo 0xFF ((s.canAt b).tecCnt + 8)) ∧
      (∀ d, (s.canAt b).alarm.isSome = true → s.canFd b = 2 → 127 < d → ∃ t : State,
        exec (.canTxComplete b true d) s = .next t ∧ (t.canAt b).alarm = (s.canAt b).alarm ∧
        (t.canAt b).tecCnt = satTo 0xFF ((s.canAt b).tecCnt + 8)) ∧
      (∀ d, ((s.canAt b).alarm = none → exec (.canTxComplete b true d) s = .next s) ∧
        ((s.canAt b).fifo = [] → exec (.canTxComplete b false d) s = .next s)) ∧
      (∀ tx, ∃ t : State, exec (.canBusError b tx) s = .next t ∧ (t.canAt b).onBus = true ∧
        (t.canAt b).tecCnt = (if tx then satTo 0xFF ((s.canAt b).tecCnt + 8) else (s.canAt b).tecCnt) ∧
        (t.canAt b).recCnt = (if tx then (s.canAt b).recCnt else bump 0xFF (s.canAt b).recCnt)) ∧
      (∃ t : State, exec (.canBusOff b) s = .next t ∧ (t.canAt b).bus = .busOff ∧
        (t.canAt b).busOffs = bump 0xFF (s.canAt b).busOffs ∧ (t.canAt b).fifo = (s.canAt b).fifo ∧
        (t.canAt b).queue = (s.canAt b).queue ∧ t.spi.irqStatus = setBit s.spi.irqStatus (4 + bit b) true)) ∧
    (s.portsOn = true → (s.canAt b).bus = .busOff → ∃ t : State, exec (.canBusOffRecovery b) s = .next t ∧
      (t.canAt b).bus = .errorActive ∧ (t.canAt b).tecCnt = 0 ∧ (t.canAt b).recCnt = 0 ∧
      (t.canAt b).fifo = (s.canAt b).fifo ∧ t.spi.irqStatus = setBit s.spi.irqStatus (4 + bit b) true) ∧
    (∀ key, ∃ t : State, exec (.canSegmentTimeout b key) s = .next t ∧
      (t.canAt b).reasm = (s.canAt b).reasm.filter (fun r => !(r.key == key && s.past10ms r.lastAt)) ∧
      t.canAt (!b) = s.canAt (!b)) ∧
    (s.portsOn = false ∨ (s.canAt b).bus ≠ .busOff → exec (.canBusOffRecovery b) s = .next s) ∧
    (s.canFd b = 0 → ∀ id late data, exec (.canFrameRx b id true late data) s = .next s) ∧
    (s.portsOn = false ∨ (s.canAt b).onBus = false → (∀ id fd late data, exec (.canFrameRx b id fd late data) s = .next s) ∧
      (∀ a d, exec (.canTxComplete b a d) s = .next s) ∧ (∀ tx, exec (.canBusError b tx) s = .next s) ∧
      exec (.canBusOff b) s = .next s)

/-- A word written to IN_DATA joins the packet in progress, which is received when it is whole with zero padding and
discarded and counted otherwise; a word that does not fit discards the packet and later words until CS_N rises; a read
of OUT_DATA gives the next word of the head packet and its last word releases it; a write to IRQ_STATUS clears the W1C
bits written 1; a transaction's words are taken one by one from its address, which stays at IN_DATA and OUT_DATA and
advances elsewhere, IRQ_ENABLE keeps bit 2 set, other addresses ignore a write, a reserved bit of the command word
makes the rest ignored, and MISO carries IRQ_STATUS with the command word; a raised CS_N or 10 ms without a word
discard an incomplete packet. (19_can_fd_and_spi.md) -/
def Obligations.SpiMailbox : Prop :=
  ∀ s : State, (s.portsOn = true →
    (∀ w late, s.spi.inDrop = true → exec (.spiInDataWrite w late) s = .next s) ∧
    (∀ w late, s.spi.inDrop = false → s.spiFree < 4 → exec (.spiInDataWrite w late) s = .next { s with
      spi.inPart := [], spi.inErrors := bump 0xFFFF s.spi.inErrors, spi.irqStatus := setBit s.spi.irqStatus 6 true
      spi.inDrop := true }) ∧
    (∀ w late, s.spi.inDrop = false → 4 ≤ s.spiFree →
      let bs := s.spi.inPart ++ toLe 4 w.toNat
      let total := 10 + getU bs 4 2
      (bs.length < 6 ∨ bs.length < total → exec (.spiInDataWrite w late) s = .next { s with
        spi.inPart := bs, spi.inAt := s.grid.plantNs }) ∧
      (6 ≤ bs.length → total ≤ bs.length →
        ((∃ x ∈ bs.drop total, x ≠ 0) → exec (.spiInDataWrite w late) s = .next { s with
          spi.inPart := [], spi.inErrors := bump 0xFFFF s.spi.inErrors, spi.irqStatus := setBit s.spi.irqStatus 6 true }) ∧
        ((∀ x ∈ bs.drop total, x = 0) → exec (.spiInDataWrite w late) s = .next
          (({ s with spi.inPart := [], spi.irqStatus := setBit s.spi.irqStatus 1 true } : State).receive .spi late (bs.take total))))) ∧
    (s.spi.outQ = [] → exec .spiOutDataRead s = .next { s with spi.miso := 0 }) ∧
    (∀ p q, s.spi.outQ = p :: q →
      let w := BitVec.ofNat 32 (getU (padTo (p.bytes.length + 4) p.bytes) (4 * s.spi.outPos) 4)
      (p.bytes.length ≤ 4 * (s.spi.outPos + 1) → exec .spiOutDataRead s = .next { s with
        spi.miso := w, spi.outQ := q, spi.outPos := 0 }) ∧
      (4 * (s.spi.outPos + 1) < p.bytes.length → exec .spiOutDataRead s = .next { s with
        spi.miso := w, spi.outPos := s.spi.outPos + 1 })) ∧
    (∀ w, ∃ t : State, exec (.spiIrqStatusWrite w) s = .next t ∧
      t = { s with spi.irqStatus := t.spi.irqStatus } ∧
      ∀ k, k < 32 → t.spi.irqStatus.getLsbD k = (s.spi.irqStatus.getLsbD k &&
        !(w.getLsbD k && (k == 0 || k == 1 || k == 4 || k == 5 || k == 6 || k == 7)))) ∧
    (∀ a n rsv words late, a < 128 → n < 2048 → rsv < 8192 → ∀ write : Bool,
      let cmd := BitVec.ofNat 32 ((if write then 2147483648 else 0) + 16777216 * a + 2048 * rsv + n)
      let t : State := { s with spi.miso := setBit s.spi.irqStatus 2 (!s.spi.outQ.isEmpty) }
      (rsv ≠ 0 → exec (.spiRegisterWrite cmd ⟨words, late⟩) s = .next t) ∧
      (rsv = 0 → exec (.spiRegisterWrite cmd ⟨words, late⟩) s = .next (t.spiWords write late a (words.take n)))) ∧
    (∀ a w l late, s.spiWords true late a [] = s ∧ s.spiWords false late a [] = s ∧
      (a ≠ 4 → a ≠ 6 → spiNext a = (a + 1) % 128) ∧ spiNext 4 = 4 ∧ spiNext 6 = 6 ∧
      (a = 1 → ∃ t : State, exec (.spiIrqStatusWrite w) s = .next t ∧
        s.spiWords true late a (w :: l) = t.spiWords true late (spiNext a) l) ∧
      (a = 2 → ∃ t : State, t = { s with spi.irqEnable := t.spi.irqEnable } ∧
        (∀ k, k < 32 → t.spi.irqEnable.getLsbD k = (k == 2 || w.getLsbD k)) ∧
        s.spiWords true late a (w :: l) = t.spiWords true late (spiNext a) l) ∧
      (a = 4 → ∃ t : State, exec (.spiInDataWrite w late) s = .next t ∧
        s.spiWords true late a (w :: l) = t.spiWords true late (spiNext a) l) ∧
      (a ≠ 1 → a ≠ 2 → a ≠ 4 → s.spiWords true late a (w :: l) = s.spiWords true late (spiNext a) l) ∧
      (a = 6 → ∃ t : State, exec .spiOutDataRead s = .next t ∧
        s.spiWords false late a (w :: l) = t.spiWords false late (spiNext a) l) ∧
      (a ≠ 6 → s.spiWords false late a (w :: l) =
        ({ s with spi.miso := s.spiReg a } : State).spiWords false late (spiNext a) l)) ∧
    (s.spi.inPart = [] → exec .spiCsRise s = .next { s with spi.inDrop := false }) ∧
    (s.spi.inPart = [] ∨ s.past10ms s.spi.inAt = false → exec .spiInTimeout s = .next s) ∧
    (s.spi.inPart ≠ [] → exec .spiCsRise s = .next { s with
        spi.inPart := [], spi.inErrors := bump 0xFFFF s.spi.inErrors, spi.irqStatus := setBit s.spi.irqStatus 6 true
        spi.inDrop := false } ∧
      (s.past10ms s.spi.inAt = true → exec .spiInTimeout s = .next { s with
        spi.inPart := [], spi.inErrors := bump 0xFFFF s.spi.inErrors, spi.irqStatus := setBit s.spi.irqStatus 6 true }))) ∧
    (s.portsOn = false → (∀ w late, exec (.spiInDataWrite w late) s = .next s) ∧ exec .spiOutDataRead s = .next s ∧
      (∀ w, exec (.spiIrqStatusWrite w) s = .next s) ∧ (∀ a w, exec (.spiRegisterWrite a w) s = .next s) ∧
      exec .spiCsRise s = .next s ∧ exec .spiInTimeout s = .next s)

/-- After reset the front-end, CFE, pan, sluice, governor, scheduler, estimator, sweep, table, balancing, converter,
phase, law, ring, lane, safety, power and CAN words and the SPI registers read as the Reset columns of their tables
give them, every channel is invalid with both invalid codes, no cause is held, and nothing waits in the queue.
(02_cell_taps_and_front_ends.md, 03_current_front_end.md, 04_pan_array.md, 05_frame_budget_scheduler.md,
09_balancing.md, 10_hardware_protection.md, 11_string_converter.md, 13_ceyth_ring.md, 14_lanes_and_failover.md,
15_safety_block.md, 16_power_states.md, 19_can_fd_and_spi.md) -/
def Obligations.ResetRegisters : Prop :=
  let s := State.reset
  (∀ f ∈ s.fe, feWord f = 0) ∧ s.cfeWord = 0x4000 ∧ (∀ p ∈ s.pan, s.panWord p = 0xFE200000) ∧ s.sluiceWord = 8 ∧
  (∀ c ∈ s.chan, c.status = 0x8000 ∧ c.s24 = 0x800000 ∧ c.u16 = 0xFFFF) ∧
  s.govWord = 0 ∧ s.feCapWord = 0 ∧ s.schedWord = 0 ∧ (∀ e ∈ s.est, s.estFlags e = 0x8000) ∧ s.sweepWord = 0 ∧
  s.tableWord = 0 ∧ s.balWord = 0x3F80000 ∧ (∀ c ∈ s.bal.cells, balCellWord c = 0x1C00) ∧ s.convWord = 0 ∧
  s.convFaultWord = 0 ∧ (∀ p ∈ s.phase, phaseWord p = 0x800200) ∧ s.lawWord = 0 ∧ s.ringWord = 0 ∧ s.ringCountWord = 0 ∧
  s.laneWord = 0 ∧ s.laneCountWord = 0 ∧ safeWord s.safe = 0x800000 ∧ powerWord s.power = 0xE000 ∧
  (∀ c ∈ s.can, canWord c = 0xC000 ∧ canCountWord c = 0) ∧
  s.spiReg 0 = 0x00965A01 ∧ s.spiReg 1 = 1 ∧ s.spiReg 2 = 4 ∧ s.spiReg 3 = 0x2000 ∧
  (∀ a, 5 ≤ a → a ≤ 8 → s.spiReg a = 0) ∧ s.prot.cause = 0 ∧ s.Shaped ∧ s.pending = []
end

