-- ==== Sys2Proof/Laws/Frame.lean ====
section
/-!
SUPPORT. What each operation leaves unchanged.
-/

namespace Sys2Proof.Machine

set_option linter.unusedSimpArgs false
set_option linter.unreachableTactic false
set_option linter.unusedTactic false
set_option linter.unusedVariables false

/-- `s` with the parts whose bit is set in `m` blanked. -/
def State.hide (m : Nat) (s : State) : State :=
  { grid := if m.testBit 0 then { ({} : Grid) with mode := if m.testBit 37 then ({} : Grid).mode else s.grid.mode } else s.grid
    fe := if m.testBit 1 then [] else s.fe
    chan := if m.testBit 2 then [] else s.chan
    tap := if m.testBit 3 then [] else s.tap
    ow := if m.testBit 4 then {} else s.ow
    cfe := if m.testBit 5 then {} else s.cfe
    branch := if m.testBit 6 then [] else s.branch
    pan := if m.testBit 7 then [] else s.pan
    slot := if m.testBit 8 then [] else s.slot
    sluice := if m.testBit 9 then {} else s.sluice
    nvm := if m.testBit 10 then {} else s.nvm
    sched := if m.testBit 11 then { ({} : Sched) with windowOpen := if m.testBit 45 then ({} : Sched).windowOpen else s.sched.windowOpen } else s.sched
    gov := if m.testBit 12 then {} else s.gov
    est := if m.testBit 13 then [] else s.est
    estMod := if m.testBit 14 then {} else s.estMod
    str := if m.testBit 15 then {} else s.str
    eis := if m.testBit 16 then {} else s.eis
    thermo := if m.testBit 17 then [] else s.thermo
    ntc := if m.testBit 18 then {} else s.ntc
    tbl := if m.testBit 19 then {} else s.tbl
    bal := if m.testBit 20 then {} else s.bal
    prot := if m.testBit 21 then {} else s.prot
    phase := if m.testBit 22 then [] else s.phase
    conv := if m.testBit 23 then { ({} : Conv) with st := if m.testBit 41 then ({} : Conv).st else s.conv.st, gatesOn := if m.testBit 47 then ({} : Conv).gatesOn else s.conv.gatesOn } else s.conv
    law := if m.testBit 24 then { ({} : Law) with newMode := if m.testBit 46 then ({} : Law).newMode else s.law.newMode } else s.law
    ring := if m.testBit 25 then {} else s.ring
    lane := if m.testBit 26 then [] else s.lane
    lanes := if m.testBit 27 then { ({} : Lanes) with valid := if m.testBit 48 then ({} : Lanes).valid else s.lanes.valid, holder := if m.testBit 49 then ({} : Lanes).holder else s.lanes.holder } else s.lanes
    safe := if m.testBit 28 then { ({} : Safe) with st := if m.testBit 42 then ({} : Safe).st else s.safe.st, gateKill := if m.testBit 43 then ({} : Safe).gateKill else s.safe.gateKill, safeOk := if m.testBit 44 then ({} : Safe).safeOk else s.safe.safeOk } else s.safe
    power := if m.testBit 29 then { ({} : Power) with st := if m.testBit 40 then ({} : Power).st else s.power.st } else s.power
    port := if m.testBit 30 then [] else s.port
    ploza := if m.testBit 31 then {} else s.ploza
    can := if m.testBit 32 then [] else s.can
    spi := if m.testBit 33 then {} else s.spi
    sec := if m.testBit 34 then { ({} : Sec) with keys := if m.testBit 38 then ({} : Sec).keys else s.sec.keys, tamper := if m.testBit 39 then ({} : Sec).tamper else s.sec.tamper } else s.sec
    free := if m.testBit 35 then {} else s.free
    ckpt := if m.testBit 36 then {} else s.ckpt
    pending := if m.testBit 37 then [] else s.pending }

/-- Every bit of `a` is a bit of `b`. -/
def Sub (a b : Nat) : Prop := Nat.land a b = a

theorem Sub.bit {a b i : Nat} (h : Sub a b) (hi : a.testBit i = true) : b.testBit i = true := by
  have h1 : (a &&& b).testBit i = a.testBit i := by rw [show a &&& b = a from h]
  rw [Nat.testBit_and, hi] at h1
  simpa using h1

theorem Sub.of {a b c : Nat} (h : Nat.land a b = a) (h' : Sub b c) : Sub a c := by
  apply Nat.eq_of_testBit_eq
  intro i
  have e : (a &&& b).testBit i = a.testBit i := by rw [show a &&& b = a from h]
  change (a &&& c).testBit i = a.testBit i
  rw [Nat.testBit_and] at e ⊢
  cases ha : a.testBit i <;> simp_all
  exact h'.bit e

theorem hide_ite (m : Nat) (c : Prop) [Decidable c] (a b : State) :
    State.hide m (if c then a else b) = if c then State.hide m a else State.hide m b := apply_ite _ _ _ _

theorem hide_foldl {α : Type} (m : Nat) (f : State → α → State) (l : List α) (s : State)
    (h : ∀ x a, State.hide m (f x a) = State.hide m x) : State.hide m (l.foldl f s) = State.hide m s := by
  induction l generalizing s with
  | nil => rfl
  | cons a l ih => rw [List.foldl_cons, ih, h]

theorem ans_ite (c : Prop) [Decidable c] (a b : Ans) : (if c then a else b).s = if c then a.s else b.s := apply_ite _ _ _ _
theorem fail_s (s : State) (st : Status) (p : List Byte) : (fail s st p).s = s := rfl
theorem refuse_s (s : State) (r : Nat) : (refuse s r).s = s := rfl
theorem okAns_s (s : State) (p : List Byte) (c : List Claim) : (okAns s p c).s = s := rfl
theorem out_ite (s : State) (c : Prop) [Decidable c] (a b : Host.Outcome State Fault Refusal) :
    outState s (if c then a else b) = if c then outState s a else outState s b := apply_ite _ _ _ _
theorem out_next (s t : State) : outState s (.next t) = t := rfl
theorem out_fault (s : State) (f : Fault) : outState s (.fault f) = s := rfl
theorem fst_ite {α : Type} (c : Prop) [Decidable c] (a b : State × α) :
    (if c then a else b).1 = if c then a.1 else b.1 := apply_ite _ _ _ _
theorem snd_ite {α : Type} (c : Prop) [Decidable c] (a b : α × State) :
    (if c then a else b).2 = if c then a.2 else b.2 := apply_ite _ _ _ _

theorem upd_0 (m : Nat) (hm : Sub 1 m) (x : State) (v0) (e37 : v0.mode = x.grid.mode) :
    State.hide m { x with grid := v0 } = State.hide m x := by
  simp only [State.hide, hm.bit (i := 0) rfl, e37, if_true]

theorem upd_30 (m : Nat) (hm : Sub 1073741824 m) (x : State) (v30) :
    State.hide m { x with port := v30 } = State.hide m x := by
  simp only [State.hide, hm.bit (i := 30) rfl, if_true]

theorem upd_11 (m : Nat) (hm : Sub 2048 m) (x : State) (v11) (e45 : v11.windowOpen = x.sched.windowOpen) :
    State.hide m { x with sched := v11 } = State.hide m x := by
  simp only [State.hide, hm.bit (i := 11) rfl, e45, if_true]

theorem upd_5 (m : Nat) (hm : Sub 32 m) (x : State) (v5) :
    State.hide m { x with cfe := v5 } = State.hide m x := by
  simp only [State.hide, hm.bit (i := 5) rfl, if_true]

theorem upd_15 (m : Nat) (hm : Sub 32768 m) (x : State) (v15) :
    State.hide m { x with str := v15 } = State.hide m x := by
  simp only [State.hide, hm.bit (i := 15) rfl, if_true]

theorem upd_23 (m : Nat) (hm : Sub 8388608 m) (x : State) (v23) (e41 : v23.st = x.conv.st) (e47 : v23.gatesOn = x.conv.gatesOn) :
    State.hide m { x with conv := v23 } = State.hide m x := by
  simp only [State.hide, hm.bit (i := 23) rfl, e41, e47, if_true]

theorem upd_25 (m : Nat) (hm : Sub 33554432 m) (x : State) (v25) :
    State.hide m { x with ring := v25 } = State.hide m x := by
  simp only [State.hide, hm.bit (i := 25) rfl, if_true]

theorem upd_26_27_48 (m : Nat) (hm : Sub 281475178037248 m) (x : State) (v26 v27) (e49 : v27.holder = x.lanes.holder) :
    State.hide m { x with lane := v26, lanes := v27 } = State.hide m x := by
  simp only [State.hide, hm.bit (i := 26) rfl, hm.bit (i := 27) rfl, hm.bit (i := 48) rfl, e49, if_true]

theorem upd_12 (m : Nat) (hm : Sub 4096 m) (x : State) (v12) :
    State.hide m { x with gov := v12 } = State.hide m x := by
  simp only [State.hide, hm.bit (i := 12) rfl, if_true]

theorem upd_16 (m : Nat) (hm : Sub 65536 m) (x : State) (v16) :
    State.hide m { x with eis := v16 } = State.hide m x := by
  simp only [State.hide, hm.bit (i := 16) rfl, if_true]

theorem upd_35 (m : Nat) (hm : Sub 34359738368 m) (x : State) (v35) :
    State.hide m { x with free := v35 } = State.hide m x := by
  simp only [State.hide, hm.bit (i := 35) rfl, if_true]

theorem upd_7 (m : Nat) (hm : Sub 128 m) (x : State) (v7) :
    State.hide m { x with pan := v7 } = State.hide m x := by
  simp only [State.hide, hm.bit (i := 7) rfl, if_true]

theorem upd_19_26 (m : Nat) (hm : Sub 67633152 m) (x : State) (v19 v26) :
    State.hide m { x with tbl := v19, lane := v26 } = State.hide m x := by
  simp only [State.hide, hm.bit (i := 19) rfl, hm.bit (i := 26) rfl, if_true]

theorem upd_19 (m : Nat) (hm : Sub 524288 m) (x : State) (v19) :
    State.hide m { x with tbl := v19 } = State.hide m x := by
  simp only [State.hide, hm.bit (i := 19) rfl, if_true]

theorem upd_24 (m : Nat) (hm : Sub 16777216 m) (x : State) (v24) (e46 : v24.newMode = x.law.newMode) :
    State.hide m { x with law := v24 } = State.hide m x := by
  simp only [State.hide, hm.bit (i := 24) rfl, e46, if_true]

theorem upd_21 (m : Nat) (hm : Sub 2097152 m) (x : State) (v21) :
    State.hide m { x with prot := v21 } = State.hide m x := by
  simp only [State.hide, hm.bit (i := 21) rfl, if_true]

theorem upd_2 (m : Nat) (hm : Sub 4 m) (x : State) (v2) :
    State.hide m { x with chan := v2 } = State.hide m x := by
  simp only [State.hide, hm.bit (i := 2) rfl, if_true]

theorem upd_6 (m : Nat) (hm : Sub 64 m) (x : State) (v6) :
    State.hide m { x with branch := v6 } = State.hide m x := by
  simp only [State.hide, hm.bit (i := 6) rfl, if_true]

theorem upd_31 (m : Nat) (hm : Sub 2147483648 m) (x : State) (v31) :
    State.hide m { x with ploza := v31 } = State.hide m x := by
  simp only [State.hide, hm.bit (i := 31) rfl, if_true]

theorem upd_14 (m : Nat) (hm : Sub 16384 m) (x : State) (v14) :
    State.hide m { x with estMod := v14 } = State.hide m x := by
  simp only [State.hide, hm.bit (i := 14) rfl, if_true]

theorem upd_29 (m : Nat) (hm : Sub 536870912 m) (x : State) (v29) (e40 : v29.st = x.power.st) :
    State.hide m { x with power := v29 } = State.hide m x := by
  simp only [State.hide, hm.bit (i := 29) rfl, e40, if_true]

theorem upd_27 (m : Nat) (hm : Sub 134217728 m) (x : State) (v27) (e48 : v27.valid = x.lanes.valid) (e49 : v27.holder = x.lanes.holder) :
    State.hide m { x with lanes := v27 } = State.hide m x := by
  simp only [State.hide, hm.bit (i := 27) rfl, e48, e49, if_true]

theorem upd_28 (m : Nat) (hm : Sub 268435456 m) (x : State) (v28) (e42 : v28.st = x.safe.st) (e43 : v28.gateKill = x.safe.gateKill) (e44 : v28.safeOk = x.safe.safeOk) :
    State.hide m { x with safe := v28 } = State.hide m x := by
  simp only [State.hide, hm.bit (i := 28) rfl, e42, e43, e44, if_true]

theorem upd_28_42_43_44 (m : Nat) (hm : Sub 30786594013184 m) (x : State) (v28) :
    State.hide m { x with safe := v28 } = State.hide m x := by
  simp only [State.hide, hm.bit (i := 28) rfl, hm.bit (i := 42) rfl, hm.bit (i := 43) rfl, hm.bit (i := 44) rfl, if_true]

theorem upd_0_27_30_34 (m : Nat) (hm : Sub 18387828737 m) (x : State) (v0 v27 v30 v34) (e37 : v0.mode = x.grid.mode) (e38 : v34.keys = x.sec.keys) (e39 : v34.tamper = x.sec.tamper) (e48 : v27.valid = x.lanes.valid) (e49 : v27.holder = x.lanes.holder) :
    State.hide m { x with grid := v0, lanes := v27, port := v30, sec := v34 } = State.hide m x := by
  simp only [State.hide, hm.bit (i := 0) rfl, hm.bit (i := 27) rfl, hm.bit (i := 30) rfl, hm.bit (i := 34) rfl, e37, e38, e39, e48, e49, if_true]

theorem upd_0_27_29_30_34 (m : Nat) (hm : Sub 18924699649 m) (x : State) (v0 v27 v29 v30 v34) (e37 : v0.mode = x.grid.mode) (e38 : v34.keys = x.sec.keys) (e39 : v34.tamper = x.sec.tamper) (e40 : v29.st = x.power.st) (e48 : v27.valid = x.lanes.valid) (e49 : v27.holder = x.lanes.holder) :
    State.hide m { x with grid := v0, lanes := v27, power := v29, port := v30, sec := v34 } = State.hide m x := by
  simp only [State.hide, hm.bit (i := 0) rfl, hm.bit (i := 27) rfl, hm.bit (i := 29) rfl, hm.bit (i := 30) rfl, hm.bit (i := 34) rfl, e37, e38, e39, e40, e48, e49, if_true]

theorem upd_32 (m : Nat) (hm : Sub 4294967296 m) (x : State) (v32) :
    State.hide m { x with can := v32 } = State.hide m x := by
  simp only [State.hide, hm.bit (i := 32) rfl, if_true]

theorem upd_1_20 (m : Nat) (hm : Sub 1048578 m) (x : State) (v1 v20) :
    State.hide m { x with fe := v1, bal := v20 } = State.hide m x := by
  simp only [State.hide, hm.bit (i := 1) rfl, hm.bit (i := 20) rfl, if_true]

theorem upd_25_27_31_32_33_34 (m : Nat) (hm : Sub 32380026880 m) (x : State) (v25 v27 v31 v32 v33 v34) (e38 : v34.keys = x.sec.keys) (e39 : v34.tamper = x.sec.tamper) (e48 : v27.valid = x.lanes.valid) (e49 : v27.holder = x.lanes.holder) :
    State.hide m { x with ring := v25, lanes := v27, ploza := v31, can := v32, spi := v33, sec := v34 } = State.hide m x := by
  simp only [State.hide, hm.bit (i := 25) rfl, hm.bit (i := 27) rfl, hm.bit (i := 31) rfl, hm.bit (i := 32) rfl, hm.bit (i := 33) rfl, hm.bit (i := 34) rfl, e38, e39, e48, e49, if_true]

theorem upd_17 (m : Nat) (hm : Sub 131072 m) (x : State) (v17) :
    State.hide m { x with thermo := v17 } = State.hide m x := by
  simp only [State.hide, hm.bit (i := 17) rfl, if_true]

theorem upd_5_23 (m : Nat) (hm : Sub 8388640 m) (x : State) (v5 v23) (e41 : v23.st = x.conv.st) (e47 : v23.gatesOn = x.conv.gatesOn) :
    State.hide m { x with cfe := v5, conv := v23 } = State.hide m x := by
  simp only [State.hide, hm.bit (i := 5) rfl, hm.bit (i := 23) rfl, e41, e47, if_true]

theorem upd_20 (m : Nat) (hm : Sub 1048576 m) (x : State) (v20) :
    State.hide m { x with bal := v20 } = State.hide m x := by
  simp only [State.hide, hm.bit (i := 20) rfl, if_true]

theorem upd_13 (m : Nat) (hm : Sub 8192 m) (x : State) (v13) :
    State.hide m { x with est := v13 } = State.hide m x := by
  simp only [State.hide, hm.bit (i := 13) rfl, if_true]

theorem upd_37 (m : Nat) (hm : Sub 137438953472 m) (x : State) (v37) :
    State.hide m { x with pending := v37 } = State.hide m x := by
  simp only [State.hide, hm.bit (i := 37) rfl, if_true]

theorem upd_0_21_22_23 (m : Nat) (hm : Sub 14680065 m) (x : State) (v0 v21 v22 v23) (e37 : v0.mode = x.grid.mode) (e41 : v23.st = x.conv.st) (e47 : v23.gatesOn = x.conv.gatesOn) :
    State.hide m { x with grid := v0, prot := v21, phase := v22, conv := v23 } = State.hide m x := by
  simp only [State.hide, hm.bit (i := 0) rfl, hm.bit (i := 21) rfl, hm.bit (i := 22) rfl, hm.bit (i := 23) rfl, e37, e41, e47, if_true]

theorem upd_26 (m : Nat) (hm : Sub 67108864 m) (x : State) (v26) :
    State.hide m { x with lane := v26 } = State.hide m x := by
  simp only [State.hide, hm.bit (i := 26) rfl, if_true]

theorem upd_27_48_49 (m : Nat) (hm : Sub 844425064349696 m) (x : State) (v27) :
    State.hide m { x with lanes := v27 } = State.hide m x := by
  simp only [State.hide, hm.bit (i := 27) rfl, hm.bit (i := 48) rfl, hm.bit (i := 49) rfl, if_true]

theorem upd_8 (m : Nat) (hm : Sub 256 m) (x : State) (v8) :
    State.hide m { x with slot := v8 } = State.hide m x := by
  simp only [State.hide, hm.bit (i := 8) rfl, if_true]

theorem upd_36 (m : Nat) (hm : Sub 68719476736 m) (x : State) (v36) :
    State.hide m { x with ckpt := v36 } = State.hide m x := by
  simp only [State.hide, hm.bit (i := 36) rfl, if_true]

theorem upd_22 (m : Nat) (hm : Sub 4194304 m) (x : State) (v22) :
    State.hide m { x with phase := v22 } = State.hide m x := by
  simp only [State.hide, hm.bit (i := 22) rfl, if_true]

theorem upd_7_8 (m : Nat) (hm : Sub 384 m) (x : State) (v7 v8) :
    State.hide m { x with pan := v7, slot := v8 } = State.hide m x := by
  simp only [State.hide, hm.bit (i := 7) rfl, hm.bit (i := 8) rfl, if_true]

theorem upd_9 (m : Nat) (hm : Sub 512 m) (x : State) (v9) :
    State.hide m { x with sluice := v9 } = State.hide m x := by
  simp only [State.hide, hm.bit (i := 9) rfl, if_true]

theorem upd_7_8_9 (m : Nat) (hm : Sub 896 m) (x : State) (v7 v8 v9) :
    State.hide m { x with pan := v7, slot := v8, sluice := v9 } = State.hide m x := by
  simp only [State.hide, hm.bit (i := 7) rfl, hm.bit (i := 8) rfl, hm.bit (i := 9) rfl, if_true]

theorem upd_33 (m : Nat) (hm : Sub 8589934592 m) (x : State) (v33) :
    State.hide m { x with spi := v33 } = State.hide m x := by
  simp only [State.hide, hm.bit (i := 33) rfl, if_true]

theorem upd_1 (m : Nat) (hm : Sub 2 m) (x : State) (v1) :
    State.hide m { x with fe := v1 } = State.hide m x := by
  simp only [State.hide, hm.bit (i := 1) rfl, if_true]

theorem upd_1_5_11 (m : Nat) (hm : Sub 2082 m) (x : State) (v1 v5 v11) (e45 : v11.windowOpen = x.sched.windowOpen) :
    State.hide m { x with fe := v1, cfe := v5, sched := v11 } = State.hide m x := by
  simp only [State.hide, hm.bit (i := 1) rfl, hm.bit (i := 5) rfl, hm.bit (i := 11) rfl, e45, if_true]

theorem upd_11_45 (m : Nat) (hm : Sub 35184372090880 m) (x : State) (v11) :
    State.hide m { x with sched := v11 } = State.hide m x := by
  simp only [State.hide, hm.bit (i := 11) rfl, hm.bit (i := 45) rfl, if_true]

theorem upd_1_5_11_45 (m : Nat) (hm : Sub 35184372090914 m) (x : State) (v1 v5 v11) :
    State.hide m { x with fe := v1, cfe := v5, sched := v11 } = State.hide m x := by
  simp only [State.hide, hm.bit (i := 1) rfl, hm.bit (i := 5) rfl, hm.bit (i := 11) rfl, hm.bit (i := 45) rfl, if_true]

theorem upd_34 (m : Nat) (hm : Sub 17179869184 m) (x : State) (v34) (e38 : v34.keys = x.sec.keys) (e39 : v34.tamper = x.sec.tamper) :
    State.hide m { x with sec := v34 } = State.hide m x := by
  simp only [State.hide, hm.bit (i := 34) rfl, e38, e39, if_true]

theorem upd_23_24 (m : Nat) (hm : Sub 25165824 m) (x : State) (v23 v24) (e41 : v23.st = x.conv.st) (e46 : v24.newMode = x.law.newMode) (e47 : v23.gatesOn = x.conv.gatesOn) :
    State.hide m { x with conv := v23, law := v24 } = State.hide m x := by
  simp only [State.hide, hm.bit (i := 23) rfl, hm.bit (i := 24) rfl, e41, e46, e47, if_true]

theorem upd_23_24_47 (m : Nat) (hm : Sub 140737513521152 m) (x : State) (v23 v24) (e41 : v23.st = x.conv.st) (e46 : v24.newMode = x.law.newMode) :
    State.hide m { x with conv := v23, law := v24 } = State.hide m x := by
  simp only [State.hide, hm.bit (i := 23) rfl, hm.bit (i := 24) rfl, hm.bit (i := 47) rfl, e41, e46, if_true]

theorem upd_0_28 (m : Nat) (hm : Sub 268435457 m) (x : State) (v0 v28) (e37 : v0.mode = x.grid.mode) (e42 : v28.st = x.safe.st) (e43 : v28.gateKill = x.safe.gateKill) (e44 : v28.safeOk = x.safe.safeOk) :
    State.hide m { x with grid := v0, safe := v28 } = State.hide m x := by
  simp only [State.hide, hm.bit (i := 0) rfl, hm.bit (i := 28) rfl, e37, e42, e43, e44, if_true]

theorem upd_12_16 (m : Nat) (hm : Sub 69632 m) (x : State) (v12 v16) :
    State.hide m { x with gov := v12, eis := v16 } = State.hide m x := by
  simp only [State.hide, hm.bit (i := 12) rfl, hm.bit (i := 16) rfl, if_true]

theorem upd_13_14 (m : Nat) (hm : Sub 24576 m) (x : State) (v13 v14) :
    State.hide m { x with est := v13, estMod := v14 } = State.hide m x := by
  simp only [State.hide, hm.bit (i := 13) rfl, hm.bit (i := 14) rfl, if_true]

theorem upd_10 (m : Nat) (hm : Sub 1024 m) (x : State) (v10) :
    State.hide m { x with nvm := v10 } = State.hide m x := by
  simp only [State.hide, hm.bit (i := 10) rfl, if_true]

theorem upd_7_8_9_36 (m : Nat) (hm : Sub 68719477632 m) (x : State) (v7 v8 v9 v36) :
    State.hide m { x with pan := v7, slot := v8, sluice := v9, ckpt := v36 } = State.hide m x := by
  simp only [State.hide, hm.bit (i := 7) rfl, hm.bit (i := 8) rfl, hm.bit (i := 9) rfl, hm.bit (i := 36) rfl, if_true]

theorem upd_27_48 (m : Nat) (hm : Sub 281475110928384 m) (x : State) (v27) (e49 : v27.holder = x.lanes.holder) :
    State.hide m { x with lanes := v27 } = State.hide m x := by
  simp only [State.hide, hm.bit (i := 27) rfl, hm.bit (i := 48) rfl, e49, if_true]

theorem upd_0_16_19_20_25_27_30_31_34_37 (m : Nat) (hm : Sub 158009458689 m) (x : State) (v0 v16 v19 v20 v25 v27 v30 v31 v34) (e38 : v34.keys = x.sec.keys) (e39 : v34.tamper = x.sec.tamper) (e48 : v27.valid = x.lanes.valid) (e49 : v27.holder = x.lanes.holder) :
    State.hide m { x with grid := v0, eis := v16, tbl := v19, bal := v20, ring := v25, lanes := v27, port := v30, ploza := v31, sec := v34 } = State.hide m x := by
  simp only [State.hide, hm.bit (i := 0) rfl, hm.bit (i := 16) rfl, hm.bit (i := 19) rfl, hm.bit (i := 20) rfl, hm.bit (i := 25) rfl, hm.bit (i := 27) rfl, hm.bit (i := 30) rfl, hm.bit (i := 31) rfl, hm.bit (i := 34) rfl, hm.bit (i := 37) rfl, e38, e39, e48, e49, if_true]

theorem upd_0_1_5 (m : Nat) (hm : Sub 35 m) (x : State) (v0 v1 v5) (e37 : v0.mode = x.grid.mode) :
    State.hide m { x with grid := v0, fe := v1, cfe := v5 } = State.hide m x := by
  simp only [State.hide, hm.bit (i := 0) rfl, hm.bit (i := 1) rfl, hm.bit (i := 5) rfl, e37, if_true]

theorem upd_19_31 (m : Nat) (hm : Sub 2148007936 m) (x : State) (v19 v31) :
    State.hide m { x with tbl := v19, ploza := v31 } = State.hide m x := by
  simp only [State.hide, hm.bit (i := 19) rfl, hm.bit (i := 31) rfl, if_true]

theorem upd_22_23_24_41 (m : Nat) (hm : Sub 2199052615680 m) (x : State) (v22 v23 v24) (e46 : v24.newMode = x.law.newMode) (e47 : v23.gatesOn = x.conv.gatesOn) :
    State.hide m { x with phase := v22, conv := v23, law := v24 } = State.hide m x := by
  simp only [State.hide, hm.bit (i := 22) rfl, hm.bit (i := 23) rfl, hm.bit (i := 24) rfl, hm.bit (i := 41) rfl, e46, e47, if_true]

theorem upd_3 (m : Nat) (hm : Sub 8 m) (x : State) (v3) :
    State.hide m { x with tap := v3 } = State.hide m x := by
  simp only [State.hide, hm.bit (i := 3) rfl, if_true]

theorem upd_1_4 (m : Nat) (hm : Sub 18 m) (x : State) (v1 v4) :
    State.hide m { x with fe := v1, ow := v4 } = State.hide m x := by
  simp only [State.hide, hm.bit (i := 1) rfl, hm.bit (i := 4) rfl, if_true]

theorem upd_0_31_37 (m : Nat) (hm : Sub 139586437121 m) (x : State) (v0 v31) :
    State.hide m { x with grid := v0, ploza := v31 } = State.hide m x := by
  simp only [State.hide, hm.bit (i := 0) rfl, hm.bit (i := 31) rfl, hm.bit (i := 37) rfl, if_true]

theorem upd_1_14_21_27 (m : Nat) (hm : Sub 136331266 m) (x : State) (v1 v14 v21 v27) (e48 : v27.valid = x.lanes.valid) (e49 : v27.holder = x.lanes.holder) :
    State.hide m { x with fe := v1, estMod := v14, prot := v21, lanes := v27 } = State.hide m x := by
  simp only [State.hide, hm.bit (i := 1) rfl, hm.bit (i := 14) rfl, hm.bit (i := 21) rfl, hm.bit (i := 27) rfl, e48, e49, if_true]

theorem upd_0_1_14_21_27_31_37 (m : Nat) (hm : Sub 139722768387 m) (x : State) (v0 v1 v14 v21 v27 v31) (e48 : v27.valid = x.lanes.valid) (e49 : v27.holder = x.lanes.holder) :
    State.hide m { x with grid := v0, fe := v1, estMod := v14, prot := v21, lanes := v27, ploza := v31 } = State.hide m x := by
  simp only [State.hide, hm.bit (i := 0) rfl, hm.bit (i := 1) rfl, hm.bit (i := 14) rfl, hm.bit (i := 21) rfl, hm.bit (i := 27) rfl, hm.bit (i := 31) rfl, hm.bit (i := 37) rfl, e48, e49, if_true]

theorem upd_14_15 (m : Nat) (hm : Sub 49152 m) (x : State) (v14 v15) :
    State.hide m { x with estMod := v14, str := v15 } = State.hide m x := by
  simp only [State.hide, hm.bit (i := 14) rfl, hm.bit (i := 15) rfl, if_true]

theorem upd_14_15_25 (m : Nat) (hm : Sub 33603584 m) (x : State) (v14 v15 v25) :
    State.hide m { x with estMod := v14, str := v15, ring := v25 } = State.hide m x := by
  simp only [State.hide, hm.bit (i := 14) rfl, hm.bit (i := 15) rfl, hm.bit (i := 25) rfl, if_true]

theorem upd_23_27 (m : Nat) (hm : Sub 142606336 m) (x : State) (v23 v27) (e41 : v23.st = x.conv.st) (e47 : v23.gatesOn = x.conv.gatesOn) (e48 : v27.valid = x.lanes.valid) (e49 : v27.holder = x.lanes.holder) :
    State.hide m { x with conv := v23, lanes := v27 } = State.hide m x := by
  simp only [State.hide, hm.bit (i := 23) rfl, hm.bit (i := 27) rfl, e41, e47, e48, e49, if_true]

theorem upd_2_3_4_5_6_14_15_16_17_20_22_24_36_46 (m : Nat) (hm : Sub 70437485920380 m) (x : State) (v2 v3 v4 v5 v6 v14 v15 v16 v17 v20 v22 v24 v36) :
    State.hide m { x with chan := v2, tap := v3, ow := v4, cfe := v5, branch := v6, estMod := v14, str := v15, eis := v16, thermo := v17, bal := v20, phase := v22, law := v24, ckpt := v36 } = State.hide m x := by
  simp only [State.hide, hm.bit (i := 2) rfl, hm.bit (i := 3) rfl, hm.bit (i := 4) rfl, hm.bit (i := 5) rfl, hm.bit (i := 6) rfl, hm.bit (i := 14) rfl, hm.bit (i := 15) rfl, hm.bit (i := 16) rfl, hm.bit (i := 17) rfl, hm.bit (i := 20) rfl, hm.bit (i := 22) rfl, hm.bit (i := 24) rfl, hm.bit (i := 36) rfl, hm.bit (i := 46) rfl, if_true]

theorem upd_25_29 (m : Nat) (hm : Sub 570425344 m) (x : State) (v25 v29) (e40 : v29.st = x.power.st) :
    State.hide m { x with ring := v25, power := v29 } = State.hide m x := by
  simp only [State.hide, hm.bit (i := 25) rfl, hm.bit (i := 29) rfl, e40, if_true]

theorem upd_16_17 (m : Nat) (hm : Sub 196608 m) (x : State) (v16 v17) :
    State.hide m { x with eis := v16, thermo := v17 } = State.hide m x := by
  simp only [State.hide, hm.bit (i := 16) rfl, hm.bit (i := 17) rfl, if_true]

theorem upd_3_4_20 (m : Nat) (hm : Sub 1048600 m) (x : State) (v3 v4 v20) :
    State.hide m { x with tap := v3, ow := v4, bal := v20 } = State.hide m x := by
  simp only [State.hide, hm.bit (i := 3) rfl, hm.bit (i := 4) rfl, hm.bit (i := 20) rfl, if_true]

theorem upd_24_46 (m : Nat) (hm : Sub 70368760954880 m) (x : State) (v24) :
    State.hide m { x with law := v24 } = State.hide m x := by
  simp only [State.hide, hm.bit (i := 24) rfl, hm.bit (i := 46) rfl, if_true]

theorem upd_3_4_5_14_15_16_17_20_22_24_46 (m : Nat) (hm : Sub 70368766443576 m) (x : State) (v3 v4 v5 v14 v15 v16 v17 v20 v22 v24) :
    State.hide m { x with tap := v3, ow := v4, cfe := v5, estMod := v14, str := v15, eis := v16, thermo := v17, bal := v20, phase := v22, law := v24 } = State.hide m x := by
  simp only [State.hide, hm.bit (i := 3) rfl, hm.bit (i := 4) rfl, hm.bit (i := 5) rfl, hm.bit (i := 14) rfl, hm.bit (i := 15) rfl, hm.bit (i := 16) rfl, hm.bit (i := 17) rfl, hm.bit (i := 20) rfl, hm.bit (i := 22) rfl, hm.bit (i := 24) rfl, hm.bit (i := 46) rfl, if_true]

theorem upd_27_28 (m : Nat) (hm : Sub 402653184 m) (x : State) (v27 v28) (e42 : v28.st = x.safe.st) (e43 : v28.gateKill = x.safe.gateKill) (e44 : v28.safeOk = x.safe.safeOk) (e48 : v27.valid = x.lanes.valid) (e49 : v27.holder = x.lanes.holder) :
    State.hide m { x with lanes := v27, safe := v28 } = State.hide m x := by
  simp only [State.hide, hm.bit (i := 27) rfl, hm.bit (i := 28) rfl, e42, e43, e44, e48, e49, if_true]

theorem upd_0_37 (m : Nat) (hm : Sub 137438953473 m) (x : State) (v0) :
    State.hide m { x with grid := v0 } = State.hide m x := by
  simp only [State.hide, hm.bit (i := 0) rfl, hm.bit (i := 37) rfl, if_true]

theorem upd_1_21 (m : Nat) (hm : Sub 2097154 m) (x : State) (v1 v21) :
    State.hide m { x with fe := v1, prot := v21 } = State.hide m x := by
  simp only [State.hide, hm.bit (i := 1) rfl, hm.bit (i := 21) rfl, if_true]

theorem upd_0_1_3_5_17_18_20_28_29 (m : Nat) (hm : Sub 806748203 m) (x : State) (v0 v1 v3 v5 v17 v18 v20 v28 v29) (e37 : v0.mode = x.grid.mode) (e40 : v29.st = x.power.st) (e42 : v28.st = x.safe.st) (e43 : v28.gateKill = x.safe.gateKill) (e44 : v28.safeOk = x.safe.safeOk) :
    State.hide m { x with grid := v0, fe := v1, tap := v3, cfe := v5, thermo := v17, ntc := v18, bal := v20, safe := v28, power := v29 } = State.hide m x := by
  simp only [State.hide, hm.bit (i := 0) rfl, hm.bit (i := 1) rfl, hm.bit (i := 3) rfl, hm.bit (i := 5) rfl, hm.bit (i := 17) rfl, hm.bit (i := 18) rfl, hm.bit (i := 20) rfl, hm.bit (i := 28) rfl, hm.bit (i := 29) rfl, e37, e40, e42, e43, e44, if_true]

theorem upd_23_47 (m : Nat) (hm : Sub 140737496743936 m) (x : State) (v23) (e41 : v23.st = x.conv.st) :
    State.hide m { x with conv := v23 } = State.hide m x := by
  simp only [State.hide, hm.bit (i := 23) rfl, hm.bit (i := 47) rfl, e41, if_true]

theorem upd_21_23 (m : Nat) (hm : Sub 10485760 m) (x : State) (v21 v23) (e41 : v23.st = x.conv.st) (e47 : v23.gatesOn = x.conv.gatesOn) :
    State.hide m { x with prot := v21, conv := v23 } = State.hide m x := by
  simp only [State.hide, hm.bit (i := 21) rfl, hm.bit (i := 23) rfl, e41, e47, if_true]

theorem upd_22_23 (m : Nat) (hm : Sub 12582912 m) (x : State) (v22 v23) (e41 : v23.st = x.conv.st) (e47 : v23.gatesOn = x.conv.gatesOn) :
    State.hide m { x with phase := v22, conv := v23 } = State.hide m x := by
  simp only [State.hide, hm.bit (i := 22) rfl, hm.bit (i := 23) rfl, e41, e47, if_true]

theorem upd_23_41 (m : Nat) (hm : Sub 2199031644160 m) (x : State) (v23) (e47 : v23.gatesOn = x.conv.gatesOn) :
    State.hide m { x with conv := v23 } = State.hide m x := by
  simp only [State.hide, hm.bit (i := 23) rfl, hm.bit (i := 41) rfl, e47, if_true]

theorem upd_1_2_5_11 (m : Nat) (hm : Sub 2086 m) (x : State) (v1 v2 v5 v11) (e45 : v11.windowOpen = x.sched.windowOpen) :
    State.hide m { x with fe := v1, chan := v2, cfe := v5, sched := v11 } = State.hide m x := by
  simp only [State.hide, hm.bit (i := 1) rfl, hm.bit (i := 2) rfl, hm.bit (i := 5) rfl, hm.bit (i := 11) rfl, e45, if_true]

theorem upd_0_1_10_11_12_19_23_25_30_31_32_33_34_37_45 (m : Nat) (hm : Sub 35355139513347 m) (x : State) (v0 v1 v10 v11 v12 v19 v23 v25 v30 v31 v32 v33 v34) (e38 : v34.keys = x.sec.keys) (e39 : v34.tamper = x.sec.tamper) (e41 : v23.st = x.conv.st) (e47 : v23.gatesOn = x.conv.gatesOn) :
    State.hide m { x with grid := v0, fe := v1, nvm := v10, sched := v11, gov := v12, tbl := v19, conv := v23, ring := v25, port := v30, ploza := v31, can := v32, spi := v33, sec := v34 } = State.hide m x := by
  simp only [State.hide, hm.bit (i := 0) rfl, hm.bit (i := 1) rfl, hm.bit (i := 10) rfl, hm.bit (i := 11) rfl, hm.bit (i := 12) rfl, hm.bit (i := 19) rfl, hm.bit (i := 23) rfl, hm.bit (i := 25) rfl, hm.bit (i := 30) rfl, hm.bit (i := 31) rfl, hm.bit (i := 32) rfl, hm.bit (i := 33) rfl, hm.bit (i := 34) rfl, hm.bit (i := 37) rfl, hm.bit (i := 45) rfl, e38, e39, e41, e47, if_true]

theorem upd_29_40 (m : Nat) (hm : Sub 1100048498688 m) (x : State) (v29) :
    State.hide m { x with power := v29 } = State.hide m x := by
  simp only [State.hide, hm.bit (i := 29) rfl, hm.bit (i := 40) rfl, if_true]

theorem upd_27_29 (m : Nat) (hm : Sub 671088640 m) (x : State) (v27 v29) (e40 : v29.st = x.power.st) (e48 : v27.valid = x.lanes.valid) (e49 : v27.holder = x.lanes.holder) :
    State.hide m { x with lanes := v27, power := v29 } = State.hide m x := by
  simp only [State.hide, hm.bit (i := 27) rfl, hm.bit (i := 29) rfl, e40, e48, e49, if_true]

theorem upd_5_21 (m : Nat) (hm : Sub 2097184 m) (x : State) (v5 v21) :
    State.hide m { x with cfe := v5, prot := v21 } = State.hide m x := by
  simp only [State.hide, hm.bit (i := 5) rfl, hm.bit (i := 21) rfl, if_true]

theorem upd_0_28_42_43_44 (m : Nat) (hm : Sub 30786594013185 m) (x : State) (v0 v28) (e37 : v0.mode = x.grid.mode) :
    State.hide m { x with grid := v0, safe := v28 } = State.hide m x := by
  simp only [State.hide, hm.bit (i := 0) rfl, hm.bit (i := 28) rfl, hm.bit (i := 42) rfl, hm.bit (i := 43) rfl, hm.bit (i := 44) rfl, e37, if_true]

theorem upd_0_14 (m : Nat) (hm : Sub 16385 m) (x : State) (v0 v14) (e37 : v0.mode = x.grid.mode) :
    State.hide m { x with grid := v0, estMod := v14 } = State.hide m x := by
  simp only [State.hide, hm.bit (i := 0) rfl, hm.bit (i := 14) rfl, e37, if_true]

theorem upd_34_38_39 (m : Nat) (hm : Sub 841813590016 m) (x : State) (v34) :
    State.hide m { x with sec := v34 } = State.hide m x := by
  simp only [State.hide, hm.bit (i := 34) rfl, hm.bit (i := 38) rfl, hm.bit (i := 39) rfl, if_true]

theorem upd_12_24_27 (m : Nat) (hm : Sub 150999040 m) (x : State) (v12 v24 v27) (e46 : v24.newMode = x.law.newMode) (e48 : v27.valid = x.lanes.valid) (e49 : v27.holder = x.lanes.holder) :
    State.hide m { x with gov := v12, law := v24, lanes := v27 } = State.hide m x := by
  simp only [State.hide, hm.bit (i := 12) rfl, hm.bit (i := 24) rfl, hm.bit (i := 27) rfl, e46, e48, e49, if_true]

theorem upd_5_13 (m : Nat) (hm : Sub 8224 m) (x : State) (v5 v13) :
    State.hide m { x with cfe := v5, est := v13 } = State.hide m x := by
  simp only [State.hide, hm.bit (i := 5) rfl, hm.bit (i := 13) rfl, if_true]

theorem upd_28_42_43 (m : Nat) (hm : Sub 13194407968768 m) (x : State) (v28) (e44 : v28.safeOk = x.safe.safeOk) :
    State.hide m { x with safe := v28 } = State.hide m x := by
  simp only [State.hide, hm.bit (i := 28) rfl, hm.bit (i := 42) rfl, hm.bit (i := 43) rfl, e44, if_true]

theorem upd_26_29 (m : Nat) (hm : Sub 603979776 m) (x : State) (v26 v29) (e40 : v29.st = x.power.st) :
    State.hide m { x with lane := v26, power := v29 } = State.hide m x := by
  simp only [State.hide, hm.bit (i := 26) rfl, hm.bit (i := 29) rfl, e40, if_true]

theorem upd_26_27_29 (m : Nat) (hm : Sub 738197504 m) (x : State) (v26 v27 v29) (e40 : v29.st = x.power.st) (e48 : v27.valid = x.lanes.valid) (e49 : v27.holder = x.lanes.holder) :
    State.hide m { x with lane := v26, lanes := v27, power := v29 } = State.hide m x := by
  simp only [State.hide, hm.bit (i := 26) rfl, hm.bit (i := 27) rfl, hm.bit (i := 29) rfl, e40, e48, e49, if_true]

theorem upd_15_25 (m : Nat) (hm : Sub 33587200 m) (x : State) (v15 v25) :
    State.hide m { x with str := v15, ring := v25 } = State.hide m x := by
  simp only [State.hide, hm.bit (i := 15) rfl, hm.bit (i := 25) rfl, if_true]

theorem upd_8_9 (m : Nat) (hm : Sub 768 m) (x : State) (v8 v9) :
    State.hide m { x with slot := v8, sluice := v9 } = State.hide m x := by
  simp only [State.hide, hm.bit (i := 8) rfl, hm.bit (i := 9) rfl, if_true]

theorem upd_0_29 (m : Nat) (hm : Sub 536870913 m) (x : State) (v0 v29) (e37 : v0.mode = x.grid.mode) (e40 : v29.st = x.power.st) :
    State.hide m { x with grid := v0, power := v29 } = State.hide m x := by
  simp only [State.hide, hm.bit (i := 0) rfl, hm.bit (i := 29) rfl, e37, e40, if_true]

theorem upd_27_29_40 (m : Nat) (hm : Sub 1100182716416 m) (x : State) (v27 v29) (e48 : v27.valid = x.lanes.valid) (e49 : v27.holder = x.lanes.holder) :
    State.hide m { x with lanes := v27, power := v29 } = State.hide m x := by
  simp only [State.hide, hm.bit (i := 27) rfl, hm.bit (i := 29) rfl, hm.bit (i := 40) rfl, e48, e49, if_true]

theorem upd_0_25_27_29_40 (m : Nat) (hm : Sub 1100216270849 m) (x : State) (v0 v25 v27 v29) (e37 : v0.mode = x.grid.mode) (e48 : v27.valid = x.lanes.valid) (e49 : v27.holder = x.lanes.holder) :
    State.hide m { x with grid := v0, ring := v25, lanes := v27, power := v29 } = State.hide m x := by
  simp only [State.hide, hm.bit (i := 0) rfl, hm.bit (i := 25) rfl, hm.bit (i := 27) rfl, hm.bit (i := 29) rfl, hm.bit (i := 40) rfl, e37, e48, e49, if_true]

theorem upd_1_5_27_29_34 (m : Nat) (hm : Sub 17850957858 m) (x : State) (v1 v5 v27 v29 v34) (e38 : v34.keys = x.sec.keys) (e39 : v34.tamper = x.sec.tamper) (e40 : v29.st = x.power.st) (e48 : v27.valid = x.lanes.valid) (e49 : v27.holder = x.lanes.holder) :
    State.hide m { x with fe := v1, cfe := v5, lanes := v27, power := v29, sec := v34 } = State.hide m x := by
  simp only [State.hide, hm.bit (i := 1) rfl, hm.bit (i := 5) rfl, hm.bit (i := 27) rfl, hm.bit (i := 29) rfl, hm.bit (i := 34) rfl, e38, e39, e40, e48, e49, if_true]

theorem upd_26_27 (m : Nat) (hm : Sub 201326592 m) (x : State) (v26 v27) (e48 : v27.valid = x.lanes.valid) (e49 : v27.holder = x.lanes.holder) :
    State.hide m { x with lane := v26, lanes := v27 } = State.hide m x := by
  simp only [State.hide, hm.bit (i := 26) rfl, hm.bit (i := 27) rfl, e48, e49, if_true]

theorem upd_0_28_37 (m : Nat) (hm : Sub 137707388929 m) (x : State) (v0 v28) (e42 : v28.st = x.safe.st) (e43 : v28.gateKill = x.safe.gateKill) (e44 : v28.safeOk = x.safe.safeOk) :
    State.hide m { x with grid := v0, safe := v28 } = State.hide m x := by
  simp only [State.hide, hm.bit (i := 0) rfl, hm.bit (i := 28) rfl, hm.bit (i := 37) rfl, e42, e43, e44, if_true]

theorem upd_16_20_23 (m : Nat) (hm : Sub 9502720 m) (x : State) (v16 v20 v23) (e41 : v23.st = x.conv.st) (e47 : v23.gatesOn = x.conv.gatesOn) :
    State.hide m { x with eis := v16, bal := v20, conv := v23 } = State.hide m x := by
  simp only [State.hide, hm.bit (i := 16) rfl, hm.bit (i := 20) rfl, hm.bit (i := 23) rfl, e41, e47, if_true]

theorem upd_0_31 (m : Nat) (hm : Sub 2147483649 m) (x : State) (v0 v31) (e37 : v0.mode = x.grid.mode) :
    State.hide m { x with grid := v0, ploza := v31 } = State.hide m x := by
  simp only [State.hide, hm.bit (i := 0) rfl, hm.bit (i := 31) rfl, e37, if_true]

theorem upd_27_49 (m : Nat) (hm : Sub 562950087639040 m) (x : State) (v27) (e48 : v27.valid = x.lanes.valid) :
    State.hide m { x with lanes := v27 } = State.hide m x := by
  simp only [State.hide, hm.bit (i := 27) rfl, hm.bit (i := 49) rfl, e48, if_true]

theorem upd_7_9 (m : Nat) (hm : Sub 640 m) (x : State) (v7 v9) :
    State.hide m { x with pan := v7, sluice := v9 } = State.hide m x := by
  simp only [State.hide, hm.bit (i := 7) rfl, hm.bit (i := 9) rfl, if_true]

theorem upd_0_27_29 (m : Nat) (hm : Sub 671088641 m) (x : State) (v0 v27 v29) (e37 : v0.mode = x.grid.mode) (e40 : v29.st = x.power.st) (e48 : v27.valid = x.lanes.valid) (e49 : v27.holder = x.lanes.holder) :
    State.hide m { x with grid := v0, lanes := v27, power := v29 } = State.hide m x := by
  simp only [State.hide, hm.bit (i := 0) rfl, hm.bit (i := 27) rfl, hm.bit (i := 29) rfl, e37, e40, e48, e49, if_true]

theorem upd_5_24_27 (m : Nat) (hm : Sub 150994976 m) (x : State) (v5 v24 v27) (e46 : v24.newMode = x.law.newMode) (e48 : v27.valid = x.lanes.valid) (e49 : v27.holder = x.lanes.holder) :
    State.hide m { x with cfe := v5, law := v24, lanes := v27 } = State.hide m x := by
  simp only [State.hide, hm.bit (i := 5) rfl, hm.bit (i := 24) rfl, hm.bit (i := 27) rfl, e46, e48, e49, if_true]

theorem upd_5_23_24_27 (m : Nat) (hm : Sub 159383584 m) (x : State) (v5 v23 v24 v27) (e41 : v23.st = x.conv.st) (e46 : v24.newMode = x.law.newMode) (e47 : v23.gatesOn = x.conv.gatesOn) (e48 : v27.valid = x.lanes.valid) (e49 : v27.holder = x.lanes.holder) :
    State.hide m { x with cfe := v5, conv := v23, law := v24, lanes := v27 } = State.hide m x := by
  simp only [State.hide, hm.bit (i := 5) rfl, hm.bit (i := 23) rfl, hm.bit (i := 24) rfl, hm.bit (i := 27) rfl, e41, e46, e47, e48, e49, if_true]

theorem upd_25_27_29_40 (m : Nat) (hm : Sub 1100216270848 m) (x : State) (v25 v27 v29) (e48 : v27.valid = x.lanes.valid) (e49 : v27.holder = x.lanes.holder) :
    State.hide m { x with ring := v25, lanes := v27, power := v29 } = State.hide m x := by
  simp only [State.hide, hm.bit (i := 25) rfl, hm.bit (i := 27) rfl, hm.bit (i := 29) rfl, hm.bit (i := 40) rfl, e48, e49, if_true]

theorem upd_1_5_25 (m : Nat) (hm : Sub 33554466 m) (x : State) (v1 v5 v25) :
    State.hide m { x with fe := v1, cfe := v5, ring := v25 } = State.hide m x := by
  simp only [State.hide, hm.bit (i := 1) rfl, hm.bit (i := 5) rfl, hm.bit (i := 25) rfl, if_true]

theorem upd_1_5_23_25 (m : Nat) (hm : Sub 41943074 m) (x : State) (v1 v5 v23 v25) (e41 : v23.st = x.conv.st) (e47 : v23.gatesOn = x.conv.gatesOn) :
    State.hide m { x with fe := v1, cfe := v5, conv := v23, ring := v25 } = State.hide m x := by
  simp only [State.hide, hm.bit (i := 1) rfl, hm.bit (i := 5) rfl, hm.bit (i := 23) rfl, hm.bit (i := 25) rfl, e41, e47, if_true]

theorem upd_16_20 (m : Nat) (hm : Sub 1114112 m) (x : State) (v16 v20) :
    State.hide m { x with eis := v16, bal := v20 } = State.hide m x := by
  simp only [State.hide, hm.bit (i := 16) rfl, hm.bit (i := 20) rfl, if_true]

theorem upd_0_25 (m : Nat) (hm : Sub 33554433 m) (x : State) (v0 v25) (e37 : v0.mode = x.grid.mode) :
    State.hide m { x with grid := v0, ring := v25 } = State.hide m x := by
  simp only [State.hide, hm.bit (i := 0) rfl, hm.bit (i := 25) rfl, e37, if_true]

theorem State.modPort_hide (m : Nat) (hm : Sub 1073741824 m) (x0 : State) (x1) (x2) : (State.modPort x0 x1 x2).hide m = x0.hide m := by
  unfold State.modPort
  simp only [upd_30 m (.of rfl hm)]

theorem State.releaseP37_hide (m : Nat) (hm : Sub 2048 m) (x0 : State) (x1) (x2) : (State.releaseP37 x0 x1 x2).hide m = x0.hide m := by
  unfold State.releaseP37
  simp only [upd_11 m (.of rfl hm)]

theorem execOWorkResume_hide (m : Nat) (hm : Sub 2048 m) (x0 : State) : (outState x0 (execOWorkResume x0)).hide m = x0.hide m := by
  unfold execOWorkResume
  simp only [hide_ite, ite_self, out_next, upd_11 m (.of rfl hm)]

theorem execZeroValidExpire_hide (m : Nat) (hm : Sub 32 m) (x0 : State) : (outState x0 (execZeroValidExpire x0)).hide m = x0.hide m := by
  unfold execZeroValidExpire
  simp only [hide_ite, ite_self, out_next, upd_5 m (.of rfl hm)]

theorem State.takeSummary_hide (m : Nat) (hm : Sub 32768 m) (x0 : State) (x1) : (State.takeSummary x0 x1).hide m = x0.hide m := by
  unfold State.takeSummary
  simp only [hide_ite, ite_self, upd_15 m (.of rfl hm)]

theorem execStepBlockEnd_hide (m : Nat) (hm : Sub 8388608 m) (x0 : State) : (outState x0 (execStepBlockEnd x0)).hide m = x0.hide m := by
  unfold execStepBlockEnd
  simp only [hide_ite, ite_self, out_next, upd_23 m (.of rfl hm)]

theorem State.commitPosition_hide (m : Nat) (hm : Sub 33554432 m) (x0 : State) : (State.commitPosition x0).hide m = x0.hide m := by
  unfold State.commitPosition
  simp only [upd_25 m (.of rfl hm)]

theorem State.bootLanes_hide (m : Nat) (hm : Sub 281475178037248 m) (x0 : State) (x1) : (State.bootLanes x0 x1).hide m = x0.hide m := by
  unfold State.bootLanes
  simp only [upd_26_27_48 m (.of rfl hm)]

theorem State.credit_hide (m : Nat) (hm : Sub 32 m) (x0 : State) (x1) : (State.credit x0 x1).hide m = x0.hide m := by
  unfold State.credit
  simp only [upd_5 m (.of rfl hm)]

theorem State.startConversion_hide (m : Nat) (hm : Sub 4096 m) (x0 : State) (x1) : (State.startConversion x0 x1).hide m = x0.hide m := by
  unfold State.startConversion
  simp only [upd_12 m (.of rfl hm)]

theorem State.eisLimited_hide (m : Nat) (hm : Sub 65536 m) (x0 : State) : (State.eisLimited x0).hide m = x0.hide m := by
  unfold State.eisLimited
  simp only [hide_ite, ite_self, upd_16 m (.of rfl hm)]

theorem State.draw_hide (m : Nat) (hm : Sub 34359738368 m) (x0 : State) : (State.draw x0).2.hide m = x0.hide m := by
  unfold State.draw
  simp only [upd_35 m (.of rfl hm)]

theorem State.toSatellites_hide (m : Nat) (hm : Sub 33554432 m) (x0 : State) (x1) : (State.toSatellites x0 x1).hide m = x0.hide m := by
  unfold State.toSatellites
  simp only [hide_ite, ite_self, upd_25 m (.of rfl hm)]

theorem State.useDecision_hide (m : Nat) (hm : Sub 4096 m) (x0 : State) (x1) : (State.useDecision x0 x1).hide m = x0.hide m := by
  unfold State.useDecision
  repeat' (first | (simp only [hide_ite, ite_self, implies_true, upd_12 m (.of rfl hm)]; done) | (simp only [hide_ite, ite_self, implies_true, upd_12 m (.of rfl hm)]; split) | split | (simp only [hide_ite, ite_self, implies_true, upd_12 m (.of rfl hm)]; with_reducible refine (hide_foldl m _ _ _ fun x a => ?_).trans ?_) | with_reducible refine (hide_foldl m _ _ _ fun x a => ?_).trans ?_)

theorem State.lockStep_hide (m : Nat) (hm : Sub 34393292800 m) (x0 : State) (x1) : (State.lockStep x0 x1).hide m = x0.hide m := by
  unfold State.lockStep
  simp only [hide_ite, ite_self, State.draw_hide m (.of rfl hm), upd_25 m (.of rfl hm)]

theorem State.noteImax_hide (m : Nat) (hm : Sub 4096 m) (x0 : State) (x1) (x2) : (State.noteImax x0 x1 x2).hide m = x0.hide m := by
  unfold State.noteImax
  simp only [hide_ite, ite_self, upd_12 m (.of rfl hm)]

theorem State.modPan_hide (m : Nat) (hm : Sub 128 m) (x0 : State) (x1) (x2) : (State.modPan x0 x1 x2).hide m = x0.hide m := by
  unfold State.modPan
  simp only [upd_7 m (.of rfl hm)]

theorem State.activateTable_hide (m : Nat) (hm : Sub 67633152 m) (x0 : State) : (State.activateTable x0).hide m = x0.hide m := by
  unfold State.activateTable
  simp only [upd_19_26 m (.of rfl hm)]

theorem State.sumHarvest_hide (m : Nat) (hm : Sub 32768 m) (x0 : State) : (State.sumHarvest x0).hide m = x0.hide m := by
  unfold State.sumHarvest
  simp only [hide_ite, ite_self, upd_15 m (.of rfl hm)]

theorem State.countExcitation_hide (m : Nat) (hm : Sub 4096 m) (x0 : State) : (State.countExcitation x0).hide m = x0.hide m := by
  unfold State.countExcitation
  simp only [hide_ite, ite_self, upd_12 m (.of rfl hm)]

theorem State.takeSlices_hide (m : Nat) (hm : Sub 524288 m) (x0 : State) : (State.takeSlices x0).hide m = x0.hide m := by
  unfold State.takeSlices
  simp only [hide_ite, ite_self, upd_19 m (.of rfl hm)]

theorem State.fromRecord_hide (m : Nat) (hm : Sub 16777216 m) (x0 : State) : (State.fromRecord x0).hide m = x0.hide m := by
  unfold State.fromRecord
  repeat' (first | (simp only [hide_ite, ite_self, implies_true, upd_24 m (.of rfl hm)]; done) | (simp only [hide_ite, ite_self, implies_true, upd_24 m (.of rfl hm)]; split) | split | (simp only [hide_ite, ite_self, implies_true, upd_24 m (.of rfl hm)]; with_reducible refine (hide_foldl m _ _ _ fun x a => ?_).trans ?_) | with_reducible refine (hide_foldl m _ _ _ fun x a => ?_).trans ?_)

theorem State.lawReset_hide (m : Nat) (hm : Sub 16777216 m) (x0 : State) : (State.lawReset x0).hide m = x0.hide m := by
  unfold State.lawReset
  simp only [upd_24 m (.of rfl hm)]

theorem State.calFrame_hide (m : Nat) (hm : Sub 32 m) (x0 : State) : (State.calFrame x0).hide m = x0.hide m := by
  unfold State.calFrame
  repeat' (first | (simp only [hide_ite, ite_self, implies_true, upd_5 m (.of rfl hm)]; done) | (simp only [hide_ite, ite_self, implies_true, upd_5 m (.of rfl hm)]; split) | split | (simp only [hide_ite, ite_self, implies_true, upd_5 m (.of rfl hm)]; with_reducible refine (hide_foldl m _ _ _ fun x a => ?_).trans ?_) | with_reducible refine (hide_foldl m _ _ _ fun x a => ?_).trans ?_)

theorem State.applyVerdict_hide (m : Nat) (hm : Sub 67584 m) (x0 : State) (x1) (x2) : (State.applyVerdict x0 x1 x2).hide m = x0.hide m := by
  unfold State.applyVerdict
  simp only [State.releaseP37_hide m (.of rfl hm), upd_16 m (.of rfl hm)]

theorem State.ageSet_hide (m : Nat) (hm : Sub 2097152 m) (x0 : State) : (State.ageSet x0).hide m = x0.hide m := by
  unfold State.ageSet
  repeat' (first | (simp only [hide_ite, ite_self, implies_true, upd_21 m (.of rfl hm)]; done) | (simp only [hide_ite, ite_self, implies_true, upd_21 m (.of rfl hm)]; split) | split | (simp only [hide_ite, ite_self, implies_true, upd_21 m (.of rfl hm)]; with_reducible refine (hide_foldl m _ _ _ fun x a => ?_).trans ?_) | with_reducible refine (hide_foldl m _ _ _ fun x a => ?_).trans ?_)

theorem State.takeLawSet_hide (m : Nat) (hm : Sub 16777216 m) (x0 : State) : (State.takeLawSet x0).hide m = x0.hide m := by
  unfold State.takeLawSet
  simp only [hide_ite, ite_self, upd_24 m (.of rfl hm)]

theorem execSliceWriteComplete_hide (m : Nat) (hm : Sub 524288 m) (x0) (x1 : State) : (outState x1 (execSliceWriteComplete x0 x1)).hide m = x1.hide m := by
  unfold execSliceWriteComplete
  simp only [hide_ite, ite_self, out_ite, out_next, out_fault, upd_19 m (.of rfl hm)]

theorem State.modChan_hide (m : Nat) (hm : Sub 4 m) (x0 : State) (x1) (x2) : (State.modChan x0 x1 x2).hide m = x0.hide m := by
  unfold State.modChan
  simp only [upd_2 m (.of rfl hm)]

theorem State.zeroFrame_hide (m : Nat) (hm : Sub 32 m) (x0 : State) (x1) : (State.zeroFrame x0 x1).hide m = x0.hide m := by
  unfold State.zeroFrame
  simp only [hide_ite, ite_self, upd_5 m (.of rfl hm)]

theorem State.modBranch_hide (m : Nat) (hm : Sub 64 m) (x0 : State) (x1) (x2) : (State.modBranch x0 x1 x2).hide m = x0.hide m := by
  unfold State.modBranch
  simp only [upd_6 m (.of rfl hm)]

theorem State.asOf_hide (m : Nat) (hm : Sub 1 m) (n : Nat) (f : State → State) (s : State)
    (hf : ∀ x, (f x).hide m = x.hide m) : (s.asOf n f).hide m = s.hide m := by
  unfold State.asOf
  simp only [upd_0 m hm, hf]

theorem State.finishImage_hide (m : Nat) (hm : Sub 2147483648 m) (x0 : State) : (State.finishImage x0).hide m = x0.hide m := by
  unfold State.finishImage
  repeat' (first | (simp only [hide_ite, ite_self, implies_true, upd_31 m (.of rfl hm)]; done) | (simp only [hide_ite, ite_self, implies_true, upd_31 m (.of rfl hm)]; split) | split | (simp only [hide_ite, ite_self, implies_true, upd_31 m (.of rfl hm)]; with_reducible refine (hide_foldl m _ _ _ fun x a => ?_).trans ?_) | with_reducible refine (hide_foldl m _ _ _ fun x a => ?_).trans ?_)

theorem State.coherenceJob_hide (m : Nat) (hm : Sub 65536 m) (x0 : State) : (State.coherenceJob x0).hide m = x0.hide m := by
  unfold State.coherenceJob
  simp only [hide_ite, ite_self, upd_16 m (.of rfl hm)]

theorem State.powerLimitsJob_hide (m : Nat) (hm : Sub 16384 m) (x0 : State) : (State.powerLimitsJob x0).hide m = x0.hide m := by
  unfold State.powerLimitsJob
  simp only [upd_14 m (.of rfl hm)]

theorem State.bridgeDraw_hide (m : Nat) (hm : Sub 34896609280 m) (x0 : State) : (State.bridgeDraw x0).hide m = x0.hide m := by
  unfold State.bridgeDraw
  simp only [hide_ite, ite_self, State.draw_hide m (.of rfl hm), upd_29 m (.of rfl hm)]

theorem State.drawDelay_hide (m : Nat) (hm : Sub 34359738368 m) (x0 : State) : (State.drawDelay x0).2.hide m = x0.hide m := by
  unfold State.drawDelay
  simp only [State.draw_hide m (.of rfl hm)]

theorem State.followHeader_hide (m : Nat) (hm : Sub 33554432 m) (x0 : State) (x1) : (State.followHeader x0 x1).hide m = x0.hide m := by
  unfold State.followHeader
  simp only [upd_25 m (.of rfl hm)]

theorem State.rearmAnchors_hide (m : Nat) (hm : Sub 16384 m) (x0 : State) (x1) : (State.rearmAnchors x0 x1).hide m = x0.hide m := by
  unfold State.rearmAnchors
  simp only [upd_14 m (.of rfl hm)]

theorem execComet_hide (m : Nat) (hm : Sub 2048 m) (x0 : State) : (outState x0 (execComet x0)).hide m = x0.hide m := by
  unfold execComet
  simp only [hide_ite, ite_self, out_next, upd_11 m (.of rfl hm)]

theorem State.requestContactors_hide (m : Nat) (hm : Sub 134217728 m) (x0 : State) (x1) : (State.requestContactors x0 x1).hide m = x0.hide m := by
  unfold State.requestContactors
  simp only [upd_27 m (.of rfl hm)]

theorem execKPreOn_hide (m : Nat) (hm : Sub 268435456 m) (x0 : State) : (outState x0 (execKPreOn x0)).hide m = x0.hide m := by
  unfold execKPreOn
  simp only [hide_ite, ite_self, out_next, upd_28 m (.of rfl hm)]

theorem State.nameCells_hide (m : Nat) (hm : Sub 2097152 m) (x0 : State) (x1) (x2) : (State.nameCells x0 x1 x2).hide m = x0.hide m := by
  unfold State.nameCells
  simp only [upd_21 m (.of rfl hm)]

theorem State.watchAmp_hide (m : Nat) (hm : Sub 65536 m) (x0 : State) : (State.watchAmp x0).hide m = x0.hide m := by
  unfold State.watchAmp
  simp only [hide_ite, ite_self, upd_16 m (.of rfl hm)]

theorem State.safetyOff_hide (m : Nat) (hm : Sub 30786594013184 m) (x0 : State) : (State.safetyOff x0).hide m = x0.hide m := by
  unfold State.safetyOff
  simp only [upd_28_42_43_44 m (.of rfl hm)]

theorem State.drawWords_hide (m : Nat) (hm : Sub 34359738368 m) (n : Nat) (s : State) :
    (State.drawWords n s).2.hide m = s.hide m := by
  induction n generalizing s with
  | zero => rfl
  | succ n ih => unfold State.drawWords; simp only [ih, State.draw_hide m hm]

theorem State.elapse_hide (m : Nat) (hm : Sub 53284438017 m) (x0 : State) : (State.elapse x0).hide m = x0.hide m := by
  unfold State.elapse
  simp only [hide_ite, ite_self, State.draw_hide m (.of rfl hm), upd_29 m (.of rfl hm), upd_0_27_30_34 m (.of rfl hm)]

theorem State.modCan_hide (m : Nat) (hm : Sub 4294967296 m) (x0 : State) (x1) (x2) : (State.modCan x0 x1 x2).hide m = x0.hide m := by
  unfold State.modCan
  simp only [upd_32 m (.of rfl hm)]

theorem execRingPortDown_hide (m : Nat) (hm : Sub 33554432 m) (x0) (x1 : State) : (outState x1 (execRingPortDown x0 x1)).hide m = x1.hide m := by
  unfold execRingPortDown
  simp only [hide_ite, ite_self, out_next, upd_25 m (.of rfl hm)]

theorem State.creditFrame_hide (m : Nat) (hm : Sub 32 m) (x0 : State) (x1) : (State.creditFrame x0 x1).hide m = x0.hide m := by
  unfold State.creditFrame
  repeat' (first | (simp only [hide_ite, ite_self, implies_true, State.credit_hide m (.of rfl hm), upd_5 m (.of rfl hm)]; done) | (simp only [hide_ite, ite_self, implies_true, State.credit_hide m (.of rfl hm), upd_5 m (.of rfl hm)]; split) | split | (simp only [hide_ite, ite_self, implies_true, State.credit_hide m (.of rfl hm), upd_5 m (.of rfl hm)]; with_reducible refine (hide_foldl m _ _ _ fun x a => ?_).trans ?_) | with_reducible refine (hide_foldl m _ _ _ fun x a => ?_).trans ?_)

theorem State.setPattern_hide (m : Nat) (hm : Sub 1048578 m) (x0 : State) (x1) (x2) : (State.setPattern x0 x1 x2).hide m = x0.hide m := by
  unfold State.setPattern
  simp only [upd_1_20 m (.of rfl hm)]

theorem State.portsDown_hide (m : Nat) (hm : Sub 32380026880 m) (x0 : State) : (State.portsDown x0).hide m = x0.hide m := by
  unfold State.portsDown
  simp only [upd_25_27_31_32_33_34 m (.of rfl hm)]

theorem State.modThermo_hide (m : Nat) (hm : Sub 131072 m) (x0 : State) (x1) (x2) : (State.modThermo x0 x1 x2).hide m = x0.hide m := by
  unfold State.modThermo
  simp only [upd_17 m (.of rfl hm)]

theorem State.releaseHwLatch_hide (m : Nat) (hm : Sub 8388640 m) (x0 : State) : (State.releaseHwLatch x0).hide m = x0.hide m := by
  unfold State.releaseHwLatch
  simp only [hide_ite, ite_self, upd_5_23 m (.of rfl hm)]

theorem State.stage_hide (m : Nat) (hm : Sub 2147483648 m) (x0 : State) (x1) (x2) (x3) : (State.stage x0 x1 x2 x3).hide m = x0.hide m := by
  unfold State.stage
  simp only [upd_31 m (.of rfl hm)]

theorem State.modStaged_hide (m : Nat) (hm : Sub 524288 m) (x0 : State) (x1) : (State.modStaged x0 x1).hide m = x0.hide m := by
  unfold State.modStaged
  simp only [upd_19 m (.of rfl hm)]

theorem State.refineJob_hide (m : Nat) (hm : Sub 1048576 m) (x0 : State) : (State.refineJob x0).hide m = x0.hide m := by
  unfold State.refineJob
  simp only [upd_20 m (.of rfl hm)]

theorem State.saveEst_hide (m : Nat) (hm : Sub 8192 m) (x0 : State) : (State.saveEst x0).hide m = x0.hide m := by
  unfold State.saveEst
  simp only [upd_13 m (.of rfl hm)]

theorem execGateDriverReady_hide (m : Nat) (hm : Sub 8388608 m) (x0 : State) : (outState x0 (execGateDriverReady x0)).hide m = x0.hide m := by
  unfold execGateDriverReady
  simp only [hide_ite, ite_self, out_next, upd_23 m (.of rfl hm)]

theorem State.withFetchWord_hide (m : Nat) (hm : Sub 137438953472 m) (x0 : State) (x1) (x2) : (State.withFetchWord x0 x1 x2).hide m = x0.hide m := by
  unfold State.withFetchWord
  repeat' (first | (simp only [hide_ite, ite_self, implies_true, upd_37 m (.of rfl hm)]; done) | (simp only [hide_ite, ite_self, implies_true, upd_37 m (.of rfl hm)]; split) | split | (simp only [hide_ite, ite_self, implies_true, upd_37 m (.of rfl hm)]; with_reducible refine (hide_foldl m _ _ _ fun x a => ?_).trans ?_) | with_reducible refine (hide_foldl m _ _ _ fun x a => ?_).trans ?_)

theorem State.takeReadings_hide (m : Nat) (hm : Sub 14680065 m) (x0 : State) (x1) (x2) (x3) (x4) (x5) : (State.takeReadings x0 x1 x2 x3 x4 x5).hide m = x0.hide m := by
  unfold State.takeReadings
  simp only [upd_0_21_22_23 m (.of rfl hm)]

theorem State.fixSlot_hide (m : Nat) (hm : Sub 33554432 m) (x0 : State) : (State.fixSlot x0).hide m = x0.hide m := by
  unfold State.fixSlot
  simp only [hide_ite, ite_self, upd_25 m (.of rfl hm)]

theorem execRingWakeToneEnd_hide (m : Nat) (hm : Sub 33554432 m) (x0 : State) : (outState x0 (execRingWakeToneEnd x0)).hide m = x0.hide m := by
  unfold execRingWakeToneEnd
  simp only [hide_ite, ite_self, out_next, upd_25 m (.of rfl hm)]

theorem execBridgeRunExpire_hide (m : Nat) (hm : Sub 536870912 m) (x0 : State) : (outState x0 (execBridgeRunExpire x0)).hide m = x0.hide m := by
  unfold execBridgeRunExpire
  simp only [hide_ite, ite_self, out_next, upd_29 m (.of rfl hm)]

theorem State.beginSlot_hide (m : Nat) (hm : Sub 1048576 m) (x0 : State) (x1) : (State.beginSlot x0 x1).hide m = x0.hide m := by
  unfold State.beginSlot
  simp only [upd_20 m (.of rfl hm)]

theorem State.newPlan_hide (m : Nat) (hm : Sub 1048576 m) (x0 : State) (x1) : (State.newPlan x0 x1).hide m = x0.hide m := by
  unfold State.newPlan
  simp only [upd_20 m (.of rfl hm)]

theorem State.dropSlices_hide (m : Nat) (hm : Sub 524288 m) (x0 : State) : (State.dropSlices x0).hide m = x0.hide m := by
  unfold State.dropSlices
  simp only [upd_19 m (.of rfl hm)]

theorem State.modLane_hide (m : Nat) (hm : Sub 67108864 m) (x0 : State) (x1) (x2) : (State.modLane x0 x1 x2).hide m = x0.hide m := by
  unfold State.modLane
  simp only [upd_26 m (.of rfl hm)]

theorem State.toStage_hide (m : Nat) (hm : Sub 536870912 m) (x0 : State) (x1) : (State.toStage x0 x1).hide m = x0.hide m := by
  unfold State.toStage
  simp only [upd_29 m (.of rfl hm)]

theorem State.balDrain_hide (m : Nat) (hm : Sub 1048578 m) (x0 : State) (x1) (x2) : (State.balDrain x0 x1 x2).hide m = x0.hide m := by
  unfold State.balDrain
  simp only [hide_ite, ite_self, upd_1_20 m (.of rfl hm)]

theorem State.queueControl_hide (m : Nat) (hm : Sub 33554432 m) (x0 : State) (x1) : (State.queueControl x0 x1).hide m = x0.hide m := by
  unfold State.queueControl
  simp only [upd_25 m (.of rfl hm)]

theorem State.sendCan_hide (m : Nat) (hm : Sub 4294967296 m) (x0 : State) (x1) (x2) (x3) (x4) : (State.sendCan x0 x1 x2 x3 x4).hide m = x0.hide m := by
  unfold State.sendCan
  simp only [State.modCan_hide m (.of rfl hm)]

theorem execConfigImageWritten_hide (m : Nat) (hm : Sub 2147483648 m) (x0 : State) : (outState x0 (execConfigImageWritten x0)).hide m = x0.hide m := by
  unfold execConfigImageWritten
  simp only [out_next, State.finishImage_hide m (.of rfl hm)]

theorem State.grant_hide (m : Nat) (hm : Sub 844425131458560 m) (x0 : State) (x1) : (State.grant x0 x1).hide m = x0.hide m := by
  unfold State.grant
  simp only [State.modLane_hide m (.of rfl hm), upd_27_48_49 m (.of rfl hm)]

theorem State.loadSlice_hide (m : Nat) (hm : Sub 524288 m) (x0 : State) (x1) : (State.loadSlice x0 x1).hide m = x0.hide m := by
  unfold State.loadSlice
  simp only [upd_19 m (.of rfl hm)]

theorem State.rebase_hide (m : Nat) (hm : Sub 32 m) (x0 : State) (x1) : (State.rebase x0 x1).hide m = x0.hide m := by
  unfold State.rebase
  repeat' (first | (simp only [hide_ite, ite_self, implies_true, upd_5 m (.of rfl hm)]; done) | (simp only [hide_ite, ite_self, implies_true, upd_5 m (.of rfl hm)]; split) | split | (simp only [hide_ite, ite_self, implies_true, upd_5 m (.of rfl hm)]; with_reducible refine (hide_foldl m _ _ _ fun x a => ?_).trans ?_) | with_reducible refine (hide_foldl m _ _ _ fun x a => ?_).trans ?_)

theorem State.skipRecords_hide (m : Nat) (hm : Sub 2147483648 m) (x0 : State) (x1) : (State.skipRecords x0 x1).hide m = x0.hide m := by
  unfold State.skipRecords
  simp only [upd_31 m (.of rfl hm)]

theorem State.modSlot_hide (m : Nat) (hm : Sub 256 m) (x0 : State) (x1) (x2) : (State.modSlot x0 x1 x2).hide m = x0.hide m := by
  unfold State.modSlot
  simp only [upd_8 m (.of rfl hm)]

theorem State.checkpoint_hide (m : Nat) (hm : Sub 68719476736 m) (x0 : State) (x1) : (State.checkpoint x0 x1).hide m = x0.hide m := by
  unfold State.checkpoint
  simp only [hide_ite, ite_self, upd_36 m (.of rfl hm)]

theorem State.thermoDecay_hide (m : Nat) (hm : Sub 131072 m) (x0 : State) (x1) (x2) : (State.thermoDecay x0 x1 x2).hide m = x0.hide m := by
  unfold State.thermoDecay
  simp only [State.modThermo_hide m (.of rfl hm)]

theorem State.tailOnly_hide (m : Nat) (hm : Sub 4096 m) (x0 : State) : (State.tailOnly x0).hide m = x0.hide m := by
  unfold State.tailOnly
  simp only [upd_12 m (.of rfl hm)]

theorem State.sendTone_hide (m : Nat) (hm : Sub 33554432 m) (x0 : State) : (State.sendTone x0).hide m = x0.hide m := by
  unfold State.sendTone
  simp only [upd_25 m (.of rfl hm)]

theorem State.noPeriods_hide (m : Nat) (hm : Sub 4194304 m) (x0 : State) : (State.noPeriods x0).hide m = x0.hide m := by
  unfold State.noPeriods
  simp only [upd_22 m (.of rfl hm)]

theorem State.freshPans_hide (m : Nat) (hm : Sub 128 m) (x0 : State) (x1) : (State.freshPans x0 x1).hide m = x0.hide m := by
  unfold State.freshPans
  simp only [upd_7 m (.of rfl hm)]

theorem execTokenGrant_hide (m : Nat) (hm : Sub 844425131458560 m) (x0) (x1) (x2 : State) : (outState x2 (execTokenGrant x0 x1 x2)).hide m = x2.hide m := by
  unfold execTokenGrant
  repeat' (first | (simp only [hide_ite, ite_self, implies_true, out_ite, out_next, out_fault, State.grant_hide m (.of rfl hm)]; done) | (simp only [hide_ite, ite_self, implies_true, out_ite, out_next, out_fault, State.grant_hide m (.of rfl hm)]; split) | split | (simp only [hide_ite, ite_self, implies_true, out_ite, out_next, out_fault, State.grant_hide m (.of rfl hm)]; with_reducible refine (hide_foldl m _ _ _ fun x a => ?_).trans ?_) | with_reducible refine (hide_foldl m _ _ _ fun x a => ?_).trans ?_)

theorem State.canFilter_hide (m : Nat) (hm : Sub 4294967296 m) (x0 : State) (x1) : (State.canFilter x0 x1).hide m = x0.hide m := by
  unfold State.canFilter
  simp only [State.modCan_hide m (.of rfl hm)]

theorem State.startShadows_hide (m : Nat) (hm : Sub 896 m) (x0 : State) (x1) (x2) : (State.startShadows x0 x1 x2).hide m = x0.hide m := by
  unfold State.startShadows
  simp only [hide_ite, ite_self, implies_true, hide_foldl, State.modPan_hide m (.of rfl hm), upd_7_8 m (.of rfl hm), upd_9 m (.of rfl hm)]

theorem State.modEst_hide (m : Nat) (hm : Sub 8192 m) (x0 : State) (x1) (x2) : (State.modEst x0 x1 x2).hide m = x0.hide m := by
  unfold State.modEst
  simp only [upd_13 m (.of rfl hm)]

theorem State.resumeSweep_hide (m : Nat) (hm : Sub 65536 m) (x0 : State) (x1) : (State.resumeSweep x0 x1).hide m = x0.hide m := by
  unfold State.resumeSweep
  simp only [upd_16 m (.of rfl hm)]

theorem State.endHandshake_hide (m : Nat) (hm : Sub 536870912 m) (x0 : State) : (State.endHandshake x0).hide m = x0.hide m := by
  unfold State.endHandshake
  simp only [upd_29 m (.of rfl hm)]

theorem State.subPacket_hide (m : Nat) (hm : Sub 32 m) (x0 : State) (x1) (x2) : (State.subPacket x0 x1 x2).hide m = x0.hide m := by
  unfold State.subPacket
  simp only [hide_ite, ite_self, upd_5 m (.of rfl hm)]

theorem State.toPool_hide (m : Nat) (hm : Sub 128 m) (x0 : State) (x1) : (State.toPool x0 x1).hide m = x0.hide m := by
  unfold State.toPool
  simp only [State.modPan_hide m (.of rfl hm)]

theorem State.watchShift_hide (m : Nat) (hm : Sub 65536 m) (x0 : State) : (State.watchShift x0).hide m = x0.hide m := by
  unfold State.watchShift
  simp only [hide_ite, ite_self, upd_16 m (.of rfl hm)]

theorem State.rnormFlags_hide (m : Nat) (hm : Sub 128 m) (x0 : State) (x1) (x2) : (State.rnormFlags x0 x1 x2).hide m = x0.hide m := by
  unfold State.rnormFlags
  repeat' (first | (simp only [hide_ite, ite_self, implies_true, State.modPan_hide m (.of rfl hm)]; done) | (simp only [hide_ite, ite_self, implies_true, State.modPan_hide m (.of rfl hm)]; split) | split | (simp only [hide_ite, ite_self, implies_true, State.modPan_hide m (.of rfl hm)]; with_reducible refine (hide_foldl m _ _ _ fun x a => ?_).trans ?_) | with_reducible refine (hide_foldl m _ _ _ fun x a => ?_).trans ?_)

theorem State.curStamp_hide (m : Nat) (hm : Sub 65536 m) (x0 : State) (x1) (x2) : (State.curStamp x0 x1 x2).hide m = x0.hide m := by
  unfold State.curStamp
  repeat' (first | (simp only [hide_ite, ite_self, implies_true, upd_16 m (.of rfl hm)]; done) | (simp only [hide_ite, ite_self, implies_true, upd_16 m (.of rfl hm)]; split) | split | (simp only [hide_ite, ite_self, implies_true, upd_16 m (.of rfl hm)]; with_reducible refine (hide_foldl m _ _ _ fun x a => ?_).trans ?_) | with_reducible refine (hide_foldl m _ _ _ fun x a => ?_).trans ?_)

theorem State.configurePhases_hide (m : Nat) (hm : Sub 4194304 m) (x0 : State) : (State.configurePhases x0).hide m = x0.hide m := by
  unfold State.configurePhases
  simp only [hide_ite, ite_self, upd_22 m (.of rfl hm)]

theorem State.nonVolatile_hide (m : Nat) (hm : Sub 1125075273121791 m) (s : State) : s.nonVolatile.hide m = s.hide m := by
  simp only [State.hide, State.nonVolatile, State.reset, if_true, hm.bit (i := 0) rfl, hm.bit (i := 1) rfl, hm.bit (i := 2) rfl, hm.bit (i := 3) rfl, hm.bit (i := 4) rfl, hm.bit (i := 5) rfl, hm.bit (i := 6) rfl, hm.bit (i := 7) rfl, hm.bit (i := 8) rfl, hm.bit (i := 9) rfl, hm.bit (i := 10) rfl, hm.bit (i := 11) rfl, hm.bit (i := 12) rfl, hm.bit (i := 13) rfl, hm.bit (i := 14) rfl, hm.bit (i := 15) rfl, hm.bit (i := 16) rfl, hm.bit (i := 17) rfl, hm.bit (i := 18) rfl, hm.bit (i := 19) rfl, hm.bit (i := 20) rfl, hm.bit (i := 21) rfl, hm.bit (i := 22) rfl, hm.bit (i := 23) rfl, hm.bit (i := 24) rfl, hm.bit (i := 25) rfl, hm.bit (i := 26) rfl, hm.bit (i := 27) rfl, hm.bit (i := 28) rfl, hm.bit (i := 29) rfl, hm.bit (i := 30) rfl, hm.bit (i := 31) rfl, hm.bit (i := 32) rfl, hm.bit (i := 33) rfl, hm.bit (i := 34) rfl, hm.bit (i := 35) rfl, hm.bit (i := 36) rfl, hm.bit (i := 37) rfl, hm.bit (i := 40) rfl, hm.bit (i := 41) rfl, hm.bit (i := 42) rfl, hm.bit (i := 43) rfl, hm.bit (i := 44) rfl, hm.bit (i := 45) rfl, hm.bit (i := 46) rfl, hm.bit (i := 47) rfl, hm.bit (i := 48) rfl, hm.bit (i := 49) rfl]

theorem State.prechargeFrame_hide (m : Nat) (hm : Sub 268435456 m) (x0 : State) (x1) (x2) (x3) : (State.prechargeFrame x0 x1 x2 x3).hide m = x0.hide m := by
  unfold State.prechargeFrame
  simp only [hide_ite, ite_self, upd_28 m (.of rfl hm)]

theorem State.drawBytes_hide (m : Nat) (hm : Sub 34359738368 m) (s : State) (n : Nat) :
    (s.drawBytes n).2.hide m = s.hide m := by
  induction n generalizing s with
  | zero => rfl
  | succ n ih => unfold State.drawBytes; simp only [ih, State.draw_hide m hm]

theorem State.learnPoint_hide (m : Nat) (hm : Sub 8192 m) (x0 : State) (x1) : (State.learnPoint x0 x1).hide m = x0.hide m := by
  unfold State.learnPoint
  simp only [State.modEst_hide m (.of rfl hm)]

theorem State.reloadSlices_hide (m : Nat) (hm : Sub 524288 m) (x0 : State) (x1) : (State.reloadSlices x0 x1).hide m = x0.hide m := by
  unfold State.reloadSlices
  simp only [hide_ite, ite_self, implies_true, hide_foldl, State.loadSlice_hide m (.of rfl hm)]

theorem State.balBoundary_hide (m : Nat) (hm : Sub 1048578 m) (x0 : State) : (State.balBoundary x0).hide m = x0.hide m := by
  unfold State.balBoundary
  simp only [hide_ite, ite_self, State.balDrain_hide m (.of rfl hm)]

theorem State.cellStamp_hide (m : Nat) (hm : Sub 65536 m) (x0 : State) (x1) (x2) (x3) : (State.cellStamp x0 x1 x2 x3).hide m = x0.hide m := by
  unfold State.cellStamp
  repeat' (first | (simp only [hide_ite, ite_self, implies_true, upd_16 m (.of rfl hm)]; done) | (simp only [hide_ite, ite_self, implies_true, upd_16 m (.of rfl hm)]; split) | split | (simp only [hide_ite, ite_self, implies_true, upd_16 m (.of rfl hm)]; with_reducible refine (hide_foldl m _ _ _ fun x a => ?_).trans ?_) | with_reducible refine (hide_foldl m _ _ _ fun x a => ?_).trans ?_)

theorem State.spreadDone_hide (m : Nat) (hm : Sub 8388608 m) (x0 : State) (x1 : State) : (State.spreadDone x0 x1).hide m = x0.hide m := by
  unfold State.spreadDone
  simp only [hide_ite, ite_self, upd_23 m (.of rfl hm)]

theorem State.runLatched_hide (m : Nat) (hm : Sub 2147483648 m) (s : State) (l : LatchedCmd)
    (f : Hdr → List Byte → State → Ans) (hf : ∀ h p x, (f h p x).s.hide m = x.hide m) :
    (s.runLatched l f).1.hide m = s.hide m := by
  unfold State.runLatched
  simp only [fst_ite, hide_ite, upd_31 m hm, hf, ite_self]

theorem execCorrectedSramError_hide (m : Nat) (hm : Sub 201326592 m) (x0) (x1 : State) : (outState x1 (execCorrectedSramError x0 x1)).hide m = x1.hide m := by
  unfold execCorrectedSramError
  simp only [hide_ite, ite_self, out_next, State.modLane_hide m (.of rfl hm), upd_27 m (.of rfl hm)]

theorem State.haltSweep_hide (m : Nat) (hm : Sub 65536 m) (x0 : State) : (State.haltSweep x0).hide m = x0.hide m := by
  unfold State.haltSweep
  simp only [upd_16 m (.of rfl hm)]

theorem State.sendSpi_hide (m : Nat) (hm : Sub 8589934592 m) (x0 : State) (x1) (x2) : (State.sendSpi x0 x1 x2).hide m = x0.hide m := by
  unfold State.sendSpi
  simp only [upd_33 m (.of rfl hm)]

theorem State.spiIrqStatus_hide (m : Nat) (hm : Sub 8589934592 m) (x0 : State) (x1) : (State.spiIrqStatus x0 x1).hide m = x0.hide m := by
  unfold State.spiIrqStatus
  simp only [hide_ite, ite_self, upd_33 m (.of rfl hm)]

theorem State.modFe_hide (m : Nat) (hm : Sub 2 m) (x0 : State) (x1) (x2) : (State.modFe x0 x1 x2).hide m = x0.hide m := by
  unfold State.modFe
  simp only [upd_1 m (.of rfl hm)]

theorem State.balReadback_hide (m : Nat) (hm : Sub 1048576 m) (x0 : State) : (State.balReadback x0).hide m = x0.hide m := by
  unfold State.balReadback
  simp only [upd_20 m (.of rfl hm)]

theorem execRerunArbitration_hide (m : Nat) (hm : Sub 844425131458560 m) (x0 : State) : (outState x0 (execRerunArbitration x0)).hide m = x0.hide m := by
  unfold execRerunArbitration
  repeat' (first | (simp only [hide_ite, ite_self, implies_true, out_ite, out_next, out_fault, State.grant_hide m (.of rfl hm), upd_27 m (.of rfl hm)]; done) | (simp only [hide_ite, ite_self, implies_true, out_ite, out_next, out_fault, State.grant_hide m (.of rfl hm), upd_27 m (.of rfl hm)]; split) | split | (simp only [hide_ite, ite_self, implies_true, out_ite, out_next, out_fault, State.grant_hide m (.of rfl hm), upd_27 m (.of rfl hm)]; with_reducible refine (hide_foldl m _ _ _ fun x a => ?_).trans ?_) | with_reducible refine (hide_foldl m _ _ _ fun x a => ?_).trans ?_)

theorem State.spiOut_hide (m : Nat) (hm : Sub 8589934592 m) (x0 : State) : (State.spiOut x0).hide m = x0.hide m := by
  unfold State.spiOut
  repeat' (first | (simp only [hide_ite, ite_self, implies_true, upd_33 m (.of rfl hm)]; done) | (simp only [hide_ite, ite_self, implies_true, upd_33 m (.of rfl hm)]; split) | split | (simp only [hide_ite, ite_self, implies_true, upd_33 m (.of rfl hm)]; with_reducible refine (hide_foldl m _ _ _ fun x a => ?_).trans ?_) | with_reducible refine (hide_foldl m _ _ _ fun x a => ?_).trans ?_)

theorem execCfeSubsamplePacket_hide (m : Nat) (hm : Sub 32 m) (x0) (x1) (x2 : State) : (outState x2 (execCfeSubsamplePacket x0 x1 x2)).hide m = x2.hide m := by
  unfold execCfeSubsamplePacket
  simp only [hide_ite, ite_self, out_ite, out_next, out_fault, State.subPacket_hide m (.of rfl hm)]

theorem State.commitEclipse_hide (m : Nat) (hm : Sub 134217728 m) (x0 : State) : (State.commitEclipse x0).hide m = x0.hide m := by
  unfold State.commitEclipse
  simp only [upd_27 m (.of rfl hm)]

theorem State.countSets_hide (m : Nat) (hm : Sub 16777216 m) (x0 : State) : (State.countSets x0).hide m = x0.hide m := by
  unfold State.countSets
  simp only [upd_24 m (.of rfl hm)]

theorem execRingFrameEmit_hide (m : Nat) (hm : Sub 33554432 m) (x0 : State) : (outState x0 (execRingFrameEmit x0)).hide m = x0.hide m := by
  unfold execRingFrameEmit
  simp only [hide_ite, ite_self, out_next, State.fixSlot_hide m (.of rfl hm), upd_25 m (.of rfl hm)]

theorem execWakePulseEnd_hide (m : Nat) (hm : Sub 536870912 m) (x0 : State) : (outState x0 (execWakePulseEnd x0)).hide m = x0.hide m := by
  unfold execWakePulseEnd
  simp only [hide_ite, ite_self, out_next, upd_29 m (.of rfl hm)]

theorem State.modPhase_hide (m : Nat) (hm : Sub 4194304 m) (x0 : State) (x1) (x2) : (State.modPhase x0 x1 x2).hide m = x0.hide m := by
  unfold State.modPhase
  simp only [upd_22 m (.of rfl hm)]

theorem State.checkDrain_hide (m : Nat) (hm : Sub 8388608 m) (x0 : State) : (State.checkDrain x0).hide m = x0.hide m := by
  unfold State.checkDrain
  simp only [hide_ite, ite_self, upd_23 m (.of rfl hm)]

theorem State.safeSet_hide (m : Nat) (hm : Sub 16777216 m) (x0 : State) : (State.safeSet x0).hide m = x0.hide m := by
  unfold State.safeSet
  simp only [upd_24 m (.of rfl hm)]

theorem State.deferMode_hide (m : Nat) (hm : Sub 1 m) (x0 : State) (x1) (x2) : (State.deferMode x0 x1 x2).hide m = x0.hide m := by
  unfold State.deferMode
  simp only [upd_0 m (.of rfl hm)]

theorem State.canSegmentTimeout_hide (m : Nat) (hm : Sub 4294967296 m) (x0 : State) (x1) (x2) : (State.canSegmentTimeout x0 x1 x2).hide m = x0.hide m := by
  unfold State.canSegmentTimeout
  simp only [State.modCan_hide m (.of rfl hm)]

theorem execSweepStartFrame_hide (m : Nat) (hm : Sub 65536 m) (x0 : State) : (outState x0 (execSweepStartFrame x0)).hide m = x0.hide m := by
  unfold execSweepStartFrame
  simp only [hide_ite, ite_self, out_next, upd_16 m (.of rfl hm)]

theorem State.balParams_hide (m : Nat) (hm : Sub 1048576 m) (x0 : State) : (State.balParams x0).hide m = x0.hide m := by
  unfold State.balParams
  simp only [upd_20 m (.of rfl hm)]

theorem State.startWindow_hide (m : Nat) (hm : Sub 35184372091042 m) (x0 : State) (x1) (x2) : (State.startWindow x0 x1 x2).hide m = x0.hide m := by
  unfold State.startWindow
  simp only [State.freshPans_hide m (.of rfl hm), upd_1_5_11_45 m (.of rfl hm)]

theorem State.initCell_hide (m : Nat) (hm : Sub 8192 m) (x0 : State) (x1) (x2) : (State.initCell x0 x1 x2).hide m = x0.hide m := by
  unfold State.initCell
  simp only [State.modEst_hide m (.of rfl hm)]

theorem State.rerefStart_hide (m : Nat) (hm : Sub 131072 m) (x0 : State) (x1) (x2) : (State.rerefStart x0 x1 x2).hide m = x0.hide m := by
  unfold State.rerefStart
  simp only [hide_ite, ite_self, State.modThermo_hide m (.of rfl hm)]

theorem State.forward_hide (m : Nat) (hm : Sub 33554432 m) (x0 : State) (x1) (x2) (x3) : (State.forward x0 x1 x2 x3).hide m = x0.hide m := by
  unfold State.forward
  simp only [upd_25 m (.of rfl hm)]

theorem State.commitPolicy_hide (m : Nat) (hm : Sub 17179869184 m) (x0 : State) : (State.commitPolicy x0).hide m = x0.hide m := by
  unfold State.commitPolicy
  simp only [upd_34 m (.of rfl hm)]

theorem State.decideShed_hide (m : Nat) (hm : Sub 25165824 m) (x0 : State) : (State.decideShed x0).hide m = x0.hide m := by
  unfold State.decideShed
  simp only [hide_ite, ite_self, upd_23 m (.of rfl hm), upd_23_24 m (.of rfl hm)]

theorem State.gatesOff_hide (m : Nat) (hm : Sub 140737517715456 m) (x0 : State) : (State.gatesOff x0).hide m = x0.hide m := by
  unfold State.gatesOff
  simp only [State.noPeriods_hide m (.of rfl hm), upd_23_24_47 m (.of rfl hm)]

theorem State.showExcl_hide (m : Nat) (hm : Sub 1048576 m) (x0 : State) : (State.showExcl x0).hide m = x0.hide m := by
  unfold State.showExcl
  simp only [upd_20 m (.of rfl hm)]

theorem State.beginEntry_hide (m : Nat) (hm : Sub 536870912 m) (x0 : State) (x1) (x2) : (State.beginEntry x0 x1 x2).hide m = x0.hide m := by
  unfold State.beginEntry
  simp only [upd_29 m (.of rfl hm)]

theorem execResyncComplete_hide (m : Nat) (hm : Sub 67108864 m) (x0 : State) : (outState x0 (execResyncComplete x0)).hide m = x0.hide m := by
  unfold execResyncComplete
  simp only [hide_ite, ite_self, out_next, State.modLane_hide m (.of rfl hm)]

theorem State.zeroRestart_hide (m : Nat) (hm : Sub 32 m) (x0 : State) : (State.zeroRestart x0).hide m = x0.hide m := by
  unfold State.zeroRestart
  simp only [upd_5 m (.of rfl hm)]

theorem State.modSafe_hide (m : Nat) (hm : Sub 30786594013184 m) (x0 : State) (x1) : (State.modSafe x0 x1).hide m = x0.hide m := by
  unfold State.modSafe
  simp only [upd_28_42_43_44 m (.of rfl hm)]

theorem State.releaseFor_hide (m : Nat) (hm : Sub 2048 m) (x0 : State) (x1) : (State.releaseFor x0 x1).hide m = x0.hide m := by
  unfold State.releaseFor
  simp only [upd_11 m (.of rfl hm)]

theorem State.gridReading_hide (m : Nat) (hm : Sub 4096 m) (x0 : State) (x1) : (State.gridReading x0 x1).hide m = x0.hide m := by
  unfold State.gridReading
  simp only [hide_ite, ite_self, upd_12 m (.of rfl hm)]



theorem State.holdCell_hide (m : Nat) (hm : Sub 4 m) (x0 : State) (x1) : (State.holdCell x0 x1).hide m = x0.hide m := by
  unfold State.holdCell
  simp only [State.modChan_hide m (.of rfl hm)]

theorem State.recordWake_hide (m : Nat) (hm : Sub 536870912 m) (x0 : State) (x1) (x2) (x3) (x4) (x5) : (State.recordWake x0 x1 x2 x3 x4 x5).hide m = x0.hide m := by
  unfold State.recordWake
  simp only [upd_29 m (.of rfl hm)]

theorem State.beginOpen_hide (m : Nat) (hm : Sub 268435457 m) (x0 : State) : (State.beginOpen x0).hide m = x0.hide m := by
  unfold State.beginOpen
  simp only [upd_0_28 m (.of rfl hm)]

theorem State.setDisagree_hide (m : Nat) (hm : Sub 96 m) (x0 : State) (x1) (x2) : (State.setDisagree x0 x1 x2).hide m = x0.hide m := by
  unfold State.setDisagree
  simp only [hide_ite, ite_self, State.modBranch_hide m (.of rfl hm), upd_5 m (.of rfl hm)]

theorem State.noteTamper_hide (m : Nat) (hm : Sub 17179869184 m) (x0 : State) (x1) (x2) : (State.noteTamper x0 x1 x2).hide m = x0.hide m := by
  unfold State.noteTamper
  simp only [upd_34 m (.of rfl hm)]

theorem State.takeCurrents_hide (m : Nat) (hm : Sub 4 m) (x0 : State) (x1) (x2) : (State.takeCurrents x0 x1 x2).hide m = x0.hide m := by
  unfold State.takeCurrents
  simp only [implies_true, hide_foldl, State.modChan_hide m (.of rfl hm)]

theorem State.noteExecuted_hide (m : Nat) (hm : Sub 3221225472 m) (x0 : State) (x1) (x2) (x3) (x4) (x5) : (State.noteExecuted x0 x1 x2 x3 x4 x5).hide m = x0.hide m := by
  unfold State.noteExecuted
  simp only [hide_ite, ite_self, State.modPort_hide m (.of rfl hm), upd_31 m (.of rfl hm)]

theorem State.drainPasses_hide (m : Nat) (hm : Sub 8388608 m) (x0 : State) (x1) (x2) : (State.drainPasses x0 x1 x2).hide m = x0.hide m := by
  unfold State.drainPasses
  repeat' (first | (simp only [hide_ite, ite_self, implies_true, upd_23 m (.of rfl hm)]; done) | (simp only [hide_ite, ite_self, implies_true, upd_23 m (.of rfl hm)]; split) | split | (simp only [hide_ite, ite_self, implies_true, upd_23 m (.of rfl hm)]; with_reducible refine (hide_foldl m _ _ _ fun x a => ?_).trans ?_) | with_reducible refine (hide_foldl m _ _ _ fun x a => ?_).trans ?_)

theorem State.lawInputs_hide (m : Nat) (hm : Sub 16777216 m) (x0 : State) : (State.lawInputs x0).hide m = x0.hide m := by
  unfold State.lawInputs
  simp only [hide_ite, ite_self, State.fromRecord_hide m (.of rfl hm), upd_24 m (.of rfl hm)]

theorem State.noExtras_hide (m : Nat) (hm : Sub 4096 m) (x0 : State) : (State.noExtras x0).hide m = x0.hide m := by
  unfold State.noExtras
  simp only [upd_12 m (.of rfl hm)]

theorem State.watchGroup_hide (m : Nat) (hm : Sub 71680 m) (x0 : State) : (State.watchGroup x0).hide m = x0.hide m := by
  unfold State.watchGroup
  simp only [hide_ite, ite_self, State.releaseP37_hide m (.of rfl hm), upd_12_16 m (.of rfl hm)]

theorem State.excStep_hide (m : Nat) (hm : Sub 65536 m) (x0 : State) : (State.excStep x0).hide m = x0.hide m := by
  unfold State.excStep
  simp only [upd_16 m (.of rfl hm)]

theorem execPrimaryHandover_hide (m : Nat) (hm : Sub 33554432 m) (x0 : State) : (outState x0 (execPrimaryHandover x0)).hide m = x0.hide m := by
  unfold execPrimaryHandover
  repeat' (first | (simp only [hide_ite, ite_self, implies_true, out_ite, out_next, out_fault, upd_25 m (.of rfl hm)]; done) | (simp only [hide_ite, ite_self, implies_true, out_ite, out_next, out_fault, upd_25 m (.of rfl hm)]; split) | split | (simp only [hide_ite, ite_self, implies_true, out_ite, out_next, out_fault, upd_25 m (.of rfl hm)]; with_reducible refine (hide_foldl m _ _ _ fun x a => ?_).trans ?_) | with_reducible refine (hide_foldl m _ _ _ fun x a => ?_).trans ?_)

theorem execBackChannelMessage_hide (m : Nat) (hm : Sub 34 m) (x0) (x1) (x2 : State) : (outState x2 (execBackChannelMessage x0 x1 x2)).hide m = x2.hide m := by
  unfold execBackChannelMessage
  simp only [hide_ite, ite_self, out_ite, out_next, out_fault, State.modFe_hide m (.of rfl hm), upd_5 m (.of rfl hm)]

theorem execEstimatorStateSave_hide (m : Nat) (hm : Sub 8192 m) (x0 : State) : (outState x0 (execEstimatorStateSave x0)).hide m = x0.hide m := by
  unfold execEstimatorStateSave
  simp only [hide_ite, ite_self, out_next, State.saveEst_hide m (.of rfl hm)]

theorem execShedDwellExpire_hide (m : Nat) (hm : Sub 8388608 m) (x0 : State) : (outState x0 (execShedDwellExpire x0)).hide m = x0.hide m := by
  unfold execShedDwellExpire
  simp only [hide_ite, ite_self, out_next, upd_23 m (.of rfl hm)]

theorem State.rewriteSlices_hide (m : Nat) (hm : Sub 524288 m) (x0 : State) (x1) : (State.rewriteSlices x0 x1).hide m = x0.hide m := by
  unfold State.rewriteSlices
  simp only [hide_ite, ite_self, implies_true, hide_foldl, State.loadSlice_hide m (.of rfl hm)]

theorem execSpiOutDataRead_hide (m : Nat) (hm : Sub 8589934592 m) (x0 : State) : (outState x0 (execSpiOutDataRead x0)).hide m = x0.hide m := by
  unfold execSpiOutDataRead
  simp only [out_next, State.spiOut_hide m (.of rfl hm)]

theorem execSyncInEdge_hide (m : Nat) (hm : Sub 33554432 m) (x0) (x1 : State) : (outState x1 (execSyncInEdge x0 x1)).hide m = x1.hide m := by
  unfold execSyncInEdge
  simp only [hide_ite, ite_self, out_next, upd_25 m (.of rfl hm)]

theorem State.singleKeep_hide (m : Nat) (hm : Sub 16777344 m) (x0 : State) (x1) (x2) : (State.singleKeep x0 x1 x2).2.hide m = x0.hide m := by
  unfold State.singleKeep
  simp only [State.rnormFlags_hide m (.of rfl hm), upd_24 m (.of rfl hm)]

theorem State.initCells_hide (m : Nat) (hm : Sub 24576 m) (x0 : State) (x1) (x2) : (State.initCells x0 x1 x2).hide m = x0.hide m := by
  unfold State.initCells
  repeat' (first | (simp only [hide_ite, ite_self, implies_true, hide_foldl, State.initCell_hide m (.of rfl hm), upd_14 m (.of rfl hm), upd_13 m (.of rfl hm), upd_13_14 m (.of rfl hm)]; done) | (simp only [hide_ite, ite_self, implies_true, hide_foldl, State.initCell_hide m (.of rfl hm), upd_14 m (.of rfl hm), upd_13 m (.of rfl hm), upd_13_14 m (.of rfl hm)]; split) | split | (simp only [hide_ite, ite_self, implies_true, hide_foldl, State.initCell_hide m (.of rfl hm), upd_14 m (.of rfl hm), upd_13 m (.of rfl hm), upd_13_14 m (.of rfl hm)]; with_reducible refine (hide_foldl m _ _ _ fun x a => ?_).trans ?_) | with_reducible refine (hide_foldl m _ _ _ fun x a => ?_).trans ?_)

theorem State.nvmAsk_hide (m : Nat) (hm : Sub 1024 m) (x0 : State) (x1) : (State.nvmAsk x0 x1).hide m = x0.hide m := by
  unfold State.nvmAsk
  simp only [hide_ite, ite_self, upd_10 m (.of rfl hm)]

theorem State.dieDemand_hide (m : Nat) (hm : Sub 4096 m) (x0 : State) : (State.dieDemand x0).hide m = x0.hide m := by
  unfold State.dieDemand
  simp only [hide_ite, ite_self, State.startConversion_hide m (.of rfl hm), upd_12 m (.of rfl hm)]

theorem State.applyDecision_hide (m : Nat) (hm : Sub 6144 m) (x0 : State) (x1) (x2) : (State.applyDecision x0 x1 x2).hide m = x0.hide m := by
  unfold State.applyDecision
  simp only [hide_ite, ite_self, State.useDecision_hide m (.of rfl hm), State.tailOnly_hide m (.of rfl hm), State.releaseFor_hide m (.of rfl hm), State.noExtras_hide m (.of rfl hm)]

theorem execCoreLdoRetry_hide (m : Nat) (hm : Sub 536870912 m) (x0 : State) : (outState x0 (execCoreLdoRetry x0)).hide m = x0.hide m := by
  unfold execCoreLdoRetry
  simp only [hide_ite, ite_self, out_next, upd_29 m (.of rfl hm)]

theorem State.startBist_hide (m : Nat) (hm : Sub 68719477632 m) (x0 : State) : (State.startBist x0).hide m = x0.hide m := by
  unfold State.startBist
  simp only [upd_7_8_9_36 m (.of rfl hm)]

theorem fail_hide (m : Nat) (hm : Sub 0 m) (x0 : State) (x1) (x2) : (fail x0 x1 x2).s.hide m = x0.hide m := by
  unfold fail
  simp only []

theorem okAns_hide (m : Nat) (hm : Sub 0 m) (x0 : State) (x1) (x2) : (okAns x0 x1 x2).s.hide m = x0.hide m := by
  unfold okAns
  simp only []

theorem execRingPortRestored_hide (m : Nat) (hm : Sub 33554432 m) (x0) (x1 : State) : (outState x1 (execRingPortRestored x0 x1)).hide m = x1.hide m := by
  unfold execRingPortRestored
  simp only [hide_ite, ite_self, out_next, upd_25 m (.of rfl hm)]

theorem State.drawPhases_hide (m : Nat) (hm : Sub 34359738368 m) (n : Nat) (s : State) :
    (State.drawPhases n s).2.hide m = s.hide m := by
  induction n generalizing s with
  | zero => rfl
  | succ n ih => unfold State.drawPhases; simp only [ih, State.draw_hide m hm]

theorem State.loaded_hide (m : Nat) (hm : Sub 896 m) (x0 : State) (x1) (x2) : (State.loaded x0 x1 x2).hide m = x0.hide m := by
  unfold State.loaded
  simp only [hide_ite, ite_self, State.modPan_hide m (.of rfl hm), State.modSlot_hide m (.of rfl hm), upd_9 m (.of rfl hm)]

theorem opSnapshot_hide (m : Nat) (hm : Sub 0 m) (x0) (x1) (x2 : State) : (opSnapshot x0 x1 x2).s.hide m = x2.hide m := by
  unfold opSnapshot
  repeat' (first | (simp only [hide_ite, ite_self, implies_true, ans_ite, fail_s, refuse_s, okAns_s, fail_hide m (.of rfl hm), okAns_hide m (.of rfl hm)]; done) | (simp only [hide_ite, ite_self, implies_true, ans_ite, fail_s, refuse_s, okAns_s, fail_hide m (.of rfl hm), okAns_hide m (.of rfl hm)]; split) | split | (simp only [hide_ite, ite_self, implies_true, ans_ite, fail_s, refuse_s, okAns_s, fail_hide m (.of rfl hm), okAns_hide m (.of rfl hm)]; with_reducible refine (hide_foldl m _ _ _ fun x a => ?_).trans ?_) | with_reducible refine (hide_foldl m _ _ _ fun x a => ?_).trans ?_)

theorem State.jobFlags_hide (m : Nat) (hm : Sub 128 m) (x0 : State) (x1) (x2) : (State.jobFlags x0 x1 x2).hide m = x0.hide m := by
  unfold State.jobFlags
  simp only [State.modPan_hide m (.of rfl hm)]

theorem State.putOffSwap_hide (m : Nat) (hm : Sub 134217728 m) (x0 : State) : (State.putOffSwap x0).hide m = x0.hide m := by
  unfold State.putOffSwap
  simp only [hide_ite, ite_self, upd_27 m (.of rfl hm)]

theorem State.commitStep_hide (m : Nat) (_ : Sub 0 m) (s : State) (due : Bool) (f : State → State)
    (hf : ∀ x, (f x).hide m = x.hide m) : (s.commitStep due f).hide m = s.hide m := by
  unfold State.commitStep
  simp only [hide_ite, hf, ite_self]

theorem State.goodReading_hide (m : Nat) (hm : Sub 4096 m) (x0 : State) (x1) : (State.goodReading x0 x1).hide m = x0.hide m := by
  unfold State.goodReading
  simp only [upd_12 m (.of rfl hm)]

theorem State.clearSpectra_hide (m : Nat) (hm : Sub 65536 m) (x0 : State) : (State.clearSpectra x0).hide m = x0.hide m := by
  unfold State.clearSpectra
  simp only [upd_16 m (.of rfl hm)]

theorem State.ungatePans_hide (m : Nat) (hm : Sub 524416 m) (x0 : State) : (State.ungatePans x0).hide m = x0.hide m := by
  unfold State.ungatePans
  simp only [implies_true, hide_foldl, State.rewriteSlices_hide m (.of rfl hm), upd_7 m (.of rfl hm)]

theorem State.releaseToken_hide (m : Nat) (hm : Sub 281475110928384 m) (x0 : State) : (State.releaseToken x0).hide m = x0.hide m := by
  unfold State.releaseToken
  simp only [upd_27_48 m (.of rfl hm)]

theorem State.cfeNoValue_hide (m : Nat) (hm : Sub 32 m) (x0 : State) : (State.cfeNoValue x0).hide m = x0.hide m := by
  unfold State.cfeNoValue
  simp only [upd_5 m (.of rfl hm)]

theorem execPrechargeComplete_hide (m : Nat) (hm : Sub 268435456 m) (x0 : State) : (outState x0 (execPrechargeComplete x0)).hide m = x0.hide m := by
  unfold execPrechargeComplete
  simp only [hide_ite, ite_self, out_next, upd_28 m (.of rfl hm)]

theorem opPing_hide (m : Nat) (hm : Sub 0 m) (x0) (x1) (x2 : State) : (opPing x0 x1 x2).s.hide m = x2.hide m := by
  unfold opPing
  simp only [okAns_s]

theorem State.writeImage_hide (m : Nat) (hm : Sub 2147484672 m) (x0 : State) : (State.writeImage x0).hide m = x0.hide m := by
  unfold State.writeImage
  simp only [State.nvmAsk_hide m (.of rfl hm), upd_31 m (.of rfl hm)]

theorem State.setCounting_hide (m : Nat) (hm : Sub 24576 m) (x0 : State) (x1) : (State.setCounting x0 x1).hide m = x0.hide m := by
  unfold State.setCounting
  simp only [hide_ite, ite_self, upd_13_14 m (.of rfl hm)]

theorem execSoftStartDone_hide (m : Nat) (hm : Sub 8388608 m) (x0 : State) : (outState x0 (execSoftStartDone x0)).hide m = x0.hide m := by
  unfold execSoftStartDone
  simp only [hide_ite, ite_self, out_next, upd_23 m (.of rfl hm)]

theorem State.swapBoundary_hide (m : Nat) (hm : Sub 134217728 m) (x0 : State) : (State.swapBoundary x0).hide m = x0.hide m := by
  unfold State.swapBoundary
  simp only [hide_ite, ite_self, upd_27 m (.of rfl hm)]

theorem execRestStarved_hide (m : Nat) (hm : Sub 16384 m) (x0 : State) : (outState x0 (execRestStarved x0)).hide m = x0.hide m := by
  unfold execRestStarved
  simp only [hide_ite, ite_self, out_next, upd_14 m (.of rfl hm)]

theorem State.setBus_hide (m : Nat) (hm : Sub 12884901888 m) (x0 : State) (x1) (x2) : (State.setBus x0 x1 x2).hide m = x0.hide m := by
  unfold State.setBus
  simp only [hide_ite, ite_self, State.modCan_hide m (.of rfl hm), upd_33 m (.of rfl hm)]

theorem State.krScan_hide (m : Nat) (hm : Sub 8192 m) (x0 : State) (x1) : (State.krScan x0 x1).hide m = x0.hide m := by
  unfold State.krScan
  simp only [hide_ite, ite_self, State.modEst_hide m (.of rfl hm)]

theorem execEisVerdictTimeout_hide (m : Nat) (hm : Sub 67584 m) (x0 : State) : (outState x0 (execEisVerdictTimeout x0)).hide m = x0.hide m := by
  unfold execEisVerdictTimeout
  repeat' (first | (simp only [hide_ite, ite_self, implies_true, out_ite, out_next, out_fault, State.applyVerdict_hide m (.of rfl hm)]; done) | (simp only [hide_ite, ite_self, implies_true, out_ite, out_next, out_fault, State.applyVerdict_hide m (.of rfl hm)]; split) | split | (simp only [hide_ite, ite_self, implies_true, out_ite, out_next, out_fault, State.applyVerdict_hide m (.of rfl hm)]; with_reducible refine (hide_foldl m _ _ _ fun x a => ?_).trans ?_) | with_reducible refine (hide_foldl m _ _ _ fun x a => ?_).trans ?_)

theorem State.turnSlot_hide (m : Nat) (hm : Sub 1048576 m) (x0 : State) : (State.turnSlot x0).hide m = x0.hide m := by
  unfold State.turnSlot
  simp only [upd_20 m (.of rfl hm)]

theorem refuse_hide (m : Nat) (hm : Sub 0 m) (x0 : State) (x1) : (refuse x0 x1).s.hide m = x0.hide m := by
  unfold refuse
  simp only []

theorem execRingCopyEmit_hide (m : Nat) (hm : Sub 33554432 m) (x0) (x1 : State) : (outState x1 (execRingCopyEmit x0 x1)).hide m = x1.hide m := by
  unfold execRingCopyEmit
  simp only [hide_ite, ite_self, out_next, State.fixSlot_hide m (.of rfl hm), upd_25 m (.of rfl hm)]

theorem execModuleMissingLimit_hide (m : Nat) (hm : Sub 32768 m) (x0) (x1 : State) : (outState x1 (execModuleMissingLimit x0 x1)).hide m = x1.hide m := by
  unfold execModuleMissingLimit
  simp only [hide_ite, ite_self, out_ite, out_next, out_fault, upd_15 m (.of rfl hm)]

theorem State.freshLane_hide (m : Nat) (hm : Sub 158009458689 m) (x0 : State) : (State.freshLane x0).hide m = x0.hide m := by
  unfold State.freshLane
  simp only [upd_0_16_19_20_25_27_30_31_34_37 m (.of rfl hm)]

theorem State.noteBacklog_hide (m : Nat) (hm : Sub 2048 m) (x0 : State) : (State.noteBacklog x0).hide m = x0.hide m := by
  unfold State.noteBacklog
  simp only [hide_ite, ite_self, upd_11 m (.of rfl hm)]

theorem State.calStore_hide (m : Nat) (hm : Sub 131072 m) (x0 : State) (x1) (x2) (x3) : (State.calStore x0 x1 x2 x3).hide m = x0.hide m := by
  unfold State.calStore
  simp only [State.modThermo_hide m (.of rfl hm)]

theorem State.trimStreams_hide (m : Nat) (hm : Sub 2147483648 m) (x0 : State) : (State.trimStreams x0).hide m = x0.hide m := by
  unfold State.trimStreams
  repeat' (first | (simp only [hide_ite, ite_self, implies_true, hide_foldl, upd_31 m (.of rfl hm)]; done) | (simp only [hide_ite, ite_self, implies_true, hide_foldl, upd_31 m (.of rfl hm)]; split) | split | (simp only [hide_ite, ite_self, implies_true, hide_foldl, upd_31 m (.of rfl hm)]; with_reducible refine (hide_foldl m _ _ _ fun x a => ?_).trans ?_) | with_reducible refine (hide_foldl m _ _ _ fun x a => ?_).trans ?_)

theorem State.discipline_hide (m : Nat) (hm : Sub 34393292800 m) (x0 : State) (x1) (x2) (x3) : (State.discipline x0 x1 x2 x3).hide m = x0.hide m := by
  unfold State.discipline
  repeat' (first | (simp only [hide_ite, ite_self, implies_true, State.lockStep_hide m (.of rfl hm), upd_25 m (.of rfl hm)]; done) | (simp only [hide_ite, ite_self, implies_true, State.lockStep_hide m (.of rfl hm), upd_25 m (.of rfl hm)]; split) | split | (simp only [hide_ite, ite_self, implies_true, State.lockStep_hide m (.of rfl hm), upd_25 m (.of rfl hm)]; with_reducible refine (hide_foldl m _ _ _ fun x a => ?_).trans ?_) | with_reducible refine (hide_foldl m _ _ _ fun x a => ?_).trans ?_)

theorem State.wantSlice_hide (m : Nat) (hm : Sub 524288 m) (x0 : State) (x1) : (State.wantSlice x0 x1).hide m = x0.hide m := by
  unfold State.wantSlice
  simp only [hide_ite, ite_self, upd_19 m (.of rfl hm)]

theorem State.noticeCan_hide (m : Nat) (hm : Sub 4294967296 m) (x0 : State) (x1) (x2) (x3) : (State.noticeCan x0 x1 x2 x3).hide m = x0.hide m := by
  unfold State.noticeCan
  repeat' (first | (simp only [hide_ite, ite_self, implies_true, State.modCan_hide m (.of rfl hm), State.sendCan_hide m (.of rfl hm)]; done) | (simp only [hide_ite, ite_self, implies_true, State.modCan_hide m (.of rfl hm), State.sendCan_hide m (.of rfl hm)]; split) | split | (simp only [hide_ite, ite_self, implies_true, State.modCan_hide m (.of rfl hm), State.sendCan_hide m (.of rfl hm)]; with_reducible refine (hide_foldl m _ _ _ fun x a => ?_).trans ?_) | with_reducible refine (hide_foldl m _ _ _ fun x a => ?_).trans ?_)

theorem State.canRecover_hide (m : Nat) (hm : Sub 12884901888 m) (x0 : State) (x1) : (State.canRecover x0 x1).hide m = x0.hide m := by
  unfold State.canRecover
  simp only [hide_ite, ite_self, State.modCan_hide m (.of rfl hm), State.setBus_hide m (.of rfl hm)]

theorem State.nvmGrant_hide (m : Nat) (hm : Sub 1024 m) (x0 : State) : (State.nvmGrant x0).hide m = x0.hide m := by
  unfold State.nvmGrant
  repeat' (first | (simp only [hide_ite, ite_self, implies_true, upd_10 m (.of rfl hm)]; done) | (simp only [hide_ite, ite_self, implies_true, upd_10 m (.of rfl hm)]; split) | split | (simp only [hide_ite, ite_self, implies_true, upd_10 m (.of rfl hm)]; with_reducible refine (hide_foldl m _ _ _ fun x a => ?_).trans ?_) | with_reducible refine (hide_foldl m _ _ _ fun x a => ?_).trans ?_)

theorem opRingStatus_hide (m : Nat) (hm : Sub 0 m) (x0) (x1) (x2 : State) : (opRingStatus x0 x1 x2).s.hide m = x2.hide m := by
  unfold opRingStatus
  simp only [okAns_s]

theorem State.sendMirror_hide (m : Nat) (hm : Sub 134217728 m) (x0 : State) : (State.sendMirror x0).hide m = x0.hide m := by
  unfold State.sendMirror
  simp only [upd_27 m (.of rfl hm)]

theorem opCurCal_hide (m : Nat) (hm : Sub 32 m) (x0) (x1) (x2 : State) : (opCurCal x0 x1 x2).s.hide m = x2.hide m := by
  unfold opCurCal
  simp only [hide_ite, ite_self, ans_ite, fail_s, upd_5 m (.of rfl hm)]

theorem execNvmTransferComplete_hide (m : Nat) (hm : Sub 1024 m) (x0 : State) : (outState x0 (execNvmTransferComplete x0)).hide m = x0.hide m := by
  unfold execNvmTransferComplete
  repeat' (first | (simp only [hide_ite, ite_self, implies_true, out_ite, out_next, out_fault, State.nvmGrant_hide m (.of rfl hm), upd_10 m (.of rfl hm)]; done) | (simp only [hide_ite, ite_self, implies_true, out_ite, out_next, out_fault, State.nvmGrant_hide m (.of rfl hm), upd_10 m (.of rfl hm)]; split) | split | (simp only [hide_ite, ite_self, implies_true, out_ite, out_next, out_fault, State.nvmGrant_hide m (.of rfl hm), upd_10 m (.of rfl hm)]; with_reducible refine (hide_foldl m _ _ _ fun x a => ?_).trans ?_) | with_reducible refine (hide_foldl m _ _ _ fun x a => ?_).trans ?_)

theorem State.cutoff_hide (m : Nat) (hm : Sub 35 m) (x0 : State) : (State.cutoff x0).hide m = x0.hide m := by
  unfold State.cutoff
  simp only [upd_0_1_5 m (.of rfl hm)]

theorem State.giveRole_hide (m : Nat) (hm : Sub 384 m) (x0 : State) (x1) (x2) (x3) : (State.giveRole x0 x1 x2 x3).hide m = x0.hide m := by
  unfold State.giveRole
  simp only [State.modPan_hide m (.of rfl hm), State.modSlot_hide m (.of rfl hm)]

theorem opAbsorbedEvents_hide (m : Nat) (hm : Sub 0 m) (x0) (x1) (x2 : State) : (opAbsorbedEvents x0 x1 x2).s.hide m = x2.hide m := by
  unfold opAbsorbedEvents
  simp only [ite_self, ans_ite, fail_s, okAns_s]

theorem State.takeImage_hide (m : Nat) (hm : Sub 2148007936 m) (x0 : State) (x1) : (State.takeImage x0 x1).hide m = x0.hide m := by
  unfold State.takeImage
  simp only [upd_19_31 m (.of rfl hm)]

theorem State.sendPanRecord_hide (m : Nat) (hm : Sub 33554432 m) (x0 : State) (x1) (x2) (x3) (x4) (x5) : (State.sendPanRecord x0 x1 x2 x3 x4 x5).hide m = x0.hide m := by
  unfold State.sendPanRecord
  simp only [upd_25 m (.of rfl hm)]

theorem execEphemeralKeyExpire_hide (m : Nat) (hm : Sub 17179869184 m) (x0 : State) : (outState x0 (execEphemeralKeyExpire x0)).hide m = x0.hide m := by
  unfold execEphemeralKeyExpire
  simp only [hide_ite, ite_self, out_next, upd_34 m (.of rfl hm)]

theorem State.loseLanes_hide (m : Nat) (hm : Sub 281475178037248 m) (x0 : State) : (State.loseLanes x0).hide m = x0.hide m := by
  unfold State.loseLanes
  simp only [upd_26_27_48 m (.of rfl hm)]

theorem State.freshBoundary_hide (m : Nat) (hm : Sub 2147483648 m) (x0 : State) : (State.freshBoundary x0).hide m = x0.hide m := by
  unfold State.freshBoundary
  simp only [upd_31 m (.of rfl hm)]

theorem State.beginStart_hide (m : Nat) (hm : Sub 2199052615680 m) (x0 : State) : (State.beginStart x0).hide m = x0.hide m := by
  unfold State.beginStart
  simp only [upd_22_23_24_41 m (.of rfl hm)]

theorem State.accept_hide (m : Nat) (hm : Sub 134217728 m) (x0 : State) (x1) (x2) (x3) (x4) : (State.accept x0 x1 x2 x3 x4).hide m = x0.hide m := by
  unfold State.accept
  simp only [hide_ite, ite_self, upd_27 m (.of rfl hm)]

theorem State.feedResults_hide (m : Nat) (hm : Sub 75776 m) (x0 : State) (x1) : (State.feedResults x0 x1).hide m = x0.hide m := by
  unfold State.feedResults
  repeat' (first | (simp only [hide_ite, ite_self, implies_true, hide_foldl, State.releaseP37_hide m (.of rfl hm), State.modEst_hide m (.of rfl hm), upd_16 m (.of rfl hm)]; done) | (simp only [hide_ite, ite_self, implies_true, hide_foldl, State.releaseP37_hide m (.of rfl hm), State.modEst_hide m (.of rfl hm), upd_16 m (.of rfl hm)]; split) | split | (simp only [hide_ite, ite_self, implies_true, hide_foldl, State.releaseP37_hide m (.of rfl hm), State.modEst_hide m (.of rfl hm), upd_16 m (.of rfl hm)]; with_reducible refine (hide_foldl m _ _ _ fun x a => ?_).trans ?_) | with_reducible refine (hide_foldl m _ _ _ fun x a => ?_).trans ?_)

theorem State.modTap_hide (m : Nat) (hm : Sub 8 m) (x0 : State) (x1) (x2) : (State.modTap x0 x1 x2).hide m = x0.hide m := by
  unfold State.modTap
  simp only [upd_3 m (.of rfl hm)]

theorem State.slotPlanJob_hide (m : Nat) (hm : Sub 1048576 m) (x0 : State) : (State.slotPlanJob x0).hide m = x0.hide m := by
  unfold State.slotPlanJob
  repeat' (first | (simp only [hide_ite, ite_self, implies_true, State.balParams_hide m (.of rfl hm), upd_20 m (.of rfl hm)]; done) | (simp only [hide_ite, ite_self, implies_true, State.balParams_hide m (.of rfl hm), upd_20 m (.of rfl hm)]; split) | split | (simp only [hide_ite, ite_self, implies_true, State.balParams_hide m (.of rfl hm), upd_20 m (.of rfl hm)]; with_reducible refine (hide_foldl m _ _ _ fun x a => ?_).trans ?_) | with_reducible refine (hide_foldl m _ _ _ fun x a => ?_).trans ?_)

theorem State.convCapture_hide (m : Nat) (hm : Sub 34368126976 m) (x0 : State) (x1) (x2) (x3) (x4) : (State.convCapture x0 x1 x2 x3 x4).hide m = x0.hide m := by
  unfold State.convCapture
  repeat' (first | (simp only [hide_ite, ite_self, implies_true, State.draw_hide m (.of rfl hm), State.drawPhases_hide m (.of rfl hm), upd_23 m (.of rfl hm)]; done) | (simp only [hide_ite, ite_self, implies_true, State.draw_hide m (.of rfl hm), State.drawPhases_hide m (.of rfl hm), upd_23 m (.of rfl hm)]; split) | split | (simp only [hide_ite, ite_self, implies_true, State.draw_hide m (.of rfl hm), State.drawPhases_hide m (.of rfl hm), upd_23 m (.of rfl hm)]; with_reducible refine (hide_foldl m _ _ _ fun x a => ?_).trans ?_) | with_reducible refine (hide_foldl m _ _ _ fun x a => ?_).trans ?_)

theorem State.takeDecision_hide (m : Nat) (hm : Sub 7040 m) (x0 : State) (x1) : (State.takeDecision x0 x1).hide m = x0.hide m := by
  unfold State.takeDecision
  simp only [hide_ite, ite_self, State.startShadows_hide m (.of rfl hm), State.releaseFor_hide m (.of rfl hm), State.applyDecision_hide m (.of rfl hm), upd_12 m (.of rfl hm)]

theorem State.spiDiscard_hide (m : Nat) (hm : Sub 8589934592 m) (x0 : State) : (State.spiDiscard x0).hide m = x0.hide m := by
  unfold State.spiDiscard
  simp only [upd_33 m (.of rfl hm)]

theorem State.streamRecord_hide (m : Nat) (hm : Sub 15032385536 m) (x0 : State) (x1) : (State.streamRecord x0 x1).hide m = x0.hide m := by
  unfold State.streamRecord
  repeat' (first | (simp only [hide_ite, ite_self, implies_true, State.sendCan_hide m (.of rfl hm), State.sendSpi_hide m (.of rfl hm), upd_31 m (.of rfl hm)]; done) | (simp only [hide_ite, ite_self, implies_true, State.sendCan_hide m (.of rfl hm), State.sendSpi_hide m (.of rfl hm), upd_31 m (.of rfl hm)]; split) | split | (simp only [hide_ite, ite_self, implies_true, State.sendCan_hide m (.of rfl hm), State.sendSpi_hide m (.of rfl hm), upd_31 m (.of rfl hm)]; with_reducible refine (hide_foldl m _ _ _ fun x a => ?_).trans ?_) | with_reducible refine (hide_foldl m _ _ _ fun x a => ?_).trans ?_)

theorem execSpiIrqStatusWrite_hide (m : Nat) (hm : Sub 8589934592 m) (x0) (x1 : State) : (outState x1 (execSpiIrqStatusWrite x0 x1)).hide m = x1.hide m := by
  unfold execSpiIrqStatusWrite
  simp only [out_next, State.spiIrqStatus_hide m (.of rfl hm)]

theorem State.feModel_hide (m : Nat) (hm : Sub 4096 m) (x0 : State) (x1) : (State.feModel x0 x1).hide m = x0.hide m := by
  unfold State.feModel
  simp only [hide_ite, ite_self, upd_12 m (.of rfl hm)]

theorem execEclipseSwapDue_hide (m : Nat) (hm : Sub 134217728 m) (x0 : State) : (outState x0 (execEclipseSwapDue x0)).hide m = x0.hide m := by
  unfold execEclipseSwapDue
  simp only [hide_ite, ite_self, out_next, upd_27 m (.of rfl hm)]

theorem State.slotStart_hide (m : Nat) (hm : Sub 1048578 m) (x0 : State) : (State.slotStart x0).hide m = x0.hide m := by
  unfold State.slotStart
  repeat' (first | (simp only [hide_ite, ite_self, implies_true, State.beginSlot_hide m (.of rfl hm), State.newPlan_hide m (.of rfl hm), State.balDrain_hide m (.of rfl hm), State.turnSlot_hide m (.of rfl hm)]; done) | (simp only [hide_ite, ite_self, implies_true, State.beginSlot_hide m (.of rfl hm), State.newPlan_hide m (.of rfl hm), State.balDrain_hide m (.of rfl hm), State.turnSlot_hide m (.of rfl hm)]; split) | split | (simp only [hide_ite, ite_self, implies_true, State.beginSlot_hide m (.of rfl hm), State.newPlan_hide m (.of rfl hm), State.balDrain_hide m (.of rfl hm), State.turnSlot_hide m (.of rfl hm)]; with_reducible refine (hide_foldl m _ _ _ fun x a => ?_).trans ?_) | with_reducible refine (hide_foldl m _ _ _ fun x a => ?_).trans ?_)

theorem State.sendRing_hide (m : Nat) (hm : Sub 33554432 m) (x0 : State) (x1) (x2) (x3) : (State.sendRing x0 x1 x2 x3).hide m = x0.hide m := by
  unfold State.sendRing
  simp only [upd_25 m (.of rfl hm)]

theorem State.startPhases_hide (m : Nat) (hm : Sub 4194304 m) (x0 : State) : (State.startPhases x0).hide m = x0.hide m := by
  unfold State.startPhases
  simp only [implies_true, hide_foldl, State.modPhase_hide m (.of rfl hm)]

theorem State.twoHand_hide (m : Nat) (hm : Sub 268435456 m) (x0 : State) (x1) (x2) : (State.twoHand x0 x1 x2).hide m = x0.hide m := by
  unfold State.twoHand
  simp only [hide_ite, ite_self, upd_28 m (.of rfl hm)]

theorem execTableValidationComplete_hide (m : Nat) (hm : Sub 524288 m) (x0 : State) : (outState x0 (execTableValidationComplete x0)).hide m = x0.hide m := by
  unfold execTableValidationComplete
  repeat' (first | (simp only [hide_ite, ite_self, implies_true, out_ite, out_next, out_fault, upd_19 m (.of rfl hm)]; done) | (simp only [hide_ite, ite_self, implies_true, out_ite, out_next, out_fault, upd_19 m (.of rfl hm)]; split) | split | (simp only [hide_ite, ite_self, implies_true, out_ite, out_next, out_fault, upd_19 m (.of rfl hm)]; with_reducible refine (hide_foldl m _ _ _ fun x a => ?_).trans ?_) | with_reducible refine (hide_foldl m _ _ _ fun x a => ?_).trans ?_)

theorem State.cfeRelink_hide (m : Nat) (hm : Sub 32 m) (x0 : State) : (State.cfeRelink x0).hide m = x0.hide m := by
  unfold State.cfeRelink
  simp only [upd_5 m (.of rfl hm)]

theorem State.convStopWith_hide (m : Nat) (hm : Sub 140771877453824 m) (x0 : State) (x1) (x2) (x3) (x4) (x5) : (State.convStopWith x0 x1 x2 x3 x4 x5).hide m = x0.hide m := by
  unfold State.convStopWith
  simp only [hide_ite, ite_self, State.gatesOff_hide m (.of rfl hm), State.convCapture_hide m (.of rfl hm), upd_23 m (.of rfl hm)]

theorem State.owDecide_hide (m : Nat) (hm : Sub 18 m) (x0 : State) : (State.owDecide x0).hide m = x0.hide m := by
  unfold State.owDecide
  simp only [hide_ite, ite_self, upd_1_4 m (.of rfl hm)]

theorem State.takeStatus_hide (m : Nat) (hm : Sub 65536 m) (x0 : State) (x1) : (State.takeStatus x0 x1).hide m = x0.hide m := by
  unfold State.takeStatus
  simp only [hide_ite, ite_self, upd_16 m (.of rfl hm)]

theorem State.zeroCheck_hide (m : Nat) (hm : Sub 32 m) (x0 : State) : (State.zeroCheck x0).hide m = x0.hide m := by
  unfold State.zeroCheck
  simp only [hide_ite, ite_self, State.zeroRestart_hide m (.of rfl hm)]

theorem State.capture_hide (m : Nat) (hm : Sub 2097152 m) (x0 : State) (x1) (x2) (x3) : (State.capture x0 x1 x2 x3).hide m = x0.hide m := by
  unfold State.capture
  simp only [hide_ite, ite_self, upd_21 m (.of rfl hm)]

theorem State.takeInstance_hide (m : Nat) (hm : Sub 2048 m) (x0 : State) (x1) (x2) (x3) : (State.takeInstance x0 x1 x2 x3).hide m = x0.hide m := by
  unfold State.takeInstance
  repeat' (first | (simp only [hide_ite, ite_self, implies_true, upd_11 m (.of rfl hm)]; done) | (simp only [hide_ite, ite_self, implies_true, upd_11 m (.of rfl hm)]; split) | split | (simp only [hide_ite, ite_self, implies_true, upd_11 m (.of rfl hm)]; with_reducible refine (hide_foldl m _ _ _ fun x a => ?_).trans ?_) | with_reducible refine (hide_foldl m _ _ _ fun x a => ?_).trans ?_)

theorem State.endRequest_hide (m : Nat) (hm : Sub 536870912 m) (x0 : State) (x1) (x2) (x3) (x4) : (State.endRequest x0 x1 x2 x3 x4).hide m = x0.hide m := by
  unfold State.endRequest
  repeat' (first | (simp only [hide_ite, ite_self, implies_true, upd_29 m (.of rfl hm)]; done) | (simp only [hide_ite, ite_self, implies_true, upd_29 m (.of rfl hm)]; split) | split | (simp only [hide_ite, ite_self, implies_true, upd_29 m (.of rfl hm)]; with_reducible refine (hide_foldl m _ _ _ fun x a => ?_).trans ?_) | with_reducible refine (hide_foldl m _ _ _ fun x a => ?_).trans ?_)

theorem State.spiInTimeout_hide (m : Nat) (hm : Sub 8589934592 m) (x0 : State) : (State.spiInTimeout x0).hide m = x0.hide m := by
  unfold State.spiInTimeout
  simp only [hide_ite, ite_self, State.spiDiscard_hide m (.of rfl hm)]

theorem State.holdStep_hide (m : Nat) (hm : Sub 8192 m) (x0 : State) (x1) : (State.holdStep x0 x1).hide m = x0.hide m := by
  unfold State.holdStep
  simp only [implies_true, hide_foldl, State.modEst_hide m (.of rfl hm)]

theorem State.lanesDown_hide (m : Nat) (hm : Sub 281475178037248 m) (x0 : State) (x1) : (State.lanesDown x0 x1).hide m = x0.hide m := by
  unfold State.lanesDown
  simp only [State.modLane_hide m (.of rfl hm), State.releaseToken_hide m (.of rfl hm), upd_27 m (.of rfl hm)]

theorem State.specJob_hide (m : Nat) (hm : Sub 65536 m) (x0 : State) (x1) : (State.specJob x0 x1).hide m = x0.hide m := by
  unfold State.specJob
  repeat' (first | (simp only [hide_ite, ite_self, implies_true, hide_foldl, State.curStamp_hide m (.of rfl hm), State.cellStamp_hide m (.of rfl hm)]; done) | (simp only [hide_ite, ite_self, implies_true, hide_foldl, State.curStamp_hide m (.of rfl hm), State.cellStamp_hide m (.of rfl hm)]; split) | split | (simp only [hide_ite, ite_self, implies_true, hide_foldl, State.curStamp_hide m (.of rfl hm), State.cellStamp_hide m (.of rfl hm)]; with_reducible refine (hide_foldl m _ _ _ fun x a => ?_).trans ?_) | with_reducible refine (hide_foldl m _ _ _ fun x a => ?_).trans ?_)

theorem State.loadConfig_hide (m : Nat) (hm : Sub 139756847107 m) (x0 : State) : (State.loadConfig x0).hide m = x0.hide m := by
  unfold State.loadConfig
  simp only [hide_ite, ite_self, State.commitPosition_hide m (.of rfl hm), State.takeImage_hide m (.of rfl hm), upd_31 m (.of rfl hm), upd_0_31_37 m (.of rfl hm), upd_1_14_21_27 m (.of rfl hm)]

theorem State.startRelink_hide (m : Nat) (hm : Sub 2 m) (x0 : State) (x1) : (State.startRelink x0 x1).hide m = x0.hide m := by
  unfold State.startRelink
  simp only [State.modFe_hide m (.of rfl hm)]

theorem opProtEvents_hide (m : Nat) (hm : Sub 0 m) (x0) (x1) (x2 : State) : (opProtEvents x0 x1 x2).s.hide m = x2.hide m := by
  unfold opProtEvents
  simp only [ite_self, ans_ite, fail_s, okAns_s]

theorem State.comparator_hide (m : Nat) (hm : Sub 2 m) (x0 : State) (x1) (x2) (x3) (x4) : (State.comparator x0 x1 x2 x3 x4).hide m = x0.hide m := by
  unfold State.comparator
  simp only [hide_ite, ite_self, State.modFe_hide m (.of rfl hm)]

theorem State.endSweep_hide (m : Nat) (hm : Sub 33619968 m) (x0 : State) (x1) (x2) : (State.endSweep x0 x1 x2).hide m = x0.hide m := by
  unfold State.endSweep
  simp only [hide_ite, ite_self, State.queueControl_hide m (.of rfl hm), upd_16 m (.of rfl hm)]

theorem State.allEnum_hide (m : Nat) (hm : Sub 34359738368 m) (l : List Nat) (s : State) :
    (State.allEnum l s).2.hide m = s.hide m := by
  induction l generalizing s with
  | nil => rfl
  | cons a l ih => unfold State.allEnum; simp only [ih, State.draw_hide m hm]

theorem State.clearCause_hide (m : Nat) (hm : Sub 2097152 m) (x0 : State) (x1) : (State.clearCause x0 x1).hide m = x0.hide m := by
  unfold State.clearCause
  simp only [hide_ite, ite_self, State.capture_hide m (.of rfl hm), upd_21 m (.of rfl hm)]

theorem State.summaryJob_hide (m : Nat) (hm : Sub 33603584 m) (x0 : State) : (State.summaryJob x0).hide m = x0.hide m := by
  unfold State.summaryJob
  simp only [hide_ite, ite_self, State.sendPanRecord_hide m (.of rfl hm), upd_14_15 m (.of rfl hm), upd_14_15_25 m (.of rfl hm)]

theorem opReprovision_hide (m : Nat) (hm : Sub 17179869184 m) (x0) (x1) (x2 : State) : (opReprovision x0 x1 x2).s.hide m = x2.hide m := by
  unfold opReprovision
  simp only [hide_ite, ite_self, ans_ite, fail_s, upd_34 m (.of rfl hm)]

theorem execDrainComplete_hide (m : Nat) (hm : Sub 140737517715456 m) (x0 : State) : (outState x0 (execDrainComplete x0)).hide m = x0.hide m := by
  unfold execDrainComplete
  simp only [hide_ite, ite_self, out_next, State.gatesOff_hide m (.of rfl hm), upd_23 m (.of rfl hm)]

theorem State.followRequest_hide (m : Nat) (hm : Sub 268435457 m) (x0 : State) : (State.followRequest x0).hide m = x0.hide m := by
  unfold State.followRequest
  repeat' (first | (simp only [hide_ite, ite_self, implies_true, State.beginOpen_hide m (.of rfl hm), upd_28 m (.of rfl hm)]; done) | (simp only [hide_ite, ite_self, implies_true, State.beginOpen_hide m (.of rfl hm), upd_28 m (.of rfl hm)]; split) | split | (simp only [hide_ite, ite_self, implies_true, State.beginOpen_hide m (.of rfl hm), upd_28 m (.of rfl hm)]; with_reducible refine (hide_foldl m _ _ _ fun x a => ?_).trans ?_) | with_reducible refine (hide_foldl m _ _ _ fun x a => ?_).trans ?_)

theorem State.emptyCheck_hide (m : Nat) (hm : Sub 8192 m) (x0 : State) (x1) : (State.emptyCheck x0 x1).hide m = x0.hide m := by
  unfold State.emptyCheck
  simp only [State.modEst_hide m (.of rfl hm)]

theorem State.startWatch_hide (m : Nat) (hm : Sub 69632 m) (x0 : State) (x1) : (State.startWatch x0 x1).hide m = x0.hide m := by
  unfold State.startWatch
  simp only [State.clearSpectra_hide m (.of rfl hm), upd_12_16 m (.of rfl hm)]

theorem State.shadowed_hide (m : Nat) (hm : Sub 768 m) (x0 : State) (x1) : (State.shadowed x0 x1).hide m = x0.hide m := by
  unfold State.shadowed
  simp only [hide_ite, ite_self, State.modSlot_hide m (.of rfl hm), upd_9 m (.of rfl hm)]

theorem State.journalHead_hide (m : Nat) (hm : Sub 34359738368 m) (x0 : State) : (State.journalHead x0).2.hide m = x0.hide m := by
  unfold State.journalHead
  repeat' (first | (simp only [hide_ite, ite_self, implies_true, snd_ite, State.drawBytes_hide m (.of rfl hm)]; done) | (simp only [hide_ite, ite_self, implies_true, snd_ite, State.drawBytes_hide m (.of rfl hm)]; split) | split | (simp only [hide_ite, ite_self, implies_true, snd_ite, State.drawBytes_hide m (.of rfl hm)]; with_reducible refine (hide_foldl m _ _ _ fun x a => ?_).trans ?_) | with_reducible refine (hide_foldl m _ _ _ fun x a => ?_).trans ?_)

theorem State.restoreCell_hide (m : Nat) (hm : Sub 8192 m) (x0 : State) (x1) : (State.restoreCell x0 x1).hide m = x0.hide m := by
  unfold State.restoreCell
  simp only [State.modEst_hide m (.of rfl hm)]

theorem State.closeWindow_hide (m : Nat) (hm : Sub 35253091567650 m) (x0 : State) : (State.closeWindow x0).hide m = x0.hide m := by
  unfold State.closeWindow
  simp only [State.checkpoint_hide m (.of rfl hm), upd_1_5_11_45 m (.of rfl hm)]

theorem State.withdrawCause_hide (m : Nat) (hm : Sub 2097152 m) (x0 : State) (x1) : (State.withdrawCause x0 x1).hide m = x0.hide m := by
  unfold State.withdrawCause
  simp only [hide_ite, ite_self, State.clearCause_hide m (.of rfl hm), upd_21 m (.of rfl hm)]

theorem execFallbackGatesOff_hide (m : Nat) (hm : Sub 140737651933184 m) (x0 : State) : (outState x0 (execFallbackGatesOff x0)).hide m = x0.hide m := by
  unfold execFallbackGatesOff
  simp only [hide_ite, ite_self, out_next, State.gatesOff_hide m (.of rfl hm), upd_23_27 m (.of rfl hm)]

theorem State.single_hide (m : Nat) (hm : Sub 16777344 m) (x0 : State) (x1) : (State.single x0 x1).2.hide m = x0.hide m := by
  unfold State.single
  simp only [State.rnormFlags_hide m (.of rfl hm), upd_24 m (.of rfl hm)]

theorem State.fullSet_hide (m : Nat) (hm : Sub 12582912 m) (x0 : State) : (State.fullSet x0).hide m = x0.hide m := by
  unfold State.fullSet
  simp only [implies_true, hide_foldl, State.modPhase_hide m (.of rfl hm), upd_23 m (.of rfl hm)]

theorem execSluiceLoadComplete_hide (m : Nat) (hm : Sub 896 m) (x0) (x1) (x2 : State) : (outState x2 (execSluiceLoadComplete x0 x1 x2)).hide m = x2.hide m := by
  unfold execSluiceLoadComplete
  simp only [hide_ite, ite_self, out_ite, out_next, out_fault, State.loaded_hide m (.of rfl hm)]

theorem State.losePanData_hide (m : Nat) (hm : Sub 70437486444668 m) (x0 : State) : (State.losePanData x0).hide m = x0.hide m := by
  unfold State.losePanData
  simp only [State.dropSlices_hide m (.of rfl hm), upd_2_3_4_5_6_14_15_16_17_20_22_24_36_46 m (.of rfl hm)]

theorem State.coldBase_hide (m : Nat) (hm : Sub 1125075273121791 m) (x0 : State) (x1) : (State.coldBase x0 x1).hide m = x0.hide m := by
  unfold State.coldBase
  simp only [State.nonVolatile_hide m (.of rfl hm), State.initCells_hide m (.of rfl hm), State.startBist_hide m (.of rfl hm), upd_25_29 m (.of rfl hm)]

theorem opParamSet_hide (m : Nat) (hm : Sub 2147483648 m) (x0) (x1) (x2 : State) : (opParamSet x0 x1 x2).s.hide m = x2.hide m := by
  unfold opParamSet
  repeat' (first | (simp only [hide_ite, ite_self, implies_true, ans_ite, fail_s, refuse_s, okAns_s, State.stage_hide m (.of rfl hm), fail_hide m (.of rfl hm), okAns_hide m (.of rfl hm)]; done) | (simp only [hide_ite, ite_self, implies_true, ans_ite, fail_s, refuse_s, okAns_s, State.stage_hide m (.of rfl hm), fail_hide m (.of rfl hm), okAns_hide m (.of rfl hm)]; split) | split | (simp only [hide_ite, ite_self, implies_true, ans_ite, fail_s, refuse_s, okAns_s, State.stage_hide m (.of rfl hm), fail_hide m (.of rfl hm), okAns_hide m (.of rfl hm)]; with_reducible refine (hide_foldl m _ _ _ fun x a => ?_).trans ?_) | with_reducible refine (hide_foldl m _ _ _ fun x a => ?_).trans ?_)

theorem execFeAuxReturn_hide (m : Nat) (hm : Sub 34 m) (x0) (x1 : State) : (outState x1 (execFeAuxReturn x0 x1)).hide m = x1.hide m := by
  unfold execFeAuxReturn
  simp only [hide_ite, ite_self, out_ite, out_next, out_fault, State.startRelink_hide m (.of rfl hm), State.modFe_hide m (.of rfl hm), upd_5 m (.of rfl hm)]

theorem State.recordMissing_hide (m : Nat) (hm : Sub 268435520 m) (x0 : State) (x1) (x2) : (State.recordMissing x0 x1 x2).hide m = x0.hide m := by
  unfold State.recordMissing
  simp only [hide_ite, ite_self, State.modBranch_hide m (.of rfl hm), State.prechargeFrame_hide m (.of rfl hm)]

theorem State.queueRequest_hide (m : Nat) (hm : Sub 536870912 m) (x0 : State) (x1) : (State.queueRequest x0 x1).hide m = x0.hide m := by
  unfold State.queueRequest
  simp only [State.endRequest_hide m (.of rfl hm), upd_29 m (.of rfl hm)]

theorem execBusOv_hide (m : Nat) (hm : Sub 140771877453824 m) (x0) (x1 : State) : (outState x1 (execBusOv x0 x1)).hide m = x1.hide m := by
  unfold execBusOv
  simp only [hide_ite, ite_self, out_next, State.convStopWith_hide m (.of rfl hm)]

theorem State.respread_hide (m : Nat) (hm : Sub 4194304 m) (x0 : State) : (State.respread x0).hide m = x0.hide m := by
  unfold State.respread
  simp only [implies_true, hide_foldl, State.modPhase_hide m (.of rfl hm)]

theorem execRelinkRetry_hide (m : Nat) (hm : Sub 34 m) (x0) (x1 : State) : (outState x1 (execRelinkRetry x0 x1)).hide m = x1.hide m := by
  unfold execRelinkRetry
  simp only [hide_ite, ite_self, out_ite, out_next, out_fault, State.modFe_hide m (.of rfl hm), upd_5 m (.of rfl hm)]

theorem opFwActivate_hide (m : Nat) (hm : Sub 17179869184 m) (x0) (x1) (x2 : State) : (opFwActivate x0 x1 x2).s.hide m = x2.hide m := by
  unfold opFwActivate
  simp only [hide_ite, ite_self, ans_ite, fail_s, upd_34 m (.of rfl hm)]

theorem execBackChannelCutoff_hide (m : Nat) (hm : Sub 35 m) (x0 : State) : (outState x0 (execBackChannelCutoff x0)).hide m = x0.hide m := by
  unfold execBackChannelCutoff
  simp only [out_next, State.cutoff_hide m (.of rfl hm)]

theorem execBalSlotStart_hide (m : Nat) (hm : Sub 1048578 m) (x0 : State) : (outState x0 (execBalSlotStart x0)).hide m = x0.hide m := by
  unfold execBalSlotStart
  simp only [out_next, State.slotStart_hide m (.of rfl hm)]

theorem execFeThermalRelease_hide (m : Nat) (hm : Sub 2 m) (x0) (x1 : State) : (outState x1 (execFeThermalRelease x0 x1)).hide m = x1.hide m := by
  unfold execFeThermalRelease
  simp only [hide_ite, ite_self, out_ite, out_next, out_fault, State.modFe_hide m (.of rfl hm)]

theorem State.decide115_hide (m : Nat) (hm : Sub 6144 m) (x0 : State) : (State.decide115 x0).hide m = x0.hide m := by
  unfold State.decide115
  simp only [State.releaseFor_hide m (.of rfl hm), upd_12 m (.of rfl hm)]

theorem State.single35_hide (m : Nat) (hm : Sub 128 m) (x0 : State) (x1) : (State.single35 x0 x1).2.hide m = x0.hide m := by
  unfold State.single35
  simp only [State.rnormFlags_hide m (.of rfl hm)]

theorem State.anchorCell_hide (m : Nat) (hm : Sub 8192 m) (x0 : State) (x1) (x2) (x3) (x4) : (State.anchorCell x0 x1 x2 x3 x4).hide m = x0.hide m := by
  unfold State.anchorCell
  simp only [hide_ite, ite_self, State.modEst_hide m (.of rfl hm), State.learnPoint_hide m (.of rfl hm)]

theorem opEisResult_hide (m : Nat) (hm : Sub 0 m) (x0) (x1) (x2 : State) : (opEisResult x0 x1 x2).s.hide m = x2.hide m := by
  unfold opEisResult
  repeat' (first | (simp only [hide_ite, ite_self, implies_true, ans_ite, fail_s, refuse_s, okAns_s, fail_hide m (.of rfl hm), okAns_hide m (.of rfl hm)]; done) | (simp only [hide_ite, ite_self, implies_true, ans_ite, fail_s, refuse_s, okAns_s, fail_hide m (.of rfl hm), okAns_hide m (.of rfl hm)]; split) | split | (simp only [hide_ite, ite_self, implies_true, ans_ite, fail_s, refuse_s, okAns_s, fail_hide m (.of rfl hm), okAns_hide m (.of rfl hm)]; with_reducible refine (hide_foldl m _ _ _ fun x a => ?_).trans ?_) | with_reducible refine (hide_foldl m _ _ _ fun x a => ?_).trans ?_)

theorem execSafeLawGatesOff_hide (m : Nat) (hm : Sub 140771877453824 m) (x0 : State) : (outState x0 (execSafeLawGatesOff x0)).hide m = x0.hide m := by
  unfold execSafeLawGatesOff
  simp only [hide_ite, ite_self, out_next, State.convStopWith_hide m (.of rfl hm)]

theorem execPortLineDown_hide (m : Nat) (hm : Sub 34 m) (x0) (x1) (x2 : State) : (outState x2 (execPortLineDown x0 x1 x2)).hide m = x2.hide m := by
  unfold execPortLineDown
  simp only [hide_ite, ite_self, out_ite, out_next, out_fault, State.startRelink_hide m (.of rfl hm), State.modFe_hide m (.of rfl hm), State.cfeRelink_hide m (.of rfl hm), upd_5 m (.of rfl hm)]

theorem State.followBranch_hide (m : Nat) (hm : Sub 32 m) (x0 : State) (x1) : (State.followBranch x0 x1).hide m = x0.hide m := by
  unfold State.followBranch
  simp only [hide_ite, ite_self, State.rebase_hide m (.of rfl hm)]

theorem State.windowWork_hide (m : Nat) (hm : Sub 1048578 m) (x0 : State) : (State.windowWork x0).hide m = x0.hide m := by
  unfold State.windowWork
  simp only [hide_ite, ite_self, State.setPattern_hide m (.of rfl hm), State.balReadback_hide m (.of rfl hm)]

theorem State.restPoint_hide (m : Nat) (hm : Sub 24576 m) (x0 : State) (x1) : (State.restPoint x0 x1).hide m = x0.hide m := by
  unfold State.restPoint
  simp only [hide_ite, ite_self, State.modEst_hide m (.of rfl hm), State.learnPoint_hide m (.of rfl hm), upd_14 m (.of rfl hm)]

theorem State.spiRead_hide (m : Nat) (hm : Sub 8589934592 m) (x0 : State) (x1) : (State.spiRead x0 x1).hide m = x0.hide m := by
  unfold State.spiRead
  simp only [hide_ite, ite_self, State.spiOut_hide m (.of rfl hm), upd_33 m (.of rfl hm)]

theorem State.startSweep_hide (m : Nat) (hm : Sub 69632 m) (x0 : State) (x1) (x2) (x3) : (State.startSweep x0 x1 x2 x3).hide m = x0.hide m := by
  unfold State.startSweep
  simp only [State.clearSpectra_hide m (.of rfl hm), upd_12_16 m (.of rfl hm)]

theorem opIdentify_hide (m : Nat) (hm : Sub 0 m) (x0) (x1) (x2 : State) : (opIdentify x0 x1 x2).s.hide m = x2.hide m := by
  unfold opIdentify
  simp only [okAns_s]

theorem State.startReturn_hide (m : Nat) (hm : Sub 570425344 m) (x0 : State) (x1) : (State.startReturn x0 x1).hide m = x0.hide m := by
  unfold State.startReturn
  simp only [hide_ite, ite_self, State.sendTone_hide m (.of rfl hm), upd_29 m (.of rfl hm)]

theorem State.restoreRole_hide (m : Nat) (hm : Sub 70368766451772 m) (x0 : State) (x1) : (State.restoreRole x0 x1).hide m = x0.hide m := by
  unfold State.restoreRole
  repeat' (first | (simp only [hide_ite, ite_self, implies_true, hide_foldl, State.modChan_hide m (.of rfl hm), State.modEst_hide m (.of rfl hm), upd_16 m (.of rfl hm), upd_5 m (.of rfl hm), upd_14_15 m (.of rfl hm), upd_16_17 m (.of rfl hm), upd_20 m (.of rfl hm), upd_3_4_20 m (.of rfl hm), upd_22 m (.of rfl hm), upd_24_46 m (.of rfl hm), upd_3_4_5_14_15_16_17_20_22_24_46 m (.of rfl hm)]; done) | (simp only [hide_ite, ite_self, implies_true, hide_foldl, State.modChan_hide m (.of rfl hm), State.modEst_hide m (.of rfl hm), upd_16 m (.of rfl hm), upd_5 m (.of rfl hm), upd_14_15 m (.of rfl hm), upd_16_17 m (.of rfl hm), upd_20 m (.of rfl hm), upd_3_4_20 m (.of rfl hm), upd_22 m (.of rfl hm), upd_24_46 m (.of rfl hm), upd_3_4_5_14_15_16_17_20_22_24_46 m (.of rfl hm)]; split) | split | (simp only [hide_ite, ite_self, implies_true, hide_foldl, State.modChan_hide m (.of rfl hm), State.modEst_hide m (.of rfl hm), upd_16 m (.of rfl hm), upd_5 m (.of rfl hm), upd_14_15 m (.of rfl hm), upd_16_17 m (.of rfl hm), upd_20 m (.of rfl hm), upd_3_4_20 m (.of rfl hm), upd_22 m (.of rfl hm), upd_24_46 m (.of rfl hm), upd_3_4_5_14_15_16_17_20_22_24_46 m (.of rfl hm)]; with_reducible refine (hide_foldl m _ _ _ fun x a => ?_).trans ?_) | with_reducible refine (hide_foldl m _ _ _ fun x a => ?_).trans ?_)

theorem State.applyPeak_hide (m : Nat) (hm : Sub 4194304 m) (x0 : State) (x1) : (State.applyPeak x0 x1).hide m = x0.hide m := by
  unfold State.applyPeak
  simp only [State.modPhase_hide m (.of rfl hm)]

theorem State.sendReply_hide (m : Nat) (hm : Sub 13992198144 m) (x0 : State) (x1) (x2) : (State.sendReply x0 x1 x2).hide m = x0.hide m := by
  unfold State.sendReply
  repeat' (first | (simp only [hide_ite, ite_self, implies_true, State.modPort_hide m (.of rfl hm), State.sendCan_hide m (.of rfl hm), State.sendSpi_hide m (.of rfl hm), State.sendRing_hide m (.of rfl hm)]; done) | (simp only [hide_ite, ite_self, implies_true, State.modPort_hide m (.of rfl hm), State.sendCan_hide m (.of rfl hm), State.sendSpi_hide m (.of rfl hm), State.sendRing_hide m (.of rfl hm)]; split) | split | (simp only [hide_ite, ite_self, implies_true, State.modPort_hide m (.of rfl hm), State.sendCan_hide m (.of rfl hm), State.sendSpi_hide m (.of rfl hm), State.sendRing_hide m (.of rfl hm)]; with_reducible refine (hide_foldl m _ _ _ fun x a => ?_).trans ?_) | with_reducible refine (hide_foldl m _ _ _ fun x a => ?_).trans ?_)

theorem State.estWindow_hide (m : Nat) (hm : Sub 663552 m) (x0 : State) (x1) : (State.estWindow x0 x1).hide m = x0.hide m := by
  unfold State.estWindow
  simp only [hide_ite, ite_self, State.thermoDecay_hide m (.of rfl hm), State.modEst_hide m (.of rfl hm), State.krScan_hide m (.of rfl hm), State.wantSlice_hide m (.of rfl hm)]

theorem opConvFaultRecord_hide (m : Nat) (hm : Sub 0 m) (x0) (x1) (x2 : State) : (opConvFaultRecord x0 x1 x2).s.hide m = x2.hide m := by
  unfold opConvFaultRecord
  simp only [ite_self, ans_ite, fail_s, okAns_s]

theorem execProtOnlyContactorOpen_hide (m : Nat) (hm : Sub 402653185 m) (x0 : State) : (outState x0 (execProtOnlyContactorOpen x0)).hide m = x0.hide m := by
  unfold execProtOnlyContactorOpen
  simp only [hide_ite, ite_self, out_next, State.followRequest_hide m (.of rfl hm), upd_27_28 m (.of rfl hm)]

theorem State.endPeriod_hide (m : Nat) (hm : Sub 12582912 m) (x0 : State) (x1) (x2) : (State.endPeriod x0 x1 x2).hide m = x0.hide m := by
  unfold State.endPeriod
  simp only [State.modPhase_hide m (.of rfl hm), upd_23 m (.of rfl hm)]

theorem State.notch_hide (m : Nat) (hm : Sub 16777344 m) (x0 : State) (x1) : (State.notch x0 x1).2.hide m = x0.hide m := by
  unfold State.notch
  simp only [hide_ite, ite_self, snd_ite, State.single_hide m (.of rfl hm), upd_24 m (.of rfl hm)]

theorem State.settleBus_hide (m : Nat) (hm : Sub 12884901888 m) (x0 : State) (x1) : (State.settleBus x0 x1).hide m = x0.hide m := by
  unfold State.settleBus
  simp only [hide_ite, ite_self, State.setBus_hide m (.of rfl hm)]

theorem State.toStandby_hide (m : Nat) (hm : Sub 137573171201 m) (x0 : State) (x1) : (State.toStandby x0 x1).2.hide m = x0.hide m := by
  unfold State.toStandby
  simp only [hide_ite, ite_self, snd_ite, State.requestContactors_hide m (.of rfl hm), State.deferMode_hide m (.of rfl hm), upd_0_37 m (.of rfl hm)]

theorem State.shareTrims_hide (m : Nat) (hm : Sub 4194432 m) (x0 : State) : (State.shareTrims x0).hide m = x0.hide m := by
  unfold State.shareTrims
  simp only [hide_ite, ite_self, implies_true, hide_foldl, State.rnormFlags_hide m (.of rfl hm), State.modPhase_hide m (.of rfl hm), upd_22 m (.of rfl hm)]

theorem execBlockStatusPeriodic_hide (m : Nat) (hm : Sub 33554432 m) (x0 : State) : (outState x0 (execBlockStatusPeriodic x0)).hide m = x0.hide m := by
  unfold execBlockStatusPeriodic
  simp only [hide_ite, ite_self, out_next, State.sendPanRecord_hide m (.of rfl hm)]

theorem State.wantSlices_hide (m : Nat) (hm : Sub 524288 m) (x0 : State) : (State.wantSlices x0).hide m = x0.hide m := by
  unfold State.wantSlices
  simp only [implies_true, hide_foldl, State.wantSlice_hide m (.of rfl hm), upd_19 m (.of rfl hm)]

theorem State.stopWatch_hide (m : Nat) (hm : Sub 65536 m) (x0 : State) : (State.stopWatch x0).hide m = x0.hide m := by
  unfold State.stopWatch
  simp only [hide_ite, ite_self, State.clearSpectra_hide m (.of rfl hm), upd_16 m (.of rfl hm)]

theorem State.changeMode_hide (m : Nat) (hm : Sub 16777344 m) (x0 : State) (x1) (x2) (x3) : (State.changeMode x0 x1 x2 x3).hide m = x0.hide m := by
  unfold State.changeMode
  repeat' (first | (simp only [hide_ite, ite_self, implies_true, State.single_hide m (.of rfl hm), upd_24 m (.of rfl hm)]; done) | (simp only [hide_ite, ite_self, implies_true, State.single_hide m (.of rfl hm), upd_24 m (.of rfl hm)]; split) | split | (simp only [hide_ite, ite_self, implies_true, State.single_hide m (.of rfl hm), upd_24 m (.of rfl hm)]; with_reducible refine (hide_foldl m _ _ _ fun x a => ?_).trans ?_) | with_reducible refine (hide_foldl m _ _ _ fun x a => ?_).trans ?_)

theorem State.canConfigure_hide (m : Nat) (hm : Sub 12884901888 m) (x0 : State) (x1) : (State.canConfigure x0 x1).hide m = x0.hide m := by
  unfold State.canConfigure
  simp only [hide_ite, ite_self, State.modCan_hide m (.of rfl hm), State.setBus_hide m (.of rfl hm)]

theorem State.watchStep_hide (m : Nat) (hm : Sub 69632 m) (x0 : State) : (State.watchStep x0).hide m = x0.hide m := by
  unfold State.watchStep
  simp only [hide_ite, ite_self, State.startWatch_hide m (.of rfl hm), State.watchAmp_hide m (.of rfl hm), State.stopWatch_hide m (.of rfl hm)]

theorem State.safeStep_hide (m : Nat) (hm : Sub 16777216 m) (x0 : State) : (State.safeStep x0).hide m = x0.hide m := by
  unfold State.safeStep
  simp only [State.safeSet_hide m (.of rfl hm), upd_24 m (.of rfl hm)]

theorem State.downOutputs_hide (m : Nat) (hm : Sub 2097154 m) (x0 : State) : (State.downOutputs x0).hide m = x0.hide m := by
  unfold State.downOutputs
  simp only [hide_ite, ite_self, State.withdrawCause_hide m (.of rfl hm), upd_1_21 m (.of rfl hm)]

theorem State.receiptReply_hide (m : Nat) (hm : Sub 13992198144 m) (x0 : State) (x1) (x2) (x3) : (State.receiptReply x0 x1 x2 x3).hide m = x0.hide m := by
  unfold State.receiptReply
  simp only [State.sendReply_hide m (.of rfl hm)]

theorem State.convOff_hide (m : Nat) (hm : Sub 142936540971008 m) (x0 : State) : (State.convOff x0).hide m = x0.hide m := by
  unfold State.convOff
  simp only [State.gatesOff_hide m (.of rfl hm), upd_22_23_24_41 m (.of rfl hm)]

theorem State.takeRecord_hide (m : Nat) (hm : Sub 96 m) (x0 : State) (x1) : (State.takeRecord x0 x1).hide m = x0.hide m := by
  unfold State.takeRecord
  simp only [State.modBranch_hide m (.of rfl hm), State.followBranch_hide m (.of rfl hm)]

theorem execKNegOpen_hide (m : Nat) (hm : Sub 268435457 m) (x0 : State) : (outState x0 (execKNegOpen x0)).hide m = x0.hide m := by
  unfold execKNegOpen
  simp only [hide_ite, ite_self, out_next, State.followRequest_hide m (.of rfl hm), upd_28 m (.of rfl hm)]

theorem State.setCause_hide (m : Nat) (hm : Sub 2097152 m) (x0 : State) (x1) (x2) : (State.setCause x0 x1 x2).hide m = x0.hide m := by
  unfold State.setCause
  simp only [hide_ite, ite_self, State.capture_hide m (.of rfl hm), upd_21 m (.of rfl hm)]

theorem opStreamConfig_hide (m : Nat) (hm : Sub 2147483648 m) (x0) (x1) (x2 : State) : (opStreamConfig x0 x1 x2).s.hide m = x2.hide m := by
  unfold opStreamConfig
  repeat' (first | (simp only [hide_ite, ite_self, implies_true, ans_ite, fail_s, refuse_s, okAns_s, fail_hide m (.of rfl hm), okAns_hide m (.of rfl hm), upd_31 m (.of rfl hm)]; done) | (simp only [hide_ite, ite_self, implies_true, ans_ite, fail_s, refuse_s, okAns_s, fail_hide m (.of rfl hm), okAns_hide m (.of rfl hm), upd_31 m (.of rfl hm)]; split) | split | (simp only [hide_ite, ite_self, implies_true, ans_ite, fail_s, refuse_s, okAns_s, fail_hide m (.of rfl hm), okAns_hide m (.of rfl hm), upd_31 m (.of rfl hm)]; with_reducible refine (hide_foldl m _ _ _ fun x a => ?_).trans ?_) | with_reducible refine (hide_foldl m _ _ _ fun x a => ?_).trans ?_)

theorem State.settle_hide (m : Nat) (_ : Sub 0 m) (s : State) (p : Port) (a : Ans) (ha : a.s.hide m = s.hide m) :
    (s.settle p a).s.hide m = s.hide m := by
  unfold State.settle
  simp only [ans_ite, hide_ite, fail_s, ha, ite_self]

theorem opFwStage_hide (m : Nat) (hm : Sub 17179869184 m) (x0) (x1) (x2 : State) : (opFwStage x0 x1 x2).s.hide m = x2.hide m := by
  unfold opFwStage
  simp only [hide_ite, ite_self, ans_ite, fail_s, okAns_s, upd_34 m (.of rfl hm)]

theorem opWakeRecord_hide (m : Nat) (hm : Sub 0 m) (x0) (x1) (x2 : State) : (opWakeRecord x0 x1 x2).s.hide m = x2.hide m := by
  unfold opWakeRecord
  simp only [okAns_s]

theorem State.record_hide (m : Nat) (hm : Sub 17179870208 m) (x0 : State) (x1) (x2) (x3) (x4) (x5) (x6) (x7) : (State.record x0 x1 x2 x3 x4 x5 x6 x7).hide m = x0.hide m := by
  unfold State.record
  simp only [hide_ite, ite_self, State.nvmAsk_hide m (.of rfl hm), upd_34 m (.of rfl hm)]

theorem State.coldReturn_hide (m : Nat) (hm : Sub 536870912 m) (x0 : State) : (State.coldReturn x0).hide m = x0.hide m := by
  unfold State.coldReturn
  simp only [State.recordWake_hide m (.of rfl hm), upd_29 m (.of rfl hm)]

theorem State.convStop_hide (m : Nat) (hm : Sub 140771877453824 m) (x0 : State) (x1) : (State.convStop x0 x1).hide m = x0.hide m := by
  unfold State.convStop
  simp only [State.convStopWith_hide m (.of rfl hm)]

theorem State.spanCheck_hide (m : Nat) (hm : Sub 2097160 m) (x0 : State) : (State.spanCheck x0).hide m = x0.hide m := by
  unfold State.spanCheck
  simp only [hide_ite, ite_self, implies_true, hide_foldl, State.withdrawCause_hide m (.of rfl hm), State.setCause_hide m (.of rfl hm), State.modTap_hide m (.of rfl hm)]

theorem State.measureChange_hide (m : Nat) (hm : Sub 8 m) (x0 : State) (x1) (x2) : (State.measureChange x0 x1 x2).hide m = x0.hide m := by
  unfold State.measureChange
  repeat' (first | (simp only [hide_ite, ite_self, implies_true, hide_foldl, State.modTap_hide m (.of rfl hm)]; done) | (simp only [hide_ite, ite_self, implies_true, hide_foldl, State.modTap_hide m (.of rfl hm)]; split) | split | (simp only [hide_ite, ite_self, implies_true, hide_foldl, State.modTap_hide m (.of rfl hm)]; with_reducible refine (hide_foldl m _ _ _ fun x a => ?_).trans ?_) | with_reducible refine (hide_foldl m _ _ _ fun x a => ?_).trans ?_)

theorem execGateDriverFault_hide (m : Nat) (hm : Sub 140771877453824 m) (x0 : State) : (outState x0 (execGateDriverFault x0)).hide m = x0.hide m := by
  unfold execGateDriverFault
  simp only [hide_ite, ite_self, out_next, State.convStop_hide m (.of rfl hm), upd_23 m (.of rfl hm)]

theorem State.peakLaw_hide (m : Nat) (hm : Sub 16777344 m) (x0 : State) : (State.peakLaw x0).hide m = x0.hide m := by
  unfold State.peakLaw
  simp only [State.singleKeep_hide m (.of rfl hm), upd_24 m (.of rfl hm)]

theorem State.takeVerdict_hide (m : Nat) (hm : Sub 33619968 m) (x0 : State) (x1) (x2) : (State.takeVerdict x0 x1 x2).hide m = x0.hide m := by
  unfold State.takeVerdict
  simp only [hide_ite, ite_self, State.sendPanRecord_hide m (.of rfl hm), upd_16 m (.of rfl hm)]

theorem execTwohandInput_hide (m : Nat) (hm : Sub 268435457 m) (x0) (x1) (x2 : State) : (outState x2 (execTwohandInput x0 x1 x2)).hide m = x2.hide m := by
  unfold execTwohandInput
  simp only [hide_ite, ite_self, out_next, State.followRequest_hide m (.of rfl hm), State.twoHand_hide m (.of rfl hm)]

theorem State.periodStart_hide (m : Nat) (hm : Sub 12582912 m) (x0 : State) (x1) (x2) : (State.periodStart x0 x1 x2).hide m = x0.hide m := by
  unfold State.periodStart
  simp only [hide_ite, ite_self, State.respread_hide m (.of rfl hm), State.applyPeak_hide m (.of rfl hm), State.endPeriod_hide m (.of rfl hm), State.spreadDone_hide m (.of rfl hm), State.modPhase_hide m (.of rfl hm), upd_23 m (.of rfl hm)]

theorem opAttest_hide (m : Nat) (hm : Sub 36507222016 m) (x0) (x1) (x2 : State) : (opAttest x0 x1 x2).s.hide m = x2.hide m := by
  unfold opAttest
  simp only [hide_ite, ite_self, ans_ite, fail_s, okAns_s, State.journalHead_hide m (.of rfl hm), upd_31 m (.of rfl hm)]

theorem State.strobe_hide (m : Nat) (hm : Sub 35168587819 m) (x0 : State) (x1) : (State.strobe x0 x1).hide m = x0.hide m := by
  unfold State.strobe
  simp only [implies_true, hide_foldl, State.countExcitation_hide m (.of rfl hm), State.ageSet_hide m (.of rfl hm), State.bridgeDraw_hide m (.of rfl hm), State.feModel_hide m (.of rfl hm), upd_0_1_3_5_17_18_20_28_29 m (.of rfl hm)]

theorem State.hiccup_hide (m : Nat) (hm : Sub 140771877453824 m) (x0 : State) (x1) : (State.hiccup x0 x1).hide m = x0.hide m := by
  unfold State.hiccup
  simp only [hide_ite, ite_self, State.noPeriods_hide m (.of rfl hm), State.gatesOff_hide m (.of rfl hm), State.convCapture_hide m (.of rfl hm), State.convStopWith_hide m (.of rfl hm), upd_23 m (.of rfl hm), upd_23_47 m (.of rfl hm)]

theorem execCanSegmentTimeout_hide (m : Nat) (hm : Sub 4294967296 m) (x0) (x1) (x2 : State) : (outState x2 (execCanSegmentTimeout x0 x1 x2)).hide m = x2.hide m := by
  unfold execCanSegmentTimeout
  simp only [out_next, State.canSegmentTimeout_hide m (.of rfl hm)]

theorem State.primaryLost_hide (m : Nat) (hm : Sub 33619968 m) (x0 : State) : (State.primaryLost x0).hide m = x0.hide m := by
  unfold State.primaryLost
  simp only [State.endSweep_hide m (.of rfl hm), upd_25 m (.of rfl hm)]

theorem State.sweepBoundary_hide (m : Nat) (hm : Sub 33619968 m) (x0 : State) : (State.sweepBoundary x0).hide m = x0.hide m := by
  unfold State.sweepBoundary
  repeat' (first | (simp only [hide_ite, ite_self, implies_true, State.endSweep_hide m (.of rfl hm), State.resumeSweep_hide m (.of rfl hm), State.haltSweep_hide m (.of rfl hm)]; done) | (simp only [hide_ite, ite_self, implies_true, State.endSweep_hide m (.of rfl hm), State.resumeSweep_hide m (.of rfl hm), State.haltSweep_hide m (.of rfl hm)]; split) | split | (simp only [hide_ite, ite_self, implies_true, State.endSweep_hide m (.of rfl hm), State.resumeSweep_hide m (.of rfl hm), State.haltSweep_hide m (.of rfl hm)]; with_reducible refine (hide_foldl m _ _ _ fun x a => ?_).trans ?_) | with_reducible refine (hide_foldl m _ _ _ fun x a => ?_).trans ?_)

theorem State.spiCsRise_hide (m : Nat) (hm : Sub 8589934592 m) (x0 : State) : (State.spiCsRise x0).hide m = x0.hide m := by
  unfold State.spiCsRise
  simp only [hide_ite, ite_self, State.spiDiscard_hide m (.of rfl hm), upd_33 m (.of rfl hm)]

theorem State.noteDone_hide (m : Nat) (hm : Sub 2048 m) (x0 : State) (x1) (x2) (x3) : (State.noteDone x0 x1 x2 x3).hide m = x0.hide m := by
  unfold State.noteDone
  simp only [hide_ite, ite_self, State.takeInstance_hide m (.of rfl hm), upd_11 m (.of rfl hm)]

theorem State.wakeBoundary_hide (m : Nat) (hm : Sub 570425344 m) (x0 : State) : (State.wakeBoundary x0).hide m = x0.hide m := by
  unfold State.wakeBoundary
  simp only [hide_ite, ite_self, State.startReturn_hide m (.of rfl hm)]

theorem execFastChannelRestored_hide (m : Nat) (hm : Sub 2097184 m) (x0 : State) : (outState x0 (execFastChannelRestored x0)).hide m = x0.hide m := by
  unfold execFastChannelRestored
  simp only [hide_ite, ite_self, out_next, State.withdrawCause_hide m (.of rfl hm), upd_5 m (.of rfl hm)]

theorem State.commitCfe_hide (m : Nat) (hm : Sub 2097184 m) (x0 : State) : (State.commitCfe x0).hide m = x0.hide m := by
  unfold State.commitCfe
  simp only [hide_ite, ite_self, State.withdrawCause_hide m (.of rfl hm), upd_5 m (.of rfl hm)]

theorem execFastChannelLost_hide (m : Nat) (hm : Sub 140771879551008 m) (x0 : State) : (outState x0 (execFastChannelLost x0)).hide m = x0.hide m := by
  unfold execFastChannelLost
  simp only [hide_ite, ite_self, out_next, State.setCause_hide m (.of rfl hm), State.convStop_hide m (.of rfl hm), upd_5 m (.of rfl hm)]

theorem State.linksUp_hide (m : Nat) (hm : Sub 2097152 m) (x0 : State) : (State.linksUp x0).hide m = x0.hide m := by
  unfold State.linksUp
  simp only [hide_ite, ite_self, State.withdrawCause_hide m (.of rfl hm)]

theorem State.leadRJob_hide (m : Nat) (hm : Sub 8 m) (x0 : State) : (State.leadRJob x0).hide m = x0.hide m := by
  unfold State.leadRJob
  simp only [implies_true, hide_foldl, State.measureChange_hide m (.of rfl hm)]

theorem execComparatorRelease_hide (m : Nat) (hm : Sub 2 m) (x0) (x1) (x2) (x3 : State) : (outState x3 (execComparatorRelease x0 x1 x2 x3)).hide m = x3.hide m := by
  unfold execComparatorRelease
  simp only [hide_ite, ite_self, out_ite, out_next, out_fault, State.comparator_hide m (.of rfl hm)]

theorem execSpiInTimeout_hide (m : Nat) (hm : Sub 8589934592 m) (x0 : State) : (outState x0 (execSpiInTimeout x0)).hide m = x0.hide m := by
  unfold execSpiInTimeout
  simp only [out_next, State.spiInTimeout_hide m (.of rfl hm)]

theorem State.canBusOff_hide (m : Nat) (hm : Sub 12884901888 m) (x0 : State) (x1) : (State.canBusOff x0 x1).hide m = x0.hide m := by
  unfold State.canBusOff
  simp only [hide_ite, ite_self, State.modCan_hide m (.of rfl hm), State.setBus_hide m (.of rfl hm)]

theorem opHealth_hide (m : Nat) (hm : Sub 0 m) (x0) (x1) (x2 : State) : (opHealth x0 x1 x2).s.hide m = x2.hide m := by
  unfold opHealth
  simp only [okAns_s]

theorem opParamGet_hide (m : Nat) (hm : Sub 0 m) (x0) (x1) (x2 : State) : (opParamGet x0 x1 x2).s.hide m = x2.hide m := by
  unfold opParamGet
  repeat' (first | (simp only [hide_ite, ite_self, implies_true, ans_ite, fail_s, refuse_s, okAns_s, fail_hide m (.of rfl hm), okAns_hide m (.of rfl hm)]; done) | (simp only [hide_ite, ite_self, implies_true, ans_ite, fail_s, refuse_s, okAns_s, fail_hide m (.of rfl hm), okAns_hide m (.of rfl hm)]; split) | split | (simp only [hide_ite, ite_self, implies_true, ans_ite, fail_s, refuse_s, okAns_s, fail_hide m (.of rfl hm), okAns_hide m (.of rfl hm)]; with_reducible refine (hide_foldl m _ _ _ fun x a => ?_).trans ?_) | with_reducible refine (hide_foldl m _ _ _ fun x a => ?_).trans ?_)

theorem opTableRead_hide (m : Nat) (hm : Sub 34359738368 m) (x0) (x1) (x2 : State) : (opTableRead x0 x1 x2).s.hide m = x2.hide m := by
  unfold opTableRead
  repeat' (first | (simp only [hide_ite, ite_self, implies_true, ans_ite, fail_s, refuse_s, okAns_s, State.drawWords_hide m (.of rfl hm), fail_hide m (.of rfl hm), okAns_hide m (.of rfl hm)]; done) | (simp only [hide_ite, ite_self, implies_true, ans_ite, fail_s, refuse_s, okAns_s, State.drawWords_hide m (.of rfl hm), fail_hide m (.of rfl hm), okAns_hide m (.of rfl hm)]; split) | split | (simp only [hide_ite, ite_self, implies_true, ans_ite, fail_s, refuse_s, okAns_s, State.drawWords_hide m (.of rfl hm), fail_hide m (.of rfl hm), okAns_hide m (.of rfl hm)]; with_reducible refine (hide_foldl m _ _ _ fun x a => ?_).trans ?_) | with_reducible refine (hide_foldl m _ _ _ fun x a => ?_).trans ?_)

theorem execFaultAutoRelease_hide (m : Nat) (hm : Sub 2097152 m) (x0) (x1 : State) : (outState x1 (execFaultAutoRelease x0 x1)).hide m = x1.hide m := by
  unfold execFaultAutoRelease
  simp only [hide_ite, ite_self, out_ite, out_next, out_fault, State.clearCause_hide m (.of rfl hm)]

theorem execTripContactorOff_hide (m : Nat) (hm : Sub 268435457 m) (x0 : State) : (outState x0 (execTripContactorOff x0)).hide m = x0.hide m := by
  unfold execTripContactorOff
  simp only [hide_ite, ite_self, out_next, State.followRequest_hide m (.of rfl hm), upd_28 m (.of rfl hm)]

theorem State.applyEstMode_hide (m : Nat) (hm : Sub 24576 m) (x0 : State) : (State.applyEstMode x0).hide m = x0.hide m := by
  unfold State.applyEstMode
  simp only [hide_ite, ite_self, State.setCounting_hide m (.of rfl hm), upd_14 m (.of rfl hm)]

theorem State.streamRecords_hide (m : Nat) (hm : Sub 15032385536 m) (x0 : State) : (State.streamRecords x0).hide m = x0.hide m := by
  unfold State.streamRecords
  simp only [implies_true, hide_foldl, State.streamRecord_hide m (.of rfl hm)]

theorem State.owOpenCause_hide (m : Nat) (hm : Sub 2097152 m) (x0 : State) : (State.owOpenCause x0).hide m = x0.hide m := by
  unfold State.owOpenCause
  simp only [hide_ite, ite_self, State.withdrawCause_hide m (.of rfl hm), State.setCause_hide m (.of rfl hm)]

theorem execCanBusOffRecovery_hide (m : Nat) (hm : Sub 12884901888 m) (x0) (x1 : State) : (outState x1 (execCanBusOffRecovery x0 x1)).hide m = x1.hide m := by
  unfold execCanBusOffRecovery
  simp only [out_next, State.canRecover_hide m (.of rfl hm)]

theorem State.beginSoftStart_hide (m : Nat) (hm : Sub 140737500938240 m) (x0 : State) : (State.beginSoftStart x0).hide m = x0.hide m := by
  unfold State.beginSoftStart
  simp only [State.startPhases_hide m (.of rfl hm), upd_23_47 m (.of rfl hm)]

theorem opSafetyStatus_hide (m : Nat) (hm : Sub 0 m) (x0) (x1) (x2 : State) : (opSafetyStatus x0 x1 x2).s.hide m = x2.hide m := by
  unfold opSafetyStatus
  simp only [okAns_s]

theorem State.measureDelay_hide (m : Nat) (hm : Sub 34 m) (x0 : State) (x1) (x2) : (State.measureDelay x0 x1 x2).hide m = x0.hide m := by
  unfold State.measureDelay
  simp only [hide_ite, ite_self, State.startRelink_hide m (.of rfl hm), State.modFe_hide m (.of rfl hm), State.cfeRelink_hide m (.of rfl hm), upd_5 m (.of rfl hm)]

theorem execHiccupTrigger_hide (m : Nat) (hm : Sub 140771877453824 m) (x0) (x1 : State) : (outState x1 (execHiccupTrigger x0 x1)).hide m = x1.hide m := by
  unfold execHiccupTrigger
  simp only [hide_ite, ite_self, out_ite, out_next, out_fault, State.hiccup_hide m (.of rfl hm), upd_22 m (.of rfl hm)]

theorem State.watchBoundary_hide (m : Nat) (hm : Sub 69632 m) (x0 : State) : (State.watchBoundary x0).hide m = x0.hide m := by
  unfold State.watchBoundary
  simp only [State.watchStep_hide m (.of rfl hm), upd_16 m (.of rfl hm)]

theorem State.portsRelink_hide (m : Nat) (hm : Sub 34 m) (x0 : State) : (State.portsRelink x0).hide m = x0.hide m := by
  unfold State.portsRelink
  simp only [hide_ite, ite_self, implies_true, hide_foldl, State.startRelink_hide m (.of rfl hm), upd_5 m (.of rfl hm)]

theorem execComparatorAssert_hide (m : Nat) (hm : Sub 2 m) (x0) (x1) (x2) (x3 : State) : (outState x3 (execComparatorAssert x0 x1 x2 x3)).hide m = x3.hide m := by
  unfold execComparatorAssert
  simp only [hide_ite, ite_self, out_ite, out_next, out_fault, State.comparator_hide m (.of rfl hm)]

theorem State.addPhases_hide (m : Nat) (hm : Sub 12582912 m) (x0 : State) (x1) : (State.addPhases x0 x1).hide m = x0.hide m := by
  unfold State.addPhases
  simp only [implies_true, hide_foldl, State.respread_hide m (.of rfl hm), State.modPhase_hide m (.of rfl hm), upd_23 m (.of rfl hm)]

theorem State.noticeOn_hide (m : Nat) (hm : Sub 13992198144 m) (x0 : State) (x1) (x2) : (State.noticeOn x0 x1 x2).hide m = x0.hide m := by
  unfold State.noticeOn
  repeat' (first | (simp only [hide_ite, ite_self, implies_true, State.modPort_hide m (.of rfl hm), State.sendSpi_hide m (.of rfl hm), State.noticeCan_hide m (.of rfl hm), State.sendRing_hide m (.of rfl hm)]; done) | (simp only [hide_ite, ite_self, implies_true, State.modPort_hide m (.of rfl hm), State.sendSpi_hide m (.of rfl hm), State.noticeCan_hide m (.of rfl hm), State.sendRing_hide m (.of rfl hm)]; split) | split | (simp only [hide_ite, ite_self, implies_true, State.modPort_hide m (.of rfl hm), State.sendSpi_hide m (.of rfl hm), State.noticeCan_hide m (.of rfl hm), State.sendRing_hide m (.of rfl hm)]; with_reducible refine (hide_foldl m _ _ _ fun x a => ?_).trans ?_) | with_reducible refine (hide_foldl m _ _ _ fun x a => ?_).trans ?_)

theorem State.relayUp_hide (m : Nat) (hm : Sub 13992198144 m) (x0 : State) (x1) (x2) : (State.relayUp x0 x1 x2).hide m = x0.hide m := by
  unfold State.relayUp
  repeat' (first | (simp only [hide_ite, ite_self, implies_true, hide_foldl, State.modPort_hide m (.of rfl hm), State.sendReply_hide m (.of rfl hm), State.sendSpi_hide m (.of rfl hm), State.noticeCan_hide m (.of rfl hm), upd_25 m (.of rfl hm)]; done) | (simp only [hide_ite, ite_self, implies_true, hide_foldl, State.modPort_hide m (.of rfl hm), State.sendReply_hide m (.of rfl hm), State.sendSpi_hide m (.of rfl hm), State.noticeCan_hide m (.of rfl hm), upd_25 m (.of rfl hm)]; split) | split | (simp only [hide_ite, ite_self, implies_true, hide_foldl, State.modPort_hide m (.of rfl hm), State.sendReply_hide m (.of rfl hm), State.sendSpi_hide m (.of rfl hm), State.noticeCan_hide m (.of rfl hm), upd_25 m (.of rfl hm)]; with_reducible refine (hide_foldl m _ _ _ fun x a => ?_).trans ?_) | with_reducible refine (hide_foldl m _ _ _ fun x a => ?_).trans ?_)

theorem execStrobeDelayMeasure_hide (m : Nat) (hm : Sub 34 m) (x0) (x1 : State) : (outState x1 (execStrobeDelayMeasure x0 x1)).hide m = x1.hide m := by
  unfold execStrobeDelayMeasure
  simp only [hide_ite, ite_self, implies_true, out_ite, out_next, out_fault, hide_foldl, State.measureDelay_hide m (.of rfl hm)]

theorem State.commitProtection_hide (m : Nat) (hm : Sub 2097152 m) (x0 : State) : (State.commitProtection x0).hide m = x0.hide m := by
  unfold State.commitProtection
  simp only [State.withdrawCause_hide m (.of rfl hm), upd_21 m (.of rfl hm)]

theorem execCurrentRecordMissing_hide (m : Nat) (hm : Sub 268435520 m) (x0) (x1) (x2 : State) : (outState x2 (execCurrentRecordMissing x0 x1 x2)).hide m = x2.hide m := by
  unfold execCurrentRecordMissing
  simp only [hide_ite, ite_self, out_ite, out_next, out_fault, State.recordMissing_hide m (.of rfl hm)]

theorem State.commitEntry_hide (m : Nat) (hm : Sub 571539458 m) (x0 : State) : (State.commitEntry x0).hide m = x0.hide m := by
  unfold State.commitEntry
  simp only [hide_ite, ite_self, State.endSweep_hide m (.of rfl hm), State.balDrain_hide m (.of rfl hm), State.stopWatch_hide m (.of rfl hm), upd_29 m (.of rfl hm)]

theorem execFaultLineLow_hide (m : Nat) (hm : Sub 140771879550976 m) (x0 : State) : (outState x0 (execFaultLineLow x0)).hide m = x0.hide m := by
  unfold execFaultLineLow
  simp only [out_next, State.convStop_hide m (.of rfl hm), upd_21_23 m (.of rfl hm)]

theorem execEisResumeTimeout_hide (m : Nat) (hm : Sub 33619968 m) (x0 : State) : (outState x0 (execEisResumeTimeout x0)).hide m = x0.hide m := by
  unfold execEisResumeTimeout
  simp only [hide_ite, ite_self, out_next, State.endSweep_hide m (.of rfl hm)]

theorem State.sendNotice_hide (m : Nat) (hm : Sub 13992198144 m) (x0 : State) (x1) : (State.sendNotice x0 x1).hide m = x0.hide m := by
  unfold State.sendNotice
  simp only [implies_true, hide_foldl, State.noticeOn_hide m (.of rfl hm)]

theorem opRingEnumerate_hide (m : Nat) (hm : Sub 34393292800 m) (x0) (x1) (x2 : State) : (opRingEnumerate x0 x1 x2).s.hide m = x2.hide m := by
  unfold opRingEnumerate
  simp only [hide_ite, ite_self, ans_ite, refuse_s, State.allEnum_hide m (.of rfl hm), upd_25 m (.of rfl hm)]

theorem State.takePhaseSet_hide (m : Nat) (hm : Sub 12582912 m) (x0 : State) : (State.takePhaseSet x0).hide m = x0.hide m := by
  unfold State.takePhaseSet
  repeat' (first | (simp only [hide_ite, ite_self, implies_true, State.fullSet_hide m (.of rfl hm), State.modPhase_hide m (.of rfl hm), State.addPhases_hide m (.of rfl hm), upd_22 m (.of rfl hm), upd_23 m (.of rfl hm), upd_22_23 m (.of rfl hm)]; done) | (simp only [hide_ite, ite_self, implies_true, State.fullSet_hide m (.of rfl hm), State.modPhase_hide m (.of rfl hm), State.addPhases_hide m (.of rfl hm), upd_22 m (.of rfl hm), upd_23 m (.of rfl hm), upd_22_23 m (.of rfl hm)]; split) | split | (simp only [hide_ite, ite_self, implies_true, State.fullSet_hide m (.of rfl hm), State.modPhase_hide m (.of rfl hm), State.addPhases_hide m (.of rfl hm), upd_22 m (.of rfl hm), upd_23 m (.of rfl hm), upd_22_23 m (.of rfl hm)]; with_reducible refine (hide_foldl m _ _ _ fun x a => ?_).trans ?_) | with_reducible refine (hide_foldl m _ _ _ fun x a => ?_).trans ?_)

theorem State.protRelay_hide (m : Nat) (hm : Sub 48351936512 m) (x0 : State) (x1) : (State.protRelay x0 x1).hide m = x0.hide m := by
  unfold State.protRelay
  simp only [hide_ite, ite_self, implies_true, hide_foldl, State.draw_hide m (.of rfl hm), State.sendNotice_hide m (.of rfl hm), upd_25 m (.of rfl hm)]

theorem State.blockEnd_hide (m : Nat) (hm : Sub 33622016 m) (x0 : State) : (State.blockEnd x0).hide m = x0.hide m := by
  unfold State.blockEnd
  repeat' (first | (simp only [hide_ite, ite_self, implies_true, State.endSweep_hide m (.of rfl hm), State.applyVerdict_hide m (.of rfl hm), State.queueControl_hide m (.of rfl hm), State.watchShift_hide m (.of rfl hm), upd_16 m (.of rfl hm)]; done) | (simp only [hide_ite, ite_self, implies_true, State.endSweep_hide m (.of rfl hm), State.applyVerdict_hide m (.of rfl hm), State.queueControl_hide m (.of rfl hm), State.watchShift_hide m (.of rfl hm), upd_16 m (.of rfl hm)]; split) | split | (simp only [hide_ite, ite_self, implies_true, State.endSweep_hide m (.of rfl hm), State.applyVerdict_hide m (.of rfl hm), State.queueControl_hide m (.of rfl hm), State.watchShift_hide m (.of rfl hm), upd_16 m (.of rfl hm)]; with_reducible refine (hide_foldl m _ _ _ fun x a => ?_).trans ?_) | with_reducible refine (hide_foldl m _ _ _ fun x a => ?_).trans ?_)

theorem State.sendRecord_hide (m : Nat) (hm : Sub 301989984 m) (x0 : State) : (State.sendRecord x0).hide m = x0.hide m := by
  unfold State.sendRecord
  simp only [State.takeRecord_hide m (.of rfl hm), State.prechargeFrame_hide m (.of rfl hm), upd_25 m (.of rfl hm)]

theorem State.missHeader_hide (m : Nat) (hm : Sub 33619968 m) (x0 : State) (x1) (x2) : (State.missHeader x0 x1 x2).hide m = x0.hide m := by
  unfold State.missHeader
  repeat' (first | (simp only [hide_ite, ite_self, implies_true, State.primaryLost_hide m (.of rfl hm), upd_25 m (.of rfl hm)]; done) | (simp only [hide_ite, ite_self, implies_true, State.primaryLost_hide m (.of rfl hm), upd_25 m (.of rfl hm)]; split) | split | (simp only [hide_ite, ite_self, implies_true, State.primaryLost_hide m (.of rfl hm), upd_25 m (.of rfl hm)]; with_reducible refine (hide_foldl m _ _ _ fun x a => ?_).trans ?_) | with_reducible refine (hide_foldl m _ _ _ fun x a => ?_).trans ?_)

theorem State.driveContactors_hide (m : Nat) (hm : Sub 268435457 m) (x0 : State) (x1) : (State.driveContactors x0 x1).hide m = x0.hide m := by
  unfold State.driveContactors
  simp only [hide_ite, ite_self, State.followRequest_hide m (.of rfl hm), upd_28 m (.of rfl hm)]

theorem State.wakeBy_hide (m : Nat) (hm : Sub 53317992449 m) (x0 : State) (x1) (x2) : (State.wakeBy x0 x1 x2).hide m = x0.hide m := by
  unfold State.wakeBy
  repeat' (first | (simp only [hide_ite, ite_self, implies_true, State.elapse_hide m (.of rfl hm), State.startReturn_hide m (.of rfl hm), State.endHandshake_hide m (.of rfl hm), State.recordWake_hide m (.of rfl hm), State.endRequest_hide m (.of rfl hm), upd_29 m (.of rfl hm)]; done) | (simp only [hide_ite, ite_self, implies_true, State.elapse_hide m (.of rfl hm), State.startReturn_hide m (.of rfl hm), State.endHandshake_hide m (.of rfl hm), State.recordWake_hide m (.of rfl hm), State.endRequest_hide m (.of rfl hm), upd_29 m (.of rfl hm)]; split) | split | (simp only [hide_ite, ite_self, implies_true, State.elapse_hide m (.of rfl hm), State.startReturn_hide m (.of rfl hm), State.endHandshake_hide m (.of rfl hm), State.recordWake_hide m (.of rfl hm), State.endRequest_hide m (.of rfl hm), upd_29 m (.of rfl hm)]; with_reducible refine (hide_foldl m _ _ _ fun x a => ?_).trans ?_) | with_reducible refine (hide_foldl m _ _ _ fun x a => ?_).trans ?_)

theorem State.badPacket_hide (m : Nat) (hm : Sub 2 m) (x0 : State) (x1) (x2) : (State.badPacket x0 x1 x2).hide m = x0.hide m := by
  unfold State.badPacket
  simp only [hide_ite, ite_self, State.startRelink_hide m (.of rfl hm), State.modFe_hide m (.of rfl hm)]

theorem execKPreOff_hide (m : Nat) (hm : Sub 268435457 m) (x0 : State) : (outState x0 (execKPreOff x0)).hide m = x0.hide m := by
  unfold execKPreOff
  simp only [hide_ite, ite_self, out_next, State.followRequest_hide m (.of rfl hm), upd_0_28 m (.of rfl hm)]

theorem execSampleStrobe_hide (m : Nat) (hm : Sub 35168587819 m) (x0) (x1 : State) : (outState x1 (execSampleStrobe x0 x1)).hide m = x1.hide m := by
  unfold execSampleStrobe
  simp only [hide_ite, ite_self, out_ite, out_next, out_fault, State.strobe_hide m (.of rfl hm)]

theorem State.notify_hide (m : Nat) (hm : Sub 16139681792 m) (x0 : State) (x1) (x2) : (State.notify x0 x1 x2).hide m = x0.hide m := by
  unfold State.notify
  simp only [hide_ite, ite_self, State.sendNotice_hide m (.of rfl hm), upd_31 m (.of rfl hm)]

theorem State.portsUp_hide (m : Nat) (hm : Sub 34361835554 m) (x0 : State) : (State.portsUp x0).hide m = x0.hide m := by
  unfold State.portsUp
  simp only [hide_ite, ite_self, implies_true, hide_foldl, State.drawDelay_hide m (.of rfl hm), State.modFe_hide m (.of rfl hm), State.linksUp_hide m (.of rfl hm), upd_5 m (.of rfl hm)]

theorem State.startOutput_hide (m : Nat) (hm : Sub 140737500938240 m) (x0 : State) : (State.startOutput x0).hide m = x0.hide m := by
  unfold State.startOutput
  simp only [hide_ite, ite_self, State.beginSoftStart_hide m (.of rfl hm), upd_23 m (.of rfl hm)]

theorem State.healthCell_hide (m : Nat) (hm : Sub 16139689984 m) (x0 : State) (x1) : (State.healthCell x0 x1).hide m = x0.hide m := by
  unfold State.healthCell
  simp only [hide_ite, ite_self, State.notify_hide m (.of rfl hm), State.modEst_hide m (.of rfl hm)]

theorem State.flushNotices_hide (m : Nat) (hm : Sub 16139681792 m) (x0 : State) : (State.flushNotices x0).hide m = x0.hide m := by
  unfold State.flushNotices
  simp only [implies_true, hide_foldl, State.sendNotice_hide m (.of rfl hm), upd_31 m (.of rfl hm)]

theorem State.followWatch_hide (m : Nat) (hm : Sub 69632 m) (x0 : State) (x1) : (State.followWatch x0 x1).hide m = x0.hide m := by
  unfold State.followWatch
  simp only [hide_ite, ite_self, State.startWatch_hide m (.of rfl hm), State.stopWatch_hide m (.of rfl hm)]

theorem State.answer_hide (m : Nat) (hm : Sub 13992198144 m) (x0 : State) (x1) (x2) : (State.answer x0 x1 x2).hide m = x0.hide m := by
  unfold State.answer
  simp only [hide_ite, ite_self, State.sendReply_hide m (.of rfl hm)]

theorem execFeLinkFault_hide (m : Nat) (hm : Sub 2097152 m) (x0) (x1 : State) : (outState x1 (execFeLinkFault x0 x1)).hide m = x1.hide m := by
  unfold execFeLinkFault
  simp only [hide_ite, ite_self, out_ite, out_next, out_fault, State.setCause_hide m (.of rfl hm)]

theorem execWakeDwellExpire_hide (m : Nat) (hm : Sub 53317992449 m) (x0 : State) : (outState x0 (execWakeDwellExpire x0)).hide m = x0.hide m := by
  unfold execWakeDwellExpire
  simp only [hide_ite, ite_self, out_next, State.elapse_hide m (.of rfl hm), State.startReturn_hide m (.of rfl hm), upd_29 m (.of rfl hm)]

theorem State.absorb_hide (m : Nat) (hm : Sub 16273899520 m) (x0 : State) (x1) (x2) (x3) (x4) (x5) : (State.absorb x0 x1 x2 x3 x4 x5).hide m = x0.hide m := by
  unfold State.absorb
  simp only [hide_ite, ite_self, State.notify_hide m (.of rfl hm), upd_27 m (.of rfl hm)]

theorem execPwmPeriodStart_hide (m : Nat) (hm : Sub 12582912 m) (x0) (x1) (x2) (x3) (x4 : State) : (outState x4 (execPwmPeriodStart x0 x1 x2 x3 x4)).hide m = x4.hide m := by
  unfold execPwmPeriodStart
  simp only [hide_ite, ite_self, out_ite, out_next, out_fault, State.periodStart_hide m (.of rfl hm)]

theorem State.strapCheck_hide (m : Nat) (hm : Sub 16273899522 m) (x0 : State) (x1) : (State.strapCheck x0 x1).hide m = x0.hide m := by
  unfold State.strapCheck
  repeat' (first | (simp only [hide_ite, ite_self, implies_true, hide_foldl, State.absorb_hide m (.of rfl hm), State.modFe_hide m (.of rfl hm)]; done) | (simp only [hide_ite, ite_self, implies_true, hide_foldl, State.absorb_hide m (.of rfl hm), State.modFe_hide m (.of rfl hm)]; split) | split | (simp only [hide_ite, ite_self, implies_true, hide_foldl, State.absorb_hide m (.of rfl hm), State.modFe_hide m (.of rfl hm)]; with_reducible refine (hide_foldl m _ _ _ fun x a => ?_).trans ?_) | with_reducible refine (hide_foldl m _ _ _ fun x a => ?_).trans ?_)

theorem State.checkBusRange_hide (m : Nat) (hm : Sub 140771877453824 m) (x0 : State) : (State.checkBusRange x0).hide m = x0.hide m := by
  unfold State.checkBusRange
  simp only [hide_ite, ite_self, State.convStop_hide m (.of rfl hm), upd_23 m (.of rfl hm)]

theorem State.beginDrain_hide (m : Nat) (hm : Sub 142936540971008 m) (x0 : State) (x1) (x2) : (State.beginDrain x0 x1 x2).hide m = x0.hide m := by
  unfold State.beginDrain
  simp only [hide_ite, ite_self, State.gatesOff_hide m (.of rfl hm), State.addPhases_hide m (.of rfl hm), upd_23_41 m (.of rfl hm)]

theorem execHeaderMiss_hide (m : Nat) (hm : Sub 33619968 m) (x0) (x1) (x2 : State) : (outState x2 (execHeaderMiss x0 x1 x2)).hide m = x2.hide m := by
  unfold execHeaderMiss
  simp only [hide_ite, ite_self, out_next, State.missHeader_hide m (.of rfl hm)]

theorem State.checkOwner_hide (m : Nat) (hm : Sub 142970900709376 m) (x0 : State) : (State.checkOwner x0).hide m = x0.hide m := by
  unfold State.checkOwner
  simp only [hide_ite, ite_self, State.beginDrain_hide m (.of rfl hm), State.convCapture_hide m (.of rfl hm), upd_23 m (.of rfl hm)]

theorem State.tapOpens_hide (m : Nat) (hm : Sub 16275996684 m) (x0 : State) (x1) : (State.tapOpens x0 x1).hide m = x0.hide m := by
  unfold State.tapOpens
  simp only [implies_true, hide_foldl, State.absorb_hide m (.of rfl hm), State.modChan_hide m (.of rfl hm), State.owOpenCause_hide m (.of rfl hm), State.modTap_hide m (.of rfl hm)]

theorem State.resolveQueue_hide (m : Nat) (hm : Sub 570425344 m) (x0 : State) : (State.resolveQueue x0).hide m = x0.hide m := by
  unfold State.resolveQueue
  repeat' (first | (simp only [hide_ite, ite_self, implies_true, State.startReturn_hide m (.of rfl hm), State.beginEntry_hide m (.of rfl hm), State.recordWake_hide m (.of rfl hm), State.endRequest_hide m (.of rfl hm), upd_29 m (.of rfl hm)]; done) | (simp only [hide_ite, ite_self, implies_true, State.startReturn_hide m (.of rfl hm), State.beginEntry_hide m (.of rfl hm), State.recordWake_hide m (.of rfl hm), State.endRequest_hide m (.of rfl hm), upd_29 m (.of rfl hm)]; split) | split | (simp only [hide_ite, ite_self, implies_true, State.startReturn_hide m (.of rfl hm), State.beginEntry_hide m (.of rfl hm), State.recordWake_hide m (.of rfl hm), State.endRequest_hide m (.of rfl hm), upd_29 m (.of rfl hm)]; with_reducible refine (hide_foldl m _ _ _ fun x a => ?_).trans ?_) | with_reducible refine (hide_foldl m _ _ _ fun x a => ?_).trans ?_)

theorem State.tapCloses_hide (m : Nat) (hm : Sub 16275996680 m) (x0 : State) (x1) : (State.tapCloses x0 x1).hide m = x0.hide m := by
  unfold State.tapCloses
  simp only [State.absorb_hide m (.of rfl hm), State.owOpenCause_hide m (.of rfl hm), State.modTap_hide m (.of rfl hm)]

theorem State.takeOver_hide (m : Nat) (hm : Sub 16139682176 m) (x0 : State) (x1) (x2) (x3) : (State.takeOver x0 x1 x2 x3).hide m = x0.hide m := by
  unfold State.takeOver
  simp only [State.notify_hide m (.of rfl hm), State.modPan_hide m (.of rfl hm), State.modSlot_hide m (.of rfl hm), State.toPool_hide m (.of rfl hm)]

theorem execHiccupRetry_hide (m : Nat) (hm : Sub 140737517715456 m) (x0 : State) : (outState x0 (execHiccupRetry x0)).hide m = x0.hide m := by
  unfold execHiccupRetry
  simp only [hide_ite, ite_self, out_next, State.beginSoftStart_hide m (.of rfl hm), upd_23_24 m (.of rfl hm)]

theorem execStartTimeout_hide (m : Nat) (hm : Sub 140771877453824 m) (x0 : State) : (outState x0 (execStartTimeout x0)).hide m = x0.hide m := by
  unfold execStartTimeout
  simp only [hide_ite, ite_self, out_next, State.convStop_hide m (.of rfl hm), upd_23 m (.of rfl hm)]

theorem execSpiCsRise_hide (m : Nat) (hm : Sub 8589934592 m) (x0 : State) : (outState x0 (execSpiCsRise x0)).hide m = x0.hide m := by
  unfold execSpiCsRise
  simp only [out_next, State.spiCsRise_hide m (.of rfl hm)]

theorem State.commitOne_hide (m : Nat) (hm : Sub 19327353856 m) (x0 : State) (x1) (x2) : (State.commitOne x0 x1 x2).hide m = x0.hide m := by
  unfold State.commitOne
  simp only [State.record_hide m (.of rfl hm), upd_31 m (.of rfl hm)]

theorem execDiagDieTemp_hide (m : Nat) (hm : Sub 16139685888 m) (x0) (x1) (x2 : State) : (outState x2 (execDiagDieTemp x0 x1 x2)).hide m = x2.hide m := by
  unfold execDiagDieTemp
  repeat' (first | (simp only [hide_ite, ite_self, implies_true, out_ite, out_next, out_fault, State.startConversion_hide m (.of rfl hm), State.answer_hide m (.of rfl hm), State.sendReply_hide m (.of rfl hm), upd_31 m (.of rfl hm)]; done) | (simp only [hide_ite, ite_self, implies_true, out_ite, out_next, out_fault, State.startConversion_hide m (.of rfl hm), State.answer_hide m (.of rfl hm), State.sendReply_hide m (.of rfl hm), upd_31 m (.of rfl hm)]; split) | split | (simp only [hide_ite, ite_self, implies_true, out_ite, out_next, out_fault, State.startConversion_hide m (.of rfl hm), State.answer_hide m (.of rfl hm), State.sendReply_hide m (.of rfl hm), upd_31 m (.of rfl hm)]; with_reducible refine (hide_foldl m _ _ _ fun x a => ?_).trans ?_) | with_reducible refine (hide_foldl m _ _ _ fun x a => ?_).trans ?_)

theorem State.notifyTamper_hide (m : Nat) (hm : Sub 31172067328 m) (x0 : State) (x1) : (State.notifyTamper x0 x1).hide m = x0.hide m := by
  unfold State.notifyTamper
  repeat' (first | (simp only [hide_ite, ite_self, implies_true, State.sendNotice_hide m (.of rfl hm), upd_34 m (.of rfl hm)]; done) | (simp only [hide_ite, ite_self, implies_true, State.sendNotice_hide m (.of rfl hm), upd_34 m (.of rfl hm)]; split) | split | (simp only [hide_ite, ite_self, implies_true, State.sendNotice_hide m (.of rfl hm), upd_34 m (.of rfl hm)]; with_reducible refine (hide_foldl m _ _ _ fun x a => ?_).trans ?_) | with_reducible refine (hide_foldl m _ _ _ fun x a => ?_).trans ?_)

theorem State.startSafe_hide (m : Nat) (hm : Sub 140771877453824 m) (x0 : State) (x1) (x2) : (State.startSafe x0 x1 x2).hide m = x0.hide m := by
  unfold State.startSafe
  simp only [hide_ite, ite_self, State.safeStep_hide m (.of rfl hm), State.convStopWith_hide m (.of rfl hm), upd_24 m (.of rfl hm)]

theorem State.anchor_hide (m : Nat) (hm : Sub 24576 m) (x0 : State) (x1) (x2) : (State.anchor x0 x1 x2).hide m = x0.hide m := by
  unfold State.anchor
  simp only [hide_ite, ite_self, implies_true, hide_foldl, State.anchorCell_hide m (.of rfl hm), State.setCounting_hide m (.of rfl hm), upd_14 m (.of rfl hm)]

theorem execGovernorDecision_hide (m : Nat) (hm : Sub 6144 m) (x0 : State) : (outState x0 (execGovernorDecision x0)).hide m = x0.hide m := by
  unfold execGovernorDecision
  simp only [hide_ite, ite_self, out_next, State.decide115_hide m (.of rfl hm)]

theorem State.writeSeal_hide (m : Nat) (hm : Sub 33453769728 m) (x0 : State) : (State.writeSeal x0).hide m = x0.hide m := by
  unfold State.writeSeal
  repeat' (first | (simp only [hide_ite, ite_self, implies_true, State.absorb_hide m (.of rfl hm), State.nvmAsk_hide m (.of rfl hm), upd_34 m (.of rfl hm)]; done) | (simp only [hide_ite, ite_self, implies_true, State.absorb_hide m (.of rfl hm), State.nvmAsk_hide m (.of rfl hm), upd_34 m (.of rfl hm)]; split) | split | (simp only [hide_ite, ite_self, implies_true, State.absorb_hide m (.of rfl hm), State.nvmAsk_hide m (.of rfl hm), upd_34 m (.of rfl hm)]; with_reducible refine (hide_foldl m _ _ _ fun x a => ?_).trans ?_) | with_reducible refine (hide_foldl m _ _ _ fun x a => ?_).trans ?_)

theorem execCanBusOff_hide (m : Nat) (hm : Sub 12884901888 m) (x0) (x1 : State) : (outState x1 (execCanBusOff x0 x1)).hide m = x1.hide m := by
  unfold execCanBusOff
  simp only [out_next, State.canBusOff_hide m (.of rfl hm)]

theorem State.declare_hide (m : Nat) (hm : Sub 140771877453824 m) (x0 : State) : (State.declare x0).hide m = x0.hide m := by
  unfold State.declare
  simp only [State.startSafe_hide m (.of rfl hm), State.convCapture_hide m (.of rfl hm), upd_24 m (.of rfl hm)]

theorem State.discardSample_hide (m : Nat) (hm : Sub 16273901606 m) (x0 : State) (x1) : (State.discardSample x0 x1).hide m = x0.hide m := by
  unfold State.discardSample
  repeat' (first | (simp only [hide_ite, ite_self, implies_true, State.absorb_hide m (.of rfl hm), upd_1_2_5_11 m (.of rfl hm)]; done) | (simp only [hide_ite, ite_self, implies_true, State.absorb_hide m (.of rfl hm), upd_1_2_5_11 m (.of rfl hm)]; split) | split | (simp only [hide_ite, ite_self, implies_true, State.absorb_hide m (.of rfl hm), upd_1_2_5_11 m (.of rfl hm)]; with_reducible refine (hide_foldl m _ _ _ fun x a => ?_).trans ?_) | with_reducible refine (hide_foldl m _ _ _ fun x a => ?_).trans ?_)

theorem State.positionStep_hide (m : Nat) (hm : Sub 16273899520 m) (x0 : State) (x1) (x2) (x3) : (State.positionStep x0 x1 x2 x3).hide m = x0.hide m := by
  unfold State.positionStep
  simp only [hide_ite, ite_self, State.absorb_hide m (.of rfl hm), upd_25 m (.of rfl hm)]

theorem State.cfeReport_hide (m : Nat) (hm : Sub 16275996704 m) (x0 : State) (x1) : (State.cfeReport x0 x1).hide m = x0.hide m := by
  unfold State.cfeReport
  simp only [hide_ite, ite_self, State.absorb_hide m (.of rfl hm), State.withdrawCause_hide m (.of rfl hm), upd_5 m (.of rfl hm)]

theorem State.supervise_hide (m : Nat) (hm : Sub 16777344 m) (x0 : State) : (State.supervise x0).hide m = x0.hide m := by
  unfold State.supervise
  simp only [State.single35_hide m (.of rfl hm), upd_24 m (.of rfl hm)]

theorem execZeroTrackComplete_hide (m : Nat) (hm : Sub 16273899552 m) (x0 : State) : (outState x0 (execZeroTrackComplete x0)).hide m = x0.hide m := by
  unfold execZeroTrackComplete
  simp only [hide_ite, ite_self, out_next, State.absorb_hide m (.of rfl hm), upd_5 m (.of rfl hm)]

theorem State.restRequest_hide (m : Nat) (hm : Sub 50499452928 m) (x0 : State) : (State.restRequest x0).hide m = x0.hide m := by
  unfold State.restRequest
  repeat' (first | (simp only [hide_ite, ite_self, implies_true, hide_foldl, State.notify_hide m (.of rfl hm), State.draw_hide m (.of rfl hm), upd_15 m (.of rfl hm)]; done) | (simp only [hide_ite, ite_self, implies_true, hide_foldl, State.notify_hide m (.of rfl hm), State.draw_hide m (.of rfl hm), upd_15 m (.of rfl hm)]; split) | split | (simp only [hide_ite, ite_self, implies_true, hide_foldl, State.notify_hide m (.of rfl hm), State.draw_hide m (.of rfl hm), upd_15 m (.of rfl hm)]; with_reducible refine (hide_foldl m _ _ _ fun x a => ?_).trans ?_) | with_reducible refine (hide_foldl m _ _ _ fun x a => ?_).trans ?_)

theorem State.scaleCell_hide (m : Nat) (hm : Sub 16273899524 m) (x0 : State) (x1) : (State.scaleCell x0 x1).hide m = x0.hide m := by
  unfold State.scaleCell
  repeat' (first | (simp only [hide_ite, ite_self, implies_true, State.absorb_hide m (.of rfl hm), State.modChan_hide m (.of rfl hm)]; done) | (simp only [hide_ite, ite_self, implies_true, State.absorb_hide m (.of rfl hm), State.modChan_hide m (.of rfl hm)]; split) | split | (simp only [hide_ite, ite_self, implies_true, State.absorb_hide m (.of rfl hm), State.modChan_hide m (.of rfl hm)]; with_reducible refine (hide_foldl m _ _ _ fun x a => ?_).trans ?_) | with_reducible refine (hide_foldl m _ _ _ fun x a => ?_).trans ?_)

theorem State.receive_hide (m : Nat) (hm : Sub 14126415872 m) (x0 : State) (x1) (x2) (x3) : (State.receive x0 x1 x2 x3).hide m = x0.hide m := by
  unfold State.receive
  repeat' (first | (simp only [hide_ite, ite_self, implies_true, State.receiptReply_hide m (.of rfl hm), State.forward_hide m (.of rfl hm), State.accept_hide m (.of rfl hm)]; done) | (simp only [hide_ite, ite_self, implies_true, State.receiptReply_hide m (.of rfl hm), State.forward_hide m (.of rfl hm), State.accept_hide m (.of rfl hm)]; split) | split | (simp only [hide_ite, ite_self, implies_true, State.receiptReply_hide m (.of rfl hm), State.forward_hide m (.of rfl hm), State.accept_hide m (.of rfl hm)]; with_reducible refine (hide_foldl m _ _ _ fun x a => ?_).trans ?_) | with_reducible refine (hide_foldl m _ _ _ fun x a => ?_).trans ?_)

theorem State.crossJob_hide (m : Nat) (hm : Sub 33626112 m) (x0 : State) : (State.crossJob x0).hide m = x0.hide m := by
  unfold State.crossJob
  simp only [implies_true, hide_foldl, State.takeVerdict_hide m (.of rfl hm), State.watchGroup_hide m (.of rfl hm), upd_16 m (.of rfl hm)]

theorem State.laneAbsorb_hide (m : Nat) (hm : Sub 16341008384 m) (x0 : State) (x1) (x2) (x3) : (State.laneAbsorb x0 x1 x2 x3).hide m = x0.hide m := by
  unfold State.laneAbsorb
  simp only [State.absorb_hide m (.of rfl hm), State.modLane_hide m (.of rfl hm)]

theorem State.outerLaw_hide (m : Nat) (hm : Sub 25165952 m) (x0 : State) (x1) (x2) (x3) (x4) : (State.outerLaw x0 x1 x2 x3 x4).hide m = x0.hide m := by
  unfold State.outerLaw
  repeat' (first | (simp only [hide_ite, ite_self, implies_true, State.single_hide m (.of rfl hm), State.notch_hide m (.of rfl hm), State.singleKeep_hide m (.of rfl hm), upd_24 m (.of rfl hm), upd_23_24 m (.of rfl hm)]; done) | (simp only [hide_ite, ite_self, implies_true, State.single_hide m (.of rfl hm), State.notch_hide m (.of rfl hm), State.singleKeep_hide m (.of rfl hm), upd_24 m (.of rfl hm), upd_23_24 m (.of rfl hm)]; split) | split | (simp only [hide_ite, ite_self, implies_true, State.single_hide m (.of rfl hm), State.notch_hide m (.of rfl hm), State.singleKeep_hide m (.of rfl hm), upd_24 m (.of rfl hm), upd_23_24 m (.of rfl hm)]; with_reducible refine (hide_foldl m _ _ _ fun x a => ?_).trans ?_) | with_reducible refine (hide_foldl m _ _ _ fun x a => ?_).trans ?_)

theorem execLoopFault_hide (m : Nat) (hm : Sub 140771877453824 m) (x0) (x1 : State) : (outState x1 (execLoopFault x0 x1)).hide m = x1.hide m := by
  unfold execLoopFault
  simp only [hide_ite, ite_self, out_ite, out_next, out_fault, State.convStop_hide m (.of rfl hm)]

theorem State.writeTamper_hide (m : Nat) (hm : Sub 33453769728 m) (x0 : State) (x1) : (State.writeTamper x0 x1).hide m = x0.hide m := by
  unfold State.writeTamper
  simp only [hide_ite, ite_self, State.absorb_hide m (.of rfl hm), State.record_hide m (.of rfl hm)]

theorem State.loseLaneData_hide (m : Nat) (hm : Sub 459766850132995 m) (x0 : State) : (State.loseLaneData x0).hide m = x0.hide m := by
  unfold State.loseLaneData
  simp only [State.convOff_hide m (.of rfl hm), State.loseLanes_hide m (.of rfl hm), upd_0_1_10_11_12_19_23_25_30_31_32_33_34_37_45 m (.of rfl hm)]

theorem State.ringRecord_hide (m : Nat) (hm : Sub 268435552 m) (x0 : State) (x1) : (State.ringRecord x0 x1).hide m = x0.hide m := by
  unfold State.ringRecord
  simp only [hide_ite, ite_self, State.takeRecord_hide m (.of rfl hm), State.prechargeFrame_hide m (.of rfl hm)]

theorem execAuxOkSet_hide (m : Nat) (hm : Sub 53317992449 m) (x0 : State) : (outState x0 (execAuxOkSet x0)).hide m = x0.hide m := by
  unfold execAuxOkSet
  simp only [hide_ite, ite_self, out_next, State.wakeBy_hide m (.of rfl hm), upd_29 m (.of rfl hm)]

theorem State.evalThermal_hide (m : Nat) (hm : Sub 16139685888 m) (x0 : State) : (State.evalThermal x0).hide m = x0.hide m := by
  unfold State.evalThermal
  simp only [hide_ite, ite_self, State.notify_hide m (.of rfl hm), upd_12 m (.of rfl hm)]

theorem State.thermoEst_hide (m : Nat) (hm : Sub 16274030592 m) (x0 : State) (x1) (x2) : (State.thermoEst x0 x1 x2).hide m = x0.hide m := by
  unfold State.thermoEst
  repeat' (first | (simp only [hide_ite, ite_self, implies_true, State.absorb_hide m (.of rfl hm), State.modThermo_hide m (.of rfl hm)]; done) | (simp only [hide_ite, ite_self, implies_true, State.absorb_hide m (.of rfl hm), State.modThermo_hide m (.of rfl hm)]; split) | split | (simp only [hide_ite, ite_self, implies_true, State.absorb_hide m (.of rfl hm), State.modThermo_hide m (.of rfl hm)]; with_reducible refine (hide_foldl m _ _ _ fun x a => ?_).trans ?_) | with_reducible refine (hide_foldl m _ _ _ fun x a => ?_).trans ?_)

theorem execColdStart_hide (m : Nat) (hm : Sub 1125075273121791 m) (x0) (x1) (x2 : State) : (outState x2 (execColdStart x0 x1 x2)).hide m = x2.hide m := by
  unfold execColdStart
  simp only [hide_ite, ite_self, out_ite, out_next, out_fault, State.coldBase_hide m (.of rfl hm), State.coldReturn_hide m (.of rfl hm), upd_29_40 m (.of rfl hm)]

theorem State.cellCause_hide (m : Nat) (hm : Sub 2097152 m) (x0 : State) (x1) (x2) (x3) (x4) : (State.cellCause x0 x1 x2 x3 x4).hide m = x0.hide m := by
  unfold State.cellCause
  simp only [hide_ite, ite_self, State.withdrawCause_hide m (.of rfl hm), State.setCause_hide m (.of rfl hm)]

theorem State.runLaw_hide (m : Nat) (hm : Sub 25165952 m) (x0 : State) : (State.runLaw x0).hide m = x0.hide m := by
  unfold State.runLaw
  simp only [hide_ite, ite_self, State.outerLaw_hide m (.of rfl hm), State.changeMode_hide m (.of rfl hm), State.peakLaw_hide m (.of rfl hm), upd_24 m (.of rfl hm), upd_23_24 m (.of rfl hm)]

theorem State.leaveProtOnly_hide (m : Nat) (hm : Sub 143108242751491 m) (x0 : State) : (State.leaveProtOnly x0).hide m = x0.hide m := by
  unfold State.leaveProtOnly
  simp only [hide_ite, ite_self, State.loadConfig_hide m (.of rfl hm), State.absorb_hide m (.of rfl hm), State.withdrawCause_hide m (.of rfl hm), State.requestContactors_hide m (.of rfl hm), State.convOff_hide m (.of rfl hm), State.freshLane_hide m (.of rfl hm), State.driveContactors_hide m (.of rfl hm), upd_27_29 m (.of rfl hm)]

theorem State.journal_hide (m : Nat) (hm : Sub 17179870208 m) (x0 : State) (x1) (x2) (x3) (x4) (x5) : (State.journal x0 x1 x2 x3 x4 x5).hide m = x0.hide m := by
  unfold State.journal
  simp only [State.record_hide m (.of rfl hm)]

theorem State.complete_hide (m : Nat) (hm : Sub 16139681792 m) (x0 : State) (x1) (x2) (x3) (x4) (x5) (x6) : (State.complete x0 x1 x2 x3 x4 x5 x6).hide m = x0.hide m := by
  unfold State.complete
  simp only [State.notify_hide m (.of rfl hm), upd_31 m (.of rfl hm)]

theorem execEisBlockEnd_hide (m : Nat) (hm : Sub 33622016 m) (x0 : State) : (outState x0 (execEisBlockEnd x0)).hide m = x0.hide m := by
  unfold execEisBlockEnd
  simp only [hide_ite, ite_self, out_next, State.blockEnd_hide m (.of rfl hm)]

theorem execDrainTimeout_hide (m : Nat) (hm : Sub 140771877453824 m) (x0 : State) : (outState x0 (execDrainTimeout x0)).hide m = x0.hide m := by
  unfold execDrainTimeout
  simp only [hide_ite, ite_self, out_next, State.convStop_hide m (.of rfl hm)]

theorem State.applyOutputs_hide (m : Nat) (hm : Sub 142936809406465 m) (x0 : State) : (State.applyOutputs x0).hide m = x0.hide m := by
  unfold State.applyOutputs
  simp only [hide_ite, ite_self, State.beginDrain_hide m (.of rfl hm), State.driveContactors_hide m (.of rfl hm), upd_23_24 m (.of rfl hm)]

theorem State.notifySafety_hide (m : Nat) (hm : Sub 16139681792 m) (x0 : State) : (State.notifySafety x0).hide m = x0.hide m := by
  unfold State.notifySafety
  simp only [State.notify_hide m (.of rfl hm)]

theorem execTableBlockCheck_hide (m : Nat) (hm : Sub 16341532672 m) (x0) (x1) (x2 : State) : (outState x2 (execTableBlockCheck x0 x1 x2)).hide m = x2.hide m := by
  unfold execTableBlockCheck
  simp only [hide_ite, ite_self, out_next, State.notify_hide m (.of rfl hm), State.absorb_hide m (.of rfl hm), State.modLane_hide m (.of rfl hm), upd_19 m (.of rfl hm)]

theorem opConvSetpoint_hide (m : Nat) (hm : Sub 70385940825088 m) (x0) (x1) (x2 : State) : (opConvSetpoint x0 x1 x2).s.hide m = x2.hide m := by
  unfold opConvSetpoint
  repeat' (first | (simp only [hide_ite, ite_self, implies_true, ans_ite, fail_s, refuse_s, okAns_s, State.journal_hide m (.of rfl hm), fail_hide m (.of rfl hm), okAns_hide m (.of rfl hm), refuse_hide m (.of rfl hm), upd_24_46 m (.of rfl hm)]; done) | (simp only [hide_ite, ite_self, implies_true, ans_ite, fail_s, refuse_s, okAns_s, State.journal_hide m (.of rfl hm), fail_hide m (.of rfl hm), okAns_hide m (.of rfl hm), refuse_hide m (.of rfl hm), upd_24_46 m (.of rfl hm)]; split) | split | (simp only [hide_ite, ite_self, implies_true, ans_ite, fail_s, refuse_s, okAns_s, State.journal_hide m (.of rfl hm), fail_hide m (.of rfl hm), okAns_hide m (.of rfl hm), refuse_hide m (.of rfl hm), upd_24_46 m (.of rfl hm)]; with_reducible refine (hide_foldl m _ _ _ fun x a => ?_).trans ?_) | with_reducible refine (hide_foldl m _ _ _ fun x a => ?_).trans ?_)

theorem State.drainEnds_hide (m : Nat) (hm : Sub 16139757568 m) (x0 : State) : (State.drainEnds x0).hide m = x0.hide m := by
  unfold State.drainEnds
  repeat' (first | (simp only [hide_ite, ite_self, implies_true, State.complete_hide m (.of rfl hm), State.feedResults_hide m (.of rfl hm), upd_16 m (.of rfl hm)]; done) | (simp only [hide_ite, ite_self, implies_true, State.complete_hide m (.of rfl hm), State.feedResults_hide m (.of rfl hm), upd_16 m (.of rfl hm)]; split) | split | (simp only [hide_ite, ite_self, implies_true, State.complete_hide m (.of rfl hm), State.feedResults_hide m (.of rfl hm), upd_16 m (.of rfl hm)]; with_reducible refine (hide_foldl m _ _ _ fun x a => ?_).trans ?_) | with_reducible refine (hide_foldl m _ _ _ fun x a => ?_).trans ?_)

theorem State.checkIlim_hide (m : Nat) (hm : Sub 16274948096 m) (x0 : State) : (State.checkIlim x0).hide m = x0.hide m := by
  unfold State.checkIlim
  simp only [hide_ite, ite_self, implies_true, hide_foldl, State.absorb_hide m (.of rfl hm), upd_20 m (.of rfl hm)]

theorem State.canError_hide (m : Nat) (hm : Sub 12884901888 m) (x0 : State) (x1) (x2) : (State.canError x0 x1 x2).hide m = x0.hide m := by
  unfold State.canError
  simp only [hide_ite, ite_self, State.modCan_hide m (.of rfl hm), State.settleBus_hide m (.of rfl hm)]

theorem opEisAbort_hide (m : Nat) (hm : Sub 17213490176 m) (x0) (x1) (x2 : State) : (opEisAbort x0 x1 x2).s.hide m = x2.hide m := by
  unfold opEisAbort
  simp only [hide_ite, ite_self, ans_ite, fail_s, okAns_s, State.endSweep_hide m (.of rfl hm), State.toSatellites_hide m (.of rfl hm), State.journal_hide m (.of rfl hm), upd_16 m (.of rfl hm)]

theorem State.spiIn_hide (m : Nat) (hm : Sub 14126415872 m) (x0 : State) (x1) (x2) : (State.spiIn x0 x1 x2).hide m = x0.hide m := by
  unfold State.spiIn
  simp only [hide_ite, ite_self, State.receive_hide m (.of rfl hm), State.spiDiscard_hide m (.of rfl hm), upd_33 m (.of rfl hm)]

theorem execOvercurrentTrip_hide (m : Nat) (hm : Sub 140771879551008 m) (x0) (x1 : State) : (outState x1 (execOvercurrentTrip x0 x1)).hide m = x1.hide m := by
  unfold execOvercurrentTrip
  simp only [hide_ite, ite_self, out_next, State.setCause_hide m (.of rfl hm), State.convStop_hide m (.of rfl hm), upd_5_21 m (.of rfl hm)]

theorem State.trip_hide (m : Nat) (hm : Sub 171574611148801 m) (x0 : State) (x1) : (State.trip x0 x1).hide m = x0.hide m := by
  unfold State.trip
  repeat' (first | (simp only [hide_ite, ite_self, implies_true, State.notifySafety_hide m (.of rfl hm), State.convStop_hide m (.of rfl hm), upd_28 m (.of rfl hm), upd_0_28_42_43_44 m (.of rfl hm)]; done) | (simp only [hide_ite, ite_self, implies_true, State.notifySafety_hide m (.of rfl hm), State.convStop_hide m (.of rfl hm), upd_28 m (.of rfl hm), upd_0_28_42_43_44 m (.of rfl hm)]; split) | split | (simp only [hide_ite, ite_self, implies_true, State.notifySafety_hide m (.of rfl hm), State.convStop_hide m (.of rfl hm), upd_28 m (.of rfl hm), upd_0_28_42_43_44 m (.of rfl hm)]; with_reducible refine (hide_foldl m _ _ _ fun x a => ?_).trans ?_) | with_reducible refine (hide_foldl m _ _ _ fun x a => ?_).trans ?_)

theorem execTestOutputDrop_hide (m : Nat) (hm : Sub 171574611148801 m) (x0) (x1) (x2 : State) : (outState x2 (execTestOutputDrop x0 x1 x2)).hide m = x2.hide m := by
  unfold execTestOutputDrop
  simp only [hide_ite, ite_self, out_next, State.trip_hide m (.of rfl hm), State.modSafe_hide m (.of rfl hm)]

theorem State.protNotice_hide (m : Nat) (hm : Sub 13992198144 m) (x0 : State) : (State.protNotice x0).hide m = x0.hide m := by
  unfold State.protNotice
  simp only [hide_ite, ite_self, implies_true, hide_foldl, State.noticeOn_hide m (.of rfl hm)]

theorem State.loseVolatile_hide (m : Nat) (hm : Sub 530204315090943 m) (x0 : State) : (State.loseVolatile x0).hide m = x0.hide m := by
  unfold State.loseVolatile
  simp only [State.losePanData_hide m (.of rfl hm), State.loseLaneData_hide m (.of rfl hm), State.initCells_hide m (.of rfl hm), State.startBist_hide m (.of rfl hm), upd_0_14 m (.of rfl hm)]

theorem execStackKeepaliveTest_hide (m : Nat) (hm : Sub 16273899554 m) (x0) (x1) (x2 : State) : (outState x2 (execStackKeepaliveTest x0 x1 x2)).hide m = x2.hide m := by
  unfold execStackKeepaliveTest
  simp only [hide_ite, ite_self, out_ite, out_next, out_fault, State.absorb_hide m (.of rfl hm), State.modFe_hide m (.of rfl hm), upd_5 m (.of rfl hm)]

theorem State.endVerify_hide (m : Nat) (hm : Sub 33319550976 m) (x0 : State) (x1) (x2) : (State.endVerify x0 x1 x2).hide m = x0.hide m := by
  unfold State.endVerify
  repeat' (first | (simp only [hide_ite, ite_self, implies_true, State.complete_hide m (.of rfl hm), upd_34 m (.of rfl hm)]; done) | (simp only [hide_ite, ite_self, implies_true, State.complete_hide m (.of rfl hm), upd_34 m (.of rfl hm)]; split) | split | (simp only [hide_ite, ite_self, implies_true, State.complete_hide m (.of rfl hm), upd_34 m (.of rfl hm)]; with_reducible refine (hide_foldl m _ _ _ fun x a => ?_).trans ?_) | with_reducible refine (hide_foldl m _ _ _ fun x a => ?_).trans ?_)

theorem State.noteStatus_hide (m : Nat) (hm : Sub 16273903618 m) (x0 : State) (x1) (x2) : (State.noteStatus x0 x1 x2).hide m = x0.hide m := by
  unfold State.noteStatus
  simp only [hide_ite, ite_self, State.absorb_hide m (.of rfl hm), State.modFe_hide m (.of rfl hm), upd_12 m (.of rfl hm)]

theorem State.threshJob_hide (m : Nat) (hm : Sub 16275996672 m) (x0 : State) : (State.threshJob x0).hide m = x0.hide m := by
  unfold State.threshJob
  simp only [hide_ite, ite_self, State.absorb_hide m (.of rfl hm), State.setCause_hide m (.of rfl hm), upd_21 m (.of rfl hm)]

theorem execFeSupplyChangeover_hide (m : Nat) (hm : Sub 16273899554 m) (x0) (x1 : State) : (outState x1 (execFeSupplyChangeover x0 x1)).hide m = x1.hide m := by
  unfold execFeSupplyChangeover
  simp only [hide_ite, ite_self, out_ite, out_next, out_fault, State.absorb_hide m (.of rfl hm), State.modFe_hide m (.of rfl hm), upd_5 m (.of rfl hm)]

theorem State.strapJob_hide (m : Nat) (hm : Sub 16273899522 m) (x0 : State) : (State.strapJob x0).hide m = x0.hide m := by
  unfold State.strapJob
  simp only [hide_ite, ite_self, implies_true, hide_foldl, State.strapCheck_hide m (.of rfl hm)]

theorem execOutputTestDrop_hide (m : Nat) (hm : Sub 171574611148801 m) (x0) (x1) (x2 : State) : (outState x2 (execOutputTestDrop x0 x1 x2)).hide m = x2.hide m := by
  unfold execOutputTestDrop
  simp only [hide_ite, ite_self, out_ite, out_next, out_fault, State.trip_hide m (.of rfl hm), upd_28_42_43_44 m (.of rfl hm)]

theorem State.thermoJob_hide (m : Nat) (hm : Sub 16274096128 m) (x0 : State) : (State.thermoJob x0).hide m = x0.hide m := by
  unfold State.thermoJob
  simp only [implies_true, hide_foldl, State.thermoEst_hide m (.of rfl hm), upd_16 m (.of rfl hm)]

theorem execScheduleFault_hide (m : Nat) (hm : Sub 16273901568 m) (x0 : State) : (outState x0 (execScheduleFault x0)).hide m = x0.hide m := by
  unfold execScheduleFault
  simp only [hide_ite, ite_self, out_next, State.absorb_hide m (.of rfl hm), upd_11 m (.of rfl hm)]

theorem execWakeConfirmed_hide (m : Nat) (hm : Sub 53317992449 m) (x0) (x1) (x2 : State) : (outState x2 (execWakeConfirmed x0 x1 x2)).hide m = x2.hide m := by
  unfold execWakeConfirmed
  simp only [hide_ite, ite_self, out_ite, out_next, out_fault, State.recordWake_hide m (.of rfl hm), State.wakeBy_hide m (.of rfl hm), upd_29 m (.of rfl hm)]

theorem State.checkSpares_hide (m : Nat) (hm : Sub 16139682304 m) (x0 : State) : (State.checkSpares x0).hide m = x0.hide m := by
  unfold State.checkSpares
  simp only [hide_ite, ite_self, State.notify_hide m (.of rfl hm), upd_9 m (.of rfl hm)]

theorem State.newKeys_hide (m : Nat) (hm : Sub 857953272832 m) (x0 : State) (x1) : (State.newKeys x0 x1).hide m = x0.hide m := by
  unfold State.newKeys
  simp only [State.journal_hide m (.of rfl hm), State.complete_hide m (.of rfl hm), upd_34_38_39 m (.of rfl hm)]

theorem State.messageRx_hide (m : Nat) (hm : Sub 14126514176 m) (x0 : State) (x1) (x2) : (State.messageRx x0 x1 x2).hide m = x0.hide m := by
  unfold State.messageRx
  repeat' (first | (simp only [hide_ite, ite_self, implies_true, State.takeSummary_hide m (.of rfl hm), State.receive_hide m (.of rfl hm), State.relayUp_hide m (.of rfl hm), State.takeStatus_hide m (.of rfl hm), upd_25 m (.of rfl hm)]; done) | (simp only [hide_ite, ite_self, implies_true, State.takeSummary_hide m (.of rfl hm), State.receive_hide m (.of rfl hm), State.relayUp_hide m (.of rfl hm), State.takeStatus_hide m (.of rfl hm), upd_25 m (.of rfl hm)]; split) | split | (simp only [hide_ite, ite_self, implies_true, State.takeSummary_hide m (.of rfl hm), State.receive_hide m (.of rfl hm), State.relayUp_hide m (.of rfl hm), State.takeStatus_hide m (.of rfl hm), upd_25 m (.of rfl hm)]; with_reducible refine (hide_foldl m _ _ _ fun x a => ?_).trans ?_) | with_reducible refine (hide_foldl m _ _ _ fun x a => ?_).trans ?_)

theorem State.enterProtOnly_hide (m : Nat) (hm : Sub 281489122004992 m) (x0 : State) (x1) (x2) : (State.enterProtOnly x0 x1 x2).hide m = x0.hide m := by
  unfold State.enterProtOnly
  simp only [State.protNotice_hide m (.of rfl hm), State.setCause_hide m (.of rfl hm), State.releaseToken_hide m (.of rfl hm), upd_12_24_27 m (.of rfl hm)]

theorem State.retirePan_hide (m : Nat) (hm : Sub 16273899648 m) (x0 : State) (x1) (x2) : (State.retirePan x0 x1 x2).hide m = x0.hide m := by
  unfold State.retirePan
  simp only [State.absorb_hide m (.of rfl hm), State.modPan_hide m (.of rfl hm)]

theorem State.acceptBlock_hide (m : Nat) (hm : Sub 16140207104 m) (x0 : State) (x1) (x2) (x3) (x4) (x5) : (State.acceptBlock x0 x1 x2 x3 x4 x5).hide m = x0.hide m := by
  unfold State.acceptBlock
  simp only [implies_true, hide_foldl, State.modStaged_hide m (.of rfl hm), State.complete_hide m (.of rfl hm), State.nvmAsk_hide m (.of rfl hm), upd_19 m (.of rfl hm)]

theorem State.relinkEnd_hide (m : Nat) (hm : Sub 16275996674 m) (x0 : State) (x1) (x2) : (State.relinkEnd x0 x1 x2).hide m = x0.hide m := by
  unfold State.relinkEnd
  repeat' (first | (simp only [hide_ite, ite_self, implies_true, State.notify_hide m (.of rfl hm), State.absorb_hide m (.of rfl hm), State.modFe_hide m (.of rfl hm), State.linksUp_hide m (.of rfl hm)]; done) | (simp only [hide_ite, ite_self, implies_true, State.notify_hide m (.of rfl hm), State.absorb_hide m (.of rfl hm), State.modFe_hide m (.of rfl hm), State.linksUp_hide m (.of rfl hm)]; split) | split | (simp only [hide_ite, ite_self, implies_true, State.notify_hide m (.of rfl hm), State.absorb_hide m (.of rfl hm), State.modFe_hide m (.of rfl hm), State.linksUp_hide m (.of rfl hm)]; with_reducible refine (hide_foldl m _ _ _ fun x a => ?_).trans ?_) | with_reducible refine (hide_foldl m _ _ _ fun x a => ?_).trans ?_)

theorem State.finish_hide (m : Nat) (hm : Sub 16139681792 m) (s : State) (op : Byte) (h : Hdr) (p : List Byte) (a : Ans)
    (ha : a.s.hide m = s.hide m) : (s.finish op h p a).hide m = s.hide m := by
  unfold State.finish
  simp only [State.answer_hide m (.of rfl hm), State.noteExecuted_hide m (.of rfl hm), State.settle_hide m (.of rfl hm) s h.port a ha]

theorem State.blockStored_hide (m : Nat) (hm : Sub 16140206080 m) (x0 : State) (x1) : (State.blockStored x0 x1).hide m = x0.hide m := by
  unfold State.blockStored
  simp only [hide_ite, ite_self, State.modStaged_hide m (.of rfl hm), State.complete_hide m (.of rfl hm), upd_19 m (.of rfl hm)]

theorem execSwapOverdue_hide (m : Nat) (hm : Sub 16273899520 m) (x0 : State) : (outState x0 (execSwapOverdue x0)).hide m = x0.hide m := by
  unfold execSwapOverdue
  simp only [hide_ite, ite_self, out_next, State.absorb_hide m (.of rfl hm), upd_27 m (.of rfl hm)]

theorem execSafetyDiscrepancy_hide (m : Nat) (hm : Sub 171574611148801 m) (x0) (x1 : State) : (outState x1 (execSafetyDiscrepancy x0 x1)).hide m = x1.hide m := by
  unfold execSafetyDiscrepancy
  simp only [hide_ite, ite_self, out_next, State.trip_hide m (.of rfl hm), State.modSafe_hide m (.of rfl hm)]

theorem State.faultPhase_hide (m : Nat) (hm : Sub 140788151353344 m) (x0 : State) (x1) (x2) : (State.faultPhase x0 x1 x2).hide m = x0.hide m := by
  unfold State.faultPhase
  simp only [hide_ite, ite_self, State.absorb_hide m (.of rfl hm), State.respread_hide m (.of rfl hm), State.convStop_hide m (.of rfl hm), State.modPhase_hide m (.of rfl hm), State.convCapture_hide m (.of rfl hm), upd_23 m (.of rfl hm)]

theorem State.disarmSafety_hide (m : Nat) (hm : Sub 171574611148800 m) (x0 : State) : (State.disarmSafety x0).hide m = x0.hide m := by
  unfold State.disarmSafety
  simp only [State.notifySafety_hide m (.of rfl hm), State.convStop_hide m (.of rfl hm), upd_28_42_43_44 m (.of rfl hm)]

theorem State.safetySample_hide (m : Nat) (hm : Sub 171574611148801 m) (x0 : State) (x1) : (State.safetySample x0 x1).hide m = x0.hide m := by
  unfold State.safetySample
  simp only [hide_ite, ite_self, implies_true, hide_foldl, State.followRequest_hide m (.of rfl hm), State.trip_hide m (.of rfl hm), State.disarmSafety_hide m (.of rfl hm), State.twoHand_hide m (.of rfl hm), upd_28_42_43_44 m (.of rfl hm)]

theorem execPrechargeTimeout_hide (m : Nat) (hm : Sub 171574611148801 m) (x0 : State) : (outState x0 (execPrechargeTimeout x0)).hide m = x0.hide m := by
  unfold execPrechargeTimeout
  simp only [hide_ite, ite_self, out_next, State.trip_hide m (.of rfl hm)]

theorem State.journalPower_hide (m : Nat) (hm : Sub 17179870208 m) (x0 : State) (x1) (x2) (x3) (x4) : (State.journalPower x0 x1 x2 x3 x4).hide m = x0.hide m := by
  unfold State.journalPower
  simp only [hide_ite, ite_self, State.journal_hide m (.of rfl hm)]

theorem State.toService_hide (m : Nat) (hm : Sub 143074114142209 m) (x0 : State) (x1) : (State.toService x0 x1).2.hide m = x0.hide m := by
  unfold State.toService
  simp only [hide_ite, ite_self, snd_ite, State.beginDrain_hide m (.of rfl hm), State.requestContactors_hide m (.of rfl hm), State.deferMode_hide m (.of rfl hm), upd_0_37 m (.of rfl hm)]

theorem State.applyMove_hide (m : Nat) (hm : Sub 70385040352188 m) (x0 : State) (x1) : (State.applyMove x0 x1).hide m = x0.hide m := by
  unfold State.applyMove
  repeat' (first | (simp only [hide_ite, ite_self, implies_true, State.absorb_hide m (.of rfl hm), State.restoreRole_hide m (.of rfl hm), State.toPool_hide m (.of rfl hm), State.giveRole_hide m (.of rfl hm), upd_9 m (.of rfl hm)]; done) | (simp only [hide_ite, ite_self, implies_true, State.absorb_hide m (.of rfl hm), State.restoreRole_hide m (.of rfl hm), State.toPool_hide m (.of rfl hm), State.giveRole_hide m (.of rfl hm), upd_9 m (.of rfl hm)]; split) | split | (simp only [hide_ite, ite_self, implies_true, State.absorb_hide m (.of rfl hm), State.restoreRole_hide m (.of rfl hm), State.toPool_hide m (.of rfl hm), State.giveRole_hide m (.of rfl hm), upd_9 m (.of rfl hm)]; with_reducible refine (hide_foldl m _ _ _ fun x a => ?_).trans ?_) | with_reducible refine (hide_foldl m _ _ _ fun x a => ?_).trans ?_)

theorem State.healthJob_hide (m : Nat) (hm : Sub 16139689984 m) (x0 : State) (x1) : (State.healthJob x0 x1).hide m = x0.hide m := by
  unfold State.healthJob
  simp only [implies_true, hide_foldl, State.healthCell_hide m (.of rfl hm)]

theorem State.countDrift_hide (m : Nat) (hm : Sub 16273899520 m) (x0 : State) (x1) : (State.countDrift x0 x1).hide m = x0.hide m := by
  unfold State.countDrift
  simp only [State.absorb_hide m (.of rfl hm)]

theorem execPpsLost_hide (m : Nat) (hm : Sub 16273899520 m) (x0 : State) : (outState x0 (execPpsLost x0)).hide m = x0.hide m := by
  unfold execPpsLost
  simp only [hide_ite, ite_self, out_next, State.absorb_hide m (.of rfl hm), upd_25 m (.of rfl hm)]

theorem State.badReading_hide (m : Nat) (hm : Sub 16273903616 m) (x0 : State) : (State.badReading x0).hide m = x0.hide m := by
  unfold State.badReading
  simp only [hide_ite, ite_self, State.absorb_hide m (.of rfl hm), upd_12 m (.of rfl hm)]

theorem State.noteBreaks_hide (m : Nat) (hm : Sub 16273899520 m) (x0 : State) (x1) (x2) : (State.noteBreaks x0 x1 x2).hide m = x0.hide m := by
  unfold State.noteBreaks
  simp only [hide_ite, ite_self, implies_true, hide_foldl, State.notify_hide m (.of rfl hm), State.absorb_hide m (.of rfl hm), upd_25 m (.of rfl hm)]

theorem State.balReport_hide (m : Nat) (hm : Sub 16140730368 m) (x0 : State) : (State.balReport x0).hide m = x0.hide m := by
  unfold State.balReport
  repeat' (first | (simp only [hide_ite, ite_self, implies_true, State.complete_hide m (.of rfl hm), upd_20 m (.of rfl hm)]; done) | (simp only [hide_ite, ite_self, implies_true, State.complete_hide m (.of rfl hm), upd_20 m (.of rfl hm)]; split) | split | (simp only [hide_ite, ite_self, implies_true, State.complete_hide m (.of rfl hm), upd_20 m (.of rfl hm)]; with_reducible refine (hide_foldl m _ _ _ fun x a => ?_).trans ?_) | with_reducible refine (hide_foldl m _ _ _ fun x a => ?_).trans ?_)

theorem execAnchorStarved_hide (m : Nat) (hm : Sub 16273924096 m) (x0 : State) : (outState x0 (execAnchorStarved x0)).hide m = x0.hide m := by
  unfold execAnchorStarved
  simp only [hide_ite, ite_self, out_next, State.absorb_hide m (.of rfl hm), State.setCounting_hide m (.of rfl hm), upd_14 m (.of rfl hm)]

theorem State.afterGap_hide (m : Nat) (hm : Sub 16273907744 m) (x0 : State) : (State.afterGap x0).hide m = x0.hide m := by
  unfold State.afterGap
  simp only [hide_ite, ite_self, State.absorb_hide m (.of rfl hm), upd_13 m (.of rfl hm), upd_5_13 m (.of rfl hm)]

theorem State.checkVerify_hide (m : Nat) (hm : Sub 33319550976 m) (x0 : State) : (State.checkVerify x0).hide m = x0.hide m := by
  unfold State.checkVerify
  simp only [hide_ite, ite_self, State.endVerify_hide m (.of rfl hm)]

theorem State.loadSafetySet_hide (m : Nat) (hm : Sub 30802733694976 m) (x0 : State) : (State.loadSafetySet x0).hide m = x0.hide m := by
  unfold State.loadSafetySet
  simp only [hide_ite, ite_self, State.notifySafety_hide m (.of rfl hm), State.modSafe_hide m (.of rfl hm), upd_28_42_43_44 m (.of rfl hm)]

theorem State.cfeRelinkEnd_hide (m : Nat) (hm : Sub 16273899552 m) (x0 : State) (x1) : (State.cfeRelinkEnd x0 x1).hide m = x0.hide m := by
  unfold State.cfeRelinkEnd
  repeat' (first | (simp only [hide_ite, ite_self, implies_true, State.notify_hide m (.of rfl hm), State.absorb_hide m (.of rfl hm), upd_5 m (.of rfl hm)]; done) | (simp only [hide_ite, ite_self, implies_true, State.notify_hide m (.of rfl hm), State.absorb_hide m (.of rfl hm), upd_5 m (.of rfl hm)]; split) | split | (simp only [hide_ite, ite_self, implies_true, State.notify_hide m (.of rfl hm), State.absorb_hide m (.of rfl hm), upd_5 m (.of rfl hm)]; with_reducible refine (hide_foldl m _ _ _ fun x a => ?_).trans ?_) | with_reducible refine (hide_foldl m _ _ _ fun x a => ?_).trans ?_)

theorem opFaultClear_hide (m : Nat) (hm : Sub 17181967360 m) (x0) (x1) (x2 : State) : (opFaultClear x0 x1 x2).s.hide m = x2.hide m := by
  unfold opFaultClear
  simp only [hide_ite, ite_self, implies_true, okAns_s, hide_foldl, State.clearCause_hide m (.of rfl hm), State.journal_hide m (.of rfl hm), upd_21 m (.of rfl hm)]

theorem execLoopImplausible_hide (m : Nat) (hm : Sub 140771877453824 m) (x0 : State) : (outState x0 (execLoopImplausible x0)).hide m = x0.hide m := by
  unfold execLoopImplausible
  simp only [hide_ite, ite_self, out_next, State.declare_hide m (.of rfl hm)]

theorem execKSupplyLow_hide (m : Nat) (hm : Sub 171574611148801 m) (x0 : State) : (outState x0 (execKSupplyLow x0)).hide m = x0.hide m := by
  unfold execKSupplyLow
  simp only [hide_ite, ite_self, out_next, State.trip_hide m (.of rfl hm), State.modSafe_hide m (.of rfl hm)]

theorem execRingWakeTone_hide (m : Nat) (hm : Sub 53317992449 m) (x0) (x1 : State) : (outState x1 (execRingWakeTone x0 x1)).hide m = x1.hide m := by
  unfold execRingWakeTone
  simp only [hide_ite, ite_self, out_next, State.sendTone_hide m (.of rfl hm), State.wakeBy_hide m (.of rfl hm)]

theorem State.reinit_hide (m : Nat) (hm : Sub 16273907712 m) (x0 : State) (x1) : (State.reinit x0 x1).hide m = x0.hide m := by
  unfold State.reinit
  simp only [State.absorb_hide m (.of rfl hm), State.modEst_hide m (.of rfl hm)]

theorem State.holdCurrent_hide (m : Nat) (hm : Sub 301989984 m) (x0 : State) : (State.holdCurrent x0).hide m = x0.hide m := by
  unfold State.holdCurrent
  simp only [hide_ite, ite_self, State.sendRecord_hide m (.of rfl hm), upd_5 m (.of rfl hm)]

theorem State.thermalTrip_hide (m : Nat) (hm : Sub 16275996674 m) (x0 : State) (x1) : (State.thermalTrip x0 x1).hide m = x0.hide m := by
  unfold State.thermalTrip
  simp only [State.absorb_hide m (.of rfl hm), State.modFe_hide m (.of rfl hm), State.capture_hide m (.of rfl hm)]

theorem execCurrentRecordRx_hide (m : Nat) (hm : Sub 268435552 m) (x0) (x1 : State) : (outState x1 (execCurrentRecordRx x0 x1)).hide m = x1.hide m := by
  unfold execCurrentRecordRx
  repeat' (first | (simp only [hide_ite, ite_self, implies_true, out_ite, out_next, out_fault, State.ringRecord_hide m (.of rfl hm)]; done) | (simp only [hide_ite, ite_self, implies_true, out_ite, out_next, out_fault, State.ringRecord_hide m (.of rfl hm)]; split) | split | (simp only [hide_ite, ite_self, implies_true, out_ite, out_next, out_fault, State.ringRecord_hide m (.of rfl hm)]; with_reducible refine (hide_foldl m _ _ _ fun x a => ?_).trans ?_) | with_reducible refine (hide_foldl m _ _ _ fun x a => ?_).trans ?_)

theorem opThermoCal_hide (m : Nat) (hm : Sub 19327484928 m) (x0) (x1) (x2 : State) : (opThermoCal x0 x1 x2).s.hide m = x2.hide m := by
  unfold opThermoCal
  simp only [hide_ite, ite_self, implies_true, ans_ite, fail_s, okAns_s, hide_foldl, State.stage_hide m (.of rfl hm), State.journal_hide m (.of rfl hm), State.calStore_hide m (.of rfl hm)]

theorem State.spiWrite_hide (m : Nat) (hm : Sub 14126415872 m) (x0 : State) (x1) (x2) (x3) : (State.spiWrite x0 x1 x2 x3).hide m = x0.hide m := by
  unfold State.spiWrite
  repeat' (first | (simp only [hide_ite, ite_self, implies_true, State.spiIn_hide m (.of rfl hm), State.spiIrqStatus_hide m (.of rfl hm), upd_33 m (.of rfl hm)]; done) | (simp only [hide_ite, ite_self, implies_true, State.spiIn_hide m (.of rfl hm), State.spiIrqStatus_hide m (.of rfl hm), upd_33 m (.of rfl hm)]; split) | split | (simp only [hide_ite, ite_self, implies_true, State.spiIn_hide m (.of rfl hm), State.spiIrqStatus_hide m (.of rfl hm), upd_33 m (.of rfl hm)]; with_reducible refine (hide_foldl m _ _ _ fun x a => ?_).trans ?_) | with_reducible refine (hide_foldl m _ _ _ fun x a => ?_).trans ?_)

theorem execInrushTrip_hide (m : Nat) (hm : Sub 171574611148801 m) (x0 : State) : (outState x0 (execInrushTrip x0)).hide m = x0.hide m := by
  unfold execInrushTrip
  simp only [hide_ite, ite_self, out_next, State.trip_hide m (.of rfl hm), upd_28 m (.of rfl hm)]

theorem State.measureStep_hide (m : Nat) (hm : Sub 16273907712 m) (x0 : State) (x1) (x2) (x3) : (State.measureStep x0 x1 x2 x3).hide m = x0.hide m := by
  unfold State.measureStep
  simp only [hide_ite, ite_self, State.modEst_hide m (.of rfl hm), State.reinit_hide m (.of rfl hm)]

theorem execRestRequestRepeat_hide (m : Nat) (hm : Sub 50499452928 m) (x0 : State) : (outState x0 (execRestRequestRepeat x0)).hide m = x0.hide m := by
  unfold execRestRequestRepeat
  simp only [hide_ite, ite_self, out_next, State.restRequest_hide m (.of rfl hm)]

theorem State.retireLane_hide (m : Nat) (hm : Sub 16206790656 m) (x0 : State) (x1) : (State.retireLane x0 x1).hide m = x0.hide m := by
  unfold State.retireLane
  simp only [State.notify_hide m (.of rfl hm), State.modLane_hide m (.of rfl hm)]

theorem opBalPlan_hide (m : Nat) (hm : Sub 17180918784 m) (x0) (x1) (x2 : State) : (opBalPlan x0 x1 x2).s.hide m = x2.hide m := by
  unfold opBalPlan
  simp only [hide_ite, ite_self, ans_ite, fail_s, refuse_s, okAns_s, State.journal_hide m (.of rfl hm), upd_20 m (.of rfl hm)]

theorem State.pairPoint_hide (m : Nat) (hm : Sub 16273907712 m) (x0 : State) (x1) : (State.pairPoint x0 x1).hide m = x0.hide m := by
  unfold State.pairPoint
  repeat' (first | (simp only [hide_ite, ite_self, implies_true, State.absorb_hide m (.of rfl hm), State.modEst_hide m (.of rfl hm)]; done) | (simp only [hide_ite, ite_self, implies_true, State.absorb_hide m (.of rfl hm), State.modEst_hide m (.of rfl hm)]; split) | split | (simp only [hide_ite, ite_self, implies_true, State.absorb_hide m (.of rfl hm), State.modEst_hide m (.of rfl hm)]; with_reducible refine (hide_foldl m _ _ _ fun x a => ?_).trans ?_) | with_reducible refine (hide_foldl m _ _ _ fun x a => ?_).trans ?_)

theorem State.goodPacket_hide (m : Nat) (hm : Sub 16276000774 m) (x0 : State) (x1) (x2) : (State.goodPacket x0 x1 x2).hide m = x0.hide m := by
  unfold State.goodPacket
  simp only [hide_ite, ite_self, State.noteImax_hide m (.of rfl hm), State.absorb_hide m (.of rfl hm), State.nameCells_hide m (.of rfl hm), State.noteStatus_hide m (.of rfl hm), State.modFe_hide m (.of rfl hm), State.takeCurrents_hide m (.of rfl hm)]

theorem State.framePacket_hide (m : Nat) (hm : Sub 16276002854 m) (x0 : State) (x1) (x2) (x3) (x4) : (State.framePacket x0 x1 x2 x3 x4).hide m = x0.hide m := by
  unfold State.framePacket
  simp only [hide_ite, ite_self, State.discardSample_hide m (.of rfl hm), State.goodPacket_hide m (.of rfl hm), State.noteBacklog_hide m (.of rfl hm), State.badPacket_hide m (.of rfl hm)]

theorem State.blockAccepts_hide (m : Nat) (hm : Sub 571539458 m) (x0 : State) (x1) : (State.blockAccepts x0 x1).hide m = x0.hide m := by
  unfold State.blockAccepts
  simp only [hide_ite, ite_self, State.commitEntry_hide m (.of rfl hm), upd_29 m (.of rfl hm)]

theorem State.writeProtRecord_hide (m : Nat) (hm : Sub 16141779968 m) (x0 : State) : (State.writeProtRecord x0).hide m = x0.hide m := by
  unfold State.writeProtRecord
  repeat' (first | (simp only [hide_ite, ite_self, implies_true, State.notify_hide m (.of rfl hm), State.nvmAsk_hide m (.of rfl hm), upd_21 m (.of rfl hm)]; done) | (simp only [hide_ite, ite_self, implies_true, State.notify_hide m (.of rfl hm), State.nvmAsk_hide m (.of rfl hm), upd_21 m (.of rfl hm)]; split) | split | (simp only [hide_ite, ite_self, implies_true, State.notify_hide m (.of rfl hm), State.nvmAsk_hide m (.of rfl hm), upd_21 m (.of rfl hm)]; with_reducible refine (hide_foldl m _ _ _ fun x a => ?_).trans ?_) | with_reducible refine (hide_foldl m _ _ _ fun x a => ?_).trans ?_)

theorem State.owConclude_hide (m : Nat) (hm : Sub 16277045260 m) (x0 : State) (x1) (x2) : (State.owConclude x0 x1 x2).hide m = x0.hide m := by
  unfold State.owConclude
  simp only [hide_ite, ite_self, implies_true, hide_foldl, State.tapOpens_hide m (.of rfl hm), State.tapCloses_hide m (.of rfl hm), State.modChan_hide m (.of rfl hm), State.modTap_hide m (.of rfl hm), upd_20 m (.of rfl hm)]

theorem State.mismatch_hide (m : Nat) (hm : Sub 16273900416 m) (x0 : State) (x1) (x2) (x3) : (State.mismatch x0 x1 x2 x3).hide m = x0.hide m := by
  unfold State.mismatch
  repeat' (first | (simp only [hide_ite, ite_self, implies_true, State.absorb_hide m (.of rfl hm), State.modPan_hide m (.of rfl hm), State.modSlot_hide m (.of rfl hm), upd_9 m (.of rfl hm)]; done) | (simp only [hide_ite, ite_self, implies_true, State.absorb_hide m (.of rfl hm), State.modPan_hide m (.of rfl hm), State.modSlot_hide m (.of rfl hm), upd_9 m (.of rfl hm)]; split) | split | (simp only [hide_ite, ite_self, implies_true, State.absorb_hide m (.of rfl hm), State.modPan_hide m (.of rfl hm), State.modSlot_hide m (.of rfl hm), upd_9 m (.of rfl hm)]; with_reducible refine (hide_foldl m _ _ _ fun x a => ?_).trans ?_) | with_reducible refine (hide_foldl m _ _ _ fun x a => ?_).trans ?_)

theorem opJournalRead_hide (m : Nat) (hm : Sub 16273899520 m) (x0) (x1) (x2 : State) : (opJournalRead x0 x1 x2).s.hide m = x2.hide m := by
  unfold opJournalRead
  repeat' (first | (simp only [hide_ite, ite_self, implies_true, ans_ite, fail_s, refuse_s, okAns_s, hide_foldl, State.absorb_hide m (.of rfl hm), fail_hide m (.of rfl hm), okAns_hide m (.of rfl hm)]; done) | (simp only [hide_ite, ite_self, implies_true, ans_ite, fail_s, refuse_s, okAns_s, hide_foldl, State.absorb_hide m (.of rfl hm), fail_hide m (.of rfl hm), okAns_hide m (.of rfl hm)]; split) | split | (simp only [hide_ite, ite_self, implies_true, ans_ite, fail_s, refuse_s, okAns_s, hide_foldl, State.absorb_hide m (.of rfl hm), fail_hide m (.of rfl hm), okAns_hide m (.of rfl hm)]; with_reducible refine (hide_foldl m _ _ _ fun x a => ?_).trans ?_) | with_reducible refine (hide_foldl m _ _ _ fun x a => ?_).trans ?_)

theorem State.lostAnchors_hide (m : Nat) (hm : Sub 140771877453824 m) (x0 : State) : (State.lostAnchors x0).hide m = x0.hide m := by
  unfold State.lostAnchors
  simp only [hide_ite, ite_self, State.startSafe_hide m (.of rfl hm), State.convCapture_hide m (.of rfl hm), upd_24 m (.of rfl hm)]

theorem State.adoptTime_hide (m : Nat) (hm : Sub 16273899521 m) (x0 : State) (x1) (x2) : (State.adoptTime x0 x1 x2).hide m = x0.hide m := by
  unfold State.adoptTime
  simp only [hide_ite, ite_self, State.absorb_hide m (.of rfl hm), upd_0 m (.of rfl hm)]

theorem opEclipseSwap_hide (m : Nat) (hm : Sub 17314087936 m) (x0) (x1) (x2 : State) : (opEclipseSwap x0 x1 x2).s.hide m = x2.hide m := by
  unfold opEclipseSwap
  simp only [hide_ite, ite_self, ans_ite, fail_s, refuse_s, State.journal_hide m (.of rfl hm), upd_27 m (.of rfl hm)]

theorem State.loseRole_hide (m : Nat) (hm : Sub 16141787396 m) (x0 : State) (x1) : (State.loseRole x0 x1).hide m = x0.hide m := by
  unfold State.loseRole
  simp only [hide_ite, ite_self, implies_true, hide_foldl, State.notify_hide m (.of rfl hm), State.modChan_hide m (.of rfl hm), State.modSlot_hide m (.of rfl hm), State.modEst_hide m (.of rfl hm), State.setCause_hide m (.of rfl hm)]

theorem State.ownMode_hide (m : Nat) (hm : Sub 154618823681 m) (x0 : State) (x1) : (State.ownMode x0 x1).hide m = x0.hide m := by
  unfold State.ownMode
  simp only [hide_ite, ite_self, State.journal_hide m (.of rfl hm), upd_0_37 m (.of rfl hm)]

theorem State.bridgeByMean_hide (m : Nat) (hm : Sub 16273899552 m) (x0 : State) (x1) : (State.bridgeByMean x0 x1).hide m = x0.hide m := by
  unfold State.bridgeByMean
  simp only [State.credit_hide m (.of rfl hm), State.absorb_hide m (.of rfl hm), upd_5 m (.of rfl hm)]

theorem State.sideRx_hide (m : Nat) (hm : Sub 301989984 m) (x0 : State) (x1) (x2) : (State.sideRx x0 x1 x2).hide m = x0.hide m := by
  unfold State.sideRx
  repeat' (first | (simp only [hide_ite, ite_self, implies_true, hide_foldl, State.ringRecord_hide m (.of rfl hm), upd_25 m (.of rfl hm)]; done) | (simp only [hide_ite, ite_self, implies_true, hide_foldl, State.ringRecord_hide m (.of rfl hm), upd_25 m (.of rfl hm)]; split) | split | (simp only [hide_ite, ite_self, implies_true, hide_foldl, State.ringRecord_hide m (.of rfl hm), upd_25 m (.of rfl hm)]; with_reducible refine (hide_foldl m _ _ _ fun x a => ?_).trans ?_) | with_reducible refine (hide_foldl m _ _ _ fun x a => ?_).trans ?_)

theorem State.cfeStore_hide (m : Nat) (hm : Sub 16273901606 m) (x0 : State) (x1) : (State.cfeStore x0 x1).hide m = x0.hide m := by
  unfold State.cfeStore
  simp only [hide_ite, ite_self, State.discardSample_hide m (.of rfl hm), State.noteBacklog_hide m (.of rfl hm), upd_5 m (.of rfl hm)]

theorem State.discardTable_hide (m : Nat) (hm : Sub 16140206080 m) (x0 : State) : (State.discardTable x0).hide m = x0.hide m := by
  unfold State.discardTable
  simp only [implies_true, hide_foldl, State.modStaged_hide m (.of rfl hm), State.complete_hide m (.of rfl hm), upd_19 m (.of rfl hm)]

theorem State.cfeUse_hide (m : Nat) (hm : Sub 16275996704 m) (x0 : State) (x1) : (State.cfeUse x0 x1).hide m = x0.hide m := by
  unfold State.cfeUse
  simp only [hide_ite, ite_self, State.calFrame_hide m (.of rfl hm), State.zeroFrame_hide m (.of rfl hm), State.cfeReport_hide m (.of rfl hm), State.creditFrame_hide m (.of rfl hm), State.zeroRestart_hide m (.of rfl hm), upd_5 m (.of rfl hm)]

theorem State.supersedeMode_hide (m : Nat) (hm : Sub 16139681793 m) (x0 : State) : (State.supersedeMode x0).hide m = x0.hide m := by
  unfold State.supersedeMode
  repeat' (first | (simp only [hide_ite, ite_self, implies_true, State.complete_hide m (.of rfl hm), upd_0 m (.of rfl hm)]; done) | (simp only [hide_ite, ite_self, implies_true, State.complete_hide m (.of rfl hm), upd_0 m (.of rfl hm)]; split) | split | (simp only [hide_ite, ite_self, implies_true, State.complete_hide m (.of rfl hm), upd_0 m (.of rfl hm)]; with_reducible refine (hide_foldl m _ _ _ fun x a => ?_).trans ?_) | with_reducible refine (hide_foldl m _ _ _ fun x a => ?_).trans ?_)

theorem State.configCheck_hide (m : Nat) (hm : Sub 16139681792 m) (x0 : State) (x1) : (State.configCheck x0 x1).hide m = x0.hide m := by
  unfold State.configCheck
  simp only [hide_ite, ite_self, State.notify_hide m (.of rfl hm), upd_25 m (.of rfl hm)]

theorem State.coreFails_hide (m : Nat) (hm : Sub 281489725984768 m) (x0 : State) : (State.coreFails x0).hide m = x0.hide m := by
  unfold State.coreFails
  simp only [hide_ite, ite_self, State.enterProtOnly_hide m (.of rfl hm), State.releaseToken_hide m (.of rfl hm), upd_26_29 m (.of rfl hm), upd_27 m (.of rfl hm)]

theorem State.ringBoundary_hide (m : Nat) (hm : Sub 16139780096 m) (x0 : State) : (State.ringBoundary x0).hide m = x0.hide m := by
  unfold State.ringBoundary
  repeat' (first | (simp only [hide_ite, ite_self, implies_true, State.primaryLost_hide m (.of rfl hm), State.configCheck_hide m (.of rfl hm), upd_25 m (.of rfl hm), upd_15_25 m (.of rfl hm)]; done) | (simp only [hide_ite, ite_self, implies_true, State.primaryLost_hide m (.of rfl hm), State.configCheck_hide m (.of rfl hm), upd_25 m (.of rfl hm), upd_15_25 m (.of rfl hm)]; split) | split | (simp only [hide_ite, ite_self, implies_true, State.primaryLost_hide m (.of rfl hm), State.configCheck_hide m (.of rfl hm), upd_25 m (.of rfl hm), upd_15_25 m (.of rfl hm)]; with_reducible refine (hide_foldl m _ _ _ fun x a => ?_).trans ?_) | with_reducible refine (hide_foldl m _ _ _ fun x a => ?_).trans ?_)

theorem State.cfeGood_hide (m : Nat) (hm : Sub 16273901606 m) (x0 : State) (x1) : (State.cfeGood x0 x1).hide m = x0.hide m := by
  unfold State.cfeGood
  simp only [State.cfeStore_hide m (.of rfl hm), upd_5 m (.of rfl hm)]

theorem execSafetySample_hide (m : Nat) (hm : Sub 171574611148801 m) (x0) (x1 : State) : (outState x1 (execSafetySample x0 x1)).hide m = x1.hide m := by
  unfold execSafetySample
  simp only [hide_ite, ite_self, out_next, State.safetySample_hide m (.of rfl hm)]

theorem State.spiWords_hide (m : Nat) (hm : Sub 14126415872 m) (w late : Bool) (a : Nat) (l : List Word) (s : State) :
    (State.spiWords w late a l s).hide m = s.hide m := by
  induction l generalizing a s with
  | nil => rfl
  | cons x l ih =>
    unfold State.spiWords
    simp only [ih, hide_ite, State.spiWrite_hide m (.of rfl hm), State.spiRead_hide m (.of rfl hm), ite_self]

theorem State.headerRx_hide (m : Nat) (hm : Sub 50633703425 m) (x0 : State) (x1) (x2) (x3) (x4) : (State.headerRx x0 x1 x2 x3 x4).hide m = x0.hide m := by
  unfold State.headerRx
  repeat' (first | (simp only [hide_ite, ite_self, implies_true, State.followHeader_hide m (.of rfl hm), State.positionStep_hide m (.of rfl hm), State.primaryLost_hide m (.of rfl hm), State.adoptTime_hide m (.of rfl hm), State.discipline_hide m (.of rfl hm), upd_25 m (.of rfl hm)]; done) | (simp only [hide_ite, ite_self, implies_true, State.followHeader_hide m (.of rfl hm), State.positionStep_hide m (.of rfl hm), State.primaryLost_hide m (.of rfl hm), State.adoptTime_hide m (.of rfl hm), State.discipline_hide m (.of rfl hm), upd_25 m (.of rfl hm)]; split) | split | (simp only [hide_ite, ite_self, implies_true, State.followHeader_hide m (.of rfl hm), State.positionStep_hide m (.of rfl hm), State.primaryLost_hide m (.of rfl hm), State.adoptTime_hide m (.of rfl hm), State.discipline_hide m (.of rfl hm), upd_25 m (.of rfl hm)]; with_reducible refine (hide_foldl m _ _ _ fun x a => ?_).trans ?_) | with_reducible refine (hide_foldl m _ _ _ fun x a => ?_).trans ?_)

theorem opTableWrite_hide (m : Nat) (hm : Sub 16140207104 m) (x0) (x1) (x2 : State) : (opTableWrite x0 x1 x2).s.hide m = x2.hide m := by
  unfold opTableWrite
  simp only [hide_ite, ite_self, ans_ite, fail_s, State.acceptBlock_hide m (.of rfl hm)]

theorem execTransitSuspended_hide (m : Nat) (hm : Sub 16273900288 m) (x0 : State) : (outState x0 (execTransitSuspended x0)).hide m = x0.hide m := by
  unfold execTransitSuspended
  simp only [hide_ite, ite_self, out_next, State.absorb_hide m (.of rfl hm), upd_8_9 m (.of rfl hm)]

theorem State.fullCheck_hide (m : Nat) (hm : Sub 24576 m) (x0 : State) (x1) (x2) (x3) : (State.fullCheck x0 x1 x2 x3).hide m = x0.hide m := by
  unfold State.fullCheck
  simp only [hide_ite, ite_self, State.anchor_hide m (.of rfl hm), upd_14 m (.of rfl hm)]

theorem State.balReachesOff_hide (m : Nat) (hm : Sub 16140730368 m) (x0 : State) : (State.balReachesOff x0).hide m = x0.hide m := by
  unfold State.balReachesOff
  simp only [hide_ite, ite_self, State.complete_hide m (.of rfl hm), upd_20 m (.of rfl hm)]

theorem State.lanesUp_hide (m : Nat) (hm : Sub 530204317188095 m) (x0 : State) (x1) : (State.lanesUp x0 x1).hide m = x0.hide m := by
  unfold State.lanesUp
  simp only [hide_ite, ite_self, implies_true, hide_foldl, State.loadConfig_hide m (.of rfl hm), State.bootLanes_hide m (.of rfl hm), State.restoreCell_hide m (.of rfl hm), State.losePanData_hide m (.of rfl hm), State.loseLaneData_hide m (.of rfl hm), State.loseVolatile_hide m (.of rfl hm), State.initCells_hide m (.of rfl hm), upd_0_37 m (.of rfl hm)]

theorem State.supersedeDeferred_hide (m : Nat) (hm : Sub 16139681792 m) (x0 : State) : (State.supersedeDeferred x0).hide m = x0.hide m := by
  unfold State.supersedeDeferred
  simp only [hide_ite, ite_self, implies_true, hide_foldl, State.complete_hide m (.of rfl hm)]

theorem execOutputOvercurrent_hide (m : Nat) (hm : Sub 171574611148801 m) (x0) (x1 : State) : (outState x1 (execOutputOvercurrent x0 x1)).hide m = x1.hide m := by
  unfold execOutputOvercurrent
  simp only [hide_ite, ite_self, out_ite, out_next, out_fault, State.trip_hide m (.of rfl hm), upd_28_42_43_44 m (.of rfl hm)]

theorem State.armSafety_hide (m : Nat) (hm : Sub 30802733694976 m) (x0 : State) : (State.armSafety x0).hide m = x0.hide m := by
  unfold State.armSafety
  simp only [State.notifySafety_hide m (.of rfl hm), upd_28_42_43_44 m (.of rfl hm)]

theorem State.takeover84_hide (m : Nat) (hm : Sub 16273899584 m) (x0 : State) (x1) : (State.takeover84 x0 x1).hide m = x0.hide m := by
  unfold State.takeover84
  simp only [hide_ite, ite_self, State.absorb_hide m (.of rfl hm), State.modBranch_hide m (.of rfl hm)]

theorem State.eraseKeys_hide (m : Nat) (hm : Sub 857953271808 m) (x0 : State) : (State.eraseKeys x0).hide m = x0.hide m := by
  unfold State.eraseKeys
  simp only [implies_true, hide_foldl, State.complete_hide m (.of rfl hm), State.endVerify_hide m (.of rfl hm), upd_34_38_39 m (.of rfl hm)]

theorem State.stringJob_hide (m : Nat) (hm : Sub 50499452928 m) (x0 : State) : (State.stringJob x0).hide m = x0.hide m := by
  unfold State.stringJob
  simp only [hide_ite, ite_self, State.restRequest_hide m (.of rfl hm), upd_15 m (.of rfl hm)]

theorem State.boundaryMode_hide (m : Nat) (hm : Sub 156766307329 m) (x0 : State) (x1) : (State.boundaryMode x0 x1).hide m = x0.hide m := by
  unfold State.boundaryMode
  simp only [hide_ite, ite_self, State.ownMode_hide m (.of rfl hm), upd_31 m (.of rfl hm)]

theorem State.writeConvRecord_hide (m : Nat) (hm : Sub 16148071424 m) (x0 : State) : (State.writeConvRecord x0).hide m = x0.hide m := by
  unfold State.writeConvRecord
  repeat' (first | (simp only [hide_ite, ite_self, implies_true, State.notify_hide m (.of rfl hm), State.nvmAsk_hide m (.of rfl hm), upd_23 m (.of rfl hm)]; done) | (simp only [hide_ite, ite_self, implies_true, State.notify_hide m (.of rfl hm), State.nvmAsk_hide m (.of rfl hm), upd_23 m (.of rfl hm)]; split) | split | (simp only [hide_ite, ite_self, implies_true, State.notify_hide m (.of rfl hm), State.nvmAsk_hide m (.of rfl hm), upd_23 m (.of rfl hm)]; with_reducible refine (hide_foldl m _ _ _ fun x a => ?_).trans ?_) | with_reducible refine (hide_foldl m _ _ _ fun x a => ?_).trans ?_)

theorem State.dieReplies_hide (m : Nat) (hm : Sub 16139681792 m) (x0 : State) : (State.dieReplies x0).hide m = x0.hide m := by
  unfold State.dieReplies
  simp only [implies_true, hide_foldl, State.finish_hide m (.of rfl hm), okAns_hide m (.of rfl hm), upd_31 m (.of rfl hm)]

theorem opPowerState_hide (m : Nat) (hm : Sub 17716741120 m) (x0) (x1) (x2) (x3 : State) : (opPowerState x0 x1 x2 x3).s.hide m = x3.hide m := by
  unfold opPowerState
  repeat' (first | (simp only [hide_ite, ite_self, implies_true, ans_ite, fail_s, refuse_s, okAns_s, State.queueRequest_hide m (.of rfl hm), State.endHandshake_hide m (.of rfl hm), State.journalPower_hide m (.of rfl hm), State.beginEntry_hide m (.of rfl hm), State.recordWake_hide m (.of rfl hm), fail_hide m (.of rfl hm), okAns_hide m (.of rfl hm), refuse_hide m (.of rfl hm), State.endRequest_hide m (.of rfl hm), upd_29 m (.of rfl hm)]; done) | (simp only [hide_ite, ite_self, implies_true, ans_ite, fail_s, refuse_s, okAns_s, State.queueRequest_hide m (.of rfl hm), State.endHandshake_hide m (.of rfl hm), State.journalPower_hide m (.of rfl hm), State.beginEntry_hide m (.of rfl hm), State.recordWake_hide m (.of rfl hm), fail_hide m (.of rfl hm), okAns_hide m (.of rfl hm), refuse_hide m (.of rfl hm), State.endRequest_hide m (.of rfl hm), upd_29 m (.of rfl hm)]; split) | split | (simp only [hide_ite, ite_self, implies_true, ans_ite, fail_s, refuse_s, okAns_s, State.queueRequest_hide m (.of rfl hm), State.endHandshake_hide m (.of rfl hm), State.journalPower_hide m (.of rfl hm), State.beginEntry_hide m (.of rfl hm), State.recordWake_hide m (.of rfl hm), fail_hide m (.of rfl hm), okAns_hide m (.of rfl hm), refuse_hide m (.of rfl hm), State.endRequest_hide m (.of rfl hm), upd_29 m (.of rfl hm)]; with_reducible refine (hide_foldl m _ _ _ fun x a => ?_).trans ?_) | with_reducible refine (hide_foldl m _ _ _ fun x a => ?_).trans ?_)

theorem State.faultChannel_hide (m : Nat) (hm : Sub 2097154 m) (x0 : State) (x1) (x2) : (State.faultChannel x0 x1 x2).hide m = x0.hide m := by
  unfold State.faultChannel
  simp only [hide_ite, ite_self, State.cellCause_hide m (.of rfl hm), State.modFe_hide m (.of rfl hm), State.linksUp_hide m (.of rfl hm), upd_21 m (.of rfl hm)]

theorem State.controlRx_hide (m : Nat) (hm : Sub 33626112 m) (x0 : State) (x1) : (State.controlRx x0 x1).hide m = x0.hide m := by
  unfold State.controlRx
  repeat' (first | (simp only [hide_ite, ite_self, implies_true, State.endSweep_hide m (.of rfl hm), State.followWatch_hide m (.of rfl hm), State.applyVerdict_hide m (.of rfl hm), upd_16 m (.of rfl hm)]; done) | (simp only [hide_ite, ite_self, implies_true, State.endSweep_hide m (.of rfl hm), State.followWatch_hide m (.of rfl hm), State.applyVerdict_hide m (.of rfl hm), upd_16 m (.of rfl hm)]; split) | split | (simp only [hide_ite, ite_self, implies_true, State.endSweep_hide m (.of rfl hm), State.followWatch_hide m (.of rfl hm), State.applyVerdict_hide m (.of rfl hm), upd_16 m (.of rfl hm)]; with_reducible refine (hide_foldl m _ _ _ fun x a => ?_).trans ?_) | with_reducible refine (hide_foldl m _ _ _ fun x a => ?_).trans ?_)

theorem State.compare_hide (m : Nat) (hm : Sub 16273900416 m) (x0 : State) (x1) (x2) (x3) : (State.compare x0 x1 x2 x3).hide m = x0.hide m := by
  unfold State.compare
  repeat' (first | (simp only [hide_ite, ite_self, implies_true, State.modPan_hide m (.of rfl hm), State.mismatch_hide m (.of rfl hm), upd_9 m (.of rfl hm)]; done) | (simp only [hide_ite, ite_self, implies_true, State.modPan_hide m (.of rfl hm), State.mismatch_hide m (.of rfl hm), upd_9 m (.of rfl hm)]; split) | split | (simp only [hide_ite, ite_self, implies_true, State.modPan_hide m (.of rfl hm), State.mismatch_hide m (.of rfl hm), upd_9 m (.of rfl hm)]; with_reducible refine (hide_foldl m _ _ _ fun x a => ?_).trans ?_) | with_reducible refine (hide_foldl m _ _ _ fun x a => ?_).trans ?_)

theorem State.spiTransaction_hide (m : Nat) (hm : Sub 14126415872 m) (x0 : State) (x1) (x2) (x3) : (State.spiTransaction x0 x1 x2 x3).hide m = x0.hide m := by
  unfold State.spiTransaction
  simp only [hide_ite, ite_self, State.spiWords_hide m (.of rfl hm), upd_33 m (.of rfl hm)]

theorem State.plausStamp_hide (m : Nat) (hm : Sub 16273899616 m) (x0 : State) (x1) (x2) (x3) : (State.plausStamp x0 x1 x2 x3).hide m = x0.hide m := by
  unfold State.plausStamp
  simp only [hide_ite, ite_self, State.notify_hide m (.of rfl hm), State.absorb_hide m (.of rfl hm), State.modBranch_hide m (.of rfl hm), State.setDisagree_hide m (.of rfl hm)]

theorem State.reportPower_hide (m : Nat) (hm : Sub 16676552704 m) (x0 : State) : (State.reportPower x0).hide m = x0.hide m := by
  unfold State.reportPower
  simp only [implies_true, hide_foldl, State.complete_hide m (.of rfl hm), upd_29 m (.of rfl hm)]

theorem execProtOnlyNotice_hide (m : Nat) (hm : Sub 14126415872 m) (x0 : State) : (outState x0 (execProtOnlyNotice x0)).hide m = x0.hide m := by
  unfold execProtOnlyNotice
  simp only [hide_ite, ite_self, out_next, State.protNotice_hide m (.of rfl hm), upd_27 m (.of rfl hm)]

theorem State.checkShare_hide (m : Nat) (hm : Sub 140788151353344 m) (x0 : State) : (State.checkShare x0).hide m = x0.hide m := by
  unfold State.checkShare
  simp only [hide_ite, ite_self, implies_true, hide_foldl, State.faultPhase_hide m (.of rfl hm), State.modPhase_hide m (.of rfl hm)]

theorem State.retireHalted_hide (m : Nat) (hm : Sub 16273899648 m) (x0 : State) : (State.retireHalted x0).hide m = x0.hide m := by
  unfold State.retireHalted
  simp only [hide_ite, ite_self, implies_true, hide_foldl, State.retirePan_hide m (.of rfl hm)]

theorem State.takePosition_hide (m : Nat) (hm : Sub 17213424640 m) (x0 : State) (x1) (x2) : (State.takePosition x0 x1 x2).hide m = x0.hide m := by
  unfold State.takePosition
  simp only [State.journal_hide m (.of rfl hm), upd_25 m (.of rfl hm)]

theorem execTakeoverComplete_hide (m : Nat) (hm : Sub 143108309860355 m) (x0 : State) : (outState x0 (execTakeoverComplete x0)).hide m = x0.hide m := by
  unfold execTakeoverComplete
  repeat' (first | (simp only [hide_ite, ite_self, implies_true, out_ite, out_next, out_fault, State.leaveProtOnly_hide m (.of rfl hm), State.modLane_hide m (.of rfl hm), upd_27 m (.of rfl hm)]; done) | (simp only [hide_ite, ite_self, implies_true, out_ite, out_next, out_fault, State.leaveProtOnly_hide m (.of rfl hm), State.modLane_hide m (.of rfl hm), upd_27 m (.of rfl hm)]; split) | split | (simp only [hide_ite, ite_self, implies_true, out_ite, out_next, out_fault, State.leaveProtOnly_hide m (.of rfl hm), State.modLane_hide m (.of rfl hm), upd_27 m (.of rfl hm)]; with_reducible refine (hide_foldl m _ _ _ fun x a => ?_).trans ?_) | with_reducible refine (hide_foldl m _ _ _ fun x a => ?_).trans ?_)

theorem execPacketReceived_hide (m : Nat) (hm : Sub 14126415872 m) (x0) (x1) (x2) (x3 : State) : (outState x3 (execPacketReceived x0 x1 x2 x3)).hide m = x3.hide m := by
  unfold execPacketReceived
  simp only [hide_ite, ite_self, out_ite, out_next, out_fault, State.receive_hide m (.of rfl hm)]

theorem opBalStop_hide (m : Nat) (hm : Sub 17180918786 m) (x0) (x1) (x2 : State) : (opBalStop x0 x1 x2).s.hide m = x2.hide m := by
  unfold opBalStop
  repeat' (first | (simp only [hide_ite, ite_self, implies_true, ans_ite, fail_s, refuse_s, okAns_s, State.journal_hide m (.of rfl hm), State.balDrain_hide m (.of rfl hm), okAns_hide m (.of rfl hm), upd_20 m (.of rfl hm)]; done) | (simp only [hide_ite, ite_self, implies_true, ans_ite, fail_s, refuse_s, okAns_s, State.journal_hide m (.of rfl hm), State.balDrain_hide m (.of rfl hm), okAns_hide m (.of rfl hm), upd_20 m (.of rfl hm)]; split) | split | (simp only [hide_ite, ite_self, implies_true, ans_ite, fail_s, refuse_s, okAns_s, State.journal_hide m (.of rfl hm), State.balDrain_hide m (.of rfl hm), okAns_hide m (.of rfl hm), upd_20 m (.of rfl hm)]; with_reducible refine (hide_foldl m _ _ _ fun x a => ?_).trans ?_) | with_reducible refine (hide_foldl m _ _ _ fun x a => ?_).trans ?_)

theorem State.scaleJob_hide (m : Nat) (hm : Sub 16274563076 m) (x0 : State) (x1) (x2) : (State.scaleJob x0 x1 x2).hide m = x0.hide m := by
  unfold State.scaleJob
  simp only [hide_ite, ite_self, implies_true, hide_foldl, State.scaleCell_hide m (.of rfl hm), State.estWindow_hide m (.of rfl hm), State.holdCell_hide m (.of rfl hm)]

theorem State.freeze_hide (m : Nat) (hm : Sub 16141788036 m) (x0 : State) (x1) : (State.freeze x0 x1).hide m = x0.hide m := by
  unfold State.freeze
  repeat' (first | (simp only [hide_ite, ite_self, implies_true, hide_foldl, State.notify_hide m (.of rfl hm), State.loseRole_hide m (.of rfl hm), upd_7_8_9 m (.of rfl hm)]; done) | (simp only [hide_ite, ite_self, implies_true, hide_foldl, State.notify_hide m (.of rfl hm), State.loseRole_hide m (.of rfl hm), upd_7_8_9 m (.of rfl hm)]; split) | split | (simp only [hide_ite, ite_self, implies_true, hide_foldl, State.notify_hide m (.of rfl hm), State.loseRole_hide m (.of rfl hm), upd_7_8_9 m (.of rfl hm)]; with_reducible refine (hide_foldl m _ _ _ fun x a => ?_).trans ?_) | with_reducible refine (hide_foldl m _ _ _ fun x a => ?_).trans ?_)

theorem execCanBusError_hide (m : Nat) (hm : Sub 12884901888 m) (x0) (x1) (x2 : State) : (outState x2 (execCanBusError x0 x1 x2)).hide m = x2.hide m := by
  unfold execCanBusError
  simp only [out_next, State.canError_hide m (.of rfl hm)]

theorem State.journalConv_hide (m : Nat) (hm : Sub 17179870208 m) (x0 : State) (x1) (x2) (x3) : (State.journalConv x0 x1 x2 x3).hide m = x0.hide m := by
  unfold State.journalConv
  simp only [State.journal_hide m (.of rfl hm)]

theorem runCmd_hide (m : Nat) (hm : Sub 16139681792 m) (op : Byte) (f : Hdr → List Byte → State → Ans) (h : Hdr)
    (p : List Byte) (s : State) (hf : ∀ h p x, (f h p x).s.hide m = x.hide m) : (runCmd op f h p s).hide m = s.hide m := by
  unfold runCmd
  split
  · rfl
  split
  · simp only [hide_ite, State.sendReply_hide m (.of rfl hm), ite_self]
  split
  · rfl
  split
  · simp only [State.answer_hide m (.of rfl hm)]
  · exact State.finish_hide m (.of rfl hm) s op h p _ (hf h p s)

theorem execRingMessageRx_hide (m : Nat) (hm : Sub 14126514176 m) (x0) (x1) (x2 : State) : (outState x2 (execRingMessageRx x0 x1 x2)).hide m = x2.hide m := by
  unfold execRingMessageRx
  simp only [hide_ite, ite_self, out_ite, out_next, out_fault, State.messageRx_hide m (.of rfl hm)]

theorem State.canPacket_hide (m : Nat) (hm : Sub 14126415872 m) (x0 : State) (x1) (x2) (x3) (x4) : (State.canPacket x0 x1 x2 x3 x4).hide m = x0.hide m := by
  unfold State.canPacket
  simp only [hide_ite, ite_self, State.modCan_hide m (.of rfl hm), State.receive_hide m (.of rfl hm)]

theorem State.applyMode_hide (m : Nat) (hm : Sub 143090253824001 m) (x0 : State) (x1) (x2) : (State.applyMode x0 x1 x2).2.hide m = x0.hide m := by
  unfold State.applyMode
  repeat' (first | (simp only [hide_ite, ite_self, implies_true, snd_ite, State.beginDrain_hide m (.of rfl hm), State.requestContactors_hide m (.of rfl hm), State.toStandby_hide m (.of rfl hm), State.toService_hide m (.of rfl hm), State.deferMode_hide m (.of rfl hm), State.drainPasses_hide m (.of rfl hm), State.supersedeMode_hide m (.of rfl hm), upd_0_37 m (.of rfl hm)]; done) | (simp only [hide_ite, ite_self, implies_true, snd_ite, State.beginDrain_hide m (.of rfl hm), State.requestContactors_hide m (.of rfl hm), State.toStandby_hide m (.of rfl hm), State.toService_hide m (.of rfl hm), State.deferMode_hide m (.of rfl hm), State.drainPasses_hide m (.of rfl hm), State.supersedeMode_hide m (.of rfl hm), upd_0_37 m (.of rfl hm)]; split) | split | (simp only [hide_ite, ite_self, implies_true, snd_ite, State.beginDrain_hide m (.of rfl hm), State.requestContactors_hide m (.of rfl hm), State.toStandby_hide m (.of rfl hm), State.toService_hide m (.of rfl hm), State.deferMode_hide m (.of rfl hm), State.drainPasses_hide m (.of rfl hm), State.supersedeMode_hide m (.of rfl hm), upd_0_37 m (.of rfl hm)]; with_reducible refine (hide_foldl m _ _ _ fun x a => ?_).trans ?_) | with_reducible refine (hide_foldl m _ _ _ fun x a => ?_).trans ?_)

theorem State.openWireJob_hide (m : Nat) (hm : Sub 16277045278 m) (x0 : State) : (State.openWireJob x0).hide m = x0.hide m := by
  unfold State.openWireJob
  repeat' (first | (simp only [hide_ite, ite_self, implies_true, hide_foldl, State.spanCheck_hide m (.of rfl hm), State.owConclude_hide m (.of rfl hm), State.owDecide_hide m (.of rfl hm)]; done) | (simp only [hide_ite, ite_self, implies_true, hide_foldl, State.spanCheck_hide m (.of rfl hm), State.owConclude_hide m (.of rfl hm), State.owDecide_hide m (.of rfl hm)]; split) | split | (simp only [hide_ite, ite_self, implies_true, hide_foldl, State.spanCheck_hide m (.of rfl hm), State.owConclude_hide m (.of rfl hm), State.owDecide_hide m (.of rfl hm)]; with_reducible refine (hide_foldl m _ _ _ fun x a => ?_).trans ?_) | with_reducible refine (hide_foldl m _ _ _ fun x a => ?_).trans ?_)

theorem opEisStart_hide (m : Nat) (hm : Sub 17213494272 m) (x0) (x1) (x2) (x3 : State) : (opEisStart x0 x1 x2 x3).s.hide m = x3.hide m := by
  unfold opEisStart
  repeat' (first | (simp only [hide_ite, ite_self, implies_true, ans_ite, fail_s, refuse_s, okAns_s, State.toSatellites_hide m (.of rfl hm), State.startSweep_hide m (.of rfl hm), State.journal_hide m (.of rfl hm), fail_hide m (.of rfl hm), okAns_hide m (.of rfl hm), refuse_hide m (.of rfl hm), upd_16 m (.of rfl hm)]; done) | (simp only [hide_ite, ite_self, implies_true, ans_ite, fail_s, refuse_s, okAns_s, State.toSatellites_hide m (.of rfl hm), State.startSweep_hide m (.of rfl hm), State.journal_hide m (.of rfl hm), fail_hide m (.of rfl hm), okAns_hide m (.of rfl hm), refuse_hide m (.of rfl hm), upd_16 m (.of rfl hm)]; split) | split | (simp only [hide_ite, ite_self, implies_true, ans_ite, fail_s, refuse_s, okAns_s, State.toSatellites_hide m (.of rfl hm), State.startSweep_hide m (.of rfl hm), State.journal_hide m (.of rfl hm), fail_hide m (.of rfl hm), okAns_hide m (.of rfl hm), refuse_hide m (.of rfl hm), upd_16 m (.of rfl hm)]; with_reducible refine (hide_foldl m _ _ _ fun x a => ?_).trans ?_) | with_reducible refine (hide_foldl m _ _ _ fun x a => ?_).trans ?_)

theorem execJournalSealWrite_hide (m : Nat) (hm : Sub 33453769728 m) (x0 : State) : (outState x0 (execJournalSealWrite x0)).hide m = x0.hide m := by
  unfold execJournalSealWrite
  simp only [hide_ite, ite_self, out_next, State.writeSeal_hide m (.of rfl hm)]

theorem State.report154_hide (m : Nat) (hm : Sub 16273907712 m) (x0 : State) (x1) (x2) (x3) : (State.report154 x0 x1 x2 x3).hide m = x0.hide m := by
  unfold State.report154
  simp only [hide_ite, ite_self, State.modEst_hide m (.of rfl hm), State.countDrift_hide m (.of rfl hm)]

theorem State.challenge_hide (m : Nat) (hm : Sub 33319550976 m) (x0 : State) (x1) : (State.challenge x0 x1).hide m = x0.hide m := by
  unfold State.challenge
  simp only [State.complete_hide m (.of rfl hm), upd_34 m (.of rfl hm)]

theorem State.endSwap_hide (m : Nat) (hm : Sub 16273899520 m) (x0 : State) (x1) : (State.endSwap x0 x1).hide m = x0.hide m := by
  unfold State.endSwap
  repeat' (first | (simp only [hide_ite, ite_self, implies_true, State.complete_hide m (.of rfl hm), upd_27 m (.of rfl hm)]; done) | (simp only [hide_ite, ite_self, implies_true, State.complete_hide m (.of rfl hm), upd_27 m (.of rfl hm)]; split) | split | (simp only [hide_ite, ite_self, implies_true, State.complete_hide m (.of rfl hm), upd_27 m (.of rfl hm)]; with_reducible refine (hide_foldl m _ _ _ fun x a => ?_).trans ?_) | with_reducible refine (hide_foldl m _ _ _ fun x a => ?_).trans ?_)

theorem State.bistEnds_hide (m : Nat) (hm : Sub 16273900160 m) (x0 : State) (x1) (x2) : (State.bistEnds x0 x1 x2).hide m = x0.hide m := by
  unfold State.bistEnds
  simp only [hide_ite, ite_self, State.modPan_hide m (.of rfl hm), State.toPool_hide m (.of rfl hm), State.retirePan_hide m (.of rfl hm), upd_9 m (.of rfl hm)]

theorem execSpiInDataWrite_hide (m : Nat) (hm : Sub 14126415872 m) (x0) (x1) (x2 : State) : (outState x2 (execSpiInDataWrite x0 x1 x2)).hide m = x2.hide m := by
  unfold execSpiInDataWrite
  simp only [out_next, State.spiIn_hide m (.of rfl hm)]

theorem execDiagThermoCal_hide (m : Nat) (hm : Sub 33319683072 m) (x0) (x1) (x2 : State) : (outState x2 (execDiagThermoCal x0 x1 x2)).hide m = x2.hide m := by
  unfold execDiagThermoCal
  simp only [implies_true, out_next, runCmd_hide m (.of rfl hm), opThermoCal_hide m (.of rfl hm)]

theorem State.patternJob_hide (m : Nat) (hm : Sub 16274948098 m) (x0 : State) : (State.patternJob x0).hide m = x0.hide m := by
  unfold State.patternJob
  simp only [hide_ite, ite_self, State.setPattern_hide m (.of rfl hm), State.checkIlim_hide m (.of rfl hm), State.showExcl_hide m (.of rfl hm), upd_20 m (.of rfl hm)]

theorem opReset_hide (m : Nat) (hm : Sub 17179870208 m) (x0) (x1) (x2 : State) : (opReset x0 x1 x2).s.hide m = x2.hide m := by
  unfold opReset
  simp only [hide_ite, ite_self, ans_ite, fail_s, okAns_s, State.journal_hide m (.of rfl hm), upd_34 m (.of rfl hm)]

theorem execPanBistComplete_hide (m : Nat) (hm : Sub 16273900160 m) (x0) (x1) (x2 : State) : (outState x2 (execPanBistComplete x0 x1 x2)).hide m = x2.hide m := by
  unfold execPanBistComplete
  simp only [hide_ite, ite_self, out_ite, out_next, out_fault, State.bistEnds_hide m (.of rfl hm), State.checkSpares_hide m (.of rfl hm)]

theorem execLaneRebootComplete_hide (m : Nat) (hm : Sub 16341008384 m) (x0) (x1) (x2 : State) : (outState x2 (execLaneRebootComplete x0 x1 x2)).hide m = x2.hide m := by
  unfold execLaneRebootComplete
  simp only [hide_ite, ite_self, out_next, State.laneAbsorb_hide m (.of rfl hm), State.modLane_hide m (.of rfl hm), State.retireLane_hide m (.of rfl hm), upd_27 m (.of rfl hm)]

theorem State.nextStep_hide (m : Nat) (hm : Sub 16274055168 m) (x0 : State) (x1) (x2) : (State.nextStep x0 x1 x2).hide m = x0.hide m := by
  unfold State.nextStep
  repeat' (first | (simp only [hide_ite, ite_self, implies_true, State.emptyCheck_hide m (.of rfl hm), State.report154_hide m (.of rfl hm), State.restPoint_hide m (.of rfl hm), State.modEst_hide m (.of rfl hm), State.rerefStart_hide m (.of rfl hm), State.measureStep_hide m (.of rfl hm)]; done) | (simp only [hide_ite, ite_self, implies_true, State.emptyCheck_hide m (.of rfl hm), State.report154_hide m (.of rfl hm), State.restPoint_hide m (.of rfl hm), State.modEst_hide m (.of rfl hm), State.rerefStart_hide m (.of rfl hm), State.measureStep_hide m (.of rfl hm)]; split) | split | (simp only [hide_ite, ite_self, implies_true, State.emptyCheck_hide m (.of rfl hm), State.report154_hide m (.of rfl hm), State.restPoint_hide m (.of rfl hm), State.modEst_hide m (.of rfl hm), State.rerefStart_hide m (.of rfl hm), State.measureStep_hide m (.of rfl hm)]; with_reducible refine (hide_foldl m _ _ _ fun x a => ?_).trans ?_) | with_reducible refine (hide_foldl m _ _ _ fun x a => ?_).trans ?_)

theorem State.verifyEnds_hide (m : Nat) (hm : Sub 33319552000 m) (x0 : State) : (State.verifyEnds x0).hide m = x0.hide m := by
  unfold State.verifyEnds
  repeat' (first | (simp only [hide_ite, ite_self, implies_true, State.journal_hide m (.of rfl hm), State.endVerify_hide m (.of rfl hm), upd_34 m (.of rfl hm)]; done) | (simp only [hide_ite, ite_self, implies_true, State.journal_hide m (.of rfl hm), State.endVerify_hide m (.of rfl hm), upd_34 m (.of rfl hm)]; split) | split | (simp only [hide_ite, ite_self, implies_true, State.journal_hide m (.of rfl hm), State.endVerify_hide m (.of rfl hm), upd_34 m (.of rfl hm)]; with_reducible refine (hide_foldl m _ _ _ fun x a => ?_).trans ?_) | with_reducible refine (hide_foldl m _ _ _ fun x a => ?_).trans ?_)

theorem execDiagPowerTest_hide (m : Nat) (hm : Sub 33856422912 m) (x0) (x1) (x2 : State) : (outState x2 (execDiagPowerTest x0 x1 x2)).hide m = x2.hide m := by
  unfold execDiagPowerTest
  simp only [implies_true, out_next, runCmd_hide m (.of rfl hm), opPowerState_hide m (.of rfl hm)]

theorem execSweepDrainEnd_hide (m : Nat) (hm : Sub 16139757568 m) (x0 : State) : (outState x0 (execSweepDrainEnd x0)).hide m = x0.hide m := by
  unfold execSweepDrainEnd
  simp only [hide_ite, ite_self, out_next, State.drainEnds_hide m (.of rfl hm)]

theorem execSnapshot_hide (m : Nat) (hm : Sub 16139681792 m) (x0) (x1) (x2 : State) : (outState x2 (execSnapshot x0 x1 x2)).hide m = x2.hide m := by
  unfold execSnapshot
  simp only [implies_true, out_next, runCmd_hide m (.of rfl hm), opSnapshot_hide m (.of rfl hm)]

theorem execSafetySelfTest_hide (m : Nat) (hm : Sub 171574611148801 m) (x0) (x1) (x2) (x3 : State) : (outState x3 (execSafetySelfTest x0 x1 x2 x3)).hide m = x3.hide m := by
  unfold execSafetySelfTest
  simp only [hide_ite, ite_self, out_next, State.trip_hide m (.of rfl hm), State.modSafe_hide m (.of rfl hm)]

theorem State.settleReturn_hide (m : Nat) (hm : Sub 1167864111137 m) (x0 : State) : (State.settleReturn x0).hide m = x0.hide m := by
  unfold State.settleReturn
  simp only [hide_ite, ite_self, State.resolveQueue_hide m (.of rfl hm), State.elapse_hide m (.of rfl hm), State.threshJob_hide m (.of rfl hm), State.afterGap_hide m (.of rfl hm), State.endRequest_hide m (.of rfl hm), upd_0_29 m (.of rfl hm), upd_27_29_40 m (.of rfl hm), upd_25 m (.of rfl hm)]

theorem execEclipseSwap_hide (m : Nat) (hm : Sub 33453769728 m) (x0) (x1) (x2 : State) : (outState x2 (execEclipseSwap x0 x1 x2)).hide m = x2.hide m := by
  unfold execEclipseSwap
  simp only [implies_true, out_next, runCmd_hide m (.of rfl hm), opEclipseSwap_hide m (.of rfl hm)]

theorem State.eventWriteJob_hide (m : Nat) (hm : Sub 16275997696 m) (x0 : State) : (State.eventWriteJob x0).hide m = x0.hide m := by
  unfold State.eventWriteJob
  simp only [hide_ite, ite_self, State.writeProtRecord_hide m (.of rfl hm), State.nvmAsk_hide m (.of rfl hm), upd_27 m (.of rfl hm)]

theorem execCurCalComplete_hide (m : Nat) (hm : Sub 16139681824 m) (x0 : State) : (outState x0 (execCurCalComplete x0)).hide m = x0.hide m := by
  unfold execCurCalComplete
  repeat' (first | (simp only [hide_ite, ite_self, implies_true, out_ite, out_next, out_fault, State.stage_hide m (.of rfl hm), State.complete_hide m (.of rfl hm), upd_5 m (.of rfl hm)]; done) | (simp only [hide_ite, ite_self, implies_true, out_ite, out_next, out_fault, State.stage_hide m (.of rfl hm), State.complete_hide m (.of rfl hm), upd_5 m (.of rfl hm)]; split) | split | (simp only [hide_ite, ite_self, implies_true, out_ite, out_next, out_fault, State.stage_hide m (.of rfl hm), State.complete_hide m (.of rfl hm), upd_5 m (.of rfl hm)]; with_reducible refine (hide_foldl m _ _ _ fun x a => ?_).trans ?_) | with_reducible refine (hide_foldl m _ _ _ fun x a => ?_).trans ?_)

theorem State.trialResult_hide (m : Nat) (hm : Sub 33453768704 m) (x0 : State) (x1) : (State.trialResult x0 x1).hide m = x0.hide m := by
  unfold State.trialResult
  repeat' (first | (simp only [hide_ite, ite_self, implies_true, State.absorb_hide m (.of rfl hm), State.complete_hide m (.of rfl hm), upd_34 m (.of rfl hm)]; done) | (simp only [hide_ite, ite_self, implies_true, State.absorb_hide m (.of rfl hm), State.complete_hide m (.of rfl hm), upd_34 m (.of rfl hm)]; split) | split | (simp only [hide_ite, ite_self, implies_true, State.absorb_hide m (.of rfl hm), State.complete_hide m (.of rfl hm), upd_34 m (.of rfl hm)]; with_reducible refine (hide_foldl m _ _ _ fun x a => ?_).trans ?_) | with_reducible refine (hide_foldl m _ _ _ fun x a => ?_).trans ?_)

theorem State.flushTamper_hide (m : Nat) (hm : Sub 33453769728 m) (x0 : State) : (State.flushTamper x0).hide m = x0.hide m := by
  unfold State.flushTamper
  simp only [hide_ite, ite_self, implies_true, hide_foldl, State.notifyTamper_hide m (.of rfl hm), State.writeTamper_hide m (.of rfl hm), upd_34 m (.of rfl hm)]

theorem execSideWindowRx_hide (m : Nat) (hm : Sub 301989984 m) (x0) (x1) (x2 : State) : (outState x2 (execSideWindowRx x0 x1 x2)).hide m = x2.hide m := by
  unfold execSideWindowRx
  simp only [hide_ite, ite_self, out_next, State.sideRx_hide m (.of rfl hm)]

theorem State.cfeWindow_hide (m : Nat) (hm : Sub 16275996704 m) (x0 : State) : (State.cfeWindow x0).hide m = x0.hide m := by
  unfold State.cfeWindow
  repeat' (first | (simp only [hide_ite, ite_self, implies_true, State.cfeNoValue_hide m (.of rfl hm), State.cfeUse_hide m (.of rfl hm), State.zeroCheck_hide m (.of rfl hm), upd_5 m (.of rfl hm)]; done) | (simp only [hide_ite, ite_self, implies_true, State.cfeNoValue_hide m (.of rfl hm), State.cfeUse_hide m (.of rfl hm), State.zeroCheck_hide m (.of rfl hm), upd_5 m (.of rfl hm)]; split) | split | (simp only [hide_ite, ite_self, implies_true, State.cfeNoValue_hide m (.of rfl hm), State.cfeUse_hide m (.of rfl hm), State.zeroCheck_hide m (.of rfl hm), upd_5 m (.of rfl hm)]; with_reducible refine (hide_foldl m _ _ _ fun x a => ?_).trans ?_) | with_reducible refine (hide_foldl m _ _ _ fun x a => ?_).trans ?_)

theorem execFaultChannelChange_hide (m : Nat) (hm : Sub 2097154 m) (x0) (x1) (x2 : State) : (outState x2 (execFaultChannelChange x0 x1 x2)).hide m = x2.hide m := by
  unfold execFaultChannelChange
  simp only [hide_ite, ite_self, out_ite, out_next, out_fault, State.faultChannel_hide m (.of rfl hm)]

theorem State.tamperDetect_hide (m : Nat) (hm : Sub 858087490560 m) (x0 : State) (x1) (x2) : (State.tamperDetect x0 x1 x2).hide m = x0.hide m := by
  unfold State.tamperDetect
  simp only [hide_ite, ite_self, implies_true, hide_foldl, State.flushTamper_hide m (.of rfl hm), State.noteTamper_hide m (.of rfl hm), State.eraseKeys_hide m (.of rfl hm)]

theorem State.verdict_hide (m : Nat) (hm : Sub 16273900416 m) (x0 : State) (x1) (x2) : (State.verdict x0 x1 x2).hide m = x0.hide m := by
  unfold State.verdict
  simp only [hide_ite, ite_self, State.notify_hide m (.of rfl hm), State.toPool_hide m (.of rfl hm), State.retirePan_hide m (.of rfl hm), State.giveRole_hide m (.of rfl hm), upd_9 m (.of rfl hm)]

theorem execFwTrialResult_hide (m : Nat) (hm : Sub 33453768704 m) (x0) (x1 : State) : (outState x1 (execFwTrialResult x0 x1)).hide m = x1.hide m := by
  unfold execFwTrialResult
  simp only [out_next, State.trialResult_hide m (.of rfl hm)]

theorem opMode_hide (m : Nat) (hm : Sub 143107433694209 m) (x0) (x1) (x2 : State) : (opMode x0 x1 x2).s.hide m = x2.hide m := by
  unfold opMode
  repeat' (first | (simp only [hide_ite, ite_self, implies_true, ans_ite, fail_s, refuse_s, okAns_s, State.applyMode_hide m (.of rfl hm), State.journal_hide m (.of rfl hm), fail_hide m (.of rfl hm), okAns_hide m (.of rfl hm), refuse_hide m (.of rfl hm)]; done) | (simp only [hide_ite, ite_self, implies_true, ans_ite, fail_s, refuse_s, okAns_s, State.applyMode_hide m (.of rfl hm), State.journal_hide m (.of rfl hm), fail_hide m (.of rfl hm), okAns_hide m (.of rfl hm), refuse_hide m (.of rfl hm)]; split) | split | (simp only [hide_ite, ite_self, implies_true, ans_ite, fail_s, refuse_s, okAns_s, State.applyMode_hide m (.of rfl hm), State.journal_hide m (.of rfl hm), fail_hide m (.of rfl hm), okAns_hide m (.of rfl hm), refuse_hide m (.of rfl hm)]; with_reducible refine (hide_foldl m _ _ _ fun x a => ?_).trans ?_) | with_reducible refine (hide_foldl m _ _ _ fun x a => ?_).trans ?_)

theorem State.cfeBad_hide (m : Nat) (hm : Sub 16273901606 m) (x0 : State) (x1) : (State.cfeBad x0 x1).hide m = x0.hide m := by
  unfold State.cfeBad
  simp only [hide_ite, ite_self, State.cfeStore_hide m (.of rfl hm), State.cfeRelink_hide m (.of rfl hm), upd_5 m (.of rfl hm)]

theorem State.ringStateOf_hide (m : Nat) (hm : Sub 16273899520 m) (x0 : State) (x1) : (State.ringStateOf x0 x1).hide m = x0.hide m := by
  unfold State.ringStateOf
  simp only [hide_ite, ite_self, State.notify_hide m (.of rfl hm), State.noteBreaks_hide m (.of rfl hm), upd_25 m (.of rfl hm)]

theorem State.commitTable_hide (m : Nat) (hm : Sub 17247503360 m) (x0 : State) (x1) : (State.commitTable x0 x1).hide m = x0.hide m := by
  unfold State.commitTable
  simp only [hide_ite, ite_self, State.activateTable_hide m (.of rfl hm), State.journal_hide m (.of rfl hm)]

theorem execSluiceFail_hide (m : Nat) (hm : Sub 16141788036 m) (x0) (x1 : State) : (outState x1 (execSluiceFail x0 x1)).hide m = x1.hide m := by
  unfold execSluiceFail
  simp only [hide_ite, ite_self, out_ite, out_next, out_fault, State.freeze_hide m (.of rfl hm)]

theorem State.blockRefuses_hide (m : Nat) (hm : Sub 16811884546 m) (x0 : State) (x1) (x2) : (State.blockRefuses x0 x1 x2).hide m = x0.hide m := by
  unfold State.blockRefuses
  simp only [hide_ite, ite_self, State.absorb_hide m (.of rfl hm), State.endHandshake_hide m (.of rfl hm), State.blockAccepts_hide m (.of rfl hm), State.endRequest_hide m (.of rfl hm)]

theorem State.loseUnloaded_hide (m : Nat) (hm : Sub 16141787396 m) (x0 : State) : (State.loseUnloaded x0).hide m = x0.hide m := by
  unfold State.loseUnloaded
  repeat' (first | (simp only [hide_ite, ite_self, implies_true, hide_foldl, State.loseRole_hide m (.of rfl hm)]; done) | (simp only [hide_ite, ite_self, implies_true, hide_foldl, State.loseRole_hide m (.of rfl hm)]; split) | split | (simp only [hide_ite, ite_self, implies_true, hide_foldl, State.loseRole_hide m (.of rfl hm)]; with_reducible refine (hide_foldl m _ _ _ fun x a => ?_).trans ?_) | with_reducible refine (hide_foldl m _ _ _ fun x a => ?_).trans ?_)

theorem State.canTxComplete_hide (m : Nat) (hm : Sub 12884901888 m) (x0 : State) (x1) (x2) (x3) : (State.canTxComplete x0 x1 x2 x3).hide m = x0.hide m := by
  unfold State.canTxComplete
  simp only [hide_ite, ite_self, State.modCan_hide m (.of rfl hm), State.canError_hide m (.of rfl hm), State.settleBus_hide m (.of rfl hm)]

theorem execTamperDetect_hide (m : Nat) (hm : Sub 858087490560 m) (x0) (x1) (x2 : State) : (outState x2 (execTamperDetect x0 x1 x2)).hide m = x2.hide m := by
  unfold execTamperDetect
  simp only [out_next, State.tamperDetect_hide m (.of rfl hm)]

theorem State.canTake_hide (m : Nat) (hm : Sub 14126415872 m) (x0 : State) (x1) (x2) (x3) (x4) : (State.canTake x0 x1 x2 x3 x4).hide m = x0.hide m := by
  unfold State.canTake
  repeat' (first | (simp only [hide_ite, ite_self, implies_true, State.canPacket_hide m (.of rfl hm), State.modCan_hide m (.of rfl hm)]; done) | (simp only [hide_ite, ite_self, implies_true, State.canPacket_hide m (.of rfl hm), State.modCan_hide m (.of rfl hm)]; split) | split | (simp only [hide_ite, ite_self, implies_true, State.canPacket_hide m (.of rfl hm), State.modCan_hide m (.of rfl hm)]; with_reducible refine (hide_foldl m _ _ _ fun x a => ?_).trans ?_) | with_reducible refine (hide_foldl m _ _ _ fun x a => ?_).trans ?_)

theorem State.serviceDone_hide (m : Nat) (hm : Sub 153712852993 m) (x0 : State) (x1) : (State.serviceDone x0 x1).hide m = x0.hide m := by
  unfold State.serviceDone
  repeat' (first | (simp only [hide_ite, ite_self, implies_true, State.requestContactors_hide m (.of rfl hm), State.complete_hide m (.of rfl hm), upd_0_37 m (.of rfl hm)]; done) | (simp only [hide_ite, ite_self, implies_true, State.requestContactors_hide m (.of rfl hm), State.complete_hide m (.of rfl hm), upd_0_37 m (.of rfl hm)]; split) | split | (simp only [hide_ite, ite_self, implies_true, State.requestContactors_hide m (.of rfl hm), State.complete_hide m (.of rfl hm), upd_0_37 m (.of rfl hm)]; with_reducible refine (hide_foldl m _ _ _ fun x a => ?_).trans ?_) | with_reducible refine (hide_foldl m _ _ _ fun x a => ?_).trans ?_)

theorem execTableRead_hide (m : Nat) (hm : Sub 50499420160 m) (x0) (x1) (x2 : State) : (outState x2 (execTableRead x0 x1 x2)).hide m = x2.hide m := by
  unfold execTableRead
  simp only [implies_true, out_next, runCmd_hide m (.of rfl hm), opTableRead_hide m (.of rfl hm)]

theorem State.restart_hide (m : Nat) (hm : Sub 530205120397311 m) (x0 : State) : (State.restart x0).hide m = x0.hide m := by
  unfold State.restart
  simp only [State.requestContactors_hide m (.of rfl hm), State.loseVolatile_hide m (.of rfl hm), State.driveContactors_hide m (.of rfl hm), upd_1_5_27_29_34 m (.of rfl hm)]

theorem execRelinkAttemptEnd_hide (m : Nat) (hm : Sub 16275996706 m) (x0) (x1) (x2 : State) : (outState x2 (execRelinkAttemptEnd x0 x1 x2)).hide m = x2.hide m := by
  unfold execRelinkAttemptEnd
  simp only [hide_ite, ite_self, out_ite, out_next, out_fault, State.relinkEnd_hide m (.of rfl hm), State.cfeRelinkEnd_hide m (.of rfl hm)]

theorem opCellReset_hide (m : Nat) (hm : Sub 17179878400 m) (x0) (x1) (x2 : State) : (opCellReset x0 x1 x2).s.hide m = x2.hide m := by
  unfold opCellReset
  simp only [hide_ite, ite_self, ans_ite, fail_s, okAns_s, State.journal_hide m (.of rfl hm), State.initCell_hide m (.of rfl hm)]

theorem State.settleBridge_hide (m : Nat) (hm : Sub 16273899552 m) (x0 : State) : (State.settleBridge x0).hide m = x0.hide m := by
  unfold State.settleBridge
  repeat' (first | (simp only [hide_ite, ite_self, implies_true, State.rebase_hide m (.of rfl hm), State.bridgeByMean_hide m (.of rfl hm), upd_5 m (.of rfl hm)]; done) | (simp only [hide_ite, ite_self, implies_true, State.rebase_hide m (.of rfl hm), State.bridgeByMean_hide m (.of rfl hm), upd_5 m (.of rfl hm)]; split) | split | (simp only [hide_ite, ite_self, implies_true, State.rebase_hide m (.of rfl hm), State.bridgeByMean_hide m (.of rfl hm), upd_5 m (.of rfl hm)]; with_reducible refine (hide_foldl m _ _ _ fun x a => ?_).trans ?_) | with_reducible refine (hide_foldl m _ _ _ fun x a => ?_).trans ?_)

theorem execFwActivate_hide (m : Nat) (hm : Sub 33319550976 m) (x0) (x1) (x2 : State) : (outState x2 (execFwActivate x0 x1 x2)).hide m = x2.hide m := by
  unfold execFwActivate
  simp only [implies_true, out_next, runCmd_hide m (.of rfl hm), opFwActivate_hide m (.of rfl hm)]

theorem execRingEnumerate_hide (m : Nat) (hm : Sub 50499420160 m) (x0) (x1) (x2 : State) : (outState x2 (execRingEnumerate x0 x1 x2)).hide m = x2.hide m := by
  unfold execRingEnumerate
  simp only [implies_true, out_next, runCmd_hide m (.of rfl hm), opRingEnumerate_hide m (.of rfl hm)]

theorem execFeFramePacket_hide (m : Nat) (hm : Sub 16276002854 m) (x0) (x1) (x2) (x3) (x4 : State) : (outState x4 (execFeFramePacket x0 x1 x2 x3 x4)).hide m = x4.hide m := by
  unfold execFeFramePacket
  simp only [hide_ite, ite_self, out_ite, out_next, out_fault, State.framePacket_hide m (.of rfl hm)]

theorem execEisControlRecordRx_hide (m : Nat) (hm : Sub 33626112 m) (x0) (x1 : State) : (outState x1 (execEisControlRecordRx x0 x1)).hide m = x1.hide m := by
  unfold execEisControlRecordRx
  simp only [out_next, State.controlRx_hide m (.of rfl hm)]

theorem execTokenBeliefMismatch_hide (m : Nat) (hm : Sub 281491317719040 m) (x0) (x1 : State) : (outState x1 (execTokenBeliefMismatch x0 x1)).hide m = x1.hide m := by
  unfold execTokenBeliefMismatch
  simp only [hide_ite, ite_self, out_next, State.laneAbsorb_hide m (.of rfl hm), State.modLane_hide m (.of rfl hm), State.retireLane_hide m (.of rfl hm), State.putOffSwap_hide m (.of rfl hm), State.releaseToken_hide m (.of rfl hm), upd_26_27 m (.of rfl hm)]

theorem State.checkSense_hide (m : Nat) (hm : Sub 140788151353344 m) (x0 : State) : (State.checkSense x0).hide m = x0.hide m := by
  unfold State.checkSense
  simp only [hide_ite, ite_self, implies_true, hide_foldl, State.faultPhase_hide m (.of rfl hm), upd_22_23 m (.of rfl hm)]

theorem execParamGet_hide (m : Nat) (hm : Sub 16139681792 m) (x0) (x1) (x2 : State) : (outState x2 (execParamGet x0 x1 x2)).hide m = x2.hide m := by
  unfold execParamGet
  simp only [implies_true, out_next, runCmd_hide m (.of rfl hm), opParamGet_hide m (.of rfl hm)]

theorem opConvEnable_hide (m : Nat) (hm : Sub 2216232485888 m) (x0) (x1) (x2 : State) : (opConvEnable x0 x1 x2).s.hide m = x2.hide m := by
  unfold opConvEnable
  simp only [hide_ite, ite_self, ans_ite, fail_s, refuse_s, okAns_s, State.journalConv_hide m (.of rfl hm), State.beginStart_hide m (.of rfl hm), upd_23 m (.of rfl hm)]

theorem execProtOnlyEntry_hide (m : Nat) (hm : Sub 281489122004992 m) (x0 : State) : (outState x0 (execProtOnlyEntry x0)).hide m = x0.hide m := by
  unfold execProtOnlyEntry
  simp only [hide_ite, ite_self, out_next, State.enterProtOnly_hide m (.of rfl hm)]

theorem execEisStart_hide (m : Nat) (hm : Sub 33319621632 m) (x0) (x1) (x2 : State) : (outState x2 (execEisStart x0 x1 x2)).hide m = x2.hide m := by
  unfold execEisStart
  repeat' (first | (simp only [hide_ite, ite_self, implies_true, out_ite, out_next, out_fault, runCmd_hide m (.of rfl hm), opEisStart_hide m (.of rfl hm)]; done) | (simp only [hide_ite, ite_self, implies_true, out_ite, out_next, out_fault, runCmd_hide m (.of rfl hm), opEisStart_hide m (.of rfl hm)]; split) | split | (simp only [hide_ite, ite_self, implies_true, out_ite, out_next, out_fault, runCmd_hide m (.of rfl hm), opEisStart_hide m (.of rfl hm)]; with_reducible refine (hide_foldl m _ _ _ fun x a => ?_).trans ?_) | with_reducible refine (hide_foldl m _ _ _ fun x a => ?_).trans ?_)

theorem State.emptyAnchor_hide (m : Nat) (hm : Sub 16273924096 m) (x0 : State) (x1) : (State.emptyAnchor x0 x1).hide m = x0.hide m := by
  unfold State.emptyAnchor
  simp only [hide_ite, ite_self, implies_true, hide_foldl, State.anchor_hide m (.of rfl hm), State.countDrift_hide m (.of rfl hm), upd_13 m (.of rfl hm), upd_14 m (.of rfl hm)]

theorem execDiagFaultClear_hide (m : Nat) (hm : Sub 33321649152 m) (x0) (x1) (x2 : State) : (outState x2 (execDiagFaultClear x0 x1 x2)).hide m = x2.hide m := by
  unfold execDiagFaultClear
  simp only [implies_true, out_next, runCmd_hide m (.of rfl hm), opFaultClear_hide m (.of rfl hm)]

theorem execDiagAbsorbedEvents_hide (m : Nat) (hm : Sub 16139681792 m) (x0) (x1) (x2 : State) : (outState x2 (execDiagAbsorbedEvents x0 x1 x2)).hide m = x2.hide m := by
  unfold execDiagAbsorbedEvents
  simp only [implies_true, out_next, runCmd_hide m (.of rfl hm), opAbsorbedEvents_hide m (.of rfl hm)]

theorem execSafetyStatus_hide (m : Nat) (hm : Sub 16139681792 m) (x0) (x1) (x2 : State) : (outState x2 (execSafetyStatus x0 x1 x2)).hide m = x2.hide m := by
  unfold execSafetyStatus
  simp only [implies_true, out_next, runCmd_hide m (.of rfl hm), opSafetyStatus_hide m (.of rfl hm)]

theorem execHandshakeTimeout_hide (m : Nat) (hm : Sub 16811884546 m) (x0 : State) : (outState x0 (execHandshakeTimeout x0)).hide m = x0.hide m := by
  unfold execHandshakeTimeout
  repeat' (first | (simp only [hide_ite, ite_self, implies_true, out_ite, out_next, out_fault, State.blockRefuses_hide m (.of rfl hm)]; done) | (simp only [hide_ite, ite_self, implies_true, out_ite, out_next, out_fault, State.blockRefuses_hide m (.of rfl hm)]; split) | split | (simp only [hide_ite, ite_self, implies_true, out_ite, out_next, out_fault, State.blockRefuses_hide m (.of rfl hm)]; with_reducible refine (hide_foldl m _ _ _ fun x a => ?_).trans ?_) | with_reducible refine (hide_foldl m _ _ _ fun x a => ?_).trans ?_)

theorem execFeThermalShutdown_hide (m : Nat) (hm : Sub 16275996674 m) (x0) (x1 : State) : (outState x1 (execFeThermalShutdown x0 x1)).hide m = x1.hide m := by
  unfold execFeThermalShutdown
  simp only [hide_ite, ite_self, out_ite, out_next, out_fault, State.thermalTrip_hide m (.of rfl hm)]

theorem execBalStop_hide (m : Nat) (hm : Sub 33320600578 m) (x0) (x1) (x2 : State) : (outState x2 (execBalStop x0 x1 x2)).hide m = x2.hide m := by
  unfold execBalStop
  simp only [implies_true, out_next, opBalStop_hide m (.of rfl hm), runCmd_hide m (.of rfl hm)]

theorem execStreamConfig_hide (m : Nat) (hm : Sub 16139681792 m) (x0) (x1) (x2 : State) : (outState x2 (execStreamConfig x0 x1 x2)).hide m = x2.hide m := by
  unfold execStreamConfig
  simp only [implies_true, out_next, runCmd_hide m (.of rfl hm), opStreamConfig_hide m (.of rfl hm)]

theorem execTableBlockStored_hide (m : Nat) (hm : Sub 16140206080 m) (x0) (x1 : State) : (outState x1 (execTableBlockStored x0 x1)).hide m = x1.hide m := by
  unfold execTableBlockStored
  repeat' (first | (simp only [hide_ite, ite_self, implies_true, out_ite, out_next, out_fault, State.complete_hide m (.of rfl hm), State.blockStored_hide m (.of rfl hm), upd_19 m (.of rfl hm)]; done) | (simp only [hide_ite, ite_self, implies_true, out_ite, out_next, out_fault, State.complete_hide m (.of rfl hm), State.blockStored_hide m (.of rfl hm), upd_19 m (.of rfl hm)]; split) | split | (simp only [hide_ite, ite_self, implies_true, out_ite, out_next, out_fault, State.complete_hide m (.of rfl hm), State.blockStored_hide m (.of rfl hm), upd_19 m (.of rfl hm)]; with_reducible refine (hide_foldl m _ _ _ fun x a => ?_).trans ?_) | with_reducible refine (hide_foldl m _ _ _ fun x a => ?_).trans ?_)

theorem State.handshakeStep_hide (m : Nat) (hm : Sub 51171622914 m) (x0 : State) : (State.handshakeStep x0).hide m = x0.hide m := by
  unfold State.handshakeStep
  repeat' (first | (simp only [hide_ite, ite_self, implies_true, State.draw_hide m (.of rfl hm), State.blockRefuses_hide m (.of rfl hm), State.blockAccepts_hide m (.of rfl hm), upd_29 m (.of rfl hm)]; done) | (simp only [hide_ite, ite_self, implies_true, State.draw_hide m (.of rfl hm), State.blockRefuses_hide m (.of rfl hm), State.blockAccepts_hide m (.of rfl hm), upd_29 m (.of rfl hm)]; split) | split | (simp only [hide_ite, ite_self, implies_true, State.draw_hide m (.of rfl hm), State.blockRefuses_hide m (.of rfl hm), State.blockAccepts_hide m (.of rfl hm), upd_29 m (.of rfl hm)]; with_reducible refine (hide_foldl m _ _ _ fun x a => ?_).trans ?_) | with_reducible refine (hide_foldl m _ _ _ fun x a => ?_).trans ?_)

theorem State.holdUndone_hide (m : Nat) (hm : Sub 16542998628 m) (x0 : State) : (State.holdUndone x0).hide m = x0.hide m := by
  unfold State.holdUndone
  simp only [hide_ite, ite_self, implies_true, hide_foldl, State.holdStep_hide m (.of rfl hm), State.scaleJob_hide m (.of rfl hm), State.holdCurrent_hide m (.of rfl hm)]

theorem execIdentify_hide (m : Nat) (hm : Sub 16139681792 m) (x0) (x1) (x2 : State) : (outState x2 (execIdentify x0 x1 x2)).hide m = x2.hide m := by
  unfold execIdentify
  simp only [implies_true, out_next, runCmd_hide m (.of rfl hm), opIdentify_hide m (.of rfl hm)]

theorem execWakeRecord_hide (m : Nat) (hm : Sub 16139681792 m) (x0) (x1) (x2 : State) : (outState x2 (execWakeRecord x0 x1 x2)).hide m = x2.hide m := by
  unfold execWakeRecord
  simp only [implies_true, out_next, runCmd_hide m (.of rfl hm), opWakeRecord_hide m (.of rfl hm)]

theorem execFaultRecordWrite_hide (m : Nat) (hm : Sub 16148071424 m) (x0 : State) : (outState x0 (execFaultRecordWrite x0)).hide m = x0.hide m := by
  unfold execFaultRecordWrite
  simp only [hide_ite, ite_self, out_next, State.writeConvRecord_hide m (.of rfl hm)]

theorem execConvFaultRecord_hide (m : Nat) (hm : Sub 16139681792 m) (x0) (x1) (x2 : State) : (outState x2 (execConvFaultRecord x0 x1 x2)).hide m = x2.hide m := by
  unfold execConvFaultRecord
  simp only [implies_true, out_next, runCmd_hide m (.of rfl hm), opConvFaultRecord_hide m (.of rfl hm)]

theorem State.reading_hide (m : Nat) (hm : Sub 16273903616 m) (x0 : State) (x1) : (State.reading x0 x1).hide m = x0.hide m := by
  unfold State.reading
  repeat' (first | (simp only [hide_ite, ite_self, implies_true, State.evalThermal_hide m (.of rfl hm), State.badReading_hide m (.of rfl hm), State.gridReading_hide m (.of rfl hm), State.goodReading_hide m (.of rfl hm), State.dieReplies_hide m (.of rfl hm), upd_12 m (.of rfl hm)]; done) | (simp only [hide_ite, ite_self, implies_true, State.evalThermal_hide m (.of rfl hm), State.badReading_hide m (.of rfl hm), State.gridReading_hide m (.of rfl hm), State.goodReading_hide m (.of rfl hm), State.dieReplies_hide m (.of rfl hm), upd_12 m (.of rfl hm)]; split) | split | (simp only [hide_ite, ite_self, implies_true, State.evalThermal_hide m (.of rfl hm), State.badReading_hide m (.of rfl hm), State.gridReading_hide m (.of rfl hm), State.goodReading_hide m (.of rfl hm), State.dieReplies_hide m (.of rfl hm), upd_12 m (.of rfl hm)]; with_reducible refine (hide_foldl m _ _ _ fun x a => ?_).trans ?_) | with_reducible refine (hide_foldl m _ _ _ fun x a => ?_).trans ?_)

theorem execAuxOkClear_hide (m : Nat) (hm : Sub 143091696665601 m) (x0 : State) : (outState x0 (execAuxOkClear x0)).hide m = x0.hide m := by
  unfold execAuxOkClear
  repeat' (first | (simp only [hide_ite, ite_self, implies_true, out_ite, out_next, out_fault, State.beginDrain_hide m (.of rfl hm), State.ownMode_hide m (.of rfl hm), upd_29 m (.of rfl hm)]; done) | (simp only [hide_ite, ite_self, implies_true, out_ite, out_next, out_fault, State.beginDrain_hide m (.of rfl hm), State.ownMode_hide m (.of rfl hm), upd_29 m (.of rfl hm)]; split) | split | (simp only [hide_ite, ite_self, implies_true, out_ite, out_next, out_fault, State.beginDrain_hide m (.of rfl hm), State.ownMode_hide m (.of rfl hm), upd_29 m (.of rfl hm)]; with_reducible refine (hide_foldl m _ _ _ fun x a => ?_).trans ?_) | with_reducible refine (hide_foldl m _ _ _ fun x a => ?_).trans ?_)

theorem execProtEventRecordWrite_hide (m : Nat) (hm : Sub 16141782016 m) (x0 : State) : (outState x0 (execProtEventRecordWrite x0)).hide m = x0.hide m := by
  unfold execProtEventRecordWrite
  simp only [hide_ite, ite_self, out_next, State.writeProtRecord_hide m (.of rfl hm), upd_11 m (.of rfl hm)]

theorem execSpiRegisterWrite_hide (m : Nat) (hm : Sub 14126415872 m) (x0) (x1) (x2 : State) : (outState x2 (execSpiRegisterWrite x0 x1 x2)).hide m = x2.hide m := by
  unfold execSpiRegisterWrite
  simp only [out_next, State.spiTransaction_hide m (.of rfl hm)]

theorem State.noSpare_hide (m : Nat) (hm : Sub 16141787524 m) (x0 : State) (x1) : (State.noSpare x0 x1).hide m = x0.hide m := by
  unfold State.noSpare
  repeat' (first | (simp only [hide_ite, ite_self, implies_true, State.takeOver_hide m (.of rfl hm), State.loseRole_hide m (.of rfl hm)]; done) | (simp only [hide_ite, ite_self, implies_true, State.takeOver_hide m (.of rfl hm), State.loseRole_hide m (.of rfl hm)]; split) | split | (simp only [hide_ite, ite_self, implies_true, State.takeOver_hide m (.of rfl hm), State.loseRole_hide m (.of rfl hm)]; with_reducible refine (hide_foldl m _ _ _ fun x a => ?_).trans ?_) | with_reducible refine (hide_foldl m _ _ _ fun x a => ?_).trans ?_)

theorem opDiscard_hide (m : Nat) (hm : Sub 16140206080 m) (x0) (x1) (x2 : State) : (opDiscard x0 x1 x2).s.hide m = x2.hide m := by
  unfold opDiscard
  simp only [okAns_s, State.discardTable_hide m (.of rfl hm), upd_31 m (.of rfl hm)]

theorem execTableWrite_hide (m : Nat) (hm : Sub 16140207104 m) (x0) (x1) (x2 : State) : (outState x2 (execTableWrite x0 x1 x2)).hide m = x2.hide m := by
  unfold execTableWrite
  simp only [implies_true, out_next, runCmd_hide m (.of rfl hm), opTableWrite_hide m (.of rfl hm)]

theorem execArmingReady_hide (m : Nat) (hm : Sub 30802733694976 m) (x0 : State) : (outState x0 (execArmingReady x0)).hide m = x0.hide m := by
  unfold execArmingReady
  simp only [hide_ite, ite_self, out_next, State.armSafety_hide m (.of rfl hm), upd_28 m (.of rfl hm)]

theorem State.rebootLane_hide (m : Nat) (hm : Sub 16341008384 m) (x0 : State) (x1) : (State.rebootLane x0 x1).hide m = x0.hide m := by
  unfold State.rebootLane
  simp only [hide_ite, ite_self, State.laneAbsorb_hide m (.of rfl hm), State.modLane_hide m (.of rfl hm), State.retireLane_hide m (.of rfl hm), upd_27 m (.of rfl hm)]

theorem execBalPlan_hide (m : Nat) (hm : Sub 33320600576 m) (x0) (x1) (x2 : State) : (outState x2 (execBalPlan x0 x1 x2)).hide m = x2.hide m := by
  unfold execBalPlan
  simp only [implies_true, out_next, runCmd_hide m (.of rfl hm), opBalPlan_hide m (.of rfl hm)]

theorem State.firstStep_hide (m : Nat) (hm : Sub 16273924096 m) (x0 : State) (x1) (x2) (x3) : (State.firstStep x0 x1 x2 x3).hide m = x0.hide m := by
  unfold State.firstStep
  simp only [hide_ite, ite_self, State.absorb_hide m (.of rfl hm), State.restPoint_hide m (.of rfl hm), State.modEst_hide m (.of rfl hm), State.measureStep_hide m (.of rfl hm)]

theorem opSafetyReset_hide (m : Nat) (hm : Sub 30819913565184 m) (x0) (x1) (x2 : State) : (opSafetyReset x0 x1 x2).s.hide m = x2.hide m := by
  unfold opSafetyReset
  repeat' (first | (simp only [hide_ite, ite_self, implies_true, ans_ite, fail_s, refuse_s, okAns_s, State.journal_hide m (.of rfl hm), fail_hide m (.of rfl hm), okAns_hide m (.of rfl hm), State.armSafety_hide m (.of rfl hm)]; done) | (simp only [hide_ite, ite_self, implies_true, ans_ite, fail_s, refuse_s, okAns_s, State.journal_hide m (.of rfl hm), fail_hide m (.of rfl hm), okAns_hide m (.of rfl hm), State.armSafety_hide m (.of rfl hm)]; split) | split | (simp only [hide_ite, ite_self, implies_true, ans_ite, fail_s, refuse_s, okAns_s, State.journal_hide m (.of rfl hm), fail_hide m (.of rfl hm), okAns_hide m (.of rfl hm), State.armSafety_hide m (.of rfl hm)]; with_reducible refine (hide_foldl m _ _ _ fun x a => ?_).trans ?_) | with_reducible refine (hide_foldl m _ _ _ fun x a => ?_).trans ?_)

theorem execDiagCurCal_hide (m : Nat) (hm : Sub 16139681824 m) (x0) (x1) (x2 : State) : (outState x2 (execDiagCurCal x0 x1 x2)).hide m = x2.hide m := by
  unfold execDiagCurCal
  simp only [implies_true, out_next, runCmd_hide m (.of rfl hm), opCurCal_hide m (.of rfl hm)]

theorem execDozeBlockAsk_hide (m : Nat) (hm : Sub 51171622914 m) (x0 : State) : (outState x0 (execDozeBlockAsk x0)).hide m = x0.hide m := by
  unfold execDozeBlockAsk
  simp only [hide_ite, ite_self, out_next, State.handshakeStep_hide m (.of rfl hm)]

theorem State.writeAll_hide (m : Nat) (hm : Sub 16150176768 m) (x0 : State) : (State.writeAll x0).hide m = x0.hide m := by
  unfold State.writeAll
  simp only [implies_true, hide_foldl, State.finishImage_hide m (.of rfl hm), State.saveEst_hide m (.of rfl hm), State.writeProtRecord_hide m (.of rfl hm), State.writeConvRecord_hide m (.of rfl hm), upd_10 m (.of rfl hm)]

theorem State.currentAggJob_hide (m : Nat) (hm : Sub 16544432224 m) (x0 : State) : (State.currentAggJob x0).hide m = x0.hide m := by
  unfold State.currentAggJob
  simp only [hide_ite, ite_self, State.cfeWindow_hide m (.of rfl hm), State.settleBridge_hide m (.of rfl hm), State.sendRecord_hide m (.of rfl hm)]

theorem State.reprovSteps_hide (m : Nat) (hm : Sub 857953272832 m) (x0 : State) : (State.reprovSteps x0).hide m = x0.hide m := by
  unfold State.reprovSteps
  simp only [hide_ite, ite_self, implies_true, hide_foldl, State.challenge_hide m (.of rfl hm), State.complete_hide m (.of rfl hm), State.newKeys_hide m (.of rfl hm), upd_34 m (.of rfl hm)]

theorem State.beginRecovery_hide (m : Nat) (hm : Sub 157437395969 m) (x0 : State) (x1) : (State.beginRecovery x0 x1).hide m = x0.hide m := by
  unfold State.beginRecovery
  simp only [hide_ite, ite_self, State.requestContactors_hide m (.of rfl hm), State.journal_hide m (.of rfl hm), State.beginEntry_hide m (.of rfl hm), State.boundaryMode_hide m (.of rfl hm), State.endRequest_hide m (.of rfl hm), upd_0 m (.of rfl hm), upd_29 m (.of rfl hm)]

theorem execJournalRead_hide (m : Nat) (hm : Sub 16273899520 m) (x0) (x1) (x2 : State) : (outState x2 (execJournalRead x0 x1 x2)).hide m = x2.hide m := by
  unfold execJournalRead
  simp only [implies_true, out_next, runCmd_hide m (.of rfl hm), opJournalRead_hide m (.of rfl hm)]

theorem State.contactorMode_hide (m : Nat) (hm : Sub 171161158657 m) (x0 : State) : (State.contactorMode x0).hide m = x0.hide m := by
  unfold State.contactorMode
  repeat' (first | (simp only [hide_ite, ite_self, implies_true, State.requestContactors_hide m (.of rfl hm), State.complete_hide m (.of rfl hm), State.boundaryMode_hide m (.of rfl hm), upd_28 m (.of rfl hm), upd_0 m (.of rfl hm), upd_0_37 m (.of rfl hm), upd_0_28_37 m (.of rfl hm)]; done) | (simp only [hide_ite, ite_self, implies_true, State.requestContactors_hide m (.of rfl hm), State.complete_hide m (.of rfl hm), State.boundaryMode_hide m (.of rfl hm), upd_28 m (.of rfl hm), upd_0 m (.of rfl hm), upd_0_37 m (.of rfl hm), upd_0_28_37 m (.of rfl hm)]; split) | split | (simp only [hide_ite, ite_self, implies_true, State.requestContactors_hide m (.of rfl hm), State.complete_hide m (.of rfl hm), State.boundaryMode_hide m (.of rfl hm), upd_28 m (.of rfl hm), upd_0 m (.of rfl hm), upd_0_37 m (.of rfl hm), upd_0_28_37 m (.of rfl hm)]; with_reducible refine (hide_foldl m _ _ _ fun x a => ?_).trans ?_) | with_reducible refine (hide_foldl m _ _ _ fun x a => ?_).trans ?_)

theorem execSafetyReset_hide (m : Nat) (hm : Sub 30819913565184 m) (x0) (x1) (x2 : State) : (outState x2 (execSafetyReset x0 x1 x2)).hide m = x2.hide m := by
  unfold execSafetyReset
  simp only [implies_true, out_next, runCmd_hide m (.of rfl hm), opSafetyReset_hide m (.of rfl hm)]

theorem State.runLatchDue_hide (m : Nat) (hm : Sub 2232373285888 m) (x0 : State) (x1) : (State.runLatchDue x0 x1).hide m = x0.hide m := by
  unfold State.runLatchDue
  repeat' (first | (simp only [hide_ite, ite_self, implies_true, opEisStart_hide m (.of rfl hm), State.complete_hide m (.of rfl hm), opConvEnable_hide m (.of rfl hm), State.runLatched_hide m (.of rfl hm), opBalPlan_hide m (.of rfl hm), upd_23 m (.of rfl hm), upd_20 m (.of rfl hm), upd_16 m (.of rfl hm), upd_16_20_23 m (.of rfl hm)]; done) | (simp only [hide_ite, ite_self, implies_true, opEisStart_hide m (.of rfl hm), State.complete_hide m (.of rfl hm), opConvEnable_hide m (.of rfl hm), State.runLatched_hide m (.of rfl hm), opBalPlan_hide m (.of rfl hm), upd_23 m (.of rfl hm), upd_20 m (.of rfl hm), upd_16 m (.of rfl hm), upd_16_20_23 m (.of rfl hm)]; split) | split | (simp only [hide_ite, ite_self, implies_true, opEisStart_hide m (.of rfl hm), State.complete_hide m (.of rfl hm), opConvEnable_hide m (.of rfl hm), State.runLatched_hide m (.of rfl hm), opBalPlan_hide m (.of rfl hm), upd_23 m (.of rfl hm), upd_20 m (.of rfl hm), upd_16 m (.of rfl hm), upd_16_20_23 m (.of rfl hm)]; with_reducible refine (hide_foldl m _ _ _ fun x a => ?_).trans ?_) | with_reducible refine (hide_foldl m _ _ _ fun x a => ?_).trans ?_)

theorem execEnumerationEnd_hide (m : Nat) (hm : Sub 33319552000 m) (x0) (x1 : State) : (outState x1 (execEnumerationEnd x0 x1)).hide m = x1.hide m := by
  unfold execEnumerationEnd
  repeat' (first | (simp only [hide_ite, ite_self, implies_true, out_ite, out_next, out_fault, State.notify_hide m (.of rfl hm), State.takePosition_hide m (.of rfl hm), State.complete_hide m (.of rfl hm), upd_25 m (.of rfl hm)]; done) | (simp only [hide_ite, ite_self, implies_true, out_ite, out_next, out_fault, State.notify_hide m (.of rfl hm), State.takePosition_hide m (.of rfl hm), State.complete_hide m (.of rfl hm), upd_25 m (.of rfl hm)]; split) | split | (simp only [hide_ite, ite_self, implies_true, out_ite, out_next, out_fault, State.notify_hide m (.of rfl hm), State.takePosition_hide m (.of rfl hm), State.complete_hide m (.of rfl hm), upd_25 m (.of rfl hm)]; with_reducible refine (hide_foldl m _ _ _ fun x a => ?_).trans ?_) | with_reducible refine (hide_foldl m _ _ _ fun x a => ?_).trans ?_)

theorem execPowerState_hide (m : Nat) (hm : Sub 33856422912 m) (x0) (x1) (x2 : State) : (outState x2 (execPowerState x0 x1 x2)).hide m = x2.hide m := by
  unfold execPowerState
  simp only [implies_true, out_next, runCmd_hide m (.of rfl hm), opPowerState_hide m (.of rfl hm)]

theorem execFwVerifyComplete_hide (m : Nat) (hm : Sub 33319552000 m) (x0 : State) : (outState x0 (execFwVerifyComplete x0)).hide m = x0.hide m := by
  unfold execFwVerifyComplete
  simp only [hide_ite, ite_self, out_next, State.verifyEnds_hide m (.of rfl hm)]

theorem State.convReachesOff_hide (m : Nat) (hm : Sub 143090253824001 m) (x0 : State) : (State.convReachesOff x0).hide m = x0.hide m := by
  unfold State.convReachesOff
  simp only [hide_ite, ite_self, State.lawReset_hide m (.of rfl hm), State.serviceDone_hide m (.of rfl hm), State.complete_hide m (.of rfl hm), State.convOff_hide m (.of rfl hm), upd_23 m (.of rfl hm)]

theorem execReprovision_hide (m : Nat) (hm : Sub 33319550976 m) (x0) (x1) (x2 : State) : (outState x2 (execReprovision x0 x1 x2)).hide m = x2.hide m := by
  unfold execReprovision
  simp only [implies_true, out_next, opReprovision_hide m (.of rfl hm), runCmd_hide m (.of rfl hm)]

theorem execMode_hide (m : Nat) (hm : Sub 143107433694209 m) (x0) (x1) (x2 : State) : (outState x2 (execMode x0 x1 x2)).hide m = x2.hide m := by
  unfold execMode
  simp only [implies_true, out_next, runCmd_hide m (.of rfl hm), opMode_hide m (.of rfl hm)]

theorem execAttest_hide (m : Nat) (hm : Sub 50499420160 m) (x0) (x1) (x2 : State) : (outState x2 (execAttest x0 x1 x2)).hide m = x2.hide m := by
  unfold execAttest
  simp only [implies_true, out_next, runCmd_hide m (.of rfl hm), opAttest_hide m (.of rfl hm)]

theorem execPing_hide (m : Nat) (hm : Sub 16139681792 m) (x0) (x1) (x2 : State) : (outState x2 (execPing x0 x1 x2)).hide m = x2.hide m := by
  unfold execPing
  simp only [implies_true, out_next, runCmd_hide m (.of rfl hm), opPing_hide m (.of rfl hm)]

theorem execConvSetpoint_hide (m : Nat) (hm : Sub 70402080506880 m) (x0) (x1) (x2 : State) : (outState x2 (execConvSetpoint x0 x1 x2)).hide m = x2.hide m := by
  unfold execConvSetpoint
  simp only [implies_true, out_next, runCmd_hide m (.of rfl hm), opConvSetpoint_hide m (.of rfl hm)]

theorem State.settleEntry_hide (m : Nat) (hm : Sub 1256982578177 m) (x0 : State) : (State.settleEntry x0).hide m = x0.hide m := by
  unfold State.settleEntry
  simp only [hide_ite, ite_self, State.resolveQueue_hide m (.of rfl hm), State.beginRecovery_hide m (.of rfl hm), State.endRequest_hide m (.of rfl hm), upd_29_40 m (.of rfl hm)]

theorem State.arbStep_hide (m : Nat) (hm : Sub 70385040352188 m) (x0 : State) (x1) : (State.arbStep x0 x1).hide m = x0.hide m := by
  unfold State.arbStep
  repeat' (first | (simp only [hide_ite, ite_self, implies_true, State.modPan_hide m (.of rfl hm), State.verdict_hide m (.of rfl hm), State.restoreRole_hide m (.of rfl hm), State.retirePan_hide m (.of rfl hm), State.giveRole_hide m (.of rfl hm), upd_9 m (.of rfl hm)]; done) | (simp only [hide_ite, ite_self, implies_true, State.modPan_hide m (.of rfl hm), State.verdict_hide m (.of rfl hm), State.restoreRole_hide m (.of rfl hm), State.retirePan_hide m (.of rfl hm), State.giveRole_hide m (.of rfl hm), upd_9 m (.of rfl hm)]; split) | split | (simp only [hide_ite, ite_self, implies_true, State.modPan_hide m (.of rfl hm), State.verdict_hide m (.of rfl hm), State.restoreRole_hide m (.of rfl hm), State.retirePan_hide m (.of rfl hm), State.giveRole_hide m (.of rfl hm), upd_9 m (.of rfl hm)]; with_reducible refine (hide_foldl m _ _ _ fun x a => ?_).trans ?_) | with_reducible refine (hide_foldl m _ _ _ fun x a => ?_).trans ?_)

theorem execEisAbort_hide (m : Nat) (hm : Sub 33319617536 m) (x0) (x1) (x2 : State) : (outState x2 (execEisAbort x0 x1 x2)).hide m = x2.hide m := by
  unfold execEisAbort
  simp only [implies_true, out_next, runCmd_hide m (.of rfl hm), opEisAbort_hide m (.of rfl hm)]

theorem execDiagCellReset_hide (m : Nat) (hm : Sub 33319560192 m) (x0) (x1) (x2 : State) : (outState x2 (execDiagCellReset x0 x1 x2)).hide m = x2.hide m := by
  unfold execDiagCellReset
  simp only [implies_true, out_next, runCmd_hide m (.of rfl hm), opCellReset_hide m (.of rfl hm)]

theorem execRingStatus_hide (m : Nat) (hm : Sub 16139681792 m) (x0) (x1) (x2 : State) : (outState x2 (execRingStatus x0 x1 x2)).hide m = x2.hide m := by
  unfold execRingStatus
  simp only [implies_true, out_next, runCmd_hide m (.of rfl hm), opRingStatus_hide m (.of rfl hm)]

theorem execRingHeaderRx_hide (m : Nat) (hm : Sub 50633703425 m) (x0) (x1) (x2) (x3) (x4 : State) : (outState x4 (execRingHeaderRx x0 x1 x2 x3 x4)).hide m = x4.hide m := by
  unfold execRingHeaderRx
  simp only [hide_ite, ite_self, out_next, State.headerRx_hide m (.of rfl hm)]

theorem execHealth_hide (m : Nat) (hm : Sub 16139681792 m) (x0) (x1) (x2 : State) : (outState x2 (execHealth x0 x1 x2)).hide m = x2.hide m := by
  unfold execHealth
  simp only [implies_true, out_next, runCmd_hide m (.of rfl hm), opHealth_hide m (.of rfl hm)]

theorem opCommit_hide (m : Nat) (hm : Sub 19394987009 m) (x0) (x1) (x2 : State) : (opCommit x0 x1 x2).s.hide m = x2.hide m := by
  unfold opCommit
  repeat' (first | (simp only [hide_ite, ite_self, implies_true, ans_ite, fail_s, refuse_s, okAns_s, hide_foldl, State.commitOne_hide m (.of rfl hm), State.commitTable_hide m (.of rfl hm), fail_hide m (.of rfl hm), okAns_hide m (.of rfl hm), State.writeImage_hide m (.of rfl hm), upd_0_31 m (.of rfl hm), upd_31 m (.of rfl hm)]; done) | (simp only [hide_ite, ite_self, implies_true, ans_ite, fail_s, refuse_s, okAns_s, hide_foldl, State.commitOne_hide m (.of rfl hm), State.commitTable_hide m (.of rfl hm), fail_hide m (.of rfl hm), okAns_hide m (.of rfl hm), State.writeImage_hide m (.of rfl hm), upd_0_31 m (.of rfl hm), upd_31 m (.of rfl hm)]; split) | split | (simp only [hide_ite, ite_self, implies_true, ans_ite, fail_s, refuse_s, okAns_s, hide_foldl, State.commitOne_hide m (.of rfl hm), State.commitTable_hide m (.of rfl hm), fail_hide m (.of rfl hm), okAns_hide m (.of rfl hm), State.writeImage_hide m (.of rfl hm), upd_0_31 m (.of rfl hm), upd_31 m (.of rfl hm)]; with_reducible refine (hide_foldl m _ _ _ fun x a => ?_).trans ?_) | with_reducible refine (hide_foldl m _ _ _ fun x a => ?_).trans ?_)

theorem execDiagProtEvents_hide (m : Nat) (hm : Sub 16139681792 m) (x0) (x1) (x2 : State) : (outState x2 (execDiagProtEvents x0 x1 x2)).hide m = x2.hide m := by
  unfold execDiagProtEvents
  simp only [implies_true, out_next, opProtEvents_hide m (.of rfl hm), runCmd_hide m (.of rfl hm)]

theorem opConvDisable_hide (m : Nat) (hm : Sub 142953720841216 m) (x0) (x1) (x2 : State) : (opConvDisable x0 x1 x2).s.hide m = x2.hide m := by
  unfold opConvDisable
  simp only [hide_ite, ite_self, ans_ite, refuse_s, okAns_s, State.journalConv_hide m (.of rfl hm), State.beginDrain_hide m (.of rfl hm), upd_23 m (.of rfl hm)]

theorem State.completeMoves_hide (m : Nat) (hm : Sub 70385040352188 m) (x0 : State) : (State.completeMoves x0).hide m = x0.hide m := by
  unfold State.completeMoves
  simp only [hide_ite, ite_self, implies_true, hide_foldl, State.retireHalted_hide m (.of rfl hm), State.checkSpares_hide m (.of rfl hm), State.applyMove_hide m (.of rfl hm), State.arbStep_hide m (.of rfl hm), upd_8 m (.of rfl hm)]

theorem State.holdJob_hide (m : Nat) (hm : Sub 16542998628 m) (x0 : State) (x1) (x2) : (State.holdJob x0 x1 x2).hide m = x0.hide m := by
  unfold State.holdJob
  repeat' (first | (simp only [hide_ite, ite_self, implies_true, State.holdStep_hide m (.of rfl hm), State.scaleJob_hide m (.of rfl hm), State.holdCurrent_hide m (.of rfl hm)]; done) | (simp only [hide_ite, ite_self, implies_true, State.holdStep_hide m (.of rfl hm), State.scaleJob_hide m (.of rfl hm), State.holdCurrent_hide m (.of rfl hm)]; split) | split | (simp only [hide_ite, ite_self, implies_true, State.holdStep_hide m (.of rfl hm), State.scaleJob_hide m (.of rfl hm), State.holdCurrent_hide m (.of rfl hm)]; with_reducible refine (hide_foldl m _ _ _ fun x a => ?_).trans ?_) | with_reducible refine (hide_foldl m _ _ _ fun x a => ?_).trans ?_)

theorem State.plausBranch_hide (m : Nat) (hm : Sub 16273899616 m) (x0 : State) (x1) : (State.plausBranch x0 x1).hide m = x0.hide m := by
  unfold State.plausBranch
  simp only [implies_true, hide_foldl, State.plausStamp_hide m (.of rfl hm)]

theorem execEisResult_hide (m : Nat) (hm : Sub 16139681792 m) (x0) (x1) (x2 : State) : (outState x2 (execEisResult x0 x1 x2)).hide m = x2.hide m := by
  unfold execEisResult
  simp only [implies_true, out_next, runCmd_hide m (.of rfl hm), opEisResult_hide m (.of rfl hm)]

theorem execFwStage_hide (m : Nat) (hm : Sub 33319550976 m) (x0) (x1) (x2 : State) : (outState x2 (execFwStage x0 x1 x2)).hide m = x2.hide m := by
  unfold execFwStage
  simp only [implies_true, out_next, runCmd_hide m (.of rfl hm), opFwStage_hide m (.of rfl hm)]

theorem State.compareAnchor_hide (m : Nat) (hm : Sub 16273900416 m) (x0 : State) (x1) (x2) : (State.compareAnchor x0 x1 x2).hide m = x0.hide m := by
  unfold State.compareAnchor
  repeat' (first | (simp only [hide_ite, ite_self, implies_true, State.compare_hide m (.of rfl hm), State.modPan_hide m (.of rfl hm), State.shadowed_hide m (.of rfl hm)]; done) | (simp only [hide_ite, ite_self, implies_true, State.compare_hide m (.of rfl hm), State.modPan_hide m (.of rfl hm), State.shadowed_hide m (.of rfl hm)]; split) | split | (simp only [hide_ite, ite_self, implies_true, State.compare_hide m (.of rfl hm), State.modPan_hide m (.of rfl hm), State.shadowed_hide m (.of rfl hm)]; with_reducible refine (hide_foldl m _ _ _ fun x a => ?_).trans ?_) | with_reducible refine (hide_foldl m _ _ _ fun x a => ?_).trans ?_)

theorem State.replace_hide (m : Nat) (hm : Sub 16141787524 m) (x0 : State) (x1) : (State.replace x0 x1).hide m = x0.hide m := by
  unfold State.replace
  repeat' (first | (simp only [hide_ite, ite_self, implies_true, State.modPan_hide m (.of rfl hm), State.modSlot_hide m (.of rfl hm), State.noSpare_hide m (.of rfl hm), State.loseRole_hide m (.of rfl hm)]; done) | (simp only [hide_ite, ite_self, implies_true, State.modPan_hide m (.of rfl hm), State.modSlot_hide m (.of rfl hm), State.noSpare_hide m (.of rfl hm), State.loseRole_hide m (.of rfl hm)]; split) | split | (simp only [hide_ite, ite_self, implies_true, State.modPan_hide m (.of rfl hm), State.modSlot_hide m (.of rfl hm), State.noSpare_hide m (.of rfl hm), State.loseRole_hide m (.of rfl hm)]; with_reducible refine (hide_foldl m _ _ _ fun x a => ?_).trans ?_) | with_reducible refine (hide_foldl m _ _ _ fun x a => ?_).trans ?_)

theorem State.stepCell_hide (m : Nat) (hm : Sub 16274055168 m) (x0 : State) (x1) : (State.stepCell x0 x1).hide m = x0.hide m := by
  unfold State.stepCell
  repeat' (first | (simp only [hide_ite, ite_self, implies_true, State.nextStep_hide m (.of rfl hm), State.firstStep_hide m (.of rfl hm)]; done) | (simp only [hide_ite, ite_self, implies_true, State.nextStep_hide m (.of rfl hm), State.firstStep_hide m (.of rfl hm)]; split) | split | (simp only [hide_ite, ite_self, implies_true, State.nextStep_hide m (.of rfl hm), State.firstStep_hide m (.of rfl hm)]; with_reducible refine (hide_foldl m _ _ _ fun x a => ?_).trans ?_) | with_reducible refine (hide_foldl m _ _ _ fun x a => ?_).trans ?_)

theorem execParamSet_hide (m : Nat) (hm : Sub 16139681792 m) (x0) (x1) (x2 : State) : (outState x2 (execParamSet x0 x1 x2)).hide m = x2.hide m := by
  unfold execParamSet
  simp only [implies_true, out_next, runCmd_hide m (.of rfl hm), opParamSet_hide m (.of rfl hm)]

theorem execCanTxComplete_hide (m : Nat) (hm : Sub 12884901888 m) (x0) (x1) (x2) (x3 : State) : (outState x3 (execCanTxComplete x0 x1 x2 x3)).hide m = x3.hide m := by
  unfold execCanTxComplete
  simp only [out_next, State.canTxComplete_hide m (.of rfl hm)]

theorem State.cfePacket_hide (m : Nat) (hm : Sub 16273901606 m) (x0 : State) (x1) : (State.cfePacket x0 x1).hide m = x0.hide m := by
  unfold State.cfePacket
  simp only [hide_ite, ite_self, State.cfeBad_hide m (.of rfl hm), State.cfeStore_hide m (.of rfl hm), State.cfeGood_hide m (.of rfl hm), upd_5 m (.of rfl hm)]

theorem execConvEnable_hide (m : Nat) (hm : Sub 2232372167680 m) (x0) (x1) (x2 : State) : (outState x2 (execConvEnable x0 x1 x2)).hide m = x2.hide m := by
  unfold execConvEnable
  simp only [implies_true, out_next, runCmd_hide m (.of rfl hm), opConvEnable_hide m (.of rfl hm)]

theorem execReturnStageTimeout_hide (m : Nat) (hm : Sub 282642924712871 m) (x0 : State) : (outState x0 (execReturnStageTimeout x0)).hide m = x0.hide m := by
  unfold execReturnStageTimeout
  repeat' (first | (simp only [hide_ite, ite_self, implies_true, out_ite, out_next, out_fault, State.freeze_hide m (.of rfl hm), State.absorb_hide m (.of rfl hm), State.settleReturn_hide m (.of rfl hm), State.loseUnloaded_hide m (.of rfl hm), State.toStage_hide m (.of rfl hm), State.portsRelink_hide m (.of rfl hm), State.coreFails_hide m (.of rfl hm), upd_29 m (.of rfl hm)]; done) | (simp only [hide_ite, ite_self, implies_true, out_ite, out_next, out_fault, State.freeze_hide m (.of rfl hm), State.absorb_hide m (.of rfl hm), State.settleReturn_hide m (.of rfl hm), State.loseUnloaded_hide m (.of rfl hm), State.toStage_hide m (.of rfl hm), State.portsRelink_hide m (.of rfl hm), State.coreFails_hide m (.of rfl hm), upd_29 m (.of rfl hm)]; split) | split | (simp only [hide_ite, ite_self, implies_true, out_ite, out_next, out_fault, State.freeze_hide m (.of rfl hm), State.absorb_hide m (.of rfl hm), State.settleReturn_hide m (.of rfl hm), State.loseUnloaded_hide m (.of rfl hm), State.toStage_hide m (.of rfl hm), State.portsRelink_hide m (.of rfl hm), State.coreFails_hide m (.of rfl hm), upd_29 m (.of rfl hm)]; with_reducible refine (hide_foldl m _ _ _ fun x a => ?_).trans ?_) | with_reducible refine (hide_foldl m _ _ _ fun x a => ?_).trans ?_)

theorem execEclipseHandover_hide (m : Nat) (hm : Sub 562966294429696 m) (x0) (x1 : State) : (outState x1 (execEclipseHandover x0 x1)).hide m = x1.hide m := by
  unfold execEclipseHandover
  simp only [hide_ite, ite_self, out_next, State.endSwap_hide m (.of rfl hm), State.modLane_hide m (.of rfl hm), State.retireLane_hide m (.of rfl hm), upd_27_49 m (.of rfl hm)]

theorem State.readRing_hide (m : Nat) (hm : Sub 14126415872 m) (x0 : State) (x1) (x2) : (State.readRing x0 x1 x2).hide m = x0.hide m := by
  unfold State.readRing
  simp only [implies_true, hide_foldl, State.modCan_hide m (.of rfl hm), State.canTake_hide m (.of rfl hm)]

theorem execProtOnlyReset_hide (m : Nat) (hm : Sub 530205120397311 m) (x0) (x1) (x2 : State) : (outState x2 (execProtOnlyReset x0 x1 x2)).hide m = x2.hide m := by
  unfold execProtOnlyReset
  repeat' (first | (simp only [hide_ite, ite_self, implies_true, out_ite, out_next, out_fault, State.restart_hide m (.of rfl hm)]; done) | (simp only [hide_ite, ite_self, implies_true, out_ite, out_next, out_fault, State.restart_hide m (.of rfl hm)]; split) | split | (simp only [hide_ite, ite_self, implies_true, out_ite, out_next, out_fault, State.restart_hide m (.of rfl hm)]; with_reducible refine (hide_foldl m _ _ _ fun x a => ?_).trans ?_) | with_reducible refine (hide_foldl m _ _ _ fun x a => ?_).trans ?_)

theorem State.movesAndSlices_hide (m : Nat) (hm : Sub 70385040876476 m) (x0 : State) : (State.movesAndSlices x0).hide m = x0.hide m := by
  unfold State.movesAndSlices
  simp only [hide_ite, ite_self, implies_true, hide_foldl, State.reloadSlices_hide m (.of rfl hm), State.completeMoves_hide m (.of rfl hm)]

theorem State.harvest_hide (m : Nat) (hm : Sub 50633637888 m) (x0 : State) (x1) (x2) : (State.harvest x0 x1 x2).hide m = x0.hide m := by
  unfold State.harvest
  simp only [State.ringStateOf_hide m (.of rfl hm), State.configCheck_hide m (.of rfl hm), State.protRelay_hide m (.of rfl hm), upd_25 m (.of rfl hm)]

theorem State.managePhases_hide (m : Nat) (hm : Sub 140788151353472 m) (x0 : State) : (State.managePhases x0).hide m = x0.hide m := by
  unfold State.managePhases
  simp only [hide_ite, ite_self, State.checkShare_hide m (.of rfl hm), State.checkBusRange_hide m (.of rfl hm), State.checkSense_hide m (.of rfl hm), State.shareTrims_hide m (.of rfl hm), State.checkDrain_hide m (.of rfl hm), State.decideShed_hide m (.of rfl hm), upd_23_24 m (.of rfl hm)]

theorem State.convBoundary_hide (m : Nat) (hm : Sub 143124613562401 m) (x0 : State) : (State.convBoundary x0).hide m = x0.hide m := by
  unfold State.convBoundary
  simp only [hide_ite, ite_self, State.checkOwner_hide m (.of rfl hm), State.releaseHwLatch_hide m (.of rfl hm), State.serviceDone_hide m (.of rfl hm), State.configurePhases_hide m (.of rfl hm), State.convReachesOff_hide m (.of rfl hm), upd_23 m (.of rfl hm), upd_23_41 m (.of rfl hm)]

theorem State.assignRoles_hide (m : Nat) (hm : Sub 16141788036 m) (x0 : State) : (State.assignRoles x0).hide m = x0.hide m := by
  unfold State.assignRoles
  repeat' (first | (simp only [hide_ite, ite_self, implies_true, hide_foldl, State.checkSpares_hide m (.of rfl hm), State.noSpare_hide m (.of rfl hm), State.giveRole_hide m (.of rfl hm)]; done) | (simp only [hide_ite, ite_self, implies_true, hide_foldl, State.checkSpares_hide m (.of rfl hm), State.noSpare_hide m (.of rfl hm), State.giveRole_hide m (.of rfl hm)]; split) | split | (simp only [hide_ite, ite_self, implies_true, hide_foldl, State.checkSpares_hide m (.of rfl hm), State.noSpare_hide m (.of rfl hm), State.giveRole_hide m (.of rfl hm)]; with_reducible refine (hide_foldl m _ _ _ fun x a => ?_).trans ?_) | with_reducible refine (hide_foldl m _ _ _ fun x a => ?_).trans ?_)

theorem State.plausibilityJob_hide (m : Nat) (hm : Sub 16273932384 m) (x0 : State) : (State.plausibilityJob x0).hide m = x0.hide m := by
  unfold State.plausibilityJob
  simp only [hide_ite, ite_self, implies_true, hide_foldl, State.takeover84_hide m (.of rfl hm), State.plausBranch_hide m (.of rfl hm), upd_15 m (.of rfl hm)]

theorem execCfeFramePacket_hide (m : Nat) (hm : Sub 16273901606 m) (x0) (x1 : State) : (outState x1 (execCfeFramePacket x0 x1)).hide m = x1.hide m := by
  unfold execCfeFramePacket
  simp only [out_next, State.cfePacket_hide m (.of rfl hm)]

theorem State.anchoredMoves_hide (m : Nat) (hm : Sub 70385040352188 m) (x0 : State) : (State.anchoredMoves x0).hide m = x0.hide m := by
  unfold State.anchoredMoves
  simp only [hide_ite, ite_self, implies_true, hide_foldl, State.applyMove_hide m (.of rfl hm), State.arbStep_hide m (.of rfl hm)]

theorem execDieTempTimeout_hide (m : Nat) (hm : Sub 16273903616 m) (x0 : State) : (outState x0 (execDieTempTimeout x0)).hide m = x0.hide m := by
  unfold execDieTempTimeout
  simp only [hide_ite, ite_self, out_next, State.reading_hide m (.of rfl hm)]

theorem State.laneFails_hide (m : Nat) (hm : Sub 281491317719040 m) (x0 : State) (x1) (x2) : (State.laneFails x0 x1 x2).hide m = x0.hide m := by
  unfold State.laneFails
  simp only [hide_ite, ite_self, State.endSwap_hide m (.of rfl hm), State.rebootLane_hide m (.of rfl hm), State.retireLane_hide m (.of rfl hm), State.putOffSwap_hide m (.of rfl hm), State.releaseToken_hide m (.of rfl hm), upd_27 m (.of rfl hm)]

theorem State.moduleStep_hide (m : Nat) (hm : Sub 16273924096 m) (x0 : State) (x1) : (State.moduleStep x0 x1).hide m = x0.hide m := by
  unfold State.moduleStep
  simp only [hide_ite, ite_self, implies_true, hide_foldl, State.rearmAnchors_hide m (.of rfl hm), State.emptyAnchor_hide m (.of rfl hm), State.pairPoint_hide m (.of rfl hm), State.fullCheck_hide m (.of rfl hm), upd_13 m (.of rfl hm), upd_14 m (.of rfl hm)]

theorem State.recoveryBoundary_hide (m : Nat) (hm : Sub 157437395969 m) (x0 : State) : (State.recoveryBoundary x0).hide m = x0.hide m := by
  unfold State.recoveryBoundary
  repeat' (first | (simp only [hide_ite, ite_self, implies_true, State.beginRecovery_hide m (.of rfl hm), upd_29 m (.of rfl hm)]; done) | (simp only [hide_ite, ite_self, implies_true, State.beginRecovery_hide m (.of rfl hm), upd_29 m (.of rfl hm)]; split) | split | (simp only [hide_ite, ite_self, implies_true, State.beginRecovery_hide m (.of rfl hm), upd_29 m (.of rfl hm)]; with_reducible refine (hide_foldl m _ _ _ fun x a => ?_).trans ?_) | with_reducible refine (hide_foldl m _ _ _ fun x a => ?_).trans ?_)

theorem execDieTempConversion_hide (m : Nat) (hm : Sub 16273903616 m) (x0) (x1 : State) : (outState x1 (execDieTempConversion x0 x1)).hide m = x1.hide m := by
  unfold execDieTempConversion
  simp only [hide_ite, ite_self, out_next, State.reading_hide m (.of rfl hm)]

theorem execDiscard_hide (m : Nat) (hm : Sub 16140206080 m) (x0) (x1) (x2 : State) : (outState x2 (execDiscard x0 x1 x2)).hide m = x2.hide m := by
  unfold execDiscard
  simp only [implies_true, out_next, runCmd_hide m (.of rfl hm), opDiscard_hide m (.of rfl hm)]

theorem execStackLow_hide (m : Nat) (hm : Sub 157705831425 m) (x0 : State) : (outState x0 (execStackLow x0)).hide m = x0.hide m := by
  unfold execStackLow
  simp only [hide_ite, ite_self, out_next, State.beginRecovery_hide m (.of rfl hm), State.driveContactors_hide m (.of rfl hm), upd_29 m (.of rfl hm)]

theorem State.resetTail_hide (m : Nat) (hm : Sub 530205122494463 m) (x0 : State) : (State.resetTail x0).hide m = x0.hide m := by
  unfold State.resetTail
  simp only [hide_ite, ite_self, State.restart_hide m (.of rfl hm), State.complete_hide m (.of rfl hm), State.writeAll_hide m (.of rfl hm), State.supersedeDeferred_hide m (.of rfl hm)]

theorem execConvDisable_hide (m : Nat) (hm : Sub 142969860523008 m) (x0) (x1) (x2 : State) : (outState x2 (execConvDisable x0 x1 x2)).hide m = x2.hide m := by
  unfold execConvDisable
  simp only [implies_true, out_next, runCmd_hide m (.of rfl hm), opConvDisable_hide m (.of rfl hm)]

theorem State.gatePans_hide (m : Nat) (hm : Sub 16141788036 m) (x0 : State) (x1) : (State.gatePans x0 x1).hide m = x0.hide m := by
  unfold State.gatePans
  simp only [hide_ite, ite_self, implies_true, hide_foldl, State.replace_hide m (.of rfl hm), upd_7_8_9 m (.of rfl hm)]

theorem State.offends_hide (m : Nat) (hm : Sub 16141787524 m) (x0 : State) (x1) : (State.offends x0 x1).hide m = x0.hide m := by
  unfold State.offends
  simp only [hide_ite, ite_self, State.replace_hide m (.of rfl hm)]

theorem State.watchSettles_hide (m : Nat) (hm : Sub 1256982578177 m) (x0 : State) : (State.watchSettles x0).hide m = x0.hide m := by
  unfold State.watchSettles
  simp only [hide_ite, ite_self, State.settleEntry_hide m (.of rfl hm)]

theorem execMirrorRx_hide (m : Nat) (hm : Sub 281491317719040 m) (x0) (x1) (x2 : State) : (outState x2 (execMirrorRx x0 x1 x2)).hide m = x2.hide m := by
  unfold execMirrorRx
  simp only [hide_ite, ite_self, out_next, State.modLane_hide m (.of rfl hm), State.laneFails_hide m (.of rfl hm)]

theorem State.stepJob_hide (m : Nat) (hm : Sub 16274055168 m) (x0 : State) (x1) : (State.stepJob x0 x1).hide m = x0.hide m := by
  unfold State.stepJob
  repeat' (first | (simp only [hide_ite, ite_self, implies_true, hide_foldl, State.stepCell_hide m (.of rfl hm), State.moduleStep_hide m (.of rfl hm)]; done) | (simp only [hide_ite, ite_self, implies_true, hide_foldl, State.stepCell_hide m (.of rfl hm), State.moduleStep_hide m (.of rfl hm)]; split) | split | (simp only [hide_ite, ite_self, implies_true, hide_foldl, State.stepCell_hide m (.of rfl hm), State.moduleStep_hide m (.of rfl hm)]; with_reducible refine (hide_foldl m _ _ _ fun x a => ?_).trans ?_) | with_reducible refine (hide_foldl m _ _ _ fun x a => ?_).trans ?_)

theorem execEclipseCheckEnd_hide (m : Nat) (hm : Sub 281491317719040 m) (x0) (x1) (x2 : State) : (outState x2 (execEclipseCheckEnd x0 x1 x2)).hide m = x2.hide m := by
  unfold execEclipseCheckEnd
  simp only [hide_ite, ite_self, out_next, State.endSwap_hide m (.of rfl hm), State.modLane_hide m (.of rfl hm), State.laneFails_hide m (.of rfl hm), upd_27 m (.of rfl hm)]

theorem execCommit_hide (m : Nat) (hm : Sub 33387185153 m) (x0) (x1) (x2 : State) : (outState x2 (execCommit x0 x1 x2)).hide m = x2.hide m := by
  unfold execCommit
  simp only [implies_true, out_next, runCmd_hide m (.of rfl hm), opCommit_hide m (.of rfl hm)]

theorem State.runJob_hide (m : Nat) (hm : Sub 50906004606 m) (x0 : State) (x1) (x2) : (State.runJob x0 x1 x2).hide m = x0.hide m := by
  unfold State.runJob
  repeat' (first | (simp only [hide_ite, ite_self, implies_true, State.specJob_hide m (.of rfl hm), State.scaleJob_hide m (.of rfl hm), State.summaryJob_hide m (.of rfl hm), State.openWireJob_hide m (.of rfl hm), State.sumHarvest_hide m (.of rfl hm), State.patternJob_hide m (.of rfl hm), State.coherenceJob_hide m (.of rfl hm), State.powerLimitsJob_hide m (.of rfl hm), State.eventWriteJob_hide m (.of rfl hm), State.crossJob_hide m (.of rfl hm), State.refineJob_hide m (.of rfl hm), State.plausibilityJob_hide m (.of rfl hm), State.threshJob_hide m (.of rfl hm), State.strapJob_hide m (.of rfl hm), State.thermoJob_hide m (.of rfl hm), State.healthJob_hide m (.of rfl hm), State.currentAggJob_hide m (.of rfl hm), State.leadRJob_hide m (.of rfl hm), State.stepJob_hide m (.of rfl hm), State.slotPlanJob_hide m (.of rfl hm), State.stringJob_hide m (.of rfl hm)]; done) | (simp only [hide_ite, ite_self, implies_true, State.specJob_hide m (.of rfl hm), State.scaleJob_hide m (.of rfl hm), State.summaryJob_hide m (.of rfl hm), State.openWireJob_hide m (.of rfl hm), State.sumHarvest_hide m (.of rfl hm), State.patternJob_hide m (.of rfl hm), State.coherenceJob_hide m (.of rfl hm), State.powerLimitsJob_hide m (.of rfl hm), State.eventWriteJob_hide m (.of rfl hm), State.crossJob_hide m (.of rfl hm), State.refineJob_hide m (.of rfl hm), State.plausibilityJob_hide m (.of rfl hm), State.threshJob_hide m (.of rfl hm), State.strapJob_hide m (.of rfl hm), State.thermoJob_hide m (.of rfl hm), State.healthJob_hide m (.of rfl hm), State.currentAggJob_hide m (.of rfl hm), State.leadRJob_hide m (.of rfl hm), State.stepJob_hide m (.of rfl hm), State.slotPlanJob_hide m (.of rfl hm), State.stringJob_hide m (.of rfl hm)]; split) | split | (simp only [hide_ite, ite_self, implies_true, State.specJob_hide m (.of rfl hm), State.scaleJob_hide m (.of rfl hm), State.summaryJob_hide m (.of rfl hm), State.openWireJob_hide m (.of rfl hm), State.sumHarvest_hide m (.of rfl hm), State.patternJob_hide m (.of rfl hm), State.coherenceJob_hide m (.of rfl hm), State.powerLimitsJob_hide m (.of rfl hm), State.eventWriteJob_hide m (.of rfl hm), State.crossJob_hide m (.of rfl hm), State.refineJob_hide m (.of rfl hm), State.plausibilityJob_hide m (.of rfl hm), State.threshJob_hide m (.of rfl hm), State.strapJob_hide m (.of rfl hm), State.thermoJob_hide m (.of rfl hm), State.healthJob_hide m (.of rfl hm), State.currentAggJob_hide m (.of rfl hm), State.leadRJob_hide m (.of rfl hm), State.stepJob_hide m (.of rfl hm), State.slotPlanJob_hide m (.of rfl hm), State.stringJob_hide m (.of rfl hm)]; with_reducible refine (hide_foldl m _ _ _ fun x a => ?_).trans ?_) | with_reducible refine (hide_foldl m _ _ _ fun x a => ?_).trans ?_)

theorem State.canFrameRx_hide (m : Nat) (hm : Sub 14126415872 m) (x0 : State) (x1) (x2) (x3) (x4) (x5) : (State.canFrameRx x0 x1 x2 x3 x4 x5).hide m = x0.hide m := by
  unfold State.canFrameRx
  simp only [hide_ite, ite_self, State.readRing_hide m (.of rfl hm), State.modCan_hide m (.of rfl hm), State.settleBus_hide m (.of rfl hm)]

theorem runDiag_hide (m : Nat) (hm : Sub 33858663456 m) (x0) (x1) (x2) (x3 : State) : (runDiag x0 x1 x2 x3).hide m = x3.hide m := by
  unfold runDiag
  repeat' (first | (simp only [hide_ite, ite_self, implies_true, out_next, execDiagThermoCal_hide m (.of rfl hm), execDiagPowerTest_hide m (.of rfl hm), execDiagDieTemp_hide m (.of rfl hm), execDiagFaultClear_hide m (.of rfl hm), execDiagAbsorbedEvents_hide m (.of rfl hm), execDiagCurCal_hide m (.of rfl hm), execDiagCellReset_hide m (.of rfl hm), execDiagProtEvents_hide m (.of rfl hm)]; done) | (simp only [hide_ite, ite_self, implies_true, out_next, execDiagThermoCal_hide m (.of rfl hm), execDiagPowerTest_hide m (.of rfl hm), execDiagDieTemp_hide m (.of rfl hm), execDiagFaultClear_hide m (.of rfl hm), execDiagAbsorbedEvents_hide m (.of rfl hm), execDiagCurCal_hide m (.of rfl hm), execDiagCellReset_hide m (.of rfl hm), execDiagProtEvents_hide m (.of rfl hm)]; split) | split | (simp only [hide_ite, ite_self, implies_true, out_next, execDiagThermoCal_hide m (.of rfl hm), execDiagPowerTest_hide m (.of rfl hm), execDiagDieTemp_hide m (.of rfl hm), execDiagFaultClear_hide m (.of rfl hm), execDiagAbsorbedEvents_hide m (.of rfl hm), execDiagCurCal_hide m (.of rfl hm), execDiagCellReset_hide m (.of rfl hm), execDiagProtEvents_hide m (.of rfl hm)]; with_reducible refine (hide_foldl m _ _ _ fun x a => ?_).trans ?_) | with_reducible refine (hide_foldl m _ _ _ fun x a => ?_).trans ?_)

theorem State.panFails_hide (m : Nat) (hm : Sub 16141788036 m) (x0 : State) (x1) (x2) : (State.panFails x0 x1 x2).hide m = x0.hide m := by
  unfold State.panFails
  repeat' (first | (simp only [hide_ite, ite_self, implies_true, hide_foldl, State.modPan_hide m (.of rfl hm), State.modSlot_hide m (.of rfl hm), State.checkSpares_hide m (.of rfl hm), State.replace_hide m (.of rfl hm), upd_9 m (.of rfl hm)]; done) | (simp only [hide_ite, ite_self, implies_true, hide_foldl, State.modPan_hide m (.of rfl hm), State.modSlot_hide m (.of rfl hm), State.checkSpares_hide m (.of rfl hm), State.replace_hide m (.of rfl hm), upd_9 m (.of rfl hm)]; split) | split | (simp only [hide_ite, ite_self, implies_true, hide_foldl, State.modPan_hide m (.of rfl hm), State.modSlot_hide m (.of rfl hm), State.checkSpares_hide m (.of rfl hm), State.replace_hide m (.of rfl hm), upd_9 m (.of rfl hm)]; with_reducible refine (hide_foldl m _ _ _ fun x a => ?_).trans ?_) | with_reducible refine (hide_foldl m _ _ _ fun x a => ?_).trans ?_)

theorem State.powerBoundary_hide (m : Nat) (hm : Sub 1305302074371 m) (x0 : State) : (State.powerBoundary x0).hide m = x0.hide m := by
  unfold State.powerBoundary
  simp only [State.handshakeStep_hide m (.of rfl hm), State.recoveryBoundary_hide m (.of rfl hm), State.wakeBoundary_hide m (.of rfl hm), State.watchSettles_hide m (.of rfl hm)]

theorem State.pansUp_hide (m : Nat) (hm : Sub 16142312324 m) (x0 : State) : (State.pansUp x0).hide m = x0.hide m := by
  unfold State.pansUp
  simp only [hide_ite, ite_self, State.withdrawCause_hide m (.of rfl hm), State.assignRoles_hide m (.of rfl hm), State.wantSlices_hide m (.of rfl hm), State.ungatePans_hide m (.of rfl hm)]

theorem State.fitRoles_hide (m : Nat) (hm : Sub 16141788036 m) (x0 : State) : (State.fitRoles x0).hide m = x0.hide m := by
  unfold State.fitRoles
  repeat' (first | (simp only [hide_ite, ite_self, implies_true, hide_foldl, State.assignRoles_hide m (.of rfl hm), State.modSlot_hide m (.of rfl hm), State.toPool_hide m (.of rfl hm), upd_7_9 m (.of rfl hm)]; done) | (simp only [hide_ite, ite_self, implies_true, hide_foldl, State.assignRoles_hide m (.of rfl hm), State.modSlot_hide m (.of rfl hm), State.toPool_hide m (.of rfl hm), upd_7_9 m (.of rfl hm)]; split) | split | (simp only [hide_ite, ite_self, implies_true, hide_foldl, State.assignRoles_hide m (.of rfl hm), State.modSlot_hide m (.of rfl hm), State.toPool_hide m (.of rfl hm), upd_7_9 m (.of rfl hm)]; with_reducible refine (hide_foldl m _ _ _ fun x a => ?_).trans ?_) | with_reducible refine (hide_foldl m _ _ _ fun x a => ?_).trans ?_)

theorem State.laneWork_hide (m : Nat) (hm : Sub 33991791619 m) (x0 : State) : (State.laneWork x0).hide m = x0.hide m := by
  unfold State.laneWork
  simp only [State.flushNotices_hide m (.of rfl hm), State.readRing_hide m (.of rfl hm), State.flushTamper_hide m (.of rfl hm), State.canFilter_hide m (.of rfl hm), State.canConfigure_hide m (.of rfl hm), State.balBoundary_hide m (.of rfl hm), State.balReport_hide m (.of rfl hm), State.sweepBoundary_hide m (.of rfl hm), State.streamRecords_hide m (.of rfl hm), State.dieDemand_hide m (.of rfl hm), State.watchBoundary_hide m (.of rfl hm), State.swapBoundary_hide m (.of rfl hm), State.ringBoundary_hide m (.of rfl hm), upd_0_27_29 m (.of rfl hm)]

theorem execHarvestComplete_hide (m : Nat) (hm : Sub 50633637888 m) (x0) (x1) (x2 : State) : (outState x2 (execHarvestComplete x0 x1 x2)).hide m = x2.hide m := by
  unfold execHarvestComplete
  simp only [hide_ite, ite_self, out_next, State.harvest_hide m (.of rfl hm)]

theorem execTokenWatchdogExpire_hide (m : Nat) (hm : Sub 281491317719040 m) (x0 : State) : (outState x0 (execTokenWatchdogExpire x0)).hide m = x0.hide m := by
  unfold execTokenWatchdogExpire
  simp only [hide_ite, ite_self, out_next, State.laneFails_hide m (.of rfl hm)]

theorem State.eccErrors_hide (m : Nat) (hm : Sub 16141788036 m) (x0 : State) (x1) (x2) : (State.eccErrors x0 x1 x2).hide m = x0.hide m := by
  unfold State.eccErrors
  simp only [hide_ite, ite_self, State.modPan_hide m (.of rfl hm), State.panFails_hide m (.of rfl hm)]

theorem State.controlSample_hide (m : Nat) (hm : Sub 140788153516193 m) (x0 : State) (x1) (x2) (x3) (x4) (x5) : (State.controlSample x0 x1 x2 x3 x4 x5).hide m = x0.hide m := by
  unfold State.controlSample
  simp only [hide_ite, ite_self, State.managePhases_hide m (.of rfl hm), State.supervise_hide m (.of rfl hm), State.takeReadings_hide m (.of rfl hm), State.runLaw_hide m (.of rfl hm), State.safeStep_hide m (.of rfl hm), State.lawInputs_hide m (.of rfl hm), State.excStep_hide m (.of rfl hm), upd_5_24_27 m (.of rfl hm), upd_23 m (.of rfl hm)]

theorem execLaneHardFault_hide (m : Nat) (hm : Sub 281491317719040 m) (x0) (x1) (x2 : State) : (outState x2 (execLaneHardFault x0 x1 x2)).hide m = x2.hide m := by
  unfold execLaneHardFault
  simp only [hide_ite, ite_self, out_next, State.modLane_hide m (.of rfl hm), State.laneFails_hide m (.of rfl hm)]

theorem execAonPowerLoss_hide (m : Nat) (hm : Sub 456331683177348 m) (x0 : State) : (outState x0 (execAonPowerLoss x0)).hide m = x0.hide m := by
  unfold execAonPowerLoss
  simp only [hide_ite, ite_self, out_next, State.lanesDown_hide m (.of rfl hm), State.safetyOff_hide m (.of rfl hm), State.portsDown_hide m (.of rfl hm), State.convOff_hide m (.of rfl hm), State.gatePans_hide m (.of rfl hm), upd_25_27_29_40 m (.of rfl hm)]

theorem execReset_hide (m : Nat) (hm : Sub 530205122494463 m) (x0) (x1) (x2 : State) : (outState x2 (execReset x0 x1 x2)).hide m = x2.hide m := by
  unfold execReset
  simp only [hide_ite, ite_self, implies_true, out_next, runCmd_hide m (.of rfl hm), opReset_hide m (.of rfl hm), State.resetTail_hide m (.of rfl hm)]

theorem execControlSubperiod_hide (m : Nat) (hm : Sub 140788153516193 m) (x0) (x1) (x2) (x3) (x4) (x5 : State) : (outState x5 (execControlSubperiod x0 x1 x2 x3 x4 x5)).hide m = x5.hide m := by
  unfold execControlSubperiod
  simp only [hide_ite, ite_self, out_ite, out_next, out_fault, State.controlSample_hide m (.of rfl hm)]

theorem State.windowEnds_hide (m : Nat) (hm : Sub 35269233355174 m) (x0 : State) (x1) (x2) : (State.windowEnds x0 x1 x2).hide m = x0.hide m := by
  unfold State.windowEnds
  simp only [hide_ite, ite_self, State.closeWindow_hide m (.of rfl hm), State.offends_hide m (.of rfl hm), upd_11 m (.of rfl hm)]

theorem runOpcode_hide (m : Nat) (hm : Sub 244297739482147 m) (x0) (x1) (x2) (x3 : State) : (runOpcode x0 x1 x2 x3).hide m = x3.hide m := by
  unfold runOpcode
  repeat' (first | (simp only [hide_ite, ite_self, implies_true, out_next, execParamSet_hide m (.of rfl hm), execConvEnable_hide m (.of rfl hm), runCmd_hide m (.of rfl hm), opReset_hide m (.of rfl hm), execSnapshot_hide m (.of rfl hm), execEclipseSwap_hide m (.of rfl hm), execTableRead_hide m (.of rfl hm), execFwActivate_hide m (.of rfl hm), execRingEnumerate_hide m (.of rfl hm), execParamGet_hide m (.of rfl hm), execEisStart_hide m (.of rfl hm), execSafetyStatus_hide m (.of rfl hm), execBalStop_hide m (.of rfl hm), execStreamConfig_hide m (.of rfl hm), execIdentify_hide m (.of rfl hm), execWakeRecord_hide m (.of rfl hm), execConvFaultRecord_hide m (.of rfl hm), execDiscard_hide m (.of rfl hm), execTableWrite_hide m (.of rfl hm), execConvDisable_hide m (.of rfl hm), execBalPlan_hide m (.of rfl hm), execJournalRead_hide m (.of rfl hm), execSafetyReset_hide m (.of rfl hm), execPowerState_hide m (.of rfl hm), execReprovision_hide m (.of rfl hm), execMode_hide m (.of rfl hm), execAttest_hide m (.of rfl hm), execPing_hide m (.of rfl hm), execConvSetpoint_hide m (.of rfl hm), execEisAbort_hide m (.of rfl hm), execCommit_hide m (.of rfl hm), execRingStatus_hide m (.of rfl hm), runDiag_hide m (.of rfl hm), execHealth_hide m (.of rfl hm), execEisResult_hide m (.of rfl hm), execFwStage_hide m (.of rfl hm)]; done) | (simp only [hide_ite, ite_self, implies_true, out_next, execParamSet_hide m (.of rfl hm), execConvEnable_hide m (.of rfl hm), runCmd_hide m (.of rfl hm), opReset_hide m (.of rfl hm), execSnapshot_hide m (.of rfl hm), execEclipseSwap_hide m (.of rfl hm), execTableRead_hide m (.of rfl hm), execFwActivate_hide m (.of rfl hm), execRingEnumerate_hide m (.of rfl hm), execParamGet_hide m (.of rfl hm), execEisStart_hide m (.of rfl hm), execSafetyStatus_hide m (.of rfl hm), execBalStop_hide m (.of rfl hm), execStreamConfig_hide m (.of rfl hm), execIdentify_hide m (.of rfl hm), execWakeRecord_hide m (.of rfl hm), execConvFaultRecord_hide m (.of rfl hm), execDiscard_hide m (.of rfl hm), execTableWrite_hide m (.of rfl hm), execConvDisable_hide m (.of rfl hm), execBalPlan_hide m (.of rfl hm), execJournalRead_hide m (.of rfl hm), execSafetyReset_hide m (.of rfl hm), execPowerState_hide m (.of rfl hm), execReprovision_hide m (.of rfl hm), execMode_hide m (.of rfl hm), execAttest_hide m (.of rfl hm), execPing_hide m (.of rfl hm), execConvSetpoint_hide m (.of rfl hm), execEisAbort_hide m (.of rfl hm), execCommit_hide m (.of rfl hm), execRingStatus_hide m (.of rfl hm), runDiag_hide m (.of rfl hm), execHealth_hide m (.of rfl hm), execEisResult_hide m (.of rfl hm), execFwStage_hide m (.of rfl hm)]; split) | split | (simp only [hide_ite, ite_self, implies_true, out_next, execParamSet_hide m (.of rfl hm), execConvEnable_hide m (.of rfl hm), runCmd_hide m (.of rfl hm), opReset_hide m (.of rfl hm), execSnapshot_hide m (.of rfl hm), execEclipseSwap_hide m (.of rfl hm), execTableRead_hide m (.of rfl hm), execFwActivate_hide m (.of rfl hm), execRingEnumerate_hide m (.of rfl hm), execParamGet_hide m (.of rfl hm), execEisStart_hide m (.of rfl hm), execSafetyStatus_hide m (.of rfl hm), execBalStop_hide m (.of rfl hm), execStreamConfig_hide m (.of rfl hm), execIdentify_hide m (.of rfl hm), execWakeRecord_hide m (.of rfl hm), execConvFaultRecord_hide m (.of rfl hm), execDiscard_hide m (.of rfl hm), execTableWrite_hide m (.of rfl hm), execConvDisable_hide m (.of rfl hm), execBalPlan_hide m (.of rfl hm), execJournalRead_hide m (.of rfl hm), execSafetyReset_hide m (.of rfl hm), execPowerState_hide m (.of rfl hm), execReprovision_hide m (.of rfl hm), execMode_hide m (.of rfl hm), execAttest_hide m (.of rfl hm), execPing_hide m (.of rfl hm), execConvSetpoint_hide m (.of rfl hm), execEisAbort_hide m (.of rfl hm), execCommit_hide m (.of rfl hm), execRingStatus_hide m (.of rfl hm), runDiag_hide m (.of rfl hm), execHealth_hide m (.of rfl hm), execEisResult_hide m (.of rfl hm), execFwStage_hide m (.of rfl hm)]; with_reducible refine (hide_foldl m _ _ _ fun x a => ?_).trans ?_) | with_reducible refine (hide_foldl m _ _ _ fun x a => ?_).trans ?_)

theorem execPanHardFault_hide (m : Nat) (hm : Sub 16141788036 m) (x0) (x1) (x2 : State) : (outState x2 (execPanHardFault x0 x1 x2)).hide m = x2.hide m := by
  unfold execPanHardFault
  simp only [hide_ite, ite_self, out_ite, out_next, out_fault, State.panFails_hide m (.of rfl hm)]

theorem State.lateSet_hide (m : Nat) (hm : Sub 140788019241860 m) (x0 : State) (x1) : (State.lateSet x0 x1).hide m = x0.hide m := by
  unfold State.lateSet
  repeat' (first | (simp only [hide_ite, ite_self, implies_true, State.convStop_hide m (.of rfl hm), State.panFails_hide m (.of rfl hm)]; done) | (simp only [hide_ite, ite_self, implies_true, State.convStop_hide m (.of rfl hm), State.panFails_hide m (.of rfl hm)]; split) | split | (simp only [hide_ite, ite_self, implies_true, State.convStop_hide m (.of rfl hm), State.panFails_hide m (.of rfl hm)]; with_reducible refine (hide_foldl m _ _ _ fun x a => ?_).trans ?_) | with_reducible refine (hide_foldl m _ _ _ fun x a => ?_).trans ?_)

theorem State.entryAction_hide (m : Nat) (hm : Sub 455231634679718 m) (x0 : State) (x1) : (State.entryAction x0 x1).hide m = x0.hide m := by
  unfold State.entryAction
  repeat' (first | (simp only [hide_ite, ite_self, implies_true, State.lanesDown_hide m (.of rfl hm), State.safetyOff_hide m (.of rfl hm), State.portsDown_hide m (.of rfl hm), State.threshJob_hide m (.of rfl hm), State.convOff_hide m (.of rfl hm), State.gatesOff_hide m (.of rfl hm), State.gatePans_hide m (.of rfl hm), State.writeAll_hide m (.of rfl hm), upd_23 m (.of rfl hm), upd_1_5_25 m (.of rfl hm), upd_1 m (.of rfl hm), upd_1_5_23_25 m (.of rfl hm)]; done) | (simp only [hide_ite, ite_self, implies_true, State.lanesDown_hide m (.of rfl hm), State.safetyOff_hide m (.of rfl hm), State.portsDown_hide m (.of rfl hm), State.threshJob_hide m (.of rfl hm), State.convOff_hide m (.of rfl hm), State.gatesOff_hide m (.of rfl hm), State.gatePans_hide m (.of rfl hm), State.writeAll_hide m (.of rfl hm), upd_23 m (.of rfl hm), upd_1_5_25 m (.of rfl hm), upd_1 m (.of rfl hm), upd_1_5_23_25 m (.of rfl hm)]; split) | split | (simp only [hide_ite, ite_self, implies_true, State.lanesDown_hide m (.of rfl hm), State.safetyOff_hide m (.of rfl hm), State.portsDown_hide m (.of rfl hm), State.threshJob_hide m (.of rfl hm), State.convOff_hide m (.of rfl hm), State.gatesOff_hide m (.of rfl hm), State.gatePans_hide m (.of rfl hm), State.writeAll_hide m (.of rfl hm), upd_23 m (.of rfl hm), upd_1_5_25 m (.of rfl hm), upd_1 m (.of rfl hm), upd_1_5_23_25 m (.of rfl hm)]; with_reducible refine (hide_foldl m _ _ _ fun x a => ?_).trans ?_) | with_reducible refine (hide_foldl m _ _ _ fun x a => ?_).trans ?_)

theorem State.commitCells_hide (m : Nat) (hm : Sub 16143426438 m) (x0 : State) : (State.commitCells x0).hide m = x0.hide m := by
  unfold State.commitCells
  simp only [hide_ite, ite_self, implies_true, hide_foldl, State.startRelink_hide m (.of rfl hm), State.endSweep_hide m (.of rfl hm), State.modChan_hide m (.of rfl hm), State.balDrain_hide m (.of rfl hm), State.stopWatch_hide m (.of rfl hm), State.downOutputs_hide m (.of rfl hm), State.modFe_hide m (.of rfl hm), State.linksUp_hide m (.of rfl hm), State.wantSlice_hide m (.of rfl hm), State.fitRoles_hide m (.of rfl hm)]

theorem execCanFrameRx_hide (m : Nat) (hm : Sub 14126415872 m) (x0) (x1) (x2) (x3) (x4) (x5 : State) : (outState x5 (execCanFrameRx x0 x1 x2 x3 x4 x5)).hide m = x5.hide m := by
  unfold execCanFrameRx
  simp only [out_next, State.canFrameRx_hide m (.of rfl hm)]

theorem execComputeWindowEnd_hide (m : Nat) (hm : Sub 35269233355174 m) (x0) (x1) (x2 : State) : (outState x2 (execComputeWindowEnd x0 x1 x2)).hide m = x2.hide m := by
  unfold execComputeWindowEnd
  simp only [hide_ite, ite_self, out_ite, out_next, out_fault, State.windowEnds_hide m (.of rfl hm)]

theorem State.doStep_hide (m : Nat) (hm : Sub 456469122131879 m) (x0 : State) : (State.doStep x0).hide m = x0.hide m := by
  unfold State.doStep
  repeat' (first | (simp only [hide_ite, ite_self, implies_true, State.entryAction_hide m (.of rfl hm), State.settleEntry_hide m (.of rfl hm), upd_29 m (.of rfl hm)]; done) | (simp only [hide_ite, ite_self, implies_true, State.entryAction_hide m (.of rfl hm), State.settleEntry_hide m (.of rfl hm), upd_29 m (.of rfl hm)]; split) | split | (simp only [hide_ite, ite_self, implies_true, State.entryAction_hide m (.of rfl hm), State.settleEntry_hide m (.of rfl hm), upd_29 m (.of rfl hm)]; with_reducible refine (hide_foldl m _ _ _ fun x a => ?_).trans ?_) | with_reducible refine (hide_foldl m _ _ _ fun x a => ?_).trans ?_)

theorem State.jobDone_hide (m : Nat) (hm : Sub 50906005502 m) (x0 : State) (x1) (x2) (x3) (x4) : (State.jobDone x0 x1 x2 x3 x4).hide m = x0.hide m := by
  unfold State.jobDone
  simp only [hide_ite, ite_self, State.compare_hide m (.of rfl hm), State.eccErrors_hide m (.of rfl hm), State.absorb_hide m (.of rfl hm), State.modPan_hide m (.of rfl hm), State.shadowed_hide m (.of rfl hm), State.noteDone_hide m (.of rfl hm), State.jobFlags_hide m (.of rfl hm), State.runJob_hide m (.of rfl hm), State.holdJob_hide m (.of rfl hm)]

theorem execReturnStageReady_hide (m : Nat) (hm : Sub 531338725425151 m) (x0) (x1 : State) : (outState x1 (execReturnStageReady x0 x1)).hide m = x1.hide m := by
  unfold execReturnStageReady
  repeat' (first | (simp only [hide_ite, ite_self, implies_true, out_ite, out_next, out_fault, State.portsUp_hide m (.of rfl hm), State.settleReturn_hide m (.of rfl hm), State.toStage_hide m (.of rfl hm), State.lanesUp_hide m (.of rfl hm), State.pansUp_hide m (.of rfl hm)]; done) | (simp only [hide_ite, ite_self, implies_true, out_ite, out_next, out_fault, State.portsUp_hide m (.of rfl hm), State.settleReturn_hide m (.of rfl hm), State.toStage_hide m (.of rfl hm), State.lanesUp_hide m (.of rfl hm), State.pansUp_hide m (.of rfl hm)]; split) | split | (simp only [hide_ite, ite_self, implies_true, out_ite, out_next, out_fault, State.portsUp_hide m (.of rfl hm), State.settleReturn_hide m (.of rfl hm), State.toStage_hide m (.of rfl hm), State.lanesUp_hide m (.of rfl hm), State.pansUp_hide m (.of rfl hm)]; with_reducible refine (hide_foldl m _ _ _ fun x a => ?_).trans ?_) | with_reducible refine (hide_foldl m _ _ _ fun x a => ?_).trans ?_)

theorem State.runPacket_hide (m : Nat) (hm : Sub 244297739482147 m) (x0 : State) (x1) : (State.runPacket x0 x1).hide m = x0.hide m := by
  unfold State.runPacket
  repeat' (first | (simp only [hide_ite, ite_self, implies_true, runOpcode_hide m (.of rfl hm)]; done) | (simp only [hide_ite, ite_self, implies_true, runOpcode_hide m (.of rfl hm)]; split) | split | (simp only [hide_ite, ite_self, implies_true, runOpcode_hide m (.of rfl hm)]; with_reducible refine (hide_foldl m _ _ _ fun x a => ?_).trans ?_) | with_reducible refine (hide_foldl m _ _ _ fun x a => ?_).trans ?_)

theorem execEntryForced_hide (m : Nat) (hm : Sub 456469123245991 m) (x0 : State) : (outState x0 (execEntryForced x0)).hide m = x0.hide m := by
  unfold execEntryForced
  simp only [hide_ite, ite_self, implies_true, out_next, hide_foldl, State.absorb_hide m (.of rfl hm), State.doStep_hide m (.of rfl hm), State.settleEntry_hide m (.of rfl hm), upd_16_20 m (.of rfl hm)]

theorem execPanJobComplete_hide (m : Nat) (hm : Sub 50906005502 m) (x0) (x1) (x2) (x3 : State) : (outState x3 (execPanJobComplete x0 x1 x2 x3)).hide m = x3.hide m := by
  unfold execPanJobComplete
  repeat' (first | (simp only [hide_ite, ite_self, implies_true, out_ite, out_next, out_fault, State.jobDone_hide m (.of rfl hm)]; done) | (simp only [hide_ite, ite_self, implies_true, out_ite, out_next, out_fault, State.jobDone_hide m (.of rfl hm)]; split) | split | (simp only [hide_ite, ite_self, implies_true, out_ite, out_next, out_fault, State.jobDone_hide m (.of rfl hm)]; with_reducible refine (hide_foldl m _ _ _ fun x a => ?_).trans ?_) | with_reducible refine (hide_foldl m _ _ _ fun x a => ?_).trans ?_)

theorem State.controlOutput_hide (m : Nat) (hm : Sub 140856873001860 m) (x0 : State) (x1) (x2) (x3) (x4) (x5) (x6) : (State.controlOutput x0 x1 x2 x3 x4 x5 x6).hide m = x0.hide m := by
  unfold State.controlOutput
  simp only [hide_ite, ite_self, State.startOutput_hide m (.of rfl hm), State.eisLimited_hide m (.of rfl hm), State.takeLawSet_hide m (.of rfl hm), State.checkpoint_hide m (.of rfl hm), State.lateSet_hide m (.of rfl hm), State.countSets_hide m (.of rfl hm), State.lostAnchors_hide m (.of rfl hm), State.takePhaseSet_hide m (.of rfl hm), State.compareAnchor_hide m (.of rfl hm), upd_24 m (.of rfl hm)]

theorem execEntryStepComplete_hide (m : Nat) (hm : Sub 456469122131879 m) (x0 : State) : (outState x0 (execEntryStepComplete x0)).hide m = x0.hide m := by
  unfold execEntryStepComplete
  repeat' (first | (simp only [hide_ite, ite_self, implies_true, out_ite, out_next, out_fault, State.doStep_hide m (.of rfl hm)]; done) | (simp only [hide_ite, ite_self, implies_true, out_ite, out_next, out_fault, State.doStep_hide m (.of rfl hm)]; split) | split | (simp only [hide_ite, ite_self, implies_true, out_ite, out_next, out_fault, State.doStep_hide m (.of rfl hm)]; with_reducible refine (hide_foldl m _ _ _ fun x a => ?_).trans ?_) | with_reducible refine (hide_foldl m _ _ _ fun x a => ?_).trans ?_)

theorem State.applyCommit_hide (m : Nat) (hm : Sub 30820051547047 m) (x0 : State) : (State.applyCommit x0).hide m = x0.hide m := by
  unfold State.applyCommit
  simp only [implies_true, State.commitPosition_hide m (.of rfl hm), State.endSweep_hide m (.of rfl hm), State.evalThermal_hide m (.of rfl hm), State.stopWatch_hide m (.of rfl hm), State.canConfigure_hide m (.of rfl hm), State.commitEclipse_hide m (.of rfl hm), State.loadSafetySet_hide m (.of rfl hm), State.commitCells_hide m (.of rfl hm), State.commitPolicy_hide m (.of rfl hm), State.commitCfe_hide m (.of rfl hm), State.applyEstMode_hide m (.of rfl hm), State.initCells_hide m (.of rfl hm), State.owOpenCause_hide m (.of rfl hm), State.commitProtection_hide m (.of rfl hm), State.commitStep_hide m (.of rfl hm), State.trimStreams_hide m (.of rfl hm), upd_0 m (.of rfl hm), upd_25 m (.of rfl hm)]

theorem State.runDue_hide (m : Nat) (hm : Sub 244297739482147 m) (x0 : State) (x1) : (State.runDue x0 x1).hide m = x0.hide m := by
  unfold State.runDue
  simp only [implies_true, hide_foldl, State.runLatchDue_hide m (.of rfl hm), State.runPacket_hide m (.of rfl hm), upd_27 m (.of rfl hm)]

theorem execControlOutput_hide (m : Nat) (hm : Sub 140856873001860 m) (x0) (x1) (x2) (x3) (x4) (x5) (x6 : State) : (outState x6 (execControlOutput x0 x1 x2 x3 x4 x5 x6)).hide m = x6.hide m := by
  unfold execControlOutput
  simp only [hide_ite, ite_self, out_next, State.controlOutput_hide m (.of rfl hm)]

theorem State.lanePart_hide (m : Nat) (hm : Sub 245122373253055 m) (x0 : State) : (State.lanePart x0).hide m = x0.hide m := by
  unfold State.lanePart
  simp only [State.reportPower_hide m (.of rfl hm), State.flushNotices_hide m (.of rfl hm), State.movesAndSlices_hide m (.of rfl hm), State.convBoundary_hide m (.of rfl hm), State.applyOutputs_hide m (.of rfl hm), State.applyCommit_hide m (.of rfl hm), State.checkVerify_hide m (.of rfl hm), State.runDue_hide m (.of rfl hm), State.reprovSteps_hide m (.of rfl hm), State.contactorMode_hide m (.of rfl hm), State.balReachesOff_hide m (.of rfl hm), upd_31 m (.of rfl hm)]

theorem State.stepsOf_hide (m : Nat) (hm : Sub 280306745343999 m) (x0) (x1) (x2 : State) : (State.stepsOf x0 x1 x2).hide m = x2.hide m := by
  unfold State.stepsOf
  simp only [hide_ite, ite_self, State.takeSlices_hide m (.of rfl hm), State.lanePart_hide m (.of rfl hm), State.windowWork_hide m (.of rfl hm), State.anchoredMoves_hide m (.of rfl hm), State.holdUndone_hide m (.of rfl hm), State.startWindow_hide m (.of rfl hm), State.sendMirror_hide m (.of rfl hm), State.takeDecision_hide m (.of rfl hm), State.laneWork_hide m (.of rfl hm)]

theorem State.replay_hide (m : Nat) (hm : Sub 245122373253055 m) (x0 : State) : (State.replay x0).hide m = x0.hide m := by
  unfold State.replay
  simp only [implies_true, hide_foldl, State.asOf_hide m (.of rfl hm), State.lanePart_hide m (.of rfl hm), State.skipRecords_hide m (.of rfl hm), State.dieDemand_hide m (.of rfl hm), State.freshBoundary_hide m (.of rfl hm), upd_31 m (.of rfl hm)]

theorem State.gapEnds_hide (m : Nat) (hm : Sub 245122373253055 m) (x0 : State) : (State.gapEnds x0).hide m = x0.hide m := by
  unfold State.gapEnds
  simp only [hide_ite, ite_self, State.replay_hide m (.of rfl hm), upd_27 m (.of rfl hm)]

theorem State.boundaryBody_hide (m : Nat) (hm : Sub 281406256971775 m) (x0) (x1 : State) : (State.boundaryBody x0 x1).hide m = x1.hide m := by
  unfold State.boundaryBody
  simp only [State.stepsOf_hide m (.of rfl hm), State.gapEnds_hide m (.of rfl hm), State.powerBoundary_hide m (.of rfl hm), State.freshBoundary_hide m (.of rfl hm)]

theorem State.boundary_hide (m : Nat) (hm : Sub 562949953159167 m) (x0 : State) (x1) : (State.boundary x0 x1).hide m = x0.hide m := by
  unfold State.boundary
  simp only [hide_ite, ite_self, implies_true, State.closeWindow_hide m (.of rfl hm), State.asOf_hide m (.of rfl hm), State.boundaryBody_hide m (.of rfl hm), State.resetTail_hide m (.of rfl hm), upd_11 m (.of rfl hm)]

theorem execFrameBoundary_hide (m : Nat) (hm : Sub 562949953159167 m) (x0) (x1 : State) : (outState x1 (execFrameBoundary x0 x1)).hide m = x1.hide m := by
  unfold execFrameBoundary
  simp only [out_next, State.boundary_hide m (.of rfl hm)]





end Sys2Proof.Machine
end

