-- ==== Sys2Proof/Laws/Parts.lean ====
section
/-!
SUPPORT. From `hide` to the parts of the statements: a definition with a frame lemma leaves each part that its mask does not
hold as it was.
-/

namespace Sys2Proof.Machine

/-- The bit by which `hide` names a part. -/
def Part.bit : Part → Nat
  | .grid => 0
  | .fe => 1
  | .chan => 2
  | .tap => 3
  | .ow => 4
  | .cfe => 5
  | .branch => 6
  | .pan => 7
  | .slot => 8
  | .sluice => 9
  | .nvm => 10
  | .sched => 11
  | .gov => 12
  | .est => 13
  | .estMod => 14
  | .str => 15
  | .eis => 16
  | .thermo => 17
  | .ntc => 18
  | .tbl => 19
  | .bal => 20
  | .prot => 21
  | .phase => 22
  | .conv => 23
  | .law => 24
  | .ring => 25
  | .lane => 26
  | .lanes => 27
  | .safe => 28
  | .power => 29
  | .port => 30
  | .ploza => 31
  | .can => 32
  | .spi => 33
  | .sec => 34
  | .free => 35
  | .ckpt => 36

/-- All parts, in order. -/
def allParts : List Part :=
  [.grid, .fe, .chan, .tap, .ow, .cfe, .branch, .pan, .slot, .sluice, .nvm, .sched, .gov, .est, .estMod, .str, .eis,
   .thermo, .ntc, .tbl, .bal, .prot, .phase, .conv, .law, .ring, .lane, .lanes, .safe, .power, .port, .ploza, .can,
   .spi, .sec, .free, .ckpt]

theorem mem_allParts (p : Part) : p ∈ allParts := by cases p <;> decide

/-- Two states that agree once `m` is hidden agree in each part that `m` does not hold. -/
theorem same_of_hide {m : Nat} {s t : State} {p : Part} (h : t.hide m = s.hide m) (hp : m.testBit p.bit = false) : p.same s t := by
  cases p with
  | grid => have := congrArg State.grid h; simp only [Part.bit] at hp; simpa [State.hide, hp, Part.same] using this
  | fe => have := congrArg State.fe h; simp only [Part.bit] at hp; simpa [State.hide, hp, Part.same] using this
  | chan => have := congrArg State.chan h; simp only [Part.bit] at hp; simpa [State.hide, hp, Part.same] using this
  | tap => have := congrArg State.tap h; simp only [Part.bit] at hp; simpa [State.hide, hp, Part.same] using this
  | ow => have := congrArg State.ow h; simp only [Part.bit] at hp; simpa [State.hide, hp, Part.same] using this
  | cfe => have := congrArg State.cfe h; simp only [Part.bit] at hp; simpa [State.hide, hp, Part.same] using this
  | branch => have := congrArg State.branch h; simp only [Part.bit] at hp; simpa [State.hide, hp, Part.same] using this
  | pan => have := congrArg State.pan h; simp only [Part.bit] at hp; simpa [State.hide, hp, Part.same] using this
  | slot => have := congrArg State.slot h; simp only [Part.bit] at hp; simpa [State.hide, hp, Part.same] using this
  | sluice => have := congrArg State.sluice h; simp only [Part.bit] at hp; simpa [State.hide, hp, Part.same] using this
  | nvm => have := congrArg State.nvm h; simp only [Part.bit] at hp; simpa [State.hide, hp, Part.same] using this
  | sched => have := congrArg State.sched h; simp only [Part.bit] at hp; simpa [State.hide, hp, Part.same] using this
  | gov => have := congrArg State.gov h; simp only [Part.bit] at hp; simpa [State.hide, hp, Part.same] using this
  | est => have := congrArg State.est h; simp only [Part.bit] at hp; simpa [State.hide, hp, Part.same] using this
  | estMod => have := congrArg State.estMod h; simp only [Part.bit] at hp; simpa [State.hide, hp, Part.same] using this
  | str => have := congrArg State.str h; simp only [Part.bit] at hp; simpa [State.hide, hp, Part.same] using this
  | eis => have := congrArg State.eis h; simp only [Part.bit] at hp; simpa [State.hide, hp, Part.same] using this
  | thermo => have := congrArg State.thermo h; simp only [Part.bit] at hp; simpa [State.hide, hp, Part.same] using this
  | ntc => have := congrArg State.ntc h; simp only [Part.bit] at hp; simpa [State.hide, hp, Part.same] using this
  | tbl => have := congrArg State.tbl h; simp only [Part.bit] at hp; simpa [State.hide, hp, Part.same] using this
  | bal => have := congrArg State.bal h; simp only [Part.bit] at hp; simpa [State.hide, hp, Part.same] using this
  | prot => have := congrArg State.prot h; simp only [Part.bit] at hp; simpa [State.hide, hp, Part.same] using this
  | phase => have := congrArg State.phase h; simp only [Part.bit] at hp; simpa [State.hide, hp, Part.same] using this
  | conv => have := congrArg State.conv h; simp only [Part.bit] at hp; simpa [State.hide, hp, Part.same] using this
  | law => have := congrArg State.law h; simp only [Part.bit] at hp; simpa [State.hide, hp, Part.same] using this
  | ring => have := congrArg State.ring h; simp only [Part.bit] at hp; simpa [State.hide, hp, Part.same] using this
  | lane => have := congrArg State.lane h; simp only [Part.bit] at hp; simpa [State.hide, hp, Part.same] using this
  | lanes => have := congrArg State.lanes h; simp only [Part.bit] at hp; simpa [State.hide, hp, Part.same] using this
  | safe => have := congrArg State.safe h; simp only [Part.bit] at hp; simpa [State.hide, hp, Part.same] using this
  | power => have := congrArg State.power h; simp only [Part.bit] at hp; simpa [State.hide, hp, Part.same] using this
  | port => have := congrArg State.port h; simp only [Part.bit] at hp; simpa [State.hide, hp, Part.same] using this
  | ploza => have := congrArg State.ploza h; simp only [Part.bit] at hp; simpa [State.hide, hp, Part.same] using this
  | can => have := congrArg State.can h; simp only [Part.bit] at hp; simpa [State.hide, hp, Part.same] using this
  | spi => have := congrArg State.spi h; simp only [Part.bit] at hp; simpa [State.hide, hp, Part.same] using this
  | sec => have := congrArg State.sec h; simp only [Part.bit] at hp; simpa [State.hide, hp, Part.same] using this
  | free => have := congrArg State.free h; simp only [Part.bit] at hp; simpa [State.hide, hp, Part.same] using this
  | ckpt => have := congrArg State.ckpt h; simp only [Part.bit] at hp; simpa [State.hide, hp, Part.same] using this

/-- The state of an outcome that is a next state. -/
theorem outState_of_next {s t : State} {o : Host.Outcome State Fault Refusal} (h : o = .next t) : outState s o = t := by
  rw [h]; rfl

/-- A mask and a list of parts that together hold every part. -/
theorem bit_of_not_mem {l : List Part} {m : Nat} (h : allParts.all (fun p => l.contains p || !(m.testBit p.bit)) = true) {p : Part}
    (hp : p ∉ l) : m.testBit p.bit = false := by
  have := List.all_eq_true.1 h p (mem_allParts p)
  simpa [hp] using this

end Sys2Proof.Machine
end

