-- ==== Sys2Proof/Laws/Answers.lean ====
section
/-!
SUPPORT. What the shared operations over opcode commands do: the checks before one executes, what its answer records, bytes
and their CRC, the staged set.
-/

namespace Sys2Proof.Machine

/-! ### Bytes -/

theorem toLe_length (n v : Nat) : (toLe n v).length = n := by
  induction n generalizing v with
  | zero => rfl
  | succ n ih => simp [toLe, ih]

theorem leNat_toLe (n v : Nat) : leNat (toLe n v) = v % 256 ^ n := by
  induction n generalizing v with
  | zero => simp [toLe, leNat, Nat.mod_one]
  | succ n ih =>
    simp only [toLe, leNat, ih, BitVec.toNat_ofNat]
    have : v % 256 ^ (n + 1) = v % 256 + 256 * (v / 256 % 256 ^ n) := by rw [Nat.pow_succ', Nat.mod_mul]
    rw [this]

theorem toLe_one_byte (b : Byte) : toLe 1 b.toNat = [b] := by
  simp [toLe]

theorem crcGood_append (body : List Byte) (v : Nat) :
    crcGood body.length (body ++ toLe 4 v) = (v % 256 ^ 4 == (crc32c body).toNat) := by
  unfold crcGood getU
  rw [List.drop_left, List.take_of_length_le (by rw [toLe_length]), leNat_toLe, List.take_left]

/-! ### Opcode commands -/

theorem runCmd_of_executes {op : Byte} {f : Hdr → List Byte → State → Ans} {h : Hdr} {p : List Byte} {s : State}
    (he : s.executes op h p) : runCmd op f h p s = s.finish op h p (f h p s) := by
  obtain ⟨a, b, c, d, e⟩ := he
  unfold runCmd
  rw [a, b, c, d, e]; rfl

theorem runCmd_not_executed (op : Byte) (f : Hdr → List Byte → State → Ans) (h : Hdr) (p : List Byte) (s : State) :
    (s.lanes.protOnly = true ∨ s.portsOn = false → runCmd op f h p s = s) ∧
    (s.lanes.protOnly = false → s.portsOn = true →
      (lengthOk op.toNat p = false → s.takes h.target = true →
        runCmd op f h p s = s.sendReply h.port (s.replyPacket op h.seq .badLength [])) ∧
      (lengthOk op.toNat p = false → s.takes h.target = false → runCmd op f h p s = s) ∧
      (lengthOk op.toNat p = true → h.target = 0xFF → bankOpcode op = false → runCmd op f h p s = s) ∧
      ∀ e, lengthOk op.toNat p = true → (h.target = 0xFF → bankOpcode op = true) → s.duplicateOf op h p = some e →
        runCmd op f h p s = s.answer h e.reply) := by
  refine ⟨fun a => ?_, fun a b => ⟨fun c d => ?_, fun c d => ?_, fun c d e => ?_, fun e c d g => ?_⟩⟩
  · unfold runCmd; rcases a with a | a <;> simp [a]
  · unfold runCmd; simp [a, b, c, d]
  · unfold runCmd; simp [a, b, c, d]
  · unfold runCmd; simp [a, b, c, d, e]
  · unfold runCmd; simp only [a, b, c, g]
    by_cases ht : h.target = 0xFF
    · simp [ht, d ht]
    · have hb : (h.target == 0xFF) = false := beq_false_of_ne ht
      rw [hb]; rfl

theorem settle_not_applied (s : State) (port : Port) (st : Status) (hst : st.applied = false) :
    s.settle port { st := st, s := s } = { st := st, s := s } := by
  unfold State.settle
  have : s.replyTooLong port 0 = false := by unfold State.replyTooLong; simp
  simp [hst, this]

theorem answer_ploza (s : State) (h : Hdr) (r : List Byte) : (s.answer h r).ploza = s.ploza :=
  same_of_hide (p := .ploza) (State.answer_hide 13992198144 rfl s h r) rfl

/-! ### The staged set -/

theorem find_filter_of_imp {α : Type} (q r : α → Bool) (l : List α) (h : ∀ x, q x = true → r x = true) :
    (l.filter r).find? q = l.find? q := by
  rw [List.find?_filter]
  congr 1; funext x
  cases hq : q x <;> simp [hq]
  exact h x hq

theorem find_filter_of_not {α : Type} (q r : α → Bool) (l : List α) (h : ∀ x, q x = true → r x = false) :
    (l.filter r).find? q = none := by
  rw [List.find?_filter]
  apply List.find?_eq_none.2
  intro x _
  cases hq : q x <;> simp
  exact h x hq

theorem stagedVal_stage (s : State) (id : Nat) (v : List Int) (w : Port) (i : Nat) :
    (s.stage id v w).stagedVal i = if i = id then some v else s.stagedVal i := by
  unfold State.stage State.stagedVal
  dsimp only
  rw [List.find?_append, List.find?_cons, List.filter_filter, List.filter_filter]
  by_cases hi : i = id
  · subst hi
    rw [find_filter_of_not]
    · simp
    · intro x; simp; intro e; omega
  · rw [if_neg hi]
    have e : (id == i) = false := by simpa using fun e => hi e.symm
    simp only [e]
    rcases Nat.lt_or_ge i id with h | h
    · rw [find_filter_of_imp (fun v : StagedVal => v.id == i)]
      · rw [find_filter_of_not (fun v : StagedVal => v.id == i)]
        · simp
        · intro x; simp; intro e; omega
      · intro x; simp; intro e; omega
    · rw [find_filter_of_not (fun v : StagedVal => v.id == i)]
      · rw [find_filter_of_imp (fun v : StagedVal => v.id == i)]
        · simp
        · intro x; simp; intro e; omega
      · intro x; simp; intro e; omega

end Sys2Proof.Machine
end

