-- ==== Sys2Proof/Laws/State.lean ====
section
/-!
SUPPORT. State as data: what each updater of one unit leaves, one lemma per part; a unit read back after its update; a free
value's draw.
-/

namespace Sys2Proof.Machine

/-! ### Lists -/

theorem getD_modify {α : Type} (l : List α) (k : Nat) (f : α → α) (d : α) (h : k < l.length) :
    (l.modify k f).getD k d = f (l.getD k d) := by
  simp [List.getD, h]

theorem getD_modify_ne {α : Type} (l : List α) (k j : Nat) (f : α → α) (d : α) (h : k ≠ j) :
    (l.modify k f).getD j d = l.getD j d := by
  simp [List.getD, h]

/-- A part that every step of a fold keeps is kept by the fold. -/
theorem foldl_keeps {α β : Type} (f : State → α → State) (g : State → β) (h : ∀ s a, g (f s a) = g s) :
    ∀ (l : List α) (s : State), g (l.foldl f s) = g s := by
  intro l
  induction l with
  | nil => intro s; rfl
  | cons a l ih => intro s; rw [List.foldl_cons, ih, h]

theorem ite_same {β : Type} (g : State → β) (c : Prop) [Decidable c] (a b : State) (x : β) (ha : g a = x) (hb : g b = x) :
    g (if c then a else b) = x := by split <;> assumption

theorem ite_both {α : Type} (P : α → Prop) (c : Prop) [Decidable c] (a b : α) (ha : P a) (hb : P b) :
    P (if c then a else b) := by split <;> assumption

/-! ### Units read back -/


theorem State.feAt_modFe (s : State) (k : Nat) (f) (h : k - 1 < s.fe.length) : (s.modFe k f).feAt k = f (s.feAt k) :=
  getD_modify _ _ _ _ h

theorem State.feAt_congr {s t : State} (h : s.fe = t.fe) (k : Nat) : s.feAt k = t.feAt k := by
  unfold State.feAt; rw [h]

theorem State.chanAt_modChan (s : State) (n : Nat) (f) (h : n - 1 < s.chan.length) : (s.modChan n f).chanAt n = f (s.chanAt n) :=
  getD_modify _ _ _ _ h

theorem State.chanAt_congr {s t : State} (h : s.chan = t.chan) (n : Nat) : s.chanAt n = t.chanAt n := by
  unfold State.chanAt; rw [h]

theorem State.tapAt_modTap (s : State) (i : Nat) (f) (h : i < s.tap.length) : (s.modTap i f).tapAt i = f (s.tapAt i) :=
  getD_modify _ _ _ _ h

theorem State.tapAt_congr {s t : State} (h : s.tap = t.tap) (i : Nat) : s.tapAt i = t.tapAt i := by
  unfold State.tapAt; rw [h]

theorem State.panAt_modPan (s : State) (p : Nat) (f) (h : p < s.pan.length) : (s.modPan p f).panAt p = f (s.panAt p) :=
  getD_modify _ _ _ _ h

theorem State.panAt_congr {s t : State} (h : s.pan = t.pan) (p : Nat) : s.panAt p = t.panAt p := by
  unfold State.panAt; rw [h]

theorem State.slotAt_modSlot (s : State) (k : Nat) (f) (h : k < s.slot.length) : (s.modSlot k f).slotAt k = f (s.slotAt k) :=
  getD_modify _ _ _ _ h

theorem State.slotAt_congr {s t : State} (h : s.slot = t.slot) (k : Nat) : s.slotAt k = t.slotAt k := by
  unfold State.slotAt; rw [h]

theorem State.estAt_modEst (s : State) (n : Nat) (f) (h : n - 1 < s.est.length) : (s.modEst n f).estAt n = f (s.estAt n) :=
  getD_modify _ _ _ _ h

theorem State.estAt_congr {s t : State} (h : s.est = t.est) (n : Nat) : s.estAt n = t.estAt n := by
  unfold State.estAt; rw [h]

theorem State.thermoAt_modThermo (s : State) (n : Nat) (f) (h : n - 1 < s.thermo.length) : (s.modThermo n f).thermoAt n = f (s.thermoAt n) :=
  getD_modify _ _ _ _ h

theorem State.thermoAt_congr {s t : State} (h : s.thermo = t.thermo) (n : Nat) : s.thermoAt n = t.thermoAt n := by
  unfold State.thermoAt; rw [h]

theorem State.phaseAt_modPhase (s : State) (j : Nat) (f) (h : j - 1 < s.phase.length) : (s.modPhase j f).phaseAt j = f (s.phaseAt j) :=
  getD_modify _ _ _ _ h

theorem State.phaseAt_congr {s t : State} (h : s.phase = t.phase) (j : Nat) : s.phaseAt j = t.phaseAt j := by
  unfold State.phaseAt; rw [h]

theorem State.branchAt_modBranch (s : State) (b : Nat) (f) (h : b < s.branch.length) : (s.modBranch b f).branchAt b = f (s.branchAt b) :=
  getD_modify _ _ _ _ h

theorem State.branchAt_congr {s t : State} (h : s.branch = t.branch) (b : Nat) : s.branchAt b = t.branchAt b := by
  unfold State.branchAt; rw [h]

theorem State.laneAt_modLane (s : State) (b : Bool) (f) (h : s.lane.length = 2) : (s.modLane b f).laneAt b = f (s.laneAt b) :=
  getD_modify _ _ _ _ (by rw [h]; cases b <;> decide)

theorem State.laneAt_modLane_other (s : State) (b : Bool) (f) : (s.modLane b f).laneAt (!b) = s.laneAt (!b) :=
  getD_modify_ne _ _ _ _ _ (by cases b <;> decide)

theorem State.length_modLane (s : State) (b : Bool) (f) : (s.modLane b f).lane.length = s.lane.length :=
  List.length_modify _ _ _

theorem State.laneAt_congr {s t : State} (h : s.lane = t.lane) (b : Bool) : s.laneAt b = t.laneAt b := by
  unfold State.laneAt; rw [h]

theorem State.canAt_modCan (s : State) (b : Bool) (f) (h : s.can.length = 2) : (s.modCan b f).canAt b = f (s.canAt b) :=
  getD_modify _ _ _ _ (by rw [h]; cases b <;> decide)

theorem State.canAt_modCan_other (s : State) (b : Bool) (f) : (s.modCan b f).canAt (!b) = s.canAt (!b) :=
  getD_modify_ne _ _ _ _ _ (by cases b <;> decide)

theorem State.length_modCan (s : State) (b : Bool) (f) : (s.modCan b f).can.length = s.can.length :=
  List.length_modify _ _ _

theorem State.canAt_congr {s t : State} (h : s.can = t.can) (b : Bool) : s.canAt b = t.canAt b := by
  unfold State.canAt; rw [h]

/-! ### What an update leaves -/

@[simp] theorem State.modPort_grid (s : State) (k f) : (s.modPort k f).grid = s.grid := rfl
@[simp] theorem State.modPort_fe (s : State) (k f) : (s.modPort k f).fe = s.fe := rfl
@[simp] theorem State.modPort_chan (s : State) (k f) : (s.modPort k f).chan = s.chan := rfl
@[simp] theorem State.modPort_tap (s : State) (k f) : (s.modPort k f).tap = s.tap := rfl
@[simp] theorem State.modPort_ow (s : State) (k f) : (s.modPort k f).ow = s.ow := rfl
@[simp] theorem State.modPort_cfe (s : State) (k f) : (s.modPort k f).cfe = s.cfe := rfl
@[simp] theorem State.modPort_branch (s : State) (k f) : (s.modPort k f).branch = s.branch := rfl
@[simp] theorem State.modPort_pan (s : State) (k f) : (s.modPort k f).pan = s.pan := rfl
@[simp] theorem State.modPort_slot (s : State) (k f) : (s.modPort k f).slot = s.slot := rfl
@[simp] theorem State.modPort_sluice (s : State) (k f) : (s.modPort k f).sluice = s.sluice := rfl
@[simp] theorem State.modPort_nvm (s : State) (k f) : (s.modPort k f).nvm = s.nvm := rfl
@[simp] theorem State.modPort_sched (s : State) (k f) : (s.modPort k f).sched = s.sched := rfl
@[simp] theorem State.modPort_gov (s : State) (k f) : (s.modPort k f).gov = s.gov := rfl
@[simp] theorem State.modPort_est (s : State) (k f) : (s.modPort k f).est = s.est := rfl
@[simp] theorem State.modPort_estMod (s : State) (k f) : (s.modPort k f).estMod = s.estMod := rfl
@[simp] theorem State.modPort_str (s : State) (k f) : (s.modPort k f).str = s.str := rfl
@[simp] theorem State.modPort_eis (s : State) (k f) : (s.modPort k f).eis = s.eis := rfl
@[simp] theorem State.modPort_thermo (s : State) (k f) : (s.modPort k f).thermo = s.thermo := rfl
@[simp] theorem State.modPort_ntc (s : State) (k f) : (s.modPort k f).ntc = s.ntc := rfl
@[simp] theorem State.modPort_tbl (s : State) (k f) : (s.modPort k f).tbl = s.tbl := rfl
@[simp] theorem State.modPort_bal (s : State) (k f) : (s.modPort k f).bal = s.bal := rfl
@[simp] theorem State.modPort_prot (s : State) (k f) : (s.modPort k f).prot = s.prot := rfl
@[simp] theorem State.modPort_phase (s : State) (k f) : (s.modPort k f).phase = s.phase := rfl
@[simp] theorem State.modPort_conv (s : State) (k f) : (s.modPort k f).conv = s.conv := rfl
@[simp] theorem State.modPort_law (s : State) (k f) : (s.modPort k f).law = s.law := rfl
@[simp] theorem State.modPort_ring (s : State) (k f) : (s.modPort k f).ring = s.ring := rfl
@[simp] theorem State.modPort_lane (s : State) (k f) : (s.modPort k f).lane = s.lane := rfl
@[simp] theorem State.modPort_lanes (s : State) (k f) : (s.modPort k f).lanes = s.lanes := rfl
@[simp] theorem State.modPort_safe (s : State) (k f) : (s.modPort k f).safe = s.safe := rfl
@[simp] theorem State.modPort_power (s : State) (k f) : (s.modPort k f).power = s.power := rfl
@[simp] theorem State.modPort_ploza (s : State) (k f) : (s.modPort k f).ploza = s.ploza := rfl
@[simp] theorem State.modPort_can (s : State) (k f) : (s.modPort k f).can = s.can := rfl
@[simp] theorem State.modPort_spi (s : State) (k f) : (s.modPort k f).spi = s.spi := rfl
@[simp] theorem State.modPort_sec (s : State) (k f) : (s.modPort k f).sec = s.sec := rfl
@[simp] theorem State.modPort_free (s : State) (k f) : (s.modPort k f).free = s.free := rfl
@[simp] theorem State.modPan_grid (s : State) (k f) : (s.modPan k f).grid = s.grid := rfl
@[simp] theorem State.modPan_fe (s : State) (k f) : (s.modPan k f).fe = s.fe := rfl
@[simp] theorem State.modPan_chan (s : State) (k f) : (s.modPan k f).chan = s.chan := rfl
@[simp] theorem State.modPan_tap (s : State) (k f) : (s.modPan k f).tap = s.tap := rfl
@[simp] theorem State.modPan_ow (s : State) (k f) : (s.modPan k f).ow = s.ow := rfl
@[simp] theorem State.modPan_cfe (s : State) (k f) : (s.modPan k f).cfe = s.cfe := rfl
@[simp] theorem State.modPan_branch (s : State) (k f) : (s.modPan k f).branch = s.branch := rfl
@[simp] theorem State.modPan_slot (s : State) (k f) : (s.modPan k f).slot = s.slot := rfl
@[simp] theorem State.modPan_sluice (s : State) (k f) : (s.modPan k f).sluice = s.sluice := rfl
@[simp] theorem State.modPan_nvm (s : State) (k f) : (s.modPan k f).nvm = s.nvm := rfl
@[simp] theorem State.modPan_sched (s : State) (k f) : (s.modPan k f).sched = s.sched := rfl
@[simp] theorem State.modPan_gov (s : State) (k f) : (s.modPan k f).gov = s.gov := rfl
@[simp] theorem State.modPan_est (s : State) (k f) : (s.modPan k f).est = s.est := rfl
@[simp] theorem State.modPan_estMod (s : State) (k f) : (s.modPan k f).estMod = s.estMod := rfl
@[simp] theorem State.modPan_str (s : State) (k f) : (s.modPan k f).str = s.str := rfl
@[simp] theorem State.modPan_eis (s : State) (k f) : (s.modPan k f).eis = s.eis := rfl
@[simp] theorem State.modPan_thermo (s : State) (k f) : (s.modPan k f).thermo = s.thermo := rfl
@[simp] theorem State.modPan_ntc (s : State) (k f) : (s.modPan k f).ntc = s.ntc := rfl
@[simp] theorem State.modPan_tbl (s : State) (k f) : (s.modPan k f).tbl = s.tbl := rfl
@[simp] theorem State.modPan_bal (s : State) (k f) : (s.modPan k f).bal = s.bal := rfl
@[simp] theorem State.modPan_prot (s : State) (k f) : (s.modPan k f).prot = s.prot := rfl
@[simp] theorem State.modPan_phase (s : State) (k f) : (s.modPan k f).phase = s.phase := rfl
@[simp] theorem State.modPan_conv (s : State) (k f) : (s.modPan k f).conv = s.conv := rfl
@[simp] theorem State.modPan_law (s : State) (k f) : (s.modPan k f).law = s.law := rfl
@[simp] theorem State.modPan_ring (s : State) (k f) : (s.modPan k f).ring = s.ring := rfl
@[simp] theorem State.modPan_lane (s : State) (k f) : (s.modPan k f).lane = s.lane := rfl
@[simp] theorem State.modPan_lanes (s : State) (k f) : (s.modPan k f).lanes = s.lanes := rfl
@[simp] theorem State.modPan_safe (s : State) (k f) : (s.modPan k f).safe = s.safe := rfl
@[simp] theorem State.modPan_power (s : State) (k f) : (s.modPan k f).power = s.power := rfl
@[simp] theorem State.modPan_port (s : State) (k f) : (s.modPan k f).port = s.port := rfl
@[simp] theorem State.modPan_ploza (s : State) (k f) : (s.modPan k f).ploza = s.ploza := rfl
@[simp] theorem State.modPan_can (s : State) (k f) : (s.modPan k f).can = s.can := rfl
@[simp] theorem State.modPan_spi (s : State) (k f) : (s.modPan k f).spi = s.spi := rfl
@[simp] theorem State.modPan_sec (s : State) (k f) : (s.modPan k f).sec = s.sec := rfl
@[simp] theorem State.modPan_free (s : State) (k f) : (s.modPan k f).free = s.free := rfl
@[simp] theorem State.modChan_grid (s : State) (k f) : (s.modChan k f).grid = s.grid := rfl
@[simp] theorem State.modChan_fe (s : State) (k f) : (s.modChan k f).fe = s.fe := rfl
@[simp] theorem State.modChan_tap (s : State) (k f) : (s.modChan k f).tap = s.tap := rfl
@[simp] theorem State.modChan_ow (s : State) (k f) : (s.modChan k f).ow = s.ow := rfl
@[simp] theorem State.modChan_cfe (s : State) (k f) : (s.modChan k f).cfe = s.cfe := rfl
@[simp] theorem State.modChan_branch (s : State) (k f) : (s.modChan k f).branch = s.branch := rfl
@[simp] theorem State.modChan_pan (s : State) (k f) : (s.modChan k f).pan = s.pan := rfl
@[simp] theorem State.modChan_slot (s : State) (k f) : (s.modChan k f).slot = s.slot := rfl
@[simp] theorem State.modChan_sluice (s : State) (k f) : (s.modChan k f).sluice = s.sluice := rfl
@[simp] theorem State.modChan_nvm (s : State) (k f) : (s.modChan k f).nvm = s.nvm := rfl
@[simp] theorem State.modChan_sched (s : State) (k f) : (s.modChan k f).sched = s.sched := rfl
@[simp] theorem State.modChan_gov (s : State) (k f) : (s.modChan k f).gov = s.gov := rfl
@[simp] theorem State.modChan_est (s : State) (k f) : (s.modChan k f).est = s.est := rfl
@[simp] theorem State.modChan_estMod (s : State) (k f) : (s.modChan k f).estMod = s.estMod := rfl
@[simp] theorem State.modChan_str (s : State) (k f) : (s.modChan k f).str = s.str := rfl
@[simp] theorem State.modChan_eis (s : State) (k f) : (s.modChan k f).eis = s.eis := rfl
@[simp] theorem State.modChan_thermo (s : State) (k f) : (s.modChan k f).thermo = s.thermo := rfl
@[simp] theorem State.modChan_ntc (s : State) (k f) : (s.modChan k f).ntc = s.ntc := rfl
@[simp] theorem State.modChan_tbl (s : State) (k f) : (s.modChan k f).tbl = s.tbl := rfl
@[simp] theorem State.modChan_bal (s : State) (k f) : (s.modChan k f).bal = s.bal := rfl
@[simp] theorem State.modChan_prot (s : State) (k f) : (s.modChan k f).prot = s.prot := rfl
@[simp] theorem State.modChan_phase (s : State) (k f) : (s.modChan k f).phase = s.phase := rfl
@[simp] theorem State.modChan_conv (s : State) (k f) : (s.modChan k f).conv = s.conv := rfl
@[simp] theorem State.modChan_law (s : State) (k f) : (s.modChan k f).law = s.law := rfl
@[simp] theorem State.modChan_ring (s : State) (k f) : (s.modChan k f).ring = s.ring := rfl
@[simp] theorem State.modChan_lane (s : State) (k f) : (s.modChan k f).lane = s.lane := rfl
@[simp] theorem State.modChan_lanes (s : State) (k f) : (s.modChan k f).lanes = s.lanes := rfl
@[simp] theorem State.modChan_safe (s : State) (k f) : (s.modChan k f).safe = s.safe := rfl
@[simp] theorem State.modChan_power (s : State) (k f) : (s.modChan k f).power = s.power := rfl
@[simp] theorem State.modChan_port (s : State) (k f) : (s.modChan k f).port = s.port := rfl
@[simp] theorem State.modChan_ploza (s : State) (k f) : (s.modChan k f).ploza = s.ploza := rfl
@[simp] theorem State.modChan_can (s : State) (k f) : (s.modChan k f).can = s.can := rfl
@[simp] theorem State.modChan_spi (s : State) (k f) : (s.modChan k f).spi = s.spi := rfl
@[simp] theorem State.modChan_sec (s : State) (k f) : (s.modChan k f).sec = s.sec := rfl
@[simp] theorem State.modChan_free (s : State) (k f) : (s.modChan k f).free = s.free := rfl
@[simp] theorem State.modBranch_grid (s : State) (k f) : (s.modBranch k f).grid = s.grid := rfl
@[simp] theorem State.modBranch_fe (s : State) (k f) : (s.modBranch k f).fe = s.fe := rfl
@[simp] theorem State.modBranch_chan (s : State) (k f) : (s.modBranch k f).chan = s.chan := rfl
@[simp] theorem State.modBranch_tap (s : State) (k f) : (s.modBranch k f).tap = s.tap := rfl
@[simp] theorem State.modBranch_ow (s : State) (k f) : (s.modBranch k f).ow = s.ow := rfl
@[simp] theorem State.modBranch_cfe (s : State) (k f) : (s.modBranch k f).cfe = s.cfe := rfl
@[simp] theorem State.modBranch_pan (s : State) (k f) : (s.modBranch k f).pan = s.pan := rfl
@[simp] theorem State.modBranch_slot (s : State) (k f) : (s.modBranch k f).slot = s.slot := rfl
@[simp] theorem State.modBranch_sluice (s : State) (k f) : (s.modBranch k f).sluice = s.sluice := rfl
@[simp] theorem State.modBranch_nvm (s : State) (k f) : (s.modBranch k f).nvm = s.nvm := rfl
@[simp] theorem State.modBranch_sched (s : State) (k f) : (s.modBranch k f).sched = s.sched := rfl
@[simp] theorem State.modBranch_gov (s : State) (k f) : (s.modBranch k f).gov = s.gov := rfl
@[simp] theorem State.modBranch_est (s : State) (k f) : (s.modBranch k f).est = s.est := rfl
@[simp] theorem State.modBranch_estMod (s : State) (k f) : (s.modBranch k f).estMod = s.estMod := rfl
@[simp] theorem State.modBranch_str (s : State) (k f) : (s.modBranch k f).str = s.str := rfl
@[simp] theorem State.modBranch_eis (s : State) (k f) : (s.modBranch k f).eis = s.eis := rfl
@[simp] theorem State.modBranch_thermo (s : State) (k f) : (s.modBranch k f).thermo = s.thermo := rfl
@[simp] theorem State.modBranch_ntc (s : State) (k f) : (s.modBranch k f).ntc = s.ntc := rfl
@[simp] theorem State.modBranch_tbl (s : State) (k f) : (s.modBranch k f).tbl = s.tbl := rfl
@[simp] theorem State.modBranch_bal (s : State) (k f) : (s.modBranch k f).bal = s.bal := rfl
@[simp] theorem State.modBranch_prot (s : State) (k f) : (s.modBranch k f).prot = s.prot := rfl
@[simp] theorem State.modBranch_phase (s : State) (k f) : (s.modBranch k f).phase = s.phase := rfl
@[simp] theorem State.modBranch_conv (s : State) (k f) : (s.modBranch k f).conv = s.conv := rfl
@[simp] theorem State.modBranch_law (s : State) (k f) : (s.modBranch k f).law = s.law := rfl
@[simp] theorem State.modBranch_ring (s : State) (k f) : (s.modBranch k f).ring = s.ring := rfl
@[simp] theorem State.modBranch_lane (s : State) (k f) : (s.modBranch k f).lane = s.lane := rfl
@[simp] theorem State.modBranch_lanes (s : State) (k f) : (s.modBranch k f).lanes = s.lanes := rfl
@[simp] theorem State.modBranch_safe (s : State) (k f) : (s.modBranch k f).safe = s.safe := rfl
@[simp] theorem State.modBranch_power (s : State) (k f) : (s.modBranch k f).power = s.power := rfl
@[simp] theorem State.modBranch_port (s : State) (k f) : (s.modBranch k f).port = s.port := rfl
@[simp] theorem State.modBranch_ploza (s : State) (k f) : (s.modBranch k f).ploza = s.ploza := rfl
@[simp] theorem State.modBranch_can (s : State) (k f) : (s.modBranch k f).can = s.can := rfl
@[simp] theorem State.modBranch_spi (s : State) (k f) : (s.modBranch k f).spi = s.spi := rfl
@[simp] theorem State.modBranch_sec (s : State) (k f) : (s.modBranch k f).sec = s.sec := rfl
@[simp] theorem State.modBranch_free (s : State) (k f) : (s.modBranch k f).free = s.free := rfl
@[simp] theorem State.modCan_grid (s : State) (k f) : (s.modCan k f).grid = s.grid := rfl
@[simp] theorem State.modCan_fe (s : State) (k f) : (s.modCan k f).fe = s.fe := rfl
@[simp] theorem State.modCan_chan (s : State) (k f) : (s.modCan k f).chan = s.chan := rfl
@[simp] theorem State.modCan_tap (s : State) (k f) : (s.modCan k f).tap = s.tap := rfl
@[simp] theorem State.modCan_ow (s : State) (k f) : (s.modCan k f).ow = s.ow := rfl
@[simp] theorem State.modCan_cfe (s : State) (k f) : (s.modCan k f).cfe = s.cfe := rfl
@[simp] theorem State.modCan_branch (s : State) (k f) : (s.modCan k f).branch = s.branch := rfl
@[simp] theorem State.modCan_pan (s : State) (k f) : (s.modCan k f).pan = s.pan := rfl
@[simp] theorem State.modCan_slot (s : State) (k f) : (s.modCan k f).slot = s.slot := rfl
@[simp] theorem State.modCan_sluice (s : State) (k f) : (s.modCan k f).sluice = s.sluice := rfl
@[simp] theorem State.modCan_nvm (s : State) (k f) : (s.modCan k f).nvm = s.nvm := rfl
@[simp] theorem State.modCan_sched (s : State) (k f) : (s.modCan k f).sched = s.sched := rfl
@[simp] theorem State.modCan_gov (s : State) (k f) : (s.modCan k f).gov = s.gov := rfl
@[simp] theorem State.modCan_est (s : State) (k f) : (s.modCan k f).est = s.est := rfl
@[simp] theorem State.modCan_estMod (s : State) (k f) : (s.modCan k f).estMod = s.estMod := rfl
@[simp] theorem State.modCan_str (s : State) (k f) : (s.modCan k f).str = s.str := rfl
@[simp] theorem State.modCan_eis (s : State) (k f) : (s.modCan k f).eis = s.eis := rfl
@[simp] theorem State.modCan_thermo (s : State) (k f) : (s.modCan k f).thermo = s.thermo := rfl
@[simp] theorem State.modCan_ntc (s : State) (k f) : (s.modCan k f).ntc = s.ntc := rfl
@[simp] theorem State.modCan_tbl (s : State) (k f) : (s.modCan k f).tbl = s.tbl := rfl
@[simp] theorem State.modCan_bal (s : State) (k f) : (s.modCan k f).bal = s.bal := rfl
@[simp] theorem State.modCan_prot (s : State) (k f) : (s.modCan k f).prot = s.prot := rfl
@[simp] theorem State.modCan_phase (s : State) (k f) : (s.modCan k f).phase = s.phase := rfl
@[simp] theorem State.modCan_conv (s : State) (k f) : (s.modCan k f).conv = s.conv := rfl
@[simp] theorem State.modCan_law (s : State) (k f) : (s.modCan k f).law = s.law := rfl
@[simp] theorem State.modCan_ring (s : State) (k f) : (s.modCan k f).ring = s.ring := rfl
@[simp] theorem State.modCan_lane (s : State) (k f) : (s.modCan k f).lane = s.lane := rfl
@[simp] theorem State.modCan_lanes (s : State) (k f) : (s.modCan k f).lanes = s.lanes := rfl
@[simp] theorem State.modCan_safe (s : State) (k f) : (s.modCan k f).safe = s.safe := rfl
@[simp] theorem State.modCan_power (s : State) (k f) : (s.modCan k f).power = s.power := rfl
@[simp] theorem State.modCan_port (s : State) (k f) : (s.modCan k f).port = s.port := rfl
@[simp] theorem State.modCan_ploza (s : State) (k f) : (s.modCan k f).ploza = s.ploza := rfl
@[simp] theorem State.modCan_spi (s : State) (k f) : (s.modCan k f).spi = s.spi := rfl
@[simp] theorem State.modCan_sec (s : State) (k f) : (s.modCan k f).sec = s.sec := rfl
@[simp] theorem State.modCan_free (s : State) (k f) : (s.modCan k f).free = s.free := rfl
@[simp] theorem State.modThermo_grid (s : State) (k f) : (s.modThermo k f).grid = s.grid := rfl
@[simp] theorem State.modThermo_fe (s : State) (k f) : (s.modThermo k f).fe = s.fe := rfl
@[simp] theorem State.modThermo_chan (s : State) (k f) : (s.modThermo k f).chan = s.chan := rfl
@[simp] theorem State.modThermo_tap (s : State) (k f) : (s.modThermo k f).tap = s.tap := rfl
@[simp] theorem State.modThermo_ow (s : State) (k f) : (s.modThermo k f).ow = s.ow := rfl
@[simp] theorem State.modThermo_cfe (s : State) (k f) : (s.modThermo k f).cfe = s.cfe := rfl
@[simp] theorem State.modThermo_branch (s : State) (k f) : (s.modThermo k f).branch = s.branch := rfl
@[simp] theorem State.modThermo_pan (s : State) (k f) : (s.modThermo k f).pan = s.pan := rfl
@[simp] theorem State.modThermo_slot (s : State) (k f) : (s.modThermo k f).slot = s.slot := rfl
@[simp] theorem State.modThermo_sluice (s : State) (k f) : (s.modThermo k f).sluice = s.sluice := rfl
@[simp] theorem State.modThermo_nvm (s : State) (k f) : (s.modThermo k f).nvm = s.nvm := rfl
@[simp] theorem State.modThermo_sched (s : State) (k f) : (s.modThermo k f).sched = s.sched := rfl
@[simp] theorem State.modThermo_gov (s : State) (k f) : (s.modThermo k f).gov = s.gov := rfl
@[simp] theorem State.modThermo_est (s : State) (k f) : (s.modThermo k f).est = s.est := rfl
@[simp] theorem State.modThermo_estMod (s : State) (k f) : (s.modThermo k f).estMod = s.estMod := rfl
@[simp] theorem State.modThermo_str (s : State) (k f) : (s.modThermo k f).str = s.str := rfl
@[simp] theorem State.modThermo_eis (s : State) (k f) : (s.modThermo k f).eis = s.eis := rfl
@[simp] theorem State.modThermo_ntc (s : State) (k f) : (s.modThermo k f).ntc = s.ntc := rfl
@[simp] theorem State.modThermo_tbl (s : State) (k f) : (s.modThermo k f).tbl = s.tbl := rfl
@[simp] theorem State.modThermo_bal (s : State) (k f) : (s.modThermo k f).bal = s.bal := rfl
@[simp] theorem State.modThermo_prot (s : State) (k f) : (s.modThermo k f).prot = s.prot := rfl
@[simp] theorem State.modThermo_phase (s : State) (k f) : (s.modThermo k f).phase = s.phase := rfl
@[simp] theorem State.modThermo_conv (s : State) (k f) : (s.modThermo k f).conv = s.conv := rfl
@[simp] theorem State.modThermo_law (s : State) (k f) : (s.modThermo k f).law = s.law := rfl
@[simp] theorem State.modThermo_ring (s : State) (k f) : (s.modThermo k f).ring = s.ring := rfl
@[simp] theorem State.modThermo_lane (s : State) (k f) : (s.modThermo k f).lane = s.lane := rfl
@[simp] theorem State.modThermo_lanes (s : State) (k f) : (s.modThermo k f).lanes = s.lanes := rfl
@[simp] theorem State.modThermo_safe (s : State) (k f) : (s.modThermo k f).safe = s.safe := rfl
@[simp] theorem State.modThermo_power (s : State) (k f) : (s.modThermo k f).power = s.power := rfl
@[simp] theorem State.modThermo_port (s : State) (k f) : (s.modThermo k f).port = s.port := rfl
@[simp] theorem State.modThermo_ploza (s : State) (k f) : (s.modThermo k f).ploza = s.ploza := rfl
@[simp] theorem State.modThermo_can (s : State) (k f) : (s.modThermo k f).can = s.can := rfl
@[simp] theorem State.modThermo_spi (s : State) (k f) : (s.modThermo k f).spi = s.spi := rfl
@[simp] theorem State.modThermo_sec (s : State) (k f) : (s.modThermo k f).sec = s.sec := rfl
@[simp] theorem State.modThermo_free (s : State) (k f) : (s.modThermo k f).free = s.free := rfl
@[simp] theorem State.modStaged_grid (s : State) (f) : (s.modStaged f).grid = s.grid := rfl
@[simp] theorem State.modStaged_fe (s : State) (f) : (s.modStaged f).fe = s.fe := rfl
@[simp] theorem State.modStaged_chan (s : State) (f) : (s.modStaged f).chan = s.chan := rfl
@[simp] theorem State.modStaged_tap (s : State) (f) : (s.modStaged f).tap = s.tap := rfl
@[simp] theorem State.modStaged_ow (s : State) (f) : (s.modStaged f).ow = s.ow := rfl
@[simp] theorem State.modStaged_cfe (s : State) (f) : (s.modStaged f).cfe = s.cfe := rfl
@[simp] theorem State.modStaged_branch (s : State) (f) : (s.modStaged f).branch = s.branch := rfl
@[simp] theorem State.modStaged_pan (s : State) (f) : (s.modStaged f).pan = s.pan := rfl
@[simp] theorem State.modStaged_slot (s : State) (f) : (s.modStaged f).slot = s.slot := rfl
@[simp] theorem State.modStaged_sluice (s : State) (f) : (s.modStaged f).sluice = s.sluice := rfl
@[simp] theorem State.modStaged_nvm (s : State) (f) : (s.modStaged f).nvm = s.nvm := rfl
@[simp] theorem State.modStaged_sched (s : State) (f) : (s.modStaged f).sched = s.sched := rfl
@[simp] theorem State.modStaged_gov (s : State) (f) : (s.modStaged f).gov = s.gov := rfl
@[simp] theorem State.modStaged_est (s : State) (f) : (s.modStaged f).est = s.est := rfl
@[simp] theorem State.modStaged_estMod (s : State) (f) : (s.modStaged f).estMod = s.estMod := rfl
@[simp] theorem State.modStaged_str (s : State) (f) : (s.modStaged f).str = s.str := rfl
@[simp] theorem State.modStaged_eis (s : State) (f) : (s.modStaged f).eis = s.eis := rfl
@[simp] theorem State.modStaged_thermo (s : State) (f) : (s.modStaged f).thermo = s.thermo := rfl
@[simp] theorem State.modStaged_ntc (s : State) (f) : (s.modStaged f).ntc = s.ntc := rfl
@[simp] theorem State.modStaged_bal (s : State) (f) : (s.modStaged f).bal = s.bal := rfl
@[simp] theorem State.modStaged_prot (s : State) (f) : (s.modStaged f).prot = s.prot := rfl
@[simp] theorem State.modStaged_phase (s : State) (f) : (s.modStaged f).phase = s.phase := rfl
@[simp] theorem State.modStaged_conv (s : State) (f) : (s.modStaged f).conv = s.conv := rfl
@[simp] theorem State.modStaged_law (s : State) (f) : (s.modStaged f).law = s.law := rfl
@[simp] theorem State.modStaged_ring (s : State) (f) : (s.modStaged f).ring = s.ring := rfl
@[simp] theorem State.modStaged_lane (s : State) (f) : (s.modStaged f).lane = s.lane := rfl
@[simp] theorem State.modStaged_lanes (s : State) (f) : (s.modStaged f).lanes = s.lanes := rfl
@[simp] theorem State.modStaged_safe (s : State) (f) : (s.modStaged f).safe = s.safe := rfl
@[simp] theorem State.modStaged_power (s : State) (f) : (s.modStaged f).power = s.power := rfl
@[simp] theorem State.modStaged_port (s : State) (f) : (s.modStaged f).port = s.port := rfl
@[simp] theorem State.modStaged_ploza (s : State) (f) : (s.modStaged f).ploza = s.ploza := rfl
@[simp] theorem State.modStaged_can (s : State) (f) : (s.modStaged f).can = s.can := rfl
@[simp] theorem State.modStaged_spi (s : State) (f) : (s.modStaged f).spi = s.spi := rfl
@[simp] theorem State.modStaged_sec (s : State) (f) : (s.modStaged f).sec = s.sec := rfl
@[simp] theorem State.modStaged_free (s : State) (f) : (s.modStaged f).free = s.free := rfl
@[simp] theorem State.modLane_grid (s : State) (k f) : (s.modLane k f).grid = s.grid := rfl
@[simp] theorem State.modLane_fe (s : State) (k f) : (s.modLane k f).fe = s.fe := rfl
@[simp] theorem State.modLane_chan (s : State) (k f) : (s.modLane k f).chan = s.chan := rfl
@[simp] theorem State.modLane_tap (s : State) (k f) : (s.modLane k f).tap = s.tap := rfl
@[simp] theorem State.modLane_ow (s : State) (k f) : (s.modLane k f).ow = s.ow := rfl
@[simp] theorem State.modLane_cfe (s : State) (k f) : (s.modLane k f).cfe = s.cfe := rfl
@[simp] theorem State.modLane_branch (s : State) (k f) : (s.modLane k f).branch = s.branch := rfl
@[simp] theorem State.modLane_pan (s : State) (k f) : (s.modLane k f).pan = s.pan := rfl
@[simp] theorem State.modLane_slot (s : State) (k f) : (s.modLane k f).slot = s.slot := rfl
@[simp] theorem State.modLane_sluice (s : State) (k f) : (s.modLane k f).sluice = s.sluice := rfl
@[simp] theorem State.modLane_nvm (s : State) (k f) : (s.modLane k f).nvm = s.nvm := rfl
@[simp] theorem State.modLane_sched (s : State) (k f) : (s.modLane k f).sched = s.sched := rfl
@[simp] theorem State.modLane_gov (s : State) (k f) : (s.modLane k f).gov = s.gov := rfl
@[simp] theorem State.modLane_est (s : State) (k f) : (s.modLane k f).est = s.est := rfl
@[simp] theorem State.modLane_estMod (s : State) (k f) : (s.modLane k f).estMod = s.estMod := rfl
@[simp] theorem State.modLane_str (s : State) (k f) : (s.modLane k f).str = s.str := rfl
@[simp] theorem State.modLane_eis (s : State) (k f) : (s.modLane k f).eis = s.eis := rfl
@[simp] theorem State.modLane_thermo (s : State) (k f) : (s.modLane k f).thermo = s.thermo := rfl
@[simp] theorem State.modLane_ntc (s : State) (k f) : (s.modLane k f).ntc = s.ntc := rfl
@[simp] theorem State.modLane_tbl (s : State) (k f) : (s.modLane k f).tbl = s.tbl := rfl
@[simp] theorem State.modLane_bal (s : State) (k f) : (s.modLane k f).bal = s.bal := rfl
@[simp] theorem State.modLane_prot (s : State) (k f) : (s.modLane k f).prot = s.prot := rfl
@[simp] theorem State.modLane_phase (s : State) (k f) : (s.modLane k f).phase = s.phase := rfl
@[simp] theorem State.modLane_conv (s : State) (k f) : (s.modLane k f).conv = s.conv := rfl
@[simp] theorem State.modLane_law (s : State) (k f) : (s.modLane k f).law = s.law := rfl
@[simp] theorem State.modLane_ring (s : State) (k f) : (s.modLane k f).ring = s.ring := rfl
@[simp] theorem State.modLane_lanes (s : State) (k f) : (s.modLane k f).lanes = s.lanes := rfl
@[simp] theorem State.modLane_safe (s : State) (k f) : (s.modLane k f).safe = s.safe := rfl
@[simp] theorem State.modLane_power (s : State) (k f) : (s.modLane k f).power = s.power := rfl
@[simp] theorem State.modLane_port (s : State) (k f) : (s.modLane k f).port = s.port := rfl
@[simp] theorem State.modLane_ploza (s : State) (k f) : (s.modLane k f).ploza = s.ploza := rfl
@[simp] theorem State.modLane_can (s : State) (k f) : (s.modLane k f).can = s.can := rfl
@[simp] theorem State.modLane_spi (s : State) (k f) : (s.modLane k f).spi = s.spi := rfl
@[simp] theorem State.modLane_sec (s : State) (k f) : (s.modLane k f).sec = s.sec := rfl
@[simp] theorem State.modLane_free (s : State) (k f) : (s.modLane k f).free = s.free := rfl
@[simp] theorem State.modSlot_grid (s : State) (k f) : (s.modSlot k f).grid = s.grid := rfl
@[simp] theorem State.modSlot_fe (s : State) (k f) : (s.modSlot k f).fe = s.fe := rfl
@[simp] theorem State.modSlot_chan (s : State) (k f) : (s.modSlot k f).chan = s.chan := rfl
@[simp] theorem State.modSlot_tap (s : State) (k f) : (s.modSlot k f).tap = s.tap := rfl
@[simp] theorem State.modSlot_ow (s : State) (k f) : (s.modSlot k f).ow = s.ow := rfl
@[simp] theorem State.modSlot_cfe (s : State) (k f) : (s.modSlot k f).cfe = s.cfe := rfl
@[simp] theorem State.modSlot_branch (s : State) (k f) : (s.modSlot k f).branch = s.branch := rfl
@[simp] theorem State.modSlot_pan (s : State) (k f) : (s.modSlot k f).pan = s.pan := rfl
@[simp] theorem State.modSlot_sluice (s : State) (k f) : (s.modSlot k f).sluice = s.sluice := rfl
@[simp] theorem State.modSlot_nvm (s : State) (k f) : (s.modSlot k f).nvm = s.nvm := rfl
@[simp] theorem State.modSlot_sched (s : State) (k f) : (s.modSlot k f).sched = s.sched := rfl
@[simp] theorem State.modSlot_gov (s : State) (k f) : (s.modSlot k f).gov = s.gov := rfl
@[simp] theorem State.modSlot_est (s : State) (k f) : (s.modSlot k f).est = s.est := rfl
@[simp] theorem State.modSlot_estMod (s : State) (k f) : (s.modSlot k f).estMod = s.estMod := rfl
@[simp] theorem State.modSlot_str (s : State) (k f) : (s.modSlot k f).str = s.str := rfl
@[simp] theorem State.modSlot_eis (s : State) (k f) : (s.modSlot k f).eis = s.eis := rfl
@[simp] theorem State.modSlot_thermo (s : State) (k f) : (s.modSlot k f).thermo = s.thermo := rfl
@[simp] theorem State.modSlot_ntc (s : State) (k f) : (s.modSlot k f).ntc = s.ntc := rfl
@[simp] theorem State.modSlot_tbl (s : State) (k f) : (s.modSlot k f).tbl = s.tbl := rfl
@[simp] theorem State.modSlot_bal (s : State) (k f) : (s.modSlot k f).bal = s.bal := rfl
@[simp] theorem State.modSlot_prot (s : State) (k f) : (s.modSlot k f).prot = s.prot := rfl
@[simp] theorem State.modSlot_phase (s : State) (k f) : (s.modSlot k f).phase = s.phase := rfl
@[simp] theorem State.modSlot_conv (s : State) (k f) : (s.modSlot k f).conv = s.conv := rfl
@[simp] theorem State.modSlot_law (s : State) (k f) : (s.modSlot k f).law = s.law := rfl
@[simp] theorem State.modSlot_ring (s : State) (k f) : (s.modSlot k f).ring = s.ring := rfl
@[simp] theorem State.modSlot_lane (s : State) (k f) : (s.modSlot k f).lane = s.lane := rfl
@[simp] theorem State.modSlot_lanes (s : State) (k f) : (s.modSlot k f).lanes = s.lanes := rfl
@[simp] theorem State.modSlot_safe (s : State) (k f) : (s.modSlot k f).safe = s.safe := rfl
@[simp] theorem State.modSlot_power (s : State) (k f) : (s.modSlot k f).power = s.power := rfl
@[simp] theorem State.modSlot_port (s : State) (k f) : (s.modSlot k f).port = s.port := rfl
@[simp] theorem State.modSlot_ploza (s : State) (k f) : (s.modSlot k f).ploza = s.ploza := rfl
@[simp] theorem State.modSlot_can (s : State) (k f) : (s.modSlot k f).can = s.can := rfl
@[simp] theorem State.modSlot_spi (s : State) (k f) : (s.modSlot k f).spi = s.spi := rfl
@[simp] theorem State.modSlot_sec (s : State) (k f) : (s.modSlot k f).sec = s.sec := rfl
@[simp] theorem State.modSlot_free (s : State) (k f) : (s.modSlot k f).free = s.free := rfl
@[simp] theorem State.modEst_grid (s : State) (k f) : (s.modEst k f).grid = s.grid := rfl
@[simp] theorem State.modEst_fe (s : State) (k f) : (s.modEst k f).fe = s.fe := rfl
@[simp] theorem State.modEst_chan (s : State) (k f) : (s.modEst k f).chan = s.chan := rfl
@[simp] theorem State.modEst_tap (s : State) (k f) : (s.modEst k f).tap = s.tap := rfl
@[simp] theorem State.modEst_ow (s : State) (k f) : (s.modEst k f).ow = s.ow := rfl
@[simp] theorem State.modEst_cfe (s : State) (k f) : (s.modEst k f).cfe = s.cfe := rfl
@[simp] theorem State.modEst_branch (s : State) (k f) : (s.modEst k f).branch = s.branch := rfl
@[simp] theorem State.modEst_pan (s : State) (k f) : (s.modEst k f).pan = s.pan := rfl
@[simp] theorem State.modEst_slot (s : State) (k f) : (s.modEst k f).slot = s.slot := rfl
@[simp] theorem State.modEst_sluice (s : State) (k f) : (s.modEst k f).sluice = s.sluice := rfl
@[simp] theorem State.modEst_nvm (s : State) (k f) : (s.modEst k f).nvm = s.nvm := rfl
@[simp] theorem State.modEst_sched (s : State) (k f) : (s.modEst k f).sched = s.sched := rfl
@[simp] theorem State.modEst_gov (s : State) (k f) : (s.modEst k f).gov = s.gov := rfl
@[simp] theorem State.modEst_estMod (s : State) (k f) : (s.modEst k f).estMod = s.estMod := rfl
@[simp] theorem State.modEst_str (s : State) (k f) : (s.modEst k f).str = s.str := rfl
@[simp] theorem State.modEst_eis (s : State) (k f) : (s.modEst k f).eis = s.eis := rfl
@[simp] theorem State.modEst_thermo (s : State) (k f) : (s.modEst k f).thermo = s.thermo := rfl
@[simp] theorem State.modEst_ntc (s : State) (k f) : (s.modEst k f).ntc = s.ntc := rfl
@[simp] theorem State.modEst_tbl (s : State) (k f) : (s.modEst k f).tbl = s.tbl := rfl
@[simp] theorem State.modEst_bal (s : State) (k f) : (s.modEst k f).bal = s.bal := rfl
@[simp] theorem State.modEst_prot (s : State) (k f) : (s.modEst k f).prot = s.prot := rfl
@[simp] theorem State.modEst_phase (s : State) (k f) : (s.modEst k f).phase = s.phase := rfl
@[simp] theorem State.modEst_conv (s : State) (k f) : (s.modEst k f).conv = s.conv := rfl
@[simp] theorem State.modEst_law (s : State) (k f) : (s.modEst k f).law = s.law := rfl
@[simp] theorem State.modEst_ring (s : State) (k f) : (s.modEst k f).ring = s.ring := rfl
@[simp] theorem State.modEst_lane (s : State) (k f) : (s.modEst k f).lane = s.lane := rfl
@[simp] theorem State.modEst_lanes (s : State) (k f) : (s.modEst k f).lanes = s.lanes := rfl
@[simp] theorem State.modEst_safe (s : State) (k f) : (s.modEst k f).safe = s.safe := rfl
@[simp] theorem State.modEst_power (s : State) (k f) : (s.modEst k f).power = s.power := rfl
@[simp] theorem State.modEst_port (s : State) (k f) : (s.modEst k f).port = s.port := rfl
@[simp] theorem State.modEst_ploza (s : State) (k f) : (s.modEst k f).ploza = s.ploza := rfl
@[simp] theorem State.modEst_can (s : State) (k f) : (s.modEst k f).can = s.can := rfl
@[simp] theorem State.modEst_spi (s : State) (k f) : (s.modEst k f).spi = s.spi := rfl
@[simp] theorem State.modEst_sec (s : State) (k f) : (s.modEst k f).sec = s.sec := rfl
@[simp] theorem State.modEst_free (s : State) (k f) : (s.modEst k f).free = s.free := rfl
@[simp] theorem State.modFe_grid (s : State) (k f) : (s.modFe k f).grid = s.grid := rfl
@[simp] theorem State.modFe_chan (s : State) (k f) : (s.modFe k f).chan = s.chan := rfl
@[simp] theorem State.modFe_tap (s : State) (k f) : (s.modFe k f).tap = s.tap := rfl
@[simp] theorem State.modFe_ow (s : State) (k f) : (s.modFe k f).ow = s.ow := rfl
@[simp] theorem State.modFe_cfe (s : State) (k f) : (s.modFe k f).cfe = s.cfe := rfl
@[simp] theorem State.modFe_branch (s : State) (k f) : (s.modFe k f).branch = s.branch := rfl
@[simp] theorem State.modFe_pan (s : State) (k f) : (s.modFe k f).pan = s.pan := rfl
@[simp] theorem State.modFe_slot (s : State) (k f) : (s.modFe k f).slot = s.slot := rfl
@[simp] theorem State.modFe_sluice (s : State) (k f) : (s.modFe k f).sluice = s.sluice := rfl
@[simp] theorem State.modFe_nvm (s : State) (k f) : (s.modFe k f).nvm = s.nvm := rfl
@[simp] theorem State.modFe_sched (s : State) (k f) : (s.modFe k f).sched = s.sched := rfl
@[simp] theorem State.modFe_gov (s : State) (k f) : (s.modFe k f).gov = s.gov := rfl
@[simp] theorem State.modFe_est (s : State) (k f) : (s.modFe k f).est = s.est := rfl
@[simp] theorem State.modFe_estMod (s : State) (k f) : (s.modFe k f).estMod = s.estMod := rfl
@[simp] theorem State.modFe_str (s : State) (k f) : (s.modFe k f).str = s.str := rfl
@[simp] theorem State.modFe_eis (s : State) (k f) : (s.modFe k f).eis = s.eis := rfl
@[simp] theorem State.modFe_thermo (s : State) (k f) : (s.modFe k f).thermo = s.thermo := rfl
@[simp] theorem State.modFe_ntc (s : State) (k f) : (s.modFe k f).ntc = s.ntc := rfl
@[simp] theorem State.modFe_tbl (s : State) (k f) : (s.modFe k f).tbl = s.tbl := rfl
@[simp] theorem State.modFe_bal (s : State) (k f) : (s.modFe k f).bal = s.bal := rfl
@[simp] theorem State.modFe_prot (s : State) (k f) : (s.modFe k f).prot = s.prot := rfl
@[simp] theorem State.modFe_phase (s : State) (k f) : (s.modFe k f).phase = s.phase := rfl
@[simp] theorem State.modFe_conv (s : State) (k f) : (s.modFe k f).conv = s.conv := rfl
@[simp] theorem State.modFe_law (s : State) (k f) : (s.modFe k f).law = s.law := rfl
@[simp] theorem State.modFe_ring (s : State) (k f) : (s.modFe k f).ring = s.ring := rfl
@[simp] theorem State.modFe_lane (s : State) (k f) : (s.modFe k f).lane = s.lane := rfl
@[simp] theorem State.modFe_lanes (s : State) (k f) : (s.modFe k f).lanes = s.lanes := rfl
@[simp] theorem State.modFe_safe (s : State) (k f) : (s.modFe k f).safe = s.safe := rfl
@[simp] theorem State.modFe_power (s : State) (k f) : (s.modFe k f).power = s.power := rfl
@[simp] theorem State.modFe_port (s : State) (k f) : (s.modFe k f).port = s.port := rfl
@[simp] theorem State.modFe_ploza (s : State) (k f) : (s.modFe k f).ploza = s.ploza := rfl
@[simp] theorem State.modFe_can (s : State) (k f) : (s.modFe k f).can = s.can := rfl
@[simp] theorem State.modFe_spi (s : State) (k f) : (s.modFe k f).spi = s.spi := rfl
@[simp] theorem State.modFe_sec (s : State) (k f) : (s.modFe k f).sec = s.sec := rfl
@[simp] theorem State.modFe_free (s : State) (k f) : (s.modFe k f).free = s.free := rfl
@[simp] theorem State.modPhase_grid (s : State) (k f) : (s.modPhase k f).grid = s.grid := rfl
@[simp] theorem State.modPhase_fe (s : State) (k f) : (s.modPhase k f).fe = s.fe := rfl
@[simp] theorem State.modPhase_chan (s : State) (k f) : (s.modPhase k f).chan = s.chan := rfl
@[simp] theorem State.modPhase_tap (s : State) (k f) : (s.modPhase k f).tap = s.tap := rfl
@[simp] theorem State.modPhase_ow (s : State) (k f) : (s.modPhase k f).ow = s.ow := rfl
@[simp] theorem State.modPhase_cfe (s : State) (k f) : (s.modPhase k f).cfe = s.cfe := rfl
@[simp] theorem State.modPhase_branch (s : State) (k f) : (s.modPhase k f).branch = s.branch := rfl
@[simp] theorem State.modPhase_pan (s : State) (k f) : (s.modPhase k f).pan = s.pan := rfl
@[simp] theorem State.modPhase_slot (s : State) (k f) : (s.modPhase k f).slot = s.slot := rfl
@[simp] theorem State.modPhase_sluice (s : State) (k f) : (s.modPhase k f).sluice = s.sluice := rfl
@[simp] theorem State.modPhase_nvm (s : State) (k f) : (s.modPhase k f).nvm = s.nvm := rfl
@[simp] theorem State.modPhase_sched (s : State) (k f) : (s.modPhase k f).sched = s.sched := rfl
@[simp] theorem State.modPhase_gov (s : State) (k f) : (s.modPhase k f).gov = s.gov := rfl
@[simp] theorem State.modPhase_est (s : State) (k f) : (s.modPhase k f).est = s.est := rfl
@[simp] theorem State.modPhase_estMod (s : State) (k f) : (s.modPhase k f).estMod = s.estMod := rfl
@[simp] theorem State.modPhase_str (s : State) (k f) : (s.modPhase k f).str = s.str := rfl
@[simp] theorem State.modPhase_eis (s : State) (k f) : (s.modPhase k f).eis = s.eis := rfl
@[simp] theorem State.modPhase_thermo (s : State) (k f) : (s.modPhase k f).thermo = s.thermo := rfl
@[simp] theorem State.modPhase_ntc (s : State) (k f) : (s.modPhase k f).ntc = s.ntc := rfl
@[simp] theorem State.modPhase_tbl (s : State) (k f) : (s.modPhase k f).tbl = s.tbl := rfl
@[simp] theorem State.modPhase_bal (s : State) (k f) : (s.modPhase k f).bal = s.bal := rfl
@[simp] theorem State.modPhase_prot (s : State) (k f) : (s.modPhase k f).prot = s.prot := rfl
@[simp] theorem State.modPhase_conv (s : State) (k f) : (s.modPhase k f).conv = s.conv := rfl
@[simp] theorem State.modPhase_law (s : State) (k f) : (s.modPhase k f).law = s.law := rfl
@[simp] theorem State.modPhase_ring (s : State) (k f) : (s.modPhase k f).ring = s.ring := rfl
@[simp] theorem State.modPhase_lane (s : State) (k f) : (s.modPhase k f).lane = s.lane := rfl
@[simp] theorem State.modPhase_lanes (s : State) (k f) : (s.modPhase k f).lanes = s.lanes := rfl
@[simp] theorem State.modPhase_safe (s : State) (k f) : (s.modPhase k f).safe = s.safe := rfl
@[simp] theorem State.modPhase_power (s : State) (k f) : (s.modPhase k f).power = s.power := rfl
@[simp] theorem State.modPhase_port (s : State) (k f) : (s.modPhase k f).port = s.port := rfl
@[simp] theorem State.modPhase_ploza (s : State) (k f) : (s.modPhase k f).ploza = s.ploza := rfl
@[simp] theorem State.modPhase_can (s : State) (k f) : (s.modPhase k f).can = s.can := rfl
@[simp] theorem State.modPhase_spi (s : State) (k f) : (s.modPhase k f).spi = s.spi := rfl
@[simp] theorem State.modPhase_sec (s : State) (k f) : (s.modPhase k f).sec = s.sec := rfl
@[simp] theorem State.modPhase_free (s : State) (k f) : (s.modPhase k f).free = s.free := rfl
@[simp] theorem State.modTap_grid (s : State) (k f) : (s.modTap k f).grid = s.grid := rfl
@[simp] theorem State.modTap_fe (s : State) (k f) : (s.modTap k f).fe = s.fe := rfl
@[simp] theorem State.modTap_chan (s : State) (k f) : (s.modTap k f).chan = s.chan := rfl
@[simp] theorem State.modTap_ow (s : State) (k f) : (s.modTap k f).ow = s.ow := rfl
@[simp] theorem State.modTap_cfe (s : State) (k f) : (s.modTap k f).cfe = s.cfe := rfl
@[simp] theorem State.modTap_branch (s : State) (k f) : (s.modTap k f).branch = s.branch := rfl
@[simp] theorem State.modTap_pan (s : State) (k f) : (s.modTap k f).pan = s.pan := rfl
@[simp] theorem State.modTap_slot (s : State) (k f) : (s.modTap k f).slot = s.slot := rfl
@[simp] theorem State.modTap_sluice (s : State) (k f) : (s.modTap k f).sluice = s.sluice := rfl
@[simp] theorem State.modTap_nvm (s : State) (k f) : (s.modTap k f).nvm = s.nvm := rfl
@[simp] theorem State.modTap_sched (s : State) (k f) : (s.modTap k f).sched = s.sched := rfl
@[simp] theorem State.modTap_gov (s : State) (k f) : (s.modTap k f).gov = s.gov := rfl
@[simp] theorem State.modTap_est (s : State) (k f) : (s.modTap k f).est = s.est := rfl
@[simp] theorem State.modTap_estMod (s : State) (k f) : (s.modTap k f).estMod = s.estMod := rfl
@[simp] theorem State.modTap_str (s : State) (k f) : (s.modTap k f).str = s.str := rfl
@[simp] theorem State.modTap_eis (s : State) (k f) : (s.modTap k f).eis = s.eis := rfl
@[simp] theorem State.modTap_thermo (s : State) (k f) : (s.modTap k f).thermo = s.thermo := rfl
@[simp] theorem State.modTap_ntc (s : State) (k f) : (s.modTap k f).ntc = s.ntc := rfl
@[simp] theorem State.modTap_tbl (s : State) (k f) : (s.modTap k f).tbl = s.tbl := rfl
@[simp] theorem State.modTap_bal (s : State) (k f) : (s.modTap k f).bal = s.bal := rfl
@[simp] theorem State.modTap_prot (s : State) (k f) : (s.modTap k f).prot = s.prot := rfl
@[simp] theorem State.modTap_phase (s : State) (k f) : (s.modTap k f).phase = s.phase := rfl
@[simp] theorem State.modTap_conv (s : State) (k f) : (s.modTap k f).conv = s.conv := rfl
@[simp] theorem State.modTap_law (s : State) (k f) : (s.modTap k f).law = s.law := rfl
@[simp] theorem State.modTap_ring (s : State) (k f) : (s.modTap k f).ring = s.ring := rfl
@[simp] theorem State.modTap_lane (s : State) (k f) : (s.modTap k f).lane = s.lane := rfl
@[simp] theorem State.modTap_lanes (s : State) (k f) : (s.modTap k f).lanes = s.lanes := rfl
@[simp] theorem State.modTap_safe (s : State) (k f) : (s.modTap k f).safe = s.safe := rfl
@[simp] theorem State.modTap_power (s : State) (k f) : (s.modTap k f).power = s.power := rfl
@[simp] theorem State.modTap_port (s : State) (k f) : (s.modTap k f).port = s.port := rfl
@[simp] theorem State.modTap_ploza (s : State) (k f) : (s.modTap k f).ploza = s.ploza := rfl
@[simp] theorem State.modTap_can (s : State) (k f) : (s.modTap k f).can = s.can := rfl
@[simp] theorem State.modTap_spi (s : State) (k f) : (s.modTap k f).spi = s.spi := rfl
@[simp] theorem State.modTap_sec (s : State) (k f) : (s.modTap k f).sec = s.sec := rfl
@[simp] theorem State.modTap_free (s : State) (k f) : (s.modTap k f).free = s.free := rfl
@[simp] theorem State.modPort_pending (s : State) (k f) : (s.modPort k f).pending = s.pending := rfl
@[simp] theorem State.modPan_pending (s : State) (k f) : (s.modPan k f).pending = s.pending := rfl
@[simp] theorem State.modChan_pending (s : State) (k f) : (s.modChan k f).pending = s.pending := rfl
@[simp] theorem State.modBranch_pending (s : State) (k f) : (s.modBranch k f).pending = s.pending := rfl
@[simp] theorem State.modCan_pending (s : State) (k f) : (s.modCan k f).pending = s.pending := rfl
@[simp] theorem State.modThermo_pending (s : State) (k f) : (s.modThermo k f).pending = s.pending := rfl
@[simp] theorem State.modStaged_pending (s : State) (f) : (s.modStaged f).pending = s.pending := rfl
@[simp] theorem State.modLane_pending (s : State) (k f) : (s.modLane k f).pending = s.pending := rfl
@[simp] theorem State.modSlot_pending (s : State) (k f) : (s.modSlot k f).pending = s.pending := rfl
@[simp] theorem State.modEst_pending (s : State) (k f) : (s.modEst k f).pending = s.pending := rfl
@[simp] theorem State.modFe_pending (s : State) (k f) : (s.modFe k f).pending = s.pending := rfl
@[simp] theorem State.modPhase_pending (s : State) (k f) : (s.modPhase k f).pending = s.pending := rfl
@[simp] theorem State.modTap_pending (s : State) (k f) : (s.modTap k f).pending = s.pending := rfl

/-! ### The draw of a free value -/

@[simp] theorem State.draw_grid (s : State) : s.draw.2.grid = s.grid := rfl
@[simp] theorem State.draw_fe (s : State) : s.draw.2.fe = s.fe := rfl
@[simp] theorem State.draw_chan (s : State) : s.draw.2.chan = s.chan := rfl
@[simp] theorem State.draw_tap (s : State) : s.draw.2.tap = s.tap := rfl
@[simp] theorem State.draw_ow (s : State) : s.draw.2.ow = s.ow := rfl
@[simp] theorem State.draw_cfe (s : State) : s.draw.2.cfe = s.cfe := rfl
@[simp] theorem State.draw_branch (s : State) : s.draw.2.branch = s.branch := rfl
@[simp] theorem State.draw_pan (s : State) : s.draw.2.pan = s.pan := rfl
@[simp] theorem State.draw_slot (s : State) : s.draw.2.slot = s.slot := rfl
@[simp] theorem State.draw_sluice (s : State) : s.draw.2.sluice = s.sluice := rfl
@[simp] theorem State.draw_nvm (s : State) : s.draw.2.nvm = s.nvm := rfl
@[simp] theorem State.draw_sched (s : State) : s.draw.2.sched = s.sched := rfl
@[simp] theorem State.draw_gov (s : State) : s.draw.2.gov = s.gov := rfl
@[simp] theorem State.draw_est (s : State) : s.draw.2.est = s.est := rfl
@[simp] theorem State.draw_estMod (s : State) : s.draw.2.estMod = s.estMod := rfl
@[simp] theorem State.draw_str (s : State) : s.draw.2.str = s.str := rfl
@[simp] theorem State.draw_eis (s : State) : s.draw.2.eis = s.eis := rfl
@[simp] theorem State.draw_thermo (s : State) : s.draw.2.thermo = s.thermo := rfl
@[simp] theorem State.draw_ntc (s : State) : s.draw.2.ntc = s.ntc := rfl
@[simp] theorem State.draw_tbl (s : State) : s.draw.2.tbl = s.tbl := rfl
@[simp] theorem State.draw_bal (s : State) : s.draw.2.bal = s.bal := rfl
@[simp] theorem State.draw_prot (s : State) : s.draw.2.prot = s.prot := rfl
@[simp] theorem State.draw_phase (s : State) : s.draw.2.phase = s.phase := rfl
@[simp] theorem State.draw_conv (s : State) : s.draw.2.conv = s.conv := rfl
@[simp] theorem State.draw_law (s : State) : s.draw.2.law = s.law := rfl
@[simp] theorem State.draw_ring (s : State) : s.draw.2.ring = s.ring := rfl
@[simp] theorem State.draw_lane (s : State) : s.draw.2.lane = s.lane := rfl
@[simp] theorem State.draw_lanes (s : State) : s.draw.2.lanes = s.lanes := rfl
@[simp] theorem State.draw_safe (s : State) : s.draw.2.safe = s.safe := rfl
@[simp] theorem State.draw_power (s : State) : s.draw.2.power = s.power := rfl
@[simp] theorem State.draw_port (s : State) : s.draw.2.port = s.port := rfl
@[simp] theorem State.draw_ploza (s : State) : s.draw.2.ploza = s.ploza := rfl
@[simp] theorem State.draw_can (s : State) : s.draw.2.can = s.can := rfl
@[simp] theorem State.draw_spi (s : State) : s.draw.2.spi = s.spi := rfl
@[simp] theorem State.draw_sec (s : State) : s.draw.2.sec = s.sec := rfl
@[simp] theorem State.draw_pending (s : State) : s.draw.2.pending = s.pending := rfl

end Sys2Proof.Machine
end

