-- ==== Sys2Proof/Laws/Keeps.lean ====
section
/-!
SUPPORT. The parts that the shared operations keep, one lemma each, from the frame lemmas.
-/

namespace Sys2Proof.Machine

@[simp] theorem State.releaseP37_keeps_eis (x0 : State) (x1) (x2) : (State.releaseP37 x0 x1 x2).eis = x0.eis := same_of_hide (p := .eis) (State.releaseP37_hide 1125899906777087 rfl x0 x1 x2) rfl
@[simp] theorem State.endSweep_keeps_grid (x0 : State) (x1) (x2) : (State.endSweep x0 x1 x2).grid = x0.grid := same_of_hide (p := .grid) (State.endSweep_hide 1125899906842622 rfl x0 x1 x2) rfl
@[simp] theorem State.endSweep_keeps_fe (x0 : State) (x1) (x2) : (State.endSweep x0 x1 x2).fe = x0.fe := same_of_hide (p := .fe) (State.endSweep_hide 1125899906842621 rfl x0 x1 x2) rfl
@[simp] theorem State.endSweep_keeps_chan (x0 : State) (x1) (x2) : (State.endSweep x0 x1 x2).chan = x0.chan := same_of_hide (p := .chan) (State.endSweep_hide 1125899906842619 rfl x0 x1 x2) rfl
@[simp] theorem State.endSweep_keeps_tap (x0 : State) (x1) (x2) : (State.endSweep x0 x1 x2).tap = x0.tap := same_of_hide (p := .tap) (State.endSweep_hide 1125899906842615 rfl x0 x1 x2) rfl
@[simp] theorem State.endSweep_keeps_ow (x0 : State) (x1) (x2) : (State.endSweep x0 x1 x2).ow = x0.ow := same_of_hide (p := .ow) (State.endSweep_hide 1125899906842607 rfl x0 x1 x2) rfl
@[simp] theorem State.endSweep_keeps_cfe (x0 : State) (x1) (x2) : (State.endSweep x0 x1 x2).cfe = x0.cfe := same_of_hide (p := .cfe) (State.endSweep_hide 1125899906842591 rfl x0 x1 x2) rfl
@[simp] theorem State.endSweep_keeps_branch (x0 : State) (x1) (x2) : (State.endSweep x0 x1 x2).branch = x0.branch := same_of_hide (p := .branch) (State.endSweep_hide 1125899906842559 rfl x0 x1 x2) rfl
@[simp] theorem State.endSweep_keeps_pan (x0 : State) (x1) (x2) : (State.endSweep x0 x1 x2).pan = x0.pan := same_of_hide (p := .pan) (State.endSweep_hide 1125899906842495 rfl x0 x1 x2) rfl
@[simp] theorem State.endSweep_keeps_slot (x0 : State) (x1) (x2) : (State.endSweep x0 x1 x2).slot = x0.slot := same_of_hide (p := .slot) (State.endSweep_hide 1125899906842367 rfl x0 x1 x2) rfl
@[simp] theorem State.endSweep_keeps_sluice (x0 : State) (x1) (x2) : (State.endSweep x0 x1 x2).sluice = x0.sluice := same_of_hide (p := .sluice) (State.endSweep_hide 1125899906842111 rfl x0 x1 x2) rfl
@[simp] theorem State.endSweep_keeps_nvm (x0 : State) (x1) (x2) : (State.endSweep x0 x1 x2).nvm = x0.nvm := same_of_hide (p := .nvm) (State.endSweep_hide 1125899906841599 rfl x0 x1 x2) rfl
@[simp] theorem State.endSweep_keeps_sched (x0 : State) (x1) (x2) : (State.endSweep x0 x1 x2).sched = x0.sched := same_of_hide (p := .sched) (State.endSweep_hide 1125899906840575 rfl x0 x1 x2) rfl
@[simp] theorem State.endSweep_keeps_gov (x0 : State) (x1) (x2) : (State.endSweep x0 x1 x2).gov = x0.gov := same_of_hide (p := .gov) (State.endSweep_hide 1125899906838527 rfl x0 x1 x2) rfl
@[simp] theorem State.endSweep_keeps_est (x0 : State) (x1) (x2) : (State.endSweep x0 x1 x2).est = x0.est := same_of_hide (p := .est) (State.endSweep_hide 1125899906834431 rfl x0 x1 x2) rfl
@[simp] theorem State.endSweep_keeps_estMod (x0 : State) (x1) (x2) : (State.endSweep x0 x1 x2).estMod = x0.estMod := same_of_hide (p := .estMod) (State.endSweep_hide 1125899906826239 rfl x0 x1 x2) rfl
@[simp] theorem State.endSweep_keeps_str (x0 : State) (x1) (x2) : (State.endSweep x0 x1 x2).str = x0.str := same_of_hide (p := .str) (State.endSweep_hide 1125899906809855 rfl x0 x1 x2) rfl
@[simp] theorem State.endSweep_keeps_thermo (x0 : State) (x1) (x2) : (State.endSweep x0 x1 x2).thermo = x0.thermo := same_of_hide (p := .thermo) (State.endSweep_hide 1125899906711551 rfl x0 x1 x2) rfl
@[simp] theorem State.endSweep_keeps_ntc (x0 : State) (x1) (x2) : (State.endSweep x0 x1 x2).ntc = x0.ntc := same_of_hide (p := .ntc) (State.endSweep_hide 1125899906580479 rfl x0 x1 x2) rfl
@[simp] theorem State.endSweep_keeps_tbl (x0 : State) (x1) (x2) : (State.endSweep x0 x1 x2).tbl = x0.tbl := same_of_hide (p := .tbl) (State.endSweep_hide 1125899906318335 rfl x0 x1 x2) rfl
@[simp] theorem State.endSweep_keeps_bal (x0 : State) (x1) (x2) : (State.endSweep x0 x1 x2).bal = x0.bal := same_of_hide (p := .bal) (State.endSweep_hide 1125899905794047 rfl x0 x1 x2) rfl
@[simp] theorem State.endSweep_keeps_prot (x0 : State) (x1) (x2) : (State.endSweep x0 x1 x2).prot = x0.prot := same_of_hide (p := .prot) (State.endSweep_hide 1125899904745471 rfl x0 x1 x2) rfl
@[simp] theorem State.endSweep_keeps_phase (x0 : State) (x1) (x2) : (State.endSweep x0 x1 x2).phase = x0.phase := same_of_hide (p := .phase) (State.endSweep_hide 1125899902648319 rfl x0 x1 x2) rfl
@[simp] theorem State.endSweep_keeps_conv (x0 : State) (x1) (x2) : (State.endSweep x0 x1 x2).conv = x0.conv := same_of_hide (p := .conv) (State.endSweep_hide 1125899898454015 rfl x0 x1 x2) rfl
@[simp] theorem State.endSweep_keeps_law (x0 : State) (x1) (x2) : (State.endSweep x0 x1 x2).law = x0.law := same_of_hide (p := .law) (State.endSweep_hide 1125899890065407 rfl x0 x1 x2) rfl
@[simp] theorem State.endSweep_keeps_lane (x0 : State) (x1) (x2) : (State.endSweep x0 x1 x2).lane = x0.lane := same_of_hide (p := .lane) (State.endSweep_hide 1125899839733759 rfl x0 x1 x2) rfl
@[simp] theorem State.endSweep_keeps_lanes (x0 : State) (x1) (x2) : (State.endSweep x0 x1 x2).lanes = x0.lanes := same_of_hide (p := .lanes) (State.endSweep_hide 1125899772624895 rfl x0 x1 x2) rfl
@[simp] theorem State.endSweep_keeps_safe (x0 : State) (x1) (x2) : (State.endSweep x0 x1 x2).safe = x0.safe := same_of_hide (p := .safe) (State.endSweep_hide 1125899638407167 rfl x0 x1 x2) rfl
@[simp] theorem State.endSweep_keeps_power (x0 : State) (x1) (x2) : (State.endSweep x0 x1 x2).power = x0.power := same_of_hide (p := .power) (State.endSweep_hide 1125899369971711 rfl x0 x1 x2) rfl
@[simp] theorem State.endSweep_keeps_port (x0 : State) (x1) (x2) : (State.endSweep x0 x1 x2).port = x0.port := same_of_hide (p := .port) (State.endSweep_hide 1125898833100799 rfl x0 x1 x2) rfl
@[simp] theorem State.endSweep_keeps_ploza (x0 : State) (x1) (x2) : (State.endSweep x0 x1 x2).ploza = x0.ploza := same_of_hide (p := .ploza) (State.endSweep_hide 1125897759358975 rfl x0 x1 x2) rfl
@[simp] theorem State.endSweep_keeps_can (x0 : State) (x1) (x2) : (State.endSweep x0 x1 x2).can = x0.can := same_of_hide (p := .can) (State.endSweep_hide 1125895611875327 rfl x0 x1 x2) rfl
@[simp] theorem State.endSweep_keeps_spi (x0 : State) (x1) (x2) : (State.endSweep x0 x1 x2).spi = x0.spi := same_of_hide (p := .spi) (State.endSweep_hide 1125891316908031 rfl x0 x1 x2) rfl
@[simp] theorem State.endSweep_keeps_sec (x0 : State) (x1) (x2) : (State.endSweep x0 x1 x2).sec = x0.sec := same_of_hide (p := .sec) (State.endSweep_hide 1125882726973439 rfl x0 x1 x2) rfl
@[simp] theorem State.endSweep_keeps_free (x0 : State) (x1) (x2) : (State.endSweep x0 x1 x2).free = x0.free := same_of_hide (p := .free) (State.endSweep_hide 1125865547104255 rfl x0 x1 x2) rfl
@[simp] theorem State.noteImax_keeps_fe (x0 : State) (x1) (x2) : (State.noteImax x0 x1 x2).fe = x0.fe := same_of_hide (p := .fe) (State.noteImax_hide 1125899906842621 rfl x0 x1 x2) rfl
@[simp] theorem State.closeWindow_keeps_grid (x0 : State) : (State.closeWindow x0).grid = x0.grid := same_of_hide (p := .grid) (State.closeWindow_hide 1125899906842622 rfl x0) rfl
@[simp] theorem State.closeWindow_keeps_chan (x0 : State) : (State.closeWindow x0).chan = x0.chan := same_of_hide (p := .chan) (State.closeWindow_hide 1125899906842619 rfl x0) rfl
@[simp] theorem State.closeWindow_keeps_tap (x0 : State) : (State.closeWindow x0).tap = x0.tap := same_of_hide (p := .tap) (State.closeWindow_hide 1125899906842615 rfl x0) rfl
@[simp] theorem State.closeWindow_keeps_ow (x0 : State) : (State.closeWindow x0).ow = x0.ow := same_of_hide (p := .ow) (State.closeWindow_hide 1125899906842607 rfl x0) rfl
@[simp] theorem State.closeWindow_keeps_branch (x0 : State) : (State.closeWindow x0).branch = x0.branch := same_of_hide (p := .branch) (State.closeWindow_hide 1125899906842559 rfl x0) rfl
@[simp] theorem State.closeWindow_keeps_pan (x0 : State) : (State.closeWindow x0).pan = x0.pan := same_of_hide (p := .pan) (State.closeWindow_hide 1125899906842495 rfl x0) rfl
@[simp] theorem State.closeWindow_keeps_slot (x0 : State) : (State.closeWindow x0).slot = x0.slot := same_of_hide (p := .slot) (State.closeWindow_hide 1125899906842367 rfl x0) rfl
@[simp] theorem State.closeWindow_keeps_sluice (x0 : State) : (State.closeWindow x0).sluice = x0.sluice := same_of_hide (p := .sluice) (State.closeWindow_hide 1125899906842111 rfl x0) rfl
@[simp] theorem State.closeWindow_keeps_nvm (x0 : State) : (State.closeWindow x0).nvm = x0.nvm := same_of_hide (p := .nvm) (State.closeWindow_hide 1125899906841599 rfl x0) rfl
@[simp] theorem State.closeWindow_keeps_gov (x0 : State) : (State.closeWindow x0).gov = x0.gov := same_of_hide (p := .gov) (State.closeWindow_hide 1125899906838527 rfl x0) rfl
@[simp] theorem State.closeWindow_keeps_est (x0 : State) : (State.closeWindow x0).est = x0.est := same_of_hide (p := .est) (State.closeWindow_hide 1125899906834431 rfl x0) rfl
@[simp] theorem State.closeWindow_keeps_estMod (x0 : State) : (State.closeWindow x0).estMod = x0.estMod := same_of_hide (p := .estMod) (State.closeWindow_hide 1125899906826239 rfl x0) rfl
@[simp] theorem State.closeWindow_keeps_str (x0 : State) : (State.closeWindow x0).str = x0.str := same_of_hide (p := .str) (State.closeWindow_hide 1125899906809855 rfl x0) rfl
@[simp] theorem State.closeWindow_keeps_eis (x0 : State) : (State.closeWindow x0).eis = x0.eis := same_of_hide (p := .eis) (State.closeWindow_hide 1125899906777087 rfl x0) rfl
@[simp] theorem State.closeWindow_keeps_thermo (x0 : State) : (State.closeWindow x0).thermo = x0.thermo := same_of_hide (p := .thermo) (State.closeWindow_hide 1125899906711551 rfl x0) rfl
@[simp] theorem State.closeWindow_keeps_ntc (x0 : State) : (State.closeWindow x0).ntc = x0.ntc := same_of_hide (p := .ntc) (State.closeWindow_hide 1125899906580479 rfl x0) rfl
@[simp] theorem State.closeWindow_keeps_tbl (x0 : State) : (State.closeWindow x0).tbl = x0.tbl := same_of_hide (p := .tbl) (State.closeWindow_hide 1125899906318335 rfl x0) rfl
@[simp] theorem State.closeWindow_keeps_bal (x0 : State) : (State.closeWindow x0).bal = x0.bal := same_of_hide (p := .bal) (State.closeWindow_hide 1125899905794047 rfl x0) rfl
@[simp] theorem State.closeWindow_keeps_prot (x0 : State) : (State.closeWindow x0).prot = x0.prot := same_of_hide (p := .prot) (State.closeWindow_hide 1125899904745471 rfl x0) rfl
@[simp] theorem State.closeWindow_keeps_phase (x0 : State) : (State.closeWindow x0).phase = x0.phase := same_of_hide (p := .phase) (State.closeWindow_hide 1125899902648319 rfl x0) rfl
@[simp] theorem State.closeWindow_keeps_conv (x0 : State) : (State.closeWindow x0).conv = x0.conv := same_of_hide (p := .conv) (State.closeWindow_hide 1125899898454015 rfl x0) rfl
@[simp] theorem State.closeWindow_keeps_law (x0 : State) : (State.closeWindow x0).law = x0.law := same_of_hide (p := .law) (State.closeWindow_hide 1125899890065407 rfl x0) rfl
@[simp] theorem State.closeWindow_keeps_ring (x0 : State) : (State.closeWindow x0).ring = x0.ring := same_of_hide (p := .ring) (State.closeWindow_hide 1125899873288191 rfl x0) rfl
@[simp] theorem State.closeWindow_keeps_lane (x0 : State) : (State.closeWindow x0).lane = x0.lane := same_of_hide (p := .lane) (State.closeWindow_hide 1125899839733759 rfl x0) rfl
@[simp] theorem State.closeWindow_keeps_lanes (x0 : State) : (State.closeWindow x0).lanes = x0.lanes := same_of_hide (p := .lanes) (State.closeWindow_hide 1125899772624895 rfl x0) rfl
@[simp] theorem State.closeWindow_keeps_safe (x0 : State) : (State.closeWindow x0).safe = x0.safe := same_of_hide (p := .safe) (State.closeWindow_hide 1125899638407167 rfl x0) rfl
@[simp] theorem State.closeWindow_keeps_power (x0 : State) : (State.closeWindow x0).power = x0.power := same_of_hide (p := .power) (State.closeWindow_hide 1125899369971711 rfl x0) rfl
@[simp] theorem State.closeWindow_keeps_port (x0 : State) : (State.closeWindow x0).port = x0.port := same_of_hide (p := .port) (State.closeWindow_hide 1125898833100799 rfl x0) rfl
@[simp] theorem State.closeWindow_keeps_ploza (x0 : State) : (State.closeWindow x0).ploza = x0.ploza := same_of_hide (p := .ploza) (State.closeWindow_hide 1125897759358975 rfl x0) rfl
@[simp] theorem State.closeWindow_keeps_can (x0 : State) : (State.closeWindow x0).can = x0.can := same_of_hide (p := .can) (State.closeWindow_hide 1125895611875327 rfl x0) rfl
@[simp] theorem State.closeWindow_keeps_spi (x0 : State) : (State.closeWindow x0).spi = x0.spi := same_of_hide (p := .spi) (State.closeWindow_hide 1125891316908031 rfl x0) rfl
@[simp] theorem State.closeWindow_keeps_sec (x0 : State) : (State.closeWindow x0).sec = x0.sec := same_of_hide (p := .sec) (State.closeWindow_hide 1125882726973439 rfl x0) rfl
@[simp] theorem State.closeWindow_keeps_free (x0 : State) : (State.closeWindow x0).free = x0.free := same_of_hide (p := .free) (State.closeWindow_hide 1125865547104255 rfl x0) rfl
@[simp] theorem State.ageSet_keeps_grid (x0 : State) : (State.ageSet x0).grid = x0.grid := same_of_hide (p := .grid) (State.ageSet_hide 1125899906842622 rfl x0) rfl
@[simp] theorem State.ageSet_keeps_fe (x0 : State) : (State.ageSet x0).fe = x0.fe := same_of_hide (p := .fe) (State.ageSet_hide 1125899906842621 rfl x0) rfl
@[simp] theorem State.ageSet_keeps_cfe (x0 : State) : (State.ageSet x0).cfe = x0.cfe := same_of_hide (p := .cfe) (State.ageSet_hide 1125899906842591 rfl x0) rfl
@[simp] theorem State.ageSet_keeps_ntc (x0 : State) : (State.ageSet x0).ntc = x0.ntc := same_of_hide (p := .ntc) (State.ageSet_hide 1125899906580479 rfl x0) rfl
@[simp] theorem State.bridgeDraw_keeps_grid (x0 : State) : (State.bridgeDraw x0).grid = x0.grid := same_of_hide (p := .grid) (State.bridgeDraw_hide 1125899906842622 rfl x0) rfl
@[simp] theorem State.bridgeDraw_keeps_fe (x0 : State) : (State.bridgeDraw x0).fe = x0.fe := same_of_hide (p := .fe) (State.bridgeDraw_hide 1125899906842621 rfl x0) rfl
@[simp] theorem State.bridgeDraw_keeps_cfe (x0 : State) : (State.bridgeDraw x0).cfe = x0.cfe := same_of_hide (p := .cfe) (State.bridgeDraw_hide 1125899906842591 rfl x0) rfl
@[simp] theorem State.bridgeDraw_keeps_ntc (x0 : State) : (State.bridgeDraw x0).ntc = x0.ntc := same_of_hide (p := .ntc) (State.bridgeDraw_hide 1125899906580479 rfl x0) rfl
@[simp] theorem State.bridgeDraw_keeps_prot (x0 : State) : (State.bridgeDraw x0).prot = x0.prot := same_of_hide (p := .prot) (State.bridgeDraw_hide 1125899904745471 rfl x0) rfl
@[simp] theorem State.nameCells_keeps_fe (x0 : State) (x1) (x2) : (State.nameCells x0 x1 x2).fe = x0.fe := same_of_hide (p := .fe) (State.nameCells_hide 1125899906842621 rfl x0 x1 x2) rfl
@[simp] theorem State.safetyOff_keeps_conv (x0 : State) : (State.safetyOff x0).conv = x0.conv := same_of_hide (p := .conv) (State.safetyOff_hide 1125899898454015 rfl x0) rfl
@[simp] theorem State.safetyOff_keeps_lane (x0 : State) : (State.safetyOff x0).lane = x0.lane := same_of_hide (p := .lane) (State.safetyOff_hide 1125899839733759 rfl x0) rfl
@[simp] theorem State.supervise_keeps_grid (x0 : State) : (State.supervise x0).grid = x0.grid := same_of_hide (p := .grid) (State.supervise_hide 1125899906842622 rfl x0) rfl
@[simp] theorem State.supervise_keeps_prot (x0 : State) : (State.supervise x0).prot = x0.prot := same_of_hide (p := .prot) (State.supervise_hide 1125899904745471 rfl x0) rfl
@[simp] theorem State.elapse_keeps_fe (x0 : State) : (State.elapse x0).fe = x0.fe := same_of_hide (p := .fe) (State.elapse_hide 1125899906842621 rfl x0) rfl
@[simp] theorem State.elapse_keeps_chan (x0 : State) : (State.elapse x0).chan = x0.chan := same_of_hide (p := .chan) (State.elapse_hide 1125899906842619 rfl x0) rfl
@[simp] theorem State.elapse_keeps_tap (x0 : State) : (State.elapse x0).tap = x0.tap := same_of_hide (p := .tap) (State.elapse_hide 1125899906842615 rfl x0) rfl
@[simp] theorem State.elapse_keeps_ow (x0 : State) : (State.elapse x0).ow = x0.ow := same_of_hide (p := .ow) (State.elapse_hide 1125899906842607 rfl x0) rfl
@[simp] theorem State.elapse_keeps_cfe (x0 : State) : (State.elapse x0).cfe = x0.cfe := same_of_hide (p := .cfe) (State.elapse_hide 1125899906842591 rfl x0) rfl
@[simp] theorem State.elapse_keeps_branch (x0 : State) : (State.elapse x0).branch = x0.branch := same_of_hide (p := .branch) (State.elapse_hide 1125899906842559 rfl x0) rfl
@[simp] theorem State.elapse_keeps_pan (x0 : State) : (State.elapse x0).pan = x0.pan := same_of_hide (p := .pan) (State.elapse_hide 1125899906842495 rfl x0) rfl
@[simp] theorem State.elapse_keeps_slot (x0 : State) : (State.elapse x0).slot = x0.slot := same_of_hide (p := .slot) (State.elapse_hide 1125899906842367 rfl x0) rfl
@[simp] theorem State.elapse_keeps_sluice (x0 : State) : (State.elapse x0).sluice = x0.sluice := same_of_hide (p := .sluice) (State.elapse_hide 1125899906842111 rfl x0) rfl
@[simp] theorem State.elapse_keeps_nvm (x0 : State) : (State.elapse x0).nvm = x0.nvm := same_of_hide (p := .nvm) (State.elapse_hide 1125899906841599 rfl x0) rfl
@[simp] theorem State.elapse_keeps_sched (x0 : State) : (State.elapse x0).sched = x0.sched := same_of_hide (p := .sched) (State.elapse_hide 1125899906840575 rfl x0) rfl
@[simp] theorem State.elapse_keeps_gov (x0 : State) : (State.elapse x0).gov = x0.gov := same_of_hide (p := .gov) (State.elapse_hide 1125899906838527 rfl x0) rfl
@[simp] theorem State.elapse_keeps_est (x0 : State) : (State.elapse x0).est = x0.est := same_of_hide (p := .est) (State.elapse_hide 1125899906834431 rfl x0) rfl
@[simp] theorem State.elapse_keeps_estMod (x0 : State) : (State.elapse x0).estMod = x0.estMod := same_of_hide (p := .estMod) (State.elapse_hide 1125899906826239 rfl x0) rfl
@[simp] theorem State.elapse_keeps_str (x0 : State) : (State.elapse x0).str = x0.str := same_of_hide (p := .str) (State.elapse_hide 1125899906809855 rfl x0) rfl
@[simp] theorem State.elapse_keeps_eis (x0 : State) : (State.elapse x0).eis = x0.eis := same_of_hide (p := .eis) (State.elapse_hide 1125899906777087 rfl x0) rfl
@[simp] theorem State.elapse_keeps_thermo (x0 : State) : (State.elapse x0).thermo = x0.thermo := same_of_hide (p := .thermo) (State.elapse_hide 1125899906711551 rfl x0) rfl
@[simp] theorem State.elapse_keeps_ntc (x0 : State) : (State.elapse x0).ntc = x0.ntc := same_of_hide (p := .ntc) (State.elapse_hide 1125899906580479 rfl x0) rfl
@[simp] theorem State.elapse_keeps_tbl (x0 : State) : (State.elapse x0).tbl = x0.tbl := same_of_hide (p := .tbl) (State.elapse_hide 1125899906318335 rfl x0) rfl
@[simp] theorem State.elapse_keeps_bal (x0 : State) : (State.elapse x0).bal = x0.bal := same_of_hide (p := .bal) (State.elapse_hide 1125899905794047 rfl x0) rfl
@[simp] theorem State.elapse_keeps_prot (x0 : State) : (State.elapse x0).prot = x0.prot := same_of_hide (p := .prot) (State.elapse_hide 1125899904745471 rfl x0) rfl
@[simp] theorem State.elapse_keeps_phase (x0 : State) : (State.elapse x0).phase = x0.phase := same_of_hide (p := .phase) (State.elapse_hide 1125899902648319 rfl x0) rfl
@[simp] theorem State.elapse_keeps_conv (x0 : State) : (State.elapse x0).conv = x0.conv := same_of_hide (p := .conv) (State.elapse_hide 1125899898454015 rfl x0) rfl
@[simp] theorem State.elapse_keeps_law (x0 : State) : (State.elapse x0).law = x0.law := same_of_hide (p := .law) (State.elapse_hide 1125899890065407 rfl x0) rfl
@[simp] theorem State.elapse_keeps_ring (x0 : State) : (State.elapse x0).ring = x0.ring := same_of_hide (p := .ring) (State.elapse_hide 1125899873288191 rfl x0) rfl
@[simp] theorem State.elapse_keeps_lane (x0 : State) : (State.elapse x0).lane = x0.lane := same_of_hide (p := .lane) (State.elapse_hide 1125899839733759 rfl x0) rfl
@[simp] theorem State.elapse_keeps_safe (x0 : State) : (State.elapse x0).safe = x0.safe := same_of_hide (p := .safe) (State.elapse_hide 1125899638407167 rfl x0) rfl
@[simp] theorem State.elapse_keeps_ploza (x0 : State) : (State.elapse x0).ploza = x0.ploza := same_of_hide (p := .ploza) (State.elapse_hide 1125897759358975 rfl x0) rfl
@[simp] theorem State.elapse_keeps_can (x0 : State) : (State.elapse x0).can = x0.can := same_of_hide (p := .can) (State.elapse_hide 1125895611875327 rfl x0) rfl
@[simp] theorem State.elapse_keeps_spi (x0 : State) : (State.elapse x0).spi = x0.spi := same_of_hide (p := .spi) (State.elapse_hide 1125891316908031 rfl x0) rfl
@[simp] theorem State.portsDown_keeps_conv (x0 : State) : (State.portsDown x0).conv = x0.conv := same_of_hide (p := .conv) (State.portsDown_hide 1125899898454015 rfl x0) rfl
@[simp] theorem State.portsDown_keeps_lane (x0 : State) : (State.portsDown x0).lane = x0.lane := same_of_hide (p := .lane) (State.portsDown_hide 1125899839733759 rfl x0) rfl
@[simp] theorem State.stage_keeps_cfe (x0 : State) (x1) (x2) (x3) : (State.stage x0 x1 x2 x3).cfe = x0.cfe := same_of_hide (p := .cfe) (State.stage_hide 1125899906842591 rfl x0 x1 x2 x3) rfl
@[simp] theorem State.balDrain_keeps_grid (x0 : State) (x1) (x2) : (State.balDrain x0 x1 x2).grid = x0.grid := same_of_hide (p := .grid) (State.balDrain_hide 1125899906842622 rfl x0 x1 x2) rfl
@[simp] theorem State.balDrain_keeps_chan (x0 : State) (x1) (x2) : (State.balDrain x0 x1 x2).chan = x0.chan := same_of_hide (p := .chan) (State.balDrain_hide 1125899906842619 rfl x0 x1 x2) rfl
@[simp] theorem State.balDrain_keeps_tap (x0 : State) (x1) (x2) : (State.balDrain x0 x1 x2).tap = x0.tap := same_of_hide (p := .tap) (State.balDrain_hide 1125899906842615 rfl x0 x1 x2) rfl
@[simp] theorem State.balDrain_keeps_ow (x0 : State) (x1) (x2) : (State.balDrain x0 x1 x2).ow = x0.ow := same_of_hide (p := .ow) (State.balDrain_hide 1125899906842607 rfl x0 x1 x2) rfl
@[simp] theorem State.balDrain_keeps_cfe (x0 : State) (x1) (x2) : (State.balDrain x0 x1 x2).cfe = x0.cfe := same_of_hide (p := .cfe) (State.balDrain_hide 1125899906842591 rfl x0 x1 x2) rfl
@[simp] theorem State.balDrain_keeps_branch (x0 : State) (x1) (x2) : (State.balDrain x0 x1 x2).branch = x0.branch := same_of_hide (p := .branch) (State.balDrain_hide 1125899906842559 rfl x0 x1 x2) rfl
@[simp] theorem State.balDrain_keeps_pan (x0 : State) (x1) (x2) : (State.balDrain x0 x1 x2).pan = x0.pan := same_of_hide (p := .pan) (State.balDrain_hide 1125899906842495 rfl x0 x1 x2) rfl
@[simp] theorem State.balDrain_keeps_slot (x0 : State) (x1) (x2) : (State.balDrain x0 x1 x2).slot = x0.slot := same_of_hide (p := .slot) (State.balDrain_hide 1125899906842367 rfl x0 x1 x2) rfl
@[simp] theorem State.balDrain_keeps_sluice (x0 : State) (x1) (x2) : (State.balDrain x0 x1 x2).sluice = x0.sluice := same_of_hide (p := .sluice) (State.balDrain_hide 1125899906842111 rfl x0 x1 x2) rfl
@[simp] theorem State.balDrain_keeps_nvm (x0 : State) (x1) (x2) : (State.balDrain x0 x1 x2).nvm = x0.nvm := same_of_hide (p := .nvm) (State.balDrain_hide 1125899906841599 rfl x0 x1 x2) rfl
@[simp] theorem State.balDrain_keeps_sched (x0 : State) (x1) (x2) : (State.balDrain x0 x1 x2).sched = x0.sched := same_of_hide (p := .sched) (State.balDrain_hide 1125899906840575 rfl x0 x1 x2) rfl
@[simp] theorem State.balDrain_keeps_gov (x0 : State) (x1) (x2) : (State.balDrain x0 x1 x2).gov = x0.gov := same_of_hide (p := .gov) (State.balDrain_hide 1125899906838527 rfl x0 x1 x2) rfl
@[simp] theorem State.balDrain_keeps_est (x0 : State) (x1) (x2) : (State.balDrain x0 x1 x2).est = x0.est := same_of_hide (p := .est) (State.balDrain_hide 1125899906834431 rfl x0 x1 x2) rfl
@[simp] theorem State.balDrain_keeps_estMod (x0 : State) (x1) (x2) : (State.balDrain x0 x1 x2).estMod = x0.estMod := same_of_hide (p := .estMod) (State.balDrain_hide 1125899906826239 rfl x0 x1 x2) rfl
@[simp] theorem State.balDrain_keeps_str (x0 : State) (x1) (x2) : (State.balDrain x0 x1 x2).str = x0.str := same_of_hide (p := .str) (State.balDrain_hide 1125899906809855 rfl x0 x1 x2) rfl
@[simp] theorem State.balDrain_keeps_eis (x0 : State) (x1) (x2) : (State.balDrain x0 x1 x2).eis = x0.eis := same_of_hide (p := .eis) (State.balDrain_hide 1125899906777087 rfl x0 x1 x2) rfl
@[simp] theorem State.balDrain_keeps_thermo (x0 : State) (x1) (x2) : (State.balDrain x0 x1 x2).thermo = x0.thermo := same_of_hide (p := .thermo) (State.balDrain_hide 1125899906711551 rfl x0 x1 x2) rfl
@[simp] theorem State.balDrain_keeps_ntc (x0 : State) (x1) (x2) : (State.balDrain x0 x1 x2).ntc = x0.ntc := same_of_hide (p := .ntc) (State.balDrain_hide 1125899906580479 rfl x0 x1 x2) rfl
@[simp] theorem State.balDrain_keeps_tbl (x0 : State) (x1) (x2) : (State.balDrain x0 x1 x2).tbl = x0.tbl := same_of_hide (p := .tbl) (State.balDrain_hide 1125899906318335 rfl x0 x1 x2) rfl
@[simp] theorem State.balDrain_keeps_prot (x0 : State) (x1) (x2) : (State.balDrain x0 x1 x2).prot = x0.prot := same_of_hide (p := .prot) (State.balDrain_hide 1125899904745471 rfl x0 x1 x2) rfl
@[simp] theorem State.balDrain_keeps_phase (x0 : State) (x1) (x2) : (State.balDrain x0 x1 x2).phase = x0.phase := same_of_hide (p := .phase) (State.balDrain_hide 1125899902648319 rfl x0 x1 x2) rfl
@[simp] theorem State.balDrain_keeps_conv (x0 : State) (x1) (x2) : (State.balDrain x0 x1 x2).conv = x0.conv := same_of_hide (p := .conv) (State.balDrain_hide 1125899898454015 rfl x0 x1 x2) rfl
@[simp] theorem State.balDrain_keeps_law (x0 : State) (x1) (x2) : (State.balDrain x0 x1 x2).law = x0.law := same_of_hide (p := .law) (State.balDrain_hide 1125899890065407 rfl x0 x1 x2) rfl
@[simp] theorem State.balDrain_keeps_ring (x0 : State) (x1) (x2) : (State.balDrain x0 x1 x2).ring = x0.ring := same_of_hide (p := .ring) (State.balDrain_hide 1125899873288191 rfl x0 x1 x2) rfl
@[simp] theorem State.balDrain_keeps_lane (x0 : State) (x1) (x2) : (State.balDrain x0 x1 x2).lane = x0.lane := same_of_hide (p := .lane) (State.balDrain_hide 1125899839733759 rfl x0 x1 x2) rfl
@[simp] theorem State.balDrain_keeps_lanes (x0 : State) (x1) (x2) : (State.balDrain x0 x1 x2).lanes = x0.lanes := same_of_hide (p := .lanes) (State.balDrain_hide 1125899772624895 rfl x0 x1 x2) rfl
@[simp] theorem State.balDrain_keeps_safe (x0 : State) (x1) (x2) : (State.balDrain x0 x1 x2).safe = x0.safe := same_of_hide (p := .safe) (State.balDrain_hide 1125899638407167 rfl x0 x1 x2) rfl
@[simp] theorem State.balDrain_keeps_power (x0 : State) (x1) (x2) : (State.balDrain x0 x1 x2).power = x0.power := same_of_hide (p := .power) (State.balDrain_hide 1125899369971711 rfl x0 x1 x2) rfl
@[simp] theorem State.balDrain_keeps_port (x0 : State) (x1) (x2) : (State.balDrain x0 x1 x2).port = x0.port := same_of_hide (p := .port) (State.balDrain_hide 1125898833100799 rfl x0 x1 x2) rfl
@[simp] theorem State.balDrain_keeps_ploza (x0 : State) (x1) (x2) : (State.balDrain x0 x1 x2).ploza = x0.ploza := same_of_hide (p := .ploza) (State.balDrain_hide 1125897759358975 rfl x0 x1 x2) rfl
@[simp] theorem State.balDrain_keeps_can (x0 : State) (x1) (x2) : (State.balDrain x0 x1 x2).can = x0.can := same_of_hide (p := .can) (State.balDrain_hide 1125895611875327 rfl x0 x1 x2) rfl
@[simp] theorem State.balDrain_keeps_spi (x0 : State) (x1) (x2) : (State.balDrain x0 x1 x2).spi = x0.spi := same_of_hide (p := .spi) (State.balDrain_hide 1125891316908031 rfl x0 x1 x2) rfl
@[simp] theorem State.balDrain_keeps_sec (x0 : State) (x1) (x2) : (State.balDrain x0 x1 x2).sec = x0.sec := same_of_hide (p := .sec) (State.balDrain_hide 1125882726973439 rfl x0 x1 x2) rfl
@[simp] theorem State.balDrain_keeps_free (x0 : State) (x1) (x2) : (State.balDrain x0 x1 x2).free = x0.free := same_of_hide (p := .free) (State.balDrain_hide 1125865547104255 rfl x0 x1 x2) rfl
@[simp] theorem State.sendCan_keeps_port (x0 : State) (x1) (x2) (x3) (x4) : (State.sendCan x0 x1 x2 x3 x4).port = x0.port := same_of_hide (p := .port) (State.sendCan_hide 1125898833100799 rfl x0 x1 x2 x3 x4) rfl
@[simp] theorem State.startShadows_keeps_sched (x0 : State) (x1) (x2) : (State.startShadows x0 x1 x2).sched = x0.sched := same_of_hide (p := .sched) (State.startShadows_hide 1125899906840575 rfl x0 x1 x2) rfl
@[simp] theorem State.record_keeps_grid (x0 : State) (x1) (x2) (x3) (x4) (x5) (x6) (x7) : (State.record x0 x1 x2 x3 x4 x5 x6 x7).grid = x0.grid := same_of_hide (p := .grid) (State.record_hide 1125899906842622 rfl x0 x1 x2 x3 x4 x5 x6 x7) rfl
@[simp] theorem State.record_keeps_fe (x0 : State) (x1) (x2) (x3) (x4) (x5) (x6) (x7) : (State.record x0 x1 x2 x3 x4 x5 x6 x7).fe = x0.fe := same_of_hide (p := .fe) (State.record_hide 1125899906842621 rfl x0 x1 x2 x3 x4 x5 x6 x7) rfl
@[simp] theorem State.record_keeps_chan (x0 : State) (x1) (x2) (x3) (x4) (x5) (x6) (x7) : (State.record x0 x1 x2 x3 x4 x5 x6 x7).chan = x0.chan := same_of_hide (p := .chan) (State.record_hide 1125899906842619 rfl x0 x1 x2 x3 x4 x5 x6 x7) rfl
@[simp] theorem State.record_keeps_tap (x0 : State) (x1) (x2) (x3) (x4) (x5) (x6) (x7) : (State.record x0 x1 x2 x3 x4 x5 x6 x7).tap = x0.tap := same_of_hide (p := .tap) (State.record_hide 1125899906842615 rfl x0 x1 x2 x3 x4 x5 x6 x7) rfl
@[simp] theorem State.record_keeps_ow (x0 : State) (x1) (x2) (x3) (x4) (x5) (x6) (x7) : (State.record x0 x1 x2 x3 x4 x5 x6 x7).ow = x0.ow := same_of_hide (p := .ow) (State.record_hide 1125899906842607 rfl x0 x1 x2 x3 x4 x5 x6 x7) rfl
@[simp] theorem State.record_keeps_cfe (x0 : State) (x1) (x2) (x3) (x4) (x5) (x6) (x7) : (State.record x0 x1 x2 x3 x4 x5 x6 x7).cfe = x0.cfe := same_of_hide (p := .cfe) (State.record_hide 1125899906842591 rfl x0 x1 x2 x3 x4 x5 x6 x7) rfl
@[simp] theorem State.record_keeps_branch (x0 : State) (x1) (x2) (x3) (x4) (x5) (x6) (x7) : (State.record x0 x1 x2 x3 x4 x5 x6 x7).branch = x0.branch := same_of_hide (p := .branch) (State.record_hide 1125899906842559 rfl x0 x1 x2 x3 x4 x5 x6 x7) rfl
@[simp] theorem State.record_keeps_pan (x0 : State) (x1) (x2) (x3) (x4) (x5) (x6) (x7) : (State.record x0 x1 x2 x3 x4 x5 x6 x7).pan = x0.pan := same_of_hide (p := .pan) (State.record_hide 1125899906842495 rfl x0 x1 x2 x3 x4 x5 x6 x7) rfl
@[simp] theorem State.record_keeps_slot (x0 : State) (x1) (x2) (x3) (x4) (x5) (x6) (x7) : (State.record x0 x1 x2 x3 x4 x5 x6 x7).slot = x0.slot := same_of_hide (p := .slot) (State.record_hide 1125899906842367 rfl x0 x1 x2 x3 x4 x5 x6 x7) rfl
@[simp] theorem State.record_keeps_sluice (x0 : State) (x1) (x2) (x3) (x4) (x5) (x6) (x7) : (State.record x0 x1 x2 x3 x4 x5 x6 x7).sluice = x0.sluice := same_of_hide (p := .sluice) (State.record_hide 1125899906842111 rfl x0 x1 x2 x3 x4 x5 x6 x7) rfl
@[simp] theorem State.record_keeps_sched (x0 : State) (x1) (x2) (x3) (x4) (x5) (x6) (x7) : (State.record x0 x1 x2 x3 x4 x5 x6 x7).sched = x0.sched := same_of_hide (p := .sched) (State.record_hide 1125899906840575 rfl x0 x1 x2 x3 x4 x5 x6 x7) rfl
@[simp] theorem State.record_keeps_gov (x0 : State) (x1) (x2) (x3) (x4) (x5) (x6) (x7) : (State.record x0 x1 x2 x3 x4 x5 x6 x7).gov = x0.gov := same_of_hide (p := .gov) (State.record_hide 1125899906838527 rfl x0 x1 x2 x3 x4 x5 x6 x7) rfl
@[simp] theorem State.record_keeps_est (x0 : State) (x1) (x2) (x3) (x4) (x5) (x6) (x7) : (State.record x0 x1 x2 x3 x4 x5 x6 x7).est = x0.est := same_of_hide (p := .est) (State.record_hide 1125899906834431 rfl x0 x1 x2 x3 x4 x5 x6 x7) rfl
@[simp] theorem State.record_keeps_estMod (x0 : State) (x1) (x2) (x3) (x4) (x5) (x6) (x7) : (State.record x0 x1 x2 x3 x4 x5 x6 x7).estMod = x0.estMod := same_of_hide (p := .estMod) (State.record_hide 1125899906826239 rfl x0 x1 x2 x3 x4 x5 x6 x7) rfl
@[simp] theorem State.record_keeps_str (x0 : State) (x1) (x2) (x3) (x4) (x5) (x6) (x7) : (State.record x0 x1 x2 x3 x4 x5 x6 x7).str = x0.str := same_of_hide (p := .str) (State.record_hide 1125899906809855 rfl x0 x1 x2 x3 x4 x5 x6 x7) rfl
@[simp] theorem State.record_keeps_eis (x0 : State) (x1) (x2) (x3) (x4) (x5) (x6) (x7) : (State.record x0 x1 x2 x3 x4 x5 x6 x7).eis = x0.eis := same_of_hide (p := .eis) (State.record_hide 1125899906777087 rfl x0 x1 x2 x3 x4 x5 x6 x7) rfl
@[simp] theorem State.record_keeps_thermo (x0 : State) (x1) (x2) (x3) (x4) (x5) (x6) (x7) : (State.record x0 x1 x2 x3 x4 x5 x6 x7).thermo = x0.thermo := same_of_hide (p := .thermo) (State.record_hide 1125899906711551 rfl x0 x1 x2 x3 x4 x5 x6 x7) rfl
@[simp] theorem State.record_keeps_ntc (x0 : State) (x1) (x2) (x3) (x4) (x5) (x6) (x7) : (State.record x0 x1 x2 x3 x4 x5 x6 x7).ntc = x0.ntc := same_of_hide (p := .ntc) (State.record_hide 1125899906580479 rfl x0 x1 x2 x3 x4 x5 x6 x7) rfl
@[simp] theorem State.record_keeps_tbl (x0 : State) (x1) (x2) (x3) (x4) (x5) (x6) (x7) : (State.record x0 x1 x2 x3 x4 x5 x6 x7).tbl = x0.tbl := same_of_hide (p := .tbl) (State.record_hide 1125899906318335 rfl x0 x1 x2 x3 x4 x5 x6 x7) rfl
@[simp] theorem State.record_keeps_bal (x0 : State) (x1) (x2) (x3) (x4) (x5) (x6) (x7) : (State.record x0 x1 x2 x3 x4 x5 x6 x7).bal = x0.bal := same_of_hide (p := .bal) (State.record_hide 1125899905794047 rfl x0 x1 x2 x3 x4 x5 x6 x7) rfl
@[simp] theorem State.record_keeps_prot (x0 : State) (x1) (x2) (x3) (x4) (x5) (x6) (x7) : (State.record x0 x1 x2 x3 x4 x5 x6 x7).prot = x0.prot := same_of_hide (p := .prot) (State.record_hide 1125899904745471 rfl x0 x1 x2 x3 x4 x5 x6 x7) rfl
@[simp] theorem State.record_keeps_phase (x0 : State) (x1) (x2) (x3) (x4) (x5) (x6) (x7) : (State.record x0 x1 x2 x3 x4 x5 x6 x7).phase = x0.phase := same_of_hide (p := .phase) (State.record_hide 1125899902648319 rfl x0 x1 x2 x3 x4 x5 x6 x7) rfl
@[simp] theorem State.record_keeps_conv (x0 : State) (x1) (x2) (x3) (x4) (x5) (x6) (x7) : (State.record x0 x1 x2 x3 x4 x5 x6 x7).conv = x0.conv := same_of_hide (p := .conv) (State.record_hide 1125899898454015 rfl x0 x1 x2 x3 x4 x5 x6 x7) rfl
@[simp] theorem State.record_keeps_law (x0 : State) (x1) (x2) (x3) (x4) (x5) (x6) (x7) : (State.record x0 x1 x2 x3 x4 x5 x6 x7).law = x0.law := same_of_hide (p := .law) (State.record_hide 1125899890065407 rfl x0 x1 x2 x3 x4 x5 x6 x7) rfl
@[simp] theorem State.record_keeps_ring (x0 : State) (x1) (x2) (x3) (x4) (x5) (x6) (x7) : (State.record x0 x1 x2 x3 x4 x5 x6 x7).ring = x0.ring := same_of_hide (p := .ring) (State.record_hide 1125899873288191 rfl x0 x1 x2 x3 x4 x5 x6 x7) rfl
@[simp] theorem State.record_keeps_lane (x0 : State) (x1) (x2) (x3) (x4) (x5) (x6) (x7) : (State.record x0 x1 x2 x3 x4 x5 x6 x7).lane = x0.lane := same_of_hide (p := .lane) (State.record_hide 1125899839733759 rfl x0 x1 x2 x3 x4 x5 x6 x7) rfl
@[simp] theorem State.record_keeps_lanes (x0 : State) (x1) (x2) (x3) (x4) (x5) (x6) (x7) : (State.record x0 x1 x2 x3 x4 x5 x6 x7).lanes = x0.lanes := same_of_hide (p := .lanes) (State.record_hide 1125899772624895 rfl x0 x1 x2 x3 x4 x5 x6 x7) rfl
@[simp] theorem State.record_keeps_safe (x0 : State) (x1) (x2) (x3) (x4) (x5) (x6) (x7) : (State.record x0 x1 x2 x3 x4 x5 x6 x7).safe = x0.safe := same_of_hide (p := .safe) (State.record_hide 1125899638407167 rfl x0 x1 x2 x3 x4 x5 x6 x7) rfl
@[simp] theorem State.record_keeps_power (x0 : State) (x1) (x2) (x3) (x4) (x5) (x6) (x7) : (State.record x0 x1 x2 x3 x4 x5 x6 x7).power = x0.power := same_of_hide (p := .power) (State.record_hide 1125899369971711 rfl x0 x1 x2 x3 x4 x5 x6 x7) rfl
@[simp] theorem State.record_keeps_port (x0 : State) (x1) (x2) (x3) (x4) (x5) (x6) (x7) : (State.record x0 x1 x2 x3 x4 x5 x6 x7).port = x0.port := same_of_hide (p := .port) (State.record_hide 1125898833100799 rfl x0 x1 x2 x3 x4 x5 x6 x7) rfl
@[simp] theorem State.record_keeps_ploza (x0 : State) (x1) (x2) (x3) (x4) (x5) (x6) (x7) : (State.record x0 x1 x2 x3 x4 x5 x6 x7).ploza = x0.ploza := same_of_hide (p := .ploza) (State.record_hide 1125897759358975 rfl x0 x1 x2 x3 x4 x5 x6 x7) rfl
@[simp] theorem State.record_keeps_can (x0 : State) (x1) (x2) (x3) (x4) (x5) (x6) (x7) : (State.record x0 x1 x2 x3 x4 x5 x6 x7).can = x0.can := same_of_hide (p := .can) (State.record_hide 1125895611875327 rfl x0 x1 x2 x3 x4 x5 x6 x7) rfl
@[simp] theorem State.record_keeps_spi (x0 : State) (x1) (x2) (x3) (x4) (x5) (x6) (x7) : (State.record x0 x1 x2 x3 x4 x5 x6 x7).spi = x0.spi := same_of_hide (p := .spi) (State.record_hide 1125891316908031 rfl x0 x1 x2 x3 x4 x5 x6 x7) rfl
@[simp] theorem State.record_keeps_free (x0 : State) (x1) (x2) (x3) (x4) (x5) (x6) (x7) : (State.record x0 x1 x2 x3 x4 x5 x6 x7).free = x0.free := same_of_hide (p := .free) (State.record_hide 1125865547104255 rfl x0 x1 x2 x3 x4 x5 x6 x7) rfl
@[simp] theorem State.prechargeFrame_keeps_branch (x0 : State) (x1) (x2) (x3) : (State.prechargeFrame x0 x1 x2 x3).branch = x0.branch := same_of_hide (p := .branch) (State.prechargeFrame_hide 1125899906842559 rfl x0 x1 x2 x3) rfl
@[simp] theorem State.spreadDone_keeps_phase (x0 : State) (x1 : State) : (State.spreadDone x0 x1).phase = x0.phase := same_of_hide (p := .phase) (State.spreadDone_hide 1125899902648319 rfl x0 x1) rfl
@[simp] theorem State.sendSpi_keeps_ring (x0 : State) (x1) (x2) : (State.sendSpi x0 x1 x2).ring = x0.ring := same_of_hide (p := .ring) (State.sendSpi_hide 1125899873288191 rfl x0 x1 x2) rfl
@[simp] theorem State.sendSpi_keeps_port (x0 : State) (x1) (x2) : (State.sendSpi x0 x1 x2).port = x0.port := same_of_hide (p := .port) (State.sendSpi_hide 1125898833100799 rfl x0 x1 x2) rfl
@[simp] theorem State.countSets_keeps_conv (x0 : State) : (State.countSets x0).conv = x0.conv := same_of_hide (p := .conv) (State.countSets_hide 1125899898454015 rfl x0) rfl
@[simp] theorem State.gatesOff_keeps_grid (x0 : State) : (State.gatesOff x0).grid = x0.grid := same_of_hide (p := .grid) (State.gatesOff_hide 1125899906842622 rfl x0) rfl
@[simp] theorem State.gatesOff_keeps_fe (x0 : State) : (State.gatesOff x0).fe = x0.fe := same_of_hide (p := .fe) (State.gatesOff_hide 1125899906842621 rfl x0) rfl
@[simp] theorem State.gatesOff_keeps_chan (x0 : State) : (State.gatesOff x0).chan = x0.chan := same_of_hide (p := .chan) (State.gatesOff_hide 1125899906842619 rfl x0) rfl
@[simp] theorem State.gatesOff_keeps_tap (x0 : State) : (State.gatesOff x0).tap = x0.tap := same_of_hide (p := .tap) (State.gatesOff_hide 1125899906842615 rfl x0) rfl
@[simp] theorem State.gatesOff_keeps_ow (x0 : State) : (State.gatesOff x0).ow = x0.ow := same_of_hide (p := .ow) (State.gatesOff_hide 1125899906842607 rfl x0) rfl
@[simp] theorem State.gatesOff_keeps_cfe (x0 : State) : (State.gatesOff x0).cfe = x0.cfe := same_of_hide (p := .cfe) (State.gatesOff_hide 1125899906842591 rfl x0) rfl
@[simp] theorem State.gatesOff_keeps_branch (x0 : State) : (State.gatesOff x0).branch = x0.branch := same_of_hide (p := .branch) (State.gatesOff_hide 1125899906842559 rfl x0) rfl
@[simp] theorem State.gatesOff_keeps_pan (x0 : State) : (State.gatesOff x0).pan = x0.pan := same_of_hide (p := .pan) (State.gatesOff_hide 1125899906842495 rfl x0) rfl
@[simp] theorem State.gatesOff_keeps_slot (x0 : State) : (State.gatesOff x0).slot = x0.slot := same_of_hide (p := .slot) (State.gatesOff_hide 1125899906842367 rfl x0) rfl
@[simp] theorem State.gatesOff_keeps_sluice (x0 : State) : (State.gatesOff x0).sluice = x0.sluice := same_of_hide (p := .sluice) (State.gatesOff_hide 1125899906842111 rfl x0) rfl
@[simp] theorem State.gatesOff_keeps_nvm (x0 : State) : (State.gatesOff x0).nvm = x0.nvm := same_of_hide (p := .nvm) (State.gatesOff_hide 1125899906841599 rfl x0) rfl
@[simp] theorem State.gatesOff_keeps_sched (x0 : State) : (State.gatesOff x0).sched = x0.sched := same_of_hide (p := .sched) (State.gatesOff_hide 1125899906840575 rfl x0) rfl
@[simp] theorem State.gatesOff_keeps_gov (x0 : State) : (State.gatesOff x0).gov = x0.gov := same_of_hide (p := .gov) (State.gatesOff_hide 1125899906838527 rfl x0) rfl
@[simp] theorem State.gatesOff_keeps_est (x0 : State) : (State.gatesOff x0).est = x0.est := same_of_hide (p := .est) (State.gatesOff_hide 1125899906834431 rfl x0) rfl
@[simp] theorem State.gatesOff_keeps_estMod (x0 : State) : (State.gatesOff x0).estMod = x0.estMod := same_of_hide (p := .estMod) (State.gatesOff_hide 1125899906826239 rfl x0) rfl
@[simp] theorem State.gatesOff_keeps_str (x0 : State) : (State.gatesOff x0).str = x0.str := same_of_hide (p := .str) (State.gatesOff_hide 1125899906809855 rfl x0) rfl
@[simp] theorem State.gatesOff_keeps_eis (x0 : State) : (State.gatesOff x0).eis = x0.eis := same_of_hide (p := .eis) (State.gatesOff_hide 1125899906777087 rfl x0) rfl
@[simp] theorem State.gatesOff_keeps_thermo (x0 : State) : (State.gatesOff x0).thermo = x0.thermo := same_of_hide (p := .thermo) (State.gatesOff_hide 1125899906711551 rfl x0) rfl
@[simp] theorem State.gatesOff_keeps_ntc (x0 : State) : (State.gatesOff x0).ntc = x0.ntc := same_of_hide (p := .ntc) (State.gatesOff_hide 1125899906580479 rfl x0) rfl
@[simp] theorem State.gatesOff_keeps_tbl (x0 : State) : (State.gatesOff x0).tbl = x0.tbl := same_of_hide (p := .tbl) (State.gatesOff_hide 1125899906318335 rfl x0) rfl
@[simp] theorem State.gatesOff_keeps_bal (x0 : State) : (State.gatesOff x0).bal = x0.bal := same_of_hide (p := .bal) (State.gatesOff_hide 1125899905794047 rfl x0) rfl
@[simp] theorem State.gatesOff_keeps_prot (x0 : State) : (State.gatesOff x0).prot = x0.prot := same_of_hide (p := .prot) (State.gatesOff_hide 1125899904745471 rfl x0) rfl
@[simp] theorem State.gatesOff_keeps_ring (x0 : State) : (State.gatesOff x0).ring = x0.ring := same_of_hide (p := .ring) (State.gatesOff_hide 1125899873288191 rfl x0) rfl
@[simp] theorem State.gatesOff_keeps_lane (x0 : State) : (State.gatesOff x0).lane = x0.lane := same_of_hide (p := .lane) (State.gatesOff_hide 1125899839733759 rfl x0) rfl
@[simp] theorem State.gatesOff_keeps_lanes (x0 : State) : (State.gatesOff x0).lanes = x0.lanes := same_of_hide (p := .lanes) (State.gatesOff_hide 1125899772624895 rfl x0) rfl
@[simp] theorem State.gatesOff_keeps_safe (x0 : State) : (State.gatesOff x0).safe = x0.safe := same_of_hide (p := .safe) (State.gatesOff_hide 1125899638407167 rfl x0) rfl
@[simp] theorem State.gatesOff_keeps_power (x0 : State) : (State.gatesOff x0).power = x0.power := same_of_hide (p := .power) (State.gatesOff_hide 1125899369971711 rfl x0) rfl
@[simp] theorem State.gatesOff_keeps_port (x0 : State) : (State.gatesOff x0).port = x0.port := same_of_hide (p := .port) (State.gatesOff_hide 1125898833100799 rfl x0) rfl
@[simp] theorem State.gatesOff_keeps_ploza (x0 : State) : (State.gatesOff x0).ploza = x0.ploza := same_of_hide (p := .ploza) (State.gatesOff_hide 1125897759358975 rfl x0) rfl
@[simp] theorem State.gatesOff_keeps_can (x0 : State) : (State.gatesOff x0).can = x0.can := same_of_hide (p := .can) (State.gatesOff_hide 1125895611875327 rfl x0) rfl
@[simp] theorem State.gatesOff_keeps_spi (x0 : State) : (State.gatesOff x0).spi = x0.spi := same_of_hide (p := .spi) (State.gatesOff_hide 1125891316908031 rfl x0) rfl
@[simp] theorem State.gatesOff_keeps_sec (x0 : State) : (State.gatesOff x0).sec = x0.sec := same_of_hide (p := .sec) (State.gatesOff_hide 1125882726973439 rfl x0) rfl
@[simp] theorem State.gatesOff_keeps_free (x0 : State) : (State.gatesOff x0).free = x0.free := same_of_hide (p := .free) (State.gatesOff_hide 1125865547104255 rfl x0) rfl
@[simp] theorem State.gatePans_keeps_conv (x0 : State) (x1) : (State.gatePans x0 x1).conv = x0.conv := same_of_hide (p := .conv) (State.gatePans_hide 1125899898454015 rfl x0 x1) rfl
@[simp] theorem State.gatePans_keeps_lane (x0 : State) (x1) : (State.gatePans x0 x1).lane = x0.lane := same_of_hide (p := .lane) (State.gatePans_hide 1125899839733759 rfl x0 x1) rfl
@[simp] theorem State.linksUp_keeps_grid (x0 : State) : (State.linksUp x0).grid = x0.grid := same_of_hide (p := .grid) (State.linksUp_hide 1125899906842622 rfl x0) rfl
@[simp] theorem State.linksUp_keeps_fe (x0 : State) : (State.linksUp x0).fe = x0.fe := same_of_hide (p := .fe) (State.linksUp_hide 1125899906842621 rfl x0) rfl
@[simp] theorem State.linksUp_keeps_chan (x0 : State) : (State.linksUp x0).chan = x0.chan := same_of_hide (p := .chan) (State.linksUp_hide 1125899906842619 rfl x0) rfl
@[simp] theorem State.linksUp_keeps_tap (x0 : State) : (State.linksUp x0).tap = x0.tap := same_of_hide (p := .tap) (State.linksUp_hide 1125899906842615 rfl x0) rfl
@[simp] theorem State.linksUp_keeps_ow (x0 : State) : (State.linksUp x0).ow = x0.ow := same_of_hide (p := .ow) (State.linksUp_hide 1125899906842607 rfl x0) rfl
@[simp] theorem State.linksUp_keeps_cfe (x0 : State) : (State.linksUp x0).cfe = x0.cfe := same_of_hide (p := .cfe) (State.linksUp_hide 1125899906842591 rfl x0) rfl
@[simp] theorem State.linksUp_keeps_branch (x0 : State) : (State.linksUp x0).branch = x0.branch := same_of_hide (p := .branch) (State.linksUp_hide 1125899906842559 rfl x0) rfl
@[simp] theorem State.linksUp_keeps_pan (x0 : State) : (State.linksUp x0).pan = x0.pan := same_of_hide (p := .pan) (State.linksUp_hide 1125899906842495 rfl x0) rfl
@[simp] theorem State.linksUp_keeps_slot (x0 : State) : (State.linksUp x0).slot = x0.slot := same_of_hide (p := .slot) (State.linksUp_hide 1125899906842367 rfl x0) rfl
@[simp] theorem State.linksUp_keeps_sluice (x0 : State) : (State.linksUp x0).sluice = x0.sluice := same_of_hide (p := .sluice) (State.linksUp_hide 1125899906842111 rfl x0) rfl
@[simp] theorem State.linksUp_keeps_nvm (x0 : State) : (State.linksUp x0).nvm = x0.nvm := same_of_hide (p := .nvm) (State.linksUp_hide 1125899906841599 rfl x0) rfl
@[simp] theorem State.linksUp_keeps_sched (x0 : State) : (State.linksUp x0).sched = x0.sched := same_of_hide (p := .sched) (State.linksUp_hide 1125899906840575 rfl x0) rfl
@[simp] theorem State.linksUp_keeps_gov (x0 : State) : (State.linksUp x0).gov = x0.gov := same_of_hide (p := .gov) (State.linksUp_hide 1125899906838527 rfl x0) rfl
@[simp] theorem State.linksUp_keeps_est (x0 : State) : (State.linksUp x0).est = x0.est := same_of_hide (p := .est) (State.linksUp_hide 1125899906834431 rfl x0) rfl
@[simp] theorem State.linksUp_keeps_estMod (x0 : State) : (State.linksUp x0).estMod = x0.estMod := same_of_hide (p := .estMod) (State.linksUp_hide 1125899906826239 rfl x0) rfl
@[simp] theorem State.linksUp_keeps_str (x0 : State) : (State.linksUp x0).str = x0.str := same_of_hide (p := .str) (State.linksUp_hide 1125899906809855 rfl x0) rfl
@[simp] theorem State.linksUp_keeps_eis (x0 : State) : (State.linksUp x0).eis = x0.eis := same_of_hide (p := .eis) (State.linksUp_hide 1125899906777087 rfl x0) rfl
@[simp] theorem State.linksUp_keeps_thermo (x0 : State) : (State.linksUp x0).thermo = x0.thermo := same_of_hide (p := .thermo) (State.linksUp_hide 1125899906711551 rfl x0) rfl
@[simp] theorem State.linksUp_keeps_ntc (x0 : State) : (State.linksUp x0).ntc = x0.ntc := same_of_hide (p := .ntc) (State.linksUp_hide 1125899906580479 rfl x0) rfl
@[simp] theorem State.linksUp_keeps_tbl (x0 : State) : (State.linksUp x0).tbl = x0.tbl := same_of_hide (p := .tbl) (State.linksUp_hide 1125899906318335 rfl x0) rfl
@[simp] theorem State.linksUp_keeps_bal (x0 : State) : (State.linksUp x0).bal = x0.bal := same_of_hide (p := .bal) (State.linksUp_hide 1125899905794047 rfl x0) rfl
@[simp] theorem State.linksUp_keeps_phase (x0 : State) : (State.linksUp x0).phase = x0.phase := same_of_hide (p := .phase) (State.linksUp_hide 1125899902648319 rfl x0) rfl
@[simp] theorem State.linksUp_keeps_conv (x0 : State) : (State.linksUp x0).conv = x0.conv := same_of_hide (p := .conv) (State.linksUp_hide 1125899898454015 rfl x0) rfl
@[simp] theorem State.linksUp_keeps_law (x0 : State) : (State.linksUp x0).law = x0.law := same_of_hide (p := .law) (State.linksUp_hide 1125899890065407 rfl x0) rfl
@[simp] theorem State.linksUp_keeps_ring (x0 : State) : (State.linksUp x0).ring = x0.ring := same_of_hide (p := .ring) (State.linksUp_hide 1125899873288191 rfl x0) rfl
@[simp] theorem State.linksUp_keeps_lane (x0 : State) : (State.linksUp x0).lane = x0.lane := same_of_hide (p := .lane) (State.linksUp_hide 1125899839733759 rfl x0) rfl
@[simp] theorem State.linksUp_keeps_lanes (x0 : State) : (State.linksUp x0).lanes = x0.lanes := same_of_hide (p := .lanes) (State.linksUp_hide 1125899772624895 rfl x0) rfl
@[simp] theorem State.linksUp_keeps_safe (x0 : State) : (State.linksUp x0).safe = x0.safe := same_of_hide (p := .safe) (State.linksUp_hide 1125899638407167 rfl x0) rfl
@[simp] theorem State.linksUp_keeps_power (x0 : State) : (State.linksUp x0).power = x0.power := same_of_hide (p := .power) (State.linksUp_hide 1125899369971711 rfl x0) rfl
@[simp] theorem State.linksUp_keeps_port (x0 : State) : (State.linksUp x0).port = x0.port := same_of_hide (p := .port) (State.linksUp_hide 1125898833100799 rfl x0) rfl
@[simp] theorem State.linksUp_keeps_ploza (x0 : State) : (State.linksUp x0).ploza = x0.ploza := same_of_hide (p := .ploza) (State.linksUp_hide 1125897759358975 rfl x0) rfl
@[simp] theorem State.linksUp_keeps_can (x0 : State) : (State.linksUp x0).can = x0.can := same_of_hide (p := .can) (State.linksUp_hide 1125895611875327 rfl x0) rfl
@[simp] theorem State.linksUp_keeps_spi (x0 : State) : (State.linksUp x0).spi = x0.spi := same_of_hide (p := .spi) (State.linksUp_hide 1125891316908031 rfl x0) rfl
@[simp] theorem State.linksUp_keeps_sec (x0 : State) : (State.linksUp x0).sec = x0.sec := same_of_hide (p := .sec) (State.linksUp_hide 1125882726973439 rfl x0) rfl
@[simp] theorem State.linksUp_keeps_free (x0 : State) : (State.linksUp x0).free = x0.free := same_of_hide (p := .free) (State.linksUp_hide 1125865547104255 rfl x0) rfl
@[simp] theorem State.takeCurrents_keeps_fe (x0 : State) (x1) (x2) : (State.takeCurrents x0 x1 x2).fe = x0.fe := same_of_hide (p := .fe) (State.takeCurrents_hide 1125899906842621 rfl x0 x1 x2) rfl
@[simp] theorem State.lawInputs_keeps_grid (x0 : State) : (State.lawInputs x0).grid = x0.grid := same_of_hide (p := .grid) (State.lawInputs_hide 1125899906842622 rfl x0) rfl
@[simp] theorem State.lawInputs_keeps_prot (x0 : State) : (State.lawInputs x0).prot = x0.prot := same_of_hide (p := .prot) (State.lawInputs_hide 1125899904745471 rfl x0) rfl
@[simp] theorem State.lawInputs_keeps_conv (x0 : State) : (State.lawInputs x0).conv = x0.conv := same_of_hide (p := .conv) (State.lawInputs_hide 1125899898454015 rfl x0) rfl
@[simp] theorem State.excStep_keeps_grid (x0 : State) : (State.excStep x0).grid = x0.grid := same_of_hide (p := .grid) (State.excStep_hide 1125899906842622 rfl x0) rfl
@[simp] theorem State.excStep_keeps_prot (x0 : State) : (State.excStep x0).prot = x0.prot := same_of_hide (p := .prot) (State.excStep_hide 1125899904745471 rfl x0) rfl
@[simp] theorem State.excStep_keeps_conv (x0 : State) : (State.excStep x0).conv = x0.conv := same_of_hide (p := .conv) (State.excStep_hide 1125899898454015 rfl x0) rfl
@[simp] theorem State.excStep_keeps_law (x0 : State) : (State.excStep x0).law = x0.law := same_of_hide (p := .law) (State.excStep_hide 1125899890065407 rfl x0) rfl
@[simp] theorem State.initCells_keeps_grid (x0 : State) (x1) (x2) : (State.initCells x0 x1 x2).grid = x0.grid := same_of_hide (p := .grid) (State.initCells_hide 1125899906842622 rfl x0 x1 x2) rfl
@[simp] theorem State.initCells_keeps_fe (x0 : State) (x1) (x2) : (State.initCells x0 x1 x2).fe = x0.fe := same_of_hide (p := .fe) (State.initCells_hide 1125899906842621 rfl x0 x1 x2) rfl
@[simp] theorem State.initCells_keeps_chan (x0 : State) (x1) (x2) : (State.initCells x0 x1 x2).chan = x0.chan := same_of_hide (p := .chan) (State.initCells_hide 1125899906842619 rfl x0 x1 x2) rfl
@[simp] theorem State.initCells_keeps_tap (x0 : State) (x1) (x2) : (State.initCells x0 x1 x2).tap = x0.tap := same_of_hide (p := .tap) (State.initCells_hide 1125899906842615 rfl x0 x1 x2) rfl
@[simp] theorem State.initCells_keeps_ow (x0 : State) (x1) (x2) : (State.initCells x0 x1 x2).ow = x0.ow := same_of_hide (p := .ow) (State.initCells_hide 1125899906842607 rfl x0 x1 x2) rfl
@[simp] theorem State.initCells_keeps_cfe (x0 : State) (x1) (x2) : (State.initCells x0 x1 x2).cfe = x0.cfe := same_of_hide (p := .cfe) (State.initCells_hide 1125899906842591 rfl x0 x1 x2) rfl
@[simp] theorem State.initCells_keeps_branch (x0 : State) (x1) (x2) : (State.initCells x0 x1 x2).branch = x0.branch := same_of_hide (p := .branch) (State.initCells_hide 1125899906842559 rfl x0 x1 x2) rfl
@[simp] theorem State.initCells_keeps_pan (x0 : State) (x1) (x2) : (State.initCells x0 x1 x2).pan = x0.pan := same_of_hide (p := .pan) (State.initCells_hide 1125899906842495 rfl x0 x1 x2) rfl
@[simp] theorem State.initCells_keeps_slot (x0 : State) (x1) (x2) : (State.initCells x0 x1 x2).slot = x0.slot := same_of_hide (p := .slot) (State.initCells_hide 1125899906842367 rfl x0 x1 x2) rfl
@[simp] theorem State.initCells_keeps_sluice (x0 : State) (x1) (x2) : (State.initCells x0 x1 x2).sluice = x0.sluice := same_of_hide (p := .sluice) (State.initCells_hide 1125899906842111 rfl x0 x1 x2) rfl
@[simp] theorem State.initCells_keeps_nvm (x0 : State) (x1) (x2) : (State.initCells x0 x1 x2).nvm = x0.nvm := same_of_hide (p := .nvm) (State.initCells_hide 1125899906841599 rfl x0 x1 x2) rfl
@[simp] theorem State.initCells_keeps_sched (x0 : State) (x1) (x2) : (State.initCells x0 x1 x2).sched = x0.sched := same_of_hide (p := .sched) (State.initCells_hide 1125899906840575 rfl x0 x1 x2) rfl
@[simp] theorem State.initCells_keeps_gov (x0 : State) (x1) (x2) : (State.initCells x0 x1 x2).gov = x0.gov := same_of_hide (p := .gov) (State.initCells_hide 1125899906838527 rfl x0 x1 x2) rfl
@[simp] theorem State.initCells_keeps_str (x0 : State) (x1) (x2) : (State.initCells x0 x1 x2).str = x0.str := same_of_hide (p := .str) (State.initCells_hide 1125899906809855 rfl x0 x1 x2) rfl
@[simp] theorem State.initCells_keeps_eis (x0 : State) (x1) (x2) : (State.initCells x0 x1 x2).eis = x0.eis := same_of_hide (p := .eis) (State.initCells_hide 1125899906777087 rfl x0 x1 x2) rfl
@[simp] theorem State.initCells_keeps_thermo (x0 : State) (x1) (x2) : (State.initCells x0 x1 x2).thermo = x0.thermo := same_of_hide (p := .thermo) (State.initCells_hide 1125899906711551 rfl x0 x1 x2) rfl
@[simp] theorem State.initCells_keeps_ntc (x0 : State) (x1) (x2) : (State.initCells x0 x1 x2).ntc = x0.ntc := same_of_hide (p := .ntc) (State.initCells_hide 1125899906580479 rfl x0 x1 x2) rfl
@[simp] theorem State.initCells_keeps_tbl (x0 : State) (x1) (x2) : (State.initCells x0 x1 x2).tbl = x0.tbl := same_of_hide (p := .tbl) (State.initCells_hide 1125899906318335 rfl x0 x1 x2) rfl
@[simp] theorem State.initCells_keeps_bal (x0 : State) (x1) (x2) : (State.initCells x0 x1 x2).bal = x0.bal := same_of_hide (p := .bal) (State.initCells_hide 1125899905794047 rfl x0 x1 x2) rfl
@[simp] theorem State.initCells_keeps_prot (x0 : State) (x1) (x2) : (State.initCells x0 x1 x2).prot = x0.prot := same_of_hide (p := .prot) (State.initCells_hide 1125899904745471 rfl x0 x1 x2) rfl
@[simp] theorem State.initCells_keeps_phase (x0 : State) (x1) (x2) : (State.initCells x0 x1 x2).phase = x0.phase := same_of_hide (p := .phase) (State.initCells_hide 1125899902648319 rfl x0 x1 x2) rfl
@[simp] theorem State.initCells_keeps_conv (x0 : State) (x1) (x2) : (State.initCells x0 x1 x2).conv = x0.conv := same_of_hide (p := .conv) (State.initCells_hide 1125899898454015 rfl x0 x1 x2) rfl
@[simp] theorem State.initCells_keeps_law (x0 : State) (x1) (x2) : (State.initCells x0 x1 x2).law = x0.law := same_of_hide (p := .law) (State.initCells_hide 1125899890065407 rfl x0 x1 x2) rfl
@[simp] theorem State.initCells_keeps_ring (x0 : State) (x1) (x2) : (State.initCells x0 x1 x2).ring = x0.ring := same_of_hide (p := .ring) (State.initCells_hide 1125899873288191 rfl x0 x1 x2) rfl
@[simp] theorem State.initCells_keeps_lane (x0 : State) (x1) (x2) : (State.initCells x0 x1 x2).lane = x0.lane := same_of_hide (p := .lane) (State.initCells_hide 1125899839733759 rfl x0 x1 x2) rfl
@[simp] theorem State.initCells_keeps_lanes (x0 : State) (x1) (x2) : (State.initCells x0 x1 x2).lanes = x0.lanes := same_of_hide (p := .lanes) (State.initCells_hide 1125899772624895 rfl x0 x1 x2) rfl
@[simp] theorem State.initCells_keeps_safe (x0 : State) (x1) (x2) : (State.initCells x0 x1 x2).safe = x0.safe := same_of_hide (p := .safe) (State.initCells_hide 1125899638407167 rfl x0 x1 x2) rfl
@[simp] theorem State.initCells_keeps_power (x0 : State) (x1) (x2) : (State.initCells x0 x1 x2).power = x0.power := same_of_hide (p := .power) (State.initCells_hide 1125899369971711 rfl x0 x1 x2) rfl
@[simp] theorem State.initCells_keeps_port (x0 : State) (x1) (x2) : (State.initCells x0 x1 x2).port = x0.port := same_of_hide (p := .port) (State.initCells_hide 1125898833100799 rfl x0 x1 x2) rfl
@[simp] theorem State.initCells_keeps_ploza (x0 : State) (x1) (x2) : (State.initCells x0 x1 x2).ploza = x0.ploza := same_of_hide (p := .ploza) (State.initCells_hide 1125897759358975 rfl x0 x1 x2) rfl
@[simp] theorem State.initCells_keeps_can (x0 : State) (x1) (x2) : (State.initCells x0 x1 x2).can = x0.can := same_of_hide (p := .can) (State.initCells_hide 1125895611875327 rfl x0 x1 x2) rfl
@[simp] theorem State.initCells_keeps_spi (x0 : State) (x1) (x2) : (State.initCells x0 x1 x2).spi = x0.spi := same_of_hide (p := .spi) (State.initCells_hide 1125891316908031 rfl x0 x1 x2) rfl
@[simp] theorem State.initCells_keeps_sec (x0 : State) (x1) (x2) : (State.initCells x0 x1 x2).sec = x0.sec := same_of_hide (p := .sec) (State.initCells_hide 1125882726973439 rfl x0 x1 x2) rfl
@[simp] theorem State.initCells_keeps_free (x0 : State) (x1) (x2) : (State.initCells x0 x1 x2).free = x0.free := same_of_hide (p := .free) (State.initCells_hide 1125865547104255 rfl x0 x1 x2) rfl
@[simp] theorem State.nvmAsk_keeps_prot (x0 : State) (x1) : (State.nvmAsk x0 x1).prot = x0.prot := same_of_hide (p := .prot) (State.nvmAsk_hide 1125899904745471 rfl x0 x1) rfl
@[simp] theorem State.nvmAsk_keeps_conv (x0 : State) (x1) : (State.nvmAsk x0 x1).conv = x0.conv := same_of_hide (p := .conv) (State.nvmAsk_hide 1125899898454015 rfl x0 x1) rfl
@[simp] theorem State.startBist_keeps_grid (x0 : State) : (State.startBist x0).grid = x0.grid := same_of_hide (p := .grid) (State.startBist_hide 1125899906842622 rfl x0) rfl
@[simp] theorem State.startBist_keeps_fe (x0 : State) : (State.startBist x0).fe = x0.fe := same_of_hide (p := .fe) (State.startBist_hide 1125899906842621 rfl x0) rfl
@[simp] theorem State.startBist_keeps_chan (x0 : State) : (State.startBist x0).chan = x0.chan := same_of_hide (p := .chan) (State.startBist_hide 1125899906842619 rfl x0) rfl
@[simp] theorem State.startBist_keeps_tap (x0 : State) : (State.startBist x0).tap = x0.tap := same_of_hide (p := .tap) (State.startBist_hide 1125899906842615 rfl x0) rfl
@[simp] theorem State.startBist_keeps_ow (x0 : State) : (State.startBist x0).ow = x0.ow := same_of_hide (p := .ow) (State.startBist_hide 1125899906842607 rfl x0) rfl
@[simp] theorem State.startBist_keeps_cfe (x0 : State) : (State.startBist x0).cfe = x0.cfe := same_of_hide (p := .cfe) (State.startBist_hide 1125899906842591 rfl x0) rfl
@[simp] theorem State.startBist_keeps_branch (x0 : State) : (State.startBist x0).branch = x0.branch := same_of_hide (p := .branch) (State.startBist_hide 1125899906842559 rfl x0) rfl
@[simp] theorem State.startBist_keeps_nvm (x0 : State) : (State.startBist x0).nvm = x0.nvm := same_of_hide (p := .nvm) (State.startBist_hide 1125899906841599 rfl x0) rfl
@[simp] theorem State.startBist_keeps_sched (x0 : State) : (State.startBist x0).sched = x0.sched := same_of_hide (p := .sched) (State.startBist_hide 1125899906840575 rfl x0) rfl
@[simp] theorem State.startBist_keeps_gov (x0 : State) : (State.startBist x0).gov = x0.gov := same_of_hide (p := .gov) (State.startBist_hide 1125899906838527 rfl x0) rfl
@[simp] theorem State.startBist_keeps_est (x0 : State) : (State.startBist x0).est = x0.est := same_of_hide (p := .est) (State.startBist_hide 1125899906834431 rfl x0) rfl
@[simp] theorem State.startBist_keeps_estMod (x0 : State) : (State.startBist x0).estMod = x0.estMod := same_of_hide (p := .estMod) (State.startBist_hide 1125899906826239 rfl x0) rfl
@[simp] theorem State.startBist_keeps_str (x0 : State) : (State.startBist x0).str = x0.str := same_of_hide (p := .str) (State.startBist_hide 1125899906809855 rfl x0) rfl
@[simp] theorem State.startBist_keeps_eis (x0 : State) : (State.startBist x0).eis = x0.eis := same_of_hide (p := .eis) (State.startBist_hide 1125899906777087 rfl x0) rfl
@[simp] theorem State.startBist_keeps_thermo (x0 : State) : (State.startBist x0).thermo = x0.thermo := same_of_hide (p := .thermo) (State.startBist_hide 1125899906711551 rfl x0) rfl
@[simp] theorem State.startBist_keeps_ntc (x0 : State) : (State.startBist x0).ntc = x0.ntc := same_of_hide (p := .ntc) (State.startBist_hide 1125899906580479 rfl x0) rfl
@[simp] theorem State.startBist_keeps_tbl (x0 : State) : (State.startBist x0).tbl = x0.tbl := same_of_hide (p := .tbl) (State.startBist_hide 1125899906318335 rfl x0) rfl
@[simp] theorem State.startBist_keeps_bal (x0 : State) : (State.startBist x0).bal = x0.bal := same_of_hide (p := .bal) (State.startBist_hide 1125899905794047 rfl x0) rfl
@[simp] theorem State.startBist_keeps_prot (x0 : State) : (State.startBist x0).prot = x0.prot := same_of_hide (p := .prot) (State.startBist_hide 1125899904745471 rfl x0) rfl
@[simp] theorem State.startBist_keeps_phase (x0 : State) : (State.startBist x0).phase = x0.phase := same_of_hide (p := .phase) (State.startBist_hide 1125899902648319 rfl x0) rfl
@[simp] theorem State.startBist_keeps_conv (x0 : State) : (State.startBist x0).conv = x0.conv := same_of_hide (p := .conv) (State.startBist_hide 1125899898454015 rfl x0) rfl
@[simp] theorem State.startBist_keeps_law (x0 : State) : (State.startBist x0).law = x0.law := same_of_hide (p := .law) (State.startBist_hide 1125899890065407 rfl x0) rfl
@[simp] theorem State.startBist_keeps_ring (x0 : State) : (State.startBist x0).ring = x0.ring := same_of_hide (p := .ring) (State.startBist_hide 1125899873288191 rfl x0) rfl
@[simp] theorem State.startBist_keeps_lane (x0 : State) : (State.startBist x0).lane = x0.lane := same_of_hide (p := .lane) (State.startBist_hide 1125899839733759 rfl x0) rfl
@[simp] theorem State.startBist_keeps_lanes (x0 : State) : (State.startBist x0).lanes = x0.lanes := same_of_hide (p := .lanes) (State.startBist_hide 1125899772624895 rfl x0) rfl
@[simp] theorem State.startBist_keeps_safe (x0 : State) : (State.startBist x0).safe = x0.safe := same_of_hide (p := .safe) (State.startBist_hide 1125899638407167 rfl x0) rfl
@[simp] theorem State.startBist_keeps_power (x0 : State) : (State.startBist x0).power = x0.power := same_of_hide (p := .power) (State.startBist_hide 1125899369971711 rfl x0) rfl
@[simp] theorem State.startBist_keeps_port (x0 : State) : (State.startBist x0).port = x0.port := same_of_hide (p := .port) (State.startBist_hide 1125898833100799 rfl x0) rfl
@[simp] theorem State.startBist_keeps_ploza (x0 : State) : (State.startBist x0).ploza = x0.ploza := same_of_hide (p := .ploza) (State.startBist_hide 1125897759358975 rfl x0) rfl
@[simp] theorem State.startBist_keeps_can (x0 : State) : (State.startBist x0).can = x0.can := same_of_hide (p := .can) (State.startBist_hide 1125895611875327 rfl x0) rfl
@[simp] theorem State.startBist_keeps_spi (x0 : State) : (State.startBist x0).spi = x0.spi := same_of_hide (p := .spi) (State.startBist_hide 1125891316908031 rfl x0) rfl
@[simp] theorem State.startBist_keeps_sec (x0 : State) : (State.startBist x0).sec = x0.sec := same_of_hide (p := .sec) (State.startBist_hide 1125882726973439 rfl x0) rfl
@[simp] theorem State.startBist_keeps_free (x0 : State) : (State.startBist x0).free = x0.free := same_of_hide (p := .free) (State.startBist_hide 1125865547104255 rfl x0) rfl
@[simp] theorem State.jobFlags_keeps_sched (x0 : State) (x1) (x2) : (State.jobFlags x0 x1 x2).sched = x0.sched := same_of_hide (p := .sched) (State.jobFlags_hide 1125899906840575 rfl x0 x1 x2) rfl
@[simp] theorem State.releaseToken_keeps_grid (x0 : State) : (State.releaseToken x0).grid = x0.grid := same_of_hide (p := .grid) (State.releaseToken_hide 1125899906842622 rfl x0) rfl
@[simp] theorem State.releaseToken_keeps_fe (x0 : State) : (State.releaseToken x0).fe = x0.fe := same_of_hide (p := .fe) (State.releaseToken_hide 1125899906842621 rfl x0) rfl
@[simp] theorem State.releaseToken_keeps_chan (x0 : State) : (State.releaseToken x0).chan = x0.chan := same_of_hide (p := .chan) (State.releaseToken_hide 1125899906842619 rfl x0) rfl
@[simp] theorem State.releaseToken_keeps_tap (x0 : State) : (State.releaseToken x0).tap = x0.tap := same_of_hide (p := .tap) (State.releaseToken_hide 1125899906842615 rfl x0) rfl
@[simp] theorem State.releaseToken_keeps_ow (x0 : State) : (State.releaseToken x0).ow = x0.ow := same_of_hide (p := .ow) (State.releaseToken_hide 1125899906842607 rfl x0) rfl
@[simp] theorem State.releaseToken_keeps_cfe (x0 : State) : (State.releaseToken x0).cfe = x0.cfe := same_of_hide (p := .cfe) (State.releaseToken_hide 1125899906842591 rfl x0) rfl
@[simp] theorem State.releaseToken_keeps_branch (x0 : State) : (State.releaseToken x0).branch = x0.branch := same_of_hide (p := .branch) (State.releaseToken_hide 1125899906842559 rfl x0) rfl
@[simp] theorem State.releaseToken_keeps_pan (x0 : State) : (State.releaseToken x0).pan = x0.pan := same_of_hide (p := .pan) (State.releaseToken_hide 1125899906842495 rfl x0) rfl
@[simp] theorem State.releaseToken_keeps_slot (x0 : State) : (State.releaseToken x0).slot = x0.slot := same_of_hide (p := .slot) (State.releaseToken_hide 1125899906842367 rfl x0) rfl
@[simp] theorem State.releaseToken_keeps_sluice (x0 : State) : (State.releaseToken x0).sluice = x0.sluice := same_of_hide (p := .sluice) (State.releaseToken_hide 1125899906842111 rfl x0) rfl
@[simp] theorem State.releaseToken_keeps_nvm (x0 : State) : (State.releaseToken x0).nvm = x0.nvm := same_of_hide (p := .nvm) (State.releaseToken_hide 1125899906841599 rfl x0) rfl
@[simp] theorem State.releaseToken_keeps_sched (x0 : State) : (State.releaseToken x0).sched = x0.sched := same_of_hide (p := .sched) (State.releaseToken_hide 1125899906840575 rfl x0) rfl
@[simp] theorem State.releaseToken_keeps_gov (x0 : State) : (State.releaseToken x0).gov = x0.gov := same_of_hide (p := .gov) (State.releaseToken_hide 1125899906838527 rfl x0) rfl
@[simp] theorem State.releaseToken_keeps_est (x0 : State) : (State.releaseToken x0).est = x0.est := same_of_hide (p := .est) (State.releaseToken_hide 1125899906834431 rfl x0) rfl
@[simp] theorem State.releaseToken_keeps_estMod (x0 : State) : (State.releaseToken x0).estMod = x0.estMod := same_of_hide (p := .estMod) (State.releaseToken_hide 1125899906826239 rfl x0) rfl
@[simp] theorem State.releaseToken_keeps_str (x0 : State) : (State.releaseToken x0).str = x0.str := same_of_hide (p := .str) (State.releaseToken_hide 1125899906809855 rfl x0) rfl
@[simp] theorem State.releaseToken_keeps_eis (x0 : State) : (State.releaseToken x0).eis = x0.eis := same_of_hide (p := .eis) (State.releaseToken_hide 1125899906777087 rfl x0) rfl
@[simp] theorem State.releaseToken_keeps_thermo (x0 : State) : (State.releaseToken x0).thermo = x0.thermo := same_of_hide (p := .thermo) (State.releaseToken_hide 1125899906711551 rfl x0) rfl
@[simp] theorem State.releaseToken_keeps_ntc (x0 : State) : (State.releaseToken x0).ntc = x0.ntc := same_of_hide (p := .ntc) (State.releaseToken_hide 1125899906580479 rfl x0) rfl
@[simp] theorem State.releaseToken_keeps_tbl (x0 : State) : (State.releaseToken x0).tbl = x0.tbl := same_of_hide (p := .tbl) (State.releaseToken_hide 1125899906318335 rfl x0) rfl
@[simp] theorem State.releaseToken_keeps_bal (x0 : State) : (State.releaseToken x0).bal = x0.bal := same_of_hide (p := .bal) (State.releaseToken_hide 1125899905794047 rfl x0) rfl
@[simp] theorem State.releaseToken_keeps_prot (x0 : State) : (State.releaseToken x0).prot = x0.prot := same_of_hide (p := .prot) (State.releaseToken_hide 1125899904745471 rfl x0) rfl
@[simp] theorem State.releaseToken_keeps_phase (x0 : State) : (State.releaseToken x0).phase = x0.phase := same_of_hide (p := .phase) (State.releaseToken_hide 1125899902648319 rfl x0) rfl
@[simp] theorem State.releaseToken_keeps_conv (x0 : State) : (State.releaseToken x0).conv = x0.conv := same_of_hide (p := .conv) (State.releaseToken_hide 1125899898454015 rfl x0) rfl
@[simp] theorem State.releaseToken_keeps_law (x0 : State) : (State.releaseToken x0).law = x0.law := same_of_hide (p := .law) (State.releaseToken_hide 1125899890065407 rfl x0) rfl
@[simp] theorem State.releaseToken_keeps_ring (x0 : State) : (State.releaseToken x0).ring = x0.ring := same_of_hide (p := .ring) (State.releaseToken_hide 1125899873288191 rfl x0) rfl
@[simp] theorem State.releaseToken_keeps_lane (x0 : State) : (State.releaseToken x0).lane = x0.lane := same_of_hide (p := .lane) (State.releaseToken_hide 1125899839733759 rfl x0) rfl
@[simp] theorem State.releaseToken_keeps_safe (x0 : State) : (State.releaseToken x0).safe = x0.safe := same_of_hide (p := .safe) (State.releaseToken_hide 1125899638407167 rfl x0) rfl
@[simp] theorem State.releaseToken_keeps_power (x0 : State) : (State.releaseToken x0).power = x0.power := same_of_hide (p := .power) (State.releaseToken_hide 1125899369971711 rfl x0) rfl
@[simp] theorem State.releaseToken_keeps_port (x0 : State) : (State.releaseToken x0).port = x0.port := same_of_hide (p := .port) (State.releaseToken_hide 1125898833100799 rfl x0) rfl
@[simp] theorem State.releaseToken_keeps_ploza (x0 : State) : (State.releaseToken x0).ploza = x0.ploza := same_of_hide (p := .ploza) (State.releaseToken_hide 1125897759358975 rfl x0) rfl
@[simp] theorem State.releaseToken_keeps_can (x0 : State) : (State.releaseToken x0).can = x0.can := same_of_hide (p := .can) (State.releaseToken_hide 1125895611875327 rfl x0) rfl
@[simp] theorem State.releaseToken_keeps_spi (x0 : State) : (State.releaseToken x0).spi = x0.spi := same_of_hide (p := .spi) (State.releaseToken_hide 1125891316908031 rfl x0) rfl
@[simp] theorem State.releaseToken_keeps_sec (x0 : State) : (State.releaseToken x0).sec = x0.sec := same_of_hide (p := .sec) (State.releaseToken_hide 1125882726973439 rfl x0) rfl
@[simp] theorem State.releaseToken_keeps_free (x0 : State) : (State.releaseToken x0).free = x0.free := same_of_hide (p := .free) (State.releaseToken_hide 1125865547104255 rfl x0) rfl
@[simp] theorem State.noticeCan_keeps_ring (x0 : State) (x1) (x2) (x3) : (State.noticeCan x0 x1 x2 x3).ring = x0.ring := same_of_hide (p := .ring) (State.noticeCan_hide 1125899873288191 rfl x0 x1 x2 x3) rfl
@[simp] theorem State.noticeCan_keeps_port (x0 : State) (x1) (x2) (x3) : (State.noticeCan x0 x1 x2 x3).port = x0.port := same_of_hide (p := .port) (State.noticeCan_hide 1125898833100799 rfl x0 x1 x2 x3) rfl
@[simp] theorem State.convCapture_keeps_grid (x0 : State) (x1) (x2) (x3) (x4) : (State.convCapture x0 x1 x2 x3 x4).grid = x0.grid := same_of_hide (p := .grid) (State.convCapture_hide 1125899906842622 rfl x0 x1 x2 x3 x4) rfl
@[simp] theorem State.convCapture_keeps_fe (x0 : State) (x1) (x2) (x3) (x4) : (State.convCapture x0 x1 x2 x3 x4).fe = x0.fe := same_of_hide (p := .fe) (State.convCapture_hide 1125899906842621 rfl x0 x1 x2 x3 x4) rfl
@[simp] theorem State.convCapture_keeps_chan (x0 : State) (x1) (x2) (x3) (x4) : (State.convCapture x0 x1 x2 x3 x4).chan = x0.chan := same_of_hide (p := .chan) (State.convCapture_hide 1125899906842619 rfl x0 x1 x2 x3 x4) rfl
@[simp] theorem State.convCapture_keeps_tap (x0 : State) (x1) (x2) (x3) (x4) : (State.convCapture x0 x1 x2 x3 x4).tap = x0.tap := same_of_hide (p := .tap) (State.convCapture_hide 1125899906842615 rfl x0 x1 x2 x3 x4) rfl
@[simp] theorem State.convCapture_keeps_ow (x0 : State) (x1) (x2) (x3) (x4) : (State.convCapture x0 x1 x2 x3 x4).ow = x0.ow := same_of_hide (p := .ow) (State.convCapture_hide 1125899906842607 rfl x0 x1 x2 x3 x4) rfl
@[simp] theorem State.convCapture_keeps_cfe (x0 : State) (x1) (x2) (x3) (x4) : (State.convCapture x0 x1 x2 x3 x4).cfe = x0.cfe := same_of_hide (p := .cfe) (State.convCapture_hide 1125899906842591 rfl x0 x1 x2 x3 x4) rfl
@[simp] theorem State.convCapture_keeps_branch (x0 : State) (x1) (x2) (x3) (x4) : (State.convCapture x0 x1 x2 x3 x4).branch = x0.branch := same_of_hide (p := .branch) (State.convCapture_hide 1125899906842559 rfl x0 x1 x2 x3 x4) rfl
@[simp] theorem State.convCapture_keeps_pan (x0 : State) (x1) (x2) (x3) (x4) : (State.convCapture x0 x1 x2 x3 x4).pan = x0.pan := same_of_hide (p := .pan) (State.convCapture_hide 1125899906842495 rfl x0 x1 x2 x3 x4) rfl
@[simp] theorem State.convCapture_keeps_slot (x0 : State) (x1) (x2) (x3) (x4) : (State.convCapture x0 x1 x2 x3 x4).slot = x0.slot := same_of_hide (p := .slot) (State.convCapture_hide 1125899906842367 rfl x0 x1 x2 x3 x4) rfl
@[simp] theorem State.convCapture_keeps_sluice (x0 : State) (x1) (x2) (x3) (x4) : (State.convCapture x0 x1 x2 x3 x4).sluice = x0.sluice := same_of_hide (p := .sluice) (State.convCapture_hide 1125899906842111 rfl x0 x1 x2 x3 x4) rfl
@[simp] theorem State.convCapture_keeps_nvm (x0 : State) (x1) (x2) (x3) (x4) : (State.convCapture x0 x1 x2 x3 x4).nvm = x0.nvm := same_of_hide (p := .nvm) (State.convCapture_hide 1125899906841599 rfl x0 x1 x2 x3 x4) rfl
@[simp] theorem State.convCapture_keeps_sched (x0 : State) (x1) (x2) (x3) (x4) : (State.convCapture x0 x1 x2 x3 x4).sched = x0.sched := same_of_hide (p := .sched) (State.convCapture_hide 1125899906840575 rfl x0 x1 x2 x3 x4) rfl
@[simp] theorem State.convCapture_keeps_gov (x0 : State) (x1) (x2) (x3) (x4) : (State.convCapture x0 x1 x2 x3 x4).gov = x0.gov := same_of_hide (p := .gov) (State.convCapture_hide 1125899906838527 rfl x0 x1 x2 x3 x4) rfl
@[simp] theorem State.convCapture_keeps_est (x0 : State) (x1) (x2) (x3) (x4) : (State.convCapture x0 x1 x2 x3 x4).est = x0.est := same_of_hide (p := .est) (State.convCapture_hide 1125899906834431 rfl x0 x1 x2 x3 x4) rfl
@[simp] theorem State.convCapture_keeps_estMod (x0 : State) (x1) (x2) (x3) (x4) : (State.convCapture x0 x1 x2 x3 x4).estMod = x0.estMod := same_of_hide (p := .estMod) (State.convCapture_hide 1125899906826239 rfl x0 x1 x2 x3 x4) rfl
@[simp] theorem State.convCapture_keeps_str (x0 : State) (x1) (x2) (x3) (x4) : (State.convCapture x0 x1 x2 x3 x4).str = x0.str := same_of_hide (p := .str) (State.convCapture_hide 1125899906809855 rfl x0 x1 x2 x3 x4) rfl
@[simp] theorem State.convCapture_keeps_eis (x0 : State) (x1) (x2) (x3) (x4) : (State.convCapture x0 x1 x2 x3 x4).eis = x0.eis := same_of_hide (p := .eis) (State.convCapture_hide 1125899906777087 rfl x0 x1 x2 x3 x4) rfl
@[simp] theorem State.convCapture_keeps_thermo (x0 : State) (x1) (x2) (x3) (x4) : (State.convCapture x0 x1 x2 x3 x4).thermo = x0.thermo := same_of_hide (p := .thermo) (State.convCapture_hide 1125899906711551 rfl x0 x1 x2 x3 x4) rfl
@[simp] theorem State.convCapture_keeps_ntc (x0 : State) (x1) (x2) (x3) (x4) : (State.convCapture x0 x1 x2 x3 x4).ntc = x0.ntc := same_of_hide (p := .ntc) (State.convCapture_hide 1125899906580479 rfl x0 x1 x2 x3 x4) rfl
@[simp] theorem State.convCapture_keeps_tbl (x0 : State) (x1) (x2) (x3) (x4) : (State.convCapture x0 x1 x2 x3 x4).tbl = x0.tbl := same_of_hide (p := .tbl) (State.convCapture_hide 1125899906318335 rfl x0 x1 x2 x3 x4) rfl
@[simp] theorem State.convCapture_keeps_bal (x0 : State) (x1) (x2) (x3) (x4) : (State.convCapture x0 x1 x2 x3 x4).bal = x0.bal := same_of_hide (p := .bal) (State.convCapture_hide 1125899905794047 rfl x0 x1 x2 x3 x4) rfl
@[simp] theorem State.convCapture_keeps_prot (x0 : State) (x1) (x2) (x3) (x4) : (State.convCapture x0 x1 x2 x3 x4).prot = x0.prot := same_of_hide (p := .prot) (State.convCapture_hide 1125899904745471 rfl x0 x1 x2 x3 x4) rfl
@[simp] theorem State.convCapture_keeps_phase (x0 : State) (x1) (x2) (x3) (x4) : (State.convCapture x0 x1 x2 x3 x4).phase = x0.phase := same_of_hide (p := .phase) (State.convCapture_hide 1125899902648319 rfl x0 x1 x2 x3 x4) rfl
@[simp] theorem State.convCapture_keeps_law (x0 : State) (x1) (x2) (x3) (x4) : (State.convCapture x0 x1 x2 x3 x4).law = x0.law := same_of_hide (p := .law) (State.convCapture_hide 1125899890065407 rfl x0 x1 x2 x3 x4) rfl
@[simp] theorem State.convCapture_keeps_ring (x0 : State) (x1) (x2) (x3) (x4) : (State.convCapture x0 x1 x2 x3 x4).ring = x0.ring := same_of_hide (p := .ring) (State.convCapture_hide 1125899873288191 rfl x0 x1 x2 x3 x4) rfl
@[simp] theorem State.convCapture_keeps_lane (x0 : State) (x1) (x2) (x3) (x4) : (State.convCapture x0 x1 x2 x3 x4).lane = x0.lane := same_of_hide (p := .lane) (State.convCapture_hide 1125899839733759 rfl x0 x1 x2 x3 x4) rfl
@[simp] theorem State.convCapture_keeps_lanes (x0 : State) (x1) (x2) (x3) (x4) : (State.convCapture x0 x1 x2 x3 x4).lanes = x0.lanes := same_of_hide (p := .lanes) (State.convCapture_hide 1125899772624895 rfl x0 x1 x2 x3 x4) rfl
@[simp] theorem State.convCapture_keeps_safe (x0 : State) (x1) (x2) (x3) (x4) : (State.convCapture x0 x1 x2 x3 x4).safe = x0.safe := same_of_hide (p := .safe) (State.convCapture_hide 1125899638407167 rfl x0 x1 x2 x3 x4) rfl
@[simp] theorem State.convCapture_keeps_power (x0 : State) (x1) (x2) (x3) (x4) : (State.convCapture x0 x1 x2 x3 x4).power = x0.power := same_of_hide (p := .power) (State.convCapture_hide 1125899369971711 rfl x0 x1 x2 x3 x4) rfl
@[simp] theorem State.convCapture_keeps_port (x0 : State) (x1) (x2) (x3) (x4) : (State.convCapture x0 x1 x2 x3 x4).port = x0.port := same_of_hide (p := .port) (State.convCapture_hide 1125898833100799 rfl x0 x1 x2 x3 x4) rfl
@[simp] theorem State.convCapture_keeps_ploza (x0 : State) (x1) (x2) (x3) (x4) : (State.convCapture x0 x1 x2 x3 x4).ploza = x0.ploza := same_of_hide (p := .ploza) (State.convCapture_hide 1125897759358975 rfl x0 x1 x2 x3 x4) rfl
@[simp] theorem State.convCapture_keeps_can (x0 : State) (x1) (x2) (x3) (x4) : (State.convCapture x0 x1 x2 x3 x4).can = x0.can := same_of_hide (p := .can) (State.convCapture_hide 1125895611875327 rfl x0 x1 x2 x3 x4) rfl
@[simp] theorem State.convCapture_keeps_spi (x0 : State) (x1) (x2) (x3) (x4) : (State.convCapture x0 x1 x2 x3 x4).spi = x0.spi := same_of_hide (p := .spi) (State.convCapture_hide 1125891316908031 rfl x0 x1 x2 x3 x4) rfl
@[simp] theorem State.convCapture_keeps_sec (x0 : State) (x1) (x2) (x3) (x4) : (State.convCapture x0 x1 x2 x3 x4).sec = x0.sec := same_of_hide (p := .sec) (State.convCapture_hide 1125882726973439 rfl x0 x1 x2 x3 x4) rfl
@[simp] theorem State.feModel_keeps_grid (x0 : State) (x1) : (State.feModel x0 x1).grid = x0.grid := same_of_hide (p := .grid) (State.feModel_hide 1125899906842622 rfl x0 x1) rfl
@[simp] theorem State.feModel_keeps_fe (x0 : State) (x1) : (State.feModel x0 x1).fe = x0.fe := same_of_hide (p := .fe) (State.feModel_hide 1125899906842621 rfl x0 x1) rfl
@[simp] theorem State.feModel_keeps_cfe (x0 : State) (x1) : (State.feModel x0 x1).cfe = x0.cfe := same_of_hide (p := .cfe) (State.feModel_hide 1125899906842591 rfl x0 x1) rfl
@[simp] theorem State.feModel_keeps_ntc (x0 : State) (x1) : (State.feModel x0 x1).ntc = x0.ntc := same_of_hide (p := .ntc) (State.feModel_hide 1125899906580479 rfl x0 x1) rfl
@[simp] theorem State.feModel_keeps_prot (x0 : State) (x1) : (State.feModel x0 x1).prot = x0.prot := same_of_hide (p := .prot) (State.feModel_hide 1125899904745471 rfl x0 x1) rfl
@[simp] theorem State.sendRing_keeps_port (x0 : State) (x1) (x2) (x3) : (State.sendRing x0 x1 x2 x3).port = x0.port := same_of_hide (p := .port) (State.sendRing_hide 1125898833100799 rfl x0 x1 x2 x3) rfl
@[simp] theorem State.convStopWith_keeps_grid (x0 : State) (x1) (x2) (x3) (x4) (x5) : (State.convStopWith x0 x1 x2 x3 x4 x5).grid = x0.grid := same_of_hide (p := .grid) (State.convStopWith_hide 1125899906842622 rfl x0 x1 x2 x3 x4 x5) rfl
@[simp] theorem State.convStopWith_keeps_fe (x0 : State) (x1) (x2) (x3) (x4) (x5) : (State.convStopWith x0 x1 x2 x3 x4 x5).fe = x0.fe := same_of_hide (p := .fe) (State.convStopWith_hide 1125899906842621 rfl x0 x1 x2 x3 x4 x5) rfl
@[simp] theorem State.convStopWith_keeps_chan (x0 : State) (x1) (x2) (x3) (x4) (x5) : (State.convStopWith x0 x1 x2 x3 x4 x5).chan = x0.chan := same_of_hide (p := .chan) (State.convStopWith_hide 1125899906842619 rfl x0 x1 x2 x3 x4 x5) rfl
@[simp] theorem State.convStopWith_keeps_tap (x0 : State) (x1) (x2) (x3) (x4) (x5) : (State.convStopWith x0 x1 x2 x3 x4 x5).tap = x0.tap := same_of_hide (p := .tap) (State.convStopWith_hide 1125899906842615 rfl x0 x1 x2 x3 x4 x5) rfl
@[simp] theorem State.convStopWith_keeps_ow (x0 : State) (x1) (x2) (x3) (x4) (x5) : (State.convStopWith x0 x1 x2 x3 x4 x5).ow = x0.ow := same_of_hide (p := .ow) (State.convStopWith_hide 1125899906842607 rfl x0 x1 x2 x3 x4 x5) rfl
@[simp] theorem State.convStopWith_keeps_cfe (x0 : State) (x1) (x2) (x3) (x4) (x5) : (State.convStopWith x0 x1 x2 x3 x4 x5).cfe = x0.cfe := same_of_hide (p := .cfe) (State.convStopWith_hide 1125899906842591 rfl x0 x1 x2 x3 x4 x5) rfl
@[simp] theorem State.convStopWith_keeps_branch (x0 : State) (x1) (x2) (x3) (x4) (x5) : (State.convStopWith x0 x1 x2 x3 x4 x5).branch = x0.branch := same_of_hide (p := .branch) (State.convStopWith_hide 1125899906842559 rfl x0 x1 x2 x3 x4 x5) rfl
@[simp] theorem State.convStopWith_keeps_pan (x0 : State) (x1) (x2) (x3) (x4) (x5) : (State.convStopWith x0 x1 x2 x3 x4 x5).pan = x0.pan := same_of_hide (p := .pan) (State.convStopWith_hide 1125899906842495 rfl x0 x1 x2 x3 x4 x5) rfl
@[simp] theorem State.convStopWith_keeps_slot (x0 : State) (x1) (x2) (x3) (x4) (x5) : (State.convStopWith x0 x1 x2 x3 x4 x5).slot = x0.slot := same_of_hide (p := .slot) (State.convStopWith_hide 1125899906842367 rfl x0 x1 x2 x3 x4 x5) rfl
@[simp] theorem State.convStopWith_keeps_sluice (x0 : State) (x1) (x2) (x3) (x4) (x5) : (State.convStopWith x0 x1 x2 x3 x4 x5).sluice = x0.sluice := same_of_hide (p := .sluice) (State.convStopWith_hide 1125899906842111 rfl x0 x1 x2 x3 x4 x5) rfl
@[simp] theorem State.convStopWith_keeps_nvm (x0 : State) (x1) (x2) (x3) (x4) (x5) : (State.convStopWith x0 x1 x2 x3 x4 x5).nvm = x0.nvm := same_of_hide (p := .nvm) (State.convStopWith_hide 1125899906841599 rfl x0 x1 x2 x3 x4 x5) rfl
@[simp] theorem State.convStopWith_keeps_sched (x0 : State) (x1) (x2) (x3) (x4) (x5) : (State.convStopWith x0 x1 x2 x3 x4 x5).sched = x0.sched := same_of_hide (p := .sched) (State.convStopWith_hide 1125899906840575 rfl x0 x1 x2 x3 x4 x5) rfl
@[simp] theorem State.convStopWith_keeps_gov (x0 : State) (x1) (x2) (x3) (x4) (x5) : (State.convStopWith x0 x1 x2 x3 x4 x5).gov = x0.gov := same_of_hide (p := .gov) (State.convStopWith_hide 1125899906838527 rfl x0 x1 x2 x3 x4 x5) rfl
@[simp] theorem State.convStopWith_keeps_est (x0 : State) (x1) (x2) (x3) (x4) (x5) : (State.convStopWith x0 x1 x2 x3 x4 x5).est = x0.est := same_of_hide (p := .est) (State.convStopWith_hide 1125899906834431 rfl x0 x1 x2 x3 x4 x5) rfl
@[simp] theorem State.convStopWith_keeps_estMod (x0 : State) (x1) (x2) (x3) (x4) (x5) : (State.convStopWith x0 x1 x2 x3 x4 x5).estMod = x0.estMod := same_of_hide (p := .estMod) (State.convStopWith_hide 1125899906826239 rfl x0 x1 x2 x3 x4 x5) rfl
@[simp] theorem State.convStopWith_keeps_str (x0 : State) (x1) (x2) (x3) (x4) (x5) : (State.convStopWith x0 x1 x2 x3 x4 x5).str = x0.str := same_of_hide (p := .str) (State.convStopWith_hide 1125899906809855 rfl x0 x1 x2 x3 x4 x5) rfl
@[simp] theorem State.convStopWith_keeps_eis (x0 : State) (x1) (x2) (x3) (x4) (x5) : (State.convStopWith x0 x1 x2 x3 x4 x5).eis = x0.eis := same_of_hide (p := .eis) (State.convStopWith_hide 1125899906777087 rfl x0 x1 x2 x3 x4 x5) rfl
@[simp] theorem State.convStopWith_keeps_thermo (x0 : State) (x1) (x2) (x3) (x4) (x5) : (State.convStopWith x0 x1 x2 x3 x4 x5).thermo = x0.thermo := same_of_hide (p := .thermo) (State.convStopWith_hide 1125899906711551 rfl x0 x1 x2 x3 x4 x5) rfl
@[simp] theorem State.convStopWith_keeps_ntc (x0 : State) (x1) (x2) (x3) (x4) (x5) : (State.convStopWith x0 x1 x2 x3 x4 x5).ntc = x0.ntc := same_of_hide (p := .ntc) (State.convStopWith_hide 1125899906580479 rfl x0 x1 x2 x3 x4 x5) rfl
@[simp] theorem State.convStopWith_keeps_tbl (x0 : State) (x1) (x2) (x3) (x4) (x5) : (State.convStopWith x0 x1 x2 x3 x4 x5).tbl = x0.tbl := same_of_hide (p := .tbl) (State.convStopWith_hide 1125899906318335 rfl x0 x1 x2 x3 x4 x5) rfl
@[simp] theorem State.convStopWith_keeps_bal (x0 : State) (x1) (x2) (x3) (x4) (x5) : (State.convStopWith x0 x1 x2 x3 x4 x5).bal = x0.bal := same_of_hide (p := .bal) (State.convStopWith_hide 1125899905794047 rfl x0 x1 x2 x3 x4 x5) rfl
@[simp] theorem State.convStopWith_keeps_prot (x0 : State) (x1) (x2) (x3) (x4) (x5) : (State.convStopWith x0 x1 x2 x3 x4 x5).prot = x0.prot := same_of_hide (p := .prot) (State.convStopWith_hide 1125899904745471 rfl x0 x1 x2 x3 x4 x5) rfl
@[simp] theorem State.convStopWith_keeps_ring (x0 : State) (x1) (x2) (x3) (x4) (x5) : (State.convStopWith x0 x1 x2 x3 x4 x5).ring = x0.ring := same_of_hide (p := .ring) (State.convStopWith_hide 1125899873288191 rfl x0 x1 x2 x3 x4 x5) rfl
@[simp] theorem State.convStopWith_keeps_lane (x0 : State) (x1) (x2) (x3) (x4) (x5) : (State.convStopWith x0 x1 x2 x3 x4 x5).lane = x0.lane := same_of_hide (p := .lane) (State.convStopWith_hide 1125899839733759 rfl x0 x1 x2 x3 x4 x5) rfl
@[simp] theorem State.convStopWith_keeps_lanes (x0 : State) (x1) (x2) (x3) (x4) (x5) : (State.convStopWith x0 x1 x2 x3 x4 x5).lanes = x0.lanes := same_of_hide (p := .lanes) (State.convStopWith_hide 1125899772624895 rfl x0 x1 x2 x3 x4 x5) rfl
@[simp] theorem State.convStopWith_keeps_safe (x0 : State) (x1) (x2) (x3) (x4) (x5) : (State.convStopWith x0 x1 x2 x3 x4 x5).safe = x0.safe := same_of_hide (p := .safe) (State.convStopWith_hide 1125899638407167 rfl x0 x1 x2 x3 x4 x5) rfl
@[simp] theorem State.convStopWith_keeps_power (x0 : State) (x1) (x2) (x3) (x4) (x5) : (State.convStopWith x0 x1 x2 x3 x4 x5).power = x0.power := same_of_hide (p := .power) (State.convStopWith_hide 1125899369971711 rfl x0 x1 x2 x3 x4 x5) rfl
@[simp] theorem State.convStopWith_keeps_port (x0 : State) (x1) (x2) (x3) (x4) (x5) : (State.convStopWith x0 x1 x2 x3 x4 x5).port = x0.port := same_of_hide (p := .port) (State.convStopWith_hide 1125898833100799 rfl x0 x1 x2 x3 x4 x5) rfl
@[simp] theorem State.convStopWith_keeps_ploza (x0 : State) (x1) (x2) (x3) (x4) (x5) : (State.convStopWith x0 x1 x2 x3 x4 x5).ploza = x0.ploza := same_of_hide (p := .ploza) (State.convStopWith_hide 1125897759358975 rfl x0 x1 x2 x3 x4 x5) rfl
@[simp] theorem State.convStopWith_keeps_can (x0 : State) (x1) (x2) (x3) (x4) (x5) : (State.convStopWith x0 x1 x2 x3 x4 x5).can = x0.can := same_of_hide (p := .can) (State.convStopWith_hide 1125895611875327 rfl x0 x1 x2 x3 x4 x5) rfl
@[simp] theorem State.convStopWith_keeps_spi (x0 : State) (x1) (x2) (x3) (x4) (x5) : (State.convStopWith x0 x1 x2 x3 x4 x5).spi = x0.spi := same_of_hide (p := .spi) (State.convStopWith_hide 1125891316908031 rfl x0 x1 x2 x3 x4 x5) rfl
@[simp] theorem State.convStopWith_keeps_sec (x0 : State) (x1) (x2) (x3) (x4) (x5) : (State.convStopWith x0 x1 x2 x3 x4 x5).sec = x0.sec := same_of_hide (p := .sec) (State.convStopWith_hide 1125882726973439 rfl x0 x1 x2 x3 x4 x5) rfl
@[simp] theorem State.capture_keeps_fe (x0 : State) (x1) (x2) (x3) : (State.capture x0 x1 x2 x3).fe = x0.fe := same_of_hide (p := .fe) (State.capture_hide 1125899906842621 rfl x0 x1 x2 x3) rfl
@[simp] theorem State.endRequest_keeps_grid (x0 : State) (x1) (x2) (x3) (x4) : (State.endRequest x0 x1 x2 x3 x4).grid = x0.grid := same_of_hide (p := .grid) (State.endRequest_hide 1125899906842622 rfl x0 x1 x2 x3 x4) rfl
@[simp] theorem State.endRequest_keeps_fe (x0 : State) (x1) (x2) (x3) (x4) : (State.endRequest x0 x1 x2 x3 x4).fe = x0.fe := same_of_hide (p := .fe) (State.endRequest_hide 1125899906842621 rfl x0 x1 x2 x3 x4) rfl
@[simp] theorem State.endRequest_keeps_chan (x0 : State) (x1) (x2) (x3) (x4) : (State.endRequest x0 x1 x2 x3 x4).chan = x0.chan := same_of_hide (p := .chan) (State.endRequest_hide 1125899906842619 rfl x0 x1 x2 x3 x4) rfl
@[simp] theorem State.endRequest_keeps_tap (x0 : State) (x1) (x2) (x3) (x4) : (State.endRequest x0 x1 x2 x3 x4).tap = x0.tap := same_of_hide (p := .tap) (State.endRequest_hide 1125899906842615 rfl x0 x1 x2 x3 x4) rfl
@[simp] theorem State.endRequest_keeps_ow (x0 : State) (x1) (x2) (x3) (x4) : (State.endRequest x0 x1 x2 x3 x4).ow = x0.ow := same_of_hide (p := .ow) (State.endRequest_hide 1125899906842607 rfl x0 x1 x2 x3 x4) rfl
@[simp] theorem State.endRequest_keeps_cfe (x0 : State) (x1) (x2) (x3) (x4) : (State.endRequest x0 x1 x2 x3 x4).cfe = x0.cfe := same_of_hide (p := .cfe) (State.endRequest_hide 1125899906842591 rfl x0 x1 x2 x3 x4) rfl
@[simp] theorem State.endRequest_keeps_branch (x0 : State) (x1) (x2) (x3) (x4) : (State.endRequest x0 x1 x2 x3 x4).branch = x0.branch := same_of_hide (p := .branch) (State.endRequest_hide 1125899906842559 rfl x0 x1 x2 x3 x4) rfl
@[simp] theorem State.endRequest_keeps_pan (x0 : State) (x1) (x2) (x3) (x4) : (State.endRequest x0 x1 x2 x3 x4).pan = x0.pan := same_of_hide (p := .pan) (State.endRequest_hide 1125899906842495 rfl x0 x1 x2 x3 x4) rfl
@[simp] theorem State.endRequest_keeps_slot (x0 : State) (x1) (x2) (x3) (x4) : (State.endRequest x0 x1 x2 x3 x4).slot = x0.slot := same_of_hide (p := .slot) (State.endRequest_hide 1125899906842367 rfl x0 x1 x2 x3 x4) rfl
@[simp] theorem State.endRequest_keeps_sluice (x0 : State) (x1) (x2) (x3) (x4) : (State.endRequest x0 x1 x2 x3 x4).sluice = x0.sluice := same_of_hide (p := .sluice) (State.endRequest_hide 1125899906842111 rfl x0 x1 x2 x3 x4) rfl
@[simp] theorem State.endRequest_keeps_nvm (x0 : State) (x1) (x2) (x3) (x4) : (State.endRequest x0 x1 x2 x3 x4).nvm = x0.nvm := same_of_hide (p := .nvm) (State.endRequest_hide 1125899906841599 rfl x0 x1 x2 x3 x4) rfl
@[simp] theorem State.endRequest_keeps_sched (x0 : State) (x1) (x2) (x3) (x4) : (State.endRequest x0 x1 x2 x3 x4).sched = x0.sched := same_of_hide (p := .sched) (State.endRequest_hide 1125899906840575 rfl x0 x1 x2 x3 x4) rfl
@[simp] theorem State.endRequest_keeps_gov (x0 : State) (x1) (x2) (x3) (x4) : (State.endRequest x0 x1 x2 x3 x4).gov = x0.gov := same_of_hide (p := .gov) (State.endRequest_hide 1125899906838527 rfl x0 x1 x2 x3 x4) rfl
@[simp] theorem State.endRequest_keeps_est (x0 : State) (x1) (x2) (x3) (x4) : (State.endRequest x0 x1 x2 x3 x4).est = x0.est := same_of_hide (p := .est) (State.endRequest_hide 1125899906834431 rfl x0 x1 x2 x3 x4) rfl
@[simp] theorem State.endRequest_keeps_estMod (x0 : State) (x1) (x2) (x3) (x4) : (State.endRequest x0 x1 x2 x3 x4).estMod = x0.estMod := same_of_hide (p := .estMod) (State.endRequest_hide 1125899906826239 rfl x0 x1 x2 x3 x4) rfl
@[simp] theorem State.endRequest_keeps_str (x0 : State) (x1) (x2) (x3) (x4) : (State.endRequest x0 x1 x2 x3 x4).str = x0.str := same_of_hide (p := .str) (State.endRequest_hide 1125899906809855 rfl x0 x1 x2 x3 x4) rfl
@[simp] theorem State.endRequest_keeps_eis (x0 : State) (x1) (x2) (x3) (x4) : (State.endRequest x0 x1 x2 x3 x4).eis = x0.eis := same_of_hide (p := .eis) (State.endRequest_hide 1125899906777087 rfl x0 x1 x2 x3 x4) rfl
@[simp] theorem State.endRequest_keeps_thermo (x0 : State) (x1) (x2) (x3) (x4) : (State.endRequest x0 x1 x2 x3 x4).thermo = x0.thermo := same_of_hide (p := .thermo) (State.endRequest_hide 1125899906711551 rfl x0 x1 x2 x3 x4) rfl
@[simp] theorem State.endRequest_keeps_ntc (x0 : State) (x1) (x2) (x3) (x4) : (State.endRequest x0 x1 x2 x3 x4).ntc = x0.ntc := same_of_hide (p := .ntc) (State.endRequest_hide 1125899906580479 rfl x0 x1 x2 x3 x4) rfl
@[simp] theorem State.endRequest_keeps_tbl (x0 : State) (x1) (x2) (x3) (x4) : (State.endRequest x0 x1 x2 x3 x4).tbl = x0.tbl := same_of_hide (p := .tbl) (State.endRequest_hide 1125899906318335 rfl x0 x1 x2 x3 x4) rfl
@[simp] theorem State.endRequest_keeps_bal (x0 : State) (x1) (x2) (x3) (x4) : (State.endRequest x0 x1 x2 x3 x4).bal = x0.bal := same_of_hide (p := .bal) (State.endRequest_hide 1125899905794047 rfl x0 x1 x2 x3 x4) rfl
@[simp] theorem State.endRequest_keeps_prot (x0 : State) (x1) (x2) (x3) (x4) : (State.endRequest x0 x1 x2 x3 x4).prot = x0.prot := same_of_hide (p := .prot) (State.endRequest_hide 1125899904745471 rfl x0 x1 x2 x3 x4) rfl
@[simp] theorem State.endRequest_keeps_phase (x0 : State) (x1) (x2) (x3) (x4) : (State.endRequest x0 x1 x2 x3 x4).phase = x0.phase := same_of_hide (p := .phase) (State.endRequest_hide 1125899902648319 rfl x0 x1 x2 x3 x4) rfl
@[simp] theorem State.endRequest_keeps_conv (x0 : State) (x1) (x2) (x3) (x4) : (State.endRequest x0 x1 x2 x3 x4).conv = x0.conv := same_of_hide (p := .conv) (State.endRequest_hide 1125899898454015 rfl x0 x1 x2 x3 x4) rfl
@[simp] theorem State.endRequest_keeps_law (x0 : State) (x1) (x2) (x3) (x4) : (State.endRequest x0 x1 x2 x3 x4).law = x0.law := same_of_hide (p := .law) (State.endRequest_hide 1125899890065407 rfl x0 x1 x2 x3 x4) rfl
@[simp] theorem State.endRequest_keeps_ring (x0 : State) (x1) (x2) (x3) (x4) : (State.endRequest x0 x1 x2 x3 x4).ring = x0.ring := same_of_hide (p := .ring) (State.endRequest_hide 1125899873288191 rfl x0 x1 x2 x3 x4) rfl
@[simp] theorem State.endRequest_keeps_lane (x0 : State) (x1) (x2) (x3) (x4) : (State.endRequest x0 x1 x2 x3 x4).lane = x0.lane := same_of_hide (p := .lane) (State.endRequest_hide 1125899839733759 rfl x0 x1 x2 x3 x4) rfl
@[simp] theorem State.endRequest_keeps_lanes (x0 : State) (x1) (x2) (x3) (x4) : (State.endRequest x0 x1 x2 x3 x4).lanes = x0.lanes := same_of_hide (p := .lanes) (State.endRequest_hide 1125899772624895 rfl x0 x1 x2 x3 x4) rfl
@[simp] theorem State.endRequest_keeps_safe (x0 : State) (x1) (x2) (x3) (x4) : (State.endRequest x0 x1 x2 x3 x4).safe = x0.safe := same_of_hide (p := .safe) (State.endRequest_hide 1125899638407167 rfl x0 x1 x2 x3 x4) rfl
@[simp] theorem State.endRequest_keeps_port (x0 : State) (x1) (x2) (x3) (x4) : (State.endRequest x0 x1 x2 x3 x4).port = x0.port := same_of_hide (p := .port) (State.endRequest_hide 1125898833100799 rfl x0 x1 x2 x3 x4) rfl
@[simp] theorem State.endRequest_keeps_ploza (x0 : State) (x1) (x2) (x3) (x4) : (State.endRequest x0 x1 x2 x3 x4).ploza = x0.ploza := same_of_hide (p := .ploza) (State.endRequest_hide 1125897759358975 rfl x0 x1 x2 x3 x4) rfl
@[simp] theorem State.endRequest_keeps_can (x0 : State) (x1) (x2) (x3) (x4) : (State.endRequest x0 x1 x2 x3 x4).can = x0.can := same_of_hide (p := .can) (State.endRequest_hide 1125895611875327 rfl x0 x1 x2 x3 x4) rfl
@[simp] theorem State.endRequest_keeps_spi (x0 : State) (x1) (x2) (x3) (x4) : (State.endRequest x0 x1 x2 x3 x4).spi = x0.spi := same_of_hide (p := .spi) (State.endRequest_hide 1125891316908031 rfl x0 x1 x2 x3 x4) rfl
@[simp] theorem State.endRequest_keeps_sec (x0 : State) (x1) (x2) (x3) (x4) : (State.endRequest x0 x1 x2 x3 x4).sec = x0.sec := same_of_hide (p := .sec) (State.endRequest_hide 1125882726973439 rfl x0 x1 x2 x3 x4) rfl
@[simp] theorem State.endRequest_keeps_free (x0 : State) (x1) (x2) (x3) (x4) : (State.endRequest x0 x1 x2 x3 x4).free = x0.free := same_of_hide (p := .free) (State.endRequest_hide 1125865547104255 rfl x0 x1 x2 x3 x4) rfl
@[simp] theorem State.lanesDown_keeps_conv (x0 : State) (x1) : (State.lanesDown x0 x1).conv = x0.conv := same_of_hide (p := .conv) (State.lanesDown_hide 1125899898454015 rfl x0 x1) rfl
@[simp] theorem State.portsUp_keeps_power (x0 : State) : (State.portsUp x0).power = x0.power := same_of_hide (p := .power) (State.portsUp_hide 1125899369971711 rfl x0) rfl
@[simp] theorem State.followRequest_keeps_fe (x0 : State) : (State.followRequest x0).fe = x0.fe := same_of_hide (p := .fe) (State.followRequest_hide 1125899906842621 rfl x0) rfl
@[simp] theorem State.followRequest_keeps_chan (x0 : State) : (State.followRequest x0).chan = x0.chan := same_of_hide (p := .chan) (State.followRequest_hide 1125899906842619 rfl x0) rfl
@[simp] theorem State.followRequest_keeps_tap (x0 : State) : (State.followRequest x0).tap = x0.tap := same_of_hide (p := .tap) (State.followRequest_hide 1125899906842615 rfl x0) rfl
@[simp] theorem State.followRequest_keeps_ow (x0 : State) : (State.followRequest x0).ow = x0.ow := same_of_hide (p := .ow) (State.followRequest_hide 1125899906842607 rfl x0) rfl
@[simp] theorem State.followRequest_keeps_cfe (x0 : State) : (State.followRequest x0).cfe = x0.cfe := same_of_hide (p := .cfe) (State.followRequest_hide 1125899906842591 rfl x0) rfl
@[simp] theorem State.followRequest_keeps_branch (x0 : State) : (State.followRequest x0).branch = x0.branch := same_of_hide (p := .branch) (State.followRequest_hide 1125899906842559 rfl x0) rfl
@[simp] theorem State.followRequest_keeps_pan (x0 : State) : (State.followRequest x0).pan = x0.pan := same_of_hide (p := .pan) (State.followRequest_hide 1125899906842495 rfl x0) rfl
@[simp] theorem State.followRequest_keeps_slot (x0 : State) : (State.followRequest x0).slot = x0.slot := same_of_hide (p := .slot) (State.followRequest_hide 1125899906842367 rfl x0) rfl
@[simp] theorem State.followRequest_keeps_sluice (x0 : State) : (State.followRequest x0).sluice = x0.sluice := same_of_hide (p := .sluice) (State.followRequest_hide 1125899906842111 rfl x0) rfl
@[simp] theorem State.followRequest_keeps_nvm (x0 : State) : (State.followRequest x0).nvm = x0.nvm := same_of_hide (p := .nvm) (State.followRequest_hide 1125899906841599 rfl x0) rfl
@[simp] theorem State.followRequest_keeps_sched (x0 : State) : (State.followRequest x0).sched = x0.sched := same_of_hide (p := .sched) (State.followRequest_hide 1125899906840575 rfl x0) rfl
@[simp] theorem State.followRequest_keeps_gov (x0 : State) : (State.followRequest x0).gov = x0.gov := same_of_hide (p := .gov) (State.followRequest_hide 1125899906838527 rfl x0) rfl
@[simp] theorem State.followRequest_keeps_est (x0 : State) : (State.followRequest x0).est = x0.est := same_of_hide (p := .est) (State.followRequest_hide 1125899906834431 rfl x0) rfl
@[simp] theorem State.followRequest_keeps_estMod (x0 : State) : (State.followRequest x0).estMod = x0.estMod := same_of_hide (p := .estMod) (State.followRequest_hide 1125899906826239 rfl x0) rfl
@[simp] theorem State.followRequest_keeps_str (x0 : State) : (State.followRequest x0).str = x0.str := same_of_hide (p := .str) (State.followRequest_hide 1125899906809855 rfl x0) rfl
@[simp] theorem State.followRequest_keeps_eis (x0 : State) : (State.followRequest x0).eis = x0.eis := same_of_hide (p := .eis) (State.followRequest_hide 1125899906777087 rfl x0) rfl
@[simp] theorem State.followRequest_keeps_thermo (x0 : State) : (State.followRequest x0).thermo = x0.thermo := same_of_hide (p := .thermo) (State.followRequest_hide 1125899906711551 rfl x0) rfl
@[simp] theorem State.followRequest_keeps_ntc (x0 : State) : (State.followRequest x0).ntc = x0.ntc := same_of_hide (p := .ntc) (State.followRequest_hide 1125899906580479 rfl x0) rfl
@[simp] theorem State.followRequest_keeps_tbl (x0 : State) : (State.followRequest x0).tbl = x0.tbl := same_of_hide (p := .tbl) (State.followRequest_hide 1125899906318335 rfl x0) rfl
@[simp] theorem State.followRequest_keeps_bal (x0 : State) : (State.followRequest x0).bal = x0.bal := same_of_hide (p := .bal) (State.followRequest_hide 1125899905794047 rfl x0) rfl
@[simp] theorem State.followRequest_keeps_prot (x0 : State) : (State.followRequest x0).prot = x0.prot := same_of_hide (p := .prot) (State.followRequest_hide 1125899904745471 rfl x0) rfl
@[simp] theorem State.followRequest_keeps_phase (x0 : State) : (State.followRequest x0).phase = x0.phase := same_of_hide (p := .phase) (State.followRequest_hide 1125899902648319 rfl x0) rfl
@[simp] theorem State.followRequest_keeps_conv (x0 : State) : (State.followRequest x0).conv = x0.conv := same_of_hide (p := .conv) (State.followRequest_hide 1125899898454015 rfl x0) rfl
@[simp] theorem State.followRequest_keeps_law (x0 : State) : (State.followRequest x0).law = x0.law := same_of_hide (p := .law) (State.followRequest_hide 1125899890065407 rfl x0) rfl
@[simp] theorem State.followRequest_keeps_ring (x0 : State) : (State.followRequest x0).ring = x0.ring := same_of_hide (p := .ring) (State.followRequest_hide 1125899873288191 rfl x0) rfl
@[simp] theorem State.followRequest_keeps_lane (x0 : State) : (State.followRequest x0).lane = x0.lane := same_of_hide (p := .lane) (State.followRequest_hide 1125899839733759 rfl x0) rfl
@[simp] theorem State.followRequest_keeps_lanes (x0 : State) : (State.followRequest x0).lanes = x0.lanes := same_of_hide (p := .lanes) (State.followRequest_hide 1125899772624895 rfl x0) rfl
@[simp] theorem State.followRequest_keeps_power (x0 : State) : (State.followRequest x0).power = x0.power := same_of_hide (p := .power) (State.followRequest_hide 1125899369971711 rfl x0) rfl
@[simp] theorem State.followRequest_keeps_port (x0 : State) : (State.followRequest x0).port = x0.port := same_of_hide (p := .port) (State.followRequest_hide 1125898833100799 rfl x0) rfl
@[simp] theorem State.followRequest_keeps_ploza (x0 : State) : (State.followRequest x0).ploza = x0.ploza := same_of_hide (p := .ploza) (State.followRequest_hide 1125897759358975 rfl x0) rfl
@[simp] theorem State.followRequest_keeps_can (x0 : State) : (State.followRequest x0).can = x0.can := same_of_hide (p := .can) (State.followRequest_hide 1125895611875327 rfl x0) rfl
@[simp] theorem State.followRequest_keeps_spi (x0 : State) : (State.followRequest x0).spi = x0.spi := same_of_hide (p := .spi) (State.followRequest_hide 1125891316908031 rfl x0) rfl
@[simp] theorem State.followRequest_keeps_sec (x0 : State) : (State.followRequest x0).sec = x0.sec := same_of_hide (p := .sec) (State.followRequest_hide 1125882726973439 rfl x0) rfl
@[simp] theorem State.followRequest_keeps_free (x0 : State) : (State.followRequest x0).free = x0.free := same_of_hide (p := .free) (State.followRequest_hide 1125865547104255 rfl x0) rfl
@[simp] theorem State.beginDrain_keeps_grid (x0 : State) (x1) (x2) : (State.beginDrain x0 x1 x2).grid = x0.grid := same_of_hide (p := .grid) (State.beginDrain_hide 1125899906842622 rfl x0 x1 x2) rfl
@[simp] theorem State.beginDrain_keeps_fe (x0 : State) (x1) (x2) : (State.beginDrain x0 x1 x2).fe = x0.fe := same_of_hide (p := .fe) (State.beginDrain_hide 1125899906842621 rfl x0 x1 x2) rfl
@[simp] theorem State.beginDrain_keeps_chan (x0 : State) (x1) (x2) : (State.beginDrain x0 x1 x2).chan = x0.chan := same_of_hide (p := .chan) (State.beginDrain_hide 1125899906842619 rfl x0 x1 x2) rfl
@[simp] theorem State.beginDrain_keeps_tap (x0 : State) (x1) (x2) : (State.beginDrain x0 x1 x2).tap = x0.tap := same_of_hide (p := .tap) (State.beginDrain_hide 1125899906842615 rfl x0 x1 x2) rfl
@[simp] theorem State.beginDrain_keeps_ow (x0 : State) (x1) (x2) : (State.beginDrain x0 x1 x2).ow = x0.ow := same_of_hide (p := .ow) (State.beginDrain_hide 1125899906842607 rfl x0 x1 x2) rfl
@[simp] theorem State.beginDrain_keeps_cfe (x0 : State) (x1) (x2) : (State.beginDrain x0 x1 x2).cfe = x0.cfe := same_of_hide (p := .cfe) (State.beginDrain_hide 1125899906842591 rfl x0 x1 x2) rfl
@[simp] theorem State.beginDrain_keeps_branch (x0 : State) (x1) (x2) : (State.beginDrain x0 x1 x2).branch = x0.branch := same_of_hide (p := .branch) (State.beginDrain_hide 1125899906842559 rfl x0 x1 x2) rfl
@[simp] theorem State.beginDrain_keeps_pan (x0 : State) (x1) (x2) : (State.beginDrain x0 x1 x2).pan = x0.pan := same_of_hide (p := .pan) (State.beginDrain_hide 1125899906842495 rfl x0 x1 x2) rfl
@[simp] theorem State.beginDrain_keeps_slot (x0 : State) (x1) (x2) : (State.beginDrain x0 x1 x2).slot = x0.slot := same_of_hide (p := .slot) (State.beginDrain_hide 1125899906842367 rfl x0 x1 x2) rfl
@[simp] theorem State.beginDrain_keeps_sluice (x0 : State) (x1) (x2) : (State.beginDrain x0 x1 x2).sluice = x0.sluice := same_of_hide (p := .sluice) (State.beginDrain_hide 1125899906842111 rfl x0 x1 x2) rfl
@[simp] theorem State.beginDrain_keeps_nvm (x0 : State) (x1) (x2) : (State.beginDrain x0 x1 x2).nvm = x0.nvm := same_of_hide (p := .nvm) (State.beginDrain_hide 1125899906841599 rfl x0 x1 x2) rfl
@[simp] theorem State.beginDrain_keeps_sched (x0 : State) (x1) (x2) : (State.beginDrain x0 x1 x2).sched = x0.sched := same_of_hide (p := .sched) (State.beginDrain_hide 1125899906840575 rfl x0 x1 x2) rfl
@[simp] theorem State.beginDrain_keeps_gov (x0 : State) (x1) (x2) : (State.beginDrain x0 x1 x2).gov = x0.gov := same_of_hide (p := .gov) (State.beginDrain_hide 1125899906838527 rfl x0 x1 x2) rfl
@[simp] theorem State.beginDrain_keeps_est (x0 : State) (x1) (x2) : (State.beginDrain x0 x1 x2).est = x0.est := same_of_hide (p := .est) (State.beginDrain_hide 1125899906834431 rfl x0 x1 x2) rfl
@[simp] theorem State.beginDrain_keeps_estMod (x0 : State) (x1) (x2) : (State.beginDrain x0 x1 x2).estMod = x0.estMod := same_of_hide (p := .estMod) (State.beginDrain_hide 1125899906826239 rfl x0 x1 x2) rfl
@[simp] theorem State.beginDrain_keeps_str (x0 : State) (x1) (x2) : (State.beginDrain x0 x1 x2).str = x0.str := same_of_hide (p := .str) (State.beginDrain_hide 1125899906809855 rfl x0 x1 x2) rfl
@[simp] theorem State.beginDrain_keeps_eis (x0 : State) (x1) (x2) : (State.beginDrain x0 x1 x2).eis = x0.eis := same_of_hide (p := .eis) (State.beginDrain_hide 1125899906777087 rfl x0 x1 x2) rfl
@[simp] theorem State.beginDrain_keeps_thermo (x0 : State) (x1) (x2) : (State.beginDrain x0 x1 x2).thermo = x0.thermo := same_of_hide (p := .thermo) (State.beginDrain_hide 1125899906711551 rfl x0 x1 x2) rfl
@[simp] theorem State.beginDrain_keeps_ntc (x0 : State) (x1) (x2) : (State.beginDrain x0 x1 x2).ntc = x0.ntc := same_of_hide (p := .ntc) (State.beginDrain_hide 1125899906580479 rfl x0 x1 x2) rfl
@[simp] theorem State.beginDrain_keeps_tbl (x0 : State) (x1) (x2) : (State.beginDrain x0 x1 x2).tbl = x0.tbl := same_of_hide (p := .tbl) (State.beginDrain_hide 1125899906318335 rfl x0 x1 x2) rfl
@[simp] theorem State.beginDrain_keeps_bal (x0 : State) (x1) (x2) : (State.beginDrain x0 x1 x2).bal = x0.bal := same_of_hide (p := .bal) (State.beginDrain_hide 1125899905794047 rfl x0 x1 x2) rfl
@[simp] theorem State.beginDrain_keeps_prot (x0 : State) (x1) (x2) : (State.beginDrain x0 x1 x2).prot = x0.prot := same_of_hide (p := .prot) (State.beginDrain_hide 1125899904745471 rfl x0 x1 x2) rfl
@[simp] theorem State.beginDrain_keeps_ring (x0 : State) (x1) (x2) : (State.beginDrain x0 x1 x2).ring = x0.ring := same_of_hide (p := .ring) (State.beginDrain_hide 1125899873288191 rfl x0 x1 x2) rfl
@[simp] theorem State.beginDrain_keeps_lane (x0 : State) (x1) (x2) : (State.beginDrain x0 x1 x2).lane = x0.lane := same_of_hide (p := .lane) (State.beginDrain_hide 1125899839733759 rfl x0 x1 x2) rfl
@[simp] theorem State.beginDrain_keeps_lanes (x0 : State) (x1) (x2) : (State.beginDrain x0 x1 x2).lanes = x0.lanes := same_of_hide (p := .lanes) (State.beginDrain_hide 1125899772624895 rfl x0 x1 x2) rfl
@[simp] theorem State.beginDrain_keeps_safe (x0 : State) (x1) (x2) : (State.beginDrain x0 x1 x2).safe = x0.safe := same_of_hide (p := .safe) (State.beginDrain_hide 1125899638407167 rfl x0 x1 x2) rfl
@[simp] theorem State.beginDrain_keeps_power (x0 : State) (x1) (x2) : (State.beginDrain x0 x1 x2).power = x0.power := same_of_hide (p := .power) (State.beginDrain_hide 1125899369971711 rfl x0 x1 x2) rfl
@[simp] theorem State.beginDrain_keeps_port (x0 : State) (x1) (x2) : (State.beginDrain x0 x1 x2).port = x0.port := same_of_hide (p := .port) (State.beginDrain_hide 1125898833100799 rfl x0 x1 x2) rfl
@[simp] theorem State.beginDrain_keeps_ploza (x0 : State) (x1) (x2) : (State.beginDrain x0 x1 x2).ploza = x0.ploza := same_of_hide (p := .ploza) (State.beginDrain_hide 1125897759358975 rfl x0 x1 x2) rfl
@[simp] theorem State.beginDrain_keeps_can (x0 : State) (x1) (x2) : (State.beginDrain x0 x1 x2).can = x0.can := same_of_hide (p := .can) (State.beginDrain_hide 1125895611875327 rfl x0 x1 x2) rfl
@[simp] theorem State.beginDrain_keeps_spi (x0 : State) (x1) (x2) : (State.beginDrain x0 x1 x2).spi = x0.spi := same_of_hide (p := .spi) (State.beginDrain_hide 1125891316908031 rfl x0 x1 x2) rfl
@[simp] theorem State.beginDrain_keeps_sec (x0 : State) (x1) (x2) : (State.beginDrain x0 x1 x2).sec = x0.sec := same_of_hide (p := .sec) (State.beginDrain_hide 1125882726973439 rfl x0 x1 x2) rfl
@[simp] theorem State.beginDrain_keeps_free (x0 : State) (x1) (x2) : (State.beginDrain x0 x1 x2).free = x0.free := same_of_hide (p := .free) (State.beginDrain_hide 1125865547104255 rfl x0 x1 x2) rfl
@[simp] theorem State.shadowed_keeps_sched (x0 : State) (x1) : (State.shadowed x0 x1).sched = x0.sched := same_of_hide (p := .sched) (State.shadowed_hide 1125899906840575 rfl x0 x1) rfl
@[simp] theorem State.requestContactors_keeps_fe (x0 : State) (x1) : (State.requestContactors x0 x1).fe = x0.fe := same_of_hide (p := .fe) (State.requestContactors_hide 1125899906842621 rfl x0 x1) rfl
@[simp] theorem State.requestContactors_keeps_chan (x0 : State) (x1) : (State.requestContactors x0 x1).chan = x0.chan := same_of_hide (p := .chan) (State.requestContactors_hide 1125899906842619 rfl x0 x1) rfl
@[simp] theorem State.requestContactors_keeps_tap (x0 : State) (x1) : (State.requestContactors x0 x1).tap = x0.tap := same_of_hide (p := .tap) (State.requestContactors_hide 1125899906842615 rfl x0 x1) rfl
@[simp] theorem State.requestContactors_keeps_ow (x0 : State) (x1) : (State.requestContactors x0 x1).ow = x0.ow := same_of_hide (p := .ow) (State.requestContactors_hide 1125899906842607 rfl x0 x1) rfl
@[simp] theorem State.requestContactors_keeps_cfe (x0 : State) (x1) : (State.requestContactors x0 x1).cfe = x0.cfe := same_of_hide (p := .cfe) (State.requestContactors_hide 1125899906842591 rfl x0 x1) rfl
@[simp] theorem State.requestContactors_keeps_branch (x0 : State) (x1) : (State.requestContactors x0 x1).branch = x0.branch := same_of_hide (p := .branch) (State.requestContactors_hide 1125899906842559 rfl x0 x1) rfl
@[simp] theorem State.requestContactors_keeps_pan (x0 : State) (x1) : (State.requestContactors x0 x1).pan = x0.pan := same_of_hide (p := .pan) (State.requestContactors_hide 1125899906842495 rfl x0 x1) rfl
@[simp] theorem State.requestContactors_keeps_slot (x0 : State) (x1) : (State.requestContactors x0 x1).slot = x0.slot := same_of_hide (p := .slot) (State.requestContactors_hide 1125899906842367 rfl x0 x1) rfl
@[simp] theorem State.requestContactors_keeps_sluice (x0 : State) (x1) : (State.requestContactors x0 x1).sluice = x0.sluice := same_of_hide (p := .sluice) (State.requestContactors_hide 1125899906842111 rfl x0 x1) rfl
@[simp] theorem State.requestContactors_keeps_nvm (x0 : State) (x1) : (State.requestContactors x0 x1).nvm = x0.nvm := same_of_hide (p := .nvm) (State.requestContactors_hide 1125899906841599 rfl x0 x1) rfl
@[simp] theorem State.requestContactors_keeps_sched (x0 : State) (x1) : (State.requestContactors x0 x1).sched = x0.sched := same_of_hide (p := .sched) (State.requestContactors_hide 1125899906840575 rfl x0 x1) rfl
@[simp] theorem State.requestContactors_keeps_gov (x0 : State) (x1) : (State.requestContactors x0 x1).gov = x0.gov := same_of_hide (p := .gov) (State.requestContactors_hide 1125899906838527 rfl x0 x1) rfl
@[simp] theorem State.requestContactors_keeps_est (x0 : State) (x1) : (State.requestContactors x0 x1).est = x0.est := same_of_hide (p := .est) (State.requestContactors_hide 1125899906834431 rfl x0 x1) rfl
@[simp] theorem State.requestContactors_keeps_estMod (x0 : State) (x1) : (State.requestContactors x0 x1).estMod = x0.estMod := same_of_hide (p := .estMod) (State.requestContactors_hide 1125899906826239 rfl x0 x1) rfl
@[simp] theorem State.requestContactors_keeps_str (x0 : State) (x1) : (State.requestContactors x0 x1).str = x0.str := same_of_hide (p := .str) (State.requestContactors_hide 1125899906809855 rfl x0 x1) rfl
@[simp] theorem State.requestContactors_keeps_eis (x0 : State) (x1) : (State.requestContactors x0 x1).eis = x0.eis := same_of_hide (p := .eis) (State.requestContactors_hide 1125899906777087 rfl x0 x1) rfl
@[simp] theorem State.requestContactors_keeps_thermo (x0 : State) (x1) : (State.requestContactors x0 x1).thermo = x0.thermo := same_of_hide (p := .thermo) (State.requestContactors_hide 1125899906711551 rfl x0 x1) rfl
@[simp] theorem State.requestContactors_keeps_ntc (x0 : State) (x1) : (State.requestContactors x0 x1).ntc = x0.ntc := same_of_hide (p := .ntc) (State.requestContactors_hide 1125899906580479 rfl x0 x1) rfl
@[simp] theorem State.requestContactors_keeps_tbl (x0 : State) (x1) : (State.requestContactors x0 x1).tbl = x0.tbl := same_of_hide (p := .tbl) (State.requestContactors_hide 1125899906318335 rfl x0 x1) rfl
@[simp] theorem State.requestContactors_keeps_bal (x0 : State) (x1) : (State.requestContactors x0 x1).bal = x0.bal := same_of_hide (p := .bal) (State.requestContactors_hide 1125899905794047 rfl x0 x1) rfl
@[simp] theorem State.requestContactors_keeps_prot (x0 : State) (x1) : (State.requestContactors x0 x1).prot = x0.prot := same_of_hide (p := .prot) (State.requestContactors_hide 1125899904745471 rfl x0 x1) rfl
@[simp] theorem State.requestContactors_keeps_phase (x0 : State) (x1) : (State.requestContactors x0 x1).phase = x0.phase := same_of_hide (p := .phase) (State.requestContactors_hide 1125899902648319 rfl x0 x1) rfl
@[simp] theorem State.requestContactors_keeps_conv (x0 : State) (x1) : (State.requestContactors x0 x1).conv = x0.conv := same_of_hide (p := .conv) (State.requestContactors_hide 1125899898454015 rfl x0 x1) rfl
@[simp] theorem State.requestContactors_keeps_law (x0 : State) (x1) : (State.requestContactors x0 x1).law = x0.law := same_of_hide (p := .law) (State.requestContactors_hide 1125899890065407 rfl x0 x1) rfl
@[simp] theorem State.requestContactors_keeps_ring (x0 : State) (x1) : (State.requestContactors x0 x1).ring = x0.ring := same_of_hide (p := .ring) (State.requestContactors_hide 1125899873288191 rfl x0 x1) rfl
@[simp] theorem State.requestContactors_keeps_lane (x0 : State) (x1) : (State.requestContactors x0 x1).lane = x0.lane := same_of_hide (p := .lane) (State.requestContactors_hide 1125899839733759 rfl x0 x1) rfl
@[simp] theorem State.requestContactors_keeps_power (x0 : State) (x1) : (State.requestContactors x0 x1).power = x0.power := same_of_hide (p := .power) (State.requestContactors_hide 1125899369971711 rfl x0 x1) rfl
@[simp] theorem State.requestContactors_keeps_port (x0 : State) (x1) : (State.requestContactors x0 x1).port = x0.port := same_of_hide (p := .port) (State.requestContactors_hide 1125898833100799 rfl x0 x1) rfl
@[simp] theorem State.requestContactors_keeps_ploza (x0 : State) (x1) : (State.requestContactors x0 x1).ploza = x0.ploza := same_of_hide (p := .ploza) (State.requestContactors_hide 1125897759358975 rfl x0 x1) rfl
@[simp] theorem State.requestContactors_keeps_can (x0 : State) (x1) : (State.requestContactors x0 x1).can = x0.can := same_of_hide (p := .can) (State.requestContactors_hide 1125895611875327 rfl x0 x1) rfl
@[simp] theorem State.requestContactors_keeps_spi (x0 : State) (x1) : (State.requestContactors x0 x1).spi = x0.spi := same_of_hide (p := .spi) (State.requestContactors_hide 1125891316908031 rfl x0 x1) rfl
@[simp] theorem State.requestContactors_keeps_sec (x0 : State) (x1) : (State.requestContactors x0 x1).sec = x0.sec := same_of_hide (p := .sec) (State.requestContactors_hide 1125882726973439 rfl x0 x1) rfl
@[simp] theorem State.requestContactors_keeps_free (x0 : State) (x1) : (State.requestContactors x0 x1).free = x0.free := same_of_hide (p := .free) (State.requestContactors_hide 1125865547104255 rfl x0 x1) rfl
@[simp] theorem State.ringRecord_keeps_ring (x0 : State) (x1) : (State.ringRecord x0 x1).ring = x0.ring := same_of_hide (p := .ring) (State.ringRecord_hide 1125899873288191 rfl x0 x1) rfl
@[simp] theorem State.ringRecord_keeps_ploza (x0 : State) (x1) : (State.ringRecord x0 x1).ploza = x0.ploza := same_of_hide (p := .ploza) (State.ringRecord_hide 1125897759358975 rfl x0 x1) rfl
@[simp] theorem State.windowWork_keeps_sched (x0 : State) : (State.windowWork x0).sched = x0.sched := same_of_hide (p := .sched) (State.windowWork_hide 1125899906840575 rfl x0) rfl
@[simp] theorem State.journal_keeps_grid (x0 : State) (x1) (x2) (x3) (x4) (x5) : (State.journal x0 x1 x2 x3 x4 x5).grid = x0.grid := same_of_hide (p := .grid) (State.journal_hide 1125899906842622 rfl x0 x1 x2 x3 x4 x5) rfl
@[simp] theorem State.journal_keeps_fe (x0 : State) (x1) (x2) (x3) (x4) (x5) : (State.journal x0 x1 x2 x3 x4 x5).fe = x0.fe := same_of_hide (p := .fe) (State.journal_hide 1125899906842621 rfl x0 x1 x2 x3 x4 x5) rfl
@[simp] theorem State.journal_keeps_chan (x0 : State) (x1) (x2) (x3) (x4) (x5) : (State.journal x0 x1 x2 x3 x4 x5).chan = x0.chan := same_of_hide (p := .chan) (State.journal_hide 1125899906842619 rfl x0 x1 x2 x3 x4 x5) rfl
@[simp] theorem State.journal_keeps_tap (x0 : State) (x1) (x2) (x3) (x4) (x5) : (State.journal x0 x1 x2 x3 x4 x5).tap = x0.tap := same_of_hide (p := .tap) (State.journal_hide 1125899906842615 rfl x0 x1 x2 x3 x4 x5) rfl
@[simp] theorem State.journal_keeps_ow (x0 : State) (x1) (x2) (x3) (x4) (x5) : (State.journal x0 x1 x2 x3 x4 x5).ow = x0.ow := same_of_hide (p := .ow) (State.journal_hide 1125899906842607 rfl x0 x1 x2 x3 x4 x5) rfl
@[simp] theorem State.journal_keeps_cfe (x0 : State) (x1) (x2) (x3) (x4) (x5) : (State.journal x0 x1 x2 x3 x4 x5).cfe = x0.cfe := same_of_hide (p := .cfe) (State.journal_hide 1125899906842591 rfl x0 x1 x2 x3 x4 x5) rfl
@[simp] theorem State.journal_keeps_branch (x0 : State) (x1) (x2) (x3) (x4) (x5) : (State.journal x0 x1 x2 x3 x4 x5).branch = x0.branch := same_of_hide (p := .branch) (State.journal_hide 1125899906842559 rfl x0 x1 x2 x3 x4 x5) rfl
@[simp] theorem State.journal_keeps_pan (x0 : State) (x1) (x2) (x3) (x4) (x5) : (State.journal x0 x1 x2 x3 x4 x5).pan = x0.pan := same_of_hide (p := .pan) (State.journal_hide 1125899906842495 rfl x0 x1 x2 x3 x4 x5) rfl
@[simp] theorem State.journal_keeps_slot (x0 : State) (x1) (x2) (x3) (x4) (x5) : (State.journal x0 x1 x2 x3 x4 x5).slot = x0.slot := same_of_hide (p := .slot) (State.journal_hide 1125899906842367 rfl x0 x1 x2 x3 x4 x5) rfl
@[simp] theorem State.journal_keeps_sluice (x0 : State) (x1) (x2) (x3) (x4) (x5) : (State.journal x0 x1 x2 x3 x4 x5).sluice = x0.sluice := same_of_hide (p := .sluice) (State.journal_hide 1125899906842111 rfl x0 x1 x2 x3 x4 x5) rfl
@[simp] theorem State.journal_keeps_sched (x0 : State) (x1) (x2) (x3) (x4) (x5) : (State.journal x0 x1 x2 x3 x4 x5).sched = x0.sched := same_of_hide (p := .sched) (State.journal_hide 1125899906840575 rfl x0 x1 x2 x3 x4 x5) rfl
@[simp] theorem State.journal_keeps_gov (x0 : State) (x1) (x2) (x3) (x4) (x5) : (State.journal x0 x1 x2 x3 x4 x5).gov = x0.gov := same_of_hide (p := .gov) (State.journal_hide 1125899906838527 rfl x0 x1 x2 x3 x4 x5) rfl
@[simp] theorem State.journal_keeps_est (x0 : State) (x1) (x2) (x3) (x4) (x5) : (State.journal x0 x1 x2 x3 x4 x5).est = x0.est := same_of_hide (p := .est) (State.journal_hide 1125899906834431 rfl x0 x1 x2 x3 x4 x5) rfl
@[simp] theorem State.journal_keeps_estMod (x0 : State) (x1) (x2) (x3) (x4) (x5) : (State.journal x0 x1 x2 x3 x4 x5).estMod = x0.estMod := same_of_hide (p := .estMod) (State.journal_hide 1125899906826239 rfl x0 x1 x2 x3 x4 x5) rfl
@[simp] theorem State.journal_keeps_str (x0 : State) (x1) (x2) (x3) (x4) (x5) : (State.journal x0 x1 x2 x3 x4 x5).str = x0.str := same_of_hide (p := .str) (State.journal_hide 1125899906809855 rfl x0 x1 x2 x3 x4 x5) rfl
@[simp] theorem State.journal_keeps_eis (x0 : State) (x1) (x2) (x3) (x4) (x5) : (State.journal x0 x1 x2 x3 x4 x5).eis = x0.eis := same_of_hide (p := .eis) (State.journal_hide 1125899906777087 rfl x0 x1 x2 x3 x4 x5) rfl
@[simp] theorem State.journal_keeps_thermo (x0 : State) (x1) (x2) (x3) (x4) (x5) : (State.journal x0 x1 x2 x3 x4 x5).thermo = x0.thermo := same_of_hide (p := .thermo) (State.journal_hide 1125899906711551 rfl x0 x1 x2 x3 x4 x5) rfl
@[simp] theorem State.journal_keeps_ntc (x0 : State) (x1) (x2) (x3) (x4) (x5) : (State.journal x0 x1 x2 x3 x4 x5).ntc = x0.ntc := same_of_hide (p := .ntc) (State.journal_hide 1125899906580479 rfl x0 x1 x2 x3 x4 x5) rfl
@[simp] theorem State.journal_keeps_tbl (x0 : State) (x1) (x2) (x3) (x4) (x5) : (State.journal x0 x1 x2 x3 x4 x5).tbl = x0.tbl := same_of_hide (p := .tbl) (State.journal_hide 1125899906318335 rfl x0 x1 x2 x3 x4 x5) rfl
@[simp] theorem State.journal_keeps_bal (x0 : State) (x1) (x2) (x3) (x4) (x5) : (State.journal x0 x1 x2 x3 x4 x5).bal = x0.bal := same_of_hide (p := .bal) (State.journal_hide 1125899905794047 rfl x0 x1 x2 x3 x4 x5) rfl
@[simp] theorem State.journal_keeps_prot (x0 : State) (x1) (x2) (x3) (x4) (x5) : (State.journal x0 x1 x2 x3 x4 x5).prot = x0.prot := same_of_hide (p := .prot) (State.journal_hide 1125899904745471 rfl x0 x1 x2 x3 x4 x5) rfl
@[simp] theorem State.journal_keeps_phase (x0 : State) (x1) (x2) (x3) (x4) (x5) : (State.journal x0 x1 x2 x3 x4 x5).phase = x0.phase := same_of_hide (p := .phase) (State.journal_hide 1125899902648319 rfl x0 x1 x2 x3 x4 x5) rfl
@[simp] theorem State.journal_keeps_conv (x0 : State) (x1) (x2) (x3) (x4) (x5) : (State.journal x0 x1 x2 x3 x4 x5).conv = x0.conv := same_of_hide (p := .conv) (State.journal_hide 1125899898454015 rfl x0 x1 x2 x3 x4 x5) rfl
@[simp] theorem State.journal_keeps_law (x0 : State) (x1) (x2) (x3) (x4) (x5) : (State.journal x0 x1 x2 x3 x4 x5).law = x0.law := same_of_hide (p := .law) (State.journal_hide 1125899890065407 rfl x0 x1 x2 x3 x4 x5) rfl
@[simp] theorem State.journal_keeps_ring (x0 : State) (x1) (x2) (x3) (x4) (x5) : (State.journal x0 x1 x2 x3 x4 x5).ring = x0.ring := same_of_hide (p := .ring) (State.journal_hide 1125899873288191 rfl x0 x1 x2 x3 x4 x5) rfl
@[simp] theorem State.journal_keeps_lane (x0 : State) (x1) (x2) (x3) (x4) (x5) : (State.journal x0 x1 x2 x3 x4 x5).lane = x0.lane := same_of_hide (p := .lane) (State.journal_hide 1125899839733759 rfl x0 x1 x2 x3 x4 x5) rfl
@[simp] theorem State.journal_keeps_lanes (x0 : State) (x1) (x2) (x3) (x4) (x5) : (State.journal x0 x1 x2 x3 x4 x5).lanes = x0.lanes := same_of_hide (p := .lanes) (State.journal_hide 1125899772624895 rfl x0 x1 x2 x3 x4 x5) rfl
@[simp] theorem State.journal_keeps_safe (x0 : State) (x1) (x2) (x3) (x4) (x5) : (State.journal x0 x1 x2 x3 x4 x5).safe = x0.safe := same_of_hide (p := .safe) (State.journal_hide 1125899638407167 rfl x0 x1 x2 x3 x4 x5) rfl
@[simp] theorem State.journal_keeps_power (x0 : State) (x1) (x2) (x3) (x4) (x5) : (State.journal x0 x1 x2 x3 x4 x5).power = x0.power := same_of_hide (p := .power) (State.journal_hide 1125899369971711 rfl x0 x1 x2 x3 x4 x5) rfl
@[simp] theorem State.journal_keeps_port (x0 : State) (x1) (x2) (x3) (x4) (x5) : (State.journal x0 x1 x2 x3 x4 x5).port = x0.port := same_of_hide (p := .port) (State.journal_hide 1125898833100799 rfl x0 x1 x2 x3 x4 x5) rfl
@[simp] theorem State.journal_keeps_ploza (x0 : State) (x1) (x2) (x3) (x4) (x5) : (State.journal x0 x1 x2 x3 x4 x5).ploza = x0.ploza := same_of_hide (p := .ploza) (State.journal_hide 1125897759358975 rfl x0 x1 x2 x3 x4 x5) rfl
@[simp] theorem State.journal_keeps_can (x0 : State) (x1) (x2) (x3) (x4) (x5) : (State.journal x0 x1 x2 x3 x4 x5).can = x0.can := same_of_hide (p := .can) (State.journal_hide 1125895611875327 rfl x0 x1 x2 x3 x4 x5) rfl
@[simp] theorem State.journal_keeps_spi (x0 : State) (x1) (x2) (x3) (x4) (x5) : (State.journal x0 x1 x2 x3 x4 x5).spi = x0.spi := same_of_hide (p := .spi) (State.journal_hide 1125891316908031 rfl x0 x1 x2 x3 x4 x5) rfl
@[simp] theorem State.journal_keeps_free (x0 : State) (x1) (x2) (x3) (x4) (x5) : (State.journal x0 x1 x2 x3 x4 x5).free = x0.free := same_of_hide (p := .free) (State.journal_hide 1125865547104255 rfl x0 x1 x2 x3 x4 x5) rfl
@[simp] theorem State.settleBus_keeps_grid (x0 : State) (x1) : (State.settleBus x0 x1).grid = x0.grid := same_of_hide (p := .grid) (State.settleBus_hide 1125899906842622 rfl x0 x1) rfl
@[simp] theorem State.settleBus_keeps_ring (x0 : State) (x1) : (State.settleBus x0 x1).ring = x0.ring := same_of_hide (p := .ring) (State.settleBus_hide 1125899873288191 rfl x0 x1) rfl
@[simp] theorem State.settleBus_keeps_lanes (x0 : State) (x1) : (State.settleBus x0 x1).lanes = x0.lanes := same_of_hide (p := .lanes) (State.settleBus_hide 1125899772624895 rfl x0 x1) rfl
@[simp] theorem State.settleBus_keeps_power (x0 : State) (x1) : (State.settleBus x0 x1).power = x0.power := same_of_hide (p := .power) (State.settleBus_hide 1125899369971711 rfl x0 x1) rfl
@[simp] theorem State.settleBus_keeps_ploza (x0 : State) (x1) : (State.settleBus x0 x1).ploza = x0.ploza := same_of_hide (p := .ploza) (State.settleBus_hide 1125897759358975 rfl x0 x1) rfl
@[simp] theorem State.stopWatch_keeps_grid (x0 : State) : (State.stopWatch x0).grid = x0.grid := same_of_hide (p := .grid) (State.stopWatch_hide 1125899906842622 rfl x0) rfl
@[simp] theorem State.stopWatch_keeps_fe (x0 : State) : (State.stopWatch x0).fe = x0.fe := same_of_hide (p := .fe) (State.stopWatch_hide 1125899906842621 rfl x0) rfl
@[simp] theorem State.stopWatch_keeps_chan (x0 : State) : (State.stopWatch x0).chan = x0.chan := same_of_hide (p := .chan) (State.stopWatch_hide 1125899906842619 rfl x0) rfl
@[simp] theorem State.stopWatch_keeps_tap (x0 : State) : (State.stopWatch x0).tap = x0.tap := same_of_hide (p := .tap) (State.stopWatch_hide 1125899906842615 rfl x0) rfl
@[simp] theorem State.stopWatch_keeps_ow (x0 : State) : (State.stopWatch x0).ow = x0.ow := same_of_hide (p := .ow) (State.stopWatch_hide 1125899906842607 rfl x0) rfl
@[simp] theorem State.stopWatch_keeps_cfe (x0 : State) : (State.stopWatch x0).cfe = x0.cfe := same_of_hide (p := .cfe) (State.stopWatch_hide 1125899906842591 rfl x0) rfl
@[simp] theorem State.stopWatch_keeps_branch (x0 : State) : (State.stopWatch x0).branch = x0.branch := same_of_hide (p := .branch) (State.stopWatch_hide 1125899906842559 rfl x0) rfl
@[simp] theorem State.stopWatch_keeps_pan (x0 : State) : (State.stopWatch x0).pan = x0.pan := same_of_hide (p := .pan) (State.stopWatch_hide 1125899906842495 rfl x0) rfl
@[simp] theorem State.stopWatch_keeps_slot (x0 : State) : (State.stopWatch x0).slot = x0.slot := same_of_hide (p := .slot) (State.stopWatch_hide 1125899906842367 rfl x0) rfl
@[simp] theorem State.stopWatch_keeps_sluice (x0 : State) : (State.stopWatch x0).sluice = x0.sluice := same_of_hide (p := .sluice) (State.stopWatch_hide 1125899906842111 rfl x0) rfl
@[simp] theorem State.stopWatch_keeps_nvm (x0 : State) : (State.stopWatch x0).nvm = x0.nvm := same_of_hide (p := .nvm) (State.stopWatch_hide 1125899906841599 rfl x0) rfl
@[simp] theorem State.stopWatch_keeps_sched (x0 : State) : (State.stopWatch x0).sched = x0.sched := same_of_hide (p := .sched) (State.stopWatch_hide 1125899906840575 rfl x0) rfl
@[simp] theorem State.stopWatch_keeps_gov (x0 : State) : (State.stopWatch x0).gov = x0.gov := same_of_hide (p := .gov) (State.stopWatch_hide 1125899906838527 rfl x0) rfl
@[simp] theorem State.stopWatch_keeps_est (x0 : State) : (State.stopWatch x0).est = x0.est := same_of_hide (p := .est) (State.stopWatch_hide 1125899906834431 rfl x0) rfl
@[simp] theorem State.stopWatch_keeps_estMod (x0 : State) : (State.stopWatch x0).estMod = x0.estMod := same_of_hide (p := .estMod) (State.stopWatch_hide 1125899906826239 rfl x0) rfl
@[simp] theorem State.stopWatch_keeps_str (x0 : State) : (State.stopWatch x0).str = x0.str := same_of_hide (p := .str) (State.stopWatch_hide 1125899906809855 rfl x0) rfl
@[simp] theorem State.stopWatch_keeps_thermo (x0 : State) : (State.stopWatch x0).thermo = x0.thermo := same_of_hide (p := .thermo) (State.stopWatch_hide 1125899906711551 rfl x0) rfl
@[simp] theorem State.stopWatch_keeps_ntc (x0 : State) : (State.stopWatch x0).ntc = x0.ntc := same_of_hide (p := .ntc) (State.stopWatch_hide 1125899906580479 rfl x0) rfl
@[simp] theorem State.stopWatch_keeps_tbl (x0 : State) : (State.stopWatch x0).tbl = x0.tbl := same_of_hide (p := .tbl) (State.stopWatch_hide 1125899906318335 rfl x0) rfl
@[simp] theorem State.stopWatch_keeps_bal (x0 : State) : (State.stopWatch x0).bal = x0.bal := same_of_hide (p := .bal) (State.stopWatch_hide 1125899905794047 rfl x0) rfl
@[simp] theorem State.stopWatch_keeps_prot (x0 : State) : (State.stopWatch x0).prot = x0.prot := same_of_hide (p := .prot) (State.stopWatch_hide 1125899904745471 rfl x0) rfl
@[simp] theorem State.stopWatch_keeps_phase (x0 : State) : (State.stopWatch x0).phase = x0.phase := same_of_hide (p := .phase) (State.stopWatch_hide 1125899902648319 rfl x0) rfl
@[simp] theorem State.stopWatch_keeps_conv (x0 : State) : (State.stopWatch x0).conv = x0.conv := same_of_hide (p := .conv) (State.stopWatch_hide 1125899898454015 rfl x0) rfl
@[simp] theorem State.stopWatch_keeps_law (x0 : State) : (State.stopWatch x0).law = x0.law := same_of_hide (p := .law) (State.stopWatch_hide 1125899890065407 rfl x0) rfl
@[simp] theorem State.stopWatch_keeps_ring (x0 : State) : (State.stopWatch x0).ring = x0.ring := same_of_hide (p := .ring) (State.stopWatch_hide 1125899873288191 rfl x0) rfl
@[simp] theorem State.stopWatch_keeps_lane (x0 : State) : (State.stopWatch x0).lane = x0.lane := same_of_hide (p := .lane) (State.stopWatch_hide 1125899839733759 rfl x0) rfl
@[simp] theorem State.stopWatch_keeps_lanes (x0 : State) : (State.stopWatch x0).lanes = x0.lanes := same_of_hide (p := .lanes) (State.stopWatch_hide 1125899772624895 rfl x0) rfl
@[simp] theorem State.stopWatch_keeps_safe (x0 : State) : (State.stopWatch x0).safe = x0.safe := same_of_hide (p := .safe) (State.stopWatch_hide 1125899638407167 rfl x0) rfl
@[simp] theorem State.stopWatch_keeps_power (x0 : State) : (State.stopWatch x0).power = x0.power := same_of_hide (p := .power) (State.stopWatch_hide 1125899369971711 rfl x0) rfl
@[simp] theorem State.stopWatch_keeps_port (x0 : State) : (State.stopWatch x0).port = x0.port := same_of_hide (p := .port) (State.stopWatch_hide 1125898833100799 rfl x0) rfl
@[simp] theorem State.stopWatch_keeps_ploza (x0 : State) : (State.stopWatch x0).ploza = x0.ploza := same_of_hide (p := .ploza) (State.stopWatch_hide 1125897759358975 rfl x0) rfl
@[simp] theorem State.stopWatch_keeps_can (x0 : State) : (State.stopWatch x0).can = x0.can := same_of_hide (p := .can) (State.stopWatch_hide 1125895611875327 rfl x0) rfl
@[simp] theorem State.stopWatch_keeps_spi (x0 : State) : (State.stopWatch x0).spi = x0.spi := same_of_hide (p := .spi) (State.stopWatch_hide 1125891316908031 rfl x0) rfl
@[simp] theorem State.stopWatch_keeps_sec (x0 : State) : (State.stopWatch x0).sec = x0.sec := same_of_hide (p := .sec) (State.stopWatch_hide 1125882726973439 rfl x0) rfl
@[simp] theorem State.stopWatch_keeps_free (x0 : State) : (State.stopWatch x0).free = x0.free := same_of_hide (p := .free) (State.stopWatch_hide 1125865547104255 rfl x0) rfl
@[simp] theorem State.safeStep_keeps_grid (x0 : State) : (State.safeStep x0).grid = x0.grid := same_of_hide (p := .grid) (State.safeStep_hide 1125899906842622 rfl x0) rfl
@[simp] theorem State.safeStep_keeps_prot (x0 : State) : (State.safeStep x0).prot = x0.prot := same_of_hide (p := .prot) (State.safeStep_hide 1125899904745471 rfl x0) rfl
@[simp] theorem State.convOff_keeps_grid (x0 : State) : (State.convOff x0).grid = x0.grid := same_of_hide (p := .grid) (State.convOff_hide 1125899906842622 rfl x0) rfl
@[simp] theorem State.convOff_keeps_fe (x0 : State) : (State.convOff x0).fe = x0.fe := same_of_hide (p := .fe) (State.convOff_hide 1125899906842621 rfl x0) rfl
@[simp] theorem State.convOff_keeps_chan (x0 : State) : (State.convOff x0).chan = x0.chan := same_of_hide (p := .chan) (State.convOff_hide 1125899906842619 rfl x0) rfl
@[simp] theorem State.convOff_keeps_tap (x0 : State) : (State.convOff x0).tap = x0.tap := same_of_hide (p := .tap) (State.convOff_hide 1125899906842615 rfl x0) rfl
@[simp] theorem State.convOff_keeps_ow (x0 : State) : (State.convOff x0).ow = x0.ow := same_of_hide (p := .ow) (State.convOff_hide 1125899906842607 rfl x0) rfl
@[simp] theorem State.convOff_keeps_cfe (x0 : State) : (State.convOff x0).cfe = x0.cfe := same_of_hide (p := .cfe) (State.convOff_hide 1125899906842591 rfl x0) rfl
@[simp] theorem State.convOff_keeps_branch (x0 : State) : (State.convOff x0).branch = x0.branch := same_of_hide (p := .branch) (State.convOff_hide 1125899906842559 rfl x0) rfl
@[simp] theorem State.convOff_keeps_pan (x0 : State) : (State.convOff x0).pan = x0.pan := same_of_hide (p := .pan) (State.convOff_hide 1125899906842495 rfl x0) rfl
@[simp] theorem State.convOff_keeps_slot (x0 : State) : (State.convOff x0).slot = x0.slot := same_of_hide (p := .slot) (State.convOff_hide 1125899906842367 rfl x0) rfl
@[simp] theorem State.convOff_keeps_sluice (x0 : State) : (State.convOff x0).sluice = x0.sluice := same_of_hide (p := .sluice) (State.convOff_hide 1125899906842111 rfl x0) rfl
@[simp] theorem State.convOff_keeps_nvm (x0 : State) : (State.convOff x0).nvm = x0.nvm := same_of_hide (p := .nvm) (State.convOff_hide 1125899906841599 rfl x0) rfl
@[simp] theorem State.convOff_keeps_sched (x0 : State) : (State.convOff x0).sched = x0.sched := same_of_hide (p := .sched) (State.convOff_hide 1125899906840575 rfl x0) rfl
@[simp] theorem State.convOff_keeps_gov (x0 : State) : (State.convOff x0).gov = x0.gov := same_of_hide (p := .gov) (State.convOff_hide 1125899906838527 rfl x0) rfl
@[simp] theorem State.convOff_keeps_est (x0 : State) : (State.convOff x0).est = x0.est := same_of_hide (p := .est) (State.convOff_hide 1125899906834431 rfl x0) rfl
@[simp] theorem State.convOff_keeps_estMod (x0 : State) : (State.convOff x0).estMod = x0.estMod := same_of_hide (p := .estMod) (State.convOff_hide 1125899906826239 rfl x0) rfl
@[simp] theorem State.convOff_keeps_str (x0 : State) : (State.convOff x0).str = x0.str := same_of_hide (p := .str) (State.convOff_hide 1125899906809855 rfl x0) rfl
@[simp] theorem State.convOff_keeps_eis (x0 : State) : (State.convOff x0).eis = x0.eis := same_of_hide (p := .eis) (State.convOff_hide 1125899906777087 rfl x0) rfl
@[simp] theorem State.convOff_keeps_thermo (x0 : State) : (State.convOff x0).thermo = x0.thermo := same_of_hide (p := .thermo) (State.convOff_hide 1125899906711551 rfl x0) rfl
@[simp] theorem State.convOff_keeps_ntc (x0 : State) : (State.convOff x0).ntc = x0.ntc := same_of_hide (p := .ntc) (State.convOff_hide 1125899906580479 rfl x0) rfl
@[simp] theorem State.convOff_keeps_tbl (x0 : State) : (State.convOff x0).tbl = x0.tbl := same_of_hide (p := .tbl) (State.convOff_hide 1125899906318335 rfl x0) rfl
@[simp] theorem State.convOff_keeps_bal (x0 : State) : (State.convOff x0).bal = x0.bal := same_of_hide (p := .bal) (State.convOff_hide 1125899905794047 rfl x0) rfl
@[simp] theorem State.convOff_keeps_prot (x0 : State) : (State.convOff x0).prot = x0.prot := same_of_hide (p := .prot) (State.convOff_hide 1125899904745471 rfl x0) rfl
@[simp] theorem State.convOff_keeps_ring (x0 : State) : (State.convOff x0).ring = x0.ring := same_of_hide (p := .ring) (State.convOff_hide 1125899873288191 rfl x0) rfl
@[simp] theorem State.convOff_keeps_lane (x0 : State) : (State.convOff x0).lane = x0.lane := same_of_hide (p := .lane) (State.convOff_hide 1125899839733759 rfl x0) rfl
@[simp] theorem State.convOff_keeps_lanes (x0 : State) : (State.convOff x0).lanes = x0.lanes := same_of_hide (p := .lanes) (State.convOff_hide 1125899772624895 rfl x0) rfl
@[simp] theorem State.convOff_keeps_safe (x0 : State) : (State.convOff x0).safe = x0.safe := same_of_hide (p := .safe) (State.convOff_hide 1125899638407167 rfl x0) rfl
@[simp] theorem State.convOff_keeps_power (x0 : State) : (State.convOff x0).power = x0.power := same_of_hide (p := .power) (State.convOff_hide 1125899369971711 rfl x0) rfl
@[simp] theorem State.convOff_keeps_port (x0 : State) : (State.convOff x0).port = x0.port := same_of_hide (p := .port) (State.convOff_hide 1125898833100799 rfl x0) rfl
@[simp] theorem State.convOff_keeps_ploza (x0 : State) : (State.convOff x0).ploza = x0.ploza := same_of_hide (p := .ploza) (State.convOff_hide 1125897759358975 rfl x0) rfl
@[simp] theorem State.convOff_keeps_can (x0 : State) : (State.convOff x0).can = x0.can := same_of_hide (p := .can) (State.convOff_hide 1125895611875327 rfl x0) rfl
@[simp] theorem State.convOff_keeps_spi (x0 : State) : (State.convOff x0).spi = x0.spi := same_of_hide (p := .spi) (State.convOff_hide 1125891316908031 rfl x0) rfl
@[simp] theorem State.convOff_keeps_sec (x0 : State) : (State.convOff x0).sec = x0.sec := same_of_hide (p := .sec) (State.convOff_hide 1125882726973439 rfl x0) rfl
@[simp] theorem State.convOff_keeps_free (x0 : State) : (State.convOff x0).free = x0.free := same_of_hide (p := .free) (State.convOff_hide 1125865547104255 rfl x0) rfl
@[simp] theorem State.setCause_keeps_grid (x0 : State) (x1) (x2) : (State.setCause x0 x1 x2).grid = x0.grid := same_of_hide (p := .grid) (State.setCause_hide 1125899906842622 rfl x0 x1 x2) rfl
@[simp] theorem State.setCause_keeps_fe (x0 : State) (x1) (x2) : (State.setCause x0 x1 x2).fe = x0.fe := same_of_hide (p := .fe) (State.setCause_hide 1125899906842621 rfl x0 x1 x2) rfl
@[simp] theorem State.setCause_keeps_chan (x0 : State) (x1) (x2) : (State.setCause x0 x1 x2).chan = x0.chan := same_of_hide (p := .chan) (State.setCause_hide 1125899906842619 rfl x0 x1 x2) rfl
@[simp] theorem State.setCause_keeps_tap (x0 : State) (x1) (x2) : (State.setCause x0 x1 x2).tap = x0.tap := same_of_hide (p := .tap) (State.setCause_hide 1125899906842615 rfl x0 x1 x2) rfl
@[simp] theorem State.setCause_keeps_ow (x0 : State) (x1) (x2) : (State.setCause x0 x1 x2).ow = x0.ow := same_of_hide (p := .ow) (State.setCause_hide 1125899906842607 rfl x0 x1 x2) rfl
@[simp] theorem State.setCause_keeps_cfe (x0 : State) (x1) (x2) : (State.setCause x0 x1 x2).cfe = x0.cfe := same_of_hide (p := .cfe) (State.setCause_hide 1125899906842591 rfl x0 x1 x2) rfl
@[simp] theorem State.setCause_keeps_branch (x0 : State) (x1) (x2) : (State.setCause x0 x1 x2).branch = x0.branch := same_of_hide (p := .branch) (State.setCause_hide 1125899906842559 rfl x0 x1 x2) rfl
@[simp] theorem State.setCause_keeps_pan (x0 : State) (x1) (x2) : (State.setCause x0 x1 x2).pan = x0.pan := same_of_hide (p := .pan) (State.setCause_hide 1125899906842495 rfl x0 x1 x2) rfl
@[simp] theorem State.setCause_keeps_slot (x0 : State) (x1) (x2) : (State.setCause x0 x1 x2).slot = x0.slot := same_of_hide (p := .slot) (State.setCause_hide 1125899906842367 rfl x0 x1 x2) rfl
@[simp] theorem State.setCause_keeps_sluice (x0 : State) (x1) (x2) : (State.setCause x0 x1 x2).sluice = x0.sluice := same_of_hide (p := .sluice) (State.setCause_hide 1125899906842111 rfl x0 x1 x2) rfl
@[simp] theorem State.setCause_keeps_nvm (x0 : State) (x1) (x2) : (State.setCause x0 x1 x2).nvm = x0.nvm := same_of_hide (p := .nvm) (State.setCause_hide 1125899906841599 rfl x0 x1 x2) rfl
@[simp] theorem State.setCause_keeps_sched (x0 : State) (x1) (x2) : (State.setCause x0 x1 x2).sched = x0.sched := same_of_hide (p := .sched) (State.setCause_hide 1125899906840575 rfl x0 x1 x2) rfl
@[simp] theorem State.setCause_keeps_gov (x0 : State) (x1) (x2) : (State.setCause x0 x1 x2).gov = x0.gov := same_of_hide (p := .gov) (State.setCause_hide 1125899906838527 rfl x0 x1 x2) rfl
@[simp] theorem State.setCause_keeps_est (x0 : State) (x1) (x2) : (State.setCause x0 x1 x2).est = x0.est := same_of_hide (p := .est) (State.setCause_hide 1125899906834431 rfl x0 x1 x2) rfl
@[simp] theorem State.setCause_keeps_estMod (x0 : State) (x1) (x2) : (State.setCause x0 x1 x2).estMod = x0.estMod := same_of_hide (p := .estMod) (State.setCause_hide 1125899906826239 rfl x0 x1 x2) rfl
@[simp] theorem State.setCause_keeps_str (x0 : State) (x1) (x2) : (State.setCause x0 x1 x2).str = x0.str := same_of_hide (p := .str) (State.setCause_hide 1125899906809855 rfl x0 x1 x2) rfl
@[simp] theorem State.setCause_keeps_eis (x0 : State) (x1) (x2) : (State.setCause x0 x1 x2).eis = x0.eis := same_of_hide (p := .eis) (State.setCause_hide 1125899906777087 rfl x0 x1 x2) rfl
@[simp] theorem State.setCause_keeps_thermo (x0 : State) (x1) (x2) : (State.setCause x0 x1 x2).thermo = x0.thermo := same_of_hide (p := .thermo) (State.setCause_hide 1125899906711551 rfl x0 x1 x2) rfl
@[simp] theorem State.setCause_keeps_ntc (x0 : State) (x1) (x2) : (State.setCause x0 x1 x2).ntc = x0.ntc := same_of_hide (p := .ntc) (State.setCause_hide 1125899906580479 rfl x0 x1 x2) rfl
@[simp] theorem State.setCause_keeps_tbl (x0 : State) (x1) (x2) : (State.setCause x0 x1 x2).tbl = x0.tbl := same_of_hide (p := .tbl) (State.setCause_hide 1125899906318335 rfl x0 x1 x2) rfl
@[simp] theorem State.setCause_keeps_bal (x0 : State) (x1) (x2) : (State.setCause x0 x1 x2).bal = x0.bal := same_of_hide (p := .bal) (State.setCause_hide 1125899905794047 rfl x0 x1 x2) rfl
@[simp] theorem State.setCause_keeps_phase (x0 : State) (x1) (x2) : (State.setCause x0 x1 x2).phase = x0.phase := same_of_hide (p := .phase) (State.setCause_hide 1125899902648319 rfl x0 x1 x2) rfl
@[simp] theorem State.setCause_keeps_conv (x0 : State) (x1) (x2) : (State.setCause x0 x1 x2).conv = x0.conv := same_of_hide (p := .conv) (State.setCause_hide 1125899898454015 rfl x0 x1 x2) rfl
@[simp] theorem State.setCause_keeps_law (x0 : State) (x1) (x2) : (State.setCause x0 x1 x2).law = x0.law := same_of_hide (p := .law) (State.setCause_hide 1125899890065407 rfl x0 x1 x2) rfl
@[simp] theorem State.setCause_keeps_ring (x0 : State) (x1) (x2) : (State.setCause x0 x1 x2).ring = x0.ring := same_of_hide (p := .ring) (State.setCause_hide 1125899873288191 rfl x0 x1 x2) rfl
@[simp] theorem State.setCause_keeps_lane (x0 : State) (x1) (x2) : (State.setCause x0 x1 x2).lane = x0.lane := same_of_hide (p := .lane) (State.setCause_hide 1125899839733759 rfl x0 x1 x2) rfl
@[simp] theorem State.setCause_keeps_lanes (x0 : State) (x1) (x2) : (State.setCause x0 x1 x2).lanes = x0.lanes := same_of_hide (p := .lanes) (State.setCause_hide 1125899772624895 rfl x0 x1 x2) rfl
@[simp] theorem State.setCause_keeps_safe (x0 : State) (x1) (x2) : (State.setCause x0 x1 x2).safe = x0.safe := same_of_hide (p := .safe) (State.setCause_hide 1125899638407167 rfl x0 x1 x2) rfl
@[simp] theorem State.setCause_keeps_power (x0 : State) (x1) (x2) : (State.setCause x0 x1 x2).power = x0.power := same_of_hide (p := .power) (State.setCause_hide 1125899369971711 rfl x0 x1 x2) rfl
@[simp] theorem State.setCause_keeps_port (x0 : State) (x1) (x2) : (State.setCause x0 x1 x2).port = x0.port := same_of_hide (p := .port) (State.setCause_hide 1125898833100799 rfl x0 x1 x2) rfl
@[simp] theorem State.setCause_keeps_ploza (x0 : State) (x1) (x2) : (State.setCause x0 x1 x2).ploza = x0.ploza := same_of_hide (p := .ploza) (State.setCause_hide 1125897759358975 rfl x0 x1 x2) rfl
@[simp] theorem State.setCause_keeps_can (x0 : State) (x1) (x2) : (State.setCause x0 x1 x2).can = x0.can := same_of_hide (p := .can) (State.setCause_hide 1125895611875327 rfl x0 x1 x2) rfl
@[simp] theorem State.setCause_keeps_spi (x0 : State) (x1) (x2) : (State.setCause x0 x1 x2).spi = x0.spi := same_of_hide (p := .spi) (State.setCause_hide 1125891316908031 rfl x0 x1 x2) rfl
@[simp] theorem State.setCause_keeps_sec (x0 : State) (x1) (x2) : (State.setCause x0 x1 x2).sec = x0.sec := same_of_hide (p := .sec) (State.setCause_hide 1125882726973439 rfl x0 x1 x2) rfl
@[simp] theorem State.setCause_keeps_free (x0 : State) (x1) (x2) : (State.setCause x0 x1 x2).free = x0.free := same_of_hide (p := .free) (State.setCause_hide 1125865547104255 rfl x0 x1 x2) rfl
@[simp] theorem State.convStop_keeps_grid (x0 : State) (x1) : (State.convStop x0 x1).grid = x0.grid := same_of_hide (p := .grid) (State.convStop_hide 1125899906842622 rfl x0 x1) rfl
@[simp] theorem State.convStop_keeps_fe (x0 : State) (x1) : (State.convStop x0 x1).fe = x0.fe := same_of_hide (p := .fe) (State.convStop_hide 1125899906842621 rfl x0 x1) rfl
@[simp] theorem State.convStop_keeps_chan (x0 : State) (x1) : (State.convStop x0 x1).chan = x0.chan := same_of_hide (p := .chan) (State.convStop_hide 1125899906842619 rfl x0 x1) rfl
@[simp] theorem State.convStop_keeps_tap (x0 : State) (x1) : (State.convStop x0 x1).tap = x0.tap := same_of_hide (p := .tap) (State.convStop_hide 1125899906842615 rfl x0 x1) rfl
@[simp] theorem State.convStop_keeps_ow (x0 : State) (x1) : (State.convStop x0 x1).ow = x0.ow := same_of_hide (p := .ow) (State.convStop_hide 1125899906842607 rfl x0 x1) rfl
@[simp] theorem State.convStop_keeps_cfe (x0 : State) (x1) : (State.convStop x0 x1).cfe = x0.cfe := same_of_hide (p := .cfe) (State.convStop_hide 1125899906842591 rfl x0 x1) rfl
@[simp] theorem State.convStop_keeps_branch (x0 : State) (x1) : (State.convStop x0 x1).branch = x0.branch := same_of_hide (p := .branch) (State.convStop_hide 1125899906842559 rfl x0 x1) rfl
@[simp] theorem State.convStop_keeps_pan (x0 : State) (x1) : (State.convStop x0 x1).pan = x0.pan := same_of_hide (p := .pan) (State.convStop_hide 1125899906842495 rfl x0 x1) rfl
@[simp] theorem State.convStop_keeps_slot (x0 : State) (x1) : (State.convStop x0 x1).slot = x0.slot := same_of_hide (p := .slot) (State.convStop_hide 1125899906842367 rfl x0 x1) rfl
@[simp] theorem State.convStop_keeps_sluice (x0 : State) (x1) : (State.convStop x0 x1).sluice = x0.sluice := same_of_hide (p := .sluice) (State.convStop_hide 1125899906842111 rfl x0 x1) rfl
@[simp] theorem State.convStop_keeps_nvm (x0 : State) (x1) : (State.convStop x0 x1).nvm = x0.nvm := same_of_hide (p := .nvm) (State.convStop_hide 1125899906841599 rfl x0 x1) rfl
@[simp] theorem State.convStop_keeps_sched (x0 : State) (x1) : (State.convStop x0 x1).sched = x0.sched := same_of_hide (p := .sched) (State.convStop_hide 1125899906840575 rfl x0 x1) rfl
@[simp] theorem State.convStop_keeps_gov (x0 : State) (x1) : (State.convStop x0 x1).gov = x0.gov := same_of_hide (p := .gov) (State.convStop_hide 1125899906838527 rfl x0 x1) rfl
@[simp] theorem State.convStop_keeps_est (x0 : State) (x1) : (State.convStop x0 x1).est = x0.est := same_of_hide (p := .est) (State.convStop_hide 1125899906834431 rfl x0 x1) rfl
@[simp] theorem State.convStop_keeps_estMod (x0 : State) (x1) : (State.convStop x0 x1).estMod = x0.estMod := same_of_hide (p := .estMod) (State.convStop_hide 1125899906826239 rfl x0 x1) rfl
@[simp] theorem State.convStop_keeps_str (x0 : State) (x1) : (State.convStop x0 x1).str = x0.str := same_of_hide (p := .str) (State.convStop_hide 1125899906809855 rfl x0 x1) rfl
@[simp] theorem State.convStop_keeps_eis (x0 : State) (x1) : (State.convStop x0 x1).eis = x0.eis := same_of_hide (p := .eis) (State.convStop_hide 1125899906777087 rfl x0 x1) rfl
@[simp] theorem State.convStop_keeps_thermo (x0 : State) (x1) : (State.convStop x0 x1).thermo = x0.thermo := same_of_hide (p := .thermo) (State.convStop_hide 1125899906711551 rfl x0 x1) rfl
@[simp] theorem State.convStop_keeps_ntc (x0 : State) (x1) : (State.convStop x0 x1).ntc = x0.ntc := same_of_hide (p := .ntc) (State.convStop_hide 1125899906580479 rfl x0 x1) rfl
@[simp] theorem State.convStop_keeps_tbl (x0 : State) (x1) : (State.convStop x0 x1).tbl = x0.tbl := same_of_hide (p := .tbl) (State.convStop_hide 1125899906318335 rfl x0 x1) rfl
@[simp] theorem State.convStop_keeps_bal (x0 : State) (x1) : (State.convStop x0 x1).bal = x0.bal := same_of_hide (p := .bal) (State.convStop_hide 1125899905794047 rfl x0 x1) rfl
@[simp] theorem State.convStop_keeps_prot (x0 : State) (x1) : (State.convStop x0 x1).prot = x0.prot := same_of_hide (p := .prot) (State.convStop_hide 1125899904745471 rfl x0 x1) rfl
@[simp] theorem State.convStop_keeps_ring (x0 : State) (x1) : (State.convStop x0 x1).ring = x0.ring := same_of_hide (p := .ring) (State.convStop_hide 1125899873288191 rfl x0 x1) rfl
@[simp] theorem State.convStop_keeps_lane (x0 : State) (x1) : (State.convStop x0 x1).lane = x0.lane := same_of_hide (p := .lane) (State.convStop_hide 1125899839733759 rfl x0 x1) rfl
@[simp] theorem State.convStop_keeps_lanes (x0 : State) (x1) : (State.convStop x0 x1).lanes = x0.lanes := same_of_hide (p := .lanes) (State.convStop_hide 1125899772624895 rfl x0 x1) rfl
@[simp] theorem State.convStop_keeps_safe (x0 : State) (x1) : (State.convStop x0 x1).safe = x0.safe := same_of_hide (p := .safe) (State.convStop_hide 1125899638407167 rfl x0 x1) rfl
@[simp] theorem State.convStop_keeps_power (x0 : State) (x1) : (State.convStop x0 x1).power = x0.power := same_of_hide (p := .power) (State.convStop_hide 1125899369971711 rfl x0 x1) rfl
@[simp] theorem State.convStop_keeps_port (x0 : State) (x1) : (State.convStop x0 x1).port = x0.port := same_of_hide (p := .port) (State.convStop_hide 1125898833100799 rfl x0 x1) rfl
@[simp] theorem State.convStop_keeps_ploza (x0 : State) (x1) : (State.convStop x0 x1).ploza = x0.ploza := same_of_hide (p := .ploza) (State.convStop_hide 1125897759358975 rfl x0 x1) rfl
@[simp] theorem State.convStop_keeps_can (x0 : State) (x1) : (State.convStop x0 x1).can = x0.can := same_of_hide (p := .can) (State.convStop_hide 1125895611875327 rfl x0 x1) rfl
@[simp] theorem State.convStop_keeps_spi (x0 : State) (x1) : (State.convStop x0 x1).spi = x0.spi := same_of_hide (p := .spi) (State.convStop_hide 1125891316908031 rfl x0 x1) rfl
@[simp] theorem State.convStop_keeps_sec (x0 : State) (x1) : (State.convStop x0 x1).sec = x0.sec := same_of_hide (p := .sec) (State.convStop_hide 1125882726973439 rfl x0 x1) rfl
@[simp] theorem State.portsRelink_keeps_power (x0 : State) : (State.portsRelink x0).power = x0.power := same_of_hide (p := .power) (State.portsRelink_hide 1125899369971711 rfl x0) rfl
@[simp] theorem State.noticeOn_keeps_ploza (x0 : State) (x1) (x2) : (State.noticeOn x0 x1 x2).ploza = x0.ploza := same_of_hide (p := .ploza) (State.noticeOn_hide 1125897759358975 rfl x0 x1 x2) rfl
@[simp] theorem State.ownMode_keeps_conv (x0 : State) (x1) : (State.ownMode x0 x1).conv = x0.conv := same_of_hide (p := .conv) (State.ownMode_hide 1125899898454015 rfl x0 x1) rfl
@[simp] theorem State.ownMode_keeps_power (x0 : State) (x1) : (State.ownMode x0 x1).power = x0.power := same_of_hide (p := .power) (State.ownMode_hide 1125899369971711 rfl x0 x1) rfl
@[simp] theorem State.sendNotice_keeps_grid (x0 : State) (x1) : (State.sendNotice x0 x1).grid = x0.grid := same_of_hide (p := .grid) (State.sendNotice_hide 1125899906842622 rfl x0 x1) rfl
@[simp] theorem State.sendNotice_keeps_fe (x0 : State) (x1) : (State.sendNotice x0 x1).fe = x0.fe := same_of_hide (p := .fe) (State.sendNotice_hide 1125899906842621 rfl x0 x1) rfl
@[simp] theorem State.sendNotice_keeps_chan (x0 : State) (x1) : (State.sendNotice x0 x1).chan = x0.chan := same_of_hide (p := .chan) (State.sendNotice_hide 1125899906842619 rfl x0 x1) rfl
@[simp] theorem State.sendNotice_keeps_tap (x0 : State) (x1) : (State.sendNotice x0 x1).tap = x0.tap := same_of_hide (p := .tap) (State.sendNotice_hide 1125899906842615 rfl x0 x1) rfl
@[simp] theorem State.sendNotice_keeps_ow (x0 : State) (x1) : (State.sendNotice x0 x1).ow = x0.ow := same_of_hide (p := .ow) (State.sendNotice_hide 1125899906842607 rfl x0 x1) rfl
@[simp] theorem State.sendNotice_keeps_cfe (x0 : State) (x1) : (State.sendNotice x0 x1).cfe = x0.cfe := same_of_hide (p := .cfe) (State.sendNotice_hide 1125899906842591 rfl x0 x1) rfl
@[simp] theorem State.sendNotice_keeps_branch (x0 : State) (x1) : (State.sendNotice x0 x1).branch = x0.branch := same_of_hide (p := .branch) (State.sendNotice_hide 1125899906842559 rfl x0 x1) rfl
@[simp] theorem State.sendNotice_keeps_pan (x0 : State) (x1) : (State.sendNotice x0 x1).pan = x0.pan := same_of_hide (p := .pan) (State.sendNotice_hide 1125899906842495 rfl x0 x1) rfl
@[simp] theorem State.sendNotice_keeps_slot (x0 : State) (x1) : (State.sendNotice x0 x1).slot = x0.slot := same_of_hide (p := .slot) (State.sendNotice_hide 1125899906842367 rfl x0 x1) rfl
@[simp] theorem State.sendNotice_keeps_sluice (x0 : State) (x1) : (State.sendNotice x0 x1).sluice = x0.sluice := same_of_hide (p := .sluice) (State.sendNotice_hide 1125899906842111 rfl x0 x1) rfl
@[simp] theorem State.sendNotice_keeps_nvm (x0 : State) (x1) : (State.sendNotice x0 x1).nvm = x0.nvm := same_of_hide (p := .nvm) (State.sendNotice_hide 1125899906841599 rfl x0 x1) rfl
@[simp] theorem State.sendNotice_keeps_sched (x0 : State) (x1) : (State.sendNotice x0 x1).sched = x0.sched := same_of_hide (p := .sched) (State.sendNotice_hide 1125899906840575 rfl x0 x1) rfl
@[simp] theorem State.sendNotice_keeps_gov (x0 : State) (x1) : (State.sendNotice x0 x1).gov = x0.gov := same_of_hide (p := .gov) (State.sendNotice_hide 1125899906838527 rfl x0 x1) rfl
@[simp] theorem State.sendNotice_keeps_est (x0 : State) (x1) : (State.sendNotice x0 x1).est = x0.est := same_of_hide (p := .est) (State.sendNotice_hide 1125899906834431 rfl x0 x1) rfl
@[simp] theorem State.sendNotice_keeps_estMod (x0 : State) (x1) : (State.sendNotice x0 x1).estMod = x0.estMod := same_of_hide (p := .estMod) (State.sendNotice_hide 1125899906826239 rfl x0 x1) rfl
@[simp] theorem State.sendNotice_keeps_str (x0 : State) (x1) : (State.sendNotice x0 x1).str = x0.str := same_of_hide (p := .str) (State.sendNotice_hide 1125899906809855 rfl x0 x1) rfl
@[simp] theorem State.sendNotice_keeps_eis (x0 : State) (x1) : (State.sendNotice x0 x1).eis = x0.eis := same_of_hide (p := .eis) (State.sendNotice_hide 1125899906777087 rfl x0 x1) rfl
@[simp] theorem State.sendNotice_keeps_thermo (x0 : State) (x1) : (State.sendNotice x0 x1).thermo = x0.thermo := same_of_hide (p := .thermo) (State.sendNotice_hide 1125899906711551 rfl x0 x1) rfl
@[simp] theorem State.sendNotice_keeps_ntc (x0 : State) (x1) : (State.sendNotice x0 x1).ntc = x0.ntc := same_of_hide (p := .ntc) (State.sendNotice_hide 1125899906580479 rfl x0 x1) rfl
@[simp] theorem State.sendNotice_keeps_tbl (x0 : State) (x1) : (State.sendNotice x0 x1).tbl = x0.tbl := same_of_hide (p := .tbl) (State.sendNotice_hide 1125899906318335 rfl x0 x1) rfl
@[simp] theorem State.sendNotice_keeps_bal (x0 : State) (x1) : (State.sendNotice x0 x1).bal = x0.bal := same_of_hide (p := .bal) (State.sendNotice_hide 1125899905794047 rfl x0 x1) rfl
@[simp] theorem State.sendNotice_keeps_prot (x0 : State) (x1) : (State.sendNotice x0 x1).prot = x0.prot := same_of_hide (p := .prot) (State.sendNotice_hide 1125899904745471 rfl x0 x1) rfl
@[simp] theorem State.sendNotice_keeps_phase (x0 : State) (x1) : (State.sendNotice x0 x1).phase = x0.phase := same_of_hide (p := .phase) (State.sendNotice_hide 1125899902648319 rfl x0 x1) rfl
@[simp] theorem State.sendNotice_keeps_conv (x0 : State) (x1) : (State.sendNotice x0 x1).conv = x0.conv := same_of_hide (p := .conv) (State.sendNotice_hide 1125899898454015 rfl x0 x1) rfl
@[simp] theorem State.sendNotice_keeps_law (x0 : State) (x1) : (State.sendNotice x0 x1).law = x0.law := same_of_hide (p := .law) (State.sendNotice_hide 1125899890065407 rfl x0 x1) rfl
@[simp] theorem State.sendNotice_keeps_lane (x0 : State) (x1) : (State.sendNotice x0 x1).lane = x0.lane := same_of_hide (p := .lane) (State.sendNotice_hide 1125899839733759 rfl x0 x1) rfl
@[simp] theorem State.sendNotice_keeps_lanes (x0 : State) (x1) : (State.sendNotice x0 x1).lanes = x0.lanes := same_of_hide (p := .lanes) (State.sendNotice_hide 1125899772624895 rfl x0 x1) rfl
@[simp] theorem State.sendNotice_keeps_safe (x0 : State) (x1) : (State.sendNotice x0 x1).safe = x0.safe := same_of_hide (p := .safe) (State.sendNotice_hide 1125899638407167 rfl x0 x1) rfl
@[simp] theorem State.sendNotice_keeps_power (x0 : State) (x1) : (State.sendNotice x0 x1).power = x0.power := same_of_hide (p := .power) (State.sendNotice_hide 1125899369971711 rfl x0 x1) rfl
@[simp] theorem State.sendNotice_keeps_ploza (x0 : State) (x1) : (State.sendNotice x0 x1).ploza = x0.ploza := same_of_hide (p := .ploza) (State.sendNotice_hide 1125897759358975 rfl x0 x1) rfl
@[simp] theorem State.sendNotice_keeps_sec (x0 : State) (x1) : (State.sendNotice x0 x1).sec = x0.sec := same_of_hide (p := .sec) (State.sendNotice_hide 1125882726973439 rfl x0 x1) rfl
@[simp] theorem State.sendNotice_keeps_free (x0 : State) (x1) : (State.sendNotice x0 x1).free = x0.free := same_of_hide (p := .free) (State.sendNotice_hide 1125865547104255 rfl x0 x1) rfl
@[simp] theorem State.notify_keeps_grid (x0 : State) (x1) (x2) : (State.notify x0 x1 x2).grid = x0.grid := same_of_hide (p := .grid) (State.notify_hide 1125899906842622 rfl x0 x1 x2) rfl
@[simp] theorem State.notify_keeps_fe (x0 : State) (x1) (x2) : (State.notify x0 x1 x2).fe = x0.fe := same_of_hide (p := .fe) (State.notify_hide 1125899906842621 rfl x0 x1 x2) rfl
@[simp] theorem State.notify_keeps_chan (x0 : State) (x1) (x2) : (State.notify x0 x1 x2).chan = x0.chan := same_of_hide (p := .chan) (State.notify_hide 1125899906842619 rfl x0 x1 x2) rfl
@[simp] theorem State.notify_keeps_tap (x0 : State) (x1) (x2) : (State.notify x0 x1 x2).tap = x0.tap := same_of_hide (p := .tap) (State.notify_hide 1125899906842615 rfl x0 x1 x2) rfl
@[simp] theorem State.notify_keeps_ow (x0 : State) (x1) (x2) : (State.notify x0 x1 x2).ow = x0.ow := same_of_hide (p := .ow) (State.notify_hide 1125899906842607 rfl x0 x1 x2) rfl
@[simp] theorem State.notify_keeps_cfe (x0 : State) (x1) (x2) : (State.notify x0 x1 x2).cfe = x0.cfe := same_of_hide (p := .cfe) (State.notify_hide 1125899906842591 rfl x0 x1 x2) rfl
@[simp] theorem State.notify_keeps_branch (x0 : State) (x1) (x2) : (State.notify x0 x1 x2).branch = x0.branch := same_of_hide (p := .branch) (State.notify_hide 1125899906842559 rfl x0 x1 x2) rfl
@[simp] theorem State.notify_keeps_pan (x0 : State) (x1) (x2) : (State.notify x0 x1 x2).pan = x0.pan := same_of_hide (p := .pan) (State.notify_hide 1125899906842495 rfl x0 x1 x2) rfl
@[simp] theorem State.notify_keeps_slot (x0 : State) (x1) (x2) : (State.notify x0 x1 x2).slot = x0.slot := same_of_hide (p := .slot) (State.notify_hide 1125899906842367 rfl x0 x1 x2) rfl
@[simp] theorem State.notify_keeps_sluice (x0 : State) (x1) (x2) : (State.notify x0 x1 x2).sluice = x0.sluice := same_of_hide (p := .sluice) (State.notify_hide 1125899906842111 rfl x0 x1 x2) rfl
@[simp] theorem State.notify_keeps_nvm (x0 : State) (x1) (x2) : (State.notify x0 x1 x2).nvm = x0.nvm := same_of_hide (p := .nvm) (State.notify_hide 1125899906841599 rfl x0 x1 x2) rfl
@[simp] theorem State.notify_keeps_sched (x0 : State) (x1) (x2) : (State.notify x0 x1 x2).sched = x0.sched := same_of_hide (p := .sched) (State.notify_hide 1125899906840575 rfl x0 x1 x2) rfl
@[simp] theorem State.notify_keeps_gov (x0 : State) (x1) (x2) : (State.notify x0 x1 x2).gov = x0.gov := same_of_hide (p := .gov) (State.notify_hide 1125899906838527 rfl x0 x1 x2) rfl
@[simp] theorem State.notify_keeps_est (x0 : State) (x1) (x2) : (State.notify x0 x1 x2).est = x0.est := same_of_hide (p := .est) (State.notify_hide 1125899906834431 rfl x0 x1 x2) rfl
@[simp] theorem State.notify_keeps_estMod (x0 : State) (x1) (x2) : (State.notify x0 x1 x2).estMod = x0.estMod := same_of_hide (p := .estMod) (State.notify_hide 1125899906826239 rfl x0 x1 x2) rfl
@[simp] theorem State.notify_keeps_str (x0 : State) (x1) (x2) : (State.notify x0 x1 x2).str = x0.str := same_of_hide (p := .str) (State.notify_hide 1125899906809855 rfl x0 x1 x2) rfl
@[simp] theorem State.notify_keeps_eis (x0 : State) (x1) (x2) : (State.notify x0 x1 x2).eis = x0.eis := same_of_hide (p := .eis) (State.notify_hide 1125899906777087 rfl x0 x1 x2) rfl
@[simp] theorem State.notify_keeps_thermo (x0 : State) (x1) (x2) : (State.notify x0 x1 x2).thermo = x0.thermo := same_of_hide (p := .thermo) (State.notify_hide 1125899906711551 rfl x0 x1 x2) rfl
@[simp] theorem State.notify_keeps_ntc (x0 : State) (x1) (x2) : (State.notify x0 x1 x2).ntc = x0.ntc := same_of_hide (p := .ntc) (State.notify_hide 1125899906580479 rfl x0 x1 x2) rfl
@[simp] theorem State.notify_keeps_tbl (x0 : State) (x1) (x2) : (State.notify x0 x1 x2).tbl = x0.tbl := same_of_hide (p := .tbl) (State.notify_hide 1125899906318335 rfl x0 x1 x2) rfl
@[simp] theorem State.notify_keeps_bal (x0 : State) (x1) (x2) : (State.notify x0 x1 x2).bal = x0.bal := same_of_hide (p := .bal) (State.notify_hide 1125899905794047 rfl x0 x1 x2) rfl
@[simp] theorem State.notify_keeps_prot (x0 : State) (x1) (x2) : (State.notify x0 x1 x2).prot = x0.prot := same_of_hide (p := .prot) (State.notify_hide 1125899904745471 rfl x0 x1 x2) rfl
@[simp] theorem State.notify_keeps_phase (x0 : State) (x1) (x2) : (State.notify x0 x1 x2).phase = x0.phase := same_of_hide (p := .phase) (State.notify_hide 1125899902648319 rfl x0 x1 x2) rfl
@[simp] theorem State.notify_keeps_conv (x0 : State) (x1) (x2) : (State.notify x0 x1 x2).conv = x0.conv := same_of_hide (p := .conv) (State.notify_hide 1125899898454015 rfl x0 x1 x2) rfl
@[simp] theorem State.notify_keeps_law (x0 : State) (x1) (x2) : (State.notify x0 x1 x2).law = x0.law := same_of_hide (p := .law) (State.notify_hide 1125899890065407 rfl x0 x1 x2) rfl
@[simp] theorem State.notify_keeps_lane (x0 : State) (x1) (x2) : (State.notify x0 x1 x2).lane = x0.lane := same_of_hide (p := .lane) (State.notify_hide 1125899839733759 rfl x0 x1 x2) rfl
@[simp] theorem State.notify_keeps_lanes (x0 : State) (x1) (x2) : (State.notify x0 x1 x2).lanes = x0.lanes := same_of_hide (p := .lanes) (State.notify_hide 1125899772624895 rfl x0 x1 x2) rfl
@[simp] theorem State.notify_keeps_safe (x0 : State) (x1) (x2) : (State.notify x0 x1 x2).safe = x0.safe := same_of_hide (p := .safe) (State.notify_hide 1125899638407167 rfl x0 x1 x2) rfl
@[simp] theorem State.notify_keeps_power (x0 : State) (x1) (x2) : (State.notify x0 x1 x2).power = x0.power := same_of_hide (p := .power) (State.notify_hide 1125899369971711 rfl x0 x1 x2) rfl
@[simp] theorem State.notify_keeps_sec (x0 : State) (x1) (x2) : (State.notify x0 x1 x2).sec = x0.sec := same_of_hide (p := .sec) (State.notify_hide 1125882726973439 rfl x0 x1 x2) rfl
@[simp] theorem State.notify_keeps_free (x0 : State) (x1) (x2) : (State.notify x0 x1 x2).free = x0.free := same_of_hide (p := .free) (State.notify_hide 1125865547104255 rfl x0 x1 x2) rfl
@[simp] theorem State.takePosition_keeps_ploza (x0 : State) (x1) (x2) : (State.takePosition x0 x1 x2).ploza = x0.ploza := same_of_hide (p := .ploza) (State.takePosition_hide 1125897759358975 rfl x0 x1 x2) rfl
@[simp] theorem State.absorb_keeps_grid (x0 : State) (x1) (x2) (x3) (x4) (x5) : (State.absorb x0 x1 x2 x3 x4 x5).grid = x0.grid := same_of_hide (p := .grid) (State.absorb_hide 1125899906842622 rfl x0 x1 x2 x3 x4 x5) rfl
@[simp] theorem State.absorb_keeps_fe (x0 : State) (x1) (x2) (x3) (x4) (x5) : (State.absorb x0 x1 x2 x3 x4 x5).fe = x0.fe := same_of_hide (p := .fe) (State.absorb_hide 1125899906842621 rfl x0 x1 x2 x3 x4 x5) rfl
@[simp] theorem State.absorb_keeps_chan (x0 : State) (x1) (x2) (x3) (x4) (x5) : (State.absorb x0 x1 x2 x3 x4 x5).chan = x0.chan := same_of_hide (p := .chan) (State.absorb_hide 1125899906842619 rfl x0 x1 x2 x3 x4 x5) rfl
@[simp] theorem State.absorb_keeps_tap (x0 : State) (x1) (x2) (x3) (x4) (x5) : (State.absorb x0 x1 x2 x3 x4 x5).tap = x0.tap := same_of_hide (p := .tap) (State.absorb_hide 1125899906842615 rfl x0 x1 x2 x3 x4 x5) rfl
@[simp] theorem State.absorb_keeps_ow (x0 : State) (x1) (x2) (x3) (x4) (x5) : (State.absorb x0 x1 x2 x3 x4 x5).ow = x0.ow := same_of_hide (p := .ow) (State.absorb_hide 1125899906842607 rfl x0 x1 x2 x3 x4 x5) rfl
@[simp] theorem State.absorb_keeps_cfe (x0 : State) (x1) (x2) (x3) (x4) (x5) : (State.absorb x0 x1 x2 x3 x4 x5).cfe = x0.cfe := same_of_hide (p := .cfe) (State.absorb_hide 1125899906842591 rfl x0 x1 x2 x3 x4 x5) rfl
@[simp] theorem State.absorb_keeps_branch (x0 : State) (x1) (x2) (x3) (x4) (x5) : (State.absorb x0 x1 x2 x3 x4 x5).branch = x0.branch := same_of_hide (p := .branch) (State.absorb_hide 1125899906842559 rfl x0 x1 x2 x3 x4 x5) rfl
@[simp] theorem State.absorb_keeps_pan (x0 : State) (x1) (x2) (x3) (x4) (x5) : (State.absorb x0 x1 x2 x3 x4 x5).pan = x0.pan := same_of_hide (p := .pan) (State.absorb_hide 1125899906842495 rfl x0 x1 x2 x3 x4 x5) rfl
@[simp] theorem State.absorb_keeps_slot (x0 : State) (x1) (x2) (x3) (x4) (x5) : (State.absorb x0 x1 x2 x3 x4 x5).slot = x0.slot := same_of_hide (p := .slot) (State.absorb_hide 1125899906842367 rfl x0 x1 x2 x3 x4 x5) rfl
@[simp] theorem State.absorb_keeps_sluice (x0 : State) (x1) (x2) (x3) (x4) (x5) : (State.absorb x0 x1 x2 x3 x4 x5).sluice = x0.sluice := same_of_hide (p := .sluice) (State.absorb_hide 1125899906842111 rfl x0 x1 x2 x3 x4 x5) rfl
@[simp] theorem State.absorb_keeps_nvm (x0 : State) (x1) (x2) (x3) (x4) (x5) : (State.absorb x0 x1 x2 x3 x4 x5).nvm = x0.nvm := same_of_hide (p := .nvm) (State.absorb_hide 1125899906841599 rfl x0 x1 x2 x3 x4 x5) rfl
@[simp] theorem State.absorb_keeps_sched (x0 : State) (x1) (x2) (x3) (x4) (x5) : (State.absorb x0 x1 x2 x3 x4 x5).sched = x0.sched := same_of_hide (p := .sched) (State.absorb_hide 1125899906840575 rfl x0 x1 x2 x3 x4 x5) rfl
@[simp] theorem State.absorb_keeps_gov (x0 : State) (x1) (x2) (x3) (x4) (x5) : (State.absorb x0 x1 x2 x3 x4 x5).gov = x0.gov := same_of_hide (p := .gov) (State.absorb_hide 1125899906838527 rfl x0 x1 x2 x3 x4 x5) rfl
@[simp] theorem State.absorb_keeps_est (x0 : State) (x1) (x2) (x3) (x4) (x5) : (State.absorb x0 x1 x2 x3 x4 x5).est = x0.est := same_of_hide (p := .est) (State.absorb_hide 1125899906834431 rfl x0 x1 x2 x3 x4 x5) rfl
@[simp] theorem State.absorb_keeps_estMod (x0 : State) (x1) (x2) (x3) (x4) (x5) : (State.absorb x0 x1 x2 x3 x4 x5).estMod = x0.estMod := same_of_hide (p := .estMod) (State.absorb_hide 1125899906826239 rfl x0 x1 x2 x3 x4 x5) rfl
@[simp] theorem State.absorb_keeps_str (x0 : State) (x1) (x2) (x3) (x4) (x5) : (State.absorb x0 x1 x2 x3 x4 x5).str = x0.str := same_of_hide (p := .str) (State.absorb_hide 1125899906809855 rfl x0 x1 x2 x3 x4 x5) rfl
@[simp] theorem State.absorb_keeps_eis (x0 : State) (x1) (x2) (x3) (x4) (x5) : (State.absorb x0 x1 x2 x3 x4 x5).eis = x0.eis := same_of_hide (p := .eis) (State.absorb_hide 1125899906777087 rfl x0 x1 x2 x3 x4 x5) rfl
@[simp] theorem State.absorb_keeps_thermo (x0 : State) (x1) (x2) (x3) (x4) (x5) : (State.absorb x0 x1 x2 x3 x4 x5).thermo = x0.thermo := same_of_hide (p := .thermo) (State.absorb_hide 1125899906711551 rfl x0 x1 x2 x3 x4 x5) rfl
@[simp] theorem State.absorb_keeps_ntc (x0 : State) (x1) (x2) (x3) (x4) (x5) : (State.absorb x0 x1 x2 x3 x4 x5).ntc = x0.ntc := same_of_hide (p := .ntc) (State.absorb_hide 1125899906580479 rfl x0 x1 x2 x3 x4 x5) rfl
@[simp] theorem State.absorb_keeps_tbl (x0 : State) (x1) (x2) (x3) (x4) (x5) : (State.absorb x0 x1 x2 x3 x4 x5).tbl = x0.tbl := same_of_hide (p := .tbl) (State.absorb_hide 1125899906318335 rfl x0 x1 x2 x3 x4 x5) rfl
@[simp] theorem State.absorb_keeps_bal (x0 : State) (x1) (x2) (x3) (x4) (x5) : (State.absorb x0 x1 x2 x3 x4 x5).bal = x0.bal := same_of_hide (p := .bal) (State.absorb_hide 1125899905794047 rfl x0 x1 x2 x3 x4 x5) rfl
@[simp] theorem State.absorb_keeps_prot (x0 : State) (x1) (x2) (x3) (x4) (x5) : (State.absorb x0 x1 x2 x3 x4 x5).prot = x0.prot := same_of_hide (p := .prot) (State.absorb_hide 1125899904745471 rfl x0 x1 x2 x3 x4 x5) rfl
@[simp] theorem State.absorb_keeps_phase (x0 : State) (x1) (x2) (x3) (x4) (x5) : (State.absorb x0 x1 x2 x3 x4 x5).phase = x0.phase := same_of_hide (p := .phase) (State.absorb_hide 1125899902648319 rfl x0 x1 x2 x3 x4 x5) rfl
@[simp] theorem State.absorb_keeps_conv (x0 : State) (x1) (x2) (x3) (x4) (x5) : (State.absorb x0 x1 x2 x3 x4 x5).conv = x0.conv := same_of_hide (p := .conv) (State.absorb_hide 1125899898454015 rfl x0 x1 x2 x3 x4 x5) rfl
@[simp] theorem State.absorb_keeps_law (x0 : State) (x1) (x2) (x3) (x4) (x5) : (State.absorb x0 x1 x2 x3 x4 x5).law = x0.law := same_of_hide (p := .law) (State.absorb_hide 1125899890065407 rfl x0 x1 x2 x3 x4 x5) rfl
@[simp] theorem State.absorb_keeps_lane (x0 : State) (x1) (x2) (x3) (x4) (x5) : (State.absorb x0 x1 x2 x3 x4 x5).lane = x0.lane := same_of_hide (p := .lane) (State.absorb_hide 1125899839733759 rfl x0 x1 x2 x3 x4 x5) rfl
@[simp] theorem State.absorb_keeps_safe (x0 : State) (x1) (x2) (x3) (x4) (x5) : (State.absorb x0 x1 x2 x3 x4 x5).safe = x0.safe := same_of_hide (p := .safe) (State.absorb_hide 1125899638407167 rfl x0 x1 x2 x3 x4 x5) rfl
@[simp] theorem State.absorb_keeps_power (x0 : State) (x1) (x2) (x3) (x4) (x5) : (State.absorb x0 x1 x2 x3 x4 x5).power = x0.power := same_of_hide (p := .power) (State.absorb_hide 1125899369971711 rfl x0 x1 x2 x3 x4 x5) rfl
@[simp] theorem State.absorb_keeps_sec (x0 : State) (x1) (x2) (x3) (x4) (x5) : (State.absorb x0 x1 x2 x3 x4 x5).sec = x0.sec := same_of_hide (p := .sec) (State.absorb_hide 1125882726973439 rfl x0 x1 x2 x3 x4 x5) rfl
@[simp] theorem State.absorb_keeps_free (x0 : State) (x1) (x2) (x3) (x4) (x5) : (State.absorb x0 x1 x2 x3 x4 x5).free = x0.free := same_of_hide (p := .free) (State.absorb_hide 1125865547104255 rfl x0 x1 x2 x3 x4 x5) rfl
@[simp] theorem State.restRequest_keeps_est (x0 : State) : (State.restRequest x0).est = x0.est := same_of_hide (p := .est) (State.restRequest_hide 1125899906834431 rfl x0) rfl
@[simp] theorem State.restRequest_keeps_estMod (x0 : State) : (State.restRequest x0).estMod = x0.estMod := same_of_hide (p := .estMod) (State.restRequest_hide 1125899906826239 rfl x0) rfl
@[simp] theorem State.cellCause_keeps_fe (x0 : State) (x1) (x2) (x3) (x4) : (State.cellCause x0 x1 x2 x3 x4).fe = x0.fe := same_of_hide (p := .fe) (State.cellCause_hide 1125899906842621 rfl x0 x1 x2 x3 x4) rfl
@[simp] theorem State.runLaw_keeps_grid (x0 : State) : (State.runLaw x0).grid = x0.grid := same_of_hide (p := .grid) (State.runLaw_hide 1125899906842622 rfl x0) rfl
@[simp] theorem State.runLaw_keeps_prot (x0 : State) : (State.runLaw x0).prot = x0.prot := same_of_hide (p := .prot) (State.runLaw_hide 1125899904745471 rfl x0) rfl
@[simp] theorem State.complete_keeps_grid (x0 : State) (x1) (x2) (x3) (x4) (x5) (x6) : (State.complete x0 x1 x2 x3 x4 x5 x6).grid = x0.grid := same_of_hide (p := .grid) (State.complete_hide 1125899906842622 rfl x0 x1 x2 x3 x4 x5 x6) rfl
@[simp] theorem State.complete_keeps_fe (x0 : State) (x1) (x2) (x3) (x4) (x5) (x6) : (State.complete x0 x1 x2 x3 x4 x5 x6).fe = x0.fe := same_of_hide (p := .fe) (State.complete_hide 1125899906842621 rfl x0 x1 x2 x3 x4 x5 x6) rfl
@[simp] theorem State.complete_keeps_chan (x0 : State) (x1) (x2) (x3) (x4) (x5) (x6) : (State.complete x0 x1 x2 x3 x4 x5 x6).chan = x0.chan := same_of_hide (p := .chan) (State.complete_hide 1125899906842619 rfl x0 x1 x2 x3 x4 x5 x6) rfl
@[simp] theorem State.complete_keeps_tap (x0 : State) (x1) (x2) (x3) (x4) (x5) (x6) : (State.complete x0 x1 x2 x3 x4 x5 x6).tap = x0.tap := same_of_hide (p := .tap) (State.complete_hide 1125899906842615 rfl x0 x1 x2 x3 x4 x5 x6) rfl
@[simp] theorem State.complete_keeps_ow (x0 : State) (x1) (x2) (x3) (x4) (x5) (x6) : (State.complete x0 x1 x2 x3 x4 x5 x6).ow = x0.ow := same_of_hide (p := .ow) (State.complete_hide 1125899906842607 rfl x0 x1 x2 x3 x4 x5 x6) rfl
@[simp] theorem State.complete_keeps_cfe (x0 : State) (x1) (x2) (x3) (x4) (x5) (x6) : (State.complete x0 x1 x2 x3 x4 x5 x6).cfe = x0.cfe := same_of_hide (p := .cfe) (State.complete_hide 1125899906842591 rfl x0 x1 x2 x3 x4 x5 x6) rfl
@[simp] theorem State.complete_keeps_branch (x0 : State) (x1) (x2) (x3) (x4) (x5) (x6) : (State.complete x0 x1 x2 x3 x4 x5 x6).branch = x0.branch := same_of_hide (p := .branch) (State.complete_hide 1125899906842559 rfl x0 x1 x2 x3 x4 x5 x6) rfl
@[simp] theorem State.complete_keeps_pan (x0 : State) (x1) (x2) (x3) (x4) (x5) (x6) : (State.complete x0 x1 x2 x3 x4 x5 x6).pan = x0.pan := same_of_hide (p := .pan) (State.complete_hide 1125899906842495 rfl x0 x1 x2 x3 x4 x5 x6) rfl
@[simp] theorem State.complete_keeps_slot (x0 : State) (x1) (x2) (x3) (x4) (x5) (x6) : (State.complete x0 x1 x2 x3 x4 x5 x6).slot = x0.slot := same_of_hide (p := .slot) (State.complete_hide 1125899906842367 rfl x0 x1 x2 x3 x4 x5 x6) rfl
@[simp] theorem State.complete_keeps_sluice (x0 : State) (x1) (x2) (x3) (x4) (x5) (x6) : (State.complete x0 x1 x2 x3 x4 x5 x6).sluice = x0.sluice := same_of_hide (p := .sluice) (State.complete_hide 1125899906842111 rfl x0 x1 x2 x3 x4 x5 x6) rfl
@[simp] theorem State.complete_keeps_nvm (x0 : State) (x1) (x2) (x3) (x4) (x5) (x6) : (State.complete x0 x1 x2 x3 x4 x5 x6).nvm = x0.nvm := same_of_hide (p := .nvm) (State.complete_hide 1125899906841599 rfl x0 x1 x2 x3 x4 x5 x6) rfl
@[simp] theorem State.complete_keeps_sched (x0 : State) (x1) (x2) (x3) (x4) (x5) (x6) : (State.complete x0 x1 x2 x3 x4 x5 x6).sched = x0.sched := same_of_hide (p := .sched) (State.complete_hide 1125899906840575 rfl x0 x1 x2 x3 x4 x5 x6) rfl
@[simp] theorem State.complete_keeps_gov (x0 : State) (x1) (x2) (x3) (x4) (x5) (x6) : (State.complete x0 x1 x2 x3 x4 x5 x6).gov = x0.gov := same_of_hide (p := .gov) (State.complete_hide 1125899906838527 rfl x0 x1 x2 x3 x4 x5 x6) rfl
@[simp] theorem State.complete_keeps_est (x0 : State) (x1) (x2) (x3) (x4) (x5) (x6) : (State.complete x0 x1 x2 x3 x4 x5 x6).est = x0.est := same_of_hide (p := .est) (State.complete_hide 1125899906834431 rfl x0 x1 x2 x3 x4 x5 x6) rfl
@[simp] theorem State.complete_keeps_estMod (x0 : State) (x1) (x2) (x3) (x4) (x5) (x6) : (State.complete x0 x1 x2 x3 x4 x5 x6).estMod = x0.estMod := same_of_hide (p := .estMod) (State.complete_hide 1125899906826239 rfl x0 x1 x2 x3 x4 x5 x6) rfl
@[simp] theorem State.complete_keeps_str (x0 : State) (x1) (x2) (x3) (x4) (x5) (x6) : (State.complete x0 x1 x2 x3 x4 x5 x6).str = x0.str := same_of_hide (p := .str) (State.complete_hide 1125899906809855 rfl x0 x1 x2 x3 x4 x5 x6) rfl
@[simp] theorem State.complete_keeps_eis (x0 : State) (x1) (x2) (x3) (x4) (x5) (x6) : (State.complete x0 x1 x2 x3 x4 x5 x6).eis = x0.eis := same_of_hide (p := .eis) (State.complete_hide 1125899906777087 rfl x0 x1 x2 x3 x4 x5 x6) rfl
@[simp] theorem State.complete_keeps_thermo (x0 : State) (x1) (x2) (x3) (x4) (x5) (x6) : (State.complete x0 x1 x2 x3 x4 x5 x6).thermo = x0.thermo := same_of_hide (p := .thermo) (State.complete_hide 1125899906711551 rfl x0 x1 x2 x3 x4 x5 x6) rfl
@[simp] theorem State.complete_keeps_ntc (x0 : State) (x1) (x2) (x3) (x4) (x5) (x6) : (State.complete x0 x1 x2 x3 x4 x5 x6).ntc = x0.ntc := same_of_hide (p := .ntc) (State.complete_hide 1125899906580479 rfl x0 x1 x2 x3 x4 x5 x6) rfl
@[simp] theorem State.complete_keeps_tbl (x0 : State) (x1) (x2) (x3) (x4) (x5) (x6) : (State.complete x0 x1 x2 x3 x4 x5 x6).tbl = x0.tbl := same_of_hide (p := .tbl) (State.complete_hide 1125899906318335 rfl x0 x1 x2 x3 x4 x5 x6) rfl
@[simp] theorem State.complete_keeps_bal (x0 : State) (x1) (x2) (x3) (x4) (x5) (x6) : (State.complete x0 x1 x2 x3 x4 x5 x6).bal = x0.bal := same_of_hide (p := .bal) (State.complete_hide 1125899905794047 rfl x0 x1 x2 x3 x4 x5 x6) rfl
@[simp] theorem State.complete_keeps_prot (x0 : State) (x1) (x2) (x3) (x4) (x5) (x6) : (State.complete x0 x1 x2 x3 x4 x5 x6).prot = x0.prot := same_of_hide (p := .prot) (State.complete_hide 1125899904745471 rfl x0 x1 x2 x3 x4 x5 x6) rfl
@[simp] theorem State.complete_keeps_phase (x0 : State) (x1) (x2) (x3) (x4) (x5) (x6) : (State.complete x0 x1 x2 x3 x4 x5 x6).phase = x0.phase := same_of_hide (p := .phase) (State.complete_hide 1125899902648319 rfl x0 x1 x2 x3 x4 x5 x6) rfl
@[simp] theorem State.complete_keeps_conv (x0 : State) (x1) (x2) (x3) (x4) (x5) (x6) : (State.complete x0 x1 x2 x3 x4 x5 x6).conv = x0.conv := same_of_hide (p := .conv) (State.complete_hide 1125899898454015 rfl x0 x1 x2 x3 x4 x5 x6) rfl
@[simp] theorem State.complete_keeps_law (x0 : State) (x1) (x2) (x3) (x4) (x5) (x6) : (State.complete x0 x1 x2 x3 x4 x5 x6).law = x0.law := same_of_hide (p := .law) (State.complete_hide 1125899890065407 rfl x0 x1 x2 x3 x4 x5 x6) rfl
@[simp] theorem State.complete_keeps_lane (x0 : State) (x1) (x2) (x3) (x4) (x5) (x6) : (State.complete x0 x1 x2 x3 x4 x5 x6).lane = x0.lane := same_of_hide (p := .lane) (State.complete_hide 1125899839733759 rfl x0 x1 x2 x3 x4 x5 x6) rfl
@[simp] theorem State.complete_keeps_lanes (x0 : State) (x1) (x2) (x3) (x4) (x5) (x6) : (State.complete x0 x1 x2 x3 x4 x5 x6).lanes = x0.lanes := same_of_hide (p := .lanes) (State.complete_hide 1125899772624895 rfl x0 x1 x2 x3 x4 x5 x6) rfl
@[simp] theorem State.complete_keeps_safe (x0 : State) (x1) (x2) (x3) (x4) (x5) (x6) : (State.complete x0 x1 x2 x3 x4 x5 x6).safe = x0.safe := same_of_hide (p := .safe) (State.complete_hide 1125899638407167 rfl x0 x1 x2 x3 x4 x5 x6) rfl
@[simp] theorem State.complete_keeps_power (x0 : State) (x1) (x2) (x3) (x4) (x5) (x6) : (State.complete x0 x1 x2 x3 x4 x5 x6).power = x0.power := same_of_hide (p := .power) (State.complete_hide 1125899369971711 rfl x0 x1 x2 x3 x4 x5 x6) rfl
@[simp] theorem State.complete_keeps_sec (x0 : State) (x1) (x2) (x3) (x4) (x5) (x6) : (State.complete x0 x1 x2 x3 x4 x5 x6).sec = x0.sec := same_of_hide (p := .sec) (State.complete_hide 1125882726973439 rfl x0 x1 x2 x3 x4 x5 x6) rfl
@[simp] theorem State.complete_keeps_free (x0 : State) (x1) (x2) (x3) (x4) (x5) (x6) : (State.complete x0 x1 x2 x3 x4 x5 x6).free = x0.free := same_of_hide (p := .free) (State.complete_hide 1125865547104255 rfl x0 x1 x2 x3 x4 x5 x6) rfl
@[simp] theorem State.notifySafety_keeps_grid (x0 : State) : (State.notifySafety x0).grid = x0.grid := same_of_hide (p := .grid) (State.notifySafety_hide 1125899906842622 rfl x0) rfl
@[simp] theorem State.notifySafety_keeps_fe (x0 : State) : (State.notifySafety x0).fe = x0.fe := same_of_hide (p := .fe) (State.notifySafety_hide 1125899906842621 rfl x0) rfl
@[simp] theorem State.notifySafety_keeps_chan (x0 : State) : (State.notifySafety x0).chan = x0.chan := same_of_hide (p := .chan) (State.notifySafety_hide 1125899906842619 rfl x0) rfl
@[simp] theorem State.notifySafety_keeps_tap (x0 : State) : (State.notifySafety x0).tap = x0.tap := same_of_hide (p := .tap) (State.notifySafety_hide 1125899906842615 rfl x0) rfl
@[simp] theorem State.notifySafety_keeps_ow (x0 : State) : (State.notifySafety x0).ow = x0.ow := same_of_hide (p := .ow) (State.notifySafety_hide 1125899906842607 rfl x0) rfl
@[simp] theorem State.notifySafety_keeps_cfe (x0 : State) : (State.notifySafety x0).cfe = x0.cfe := same_of_hide (p := .cfe) (State.notifySafety_hide 1125899906842591 rfl x0) rfl
@[simp] theorem State.notifySafety_keeps_branch (x0 : State) : (State.notifySafety x0).branch = x0.branch := same_of_hide (p := .branch) (State.notifySafety_hide 1125899906842559 rfl x0) rfl
@[simp] theorem State.notifySafety_keeps_pan (x0 : State) : (State.notifySafety x0).pan = x0.pan := same_of_hide (p := .pan) (State.notifySafety_hide 1125899906842495 rfl x0) rfl
@[simp] theorem State.notifySafety_keeps_slot (x0 : State) : (State.notifySafety x0).slot = x0.slot := same_of_hide (p := .slot) (State.notifySafety_hide 1125899906842367 rfl x0) rfl
@[simp] theorem State.notifySafety_keeps_sluice (x0 : State) : (State.notifySafety x0).sluice = x0.sluice := same_of_hide (p := .sluice) (State.notifySafety_hide 1125899906842111 rfl x0) rfl
@[simp] theorem State.notifySafety_keeps_nvm (x0 : State) : (State.notifySafety x0).nvm = x0.nvm := same_of_hide (p := .nvm) (State.notifySafety_hide 1125899906841599 rfl x0) rfl
@[simp] theorem State.notifySafety_keeps_sched (x0 : State) : (State.notifySafety x0).sched = x0.sched := same_of_hide (p := .sched) (State.notifySafety_hide 1125899906840575 rfl x0) rfl
@[simp] theorem State.notifySafety_keeps_gov (x0 : State) : (State.notifySafety x0).gov = x0.gov := same_of_hide (p := .gov) (State.notifySafety_hide 1125899906838527 rfl x0) rfl
@[simp] theorem State.notifySafety_keeps_est (x0 : State) : (State.notifySafety x0).est = x0.est := same_of_hide (p := .est) (State.notifySafety_hide 1125899906834431 rfl x0) rfl
@[simp] theorem State.notifySafety_keeps_estMod (x0 : State) : (State.notifySafety x0).estMod = x0.estMod := same_of_hide (p := .estMod) (State.notifySafety_hide 1125899906826239 rfl x0) rfl
@[simp] theorem State.notifySafety_keeps_str (x0 : State) : (State.notifySafety x0).str = x0.str := same_of_hide (p := .str) (State.notifySafety_hide 1125899906809855 rfl x0) rfl
@[simp] theorem State.notifySafety_keeps_eis (x0 : State) : (State.notifySafety x0).eis = x0.eis := same_of_hide (p := .eis) (State.notifySafety_hide 1125899906777087 rfl x0) rfl
@[simp] theorem State.notifySafety_keeps_thermo (x0 : State) : (State.notifySafety x0).thermo = x0.thermo := same_of_hide (p := .thermo) (State.notifySafety_hide 1125899906711551 rfl x0) rfl
@[simp] theorem State.notifySafety_keeps_ntc (x0 : State) : (State.notifySafety x0).ntc = x0.ntc := same_of_hide (p := .ntc) (State.notifySafety_hide 1125899906580479 rfl x0) rfl
@[simp] theorem State.notifySafety_keeps_tbl (x0 : State) : (State.notifySafety x0).tbl = x0.tbl := same_of_hide (p := .tbl) (State.notifySafety_hide 1125899906318335 rfl x0) rfl
@[simp] theorem State.notifySafety_keeps_bal (x0 : State) : (State.notifySafety x0).bal = x0.bal := same_of_hide (p := .bal) (State.notifySafety_hide 1125899905794047 rfl x0) rfl
@[simp] theorem State.notifySafety_keeps_prot (x0 : State) : (State.notifySafety x0).prot = x0.prot := same_of_hide (p := .prot) (State.notifySafety_hide 1125899904745471 rfl x0) rfl
@[simp] theorem State.notifySafety_keeps_phase (x0 : State) : (State.notifySafety x0).phase = x0.phase := same_of_hide (p := .phase) (State.notifySafety_hide 1125899902648319 rfl x0) rfl
@[simp] theorem State.notifySafety_keeps_conv (x0 : State) : (State.notifySafety x0).conv = x0.conv := same_of_hide (p := .conv) (State.notifySafety_hide 1125899898454015 rfl x0) rfl
@[simp] theorem State.notifySafety_keeps_law (x0 : State) : (State.notifySafety x0).law = x0.law := same_of_hide (p := .law) (State.notifySafety_hide 1125899890065407 rfl x0) rfl
@[simp] theorem State.notifySafety_keeps_lane (x0 : State) : (State.notifySafety x0).lane = x0.lane := same_of_hide (p := .lane) (State.notifySafety_hide 1125899839733759 rfl x0) rfl
@[simp] theorem State.notifySafety_keeps_lanes (x0 : State) : (State.notifySafety x0).lanes = x0.lanes := same_of_hide (p := .lanes) (State.notifySafety_hide 1125899772624895 rfl x0) rfl
@[simp] theorem State.notifySafety_keeps_safe (x0 : State) : (State.notifySafety x0).safe = x0.safe := same_of_hide (p := .safe) (State.notifySafety_hide 1125899638407167 rfl x0) rfl
@[simp] theorem State.notifySafety_keeps_power (x0 : State) : (State.notifySafety x0).power = x0.power := same_of_hide (p := .power) (State.notifySafety_hide 1125899369971711 rfl x0) rfl
@[simp] theorem State.notifySafety_keeps_sec (x0 : State) : (State.notifySafety x0).sec = x0.sec := same_of_hide (p := .sec) (State.notifySafety_hide 1125882726973439 rfl x0) rfl
@[simp] theorem State.notifySafety_keeps_free (x0 : State) : (State.notifySafety x0).free = x0.free := same_of_hide (p := .free) (State.notifySafety_hide 1125865547104255 rfl x0) rfl
@[simp] theorem State.trip_keeps_fe (x0 : State) (x1) : (State.trip x0 x1).fe = x0.fe := same_of_hide (p := .fe) (State.trip_hide 1125899906842621 rfl x0 x1) rfl
@[simp] theorem State.trip_keeps_chan (x0 : State) (x1) : (State.trip x0 x1).chan = x0.chan := same_of_hide (p := .chan) (State.trip_hide 1125899906842619 rfl x0 x1) rfl
@[simp] theorem State.trip_keeps_tap (x0 : State) (x1) : (State.trip x0 x1).tap = x0.tap := same_of_hide (p := .tap) (State.trip_hide 1125899906842615 rfl x0 x1) rfl
@[simp] theorem State.trip_keeps_ow (x0 : State) (x1) : (State.trip x0 x1).ow = x0.ow := same_of_hide (p := .ow) (State.trip_hide 1125899906842607 rfl x0 x1) rfl
@[simp] theorem State.trip_keeps_cfe (x0 : State) (x1) : (State.trip x0 x1).cfe = x0.cfe := same_of_hide (p := .cfe) (State.trip_hide 1125899906842591 rfl x0 x1) rfl
@[simp] theorem State.trip_keeps_branch (x0 : State) (x1) : (State.trip x0 x1).branch = x0.branch := same_of_hide (p := .branch) (State.trip_hide 1125899906842559 rfl x0 x1) rfl
@[simp] theorem State.trip_keeps_pan (x0 : State) (x1) : (State.trip x0 x1).pan = x0.pan := same_of_hide (p := .pan) (State.trip_hide 1125899906842495 rfl x0 x1) rfl
@[simp] theorem State.trip_keeps_slot (x0 : State) (x1) : (State.trip x0 x1).slot = x0.slot := same_of_hide (p := .slot) (State.trip_hide 1125899906842367 rfl x0 x1) rfl
@[simp] theorem State.trip_keeps_sluice (x0 : State) (x1) : (State.trip x0 x1).sluice = x0.sluice := same_of_hide (p := .sluice) (State.trip_hide 1125899906842111 rfl x0 x1) rfl
@[simp] theorem State.trip_keeps_nvm (x0 : State) (x1) : (State.trip x0 x1).nvm = x0.nvm := same_of_hide (p := .nvm) (State.trip_hide 1125899906841599 rfl x0 x1) rfl
@[simp] theorem State.trip_keeps_sched (x0 : State) (x1) : (State.trip x0 x1).sched = x0.sched := same_of_hide (p := .sched) (State.trip_hide 1125899906840575 rfl x0 x1) rfl
@[simp] theorem State.trip_keeps_gov (x0 : State) (x1) : (State.trip x0 x1).gov = x0.gov := same_of_hide (p := .gov) (State.trip_hide 1125899906838527 rfl x0 x1) rfl
@[simp] theorem State.trip_keeps_est (x0 : State) (x1) : (State.trip x0 x1).est = x0.est := same_of_hide (p := .est) (State.trip_hide 1125899906834431 rfl x0 x1) rfl
@[simp] theorem State.trip_keeps_estMod (x0 : State) (x1) : (State.trip x0 x1).estMod = x0.estMod := same_of_hide (p := .estMod) (State.trip_hide 1125899906826239 rfl x0 x1) rfl
@[simp] theorem State.trip_keeps_str (x0 : State) (x1) : (State.trip x0 x1).str = x0.str := same_of_hide (p := .str) (State.trip_hide 1125899906809855 rfl x0 x1) rfl
@[simp] theorem State.trip_keeps_eis (x0 : State) (x1) : (State.trip x0 x1).eis = x0.eis := same_of_hide (p := .eis) (State.trip_hide 1125899906777087 rfl x0 x1) rfl
@[simp] theorem State.trip_keeps_thermo (x0 : State) (x1) : (State.trip x0 x1).thermo = x0.thermo := same_of_hide (p := .thermo) (State.trip_hide 1125899906711551 rfl x0 x1) rfl
@[simp] theorem State.trip_keeps_ntc (x0 : State) (x1) : (State.trip x0 x1).ntc = x0.ntc := same_of_hide (p := .ntc) (State.trip_hide 1125899906580479 rfl x0 x1) rfl
@[simp] theorem State.trip_keeps_tbl (x0 : State) (x1) : (State.trip x0 x1).tbl = x0.tbl := same_of_hide (p := .tbl) (State.trip_hide 1125899906318335 rfl x0 x1) rfl
@[simp] theorem State.trip_keeps_bal (x0 : State) (x1) : (State.trip x0 x1).bal = x0.bal := same_of_hide (p := .bal) (State.trip_hide 1125899905794047 rfl x0 x1) rfl
@[simp] theorem State.trip_keeps_prot (x0 : State) (x1) : (State.trip x0 x1).prot = x0.prot := same_of_hide (p := .prot) (State.trip_hide 1125899904745471 rfl x0 x1) rfl
@[simp] theorem State.trip_keeps_lane (x0 : State) (x1) : (State.trip x0 x1).lane = x0.lane := same_of_hide (p := .lane) (State.trip_hide 1125899839733759 rfl x0 x1) rfl
@[simp] theorem State.trip_keeps_lanes (x0 : State) (x1) : (State.trip x0 x1).lanes = x0.lanes := same_of_hide (p := .lanes) (State.trip_hide 1125899772624895 rfl x0 x1) rfl
@[simp] theorem State.trip_keeps_power (x0 : State) (x1) : (State.trip x0 x1).power = x0.power := same_of_hide (p := .power) (State.trip_hide 1125899369971711 rfl x0 x1) rfl
@[simp] theorem State.trip_keeps_sec (x0 : State) (x1) : (State.trip x0 x1).sec = x0.sec := same_of_hide (p := .sec) (State.trip_hide 1125882726973439 rfl x0 x1) rfl
@[simp] theorem State.protNotice_keeps_grid (x0 : State) : (State.protNotice x0).grid = x0.grid := same_of_hide (p := .grid) (State.protNotice_hide 1125899906842622 rfl x0) rfl
@[simp] theorem State.protNotice_keeps_fe (x0 : State) : (State.protNotice x0).fe = x0.fe := same_of_hide (p := .fe) (State.protNotice_hide 1125899906842621 rfl x0) rfl
@[simp] theorem State.protNotice_keeps_chan (x0 : State) : (State.protNotice x0).chan = x0.chan := same_of_hide (p := .chan) (State.protNotice_hide 1125899906842619 rfl x0) rfl
@[simp] theorem State.protNotice_keeps_tap (x0 : State) : (State.protNotice x0).tap = x0.tap := same_of_hide (p := .tap) (State.protNotice_hide 1125899906842615 rfl x0) rfl
@[simp] theorem State.protNotice_keeps_ow (x0 : State) : (State.protNotice x0).ow = x0.ow := same_of_hide (p := .ow) (State.protNotice_hide 1125899906842607 rfl x0) rfl
@[simp] theorem State.protNotice_keeps_cfe (x0 : State) : (State.protNotice x0).cfe = x0.cfe := same_of_hide (p := .cfe) (State.protNotice_hide 1125899906842591 rfl x0) rfl
@[simp] theorem State.protNotice_keeps_branch (x0 : State) : (State.protNotice x0).branch = x0.branch := same_of_hide (p := .branch) (State.protNotice_hide 1125899906842559 rfl x0) rfl
@[simp] theorem State.protNotice_keeps_pan (x0 : State) : (State.protNotice x0).pan = x0.pan := same_of_hide (p := .pan) (State.protNotice_hide 1125899906842495 rfl x0) rfl
@[simp] theorem State.protNotice_keeps_slot (x0 : State) : (State.protNotice x0).slot = x0.slot := same_of_hide (p := .slot) (State.protNotice_hide 1125899906842367 rfl x0) rfl
@[simp] theorem State.protNotice_keeps_sluice (x0 : State) : (State.protNotice x0).sluice = x0.sluice := same_of_hide (p := .sluice) (State.protNotice_hide 1125899906842111 rfl x0) rfl
@[simp] theorem State.protNotice_keeps_nvm (x0 : State) : (State.protNotice x0).nvm = x0.nvm := same_of_hide (p := .nvm) (State.protNotice_hide 1125899906841599 rfl x0) rfl
@[simp] theorem State.protNotice_keeps_sched (x0 : State) : (State.protNotice x0).sched = x0.sched := same_of_hide (p := .sched) (State.protNotice_hide 1125899906840575 rfl x0) rfl
@[simp] theorem State.protNotice_keeps_gov (x0 : State) : (State.protNotice x0).gov = x0.gov := same_of_hide (p := .gov) (State.protNotice_hide 1125899906838527 rfl x0) rfl
@[simp] theorem State.protNotice_keeps_est (x0 : State) : (State.protNotice x0).est = x0.est := same_of_hide (p := .est) (State.protNotice_hide 1125899906834431 rfl x0) rfl
@[simp] theorem State.protNotice_keeps_estMod (x0 : State) : (State.protNotice x0).estMod = x0.estMod := same_of_hide (p := .estMod) (State.protNotice_hide 1125899906826239 rfl x0) rfl
@[simp] theorem State.protNotice_keeps_str (x0 : State) : (State.protNotice x0).str = x0.str := same_of_hide (p := .str) (State.protNotice_hide 1125899906809855 rfl x0) rfl
@[simp] theorem State.protNotice_keeps_eis (x0 : State) : (State.protNotice x0).eis = x0.eis := same_of_hide (p := .eis) (State.protNotice_hide 1125899906777087 rfl x0) rfl
@[simp] theorem State.protNotice_keeps_thermo (x0 : State) : (State.protNotice x0).thermo = x0.thermo := same_of_hide (p := .thermo) (State.protNotice_hide 1125899906711551 rfl x0) rfl
@[simp] theorem State.protNotice_keeps_ntc (x0 : State) : (State.protNotice x0).ntc = x0.ntc := same_of_hide (p := .ntc) (State.protNotice_hide 1125899906580479 rfl x0) rfl
@[simp] theorem State.protNotice_keeps_tbl (x0 : State) : (State.protNotice x0).tbl = x0.tbl := same_of_hide (p := .tbl) (State.protNotice_hide 1125899906318335 rfl x0) rfl
@[simp] theorem State.protNotice_keeps_bal (x0 : State) : (State.protNotice x0).bal = x0.bal := same_of_hide (p := .bal) (State.protNotice_hide 1125899905794047 rfl x0) rfl
@[simp] theorem State.protNotice_keeps_prot (x0 : State) : (State.protNotice x0).prot = x0.prot := same_of_hide (p := .prot) (State.protNotice_hide 1125899904745471 rfl x0) rfl
@[simp] theorem State.protNotice_keeps_phase (x0 : State) : (State.protNotice x0).phase = x0.phase := same_of_hide (p := .phase) (State.protNotice_hide 1125899902648319 rfl x0) rfl
@[simp] theorem State.protNotice_keeps_conv (x0 : State) : (State.protNotice x0).conv = x0.conv := same_of_hide (p := .conv) (State.protNotice_hide 1125899898454015 rfl x0) rfl
@[simp] theorem State.protNotice_keeps_law (x0 : State) : (State.protNotice x0).law = x0.law := same_of_hide (p := .law) (State.protNotice_hide 1125899890065407 rfl x0) rfl
@[simp] theorem State.protNotice_keeps_lane (x0 : State) : (State.protNotice x0).lane = x0.lane := same_of_hide (p := .lane) (State.protNotice_hide 1125899839733759 rfl x0) rfl
@[simp] theorem State.protNotice_keeps_lanes (x0 : State) : (State.protNotice x0).lanes = x0.lanes := same_of_hide (p := .lanes) (State.protNotice_hide 1125899772624895 rfl x0) rfl
@[simp] theorem State.protNotice_keeps_safe (x0 : State) : (State.protNotice x0).safe = x0.safe := same_of_hide (p := .safe) (State.protNotice_hide 1125899638407167 rfl x0) rfl
@[simp] theorem State.protNotice_keeps_power (x0 : State) : (State.protNotice x0).power = x0.power := same_of_hide (p := .power) (State.protNotice_hide 1125899369971711 rfl x0) rfl
@[simp] theorem State.protNotice_keeps_ploza (x0 : State) : (State.protNotice x0).ploza = x0.ploza := same_of_hide (p := .ploza) (State.protNotice_hide 1125897759358975 rfl x0) rfl
@[simp] theorem State.protNotice_keeps_sec (x0 : State) : (State.protNotice x0).sec = x0.sec := same_of_hide (p := .sec) (State.protNotice_hide 1125882726973439 rfl x0) rfl
@[simp] theorem State.protNotice_keeps_free (x0 : State) : (State.protNotice x0).free = x0.free := same_of_hide (p := .free) (State.protNotice_hide 1125865547104255 rfl x0) rfl
@[simp] theorem State.checkSpares_keeps_pan (x0 : State) : (State.checkSpares x0).pan = x0.pan := same_of_hide (p := .pan) (State.checkSpares_hide 1125899906842495 rfl x0) rfl
@[simp] theorem State.checkSpares_keeps_slot (x0 : State) : (State.checkSpares x0).slot = x0.slot := same_of_hide (p := .slot) (State.checkSpares_hide 1125899906842367 rfl x0) rfl
@[simp] theorem State.afterGap_keeps_power (x0 : State) : (State.afterGap x0).power = x0.power := same_of_hide (p := .power) (State.afterGap_hide 1125899369971711 rfl x0) rfl
@[simp] theorem State.retireLane_keeps_grid (x0 : State) (x1) : (State.retireLane x0 x1).grid = x0.grid := same_of_hide (p := .grid) (State.retireLane_hide 1125899906842622 rfl x0 x1) rfl
@[simp] theorem State.retireLane_keeps_fe (x0 : State) (x1) : (State.retireLane x0 x1).fe = x0.fe := same_of_hide (p := .fe) (State.retireLane_hide 1125899906842621 rfl x0 x1) rfl
@[simp] theorem State.retireLane_keeps_chan (x0 : State) (x1) : (State.retireLane x0 x1).chan = x0.chan := same_of_hide (p := .chan) (State.retireLane_hide 1125899906842619 rfl x0 x1) rfl
@[simp] theorem State.retireLane_keeps_tap (x0 : State) (x1) : (State.retireLane x0 x1).tap = x0.tap := same_of_hide (p := .tap) (State.retireLane_hide 1125899906842615 rfl x0 x1) rfl
@[simp] theorem State.retireLane_keeps_ow (x0 : State) (x1) : (State.retireLane x0 x1).ow = x0.ow := same_of_hide (p := .ow) (State.retireLane_hide 1125899906842607 rfl x0 x1) rfl
@[simp] theorem State.retireLane_keeps_cfe (x0 : State) (x1) : (State.retireLane x0 x1).cfe = x0.cfe := same_of_hide (p := .cfe) (State.retireLane_hide 1125899906842591 rfl x0 x1) rfl
@[simp] theorem State.retireLane_keeps_branch (x0 : State) (x1) : (State.retireLane x0 x1).branch = x0.branch := same_of_hide (p := .branch) (State.retireLane_hide 1125899906842559 rfl x0 x1) rfl
@[simp] theorem State.retireLane_keeps_pan (x0 : State) (x1) : (State.retireLane x0 x1).pan = x0.pan := same_of_hide (p := .pan) (State.retireLane_hide 1125899906842495 rfl x0 x1) rfl
@[simp] theorem State.retireLane_keeps_slot (x0 : State) (x1) : (State.retireLane x0 x1).slot = x0.slot := same_of_hide (p := .slot) (State.retireLane_hide 1125899906842367 rfl x0 x1) rfl
@[simp] theorem State.retireLane_keeps_sluice (x0 : State) (x1) : (State.retireLane x0 x1).sluice = x0.sluice := same_of_hide (p := .sluice) (State.retireLane_hide 1125899906842111 rfl x0 x1) rfl
@[simp] theorem State.retireLane_keeps_nvm (x0 : State) (x1) : (State.retireLane x0 x1).nvm = x0.nvm := same_of_hide (p := .nvm) (State.retireLane_hide 1125899906841599 rfl x0 x1) rfl
@[simp] theorem State.retireLane_keeps_sched (x0 : State) (x1) : (State.retireLane x0 x1).sched = x0.sched := same_of_hide (p := .sched) (State.retireLane_hide 1125899906840575 rfl x0 x1) rfl
@[simp] theorem State.retireLane_keeps_gov (x0 : State) (x1) : (State.retireLane x0 x1).gov = x0.gov := same_of_hide (p := .gov) (State.retireLane_hide 1125899906838527 rfl x0 x1) rfl
@[simp] theorem State.retireLane_keeps_est (x0 : State) (x1) : (State.retireLane x0 x1).est = x0.est := same_of_hide (p := .est) (State.retireLane_hide 1125899906834431 rfl x0 x1) rfl
@[simp] theorem State.retireLane_keeps_estMod (x0 : State) (x1) : (State.retireLane x0 x1).estMod = x0.estMod := same_of_hide (p := .estMod) (State.retireLane_hide 1125899906826239 rfl x0 x1) rfl
@[simp] theorem State.retireLane_keeps_str (x0 : State) (x1) : (State.retireLane x0 x1).str = x0.str := same_of_hide (p := .str) (State.retireLane_hide 1125899906809855 rfl x0 x1) rfl
@[simp] theorem State.retireLane_keeps_eis (x0 : State) (x1) : (State.retireLane x0 x1).eis = x0.eis := same_of_hide (p := .eis) (State.retireLane_hide 1125899906777087 rfl x0 x1) rfl
@[simp] theorem State.retireLane_keeps_thermo (x0 : State) (x1) : (State.retireLane x0 x1).thermo = x0.thermo := same_of_hide (p := .thermo) (State.retireLane_hide 1125899906711551 rfl x0 x1) rfl
@[simp] theorem State.retireLane_keeps_ntc (x0 : State) (x1) : (State.retireLane x0 x1).ntc = x0.ntc := same_of_hide (p := .ntc) (State.retireLane_hide 1125899906580479 rfl x0 x1) rfl
@[simp] theorem State.retireLane_keeps_tbl (x0 : State) (x1) : (State.retireLane x0 x1).tbl = x0.tbl := same_of_hide (p := .tbl) (State.retireLane_hide 1125899906318335 rfl x0 x1) rfl
@[simp] theorem State.retireLane_keeps_bal (x0 : State) (x1) : (State.retireLane x0 x1).bal = x0.bal := same_of_hide (p := .bal) (State.retireLane_hide 1125899905794047 rfl x0 x1) rfl
@[simp] theorem State.retireLane_keeps_prot (x0 : State) (x1) : (State.retireLane x0 x1).prot = x0.prot := same_of_hide (p := .prot) (State.retireLane_hide 1125899904745471 rfl x0 x1) rfl
@[simp] theorem State.retireLane_keeps_phase (x0 : State) (x1) : (State.retireLane x0 x1).phase = x0.phase := same_of_hide (p := .phase) (State.retireLane_hide 1125899902648319 rfl x0 x1) rfl
@[simp] theorem State.retireLane_keeps_conv (x0 : State) (x1) : (State.retireLane x0 x1).conv = x0.conv := same_of_hide (p := .conv) (State.retireLane_hide 1125899898454015 rfl x0 x1) rfl
@[simp] theorem State.retireLane_keeps_law (x0 : State) (x1) : (State.retireLane x0 x1).law = x0.law := same_of_hide (p := .law) (State.retireLane_hide 1125899890065407 rfl x0 x1) rfl
@[simp] theorem State.retireLane_keeps_lanes (x0 : State) (x1) : (State.retireLane x0 x1).lanes = x0.lanes := same_of_hide (p := .lanes) (State.retireLane_hide 1125899772624895 rfl x0 x1) rfl
@[simp] theorem State.retireLane_keeps_safe (x0 : State) (x1) : (State.retireLane x0 x1).safe = x0.safe := same_of_hide (p := .safe) (State.retireLane_hide 1125899638407167 rfl x0 x1) rfl
@[simp] theorem State.retireLane_keeps_power (x0 : State) (x1) : (State.retireLane x0 x1).power = x0.power := same_of_hide (p := .power) (State.retireLane_hide 1125899369971711 rfl x0 x1) rfl
@[simp] theorem State.retireLane_keeps_sec (x0 : State) (x1) : (State.retireLane x0 x1).sec = x0.sec := same_of_hide (p := .sec) (State.retireLane_hide 1125882726973439 rfl x0 x1) rfl
@[simp] theorem State.retireLane_keeps_free (x0 : State) (x1) : (State.retireLane x0 x1).free = x0.free := same_of_hide (p := .free) (State.retireLane_hide 1125865547104255 rfl x0 x1) rfl
@[simp] theorem State.loseRole_keeps_sluice (x0 : State) (x1) : (State.loseRole x0 x1).sluice = x0.sluice := same_of_hide (p := .sluice) (State.loseRole_hide 1125899906842111 rfl x0 x1) rfl
@[simp] theorem State.lanesUp_keeps_power (x0 : State) (x1) : (State.lanesUp x0 x1).power = x0.power := same_of_hide (p := .power) (State.lanesUp_hide 1125899369971711 rfl x0 x1) rfl
@[simp] theorem State.compareAnchor_keeps_conv (x0 : State) (x1) (x2) : (State.compareAnchor x0 x1 x2).conv = x0.conv := same_of_hide (p := .conv) (State.compareAnchor_hide 1125899898454015 rfl x0 x1 x2) rfl
@[simp] theorem State.compareAnchor_keeps_law (x0 : State) (x1) (x2) : (State.compareAnchor x0 x1 x2).law = x0.law := same_of_hide (p := .law) (State.compareAnchor_hide 1125899890065407 rfl x0 x1 x2) rfl
@[simp] theorem State.dieReplies_keeps_gov (x0 : State) : (State.dieReplies x0).gov = x0.gov := same_of_hide (p := .gov) (State.dieReplies_hide 1125899906838527 rfl x0) rfl
@[simp] theorem State.freeze_keeps_power (x0 : State) (x1) : (State.freeze x0 x1).power = x0.power := same_of_hide (p := .power) (State.freeze_hide 1125899369971711 rfl x0 x1) rfl
@[simp] theorem State.endSwap_keeps_lane (x0 : State) (x1) : (State.endSwap x0 x1).lane = x0.lane := same_of_hide (p := .lane) (State.endSwap_hide 1125899839733759 rfl x0 x1) rfl
@[simp] theorem State.loseUnloaded_keeps_sluice (x0 : State) : (State.loseUnloaded x0).sluice = x0.sluice := same_of_hide (p := .sluice) (State.loseUnloaded_hide 1125899906842111 rfl x0) rfl
@[simp] theorem State.loseUnloaded_keeps_power (x0 : State) : (State.loseUnloaded x0).power = x0.power := same_of_hide (p := .power) (State.loseUnloaded_hide 1125899369971711 rfl x0) rfl
@[simp] theorem State.replace_keeps_sched (x0 : State) (x1) : (State.replace x0 x1).sched = x0.sched := same_of_hide (p := .sched) (State.replace_hide 1125899906840575 rfl x0 x1) rfl
@[simp] theorem State.managePhases_keeps_grid (x0 : State) : (State.managePhases x0).grid = x0.grid := same_of_hide (p := .grid) (State.managePhases_hide 1125899906842622 rfl x0) rfl
@[simp] theorem State.managePhases_keeps_prot (x0 : State) : (State.managePhases x0).prot = x0.prot := same_of_hide (p := .prot) (State.managePhases_hide 1125899904745471 rfl x0) rfl
@[simp] theorem State.entryAction_keeps_power (x0 : State) (x1) : (State.entryAction x0 x1).power = x0.power := same_of_hide (p := .power) (State.entryAction_hide 1125899369971711 rfl x0 x1) rfl
@[simp] theorem State.panFails_keeps_conv (x0 : State) (x1) (x2) : (State.panFails x0 x1 x2).conv = x0.conv := same_of_hide (p := .conv) (State.panFails_hide 1125899898454015 rfl x0 x1 x2) rfl
@[simp] theorem State.pansUp_keeps_power (x0 : State) : (State.pansUp x0).power = x0.power := same_of_hide (p := .power) (State.pansUp_hide 1125899369971711 rfl x0) rfl
@[simp] theorem State.laneWork_keeps_sched (x0 : State) : (State.laneWork x0).sched = x0.sched := same_of_hide (p := .sched) (State.laneWork_hide 1125899906840575 rfl x0) rfl

end Sys2Proof.Machine
end

