-- ==== Sys2Proof/Laws/PerInstr.lean ====
section
/-!
SUPPORT. Families of lemmas with one lemma per constructor of Instr: none is named in LAWS.json.
-/
end

