-- ==== Sys2Proof/Laws/Shape.lean ====
section
/-!
SUPPORT. No operation changes how many units of a kind the state holds.
-/

namespace Sys2Proof.Machine

set_option linter.unusedSimpArgs false
set_option linter.unreachableTactic false
set_option linter.unusedTactic false
set_option linter.unusedVariables false

theorem lengths_hide (s : State) : (s.hide 1125894466690609).lengths = s.lengths := rfl

theorem lengths_of_hide {s t : State} (h : t.hide 1125894466690609 = s.hide 1125894466690609) : t.lengths = s.lengths := by
  rw [← lengths_hide t, h, lengths_hide]

theorem lengths_ite (c : Prop) [Decidable c] (a b : State) :
    (if c then a else b).lengths = if c then a.lengths else b.lengths := apply_ite _ _ _ _

theorem fe_len {s t : State} (h : t.lengths = s.lengths) : t.fe.length = s.fe.length := by
  simp only [State.lengths, List.cons.injEq] at h
  exact h.1

theorem lane_len {s t : State} (h : t.lengths = s.lengths) : t.lane.length = s.lane.length := by
  simp only [State.lengths, List.cons.injEq] at h
  exact h.2.2.2.2.2.2.2.2.2.1

theorem lengths_foldl {α : Type} (f : State → α → State) (l : List α) (s : State)
    (h : ∀ x a, (f x a).lengths = x.lengths) : (l.foldl f s).lengths = s.lengths := by
  induction l generalizing s with
  | nil => rfl
  | cons a l ih => rw [List.foldl_cons, ih, h]

theorem len_0 (x : State) (v0)  : State.lengths { x with grid := v0 } = x.lengths := by
  simp only [State.lengths]

theorem len_31 (x : State) (v31)  : State.lengths { x with ploza := v31 } = x.lengths := by
  simp only [State.lengths]

theorem len_29 (x : State) (v29)  : State.lengths { x with power := v29 } = x.lengths := by
  simp only [State.lengths]

theorem len_25_29 (x : State) (v25 v29)  : State.lengths { x with ring := v25, power := v29 } = x.lengths := by
  simp only [State.lengths]

theorem len_30 (x : State) (v30) (h30 : v30.length = x.port.length) : State.lengths { x with port := v30 } = x.lengths := by
  simp only [State.lengths, h30]

theorem len_26_27 (x : State) (v26 v27) (h26 : v26.length = x.lane.length) : State.lengths { x with lane := v26, lanes := v27 } = x.lengths := by
  simp only [State.lengths, h26]

theorem len_7 (x : State) (v7) (h7 : v7.length = x.pan.length) : State.lengths { x with pan := v7 } = x.lengths := by
  simp only [State.lengths, h7]

theorem len_19_26 (x : State) (v19 v26) (h26 : v26.length = x.lane.length) : State.lengths { x with tbl := v19, lane := v26 } = x.lengths := by
  simp only [State.lengths, h26]

theorem len_2 (x : State) (v2) (h2 : v2.length = x.chan.length) : State.lengths { x with chan := v2 } = x.lengths := by
  simp only [State.lengths, h2]

theorem len_6 (x : State) (v6) (h6 : v6.length = x.branch.length) : State.lengths { x with branch := v6 } = x.lengths := by
  simp only [State.lengths, h6]

theorem len_0_27_30_34 (x : State) (v0 v27 v30 v34) (h30 : v30.length = x.port.length) : State.lengths { x with grid := v0, lanes := v27, port := v30, sec := v34 } = x.lengths := by
  simp only [State.lengths, h30]

theorem len_0_27_29_30_34 (x : State) (v0 v27 v29 v30 v34) (h30 : v30.length = x.port.length) : State.lengths { x with grid := v0, lanes := v27, power := v29, port := v30, sec := v34 } = x.lengths := by
  simp only [State.lengths, h30]

theorem len_32 (x : State) (v32) (h32 : v32.length = x.can.length) : State.lengths { x with can := v32 } = x.lengths := by
  simp only [State.lengths, h32]

theorem len_1_20 (x : State) (v1 v20) (h1 : v1.length = x.fe.length) : State.lengths { x with fe := v1, bal := v20 } = x.lengths := by
  simp only [State.lengths, h1]

theorem len_25_27_31_32_33_34 (x : State) (v25 v27 v31 v32 v33 v34) (h32 : v32.length = x.can.length) : State.lengths { x with ring := v25, lanes := v27, ploza := v31, can := v32, spi := v33, sec := v34 } = x.lengths := by
  simp only [State.lengths, h32]

theorem len_17 (x : State) (v17) (h17 : v17.length = x.thermo.length) : State.lengths { x with thermo := v17 } = x.lengths := by
  simp only [State.lengths, h17]

theorem len_13 (x : State) (v13) (h13 : v13.length = x.est.length) : State.lengths { x with est := v13 } = x.lengths := by
  simp only [State.lengths, h13]

theorem len_0_21_22_23 (x : State) (v0 v21 v22 v23) (h22 : v22.length = x.phase.length) : State.lengths { x with grid := v0, prot := v21, phase := v22, conv := v23 } = x.lengths := by
  simp only [State.lengths, h22]

theorem len_23 (x : State) (v23)  : State.lengths { x with conv := v23 } = x.lengths := by
  simp only [State.lengths]

theorem len_26 (x : State) (v26) (h26 : v26.length = x.lane.length) : State.lengths { x with lane := v26 } = x.lengths := by
  simp only [State.lengths, h26]

theorem len_20 (x : State) (v20)  : State.lengths { x with bal := v20 } = x.lengths := by
  simp only [State.lengths]

theorem len_27 (x : State) (v27)  : State.lengths { x with lanes := v27 } = x.lengths := by
  simp only [State.lengths]

theorem len_8 (x : State) (v8) (h8 : v8.length = x.slot.length) : State.lengths { x with slot := v8 } = x.lengths := by
  simp only [State.lengths, h8]

theorem len_22 (x : State) (v22) (h22 : v22.length = x.phase.length) : State.lengths { x with phase := v22 } = x.lengths := by
  simp only [State.lengths, h22]

theorem len_7_8 (x : State) (v7 v8) (h7 : v7.length = x.pan.length) (h8 : v8.length = x.slot.length) : State.lengths { x with pan := v7, slot := v8 } = x.lengths := by
  simp only [State.lengths, h7, h8]

theorem len_9 (x : State) (v9)  : State.lengths { x with sluice := v9 } = x.lengths := by
  simp only [State.lengths]

theorem len_7_8_9 (x : State) (v7 v8 v9) (h7 : v7.length = x.pan.length) (h8 : v8.length = x.slot.length) : State.lengths { x with pan := v7, slot := v8, sluice := v9 } = x.lengths := by
  simp only [State.lengths, h7, h8]

theorem len_1 (x : State) (v1) (h1 : v1.length = x.fe.length) : State.lengths { x with fe := v1 } = x.lengths := by
  simp only [State.lengths, h1]

theorem len_1_5_11 (x : State) (v1 v5 v11) (h1 : v1.length = x.fe.length) : State.lengths { x with fe := v1, cfe := v5, sched := v11 } = x.lengths := by
  simp only [State.lengths, h1]

theorem len_11 (x : State) (v11)  : State.lengths { x with sched := v11 } = x.lengths := by
  simp only [State.lengths]

theorem len_23_24 (x : State) (v23 v24)  : State.lengths { x with conv := v23, law := v24 } = x.lengths := by
  simp only [State.lengths]

theorem len_5 (x : State) (v5)  : State.lengths { x with cfe := v5 } = x.lengths := by
  simp only [State.lengths]

theorem len_24 (x : State) (v24)  : State.lengths { x with law := v24 } = x.lengths := by
  simp only [State.lengths]

theorem len_14 (x : State) (v14)  : State.lengths { x with estMod := v14 } = x.lengths := by
  simp only [State.lengths]

theorem len_13_14 (x : State) (v13 v14) (h13 : v13.length = x.est.length) : State.lengths { x with est := v13, estMod := v14 } = x.lengths := by
  simp only [State.lengths, h13]

theorem len_7_8_9_36 (x : State) (v7 v8 v9 v36) (h7 : v7.length = x.pan.length) (h8 : v8.length = x.slot.length) : State.lengths { x with pan := v7, slot := v8, sluice := v9, ckpt := v36 } = x.lengths := by
  simp only [State.lengths, h7, h8]

theorem len_33 (x : State) (v33)  : State.lengths { x with spi := v33 } = x.lengths := by
  simp only [State.lengths]

theorem len_0_16_19_20_25_27_30_31_34 (x : State) (v0 v16 v19 v20 v25 v27 v30 v31 v34) (h30 : v30.length = x.port.length) : State.lengths { x with grid := v0, eis := v16, tbl := v19, bal := v20, ring := v25, lanes := v27, port := v30, ploza := v31, sec := v34 } = x.lengths := by
  simp only [State.lengths, h30]

theorem len_0_1_5 (x : State) (v0 v1 v5) (h1 : v1.length = x.fe.length) : State.lengths { x with grid := v0, fe := v1, cfe := v5 } = x.lengths := by
  simp only [State.lengths, h1]

theorem len_22_23_24 (x : State) (v22 v23 v24) (h22 : v22.length = x.phase.length) : State.lengths { x with phase := v22, conv := v23, law := v24 } = x.lengths := by
  simp only [State.lengths, h22]

theorem len_16 (x : State) (v16)  : State.lengths { x with eis := v16 } = x.lengths := by
  simp only [State.lengths]

theorem len_3 (x : State) (v3) (h3 : v3.length = x.tap.length) : State.lengths { x with tap := v3 } = x.lengths := by
  simp only [State.lengths, h3]

theorem len_12 (x : State) (v12)  : State.lengths { x with gov := v12 } = x.lengths := by
  simp only [State.lengths]

theorem len_1_4 (x : State) (v1 v4) (h1 : v1.length = x.fe.length) : State.lengths { x with fe := v1, ow := v4 } = x.lengths := by
  simp only [State.lengths, h1]

theorem len_0_31 (x : State) (v0 v31)  : State.lengths { x with grid := v0, ploza := v31 } = x.lengths := by
  simp only [State.lengths]

theorem len_1_14_21_27 (x : State) (v1 v14 v21 v27) (h1 : v1.length = x.fe.length) : State.lengths { x with fe := v1, estMod := v14, prot := v21, lanes := v27 } = x.lengths := by
  simp only [State.lengths, h1]

theorem len_0_1_14_21_27_31 (x : State) (v0 v1 v14 v21 v27 v31) (h1 : v1.length = x.fe.length) : State.lengths { x with grid := v0, fe := v1, estMod := v14, prot := v21, lanes := v27, ploza := v31 } = x.lengths := by
  simp only [State.lengths, h1]

theorem len_23_27 (x : State) (v23 v27)  : State.lengths { x with conv := v23, lanes := v27 } = x.lengths := by
  simp only [State.lengths]

theorem len_2_3_4_5_6_14_15_16_17_20_22_24_36 (x : State) (v2 v3 v4 v5 v6 v14 v15 v16 v17 v20 v22 v24 v36) (h2 : v2.length = x.chan.length) (h3 : v3.length = x.tap.length) (h6 : v6.length = x.branch.length) (h17 : v17.length = x.thermo.length) (h22 : v22.length = x.phase.length) : State.lengths { x with chan := v2, tap := v3, ow := v4, cfe := v5, branch := v6, estMod := v14, str := v15, eis := v16, thermo := v17, bal := v20, phase := v22, law := v24, ckpt := v36 } = x.lengths := by
  simp only [State.lengths, h2, h3, h6, h17, h22]

theorem len_14_15 (x : State) (v14 v15)  : State.lengths { x with estMod := v14, str := v15 } = x.lengths := by
  simp only [State.lengths]

theorem len_16_17 (x : State) (v16 v17) (h17 : v17.length = x.thermo.length) : State.lengths { x with eis := v16, thermo := v17 } = x.lengths := by
  simp only [State.lengths, h17]

theorem len_3_4_20 (x : State) (v3 v4 v20) (h3 : v3.length = x.tap.length) : State.lengths { x with tap := v3, ow := v4, bal := v20 } = x.lengths := by
  simp only [State.lengths, h3]

theorem len_3_4_5_14_15_16_17_20_22_24 (x : State) (v3 v4 v5 v14 v15 v16 v17 v20 v22 v24) (h3 : v3.length = x.tap.length) (h17 : v17.length = x.thermo.length) (h22 : v22.length = x.phase.length) : State.lengths { x with tap := v3, ow := v4, cfe := v5, estMod := v14, str := v15, eis := v16, thermo := v17, bal := v20, phase := v22, law := v24 } = x.lengths := by
  simp only [State.lengths, h3, h17, h22]

theorem len_21 (x : State) (v21)  : State.lengths { x with prot := v21 } = x.lengths := by
  simp only [State.lengths]

theorem len_1_21 (x : State) (v1 v21) (h1 : v1.length = x.fe.length) : State.lengths { x with fe := v1, prot := v21 } = x.lengths := by
  simp only [State.lengths, h1]

theorem len_0_1_3_5_17_18_20_28_29 (x : State) (v0 v1 v3 v5 v17 v18 v20 v28 v29) (h1 : v1.length = x.fe.length) (h3 : v3.length = x.tap.length) (h17 : v17.length = x.thermo.length) : State.lengths { x with grid := v0, fe := v1, tap := v3, cfe := v5, thermo := v17, ntc := v18, bal := v20, safe := v28, power := v29 } = x.lengths := by
  simp only [State.lengths, h1, h3, h17]

theorem len_25 (x : State) (v25)  : State.lengths { x with ring := v25 } = x.lengths := by
  simp only [State.lengths]

theorem len_21_23 (x : State) (v21 v23)  : State.lengths { x with prot := v21, conv := v23 } = x.lengths := by
  simp only [State.lengths]

theorem len_22_23 (x : State) (v22 v23) (h22 : v22.length = x.phase.length) : State.lengths { x with phase := v22, conv := v23 } = x.lengths := by
  simp only [State.lengths, h22]

theorem len_34 (x : State) (v34)  : State.lengths { x with sec := v34 } = x.lengths := by
  simp only [State.lengths]

theorem len_1_2_5_11 (x : State) (v1 v2 v5 v11) (h1 : v1.length = x.fe.length) (h2 : v2.length = x.chan.length) : State.lengths { x with fe := v1, chan := v2, cfe := v5, sched := v11 } = x.lengths := by
  simp only [State.lengths, h1, h2]

theorem len_15 (x : State) (v15)  : State.lengths { x with str := v15 } = x.lengths := by
  simp only [State.lengths]

theorem len_0_1_10_11_12_19_23_25_30_31_32_33_34 (x : State) (v0 v1 v10 v11 v12 v19 v23 v25 v30 v31 v32 v33 v34) (h1 : v1.length = x.fe.length) (h30 : v30.length = x.port.length) (h32 : v32.length = x.can.length) : State.lengths { x with grid := v0, fe := v1, nvm := v10, sched := v11, gov := v12, tbl := v19, conv := v23, ring := v25, port := v30, ploza := v31, can := v32, spi := v33, sec := v34 } = x.lengths := by
  simp only [State.lengths, h1, h30, h32]

theorem len_27_29 (x : State) (v27 v29)  : State.lengths { x with lanes := v27, power := v29 } = x.lengths := by
  simp only [State.lengths]

theorem len_19 (x : State) (v19)  : State.lengths { x with tbl := v19 } = x.lengths := by
  simp only [State.lengths]

theorem len_5_21 (x : State) (v5 v21)  : State.lengths { x with cfe := v5, prot := v21 } = x.lengths := by
  simp only [State.lengths]

theorem len_28 (x : State) (v28)  : State.lengths { x with safe := v28 } = x.lengths := by
  simp only [State.lengths]

theorem len_0_28 (x : State) (v0 v28)  : State.lengths { x with grid := v0, safe := v28 } = x.lengths := by
  simp only [State.lengths]

theorem len_0_14 (x : State) (v0 v14)  : State.lengths { x with grid := v0, estMod := v14 } = x.lengths := by
  simp only [State.lengths]

theorem len_12_24_27 (x : State) (v12 v24 v27)  : State.lengths { x with gov := v12, law := v24, lanes := v27 } = x.lengths := by
  simp only [State.lengths]

theorem len_5_13 (x : State) (v5 v13) (h13 : v13.length = x.est.length) : State.lengths { x with cfe := v5, est := v13 } = x.lengths := by
  simp only [State.lengths, h13]

theorem len_26_29 (x : State) (v26 v29) (h26 : v26.length = x.lane.length) : State.lengths { x with lane := v26, power := v29 } = x.lengths := by
  simp only [State.lengths, h26]

theorem len_26_27_29 (x : State) (v26 v27 v29) (h26 : v26.length = x.lane.length) : State.lengths { x with lane := v26, lanes := v27, power := v29 } = x.lengths := by
  simp only [State.lengths, h26]

theorem len_15_25 (x : State) (v15 v25)  : State.lengths { x with str := v15, ring := v25 } = x.lengths := by
  simp only [State.lengths]

theorem len_8_9 (x : State) (v8 v9) (h8 : v8.length = x.slot.length) : State.lengths { x with slot := v8, sluice := v9 } = x.lengths := by
  simp only [State.lengths, h8]

theorem len_0_29 (x : State) (v0 v29)  : State.lengths { x with grid := v0, power := v29 } = x.lengths := by
  simp only [State.lengths]

theorem len_0_25_27_29 (x : State) (v0 v25 v27 v29)  : State.lengths { x with grid := v0, ring := v25, lanes := v27, power := v29 } = x.lengths := by
  simp only [State.lengths]

theorem len_1_5_27_29_34 (x : State) (v1 v5 v27 v29 v34) (h1 : v1.length = x.fe.length) : State.lengths { x with fe := v1, cfe := v5, lanes := v27, power := v29, sec := v34 } = x.lengths := by
  simp only [State.lengths, h1]

theorem len_10 (x : State) (v10)  : State.lengths { x with nvm := v10 } = x.lengths := by
  simp only [State.lengths]

theorem len_16_20_23 (x : State) (v16 v20 v23)  : State.lengths { x with eis := v16, bal := v20, conv := v23 } = x.lengths := by
  simp only [State.lengths]

theorem len_7_9 (x : State) (v7 v9) (h7 : v7.length = x.pan.length) : State.lengths { x with pan := v7, sluice := v9 } = x.lengths := by
  simp only [State.lengths, h7]

theorem len_0_27_29 (x : State) (v0 v27 v29)  : State.lengths { x with grid := v0, lanes := v27, power := v29 } = x.lengths := by
  simp only [State.lengths]

theorem len_5_24_27 (x : State) (v5 v24 v27)  : State.lengths { x with cfe := v5, law := v24, lanes := v27 } = x.lengths := by
  simp only [State.lengths]

theorem len_5_23_24_27 (x : State) (v5 v23 v24 v27)  : State.lengths { x with cfe := v5, conv := v23, law := v24, lanes := v27 } = x.lengths := by
  simp only [State.lengths]

theorem len_25_27_29 (x : State) (v25 v27 v29)  : State.lengths { x with ring := v25, lanes := v27, power := v29 } = x.lengths := by
  simp only [State.lengths]

theorem len_1_5_25 (x : State) (v1 v5 v25) (h1 : v1.length = x.fe.length) : State.lengths { x with fe := v1, cfe := v5, ring := v25 } = x.lengths := by
  simp only [State.lengths, h1]

theorem len_1_5_23_25 (x : State) (v1 v5 v23 v25) (h1 : v1.length = x.fe.length) : State.lengths { x with fe := v1, cfe := v5, conv := v23, ring := v25 } = x.lengths := by
  simp only [State.lengths, h1]

theorem len_16_20 (x : State) (v16 v20)  : State.lengths { x with eis := v16, bal := v20 } = x.lengths := by
  simp only [State.lengths]

theorem len_0_25 (x : State) (v0 v25)  : State.lengths { x with grid := v0, ring := v25 } = x.lengths := by
  simp only [State.lengths]

theorem State.modPort_lengths (x0 : State) (x1) (x2) : (State.modPort x0 x1 x2).lengths = x0.lengths := by
  unfold State.modPort
  simp only [List.length_modify, len_30]

theorem State.releaseP37_lengths (x0 : State) (x1) (x2) : (State.releaseP37 x0 x1 x2).lengths = x0.lengths :=
  lengths_of_hide (State.releaseP37_hide 1125894466690609 rfl x0 x1 x2)

theorem execOWorkResume_lengths (x0 : State) : (outState x0 (execOWorkResume x0)).lengths = x0.lengths :=
  lengths_of_hide (execOWorkResume_hide 1125894466690609 rfl x0)

theorem execZeroValidExpire_lengths (x0 : State) : (outState x0 (execZeroValidExpire x0)).lengths = x0.lengths :=
  lengths_of_hide (execZeroValidExpire_hide 1125894466690609 rfl x0)

theorem State.takeSummary_lengths (x0 : State) (x1) : (State.takeSummary x0 x1).lengths = x0.lengths :=
  lengths_of_hide (State.takeSummary_hide 1125894466690609 rfl x0 x1)

theorem execStepBlockEnd_lengths (x0 : State) : (outState x0 (execStepBlockEnd x0)).lengths = x0.lengths :=
  lengths_of_hide (execStepBlockEnd_hide 1125894466690609 rfl x0)

theorem State.commitPosition_lengths (x0 : State) : (State.commitPosition x0).lengths = x0.lengths :=
  lengths_of_hide (State.commitPosition_hide 1125894466690609 rfl x0)

theorem State.bootLanes_lengths (x0 : State) (x1) : (State.bootLanes x0 x1).lengths = x0.lengths := by
  unfold State.bootLanes
  simp only [List.length_map, len_26_27]

theorem State.credit_lengths (x0 : State) (x1) : (State.credit x0 x1).lengths = x0.lengths :=
  lengths_of_hide (State.credit_hide 1125894466690609 rfl x0 x1)

theorem State.startConversion_lengths (x0 : State) (x1) : (State.startConversion x0 x1).lengths = x0.lengths :=
  lengths_of_hide (State.startConversion_hide 1125894466690609 rfl x0 x1)

theorem State.eisLimited_lengths (x0 : State) : (State.eisLimited x0).lengths = x0.lengths :=
  lengths_of_hide (State.eisLimited_hide 1125894466690609 rfl x0)

theorem State.draw_lengths (x0 : State) : (State.draw x0).2.lengths = x0.lengths :=
  lengths_of_hide (State.draw_hide 1125894466690609 rfl x0)

theorem State.noteImax_lengths (x0 : State) (x1) (x2) : (State.noteImax x0 x1 x2).lengths = x0.lengths :=
  lengths_of_hide (State.noteImax_hide 1125894466690609 rfl x0 x1 x2)

theorem State.modPan_lengths (x0 : State) (x1) (x2) : (State.modPan x0 x1 x2).lengths = x0.lengths := by
  unfold State.modPan
  simp only [List.length_modify, len_7]

theorem State.activateTable_lengths (x0 : State) : (State.activateTable x0).lengths = x0.lengths := by
  unfold State.activateTable
  simp only [List.length_map, len_19_26]

theorem State.sumHarvest_lengths (x0 : State) : (State.sumHarvest x0).lengths = x0.lengths :=
  lengths_of_hide (State.sumHarvest_hide 1125894466690609 rfl x0)

theorem State.countExcitation_lengths (x0 : State) : (State.countExcitation x0).lengths = x0.lengths :=
  lengths_of_hide (State.countExcitation_hide 1125894466690609 rfl x0)

theorem State.takeSlices_lengths (x0 : State) : (State.takeSlices x0).lengths = x0.lengths :=
  lengths_of_hide (State.takeSlices_hide 1125894466690609 rfl x0)

theorem State.lawReset_lengths (x0 : State) : (State.lawReset x0).lengths = x0.lengths :=
  lengths_of_hide (State.lawReset_hide 1125894466690609 rfl x0)

theorem State.calFrame_lengths (x0 : State) : (State.calFrame x0).lengths = x0.lengths :=
  lengths_of_hide (State.calFrame_hide 1125894466690609 rfl x0)

theorem State.ageSet_lengths (x0 : State) : (State.ageSet x0).lengths = x0.lengths :=
  lengths_of_hide (State.ageSet_hide 1125894466690609 rfl x0)

theorem State.takeLawSet_lengths (x0 : State) : (State.takeLawSet x0).lengths = x0.lengths :=
  lengths_of_hide (State.takeLawSet_hide 1125894466690609 rfl x0)

theorem execSliceWriteComplete_lengths (x0) (x1 : State) : (outState x1 (execSliceWriteComplete x0 x1)).lengths = x1.lengths :=
  lengths_of_hide (execSliceWriteComplete_hide 1125894466690609 rfl x0 x1)

theorem State.modChan_lengths (x0 : State) (x1) (x2) : (State.modChan x0 x1 x2).lengths = x0.lengths := by
  unfold State.modChan
  simp only [List.length_modify, len_2]

theorem State.zeroFrame_lengths (x0 : State) (x1) : (State.zeroFrame x0 x1).lengths = x0.lengths :=
  lengths_of_hide (State.zeroFrame_hide 1125894466690609 rfl x0 x1)

theorem State.modBranch_lengths (x0 : State) (x1) (x2) : (State.modBranch x0 x1 x2).lengths = x0.lengths := by
  unfold State.modBranch
  simp only [List.length_modify, len_6]

theorem State.asOf_lengths (n : Nat) (f : State → State) (s : State) (hf : ∀ x, (f x).lengths = x.lengths) :
    (s.asOf n f).lengths = s.lengths := by
  unfold State.asOf
  simp only [len_0, hf]

theorem State.finishImage_lengths (x0 : State) : (State.finishImage x0).lengths = x0.lengths :=
  lengths_of_hide (State.finishImage_hide 1125894466690609 rfl x0)

theorem State.coherenceJob_lengths (x0 : State) : (State.coherenceJob x0).lengths = x0.lengths :=
  lengths_of_hide (State.coherenceJob_hide 1125894466690609 rfl x0)

theorem State.powerLimitsJob_lengths (x0 : State) : (State.powerLimitsJob x0).lengths = x0.lengths :=
  lengths_of_hide (State.powerLimitsJob_hide 1125894466690609 rfl x0)

theorem State.bridgeDraw_lengths (x0 : State) : (State.bridgeDraw x0).lengths = x0.lengths :=
  lengths_of_hide (State.bridgeDraw_hide 1125894466690609 rfl x0)

theorem State.drawDelay_lengths (x0 : State) : (State.drawDelay x0).2.lengths = x0.lengths :=
  lengths_of_hide (State.drawDelay_hide 1125894466690609 rfl x0)

theorem State.followHeader_lengths (x0 : State) (x1) : (State.followHeader x0 x1).lengths = x0.lengths :=
  lengths_of_hide (State.followHeader_hide 1125894466690609 rfl x0 x1)

theorem State.rearmAnchors_lengths (x0 : State) (x1) : (State.rearmAnchors x0 x1).lengths = x0.lengths :=
  lengths_of_hide (State.rearmAnchors_hide 1125894466690609 rfl x0 x1)

theorem execComet_lengths (x0 : State) : (outState x0 (execComet x0)).lengths = x0.lengths :=
  lengths_of_hide (execComet_hide 1125894466690609 rfl x0)

theorem State.requestContactors_lengths (x0 : State) (x1) : (State.requestContactors x0 x1).lengths = x0.lengths :=
  lengths_of_hide (State.requestContactors_hide 1125894466690609 rfl x0 x1)

theorem execKPreOn_lengths (x0 : State) : (outState x0 (execKPreOn x0)).lengths = x0.lengths :=
  lengths_of_hide (execKPreOn_hide 1125894466690609 rfl x0)

theorem State.nameCells_lengths (x0 : State) (x1) (x2) : (State.nameCells x0 x1 x2).lengths = x0.lengths :=
  lengths_of_hide (State.nameCells_hide 1125894466690609 rfl x0 x1 x2)

theorem State.safetyOff_lengths (x0 : State) : (State.safetyOff x0).lengths = x0.lengths :=
  lengths_of_hide (State.safetyOff_hide 1125894466690609 rfl x0)

theorem State.elapse_lengths (x0 : State) : (State.elapse x0).lengths = x0.lengths := by
  unfold State.elapse
  simp only [lengths_ite, ite_self, List.length_map, State.draw_lengths, len_0_27_29_30_34]

theorem State.modCan_lengths (x0 : State) (x1) (x2) : (State.modCan x0 x1 x2).lengths = x0.lengths := by
  unfold State.modCan
  simp only [List.length_modify, len_32]

theorem execRingPortDown_lengths (x0) (x1 : State) : (outState x1 (execRingPortDown x0 x1)).lengths = x1.lengths :=
  lengths_of_hide (execRingPortDown_hide 1125894466690609 rfl x0 x1)

theorem State.creditFrame_lengths (x0 : State) (x1) : (State.creditFrame x0 x1).lengths = x0.lengths :=
  lengths_of_hide (State.creditFrame_hide 1125894466690609 rfl x0 x1)

theorem State.setPattern_lengths (x0 : State) (x1) (x2) : (State.setPattern x0 x1 x2).lengths = x0.lengths := by
  unfold State.setPattern
  simp only [List.length_map, List.length_zipIdx, len_1_20]

theorem State.portsDown_lengths (x0 : State) : (State.portsDown x0).lengths = x0.lengths := by
  unfold State.portsDown
  simp only [List.length_map, len_25_27_31_32_33_34]

theorem State.modThermo_lengths (x0 : State) (x1) (x2) : (State.modThermo x0 x1 x2).lengths = x0.lengths := by
  unfold State.modThermo
  simp only [List.length_modify, len_17]

theorem State.releaseHwLatch_lengths (x0 : State) : (State.releaseHwLatch x0).lengths = x0.lengths :=
  lengths_of_hide (State.releaseHwLatch_hide 1125894466690609 rfl x0)

theorem State.stage_lengths (x0 : State) (x1) (x2) (x3) : (State.stage x0 x1 x2 x3).lengths = x0.lengths :=
  lengths_of_hide (State.stage_hide 1125894466690609 rfl x0 x1 x2 x3)

theorem State.modStaged_lengths (x0 : State) (x1) : (State.modStaged x0 x1).lengths = x0.lengths :=
  lengths_of_hide (State.modStaged_hide 1125894466690609 rfl x0 x1)

theorem State.refineJob_lengths (x0 : State) : (State.refineJob x0).lengths = x0.lengths :=
  lengths_of_hide (State.refineJob_hide 1125894466690609 rfl x0)

theorem State.saveEst_lengths (x0 : State) : (State.saveEst x0).lengths = x0.lengths := by
  unfold State.saveEst
  simp only [List.length_map, len_13]

theorem execGateDriverReady_lengths (x0 : State) : (outState x0 (execGateDriverReady x0)).lengths = x0.lengths :=
  lengths_of_hide (execGateDriverReady_hide 1125894466690609 rfl x0)

theorem State.takeReadings_lengths (x0 : State) (x1) (x2) (x3) (x4) (x5) : (State.takeReadings x0 x1 x2 x3 x4 x5).lengths = x0.lengths := by
  unfold State.takeReadings
  simp only [List.length_map, List.length_zipIdx, len_0_21_22_23]

theorem execRingWakeToneEnd_lengths (x0 : State) : (outState x0 (execRingWakeToneEnd x0)).lengths = x0.lengths :=
  lengths_of_hide (execRingWakeToneEnd_hide 1125894466690609 rfl x0)

theorem execBridgeRunExpire_lengths (x0 : State) : (outState x0 (execBridgeRunExpire x0)).lengths = x0.lengths :=
  lengths_of_hide (execBridgeRunExpire_hide 1125894466690609 rfl x0)

theorem State.beginSlot_lengths (x0 : State) (x1) : (State.beginSlot x0 x1).lengths = x0.lengths :=
  lengths_of_hide (State.beginSlot_hide 1125894466690609 rfl x0 x1)

theorem State.newPlan_lengths (x0 : State) (x1) : (State.newPlan x0 x1).lengths = x0.lengths :=
  lengths_of_hide (State.newPlan_hide 1125894466690609 rfl x0 x1)

theorem State.dropSlices_lengths (x0 : State) : (State.dropSlices x0).lengths = x0.lengths :=
  lengths_of_hide (State.dropSlices_hide 1125894466690609 rfl x0)

theorem State.modLane_lengths (x0 : State) (x1) (x2) : (State.modLane x0 x1 x2).lengths = x0.lengths := by
  unfold State.modLane
  simp only [List.length_modify, len_26]

theorem State.toStage_lengths (x0 : State) (x1) : (State.toStage x0 x1).lengths = x0.lengths :=
  lengths_of_hide (State.toStage_hide 1125894466690609 rfl x0 x1)

theorem State.balDrain_lengths (x0 : State) (x1) (x2) : (State.balDrain x0 x1 x2).lengths = x0.lengths := by
  unfold State.balDrain
  simp only [lengths_ite, ite_self, List.length_map, len_1_20]

theorem State.sendCan_lengths (x0 : State) (x1) (x2) (x3) (x4) : (State.sendCan x0 x1 x2 x3 x4).lengths = x0.lengths := by
  unfold State.sendCan
  simp only [State.modCan_lengths]

theorem execConfigImageWritten_lengths (x0 : State) : (outState x0 (execConfigImageWritten x0)).lengths = x0.lengths :=
  lengths_of_hide (execConfigImageWritten_hide 1125894466690609 rfl x0)

theorem State.grant_lengths (x0 : State) (x1) : (State.grant x0 x1).lengths = x0.lengths := by
  unfold State.grant
  simp only [State.modLane_lengths, len_27]

theorem State.rebase_lengths (x0 : State) (x1) : (State.rebase x0 x1).lengths = x0.lengths :=
  lengths_of_hide (State.rebase_hide 1125894466690609 rfl x0 x1)

theorem State.skipRecords_lengths (x0 : State) (x1) : (State.skipRecords x0 x1).lengths = x0.lengths :=
  lengths_of_hide (State.skipRecords_hide 1125894466690609 rfl x0 x1)

theorem State.modSlot_lengths (x0 : State) (x1) (x2) : (State.modSlot x0 x1 x2).lengths = x0.lengths := by
  unfold State.modSlot
  simp only [List.length_modify, len_8]

theorem State.checkpoint_lengths (x0 : State) (x1) : (State.checkpoint x0 x1).lengths = x0.lengths :=
  lengths_of_hide (State.checkpoint_hide 1125894466690609 rfl x0 x1)

theorem State.thermoDecay_lengths (x0 : State) (x1) (x2) : (State.thermoDecay x0 x1 x2).lengths = x0.lengths := by
  unfold State.thermoDecay
  simp only [State.modThermo_lengths]

theorem State.sendTone_lengths (x0 : State) : (State.sendTone x0).lengths = x0.lengths :=
  lengths_of_hide (State.sendTone_hide 1125894466690609 rfl x0)

theorem State.noPeriods_lengths (x0 : State) : (State.noPeriods x0).lengths = x0.lengths := by
  unfold State.noPeriods
  simp only [List.length_map, len_22]

theorem State.freshPans_lengths (x0 : State) (x1) : (State.freshPans x0 x1).lengths = x0.lengths := by
  unfold State.freshPans
  simp only [List.length_map, len_7]

theorem execTokenGrant_lengths (x0) (x1) (x2 : State) : (outState x2 (execTokenGrant x0 x1 x2)).lengths = x2.lengths := by
  unfold execTokenGrant
  repeat' (first | (simp only [lengths_ite, ite_self, implies_true, out_ite, out_next, out_fault, State.grant_lengths]; done) | (simp only [lengths_ite, ite_self, implies_true, out_ite, out_next, out_fault, State.grant_lengths]; split) | split | (simp only [lengths_ite, ite_self, implies_true, out_ite, out_next, out_fault, State.grant_lengths]; with_reducible refine (lengths_foldl _ _ _ fun x a => ?_).trans ?_) | with_reducible refine (lengths_foldl _ _ _ fun x a => ?_).trans ?_)

theorem State.canFilter_lengths (x0 : State) (x1) : (State.canFilter x0 x1).lengths = x0.lengths := by
  unfold State.canFilter
  simp only [State.modCan_lengths]

theorem State.startShadows_lengths (x0 : State) (x1) (x2) : (State.startShadows x0 x1 x2).lengths = x0.lengths := by
  unfold State.startShadows
  simp only [lengths_ite, ite_self, implies_true, lengths_foldl, List.length_map, List.length_zipIdx, State.modPan_lengths, len_7_8_9]

theorem State.modEst_lengths (x0 : State) (x1) (x2) : (State.modEst x0 x1 x2).lengths = x0.lengths := by
  unfold State.modEst
  simp only [List.length_modify, len_13]

theorem State.endHandshake_lengths (x0 : State) : (State.endHandshake x0).lengths = x0.lengths :=
  lengths_of_hide (State.endHandshake_hide 1125894466690609 rfl x0)

theorem State.toPool_lengths (x0 : State) (x1) : (State.toPool x0 x1).lengths = x0.lengths := by
  unfold State.toPool
  simp only [State.modPan_lengths]

theorem State.rnormFlags_lengths (x0 : State) (x1) (x2) : (State.rnormFlags x0 x1 x2).lengths = x0.lengths := by
  unfold State.rnormFlags
  repeat' (first | (simp only [lengths_ite, ite_self, implies_true, State.modPan_lengths]; done) | (simp only [lengths_ite, ite_self, implies_true, State.modPan_lengths]; split) | split | (simp only [lengths_ite, ite_self, implies_true, State.modPan_lengths]; with_reducible refine (lengths_foldl _ _ _ fun x a => ?_).trans ?_) | with_reducible refine (lengths_foldl _ _ _ fun x a => ?_).trans ?_)

theorem State.configurePhases_lengths (x0 : State) : (State.configurePhases x0).lengths = x0.lengths := by
  unfold State.configurePhases
  simp only [lengths_ite, ite_self, List.length_map, List.length_zipIdx, len_22]

theorem State.nonVolatile_lengths (s : State) (hs : s.lengths = State.reset.lengths) :
    s.nonVolatile.lengths = State.reset.lengths := by
  have h := hs
  simp only [State.lengths, List.cons.injEq, State.nonVolatile] at h ⊢
  simp_all [State.reset]

theorem State.prechargeFrame_lengths (x0 : State) (x1) (x2) (x3) : (State.prechargeFrame x0 x1 x2 x3).lengths = x0.lengths :=
  lengths_of_hide (State.prechargeFrame_hide 1125894466690609 rfl x0 x1 x2 x3)

theorem State.learnPoint_lengths (x0 : State) (x1) : (State.learnPoint x0 x1).lengths = x0.lengths := by
  unfold State.learnPoint
  simp only [State.modEst_lengths]

theorem State.reloadSlices_lengths (x0 : State) (x1) : (State.reloadSlices x0 x1).lengths = x0.lengths :=
  lengths_of_hide (State.reloadSlices_hide 1125894466690609 rfl x0 x1)

theorem State.balBoundary_lengths (x0 : State) : (State.balBoundary x0).lengths = x0.lengths := by
  unfold State.balBoundary
  simp only [lengths_ite, ite_self, State.balDrain_lengths]

theorem State.spreadDone_lengths (x0 : State) (x1 : State) : (State.spreadDone x0 x1).lengths = x0.lengths :=
  lengths_of_hide (State.spreadDone_hide 1125894466690609 rfl x0 x1)

theorem State.runLatched_lengths (s : State) (l : LatchedCmd)
    (f : Hdr → List Byte → State → Ans) (hf : ∀ h p x, (f h p x).s.lengths = x.lengths) :
    (s.runLatched l f).1.lengths = s.lengths := by
  unfold State.runLatched
  simp only [fst_ite, lengths_ite, len_31, hf, ite_self]

theorem execCorrectedSramError_lengths (x0) (x1 : State) : (outState x1 (execCorrectedSramError x0 x1)).lengths = x1.lengths := by
  unfold execCorrectedSramError
  simp only [lengths_ite, ite_self, out_next, State.modLane_lengths, len_27]

theorem State.sendSpi_lengths (x0 : State) (x1) (x2) : (State.sendSpi x0 x1 x2).lengths = x0.lengths :=
  lengths_of_hide (State.sendSpi_hide 1125894466690609 rfl x0 x1 x2)

theorem State.spiIrqStatus_lengths (x0 : State) (x1) : (State.spiIrqStatus x0 x1).lengths = x0.lengths :=
  lengths_of_hide (State.spiIrqStatus_hide 1125894466690609 rfl x0 x1)

theorem State.modFe_lengths (x0 : State) (x1) (x2) : (State.modFe x0 x1 x2).lengths = x0.lengths := by
  unfold State.modFe
  simp only [List.length_modify, len_1]

theorem State.balReadback_lengths (x0 : State) : (State.balReadback x0).lengths = x0.lengths :=
  lengths_of_hide (State.balReadback_hide 1125894466690609 rfl x0)

theorem execRerunArbitration_lengths (x0 : State) : (outState x0 (execRerunArbitration x0)).lengths = x0.lengths := by
  unfold execRerunArbitration
  repeat' (first | (simp only [lengths_ite, ite_self, implies_true, out_ite, out_next, out_fault, State.grant_lengths, len_27]; done) | (simp only [lengths_ite, ite_self, implies_true, out_ite, out_next, out_fault, State.grant_lengths, len_27]; split) | split | (simp only [lengths_ite, ite_self, implies_true, out_ite, out_next, out_fault, State.grant_lengths, len_27]; with_reducible refine (lengths_foldl _ _ _ fun x a => ?_).trans ?_) | with_reducible refine (lengths_foldl _ _ _ fun x a => ?_).trans ?_)

theorem execCfeSubsamplePacket_lengths (x0) (x1) (x2 : State) : (outState x2 (execCfeSubsamplePacket x0 x1 x2)).lengths = x2.lengths :=
  lengths_of_hide (execCfeSubsamplePacket_hide 1125894466690609 rfl x0 x1 x2)

theorem State.commitEclipse_lengths (x0 : State) : (State.commitEclipse x0).lengths = x0.lengths :=
  lengths_of_hide (State.commitEclipse_hide 1125894466690609 rfl x0)

theorem State.countSets_lengths (x0 : State) : (State.countSets x0).lengths = x0.lengths :=
  lengths_of_hide (State.countSets_hide 1125894466690609 rfl x0)

theorem execRingFrameEmit_lengths (x0 : State) : (outState x0 (execRingFrameEmit x0)).lengths = x0.lengths :=
  lengths_of_hide (execRingFrameEmit_hide 1125894466690609 rfl x0)

theorem execWakePulseEnd_lengths (x0 : State) : (outState x0 (execWakePulseEnd x0)).lengths = x0.lengths :=
  lengths_of_hide (execWakePulseEnd_hide 1125894466690609 rfl x0)

theorem State.modPhase_lengths (x0 : State) (x1) (x2) : (State.modPhase x0 x1 x2).lengths = x0.lengths := by
  unfold State.modPhase
  simp only [List.length_modify, len_22]

theorem State.checkDrain_lengths (x0 : State) : (State.checkDrain x0).lengths = x0.lengths :=
  lengths_of_hide (State.checkDrain_hide 1125894466690609 rfl x0)

theorem State.deferMode_lengths (x0 : State) (x1) (x2) : (State.deferMode x0 x1 x2).lengths = x0.lengths :=
  lengths_of_hide (State.deferMode_hide 1125894466690609 rfl x0 x1 x2)

theorem State.canSegmentTimeout_lengths (x0 : State) (x1) (x2) : (State.canSegmentTimeout x0 x1 x2).lengths = x0.lengths := by
  unfold State.canSegmentTimeout
  simp only [State.modCan_lengths]

theorem execSweepStartFrame_lengths (x0 : State) : (outState x0 (execSweepStartFrame x0)).lengths = x0.lengths :=
  lengths_of_hide (execSweepStartFrame_hide 1125894466690609 rfl x0)

theorem State.startWindow_lengths (x0 : State) (x1) (x2) : (State.startWindow x0 x1 x2).lengths = x0.lengths := by
  unfold State.startWindow
  simp only [List.length_map, State.freshPans_lengths, len_1_5_11]

theorem State.initCell_lengths (x0 : State) (x1) (x2) : (State.initCell x0 x1 x2).lengths = x0.lengths := by
  unfold State.initCell
  simp only [State.modEst_lengths]

theorem State.rerefStart_lengths (x0 : State) (x1) (x2) : (State.rerefStart x0 x1 x2).lengths = x0.lengths := by
  unfold State.rerefStart
  simp only [lengths_ite, ite_self, State.modThermo_lengths]

theorem State.forward_lengths (x0 : State) (x1) (x2) (x3) : (State.forward x0 x1 x2 x3).lengths = x0.lengths :=
  lengths_of_hide (State.forward_hide 1125894466690609 rfl x0 x1 x2 x3)

theorem State.commitPolicy_lengths (x0 : State) : (State.commitPolicy x0).lengths = x0.lengths :=
  lengths_of_hide (State.commitPolicy_hide 1125894466690609 rfl x0)

theorem State.decideShed_lengths (x0 : State) : (State.decideShed x0).lengths = x0.lengths :=
  lengths_of_hide (State.decideShed_hide 1125894466690609 rfl x0)

theorem State.gatesOff_lengths (x0 : State) : (State.gatesOff x0).lengths = x0.lengths := by
  unfold State.gatesOff
  simp only [State.noPeriods_lengths, len_23_24]

theorem State.showExcl_lengths (x0 : State) : (State.showExcl x0).lengths = x0.lengths :=
  lengths_of_hide (State.showExcl_hide 1125894466690609 rfl x0)

theorem execResyncComplete_lengths (x0 : State) : (outState x0 (execResyncComplete x0)).lengths = x0.lengths := by
  unfold execResyncComplete
  simp only [lengths_ite, ite_self, out_next, State.modLane_lengths]

theorem State.zeroRestart_lengths (x0 : State) : (State.zeroRestart x0).lengths = x0.lengths :=
  lengths_of_hide (State.zeroRestart_hide 1125894466690609 rfl x0)

theorem State.modSafe_lengths (x0 : State) (x1) : (State.modSafe x0 x1).lengths = x0.lengths :=
  lengths_of_hide (State.modSafe_hide 1125894466690609 rfl x0 x1)

theorem State.releaseFor_lengths (x0 : State) (x1) : (State.releaseFor x0 x1).lengths = x0.lengths :=
  lengths_of_hide (State.releaseFor_hide 1125894466690609 rfl x0 x1)

theorem State.gridReading_lengths (x0 : State) (x1) : (State.gridReading x0 x1).lengths = x0.lengths :=
  lengths_of_hide (State.gridReading_hide 1125894466690609 rfl x0 x1)


theorem State.holdCell_lengths (x0 : State) (x1) : (State.holdCell x0 x1).lengths = x0.lengths := by
  unfold State.holdCell
  simp only [State.modChan_lengths]

theorem State.recordWake_lengths (x0 : State) (x1) (x2) (x3) (x4) (x5) : (State.recordWake x0 x1 x2 x3 x4 x5).lengths = x0.lengths :=
  lengths_of_hide (State.recordWake_hide 1125894466690609 rfl x0 x1 x2 x3 x4 x5)

theorem State.setDisagree_lengths (x0 : State) (x1) (x2) : (State.setDisagree x0 x1 x2).lengths = x0.lengths := by
  unfold State.setDisagree
  simp only [lengths_ite, ite_self, State.modBranch_lengths, len_5]

theorem State.noteTamper_lengths (x0 : State) (x1) (x2) : (State.noteTamper x0 x1 x2).lengths = x0.lengths :=
  lengths_of_hide (State.noteTamper_hide 1125894466690609 rfl x0 x1 x2)

theorem State.takeCurrents_lengths (x0 : State) (x1) (x2) : (State.takeCurrents x0 x1 x2).lengths = x0.lengths := by
  unfold State.takeCurrents
  simp only [implies_true, lengths_foldl, State.modChan_lengths]

theorem State.noteExecuted_lengths (x0 : State) (x1) (x2) (x3) (x4) (x5) : (State.noteExecuted x0 x1 x2 x3 x4 x5).lengths = x0.lengths := by
  unfold State.noteExecuted
  simp only [lengths_ite, ite_self, State.modPort_lengths, len_31]

theorem State.drainPasses_lengths (x0 : State) (x1) (x2) : (State.drainPasses x0 x1 x2).lengths = x0.lengths :=
  lengths_of_hide (State.drainPasses_hide 1125894466690609 rfl x0 x1 x2)

theorem State.lawInputs_lengths (x0 : State) : (State.lawInputs x0).lengths = x0.lengths :=
  lengths_of_hide (State.lawInputs_hide 1125894466690609 rfl x0)

theorem State.excStep_lengths (x0 : State) : (State.excStep x0).lengths = x0.lengths :=
  lengths_of_hide (State.excStep_hide 1125894466690609 rfl x0)

theorem execPrimaryHandover_lengths (x0 : State) : (outState x0 (execPrimaryHandover x0)).lengths = x0.lengths :=
  lengths_of_hide (execPrimaryHandover_hide 1125894466690609 rfl x0)

theorem execBackChannelMessage_lengths (x0) (x1) (x2 : State) : (outState x2 (execBackChannelMessage x0 x1 x2)).lengths = x2.lengths := by
  unfold execBackChannelMessage
  simp only [lengths_ite, ite_self, out_ite, out_next, out_fault, State.modFe_lengths, len_5]

theorem execEstimatorStateSave_lengths (x0 : State) : (outState x0 (execEstimatorStateSave x0)).lengths = x0.lengths := by
  unfold execEstimatorStateSave
  simp only [lengths_ite, ite_self, out_next, State.saveEst_lengths]

theorem execShedDwellExpire_lengths (x0 : State) : (outState x0 (execShedDwellExpire x0)).lengths = x0.lengths :=
  lengths_of_hide (execShedDwellExpire_hide 1125894466690609 rfl x0)

theorem State.rewriteSlices_lengths (x0 : State) (x1) : (State.rewriteSlices x0 x1).lengths = x0.lengths :=
  lengths_of_hide (State.rewriteSlices_hide 1125894466690609 rfl x0 x1)

theorem execSpiOutDataRead_lengths (x0 : State) : (outState x0 (execSpiOutDataRead x0)).lengths = x0.lengths :=
  lengths_of_hide (execSpiOutDataRead_hide 1125894466690609 rfl x0)

theorem execSyncInEdge_lengths (x0) (x1 : State) : (outState x1 (execSyncInEdge x0 x1)).lengths = x1.lengths :=
  lengths_of_hide (execSyncInEdge_hide 1125894466690609 rfl x0 x1)

theorem State.singleKeep_lengths (x0 : State) (x1) (x2) : (State.singleKeep x0 x1 x2).2.lengths = x0.lengths := by
  unfold State.singleKeep
  simp only [State.rnormFlags_lengths, len_24]

theorem State.initCells_lengths (x0 : State) (x1) (x2) : (State.initCells x0 x1 x2).lengths = x0.lengths := by
  unfold State.initCells
  repeat' (first | (simp only [lengths_ite, ite_self, implies_true, lengths_foldl, setAt, List.length_map, List.length_modify, List.length_zipIdx, List.length_range, State.initCell_lengths, len_14, len_13, len_13_14]; done) | (simp only [lengths_ite, ite_self, implies_true, lengths_foldl, setAt, List.length_map, List.length_modify, List.length_zipIdx, List.length_range, State.initCell_lengths, len_14, len_13, len_13_14]; split) | split | (simp only [lengths_ite, ite_self, implies_true, lengths_foldl, setAt, List.length_map, List.length_modify, List.length_zipIdx, List.length_range, State.initCell_lengths, len_14, len_13, len_13_14]; with_reducible refine (lengths_foldl _ _ _ fun x a => ?_).trans ?_) | with_reducible refine (lengths_foldl _ _ _ fun x a => ?_).trans ?_)

theorem State.nvmAsk_lengths (x0 : State) (x1) : (State.nvmAsk x0 x1).lengths = x0.lengths :=
  lengths_of_hide (State.nvmAsk_hide 1125894466690609 rfl x0 x1)

theorem State.dieDemand_lengths (x0 : State) : (State.dieDemand x0).lengths = x0.lengths :=
  lengths_of_hide (State.dieDemand_hide 1125894466690609 rfl x0)

theorem State.applyDecision_lengths (x0 : State) (x1) (x2) : (State.applyDecision x0 x1 x2).lengths = x0.lengths :=
  lengths_of_hide (State.applyDecision_hide 1125894466690609 rfl x0 x1 x2)

theorem execCoreLdoRetry_lengths (x0 : State) : (outState x0 (execCoreLdoRetry x0)).lengths = x0.lengths :=
  lengths_of_hide (execCoreLdoRetry_hide 1125894466690609 rfl x0)

theorem State.startBist_lengths (x0 : State) : (State.startBist x0).lengths = x0.lengths := by
  unfold State.startBist
  simp only [List.length_map, len_7_8_9_36]

theorem fail_lengths (x0 : State) (x1) (x2) : (fail x0 x1 x2).s.lengths = x0.lengths :=
  lengths_of_hide (fail_hide 1125894466690609 rfl x0 x1 x2)

theorem okAns_lengths (x0 : State) (x1) (x2) : (okAns x0 x1 x2).s.lengths = x0.lengths :=
  lengths_of_hide (okAns_hide 1125894466690609 rfl x0 x1 x2)

theorem execRingPortRestored_lengths (x0) (x1 : State) : (outState x1 (execRingPortRestored x0 x1)).lengths = x1.lengths :=
  lengths_of_hide (execRingPortRestored_hide 1125894466690609 rfl x0 x1)

theorem State.loaded_lengths (x0 : State) (x1) (x2) : (State.loaded x0 x1 x2).lengths = x0.lengths := by
  unfold State.loaded
  simp only [lengths_ite, ite_self, State.modPan_lengths, State.modSlot_lengths, len_9]

theorem opSnapshot_lengths (x0) (x1) (x2 : State) : (opSnapshot x0 x1 x2).s.lengths = x2.lengths :=
  lengths_of_hide (opSnapshot_hide 1125894466690609 rfl x0 x1 x2)

theorem State.jobFlags_lengths (x0 : State) (x1) (x2) : (State.jobFlags x0 x1 x2).lengths = x0.lengths := by
  unfold State.jobFlags
  simp only [State.modPan_lengths]

theorem State.putOffSwap_lengths (x0 : State) : (State.putOffSwap x0).lengths = x0.lengths :=
  lengths_of_hide (State.putOffSwap_hide 1125894466690609 rfl x0)

theorem State.commitStep_lengths (s : State) (due : Bool) (f : State → State)
    (hf : ∀ x, (f x).lengths = x.lengths) : (s.commitStep due f).lengths = s.lengths := by
  unfold State.commitStep
  simp only [lengths_ite, hf, ite_self]

theorem State.goodReading_lengths (x0 : State) (x1) : (State.goodReading x0 x1).lengths = x0.lengths :=
  lengths_of_hide (State.goodReading_hide 1125894466690609 rfl x0 x1)

theorem State.ungatePans_lengths (x0 : State) : (State.ungatePans x0).lengths = x0.lengths := by
  unfold State.ungatePans
  simp only [implies_true, lengths_foldl, List.length_map, State.rewriteSlices_lengths, len_7]

theorem State.releaseToken_lengths (x0 : State) : (State.releaseToken x0).lengths = x0.lengths :=
  lengths_of_hide (State.releaseToken_hide 1125894466690609 rfl x0)

theorem State.cfeNoValue_lengths (x0 : State) : (State.cfeNoValue x0).lengths = x0.lengths :=
  lengths_of_hide (State.cfeNoValue_hide 1125894466690609 rfl x0)

theorem execPrechargeComplete_lengths (x0 : State) : (outState x0 (execPrechargeComplete x0)).lengths = x0.lengths :=
  lengths_of_hide (execPrechargeComplete_hide 1125894466690609 rfl x0)

theorem opPing_lengths (x0) (x1) (x2 : State) : (opPing x0 x1 x2).s.lengths = x2.lengths :=
  lengths_of_hide (opPing_hide 1125894466690609 rfl x0 x1 x2)

theorem State.writeImage_lengths (x0 : State) : (State.writeImage x0).lengths = x0.lengths :=
  lengths_of_hide (State.writeImage_hide 1125894466690609 rfl x0)

theorem State.setCounting_lengths (x0 : State) (x1) : (State.setCounting x0 x1).lengths = x0.lengths := by
  unfold State.setCounting
  simp only [lengths_ite, ite_self, List.length_map, len_13_14]

theorem execSoftStartDone_lengths (x0 : State) : (outState x0 (execSoftStartDone x0)).lengths = x0.lengths :=
  lengths_of_hide (execSoftStartDone_hide 1125894466690609 rfl x0)

theorem State.swapBoundary_lengths (x0 : State) : (State.swapBoundary x0).lengths = x0.lengths :=
  lengths_of_hide (State.swapBoundary_hide 1125894466690609 rfl x0)

theorem execRestStarved_lengths (x0 : State) : (outState x0 (execRestStarved x0)).lengths = x0.lengths :=
  lengths_of_hide (execRestStarved_hide 1125894466690609 rfl x0)

theorem State.setBus_lengths (x0 : State) (x1) (x2) : (State.setBus x0 x1 x2).lengths = x0.lengths := by
  unfold State.setBus
  simp only [lengths_ite, ite_self, State.modCan_lengths, len_33]

theorem State.krScan_lengths (x0 : State) (x1) : (State.krScan x0 x1).lengths = x0.lengths := by
  unfold State.krScan
  simp only [lengths_ite, ite_self, State.modEst_lengths]

theorem execEisVerdictTimeout_lengths (x0 : State) : (outState x0 (execEisVerdictTimeout x0)).lengths = x0.lengths :=
  lengths_of_hide (execEisVerdictTimeout_hide 1125894466690609 rfl x0)

theorem State.turnSlot_lengths (x0 : State) : (State.turnSlot x0).lengths = x0.lengths :=
  lengths_of_hide (State.turnSlot_hide 1125894466690609 rfl x0)

theorem refuse_lengths (x0 : State) (x1) : (refuse x0 x1).s.lengths = x0.lengths :=
  lengths_of_hide (refuse_hide 1125894466690609 rfl x0 x1)

theorem execRingCopyEmit_lengths (x0) (x1 : State) : (outState x1 (execRingCopyEmit x0 x1)).lengths = x1.lengths :=
  lengths_of_hide (execRingCopyEmit_hide 1125894466690609 rfl x0 x1)

theorem execModuleMissingLimit_lengths (x0) (x1 : State) : (outState x1 (execModuleMissingLimit x0 x1)).lengths = x1.lengths :=
  lengths_of_hide (execModuleMissingLimit_hide 1125894466690609 rfl x0 x1)

theorem State.freshLane_lengths (x0 : State) : (State.freshLane x0).lengths = x0.lengths := by
  unfold State.freshLane
  simp only [List.length_map, len_0_16_19_20_25_27_30_31_34]

theorem State.noteBacklog_lengths (x0 : State) : (State.noteBacklog x0).lengths = x0.lengths :=
  lengths_of_hide (State.noteBacklog_hide 1125894466690609 rfl x0)

theorem State.calStore_lengths (x0 : State) (x1) (x2) (x3) : (State.calStore x0 x1 x2 x3).lengths = x0.lengths := by
  unfold State.calStore
  simp only [State.modThermo_lengths]

theorem State.trimStreams_lengths (x0 : State) : (State.trimStreams x0).lengths = x0.lengths :=
  lengths_of_hide (State.trimStreams_hide 1125894466690609 rfl x0)

theorem State.discipline_lengths (x0 : State) (x1) (x2) (x3) : (State.discipline x0 x1 x2 x3).lengths = x0.lengths :=
  lengths_of_hide (State.discipline_hide 1125894466690609 rfl x0 x1 x2 x3)

theorem State.wantSlice_lengths (x0 : State) (x1) : (State.wantSlice x0 x1).lengths = x0.lengths :=
  lengths_of_hide (State.wantSlice_hide 1125894466690609 rfl x0 x1)

theorem State.noticeCan_lengths (x0 : State) (x1) (x2) (x3) : (State.noticeCan x0 x1 x2 x3).lengths = x0.lengths := by
  unfold State.noticeCan
  repeat' (first | (simp only [lengths_ite, ite_self, implies_true, State.modCan_lengths, State.sendCan_lengths]; done) | (simp only [lengths_ite, ite_self, implies_true, State.modCan_lengths, State.sendCan_lengths]; split) | split | (simp only [lengths_ite, ite_self, implies_true, State.modCan_lengths, State.sendCan_lengths]; with_reducible refine (lengths_foldl _ _ _ fun x a => ?_).trans ?_) | with_reducible refine (lengths_foldl _ _ _ fun x a => ?_).trans ?_)

theorem State.canRecover_lengths (x0 : State) (x1) : (State.canRecover x0 x1).lengths = x0.lengths := by
  unfold State.canRecover
  simp only [lengths_ite, ite_self, State.modCan_lengths, State.setBus_lengths]

theorem opRingStatus_lengths (x0) (x1) (x2 : State) : (opRingStatus x0 x1 x2).s.lengths = x2.lengths :=
  lengths_of_hide (opRingStatus_hide 1125894466690609 rfl x0 x1 x2)

theorem State.sendMirror_lengths (x0 : State) : (State.sendMirror x0).lengths = x0.lengths :=
  lengths_of_hide (State.sendMirror_hide 1125894466690609 rfl x0)

theorem opCurCal_lengths (x0) (x1) (x2 : State) : (opCurCal x0 x1 x2).s.lengths = x2.lengths :=
  lengths_of_hide (opCurCal_hide 1125894466690609 rfl x0 x1 x2)

theorem execNvmTransferComplete_lengths (x0 : State) : (outState x0 (execNvmTransferComplete x0)).lengths = x0.lengths :=
  lengths_of_hide (execNvmTransferComplete_hide 1125894466690609 rfl x0)

theorem State.cutoff_lengths (x0 : State) : (State.cutoff x0).lengths = x0.lengths := by
  unfold State.cutoff
  simp only [List.length_map, len_0_1_5]

theorem State.giveRole_lengths (x0 : State) (x1) (x2) (x3) : (State.giveRole x0 x1 x2 x3).lengths = x0.lengths := by
  unfold State.giveRole
  simp only [State.modPan_lengths, State.modSlot_lengths]

theorem opAbsorbedEvents_lengths (x0) (x1) (x2 : State) : (opAbsorbedEvents x0 x1 x2).s.lengths = x2.lengths :=
  lengths_of_hide (opAbsorbedEvents_hide 1125894466690609 rfl x0 x1 x2)

theorem State.takeImage_lengths (x0 : State) (x1) : (State.takeImage x0 x1).lengths = x0.lengths :=
  lengths_of_hide (State.takeImage_hide 1125894466690609 rfl x0 x1)

theorem execEphemeralKeyExpire_lengths (x0 : State) : (outState x0 (execEphemeralKeyExpire x0)).lengths = x0.lengths :=
  lengths_of_hide (execEphemeralKeyExpire_hide 1125894466690609 rfl x0)

theorem State.loseLanes_lengths (x0 : State) : (State.loseLanes x0).lengths = x0.lengths := by
  unfold State.loseLanes
  simp only [List.length_map, len_26_27]

theorem State.freshBoundary_lengths (x0 : State) : (State.freshBoundary x0).lengths = x0.lengths :=
  lengths_of_hide (State.freshBoundary_hide 1125894466690609 rfl x0)

theorem State.beginStart_lengths (x0 : State) : (State.beginStart x0).lengths = x0.lengths := by
  unfold State.beginStart
  simp only [List.length_map, List.length_zipIdx, len_22_23_24]

theorem State.accept_lengths (x0 : State) (x1) (x2) (x3) (x4) : (State.accept x0 x1 x2 x3 x4).lengths = x0.lengths :=
  lengths_of_hide (State.accept_hide 1125894466690609 rfl x0 x1 x2 x3 x4)

theorem State.feedResults_lengths (x0 : State) (x1) : (State.feedResults x0 x1).lengths = x0.lengths := by
  unfold State.feedResults
  repeat' (first | (simp only [lengths_ite, ite_self, implies_true, lengths_foldl, State.releaseP37_lengths, State.modEst_lengths, len_16]; done) | (simp only [lengths_ite, ite_self, implies_true, lengths_foldl, State.releaseP37_lengths, State.modEst_lengths, len_16]; split) | split | (simp only [lengths_ite, ite_self, implies_true, lengths_foldl, State.releaseP37_lengths, State.modEst_lengths, len_16]; with_reducible refine (lengths_foldl _ _ _ fun x a => ?_).trans ?_) | with_reducible refine (lengths_foldl _ _ _ fun x a => ?_).trans ?_)

theorem State.modTap_lengths (x0 : State) (x1) (x2) : (State.modTap x0 x1 x2).lengths = x0.lengths := by
  unfold State.modTap
  simp only [List.length_modify, len_3]

theorem State.slotPlanJob_lengths (x0 : State) : (State.slotPlanJob x0).lengths = x0.lengths :=
  lengths_of_hide (State.slotPlanJob_hide 1125894466690609 rfl x0)

theorem State.convCapture_lengths (x0 : State) (x1) (x2) (x3) (x4) : (State.convCapture x0 x1 x2 x3 x4).lengths = x0.lengths :=
  lengths_of_hide (State.convCapture_hide 1125894466690609 rfl x0 x1 x2 x3 x4)

theorem State.takeDecision_lengths (x0 : State) (x1) : (State.takeDecision x0 x1).lengths = x0.lengths := by
  unfold State.takeDecision
  simp only [lengths_ite, ite_self, State.startShadows_lengths, State.releaseFor_lengths, State.applyDecision_lengths, len_12]

theorem State.spiDiscard_lengths (x0 : State) : (State.spiDiscard x0).lengths = x0.lengths :=
  lengths_of_hide (State.spiDiscard_hide 1125894466690609 rfl x0)

theorem State.streamRecord_lengths (x0 : State) (x1) : (State.streamRecord x0 x1).lengths = x0.lengths := by
  unfold State.streamRecord
  repeat' (first | (simp only [lengths_ite, ite_self, implies_true, State.sendCan_lengths, State.sendSpi_lengths, len_31]; done) | (simp only [lengths_ite, ite_self, implies_true, State.sendCan_lengths, State.sendSpi_lengths, len_31]; split) | split | (simp only [lengths_ite, ite_self, implies_true, State.sendCan_lengths, State.sendSpi_lengths, len_31]; with_reducible refine (lengths_foldl _ _ _ fun x a => ?_).trans ?_) | with_reducible refine (lengths_foldl _ _ _ fun x a => ?_).trans ?_)

theorem execSpiIrqStatusWrite_lengths (x0) (x1 : State) : (outState x1 (execSpiIrqStatusWrite x0 x1)).lengths = x1.lengths :=
  lengths_of_hide (execSpiIrqStatusWrite_hide 1125894466690609 rfl x0 x1)

theorem State.feModel_lengths (x0 : State) (x1) : (State.feModel x0 x1).lengths = x0.lengths :=
  lengths_of_hide (State.feModel_hide 1125894466690609 rfl x0 x1)

theorem execEclipseSwapDue_lengths (x0 : State) : (outState x0 (execEclipseSwapDue x0)).lengths = x0.lengths :=
  lengths_of_hide (execEclipseSwapDue_hide 1125894466690609 rfl x0)

theorem State.slotStart_lengths (x0 : State) : (State.slotStart x0).lengths = x0.lengths := by
  unfold State.slotStart
  repeat' (first | (simp only [lengths_ite, ite_self, implies_true, State.beginSlot_lengths, State.newPlan_lengths, State.balDrain_lengths, State.turnSlot_lengths]; done) | (simp only [lengths_ite, ite_self, implies_true, State.beginSlot_lengths, State.newPlan_lengths, State.balDrain_lengths, State.turnSlot_lengths]; split) | split | (simp only [lengths_ite, ite_self, implies_true, State.beginSlot_lengths, State.newPlan_lengths, State.balDrain_lengths, State.turnSlot_lengths]; with_reducible refine (lengths_foldl _ _ _ fun x a => ?_).trans ?_) | with_reducible refine (lengths_foldl _ _ _ fun x a => ?_).trans ?_)

theorem State.sendRing_lengths (x0 : State) (x1) (x2) (x3) : (State.sendRing x0 x1 x2 x3).lengths = x0.lengths :=
  lengths_of_hide (State.sendRing_hide 1125894466690609 rfl x0 x1 x2 x3)

theorem State.startPhases_lengths (x0 : State) : (State.startPhases x0).lengths = x0.lengths := by
  unfold State.startPhases
  simp only [implies_true, lengths_foldl, State.modPhase_lengths]

theorem State.twoHand_lengths (x0 : State) (x1) (x2) : (State.twoHand x0 x1 x2).lengths = x0.lengths :=
  lengths_of_hide (State.twoHand_hide 1125894466690609 rfl x0 x1 x2)

theorem execTableValidationComplete_lengths (x0 : State) : (outState x0 (execTableValidationComplete x0)).lengths = x0.lengths :=
  lengths_of_hide (execTableValidationComplete_hide 1125894466690609 rfl x0)

theorem State.cfeRelink_lengths (x0 : State) : (State.cfeRelink x0).lengths = x0.lengths :=
  lengths_of_hide (State.cfeRelink_hide 1125894466690609 rfl x0)

theorem State.convStopWith_lengths (x0 : State) (x1) (x2) (x3) (x4) (x5) : (State.convStopWith x0 x1 x2 x3 x4 x5).lengths = x0.lengths := by
  unfold State.convStopWith
  simp only [lengths_ite, ite_self, State.gatesOff_lengths, State.convCapture_lengths, len_23]

theorem State.owDecide_lengths (x0 : State) : (State.owDecide x0).lengths = x0.lengths := by
  unfold State.owDecide
  simp only [lengths_ite, ite_self, List.length_map, List.length_zipIdx, len_1_4]

theorem State.takeStatus_lengths (x0 : State) (x1) : (State.takeStatus x0 x1).lengths = x0.lengths :=
  lengths_of_hide (State.takeStatus_hide 1125894466690609 rfl x0 x1)

theorem State.zeroCheck_lengths (x0 : State) : (State.zeroCheck x0).lengths = x0.lengths :=
  lengths_of_hide (State.zeroCheck_hide 1125894466690609 rfl x0)

theorem State.capture_lengths (x0 : State) (x1) (x2) (x3) : (State.capture x0 x1 x2 x3).lengths = x0.lengths :=
  lengths_of_hide (State.capture_hide 1125894466690609 rfl x0 x1 x2 x3)

theorem State.endRequest_lengths (x0 : State) (x1) (x2) (x3) (x4) : (State.endRequest x0 x1 x2 x3 x4).lengths = x0.lengths :=
  lengths_of_hide (State.endRequest_hide 1125894466690609 rfl x0 x1 x2 x3 x4)

theorem State.holdStep_lengths (x0 : State) (x1) : (State.holdStep x0 x1).lengths = x0.lengths := by
  unfold State.holdStep
  simp only [implies_true, lengths_foldl, State.modEst_lengths]

theorem State.lanesDown_lengths (x0 : State) (x1) : (State.lanesDown x0 x1).lengths = x0.lengths := by
  unfold State.lanesDown
  simp only [State.modLane_lengths, State.releaseToken_lengths, len_27]

theorem State.specJob_lengths (x0 : State) (x1) : (State.specJob x0 x1).lengths = x0.lengths :=
  lengths_of_hide (State.specJob_hide 1125894466690609 rfl x0 x1)

theorem State.loadConfig_lengths (x0 : State) : (State.loadConfig x0).lengths = x0.lengths := by
  unfold State.loadConfig
  simp only [lengths_ite, ite_self, setAt, List.length_map, List.length_zipIdx, State.commitPosition_lengths, State.takeImage_lengths, len_0_1_14_21_27_31]

theorem State.startRelink_lengths (x0 : State) (x1) : (State.startRelink x0 x1).lengths = x0.lengths := by
  unfold State.startRelink
  simp only [State.modFe_lengths]

theorem opProtEvents_lengths (x0) (x1) (x2 : State) : (opProtEvents x0 x1 x2).s.lengths = x2.lengths :=
  lengths_of_hide (opProtEvents_hide 1125894466690609 rfl x0 x1 x2)

theorem State.comparator_lengths (x0 : State) (x1) (x2) (x3) (x4) : (State.comparator x0 x1 x2 x3 x4).lengths = x0.lengths := by
  unfold State.comparator
  simp only [lengths_ite, ite_self, State.modFe_lengths]

theorem State.endSweep_lengths (x0 : State) (x1) (x2) : (State.endSweep x0 x1 x2).lengths = x0.lengths :=
  lengths_of_hide (State.endSweep_hide 1125894466690609 rfl x0 x1 x2)

theorem State.summaryJob_lengths (x0 : State) : (State.summaryJob x0).lengths = x0.lengths :=
  lengths_of_hide (State.summaryJob_hide 1125894466690609 rfl x0)

theorem opReprovision_lengths (x0) (x1) (x2 : State) : (opReprovision x0 x1 x2).s.lengths = x2.lengths :=
  lengths_of_hide (opReprovision_hide 1125894466690609 rfl x0 x1 x2)

theorem execDrainComplete_lengths (x0 : State) : (outState x0 (execDrainComplete x0)).lengths = x0.lengths := by
  unfold execDrainComplete
  simp only [lengths_ite, ite_self, out_next, State.gatesOff_lengths, len_23]

theorem State.followRequest_lengths (x0 : State) : (State.followRequest x0).lengths = x0.lengths :=
  lengths_of_hide (State.followRequest_hide 1125894466690609 rfl x0)

theorem State.emptyCheck_lengths (x0 : State) (x1) : (State.emptyCheck x0 x1).lengths = x0.lengths := by
  unfold State.emptyCheck
  simp only [State.modEst_lengths]

theorem State.shadowed_lengths (x0 : State) (x1) : (State.shadowed x0 x1).lengths = x0.lengths := by
  unfold State.shadowed
  simp only [lengths_ite, ite_self, State.modSlot_lengths, len_9]

theorem State.restoreCell_lengths (x0 : State) (x1) : (State.restoreCell x0 x1).lengths = x0.lengths := by
  unfold State.restoreCell
  simp only [State.modEst_lengths]

theorem State.closeWindow_lengths (x0 : State) : (State.closeWindow x0).lengths = x0.lengths := by
  unfold State.closeWindow
  simp only [List.length_map, State.checkpoint_lengths, len_1_5_11]

theorem State.withdrawCause_lengths (x0 : State) (x1) : (State.withdrawCause x0 x1).lengths = x0.lengths :=
  lengths_of_hide (State.withdrawCause_hide 1125894466690609 rfl x0 x1)

theorem execFallbackGatesOff_lengths (x0 : State) : (outState x0 (execFallbackGatesOff x0)).lengths = x0.lengths := by
  unfold execFallbackGatesOff
  simp only [lengths_ite, ite_self, out_next, State.gatesOff_lengths, len_23_27]

theorem State.single_lengths (x0 : State) (x1) : (State.single x0 x1).2.lengths = x0.lengths := by
  unfold State.single
  simp only [State.rnormFlags_lengths, len_24]

theorem State.fullSet_lengths (x0 : State) : (State.fullSet x0).lengths = x0.lengths := by
  unfold State.fullSet
  simp only [implies_true, lengths_foldl, State.modPhase_lengths, len_23]

theorem execSluiceLoadComplete_lengths (x0) (x1) (x2 : State) : (outState x2 (execSluiceLoadComplete x0 x1 x2)).lengths = x2.lengths := by
  unfold execSluiceLoadComplete
  simp only [lengths_ite, ite_self, out_ite, out_next, out_fault, State.loaded_lengths]

theorem State.losePanData_lengths (x0 : State) : (State.losePanData x0).lengths = x0.lengths := by
  unfold State.losePanData
  simp only [List.length_map, State.dropSlices_lengths, len_2_3_4_5_6_14_15_16_17_20_22_24_36]

theorem State.coldBase_lengths (s : State) (straps : Nat) (h : s.lengths = State.reset.lengths) :
    (s.coldBase straps).lengths = State.reset.lengths := by
  unfold State.coldBase
  rw [State.initCells_lengths, State.startBist_lengths, len_25_29, State.nonVolatile_lengths s h]

theorem opParamSet_lengths (x0) (x1) (x2 : State) : (opParamSet x0 x1 x2).s.lengths = x2.lengths :=
  lengths_of_hide (opParamSet_hide 1125894466690609 rfl x0 x1 x2)

theorem execFeAuxReturn_lengths (x0) (x1 : State) : (outState x1 (execFeAuxReturn x0 x1)).lengths = x1.lengths := by
  unfold execFeAuxReturn
  simp only [lengths_ite, ite_self, out_ite, out_next, out_fault, State.startRelink_lengths, State.modFe_lengths, len_5]

theorem State.recordMissing_lengths (x0 : State) (x1) (x2) : (State.recordMissing x0 x1 x2).lengths = x0.lengths := by
  unfold State.recordMissing
  simp only [lengths_ite, ite_self, State.modBranch_lengths, State.prechargeFrame_lengths]

theorem execBusOv_lengths (x0) (x1 : State) : (outState x1 (execBusOv x0 x1)).lengths = x1.lengths := by
  unfold execBusOv
  simp only [lengths_ite, ite_self, out_next, State.convStopWith_lengths]

theorem State.respread_lengths (x0 : State) : (State.respread x0).lengths = x0.lengths := by
  unfold State.respread
  simp only [implies_true, lengths_foldl, State.modPhase_lengths]

theorem execRelinkRetry_lengths (x0) (x1 : State) : (outState x1 (execRelinkRetry x0 x1)).lengths = x1.lengths := by
  unfold execRelinkRetry
  simp only [lengths_ite, ite_self, out_ite, out_next, out_fault, State.modFe_lengths, len_5]

theorem opFwActivate_lengths (x0) (x1) (x2 : State) : (opFwActivate x0 x1 x2).s.lengths = x2.lengths :=
  lengths_of_hide (opFwActivate_hide 1125894466690609 rfl x0 x1 x2)

theorem execBackChannelCutoff_lengths (x0 : State) : (outState x0 (execBackChannelCutoff x0)).lengths = x0.lengths := by
  unfold execBackChannelCutoff
  simp only [out_next, State.cutoff_lengths]

theorem execBalSlotStart_lengths (x0 : State) : (outState x0 (execBalSlotStart x0)).lengths = x0.lengths := by
  unfold execBalSlotStart
  simp only [out_next, State.slotStart_lengths]

theorem execFeThermalRelease_lengths (x0) (x1 : State) : (outState x1 (execFeThermalRelease x0 x1)).lengths = x1.lengths := by
  unfold execFeThermalRelease
  simp only [lengths_ite, ite_self, out_ite, out_next, out_fault, State.modFe_lengths]

theorem State.single35_lengths (x0 : State) (x1) : (State.single35 x0 x1).2.lengths = x0.lengths := by
  unfold State.single35
  simp only [State.rnormFlags_lengths]

theorem State.anchorCell_lengths (x0 : State) (x1) (x2) (x3) (x4) : (State.anchorCell x0 x1 x2 x3 x4).lengths = x0.lengths := by
  unfold State.anchorCell
  simp only [lengths_ite, ite_self, State.modEst_lengths, State.learnPoint_lengths]

theorem opEisResult_lengths (x0) (x1) (x2 : State) : (opEisResult x0 x1 x2).s.lengths = x2.lengths :=
  lengths_of_hide (opEisResult_hide 1125894466690609 rfl x0 x1 x2)

theorem execSafeLawGatesOff_lengths (x0 : State) : (outState x0 (execSafeLawGatesOff x0)).lengths = x0.lengths := by
  unfold execSafeLawGatesOff
  simp only [lengths_ite, ite_self, out_next, State.convStopWith_lengths]

theorem execPortLineDown_lengths (x0) (x1) (x2 : State) : (outState x2 (execPortLineDown x0 x1 x2)).lengths = x2.lengths := by
  unfold execPortLineDown
  simp only [lengths_ite, ite_self, out_ite, out_next, out_fault, State.startRelink_lengths, State.modFe_lengths, State.cfeRelink_lengths, len_5]

theorem State.followBranch_lengths (x0 : State) (x1) : (State.followBranch x0 x1).lengths = x0.lengths :=
  lengths_of_hide (State.followBranch_hide 1125894466690609 rfl x0 x1)

theorem State.windowWork_lengths (x0 : State) : (State.windowWork x0).lengths = x0.lengths := by
  unfold State.windowWork
  simp only [lengths_ite, ite_self, State.setPattern_lengths, State.balReadback_lengths]

theorem State.restPoint_lengths (x0 : State) (x1) : (State.restPoint x0 x1).lengths = x0.lengths := by
  unfold State.restPoint
  simp only [lengths_ite, ite_self, State.modEst_lengths, State.learnPoint_lengths, len_14]

theorem State.spiRead_lengths (x0 : State) (x1) : (State.spiRead x0 x1).lengths = x0.lengths :=
  lengths_of_hide (State.spiRead_hide 1125894466690609 rfl x0 x1)

theorem opIdentify_lengths (x0) (x1) (x2 : State) : (opIdentify x0 x1 x2).s.lengths = x2.lengths :=
  lengths_of_hide (opIdentify_hide 1125894466690609 rfl x0 x1 x2)

theorem State.startReturn_lengths (x0 : State) (x1) : (State.startReturn x0 x1).lengths = x0.lengths :=
  lengths_of_hide (State.startReturn_hide 1125894466690609 rfl x0 x1)

theorem State.restoreRole_lengths (x0 : State) (x1) : (State.restoreRole x0 x1).lengths = x0.lengths := by
  unfold State.restoreRole
  repeat' (first | (simp only [lengths_ite, ite_self, implies_true, lengths_foldl, setAt, List.length_map, List.length_modify, List.length_zipIdx, List.length_range, State.modChan_lengths, State.modEst_lengths, len_16, len_5, len_14_15, len_16_17, len_20, len_3_4_20, len_22, len_24, len_3_4_5_14_15_16_17_20_22_24]; done) | (simp only [lengths_ite, ite_self, implies_true, lengths_foldl, setAt, List.length_map, List.length_modify, List.length_zipIdx, List.length_range, State.modChan_lengths, State.modEst_lengths, len_16, len_5, len_14_15, len_16_17, len_20, len_3_4_20, len_22, len_24, len_3_4_5_14_15_16_17_20_22_24]; split) | split | (simp only [lengths_ite, ite_self, implies_true, lengths_foldl, setAt, List.length_map, List.length_modify, List.length_zipIdx, List.length_range, State.modChan_lengths, State.modEst_lengths, len_16, len_5, len_14_15, len_16_17, len_20, len_3_4_20, len_22, len_24, len_3_4_5_14_15_16_17_20_22_24]; with_reducible refine (lengths_foldl _ _ _ fun x a => ?_).trans ?_) | with_reducible refine (lengths_foldl _ _ _ fun x a => ?_).trans ?_)

theorem State.applyPeak_lengths (x0 : State) (x1) : (State.applyPeak x0 x1).lengths = x0.lengths := by
  unfold State.applyPeak
  simp only [State.modPhase_lengths]

theorem State.sendReply_lengths (x0 : State) (x1) (x2) : (State.sendReply x0 x1 x2).lengths = x0.lengths := by
  unfold State.sendReply
  repeat' (first | (simp only [lengths_ite, ite_self, implies_true, State.modPort_lengths, State.sendCan_lengths, State.sendSpi_lengths, State.sendRing_lengths]; done) | (simp only [lengths_ite, ite_self, implies_true, State.modPort_lengths, State.sendCan_lengths, State.sendSpi_lengths, State.sendRing_lengths]; split) | split | (simp only [lengths_ite, ite_self, implies_true, State.modPort_lengths, State.sendCan_lengths, State.sendSpi_lengths, State.sendRing_lengths]; with_reducible refine (lengths_foldl _ _ _ fun x a => ?_).trans ?_) | with_reducible refine (lengths_foldl _ _ _ fun x a => ?_).trans ?_)

theorem State.estWindow_lengths (x0 : State) (x1) : (State.estWindow x0 x1).lengths = x0.lengths := by
  unfold State.estWindow
  simp only [lengths_ite, ite_self, State.thermoDecay_lengths, State.modEst_lengths, State.krScan_lengths, State.wantSlice_lengths]

theorem opConvFaultRecord_lengths (x0) (x1) (x2 : State) : (opConvFaultRecord x0 x1 x2).s.lengths = x2.lengths :=
  lengths_of_hide (opConvFaultRecord_hide 1125894466690609 rfl x0 x1 x2)

theorem execProtOnlyContactorOpen_lengths (x0 : State) : (outState x0 (execProtOnlyContactorOpen x0)).lengths = x0.lengths :=
  lengths_of_hide (execProtOnlyContactorOpen_hide 1125894466690609 rfl x0)

theorem State.endPeriod_lengths (x0 : State) (x1) (x2) : (State.endPeriod x0 x1 x2).lengths = x0.lengths := by
  unfold State.endPeriod
  simp only [State.modPhase_lengths, len_23]

theorem State.notch_lengths (x0 : State) (x1) : (State.notch x0 x1).2.lengths = x0.lengths := by
  unfold State.notch
  simp only [lengths_ite, ite_self, snd_ite, State.single_lengths, len_24]

theorem State.settleBus_lengths (x0 : State) (x1) : (State.settleBus x0 x1).lengths = x0.lengths := by
  unfold State.settleBus
  simp only [lengths_ite, ite_self, State.setBus_lengths]

theorem State.toStandby_lengths (x0 : State) (x1) : (State.toStandby x0 x1).2.lengths = x0.lengths :=
  lengths_of_hide (State.toStandby_hide 1125894466690609 rfl x0 x1)

theorem State.shareTrims_lengths (x0 : State) : (State.shareTrims x0).lengths = x0.lengths := by
  unfold State.shareTrims
  simp only [lengths_ite, ite_self, implies_true, lengths_foldl, List.length_map, State.rnormFlags_lengths, State.modPhase_lengths, len_22]

theorem execBlockStatusPeriodic_lengths (x0 : State) : (outState x0 (execBlockStatusPeriodic x0)).lengths = x0.lengths :=
  lengths_of_hide (execBlockStatusPeriodic_hide 1125894466690609 rfl x0)

theorem State.wantSlices_lengths (x0 : State) : (State.wantSlices x0).lengths = x0.lengths :=
  lengths_of_hide (State.wantSlices_hide 1125894466690609 rfl x0)

theorem State.stopWatch_lengths (x0 : State) : (State.stopWatch x0).lengths = x0.lengths :=
  lengths_of_hide (State.stopWatch_hide 1125894466690609 rfl x0)

theorem State.changeMode_lengths (x0 : State) (x1) (x2) (x3) : (State.changeMode x0 x1 x2 x3).lengths = x0.lengths := by
  unfold State.changeMode
  repeat' (first | (simp only [lengths_ite, ite_self, implies_true, State.single_lengths, len_24]; done) | (simp only [lengths_ite, ite_self, implies_true, State.single_lengths, len_24]; split) | split | (simp only [lengths_ite, ite_self, implies_true, State.single_lengths, len_24]; with_reducible refine (lengths_foldl _ _ _ fun x a => ?_).trans ?_) | with_reducible refine (lengths_foldl _ _ _ fun x a => ?_).trans ?_)

theorem State.canConfigure_lengths (x0 : State) (x1) : (State.canConfigure x0 x1).lengths = x0.lengths := by
  unfold State.canConfigure
  simp only [lengths_ite, ite_self, State.modCan_lengths, State.setBus_lengths]

theorem State.safeStep_lengths (x0 : State) : (State.safeStep x0).lengths = x0.lengths :=
  lengths_of_hide (State.safeStep_hide 1125894466690609 rfl x0)

theorem State.downOutputs_lengths (x0 : State) : (State.downOutputs x0).lengths = x0.lengths := by
  unfold State.downOutputs
  simp only [lengths_ite, ite_self, List.length_map, List.length_zipIdx, State.withdrawCause_lengths, len_1_21]

theorem State.receiptReply_lengths (x0 : State) (x1) (x2) (x3) : (State.receiptReply x0 x1 x2 x3).lengths = x0.lengths := by
  unfold State.receiptReply
  simp only [State.sendReply_lengths]

theorem State.convOff_lengths (x0 : State) : (State.convOff x0).lengths = x0.lengths := by
  unfold State.convOff
  simp only [List.length_map, State.gatesOff_lengths, len_22_23_24]

theorem State.takeRecord_lengths (x0 : State) (x1) : (State.takeRecord x0 x1).lengths = x0.lengths := by
  unfold State.takeRecord
  simp only [State.modBranch_lengths, State.followBranch_lengths]

theorem execKNegOpen_lengths (x0 : State) : (outState x0 (execKNegOpen x0)).lengths = x0.lengths :=
  lengths_of_hide (execKNegOpen_hide 1125894466690609 rfl x0)

theorem State.setCause_lengths (x0 : State) (x1) (x2) : (State.setCause x0 x1 x2).lengths = x0.lengths :=
  lengths_of_hide (State.setCause_hide 1125894466690609 rfl x0 x1 x2)

theorem opStreamConfig_lengths (x0) (x1) (x2 : State) : (opStreamConfig x0 x1 x2).s.lengths = x2.lengths :=
  lengths_of_hide (opStreamConfig_hide 1125894466690609 rfl x0 x1 x2)

theorem State.settle_lengths (s : State) (p : Port) (a : Ans) (ha : a.s.lengths = s.lengths) :
    (s.settle p a).s.lengths = s.lengths := by
  unfold State.settle
  simp only [ans_ite, lengths_ite, fail_s, ha, ite_self]

theorem opFwStage_lengths (x0) (x1) (x2 : State) : (opFwStage x0 x1 x2).s.lengths = x2.lengths :=
  lengths_of_hide (opFwStage_hide 1125894466690609 rfl x0 x1 x2)

theorem opWakeRecord_lengths (x0) (x1) (x2 : State) : (opWakeRecord x0 x1 x2).s.lengths = x2.lengths :=
  lengths_of_hide (opWakeRecord_hide 1125894466690609 rfl x0 x1 x2)

theorem State.record_lengths (x0 : State) (x1) (x2) (x3) (x4) (x5) (x6) (x7) : (State.record x0 x1 x2 x3 x4 x5 x6 x7).lengths = x0.lengths :=
  lengths_of_hide (State.record_hide 1125894466690609 rfl x0 x1 x2 x3 x4 x5 x6 x7)

theorem State.coldReturn_lengths (x0 : State) : (State.coldReturn x0).lengths = x0.lengths :=
  lengths_of_hide (State.coldReturn_hide 1125894466690609 rfl x0)

theorem State.convStop_lengths (x0 : State) (x1) : (State.convStop x0 x1).lengths = x0.lengths := by
  unfold State.convStop
  simp only [State.convStopWith_lengths]

theorem State.spanCheck_lengths (x0 : State) : (State.spanCheck x0).lengths = x0.lengths := by
  unfold State.spanCheck
  simp only [lengths_ite, ite_self, implies_true, lengths_foldl, State.withdrawCause_lengths, State.setCause_lengths, State.modTap_lengths]

theorem State.measureChange_lengths (x0 : State) (x1) (x2) : (State.measureChange x0 x1 x2).lengths = x0.lengths := by
  unfold State.measureChange
  repeat' (first | (simp only [lengths_ite, ite_self, implies_true, lengths_foldl, State.modTap_lengths]; done) | (simp only [lengths_ite, ite_self, implies_true, lengths_foldl, State.modTap_lengths]; split) | split | (simp only [lengths_ite, ite_self, implies_true, lengths_foldl, State.modTap_lengths]; with_reducible refine (lengths_foldl _ _ _ fun x a => ?_).trans ?_) | with_reducible refine (lengths_foldl _ _ _ fun x a => ?_).trans ?_)

theorem execGateDriverFault_lengths (x0 : State) : (outState x0 (execGateDriverFault x0)).lengths = x0.lengths := by
  unfold execGateDriverFault
  simp only [lengths_ite, ite_self, out_next, State.convStop_lengths, len_23]

theorem State.peakLaw_lengths (x0 : State) : (State.peakLaw x0).lengths = x0.lengths := by
  unfold State.peakLaw
  simp only [State.singleKeep_lengths, len_24]

theorem execTwohandInput_lengths (x0) (x1) (x2 : State) : (outState x2 (execTwohandInput x0 x1 x2)).lengths = x2.lengths :=
  lengths_of_hide (execTwohandInput_hide 1125894466690609 rfl x0 x1 x2)

theorem State.periodStart_lengths (x0 : State) (x1) (x2) : (State.periodStart x0 x1 x2).lengths = x0.lengths := by
  unfold State.periodStart
  simp only [lengths_ite, ite_self, State.respread_lengths, State.applyPeak_lengths, State.endPeriod_lengths, State.spreadDone_lengths, State.modPhase_lengths, len_23]

theorem opAttest_lengths (x0) (x1) (x2 : State) : (opAttest x0 x1 x2).s.lengths = x2.lengths :=
  lengths_of_hide (opAttest_hide 1125894466690609 rfl x0 x1 x2)

theorem State.strobe_lengths (x0 : State) (x1) : (State.strobe x0 x1).lengths = x0.lengths := by
  unfold State.strobe
  simp only [implies_true, lengths_foldl, List.length_map, State.countExcitation_lengths, State.ageSet_lengths, State.bridgeDraw_lengths, State.feModel_lengths, len_0_1_3_5_17_18_20_28_29]

theorem State.hiccup_lengths (x0 : State) (x1) : (State.hiccup x0 x1).lengths = x0.lengths := by
  unfold State.hiccup
  simp only [lengths_ite, ite_self, State.noPeriods_lengths, State.gatesOff_lengths, State.convCapture_lengths, State.convStopWith_lengths, len_23]

theorem execCanSegmentTimeout_lengths (x0) (x1) (x2 : State) : (outState x2 (execCanSegmentTimeout x0 x1 x2)).lengths = x2.lengths := by
  unfold execCanSegmentTimeout
  simp only [out_next, State.canSegmentTimeout_lengths]

theorem State.primaryLost_lengths (x0 : State) : (State.primaryLost x0).lengths = x0.lengths :=
  lengths_of_hide (State.primaryLost_hide 1125894466690609 rfl x0)

theorem State.sweepBoundary_lengths (x0 : State) : (State.sweepBoundary x0).lengths = x0.lengths :=
  lengths_of_hide (State.sweepBoundary_hide 1125894466690609 rfl x0)

theorem State.noteDone_lengths (x0 : State) (x1) (x2) (x3) : (State.noteDone x0 x1 x2 x3).lengths = x0.lengths :=
  lengths_of_hide (State.noteDone_hide 1125894466690609 rfl x0 x1 x2 x3)

theorem State.wakeBoundary_lengths (x0 : State) : (State.wakeBoundary x0).lengths = x0.lengths :=
  lengths_of_hide (State.wakeBoundary_hide 1125894466690609 rfl x0)

theorem execFastChannelRestored_lengths (x0 : State) : (outState x0 (execFastChannelRestored x0)).lengths = x0.lengths :=
  lengths_of_hide (execFastChannelRestored_hide 1125894466690609 rfl x0)

theorem State.commitCfe_lengths (x0 : State) : (State.commitCfe x0).lengths = x0.lengths :=
  lengths_of_hide (State.commitCfe_hide 1125894466690609 rfl x0)

theorem execFastChannelLost_lengths (x0 : State) : (outState x0 (execFastChannelLost x0)).lengths = x0.lengths := by
  unfold execFastChannelLost
  simp only [lengths_ite, ite_self, out_next, State.setCause_lengths, State.convStop_lengths, len_5]

theorem State.linksUp_lengths (x0 : State) : (State.linksUp x0).lengths = x0.lengths :=
  lengths_of_hide (State.linksUp_hide 1125894466690609 rfl x0)

theorem State.leadRJob_lengths (x0 : State) : (State.leadRJob x0).lengths = x0.lengths := by
  unfold State.leadRJob
  simp only [implies_true, lengths_foldl, State.measureChange_lengths]

theorem execComparatorRelease_lengths (x0) (x1) (x2) (x3 : State) : (outState x3 (execComparatorRelease x0 x1 x2 x3)).lengths = x3.lengths := by
  unfold execComparatorRelease
  simp only [lengths_ite, ite_self, out_ite, out_next, out_fault, State.comparator_lengths]

theorem execSpiInTimeout_lengths (x0 : State) : (outState x0 (execSpiInTimeout x0)).lengths = x0.lengths :=
  lengths_of_hide (execSpiInTimeout_hide 1125894466690609 rfl x0)

theorem State.canBusOff_lengths (x0 : State) (x1) : (State.canBusOff x0 x1).lengths = x0.lengths := by
  unfold State.canBusOff
  simp only [lengths_ite, ite_self, State.modCan_lengths, State.setBus_lengths]

theorem opHealth_lengths (x0) (x1) (x2 : State) : (opHealth x0 x1 x2).s.lengths = x2.lengths :=
  lengths_of_hide (opHealth_hide 1125894466690609 rfl x0 x1 x2)

theorem opParamGet_lengths (x0) (x1) (x2 : State) : (opParamGet x0 x1 x2).s.lengths = x2.lengths :=
  lengths_of_hide (opParamGet_hide 1125894466690609 rfl x0 x1 x2)

theorem opTableRead_lengths (x0) (x1) (x2 : State) : (opTableRead x0 x1 x2).s.lengths = x2.lengths :=
  lengths_of_hide (opTableRead_hide 1125894466690609 rfl x0 x1 x2)

theorem execFaultAutoRelease_lengths (x0) (x1 : State) : (outState x1 (execFaultAutoRelease x0 x1)).lengths = x1.lengths :=
  lengths_of_hide (execFaultAutoRelease_hide 1125894466690609 rfl x0 x1)

theorem execTripContactorOff_lengths (x0 : State) : (outState x0 (execTripContactorOff x0)).lengths = x0.lengths :=
  lengths_of_hide (execTripContactorOff_hide 1125894466690609 rfl x0)

theorem State.applyEstMode_lengths (x0 : State) : (State.applyEstMode x0).lengths = x0.lengths := by
  unfold State.applyEstMode
  simp only [lengths_ite, ite_self, State.setCounting_lengths, len_14]

theorem State.streamRecords_lengths (x0 : State) : (State.streamRecords x0).lengths = x0.lengths := by
  unfold State.streamRecords
  simp only [implies_true, lengths_foldl, State.streamRecord_lengths]

theorem State.owOpenCause_lengths (x0 : State) : (State.owOpenCause x0).lengths = x0.lengths :=
  lengths_of_hide (State.owOpenCause_hide 1125894466690609 rfl x0)

theorem execCanBusOffRecovery_lengths (x0) (x1 : State) : (outState x1 (execCanBusOffRecovery x0 x1)).lengths = x1.lengths := by
  unfold execCanBusOffRecovery
  simp only [out_next, State.canRecover_lengths]

theorem State.beginSoftStart_lengths (x0 : State) : (State.beginSoftStart x0).lengths = x0.lengths := by
  unfold State.beginSoftStart
  simp only [State.startPhases_lengths, len_23]

theorem opSafetyStatus_lengths (x0) (x1) (x2 : State) : (opSafetyStatus x0 x1 x2).s.lengths = x2.lengths :=
  lengths_of_hide (opSafetyStatus_hide 1125894466690609 rfl x0 x1 x2)

theorem State.measureDelay_lengths (x0 : State) (x1) (x2) : (State.measureDelay x0 x1 x2).lengths = x0.lengths := by
  unfold State.measureDelay
  simp only [lengths_ite, ite_self, State.startRelink_lengths, State.modFe_lengths, State.cfeRelink_lengths, len_5]

theorem execHiccupTrigger_lengths (x0) (x1 : State) : (outState x1 (execHiccupTrigger x0 x1)).lengths = x1.lengths := by
  unfold execHiccupTrigger
  simp only [lengths_ite, ite_self, out_ite, out_next, out_fault, List.length_map, State.hiccup_lengths, len_22]

theorem State.watchBoundary_lengths (x0 : State) : (State.watchBoundary x0).lengths = x0.lengths :=
  lengths_of_hide (State.watchBoundary_hide 1125894466690609 rfl x0)

theorem State.portsRelink_lengths (x0 : State) : (State.portsRelink x0).lengths = x0.lengths := by
  unfold State.portsRelink
  simp only [lengths_ite, ite_self, implies_true, lengths_foldl, State.startRelink_lengths, len_5]

theorem execComparatorAssert_lengths (x0) (x1) (x2) (x3 : State) : (outState x3 (execComparatorAssert x0 x1 x2 x3)).lengths = x3.lengths := by
  unfold execComparatorAssert
  simp only [lengths_ite, ite_self, out_ite, out_next, out_fault, State.comparator_lengths]

theorem State.addPhases_lengths (x0 : State) (x1) : (State.addPhases x0 x1).lengths = x0.lengths := by
  unfold State.addPhases
  simp only [implies_true, lengths_foldl, State.respread_lengths, State.modPhase_lengths, len_23]

theorem State.noticeOn_lengths (x0 : State) (x1) (x2) : (State.noticeOn x0 x1 x2).lengths = x0.lengths := by
  unfold State.noticeOn
  repeat' (first | (simp only [lengths_ite, ite_self, implies_true, State.modPort_lengths, State.sendSpi_lengths, State.noticeCan_lengths, State.sendRing_lengths]; done) | (simp only [lengths_ite, ite_self, implies_true, State.modPort_lengths, State.sendSpi_lengths, State.noticeCan_lengths, State.sendRing_lengths]; split) | split | (simp only [lengths_ite, ite_self, implies_true, State.modPort_lengths, State.sendSpi_lengths, State.noticeCan_lengths, State.sendRing_lengths]; with_reducible refine (lengths_foldl _ _ _ fun x a => ?_).trans ?_) | with_reducible refine (lengths_foldl _ _ _ fun x a => ?_).trans ?_)

theorem State.relayUp_lengths (x0 : State) (x1) (x2) : (State.relayUp x0 x1 x2).lengths = x0.lengths := by
  unfold State.relayUp
  repeat' (first | (simp only [lengths_ite, ite_self, implies_true, lengths_foldl, State.modPort_lengths, State.sendReply_lengths, State.sendSpi_lengths, State.noticeCan_lengths, len_25]; done) | (simp only [lengths_ite, ite_self, implies_true, lengths_foldl, State.modPort_lengths, State.sendReply_lengths, State.sendSpi_lengths, State.noticeCan_lengths, len_25]; split) | split | (simp only [lengths_ite, ite_self, implies_true, lengths_foldl, State.modPort_lengths, State.sendReply_lengths, State.sendSpi_lengths, State.noticeCan_lengths, len_25]; with_reducible refine (lengths_foldl _ _ _ fun x a => ?_).trans ?_) | with_reducible refine (lengths_foldl _ _ _ fun x a => ?_).trans ?_)

theorem execStrobeDelayMeasure_lengths (x0) (x1 : State) : (outState x1 (execStrobeDelayMeasure x0 x1)).lengths = x1.lengths := by
  unfold execStrobeDelayMeasure
  simp only [lengths_ite, ite_self, implies_true, out_ite, out_next, out_fault, lengths_foldl, State.measureDelay_lengths]

theorem State.commitProtection_lengths (x0 : State) : (State.commitProtection x0).lengths = x0.lengths :=
  lengths_of_hide (State.commitProtection_hide 1125894466690609 rfl x0)

theorem execCurrentRecordMissing_lengths (x0) (x1) (x2 : State) : (outState x2 (execCurrentRecordMissing x0 x1 x2)).lengths = x2.lengths := by
  unfold execCurrentRecordMissing
  simp only [lengths_ite, ite_self, out_ite, out_next, out_fault, State.recordMissing_lengths]

theorem State.commitEntry_lengths (x0 : State) : (State.commitEntry x0).lengths = x0.lengths := by
  unfold State.commitEntry
  simp only [lengths_ite, ite_self, State.endSweep_lengths, State.balDrain_lengths, State.stopWatch_lengths, len_29]

theorem execFaultLineLow_lengths (x0 : State) : (outState x0 (execFaultLineLow x0)).lengths = x0.lengths := by
  unfold execFaultLineLow
  simp only [out_next, State.convStop_lengths, len_21_23]

theorem execEisResumeTimeout_lengths (x0 : State) : (outState x0 (execEisResumeTimeout x0)).lengths = x0.lengths :=
  lengths_of_hide (execEisResumeTimeout_hide 1125894466690609 rfl x0)

theorem State.sendNotice_lengths (x0 : State) (x1) : (State.sendNotice x0 x1).lengths = x0.lengths := by
  unfold State.sendNotice
  simp only [implies_true, lengths_foldl, State.noticeOn_lengths]

theorem opRingEnumerate_lengths (x0) (x1) (x2 : State) : (opRingEnumerate x0 x1 x2).s.lengths = x2.lengths :=
  lengths_of_hide (opRingEnumerate_hide 1125894466690609 rfl x0 x1 x2)

theorem State.takePhaseSet_lengths (x0 : State) : (State.takePhaseSet x0).lengths = x0.lengths := by
  unfold State.takePhaseSet
  repeat' (first | (simp only [lengths_ite, ite_self, implies_true, setAt, List.length_map, List.length_modify, List.length_zipIdx, List.length_range, State.fullSet_lengths, State.modPhase_lengths, State.addPhases_lengths, len_22, len_23, len_22_23]; done) | (simp only [lengths_ite, ite_self, implies_true, setAt, List.length_map, List.length_modify, List.length_zipIdx, List.length_range, State.fullSet_lengths, State.modPhase_lengths, State.addPhases_lengths, len_22, len_23, len_22_23]; split) | split | (simp only [lengths_ite, ite_self, implies_true, setAt, List.length_map, List.length_modify, List.length_zipIdx, List.length_range, State.fullSet_lengths, State.modPhase_lengths, State.addPhases_lengths, len_22, len_23, len_22_23]; with_reducible refine (lengths_foldl _ _ _ fun x a => ?_).trans ?_) | with_reducible refine (lengths_foldl _ _ _ fun x a => ?_).trans ?_)

theorem State.protRelay_lengths (x0 : State) (x1) : (State.protRelay x0 x1).lengths = x0.lengths := by
  unfold State.protRelay
  simp only [lengths_ite, ite_self, implies_true, lengths_foldl, State.draw_lengths, State.sendNotice_lengths, len_25]

theorem State.sendRecord_lengths (x0 : State) : (State.sendRecord x0).lengths = x0.lengths := by
  unfold State.sendRecord
  simp only [State.takeRecord_lengths, State.prechargeFrame_lengths, len_25]

theorem State.driveContactors_lengths (x0 : State) (x1) : (State.driveContactors x0 x1).lengths = x0.lengths :=
  lengths_of_hide (State.driveContactors_hide 1125894466690609 rfl x0 x1)

theorem State.wakeBy_lengths (x0 : State) (x1) (x2) : (State.wakeBy x0 x1 x2).lengths = x0.lengths := by
  unfold State.wakeBy
  repeat' (first | (simp only [lengths_ite, ite_self, implies_true, State.elapse_lengths, State.startReturn_lengths, State.endHandshake_lengths, State.recordWake_lengths, State.endRequest_lengths, len_29]; done) | (simp only [lengths_ite, ite_self, implies_true, State.elapse_lengths, State.startReturn_lengths, State.endHandshake_lengths, State.recordWake_lengths, State.endRequest_lengths, len_29]; split) | split | (simp only [lengths_ite, ite_self, implies_true, State.elapse_lengths, State.startReturn_lengths, State.endHandshake_lengths, State.recordWake_lengths, State.endRequest_lengths, len_29]; with_reducible refine (lengths_foldl _ _ _ fun x a => ?_).trans ?_) | with_reducible refine (lengths_foldl _ _ _ fun x a => ?_).trans ?_)

theorem State.badPacket_lengths (x0 : State) (x1) (x2) : (State.badPacket x0 x1 x2).lengths = x0.lengths := by
  unfold State.badPacket
  simp only [lengths_ite, ite_self, State.startRelink_lengths, State.modFe_lengths]

theorem execKPreOff_lengths (x0 : State) : (outState x0 (execKPreOff x0)).lengths = x0.lengths :=
  lengths_of_hide (execKPreOff_hide 1125894466690609 rfl x0)

theorem execSampleStrobe_lengths (x0) (x1 : State) : (outState x1 (execSampleStrobe x0 x1)).lengths = x1.lengths := by
  unfold execSampleStrobe
  simp only [lengths_ite, ite_self, out_ite, out_next, out_fault, State.strobe_lengths]

theorem State.notify_lengths (x0 : State) (x1) (x2) : (State.notify x0 x1 x2).lengths = x0.lengths := by
  unfold State.notify
  simp only [lengths_ite, ite_self, State.sendNotice_lengths, len_31]

theorem State.portsUp_lengths (x0 : State) : (State.portsUp x0).lengths = x0.lengths := by
  unfold State.portsUp
  simp only [lengths_ite, ite_self, implies_true, lengths_foldl, State.drawDelay_lengths, State.modFe_lengths, State.linksUp_lengths, len_5]

theorem State.startOutput_lengths (x0 : State) : (State.startOutput x0).lengths = x0.lengths := by
  unfold State.startOutput
  simp only [lengths_ite, ite_self, State.beginSoftStart_lengths, len_23]

theorem State.healthCell_lengths (x0 : State) (x1) : (State.healthCell x0 x1).lengths = x0.lengths := by
  unfold State.healthCell
  simp only [lengths_ite, ite_self, State.notify_lengths, State.modEst_lengths]

theorem State.flushNotices_lengths (x0 : State) : (State.flushNotices x0).lengths = x0.lengths := by
  unfold State.flushNotices
  simp only [implies_true, lengths_foldl, State.sendNotice_lengths, len_31]

theorem State.answer_lengths (x0 : State) (x1) (x2) : (State.answer x0 x1 x2).lengths = x0.lengths := by
  unfold State.answer
  simp only [lengths_ite, ite_self, State.sendReply_lengths]

theorem execFeLinkFault_lengths (x0) (x1 : State) : (outState x1 (execFeLinkFault x0 x1)).lengths = x1.lengths :=
  lengths_of_hide (execFeLinkFault_hide 1125894466690609 rfl x0 x1)

theorem execWakeDwellExpire_lengths (x0 : State) : (outState x0 (execWakeDwellExpire x0)).lengths = x0.lengths := by
  unfold execWakeDwellExpire
  simp only [lengths_ite, ite_self, out_next, State.elapse_lengths, State.startReturn_lengths, len_29]

theorem State.absorb_lengths (x0 : State) (x1) (x2) (x3) (x4) (x5) : (State.absorb x0 x1 x2 x3 x4 x5).lengths = x0.lengths := by
  unfold State.absorb
  simp only [lengths_ite, ite_self, State.notify_lengths, len_27]

theorem execPwmPeriodStart_lengths (x0) (x1) (x2) (x3) (x4 : State) : (outState x4 (execPwmPeriodStart x0 x1 x2 x3 x4)).lengths = x4.lengths := by
  unfold execPwmPeriodStart
  simp only [lengths_ite, ite_self, out_ite, out_next, out_fault, State.periodStart_lengths]

theorem State.strapCheck_lengths (x0 : State) (x1) : (State.strapCheck x0 x1).lengths = x0.lengths := by
  unfold State.strapCheck
  repeat' (first | (simp only [lengths_ite, ite_self, implies_true, lengths_foldl, State.absorb_lengths, State.modFe_lengths]; done) | (simp only [lengths_ite, ite_self, implies_true, lengths_foldl, State.absorb_lengths, State.modFe_lengths]; split) | split | (simp only [lengths_ite, ite_self, implies_true, lengths_foldl, State.absorb_lengths, State.modFe_lengths]; with_reducible refine (lengths_foldl _ _ _ fun x a => ?_).trans ?_) | with_reducible refine (lengths_foldl _ _ _ fun x a => ?_).trans ?_)

theorem State.checkBusRange_lengths (x0 : State) : (State.checkBusRange x0).lengths = x0.lengths := by
  unfold State.checkBusRange
  simp only [lengths_ite, ite_self, State.convStop_lengths, len_23]

theorem State.beginDrain_lengths (x0 : State) (x1) (x2) : (State.beginDrain x0 x1 x2).lengths = x0.lengths := by
  unfold State.beginDrain
  simp only [lengths_ite, ite_self, State.gatesOff_lengths, State.addPhases_lengths, len_23]

theorem execHeaderMiss_lengths (x0) (x1) (x2 : State) : (outState x2 (execHeaderMiss x0 x1 x2)).lengths = x2.lengths :=
  lengths_of_hide (execHeaderMiss_hide 1125894466690609 rfl x0 x1 x2)

theorem State.checkOwner_lengths (x0 : State) : (State.checkOwner x0).lengths = x0.lengths := by
  unfold State.checkOwner
  simp only [lengths_ite, ite_self, State.beginDrain_lengths, State.convCapture_lengths, len_23]

theorem State.tapOpens_lengths (x0 : State) (x1) : (State.tapOpens x0 x1).lengths = x0.lengths := by
  unfold State.tapOpens
  simp only [implies_true, lengths_foldl, State.absorb_lengths, State.modChan_lengths, State.owOpenCause_lengths, State.modTap_lengths]

theorem State.resolveQueue_lengths (x0 : State) : (State.resolveQueue x0).lengths = x0.lengths :=
  lengths_of_hide (State.resolveQueue_hide 1125894466690609 rfl x0)

theorem State.tapCloses_lengths (x0 : State) (x1) : (State.tapCloses x0 x1).lengths = x0.lengths := by
  unfold State.tapCloses
  simp only [State.absorb_lengths, State.owOpenCause_lengths, State.modTap_lengths]

theorem State.takeOver_lengths (x0 : State) (x1) (x2) (x3) : (State.takeOver x0 x1 x2 x3).lengths = x0.lengths := by
  unfold State.takeOver
  simp only [State.notify_lengths, State.modPan_lengths, State.modSlot_lengths, State.toPool_lengths]

theorem execHiccupRetry_lengths (x0 : State) : (outState x0 (execHiccupRetry x0)).lengths = x0.lengths := by
  unfold execHiccupRetry
  simp only [lengths_ite, ite_self, out_next, State.beginSoftStart_lengths, len_23_24]

theorem execStartTimeout_lengths (x0 : State) : (outState x0 (execStartTimeout x0)).lengths = x0.lengths := by
  unfold execStartTimeout
  simp only [lengths_ite, ite_self, out_next, State.convStop_lengths, len_23]

theorem execSpiCsRise_lengths (x0 : State) : (outState x0 (execSpiCsRise x0)).lengths = x0.lengths :=
  lengths_of_hide (execSpiCsRise_hide 1125894466690609 rfl x0)

theorem State.commitOne_lengths (x0 : State) (x1) (x2) : (State.commitOne x0 x1 x2).lengths = x0.lengths :=
  lengths_of_hide (State.commitOne_hide 1125894466690609 rfl x0 x1 x2)

theorem execDiagDieTemp_lengths (x0) (x1) (x2 : State) : (outState x2 (execDiagDieTemp x0 x1 x2)).lengths = x2.lengths := by
  unfold execDiagDieTemp
  repeat' (first | (simp only [lengths_ite, ite_self, implies_true, out_ite, out_next, out_fault, State.startConversion_lengths, State.answer_lengths, State.sendReply_lengths, len_31]; done) | (simp only [lengths_ite, ite_self, implies_true, out_ite, out_next, out_fault, State.startConversion_lengths, State.answer_lengths, State.sendReply_lengths, len_31]; split) | split | (simp only [lengths_ite, ite_self, implies_true, out_ite, out_next, out_fault, State.startConversion_lengths, State.answer_lengths, State.sendReply_lengths, len_31]; with_reducible refine (lengths_foldl _ _ _ fun x a => ?_).trans ?_) | with_reducible refine (lengths_foldl _ _ _ fun x a => ?_).trans ?_)

theorem State.notifyTamper_lengths (x0 : State) (x1) : (State.notifyTamper x0 x1).lengths = x0.lengths := by
  unfold State.notifyTamper
  repeat' (first | (simp only [lengths_ite, ite_self, implies_true, State.sendNotice_lengths, len_34]; done) | (simp only [lengths_ite, ite_self, implies_true, State.sendNotice_lengths, len_34]; split) | split | (simp only [lengths_ite, ite_self, implies_true, State.sendNotice_lengths, len_34]; with_reducible refine (lengths_foldl _ _ _ fun x a => ?_).trans ?_) | with_reducible refine (lengths_foldl _ _ _ fun x a => ?_).trans ?_)

theorem State.startSafe_lengths (x0 : State) (x1) (x2) : (State.startSafe x0 x1 x2).lengths = x0.lengths := by
  unfold State.startSafe
  simp only [lengths_ite, ite_self, State.safeStep_lengths, State.convStopWith_lengths, len_24]

theorem State.anchor_lengths (x0 : State) (x1) (x2) : (State.anchor x0 x1 x2).lengths = x0.lengths := by
  unfold State.anchor
  simp only [lengths_ite, ite_self, implies_true, lengths_foldl, State.anchorCell_lengths, State.setCounting_lengths, len_14]

theorem execGovernorDecision_lengths (x0 : State) : (outState x0 (execGovernorDecision x0)).lengths = x0.lengths :=
  lengths_of_hide (execGovernorDecision_hide 1125894466690609 rfl x0)

theorem State.writeSeal_lengths (x0 : State) : (State.writeSeal x0).lengths = x0.lengths := by
  unfold State.writeSeal
  repeat' (first | (simp only [lengths_ite, ite_self, implies_true, State.absorb_lengths, State.nvmAsk_lengths, len_34]; done) | (simp only [lengths_ite, ite_self, implies_true, State.absorb_lengths, State.nvmAsk_lengths, len_34]; split) | split | (simp only [lengths_ite, ite_self, implies_true, State.absorb_lengths, State.nvmAsk_lengths, len_34]; with_reducible refine (lengths_foldl _ _ _ fun x a => ?_).trans ?_) | with_reducible refine (lengths_foldl _ _ _ fun x a => ?_).trans ?_)

theorem execCanBusOff_lengths (x0) (x1 : State) : (outState x1 (execCanBusOff x0 x1)).lengths = x1.lengths := by
  unfold execCanBusOff
  simp only [out_next, State.canBusOff_lengths]

theorem State.declare_lengths (x0 : State) : (State.declare x0).lengths = x0.lengths := by
  unfold State.declare
  simp only [State.startSafe_lengths, State.convCapture_lengths, len_24]

theorem State.discardSample_lengths (x0 : State) (x1) : (State.discardSample x0 x1).lengths = x0.lengths := by
  unfold State.discardSample
  repeat' (first | (simp only [lengths_ite, ite_self, implies_true, setAt, List.length_map, List.length_modify, List.length_zipIdx, List.length_range, State.absorb_lengths, len_1_2_5_11]; done) | (simp only [lengths_ite, ite_self, implies_true, setAt, List.length_map, List.length_modify, List.length_zipIdx, List.length_range, State.absorb_lengths, len_1_2_5_11]; split) | split | (simp only [lengths_ite, ite_self, implies_true, setAt, List.length_map, List.length_modify, List.length_zipIdx, List.length_range, State.absorb_lengths, len_1_2_5_11]; with_reducible refine (lengths_foldl _ _ _ fun x a => ?_).trans ?_) | with_reducible refine (lengths_foldl _ _ _ fun x a => ?_).trans ?_)

theorem State.positionStep_lengths (x0 : State) (x1) (x2) (x3) : (State.positionStep x0 x1 x2 x3).lengths = x0.lengths := by
  unfold State.positionStep
  simp only [lengths_ite, ite_self, State.absorb_lengths, len_25]

theorem State.cfeReport_lengths (x0 : State) (x1) : (State.cfeReport x0 x1).lengths = x0.lengths := by
  unfold State.cfeReport
  simp only [lengths_ite, ite_self, State.absorb_lengths, State.withdrawCause_lengths, len_5]

theorem State.supervise_lengths (x0 : State) : (State.supervise x0).lengths = x0.lengths := by
  unfold State.supervise
  simp only [State.single35_lengths, len_24]

theorem execZeroTrackComplete_lengths (x0 : State) : (outState x0 (execZeroTrackComplete x0)).lengths = x0.lengths := by
  unfold execZeroTrackComplete
  simp only [lengths_ite, ite_self, out_next, State.absorb_lengths, len_5]

theorem State.restRequest_lengths (x0 : State) : (State.restRequest x0).lengths = x0.lengths := by
  unfold State.restRequest
  repeat' (first | (simp only [lengths_ite, ite_self, implies_true, lengths_foldl, State.notify_lengths, State.draw_lengths, len_15]; done) | (simp only [lengths_ite, ite_self, implies_true, lengths_foldl, State.notify_lengths, State.draw_lengths, len_15]; split) | split | (simp only [lengths_ite, ite_self, implies_true, lengths_foldl, State.notify_lengths, State.draw_lengths, len_15]; with_reducible refine (lengths_foldl _ _ _ fun x a => ?_).trans ?_) | with_reducible refine (lengths_foldl _ _ _ fun x a => ?_).trans ?_)

theorem State.scaleCell_lengths (x0 : State) (x1) : (State.scaleCell x0 x1).lengths = x0.lengths := by
  unfold State.scaleCell
  repeat' (first | (simp only [lengths_ite, ite_self, implies_true, State.absorb_lengths, State.modChan_lengths]; done) | (simp only [lengths_ite, ite_self, implies_true, State.absorb_lengths, State.modChan_lengths]; split) | split | (simp only [lengths_ite, ite_self, implies_true, State.absorb_lengths, State.modChan_lengths]; with_reducible refine (lengths_foldl _ _ _ fun x a => ?_).trans ?_) | with_reducible refine (lengths_foldl _ _ _ fun x a => ?_).trans ?_)

theorem State.receive_lengths (x0 : State) (x1) (x2) (x3) : (State.receive x0 x1 x2 x3).lengths = x0.lengths := by
  unfold State.receive
  repeat' (first | (simp only [lengths_ite, ite_self, implies_true, State.receiptReply_lengths, State.forward_lengths, State.accept_lengths]; done) | (simp only [lengths_ite, ite_self, implies_true, State.receiptReply_lengths, State.forward_lengths, State.accept_lengths]; split) | split | (simp only [lengths_ite, ite_self, implies_true, State.receiptReply_lengths, State.forward_lengths, State.accept_lengths]; with_reducible refine (lengths_foldl _ _ _ fun x a => ?_).trans ?_) | with_reducible refine (lengths_foldl _ _ _ fun x a => ?_).trans ?_)

theorem State.crossJob_lengths (x0 : State) : (State.crossJob x0).lengths = x0.lengths :=
  lengths_of_hide (State.crossJob_hide 1125894466690609 rfl x0)

theorem State.laneAbsorb_lengths (x0 : State) (x1) (x2) (x3) : (State.laneAbsorb x0 x1 x2 x3).lengths = x0.lengths := by
  unfold State.laneAbsorb
  simp only [State.absorb_lengths, State.modLane_lengths]

theorem State.outerLaw_lengths (x0 : State) (x1) (x2) (x3) (x4) : (State.outerLaw x0 x1 x2 x3 x4).lengths = x0.lengths := by
  unfold State.outerLaw
  repeat' (first | (simp only [lengths_ite, ite_self, implies_true, State.single_lengths, State.notch_lengths, State.singleKeep_lengths, len_24, len_23_24]; done) | (simp only [lengths_ite, ite_self, implies_true, State.single_lengths, State.notch_lengths, State.singleKeep_lengths, len_24, len_23_24]; split) | split | (simp only [lengths_ite, ite_self, implies_true, State.single_lengths, State.notch_lengths, State.singleKeep_lengths, len_24, len_23_24]; with_reducible refine (lengths_foldl _ _ _ fun x a => ?_).trans ?_) | with_reducible refine (lengths_foldl _ _ _ fun x a => ?_).trans ?_)

theorem execLoopFault_lengths (x0) (x1 : State) : (outState x1 (execLoopFault x0 x1)).lengths = x1.lengths := by
  unfold execLoopFault
  simp only [lengths_ite, ite_self, out_ite, out_next, out_fault, State.convStop_lengths]

theorem State.writeTamper_lengths (x0 : State) (x1) : (State.writeTamper x0 x1).lengths = x0.lengths := by
  unfold State.writeTamper
  simp only [lengths_ite, ite_self, State.absorb_lengths, State.record_lengths]

theorem State.loseLaneData_lengths (x0 : State) : (State.loseLaneData x0).lengths = x0.lengths := by
  unfold State.loseLaneData
  simp only [List.length_map, State.convOff_lengths, State.loseLanes_lengths, len_0_1_10_11_12_19_23_25_30_31_32_33_34]

theorem State.ringRecord_lengths (x0 : State) (x1) : (State.ringRecord x0 x1).lengths = x0.lengths := by
  unfold State.ringRecord
  simp only [lengths_ite, ite_self, State.takeRecord_lengths, State.prechargeFrame_lengths]

theorem execAuxOkSet_lengths (x0 : State) : (outState x0 (execAuxOkSet x0)).lengths = x0.lengths := by
  unfold execAuxOkSet
  simp only [lengths_ite, ite_self, out_next, State.wakeBy_lengths, len_29]

theorem State.evalThermal_lengths (x0 : State) : (State.evalThermal x0).lengths = x0.lengths := by
  unfold State.evalThermal
  simp only [lengths_ite, ite_self, State.notify_lengths, len_12]

theorem State.thermoEst_lengths (x0 : State) (x1) (x2) : (State.thermoEst x0 x1 x2).lengths = x0.lengths := by
  unfold State.thermoEst
  repeat' (first | (simp only [lengths_ite, ite_self, implies_true, State.absorb_lengths, State.modThermo_lengths]; done) | (simp only [lengths_ite, ite_self, implies_true, State.absorb_lengths, State.modThermo_lengths]; split) | split | (simp only [lengths_ite, ite_self, implies_true, State.absorb_lengths, State.modThermo_lengths]; with_reducible refine (lengths_foldl _ _ _ fun x a => ?_).trans ?_) | with_reducible refine (lengths_foldl _ _ _ fun x a => ?_).trans ?_)

theorem execColdStart_lengths (x0 : Nat) (x1 : Bool) (x2 : State) (h : x2.lengths = State.reset.lengths) :
    (outState x2 (execColdStart x0 x1 x2)).lengths = State.reset.lengths := by
  unfold execColdStart
  simp only [out_ite, out_next, out_fault, lengths_ite, len_29, State.coldReturn_lengths, State.coldBase_lengths x2 x0 h, h, ite_self]

theorem State.cellCause_lengths (x0 : State) (x1) (x2) (x3) (x4) : (State.cellCause x0 x1 x2 x3 x4).lengths = x0.lengths :=
  lengths_of_hide (State.cellCause_hide 1125894466690609 rfl x0 x1 x2 x3 x4)

theorem State.runLaw_lengths (x0 : State) : (State.runLaw x0).lengths = x0.lengths := by
  unfold State.runLaw
  simp only [lengths_ite, ite_self, State.outerLaw_lengths, State.changeMode_lengths, State.peakLaw_lengths, len_23_24]

theorem State.leaveProtOnly_lengths (x0 : State) : (State.leaveProtOnly x0).lengths = x0.lengths := by
  unfold State.leaveProtOnly
  simp only [lengths_ite, ite_self, State.loadConfig_lengths, State.absorb_lengths, State.withdrawCause_lengths, State.requestContactors_lengths, State.convOff_lengths, State.freshLane_lengths, State.driveContactors_lengths, len_27_29]

theorem State.journal_lengths (x0 : State) (x1) (x2) (x3) (x4) (x5) : (State.journal x0 x1 x2 x3 x4 x5).lengths = x0.lengths :=
  lengths_of_hide (State.journal_hide 1125894466690609 rfl x0 x1 x2 x3 x4 x5)

theorem State.complete_lengths (x0 : State) (x1) (x2) (x3) (x4) (x5) (x6) : (State.complete x0 x1 x2 x3 x4 x5 x6).lengths = x0.lengths := by
  unfold State.complete
  simp only [State.notify_lengths, len_31]

theorem execEisBlockEnd_lengths (x0 : State) : (outState x0 (execEisBlockEnd x0)).lengths = x0.lengths :=
  lengths_of_hide (execEisBlockEnd_hide 1125894466690609 rfl x0)

theorem execDrainTimeout_lengths (x0 : State) : (outState x0 (execDrainTimeout x0)).lengths = x0.lengths := by
  unfold execDrainTimeout
  simp only [lengths_ite, ite_self, out_next, State.convStop_lengths]

theorem State.applyOutputs_lengths (x0 : State) : (State.applyOutputs x0).lengths = x0.lengths := by
  unfold State.applyOutputs
  simp only [lengths_ite, ite_self, State.beginDrain_lengths, State.driveContactors_lengths, len_23_24]

theorem State.notifySafety_lengths (x0 : State) : (State.notifySafety x0).lengths = x0.lengths := by
  unfold State.notifySafety
  simp only [State.notify_lengths]

theorem execTableBlockCheck_lengths (x0) (x1) (x2 : State) : (outState x2 (execTableBlockCheck x0 x1 x2)).lengths = x2.lengths := by
  unfold execTableBlockCheck
  simp only [lengths_ite, ite_self, out_next, State.notify_lengths, State.absorb_lengths, State.modLane_lengths, len_19]

theorem opConvSetpoint_lengths (x0) (x1) (x2 : State) : (opConvSetpoint x0 x1 x2).s.lengths = x2.lengths :=
  lengths_of_hide (opConvSetpoint_hide 1125894466690609 rfl x0 x1 x2)

theorem State.drainEnds_lengths (x0 : State) : (State.drainEnds x0).lengths = x0.lengths := by
  unfold State.drainEnds
  repeat' (first | (simp only [lengths_ite, ite_self, implies_true, State.complete_lengths, State.feedResults_lengths, len_16]; done) | (simp only [lengths_ite, ite_self, implies_true, State.complete_lengths, State.feedResults_lengths, len_16]; split) | split | (simp only [lengths_ite, ite_self, implies_true, State.complete_lengths, State.feedResults_lengths, len_16]; with_reducible refine (lengths_foldl _ _ _ fun x a => ?_).trans ?_) | with_reducible refine (lengths_foldl _ _ _ fun x a => ?_).trans ?_)

theorem State.checkIlim_lengths (x0 : State) : (State.checkIlim x0).lengths = x0.lengths := by
  unfold State.checkIlim
  simp only [lengths_ite, ite_self, implies_true, lengths_foldl, State.absorb_lengths, len_20]

theorem State.canError_lengths (x0 : State) (x1) (x2) : (State.canError x0 x1 x2).lengths = x0.lengths := by
  unfold State.canError
  simp only [lengths_ite, ite_self, State.modCan_lengths, State.settleBus_lengths]

theorem opEisAbort_lengths (x0) (x1) (x2 : State) : (opEisAbort x0 x1 x2).s.lengths = x2.lengths :=
  lengths_of_hide (opEisAbort_hide 1125894466690609 rfl x0 x1 x2)

theorem State.spiIn_lengths (x0 : State) (x1) (x2) : (State.spiIn x0 x1 x2).lengths = x0.lengths := by
  unfold State.spiIn
  simp only [lengths_ite, ite_self, State.receive_lengths, State.spiDiscard_lengths, len_33]

theorem execOvercurrentTrip_lengths (x0) (x1 : State) : (outState x1 (execOvercurrentTrip x0 x1)).lengths = x1.lengths := by
  unfold execOvercurrentTrip
  simp only [lengths_ite, ite_self, out_next, State.setCause_lengths, State.convStop_lengths, len_5_21]

theorem State.trip_lengths (x0 : State) (x1) : (State.trip x0 x1).lengths = x0.lengths := by
  unfold State.trip
  repeat' (first | (simp only [lengths_ite, ite_self, implies_true, State.notifySafety_lengths, State.convStop_lengths, len_28, len_0_28]; done) | (simp only [lengths_ite, ite_self, implies_true, State.notifySafety_lengths, State.convStop_lengths, len_28, len_0_28]; split) | split | (simp only [lengths_ite, ite_self, implies_true, State.notifySafety_lengths, State.convStop_lengths, len_28, len_0_28]; with_reducible refine (lengths_foldl _ _ _ fun x a => ?_).trans ?_) | with_reducible refine (lengths_foldl _ _ _ fun x a => ?_).trans ?_)

theorem execTestOutputDrop_lengths (x0) (x1) (x2 : State) : (outState x2 (execTestOutputDrop x0 x1 x2)).lengths = x2.lengths := by
  unfold execTestOutputDrop
  simp only [lengths_ite, ite_self, out_next, State.trip_lengths, State.modSafe_lengths]

theorem State.protNotice_lengths (x0 : State) : (State.protNotice x0).lengths = x0.lengths := by
  unfold State.protNotice
  simp only [lengths_ite, ite_self, implies_true, lengths_foldl, State.noticeOn_lengths]

theorem State.loseVolatile_lengths (x0 : State) : (State.loseVolatile x0).lengths = x0.lengths := by
  unfold State.loseVolatile
  simp only [State.losePanData_lengths, State.loseLaneData_lengths, State.initCells_lengths, State.startBist_lengths, len_0_14]

theorem execStackKeepaliveTest_lengths (x0) (x1) (x2 : State) : (outState x2 (execStackKeepaliveTest x0 x1 x2)).lengths = x2.lengths := by
  unfold execStackKeepaliveTest
  simp only [lengths_ite, ite_self, out_ite, out_next, out_fault, State.absorb_lengths, State.modFe_lengths, len_5]

theorem State.endVerify_lengths (x0 : State) (x1) (x2) : (State.endVerify x0 x1 x2).lengths = x0.lengths := by
  unfold State.endVerify
  repeat' (first | (simp only [lengths_ite, ite_self, implies_true, State.complete_lengths, len_34]; done) | (simp only [lengths_ite, ite_self, implies_true, State.complete_lengths, len_34]; split) | split | (simp only [lengths_ite, ite_self, implies_true, State.complete_lengths, len_34]; with_reducible refine (lengths_foldl _ _ _ fun x a => ?_).trans ?_) | with_reducible refine (lengths_foldl _ _ _ fun x a => ?_).trans ?_)

theorem State.noteStatus_lengths (x0 : State) (x1) (x2) : (State.noteStatus x0 x1 x2).lengths = x0.lengths := by
  unfold State.noteStatus
  simp only [lengths_ite, ite_self, State.absorb_lengths, State.modFe_lengths, len_12]

theorem State.threshJob_lengths (x0 : State) : (State.threshJob x0).lengths = x0.lengths := by
  unfold State.threshJob
  simp only [lengths_ite, ite_self, State.absorb_lengths, State.setCause_lengths, len_21]

theorem execFeSupplyChangeover_lengths (x0) (x1 : State) : (outState x1 (execFeSupplyChangeover x0 x1)).lengths = x1.lengths := by
  unfold execFeSupplyChangeover
  simp only [lengths_ite, ite_self, out_ite, out_next, out_fault, State.absorb_lengths, State.modFe_lengths, len_5]

theorem State.strapJob_lengths (x0 : State) : (State.strapJob x0).lengths = x0.lengths := by
  unfold State.strapJob
  simp only [lengths_ite, ite_self, implies_true, lengths_foldl, State.strapCheck_lengths]

theorem execOutputTestDrop_lengths (x0) (x1) (x2 : State) : (outState x2 (execOutputTestDrop x0 x1 x2)).lengths = x2.lengths := by
  unfold execOutputTestDrop
  simp only [lengths_ite, ite_self, out_ite, out_next, out_fault, State.trip_lengths, len_28]

theorem State.thermoJob_lengths (x0 : State) : (State.thermoJob x0).lengths = x0.lengths := by
  unfold State.thermoJob
  simp only [implies_true, lengths_foldl, State.thermoEst_lengths, len_16]

theorem execScheduleFault_lengths (x0 : State) : (outState x0 (execScheduleFault x0)).lengths = x0.lengths := by
  unfold execScheduleFault
  simp only [lengths_ite, ite_self, out_next, State.absorb_lengths, len_11]

theorem execWakeConfirmed_lengths (x0) (x1) (x2 : State) : (outState x2 (execWakeConfirmed x0 x1 x2)).lengths = x2.lengths := by
  unfold execWakeConfirmed
  simp only [lengths_ite, ite_self, out_ite, out_next, out_fault, State.recordWake_lengths, State.wakeBy_lengths, len_29]

theorem State.checkSpares_lengths (x0 : State) : (State.checkSpares x0).lengths = x0.lengths := by
  unfold State.checkSpares
  simp only [lengths_ite, ite_self, State.notify_lengths, len_9]

theorem State.newKeys_lengths (x0 : State) (x1) : (State.newKeys x0 x1).lengths = x0.lengths := by
  unfold State.newKeys
  simp only [State.journal_lengths, State.complete_lengths, len_34]

theorem State.messageRx_lengths (x0 : State) (x1) (x2) : (State.messageRx x0 x1 x2).lengths = x0.lengths := by
  unfold State.messageRx
  repeat' (first | (simp only [lengths_ite, ite_self, implies_true, State.takeSummary_lengths, State.receive_lengths, State.relayUp_lengths, State.takeStatus_lengths, len_25]; done) | (simp only [lengths_ite, ite_self, implies_true, State.takeSummary_lengths, State.receive_lengths, State.relayUp_lengths, State.takeStatus_lengths, len_25]; split) | split | (simp only [lengths_ite, ite_self, implies_true, State.takeSummary_lengths, State.receive_lengths, State.relayUp_lengths, State.takeStatus_lengths, len_25]; with_reducible refine (lengths_foldl _ _ _ fun x a => ?_).trans ?_) | with_reducible refine (lengths_foldl _ _ _ fun x a => ?_).trans ?_)

theorem State.enterProtOnly_lengths (x0 : State) (x1) (x2) : (State.enterProtOnly x0 x1 x2).lengths = x0.lengths := by
  unfold State.enterProtOnly
  simp only [State.protNotice_lengths, State.setCause_lengths, State.releaseToken_lengths, len_12_24_27]

theorem State.retirePan_lengths (x0 : State) (x1) (x2) : (State.retirePan x0 x1 x2).lengths = x0.lengths := by
  unfold State.retirePan
  simp only [State.absorb_lengths, State.modPan_lengths]

theorem State.acceptBlock_lengths (x0 : State) (x1) (x2) (x3) (x4) (x5) : (State.acceptBlock x0 x1 x2 x3 x4 x5).lengths = x0.lengths := by
  unfold State.acceptBlock
  simp only [implies_true, lengths_foldl, State.modStaged_lengths, State.complete_lengths, State.nvmAsk_lengths, len_19]

theorem State.relinkEnd_lengths (x0 : State) (x1) (x2) : (State.relinkEnd x0 x1 x2).lengths = x0.lengths := by
  unfold State.relinkEnd
  repeat' (first | (simp only [lengths_ite, ite_self, implies_true, State.notify_lengths, State.absorb_lengths, State.modFe_lengths, State.linksUp_lengths]; done) | (simp only [lengths_ite, ite_self, implies_true, State.notify_lengths, State.absorb_lengths, State.modFe_lengths, State.linksUp_lengths]; split) | split | (simp only [lengths_ite, ite_self, implies_true, State.notify_lengths, State.absorb_lengths, State.modFe_lengths, State.linksUp_lengths]; with_reducible refine (lengths_foldl _ _ _ fun x a => ?_).trans ?_) | with_reducible refine (lengths_foldl _ _ _ fun x a => ?_).trans ?_)

theorem State.finish_lengths (s : State) (op : Byte) (h : Hdr) (p : List Byte) (a : Ans)
    (ha : a.s.lengths = s.lengths) : (s.finish op h p a).lengths = s.lengths := by
  unfold State.finish
  simp only [State.answer_lengths, State.noteExecuted_lengths, State.settle_lengths s h.port a ha]

theorem State.blockStored_lengths (x0 : State) (x1) : (State.blockStored x0 x1).lengths = x0.lengths := by
  unfold State.blockStored
  simp only [lengths_ite, ite_self, State.modStaged_lengths, State.complete_lengths, len_19]

theorem execSwapOverdue_lengths (x0 : State) : (outState x0 (execSwapOverdue x0)).lengths = x0.lengths := by
  unfold execSwapOverdue
  simp only [lengths_ite, ite_self, out_next, State.absorb_lengths, len_27]

theorem execSafetyDiscrepancy_lengths (x0) (x1 : State) : (outState x1 (execSafetyDiscrepancy x0 x1)).lengths = x1.lengths := by
  unfold execSafetyDiscrepancy
  simp only [lengths_ite, ite_self, out_next, State.trip_lengths, State.modSafe_lengths]

theorem State.faultPhase_lengths (x0 : State) (x1) (x2) : (State.faultPhase x0 x1 x2).lengths = x0.lengths := by
  unfold State.faultPhase
  simp only [lengths_ite, ite_self, State.absorb_lengths, State.respread_lengths, State.convStop_lengths, State.modPhase_lengths, State.convCapture_lengths, len_23]

theorem State.disarmSafety_lengths (x0 : State) : (State.disarmSafety x0).lengths = x0.lengths := by
  unfold State.disarmSafety
  simp only [State.notifySafety_lengths, State.convStop_lengths, len_28]

theorem State.safetySample_lengths (x0 : State) (x1) : (State.safetySample x0 x1).lengths = x0.lengths := by
  unfold State.safetySample
  simp only [lengths_ite, ite_self, implies_true, lengths_foldl, State.followRequest_lengths, State.trip_lengths, State.disarmSafety_lengths, State.twoHand_lengths, len_28]

theorem execPrechargeTimeout_lengths (x0 : State) : (outState x0 (execPrechargeTimeout x0)).lengths = x0.lengths := by
  unfold execPrechargeTimeout
  simp only [lengths_ite, ite_self, out_next, State.trip_lengths]

theorem State.toService_lengths (x0 : State) (x1) : (State.toService x0 x1).2.lengths = x0.lengths := by
  unfold State.toService
  simp only [lengths_ite, ite_self, snd_ite, State.beginDrain_lengths, State.requestContactors_lengths, State.deferMode_lengths, len_0]

theorem State.applyMove_lengths (x0 : State) (x1) : (State.applyMove x0 x1).lengths = x0.lengths := by
  unfold State.applyMove
  repeat' (first | (simp only [lengths_ite, ite_self, implies_true, State.absorb_lengths, State.restoreRole_lengths, State.toPool_lengths, State.giveRole_lengths, len_9]; done) | (simp only [lengths_ite, ite_self, implies_true, State.absorb_lengths, State.restoreRole_lengths, State.toPool_lengths, State.giveRole_lengths, len_9]; split) | split | (simp only [lengths_ite, ite_self, implies_true, State.absorb_lengths, State.restoreRole_lengths, State.toPool_lengths, State.giveRole_lengths, len_9]; with_reducible refine (lengths_foldl _ _ _ fun x a => ?_).trans ?_) | with_reducible refine (lengths_foldl _ _ _ fun x a => ?_).trans ?_)

theorem State.healthJob_lengths (x0 : State) (x1) : (State.healthJob x0 x1).lengths = x0.lengths := by
  unfold State.healthJob
  simp only [implies_true, lengths_foldl, State.healthCell_lengths]

theorem State.countDrift_lengths (x0 : State) (x1) : (State.countDrift x0 x1).lengths = x0.lengths := by
  unfold State.countDrift
  simp only [State.absorb_lengths]

theorem execPpsLost_lengths (x0 : State) : (outState x0 (execPpsLost x0)).lengths = x0.lengths := by
  unfold execPpsLost
  simp only [lengths_ite, ite_self, out_next, State.absorb_lengths, len_25]

theorem State.badReading_lengths (x0 : State) : (State.badReading x0).lengths = x0.lengths := by
  unfold State.badReading
  simp only [lengths_ite, ite_self, State.absorb_lengths, len_12]

theorem State.noteBreaks_lengths (x0 : State) (x1) (x2) : (State.noteBreaks x0 x1 x2).lengths = x0.lengths := by
  unfold State.noteBreaks
  simp only [lengths_ite, ite_self, implies_true, lengths_foldl, State.notify_lengths, State.absorb_lengths, len_25]

theorem State.balReport_lengths (x0 : State) : (State.balReport x0).lengths = x0.lengths := by
  unfold State.balReport
  repeat' (first | (simp only [lengths_ite, ite_self, implies_true, State.complete_lengths, len_20]; done) | (simp only [lengths_ite, ite_self, implies_true, State.complete_lengths, len_20]; split) | split | (simp only [lengths_ite, ite_self, implies_true, State.complete_lengths, len_20]; with_reducible refine (lengths_foldl _ _ _ fun x a => ?_).trans ?_) | with_reducible refine (lengths_foldl _ _ _ fun x a => ?_).trans ?_)

theorem execAnchorStarved_lengths (x0 : State) : (outState x0 (execAnchorStarved x0)).lengths = x0.lengths := by
  unfold execAnchorStarved
  simp only [lengths_ite, ite_self, out_next, State.absorb_lengths, State.setCounting_lengths, len_14]

theorem State.afterGap_lengths (x0 : State) : (State.afterGap x0).lengths = x0.lengths := by
  unfold State.afterGap
  simp only [lengths_ite, ite_self, List.length_map, State.absorb_lengths, len_5_13]

theorem State.checkVerify_lengths (x0 : State) : (State.checkVerify x0).lengths = x0.lengths := by
  unfold State.checkVerify
  simp only [lengths_ite, ite_self, State.endVerify_lengths]

theorem State.loadSafetySet_lengths (x0 : State) : (State.loadSafetySet x0).lengths = x0.lengths := by
  unfold State.loadSafetySet
  simp only [lengths_ite, ite_self, State.notifySafety_lengths, State.modSafe_lengths, len_28]

theorem State.cfeRelinkEnd_lengths (x0 : State) (x1) : (State.cfeRelinkEnd x0 x1).lengths = x0.lengths := by
  unfold State.cfeRelinkEnd
  repeat' (first | (simp only [lengths_ite, ite_self, implies_true, State.notify_lengths, State.absorb_lengths, len_5]; done) | (simp only [lengths_ite, ite_self, implies_true, State.notify_lengths, State.absorb_lengths, len_5]; split) | split | (simp only [lengths_ite, ite_self, implies_true, State.notify_lengths, State.absorb_lengths, len_5]; with_reducible refine (lengths_foldl _ _ _ fun x a => ?_).trans ?_) | with_reducible refine (lengths_foldl _ _ _ fun x a => ?_).trans ?_)

theorem opFaultClear_lengths (x0) (x1) (x2 : State) : (opFaultClear x0 x1 x2).s.lengths = x2.lengths :=
  lengths_of_hide (opFaultClear_hide 1125894466690609 rfl x0 x1 x2)

theorem execLoopImplausible_lengths (x0 : State) : (outState x0 (execLoopImplausible x0)).lengths = x0.lengths := by
  unfold execLoopImplausible
  simp only [lengths_ite, ite_self, out_next, State.declare_lengths]

theorem execKSupplyLow_lengths (x0 : State) : (outState x0 (execKSupplyLow x0)).lengths = x0.lengths := by
  unfold execKSupplyLow
  simp only [lengths_ite, ite_self, out_next, State.trip_lengths, State.modSafe_lengths]

theorem execRingWakeTone_lengths (x0) (x1 : State) : (outState x1 (execRingWakeTone x0 x1)).lengths = x1.lengths := by
  unfold execRingWakeTone
  simp only [lengths_ite, ite_self, out_next, State.sendTone_lengths, State.wakeBy_lengths]

theorem State.reinit_lengths (x0 : State) (x1) : (State.reinit x0 x1).lengths = x0.lengths := by
  unfold State.reinit
  simp only [State.absorb_lengths, State.modEst_lengths]

theorem State.holdCurrent_lengths (x0 : State) : (State.holdCurrent x0).lengths = x0.lengths := by
  unfold State.holdCurrent
  simp only [lengths_ite, ite_self, State.sendRecord_lengths, len_5]

theorem State.thermalTrip_lengths (x0 : State) (x1) : (State.thermalTrip x0 x1).lengths = x0.lengths := by
  unfold State.thermalTrip
  simp only [State.absorb_lengths, State.modFe_lengths, State.capture_lengths]

theorem execCurrentRecordRx_lengths (x0) (x1 : State) : (outState x1 (execCurrentRecordRx x0 x1)).lengths = x1.lengths := by
  unfold execCurrentRecordRx
  repeat' (first | (simp only [lengths_ite, ite_self, implies_true, out_ite, out_next, out_fault, State.ringRecord_lengths]; done) | (simp only [lengths_ite, ite_self, implies_true, out_ite, out_next, out_fault, State.ringRecord_lengths]; split) | split | (simp only [lengths_ite, ite_self, implies_true, out_ite, out_next, out_fault, State.ringRecord_lengths]; with_reducible refine (lengths_foldl _ _ _ fun x a => ?_).trans ?_) | with_reducible refine (lengths_foldl _ _ _ fun x a => ?_).trans ?_)

theorem opThermoCal_lengths (x0) (x1) (x2 : State) : (opThermoCal x0 x1 x2).s.lengths = x2.lengths := by
  unfold opThermoCal
  simp only [lengths_ite, ite_self, implies_true, ans_ite, fail_s, okAns_s, lengths_foldl, State.stage_lengths, State.journal_lengths, State.calStore_lengths]

theorem State.spiWrite_lengths (x0 : State) (x1) (x2) (x3) : (State.spiWrite x0 x1 x2 x3).lengths = x0.lengths := by
  unfold State.spiWrite
  repeat' (first | (simp only [lengths_ite, ite_self, implies_true, State.spiIn_lengths, State.spiIrqStatus_lengths, len_33]; done) | (simp only [lengths_ite, ite_self, implies_true, State.spiIn_lengths, State.spiIrqStatus_lengths, len_33]; split) | split | (simp only [lengths_ite, ite_self, implies_true, State.spiIn_lengths, State.spiIrqStatus_lengths, len_33]; with_reducible refine (lengths_foldl _ _ _ fun x a => ?_).trans ?_) | with_reducible refine (lengths_foldl _ _ _ fun x a => ?_).trans ?_)

theorem execInrushTrip_lengths (x0 : State) : (outState x0 (execInrushTrip x0)).lengths = x0.lengths := by
  unfold execInrushTrip
  simp only [lengths_ite, ite_self, out_next, State.trip_lengths, len_28]

theorem State.measureStep_lengths (x0 : State) (x1) (x2) (x3) : (State.measureStep x0 x1 x2 x3).lengths = x0.lengths := by
  unfold State.measureStep
  simp only [lengths_ite, ite_self, State.modEst_lengths, State.reinit_lengths]

theorem execRestRequestRepeat_lengths (x0 : State) : (outState x0 (execRestRequestRepeat x0)).lengths = x0.lengths := by
  unfold execRestRequestRepeat
  simp only [lengths_ite, ite_self, out_next, State.restRequest_lengths]

theorem State.retireLane_lengths (x0 : State) (x1) : (State.retireLane x0 x1).lengths = x0.lengths := by
  unfold State.retireLane
  simp only [State.notify_lengths, State.modLane_lengths]

theorem opBalPlan_lengths (x0) (x1) (x2 : State) : (opBalPlan x0 x1 x2).s.lengths = x2.lengths :=
  lengths_of_hide (opBalPlan_hide 1125894466690609 rfl x0 x1 x2)

theorem State.pairPoint_lengths (x0 : State) (x1) : (State.pairPoint x0 x1).lengths = x0.lengths := by
  unfold State.pairPoint
  repeat' (first | (simp only [lengths_ite, ite_self, implies_true, State.absorb_lengths, State.modEst_lengths]; done) | (simp only [lengths_ite, ite_self, implies_true, State.absorb_lengths, State.modEst_lengths]; split) | split | (simp only [lengths_ite, ite_self, implies_true, State.absorb_lengths, State.modEst_lengths]; with_reducible refine (lengths_foldl _ _ _ fun x a => ?_).trans ?_) | with_reducible refine (lengths_foldl _ _ _ fun x a => ?_).trans ?_)

theorem State.goodPacket_lengths (x0 : State) (x1) (x2) : (State.goodPacket x0 x1 x2).lengths = x0.lengths := by
  unfold State.goodPacket
  simp only [lengths_ite, ite_self, State.noteImax_lengths, State.absorb_lengths, State.nameCells_lengths, State.noteStatus_lengths, State.modFe_lengths, State.takeCurrents_lengths]

theorem State.framePacket_lengths (x0 : State) (x1) (x2) (x3) (x4) : (State.framePacket x0 x1 x2 x3 x4).lengths = x0.lengths := by
  unfold State.framePacket
  simp only [lengths_ite, ite_self, State.discardSample_lengths, State.goodPacket_lengths, State.noteBacklog_lengths, State.badPacket_lengths]

theorem State.blockAccepts_lengths (x0 : State) (x1) : (State.blockAccepts x0 x1).lengths = x0.lengths := by
  unfold State.blockAccepts
  simp only [lengths_ite, ite_self, State.commitEntry_lengths, len_29]

theorem State.writeProtRecord_lengths (x0 : State) : (State.writeProtRecord x0).lengths = x0.lengths := by
  unfold State.writeProtRecord
  repeat' (first | (simp only [lengths_ite, ite_self, implies_true, State.notify_lengths, State.nvmAsk_lengths, len_21]; done) | (simp only [lengths_ite, ite_self, implies_true, State.notify_lengths, State.nvmAsk_lengths, len_21]; split) | split | (simp only [lengths_ite, ite_self, implies_true, State.notify_lengths, State.nvmAsk_lengths, len_21]; with_reducible refine (lengths_foldl _ _ _ fun x a => ?_).trans ?_) | with_reducible refine (lengths_foldl _ _ _ fun x a => ?_).trans ?_)

theorem State.owConclude_lengths (x0 : State) (x1) (x2) : (State.owConclude x0 x1 x2).lengths = x0.lengths := by
  unfold State.owConclude
  simp only [lengths_ite, ite_self, implies_true, lengths_foldl, State.tapOpens_lengths, State.tapCloses_lengths, State.modChan_lengths, State.modTap_lengths, len_20]

theorem State.mismatch_lengths (x0 : State) (x1) (x2) (x3) : (State.mismatch x0 x1 x2 x3).lengths = x0.lengths := by
  unfold State.mismatch
  repeat' (first | (simp only [lengths_ite, ite_self, implies_true, State.absorb_lengths, State.modPan_lengths, State.modSlot_lengths, len_9]; done) | (simp only [lengths_ite, ite_self, implies_true, State.absorb_lengths, State.modPan_lengths, State.modSlot_lengths, len_9]; split) | split | (simp only [lengths_ite, ite_self, implies_true, State.absorb_lengths, State.modPan_lengths, State.modSlot_lengths, len_9]; with_reducible refine (lengths_foldl _ _ _ fun x a => ?_).trans ?_) | with_reducible refine (lengths_foldl _ _ _ fun x a => ?_).trans ?_)

theorem opJournalRead_lengths (x0) (x1) (x2 : State) : (opJournalRead x0 x1 x2).s.lengths = x2.lengths := by
  unfold opJournalRead
  repeat' (first | (simp only [lengths_ite, ite_self, implies_true, ans_ite, fail_s, refuse_s, okAns_s, lengths_foldl, State.absorb_lengths, fail_lengths, okAns_lengths]; done) | (simp only [lengths_ite, ite_self, implies_true, ans_ite, fail_s, refuse_s, okAns_s, lengths_foldl, State.absorb_lengths, fail_lengths, okAns_lengths]; split) | split | (simp only [lengths_ite, ite_self, implies_true, ans_ite, fail_s, refuse_s, okAns_s, lengths_foldl, State.absorb_lengths, fail_lengths, okAns_lengths]; with_reducible refine (lengths_foldl _ _ _ fun x a => ?_).trans ?_) | with_reducible refine (lengths_foldl _ _ _ fun x a => ?_).trans ?_)

theorem State.lostAnchors_lengths (x0 : State) : (State.lostAnchors x0).lengths = x0.lengths := by
  unfold State.lostAnchors
  simp only [lengths_ite, ite_self, State.startSafe_lengths, State.convCapture_lengths, len_24]

theorem State.adoptTime_lengths (x0 : State) (x1) (x2) : (State.adoptTime x0 x1 x2).lengths = x0.lengths := by
  unfold State.adoptTime
  simp only [lengths_ite, ite_self, State.absorb_lengths, len_0]

theorem opEclipseSwap_lengths (x0) (x1) (x2 : State) : (opEclipseSwap x0 x1 x2).s.lengths = x2.lengths :=
  lengths_of_hide (opEclipseSwap_hide 1125894466690609 rfl x0 x1 x2)

theorem State.loseRole_lengths (x0 : State) (x1) : (State.loseRole x0 x1).lengths = x0.lengths := by
  unfold State.loseRole
  simp only [lengths_ite, ite_self, implies_true, lengths_foldl, State.notify_lengths, State.modChan_lengths, State.modSlot_lengths, State.modEst_lengths, State.setCause_lengths]

theorem State.ownMode_lengths (x0 : State) (x1) : (State.ownMode x0 x1).lengths = x0.lengths :=
  lengths_of_hide (State.ownMode_hide 1125894466690609 rfl x0 x1)

theorem State.bridgeByMean_lengths (x0 : State) (x1) : (State.bridgeByMean x0 x1).lengths = x0.lengths := by
  unfold State.bridgeByMean
  simp only [State.credit_lengths, State.absorb_lengths, len_5]

theorem State.sideRx_lengths (x0 : State) (x1) (x2) : (State.sideRx x0 x1 x2).lengths = x0.lengths := by
  unfold State.sideRx
  repeat' (first | (simp only [lengths_ite, ite_self, implies_true, lengths_foldl, State.ringRecord_lengths, len_25]; done) | (simp only [lengths_ite, ite_self, implies_true, lengths_foldl, State.ringRecord_lengths, len_25]; split) | split | (simp only [lengths_ite, ite_self, implies_true, lengths_foldl, State.ringRecord_lengths, len_25]; with_reducible refine (lengths_foldl _ _ _ fun x a => ?_).trans ?_) | with_reducible refine (lengths_foldl _ _ _ fun x a => ?_).trans ?_)

theorem State.cfeStore_lengths (x0 : State) (x1) : (State.cfeStore x0 x1).lengths = x0.lengths := by
  unfold State.cfeStore
  simp only [lengths_ite, ite_self, State.discardSample_lengths, State.noteBacklog_lengths, len_5]

theorem State.discardTable_lengths (x0 : State) : (State.discardTable x0).lengths = x0.lengths := by
  unfold State.discardTable
  simp only [implies_true, lengths_foldl, State.modStaged_lengths, State.complete_lengths, len_19]

theorem State.cfeUse_lengths (x0 : State) (x1) : (State.cfeUse x0 x1).lengths = x0.lengths := by
  unfold State.cfeUse
  simp only [lengths_ite, ite_self, State.calFrame_lengths, State.zeroFrame_lengths, State.cfeReport_lengths, State.creditFrame_lengths, State.zeroRestart_lengths, len_5]

theorem State.supersedeMode_lengths (x0 : State) : (State.supersedeMode x0).lengths = x0.lengths := by
  unfold State.supersedeMode
  repeat' (first | (simp only [lengths_ite, ite_self, implies_true, State.complete_lengths, len_0]; done) | (simp only [lengths_ite, ite_self, implies_true, State.complete_lengths, len_0]; split) | split | (simp only [lengths_ite, ite_self, implies_true, State.complete_lengths, len_0]; with_reducible refine (lengths_foldl _ _ _ fun x a => ?_).trans ?_) | with_reducible refine (lengths_foldl _ _ _ fun x a => ?_).trans ?_)

theorem State.configCheck_lengths (x0 : State) (x1) : (State.configCheck x0 x1).lengths = x0.lengths := by
  unfold State.configCheck
  simp only [lengths_ite, ite_self, State.notify_lengths, len_25]

theorem State.coreFails_lengths (x0 : State) : (State.coreFails x0).lengths = x0.lengths := by
  unfold State.coreFails
  simp only [lengths_ite, ite_self, List.length_map, State.enterProtOnly_lengths, State.releaseToken_lengths, len_26_27_29]

theorem State.ringBoundary_lengths (x0 : State) : (State.ringBoundary x0).lengths = x0.lengths := by
  unfold State.ringBoundary
  repeat' (first | (simp only [lengths_ite, ite_self, implies_true, State.primaryLost_lengths, State.configCheck_lengths, len_25, len_15_25]; done) | (simp only [lengths_ite, ite_self, implies_true, State.primaryLost_lengths, State.configCheck_lengths, len_25, len_15_25]; split) | split | (simp only [lengths_ite, ite_self, implies_true, State.primaryLost_lengths, State.configCheck_lengths, len_25, len_15_25]; with_reducible refine (lengths_foldl _ _ _ fun x a => ?_).trans ?_) | with_reducible refine (lengths_foldl _ _ _ fun x a => ?_).trans ?_)

theorem State.cfeGood_lengths (x0 : State) (x1) : (State.cfeGood x0 x1).lengths = x0.lengths := by
  unfold State.cfeGood
  simp only [State.cfeStore_lengths, len_5]

theorem execSafetySample_lengths (x0) (x1 : State) : (outState x1 (execSafetySample x0 x1)).lengths = x1.lengths := by
  unfold execSafetySample
  simp only [lengths_ite, ite_self, out_next, State.safetySample_lengths]

theorem State.spiWords_lengths (w late : Bool) (a : Nat) (l : List Word) (s : State) :
    (State.spiWords w late a l s).lengths = s.lengths := by
  induction l generalizing a s with
  | nil => rfl
  | cons x l ih =>
    unfold State.spiWords
    simp only [ih, lengths_ite, State.spiWrite_lengths, State.spiRead_lengths, ite_self]

theorem State.headerRx_lengths (x0 : State) (x1) (x2) (x3) (x4) : (State.headerRx x0 x1 x2 x3 x4).lengths = x0.lengths := by
  unfold State.headerRx
  repeat' (first | (simp only [lengths_ite, ite_self, implies_true, State.followHeader_lengths, State.positionStep_lengths, State.primaryLost_lengths, State.adoptTime_lengths, State.discipline_lengths, len_25]; done) | (simp only [lengths_ite, ite_self, implies_true, State.followHeader_lengths, State.positionStep_lengths, State.primaryLost_lengths, State.adoptTime_lengths, State.discipline_lengths, len_25]; split) | split | (simp only [lengths_ite, ite_self, implies_true, State.followHeader_lengths, State.positionStep_lengths, State.primaryLost_lengths, State.adoptTime_lengths, State.discipline_lengths, len_25]; with_reducible refine (lengths_foldl _ _ _ fun x a => ?_).trans ?_) | with_reducible refine (lengths_foldl _ _ _ fun x a => ?_).trans ?_)

theorem opTableWrite_lengths (x0) (x1) (x2 : State) : (opTableWrite x0 x1 x2).s.lengths = x2.lengths := by
  unfold opTableWrite
  simp only [lengths_ite, ite_self, ans_ite, fail_s, State.acceptBlock_lengths]

theorem execTransitSuspended_lengths (x0 : State) : (outState x0 (execTransitSuspended x0)).lengths = x0.lengths := by
  unfold execTransitSuspended
  simp only [lengths_ite, ite_self, out_next, List.length_map, State.absorb_lengths, len_8_9]

theorem State.fullCheck_lengths (x0 : State) (x1) (x2) (x3) : (State.fullCheck x0 x1 x2 x3).lengths = x0.lengths := by
  unfold State.fullCheck
  simp only [lengths_ite, ite_self, State.anchor_lengths, len_14]

theorem State.balReachesOff_lengths (x0 : State) : (State.balReachesOff x0).lengths = x0.lengths := by
  unfold State.balReachesOff
  simp only [lengths_ite, ite_self, State.complete_lengths, len_20]

theorem State.lanesUp_lengths (x0 : State) (x1) : (State.lanesUp x0 x1).lengths = x0.lengths := by
  unfold State.lanesUp
  simp only [lengths_ite, ite_self, implies_true, lengths_foldl, State.loadConfig_lengths, State.bootLanes_lengths, State.restoreCell_lengths, State.losePanData_lengths, State.loseLaneData_lengths, State.loseVolatile_lengths, State.initCells_lengths, len_0]

theorem State.supersedeDeferred_lengths (x0 : State) : (State.supersedeDeferred x0).lengths = x0.lengths := by
  unfold State.supersedeDeferred
  simp only [lengths_ite, ite_self, implies_true, lengths_foldl, State.complete_lengths]

theorem execOutputOvercurrent_lengths (x0) (x1 : State) : (outState x1 (execOutputOvercurrent x0 x1)).lengths = x1.lengths := by
  unfold execOutputOvercurrent
  simp only [lengths_ite, ite_self, out_ite, out_next, out_fault, State.trip_lengths, len_28]

theorem State.armSafety_lengths (x0 : State) : (State.armSafety x0).lengths = x0.lengths := by
  unfold State.armSafety
  simp only [State.notifySafety_lengths, len_28]

theorem State.takeover84_lengths (x0 : State) (x1) : (State.takeover84 x0 x1).lengths = x0.lengths := by
  unfold State.takeover84
  simp only [lengths_ite, ite_self, State.absorb_lengths, State.modBranch_lengths]

theorem State.eraseKeys_lengths (x0 : State) : (State.eraseKeys x0).lengths = x0.lengths := by
  unfold State.eraseKeys
  simp only [implies_true, lengths_foldl, State.complete_lengths, State.endVerify_lengths, len_34]

theorem State.stringJob_lengths (x0 : State) : (State.stringJob x0).lengths = x0.lengths := by
  unfold State.stringJob
  simp only [lengths_ite, ite_self, State.restRequest_lengths, len_15]

theorem State.boundaryMode_lengths (x0 : State) (x1) : (State.boundaryMode x0 x1).lengths = x0.lengths :=
  lengths_of_hide (State.boundaryMode_hide 1125894466690609 rfl x0 x1)

theorem State.writeConvRecord_lengths (x0 : State) : (State.writeConvRecord x0).lengths = x0.lengths := by
  unfold State.writeConvRecord
  repeat' (first | (simp only [lengths_ite, ite_self, implies_true, State.notify_lengths, State.nvmAsk_lengths, len_23]; done) | (simp only [lengths_ite, ite_self, implies_true, State.notify_lengths, State.nvmAsk_lengths, len_23]; split) | split | (simp only [lengths_ite, ite_self, implies_true, State.notify_lengths, State.nvmAsk_lengths, len_23]; with_reducible refine (lengths_foldl _ _ _ fun x a => ?_).trans ?_) | with_reducible refine (lengths_foldl _ _ _ fun x a => ?_).trans ?_)

theorem State.dieReplies_lengths (x0 : State) : (State.dieReplies x0).lengths = x0.lengths := by
  unfold State.dieReplies
  simp only [implies_true, lengths_foldl, State.finish_lengths, okAns_lengths, len_31]

theorem opPowerState_lengths (x0) (x1) (x2) (x3 : State) : (opPowerState x0 x1 x2 x3).s.lengths = x3.lengths :=
  lengths_of_hide (opPowerState_hide 1125894466690609 rfl x0 x1 x2 x3)

theorem State.faultChannel_lengths (x0 : State) (x1) (x2) : (State.faultChannel x0 x1 x2).lengths = x0.lengths := by
  unfold State.faultChannel
  simp only [lengths_ite, ite_self, State.cellCause_lengths, State.modFe_lengths, State.linksUp_lengths, len_21]

theorem State.compare_lengths (x0 : State) (x1) (x2) (x3) : (State.compare x0 x1 x2 x3).lengths = x0.lengths := by
  unfold State.compare
  repeat' (first | (simp only [lengths_ite, ite_self, implies_true, State.modPan_lengths, State.mismatch_lengths, len_9]; done) | (simp only [lengths_ite, ite_self, implies_true, State.modPan_lengths, State.mismatch_lengths, len_9]; split) | split | (simp only [lengths_ite, ite_self, implies_true, State.modPan_lengths, State.mismatch_lengths, len_9]; with_reducible refine (lengths_foldl _ _ _ fun x a => ?_).trans ?_) | with_reducible refine (lengths_foldl _ _ _ fun x a => ?_).trans ?_)

theorem State.spiTransaction_lengths (x0 : State) (x1) (x2) (x3) : (State.spiTransaction x0 x1 x2 x3).lengths = x0.lengths := by
  unfold State.spiTransaction
  simp only [lengths_ite, ite_self, State.spiWords_lengths, len_33]

theorem State.plausStamp_lengths (x0 : State) (x1) (x2) (x3) : (State.plausStamp x0 x1 x2 x3).lengths = x0.lengths := by
  unfold State.plausStamp
  simp only [lengths_ite, ite_self, State.notify_lengths, State.absorb_lengths, State.modBranch_lengths, State.setDisagree_lengths]

theorem State.reportPower_lengths (x0 : State) : (State.reportPower x0).lengths = x0.lengths := by
  unfold State.reportPower
  simp only [implies_true, lengths_foldl, State.complete_lengths, len_29]

theorem execProtOnlyNotice_lengths (x0 : State) : (outState x0 (execProtOnlyNotice x0)).lengths = x0.lengths := by
  unfold execProtOnlyNotice
  simp only [lengths_ite, ite_self, out_next, State.protNotice_lengths, len_27]

theorem State.checkShare_lengths (x0 : State) : (State.checkShare x0).lengths = x0.lengths := by
  unfold State.checkShare
  simp only [lengths_ite, ite_self, implies_true, lengths_foldl, State.faultPhase_lengths, State.modPhase_lengths]

theorem State.retireHalted_lengths (x0 : State) : (State.retireHalted x0).lengths = x0.lengths := by
  unfold State.retireHalted
  simp only [lengths_ite, ite_self, implies_true, lengths_foldl, State.retirePan_lengths]

theorem State.takePosition_lengths (x0 : State) (x1) (x2) : (State.takePosition x0 x1 x2).lengths = x0.lengths :=
  lengths_of_hide (State.takePosition_hide 1125894466690609 rfl x0 x1 x2)

theorem execTakeoverComplete_lengths (x0 : State) : (outState x0 (execTakeoverComplete x0)).lengths = x0.lengths := by
  unfold execTakeoverComplete
  repeat' (first | (simp only [lengths_ite, ite_self, implies_true, out_ite, out_next, out_fault, State.leaveProtOnly_lengths, State.modLane_lengths, len_27]; done) | (simp only [lengths_ite, ite_self, implies_true, out_ite, out_next, out_fault, State.leaveProtOnly_lengths, State.modLane_lengths, len_27]; split) | split | (simp only [lengths_ite, ite_self, implies_true, out_ite, out_next, out_fault, State.leaveProtOnly_lengths, State.modLane_lengths, len_27]; with_reducible refine (lengths_foldl _ _ _ fun x a => ?_).trans ?_) | with_reducible refine (lengths_foldl _ _ _ fun x a => ?_).trans ?_)

theorem execPacketReceived_lengths (x0) (x1) (x2) (x3 : State) : (outState x3 (execPacketReceived x0 x1 x2 x3)).lengths = x3.lengths := by
  unfold execPacketReceived
  simp only [lengths_ite, ite_self, out_ite, out_next, out_fault, State.receive_lengths]

theorem opBalStop_lengths (x0) (x1) (x2 : State) : (opBalStop x0 x1 x2).s.lengths = x2.lengths := by
  unfold opBalStop
  repeat' (first | (simp only [lengths_ite, ite_self, implies_true, ans_ite, fail_s, refuse_s, okAns_s, State.journal_lengths, State.balDrain_lengths, okAns_lengths, len_20]; done) | (simp only [lengths_ite, ite_self, implies_true, ans_ite, fail_s, refuse_s, okAns_s, State.journal_lengths, State.balDrain_lengths, okAns_lengths, len_20]; split) | split | (simp only [lengths_ite, ite_self, implies_true, ans_ite, fail_s, refuse_s, okAns_s, State.journal_lengths, State.balDrain_lengths, okAns_lengths, len_20]; with_reducible refine (lengths_foldl _ _ _ fun x a => ?_).trans ?_) | with_reducible refine (lengths_foldl _ _ _ fun x a => ?_).trans ?_)

theorem State.scaleJob_lengths (x0 : State) (x1) (x2) : (State.scaleJob x0 x1 x2).lengths = x0.lengths := by
  unfold State.scaleJob
  simp only [lengths_ite, ite_self, implies_true, lengths_foldl, State.scaleCell_lengths, State.estWindow_lengths, State.holdCell_lengths]

theorem State.freeze_lengths (x0 : State) (x1) : (State.freeze x0 x1).lengths = x0.lengths := by
  unfold State.freeze
  repeat' (first | (simp only [lengths_ite, ite_self, implies_true, lengths_foldl, setAt, List.length_map, List.length_modify, List.length_zipIdx, List.length_range, State.notify_lengths, State.loseRole_lengths, len_7_8_9]; done) | (simp only [lengths_ite, ite_self, implies_true, lengths_foldl, setAt, List.length_map, List.length_modify, List.length_zipIdx, List.length_range, State.notify_lengths, State.loseRole_lengths, len_7_8_9]; split) | split | (simp only [lengths_ite, ite_self, implies_true, lengths_foldl, setAt, List.length_map, List.length_modify, List.length_zipIdx, List.length_range, State.notify_lengths, State.loseRole_lengths, len_7_8_9]; with_reducible refine (lengths_foldl _ _ _ fun x a => ?_).trans ?_) | with_reducible refine (lengths_foldl _ _ _ fun x a => ?_).trans ?_)

theorem execCanBusError_lengths (x0) (x1) (x2 : State) : (outState x2 (execCanBusError x0 x1 x2)).lengths = x2.lengths := by
  unfold execCanBusError
  simp only [out_next, State.canError_lengths]

theorem State.journalConv_lengths (x0 : State) (x1) (x2) (x3) : (State.journalConv x0 x1 x2 x3).lengths = x0.lengths :=
  lengths_of_hide (State.journalConv_hide 1125894466690609 rfl x0 x1 x2 x3)

theorem runCmd_lengths (op : Byte) (f : Hdr → List Byte → State → Ans) (h : Hdr)
    (p : List Byte) (s : State) (hf : ∀ h p x, (f h p x).s.lengths = x.lengths) : (runCmd op f h p s).lengths = s.lengths := by
  unfold runCmd
  split
  · rfl
  split
  · simp only [lengths_ite, State.sendReply_lengths, ite_self]
  split
  · rfl
  split
  · simp only [State.answer_lengths]
  · exact State.finish_lengths s op h p _ (hf h p s)

theorem execRingMessageRx_lengths (x0) (x1) (x2 : State) : (outState x2 (execRingMessageRx x0 x1 x2)).lengths = x2.lengths := by
  unfold execRingMessageRx
  simp only [lengths_ite, ite_self, out_ite, out_next, out_fault, State.messageRx_lengths]

theorem State.canPacket_lengths (x0 : State) (x1) (x2) (x3) (x4) : (State.canPacket x0 x1 x2 x3 x4).lengths = x0.lengths := by
  unfold State.canPacket
  simp only [lengths_ite, ite_self, State.modCan_lengths, State.receive_lengths]

theorem State.applyMode_lengths (x0 : State) (x1) (x2) : (State.applyMode x0 x1 x2).2.lengths = x0.lengths := by
  unfold State.applyMode
  repeat' (first | (simp only [lengths_ite, ite_self, implies_true, snd_ite, State.beginDrain_lengths, State.requestContactors_lengths, State.toStandby_lengths, State.toService_lengths, State.deferMode_lengths, State.drainPasses_lengths, State.supersedeMode_lengths, len_0]; done) | (simp only [lengths_ite, ite_self, implies_true, snd_ite, State.beginDrain_lengths, State.requestContactors_lengths, State.toStandby_lengths, State.toService_lengths, State.deferMode_lengths, State.drainPasses_lengths, State.supersedeMode_lengths, len_0]; split) | split | (simp only [lengths_ite, ite_self, implies_true, snd_ite, State.beginDrain_lengths, State.requestContactors_lengths, State.toStandby_lengths, State.toService_lengths, State.deferMode_lengths, State.drainPasses_lengths, State.supersedeMode_lengths, len_0]; with_reducible refine (lengths_foldl _ _ _ fun x a => ?_).trans ?_) | with_reducible refine (lengths_foldl _ _ _ fun x a => ?_).trans ?_)

theorem State.openWireJob_lengths (x0 : State) : (State.openWireJob x0).lengths = x0.lengths := by
  unfold State.openWireJob
  repeat' (first | (simp only [lengths_ite, ite_self, implies_true, lengths_foldl, State.spanCheck_lengths, State.owConclude_lengths, State.owDecide_lengths]; done) | (simp only [lengths_ite, ite_self, implies_true, lengths_foldl, State.spanCheck_lengths, State.owConclude_lengths, State.owDecide_lengths]; split) | split | (simp only [lengths_ite, ite_self, implies_true, lengths_foldl, State.spanCheck_lengths, State.owConclude_lengths, State.owDecide_lengths]; with_reducible refine (lengths_foldl _ _ _ fun x a => ?_).trans ?_) | with_reducible refine (lengths_foldl _ _ _ fun x a => ?_).trans ?_)

theorem opEisStart_lengths (x0) (x1) (x2) (x3 : State) : (opEisStart x0 x1 x2 x3).s.lengths = x3.lengths :=
  lengths_of_hide (opEisStart_hide 1125894466690609 rfl x0 x1 x2 x3)

theorem execJournalSealWrite_lengths (x0 : State) : (outState x0 (execJournalSealWrite x0)).lengths = x0.lengths := by
  unfold execJournalSealWrite
  simp only [lengths_ite, ite_self, out_next, State.writeSeal_lengths]

theorem State.report154_lengths (x0 : State) (x1) (x2) (x3) : (State.report154 x0 x1 x2 x3).lengths = x0.lengths := by
  unfold State.report154
  simp only [lengths_ite, ite_self, State.modEst_lengths, State.countDrift_lengths]

theorem State.challenge_lengths (x0 : State) (x1) : (State.challenge x0 x1).lengths = x0.lengths := by
  unfold State.challenge
  simp only [State.complete_lengths, len_34]

theorem State.endSwap_lengths (x0 : State) (x1) : (State.endSwap x0 x1).lengths = x0.lengths := by
  unfold State.endSwap
  repeat' (first | (simp only [lengths_ite, ite_self, implies_true, State.complete_lengths, len_27]; done) | (simp only [lengths_ite, ite_self, implies_true, State.complete_lengths, len_27]; split) | split | (simp only [lengths_ite, ite_self, implies_true, State.complete_lengths, len_27]; with_reducible refine (lengths_foldl _ _ _ fun x a => ?_).trans ?_) | with_reducible refine (lengths_foldl _ _ _ fun x a => ?_).trans ?_)

theorem State.bistEnds_lengths (x0 : State) (x1) (x2) : (State.bistEnds x0 x1 x2).lengths = x0.lengths := by
  unfold State.bistEnds
  simp only [lengths_ite, ite_self, State.modPan_lengths, State.toPool_lengths, State.retirePan_lengths, len_9]

theorem execSpiInDataWrite_lengths (x0) (x1) (x2 : State) : (outState x2 (execSpiInDataWrite x0 x1 x2)).lengths = x2.lengths := by
  unfold execSpiInDataWrite
  simp only [out_next, State.spiIn_lengths]

theorem execDiagThermoCal_lengths (x0) (x1) (x2 : State) : (outState x2 (execDiagThermoCal x0 x1 x2)).lengths = x2.lengths := by
  unfold execDiagThermoCal
  simp only [implies_true, out_next, runCmd_lengths, opThermoCal_lengths]

theorem State.patternJob_lengths (x0 : State) : (State.patternJob x0).lengths = x0.lengths := by
  unfold State.patternJob
  simp only [lengths_ite, ite_self, State.setPattern_lengths, State.checkIlim_lengths, State.showExcl_lengths, len_20]

theorem opReset_lengths (x0) (x1) (x2 : State) : (opReset x0 x1 x2).s.lengths = x2.lengths :=
  lengths_of_hide (opReset_hide 1125894466690609 rfl x0 x1 x2)

theorem execPanBistComplete_lengths (x0) (x1) (x2 : State) : (outState x2 (execPanBistComplete x0 x1 x2)).lengths = x2.lengths := by
  unfold execPanBistComplete
  simp only [lengths_ite, ite_self, out_ite, out_next, out_fault, State.bistEnds_lengths, State.checkSpares_lengths]

theorem execLaneRebootComplete_lengths (x0) (x1) (x2 : State) : (outState x2 (execLaneRebootComplete x0 x1 x2)).lengths = x2.lengths := by
  unfold execLaneRebootComplete
  simp only [lengths_ite, ite_self, out_next, State.laneAbsorb_lengths, State.modLane_lengths, State.retireLane_lengths, len_27]

theorem State.nextStep_lengths (x0 : State) (x1) (x2) : (State.nextStep x0 x1 x2).lengths = x0.lengths := by
  unfold State.nextStep
  repeat' (first | (simp only [lengths_ite, ite_self, implies_true, State.emptyCheck_lengths, State.report154_lengths, State.restPoint_lengths, State.modEst_lengths, State.rerefStart_lengths, State.measureStep_lengths]; done) | (simp only [lengths_ite, ite_self, implies_true, State.emptyCheck_lengths, State.report154_lengths, State.restPoint_lengths, State.modEst_lengths, State.rerefStart_lengths, State.measureStep_lengths]; split) | split | (simp only [lengths_ite, ite_self, implies_true, State.emptyCheck_lengths, State.report154_lengths, State.restPoint_lengths, State.modEst_lengths, State.rerefStart_lengths, State.measureStep_lengths]; with_reducible refine (lengths_foldl _ _ _ fun x a => ?_).trans ?_) | with_reducible refine (lengths_foldl _ _ _ fun x a => ?_).trans ?_)

theorem State.verifyEnds_lengths (x0 : State) : (State.verifyEnds x0).lengths = x0.lengths := by
  unfold State.verifyEnds
  repeat' (first | (simp only [lengths_ite, ite_self, implies_true, State.journal_lengths, State.endVerify_lengths, len_34]; done) | (simp only [lengths_ite, ite_self, implies_true, State.journal_lengths, State.endVerify_lengths, len_34]; split) | split | (simp only [lengths_ite, ite_self, implies_true, State.journal_lengths, State.endVerify_lengths, len_34]; with_reducible refine (lengths_foldl _ _ _ fun x a => ?_).trans ?_) | with_reducible refine (lengths_foldl _ _ _ fun x a => ?_).trans ?_)

theorem execDiagPowerTest_lengths (x0) (x1) (x2 : State) : (outState x2 (execDiagPowerTest x0 x1 x2)).lengths = x2.lengths := by
  unfold execDiagPowerTest
  simp only [implies_true, out_next, runCmd_lengths, opPowerState_lengths]

theorem execSweepDrainEnd_lengths (x0 : State) : (outState x0 (execSweepDrainEnd x0)).lengths = x0.lengths := by
  unfold execSweepDrainEnd
  simp only [lengths_ite, ite_self, out_next, State.drainEnds_lengths]

theorem execSnapshot_lengths (x0) (x1) (x2 : State) : (outState x2 (execSnapshot x0 x1 x2)).lengths = x2.lengths := by
  unfold execSnapshot
  simp only [implies_true, out_next, runCmd_lengths, opSnapshot_lengths]

theorem execSafetySelfTest_lengths (x0) (x1) (x2) (x3 : State) : (outState x3 (execSafetySelfTest x0 x1 x2 x3)).lengths = x3.lengths := by
  unfold execSafetySelfTest
  simp only [lengths_ite, ite_self, out_next, State.trip_lengths, State.modSafe_lengths]

theorem State.settleReturn_lengths (x0 : State) : (State.settleReturn x0).lengths = x0.lengths := by
  unfold State.settleReturn
  simp only [lengths_ite, ite_self, State.resolveQueue_lengths, State.elapse_lengths, State.threshJob_lengths, State.afterGap_lengths, State.endRequest_lengths, len_0_25_27_29]

theorem execEclipseSwap_lengths (x0) (x1) (x2 : State) : (outState x2 (execEclipseSwap x0 x1 x2)).lengths = x2.lengths := by
  unfold execEclipseSwap
  simp only [implies_true, out_next, runCmd_lengths, opEclipseSwap_lengths]

theorem State.eventWriteJob_lengths (x0 : State) : (State.eventWriteJob x0).lengths = x0.lengths := by
  unfold State.eventWriteJob
  simp only [lengths_ite, ite_self, State.writeProtRecord_lengths, State.nvmAsk_lengths, len_27]

theorem execCurCalComplete_lengths (x0 : State) : (outState x0 (execCurCalComplete x0)).lengths = x0.lengths := by
  unfold execCurCalComplete
  repeat' (first | (simp only [lengths_ite, ite_self, implies_true, out_ite, out_next, out_fault, State.stage_lengths, State.complete_lengths, len_5]; done) | (simp only [lengths_ite, ite_self, implies_true, out_ite, out_next, out_fault, State.stage_lengths, State.complete_lengths, len_5]; split) | split | (simp only [lengths_ite, ite_self, implies_true, out_ite, out_next, out_fault, State.stage_lengths, State.complete_lengths, len_5]; with_reducible refine (lengths_foldl _ _ _ fun x a => ?_).trans ?_) | with_reducible refine (lengths_foldl _ _ _ fun x a => ?_).trans ?_)

theorem State.trialResult_lengths (x0 : State) (x1) : (State.trialResult x0 x1).lengths = x0.lengths := by
  unfold State.trialResult
  repeat' (first | (simp only [lengths_ite, ite_self, implies_true, State.absorb_lengths, State.complete_lengths, len_34]; done) | (simp only [lengths_ite, ite_self, implies_true, State.absorb_lengths, State.complete_lengths, len_34]; split) | split | (simp only [lengths_ite, ite_self, implies_true, State.absorb_lengths, State.complete_lengths, len_34]; with_reducible refine (lengths_foldl _ _ _ fun x a => ?_).trans ?_) | with_reducible refine (lengths_foldl _ _ _ fun x a => ?_).trans ?_)

theorem State.flushTamper_lengths (x0 : State) : (State.flushTamper x0).lengths = x0.lengths := by
  unfold State.flushTamper
  simp only [lengths_ite, ite_self, implies_true, lengths_foldl, State.notifyTamper_lengths, State.writeTamper_lengths, len_34]

theorem execSideWindowRx_lengths (x0) (x1) (x2 : State) : (outState x2 (execSideWindowRx x0 x1 x2)).lengths = x2.lengths := by
  unfold execSideWindowRx
  simp only [lengths_ite, ite_self, out_next, State.sideRx_lengths]

theorem State.cfeWindow_lengths (x0 : State) : (State.cfeWindow x0).lengths = x0.lengths := by
  unfold State.cfeWindow
  repeat' (first | (simp only [lengths_ite, ite_self, implies_true, State.cfeNoValue_lengths, State.cfeUse_lengths, State.zeroCheck_lengths, len_5]; done) | (simp only [lengths_ite, ite_self, implies_true, State.cfeNoValue_lengths, State.cfeUse_lengths, State.zeroCheck_lengths, len_5]; split) | split | (simp only [lengths_ite, ite_self, implies_true, State.cfeNoValue_lengths, State.cfeUse_lengths, State.zeroCheck_lengths, len_5]; with_reducible refine (lengths_foldl _ _ _ fun x a => ?_).trans ?_) | with_reducible refine (lengths_foldl _ _ _ fun x a => ?_).trans ?_)

theorem execFaultChannelChange_lengths (x0) (x1) (x2 : State) : (outState x2 (execFaultChannelChange x0 x1 x2)).lengths = x2.lengths := by
  unfold execFaultChannelChange
  simp only [lengths_ite, ite_self, out_ite, out_next, out_fault, State.faultChannel_lengths]

theorem State.tamperDetect_lengths (x0 : State) (x1) (x2) : (State.tamperDetect x0 x1 x2).lengths = x0.lengths := by
  unfold State.tamperDetect
  simp only [lengths_ite, ite_self, implies_true, lengths_foldl, State.flushTamper_lengths, State.noteTamper_lengths, State.eraseKeys_lengths]

theorem State.verdict_lengths (x0 : State) (x1) (x2) : (State.verdict x0 x1 x2).lengths = x0.lengths := by
  unfold State.verdict
  simp only [lengths_ite, ite_self, State.notify_lengths, State.toPool_lengths, State.retirePan_lengths, State.giveRole_lengths, len_9]

theorem execFwTrialResult_lengths (x0) (x1 : State) : (outState x1 (execFwTrialResult x0 x1)).lengths = x1.lengths := by
  unfold execFwTrialResult
  simp only [out_next, State.trialResult_lengths]

theorem opMode_lengths (x0) (x1) (x2 : State) : (opMode x0 x1 x2).s.lengths = x2.lengths := by
  unfold opMode
  repeat' (first | (simp only [lengths_ite, ite_self, implies_true, ans_ite, fail_s, refuse_s, okAns_s, State.applyMode_lengths, State.journal_lengths, fail_lengths, okAns_lengths, refuse_lengths]; done) | (simp only [lengths_ite, ite_self, implies_true, ans_ite, fail_s, refuse_s, okAns_s, State.applyMode_lengths, State.journal_lengths, fail_lengths, okAns_lengths, refuse_lengths]; split) | split | (simp only [lengths_ite, ite_self, implies_true, ans_ite, fail_s, refuse_s, okAns_s, State.applyMode_lengths, State.journal_lengths, fail_lengths, okAns_lengths, refuse_lengths]; with_reducible refine (lengths_foldl _ _ _ fun x a => ?_).trans ?_) | with_reducible refine (lengths_foldl _ _ _ fun x a => ?_).trans ?_)

theorem State.cfeBad_lengths (x0 : State) (x1) : (State.cfeBad x0 x1).lengths = x0.lengths := by
  unfold State.cfeBad
  simp only [lengths_ite, ite_self, State.cfeStore_lengths, State.cfeRelink_lengths, len_5]

theorem State.ringStateOf_lengths (x0 : State) (x1) : (State.ringStateOf x0 x1).lengths = x0.lengths := by
  unfold State.ringStateOf
  simp only [lengths_ite, ite_self, State.notify_lengths, State.noteBreaks_lengths, len_25]

theorem State.commitTable_lengths (x0 : State) (x1) : (State.commitTable x0 x1).lengths = x0.lengths := by
  unfold State.commitTable
  simp only [lengths_ite, ite_self, State.activateTable_lengths, State.journal_lengths]

theorem execSluiceFail_lengths (x0) (x1 : State) : (outState x1 (execSluiceFail x0 x1)).lengths = x1.lengths := by
  unfold execSluiceFail
  simp only [lengths_ite, ite_self, out_ite, out_next, out_fault, State.freeze_lengths]

theorem State.blockRefuses_lengths (x0 : State) (x1) (x2) : (State.blockRefuses x0 x1 x2).lengths = x0.lengths := by
  unfold State.blockRefuses
  simp only [lengths_ite, ite_self, State.absorb_lengths, State.endHandshake_lengths, State.blockAccepts_lengths, State.endRequest_lengths]

theorem State.loseUnloaded_lengths (x0 : State) : (State.loseUnloaded x0).lengths = x0.lengths := by
  unfold State.loseUnloaded
  repeat' (first | (simp only [lengths_ite, ite_self, implies_true, lengths_foldl, State.loseRole_lengths]; done) | (simp only [lengths_ite, ite_self, implies_true, lengths_foldl, State.loseRole_lengths]; split) | split | (simp only [lengths_ite, ite_self, implies_true, lengths_foldl, State.loseRole_lengths]; with_reducible refine (lengths_foldl _ _ _ fun x a => ?_).trans ?_) | with_reducible refine (lengths_foldl _ _ _ fun x a => ?_).trans ?_)

theorem State.canTxComplete_lengths (x0 : State) (x1) (x2) (x3) : (State.canTxComplete x0 x1 x2 x3).lengths = x0.lengths := by
  unfold State.canTxComplete
  simp only [lengths_ite, ite_self, State.modCan_lengths, State.canError_lengths, State.settleBus_lengths]

theorem execTamperDetect_lengths (x0) (x1) (x2 : State) : (outState x2 (execTamperDetect x0 x1 x2)).lengths = x2.lengths := by
  unfold execTamperDetect
  simp only [out_next, State.tamperDetect_lengths]

theorem State.canTake_lengths (x0 : State) (x1) (x2) (x3) (x4) : (State.canTake x0 x1 x2 x3 x4).lengths = x0.lengths := by
  unfold State.canTake
  repeat' (first | (simp only [lengths_ite, ite_self, implies_true, State.canPacket_lengths, State.modCan_lengths]; done) | (simp only [lengths_ite, ite_self, implies_true, State.canPacket_lengths, State.modCan_lengths]; split) | split | (simp only [lengths_ite, ite_self, implies_true, State.canPacket_lengths, State.modCan_lengths]; with_reducible refine (lengths_foldl _ _ _ fun x a => ?_).trans ?_) | with_reducible refine (lengths_foldl _ _ _ fun x a => ?_).trans ?_)

theorem State.serviceDone_lengths (x0 : State) (x1) : (State.serviceDone x0 x1).lengths = x0.lengths := by
  unfold State.serviceDone
  repeat' (first | (simp only [lengths_ite, ite_self, implies_true, State.requestContactors_lengths, State.complete_lengths, len_0]; done) | (simp only [lengths_ite, ite_self, implies_true, State.requestContactors_lengths, State.complete_lengths, len_0]; split) | split | (simp only [lengths_ite, ite_self, implies_true, State.requestContactors_lengths, State.complete_lengths, len_0]; with_reducible refine (lengths_foldl _ _ _ fun x a => ?_).trans ?_) | with_reducible refine (lengths_foldl _ _ _ fun x a => ?_).trans ?_)

theorem execTableRead_lengths (x0) (x1) (x2 : State) : (outState x2 (execTableRead x0 x1 x2)).lengths = x2.lengths := by
  unfold execTableRead
  simp only [implies_true, out_next, runCmd_lengths, opTableRead_lengths]

theorem State.restart_lengths (x0 : State) : (State.restart x0).lengths = x0.lengths := by
  unfold State.restart
  simp only [List.length_map, State.requestContactors_lengths, State.loseVolatile_lengths, State.driveContactors_lengths, len_1_5_27_29_34]

theorem execRelinkAttemptEnd_lengths (x0) (x1) (x2 : State) : (outState x2 (execRelinkAttemptEnd x0 x1 x2)).lengths = x2.lengths := by
  unfold execRelinkAttemptEnd
  simp only [lengths_ite, ite_self, out_ite, out_next, out_fault, State.relinkEnd_lengths, State.cfeRelinkEnd_lengths]

theorem opCellReset_lengths (x0) (x1) (x2 : State) : (opCellReset x0 x1 x2).s.lengths = x2.lengths := by
  unfold opCellReset
  simp only [lengths_ite, ite_self, ans_ite, fail_s, okAns_s, State.journal_lengths, State.initCell_lengths]

theorem State.settleBridge_lengths (x0 : State) : (State.settleBridge x0).lengths = x0.lengths := by
  unfold State.settleBridge
  repeat' (first | (simp only [lengths_ite, ite_self, implies_true, State.rebase_lengths, State.bridgeByMean_lengths, len_5]; done) | (simp only [lengths_ite, ite_self, implies_true, State.rebase_lengths, State.bridgeByMean_lengths, len_5]; split) | split | (simp only [lengths_ite, ite_self, implies_true, State.rebase_lengths, State.bridgeByMean_lengths, len_5]; with_reducible refine (lengths_foldl _ _ _ fun x a => ?_).trans ?_) | with_reducible refine (lengths_foldl _ _ _ fun x a => ?_).trans ?_)

theorem execFwActivate_lengths (x0) (x1) (x2 : State) : (outState x2 (execFwActivate x0 x1 x2)).lengths = x2.lengths := by
  unfold execFwActivate
  simp only [implies_true, out_next, runCmd_lengths, opFwActivate_lengths]

theorem execRingEnumerate_lengths (x0) (x1) (x2 : State) : (outState x2 (execRingEnumerate x0 x1 x2)).lengths = x2.lengths := by
  unfold execRingEnumerate
  simp only [implies_true, out_next, runCmd_lengths, opRingEnumerate_lengths]

theorem execFeFramePacket_lengths (x0) (x1) (x2) (x3) (x4 : State) : (outState x4 (execFeFramePacket x0 x1 x2 x3 x4)).lengths = x4.lengths := by
  unfold execFeFramePacket
  simp only [lengths_ite, ite_self, out_ite, out_next, out_fault, State.framePacket_lengths]

theorem execEisControlRecordRx_lengths (x0) (x1 : State) : (outState x1 (execEisControlRecordRx x0 x1)).lengths = x1.lengths :=
  lengths_of_hide (execEisControlRecordRx_hide 1125894466690609 rfl x0 x1)

theorem execTokenBeliefMismatch_lengths (x0) (x1 : State) : (outState x1 (execTokenBeliefMismatch x0 x1)).lengths = x1.lengths := by
  unfold execTokenBeliefMismatch
  simp only [lengths_ite, ite_self, out_next, List.length_map, State.laneAbsorb_lengths, State.modLane_lengths, State.retireLane_lengths, State.putOffSwap_lengths, State.releaseToken_lengths, len_26_27]

theorem State.checkSense_lengths (x0 : State) : (State.checkSense x0).lengths = x0.lengths := by
  unfold State.checkSense
  simp only [lengths_ite, ite_self, implies_true, lengths_foldl, List.length_map, State.faultPhase_lengths, len_22_23]

theorem execParamGet_lengths (x0) (x1) (x2 : State) : (outState x2 (execParamGet x0 x1 x2)).lengths = x2.lengths := by
  unfold execParamGet
  simp only [implies_true, out_next, runCmd_lengths, opParamGet_lengths]

theorem opConvEnable_lengths (x0) (x1) (x2 : State) : (opConvEnable x0 x1 x2).s.lengths = x2.lengths := by
  unfold opConvEnable
  simp only [lengths_ite, ite_self, ans_ite, fail_s, refuse_s, okAns_s, State.journalConv_lengths, State.beginStart_lengths, len_23]

theorem execProtOnlyEntry_lengths (x0 : State) : (outState x0 (execProtOnlyEntry x0)).lengths = x0.lengths := by
  unfold execProtOnlyEntry
  simp only [lengths_ite, ite_self, out_next, State.enterProtOnly_lengths]

theorem execEisStart_lengths (x0) (x1) (x2 : State) : (outState x2 (execEisStart x0 x1 x2)).lengths = x2.lengths := by
  unfold execEisStart
  repeat' (first | (simp only [lengths_ite, ite_self, implies_true, out_ite, out_next, out_fault, runCmd_lengths, opEisStart_lengths]; done) | (simp only [lengths_ite, ite_self, implies_true, out_ite, out_next, out_fault, runCmd_lengths, opEisStart_lengths]; split) | split | (simp only [lengths_ite, ite_self, implies_true, out_ite, out_next, out_fault, runCmd_lengths, opEisStart_lengths]; with_reducible refine (lengths_foldl _ _ _ fun x a => ?_).trans ?_) | with_reducible refine (lengths_foldl _ _ _ fun x a => ?_).trans ?_)

theorem State.emptyAnchor_lengths (x0 : State) (x1) : (State.emptyAnchor x0 x1).lengths = x0.lengths := by
  unfold State.emptyAnchor
  simp only [lengths_ite, ite_self, implies_true, lengths_foldl, List.length_map, State.anchor_lengths, State.countDrift_lengths, len_13_14]

theorem execDiagFaultClear_lengths (x0) (x1) (x2 : State) : (outState x2 (execDiagFaultClear x0 x1 x2)).lengths = x2.lengths := by
  unfold execDiagFaultClear
  simp only [implies_true, out_next, runCmd_lengths, opFaultClear_lengths]

theorem execDiagAbsorbedEvents_lengths (x0) (x1) (x2 : State) : (outState x2 (execDiagAbsorbedEvents x0 x1 x2)).lengths = x2.lengths := by
  unfold execDiagAbsorbedEvents
  simp only [implies_true, out_next, runCmd_lengths, opAbsorbedEvents_lengths]

theorem execSafetyStatus_lengths (x0) (x1) (x2 : State) : (outState x2 (execSafetyStatus x0 x1 x2)).lengths = x2.lengths := by
  unfold execSafetyStatus
  simp only [implies_true, out_next, runCmd_lengths, opSafetyStatus_lengths]

theorem execHandshakeTimeout_lengths (x0 : State) : (outState x0 (execHandshakeTimeout x0)).lengths = x0.lengths := by
  unfold execHandshakeTimeout
  repeat' (first | (simp only [lengths_ite, ite_self, implies_true, out_ite, out_next, out_fault, State.blockRefuses_lengths]; done) | (simp only [lengths_ite, ite_self, implies_true, out_ite, out_next, out_fault, State.blockRefuses_lengths]; split) | split | (simp only [lengths_ite, ite_self, implies_true, out_ite, out_next, out_fault, State.blockRefuses_lengths]; with_reducible refine (lengths_foldl _ _ _ fun x a => ?_).trans ?_) | with_reducible refine (lengths_foldl _ _ _ fun x a => ?_).trans ?_)

theorem execFeThermalShutdown_lengths (x0) (x1 : State) : (outState x1 (execFeThermalShutdown x0 x1)).lengths = x1.lengths := by
  unfold execFeThermalShutdown
  simp only [lengths_ite, ite_self, out_ite, out_next, out_fault, State.thermalTrip_lengths]

theorem execBalStop_lengths (x0) (x1) (x2 : State) : (outState x2 (execBalStop x0 x1 x2)).lengths = x2.lengths := by
  unfold execBalStop
  simp only [implies_true, out_next, opBalStop_lengths, runCmd_lengths]

theorem execStreamConfig_lengths (x0) (x1) (x2 : State) : (outState x2 (execStreamConfig x0 x1 x2)).lengths = x2.lengths := by
  unfold execStreamConfig
  simp only [implies_true, out_next, runCmd_lengths, opStreamConfig_lengths]

theorem execTableBlockStored_lengths (x0) (x1 : State) : (outState x1 (execTableBlockStored x0 x1)).lengths = x1.lengths := by
  unfold execTableBlockStored
  repeat' (first | (simp only [lengths_ite, ite_self, implies_true, out_ite, out_next, out_fault, State.complete_lengths, State.blockStored_lengths, len_19]; done) | (simp only [lengths_ite, ite_self, implies_true, out_ite, out_next, out_fault, State.complete_lengths, State.blockStored_lengths, len_19]; split) | split | (simp only [lengths_ite, ite_self, implies_true, out_ite, out_next, out_fault, State.complete_lengths, State.blockStored_lengths, len_19]; with_reducible refine (lengths_foldl _ _ _ fun x a => ?_).trans ?_) | with_reducible refine (lengths_foldl _ _ _ fun x a => ?_).trans ?_)

theorem State.handshakeStep_lengths (x0 : State) : (State.handshakeStep x0).lengths = x0.lengths := by
  unfold State.handshakeStep
  repeat' (first | (simp only [lengths_ite, ite_self, implies_true, State.draw_lengths, State.blockRefuses_lengths, State.blockAccepts_lengths, len_29]; done) | (simp only [lengths_ite, ite_self, implies_true, State.draw_lengths, State.blockRefuses_lengths, State.blockAccepts_lengths, len_29]; split) | split | (simp only [lengths_ite, ite_self, implies_true, State.draw_lengths, State.blockRefuses_lengths, State.blockAccepts_lengths, len_29]; with_reducible refine (lengths_foldl _ _ _ fun x a => ?_).trans ?_) | with_reducible refine (lengths_foldl _ _ _ fun x a => ?_).trans ?_)

theorem State.holdUndone_lengths (x0 : State) : (State.holdUndone x0).lengths = x0.lengths := by
  unfold State.holdUndone
  simp only [lengths_ite, ite_self, implies_true, lengths_foldl, State.holdStep_lengths, State.scaleJob_lengths, State.holdCurrent_lengths]

theorem execIdentify_lengths (x0) (x1) (x2 : State) : (outState x2 (execIdentify x0 x1 x2)).lengths = x2.lengths := by
  unfold execIdentify
  simp only [implies_true, out_next, runCmd_lengths, opIdentify_lengths]

theorem execWakeRecord_lengths (x0) (x1) (x2 : State) : (outState x2 (execWakeRecord x0 x1 x2)).lengths = x2.lengths := by
  unfold execWakeRecord
  simp only [implies_true, out_next, runCmd_lengths, opWakeRecord_lengths]

theorem execFaultRecordWrite_lengths (x0 : State) : (outState x0 (execFaultRecordWrite x0)).lengths = x0.lengths := by
  unfold execFaultRecordWrite
  simp only [lengths_ite, ite_self, out_next, State.writeConvRecord_lengths]

theorem execConvFaultRecord_lengths (x0) (x1) (x2 : State) : (outState x2 (execConvFaultRecord x0 x1 x2)).lengths = x2.lengths := by
  unfold execConvFaultRecord
  simp only [implies_true, out_next, runCmd_lengths, opConvFaultRecord_lengths]

theorem State.reading_lengths (x0 : State) (x1) : (State.reading x0 x1).lengths = x0.lengths := by
  unfold State.reading
  repeat' (first | (simp only [lengths_ite, ite_self, implies_true, State.evalThermal_lengths, State.badReading_lengths, State.gridReading_lengths, State.goodReading_lengths, State.dieReplies_lengths, len_12]; done) | (simp only [lengths_ite, ite_self, implies_true, State.evalThermal_lengths, State.badReading_lengths, State.gridReading_lengths, State.goodReading_lengths, State.dieReplies_lengths, len_12]; split) | split | (simp only [lengths_ite, ite_self, implies_true, State.evalThermal_lengths, State.badReading_lengths, State.gridReading_lengths, State.goodReading_lengths, State.dieReplies_lengths, len_12]; with_reducible refine (lengths_foldl _ _ _ fun x a => ?_).trans ?_) | with_reducible refine (lengths_foldl _ _ _ fun x a => ?_).trans ?_)

theorem execAuxOkClear_lengths (x0 : State) : (outState x0 (execAuxOkClear x0)).lengths = x0.lengths := by
  unfold execAuxOkClear
  repeat' (first | (simp only [lengths_ite, ite_self, implies_true, out_ite, out_next, out_fault, State.beginDrain_lengths, State.ownMode_lengths, len_29]; done) | (simp only [lengths_ite, ite_self, implies_true, out_ite, out_next, out_fault, State.beginDrain_lengths, State.ownMode_lengths, len_29]; split) | split | (simp only [lengths_ite, ite_self, implies_true, out_ite, out_next, out_fault, State.beginDrain_lengths, State.ownMode_lengths, len_29]; with_reducible refine (lengths_foldl _ _ _ fun x a => ?_).trans ?_) | with_reducible refine (lengths_foldl _ _ _ fun x a => ?_).trans ?_)

theorem execProtEventRecordWrite_lengths (x0 : State) : (outState x0 (execProtEventRecordWrite x0)).lengths = x0.lengths := by
  unfold execProtEventRecordWrite
  simp only [lengths_ite, ite_self, out_next, State.writeProtRecord_lengths, len_11]

theorem execSpiRegisterWrite_lengths (x0) (x1) (x2 : State) : (outState x2 (execSpiRegisterWrite x0 x1 x2)).lengths = x2.lengths := by
  unfold execSpiRegisterWrite
  simp only [out_next, State.spiTransaction_lengths]

theorem State.noSpare_lengths (x0 : State) (x1) : (State.noSpare x0 x1).lengths = x0.lengths := by
  unfold State.noSpare
  repeat' (first | (simp only [lengths_ite, ite_self, implies_true, State.takeOver_lengths, State.loseRole_lengths]; done) | (simp only [lengths_ite, ite_self, implies_true, State.takeOver_lengths, State.loseRole_lengths]; split) | split | (simp only [lengths_ite, ite_self, implies_true, State.takeOver_lengths, State.loseRole_lengths]; with_reducible refine (lengths_foldl _ _ _ fun x a => ?_).trans ?_) | with_reducible refine (lengths_foldl _ _ _ fun x a => ?_).trans ?_)

theorem opDiscard_lengths (x0) (x1) (x2 : State) : (opDiscard x0 x1 x2).s.lengths = x2.lengths := by
  unfold opDiscard
  simp only [okAns_s, State.discardTable_lengths, len_31]

theorem execTableWrite_lengths (x0) (x1) (x2 : State) : (outState x2 (execTableWrite x0 x1 x2)).lengths = x2.lengths := by
  unfold execTableWrite
  simp only [implies_true, out_next, runCmd_lengths, opTableWrite_lengths]

theorem execArmingReady_lengths (x0 : State) : (outState x0 (execArmingReady x0)).lengths = x0.lengths := by
  unfold execArmingReady
  simp only [lengths_ite, ite_self, out_next, State.armSafety_lengths, len_28]

theorem State.rebootLane_lengths (x0 : State) (x1) : (State.rebootLane x0 x1).lengths = x0.lengths := by
  unfold State.rebootLane
  simp only [lengths_ite, ite_self, State.laneAbsorb_lengths, State.modLane_lengths, State.retireLane_lengths, len_27]

theorem execBalPlan_lengths (x0) (x1) (x2 : State) : (outState x2 (execBalPlan x0 x1 x2)).lengths = x2.lengths := by
  unfold execBalPlan
  simp only [implies_true, out_next, runCmd_lengths, opBalPlan_lengths]

theorem State.firstStep_lengths (x0 : State) (x1) (x2) (x3) : (State.firstStep x0 x1 x2 x3).lengths = x0.lengths := by
  unfold State.firstStep
  simp only [lengths_ite, ite_self, State.absorb_lengths, State.restPoint_lengths, State.modEst_lengths, State.measureStep_lengths]

theorem opSafetyReset_lengths (x0) (x1) (x2 : State) : (opSafetyReset x0 x1 x2).s.lengths = x2.lengths := by
  unfold opSafetyReset
  repeat' (first | (simp only [lengths_ite, ite_self, implies_true, ans_ite, fail_s, refuse_s, okAns_s, State.journal_lengths, fail_lengths, okAns_lengths, State.armSafety_lengths]; done) | (simp only [lengths_ite, ite_self, implies_true, ans_ite, fail_s, refuse_s, okAns_s, State.journal_lengths, fail_lengths, okAns_lengths, State.armSafety_lengths]; split) | split | (simp only [lengths_ite, ite_self, implies_true, ans_ite, fail_s, refuse_s, okAns_s, State.journal_lengths, fail_lengths, okAns_lengths, State.armSafety_lengths]; with_reducible refine (lengths_foldl _ _ _ fun x a => ?_).trans ?_) | with_reducible refine (lengths_foldl _ _ _ fun x a => ?_).trans ?_)

theorem execDiagCurCal_lengths (x0) (x1) (x2 : State) : (outState x2 (execDiagCurCal x0 x1 x2)).lengths = x2.lengths := by
  unfold execDiagCurCal
  simp only [implies_true, out_next, runCmd_lengths, opCurCal_lengths]

theorem execDozeBlockAsk_lengths (x0 : State) : (outState x0 (execDozeBlockAsk x0)).lengths = x0.lengths := by
  unfold execDozeBlockAsk
  simp only [lengths_ite, ite_self, out_next, State.handshakeStep_lengths]

theorem State.writeAll_lengths (x0 : State) : (State.writeAll x0).lengths = x0.lengths := by
  unfold State.writeAll
  simp only [implies_true, lengths_foldl, State.finishImage_lengths, State.saveEst_lengths, State.writeProtRecord_lengths, State.writeConvRecord_lengths, len_10]

theorem State.currentAggJob_lengths (x0 : State) : (State.currentAggJob x0).lengths = x0.lengths := by
  unfold State.currentAggJob
  simp only [lengths_ite, ite_self, State.cfeWindow_lengths, State.settleBridge_lengths, State.sendRecord_lengths]

theorem State.reprovSteps_lengths (x0 : State) : (State.reprovSteps x0).lengths = x0.lengths := by
  unfold State.reprovSteps
  simp only [lengths_ite, ite_self, implies_true, lengths_foldl, State.challenge_lengths, State.complete_lengths, State.newKeys_lengths, len_34]

theorem execJournalRead_lengths (x0) (x1) (x2 : State) : (outState x2 (execJournalRead x0 x1 x2)).lengths = x2.lengths := by
  unfold execJournalRead
  simp only [implies_true, out_next, runCmd_lengths, opJournalRead_lengths]

theorem State.contactorMode_lengths (x0 : State) : (State.contactorMode x0).lengths = x0.lengths := by
  unfold State.contactorMode
  repeat' (first | (simp only [lengths_ite, ite_self, implies_true, State.requestContactors_lengths, State.complete_lengths, State.boundaryMode_lengths, len_28, len_0, len_0_28]; done) | (simp only [lengths_ite, ite_self, implies_true, State.requestContactors_lengths, State.complete_lengths, State.boundaryMode_lengths, len_28, len_0, len_0_28]; split) | split | (simp only [lengths_ite, ite_self, implies_true, State.requestContactors_lengths, State.complete_lengths, State.boundaryMode_lengths, len_28, len_0, len_0_28]; with_reducible refine (lengths_foldl _ _ _ fun x a => ?_).trans ?_) | with_reducible refine (lengths_foldl _ _ _ fun x a => ?_).trans ?_)

theorem execSafetyReset_lengths (x0) (x1) (x2 : State) : (outState x2 (execSafetyReset x0 x1 x2)).lengths = x2.lengths := by
  unfold execSafetyReset
  simp only [implies_true, out_next, runCmd_lengths, opSafetyReset_lengths]

theorem State.runLatchDue_lengths (x0 : State) (x1) : (State.runLatchDue x0 x1).lengths = x0.lengths := by
  unfold State.runLatchDue
  repeat' (first | (simp only [lengths_ite, ite_self, implies_true, opEisStart_lengths, State.complete_lengths, opConvEnable_lengths, State.runLatched_lengths, opBalPlan_lengths, len_23, len_20, len_16, len_16_20_23]; done) | (simp only [lengths_ite, ite_self, implies_true, opEisStart_lengths, State.complete_lengths, opConvEnable_lengths, State.runLatched_lengths, opBalPlan_lengths, len_23, len_20, len_16, len_16_20_23]; split) | split | (simp only [lengths_ite, ite_self, implies_true, opEisStart_lengths, State.complete_lengths, opConvEnable_lengths, State.runLatched_lengths, opBalPlan_lengths, len_23, len_20, len_16, len_16_20_23]; with_reducible refine (lengths_foldl _ _ _ fun x a => ?_).trans ?_) | with_reducible refine (lengths_foldl _ _ _ fun x a => ?_).trans ?_)

theorem execEnumerationEnd_lengths (x0) (x1 : State) : (outState x1 (execEnumerationEnd x0 x1)).lengths = x1.lengths := by
  unfold execEnumerationEnd
  repeat' (first | (simp only [lengths_ite, ite_self, implies_true, out_ite, out_next, out_fault, State.notify_lengths, State.takePosition_lengths, State.complete_lengths, len_25]; done) | (simp only [lengths_ite, ite_self, implies_true, out_ite, out_next, out_fault, State.notify_lengths, State.takePosition_lengths, State.complete_lengths, len_25]; split) | split | (simp only [lengths_ite, ite_self, implies_true, out_ite, out_next, out_fault, State.notify_lengths, State.takePosition_lengths, State.complete_lengths, len_25]; with_reducible refine (lengths_foldl _ _ _ fun x a => ?_).trans ?_) | with_reducible refine (lengths_foldl _ _ _ fun x a => ?_).trans ?_)

theorem execPowerState_lengths (x0) (x1) (x2 : State) : (outState x2 (execPowerState x0 x1 x2)).lengths = x2.lengths := by
  unfold execPowerState
  simp only [implies_true, out_next, runCmd_lengths, opPowerState_lengths]

theorem execFwVerifyComplete_lengths (x0 : State) : (outState x0 (execFwVerifyComplete x0)).lengths = x0.lengths := by
  unfold execFwVerifyComplete
  simp only [lengths_ite, ite_self, out_next, State.verifyEnds_lengths]

theorem State.convReachesOff_lengths (x0 : State) : (State.convReachesOff x0).lengths = x0.lengths := by
  unfold State.convReachesOff
  simp only [lengths_ite, ite_self, State.lawReset_lengths, State.serviceDone_lengths, State.complete_lengths, State.convOff_lengths, len_23]

theorem execReprovision_lengths (x0) (x1) (x2 : State) : (outState x2 (execReprovision x0 x1 x2)).lengths = x2.lengths := by
  unfold execReprovision
  simp only [implies_true, out_next, opReprovision_lengths, runCmd_lengths]

theorem execMode_lengths (x0) (x1) (x2 : State) : (outState x2 (execMode x0 x1 x2)).lengths = x2.lengths := by
  unfold execMode
  simp only [implies_true, out_next, runCmd_lengths, opMode_lengths]

theorem execAttest_lengths (x0) (x1) (x2 : State) : (outState x2 (execAttest x0 x1 x2)).lengths = x2.lengths := by
  unfold execAttest
  simp only [implies_true, out_next, runCmd_lengths, opAttest_lengths]

theorem execPing_lengths (x0) (x1) (x2 : State) : (outState x2 (execPing x0 x1 x2)).lengths = x2.lengths := by
  unfold execPing
  simp only [implies_true, out_next, runCmd_lengths, opPing_lengths]

theorem execConvSetpoint_lengths (x0) (x1) (x2 : State) : (outState x2 (execConvSetpoint x0 x1 x2)).lengths = x2.lengths := by
  unfold execConvSetpoint
  simp only [implies_true, out_next, runCmd_lengths, opConvSetpoint_lengths]

theorem State.settleEntry_lengths (x0 : State) : (State.settleEntry x0).lengths = x0.lengths :=
  lengths_of_hide (State.settleEntry_hide 1125894466690609 rfl x0)

theorem State.arbStep_lengths (x0 : State) (x1) : (State.arbStep x0 x1).lengths = x0.lengths := by
  unfold State.arbStep
  repeat' (first | (simp only [lengths_ite, ite_self, implies_true, State.modPan_lengths, State.verdict_lengths, State.restoreRole_lengths, State.retirePan_lengths, State.giveRole_lengths, len_9]; done) | (simp only [lengths_ite, ite_self, implies_true, State.modPan_lengths, State.verdict_lengths, State.restoreRole_lengths, State.retirePan_lengths, State.giveRole_lengths, len_9]; split) | split | (simp only [lengths_ite, ite_self, implies_true, State.modPan_lengths, State.verdict_lengths, State.restoreRole_lengths, State.retirePan_lengths, State.giveRole_lengths, len_9]; with_reducible refine (lengths_foldl _ _ _ fun x a => ?_).trans ?_) | with_reducible refine (lengths_foldl _ _ _ fun x a => ?_).trans ?_)

theorem execEisAbort_lengths (x0) (x1) (x2 : State) : (outState x2 (execEisAbort x0 x1 x2)).lengths = x2.lengths := by
  unfold execEisAbort
  simp only [implies_true, out_next, runCmd_lengths, opEisAbort_lengths]

theorem execDiagCellReset_lengths (x0) (x1) (x2 : State) : (outState x2 (execDiagCellReset x0 x1 x2)).lengths = x2.lengths := by
  unfold execDiagCellReset
  simp only [implies_true, out_next, runCmd_lengths, opCellReset_lengths]

theorem execRingStatus_lengths (x0) (x1) (x2 : State) : (outState x2 (execRingStatus x0 x1 x2)).lengths = x2.lengths := by
  unfold execRingStatus
  simp only [implies_true, out_next, runCmd_lengths, opRingStatus_lengths]

theorem execRingHeaderRx_lengths (x0) (x1) (x2) (x3) (x4 : State) : (outState x4 (execRingHeaderRx x0 x1 x2 x3 x4)).lengths = x4.lengths := by
  unfold execRingHeaderRx
  simp only [lengths_ite, ite_self, out_next, State.headerRx_lengths]

theorem execHealth_lengths (x0) (x1) (x2 : State) : (outState x2 (execHealth x0 x1 x2)).lengths = x2.lengths := by
  unfold execHealth
  simp only [implies_true, out_next, runCmd_lengths, opHealth_lengths]

theorem opCommit_lengths (x0) (x1) (x2 : State) : (opCommit x0 x1 x2).s.lengths = x2.lengths := by
  unfold opCommit
  repeat' (first | (simp only [lengths_ite, ite_self, implies_true, ans_ite, fail_s, refuse_s, okAns_s, lengths_foldl, State.commitOne_lengths, State.commitTable_lengths, fail_lengths, okAns_lengths, State.writeImage_lengths, len_0_31, len_31]; done) | (simp only [lengths_ite, ite_self, implies_true, ans_ite, fail_s, refuse_s, okAns_s, lengths_foldl, State.commitOne_lengths, State.commitTable_lengths, fail_lengths, okAns_lengths, State.writeImage_lengths, len_0_31, len_31]; split) | split | (simp only [lengths_ite, ite_self, implies_true, ans_ite, fail_s, refuse_s, okAns_s, lengths_foldl, State.commitOne_lengths, State.commitTable_lengths, fail_lengths, okAns_lengths, State.writeImage_lengths, len_0_31, len_31]; with_reducible refine (lengths_foldl _ _ _ fun x a => ?_).trans ?_) | with_reducible refine (lengths_foldl _ _ _ fun x a => ?_).trans ?_)

theorem execDiagProtEvents_lengths (x0) (x1) (x2 : State) : (outState x2 (execDiagProtEvents x0 x1 x2)).lengths = x2.lengths := by
  unfold execDiagProtEvents
  simp only [implies_true, out_next, opProtEvents_lengths, runCmd_lengths]

theorem opConvDisable_lengths (x0) (x1) (x2 : State) : (opConvDisable x0 x1 x2).s.lengths = x2.lengths := by
  unfold opConvDisable
  simp only [lengths_ite, ite_self, ans_ite, refuse_s, okAns_s, State.journalConv_lengths, State.beginDrain_lengths, len_23]

theorem State.completeMoves_lengths (x0 : State) : (State.completeMoves x0).lengths = x0.lengths := by
  unfold State.completeMoves
  simp only [lengths_ite, ite_self, implies_true, lengths_foldl, List.length_map, State.retireHalted_lengths, State.checkSpares_lengths, State.applyMove_lengths, State.arbStep_lengths, len_8]

theorem State.holdJob_lengths (x0 : State) (x1) (x2) : (State.holdJob x0 x1 x2).lengths = x0.lengths := by
  unfold State.holdJob
  repeat' (first | (simp only [lengths_ite, ite_self, implies_true, State.holdStep_lengths, State.scaleJob_lengths, State.holdCurrent_lengths]; done) | (simp only [lengths_ite, ite_self, implies_true, State.holdStep_lengths, State.scaleJob_lengths, State.holdCurrent_lengths]; split) | split | (simp only [lengths_ite, ite_self, implies_true, State.holdStep_lengths, State.scaleJob_lengths, State.holdCurrent_lengths]; with_reducible refine (lengths_foldl _ _ _ fun x a => ?_).trans ?_) | with_reducible refine (lengths_foldl _ _ _ fun x a => ?_).trans ?_)

theorem State.plausBranch_lengths (x0 : State) (x1) : (State.plausBranch x0 x1).lengths = x0.lengths := by
  unfold State.plausBranch
  simp only [implies_true, lengths_foldl, State.plausStamp_lengths]

theorem execEisResult_lengths (x0) (x1) (x2 : State) : (outState x2 (execEisResult x0 x1 x2)).lengths = x2.lengths := by
  unfold execEisResult
  simp only [implies_true, out_next, runCmd_lengths, opEisResult_lengths]

theorem execFwStage_lengths (x0) (x1) (x2 : State) : (outState x2 (execFwStage x0 x1 x2)).lengths = x2.lengths := by
  unfold execFwStage
  simp only [implies_true, out_next, runCmd_lengths, opFwStage_lengths]

theorem State.compareAnchor_lengths (x0 : State) (x1) (x2) : (State.compareAnchor x0 x1 x2).lengths = x0.lengths := by
  unfold State.compareAnchor
  repeat' (first | (simp only [lengths_ite, ite_self, implies_true, State.compare_lengths, State.modPan_lengths, State.shadowed_lengths]; done) | (simp only [lengths_ite, ite_self, implies_true, State.compare_lengths, State.modPan_lengths, State.shadowed_lengths]; split) | split | (simp only [lengths_ite, ite_self, implies_true, State.compare_lengths, State.modPan_lengths, State.shadowed_lengths]; with_reducible refine (lengths_foldl _ _ _ fun x a => ?_).trans ?_) | with_reducible refine (lengths_foldl _ _ _ fun x a => ?_).trans ?_)

theorem State.replace_lengths (x0 : State) (x1) : (State.replace x0 x1).lengths = x0.lengths := by
  unfold State.replace
  repeat' (first | (simp only [lengths_ite, ite_self, implies_true, State.modPan_lengths, State.modSlot_lengths, State.noSpare_lengths, State.loseRole_lengths]; done) | (simp only [lengths_ite, ite_self, implies_true, State.modPan_lengths, State.modSlot_lengths, State.noSpare_lengths, State.loseRole_lengths]; split) | split | (simp only [lengths_ite, ite_self, implies_true, State.modPan_lengths, State.modSlot_lengths, State.noSpare_lengths, State.loseRole_lengths]; with_reducible refine (lengths_foldl _ _ _ fun x a => ?_).trans ?_) | with_reducible refine (lengths_foldl _ _ _ fun x a => ?_).trans ?_)

theorem State.stepCell_lengths (x0 : State) (x1) : (State.stepCell x0 x1).lengths = x0.lengths := by
  unfold State.stepCell
  repeat' (first | (simp only [lengths_ite, ite_self, implies_true, State.nextStep_lengths, State.firstStep_lengths]; done) | (simp only [lengths_ite, ite_self, implies_true, State.nextStep_lengths, State.firstStep_lengths]; split) | split | (simp only [lengths_ite, ite_self, implies_true, State.nextStep_lengths, State.firstStep_lengths]; with_reducible refine (lengths_foldl _ _ _ fun x a => ?_).trans ?_) | with_reducible refine (lengths_foldl _ _ _ fun x a => ?_).trans ?_)

theorem execParamSet_lengths (x0) (x1) (x2 : State) : (outState x2 (execParamSet x0 x1 x2)).lengths = x2.lengths := by
  unfold execParamSet
  simp only [implies_true, out_next, runCmd_lengths, opParamSet_lengths]

theorem execCanTxComplete_lengths (x0) (x1) (x2) (x3 : State) : (outState x3 (execCanTxComplete x0 x1 x2 x3)).lengths = x3.lengths := by
  unfold execCanTxComplete
  simp only [out_next, State.canTxComplete_lengths]

theorem State.cfePacket_lengths (x0 : State) (x1) : (State.cfePacket x0 x1).lengths = x0.lengths := by
  unfold State.cfePacket
  simp only [lengths_ite, ite_self, State.cfeBad_lengths, State.cfeStore_lengths, State.cfeGood_lengths, len_5]

theorem execConvEnable_lengths (x0) (x1) (x2 : State) : (outState x2 (execConvEnable x0 x1 x2)).lengths = x2.lengths := by
  unfold execConvEnable
  simp only [implies_true, out_next, runCmd_lengths, opConvEnable_lengths]

theorem execReturnStageTimeout_lengths (x0 : State) : (outState x0 (execReturnStageTimeout x0)).lengths = x0.lengths := by
  unfold execReturnStageTimeout
  repeat' (first | (simp only [lengths_ite, ite_self, implies_true, out_ite, out_next, out_fault, State.freeze_lengths, State.absorb_lengths, State.settleReturn_lengths, State.loseUnloaded_lengths, State.toStage_lengths, State.portsRelink_lengths, State.coreFails_lengths, len_29]; done) | (simp only [lengths_ite, ite_self, implies_true, out_ite, out_next, out_fault, State.freeze_lengths, State.absorb_lengths, State.settleReturn_lengths, State.loseUnloaded_lengths, State.toStage_lengths, State.portsRelink_lengths, State.coreFails_lengths, len_29]; split) | split | (simp only [lengths_ite, ite_self, implies_true, out_ite, out_next, out_fault, State.freeze_lengths, State.absorb_lengths, State.settleReturn_lengths, State.loseUnloaded_lengths, State.toStage_lengths, State.portsRelink_lengths, State.coreFails_lengths, len_29]; with_reducible refine (lengths_foldl _ _ _ fun x a => ?_).trans ?_) | with_reducible refine (lengths_foldl _ _ _ fun x a => ?_).trans ?_)

theorem execEclipseHandover_lengths (x0) (x1 : State) : (outState x1 (execEclipseHandover x0 x1)).lengths = x1.lengths := by
  unfold execEclipseHandover
  simp only [lengths_ite, ite_self, out_next, State.endSwap_lengths, State.modLane_lengths, State.retireLane_lengths, len_27]

theorem State.readRing_lengths (x0 : State) (x1) (x2) : (State.readRing x0 x1 x2).lengths = x0.lengths := by
  unfold State.readRing
  simp only [implies_true, lengths_foldl, State.modCan_lengths, State.canTake_lengths]

theorem execProtOnlyReset_lengths (x0) (x1) (x2 : State) : (outState x2 (execProtOnlyReset x0 x1 x2)).lengths = x2.lengths := by
  unfold execProtOnlyReset
  repeat' (first | (simp only [lengths_ite, ite_self, implies_true, out_ite, out_next, out_fault, State.restart_lengths]; done) | (simp only [lengths_ite, ite_self, implies_true, out_ite, out_next, out_fault, State.restart_lengths]; split) | split | (simp only [lengths_ite, ite_self, implies_true, out_ite, out_next, out_fault, State.restart_lengths]; with_reducible refine (lengths_foldl _ _ _ fun x a => ?_).trans ?_) | with_reducible refine (lengths_foldl _ _ _ fun x a => ?_).trans ?_)

theorem State.movesAndSlices_lengths (x0 : State) : (State.movesAndSlices x0).lengths = x0.lengths := by
  unfold State.movesAndSlices
  simp only [lengths_ite, ite_self, implies_true, lengths_foldl, State.reloadSlices_lengths, State.completeMoves_lengths]

theorem State.harvest_lengths (x0 : State) (x1) (x2) : (State.harvest x0 x1 x2).lengths = x0.lengths := by
  unfold State.harvest
  simp only [State.ringStateOf_lengths, State.configCheck_lengths, State.protRelay_lengths, len_25]

theorem State.managePhases_lengths (x0 : State) : (State.managePhases x0).lengths = x0.lengths := by
  unfold State.managePhases
  simp only [lengths_ite, ite_self, State.checkShare_lengths, State.checkBusRange_lengths, State.checkSense_lengths, State.shareTrims_lengths, State.checkDrain_lengths, State.decideShed_lengths, len_23_24]

theorem State.convBoundary_lengths (x0 : State) : (State.convBoundary x0).lengths = x0.lengths := by
  unfold State.convBoundary
  simp only [lengths_ite, ite_self, State.checkOwner_lengths, State.releaseHwLatch_lengths, State.serviceDone_lengths, State.configurePhases_lengths, State.convReachesOff_lengths, len_23]

theorem State.assignRoles_lengths (x0 : State) : (State.assignRoles x0).lengths = x0.lengths := by
  unfold State.assignRoles
  repeat' (first | (simp only [lengths_ite, ite_self, implies_true, lengths_foldl, State.checkSpares_lengths, State.noSpare_lengths, State.giveRole_lengths]; done) | (simp only [lengths_ite, ite_self, implies_true, lengths_foldl, State.checkSpares_lengths, State.noSpare_lengths, State.giveRole_lengths]; split) | split | (simp only [lengths_ite, ite_self, implies_true, lengths_foldl, State.checkSpares_lengths, State.noSpare_lengths, State.giveRole_lengths]; with_reducible refine (lengths_foldl _ _ _ fun x a => ?_).trans ?_) | with_reducible refine (lengths_foldl _ _ _ fun x a => ?_).trans ?_)

theorem State.plausibilityJob_lengths (x0 : State) : (State.plausibilityJob x0).lengths = x0.lengths := by
  unfold State.plausibilityJob
  simp only [lengths_ite, ite_self, implies_true, lengths_foldl, State.takeover84_lengths, State.plausBranch_lengths, len_15]

theorem execCfeFramePacket_lengths (x0) (x1 : State) : (outState x1 (execCfeFramePacket x0 x1)).lengths = x1.lengths := by
  unfold execCfeFramePacket
  simp only [out_next, State.cfePacket_lengths]

theorem State.anchoredMoves_lengths (x0 : State) : (State.anchoredMoves x0).lengths = x0.lengths := by
  unfold State.anchoredMoves
  simp only [lengths_ite, ite_self, implies_true, lengths_foldl, State.applyMove_lengths, State.arbStep_lengths]

theorem execDieTempTimeout_lengths (x0 : State) : (outState x0 (execDieTempTimeout x0)).lengths = x0.lengths := by
  unfold execDieTempTimeout
  simp only [lengths_ite, ite_self, out_next, State.reading_lengths]

theorem State.laneFails_lengths (x0 : State) (x1) (x2) : (State.laneFails x0 x1 x2).lengths = x0.lengths := by
  unfold State.laneFails
  simp only [lengths_ite, ite_self, State.endSwap_lengths, State.rebootLane_lengths, State.retireLane_lengths, State.putOffSwap_lengths, State.releaseToken_lengths, len_27]

theorem State.moduleStep_lengths (x0 : State) (x1) : (State.moduleStep x0 x1).lengths = x0.lengths := by
  unfold State.moduleStep
  simp only [lengths_ite, ite_self, implies_true, lengths_foldl, List.length_map, State.rearmAnchors_lengths, State.emptyAnchor_lengths, State.pairPoint_lengths, State.fullCheck_lengths, len_13_14]

theorem State.recoveryBoundary_lengths (x0 : State) : (State.recoveryBoundary x0).lengths = x0.lengths :=
  lengths_of_hide (State.recoveryBoundary_hide 1125894466690609 rfl x0)

theorem execDieTempConversion_lengths (x0) (x1 : State) : (outState x1 (execDieTempConversion x0 x1)).lengths = x1.lengths := by
  unfold execDieTempConversion
  simp only [lengths_ite, ite_self, out_next, State.reading_lengths]

theorem execDiscard_lengths (x0) (x1) (x2 : State) : (outState x2 (execDiscard x0 x1 x2)).lengths = x2.lengths := by
  unfold execDiscard
  simp only [implies_true, out_next, runCmd_lengths, opDiscard_lengths]

theorem execStackLow_lengths (x0 : State) : (outState x0 (execStackLow x0)).lengths = x0.lengths :=
  lengths_of_hide (execStackLow_hide 1125894466690609 rfl x0)

theorem State.resetTail_lengths (x0 : State) : (State.resetTail x0).lengths = x0.lengths := by
  unfold State.resetTail
  simp only [lengths_ite, ite_self, State.restart_lengths, State.complete_lengths, State.writeAll_lengths, State.supersedeDeferred_lengths]

theorem execConvDisable_lengths (x0) (x1) (x2 : State) : (outState x2 (execConvDisable x0 x1 x2)).lengths = x2.lengths := by
  unfold execConvDisable
  simp only [implies_true, out_next, runCmd_lengths, opConvDisable_lengths]

theorem State.gatePans_lengths (x0 : State) (x1) : (State.gatePans x0 x1).lengths = x0.lengths := by
  unfold State.gatePans
  simp only [lengths_ite, ite_self, implies_true, lengths_foldl, List.length_map, State.replace_lengths, len_7_8_9]

theorem State.offends_lengths (x0 : State) (x1) : (State.offends x0 x1).lengths = x0.lengths := by
  unfold State.offends
  simp only [lengths_ite, ite_self, State.replace_lengths]

theorem State.watchSettles_lengths (x0 : State) : (State.watchSettles x0).lengths = x0.lengths :=
  lengths_of_hide (State.watchSettles_hide 1125894466690609 rfl x0)

theorem execMirrorRx_lengths (x0) (x1) (x2 : State) : (outState x2 (execMirrorRx x0 x1 x2)).lengths = x2.lengths := by
  unfold execMirrorRx
  simp only [lengths_ite, ite_self, out_next, State.modLane_lengths, State.laneFails_lengths]

theorem State.stepJob_lengths (x0 : State) (x1) : (State.stepJob x0 x1).lengths = x0.lengths := by
  unfold State.stepJob
  repeat' (first | (simp only [lengths_ite, ite_self, implies_true, lengths_foldl, State.stepCell_lengths, State.moduleStep_lengths]; done) | (simp only [lengths_ite, ite_self, implies_true, lengths_foldl, State.stepCell_lengths, State.moduleStep_lengths]; split) | split | (simp only [lengths_ite, ite_self, implies_true, lengths_foldl, State.stepCell_lengths, State.moduleStep_lengths]; with_reducible refine (lengths_foldl _ _ _ fun x a => ?_).trans ?_) | with_reducible refine (lengths_foldl _ _ _ fun x a => ?_).trans ?_)

theorem execEclipseCheckEnd_lengths (x0) (x1) (x2 : State) : (outState x2 (execEclipseCheckEnd x0 x1 x2)).lengths = x2.lengths := by
  unfold execEclipseCheckEnd
  simp only [lengths_ite, ite_self, out_next, State.endSwap_lengths, State.modLane_lengths, State.laneFails_lengths, len_27]

theorem execCommit_lengths (x0) (x1) (x2 : State) : (outState x2 (execCommit x0 x1 x2)).lengths = x2.lengths := by
  unfold execCommit
  simp only [implies_true, out_next, runCmd_lengths, opCommit_lengths]

theorem State.runJob_lengths (x0 : State) (x1) (x2) : (State.runJob x0 x1 x2).lengths = x0.lengths := by
  unfold State.runJob
  repeat' (first | (simp only [lengths_ite, ite_self, implies_true, State.specJob_lengths, State.scaleJob_lengths, State.summaryJob_lengths, State.openWireJob_lengths, State.sumHarvest_lengths, State.patternJob_lengths, State.coherenceJob_lengths, State.powerLimitsJob_lengths, State.eventWriteJob_lengths, State.crossJob_lengths, State.refineJob_lengths, State.plausibilityJob_lengths, State.threshJob_lengths, State.strapJob_lengths, State.thermoJob_lengths, State.healthJob_lengths, State.currentAggJob_lengths, State.leadRJob_lengths, State.stepJob_lengths, State.slotPlanJob_lengths, State.stringJob_lengths]; done) | (simp only [lengths_ite, ite_self, implies_true, State.specJob_lengths, State.scaleJob_lengths, State.summaryJob_lengths, State.openWireJob_lengths, State.sumHarvest_lengths, State.patternJob_lengths, State.coherenceJob_lengths, State.powerLimitsJob_lengths, State.eventWriteJob_lengths, State.crossJob_lengths, State.refineJob_lengths, State.plausibilityJob_lengths, State.threshJob_lengths, State.strapJob_lengths, State.thermoJob_lengths, State.healthJob_lengths, State.currentAggJob_lengths, State.leadRJob_lengths, State.stepJob_lengths, State.slotPlanJob_lengths, State.stringJob_lengths]; split) | split | (simp only [lengths_ite, ite_self, implies_true, State.specJob_lengths, State.scaleJob_lengths, State.summaryJob_lengths, State.openWireJob_lengths, State.sumHarvest_lengths, State.patternJob_lengths, State.coherenceJob_lengths, State.powerLimitsJob_lengths, State.eventWriteJob_lengths, State.crossJob_lengths, State.refineJob_lengths, State.plausibilityJob_lengths, State.threshJob_lengths, State.strapJob_lengths, State.thermoJob_lengths, State.healthJob_lengths, State.currentAggJob_lengths, State.leadRJob_lengths, State.stepJob_lengths, State.slotPlanJob_lengths, State.stringJob_lengths]; with_reducible refine (lengths_foldl _ _ _ fun x a => ?_).trans ?_) | with_reducible refine (lengths_foldl _ _ _ fun x a => ?_).trans ?_)

theorem State.canFrameRx_lengths (x0 : State) (x1) (x2) (x3) (x4) (x5) : (State.canFrameRx x0 x1 x2 x3 x4 x5).lengths = x0.lengths := by
  unfold State.canFrameRx
  simp only [lengths_ite, ite_self, State.readRing_lengths, State.modCan_lengths, State.settleBus_lengths]

theorem runDiag_lengths (x0) (x1) (x2) (x3 : State) : (runDiag x0 x1 x2 x3).lengths = x3.lengths := by
  unfold runDiag
  repeat' (first | (simp only [lengths_ite, ite_self, implies_true, out_next, execDiagThermoCal_lengths, execDiagPowerTest_lengths, execDiagDieTemp_lengths, execDiagFaultClear_lengths, execDiagAbsorbedEvents_lengths, execDiagCurCal_lengths, execDiagCellReset_lengths, execDiagProtEvents_lengths]; done) | (simp only [lengths_ite, ite_self, implies_true, out_next, execDiagThermoCal_lengths, execDiagPowerTest_lengths, execDiagDieTemp_lengths, execDiagFaultClear_lengths, execDiagAbsorbedEvents_lengths, execDiagCurCal_lengths, execDiagCellReset_lengths, execDiagProtEvents_lengths]; split) | split | (simp only [lengths_ite, ite_self, implies_true, out_next, execDiagThermoCal_lengths, execDiagPowerTest_lengths, execDiagDieTemp_lengths, execDiagFaultClear_lengths, execDiagAbsorbedEvents_lengths, execDiagCurCal_lengths, execDiagCellReset_lengths, execDiagProtEvents_lengths]; with_reducible refine (lengths_foldl _ _ _ fun x a => ?_).trans ?_) | with_reducible refine (lengths_foldl _ _ _ fun x a => ?_).trans ?_)

theorem State.panFails_lengths (x0 : State) (x1) (x2) : (State.panFails x0 x1 x2).lengths = x0.lengths := by
  unfold State.panFails
  repeat' (first | (simp only [lengths_ite, ite_self, implies_true, lengths_foldl, State.modPan_lengths, State.modSlot_lengths, State.checkSpares_lengths, State.replace_lengths, len_9]; done) | (simp only [lengths_ite, ite_self, implies_true, lengths_foldl, State.modPan_lengths, State.modSlot_lengths, State.checkSpares_lengths, State.replace_lengths, len_9]; split) | split | (simp only [lengths_ite, ite_self, implies_true, lengths_foldl, State.modPan_lengths, State.modSlot_lengths, State.checkSpares_lengths, State.replace_lengths, len_9]; with_reducible refine (lengths_foldl _ _ _ fun x a => ?_).trans ?_) | with_reducible refine (lengths_foldl _ _ _ fun x a => ?_).trans ?_)

theorem State.powerBoundary_lengths (x0 : State) : (State.powerBoundary x0).lengths = x0.lengths := by
  unfold State.powerBoundary
  simp only [State.handshakeStep_lengths, State.recoveryBoundary_lengths, State.wakeBoundary_lengths, State.watchSettles_lengths]

theorem State.pansUp_lengths (x0 : State) : (State.pansUp x0).lengths = x0.lengths := by
  unfold State.pansUp
  simp only [lengths_ite, ite_self, State.withdrawCause_lengths, State.assignRoles_lengths, State.wantSlices_lengths, State.ungatePans_lengths]

theorem State.fitRoles_lengths (x0 : State) : (State.fitRoles x0).lengths = x0.lengths := by
  unfold State.fitRoles
  repeat' (first | (simp only [lengths_ite, ite_self, implies_true, lengths_foldl, setAt, List.length_map, List.length_modify, List.length_zipIdx, List.length_range, State.assignRoles_lengths, State.modSlot_lengths, State.toPool_lengths, len_7_9]; done) | (simp only [lengths_ite, ite_self, implies_true, lengths_foldl, setAt, List.length_map, List.length_modify, List.length_zipIdx, List.length_range, State.assignRoles_lengths, State.modSlot_lengths, State.toPool_lengths, len_7_9]; split) | split | (simp only [lengths_ite, ite_self, implies_true, lengths_foldl, setAt, List.length_map, List.length_modify, List.length_zipIdx, List.length_range, State.assignRoles_lengths, State.modSlot_lengths, State.toPool_lengths, len_7_9]; with_reducible refine (lengths_foldl _ _ _ fun x a => ?_).trans ?_) | with_reducible refine (lengths_foldl _ _ _ fun x a => ?_).trans ?_)

theorem State.laneWork_lengths (x0 : State) : (State.laneWork x0).lengths = x0.lengths := by
  unfold State.laneWork
  simp only [State.flushNotices_lengths, State.readRing_lengths, State.flushTamper_lengths, State.canFilter_lengths, State.canConfigure_lengths, State.balBoundary_lengths, State.balReport_lengths, State.sweepBoundary_lengths, State.streamRecords_lengths, State.dieDemand_lengths, State.watchBoundary_lengths, State.swapBoundary_lengths, State.ringBoundary_lengths, len_0_27_29]

theorem execHarvestComplete_lengths (x0) (x1) (x2 : State) : (outState x2 (execHarvestComplete x0 x1 x2)).lengths = x2.lengths := by
  unfold execHarvestComplete
  simp only [lengths_ite, ite_self, out_next, State.harvest_lengths]

theorem execTokenWatchdogExpire_lengths (x0 : State) : (outState x0 (execTokenWatchdogExpire x0)).lengths = x0.lengths := by
  unfold execTokenWatchdogExpire
  simp only [lengths_ite, ite_self, out_next, State.laneFails_lengths]

theorem State.eccErrors_lengths (x0 : State) (x1) (x2) : (State.eccErrors x0 x1 x2).lengths = x0.lengths := by
  unfold State.eccErrors
  simp only [lengths_ite, ite_self, State.modPan_lengths, State.panFails_lengths]

theorem State.controlSample_lengths (x0 : State) (x1) (x2) (x3) (x4) (x5) : (State.controlSample x0 x1 x2 x3 x4 x5).lengths = x0.lengths := by
  unfold State.controlSample
  simp only [lengths_ite, ite_self, State.managePhases_lengths, State.supervise_lengths, State.takeReadings_lengths, State.runLaw_lengths, State.safeStep_lengths, State.lawInputs_lengths, State.excStep_lengths, len_5_23_24_27]

theorem execLaneHardFault_lengths (x0) (x1) (x2 : State) : (outState x2 (execLaneHardFault x0 x1 x2)).lengths = x2.lengths := by
  unfold execLaneHardFault
  simp only [lengths_ite, ite_self, out_next, State.modLane_lengths, State.laneFails_lengths]

theorem execAonPowerLoss_lengths (x0 : State) : (outState x0 (execAonPowerLoss x0)).lengths = x0.lengths := by
  unfold execAonPowerLoss
  simp only [lengths_ite, ite_self, out_next, State.lanesDown_lengths, State.safetyOff_lengths, State.portsDown_lengths, State.convOff_lengths, State.gatePans_lengths, len_25_27_29]

theorem execReset_lengths (x0) (x1) (x2 : State) : (outState x2 (execReset x0 x1 x2)).lengths = x2.lengths := by
  unfold execReset
  simp only [lengths_ite, ite_self, implies_true, out_next, runCmd_lengths, opReset_lengths, State.resetTail_lengths]

theorem execControlSubperiod_lengths (x0) (x1) (x2) (x3) (x4) (x5 : State) : (outState x5 (execControlSubperiod x0 x1 x2 x3 x4 x5)).lengths = x5.lengths := by
  unfold execControlSubperiod
  simp only [lengths_ite, ite_self, out_ite, out_next, out_fault, State.controlSample_lengths]

theorem State.windowEnds_lengths (x0 : State) (x1) (x2) : (State.windowEnds x0 x1 x2).lengths = x0.lengths := by
  unfold State.windowEnds
  simp only [lengths_ite, ite_self, State.closeWindow_lengths, State.offends_lengths, len_11]

theorem runOpcode_lengths (x0) (x1) (x2) (x3 : State) : (runOpcode x0 x1 x2 x3).lengths = x3.lengths := by
  unfold runOpcode
  repeat' (first | (simp only [lengths_ite, ite_self, implies_true, out_next, execParamSet_lengths, execConvEnable_lengths, runCmd_lengths, opReset_lengths, execSnapshot_lengths, execEclipseSwap_lengths, execTableRead_lengths, execFwActivate_lengths, execRingEnumerate_lengths, execParamGet_lengths, execEisStart_lengths, execSafetyStatus_lengths, execBalStop_lengths, execStreamConfig_lengths, execIdentify_lengths, execWakeRecord_lengths, execConvFaultRecord_lengths, execDiscard_lengths, execTableWrite_lengths, execConvDisable_lengths, execBalPlan_lengths, execJournalRead_lengths, execSafetyReset_lengths, execPowerState_lengths, execReprovision_lengths, execMode_lengths, execAttest_lengths, execPing_lengths, execConvSetpoint_lengths, execEisAbort_lengths, execCommit_lengths, execRingStatus_lengths, runDiag_lengths, execHealth_lengths, execEisResult_lengths, execFwStage_lengths]; done) | (simp only [lengths_ite, ite_self, implies_true, out_next, execParamSet_lengths, execConvEnable_lengths, runCmd_lengths, opReset_lengths, execSnapshot_lengths, execEclipseSwap_lengths, execTableRead_lengths, execFwActivate_lengths, execRingEnumerate_lengths, execParamGet_lengths, execEisStart_lengths, execSafetyStatus_lengths, execBalStop_lengths, execStreamConfig_lengths, execIdentify_lengths, execWakeRecord_lengths, execConvFaultRecord_lengths, execDiscard_lengths, execTableWrite_lengths, execConvDisable_lengths, execBalPlan_lengths, execJournalRead_lengths, execSafetyReset_lengths, execPowerState_lengths, execReprovision_lengths, execMode_lengths, execAttest_lengths, execPing_lengths, execConvSetpoint_lengths, execEisAbort_lengths, execCommit_lengths, execRingStatus_lengths, runDiag_lengths, execHealth_lengths, execEisResult_lengths, execFwStage_lengths]; split) | split | (simp only [lengths_ite, ite_self, implies_true, out_next, execParamSet_lengths, execConvEnable_lengths, runCmd_lengths, opReset_lengths, execSnapshot_lengths, execEclipseSwap_lengths, execTableRead_lengths, execFwActivate_lengths, execRingEnumerate_lengths, execParamGet_lengths, execEisStart_lengths, execSafetyStatus_lengths, execBalStop_lengths, execStreamConfig_lengths, execIdentify_lengths, execWakeRecord_lengths, execConvFaultRecord_lengths, execDiscard_lengths, execTableWrite_lengths, execConvDisable_lengths, execBalPlan_lengths, execJournalRead_lengths, execSafetyReset_lengths, execPowerState_lengths, execReprovision_lengths, execMode_lengths, execAttest_lengths, execPing_lengths, execConvSetpoint_lengths, execEisAbort_lengths, execCommit_lengths, execRingStatus_lengths, runDiag_lengths, execHealth_lengths, execEisResult_lengths, execFwStage_lengths]; with_reducible refine (lengths_foldl _ _ _ fun x a => ?_).trans ?_) | with_reducible refine (lengths_foldl _ _ _ fun x a => ?_).trans ?_)

theorem execPanHardFault_lengths (x0) (x1) (x2 : State) : (outState x2 (execPanHardFault x0 x1 x2)).lengths = x2.lengths := by
  unfold execPanHardFault
  simp only [lengths_ite, ite_self, out_ite, out_next, out_fault, State.panFails_lengths]

theorem State.lateSet_lengths (x0 : State) (x1) : (State.lateSet x0 x1).lengths = x0.lengths := by
  unfold State.lateSet
  repeat' (first | (simp only [lengths_ite, ite_self, implies_true, State.convStop_lengths, State.panFails_lengths]; done) | (simp only [lengths_ite, ite_self, implies_true, State.convStop_lengths, State.panFails_lengths]; split) | split | (simp only [lengths_ite, ite_self, implies_true, State.convStop_lengths, State.panFails_lengths]; with_reducible refine (lengths_foldl _ _ _ fun x a => ?_).trans ?_) | with_reducible refine (lengths_foldl _ _ _ fun x a => ?_).trans ?_)

theorem State.entryAction_lengths (x0 : State) (x1) : (State.entryAction x0 x1).lengths = x0.lengths := by
  unfold State.entryAction
  repeat' (first | (simp only [lengths_ite, ite_self, implies_true, setAt, List.length_map, List.length_modify, List.length_zipIdx, List.length_range, fe_len (State.safetyOff_lengths _), State.lanesDown_lengths, State.safetyOff_lengths, State.portsDown_lengths, State.threshJob_lengths, State.convOff_lengths, State.gatesOff_lengths, State.gatePans_lengths, State.writeAll_lengths, len_23, len_1_5_25, len_1, len_1_5_23_25]; done) | (simp only [lengths_ite, ite_self, implies_true, setAt, List.length_map, List.length_modify, List.length_zipIdx, List.length_range, fe_len (State.safetyOff_lengths _), State.lanesDown_lengths, State.safetyOff_lengths, State.portsDown_lengths, State.threshJob_lengths, State.convOff_lengths, State.gatesOff_lengths, State.gatePans_lengths, State.writeAll_lengths, len_23, len_1_5_25, len_1, len_1_5_23_25]; split) | split | (simp only [lengths_ite, ite_self, implies_true, setAt, List.length_map, List.length_modify, List.length_zipIdx, List.length_range, fe_len (State.safetyOff_lengths _), State.lanesDown_lengths, State.safetyOff_lengths, State.portsDown_lengths, State.threshJob_lengths, State.convOff_lengths, State.gatesOff_lengths, State.gatePans_lengths, State.writeAll_lengths, len_23, len_1_5_25, len_1, len_1_5_23_25]; with_reducible refine (lengths_foldl _ _ _ fun x a => ?_).trans ?_) | with_reducible refine (lengths_foldl _ _ _ fun x a => ?_).trans ?_)

theorem State.commitCells_lengths (x0 : State) : (State.commitCells x0).lengths = x0.lengths := by
  unfold State.commitCells
  simp only [lengths_ite, ite_self, implies_true, lengths_foldl, State.startRelink_lengths, State.endSweep_lengths, State.modChan_lengths, State.balDrain_lengths, State.stopWatch_lengths, State.downOutputs_lengths, State.modFe_lengths, State.linksUp_lengths, State.wantSlice_lengths, State.fitRoles_lengths]

theorem execCanFrameRx_lengths (x0) (x1) (x2) (x3) (x4) (x5 : State) : (outState x5 (execCanFrameRx x0 x1 x2 x3 x4 x5)).lengths = x5.lengths := by
  unfold execCanFrameRx
  simp only [out_next, State.canFrameRx_lengths]

theorem execComputeWindowEnd_lengths (x0) (x1) (x2 : State) : (outState x2 (execComputeWindowEnd x0 x1 x2)).lengths = x2.lengths := by
  unfold execComputeWindowEnd
  simp only [lengths_ite, ite_self, out_ite, out_next, out_fault, State.windowEnds_lengths]

theorem State.doStep_lengths (x0 : State) : (State.doStep x0).lengths = x0.lengths := by
  unfold State.doStep
  repeat' (first | (simp only [lengths_ite, ite_self, implies_true, State.entryAction_lengths, State.settleEntry_lengths, len_29]; done) | (simp only [lengths_ite, ite_self, implies_true, State.entryAction_lengths, State.settleEntry_lengths, len_29]; split) | split | (simp only [lengths_ite, ite_self, implies_true, State.entryAction_lengths, State.settleEntry_lengths, len_29]; with_reducible refine (lengths_foldl _ _ _ fun x a => ?_).trans ?_) | with_reducible refine (lengths_foldl _ _ _ fun x a => ?_).trans ?_)

theorem State.jobDone_lengths (x0 : State) (x1) (x2) (x3) (x4) : (State.jobDone x0 x1 x2 x3 x4).lengths = x0.lengths := by
  unfold State.jobDone
  simp only [lengths_ite, ite_self, State.compare_lengths, State.eccErrors_lengths, State.absorb_lengths, State.modPan_lengths, State.shadowed_lengths, State.noteDone_lengths, State.jobFlags_lengths, State.runJob_lengths, State.holdJob_lengths]

theorem execReturnStageReady_lengths (x0) (x1 : State) : (outState x1 (execReturnStageReady x0 x1)).lengths = x1.lengths := by
  unfold execReturnStageReady
  repeat' (first | (simp only [lengths_ite, ite_self, implies_true, out_ite, out_next, out_fault, State.portsUp_lengths, State.settleReturn_lengths, State.toStage_lengths, State.lanesUp_lengths, State.pansUp_lengths]; done) | (simp only [lengths_ite, ite_self, implies_true, out_ite, out_next, out_fault, State.portsUp_lengths, State.settleReturn_lengths, State.toStage_lengths, State.lanesUp_lengths, State.pansUp_lengths]; split) | split | (simp only [lengths_ite, ite_self, implies_true, out_ite, out_next, out_fault, State.portsUp_lengths, State.settleReturn_lengths, State.toStage_lengths, State.lanesUp_lengths, State.pansUp_lengths]; with_reducible refine (lengths_foldl _ _ _ fun x a => ?_).trans ?_) | with_reducible refine (lengths_foldl _ _ _ fun x a => ?_).trans ?_)

theorem State.runPacket_lengths (x0 : State) (x1) : (State.runPacket x0 x1).lengths = x0.lengths := by
  unfold State.runPacket
  repeat' (first | (simp only [lengths_ite, ite_self, implies_true, runOpcode_lengths]; done) | (simp only [lengths_ite, ite_self, implies_true, runOpcode_lengths]; split) | split | (simp only [lengths_ite, ite_self, implies_true, runOpcode_lengths]; with_reducible refine (lengths_foldl _ _ _ fun x a => ?_).trans ?_) | with_reducible refine (lengths_foldl _ _ _ fun x a => ?_).trans ?_)

theorem execEntryForced_lengths (x0 : State) : (outState x0 (execEntryForced x0)).lengths = x0.lengths := by
  unfold execEntryForced
  simp only [lengths_ite, ite_self, implies_true, out_next, lengths_foldl, State.absorb_lengths, State.doStep_lengths, State.settleEntry_lengths, len_16_20]

theorem execPanJobComplete_lengths (x0) (x1) (x2) (x3 : State) : (outState x3 (execPanJobComplete x0 x1 x2 x3)).lengths = x3.lengths := by
  unfold execPanJobComplete
  repeat' (first | (simp only [lengths_ite, ite_self, implies_true, out_ite, out_next, out_fault, State.jobDone_lengths]; done) | (simp only [lengths_ite, ite_self, implies_true, out_ite, out_next, out_fault, State.jobDone_lengths]; split) | split | (simp only [lengths_ite, ite_self, implies_true, out_ite, out_next, out_fault, State.jobDone_lengths]; with_reducible refine (lengths_foldl _ _ _ fun x a => ?_).trans ?_) | with_reducible refine (lengths_foldl _ _ _ fun x a => ?_).trans ?_)

theorem State.controlOutput_lengths (x0 : State) (x1) (x2) (x3) (x4) (x5) (x6) : (State.controlOutput x0 x1 x2 x3 x4 x5 x6).lengths = x0.lengths := by
  unfold State.controlOutput
  simp only [lengths_ite, ite_self, State.startOutput_lengths, State.eisLimited_lengths, State.takeLawSet_lengths, State.checkpoint_lengths, State.lateSet_lengths, State.countSets_lengths, State.lostAnchors_lengths, State.takePhaseSet_lengths, State.compareAnchor_lengths, len_24]

theorem execEntryStepComplete_lengths (x0 : State) : (outState x0 (execEntryStepComplete x0)).lengths = x0.lengths := by
  unfold execEntryStepComplete
  repeat' (first | (simp only [lengths_ite, ite_self, implies_true, out_ite, out_next, out_fault, State.doStep_lengths]; done) | (simp only [lengths_ite, ite_self, implies_true, out_ite, out_next, out_fault, State.doStep_lengths]; split) | split | (simp only [lengths_ite, ite_self, implies_true, out_ite, out_next, out_fault, State.doStep_lengths]; with_reducible refine (lengths_foldl _ _ _ fun x a => ?_).trans ?_) | with_reducible refine (lengths_foldl _ _ _ fun x a => ?_).trans ?_)

theorem State.applyCommit_lengths (x0 : State) : (State.applyCommit x0).lengths = x0.lengths := by
  unfold State.applyCommit
  simp only [implies_true, State.commitPosition_lengths, State.endSweep_lengths, State.evalThermal_lengths, State.stopWatch_lengths, State.canConfigure_lengths, State.commitEclipse_lengths, State.loadSafetySet_lengths, State.commitCells_lengths, State.commitPolicy_lengths, State.commitCfe_lengths, State.applyEstMode_lengths, State.initCells_lengths, State.owOpenCause_lengths, State.commitProtection_lengths, State.commitStep_lengths, State.trimStreams_lengths, len_0_25]

theorem State.runDue_lengths (x0 : State) (x1) : (State.runDue x0 x1).lengths = x0.lengths := by
  unfold State.runDue
  simp only [implies_true, lengths_foldl, State.runLatchDue_lengths, State.runPacket_lengths, len_27]

theorem execControlOutput_lengths (x0) (x1) (x2) (x3) (x4) (x5) (x6 : State) : (outState x6 (execControlOutput x0 x1 x2 x3 x4 x5 x6)).lengths = x6.lengths := by
  unfold execControlOutput
  simp only [lengths_ite, ite_self, out_next, State.controlOutput_lengths]

theorem State.lanePart_lengths (x0 : State) : (State.lanePart x0).lengths = x0.lengths := by
  unfold State.lanePart
  simp only [State.reportPower_lengths, State.flushNotices_lengths, State.movesAndSlices_lengths, State.convBoundary_lengths, State.applyOutputs_lengths, State.applyCommit_lengths, State.checkVerify_lengths, State.runDue_lengths, State.reprovSteps_lengths, State.contactorMode_lengths, State.balReachesOff_lengths, len_31]

theorem State.stepsOf_lengths (x0) (x1) (x2 : State) : (State.stepsOf x0 x1 x2).lengths = x2.lengths := by
  unfold State.stepsOf
  simp only [lengths_ite, ite_self, State.takeSlices_lengths, State.lanePart_lengths, State.windowWork_lengths, State.anchoredMoves_lengths, State.holdUndone_lengths, State.startWindow_lengths, State.sendMirror_lengths, State.takeDecision_lengths, State.laneWork_lengths]

theorem State.replay_lengths (x0 : State) : (State.replay x0).lengths = x0.lengths := by
  unfold State.replay
  simp only [implies_true, lengths_foldl, State.asOf_lengths, State.lanePart_lengths, State.skipRecords_lengths, State.dieDemand_lengths, State.freshBoundary_lengths, len_31]

theorem State.gapEnds_lengths (x0 : State) : (State.gapEnds x0).lengths = x0.lengths := by
  unfold State.gapEnds
  simp only [lengths_ite, ite_self, State.replay_lengths, len_27]

theorem State.boundaryBody_lengths (x0) (x1 : State) : (State.boundaryBody x0 x1).lengths = x1.lengths := by
  unfold State.boundaryBody
  simp only [State.stepsOf_lengths, State.gapEnds_lengths, State.powerBoundary_lengths, State.freshBoundary_lengths]

theorem State.boundary_lengths (x0 : State) (x1) : (State.boundary x0 x1).lengths = x0.lengths := by
  unfold State.boundary
  simp only [lengths_ite, ite_self, implies_true, State.closeWindow_lengths, State.asOf_lengths, State.boundaryBody_lengths, State.resetTail_lengths, len_11]

theorem execFrameBoundary_lengths (x0) (x1 : State) : (outState x1 (execFrameBoundary x0 x1)).lengths = x1.lengths := by
  unfold execFrameBoundary
  simp only [out_next, State.boundary_lengths]



end Sys2Proof.Machine
end

