-- ==== Sys2Proof/Laws/Units.lean ====
section
/-!
SUPPORT. What the shared operations do, said once: notices and absorbed events, the cause register, stops and trips, lanes,
power entries and returns, CAN ports, keys.
-/

namespace Sys2Proof.Machine

set_option linter.unusedSimpArgs false
set_option linter.unreachableTactic false
set_option linter.unusedTactic false
set_option linter.unusedVariables false

/-! ### Bits -/

theorem setBit_true_getLsbD {n} (x : BitVec n) (i j : Nat) (hi : i < n) : (setBit x i true).getLsbD j = (decide (i = j) || x.getLsbD j) := by
  unfold setBit
  rw [if_pos rfl, BitVec.getLsbD_or, BitVec.getLsbD_ofNat, Nat.testBit_two_pow]
  by_cases h : i = j
  · subst h; simp [hi]
  · simp [h]

theorem setBit_getLsbD {n} (x : BitVec n) (i j : Nat) (b : Bool) (hi : i < n) : (setBit x i b).getLsbD j = (if i = j then b else x.getLsbD j) := by
  cases b
  · unfold setBit
    rw [if_neg (by decide), BitVec.getLsbD_and, BitVec.getLsbD_not, BitVec.getLsbD_ofNat, Nat.testBit_two_pow]
    by_cases h : i = j
    · subst h; simp [hi]
    · by_cases hj : j < n
      · simp [h, hj]
      · simp [h, BitVec.getLsbD_of_ge x j (by omega)]
  · rw [setBit_true_getLsbD _ _ _ hi]
    by_cases h : i = j <;> simp [h]

/-! ### Notices, absorbed events, completions -/

theorem sendNotice_ploza (s : State) (x) : (s.sendNotice x).ploza = s.ploza := foldl_keeps _ State.ploza (by simp) _ _

theorem notify_ploza (s : State) (a b) : ∃ l, (s.notify a b).ploza = { s.ploza with notices := l } := by
  unfold State.notify; dsimp only
  split
  · rw [sendNotice_ploza]; exact ⟨_, rfl⟩
  · exact ⟨_, rfl⟩

theorem absorb_ploza (s : State) (a b c d e) : ∃ l, (s.absorb a b c d e).ploza = { s.ploza with notices := l } := by
  unfold State.absorb
  split
  · exact ⟨_, rfl⟩
  · exact notify_ploza _ _ _

theorem noticeOn_ring (s : State) (p n) : ∃ q, (s.noticeOn p n).ring = { s.ring with upQueue := q } := by
  unfold State.noticeOn
  cases p
  case ring => dsimp only; split <;> exact ⟨_, rfl⟩
  all_goals simp
  all_goals exact ⟨s.ring.upQueue, rfl⟩

theorem notices_ring (l : List Port) (n : Notice) (s : State) : ∃ q, (l.foldl (fun s p => s.noticeOn p n) s).ring = { s.ring with upQueue := q } := by
  induction l generalizing s with
  | nil => exact ⟨_, rfl⟩
  | cons a l ih =>
    obtain ⟨q, h⟩ := noticeOn_ring s a n
    obtain ⟨q2, h2⟩ := ih (s.noticeOn a n)
    exact ⟨q2, by rw [List.foldl_cons, h2, h]⟩

theorem notify_ring (s : State) (a b) : ∃ q, (s.notify a b).ring = { s.ring with upQueue := q } := by
  unfold State.notify; dsimp only; split
  · exact notices_ring _ _ _
  · exact ⟨_, rfl⟩

theorem absorb_ring (s : State) (a b c d e) : ∃ q, (s.absorb a b c d e).ring = { s.ring with upQueue := q } := by
  unfold State.absorb; split
  · exact ⟨_, rfl⟩
  · exact notify_ring _ _ _

theorem absorb_lanes (s : State) (a b c d e) : (s.absorb a b c d e).lanes.valid = s.lanes.valid ∧ (s.absorb a b c d e).lanes.holder = s.lanes.holder ∧ (s.absorb a b c d e).lanes.hold = s.lanes.hold ∧ (s.absorb a b c d e).lanes.reruns = s.lanes.reruns ∧ (s.absorb a b c d e).lanes.gap = s.lanes.gap ∧ (s.absorb a b c d e).lanes.switchovers = s.lanes.switchovers ∧ (s.absorb a b c d e).lanes.swapOverdue = s.lanes.swapOverdue := by
  unfold State.absorb; split
  · exact ⟨rfl, rfl, rfl, rfl, rfl, rfl, rfl⟩
  · rw [State.notify_keeps_lanes]; exact ⟨rfl, rfl, rfl, rfl, rfl, rfl, rfl⟩

/-! ### Parameters -/

theorem pb_congr {s t : State} (h : s.ploza.params = t.ploza.params) (i) (h1 : i ≠ P.serial) (h2 : i ≠ P.fwVersion) (h3 : i ≠ P.configSeq) (h4 : i ≠ P.configState) : s.pb i = t.pb i := by
  unfold State.pb State.pv State.paramVals; rw [h, if_neg h1, if_neg h2, if_neg h3, if_neg h4, if_neg h1, if_neg h2, if_neg h3, if_neg h4]

theorem pn_congr {s t : State} (h : s.ploza.params = t.ploza.params) (i) (h1 : i ≠ P.serial) (h2 : i ≠ P.fwVersion) (h3 : i ≠ P.configSeq) (h4 : i ≠ P.configState) : s.pn i = t.pn i := by
  unfold State.pn State.pv State.paramVals; rw [h, if_neg h1, if_neg h2, if_neg h3, if_neg h4, if_neg h1, if_neg h2, if_neg h3, if_neg h4]

/-! ### The fault cause register -/

theorem capture_keeps_cause (x : State) (a b c) (i : Nat) (h : x.prot.cause.getLsbD i = true) : (x.capture a b c).prot.cause.getLsbD i = true := by
  unfold State.capture; split
  · exact h
  · show (setBit _ _ _).getLsbD i = true
    rw [setBit_true_getLsbD _ _ _ (by omega), h]; simp

theorem setCause_sets (s : State) (b k : Nat) (hb : 22 ≤ b) (hb2 : b ≤ 31) (hk : k ≤ 7) : (s.setCause b k).prot.cause.getLsbD b = true := by
  unfold State.setCause
  dsimp only
  have q1 : (if k = 0 then setBit s.prot.cause b true else setBit (setBit s.prot.cause b true) (k - 1) true).getLsbD b = true := by
    split
    · rw [setBit_true_getLsbD _ _ _ (by omega)]; simp
    · rw [setBit_true_getLsbD _ _ _ (by omega), setBit_true_getLsbD _ _ _ (by omega)]; simp
  split
  · exact q1
  · exact capture_keeps_cause _ _ _ _ _ q1

/-! ### Stops of the converter -/

theorem drawPhases_keeps (n : Nat) (s : State) : (State.drawPhases n s).2.conv = s.conv ∧ (State.drawPhases n s).2.grid = s.grid ∧ (State.drawPhases n s).2.lanes = s.lanes ∧ (State.drawPhases n s).2.safe = s.safe ∧ (State.drawPhases n s).2.law = s.law := by
  induction n generalizing s with
  | zero => exact ⟨rfl, rfl, rfl, rfl, rfl⟩
  | succ n ih => unfold State.drawPhases; dsimp only; exact ih _

theorem convCapture_keeps_conv_fields (s : State) (a b c d) : (s.convCapture a b c d).conv.st = s.conv.st ∧ (s.convCapture a b c d).conv.hwLatch = s.conv.hwLatch ∧ (s.convCapture a b c d).conv.toOff = s.conv.toOff ∧ (s.convCapture a b c d).conv.enableOutcome = s.conv.enableOutcome ∧ (s.convCapture a b c d).conv.gdFaultLow = s.conv.gdFaultLow := by
  unfold State.convCapture
  extract_lets stops
  split
  rename_i iph vbus s' h
  have e : s'.conv = s.conv := by
    revert h
    split
    · have := (drawPhases_keeps 8 s).1
      revert this
      cases State.drawPhases 8 s
      rename_i v s1
      intro this
      dsimp only at this ⊢
      cases d <;> (dsimp only; intro h; cases h; simp [State.draw, this])
    · intro h; cases h; rfl
  have k1 : ∀ (q : State), (q.conv.st = s.conv.st ∧ q.conv.hwLatch = s.conv.hwLatch ∧ q.conv.toOff = s.conv.toOff ∧ q.conv.enableOutcome = s.conv.enableOutcome ∧ q.conv.gdFaultLow = s.conv.gdFaultLow) → (fun (q : State) => (q.conv.st = s.conv.st ∧ q.conv.hwLatch = s.conv.hwLatch ∧ q.conv.toOff = s.conv.toOff ∧ q.conv.enableOutcome = s.conv.enableOutcome ∧ q.conv.gdFaultLow = s.conv.gdFaultLow)) (if stops then { q with conv.stopRecorded := true } else q) := by
    intro q h; dsimp only; split <;> exact h
  refine k1 _ ?_
  split
  · rw [e]; exact ⟨rfl, rfl, rfl, rfl, rfl⟩
  · rw [e]; exact ⟨rfl, rfl, rfl, rfl, rfl⟩

theorem stoppedAs_convStopWith (s x : State) (c l r p b) (h1 : s.conv.st ≠ .off) (hx : x.conv.st = s.conv.st) (hg : x.grid = s.grid) (hl : x.lanes = s.lanes) (hs : x.safe = s.safe) : s.StoppedAs (x.convStopWith c l r p b) := by
  unfold State.convStopWith State.StoppedAs
  rw [if_neg (by rw [hx]; exact h1)]
  dsimp only
  refine ⟨rfl, rfl, rfl, rfl, ?_, ?_, ?_, ?_⟩
  · split
    · exact (convCapture_keeps_conv_fields x c (if c = 8 then 3 else 2) p b).1.trans hx
    · exact hx
  · split
    · show (State.convCapture ..).grid = _; simp [hg]
    · exact hg
  · split
    · show (State.convCapture ..).lanes = _; simp [hl]
    · exact hl
  · split
    · show (State.convCapture ..).safe = _; simp [hs]
    · exact hs

theorem modPhases_conv (l : List Nat) (f : Nat → Phase → Phase) (s : State) :
    (l.foldl (fun s j => s.modPhase j (f j)) s).conv = s.conv := by
  induction l generalizing s with
  | nil => rfl
  | cons a l ih => rw [List.foldl_cons, ih]; rfl

/-- Phases that switch again change the converter in its spacing and the age of its set alone. -/
theorem addPhases_conv (s : State) (l) : (s.addPhases l).conv = { s.conv with spacing := some 0, setSince := 0 } := by
  have h : ∀ x : State, x.respread.conv = x.conv := fun x =>
    same_of_hide (p := .conv) (State.respread_hide 1125899898454015 rfl x) rfl
  unfold State.addPhases
  simp only [modPhases_conv l (fun _ p => { p with offset := p.target, spread := 0 }),
    modPhases_conv l (fun _ p => { p with st := .active, share8 := 8, ramp := 0 }), h]

theorem beginDrain_drains (s : State) (c r) (h : s.conv.st = .on ∨ s.conv.st = .starting) (ht : s.conv.toOff = false) : (s.beginDrain c r).conv.st = .draining ∧ (s.beginDrain c r).conv.drainCause = c := by
  unfold State.beginDrain
  have : (s.conv.toOff || !(s.conv.st == FnState.starting || s.conv.st == .on)) = false := by
    rw [ht]; rcases h with h | h <;> rw [h] <;> rfl
  rw [this, if_neg (by decide)]
  have q : ∀ (x : State) (p : Prop) [Decidable p] (l : List Nat), x.conv.st = .draining → x.conv.drainCause = c →
      (if p then x else x.addPhases l).conv.st = .draining ∧ (if p then x else x.addPhases l).conv.drainCause = c := by
    intro x p _ l h1 h2
    split
    · exact ⟨h1, h2⟩
    · rw [addPhases_conv]; exact ⟨h1, h2⟩
  exact q _ _ _ rfl rfl

/-! ### Trips of the safety block -/

theorem settleArming_keeps (x : Safe) : x.settleArming.st = x.st ∧ x.settleArming.trips = x.trips ∧ x.settleArming.lateCauses = x.lateCauses ∧ x.settleArming.estop = x.estop ∧ x.settleArming.door = x.door ∧ x.settleArming.kVsupOk = x.kVsupOk ∧ x.settleArming.outFault = x.outFault ∧ x.settleArming.setBad = x.setBad ∧ x.settleArming.internalFault = x.internalFault ∧ x.settleArming.cause = x.cause := by
  unfold Safe.settleArming; split <;> exact ⟨rfl, rfl, rfl, rfl, rfl, rfl, rfl, rfl, rfl, rfl⟩

theorem trip_safe (s : State) (c) (h : s.safe.st = .safe ∨ s.safe.st = .armed) : (s.trip c).safe = { s.safe with
      st := .tripped, cause := c, lastCause := c, lastFrame := s.grid.frame
      lastTime := s.grid.plantNs, trips := s.safe.trips + 1, gateKill := true, safeOk := false
      precharging := false, twohandClose := false, seq := .opened
      tripT := if s.safe.anyOn then some 0 else none } := by
  unfold State.trip State.convStop
  rcases h with h | h <;> rw [h] <;> dsimp only <;> rw [State.notifySafety_keeps_safe, State.convStopWith_keeps_safe]

theorem convStop_14 (x : State) : (x.convStop 14).conv.gatesOn = (x.conv.gatesOn && x.conv.st == .off) ∧ (x.conv.st ≠ .off → (x.convStop 14).conv.toOff = true) := by
  unfold State.convStop State.convStopWith
  by_cases h : x.conv.st = .off
  · rw [if_pos h, if_neg (by decide)]; simp [h]
  · rw [if_neg h]
    have : (x.conv.st == FnState.off) = false := by revert h; cases x.conv.st <;> decide
    exact ⟨by rw [this, Bool.and_false]; rfl, fun _ => rfl⟩

theorem trip_conv (s : State) (c) (h : s.safe.st = .safe ∨ s.safe.st = .armed) : (s.trip c).conv.gatesOn = (s.conv.gatesOn && s.conv.st == .off) ∧ (s.conv.st ≠ .off → (s.trip c).conv.toOff = true) := by
  unfold State.trip
  rcases h with h | h <;> rw [h] <;> dsimp only <;> rw [State.notifySafety_keeps_conv] <;> exact convStop_14 _

theorem trippedBy_trip (s x : State) (c) (h : x.safe.st = .safe ∨ x.safe.st = .armed) (hg : x.grid = s.grid) (hc : x.conv = s.conv) (ht : x.safe.trips = s.safe.trips) : s.TrippedBy c (x.trip c) := by
  unfold State.TrippedBy
  have a := trip_safe x c h
  have b := trip_conv x c h
  rw [hc] at b
  refine ⟨?_, ?_, ?_, ?_, ?_, ?_, ?_, ?_, b.1, b.2⟩ <;> rw [a]
  · rw [hg]
  · show x.safe.trips + 1 = _; rw [ht]

theorem trip_tripped (s : State) (c) (h : s.safe.st = .tripped) : s.trip c = { s with safe.lateCauses := s.safe.lateCauses + 1 } := by
  unfold State.trip; rw [h]

theorem trips_tripped (l : List Nat) : ∀ (s : State), s.safe.st = .tripped → l.foldl State.trip s = { s with safe.lateCauses := s.safe.lateCauses + l.length } := by
  induction l with
  | nil => intro s _; rfl
  | cons a l ih =>
    intro s h
    have := ih { s with safe.lateCauses := s.safe.lateCauses + 1 } h
    rw [List.foldl_cons, trip_tripped s a h]
    exact this.trans (by simp [Nat.add_assoc, Nat.add_comm 1])

theorem followRequest_tripped (s : State) (h : s.safe.st = .tripped) : s.followRequest = s := by
  unfold State.followRequest; rw [if_pos (by rw [h]; rfl)]

theorem followRequest_closeReq (s : State) : s.followRequest.safe.closeReq = s.safe.closeReq := by
  unfold State.followRequest State.beginOpen
  split
  · rfl
  · split <;> first | rfl | (split <;> rfl)

theorem requestContactors_closeReq (s : State) (b) : (s.requestContactors b).lanes.closeReq = b := rfl

theorem driveContactors_closeReq (s : State) (b) : (s.driveContactors b).safe.closeReq = b := by
  unfold State.driveContactors
  split
  · rename_i h; exact beq_iff_eq.mp h
  · rw [followRequest_closeReq]

/-! ### Lanes -/

theorem retireLane_lane (s : State) (b) : (s.retireLane b).lane = (s.modLane b fun l => { l with st := .retired, retired := true, retireCount := l.retireCount + 1, current := false, resync := false }).lane := by
  unfold State.retireLane; simp

theorem modLane_length (s : State) (b f) (h : s.lane.length = 2) : (s.modLane b f).lane.length = 2 := by simp [State.modLane, h]

theorem rebootLane_facts (s : State) (b) (h : s.lane.length = 2) : (((s.rebootLane b).laneAt b).st = .rebooting ∨ ((s.rebootLane b).laneAt b).st = .retired) ∧ (s.rebootLane b).laneAt (!b) = s.laneAt (!b) ∧ (s.rebootLane b).lanes.valid = s.lanes.valid ∧ (s.rebootLane b).lanes.gap = s.lanes.gap ∧ (s.rebootLane b).lanes.switchovers = s.lanes.switchovers := by
  unfold State.rebootLane State.laneAbsorb
  dsimp only
  have q : ∀ (x : State), x.lane.length = 2 → x.laneAt (!b) = s.laneAt (!b) → (x.laneAt b).st = .rebooting → x.lanes.valid = s.lanes.valid → x.lanes.gap = s.lanes.gap → x.lanes.switchovers = s.lanes.switchovers → ∀ c : Prop, [Decidable c] → (fun x : State => ((x.laneAt b).st = .rebooting ∨ (x.laneAt b).st = .retired) ∧ x.laneAt (!b) = s.laneAt (!b) ∧ x.lanes.valid = s.lanes.valid ∧ x.lanes.gap = s.lanes.gap ∧ x.lanes.switchovers = s.lanes.switchovers) (if c then x.retireLane b else x) := by
    intro x hl h1 h2 h3 h4 h5 c _
    refine ite_both (fun x : State => ((x.laneAt b).st = .rebooting ∨ (x.laneAt b).st = .retired) ∧ x.laneAt (!b) = s.laneAt (!b) ∧ x.lanes.valid = s.lanes.valid ∧ x.lanes.gap = s.lanes.gap ∧ x.lanes.switchovers = s.lanes.switchovers) _ _ _ ?_ ⟨.inl h2, h1, h3, h4, h5⟩
    refine ⟨.inr ?_, ?_, ?_, ?_, ?_⟩
    · rw [State.laneAt_congr (retireLane_lane _ _), State.laneAt_modLane _ _ _ hl]
    · rw [State.laneAt_congr (retireLane_lane _ _), State.laneAt_modLane_other, h1]
    · simp [h3]
    · simp [h4]
    · simp [h5]
  have l2 := modLane_length s b (fun l => { l with st := .rebooting, current := false, resync := false, reboots := s.grid.validFrames :: l.reboots }) h
  refine q _ ?_ ?_ ?_ ?_ ?_ ?_ _
  · rw [State.absorb_keeps_lane]; simp [State.modLane, h]
  · rw [State.laneAt_congr (State.absorb_keeps_lane ..)]
    exact (State.laneAt_modLane_other _ _ _).trans (State.laneAt_modLane_other _ _ _)
  · rw [State.laneAt_congr (State.absorb_keeps_lane ..), State.laneAt_modLane _ _ _ (by simp [State.modLane, h])]
    show (State.laneAt (State.modLane _ _ _) b).st = _
    rw [State.laneAt_modLane _ _ _ h]
  · exact (absorb_lanes _ _ _ _ _ _).1
  · exact (absorb_lanes _ _ _ _ _ _).2.2.2.2.1
  · exact (absorb_lanes _ _ _ _ _ _).2.2.2.2.2.1

theorem endSwap_facts (s : State) (r) : (s.endSwap r).lane = s.lane ∧ (s.endSwap r).lanes.valid = s.lanes.valid ∧ (s.endSwap r).lanes.gap = s.lanes.gap ∧ (s.endSwap r).lanes.switchovers = s.lanes.switchovers ∧ (s.endSwap r).lanes.holder = s.lanes.holder ∧ (s.endSwap r).lanes.lastSwap = r ∧ (s.endSwap r).lanes.swapPhase = 0 ∧ (s.endSwap r).lanes.selfTest = s.lanes.selfTest ∧
    (r = 2 → (s.endSwap r).lanes.swaps = s.lanes.swaps) ∧ (r ≠ 2 → (s.endSwap r).lanes.swaps = bump 0xFF s.lanes.swaps ∧ (s.endSwap r).lanes.swapTimer = 0 ∧ (s.endSwap r).lanes.swapOverdue = false) ∧ (r = 3 → (s.endSwap r).lanes.swapNext = 36000000) := by
  refine ⟨by simp, ?_⟩
  unfold State.endSwap
  cases ho : s.lanes.swapBy <;> by_cases h : r = 2 <;> simp [ho, h]
  all_goals
    intro hh; simp [hh]

/-! ### Power -/

theorem endRequest_eq (s : State) (q f r b) : ∃ o, s.endRequest q f r b = { s with power.outs := o } := by
  unfold State.endRequest
  split
  · exact ⟨_, rfl⟩
  · exact ⟨_, rfl⟩

theorem commitEntry_committed (s : State) : s.commitEntry.power.phase = .committed ∧ s.commitEntry.power.entryStep = 0 := by
  unfold State.commitEntry
  dsimp only
  simp only [State.stopWatch_keeps_power, State.endSweep_keeps_power]
  split
  · rw [State.balDrain_keeps_power]; exact ⟨rfl, rfl⟩
  · first | done | exact ⟨rfl, rfl⟩

theorem settleEntry_eq (s : State) (h1 : s.power.queued = none) (h2 : s.power.wakeLatched = none) (h3 : s.power.recoverTo = none) (h4 : s.power.wakePending = none ∨ s.power.target ≠ .watch) : ∃ o q, s.settleEntry = { s with
    power.st := s.power.target, power.phase := .settled, power.context := .normal, power.req := none, power.entryStep := 0
    power.block := none, power.dwellStart := s.grid.plantNs, power.dwell := s.power.target != PowerSt.watch, power.bridgeRun := false
    power.onBridge := !s.power.auxOk && s.power.target == PowerSt.watch
    power.stackMv := if s.power.target == PowerSt.aphelion then s.stackMv else none, power.outs := o, power.queued := q } := by
  unfold State.settleEntry
  extract_lets t q src s1 s2
  obtain ⟨o, ho⟩ := endRequest_eq s1 q 0 0 none
  have e : s2 = { s1 with power.outs := o, power.queued := none } := by
    show State.resolveQueue _ = _
    rw [ho]
    unfold State.resolveQueue
    have a : s1.power.queued = none := h1
    have b : s1.power.wakeLatched = none := h2
    simp only [a, b]
    rw [if_neg]
    show ¬((s.power.wakePending.isSome && s.power.target == PowerSt.watch) = true)
    rcases h4 with h | h <;> simp [h]
  refine ⟨o, none, ?_⟩
  rw [e, if_neg]
  · show ¬((s.power.target == PowerSt.doze && true && s.power.recoverTo == some PowerSt.aphelion) = true)
    rw [h3]; simp

theorem lanesDown_off (s : State) (k) (h : s.lane.length = 2) : ∀ l ∈ (s.lanesDown k).lane, l.st = .off ∨ l.st = .retired := by
  unfold State.lanesDown State.modLane State.releaseToken
  dsimp only
  revert h
  match s.lane with
  | [a, b] =>
    intro _ l hl
    simp [bit] at hl
    rcases hl with rfl | rfl <;> dsimp only <;> split <;> simp
  | [] => intro h; cases h
  | [_] => intro h; cases h
  | _ :: _ :: _ :: _ => intro h; simp at h

theorem power_ite_pos (c : Prop) [Decidable c] (a b : State) (h : c) : (if c then a else b).power = a.power := by rw [if_pos h]

theorem power_ite_neg (c : Prop) [Decidable c] (a b : State) (h : ¬ c) : (if c then a else b).power = b.power := by rw [if_neg h]

theorem startReturn_power (s : State) (b) : (s.startReturn b).power.phase = .returning ∧ (s.startReturn b).power.fromSt = s.power.st ∧ (s.startReturn b).power.stage = (if s.power.st = .watch then 7 else 2) ∧ (s.startReturn b).power.target = (if s.power.auxOk then .run else .watch) ∧ (s.startReturn b).power.dwell = false ∧ (s.startReturn b).power.wake.source = s.power.wake.source ∧ (s.startReturn b).power.wake.counts = s.power.wake.counts ∧ (s.startReturn b).power.wake.stage = s.power.wake.stage := by
  have hif : (if (s.power.st == PowerSt.watch) = true then (7:Nat) else 2) = if s.power.st = .watch then 7 else 2 := by
    by_cases h : s.power.st = .watch <;> simp [h]
  have e : ∃ (x : State) (a : Bool) (c : Option (BitVec 64)), (s.startReturn b) = x ∧ x.power = { s.power with
    fromSt := s.power.st, phase := .returning, stage := if s.power.st == .watch then 7 else 2
    stageTries := 0, retryWait := false, shortPath := b, dwell := false
    cold := false, laneBoot := false, stageAt := s.grid.frame
    target := if s.power.auxOk then .run else .watch, context := .normal
    wakePending := none, wakeLatched := none, returnStart := s.grid.plantNs
    wake.dwellS := satTo 0xFFFFFFFF ((s.grid.plantNs - s.power.dwellStart).toNat / 1000000000), wakeLine := a, wakeFrom := c } := by
    refine ⟨s.startReturn b, if s.power.wake.source != 4 && s.pb P.wakeOut then true else s.power.wakeLine, if s.power.wake.source != 4 && s.pb P.wakeOut then some s.grid.plantNs else s.power.wakeFrom, rfl, ?_⟩
    by_cases hw : (s.power.wake.source != 4 && s.pb P.wakeOut) = true
    · rw [if_pos hw, if_pos hw]
      unfold State.startReturn
      refine ite_same State.power _ _ _ _ ?_ ?_
      · show State.power (if _ then _ else _) = _
        exact power_ite_pos _ _ _ hw
      · exact power_ite_pos _ _ _ hw
    · rw [if_neg hw, if_neg hw]
      unfold State.startReturn
      refine ite_same State.power _ _ _ _ ?_ ?_
      · show State.power (if _ then _ else _) = _
        exact power_ite_neg _ _ _ hw
      · exact power_ite_neg _ _ _ hw
  obtain ⟨x, a, c, e1, e2⟩ := e
  rw [e1, e2]
  exact ⟨rfl, rfl, hif, rfl, rfl, rfl, rfl, rfl⟩

theorem bootLanes_up (s : State) (b) : ∀ l ∈ (s.bootLanes b).lane, l.st = .standby ∨ l.st = .retired ∨ l.st = .rebooting := by
  intro l hl
  obtain ⟨g, _, rfl⟩ := List.mem_map.mp hl
  split
  · split <;> simp
  · simp

/-! ### CAN -/

theorem setBus_canAt (s : State) (b st) (h : s.can.length = 2) : (s.setBus b st).canAt b = { s.canAt b with bus := st } := by
  unfold State.setBus
  split
  · rename_i h2; rw [← h2]
  · show (s.modCan b _).canAt b = _
    rw [State.canAt_modCan _ _ _ h]

theorem setBus_length (s : State) (b st) : (s.setBus b st).can.length = s.can.length := by
  unfold State.setBus; split
  · rfl
  · exact State.length_modCan _ _ _

theorem settleBus_canAt (s : State) (b) (h : s.can.length = 2) : ∃ st, (s.settleBus b).canAt b = { s.canAt b with bus := st } ∧ ((s.canAt b).onBus = true → st = .errorActive ∨ st = .errorPassive) := by
  unfold State.settleBus
  dsimp only
  split
  · exact ⟨_, setBus_canAt _ _ _ h, fun _ => by split <;> simp⟩
  · rename_i h2; exact ⟨(s.canAt b).bus, rfl, fun h3 => absurd h3 h2⟩

theorem settleBus_length (s : State) (b) : (s.settleBus b).can.length = s.can.length := by
  unfold State.settleBus; dsimp only; split
  · exact setBus_length _ _ _
  · rfl

/-! ### Security -/

theorem complete_sec (s : State) (r f o a e d) : (s.complete r f o a e d).sec = s.sec := by simp

theorem endVerify_sec (s : State) (st reason) : (s.endVerify st reason).sec = { s.sec with fwVerify := none } := by
  unfold State.endVerify
  split
  · rename_i h; rw [← h]
  · rw [complete_sec]

theorem eraseKeys_sec (s : State) : s.eraseKeys.sec.tamper = true ∧ s.eraseKeys.sec.keys = false ∧ s.eraseKeys.sec.fwVerify = none ∧ s.eraseKeys.sec.tamperCounts = s.sec.tamperCounts ∧ s.eraseKeys.sec.policy = s.sec.policy := by
  unfold State.eraseKeys
  extract_lets l s1
  rw [endVerify_sec]
  rw [foldl_keeps (fun (s : State) (c : LatchedCmd) => s.complete (hdrRef c.hdr 0x92 true) .tamperLatched 0 0 0 []) State.sec (by intro s a; exact complete_sec _ _ _ _ _ _ _)]
  exact ⟨rfl, rfl, rfl, rfl, rfl⟩

end Sys2Proof.Machine
end

