-- ==== Sys2Proof/Tests/Slice0.lean ====
section
/-!
SUPPORT. Tests of the model: ill-formed terms, expected values from the spec's tables and worked examples, and for each
statement a state and operands that meet its hypotheses.
-/

-- One theorem after another: the kernel evaluates each of them on its own.
set_option Elab.async false

namespace Sys2Proof.Tests

open Sys2Proof.Machine

/-! ### An ill-formed term for each check of Instr.wf -/

/-- The sample strobe brings the 16 NTC inputs of J3. -/
theorem wf_ntc_count : (Instr.sampleStrobe (List.replicate 15 none)).wf = false := by decide

/-- P48 does not exist; nor does role slot 40. -/
theorem wf_pan : (Instr.panJobComplete 48 .cellScale {}).wf = false ∧ (Instr.panHardFault 48 .bist).wf = false ∧
    (Instr.panBistComplete 48 true).wf = false ∧ (Instr.sluiceLoadComplete 48 0).wf = false := by decide

/-- Role slots run from 0 to 39. -/
theorem wf_slot : (Instr.computeWindowEnd 40 0).wf = false ∧ (Instr.sluiceLoadComplete 0 40).wf = false := by decide

/-- Sub-periods run from 0 to 3, and the sample holds eight phases. -/
theorem wf_subperiod : (Instr.controlSubperiod 4 (List.replicate 8 0) 0 false false).wf = false ∧
    (Instr.controlSubperiod 0 (List.replicate 7 0) 0 false false).wf = false := by decide

/-- The control loop is slots 34 to 36. -/
theorem wf_loop_slot : (Instr.loopFault 33).wf = false ∧ (Instr.loopFault 37).wf = false := by decide

/-- Front ends are FE1 to FE6. -/
theorem wf_front_end : (Instr.feFramePacket 0 [] 0 0).wf = false ∧ (Instr.feLinkFault 7).wf = false ∧
    (Instr.faultChannelChange 7 .mhz1).wf = false ∧ (Instr.feThermalShutdown 0).wf = false ∧
    (Instr.feThermalRelease 7).wf = false ∧ (Instr.comparatorAssert 7 1 true).wf = false := by decide

/-- The ports are FE1 to FE6 and the CFE as 7. -/
theorem wf_fe_port : (Instr.backChannelMessage 8 true).wf = false ∧ (Instr.portLineDown 0 true).wf = false ∧
    (Instr.relinkAttemptEnd 8 none).wf = false ∧ (Instr.relinkRetry 0).wf = false ∧ (Instr.feSupplyChangeover 8).wf = false ∧
    (Instr.feAuxReturn 0).wf = false ∧ (Instr.stackKeepaliveTest 8 true).wf = false := by decide

/-- Channels of a front end are 1 to 16. -/
theorem wf_channel : (Instr.comparatorAssert 1 17 true).wf = false ∧ (Instr.comparatorRelease 1 0 true).wf = false := by decide

/-- Sub-sample packets are 0 to 7. -/
theorem wf_subsample : (Instr.cfeSubsamplePacket 8 []).wf = false := by decide

/-- A strobe delay for each of the seven ports. -/
theorem wf_delays : (Instr.strobeDelayMeasure (List.replicate 6 0)).wf = false := by decide

/-- The causes of the fault cause register are bits 22 to 31. -/
theorem wf_cause_bit : (Instr.faultAutoRelease 21).wf = false ∧ (Instr.faultAutoRelease 32).wf = false := by decide

/-- The sluice fails for cause 1, 2 or 3. -/
theorem wf_sluice_cause : (Instr.sluiceFail 0).wf = false ∧ (Instr.sluiceFail 4).wf = false := by decide

/-- Branches A and B. -/
theorem wf_branch : (Instr.currentRecordMissing 2 0).wf = false := by decide

/-- Ring positions are 0 to 7; the source of a mailbox is one of them or the primary's 8; a ring has 1 to 8 modules. -/
theorem wf_ring : (Instr.moduleMissingLimit 8).wf = false ∧ (Instr.ringMessageRx 9 []).wf = false ∧
    (Instr.enumerationEnd 0).wf = false ∧ (Instr.enumerationEnd 9).wf = false := by decide

/-- Cells are 1 to 96. -/
theorem wf_cell : (Instr.sliceWriteComplete 0).wf = false ∧ (Instr.sliceWriteComplete 97).wf = false := by decide

/-- Phases are 1 to 8. -/
theorem wf_phase : (Instr.hiccupTrigger 0).wf = false ∧ (Instr.pwmPeriodStart 9 false 0 0).wf = false := by decide

/-- A packet comes on the ring, SPI or a CAN port. -/
theorem wf_port : (Instr.packetReceived .own false []).wf = false ∧ (Instr.protOnlyReset .own []).wf = false ∧
    (Instr.ping (h := ⟨.own, 0, 0, 0⟩) []).wf = false := by decide

/-- The safety outputs are four. -/
theorem wf_output : (Instr.outputTestDrop 4 true).wf = false ∧ (Instr.outputOvercurrent 4).wf = false := by decide

/-- Wake sources are 1 to 8, and name a cell 1 to 96 or none. -/
theorem wf_wake : (Instr.wakeConfirmed 0 {}).wf = false ∧ (Instr.wakeConfirmed 9 {}).wf = false ∧
    (Instr.wakeConfirmed 2 ⟨97, []⟩).wf = false ∧ (Instr.wakeConfirmed 1 {}).wf = false := by decide

/-- A copy that RING_COPY_EMIT hears is a frame of 3,125 bytes. -/
theorem wf_copy : (Instr.ringCopyEmit ⟨false, []⟩).wf = false := by decide

/-- There are three straps. -/
theorem wf_straps : (Instr.coldStart 8 false).wf = false := by decide

/-- TARGET is 0 to 7, 0xFE or 0xFF. -/
theorem wf_target : (Instr.ping ⟨.spi, 8, 0, 0⟩ []).wf = false ∧ (Instr.ping ⟨.spi, 0xFE, 0, 0⟩ []).wf = true := by decide

/-- Tables 17.12 and 17.16: IDENTIFY has no payload, PARAM_GET three bytes, FAULT_CLEAR nothing after SUB. -/
theorem wf_length : (Instr.identify {} [0]).wf = false ∧ (Instr.paramGet {} [1, 2]).wf = false ∧
    (Instr.diagFaultClear {} [1]).wf = false := by decide


/-! ### Figures that the spec works out -/

/-- 17 R407: the CRC-32C of "123456789". -/
theorem test_crc32c : crc32c [0x31, 0x32, 0x33, 0x34, 0x35, 0x36, 0x37, 0x38, 0x39] = 0xE3069283#32 := by decide +kernel

/-- 00 R4, worked example: 3.6512 V, −125.4 A and −12.50 °C as they are sent. -/
theorem test_encoding : toLe 2 36512 = [0xA0, 0x8E] ∧ toLeInt 4 (-125400) = [0x28, 0x16, 0xFE, 0xFF] ∧
    toLeInt 2 (-1250) = [0x1E, 0xFB] := by decide

/-- 00 R3, worked example: frame 0x0000_0005 is later than frame 0xFFFF_FFFA. -/
theorem test_frame_order : frameLater 0x00000005 0xFFFFFFFA = true ∧ frameLater 0xFFFFFFFA 0x00000005 = false := by decide

/-- 04 R89, worked example: the words of 125.4, 0.000 82 and their product. -/
theorem test_rnorm : (Single.ofRat (1254 / 10)).word = 0x7D666607 ∧ (Single.ofRat (82 / 100000)).word = 0x6B7AA2F6 ∧
    (Single.ofRat ((8218214 * 7043746 : Nat) * pow2 (-49))).word = 0x694BBEFD := by decide +kernel

/-- 08, worked example: RSER = 0.50 mΩ, OCV_DIS = 3.65 V and DUDT = −0.10 mV/K as entries. -/
theorem test_table_words : (Single.ofRat (5 / 10000)).word = 0x418937F6 ∧ (Single.ofRat (365 / 100)).word = 0x74CCCD02 ∧
    (Single.ofRat (-1 / 10000)).word = 0x972474F3 := by decide +kernel

/-- The module of the worked example of 02 R57: fresh figures of 11.50 mΩ at tap 42 and 14.00 mΩ at tap 41. -/
def leads : State :=
  { State.reset with
    tap := (State.reset.tap.modify 42 fun t => { t with rl := 11500, rlKnown := true, rlAge := 80000 }).modify 41 fun t =>
      { t with rl := 14000, rlKnown := true, rlAge := 80000 } }

/-- 02 R57, worked example: 176.0 mA above and 182.0 mA below take 4,572 µV off cell 42, with LEAD_CORR. -/
theorem test_lead_correction : leads.leadCorrect 42 3654800 0 1760 1820 = (3650228, true, false) := by decide +kernel

/-- 02 R57: with a figure older than 100,000 frames nothing is corrected and UNCORR is set. -/
theorem test_stale_lead : ({ leads with tap := leads.tap.modify 41 fun t => { t with rlAge := 100001 } } : State).leadCorrect 42
    3654800 0 1760 1820 = (3654800, false, true) := by decide +kernel

/-- 18 R435, worked example: the element of cell 37 at 3,412,345 µV with LEAD_CORR set. -/
theorem test_cell_element :
    ({ State.reset with chan := State.reset.chan.modify 36 fun c => c.report 3412345 0x0040 } : State).cellVBytes 37 =
      [0x79, 0x11, 0x34, 0x00, 0x4B, 0x85, 0x40, 0x00] := by decide +kernel

/-- 18, worked example: CONV_DEADTIME_NS = 150.00 ns with SEQUENCE 0x3A is a packet of 16 bytes. -/
theorem test_packet : (mkPacket 0x11 0x3A 0 0 [0x06, 0x09, 0x02, 0x00, 0x58, 0x02]).take 12 =
      [0x11, 0x3A, 0x00, 0x00, 0x06, 0x00, 0x06, 0x09, 0x02, 0x00, 0x58, 0x02] ∧
    (mkPacket 0x11 0x3A 0 0 [0x06, 0x09, 0x02, 0x00, 0x58, 0x02]).length = 16 := by decide +kernel

/-- The module of the worked examples of 17 and 20 at the boundary of frame 20,000,001: SPI has staged I_REST_MA = 500 mA. -/
def twoWriters : State :=
  { State.reset with
    grid.frame := 20000001, grid.plantNs := 2000000100000, sec.jNext := 183042
    ploza.staged := [{ id := 0x0503, val := [500], cmd := .spi }] }

/-- The COMMIT from CAN-A. -/
def commitA : Hdr := { port := .canA, target := 0, seq := 7, flags := 0 }

/-- 17, worked example: the payload of the COMMIT reply. -/
theorem test_commit_reply : (opCommit commitA [] twoWriters).st = .ok ∧
    (opCommit commitA [] twoWriters).payload = [0x01, 0x2D, 0x31, 0x01, 0x01, 0x00, 0x00, 0x00] := by decide +kernel

/-- 20 R460, worked example: bytes 0 to 39 of the entry that the COMMIT writes. -/
theorem test_commit_entry : ((opCommit commitA [] twoWriters).s.entryBytes 183042).take 40 =
      [0x01, 0x04, 0x12, 0x30, 0x02, 0xCB, 0x02, 0x00, 0x01, 0x2D, 0x31, 0x01, 0xA0, 0xA6, 0x4B, 0xA9, 0xD1, 0x01, 0x00, 0x00,
       0x03, 0x05, 0x04, 0x00, 0xE8, 0x03, 0x00, 0x00, 0x00, 0x00, 0x00, 0x00, 0xF4, 0x01, 0x00, 0x00, 0x00, 0x00, 0x00, 0x00] := by
  decide +kernel


/-! ### Each statement's hypotheses can be met -/

/-- A request to this module on SPI. -/
def own : Hdr := {}

/-- The module in STANDBY without a safety set. -/
def standby : State := { State.reset with grid.mode := .standby, safe.st := .notUsed }

/-- The module in ACTIVE without a safety set. -/
def active : State := { State.reset with grid.mode := .active, safe.st := .notUsed }

/-- The module as converter owner in ACTIVE, with all that Table 11.4 asks of an enable. -/
def owner : State :=
  { active with
    ploza.params := [(P.convStage, [1])]
    cfe.vstrMv := 300000, cfe.vstrInvalid := false, cfe.iHeld := false
    conv.vBus := 400
    slot := List.replicate 34 {} ++ [{ pan := some 34 }, { pan := some 35 }, { pan := some 36 }] ++ List.replicate 3 {}
    pan := List.replicate 34 {} ++ List.replicate 3 { st := .active } ++ List.replicate 11 {}
    phase := List.replicate 8 { vSense := 1 } }

theorem witness_StepRunsFront :
    ({ State.reset with pending := [.comet, .restStarved] } : State).pending = .comet :: [.restStarved] ∧
      State.reset.pending = [] := ⟨rfl, rfl⟩

theorem witness_CommandsAnswer : Instr.comet.wf = true ∧ (Instr.sampleStrobe (List.replicate 16 none)).wf = true ∧
    exec (.feFramePacket 0 [] 0 0) State.reset = .fault .noSuchUnit := ⟨rfl, rfl, rfl⟩

theorem witness_QueueUntouched : ∃ t, exec .comet State.reset = .next t := ⟨_, rfl⟩

theorem witness_CommandsTouchTheirParts : ∃ t, exec .comet State.reset = .next t ∧ Part.can ∉ touches .comet :=
  ⟨_, rfl, by decide⟩

theorem witness_UnitsStay : ∃ t, step { State.reset with pending := [.comet] } = .next t ∧
    ({ State.reset with pending := [.comet] } : State).Shaped := ⟨_, rfl, by unfold State.Shaped; decide⟩

/-- A detection with ERASE is a step that moves both sides of the invariant. -/
theorem witness_KeysFollowTamper : ∃ t, step { State.reset with pending := [.tamperDetect 1 0] } = .next t ∧
    ({ State.reset with pending := [.tamperDetect 1 0] } : State).KeysFollowTamper :=
  ⟨_, rfl, by unfold State.KeysFollowTamper; decide⟩

/-- A trip of an armed block is a step that moves both sides of the invariant. -/
theorem witness_SafetyOutputsFollowState :
    ∃ t, step { State.reset with safe.st := .armed, safe.gateKill := false, safe.safeOk := true, pending := [.kSupplyLow] } = .next t ∧
      ({ State.reset with safe.st := .armed, safe.gateKill := false, safe.safeOk := true, pending := [.kSupplyLow] } :
        State).SafetyOutputsFollowState := ⟨_, rfl, by unfold State.SafetyOutputsFollowState; decide⟩

theorem witness_GatesOnlyWhileRunning :
    ∃ t, step { State.reset with conv.st := .on, conv.gatesOn := true, pending := [.faultLineLow] } = .next t ∧
      ({ State.reset with conv.st := .on, conv.gatesOn := true, pending := [.faultLineLow] } : State).GatesOnlyWhileRunning :=
  ⟨_, rfl, by unfold State.GatesOnlyWhileRunning; decide⟩

theorem witness_OneLaneInCharge :
    ∃ t, step { State.reset with pending := [.tokenGrant true true] } = .next t ∧
      ({ State.reset with pending := [.tokenGrant true true] } : State).OneLaneInCharge :=
  ⟨_, rfl, by unfold State.OneLaneInCharge; decide⟩

theorem witness_OnlyModeMakesActive : ∃ t, exec (.mode own [2]) standby = .next t ∧ standby.grid.mode ≠ .active ∧ t.grid.mode = .active :=
  ⟨_, rfl, by decide +kernel⟩

theorem witness_FunctionStatesHaveTheirMovers :
    (∃ t, exec (.mode own [2]) standby = .next t ∧ t.grid.mode ≠ standby.grid.mode) ∧
    (∃ t, exec (.coldStart 0 true) { State.reset with power.st := .doze } = .next t ∧ t.power.st ≠ .doze) ∧
    (∃ t, exec (.convEnable own []) owner = .next t ∧ t.conv.st ≠ owner.conv.st) ∧
    ∃ t, exec .prechargeTimeout { State.reset with safe.st := .armed, safe.seq := .closing, safe.kPre := true, safe.preT := 40 * State.reset.safe.set.preMaxMs } = .next t ∧ t.safe.st ≠ .armed :=
  ⟨⟨_, rfl, by decide +kernel⟩, ⟨_, rfl, by decide +kernel⟩, ⟨_, rfl, by decide +kernel⟩, ⟨_, rfl, by decide +kernel⟩⟩

theorem witness_PacketReadsBack : (List.replicate 4096 (0 : Byte)).length ≤ 4096 ∧
    ∃ r, (2 ^ 32 - 1 : Nat) < 2 ^ 32 ∧ 2 ^ 32 - 1 ≠ (crc32c [1, 0, 0, 0, 0, 0]).toNat ∧
      parseRequest ([1, 0, 0, 0, 0, 0] ++ toLe 4 (2 ^ 32 - 1)) = some r :=
  ⟨Nat.le_of_eq List.length_replicate, _, by decide, by decide +kernel, rfl⟩


theorem witness_PacketReception :
    ({ State.reset with power.off := true } : State).portsOn = false ∧
    State.reset.portsOn = true ∧ State.reset.lanes.protOnly = false ∧
    (∃ r, parseRequest (mkPacket 1 0 0 0 []) = some r ∧ State.reset.forwards .spi r.target = false ∧
      State.reset.receiptFault .spi r = none ∧ State.reset.takesFrom .spi r.target = true ∧ r.flags.getLsbD 7 = false) ∧
    (∃ r, parseRequest ([1, 0, 0, 0, 0, 0] ++ toLe 4 0) = some r ∧ State.reset.forwards .spi r.target = false ∧
      r.crcOk = false ∧ r.target.toNat = State.reset.ring.position) ∧
    (∃ r, parseRequest ([1, 0, 0, 3, 0, 0] ++ toLe 4 0) = some r ∧ State.reset.forwards .spi r.target = false ∧
      r.crcOk = false ∧ r.target.toNat ≠ State.reset.ring.position) ∧
    ∃ r, parseRequest (mkPacket 0x7E 0 0 0 []) = some r ∧ State.reset.forwards .spi r.target = false ∧
      State.reset.receiptFault .spi r = some .unknownOpcode ∧ State.reset.takesFrom .spi r.target = true := by
  refine ⟨by decide, by decide, by decide, ⟨⟨1, 0, 0, 0, 0, [], true⟩, ?_⟩, ⟨⟨1, 0, 0, 0, 0, [], false⟩, ?_⟩,
    ⟨⟨1, 0, 0, 3, 0, [], false⟩, ?_⟩, ⟨⟨0x7E, 0, 0, 0, 0, [], true⟩, ?_⟩⟩ <;> decide +kernel


/-- A repeated request. -/
def again : Hdr := { flags := 0x80 }

/-- The module with one PING in the history of SPI. -/
def pinged : State :=
  { State.reset with
    port := State.reset.port.modify 1 fun q => { q with hist := [{ opcode := 0x01, crc := historyCrc 0x01 again [], reply := [0x81] }] } }

theorem witness_OpcodesDoNotExecute :
    (Instr.ping own []).packet = some (0x01, own, []) ∧ ({ State.reset with lanes.protOnly := true } : State).lanes.protOnly = true ∧
    (State.reset.lanes.protOnly = false ∧ State.reset.portsOn = true ∧
      (Instr.identify own [0]).packet = some (0x02, own, [0]) ∧ lengthOk 0x02 [0] = false ∧ State.reset.takes own.target = true) ∧
    (lengthOk 0x02 [0] = false ∧ State.reset.takes 3 = false) ∧
    (lengthOk 0x01 [] = true ∧ bankOpcode 0x01 = false) ∧
    ∃ e, (Instr.ping again []).packet = some (0x01, again, []) ∧ pinged.lanes.protOnly = false ∧ pinged.portsOn = true ∧
      lengthOk 0x01 [] = true ∧ again.target ≠ 0xFF ∧ pinged.duplicateOf 0x01 again [] = some e := by
  refine ⟨rfl, by decide, by decide, by decide, by decide,
    { opcode := 0x01, crc := historyCrc 0x01 again [], reply := [0x81] }, rfl, by decide, by decide, by decide, by decide, ?_⟩
  decide +kernel

theorem witness_AnswersAreRecorded : State.reset.settle own.port (okAns State.reset) = okAns State.reset ∧
    (okAns State.reset).s.port.length = 4 := ⟨rfl, by decide⟩

theorem witness_ArbitrationAndReplySize :
    ((okAns State.reset [] [.opMode]).st.applied = true ∧
      ∃ c ∈ (okAns State.reset [] [.opMode]).claims, c ∈ ({ State.reset with ploza.claims := [.opMode] } : State).ploza.claims) ∧
    ¬((okAns State.reset (zeros 4097)).st.applied = true ∧
      ∃ c ∈ (okAns State.reset (zeros 4097)).claims, c ∈ State.reset.ploza.claims) ∧
    4096 < (okAns State.reset (zeros 4097)).payload.length := by
  refine ⟨⟨by decide, _, List.mem_singleton.2 rfl, by decide⟩, ?_, ?_⟩
  · rintro ⟨-, c, hc, -⟩
    cases hc
  · rw [show (okAns State.reset (zeros 4097)).payload.length = 4097 from List.length_replicate]
    decide

theorem witness_UnlistedParameters : paramRow (getU [0, 0, 0] 0 2) = none ∧ State.reset.executes 0x10 own [0, 0, 0] ∧
    paramRow (getU [0, 0, 1, 0, 0] 0 2) = none ∧ State.reset.executes 0x11 own [0, 0, 1, 0, 0] := by
  unfold State.executes; decide +kernel

theorem witness_DiscardEmptiesTheStagedSet : twoWriters.executes 0x13 own [] ∧ twoWriters.ploza.staged ≠ [] := by
  unfold State.executes; decide +kernel

/-- I_REST_MA = 500 mA, the worked example of 17. -/
def restHalf : List Byte := [0x03, 0x05, 0x04, 0x00, 0xF4, 0x01, 0x00, 0x00]

theorem witness_StagedValuesReadBack : ∃ r, paramRow (getU restHalf 0 2) = some r ∧ State.reset.executes 0x11 own restHalf ∧
    r.ro = false ∧ getU restHalf 2 2 = r.bytes ∧ (r.service = true → State.reset.grid.mode = .service) ∧
    r.ok (r.decode (restHalf.drop 4)) = true ∧ State.reset.ploza.staged.length < 256 ∧
    paramRow (getU [0x03, 0x05, 1] 0 2) = some r ∧ State.reset.executes 0x10 own [0x03, 0x05, 1] ∧
    (getB [0x03, 0x05, (1 : Byte)] 2).toNat ≤ 1 := by
  refine ⟨_, rfl, ?_⟩; unfold State.executes; decide +kernel

theorem witness_CommitAppliesTheStagedSet : twoWriters.executes 0x12 commitA [] ∧ twoWriters.commitWrongState = none ∧
    twoWriters.commitOutOfRange = none ∧ twoWriters.ploza.imageWrite = none ∧ twoWriters.ploza.staged ≠ [] := by
  unfold State.executes; decide +kernel

/-- The module with the result of a sweep. -/
def swept : State := { State.reset with eis.result := some {} }

/-- SNAPSHOT is witnessed at both ends of the range of section 0x01, the record reads at their least and largest counts. -/
theorem witness_QueriesChangeNothing :
    (State.reset.executes 0x01 own [1] ∧ State.reset.executes 0x02 own [] ∧ State.reset.executes 0x03 own [] ∧
      State.reset.executes 0x21 own [] ∧ State.reset.executes 0xA0 own [] ∧ State.reset.executes 0xB0 own []) ∧
    (∀ p ∈ [[(1 : Byte), 1, 96], [1, 96, 1]], State.reset.executes 0x60 own p ∧ sectionShape (getB p 0).toNat = some (1, 96, 8) ∧
      1 ≤ (getB p 1).toNat ∧ (getB p 1).toNat + (getB p 2).toNat ≤ 97 ∧ (getB p 1).toNat ≤ 96 ∧ getB p 2 ≠ 0) ∧
    (∀ p ∈ [[(0 : Byte), 0, 0, 0, 0, 1], [1, 0, 0, 0, 0, 34]], State.reset.executes 0x33 own p ∧ (getB p 0).toNat ≤ 1 ∧
      1 ≤ (getB p 5).toNat ∧ (getB p 5).toNat ≤ 34) ∧
    (∀ p ∈ [[(0 : Byte), 0, 0, 0, 1], [0, 0, 0, 0, 31]], State.reset.executes 0xF1 own (0x04 :: p) ∧ 1 ≤ (getB p 4).toNat ∧
      (getB p 4).toNat ≤ 31) ∧
    (∀ p ∈ [[(0 : Byte), 0, 0, 0, 1], [0, 0, 0, 0, 120]], State.reset.executes 0xF1 own (0x07 :: p) ∧ 1 ≤ (getB p 4).toNat ∧
      (getB p 4).toNat ≤ 120) ∧
    ∀ p ∈ [[(1 : Byte), 1], [1, 96]], swept.executes 0x51 own p ∧ swept.power.st = .run ∧ swept.eis.result.isSome = true ∧
      1 ≤ (getB p 0).toNat ∧ (getB p 0).toNat ≤ (getB p 1).toNat ∧ (getB p 1).toNat ≤ 96 := by
  refine ⟨?_, ?_, ?_, ?_, ?_, ?_⟩ <;> unfold State.executes <;> decide +kernel

/-- ACTIVE asked for in WATCH; WATCH, DOZE and APHELION asked for in ACTIVE, and APHELION in STANDBY. In DOZE and APHELION no
command executes. -/
theorem witness_ForbiddenCombinations :
    (({ standby with power.st := .watch } : State).executes 0x22 own [2] ∧ modeOf (getB [2] 0) = some .active ∧
      permitted .active ({ standby with power.st := .watch } : State).power.st = false) ∧
    (∀ x ∈ [((1 : Byte), PowerSt.watch), (2, .doze), (3, .aphelion)], active.executes 0x20 own [x.1] ∧
      powerStOf (getB [x.1] 0) = some x.2 ∧ permitted active.grid.mode x.2 = false) ∧
    standby.executes 0x20 own [3] ∧ permitted standby.grid.mode .aphelion = false := by
  refine ⟨?_, ?_, ?_, ?_⟩ <;> (try unfold State.executes) <;> decide +kernel

theorem witness_ModeCommands :
    standby.grid.deferredMode = none ∧
    (standby.executes 0x22 own [1] ∧ modeOf (getB [1] 0) = some .standby ∧ standby.mayMode .standby = true ∧
      Mode.standby = standby.grid.mode ∧ standby.safe.st = .notUsed) ∧
    (State.reset.executes 0x22 own [2] ∧ modeOf (getB [2] 0) = some .active ∧ State.reset.grid.deferredMode = none ∧
      State.reset.grid.mode = .service) ∧
    (State.reset.executes 0x22 own [1] ∧ State.reset.mayMode .standby = true ∧
      ¬(Mode.standby = .active ∧ State.reset.grid.mode = .service) ∧ Mode.standby ≠ .service ∧ State.reset.safe.st ≠ .armed ∧
      State.reset.safe.st ≠ .notUsed) ∧
    (standby.executes 0x22 own [2] ∧ standby.mayMode .active = true ∧ standby.grid.mode = .standby ∧
      (standby.safe.st = .armed ∨ standby.safe.st = .notUsed)) ∧
    (standby.executes 0x22 own [0] ∧ modeOf (getB [0] 0) = some .service ∧ standby.grid.mode ≠ .service ∧ standby.conv.st = .off) ∧
    (active.executes 0x22 own [1] ∧ active.grid.deferredMode = none ∧ active.mayMode .standby = true ∧
      active.grid.mode = .active ∧ (active.safe.st = .armed ∨ active.safe.st = .notUsed) ∧
      ({ active with conv.st := .on } : State).conv.st = .on ∧ ({ active with conv.st := .on } : State).conv.toOff = false) := by
  unfold State.executes; decide +kernel

theorem witness_ConverterCommands :
    (owner.executes 0x30 own [] ∧ owner.power.st = .run ∧ owner.grid.mode = .active ∧ owner.conv.st = .off ∧ owner.conv.latched = none ∧
      owner.enableReason = 0) ∧
    (active.executes 0x30 own [] ∧ active.power.st = .run ∧ active.grid.mode = .active ∧ active.conv.st = .off ∧
      active.conv.latched = none ∧ active.enableReason ≠ 0) ∧
    (({ active with conv.st := .draining } : State).executes 0x30 own [] ∧
      ({ active with conv.st := .draining } : State).conv.toOff = false ∧
      ({ active with conv.st := .draining } : State).conv.latched = none) ∧
    (({ owner with conv.st := .starting } : State).executes 0x31 own [] ∧ ({ owner with conv.st := .starting } : State).ownerReason = 0 ∧
      ({ owner with conv.st := .starting } : State).conv.toOff = false) ∧
    (({ owner with conv.hwLatch := true } : State).executes 0x31 own [] ∧ ({ owner with conv.hwLatch := true } : State).ownerReason = 0 ∧
      ({ owner with conv.hwLatch := true } : State).conv.st = .off) ∧
    (owner.executes 0x31 own [] ∧ owner.ownerReason = 0 ∧ owner.conv.hwLatch = false) ∧
    (owner.executes 0x32 own (zeros 8) ∧ lawModeOf (getB (zeros 8) 0) = some .current ∧
      owner.targetOk .current (getS (zeros 8) 4 4) = true) ∧
    (owner.executes 0x32 own (zeros 7 ++ [0x80]) ∧ lawModeOf (getB (zeros 7 ++ [(0x80 : Byte)]) 0) = some .current ∧
      owner.targetOk .current (getS (zeros 7 ++ [0x80]) 4 4) = false) ∧
    owner.targetOk .current 4000000 = true ∧ owner.targetOk .current 4000001 = false := by
  refine ⟨?_, ?_, ?_, ?_, ?_, ?_, ?_, ?_, ?_, ?_⟩ <;> (try unfold State.executes) <;> decide +kernel

/-- A HOST plan for cell 1. -/
def hostPlan : List Byte := [1, 0, 10, 0, 100] ++ zeros 95

theorem witness_BalancingCommands :
    (({ State.reset with bal.st := .draining } : State).executes 0x40 own hostPlan ∧
      ({ State.reset with bal.st := .draining } : State).bal.latched = none) ∧
    (State.reset.executes 0x40 own hostPlan ∧ State.reset.bal.st ≠ .draining ∧ State.reset.bal.latched = none ∧ (getB hostPlan 0).toNat = 1 ∧
      getU hostPlan 2 2 < 65535 ∧ ((hostPlan.drop 4).map (·.toNat)).all (· ≤ 100) = true ∧ (State.reset.slotAt 38).suspended = false) ∧
    (({ State.reset with bal.st := .on } : State).executes 0x41 own []) ∧
    State.reset.executes 0x41 own [] ∧ State.reset.bal.st = .off ∧ State.reset.bal.latched = none := by
  unfold State.executes; decide +kernel

/-- A PASSIVE sweep of one tone: L = 10,000, 16 blocks, no settling, tone 5. -/
def passive : List Byte := [2, 1, 0, 0, 0x10, 0x27, 0, 0, 16, 0, 0, 0, 5, 0, 0, 0]

/-- The module in STANDBY with P37 running. -/
def p37 : State :=
  { standby with
    slot := List.replicate 37 {} ++ [{ pan := some 37 }] ++ List.replicate 2 {}
    pan := List.replicate 37 {} ++ [{ st := .active }] ++ List.replicate 10 {} }

/-- A satellite of a string of two. -/
def satellite : State := { p37 with ploza.params := [(P.ringModules, [2])] }

theorem witness_SweepCommands :
    (p37.power.st = .run ∧ p37.executes 0x50 own passive ∧ forwardedSweep own passive = none ∧ (sweepOf passive).modeByte ≠ 1 ∧
      p37.grid.mode ≠ .service ∧ p37.eis.st = .off ∧ p37.eis.latched = none ∧ p37.sweepOk (sweepOf passive) = true ∧ p37.sweepReason (sweepOf passive) = 0) ∧
    (({ p37 with eis.st := .draining } : State).executes 0x50 own passive ∧ ({ p37 with eis.st := .draining } : State).eis.latched = none) ∧
    (∃ a, satellite.power.st = .run ∧ satellite.executes 0x50 ⟨.ring, 0xFE, 0, 0⟩ ((passive ++ zeros 8).take 16) ∧
      forwardedSweep ⟨.ring, 0xFE, 0, 0⟩ (passive ++ zeros 8) = some a ∧ satellite.isPrimary = false ∧ satellite.grid.mode ≠ .service) ∧
    ({ p37 with eis.st := .on } : State).executes 0x52 own [] ∧ p37.isPrimary = true := by
  refine ⟨?_, ?_, ⟨(0, 0), ?_⟩, ?_⟩ <;> unfold State.executes <;> decide +kernel


/-- The module in WATCH and STANDBY. -/
def watching : State := { standby with power.st := .watch, power.auxOk := true }

theorem witness_PowerCommands :
    (∀ q ∈ [([(0 : Byte)], (0x20 : Byte)), ([0x08, 0], 0xF1)], standby.executes q.2 own q.1) ∧
    (active.executes 0x20 own [1] ∧ powerStOf (getB [1] 0) = some .watch ∧ active.mayState .watch = false) ∧
    (powerStOf (getB [0] 0) = some .run ∧ standby.mayState .run = true ∧ standby.power.phase = .settled ∧
      standby.power.context ≠ .recovery ∧ PowerSt.run = standby.power.st) ∧
    (standby.executes 0x20 own [2] ∧ powerStOf (getB [2] 0) = some .doze ∧ standby.mayState .doze = true ∧
      standby.power.st.code < PowerSt.doze.code) ∧
    (({ watching with power.auxOk := false } : State).executes 0x20 own [0] ∧ PowerSt.run.code < watching.power.st.code ∧
      ({ watching with power.auxOk := false } : State).mayState .run = true ∧ watching.power.phase = .settled ∧ watching.power.context ≠ .recovery) ∧
    watching.executes 0x20 own [0] ∧ watching.power.auxOk = true := by
  refine ⟨?_, ?_, ?_, ?_, ?_, ?_, ?_⟩ <;> (try unfold State.executes) <;> decide +kernel

theorem witness_DiagCommands :
    State.reset.executes 0xF1 own [0x01] ∧
    (State.reset.executes 0xF1 own [0x02, 1, 2, 3, 4] ∧ State.reset.power.st = .run ∧ State.reset.grid.mode = .service ∧
      State.reset.cfe.calRun = none) ∧
    (State.reset.executes 0xF1 own [0x03] ∧ ({ State.reset with prot.set := { State.reset.prot.set with release := 1 } } :
      State).prot.set.release ≠ 0) ∧
    (∀ n ∈ [(1 : Byte), 96], State.reset.executes 0xF1 own [0x05, n] ∧ 1 ≤ (getB [n] 0).toNat ∧ (getB [n] 0).toNat ≤ State.reset.cells) ∧
    standby.executes 0xF1 own [0x06, 1, 0, 0] ∧ standby.grid.mode ≠ .service ∧ getB [(1 : Byte), 0, 0] 0 = 1 ∧
      getS [1, 0, 0] 1 2 ≠ -32768 := by
  refine ⟨?_, ?_, ?_, ?_, ?_, ?_, ?_, ?_⟩ <;> (try unfold State.executes) <;> decide +kernel

/-- The primary of a string whose positions come from enumeration. -/
def enumerating : State := { State.reset with ploza.params := [(P.ringPosSrc, [1])] }

/-- The safety block in SAFE with its reset conditions met. -/
def readyToArm : State := { State.reset with safe.resetReady := true }

/-- Lane A is in charge and lane B current. -/
def twoLanes : State :=
  { State.reset with lanes.valid := true, lane := [{ st := .inCharge, current := true }, { st := .standby, current := true }] }

theorem witness_RingSafetyAndRestartCommands :
    (satellite.executes 0xA1 own [] ∧ satellite.isPrimary = false) ∧
    (enumerating.executes 0xA1 own [] ∧ enumerating.isPrimary = true ∧ enumerating.grid.mode = .service ∧
      enumerating.pn P.ringPosSrc = 1 ∧ enumerating.ring.slots = List.replicate 8 none) ∧
    (standby.executes 0xB1 own [] ∧ standby.safe.st = .notUsed) ∧
    (State.reset.executes 0xB1 own [] ∧ State.reset.safe.st = .safe ∧ State.reset.safe.resetReady = false) ∧
    (readyToArm.executes 0xB1 own [] ∧ readyToArm.safe.st = .safe ∧ readyToArm.safe.resetReady = true) ∧
    (twoLanes.executes 0xE0 own [] ∧ twoLanes.power.st = .run ∧ (twoLanes.laneAt false).retired = false ∧
      (twoLanes.laneAt true).retired = false ∧ twoLanes.otherLane.current = true ∧ twoLanes.lanes.swapPhase = 0 ∧
      twoLanes.lanes.swapBy = none) ∧
    (∀ p ∈ [[(3 : Byte), 5, 0x06, 0, 0, 0]], State.reset.executes 0x61 own p ∧ streamPort (getB p 1) = some .canB ∧
      sectionShape (getB p 2).toNat = some (1, 96, 20) ∧ (getB p 0).toNat ≤ 3 ∧ getU p 4 2 = 0) ∧
    (∀ p ∈ [[(0 : Byte), 3, 0x06, 0, 100, 0]], State.reset.executes 0x61 own p ∧ streamPort (getB p 1) = some .spi ∧
      sectionShape (getB p 2).toNat = some (1, 96, 20) ∧ getU p 4 2 ≠ 0 ∧
      portRate (setAt State.reset.ploza.streams 0 (some { port := .spi, sect := 6, divider := 100 })) .spi ≤ State.reset.portBudget .spi) ∧
    (standby.executes 0xF0 own [0x5A, 0xA5, 0, 0] ∧ standby.grid.mode ≠ .service ∧ standby.sec.restart = false) ∧
    State.reset.executes 0xF0 own [0x5A, 0xA5, 0, 0] ∧ getU [0x5A, 0xA5, 0, 0] 0 4 = 0xA55A ∧ State.reset.sec.restart = false := by
  refine ⟨?_, ?_, ?_, ?_, ?_, ?_, ?_, ?_, ?_, ?_, ?_, ?_⟩ <;> (try unfold State.executes) <;> decide +kernel

/-- The module with TAMPER latched. -/
def tampered : State := { State.reset with sec.tamper := true, sec.keys := false }

/-- The module with a staged image of 129 bytes. -/
def staged129 : State :=
  { State.reset with sec.fwStaged := [0x36, 0x39, 0x58, 0x5A, 1, 0] ++ zeros 10 ++ [1, 0, 0, 0] ++ zeros 109 }

/-- The module with the journal entry of `twoWriters`. -/
def journalled : State := (opCommit commitA [] twoWriters).s

theorem witness_SecurityCommands :
    State.reset.power.st = .run ∧
    (tampered.executes 0x80 own [0, 0, 0, 0, 7] ∧ tampered.sec.fwVerify = none) ∧
    (State.reset.executes 0x80 own [0, 0, 0, 0, 7] ∧ getU [0, 0, 0, 0, 7] 0 4 = State.reset.sec.fwStaged.length ∧
      getU [0, 0, 0, 0, 7] 0 4 + ([0, 0, 0, 0, 7].drop 4 : List Byte).length ≤ 2097152) ∧
    (tampered.executes 0x81 own [0x81, 0, 0, 0] ∧ tampered.grid.mode = .service) ∧
    (staged129.executes 0x81 own [0x81, 0, 0, 0] ∧ staged129.sec.tamper = false ∧
      getU [0x81, 0, 0, 0] 0 4 = staged129.sec.fwStaged.length ∧ getU [0x81, 0, 0, 0] 0 4 = 128 + getU staged129.sec.fwStaged 16 4 ∧
      getU staged129.sec.fwStaged 0 4 = 0x5A583936 ∧ getU staged129.sec.fwStaged 4 2 = 1) ∧
    (∀ p ∈ [[0x02, 0xCB, 0x02, 0x00, (1 : Byte)], [0x02, 0xCB, 0x02, 0x00, 63]], journalled.executes 0x90 own p ∧
      journalled.newestIndex = some 183042 ∧ 1 ≤ (getB p 4).toNat ∧ (getB p 4).toNat ≤ 63 ∧ getU p 0 4 ≤ 183042 ∧
      183042 ≤ getU p 0 4 + 4095) ∧
    (tampered.executes 0x91 own (zeros 32) ∧ tampered.sec.tamper = true) ∧
    (({ State.reset with ploza.attests := 2 } : State).executes 0x91 own (zeros 32) ∧ State.reset.sec.tamper = false) ∧
    (State.reset.executes 0x91 own (zeros 32) ∧ State.reset.ploza.attests < 2) ∧
    State.reset.executes 0x92 own [1] ∧ State.reset.grid.mode = .service := by
  refine ⟨?_, ?_, ?_, ?_, ?_, ?_, ?_, ?_, ?_, ?_, ?_⟩ <;> (try unfold State.executes) <;> decide +kernel

/-- Block 63 of a table, all zero, with a CRC field. -/
def block63 (v : Nat) : List Byte := [63, 0] ++ zeros 1030 ++ toLe 4 v

/-- The CRC field of `block63` and the bytes that it covers. -/
theorem block63_crc (v : Nat) : (block63 v).take 1032 = [63, 0] ++ zeros 1030 ∧ getU (block63 v) 1032 4 = v % 2 ^ 32 := by
  have h : ([63, 0] ++ zeros 1030 : List Byte).length = 1032 := by rw [List.length_append, zeros, List.length_replicate]; rfl
  refine ⟨List.take_left' h, ?_⟩
  rw [getU, block63, List.drop_left' h, List.take_of_length_le (by rw [toLe_length]), leNat_toLe]
  norm_num

/-- The CRC of the bytes of `block63`. -/
def crc63 : BitVec 32 := crc32c ([63, 0] ++ zeros 1030)

/-- The module with block 63 of the active bank stored. -/
def oneBlock : State :=
  { State.reset with tbl.banks := State.reset.tbl.banks.modify State.reset.tbl.activeBank fun k =>
      { k with blocks := List.replicate 63 none ++ [some (List.replicate 256 0)] } }

theorem witness_TableCommands :
    (State.reset.executes 0x14 own ([64] ++ zeros 1035) ∧ 63 < (getB ([64] ++ zeros 1035) 0).toNat) ∧
    (({ State.reset with tbl.staged := .validating } : State).executes 0x14 own (zeros 1036) ∧ (getB (zeros 1036) 0).toNat ≤ 63 ∧
      getB (zeros 1036) 1 = 0) ∧
    (∀ v, (getB (block63 v) 0).toNat ≤ 63 ∧ getB (block63 v) 1 = 0 ∧ State.reset.tbl.staged ≠ .validating) ∧
    (State.reset.executes 0x14 own (block63 0) ∧
      crc32c ((block63 (crc63.toNat + 1)).take 1032) ≠ BitVec.ofNat 32 (getU (block63 (crc63.toNat + 1)) 1032 4) ∧
      crc32c ((block63 crc63.toNat).take 1032) = BitVec.ofNat 32 (getU (block63 crc63.toNat) 1032 4)) ∧
    (State.reset.executes 0x15 own [0, 0] ∧ getB [(0 : Byte), 0] 1 = 0 ∧ State.reset.tbl.staged = .empty) ∧
    oneBlock.executes 0x15 own [63, 1] ∧ (getB [(63 : Byte), 1] 0).toNat ≤ 63 ∧ getB [(63 : Byte), 1] 1 = 1 ∧
      oneBlock.activeTable.blocks.getD (getB [(63 : Byte), 1] 0).toNat none = some (List.replicate 256 0) := by
  refine ⟨?_, ?_, fun v => ⟨?_, rfl, ?_⟩, ⟨?_, ?_, ?_⟩, ?_, ?_, ?_, ?_, ?_⟩
  case refine_6 =>
    rw [(block63_crc _).1, (block63_crc _).2]
    change crc63 ≠ _
    intro e
    have := congrArg BitVec.toNat e
    have := crc63.isLt
    simp only [BitVec.toNat_ofNat] at *
    omega
  case refine_7 =>
    rw [(block63_crc _).1, (block63_crc _).2]
    change crc63 = _
    apply BitVec.eq_of_toNat_eq
    have := crc63.isLt
    simp only [BitVec.toNat_ofNat]
    omega
  case refine_3 => change ((63 : Byte)).toNat ≤ 63; decide
  all_goals ((try unfold State.executes); decide +kernel)

theorem witness_StrobeOpensTheFrame : (List.replicate 16 (none : Option Int)).length = 16 ∧
    ({ State.reset with power.st := .doze } : State).clockOn = false ∧ State.reset.clockOn = true ∧
    State.reset.prot.setPending = none ∧
    ∃ x, ({ State.reset with prot.setPending := some { State.reset.prot.set with release := 1 }, prot.setAge := 1 } :
      State).prot.setPending = some x ∧ ({ State.reset with prot.setAge := 1 } : State).prot.setAge ≤ 1 :=
  ⟨by decide, by decide, by decide, by decide, _, rfl, by decide⟩

theorem witness_BoundaryOpensTheWindow :
    ({ State.reset with power.st := .doze } : State).clockOn = false ∧
    (watching.power.st = .watch ∧ ({ watching with grid.frame := 9 } : State).power.st = .watch ∧
      (({ watching with grid.frame := 9 } : State).grid.frame - BitVec.ofNat 32 ((91999 + 8000) / 100000)).toNat % 10 ≠ 0) ∧
    (watching.clockOn = true ∧ (watching.grid.frame - BitVec.ofNat 32 ((0 + 8000) / 100000)).toNat % 10 = 0) ∧
    State.reset.clockOn = true ∧ State.reset.power.st ≠ .watch := by decide

/-- A window is open, and a conversion of the die diode runs. -/
def working : State :=
  { twoLanes with sched.windowOpen := true, gov.convBusy := true, pan := [{ st := .active, role := 0 }] ++ List.replicate 47 {} }

theorem witness_WindowAndGovernorEvents :
    twoLanes.laneRuns = true ∧ State.reset.laneRuns = false ∧ (0 < 40 ∧ 39 < 40) ∧ working.sched.windowOpen = true ∧
    State.reset.sched.windowOpen = false ∧ working.sched.isComet = false ∧
    ({ working with sched.inTail := true, sched.tailLen := 8 } : State).sched.inTail = true ∧ (8 ≤ ({ working with sched.inTail := true, sched.tailLen := 8 } : State).sched.tailLen) ∧
    (0 ∈ ({ working with slot := State.reset.slot.modify 0 fun y => { y with unshadowed := 49 } } : State).activeSlots ∧
      48 < (({ working with slot := State.reset.slot.modify 0 fun y => { y with unshadowed := 49 } } : State).slotAt 0).unshadowed ∧
      working.sluice.transitSuspended = false) ∧
    working.gov.convBusy = true ∧
    (working.roleOf 0 = some 0 ∧ working.clockOn = true ∧ working.mayRun 0 .cellScale = true ∧ jobClass .cellScale ≠ 1) := by
  decide +kernel

/-- P47 in a state, with a load for slot 39 or none. -/
def lastPan (st : PanState) (l : Option Nat) : State :=
  { State.reset with pan := List.replicate 47 {} ++ [{ st := st, loadFor := l }] }

theorem witness_PanEvents :
    (∀ st ∈ [PanState.retired, .gated, .halted], ((lastPan st none).panAt 47).st = st) ∧
    ((lastPan .spareIdle none).pan.length = 48 ∧ ((lastPan .spareIdle none).panAt 47).st = .spareIdle ∧
      ((lastPan .spareIdle none).panAt 47).loadFor = none ∧
      (lastPan .spareIdle none).slot.all (fun y => y.moveTo != some 47) = true) ∧
    ((lastPan .spareIdle (some 39)).slot.length = 40 ∧ ((lastPan .spareIdle (some 39)).panAt 47).loadFor = some 39 ∧
      (lastPan .spareIdle (some 39)).sluice.frozen = false) ∧
    (((lastPan .bist none).panAt 47).st = .bist ∧ (lastPan .bist none).sluice.arbs = []) ∧
    (1 ≤ 1 ∧ 3 ≤ 3 ∧ State.reset.sluice.frozen = false ∧ State.reset.nvm.busy = none) ∧
    (∃ r, ({ State.reset with nvm.busy := some { left := 1 } } : State).nvm.busy = some r ∧ r.left ≤ 1 ∧ State.reset.nvm.waiting = []) ∧
    ∃ r, ({ State.reset with nvm.busy := some { left := 2 } } : State).nvm.busy = some r ∧ 1 < r.left :=
  ⟨by decide, by decide, by decide, by decide, by decide, ⟨_, rfl, by decide⟩, ⟨_, rfl, by decide⟩⟩

/-- FE1 with its link up in frame 1, after `n` bad packets in a row. -/
def linked (n : Nat) : State :=
  { State.reset with grid.frame := 1, fe := State.reset.fe.modify 0 fun f => { f with linkUp := true, badRun := n } }

/-- A good packet of FE1 with the sample of frame 0. -/
def fePacket : List Byte := withCrc ([0x5A, 1, 0, 0] ++ zeros 64)

theorem witness_FrontEndPackets :
    (1 ≤ 1 ∧ 6 ≤ 6 ∧ State.reset.fe.length = 6 ∧ ((linked 0).feAt 6).linkUp = false) ∧
    ((linked 0).feActive 1 = true ∧ ((linked 0).feAt 1).linkUp = true ∧ ((linked 0).feAt 1).lost = false ∧
      (linked 0).waitingIn ((linked 0).feAt 1) < 3 ∧ feGood 1 ((linked 0).grid.frame - 1) fePacket = true ∧
      ((linked 0).feAt 1).skipSamples = 0) ∧
    (feGood 1 ((linked 3).grid.frame - 1) [] = false ∧ ((linked 3).feAt 1).badRun + 1 = 4) := by decide +kernel


/-- The module with FE1, or with the CFE, changed. -/
def withFe1 (f : Fe) : State := { State.reset with fe := f :: List.replicate 5 {} }

theorem witness_FrontEndLinkEvents :
    (1 ≤ 1 ∧ 6 ≤ 6 ∧ (withFe1 {}).fe.length = 6 ∧ (withFe1 {}).feActive 1 = true ∧ ((withFe1 {}).feAt 1).lost = false) ∧
    ((withFe1 {}).power.st = .run ∧ ((withFe1 { lineDown := true }).feAt 1).lineDown = true) ∧
    (50 ≤ 50 ∧ 400 ≤ 400 ∧ ((withFe1 { relinking := true, attempt := true }).feAt 1).relinking = true ∧
      ((withFe1 { relinking := true, attempt := true }).feAt 1).attempt = true ∧
      ((withFe1 { relinking := true, attempt := true, badRun := 3 }).feAt 1).badRun < 4) ∧
    (((withFe1 { linkUp := true }).feAt 1).linkUp = true ∧ (List.replicate 7 49).length = 7 ∧ (List.replicate 7 49).getD (1 - 1) 0 < 50) ∧
    ((withFe1 { noFallback := true }).feAt 1).noFallback = true ∧ ((withFe1 {}).feAt 1).supplyStack = false ∧
    ({ State.reset with lanes.protOnly := true } : State).lanes.protOnly = true := by decide +kernel

/-- The module with the link of its CFE up in frame 1. -/
def currentSide : State := { State.reset with grid.frame := 1, cfe.linkUp := true }

/-- Sub-sample packet 7 of frame 1, and the frame packet of frame 0, all zero. -/
def subPacket (i : Byte) : List Byte := withCrc ([0x5C, i, 1, 0] ++ zeros 8)

/-- The frame packet of frame 0, all zero. -/
def cfePacket : List Byte := withCrc ([0x5B, 7, 0, 0] ++ zeros 32)

/-- 10,000 frames of a calibration against 1,000 mA that read `m` thousandths of it. -/
def calibrating (m : Int) : State := { State.reset with cfe.calRun := some { ref := 1000, sum := m * 10000, n := 10000 } }

theorem witness_CurrentFrontEndEvents :
    (currentSide.hasCfe = true ∧ currentSide.cfe.linkUp = true ∧ subGood 0 currentSide.grid.frame (subPacket 0) = true ∧
      subGood 7 currentSide.grid.frame (subPacket 7) = true ∧ 7 < 8 ∧ 0 % 2 = 0) ∧
    subGood 0 currentSide.grid.frame [] = false ∧
    (currentSide.cfe.skipSamples = 0 ∧ currentSide.cfeAccepts [] (cfeFrameOf (currentSide.grid.frame - 1) []) = false ∧
      currentSide.cfe.badRun < 3 ∧ 3 ≤ ({ currentSide with cfe.badRun := 3 } : State).cfe.badRun) ∧
    currentSide.cfeAccepts cfePacket (cfeFrameOf (currentSide.grid.frame - 1) cfePacket) = true ∧
    (10000 ≤ ({ currentSide with cfe.zeroN := 10000 } : State).cfe.zeroN ∧ absRat (({ currentSide with cfe.zeroN := 10000 } :
      State).shuntNv ((({ currentSide with cfe.zeroN := 10000 } : State).cfe.zeroSum : Rat) / 10000)) ≤ 5000) ∧
    (recOf (recBytes {}) = some {} ∧ recOf (recBytes { branch := 1, check := true }) = some { branch := 1, check := true } ∧
      State.reset.branch.length = 2) ∧
    (State.reset.branchAt 1).mainRecs.any (·.stamp == 0) = false ∧
    ∀ m ∈ [(990 : Int), 1000, 1010], ∃ c, (calibrating m).cfe.calRun = some c ∧ 10000 ≤ c.n ∧ c.sum ≠ 0 ∧
      -20000 ≤ roundAway (((c.ref : Rat) * (c.n : Rat) / (c.sum : Rat) - 1) * 1000000) ∧
      roundAway (((c.ref : Rat) * (c.n : Rat) / (c.sum : Rat) - 1) * 1000000) ≤ 20000 := by
  refine ⟨?_, ?_, ?_, ?_, ?_, ?_, ?_, ?_⟩
  case refine_8 => exact fun m hm => ⟨_, rfl, by revert m; decide +kernel⟩
  all_goals decide +kernel

theorem witness_EstimationEvents :
    (0 < 8 ∧ State.reset.isPrimary = true ∧ State.reset.missing166.contains 0 = true) ∧ satellite.isPrimary = false ∧
    ({ State.reset with str.restRequested := true } : State).str.restRequested = true ∧
    ({ State.reset with estMod.counting := true } : State).estMod.counting = true ∧
    ({ State.reset with estMod.counting := true } : State).estMod.anchorStarved = false := by decide +kernel

/-- The converter of `owner` in a state. -/
def conv (st : FnState) : State := { owner with conv.st := st, conv.gatesOn := true, conv.gdEn := true }

theorem witness_ControlLawEvents :
    (0 < 4 ∧ 3 < 4 ∧ (List.replicate 8 0).length = 8 ∧ owner.portsOn = true ∧ owner.conv.st = .off) ∧
    ({ owner with power.st := .doze } : State).portsOn = false ∧
    ((conv .on).portsOn = true ∧ (conv .on).conv.st ≠ .off ∧ (conv .on).runningPan 34 = some 34) ∧
    8 ≤ ({ conv .on with law.plausCount := 8 } : State).law.plausCount ∧ (conv .on).conv.toOff = false ∧
      (conv .on).law.safeRun = false := by decide +kernel

theorem witness_ConverterStops :
    (∀ st ∈ [FnState.starting, .on, .draining], (conv st).conv.st ≠ .off ∧ (conv st).conv.toOff = false ∧ (conv st).fastLive = true) ∧
    ({ conv .starting with conv.startStep := 1 } : State).conv.startStep = 1 ∧ (conv .draining).conv.drainDone = false ∧
    ((conv .on).conv.gdEn = true ∧ (conv .on).conv.st ≠ .starting) ∧
    ((conv .on).pr P.convBusOvV ≤ (conv .on).busOf 3000000 ∧ owner.pr P.convBusOvV ≤ owner.busOf 3000000 ∧ owner.conv.st = .off) ∧
    (∀ k ∈ [34, 36], 7 ≤ ({ conv .on with law.heldSets := [7, 7, 7] } : State).law.heldSets.getD (k - 34) 0) ∧
    5 ≤ ({ conv .on with law.safeZeroOut := 5 } : State).law.safeZeroOut ∧
    (∀ j ∈ [1, 8], ({ conv .on with phase := List.replicate 8 { ilimRun := 255 } } : State).pn P.hiccupN ≤
      (({ conv .on with phase := List.replicate 8 { ilimRun := 255 } } : State).phaseAt j).ilimRun) ∧
    (conv .on).pn P.hiccupRetries ≤ ({ conv .on with conv.retries := List.replicate 16 0 } : State).retriesNow := by
  decide +kernel

/-- The converter of `owner`, its phases at the end of their run of limit hits. -/
def limited (st : FnState) : State := { conv st with phase := List.replicate 8 { ilimRun := 255 } }

theorem witness_ConverterSequence :
    (({ conv .starting with conv.startStep := 1 } : State).conv.st = .starting ∧ (conv .starting).conv.toOff = false) ∧
    (({ conv .starting with conv.startStep := 3, conv.ssLimit := 1000 } : State).nOk : Rat) * (conv .starting).rated ≤ 1000 ∧
    (4 ≤ ({ conv .draining with conv.drainOk := 4 } : State).conv.drainOk ∧ (conv .draining).conv.toOff = false) ∧
    (∀ j ∈ [1, 8], (limited .on).conv.gatesOn = true ∧ (limited .on).pn P.hiccupN ≤ ((limited .on).phaseAt j).ilimRun ∧
      (limited .on).retriesNow < (limited .on).pn P.hiccupRetries ∧ (limited .draining).conv.st = .draining) ∧
    (({ conv .on with conv.hiccupOff := true } : State).conv.hiccupOff = true ∧ (conv .on).conv.st = .on) ∧
    0 < ({ conv .on with conv.shedTimer := 1 } : State).conv.shedTimer ∧
    (∃ c rest, ({ conv .off with conv.fifo := [{}] } : State).conv.fifo = c :: rest ∧ (conv .off).lanes.protOnly = false) ∧
    ∀ j ∈ [1, 8], ({ conv .on with phase := List.replicate 8 { st := .active } } : State).phase.length = 8 ∧
      (({ conv .on with phase := List.replicate 8 { st := .active } } : State).phaseAt j).st = .active ∧
      (conv .on).conv.shedPhase ≠ some j := by
  refine ⟨?_, ?_, ?_, ?_, ?_, ?_, ⟨_, _, rfl, ?_⟩, ?_⟩ <;> decide +kernel

/-- The module with P39 running and one entry in the capture FIFO. -/
def captured : State :=
  { State.reset with
    slot := List.replicate 39 {} ++ [{ pan := some 39 }]
    pan := List.replicate 39 {} ++ [{ st := .active }] ++ List.replicate 8 {}
    prot.fifo := [{}] }

/-- Cause bit `b` is latched under AUTO, its condition present or gone. -/
def autoCause (b : Nat) (now : Bool) : State :=
  { State.reset with prot.set := { State.reset.prot.set with release := 1 }, prot.cause := setBit 0 b true
                     prot.present := setBit 0 (b - 22) now }

theorem witness_ProtectionEvents :
    (∀ fe ∈ [1, 6], ∀ ch ∈ [1, 16], State.reset.fe.length = 6 ∧ ch ≤ State.reset.feCells fe ∧ State.reset.dieLive fe = true) ∧
    ((freqShows .khz250).1 = true ∧ (freqShows .khz500).2 = true ∧ State.reset.prot.feOv.getLsbD 0 = false ∧
      State.reset.prot.feUv.getLsbD 5 = false) ∧
    (∃ e rest, captured.prot.fifo = e :: rest ∧ captured.lanes.protOnly = false ∧ captured.portsOn = true ∧ captured.roleRuns 39 = true) ∧
    ((State.reset.feAt 1).tsdLatched = false ∧ ({ State.reset with power.st := .aphelion } : State).dieLive 1 = false) ∧
    State.reset.fastLive = true ∧
    ∀ b ∈ [22, 31], ∀ now ∈ [true, false], (autoCause b now).prot.set.release = 1 ∧ (autoCause b now).prot.cause.getLsbD b = true ∧
      (autoCause b now).prot.present.getLsbD (b - 22) = now := by
  refine ⟨?_, ?_, ⟨_, _, rfl, ?_⟩, ?_, ?_, ?_⟩ <;> decide +kernel

/-- The protection-only state. -/
def protOnly : State := { State.reset with lanes.protOnly := true, ploza.params := [(P.notifyPorts, [15])] }

theorem witness_ProtectionOnlyState :
    (State.reset.lanes.valid = false ∧ State.reset.lanes.protOnly = false ∧ State.reset.portsOn = true) ∧
    (protOnly.lanes.protOnly = true ∧ twoLanes.lanes.valid = true) ∧
    (noticePorts (protOnly.pn P.notifyPorts) = [.spi, .canA, .canB, .ring] ∧ protOnly.lanes.protReduced = false ∧
      protOnly.portsOn = true ∧ protOnly.port.length = 4) ∧
    (({ protOnly with lanes.fallback := true, law.safeZeroOut := 5 } : State).lanes.fallback = true ∧
      5 ≤ ({ protOnly with lanes.fallback := true, law.safeZeroOut := 5 } : State).law.safeZeroOut) ∧
    (({ protOnly with safe.st := .armed, safe.seq := .closed } : State).safe.st = .armed ∧ protOnly.safe.tripT = none ∧
      ({ protOnly with safe.st := .armed, safe.seq := .closed } : State).safe.seq = .closed) ∧
    (∃ r, parseRequest (mkPacket 0xF0 0 0 0 [0x5A, 0xA5, 0, 0]) = some r ∧ r.crcOk = true ∧ r.length = r.payload.length ∧
      r.opcode = 0xF0 ∧ r.payload.length = 4 ∧ getU r.payload 0 4 = 0xA55A ∧ r.target.toNat = protOnly.ring.position) ∧
    ∃ r, parseRequest (mkPacket 1 0 0 0 []) = some r ∧ r.crcOk = true ∧ r.length = r.payload.length ∧ r.opcode ≠ 0xF0 := by
  refine ⟨?_, ?_, ?_, ?_, ?_, ⟨⟨0xF0, 0, 0, 0, 4, [0x5A, 0xA5, 0, 0], true⟩, ?_⟩, ⟨⟨1, 0, 0, 0, 0, [], true⟩, ?_⟩⟩ <;>
    decide +kernel


/-- A sweep runs at a satellite of a string of two. -/
def satSweep : State := { satellite with eis.st := .on, eis.sweepId := 7, eis.waits := [0] }

/-- A control record: sweep 7, flags, end cause, block 0, verdict VALID. -/
def control (flags cause : Byte) : List Byte := withCrc [0x33, 7, flags, cause, 0, 0, 0, 0, 0, 0, 0, 0]

theorem witness_SweepEvents :
    ({ p37 with eis.st := .starting } : State).eis.st = .starting ∧ p37.eis.st ≠ .starting ∧
    (satSweep.eis.st = .on ∧ satSweep.eis.kind ≠ .watch ∧ satSweep.isPrimary = false ∧
      ({ p37 with eis.st := .on } : State).eis.kind ≠ .watch ∧ p37.isPrimary = true) ∧
    ((control 0x80 0).length = 16 ∧ getB (control 0x80 0) 0 = 0x33 ∧ crcGood 12 (control 0x80 0) = true ∧ satSweep.sweepLive = true ∧
      (getB (control 0x80 0) 1).toNat = satSweep.eis.sweepId ∧ satSweep.eis.sweepId ≠ 0 ∧ getB (control 0x80 0) 3 = 0 ∧
      satSweep.eis.waits.contains (getU (control 0x80 0) 8 2) = true) ∧
    (crcGood 12 (control 0 2) = true ∧ getB (control 0 2) 3 ≠ 0) ∧
    (∃ b rest, satSweep.eis.waits = b :: rest) ∧
    (({ p37 with eis.st := .on, eis.halted := true } : State).eis.halted = true ∧
      ({ p37 with eis.st := .on, eis.halted := true } : State).sweepLive = true) ∧
    ({ p37 with eis.st := .draining } : State).eis.st = .draining ∧ satellite.isPrimary = false ∧ satellite.eis.st = .off := by
  refine ⟨?_, ?_, ?_, ?_, ?_, ⟨_, _, rfl⟩, ?_, ?_, ?_, ?_⟩ <;> decide +kernel

/-- The value of every entry of one quantity in a table that validates. -/
def flatValue (q : Nat) : Rat :=
  match q with
  | 0 | 1 => 3
  | 2 | 3 | 5 => 1 / 1000
  | 4 => 1000
  | 6 => 1000000
  | _ => 0

/-- Its word. -/
def flatWord (q : Nat) : Word := BitVec.ofNat 32 (Single.ofRat (flatValue q)).word

/-- A table of 64 blocks in which each quantity is the same everywhere. -/
def flatBank : TableBank := { blocks := (List.range 64).map fun b => some (List.replicate 256 (flatWord (b / 8))) }

theorem flat_entry (q t i : Nat) (hq : q < 8) (ht : t < 16) (hi : i < 128) :
    tableEntry flatBank q t i = Single.ofWord (flatWord q) := by
  have hb : (2048 * q + 128 * t + i) / 256 < 64 := by omega
  have hm : (2048 * q + 128 * t + i) % 256 < 256 := Nat.mod_lt _ (by omega)
  have hd : (2048 * q + 128 * t + i) / 256 / 8 = q := by omega
  simp only [tableEntry, tableWordAt, flatBank, List.getD_eq_getElem?_getD, List.getElem?_map, List.getElem?_range hb,
    Option.map_some, Option.getD_some, List.getElem?_replicate, hm, if_true, hd]

theorem flat_ok (n : Nat) (h : n < 16384) : entryReject flatBank (n / 2048) (n / 128 % 16) (n % 128) = 0 := by
  have hq : n / 2048 < 8 := by omega
  have ht : n / 128 % 16 < 16 := Nat.mod_lt _ (by omega)
  have hi : n % 128 < 128 := Nat.mod_lt _ (by omega)
  have hj : n % 128 - 1 < 128 := by omega
  generalize n / 2048 = q at *
  generalize n / 128 % 16 = t at *
  generalize n % 128 = i at *
  have e0 := flat_entry 0 t i (by omega) ht hi
  have e3 := flat_entry 3 t i (by omega) ht hi
  have e4 := flat_entry 4 t i (by omega) ht hi
  have e5 := flat_entry 5 t i (by omega) ht hi
  have eq := flat_entry q t i hq ht hi
  have ej := flat_entry q t (i - 1) hq ht hj
  have hv : ¬(Single.ofWord (flatWord q)).val < (Single.ofWord (flatWord q)).val := lt_irrefl _
  simp only [entryReject, eq, e0, e3, e4, e5, ej, hv, and_false, if_false]
  clear e0 e3 e4 e5 eq ej hv ht hi hj
  revert hq; revert q
  decide +kernel

theorem flat_accepted : ∀ f n : Nat, n + f ≤ 16384 → firstReject flatBank f n = none
  | 0, _, _ => rfl
  | f + 1, n, h => by
    rw [firstReject, flat_ok n (by omega)]
    exact flat_accepted f (n + 1) (by omega)

/-- The staged bank complete and VALIDATING. -/
def validating (k : TableBank) : State := { State.reset with tbl.staged := .validating, tbl.banks := [{}, k] }

theorem witness_TableAndSlotEvents :
    ((validating flatBank).tbl.staged = .validating ∧ firstReject (validating flatBank).stagedBank 16384 0 = none) ∧
    firstReject (validating { blocks := [some [0]] }).stagedBank 16384 0 = some (1, 0) ∧
    (State.reset.tbl.fault = false ∧
      ∀ c ∈ [1, 96], ({ State.reset with tbl.rebuild := [1, 96] } : State).tbl.rebuild.contains c = true) ∧
    (∃ w rest, ({ State.reset with tbl.writing := [{ tries := 1 }] } : State).tbl.writing = w :: rest ∧ w.tries ≠ 0) ∧
    (∃ w rest, ({ State.reset with tbl.writing := [{}] } : State).tbl.writing = w :: rest ∧ w.tries = 0) ∧
    ∃ p, ({ State.reset with bal.st := .on, bal.slotPlanned := true, bal.plannedNew := true, bal.pendingPlan := some {} } :
      State).bal.pendingPlan = some p :=
  ⟨⟨rfl, flat_accepted 16384 0 (by decide)⟩, by decide +kernel, by decide, ⟨_, _, rfl, by decide⟩, ⟨_, _, rfl, by decide⟩,
    ⟨_, rfl⟩⟩

/-- The primary of a string of two. -/
def primary2 : State := { State.reset with ploza.params := [(P.ringModules, [2])], ring.isPrimary := true }

/-- The header of the module at position `q` for frame 0. -/
def header (q : Byte) : List Byte := withCrc ([0x48, 0, q, 0] ++ zeros 120)

theorem withCrc_good (n : Nat) (body : List Byte) (h : body.length = n) :
    crcGood n (withCrc body) = true ∧ (withCrc body).length = n + 4 := by
  subst h
  rw [withCrc, crcGood_append, Nat.mod_eq_of_lt (Nat.lt_of_lt_of_eq (crc32c body).isLt (by norm_num)), List.length_append, toLe_length]
  exact ⟨beq_self_eq_true _, rfl⟩

theorem header_good (q : Byte) : headerGood (header q) = true := by
  obtain ⟨hc, hl⟩ := withCrc_good 124 ([0x48, 0, q, 0] ++ zeros 120) (by rw [List.length_append, zeros, List.length_replicate]; rfl)
  have hb : getB (withCrc ([0x48, 0, q, 0] ++ zeros 120)) 0 = 0x48 := rfl
  rw [headerGood, header, hc, hl, hb]
  decide

/-- A summary of position 0, and its single segment. -/
def sumBytes : List Byte := withCrc (0x32 :: zeros 79)

/-- The segment. -/
def sumSegment : List Byte := [2, 0, 0, 0x80] ++ sumBytes

theorem summary_reads (b : List Byte) (hl : b.length = 84) (hb : getB b 0 = 0x32) (hc : crcGood 80 b = true) :
    ∃ x, summaryOf (messageBytes 2 b) = some x := by
  have hm : messageBytes 2 b = b := by
    rw [messageBytes, if_neg (by decide), if_pos rfl]
    exact List.take_of_length_le (Nat.le_of_eq hl)
  rw [hm, summaryOf, if_pos (by rw [hc, hl, hb]; decide)]
  exact ⟨_, rfl⟩

theorem sum_good : ∃ x, summaryOf (messageBytes 2 sumBytes) = some x :=
  have h := withCrc_good 80 (0x32 :: zeros 79) (by rw [List.length_cons, zeros, List.length_replicate])
  summary_reads _ h.2 rfl h.1

theorem sum_taken : takeSegment none sumSegment = (none, some (2, sumBytes)) := by
  have taken : ∀ seg b : List Byte, (getB seg 0).toNat = 2 → getU seg 2 2 = 32768 → seg.drop 4 = b →
      takeSegment none seg = (none, some (2, b)) := by
    intro seg b h1 h2 h3
    simp [takeSegment, h1, h2, h3]
  exact taken _ _ rfl (by rw [getU, sumSegment]; rfl) rfl

theorem witness_RingTraffic :
    (primary2.isPrimary = true ∧ primary2.ringFrame = true ∧ primary2.lanes.protOnly = false) ∧
    (satellite.isPrimary = false ∧ satellite.ringFrame = true) ∧
    (headerGood [] = false ∧ headerGood (header 1) = true ∧ primary2.ring.position < (getB (header 1) 2).toNat % 8) ∧
    ((getB (header 1) 2).toNat % 8 ≠ satellite.ring.position ∧ satellite.ring.hdrFrame ≠ some 0) ∧
    (primary2.ring.isPrimary = true ∧ (zeros 2880).length = 2880) ∧
    (satellite.portsOn = true ∧ (zeros 113).length = 113 ∧ ({ satellite with ring.st := .forming } : State).ring.st = .forming) ∧
    takeSegment primary2.ring.rxDn (zeros 84) = (none, none) ∧
    (∀ src ∈ [0, 7], takeSegment (primary2.ring.rxUp.getD src none) ([2, 0, 0, 0] ++ zeros 28) =
      (some { kind := 2, msg := 0, next := 1, data := zeros 28 }, none)) ∧
    ∃ r raw x, takeSegment (primary2.ring.rxUp.getD 1 none) sumSegment = (r, some (2, raw)) ∧
      summaryOf (messageBytes 2 raw) = some x := by
  obtain ⟨x, hx⟩ := sum_good
  exact ⟨by decide, by decide +kernel, ⟨by decide +kernel, header_good 1, by decide +kernel⟩, by decide +kernel,
    ⟨rfl, List.length_replicate⟩, ⟨by decide, List.length_replicate, rfl⟩, by decide +kernel, by decide +kernel,
    none, sumBytes, x, sum_taken, hx⟩

/-- A satellite at position 1. -/
def satellite1 : State := { satellite with ring.position := 1 }

theorem witness_RingRoles :
    (primary2.portsOn = true ∧ primary2.pn P.ringModules ≠ 1) ∧
    (satellite1.ringFrame = true ∧ satellite1.isPrimary = false ∧ satellite1.lanes.protOnly = false ∧
      ((List.range 8).find? fun q =>
        if q = satellite1.ring.position then satellite1.selfEligible else (0 : BitVec 8).getLsbD q && (0 : BitVec 8).getLsbD q) = some 1 ∧
      1 ≠ satellite1.ring.primary) ∧
    (({ primary2 with ring.position := 1, ring.eligRun := 10000 :: List.replicate 7 0 } : State).ring.isPrimary = true ∧
      ((List.range 1).find? fun p => decide (10000 ≤ (10000 :: List.replicate 7 0).getD p 0)) = some 0) ∧
    satellite.ring.isPrimary = false ∧
    (∃ r, ({ primary2 with ring.enumBy := some {} } : State).ring.enumBy = some r) ∧
    (({ satellite with ring.hopSeen := some 7, ring.st := .forming } : State).ring.hopSeen = some 7) ∧
    (({ State.reset with ploza.params := [(P.ringTimeSrc, [1])] } : State).pn P.ringTimeSrc = 1 ∧ State.reset.isPrimary = true) ∧
    ({ State.reset with ring.timeSrc := 1 } : State).ring.timeSrc = 1 ∧
    (∃ m, ({ watching with ploza.params := [(P.wakeEnable, [m])] } : State).armed 7 = true ∧ watching.power.aonPower = true ∧
      watching.within100ms watching.ring.toneFrom = false ∧ watching.power.phase = .settled ∧ watching.power.st = .watch) ∧
    State.reset.armed 7 = false := by
  refine ⟨?_, ?_, ?_, ?_, ⟨_, rfl⟩, ?_, ?_, ?_, ⟨64, ?_⟩, ?_⟩ <;> decide +kernel

/-- Two lanes without a token, the boot over. -/
def claimants (a b : Lane) : State := { State.reset with lane := [a, b], lanes.booting := false }

theorem witness_LaneEvents :
    (twoLanes.lane.length = 2 ∧ twoLanes.lanes.valid = true ∧ State.reset.lane.length = 2 ∧ State.reset.lanes.valid = false ∧
      State.reset.lanes.hold = false) ∧
    (∀ b, (twoLanes.laneAt b).st = .standby ∨ (twoLanes.laneAt b).st = .inCharge) ∧
    ((claimants { current := true } { current := false }).mayClaim false = true ∧
      (claimants { current := true } { current := false }).mayClaim true = false) ∧
    ((claimants { current := false } { current := true }).mayClaim false = false ∧
      (claimants { current := false } { current := true }).mayClaim true = true) ∧
    (∀ b, (claimants { current := true } { current := true }).mayClaim b = true) ∧
    (claimants { current := true, outOk := false } { current := true, outOk := true }).score false <
      (claimants { current := true, outOk := false } { current := true, outOk := true }).score true ∧
    (claimants { current := true } { current := true }).score false = (claimants { current := true } { current := true }).score true ∧
    (∀ b, ({ State.reset with lanes.granted := some b } : State).lanes.granted = some b ∧ State.reset.lanes.protOnly = false ∧
      State.reset.lanes.booting = true ∧ (State.reset.laneAt (!b)).st = .standby) ∧
    0 < ({ twoLanes with lane := [{ beliefDiffs := [0] }, {}] } : State).within 36000000
      (({ twoLanes with lane := [{ beliefDiffs := [0] }, {}] } : State).laneAt false).beliefDiffs ∧
    ({ claimants { current := true } { current := true } with lanes.hold := true } : State).lanes.hold = true ∧
    ((twoLanes.laneAt (!twoLanes.lanes.holder)).st = .standby ∧ (twoLanes.laneAt (!twoLanes.lanes.holder)).resync = false ∧
      (({ twoLanes with lane := [{ st := .inCharge }, { lastMirror := some 4294967295 }] } : State).laneAt true).lastMirror =
        some 4294967295 ∧ twoLanes.successor 4294967295 0 = true) ∧
    (({ twoLanes with lane := [{ st := .inCharge }, { resync := true }] } : State).laneAt true).resync = true ∧
    ∀ b, ((claimants { st := .rebooting } { st := .rebooting }).laneAt b).st = .rebooting := by decide +kernel

theorem witness_SwapEvents :
    (twoLanes.lane.length = 2 ∧ ({ twoLanes with lanes.swapPhase := 1 } : State).lanes.swapPhase = 1 ∧ twoLanes.lanes.valid = true) ∧
    (twoLanes.lanes.swapPhase ≠ 1 ∧ twoLanes.lanes.swapPhase ≠ 2) ∧
    ({ twoLanes with lanes.swapPhase := 2 } : State).lanes.swapPhase = 2 ∧ twoLanes.lanes.swapOverdue = false ∧
    ({ twoLanes with lanes.swapOverdue := true } : State).lanes.swapOverdue = true := by decide

/-- The safety block with its parts changed. -/
def safety (x : Safe) : State := { State.reset with safe := x }

/-- An input that has missed one drop of its own test output, and one that has followed one of the other. -/
def nearlyStuck : SafeIn := { closed := true, stuckRun := 1 }

theorem witness_SafetyTrips :
    ((∀ x ∈ [SafeSt.safe, .armed], ((safety { st := x }).safe.st = .safe ∨ (safety { st := x }).safe.st = .armed) ∧
      (safety { st := x }).safeActive = true) ∧ (safety {}).safe.set.doorUsed = true) ∧
    (∀ o ∈ [0, 3], o < 4 ∧ (safety { kPos := true, safeOk := true }).safe.outOn o = true) ∧
    ((safety {}).safe.setBad = false ∧ (true && false) = false ∧ (safety {}).safe.internalFault = false) ∧
    ((safety { st := .armed, seq := .closing, kPre := true }).safe.seq = .closing ∧
      (safety { st := .armed, seq := .overlap, kPos := true }).safe.kPos = true ∧
      (safety { st := .armed, seq := .overlap, kPos := true }).safe.seq = .overlap) ∧
    sampleCauses (safety {}).safe ((safety {}).safe.tick.readInputs { outBad := 1 }) { outBad := 1 } = [6] ∧
    (((List.range 7).foldl (fun (x : Safe) k => x.dropInput false 0 k) { estopA := nearlyStuck }).settleArming.input 0).stuck = true ∧
    (((List.range 7).foldl (fun (x : Safe) k => x.dropInput false 127 k) {}).settleArming.input 0).stuck = false ∧
    ((safety { st := .tripped }).safe.st = .tripped ∧ (safety { st := .tripped }).safeActive = true ∧
      (safety { tripT := some 0 }).safe.tripT.isSome = true) ∧
    (safety { st := .notUsed }).safeActive = false := by decide +kernel

/-- A safety block whose inputs are all closed and good. -/
def sound : Safe :=
  { estopA := { closed := true }, estopB := { closed := true }, doorA := { closed := true }, doorB := { closed := true }
    lockFb := { closed := true }, kVsupOk := true, gateKill := true }

theorem witness_ContactorSequence :
    (sound.armable = true ∧ ({ sound with set := { sound.set with auto := true } } : Safe).armable = true ∧
      (safety sound).safeActive = true ∧ sound.st = .safe ∧ sound.set.auto = false ∧ ({} : Safe).armable = false) ∧
    (({ seq := .closing } : Safe).kPre = false ∧ 10 ≤ ({ seq := .closing, kPre := true, preRun := 10 } : Safe).preRun ∧
      ({ seq := .closing, preRun := 9 } : Safe).preRun < 10) ∧
    (({ closeReq := true } : Safe).wantsClosed = true ∧ ({} : Safe).wantsClosed = false ∧
      (safety { st := .armed, seq := .overlap }).safeActive = true ∧ ({ st := .armed, seq := .opening } : Safe).tripT = none) ∧
    ((safety { sound with st := .armed }).safe.two1.closed = false ∧ (safety { sound with st := .armed }).safe.twoReleased = true ∧
      (safety { sound with st := .armed }).grid.mode = .service ∧ ({ sound with st := .armed } : Safe).seq = .opened) ∧
    (safety { sound with two1 := { closed := true } }).safe.two1.closed = true := by decide +kernel


/-- The power controller changed. -/
def powered (x : Power) : State := { State.reset with power := x }

theorem witness_PowerSupply :
    ((powered { auxOk := true }).power.auxOk = true ∧ (powered { auxOk := true }).power.st = .run ∧
      (powered { auxOk := true }).power.phase = .settled ∧ (powered { auxOk := true }).power.off = false ∧ (conv .starting).conv.toOff = false) ∧
    (watching.power.auxOk = true ∧ watching.power.st = .watch ∧ watching.power.phase = .settled) ∧
    (powered { auxOk := true, st := .doze }).power.st = .doze ∧ (powered { auxOk := true, st := .aphelion }).power.st = .aphelion ∧
    (State.reset.power.auxOk = false ∧ State.reset.power.aonPower = true ∧ State.reset.power.auxLoss = false ∧
      (powered { aonPower := false }).power.aonPower = false) ∧
    ((powered { auxLoss := true, recoverTo := some .watch }).power.recoverTo = some .watch ∧
      (powered { auxLoss := true, st := .watch }).power.recoverTo = none ∧ (powered { auxLoss := true, st := .watch }).power.st = .watch) ∧
    State.reset.power.target ≠ .aphelion ∧ (powered { st := .doze }).power.phase = .settled ∧ (0 < 8 ∧ 7 < 8 ∧ 8 ≤ 8) ∧
    (powered { st := .doze, phase := .handshake, asked := true, block := some 4 }).power.block = some 4 ∧ 4 < 5 ∧
    (powered { st := .doze, phase := .handshake, asked := true, block := some 5 }).power.block = some 5 ∧ 5 ≤ 5 := by decide

/-- An entry to DOZE at one of its steps. -/
def entering (t : PowerSt) (k : Nat) : State := { standby with power := { target := t, phase := .committed, entryStep := k } }

theorem witness_PowerEntries :
    (∃ q r, (powered { phase := .handshake, block := some 2, delayTotals := List.replicate 6 10000, req := some { ref := some {} } }).power.req =
        some q ∧ q.ref = some r ∧ (List.replicate 6 10000).getD 2 0 = 10000) ∧
    (∀ b ∈ [4, 5], (powered { phase := .handshake, block := some b, context := .recovery }).power.context ≠ .normal ∧
      (powered { phase := .handshake, block := some b }).power.delayTotals.getD b 0 < 10000 ∧ 10000 ≤ (List.replicate 6 10000).getD b 0) ∧
    (State.reset.power.phase ≠ .handshake ∧ State.reset.power.phase ≠ .committed) ∧
    (∀ x ∈ [(PowerSt.watch, 2, 3), (.doze, 2, 3), (.doze, 3, 4), (.doze, 4, 5), (.aphelion, 4, 5)],
      (entering x.1 x.2.1).power.phase = .committed ∧ nextStepOf x.1 x.2.1 = some x.2.2 ∧ x.2.2 ≠ 6 ∧
      (entering x.1 x.2.1).stepDone x.2.2 = true) ∧
    (∃ t k, ∃ s : State, s.power.phase = .committed ∧ nextStepOf s.power.target s.power.entryStep = some k ∧ s.stepDone k = false ∧
      s.power.target = t) ∧
    (∀ t ∈ [PowerSt.doze, .aphelion], (entering t 5).power.phase = .committed ∧ nextStepOf t 5 = some 6 ∧ (entering t 5).stepDone 6 = true ∧
      (entering t 5).power.queued = none ∧ (entering t 5).power.wakeLatched = none ∧ (entering t 5).power.recoverTo = none ∧
      (entering t 5).power.wakePending = none ∧ (entering t 5).power.entryStep ≤ 5) ∧
    (0 < State.reset.pan.length ∧ (State.reset.panAt 0).st ≠ .retired ∧ (State.reset.panAt 0).st ≠ .halted) := by
  refine ⟨⟨_, _, rfl, rfl, ?_⟩, ?_, ?_, ?_, ⟨.doze, 1, { entering .doze 0 with bal.st := .on }, ?_⟩, ?_, ?_⟩ <;> decide +kernel

/-- The power controller in DOZE or another state, with every wake source enabled. -/
def wakeful (x : Power) : State := { State.reset with power := x, ploza.params := [(P.wakeEnable, [127])] }

theorem witness_WakeAndReturn :
    (∀ src ∈ [1, 7], (wakeful { st := .doze }).armed src = true ∧ (wakeful { st := .doze }).power.aonPower = true ∧
      (wakeful { st := .doze }).power.coreFail = false ∧ (wakeful { st := .doze }).power.dwell = false ∧ src ≠ 4) ∧
    ((wakeful { st := .watch }).armed 7 = true ∧ (wakeful { st := .watch }).power.phase = .settled) ∧
    ((wakeful { phase := .handshake, target := .doze, req := some { ref := some {} } }).armed 7 = true ∧
      (wakeful { phase := .handshake, target := .doze }).power.context = .normal) ∧
    ((wakeful { phase := .handshake, target := .doze, context := .recovery }).armed 7 = true) ∧
    ((wakeful { phase := .committed, target := .doze }).armed 7 = true ∧
      (wakeful { phase := .committed, target := .doze, context := .recovery }).armed 7 = true) ∧
    (wakeful { phase := .returning, fromSt := .doze }).armed 7 = true ∧ (powered { aonPower := false }).power.aonPower = false ∧
    State.reset.armed 1 = false ∧
    ((powered { st := .doze, dwell := true }).power.dwell = true ∧
      (powered { st := .doze, dwell := true, wakePending := some 7 }).power.wakePending.isSome = true) ∧
    State.reset.power.phase ≠ .returning ∧
    (∀ k ∈ [1, 2, 4, 5, 7, 8], (powered { phase := .returning, stage := k }).power.phase = .returning ∧
      (powered { phase := .returning, stage := k }).power.retryWait = false ∧ (powered { phase := .returning, stage := k }).power.queued = none ∧
      (powered { phase := .returning, stage := k }).power.wakeLatched = none ∧
      (powered { phase := .returning, stage := k }).power.wakePending = none) ∧
    (powered { phase := .returning, stage := 2, stageTries := 2 }).power.stageTries < 3 ∧
    3 ≤ (powered { phase := .returning, stage := 2, stageTries := 3 }).power.stageTries ∧
    1 ≤ (powered { phase := .returning, stage := 4, stageTries := 1 }).power.stageTries := by decide +kernel

/-- A lane in charge with an image being written, a group to seal, an image to verify, or a trial. -/
def secure (x : Sec) : State := { twoLanes with sec := x }

/-- What the signature check, the decryption and the recipe check say is open (Config); whichever it is, one of the
clauses on FW_VERIFY_COMPLETE applies. -/
theorem witness_SecurityEvents :
    (State.reset.ploza.imageWrite = none ∧ State.reset.laneRuns = false) ∧
    (∃ x, ({ State.reset with ploza.imageWrite := some {} } : State).ploza.imageWrite = some x) ∧
    ((secure {}).laneRuns = true ∧ (secure {}).sec.seals = [] ∧ (secure {}).sec.fwVerify = none) ∧
    (∃ g rest, (secure { seals := [0] }).sec.seals = g :: rest ∧ (secure { seals := [0] }).laneRuns = true) ∧
    (∃ r, (secure { fwVerify := some {} }).sec.fwVerify = some r ∧ (secure { fwVerify := some {} }).laneRuns = true) ∧
    (∀ im : List Byte, (Config.vendorFwOk (hashNum (im.take 64 ++ im.drop 128)) (BitVec.ofNat 512 (beNat (slice im 64 64))) = false ∨
      getU im 12 2 < 1 ∨ 1 ≤ getU im 12 2) ∧ (Config.decryptFw 0 im = none ∨ ∃ plain, Config.decryptFw 0 im = some plain ∧
        (recipesOk (Config.recipes plain) = false ∨ recipesOk (Config.recipes plain) = true))) ∧
    (∃ r, (secure { fwTrial := some {} }).sec.fwTrial = some r ∧ (secure { fwTrial := some {} }).sec.restart = false ∧
      (secure { fwTrial := some {}, fwTrialFails := 1 }).sec.fwTrialFails ≠ 0) ∧
    (∃ k, 1 ≤ k ∧ k ≤ 4 ∧ (1 : BitVec 4).getLsbD (k - 1) = true ∧ State.reset.monitored k = true ∧ k = 1) ∧
    (∀ k, 1 ≤ k → k ≤ 4 → (0 : BitVec 4).getLsbD (k - 1) = true → State.reset.monitored k = true →
      k ≠ 1 ∧ State.reset.sec.policy.getLsbD (k - 1) = false) ∧
    State.reset.sec.tamperCounts.length = 4 := by
  refine ⟨by decide, ⟨_, rfl⟩, by decide, ⟨_, _, rfl, by decide⟩, ⟨_, rfl, by decide⟩, fun im => ⟨?_, ?_⟩, ⟨_, rfl, by decide⟩,
    ⟨1, by decide⟩, ?_, by decide⟩
  · exact .inr (Nat.lt_or_ge _ _)
  · cases Config.decryptFw 0 im with
    | none => exact .inl rfl
    | some plain => exact .inr ⟨plain, rfl, by cases recipesOk (Config.recipes plain) <;> simp⟩
  · intro k _ _ h
    simp at h

/-- CAN-A changed, on the bus. -/
def canA (x : Can) : State := { State.reset with can := [{ x with bus := .errorActive }, {}] }

/-- CAN-A on the bus with a lane that reads its ring. -/
def canRun : State := { twoLanes with can := [{ bus := .errorActive }, {}] }

/-- CAN-A with a frame to send, FD without and with a faster data rate. -/
def canMode (m : Int) : State := { canA { fifo := [{}] } with ploza.params := [(P.canAFd, [m])] }

/-- A first segment for position 0. -/
def firstSegment : BitVec 29 := BitVec.ofNat 29 (2 ^ 26 + 2 ^ 13)

theorem witness_CanEvents :
    ((canA {}).can.length = 2 ∧ (canA {}).portsOn = true ∧ ((canA {}).canAt false).onBus = true ∧ (canA {}).ringsRead = false ∧
      ((canA {}).canAt false).rxRing.length < 128) ∧
    (false && (canA {}).canFd false == 0) = false ∧
    128 ≤ ((canA { rxRing := List.replicate 128 {} }).canAt false).rxRing.length ∧
    (canRun.ringsRead = true ∧ (canRun.canAt false).rxRing = [] ∧ canRun.portsOn = true ∧ (canRun.canAt false).onBus = true) ∧
    (∃ id, (canRun.canAt false).keeps id = false) ∧
    (∃ id, (canRun.canAt false).keeps id = true ∧ idField id 13 2 = 1 ∧ idField id 0 8 = 0) ∧
    (∃ f rest, ((canMode 1).canAt false).fifo = f :: rest ∧ (canMode 1).canFd false ≠ 2) ∧
    ((canA { alarm := some {} }).canAt false).alarm.isSome = true ∧
    (∃ f rest, ((canMode 2).canAt false).fifo = f :: rest ∧ (canMode 2).canFd false = 2 ∧ 127 < 128 ∧ 127 ≤ 127) ∧
    (({ State.reset with can := [{ bus := .busOff }, {}] } : State).canAt false).bus = .busOff ∧
    ({ State.reset with power.st := .doze } : State).portsOn = false := by
  refine ⟨?_, ?_, ?_, ?_, ⟨0, ?_⟩, ⟨firstSegment, ?_⟩, ⟨_, _, rfl, ?_⟩, ?_, ⟨_, _, rfl, ?_⟩, ?_, ?_⟩ <;> decide +kernel

/-- The SPI mailbox changed. -/
def mailbox (x : Spi) : State := { State.reset with spi := x }

theorem witness_SpiMailbox :
    (State.reset.portsOn = true ∧ (mailbox { inDrop := true }).spi.inDrop = true ∧ State.reset.spi.inDrop = false ∧ 4 ≤ State.reset.spiFree) ∧
    ({ State.reset with lanes.inbox := [{ port := .spi, bytes := zeros 8189 }] } : State).spiFree = 3 ∧
    (([] ++ toLe 4 0 : List Byte).length < 6) ∧
    (6 ≤ ((mailbox { inPart := zeros 8 }).spi.inPart ++ toLe 4 0).length ∧
      10 + getU ((mailbox { inPart := zeros 8 }).spi.inPart ++ toLe 4 0) 4 2 ≤ ((mailbox { inPart := zeros 8 }).spi.inPart ++ toLe 4 0).length ∧
      ∀ x ∈ ((mailbox { inPart := zeros 8 }).spi.inPart ++ toLe 4 0).drop 10, x = 0) ∧
    (∃ x ∈ ((mailbox { inPart := zeros 8 }).spi.inPart ++ toLe 4 0x10000).drop 10, x ≠ 0) ∧
    State.reset.spi.outQ = [] ∧
    (∃ p q, (mailbox { outQ := [{ bytes := zeros 8 }] }).spi.outQ = p :: q ∧ 4 * (0 + 1) < p.bytes.length ∧ p.bytes.length ≤ 4 * (1 + 1)) ∧
    State.reset.spi.inPart = [] ∧ (mailbox { inPart := [1] }).spi.inPart ≠ [] ∧
    ({ State.reset with power.st := .doze } : State).portsOn = false := by
  refine ⟨by decide, ?_, by decide, by decide, ⟨1, by decide⟩, rfl, ⟨_, _, rfl, by decide⟩, rfl, by decide, by decide⟩
  have free : ∀ bs : List Byte, bs.length = 8189 →
      ({ State.reset with lanes.inbox := [{ port := .spi, bytes := bs }] } : State).spiFree = 3 := by
    intro bs h
    change 8192 - (bs.length + 0) - 0 = 3
    rw [h]
  exact free _ List.length_replicate


/-! ### Witnesses of the clauses that the first ones leave, at the edges of their ranges -/

/-- A PING that waits in the inbox of SPI, sent again with RETRY. -/
def waitingPing : State := { State.reset with lanes.inbox := [{ port := .spi, bytes := mkPacket 1 0 0 0 [] }] }

theorem witness_PacketReception_edges :
    (∃ r, parseRequest (mkPacket 1 0 0 1 []) = some r ∧ primary2.forwards .spi r.target = true ∧ r.crcOk = true ∧
      r.length = r.payload.length ∧ primary2.receiptFault .spi r = none ∧ primary2.takesFrom .spi r.target = false ∧ r.target ≠ 0xFF) ∧
    (∃ r, parseRequest (mkPacket 0x41 0 0 0xFF []) = some r ∧ State.reset.receiptFault .spi r = none ∧ r.target = 0xFF ∧
      Port.spi ≠ .ring ∧ bankOpcode r.opcode = true ∧ State.reset.retryWaits .spi r = false) ∧
    (∃ r, parseRequest (mkPacket 1 0 0x80 0 []) = some r ∧ waitingPing.receiptFault .spi r = none ∧
      waitingPing.takesFrom .spi r.target = true ∧ waitingPing.retryWaits .spi r = true) ∧
    parseRequest [] = none := by
  refine ⟨⟨⟨1, 0, 0, 1, 0, [], true⟩, ?_⟩, ⟨⟨0x41, 0, 0, 0xFF, 0, [], true⟩, ?_⟩, ⟨⟨1, 0, 0x80, 0, 0, [], true⟩, ?_⟩, by decide⟩ <;>
    decide +kernel

theorem witness_CommitAppliesTheStagedSet_empty : State.reset.executes 0x12 commitA [] ∧ State.reset.commitWrongState = none ∧
    State.reset.commitOutOfRange = none ∧ State.reset.ploza.imageWrite = none ∧ State.reset.ploza.staged = [] := by
  unfold State.executes; decide +kernel

theorem witness_QueriesChangeNothing_edges :
    (∀ p ∈ [[(1 : Byte), 1, 0], [1, 96, 0]], State.reset.executes 0x60 own p ∧ sectionShape (getB p 0).toNat = some (1, 96, 8) ∧
      1 ≤ (getB p 1).toNat ∧ (getB p 1).toNat ≤ 96 ∧ getB p 2 = 0) ∧
    (∀ p ∈ [[(1 : Byte), 0, 1], [1, 97, 1], [1, 96, 2]], State.reset.executes 0x60 own p ∧
      ((getB p 1).toNat < 1 ∨ 96 < (getB p 1).toNat ∨ (getB p 2 ≠ 0 ∧ 96 + 1 < (getB p 1).toNat + (getB p 2).toNat))) ∧
    (State.reset.executes 0x60 own [0x18, 0, 1] ∧ sectionShape 0x18 = none) ∧
    (∀ p ∈ [[(2 : Byte), 0, 0, 0, 0, 1], [0, 0, 0, 0, 0, 0], [1, 0, 0, 0, 0, 35]], State.reset.executes 0x33 own p ∧
      (1 < (getB p 0).toNat ∨ (getB p 5).toNat = 0 ∨ 34 < (getB p 5).toNat)) ∧
    (∀ p ∈ [[(0 : Byte), 0, 0, 0, 0], [0, 0, 0, 0, 32]], State.reset.executes 0xF1 own (0x04 :: p) ∧
      ((getB p 4).toNat = 0 ∨ 31 < (getB p 4).toNat)) ∧
    (∀ p ∈ [[(0 : Byte), 0, 0, 0, 0], [0, 0, 0, 0, 121]], State.reset.executes 0xF1 own (0x07 :: p) ∧
      ((getB p 4).toNat = 0 ∨ 120 < (getB p 4).toNat)) ∧
    (State.reset.executes 0x51 own [1, 1] ∧ State.reset.eis.result = none) ∧
    ∀ p ∈ [[(0 : Byte), 1], [2, 1], [1, 97]], swept.executes 0x51 own p ∧
      ((getB p 0).toNat = 0 ∨ (getB p 1).toNat < (getB p 0).toNat ∨ 96 < (getB p 1).toNat) := by
  refine ⟨?_, ?_, ?_, ?_, ?_, ?_, ?_, ?_⟩ <;> unfold State.executes <;> decide +kernel

/-- The module in STANDBY with a change to SERVICE deferred. -/
def leaving : State := { standby with grid.deferredMode := some { target := .service, ref := {} } }

/-- The module in SERVICE with the safety block ARMED, K_POS on or off. -/
def armedService (k : Bool) : State := { State.reset with safe.st := .armed, safe.kPos := k }

theorem witness_ModeCommands_edges :
    (∃ d, leaving.grid.deferredMode = some d ∧ leaving.mayMode .service = true ∧ leaving.executes 0x22 own [0] ∧ d.target = .service) ∧
    (∃ d, leaving.grid.deferredMode = some d ∧ leaving.mayMode .standby = true ∧ leaving.executes 0x22 own [1] ∧
      d.target ≠ .standby ∧ leaving.safe.st = .notUsed) ∧
    (({ active with conv.st := .on } : State).executes 0x22 own [0] ∧ ({ active with conv.st := .on } : State).mayMode .service = true ∧
      active.grid.mode ≠ .service ∧ ({ active with conv.st := .on } : State).conv.st ≠ .off) ∧
    (∀ k ∈ [true, false], (armedService k).executes 0x22 own [1] ∧ (armedService k).mayMode .standby = true ∧
      (armedService k).grid.deferredMode = none ∧ (armedService k).safe.kPos = k ∧ (armedService k).safe.st = .armed) ∧
    (({ State.reset with safe.st := .notUsed } : State).executes 0x22 own [1] ∧
      ({ State.reset with safe.st := .notUsed } : State).mayMode .standby = true) ∧
    (State.reset.executes 0x22 own [0] ∧ State.reset.mayMode .service = true ∧ Mode.service = State.reset.grid.mode) := by
  refine ⟨⟨_, rfl, ?_⟩, ⟨_, rfl, ?_⟩, ?_, ?_, ?_, ?_⟩ <;> unfold State.executes <;> decide +kernel

theorem witness_ConverterCommands_edges :
    (∀ st ∈ [FnState.off, .draining], ({ active with conv.st := st, conv.latched := some { hdr := own, payload := [] } } :
      State).executes 0x30 own [] ∧ ({ active with conv.st := st } : State).conv.toOff = false) ∧
    (∀ st ∈ [FnState.starting, .on], ({ active with conv.st := st } : State).executes 0x30 own [] ∧
      ({ active with conv.st := st } : State).conv.toOff = false) ∧
    (standby.executes 0x30 own [] ∧ standby.grid.mode ≠ .active) ∧
    (State.reset.executes 0x31 own [] ∧ State.reset.ownerReason ≠ 0) ∧
    (({ owner with conv.st := .draining } : State).executes 0x31 own [] ∧ ({ owner with conv.st := .draining } : State).ownerReason = 0 ∧
      ({ owner with conv.st := .draining } : State).conv.toOff = false) ∧
    (State.reset.executes 0x32 own (zeros 8) ∧ State.reset.targetOk .current (getS (zeros 8) 4 4) = true) ∧
    State.reset.executes 0x32 own ([3] ++ zeros 7) ∧ lawModeOf (getB ([(3 : Byte)] ++ zeros 7) 0) = none := by
  refine ⟨?_, ?_, ?_, ?_, ?_, ?_, ?_, ?_⟩ <;> (try unfold State.executes) <;> decide +kernel

theorem witness_BalancingCommands_edges :
    (∀ p ∈ [[(0 : Byte), 0, 10, 0] ++ zeros 96, [3, 0, 10, 0] ++ zeros 96, [1, 0, 0xFF, 0xFF] ++ zeros 96, [1, 0, 10, 0, 101] ++ zeros 95],
      State.reset.executes 0x40 own p ∧ (((getB p 0).toNat ≠ 1 ∧ (getB p 0).toNat ≠ 2) ∨ getU p 2 2 = 65535 ∨
        (((p.drop 4).map (·.toNat)).take State.reset.cells).any (100 < ·) = true)) ∧
    (({ State.reset with bal.st := .draining, bal.latched := some { hdr := own, payload := [] } } : State).executes 0x40 own hostPlan ∧
      ({ State.reset with bal.st := .draining, bal.latched := some { hdr := own, payload := [] } } : State).executes 0x41 own []) ∧
    (({ State.reset with slot := State.reset.slot.modify 38 fun y => { y with suspended := true } } : State).executes 0x40 own hostPlan ∧
      (({ State.reset with slot := State.reset.slot.modify 38 fun y => { y with suspended := true } } : State).slotAt 38).suspended = true) := by
  unfold State.executes; decide +kernel

/-- `passive` with a block length of 1, which is out of range. -/
def tooShort : List Byte := [2, 1, 0, 0, 1, 0, 0, 0, 16, 0, 0, 0, 5, 0, 0, 0]

/-- The header of a packet that the primary forwarded. -/
def forwarded : Hdr := ⟨.ring, 0xFE, 0, 0⟩

theorem witness_SweepCommands_edges :
    (State.reset.executes 0x50 own passive ∧ forwardedSweep own passive = none ∧ (sweepOf passive).modeByte ≠ 1 ∧
      State.reset.grid.mode = .service) ∧
    (p37.executes 0x50 own tooShort ∧ forwardedSweep own tooShort = none ∧ (sweepOf tooShort).modeByte ≠ 1 ∧ p37.eis.st ≠ .draining ∧
      p37.sweepOk (sweepOf tooShort) = false) ∧
    (∀ st ∈ [FnState.starting, .on], ({ p37 with eis.st := st } : State).executes 0x50 own passive ∧
      ({ p37 with eis.st := st } : State).sweepOk (sweepOf passive) = true) ∧
    (standby.executes 0x50 own passive ∧ standby.eis.st = .off ∧ standby.eis.latched = none ∧ standby.sweepOk (sweepOf passive) = true ∧
      standby.sweepReason (sweepOf passive) ≠ 0) ∧
    (({ satellite with eis.st := .on } : State).executes 0x52 forwarded [] ∧ forwarded.port = .ring ∧ forwarded.target = 0xFE) ∧
    (({ p37 with eis.st := .draining, eis.latched := some { hdr := own, payload := [] } } : State).executes 0x52 own [] ∧ p37.isPrimary = true) ∧
    (p37.executes 0x52 own [] ∧ p37.eis.st ≠ .starting ∧ p37.eis.st ≠ .on ∧ p37.eis.latched = none) ∧
    (satellite.executes 0x52 own [] ∧ satellite.isPrimary = false ∧ own.port ≠ .ring) := by
  refine ⟨?_, ?_, ?_, ?_, ?_, ?_, ?_, ?_⟩ <;> unfold State.executes <;> decide +kernel

/-- The module in STANDBY with its power controller changed. -/
def standing (x : Power) : State := { standby with power := x }

theorem witness_PowerCommands_edges :
    (standby.executes 0x20 own [4] ∧ powerStOf (getB [4] 0) = none) ∧
    (∀ x ∈ [({ phase := .committed, target := .doze } : Power), { phase := .returning, fromSt := .watch, stage := 8 },
        { context := .recovery, phase := .handshake, target := .watch }],
      (standing x).executes 0x20 own [1] ∧ (standing x).mayState .watch = true ∧
      ((standing x).power.phase = .committed ∨ (standing x).power.phase = .returning ∨ (standing x).power.context = .recovery)) ∧
    ((standing { phase := .handshake, target := .doze, req := some { ref := some {} } }).executes 0x20 own [0] ∧
      (standing { phase := .handshake, target := .doze }).mayState .run = true ∧
      PowerSt.run = (standing { phase := .handshake, target := .doze }).power.st ∧
      (standing { phase := .handshake, target := .doze }).power.context ≠ .recovery) := by
  refine ⟨?_, ?_, ?_⟩ <;> unfold State.executes <;> decide +kernel

/-- The module in STANDBY with an estimate of cells 1 and 96. -/
def measured : State :=
  { standby with thermo := [{ lastZ := some 1, zAge := some 0 }] ++ List.replicate 94 {} ++ [{ lastZ := some 2, zAge := some 6000000 }] }

theorem witness_DiagCommands_edges :
    (({ State.reset with cfe.calRun := some {} } : State).executes 0xF1 own [0x02, 1, 2, 3, 4] ∧
      ({ State.reset with cfe.calRun := some {} } : State).cfe.calRun.isSome = true) ∧
    (standby.executes 0xF1 own [0x02, 1, 2, 3, 4] ∧ standby.grid.mode ≠ .service ∧ standby.executes 0xF1 own [0x05, 1]) ∧
    (∀ n ∈ [(0 : Byte), 97], State.reset.executes 0xF1 own [0x05, n] ∧ ((getB [n] 0).toNat = 0 ∨ State.reset.cells < (getB [n] 0).toNat)) ∧
    State.reset.est.length = 96 ∧ (State.reset.executes 0xF1 own [0x06, 1, 0, 0] ∧ State.reset.grid.mode = .service) ∧
    (measured.executes 0xF1 own [0x06, 1, 0, 0] ∧ ∀ n ∈ [1, 96], n ∈ measured.calCells ∧ n ≤ measured.thermo.length) := by
  refine ⟨?_, ?_, ?_, ?_, ?_, ?_⟩ <;> (try unfold State.executes) <;> decide +kernel

/-- A stream of the whole of section 0x06 on CAN-A every frame. -/
def wideStream : List Byte := [0, 4, 0x06, 0, 1, 0]

theorem witness_RingSafetyAndRestartCommands_edges :
    (standby.executes 0xA1 own [] ∧ standby.isPrimary = true ∧ standby.grid.mode ≠ .service) ∧
    (State.reset.executes 0xA1 own [] ∧ State.reset.isPrimary = true ∧ State.reset.grid.mode = .service ∧ State.reset.pn P.ringPosSrc ≠ 1) ∧
    (({ State.reset with safe.st := .tripped } : State).executes 0xB1 own [] ∧ State.reset.safe.resetReady = false) ∧
    (({ twoLanes with lane := [{ st := .inCharge, current := true, retired := true }, { st := .standby, current := true }] } : State).executes
      0xE0 own []) ∧
    (({ twoLanes with lane := [{ st := .inCharge, current := true }, { st := .standby }] } : State).executes 0xE0 own [] ∧
      ({ twoLanes with lane := [{ st := .inCharge, current := true }, { st := .standby }] } : State).otherLane.current = false) ∧
    (({ twoLanes with lanes.swapPhase := 1 } : State).executes 0xE0 own [] ∧
      ({ twoLanes with lanes.swapPhase := 1 } : State).lanes.swapPhase ≠ 0) ∧
    (∀ p ∈ [[(4 : Byte), 3, 0x06, 0, 1, 0], [0, 9, 0x06, 0, 1, 0], [0, 3, 0x18, 0, 1, 0]], State.reset.executes 0x61 own p ∧
      (streamPort (getB p 1) = none ∨ sectionShape (getB p 2).toNat = none ∨ 3 < (getB p 0).toNat)) ∧
    (State.reset.executes 0x61 own wideStream ∧ streamPort (getB wideStream 1) = some .canA ∧
      State.reset.portBudget .canA < portRate (setAt State.reset.ploza.streams 0 (some { port := .canA, sect := 6, divider := 1 })) .canA) ∧
    State.reset.executes 0xF0 own (zeros 4) ∧ getU (zeros 4) 0 4 ≠ 0xA55A := by
  refine ⟨?_, ?_, ?_, ?_, ?_, ?_, ?_, ?_, ?_, ?_⟩ <;> (try unfold State.executes) <;> decide +kernel

theorem witness_SecurityCommands_edges :
    (({ State.reset with sec.fwVerify := some {} } : State).executes 0x80 own [0, 0, 0, 0, 7] ∧
      ({ State.reset with sec.fwVerify := some {} } : State).executes 0x81 own (zeros 4)) ∧
    (State.reset.executes 0x80 own [1, 0, 0, 0, 7] ∧ getU [1, 0, 0, 0, 7] 0 4 ≠ 0 ∧
      getU [1, 0, 0, 0, 7] 0 4 ≠ State.reset.sec.fwStaged.length) ∧
    (staged129.executes 0x80 own [0, 0, 0, 0, 7] ∧ staged129.sec.fwVerify = none ∧ staged129.sec.tamper = false ∧
      getU [0, 0, 0, 0, 7] 0 4 = 0 ∧ staged129.sec.fwStaged ≠ []) ∧
    (standby.executes 0x81 own (zeros 4) ∧ standby.grid.mode ≠ .service ∧ standby.executes 0x92 own [1]) ∧
    (staged129.executes 0x81 own (zeros 4) ∧ getU (zeros 4) 0 4 ≠ staged129.sec.fwStaged.length) ∧
    (State.reset.executes 0x90 own [0, 0, 0, 0, 1] ∧ State.reset.newestIndex = none) ∧
    (∀ p ∈ [[0x02, 0xCB, 0x02, 0x00, (0 : Byte)], [0x02, 0xCB, 0x02, 0x00, 64]], journalled.executes 0x90 own p ∧
      ((getB p 4).toNat = 0 ∨ 63 < (getB p 4).toNat)) ∧
    (∀ p ∈ [[0x03, 0xCB, 0x02, 0x00, (1 : Byte)], [0x02, 0xBB, 0x02, 0x00, 1]], journalled.executes 0x90 own p ∧
      ∃ top, journalled.newestIndex = some top ∧ (top < getU p 0 4 ∨ getU p 0 4 + 4095 < top)) ∧
    ({ State.reset with power.st := .watch } : State).executes 0x91 own (zeros 32) := by
  refine ⟨?_, ?_, ?_, ?_, ?_, ?_, ?_, ?_, ?_⟩
  case refine_8 =>
    intro p hp
    refine ⟨?_, 183042, ?_⟩ <;> (try unfold State.executes) <;> revert p <;> decide +kernel
  all_goals (unfold State.executes; decide +kernel)


theorem witness_WindowAndGovernorEvents_edges :
    10000 ≤ ({ State.reset with sched.calm := 10000 } : State).sched.calm ∧ State.reset.sched.calm < 10000 := by decide

/-- P47 loads for slot 39, for which an arbitration waits; another arbitration goes on. -/
def arbLoad : State :=
  { lastPan .spareIdle (some 39) with sluice.arbs := [{ slot := 39, referee := some 47 }, { slot := 0, referee := some 1 }] }

theorem witness_PanEvents_edges :
    (∃ a ∈ arbLoad.sluice.arbs, a.slot = 39 ∧ (a.referee = some 47 ∨ (a.referee = none ∧ a.shadow = 47))) ∧
    (∃ a ∈ arbLoad.sluice.arbs, ¬(a.slot = 39 ∧ (a.referee = some 47 ∨ (a.referee = none ∧ a.shadow = 47)))) ∧
    (arbLoad.pan.length = 48 ∧ arbLoad.slot.length = 40 ∧ (arbLoad.panAt 47).st = .spareIdle ∧ (arbLoad.panAt 47).loadFor = some 39 ∧
      arbLoad.sluice.frozen = false) ∧
    (∀ a ∈ (lastPan .spareIdle (some 39)).sluice.arbs, ¬(a.slot = 39)) := by decide

/-- FE1 with samples of frames 2 to 4 in its buffer, none of them taken. -/
def fullPort : State :=
  { State.reset with grid.frame := 5, sched.stamp := 1
                     fe := State.reset.fe.modify 0 fun f => { f with linkUp := true, buf := [{ stamp := 2 }, { stamp := 3 }, { stamp := 4 }] } }

theorem witness_FrontEndPackets_edges :
    (fullPort.feActive 1 = true ∧ (fullPort.feAt 1).linkUp = true ∧ 3 ≤ fullPort.waitingIn (fullPort.feAt 1) ∧
      ∃ old rest, fullPort.waitingOf ((fullPort.feAt 1).buf.map (·.stamp)) = old :: rest) ∧
    0 < (({ linked 0 with fe := State.reset.fe.modify 0 fun f => { f with linkUp := true, skipSamples := 1 } } : State).feAt 1).skipSamples :=
  ⟨⟨by decide, by decide, by decide, 2, [3, 4], by decide⟩, by decide⟩

theorem witness_FrontEndLinkEvents_edges :
    (∀ f ∈ [1, 6], ({ State.reset with ploza.params := [(P.cellCount, [16])] } : State).feActive f = (f == 1)) ∧
    (({ withFe1 { faultChDown := true } with power.st := .doze } : State).power.st ≠ .aphelion ∧
      (({ withFe1 { faultChDown := true } with power.st := .doze } : State).feAt 1).faultChDown = true) ∧
    ((∀ d, (none : Option Nat) = some d → d < 50 ∨ 400 < d) ∧ (∀ d, some 49 = some d → d < 50 ∨ 400 < d) ∧
      ∀ d, some 401 = some d → d < 50 ∨ 400 < d) ∧
    (100 ≤ (({ State.reset with grid.frame := 100 } : State).grid.frame - ((withFe1 {}).feAt 1).attemptAt).toNat ∧
      (({ State.reset with grid.frame := 99 } : State).grid.frame - ((withFe1 {}).feAt 1).attemptAt).toNat < 100) ∧
    ((withFe1 { linkUp := true }).feAt 1).linkUp = true ∧ (∀ v ∈ [50, 400], 50 ≤ (List.replicate 7 v).getD 0 0 ∧ (List.replicate 7 v).getD 0 0 ≤ 400) ∧
    State.reset.pn P.cfeRole ≠ 0 ∧ ({ State.reset with ploza.params := [(P.cfeRole, [0])] } : State).pn P.cfeRole = 0 ∧
    State.reset.cfe.supplyStack = false ∧
    (({ State.reset with cfe.relinking := true, cfe.attempt := true } : State).cfe.relinking = true ∧
      ({ State.reset with cfe.relinking := true, cfe.attempt := true } : State).cfe.attempt = true) := by
  refine ⟨by decide, by decide, ⟨by simp, by simp, by simp⟩, by decide, by decide, by decide, by decide, by decide, by decide, by decide⟩

/-- A module without a CFE. -/
def noCfe : State := { State.reset with ploza.params := [(P.cfeRole, [0])] }

theorem witness_CurrentFrontEndEvents_edges :
    noCfe.hasCfe = false ∧ State.reset.hasCfe = true ∧ State.reset.cfe.linkUp = false ∧
    0 < ({ currentSide with cfe.skipSamples := 1 } : State).cfe.skipSamples ∧
    (5000 < absRat (({ currentSide with cfe.zeroN := 10000, cfe.zeroSum := 10000 * 8388607 } : State).shuntNv
      ((({ currentSide with cfe.zeroN := 10000, cfe.zeroSum := 10000 * 8388607 } : State).cfe.zeroSum : Rat) / 10000))) ∧
    recOf [] = none ∧
    (2592000000000000 ≤ (({ State.reset with grid.plantNs := 2592000000000000 } : State).grid.plantNs - State.reset.cfe.zeroAt).toNat) ∧
    (∃ c, (calibrating 500).cfe.calRun = some c ∧ 10000 ≤ c.n ∧
      20000 < roundAway (((c.ref : Rat) * (c.n : Rat) / (c.sum : Rat) - 1) * 1000000)) ∧
    ∃ c, (calibrating 0).cfe.calRun = some c ∧ c.sum = 0 :=
  ⟨by decide, by decide, by decide, by decide, by decide +kernel, by decide, by decide, ⟨_, rfl, by decide +kernel⟩, ⟨_, rfl, by decide⟩⟩

theorem witness_EstimationEvents_edges :
    (10000 ≤ ({ State.reset with str.missingFrames := List.replicate 8 10000 } : State).str.missingFrames.getD 0 0 ∧
      ({ State.reset with str.missingFrames := List.replicate 8 10000 } : State).missing166.contains 0 = true) ∧
    14400000000000 ≤ (({ State.reset with grid.plantNs := 14400000000000 } : State).grid.plantNs - State.reset.str.restAskAt).toNat ∧
    State.reset.pn P.restStarveHours ≤ ({ State.reset with estMod.restAgeNs := 10 ^ 20 } : State).estMod.restAgeNs / 3600000000000 ∧
    (State.reset.pn P.anchorStarveDays * 86400000000000 ≤ ({ State.reset with estMod.anchorNs := 10 ^ 20 } : State).estMod.anchorNs ∧
      State.reset.estMod.anchorStarved = false) ∧
    (∀ n ∈ [0, 36000000], ({ State.reset with grid.validFrames := n } : State).grid.validFrames % 36000000 = 0) := by decide +kernel

theorem witness_ConverterStops_edges :
    40 ≤ ({ conv .starting with conv.startStep := 1, conv.gdEnSubs := 40 } : State).conv.gdEnSubs ∧
    (conv .draining).pn P.convDrainMaxMs * 40 ≤ ({ conv .draining with conv.drainSubs := 10 ^ 9 } : State).conv.drainSubs ∧
    (({ conv .starting with law.plausCount := 8, conv.startStep := 2 } : State).conv.startStep < 3 ∧
      8 ≤ ({ conv .starting with law.plausCount := 8, conv.startStep := 2 } : State).law.plausCount ∧ (conv .starting).law.safeRun = false) ∧
    owner.busOf 0 < owner.pr P.convBusOvV := by decide +kernel

/-- Phase 1 in ramp-out with so many steps left. -/
def ramping (n : Nat) : State := { conv .on with phase := { st := .rampOut, ramp := n } :: List.replicate 7 {} }

theorem witness_ConverterSequence_edges :
    (∀ n ∈ [1, 8], (ramping n).phase.length = 8 ∧ (ramping n).conv.gatesOn = true ∧ ((ramping n).phaseAt 1).st = .rampOut ∧
      1 ≤ ((ramping n).phaseAt 1).ramp) ∧
    ((ramping 0).conv.gatesOn = true ∧ ((ramping 0).phaseAt 1).st = .rampOut ∧ ((ramping 0).phaseAt 1).ramp = 0) ∧
    (owner.conv.gatesOn = false ∧ owner.phase.length = 8 ∧ ((ramping 1).phaseAt 8).switching = false) ∧
    (∀ b ∈ [true, false], (({ conv .on with phase := List.replicate 8 { st := .active, inPeriod := b } } : State).phaseAt 8).inPeriod = b) ∧
    (conv .on).pn P.hiccupToffMs * 40 ≤ ({ conv .on with conv.hiccupOff := true, conv.hiccupSubs := 10 ^ 9 } : State).conv.hiccupSubs ∧
    (conv .on).pn P.shedDwellMs * 40 ≤ ({ conv .on with conv.shedTimer := 10 ^ 9 } : State).conv.shedTimer ∧
    State.reset.conv.fifo = [] := by decide +kernel

theorem witness_ProtectionEvents_edges :
    (∀ f ∈ [1, 6], State.reset.dieLive f = true) ∧
    (∃ q, q ≠ (State.reset.feAt 1).carried) ∧
    ((State.reset.feCells 1 < 17) ∧ ({ State.reset with ploza.params := [(P.cellCount, [90])] } : State).feCells 6 < 16) ∧
    ({ State.reset with power.st := .aphelion } : State).fastLive = false ∧
    ((({ autoCause 22 false with prot.clearAt := List.replicate 10 0 } : State).grid.plantNs - 0).toNat + 100000 <
      1000000 * (autoCause 22 false).prot.set.releaseMs ∧
      1000000 * (autoCause 31 false).prot.set.releaseMs ≤
        (({ autoCause 31 false with grid.plantNs := 10 ^ 12 } : State).grid.plantNs - (autoCause 31 false).prot.clearAt.getD 9 0).toNat + 100000) := by
  refine ⟨by decide, ⟨if (State.reset.feAt 1).carried = .khz500 then .khz250 else .khz500, by decide⟩, by decide +kernel, by decide, by decide +kernel⟩

theorem witness_ProtectionOnlyState_edges :
    (({ State.reset with grid.frame := 1 } : State).lanes.releasedAt ≠ ({ State.reset with grid.frame := 1 } : State).grid.frame) ∧
    (10000 ≤ (({ protOnly with grid.frame := 10000 } : State).grid.frame - protOnly.lanes.protAt).toNat ∧
      (({ protOnly with grid.frame := 9999 } : State).grid.frame - protOnly.lanes.protAt).toNat < 10000) ∧
    (∀ x ∈ [(true, 0, 0), (false, 4, 0), (false, 0, 8000)], ({ protOnly with lanes.protReduced := x.1, lanes.protQuiet := x.2.1
                                                                             lanes.protSubs := x.2.2 } : State).lanes.protOnly = true) ∧
    (protOnly.lanes.protReduced = false ∧ protOnly.lanes.protQuiet ≠ 4 ∧ protOnly.lanes.protSubs ≠ 8000) := by decide

theorem witness_SweepEvents_edges :
    (State.reset.sinceBlock State.reset.eis.blockIdx = none ∧
      ∀ f ∈ [(999, 0), (1098, 99), (1099, 100)], ({ satSweep with grid.frame := BitVec.ofNat 32 f.1 } : State).sinceBlock 0 = some f.2) ∧
    (∃ x, satSweep.eis.waits.find? (fun x => x % 65536 == getU (control 0x80 0) 8 2) = some x) ∧
    ({ satSweep with eis.waits := [] } : State).eis.waits.find? (fun x => x % 65536 == getU (control 0 0) 8 2) = none ∧
    p37.eis.waits = [] ∧
    (State.reset.pn P.eisResumeS * 10000 ≤ ({ p37 with eis.st := .on, eis.halted := true, grid.validFrames := 10 ^ 9 } :
      State).grid.validFrames - p37.eis.haltedAt) ∧
    (satellite.grid.validFrames % 1000 = 0 ∧ ({ satellite with grid.validFrames := 1 } : State).grid.validFrames % 1000 ≠ 0) := by
  refine ⟨by decide, ⟨0, by decide +kernel⟩, by decide +kernel, by decide,
    by decide +kernel, by decide⟩

/-- A newer block of the number of the one that is written waits behind it. -/
theorem witness_TableAndSlotEvents_edges :
    (∃ w rest, ({ State.reset with tbl.writing := [{ block := 3 }, { block := 3 }] } : State).tbl.writing = w :: rest ∧
      rest.any (·.block == w.block) = true) ∧
    State.reset.lane.length = 2 ∧ ({ State.reset with tbl.fault := true } : State).tbl.fault = true ∧
    State.reset.tbl.rebuild.contains 1 = false ∧ State.reset.tbl.writing = [] ∧ State.reset.tbl.staged ≠ .validating :=
  ⟨⟨_, _, rfl, by decide⟩, by decide, by decide, by decide, by decide, by decide⟩

theorem witness_RingTraffic_edges :
    State.reset.ringFrame = false ∧
    ((getB (header 0) 2).toNat % 8 < ({ primary2 with ring.position := 1 } : State).ring.position ∧ headerGood (header 0) = true ∧
      ({ primary2 with ring.position := 1 } : State).isPrimary = true) ∧
    (getB (header 0) 2).toNat % 8 = primary2.ring.position ∧
    ({ State.reset with power.st := .doze } : State).portsOn = false :=
  ⟨by decide, ⟨by decide +kernel, header_good 0, by decide⟩, by decide +kernel, by decide⟩

theorem witness_RingRoles_edges :
    State.reset.pn P.ringModules = 1 ∧ State.reset.ringFrame = false ∧
    (({ State.reset with ring.timeSrc := 1 } : State).isPrimary = true ∧
      2999900000 ≤ (({ State.reset with ring.timeSrc := 1, grid.plantNs := 2999900000 } : State).grid.plantNs - State.reset.ring.ppsAt).toNat ∧
      (({ State.reset with ring.timeSrc := 1, grid.plantNs := 2999899999 } : State).grid.plantNs - State.reset.ring.ppsAt).toNat < 2999900000) ∧
    ({ State.reset with power.aonPower := false } : State).power.aonPower = false ∧
    primary2.ring.forming = 0 ∧ State.reset.pn P.ringTimeSrc ≠ 1 := by decide +kernel

theorem witness_LaneEvents_edges :
    5 ≤ (({ State.reset with grid.frame := 5 } : State).grid.frame - State.reset.lanes.releasedAt).toNat ∧
    (({ State.reset with grid.frame := 4 } : State).grid.frame - State.reset.lanes.releasedAt).toNat < 5 ∧
    (∀ b, State.reset.mayClaim b = false ∨ (claimants { current := true } { current := true }).mayClaim b = true) ∧
    ((claimants { current := false } { current := false }).mayClaim false = false ∧
      (claimants { current := false } { current := false }).mayClaim true = false) ∧
    (({ twoLanes with lanes.swapPhase := 2 } : State).lanes.swapPhase = 2 ∧
      (({ twoLanes with lanes.swapPhase := 2 } : State).laneAt true).st = .standby ∧
      (({ twoLanes with lanes.swapPhase := 2 } : State).laneAt true).resync = false) ∧
    twoLanes.within 36000000 (twoLanes.laneAt false).beliefDiffs = 0 := by
  refine ⟨by decide, by decide, fun b => .inr ?_, by decide +kernel, by decide, by decide⟩
  cases b <;> decide +kernel

theorem witness_SwapEvents_edges :
    ((twoLanes.laneAt (!twoLanes.lanes.holder)).st = .standby) ∧
    (({ twoLanes with lanes.swapPhase := 1, lane := [{ st := .inCharge }, { st := .rebooting }] } : State).laneAt true).st ≠ .standby ∧
    twoLanes.pn P.eclipseCheckFrames ≤ ({ twoLanes with lanes.swapPhase := 2, lanes.swapFrames := 10 ^ 6 } : State).lanes.swapFrames ∧
    twoLanes.lanes.swapFrames < twoLanes.pn P.eclipseCheckFrames ∧
    6048000000 ≤ ({ twoLanes with lanes.swapTimer := 6048000000 } : State).lanes.swapTimer ∧ twoLanes.lanes.swapTimer < 6048000000 := by
  decide +kernel

theorem witness_SafetyTrips_edges :
    (40 * ({} : Safe).set.discMs < ({ estop := { discUs := 40 * ({} : Safe).set.discMs + 1 } } : Safe).estop.discUs) ∧
    (({} : Safe).estop.discUs ≤ 40 * ({} : Safe).set.discMs ∧ ({} : Safe).door.discUs ≤ 40 * ({} : Safe).set.discMs) ∧
    ({} : Safe).kLowSamples < 40 ∧ 40 ≤ ({ kLowSamples := 40 } : Safe).kLowSamples ∧
    (40 * ({} : Safe).set.preMaxMs ≤ ({ preT := 40 * ({} : Safe).set.preMaxMs } : Safe).preT) ∧
    (({ kPos := true, inrush := true } : Safe).kPos = true ∧ ({} : Safe).inrush = false ∧ ({} : Safe).kPre = false) ∧
    (∃ x, ({ tripT := some (40 * ({} : Safe).set.kDelayMs) } : Safe).tripT = some x ∧ 40 * ({} : Safe).set.kDelayMs ≤ x) ∧
    (∀ x, ({} : Safe).tripT = some x → x < 40 * ({} : Safe).set.kDelayMs) ∧
    (∀ o ∈ [0, 3], (safety {}).safe.outOn o = false) ∧ ({ set := { ({} : Safe).set with doorUsed := false } } : Safe).set.doorUsed = false := by
  refine ⟨by decide, by decide, by decide, by decide, by decide, by decide, ⟨_, rfl, by decide⟩, fun _ h => (nomatch h), by decide, by decide⟩

theorem witness_ContactorSequence_edges :
    (4000 ≤ ({ sound with armSamples := 4000 } : Safe).armSamples ∧ ({ sound with armSamples := 4000 } : Safe).armable = true ∧
      sound.armSamples < 4000 ∧ ({ sound with set := { sound.set with auto := true } } : Safe).st = .safe) ∧
    (800 ≤ ({ seq := .closing, seqT := 800 } : Safe).seqT ∧ ({ seq := .closing, seqT := 799 } : Safe).seqT < 800) ∧
    (40 * ({} : Safe).set.preOverlapMs ≤ ({ seq := .overlap, posT := 40 * ({} : Safe).set.preOverlapMs } : Safe).posT ∧
      ({} : Safe).posT < 40 * ({} : Safe).set.preOverlapMs) ∧
    (40 * ({} : Safe).set.openGapMs ≤ ({ seq := .opening, seqT := 40 * ({} : Safe).set.openGapMs } : Safe).seqT ∧
      ({} : Safe).seqT < 40 * ({} : Safe).set.openGapMs) ∧
    (safety { sound with st := .armed }).safe.two2.closed = false := by decide

theorem witness_PowerSupply_edges :
    (∀ st ∈ [PowerSt.run, .watch], (powered { st := st }).power.auxOk = false ∧ ¬((powered { st := st }).power.target = .aphelion ∧
      (powered { st := st }).power.phase = .committed)) ∧
    ((powered { target := .aphelion, phase := .committed }).power.target = .aphelion) ∧
    (15000 ≤ (({ State.reset with grid.frame := 15000 } : State).grid.frame - State.reset.power.bridgeAt).toNat) ∧
    ((powered { auxOk := true, off := true }).power.st = .run ∧ (powered { auxOk := true, off := true }).power.off = true) ∧
    State.reset.armed 8 = false ∧ State.reset.lane.length = 2 := by decide +kernel

/-- An entry to DOZE that has run for `n` frames. -/
def overrun (n : Nat) : State := { entering .doze 1 with grid.frame := BitVec.ofNat 32 n }

theorem witness_PowerEntries_edges :
    ((overrun 0).clockOn = true ∧ ((overrun 0).grid.frame - (overrun 0).power.commitAt).toNat < (overrun 0).entryLimit) ∧
    ((overrun (10 ^ 9)).entryLimit ≤ ((overrun (10 ^ 9)).grid.frame - (overrun (10 ^ 9)).power.commitAt).toNat ∧
      (overrun (10 ^ 9)).power.phase = .committed ∧ (overrun (10 ^ 9)).power.entryStep ≤ 5 ∧ (overrun (10 ^ 9)).power.queued = none ∧
      (overrun (10 ^ 9)).power.wakeLatched = none ∧ (overrun (10 ^ 9)).power.wakePending = none ∧ (overrun (10 ^ 9)).power.recoverTo = none) ∧
    (∀ x ∈ (entering .watch 2).slot, x.moveTo = none) ∧ (entering .doze 4).lane.length = 2 := by decide +kernel

/-- A return at one of its stages after so many tries. -/
def returning (k n : Nat) : State := powered { phase := .returning, stage := k, stageTries := n }

theorem witness_WakeAndReturn_edges :
    (∀ k ∈ [1, 2, 3, 4, 5, 6, 7, 8], (returning k 0).power.phase = .returning ∧ (returning k 0).power.retryWait = false ∧
      (returning k 0).power.queued = none ∧ (returning k 0).power.wakeLatched = none ∧ (returning k 0).power.wakePending = none) ∧
    (∀ n ∈ [0, 3], 100 * (n + 1) ≤ (({ returning 2 n with grid.frame := 400 } : State).grid.frame - (returning 2 n).power.stageAt).toNat ∧
      ((returning 2 n).grid.frame - (returning 2 n).power.stageAt).toNat < 100 * ((returning 2 n).power.stageTries + 1)) ∧
    ((wakeful { st := .doze }).busWakes (List.replicate 10 3000000) = true ∧ (wakeful { st := .doze }).busWakes (List.replicate 9 3000000) = false) ∧
    ((wakeful { phase := .returning, coreFail := true, stage := 0 }).power.coreFail = true ∧
      (wakeful { phase := .returning, coreFail := true, stage := 0 }).within100ms none = false) ∧
    (∀ d ∈ [PowerSt.doze, .aphelion], (powered { phase := .returning, stage := 5, fromSt := d, laneBoot := true }).power.laneBoot = true) ∧
    ((powered { phase := .returning, stage := 2, retryWait := true }).power.retryWait = true ∧ (returning 0 0).power.stage = 0) ∧
    (State.reset.fe.length = 6 ∧ State.reset.feActive 6 = true ∧ (State.reset.feAt 6).linkUp = false) := by
  refine ⟨by decide, by decide, by decide +kernel, by decide, by decide, by decide,
    by decide⟩

theorem witness_SecurityEvents_edges :
    (36000000 ≤ ({ State.reset with grid.validFrames := 36000000 } : State).grid.validFrames - State.reset.sec.ephFrame) ∧
    (secure { fwTrial := some {} }).sec.fwTrialFails = 0 ∧ State.reset.sec.fwTrial = none ∧
    ({ State.reset with sec.restart := true } : State).sec.restart = true := by decide

/-- CAN-A on the bus with a packet in reassembly, of which segment 1 comes next. -/
def joining (b : Can) : State := { canRun with can := [{ b with bus := .errorActive }, {}] }

/-- The identifier of a segment of kind `k` and number `n` for position 0. -/
def segId (k n : Nat) : BitVec 29 := BitVec.ofNat 29 (2 ^ 26 + 2 ^ 13 * k + n)

/-- A packet of `PING` of 12 bytes of payload, of which 8 bytes have come. -/
def partA (n : Nat) : CanReasm := { key := reasmKey (segId 2 n), next := 1, data := [1, 0, 0, 0, 12, 0, 1, 2] }

theorem witness_CanEvents_edges :
    (∀ x ∈ [(0, 0), (1, 0), (1, 1), (2, 1)], ((joining {}).canAt false).keeps (segId x.1 x.2) = true ∧ idField (segId x.1 x.2) 13 2 = x.1 ∧
      idField (segId x.1 x.2) 0 8 = x.2) ∧
    ((joining {}).canAt false).reasm.find? (·.key == reasmKey (segId 2 1)) = none ∧
    (∃ r, ((joining { reasm := [partA 1] }).canAt false).reasm.find? (·.key == reasmKey (segId 2 1)) = some r ∧
      idField (segId 2 1) 0 8 = r.next ∧ r.next ≤ 64 ∧ (r.data ++ [3, 4]).length < 10 + getU (r.data ++ [3, 4]) 4 2 ∧
      10 + getU (r.data ++ zeros 14) 4 2 ≤ (r.data ++ zeros 14).length) ∧
    (∃ r, ((joining { reasm := [partA 2] }).canAt false).reasm.find? (·.key == reasmKey (segId 2 2)) = some r ∧ idField (segId 2 2) 0 8 ≠ r.next) ∧
    ((joining {}).ringsRead = true ∧ (joining {}).portsOn = true) := by
  refine ⟨by decide +kernel, by decide, ⟨_, rfl, ?_⟩, ⟨_, rfl, ?_⟩, by decide⟩ <;> decide +kernel

theorem witness_SpiMailbox_edges :
    (∀ a ∈ [0, 127], ∀ n ∈ [0, 2047], ∀ r ∈ [0, 8191], a < 128 ∧ n < 2048 ∧ r < 8192) ∧
    ((mailbox { inPart := [1] }).past10ms 0 = false ∧
      ({ mailbox { inPart := [1] } with grid.plantNs := 10 ^ 9 } : State).past10ms 0 = true) ∧
    (∃ p q, (mailbox { outQ := [{ bytes := zeros 8 }], outPos := 1 }).spi.outQ = p :: q ∧ p.bytes.length ≤ 4 * (1 + 1)) :=
  ⟨by decide, by decide, _, _, rfl, by decide⟩

end Sys2Proof.Tests
end

section
/-!
PROOFS. Scope (00_scope.md): the combinations of mode and power state that Table 0.5 marks no, and the answer to a request
for one of them.
-/

namespace Sys2Proof.Machine

/-! ### What MODE and POWER_STATE do when they execute -/

theorem exec_mode_of_executes {h : Hdr} {p : List Byte} {s : State} (he : s.executes 0x22 h p) :
    exec (.mode h p) s = .next (s.finish 0x22 h p (opMode h p s)) :=
  congrArg Host.Outcome.next (runCmd_of_executes he)

theorem exec_powerState_of_executes {h : Hdr} {p : List Byte} {s : State} (he : s.executes 0x20 h p) :
    exec (.powerState h p) s = .next (s.finish 0x20 h p (opPowerState false h p s)) :=
  congrArg Host.Outcome.next (runCmd_of_executes he)

/-! ### Forbidden combinations (R12) -/

theorem permitted_eq_false_iff (m : Mode) (t : PowerSt) :
    permitted m t = false ↔
      (m, t) ∈ [(Mode.active, PowerSt.watch), (.active, .doze), (.active, .aphelion), (.standby, .aphelion)] := by
  cases t with
  | run => cases m <;> decide
  | watch => cases m <;> decide
  | doze => cases m <;> decide
  | aphelion => cases m <;> decide

/-- The power state in force is one of those in which the mode would come to stand. -/
theorem mayMode_eq_false_of_not_permitted {m : Mode} {s : State} (hno : permitted m s.power.st = false) :
    s.mayMode m = false :=
  List.all_eq_false.2 ⟨s.power.st, List.mem_cons_self, by simp [hno]⟩

theorem mayState_eq_false_of_not_permitted {t : PowerSt} {s : State} (hno : permitted s.grid.mode t = false) :
    s.mayState t = false := by
  simp [State.mayState, hno]

/-- Both WRONG_STATE answers of MODE: a combination marked no (R12) and ACTIVE asked for in SERVICE (Table 17.12). -/
theorem opMode_wrongState {m : Mode} {h : Hdr} {p : List Byte} {s : State} (hm : modeOf (getB p 0) = some m)
    (hno : s.mayMode m = false ∨ (m = .active ∧ s.grid.mode = .service)) : opMode h p s = fail s .wrongState := by
  have hc : (!s.mayMode m || (m == .active && s.grid.mode == .service)) = true := by simpa using hno
  simp only [opMode, hm, hc, if_true]

theorem opPowerState_wrongState {t : PowerSt} {test : Bool} {h : Hdr} {p : List Byte} {s : State}
    (ht : powerStOf (getB p (if test then 1 else 0)) = some t) (hno : s.mayState t = false) :
    opPowerState test h p s = fail s .wrongState := by
  simp only [opPowerState, ht, hno, Bool.not_false, if_true]

/-- Settles O23: a combination that is not permitted fails the first check of either request once its operand is read, so
the answer is built before anything is changed. -/
theorem forbiddenCombinations : Obligations.ForbiddenCombinations := by
  refine ⟨permitted_eq_false_iff, fun h p s => ⟨fun m he hm hno => ?_, fun t he ht hno => ?_⟩⟩
  · rw [exec_mode_of_executes he, opMode_wrongState hm (.inl (mayMode_eq_false_of_not_permitted hno))]
    rfl
  · rw [exec_powerState_of_executes he, opPowerState_wrongState ht (mayState_eq_false_of_not_permitted hno)]
    rfl

end Sys2Proof.Machine
end

section
/-!
PROOFS. The staged set (17_ploza_protocol.md): DISCARD drops the staged parameters and the staged table bank.
-/

namespace Sys2Proof.Machine

/-! ### A completion leaves the staged set alone -/

theorem notify_ploza_staged (s : State) (sub : Nat) (data : List Byte) :
    (s.notify sub data).ploza.staged = s.ploza.staged := by
  obtain ⟨l, hl⟩ := notify_ploza s sub data
  rw [hl]

theorem complete_ploza_staged (s : State) (r : DeferRef) (final : Status) (outcome reason endCause : Nat)
    (detail : List Byte) : (s.complete r final outcome reason endCause detail).ploza.staged = s.ploza.staged :=
  notify_ploza_staged _ _ _

/-! ### DISCARD of the table bank (R210) -/

/-- The bank is emptied before the writes under way are completed, and completing them only sends notices. -/
theorem discardTable_tbl_staged (s : State) : s.discardTable.tbl.staged = .empty := by
  unfold State.discardTable
  exact foldl_keeps _ (·.tbl.staged) (fun t w => by rw [State.complete_keeps_tbl]) _ _

theorem discardTable_ploza_staged (s : State) : s.discardTable.ploza.staged = s.ploza.staged := by
  unfold State.discardTable
  exact foldl_keeps _ (·.ploza.staged) (fun t w => complete_ploza_staged _ _ _ _ _ _ _) _ _

/-! ### DISCARD (R418) -/

theorem exec_discard_of_executes {h : Hdr} {p : List Byte} {s : State} (he : s.executes 0x13 h p) :
    exec (.discard h p) s = .next (s.finish 0x13 h p (opDiscard h p s)) :=
  congrArg Host.Outcome.next (runCmd_of_executes he)

/-- Settles O19: DISCARD counts the staged parameters, empties the set and then drops the table bank, which stages nothing
again. -/
theorem discardEmptiesTheStagedSet : Obligations.DiscardEmptiesTheStagedSet := fun _ s he =>
  ⟨({ s with ploza.staged := [] } : State).discardTable, exec_discard_of_executes he,
    discardTable_ploza_staged _, discardTable_tbl_staged _⟩

end Sys2Proof.Machine
end

section
/-!
PROOFS. The parameter map (18_parameter_map.md): an identifier that no table lists.
-/

namespace Sys2Proof.Machine

/-! ### What PARAM_GET and PARAM_SET do when they execute -/

theorem exec_paramGet_of_executes {h : Hdr} {p : List Byte} {s : State} (he : s.executes 0x10 h p) :
    exec (.paramGet h p) s = .next (s.finish 0x10 h p (opParamGet h p s)) :=
  congrArg Host.Outcome.next (runCmd_of_executes he)

theorem exec_paramSet_of_executes {h : Hdr} {p : List Byte} {s : State} (he : s.executes 0x11 h p) :
    exec (.paramSet h p) s = .next (s.finish 0x11 h p (opParamSet h p s)) :=
  congrArg Host.Outcome.next (runCmd_of_executes he)

/-! ### Unlisted identifiers (R431) -/

theorem opParamGet_unknownParam {h : Hdr} {p : List Byte} {s : State} (hrow : paramRow (getU p 0 2) = none) :
    opParamGet h p s = fail s .unknownParam (toLe 2 (getU p 0 2)) := by
  simp only [opParamGet, hrow]

theorem opParamSet_unknownParam {h : Hdr} {p : List Byte} {s : State} (hrow : paramRow (getU p 0 2) = none) :
    opParamSet h p s = fail s .unknownParam (toLe 2 (getU p 0 2)) := by
  simp only [opParamSet, hrow]

/-- Settles O18: both requests look the identifier up before anything else, so the answer to an unlisted one is built over
the state as it stood, for PARAM_GET whatever its selector and for PARAM_SET whatever its size and value. -/
theorem unlistedParameters : Obligations.UnlistedParameters := by
  refine fun h p s hrow => ⟨fun he => ?_, fun he => ?_⟩
  · rw [exec_paramGet_of_executes he, opParamGet_unknownParam hrow]
    rfl
  · rw [exec_paramSet_of_executes he, opParamSet_unknownParam hrow]
    rfl

end Sys2Proof.Machine
end


section
/-!
PROOFS. What a command answers, and which parts of the state it leaves alone (opcode_table.json, 00_scope.md Table 0.3).
-/

-- One proof after the other: the threads of proofs that are elaborated at once take too much memory together.
set_option Elab.async false

namespace Sys2Proof.Machine

/-- Settles O1: the two clauses are the two arms of `step`. -/
theorem stepRunsFront : Obligations.StepRunsFront :=
  ⟨fun _ _ _ h => by rw [step, h], fun _ h => by rw [step, h]⟩

/-! ### Answers -/

/-- A command guarded by the check that its operands name units stops only where they do not. -/
theorem guarded_answers {P : Prop} [Decidable P] {t : State} {wf : Bool} (h : ¬P → wf = false) :
    (∃ u, (if P then .next t else .fault .noSuchUnit : Host.Outcome State Fault Refusal) = .next u) ∨
      ((if P then .next t else .fault .noSuchUnit : Host.Outcome State Fault Refusal) = .fault .noSuchUnit ∧ wf = false) := by
  by_cases hP : P
  · exact .inl ⟨t, if_pos hP⟩
  · exact .inr ⟨if_neg hP, h hP⟩

/-- The same with the check written the other way round: the module's own port receives nothing. -/
theorem port_answers {P : Prop} [Decidable P] {t : State} {wf : Bool} (h : P → wf = false) :
    (∃ u, (if P then .fault .noSuchUnit else .next t : Host.Outcome State Fault Refusal) = .next u) ∨
      ((if P then .fault .noSuchUnit else .next t : Host.Outcome State Fault Refusal) = .fault .noSuchUnit ∧ wf = false) := by
  by_cases hP : P
  · exact .inr ⟨if_pos hP, h hP⟩
  · exact .inl ⟨t, if_neg hP⟩

theorem exec_answers (c : Instr) (s : State) :
    (∃ t, exec c s = .next t) ∨ (exec c s = .fault .noSuchUnit ∧ c.wf = false) := by
  cases c
  case packetReceived | protOnlyReset => exact port_answers (by simp [Instr.wf])
  case ringMessageRx | wakeConfirmed => exact guarded_answers (by simp [Instr.wf]; omega)
  case outputTestDrop | outputOvercurrent => exact guarded_answers (by simp [Instr.wf, outOk])
  case sampleStrobe | panJobComplete | computeWindowEnd | controlSubperiod | loopFault | feFramePacket
      | cfeSubsamplePacket | backChannelMessage | portLineDown | feLinkFault | relinkAttemptEnd | relinkRetry
      | strobeDelayMeasure | feSupplyChangeover | feAuxReturn | stackKeepaliveTest | comparatorAssert
      | comparatorRelease | faultChannelChange | feThermalShutdown | feThermalRelease | faultAutoRelease
      | panHardFault | sluiceLoadComplete | panBistComplete | sluiceFail | currentRecordMissing | moduleMissingLimit
      | sliceWriteComplete | hiccupTrigger | coldStart | pwmPeriodStart =>
    exact guarded_answers (by simp [Instr.wf])
  all_goals exact .inl ⟨_, rfl⟩

/-- Settles O2: a well-formed command is not one that stops. -/
theorem commandsAnswer : Obligations.CommandsAnswer := by
  refine fun c s => ⟨fun hwf => ?_, fun o ho => ?_⟩
  · refine (exec_answers c s).resolve_right fun ⟨_, hno⟩ => ?_
    rw [hwf] at hno
    cases hno
  · rw [← ho]
    exact exec_answers c s

/-! ### The frame of a command -/

/-- The commands that may change the keys or TAMPER (20 R469, R470). -/
def movesKeys : Instr → Bool
  | .tamperDetect _ _ | .frameBoundary _ => true
  | _ => false

/-- The commands that may turn the gates on or off (11 R253, R270). -/
def movesGates : Instr → Bool
  | .frameBoundary _ | .controlSubperiod _ _ _ _ _ | .controlOutput _ _ _ _ _ _ | .loopFault _ | .loopImplausible
  | .safeLawGatesOff | .overcurrentTrip _ | .fastChannelLost | .faultLineLow | .startTimeout | .drainComplete
  | .drainTimeout | .gateDriverFault | .busOv _ | .hiccupTrigger _ | .hiccupRetry | .takeoverComplete
  | .fallbackGatesOff | .protOnlyReset _ _ | .safetySample _ | .safetyDiscrepancy _ | .testOutputDrop _ _
  | .outputTestDrop _ _ | .safetySelfTest _ _ _ | .prechargeTimeout | .inrushTrip | .kSupplyLow | .outputOvercurrent _
  | .auxOkClear | .aonPowerLoss | .entryStepComplete | .entryForced | .returnStageReady _ | .coldStart _ _ | .mode _ _
  | .convDisable _ _ | .reset _ _ => true
  | _ => false

/-- The commands that may change a lane or the token (14 R336 to R350). -/
def movesLanes : Instr → Bool
  | .frameBoundary _ | .tableBlockCheck _ _ | .tokenWatchdogExpire | .laneHardFault _ _ | .tokenGrant _ _
  | .takeoverComplete | .tokenBeliefMismatch _ | .rerunArbitration | .mirrorRx _ _ | .resyncComplete
  | .laneRebootComplete _ _ | .eclipseHandover _ | .eclipseCheckEnd _ _ | .protOnlyEntry | .protOnlyReset _ _
  | .aonPowerLoss | .entryStepComplete | .entryForced | .returnStageReady _ | .returnStageTimeout | .coldStart _ _
  | .commit _ _ | .reset _ _ | .correctedSramError _ => true
  | _ => false

/-- The mask of `hide` that holds the parts of a list. -/
def partsMask (l : List Part) : Nat := l.foldr (fun p m => 2 ^ p.bit ||| m) 0

/-- The mask of the fields that `hide` names apart: the mode, the keys, the power, converter and safety states, the window and the
new mode of the law (which any command may move), the gates, the token. -/
def fieldMask (mode keys power conv safe gates token : Bool) : Nat :=
  (bif mode then 2 ^ 37 else 0) ||| (bif keys then 2 ^ 38 + 2 ^ 39 else 0) ||| (bif power then 2 ^ 40 else 0) |||
    (bif conv then 2 ^ 41 else 0) ||| (bif safe then 2 ^ 42 + 2 ^ 43 + 2 ^ 44 else 0) ||| (2 ^ 45 + 2 ^ 46) |||
    (bif gates then 2 ^ 47 else 0) ||| (bif token then 2 ^ 48 + 2 ^ 49 else 0)

/-- The mask of what a command may change: its parts, and of the fields those that it moves. -/
def frameMask (c : Instr) : Nat :=
  partsMask (touches c) |||
    fieldMask c.movesMode (movesKeys c) c.movesPower c.movesConverter c.movesSafety (movesGates c) (movesLanes c)

/-- A command leaves all of the state that its mask does not hold. -/
theorem exec_hide_of_sub {m : Nat} {c : Instr} (hm : Sub (frameMask c) m) (s : State) :
    (outState s (exec c s)).hide m = s.hide m := by
  cases c
  all_goals dsimp only [frameMask, touches, Instr.movesMode, movesKeys, Instr.movesPower, Instr.movesConverter,
    Instr.movesSafety, movesGates, movesLanes] at hm
  case sampleStrobe => exact execSampleStrobe_hide m (.of rfl hm) ..
  case frameBoundary => exact execFrameBoundary_hide m (.of rfl hm) ..
  case governorDecision => exact execGovernorDecision_hide m (.of rfl hm) ..
  case panJobComplete => exact execPanJobComplete_hide m (.of rfl hm) ..
  case computeWindowEnd => exact execComputeWindowEnd_hide m (.of rfl hm) ..
  case comet => exact execComet_hide m (.of rfl hm) ..
  case scheduleFault => exact execScheduleFault_hide m (.of rfl hm) ..
  case oWorkResume => exact execOWorkResume_hide m (.of rfl hm) ..
  case transitSuspended => exact execTransitSuspended_hide m (.of rfl hm) ..
  case controlSubperiod => exact execControlSubperiod_hide m (.of rfl hm) ..
  case controlOutput => exact execControlOutput_hide m (.of rfl hm) ..
  case loopFault => exact execLoopFault_hide m (.of rfl hm) ..
  case loopImplausible => exact execLoopImplausible_hide m (.of rfl hm) ..
  case safeLawGatesOff => exact execSafeLawGatesOff_hide m (.of rfl hm) ..
  case feFramePacket => exact execFeFramePacket_hide m (.of rfl hm) ..
  case cfeSubsamplePacket => exact execCfeSubsamplePacket_hide m (.of rfl hm) ..
  case cfeFramePacket => exact execCfeFramePacket_hide m (.of rfl hm) ..
  case backChannelMessage => exact execBackChannelMessage_hide m (.of rfl hm) ..
  case backChannelCutoff => exact execBackChannelCutoff_hide m (.of rfl hm) ..
  case portLineDown => exact execPortLineDown_hide m (.of rfl hm) ..
  case feLinkFault => exact execFeLinkFault_hide m (.of rfl hm) ..
  case relinkAttemptEnd => exact execRelinkAttemptEnd_hide m (.of rfl hm) ..
  case relinkRetry => exact execRelinkRetry_hide m (.of rfl hm) ..
  case strobeDelayMeasure => exact execStrobeDelayMeasure_hide m (.of rfl hm) ..
  case feSupplyChangeover => exact execFeSupplyChangeover_hide m (.of rfl hm) ..
  case feAuxReturn => exact execFeAuxReturn_hide m (.of rfl hm) ..
  case stackKeepaliveTest => exact execStackKeepaliveTest_hide m (.of rfl hm) ..
  case comparatorAssert => exact execComparatorAssert_hide m (.of rfl hm) ..
  case comparatorRelease => exact execComparatorRelease_hide m (.of rfl hm) ..
  case faultChannelChange => exact execFaultChannelChange_hide m (.of rfl hm) ..
  case protEventRecordWrite => exact execProtEventRecordWrite_hide m (.of rfl hm) ..
  case feThermalShutdown => exact execFeThermalShutdown_hide m (.of rfl hm) ..
  case feThermalRelease => exact execFeThermalRelease_hide m (.of rfl hm) ..
  case overcurrentTrip => exact execOvercurrentTrip_hide m (.of rfl hm) ..
  case fastChannelLost => exact execFastChannelLost_hide m (.of rfl hm) ..
  case fastChannelRestored => exact execFastChannelRestored_hide m (.of rfl hm) ..
  case faultLineLow => exact execFaultLineLow_hide m (.of rfl hm) ..
  case faultAutoRelease => exact execFaultAutoRelease_hide m (.of rfl hm) ..
  case dieTempConversion => exact execDieTempConversion_hide m (.of rfl hm) ..
  case dieTempTimeout => exact execDieTempTimeout_hide m (.of rfl hm) ..
  case panHardFault => exact execPanHardFault_hide m (.of rfl hm) ..
  case sluiceLoadComplete => exact execSluiceLoadComplete_hide m (.of rfl hm) ..
  case panBistComplete => exact execPanBistComplete_hide m (.of rfl hm) ..
  case sluiceFail => exact execSluiceFail_hide m (.of rfl hm) ..
  case zeroTrackComplete => exact execZeroTrackComplete_hide m (.of rfl hm) ..
  case zeroValidExpire => exact execZeroValidExpire_hide m (.of rfl hm) ..
  case currentRecordRx => exact execCurrentRecordRx_hide m (.of rfl hm) ..
  case currentRecordMissing => exact execCurrentRecordMissing_hide m (.of rfl hm) ..
  case restStarved => exact execRestStarved_hide m (.of rfl hm) ..
  case restRequestRepeat => exact execRestRequestRepeat_hide m (.of rfl hm) ..
  case anchorStarved => exact execAnchorStarved_hide m (.of rfl hm) ..
  case estimatorStateSave => exact execEstimatorStateSave_hide m (.of rfl hm) ..
  case moduleMissingLimit => exact execModuleMissingLimit_hide m (.of rfl hm) ..
  case sweepStartFrame => exact execSweepStartFrame_hide m (.of rfl hm) ..
  case eisBlockEnd => exact execEisBlockEnd_hide m (.of rfl hm) ..
  case eisControlRecordRx => exact execEisControlRecordRx_hide m (.of rfl hm) ..
  case eisVerdictTimeout => exact execEisVerdictTimeout_hide m (.of rfl hm) ..
  case eisResumeTimeout => exact execEisResumeTimeout_hide m (.of rfl hm) ..
  case sweepDrainEnd => exact execSweepDrainEnd_hide m (.of rfl hm) ..
  case blockStatusPeriodic => exact execBlockStatusPeriodic_hide m (.of rfl hm) ..
  case tableValidationComplete => exact execTableValidationComplete_hide m (.of rfl hm) ..
  case tableBlockCheck => exact execTableBlockCheck_hide m (.of rfl hm) ..
  case sliceWriteComplete => exact execSliceWriteComplete_hide m (.of rfl hm) ..
  case balSlotStart => exact execBalSlotStart_hide m (.of rfl hm) ..
  case gateDriverReady => exact execGateDriverReady_hide m (.of rfl hm) ..
  case startTimeout => exact execStartTimeout_hide m (.of rfl hm) ..
  case softStartDone => exact execSoftStartDone_hide m (.of rfl hm) ..
  case drainComplete => exact execDrainComplete_hide m (.of rfl hm) ..
  case drainTimeout => exact execDrainTimeout_hide m (.of rfl hm) ..
  case gateDriverFault => exact execGateDriverFault_hide m (.of rfl hm) ..
  case busOv => exact execBusOv_hide m (.of rfl hm) ..
  case hiccupTrigger => exact execHiccupTrigger_hide m (.of rfl hm) ..
  case hiccupRetry => exact execHiccupRetry_hide m (.of rfl hm) ..
  case shedDwellExpire => exact execShedDwellExpire_hide m (.of rfl hm) ..
  case stepBlockEnd => exact execStepBlockEnd_hide m (.of rfl hm) ..
  case faultRecordWrite => exact execFaultRecordWrite_hide m (.of rfl hm) ..
  case ringFrameEmit => exact execRingFrameEmit_hide m (.of rfl hm) ..
  case ringCopyEmit => exact execRingCopyEmit_hide m (.of rfl hm) ..
  case ringHeaderRx => exact execRingHeaderRx_hide m (.of rfl hm) ..
  case harvestComplete => exact execHarvestComplete_hide m (.of rfl hm) ..
  case sideWindowRx => exact execSideWindowRx_hide m (.of rfl hm) ..
  case ringMessageRx => exact execRingMessageRx_hide m (.of rfl hm) ..
  case ringPortDown => exact execRingPortDown_hide m (.of rfl hm) ..
  case ringPortRestored => exact execRingPortRestored_hide m (.of rfl hm) ..
  case headerMiss => exact execHeaderMiss_hide m (.of rfl hm) ..
  case primaryHandover => exact execPrimaryHandover_hide m (.of rfl hm) ..
  case enumerationEnd => exact execEnumerationEnd_hide m (.of rfl hm) ..
  case syncInEdge => exact execSyncInEdge_hide m (.of rfl hm) ..
  case ppsLost => exact execPpsLost_hide m (.of rfl hm) ..
  case ringWakeTone cw => exact execRingWakeTone_hide m (.of rfl hm) cw s
  case tokenWatchdogExpire => exact execTokenWatchdogExpire_hide m (.of rfl hm) ..
  case laneHardFault => exact execLaneHardFault_hide m (.of rfl hm) ..
  case tokenGrant => exact execTokenGrant_hide m (.of rfl hm) ..
  case takeoverComplete => exact execTakeoverComplete_hide m (.of rfl hm) ..
  case tokenBeliefMismatch => exact execTokenBeliefMismatch_hide m (.of rfl hm) ..
  case rerunArbitration => exact execRerunArbitration_hide m (.of rfl hm) ..
  case mirrorRx => exact execMirrorRx_hide m (.of rfl hm) ..
  case resyncComplete => exact execResyncComplete_hide m (.of rfl hm) ..
  case laneRebootComplete => exact execLaneRebootComplete_hide m (.of rfl hm) ..
  case eclipseSwapDue => exact execEclipseSwapDue_hide m (.of rfl hm) ..
  case eclipseHandover => exact execEclipseHandover_hide m (.of rfl hm) ..
  case eclipseCheckEnd => exact execEclipseCheckEnd_hide m (.of rfl hm) ..
  case swapOverdue => exact execSwapOverdue_hide m (.of rfl hm) ..
  case protOnlyEntry => exact execProtOnlyEntry_hide m (.of rfl hm) ..
  case protOnlyNotice => exact execProtOnlyNotice_hide m (.of rfl hm) ..
  case fallbackGatesOff => exact execFallbackGatesOff_hide m (.of rfl hm) ..
  case protOnlyContactorOpen => exact execProtOnlyContactorOpen_hide m (.of rfl hm) ..
  case protOnlyReset => exact execProtOnlyReset_hide m (.of rfl hm) ..
  case safetySample => exact execSafetySample_hide m (.of rfl hm) ..
  case safetyDiscrepancy => exact execSafetyDiscrepancy_hide m (.of rfl hm) ..
  case testOutputDrop => exact execTestOutputDrop_hide m (.of rfl hm) ..
  case outputTestDrop => exact execOutputTestDrop_hide m (.of rfl hm) ..
  case safetySelfTest => exact execSafetySelfTest_hide m (.of rfl hm) ..
  case armingReady => exact execArmingReady_hide m (.of rfl hm) ..
  case kPreOn => exact execKPreOn_hide m (.of rfl hm) ..
  case prechargeComplete => exact execPrechargeComplete_hide m (.of rfl hm) ..
  case kPreOff => exact execKPreOff_hide m (.of rfl hm) ..
  case prechargeTimeout => exact execPrechargeTimeout_hide m (.of rfl hm) ..
  case inrushTrip => exact execInrushTrip_hide m (.of rfl hm) ..
  case kNegOpen => exact execKNegOpen_hide m (.of rfl hm) ..
  case tripContactorOff => exact execTripContactorOff_hide m (.of rfl hm) ..
  case twohandInput => exact execTwohandInput_hide m (.of rfl hm) ..
  case kSupplyLow => exact execKSupplyLow_hide m (.of rfl hm) ..
  case outputOvercurrent => exact execOutputOvercurrent_hide m (.of rfl hm) ..
  case auxOkClear => exact execAuxOkClear_hide m (.of rfl hm) ..
  case auxOkSet => exact execAuxOkSet_hide m (.of rfl hm) ..
  case bridgeRunExpire => exact execBridgeRunExpire_hide m (.of rfl hm) ..
  case stackLow => exact execStackLow_hide m (.of rfl hm) ..
  case aonPowerLoss => exact execAonPowerLoss_hide m (.of rfl hm) ..
  case handshakeTimeout => exact execHandshakeTimeout_hide m (.of rfl hm) ..
  case entryStepComplete => exact execEntryStepComplete_hide m (.of rfl hm) ..
  case entryForced => exact execEntryForced_hide m (.of rfl hm) ..
  case wakeConfirmed => exact execWakeConfirmed_hide m (.of rfl hm) ..
  case wakeDwellExpire => exact execWakeDwellExpire_hide m (.of rfl hm) ..
  case returnStageReady => exact execReturnStageReady_hide m (.of rfl hm) ..
  case returnStageTimeout => exact execReturnStageTimeout_hide m (.of rfl hm) ..
  case coreLdoRetry => exact execCoreLdoRetry_hide m (.of rfl hm) ..
  case coldStart => exact execColdStart_hide m (.of rfl hm) ..
  case packetReceived => exact execPacketReceived_hide m (.of rfl hm) ..
  case ping => exact execPing_hide m (.of rfl hm) ..
  case identify => exact execIdentify_hide m (.of rfl hm) ..
  case health => exact execHealth_hide m (.of rfl hm) ..
  case paramGet => exact execParamGet_hide m (.of rfl hm) ..
  case paramSet => exact execParamSet_hide m (.of rfl hm) ..
  case commit => exact execCommit_hide m (.of rfl hm) ..
  case discard => exact execDiscard_hide m (.of rfl hm) ..
  case tableWrite => exact execTableWrite_hide m (.of rfl hm) ..
  case tableRead => exact execTableRead_hide m (.of rfl hm) ..
  case powerState => exact execPowerState_hide m (.of rfl hm) ..
  case wakeRecord => exact execWakeRecord_hide m (.of rfl hm) ..
  case mode => exact execMode_hide m (.of rfl hm) ..
  case convEnable => exact execConvEnable_hide m (.of rfl hm) ..
  case convDisable => exact execConvDisable_hide m (.of rfl hm) ..
  case convSetpoint => exact execConvSetpoint_hide m (.of rfl hm) ..
  case convFaultRecord => exact execConvFaultRecord_hide m (.of rfl hm) ..
  case balPlan => exact execBalPlan_hide m (.of rfl hm) ..
  case balStop => exact execBalStop_hide m (.of rfl hm) ..
  case eisStart => exact execEisStart_hide m (.of rfl hm) ..
  case eisResult => exact execEisResult_hide m (.of rfl hm) ..
  case eisAbort => exact execEisAbort_hide m (.of rfl hm) ..
  case snapshot => exact execSnapshot_hide m (.of rfl hm) ..
  case streamConfig => exact execStreamConfig_hide m (.of rfl hm) ..
  case fwStage => exact execFwStage_hide m (.of rfl hm) ..
  case fwActivate => exact execFwActivate_hide m (.of rfl hm) ..
  case journalRead => exact execJournalRead_hide m (.of rfl hm) ..
  case attest => exact execAttest_hide m (.of rfl hm) ..
  case reprovision => exact execReprovision_hide m (.of rfl hm) ..
  case ringStatus => exact execRingStatus_hide m (.of rfl hm) ..
  case ringEnumerate => exact execRingEnumerate_hide m (.of rfl hm) ..
  case safetyStatus => exact execSafetyStatus_hide m (.of rfl hm) ..
  case safetyReset => exact execSafetyReset_hide m (.of rfl hm) ..
  case eclipseSwap => exact execEclipseSwap_hide m (.of rfl hm) ..
  case reset => exact execReset_hide m (.of rfl hm) ..
  case diagDieTemp => exact execDiagDieTemp_hide m (.of rfl hm) ..
  case diagCurCal => exact execDiagCurCal_hide m (.of rfl hm) ..
  case curCalComplete => exact execCurCalComplete_hide m (.of rfl hm) ..
  case diagFaultClear => exact execDiagFaultClear_hide m (.of rfl hm) ..
  case diagProtEvents => exact execDiagProtEvents_hide m (.of rfl hm) ..
  case diagCellReset => exact execDiagCellReset_hide m (.of rfl hm) ..
  case diagThermoCal => exact execDiagThermoCal_hide m (.of rfl hm) ..
  case diagAbsorbedEvents => exact execDiagAbsorbedEvents_hide m (.of rfl hm) ..
  case diagPowerTest => exact execDiagPowerTest_hide m (.of rfl hm) ..
  case configImageWritten => exact execConfigImageWritten_hide m (.of rfl hm) ..
  case journalSealWrite => exact execJournalSealWrite_hide m (.of rfl hm) ..
  case fwVerifyComplete => exact execFwVerifyComplete_hide m (.of rfl hm) ..
  case fwTrialResult => exact execFwTrialResult_hide m (.of rfl hm) ..
  case ephemeralKeyExpire => exact execEphemeralKeyExpire_hide m (.of rfl hm) ..
  case tamperDetect => exact execTamperDetect_hide m (.of rfl hm) ..
  case canFrameRx => exact execCanFrameRx_hide m (.of rfl hm) ..
  case canSegmentTimeout => exact execCanSegmentTimeout_hide m (.of rfl hm) ..
  case canTxComplete => exact execCanTxComplete_hide m (.of rfl hm) ..
  case canBusOff => exact execCanBusOff_hide m (.of rfl hm) ..
  case canBusOffRecovery => exact execCanBusOffRecovery_hide m (.of rfl hm) ..
  case spiInDataWrite => exact execSpiInDataWrite_hide m (.of rfl hm) ..
  case spiOutDataRead => exact execSpiOutDataRead_hide m (.of rfl hm) ..
  case spiIrqStatusWrite => exact execSpiIrqStatusWrite_hide m (.of rfl hm) ..
  case spiRegisterWrite => exact execSpiRegisterWrite_hide m (.of rfl hm) ..
  case spiCsRise => exact execSpiCsRise_hide m (.of rfl hm) ..
  case spiInTimeout => exact execSpiInTimeout_hide m (.of rfl hm) ..
  case pwmPeriodStart => exact execPwmPeriodStart_hide m (.of rfl hm) ..
  case nvmTransferComplete => exact execNvmTransferComplete_hide m (.of rfl hm) ..
  case tableBlockStored => exact execTableBlockStored_hide m (.of rfl hm) ..
  case dozeBlockAsk => exact execDozeBlockAsk_hide m (.of rfl hm) ..
  case wakePulseEnd => exact execWakePulseEnd_hide m (.of rfl hm) ..
  case ringWakeToneEnd => exact execRingWakeToneEnd_hide m (.of rfl hm) ..
  case correctedSramError => exact execCorrectedSramError_hide m (.of rfl hm) ..
  case canBusError => exact execCanBusError_hide m (.of rfl hm) ..

theorem sub_self (m : Nat) : Sub m m := Nat.and_self m

theorem exec_hide {c : Instr} {s t : State} (h : exec c s = .next t) : t.hide (frameMask c) = s.hide (frameMask c) :=
  outState_of_next h ▸ exec_hide_of_sub (sub_self _) s

/-! ### What a mask holds -/

theorem testBit_partsMask (l : List Part) (i : Nat) : (partsMask l).testBit i = l.any fun p => p.bit == i := by
  induction l with
  | nil => simp [partsMask]
  | cons p l ih =>
    rw [List.any_cons, ← ih, beq_eq_decide, ← Nat.testBit_two_pow, ← Nat.testBit_or]
    rfl

theorem fieldMask_testBit (b37 b38 b40 b41 b42 b47 b48 : Bool) :
    let m := fieldMask b37 b38 b40 b41 b42 b47 b48
    m % 2 ^ 37 = 0 ∧ m.testBit 37 = b37 ∧ m.testBit 38 = b38 ∧ m.testBit 39 = b38 ∧ m.testBit 40 = b40 ∧ m.testBit 41 = b41 ∧
      m.testBit 42 = b42 ∧ m.testBit 43 = b42 ∧ m.testBit 44 = b42 ∧ m.testBit 47 = b47 ∧ m.testBit 48 = b48 ∧
      m.testBit 49 = b48 := by
  revert b37 b38 b40 b41 b42 b47 b48
  decide

theorem Part.bit_lt (p : Part) : p.bit < 37 := by cases p <;> decide

/-- The bits number the parts in the order of their declaration. -/
theorem Part.ofNat_bit (p : Part) : Part.ofNat p.bit = p := by cases p <;> rfl

theorem Part.bit_injective {p q : Part} (h : p.bit = q.bit) : p = q := by
  rw [← p.ofNat_bit, h, q.ofNat_bit]

theorem partsMask_unset {l : List Part} {p : Part} (hp : p ∉ l) : (partsMask l).testBit p.bit = false :=
  (testBit_partsMask l p.bit).trans
    (List.any_eq_false.2 fun _ hq e => hp (Part.bit_injective (beq_iff_eq.1 e) ▸ hq))

/-- Above the parts, a bit says whether the command moves the field. -/
theorem frameMask_fields (c : Instr) :
    (frameMask c).testBit 37 = c.movesMode ∧ (frameMask c).testBit 38 = movesKeys c ∧ (frameMask c).testBit 39 = movesKeys c ∧
      (frameMask c).testBit 40 = c.movesPower ∧ (frameMask c).testBit 41 = c.movesConverter ∧
      (frameMask c).testBit 42 = c.movesSafety ∧ (frameMask c).testBit 43 = c.movesSafety ∧
      (frameMask c).testBit 44 = c.movesSafety ∧ (frameMask c).testBit 47 = movesGates c ∧
      (frameMask c).testBit 48 = movesLanes c ∧ (frameMask c).testBit 49 = movesLanes c := by
  have h (i : Nat) (hi : 37 ≤ i) : (touches c).any (fun p => p.bit == i) = false :=
    List.any_eq_false.2 fun p _ => by simpa using (Nat.lt_of_lt_of_le p.bit_lt hi).ne
  simpa [frameMask, Nat.testBit_or, testBit_partsMask, h] using
    (fieldMask_testBit c.movesMode (movesKeys c) c.movesPower c.movesConverter c.movesSafety (movesGates c) (movesLanes c)).2

theorem testBit_frameMask_of_not_mem {c : Instr} {p : Part} (hp : p ∉ touches c) : (frameMask c).testBit p.bit = false := by
  have hf := (fieldMask_testBit c.movesMode (movesKeys c) c.movesPower c.movesConverter c.movesSafety (movesGates c)
    (movesLanes c)).1
  have hb := congrArg (Nat.testBit · p.bit) hf
  simp only [Nat.testBit_mod_two_pow, p.bit_lt, decide_true, Bool.true_and, Nat.zero_testBit] at hb
  rw [frameMask, Nat.testBit_or, partsMask_unset hp, hb, Bool.or_self]

/-! ### The fields that a mask names apart -/

section
variable {m : Nat} {s t : State} (h : t.hide m = s.hide m)
include h

theorem pending_of_hide (hm : m.testBit 37 = false) : t.pending = s.pending := by
  simpa [State.hide, hm] using congrArg State.pending h

theorem mode_of_hide (hm : m.testBit 37 = false) : t.grid.mode = s.grid.mode := by
  have e := congrArg (·.grid.mode) h
  cases h0 : m.testBit 0 <;> simpa [State.hide, h0, hm] using e

theorem keys_of_hide (h38 : m.testBit 38 = false) (h39 : m.testBit 39 = false) :
    t.sec.keys = s.sec.keys ∧ t.sec.tamper = s.sec.tamper := by
  have e := congrArg (fun x : State => (x.sec.keys, x.sec.tamper)) h
  cases h0 : m.testBit 34 <;> simpa [State.hide, h0, h38, h39] using e

theorem powerSt_of_hide (hm : m.testBit 40 = false) : t.power.st = s.power.st := by
  have e := congrArg (·.power.st) h
  cases h0 : m.testBit 29 <;> simpa [State.hide, h0, hm] using e

theorem convSt_of_hide (hm : m.testBit 41 = false) : t.conv.st = s.conv.st := by
  have e := congrArg (·.conv.st) h
  cases h0 : m.testBit 23 <;> simpa [State.hide, h0, hm] using e

theorem safety_of_hide (h42 : m.testBit 42 = false) (h43 : m.testBit 43 = false) (h44 : m.testBit 44 = false) :
    t.safe.st = s.safe.st ∧ t.safe.gateKill = s.safe.gateKill ∧ t.safe.safeOk = s.safe.safeOk := by
  have e := congrArg (fun x : State => (x.safe.st, x.safe.gateKill, x.safe.safeOk)) h
  cases h0 : m.testBit 28 <;> simpa [State.hide, h0, h42, h43, h44] using e

theorem gates_of_hide (hm : m.testBit 47 = false) : t.conv.gatesOn = s.conv.gatesOn := by
  have e := congrArg (·.conv.gatesOn) h
  cases h0 : m.testBit 23 <;> simpa [State.hide, h0, hm] using e

theorem token_of_hide (h48 : m.testBit 48 = false) (h49 : m.testBit 49 = false) :
    t.lanes.valid = s.lanes.valid ∧ t.lanes.holder = s.lanes.holder := by
  have e := congrArg (fun x : State => (x.lanes.valid, x.lanes.holder)) h
  cases h0 : m.testBit 27 <;> simpa [State.hide, h0, h48, h49] using e

end

/-- Settles O4: a part that `touches` does not list has its bit clear in the frame mask. -/
theorem commandsTouchTheirParts : Obligations.CommandsTouchTheirParts :=
  fun _ _ _ _ h hp => same_of_hide (exec_hide h) (testBit_frameMask_of_not_mem hp)

section
variable {c : Instr} {s t : State} (h : exec c s = .next t)
include h

theorem exec_keeps_mode (hc : c.movesMode = false) : t.grid.mode = s.grid.mode := by
  obtain ⟨h37, -⟩ := frameMask_fields c
  exact mode_of_hide (exec_hide h) (h37.trans hc)

theorem exec_keeps_pending_of_mode (hc : c.movesMode = false) : t.pending = s.pending := by
  obtain ⟨h37, -⟩ := frameMask_fields c
  exact pending_of_hide (exec_hide h) (h37.trans hc)

theorem exec_keeps_keys (hc : movesKeys c = false) : t.sec.keys = s.sec.keys ∧ t.sec.tamper = s.sec.tamper := by
  obtain ⟨-, h38, h39, -⟩ := frameMask_fields c
  exact keys_of_hide (exec_hide h) (h38.trans hc) (h39.trans hc)

theorem exec_keeps_powerSt (hc : c.movesPower = false) : t.power.st = s.power.st := by
  obtain ⟨-, -, -, h40, -⟩ := frameMask_fields c
  exact powerSt_of_hide (exec_hide h) (h40.trans hc)

theorem exec_keeps_convSt (hc : c.movesConverter = false) : t.conv.st = s.conv.st := by
  obtain ⟨-, -, -, -, h41, -⟩ := frameMask_fields c
  exact convSt_of_hide (exec_hide h) (h41.trans hc)

theorem exec_keeps_safety (hc : c.movesSafety = false) :
    t.safe.st = s.safe.st ∧ t.safe.gateKill = s.safe.gateKill ∧ t.safe.safeOk = s.safe.safeOk := by
  obtain ⟨-, -, -, -, -, h42, h43, h44, -⟩ := frameMask_fields c
  exact safety_of_hide (exec_hide h) (h42.trans hc) (h43.trans hc) (h44.trans hc)

theorem exec_keeps_gates (hc : movesGates c = false) : t.conv.gatesOn = s.conv.gatesOn := by
  obtain ⟨-, -, -, -, -, -, -, -, h47, -⟩ := frameMask_fields c
  exact gates_of_hide (exec_hide h) (h47.trans hc)

theorem exec_keeps_token (hc : movesLanes c = false) :
    t.lanes.valid = s.lanes.valid ∧ t.lanes.holder = s.lanes.holder := by
  obtain ⟨-, -, -, -, -, -, -, -, -, h48, h49⟩ := frameMask_fields c
  exact token_of_hide (exec_hide h) (h48.trans hc) (h49.trans hc)

end

/-- Settles O12: what a command does not move has its bit clear in the frame mask. -/
theorem functionStatesHaveTheirMovers : Obligations.FunctionStatesHaveTheirMovers := by
  refine fun c s t h => ⟨fun hne => ?_, fun hne => ?_, fun hne => ?_, fun hne => ?_⟩
  · exact Bool.eq_true_of_not_eq_false fun hc => hne (exec_keeps_mode h hc)
  · exact Bool.eq_true_of_not_eq_false fun hc => hne (exec_keeps_powerSt h hc)
  · exact Bool.eq_true_of_not_eq_false fun hc => hne (exec_keeps_convSt h hc)
  · refine Bool.eq_true_of_not_eq_false fun hc => ?_
    obtain ⟨hst, hkill, hok⟩ := exec_keeps_safety h hc
    exact hne.elim (· hst) (·.elim (· hkill) (· hok))

/-! ### Units -/

/-- No command changes how many units of a kind there are: a cold start has those of the state after reset. -/
theorem exec_shaped {s : State} (hs : s.Shaped) (c : Instr) : (outState s (exec c s)).Shaped := by
  cases c
  case sampleStrobe => exact (execSampleStrobe_lengths ..).trans hs
  case frameBoundary => exact (execFrameBoundary_lengths ..).trans hs
  case governorDecision => exact (execGovernorDecision_lengths ..).trans hs
  case panJobComplete => exact (execPanJobComplete_lengths ..).trans hs
  case computeWindowEnd => exact (execComputeWindowEnd_lengths ..).trans hs
  case comet => exact (execComet_lengths ..).trans hs
  case scheduleFault => exact (execScheduleFault_lengths ..).trans hs
  case oWorkResume => exact (execOWorkResume_lengths ..).trans hs
  case transitSuspended => exact (execTransitSuspended_lengths ..).trans hs
  case controlSubperiod => exact (execControlSubperiod_lengths ..).trans hs
  case controlOutput => exact (execControlOutput_lengths ..).trans hs
  case loopFault => exact (execLoopFault_lengths ..).trans hs
  case loopImplausible => exact (execLoopImplausible_lengths ..).trans hs
  case safeLawGatesOff => exact (execSafeLawGatesOff_lengths ..).trans hs
  case feFramePacket => exact (execFeFramePacket_lengths ..).trans hs
  case cfeSubsamplePacket => exact (execCfeSubsamplePacket_lengths ..).trans hs
  case cfeFramePacket => exact (execCfeFramePacket_lengths ..).trans hs
  case backChannelMessage => exact (execBackChannelMessage_lengths ..).trans hs
  case backChannelCutoff => exact (execBackChannelCutoff_lengths ..).trans hs
  case portLineDown => exact (execPortLineDown_lengths ..).trans hs
  case feLinkFault => exact (execFeLinkFault_lengths ..).trans hs
  case relinkAttemptEnd => exact (execRelinkAttemptEnd_lengths ..).trans hs
  case relinkRetry => exact (execRelinkRetry_lengths ..).trans hs
  case strobeDelayMeasure => exact (execStrobeDelayMeasure_lengths ..).trans hs
  case feSupplyChangeover => exact (execFeSupplyChangeover_lengths ..).trans hs
  case feAuxReturn => exact (execFeAuxReturn_lengths ..).trans hs
  case stackKeepaliveTest => exact (execStackKeepaliveTest_lengths ..).trans hs
  case comparatorAssert => exact (execComparatorAssert_lengths ..).trans hs
  case comparatorRelease => exact (execComparatorRelease_lengths ..).trans hs
  case faultChannelChange => exact (execFaultChannelChange_lengths ..).trans hs
  case protEventRecordWrite => exact (execProtEventRecordWrite_lengths ..).trans hs
  case feThermalShutdown => exact (execFeThermalShutdown_lengths ..).trans hs
  case feThermalRelease => exact (execFeThermalRelease_lengths ..).trans hs
  case overcurrentTrip => exact (execOvercurrentTrip_lengths ..).trans hs
  case fastChannelLost => exact (execFastChannelLost_lengths ..).trans hs
  case fastChannelRestored => exact (execFastChannelRestored_lengths ..).trans hs
  case faultLineLow => exact (execFaultLineLow_lengths ..).trans hs
  case faultAutoRelease => exact (execFaultAutoRelease_lengths ..).trans hs
  case dieTempConversion => exact (execDieTempConversion_lengths ..).trans hs
  case dieTempTimeout => exact (execDieTempTimeout_lengths ..).trans hs
  case panHardFault => exact (execPanHardFault_lengths ..).trans hs
  case sluiceLoadComplete => exact (execSluiceLoadComplete_lengths ..).trans hs
  case panBistComplete => exact (execPanBistComplete_lengths ..).trans hs
  case sluiceFail => exact (execSluiceFail_lengths ..).trans hs
  case zeroTrackComplete => exact (execZeroTrackComplete_lengths ..).trans hs
  case zeroValidExpire => exact (execZeroValidExpire_lengths ..).trans hs
  case currentRecordRx => exact (execCurrentRecordRx_lengths ..).trans hs
  case currentRecordMissing => exact (execCurrentRecordMissing_lengths ..).trans hs
  case restStarved => exact (execRestStarved_lengths ..).trans hs
  case restRequestRepeat => exact (execRestRequestRepeat_lengths ..).trans hs
  case anchorStarved => exact (execAnchorStarved_lengths ..).trans hs
  case estimatorStateSave => exact (execEstimatorStateSave_lengths ..).trans hs
  case moduleMissingLimit => exact (execModuleMissingLimit_lengths ..).trans hs
  case sweepStartFrame => exact (execSweepStartFrame_lengths ..).trans hs
  case eisBlockEnd => exact (execEisBlockEnd_lengths ..).trans hs
  case eisControlRecordRx => exact (execEisControlRecordRx_lengths ..).trans hs
  case eisVerdictTimeout => exact (execEisVerdictTimeout_lengths ..).trans hs
  case eisResumeTimeout => exact (execEisResumeTimeout_lengths ..).trans hs
  case sweepDrainEnd => exact (execSweepDrainEnd_lengths ..).trans hs
  case blockStatusPeriodic => exact (execBlockStatusPeriodic_lengths ..).trans hs
  case tableValidationComplete => exact (execTableValidationComplete_lengths ..).trans hs
  case tableBlockCheck => exact (execTableBlockCheck_lengths ..).trans hs
  case sliceWriteComplete => exact (execSliceWriteComplete_lengths ..).trans hs
  case balSlotStart => exact (execBalSlotStart_lengths ..).trans hs
  case gateDriverReady => exact (execGateDriverReady_lengths ..).trans hs
  case startTimeout => exact (execStartTimeout_lengths ..).trans hs
  case softStartDone => exact (execSoftStartDone_lengths ..).trans hs
  case drainComplete => exact (execDrainComplete_lengths ..).trans hs
  case drainTimeout => exact (execDrainTimeout_lengths ..).trans hs
  case gateDriverFault => exact (execGateDriverFault_lengths ..).trans hs
  case busOv => exact (execBusOv_lengths ..).trans hs
  case hiccupTrigger => exact (execHiccupTrigger_lengths ..).trans hs
  case hiccupRetry => exact (execHiccupRetry_lengths ..).trans hs
  case shedDwellExpire => exact (execShedDwellExpire_lengths ..).trans hs
  case stepBlockEnd => exact (execStepBlockEnd_lengths ..).trans hs
  case faultRecordWrite => exact (execFaultRecordWrite_lengths ..).trans hs
  case ringFrameEmit => exact (execRingFrameEmit_lengths ..).trans hs
  case ringCopyEmit => exact (execRingCopyEmit_lengths ..).trans hs
  case ringHeaderRx => exact (execRingHeaderRx_lengths ..).trans hs
  case harvestComplete => exact (execHarvestComplete_lengths ..).trans hs
  case sideWindowRx => exact (execSideWindowRx_lengths ..).trans hs
  case ringMessageRx => exact (execRingMessageRx_lengths ..).trans hs
  case ringPortDown => exact (execRingPortDown_lengths ..).trans hs
  case ringPortRestored => exact (execRingPortRestored_lengths ..).trans hs
  case headerMiss => exact (execHeaderMiss_lengths ..).trans hs
  case primaryHandover => exact (execPrimaryHandover_lengths ..).trans hs
  case enumerationEnd => exact (execEnumerationEnd_lengths ..).trans hs
  case syncInEdge => exact (execSyncInEdge_lengths ..).trans hs
  case ppsLost => exact (execPpsLost_lengths ..).trans hs
  case ringWakeTone cw => exact (execRingWakeTone_lengths cw s).trans hs
  case tokenWatchdogExpire => exact (execTokenWatchdogExpire_lengths ..).trans hs
  case laneHardFault => exact (execLaneHardFault_lengths ..).trans hs
  case tokenGrant => exact (execTokenGrant_lengths ..).trans hs
  case takeoverComplete => exact (execTakeoverComplete_lengths ..).trans hs
  case tokenBeliefMismatch => exact (execTokenBeliefMismatch_lengths ..).trans hs
  case rerunArbitration => exact (execRerunArbitration_lengths ..).trans hs
  case mirrorRx => exact (execMirrorRx_lengths ..).trans hs
  case resyncComplete => exact (execResyncComplete_lengths ..).trans hs
  case laneRebootComplete => exact (execLaneRebootComplete_lengths ..).trans hs
  case eclipseSwapDue => exact (execEclipseSwapDue_lengths ..).trans hs
  case eclipseHandover => exact (execEclipseHandover_lengths ..).trans hs
  case eclipseCheckEnd => exact (execEclipseCheckEnd_lengths ..).trans hs
  case swapOverdue => exact (execSwapOverdue_lengths ..).trans hs
  case protOnlyEntry => exact (execProtOnlyEntry_lengths ..).trans hs
  case protOnlyNotice => exact (execProtOnlyNotice_lengths ..).trans hs
  case fallbackGatesOff => exact (execFallbackGatesOff_lengths ..).trans hs
  case protOnlyContactorOpen => exact (execProtOnlyContactorOpen_lengths ..).trans hs
  case protOnlyReset => exact (execProtOnlyReset_lengths ..).trans hs
  case safetySample => exact (execSafetySample_lengths ..).trans hs
  case safetyDiscrepancy => exact (execSafetyDiscrepancy_lengths ..).trans hs
  case testOutputDrop => exact (execTestOutputDrop_lengths ..).trans hs
  case outputTestDrop => exact (execOutputTestDrop_lengths ..).trans hs
  case safetySelfTest => exact (execSafetySelfTest_lengths ..).trans hs
  case armingReady => exact (execArmingReady_lengths ..).trans hs
  case kPreOn => exact (execKPreOn_lengths ..).trans hs
  case prechargeComplete => exact (execPrechargeComplete_lengths ..).trans hs
  case kPreOff => exact (execKPreOff_lengths ..).trans hs
  case prechargeTimeout => exact (execPrechargeTimeout_lengths ..).trans hs
  case inrushTrip => exact (execInrushTrip_lengths ..).trans hs
  case kNegOpen => exact (execKNegOpen_lengths ..).trans hs
  case tripContactorOff => exact (execTripContactorOff_lengths ..).trans hs
  case twohandInput => exact (execTwohandInput_lengths ..).trans hs
  case kSupplyLow => exact (execKSupplyLow_lengths ..).trans hs
  case outputOvercurrent => exact (execOutputOvercurrent_lengths ..).trans hs
  case auxOkClear => exact (execAuxOkClear_lengths ..).trans hs
  case auxOkSet => exact (execAuxOkSet_lengths ..).trans hs
  case bridgeRunExpire => exact (execBridgeRunExpire_lengths ..).trans hs
  case stackLow => exact (execStackLow_lengths ..).trans hs
  case aonPowerLoss => exact (execAonPowerLoss_lengths ..).trans hs
  case handshakeTimeout => exact (execHandshakeTimeout_lengths ..).trans hs
  case entryStepComplete => exact (execEntryStepComplete_lengths ..).trans hs
  case entryForced => exact (execEntryForced_lengths ..).trans hs
  case wakeConfirmed => exact (execWakeConfirmed_lengths ..).trans hs
  case wakeDwellExpire => exact (execWakeDwellExpire_lengths ..).trans hs
  case returnStageReady => exact (execReturnStageReady_lengths ..).trans hs
  case returnStageTimeout => exact (execReturnStageTimeout_lengths ..).trans hs
  case coreLdoRetry => exact (execCoreLdoRetry_lengths ..).trans hs
  case coldStart straps bridgeOnly => exact (execColdStart_lengths straps bridgeOnly s hs).trans rfl
  case packetReceived => exact (execPacketReceived_lengths ..).trans hs
  case ping => exact (execPing_lengths ..).trans hs
  case identify => exact (execIdentify_lengths ..).trans hs
  case health => exact (execHealth_lengths ..).trans hs
  case paramGet => exact (execParamGet_lengths ..).trans hs
  case paramSet => exact (execParamSet_lengths ..).trans hs
  case commit => exact (execCommit_lengths ..).trans hs
  case discard => exact (execDiscard_lengths ..).trans hs
  case tableWrite => exact (execTableWrite_lengths ..).trans hs
  case tableRead => exact (execTableRead_lengths ..).trans hs
  case powerState => exact (execPowerState_lengths ..).trans hs
  case wakeRecord => exact (execWakeRecord_lengths ..).trans hs
  case mode => exact (execMode_lengths ..).trans hs
  case convEnable => exact (execConvEnable_lengths ..).trans hs
  case convDisable => exact (execConvDisable_lengths ..).trans hs
  case convSetpoint => exact (execConvSetpoint_lengths ..).trans hs
  case convFaultRecord => exact (execConvFaultRecord_lengths ..).trans hs
  case balPlan => exact (execBalPlan_lengths ..).trans hs
  case balStop => exact (execBalStop_lengths ..).trans hs
  case eisStart => exact (execEisStart_lengths ..).trans hs
  case eisResult => exact (execEisResult_lengths ..).trans hs
  case eisAbort => exact (execEisAbort_lengths ..).trans hs
  case snapshot => exact (execSnapshot_lengths ..).trans hs
  case streamConfig => exact (execStreamConfig_lengths ..).trans hs
  case fwStage => exact (execFwStage_lengths ..).trans hs
  case fwActivate => exact (execFwActivate_lengths ..).trans hs
  case journalRead => exact (execJournalRead_lengths ..).trans hs
  case attest => exact (execAttest_lengths ..).trans hs
  case reprovision => exact (execReprovision_lengths ..).trans hs
  case ringStatus => exact (execRingStatus_lengths ..).trans hs
  case ringEnumerate => exact (execRingEnumerate_lengths ..).trans hs
  case safetyStatus => exact (execSafetyStatus_lengths ..).trans hs
  case safetyReset => exact (execSafetyReset_lengths ..).trans hs
  case eclipseSwap => exact (execEclipseSwap_lengths ..).trans hs
  case reset => exact (execReset_lengths ..).trans hs
  case diagDieTemp => exact (execDiagDieTemp_lengths ..).trans hs
  case diagCurCal => exact (execDiagCurCal_lengths ..).trans hs
  case curCalComplete => exact (execCurCalComplete_lengths ..).trans hs
  case diagFaultClear => exact (execDiagFaultClear_lengths ..).trans hs
  case diagProtEvents => exact (execDiagProtEvents_lengths ..).trans hs
  case diagCellReset => exact (execDiagCellReset_lengths ..).trans hs
  case diagThermoCal => exact (execDiagThermoCal_lengths ..).trans hs
  case diagAbsorbedEvents => exact (execDiagAbsorbedEvents_lengths ..).trans hs
  case diagPowerTest => exact (execDiagPowerTest_lengths ..).trans hs
  case configImageWritten => exact (execConfigImageWritten_lengths ..).trans hs
  case journalSealWrite => exact (execJournalSealWrite_lengths ..).trans hs
  case fwVerifyComplete => exact (execFwVerifyComplete_lengths ..).trans hs
  case fwTrialResult => exact (execFwTrialResult_lengths ..).trans hs
  case ephemeralKeyExpire => exact (execEphemeralKeyExpire_lengths ..).trans hs
  case tamperDetect => exact (execTamperDetect_lengths ..).trans hs
  case canFrameRx => exact (execCanFrameRx_lengths ..).trans hs
  case canSegmentTimeout => exact (execCanSegmentTimeout_lengths ..).trans hs
  case canTxComplete => exact (execCanTxComplete_lengths ..).trans hs
  case canBusOff => exact (execCanBusOff_lengths ..).trans hs
  case canBusOffRecovery => exact (execCanBusOffRecovery_lengths ..).trans hs
  case spiInDataWrite => exact (execSpiInDataWrite_lengths ..).trans hs
  case spiOutDataRead => exact (execSpiOutDataRead_lengths ..).trans hs
  case spiIrqStatusWrite => exact (execSpiIrqStatusWrite_lengths ..).trans hs
  case spiRegisterWrite => exact (execSpiRegisterWrite_lengths ..).trans hs
  case spiCsRise => exact (execSpiCsRise_lengths ..).trans hs
  case spiInTimeout => exact (execSpiInTimeout_lengths ..).trans hs
  case pwmPeriodStart => exact (execPwmPeriodStart_lengths ..).trans hs
  case nvmTransferComplete => exact (execNvmTransferComplete_lengths ..).trans hs
  case tableBlockStored => exact (execTableBlockStored_lengths ..).trans hs
  case dozeBlockAsk => exact (execDozeBlockAsk_lengths ..).trans hs
  case wakePulseEnd => exact (execWakePulseEnd_lengths ..).trans hs
  case ringWakeToneEnd => exact (execRingWakeToneEnd_lengths ..).trans hs
  case correctedSramError => exact (execCorrectedSramError_lengths ..).trans hs
  case canBusError => exact (execCanBusError_lengths ..).trans hs

/-! ### Steps -/

/-- A step runs the front command on the state with the queue's rest, or leaves the state as it is. -/
theorem step_cases {s t : State} (h : step s = .next t) :
    t = s ∨ ∃ c rest, exec c { s with pending := rest } = .next t := by
  unfold step at h
  split at h
  · cases h
    exact .inl rfl
  · exact .inr ⟨_, _, h⟩

/-- A predicate that every command keeps and that does not look at the queue is kept by every step. -/
theorem step_keeps {Q : State → Prop} (hq : ∀ (s : State) rest, Q s → Q { s with pending := rest })
    (hexec : ∀ c s t, exec c s = .next t → Q s → Q t) {s t : State} (h : step s = .next t) (hs : Q s) : Q t := by
  obtain rfl | ⟨c, rest, hc⟩ := step_cases h
  · exact hs
  · exact hexec c _ t hc (hq s rest hs)

/-- Settles O5: the numbers of units are the same after a command, and the queue is no unit. -/
theorem unitsStay : Obligations.UnitsStay := fun _ _ h =>
  step_keeps (Q := State.Shaped) (fun _ _ hs => hs)
    (fun c _ _ hc hs => outState_of_next hc ▸ exec_shaped hs c) h

end Sys2Proof.Machine
end


section
/-!
PROOFS. The state after reset (the Reset columns of the field maps).
-/

-- One proof after the other: the threads of proofs that are elaborated at once take too much memory together.
set_option Elab.async false

namespace Sys2Proof.Machine

/-- What holds of a unit as it stands at reset holds of each of the `n` units of its kind. -/
theorem forall_mem_replicate {α : Type} {n : Nat} {d : α} {P : α → Prop} (h : P d) : ∀ u ∈ List.replicate n d, P u :=
  fun _ hu => List.eq_of_mem_replicate hu ▸ h

/-- Settles O60: each word is computed from the record at its default, and the units of a kind are equal (the
phase word, which rounds a rational, in the kernel). -/
theorem resetRegisters : Obligations.ResetRegisters := by
  refine ⟨forall_mem_replicate (by decide), by decide, forall_mem_replicate (by decide), by decide,
    forall_mem_replicate (by decide), by decide, by decide, by decide, forall_mem_replicate (by decide), by decide, by decide,
    by decide, forall_mem_replicate (by decide), by decide, by decide, ?_, by decide, by decide,
    by decide, by decide, by decide, by decide, by decide, forall_mem_replicate (by decide), by decide, by decide, by decide,
    by decide, by decide, rfl, rfl, rfl⟩
  exact forall_mem_replicate (by decide +kernel)

/-- Settles O10: the state after reset is closed, so each part is evaluated. -/
theorem resetMeetsInvariants : Obligations.ResetMeetsInvariants := by
  refine ⟨rfl, rfl, ⟨rfl, rfl⟩, fun h => ?_, rfl, ?_⟩
  · cases h
  · decide

end Sys2Proof.Machine
end


section
/-!
PROOFS. The queue and the mode (00_scope.md Table 0.5): no command changes the queue, and none but MODE and a boundary makes the
mode ACTIVE.
-/

-- One proof after the other: the threads of proofs that are elaborated at once take too much memory together.
set_option Elab.async false

namespace Sys2Proof.Machine

/-! ### Operations that leave the queue and the mode as they are -/

/-- All of the state but the queue and the mode. -/
def queueMask : Nat := 2 ^ 50 - 1 - 2 ^ 37

@[simp] theorem State.requestContactors_pending (x0 : State) (x1) : (State.requestContactors x0 x1).pending = x0.pending :=
  pending_of_hide (State.requestContactors_hide queueMask rfl x0 x1) rfl
@[simp] theorem State.requestContactors_mode (x0 : State) (x1) : (State.requestContactors x0 x1).grid.mode = x0.grid.mode :=
  mode_of_hide (State.requestContactors_hide queueMask rfl x0 x1) rfl
@[simp] theorem State.complete_pending (x0 : State) (x1) (x2) (x3) (x4) (x5) (x6) : (State.complete x0 x1 x2 x3 x4 x5 x6).pending = x0.pending :=
  pending_of_hide (State.complete_hide queueMask rfl x0 x1 x2 x3 x4 x5 x6) rfl
@[simp] theorem State.complete_mode (x0 : State) (x1) (x2) (x3) (x4) (x5) (x6) : (State.complete x0 x1 x2 x3 x4 x5 x6).grid.mode = x0.grid.mode :=
  mode_of_hide (State.complete_hide queueMask rfl x0 x1 x2 x3 x4 x5 x6) rfl
@[simp] theorem State.journal_pending (x0 : State) (x1) (x2) (x3) (x4) (x5) : (State.journal x0 x1 x2 x3 x4 x5).pending = x0.pending :=
  pending_of_hide (State.journal_hide queueMask rfl x0 x1 x2 x3 x4 x5) rfl
@[simp] theorem State.journal_mode (x0 : State) (x1) (x2) (x3) (x4) (x5) : (State.journal x0 x1 x2 x3 x4 x5).grid.mode = x0.grid.mode :=
  mode_of_hide (State.journal_hide queueMask rfl x0 x1 x2 x3 x4 x5) rfl
@[simp] theorem State.beginDrain_pending (x0 : State) (x1) (x2) : (State.beginDrain x0 x1 x2).pending = x0.pending :=
  pending_of_hide (State.beginDrain_hide queueMask rfl x0 x1 x2) rfl
@[simp] theorem State.beginDrain_mode (x0 : State) (x1) (x2) : (State.beginDrain x0 x1 x2).grid.mode = x0.grid.mode :=
  mode_of_hide (State.beginDrain_hide queueMask rfl x0 x1 x2) rfl
@[simp] theorem State.deferMode_pending (x0 : State) (x1) (x2) : (State.deferMode x0 x1 x2).pending = x0.pending :=
  pending_of_hide (State.deferMode_hide queueMask rfl x0 x1 x2) rfl
@[simp] theorem State.deferMode_mode (x0 : State) (x1) (x2) : (State.deferMode x0 x1 x2).grid.mode = x0.grid.mode :=
  mode_of_hide (State.deferMode_hide queueMask rfl x0 x1 x2) rfl
@[simp] theorem State.supersedeMode_pending (x0 : State) : (State.supersedeMode x0).pending = x0.pending :=
  pending_of_hide (State.supersedeMode_hide queueMask rfl x0) rfl
@[simp] theorem State.supersedeMode_mode (x0 : State) : (State.supersedeMode x0).grid.mode = x0.grid.mode :=
  mode_of_hide (State.supersedeMode_hide queueMask rfl x0) rfl
@[simp] theorem State.drainPasses_pending (x0 : State) (x1) (x2) : (State.drainPasses x0 x1 x2).pending = x0.pending :=
  pending_of_hide (State.drainPasses_hide queueMask rfl x0 x1 x2) rfl
@[simp] theorem State.drainPasses_mode (x0 : State) (x1) (x2) : (State.drainPasses x0 x1 x2).grid.mode = x0.grid.mode :=
  mode_of_hide (State.drainPasses_hide queueMask rfl x0 x1 x2) rfl
@[simp] theorem State.convOff_pending (x0 : State) : (State.convOff x0).pending = x0.pending :=
  pending_of_hide (State.convOff_hide queueMask rfl x0) rfl
@[simp] theorem State.convOff_mode (x0 : State) : (State.convOff x0).grid.mode = x0.grid.mode :=
  mode_of_hide (State.convOff_hide queueMask rfl x0) rfl
@[simp] theorem State.losePanData_pending (x0 : State) : (State.losePanData x0).pending = x0.pending :=
  pending_of_hide (State.losePanData_hide queueMask rfl x0) rfl
@[simp] theorem State.losePanData_mode (x0 : State) : (State.losePanData x0).grid.mode = x0.grid.mode :=
  mode_of_hide (State.losePanData_hide queueMask rfl x0) rfl
@[simp] theorem State.startBist_pending (x0 : State) : (State.startBist x0).pending = x0.pending :=
  pending_of_hide (State.startBist_hide queueMask rfl x0) rfl
@[simp] theorem State.startBist_mode (x0 : State) : (State.startBist x0).grid.mode = x0.grid.mode :=
  mode_of_hide (State.startBist_hide queueMask rfl x0) rfl
@[simp] theorem State.initCells_pending (x0 : State) (x1) (x2) : (State.initCells x0 x1 x2).pending = x0.pending :=
  pending_of_hide (State.initCells_hide queueMask rfl x0 x1 x2) rfl
@[simp] theorem State.initCells_mode (x0 : State) (x1) (x2) : (State.initCells x0 x1 x2).grid.mode = x0.grid.mode :=
  mode_of_hide (State.initCells_hide queueMask rfl x0 x1 x2) rfl
@[simp] theorem State.loseLanes_pending (x0 : State) : (State.loseLanes x0).pending = x0.pending :=
  pending_of_hide (State.loseLanes_hide queueMask rfl x0) rfl
@[simp] theorem State.loseLanes_mode (x0 : State) : (State.loseLanes x0).grid.mode = x0.grid.mode :=
  mode_of_hide (State.loseLanes_hide queueMask rfl x0) rfl
@[simp] theorem State.commitPosition_pending (x0 : State) : (State.commitPosition x0).pending = x0.pending :=
  pending_of_hide (State.commitPosition_hide queueMask rfl x0) rfl
@[simp] theorem State.commitPosition_mode (x0 : State) : (State.commitPosition x0).grid.mode = x0.grid.mode :=
  mode_of_hide (State.commitPosition_hide queueMask rfl x0) rfl
@[simp] theorem State.takeImage_pending (x0 : State) (x1) : (State.takeImage x0 x1).pending = x0.pending :=
  pending_of_hide (State.takeImage_hide queueMask rfl x0 x1) rfl
@[simp] theorem State.takeImage_mode (x0 : State) (x1) : (State.takeImage x0 x1).grid.mode = x0.grid.mode :=
  mode_of_hide (State.takeImage_hide queueMask rfl x0 x1) rfl
@[simp] theorem State.withdrawCause_pending (x0 : State) (x1) : (State.withdrawCause x0 x1).pending = x0.pending :=
  pending_of_hide (State.withdrawCause_hide queueMask rfl x0 x1) rfl
@[simp] theorem State.withdrawCause_mode (x0 : State) (x1) : (State.withdrawCause x0 x1).grid.mode = x0.grid.mode :=
  mode_of_hide (State.withdrawCause_hide queueMask rfl x0 x1) rfl
@[simp] theorem State.driveContactors_pending (x0 : State) (x1) : (State.driveContactors x0 x1).pending = x0.pending :=
  pending_of_hide (State.driveContactors_hide queueMask rfl x0 x1) rfl
@[simp] theorem State.driveContactors_mode (x0 : State) (x1) : (State.driveContactors x0 x1).grid.mode = x0.grid.mode :=
  mode_of_hide (State.driveContactors_hide queueMask rfl x0 x1) rfl
@[simp] theorem State.absorb_pending (x0 : State) (x1) (x2) (x3) (x4) (x5) : (State.absorb x0 x1 x2 x3 x4 x5).pending = x0.pending :=
  pending_of_hide (State.absorb_hide queueMask rfl x0 x1 x2 x3 x4 x5) rfl
@[simp] theorem State.absorb_mode (x0 : State) (x1) (x2) (x3) (x4) (x5) : (State.absorb x0 x1 x2 x3 x4 x5).grid.mode = x0.grid.mode :=
  mode_of_hide (State.absorb_hide queueMask rfl x0 x1 x2 x3 x4 x5) rfl
@[simp] theorem State.restoreCell_pending (x0 : State) (x1) : (State.restoreCell x0 x1).pending = x0.pending :=
  pending_of_hide (State.restoreCell_hide queueMask rfl x0 x1) rfl
@[simp] theorem State.restoreCell_mode (x0 : State) (x1) : (State.restoreCell x0 x1).grid.mode = x0.grid.mode :=
  mode_of_hide (State.restoreCell_hide queueMask rfl x0 x1) rfl
@[simp] theorem State.bootLanes_pending (x0 : State) (x1) : (State.bootLanes x0 x1).pending = x0.pending :=
  pending_of_hide (State.bootLanes_hide queueMask rfl x0 x1) rfl
@[simp] theorem State.bootLanes_mode (x0 : State) (x1) : (State.bootLanes x0 x1).grid.mode = x0.grid.mode :=
  mode_of_hide (State.bootLanes_hide queueMask rfl x0 x1) rfl
@[simp] theorem State.endRequest_pending (x0 : State) (x1) (x2) (x3) (x4) : (State.endRequest x0 x1 x2 x3 x4).pending = x0.pending :=
  pending_of_hide (State.endRequest_hide queueMask rfl x0 x1 x2 x3 x4) rfl
@[simp] theorem State.endRequest_mode (x0 : State) (x1) (x2) (x3) (x4) : (State.endRequest x0 x1 x2 x3 x4).grid.mode = x0.grid.mode :=
  mode_of_hide (State.endRequest_hide queueMask rfl x0 x1 x2 x3 x4) rfl
@[simp] theorem State.beginEntry_pending (x0 : State) (x1) (x2) : (State.beginEntry x0 x1 x2).pending = x0.pending :=
  pending_of_hide (State.beginEntry_hide queueMask rfl x0 x1 x2) rfl
@[simp] theorem State.beginEntry_mode (x0 : State) (x1) (x2) : (State.beginEntry x0 x1 x2).grid.mode = x0.grid.mode :=
  mode_of_hide (State.beginEntry_hide queueMask rfl x0 x1 x2) rfl
@[simp] theorem State.resolveQueue_pending (x0 : State) : (State.resolveQueue x0).pending = x0.pending :=
  pending_of_hide (State.resolveQueue_hide queueMask rfl x0) rfl
@[simp] theorem State.resolveQueue_mode (x0 : State) : (State.resolveQueue x0).grid.mode = x0.grid.mode :=
  mode_of_hide (State.resolveQueue_hide queueMask rfl x0) rfl
@[simp] theorem State.lawReset_pending (x0 : State) : (State.lawReset x0).pending = x0.pending :=
  pending_of_hide (State.lawReset_hide queueMask rfl x0) rfl
@[simp] theorem State.lawReset_mode (x0 : State) : (State.lawReset x0).grid.mode = x0.grid.mode :=
  mode_of_hide (State.lawReset_hide queueMask rfl x0) rfl
@[simp] theorem State.portsUp_pending (x0 : State) : (State.portsUp x0).pending = x0.pending :=
  pending_of_hide (State.portsUp_hide queueMask rfl x0) rfl
@[simp] theorem State.portsUp_mode (x0 : State) : (State.portsUp x0).grid.mode = x0.grid.mode :=
  mode_of_hide (State.portsUp_hide queueMask rfl x0) rfl
@[simp] theorem State.pansUp_pending (x0 : State) : (State.pansUp x0).pending = x0.pending :=
  pending_of_hide (State.pansUp_hide queueMask rfl x0) rfl
@[simp] theorem State.pansUp_mode (x0 : State) : (State.pansUp x0).grid.mode = x0.grid.mode :=
  mode_of_hide (State.pansUp_hide queueMask rfl x0) rfl
@[simp] theorem State.toStage_pending (x0 : State) (x1) : (State.toStage x0 x1).pending = x0.pending :=
  pending_of_hide (State.toStage_hide queueMask rfl x0 x1) rfl
@[simp] theorem State.toStage_mode (x0 : State) (x1) : (State.toStage x0 x1).grid.mode = x0.grid.mode :=
  mode_of_hide (State.toStage_hide queueMask rfl x0 x1) rfl
@[simp] theorem State.settleReturn_pending (x0 : State) : (State.settleReturn x0).pending = x0.pending :=
  pending_of_hide (State.settleReturn_hide queueMask rfl x0) rfl
@[simp] theorem State.settleReturn_mode (x0 : State) : (State.settleReturn x0).grid.mode = x0.grid.mode :=
  mode_of_hide (State.settleReturn_hide queueMask rfl x0) rfl
@[simp] theorem State.handshakeStep_pending (x0 : State) : (State.handshakeStep x0).pending = x0.pending :=
  pending_of_hide (State.handshakeStep_hide queueMask rfl x0) rfl
@[simp] theorem State.handshakeStep_mode (x0 : State) : (State.handshakeStep x0).grid.mode = x0.grid.mode :=
  mode_of_hide (State.handshakeStep_hide queueMask rfl x0) rfl
@[simp] theorem State.wakeBoundary_pending (x0 : State) : (State.wakeBoundary x0).pending = x0.pending :=
  pending_of_hide (State.wakeBoundary_hide queueMask rfl x0) rfl
@[simp] theorem State.wakeBoundary_mode (x0 : State) : (State.wakeBoundary x0).grid.mode = x0.grid.mode :=
  mode_of_hide (State.wakeBoundary_hide queueMask rfl x0) rfl
@[simp] theorem State.entryAction_pending (x0 : State) (x1) : (State.entryAction x0 x1).pending = x0.pending :=
  pending_of_hide (State.entryAction_hide queueMask rfl x0 x1) rfl
@[simp] theorem State.entryAction_mode (x0 : State) (x1) : (State.entryAction x0 x1).grid.mode = x0.grid.mode :=
  mode_of_hide (State.entryAction_hide queueMask rfl x0 x1) rfl
@[simp] theorem State.supersedeDeferred_pending (x0 : State) : (State.supersedeDeferred x0).pending = x0.pending :=
  pending_of_hide (State.supersedeDeferred_hide queueMask rfl x0) rfl
@[simp] theorem State.supersedeDeferred_mode (x0 : State) : (State.supersedeDeferred x0).grid.mode = x0.grid.mode :=
  mode_of_hide (State.supersedeDeferred_hide queueMask rfl x0) rfl
@[simp] theorem State.writeAll_pending (x0 : State) : (State.writeAll x0).pending = x0.pending :=
  pending_of_hide (State.writeAll_hide queueMask rfl x0) rfl
@[simp] theorem State.writeAll_mode (x0 : State) : (State.writeAll x0).grid.mode = x0.grid.mode :=
  mode_of_hide (State.writeAll_hide queueMask rfl x0) rfl
@[simp] theorem State.checkOwner_pending (x0 : State) : (State.checkOwner x0).pending = x0.pending :=
  pending_of_hide (State.checkOwner_hide queueMask rfl x0) rfl
@[simp] theorem State.checkOwner_mode (x0 : State) : (State.checkOwner x0).grid.mode = x0.grid.mode :=
  mode_of_hide (State.checkOwner_hide queueMask rfl x0) rfl
@[simp] theorem State.configurePhases_pending (x0 : State) : (State.configurePhases x0).pending = x0.pending :=
  pending_of_hide (State.configurePhases_hide queueMask rfl x0) rfl
@[simp] theorem State.configurePhases_mode (x0 : State) : (State.configurePhases x0).grid.mode = x0.grid.mode :=
  mode_of_hide (State.configurePhases_hide queueMask rfl x0) rfl
@[simp] theorem State.releaseHwLatch_pending (x0 : State) : (State.releaseHwLatch x0).pending = x0.pending :=
  pending_of_hide (State.releaseHwLatch_hide queueMask rfl x0) rfl
@[simp] theorem State.releaseHwLatch_mode (x0 : State) : (State.releaseHwLatch x0).grid.mode = x0.grid.mode :=
  mode_of_hide (State.releaseHwLatch_hide queueMask rfl x0) rfl
@[simp] theorem State.recordWake_pending (x0 : State) (x1) (x2) (x3) (x4) (x5) : (State.recordWake x0 x1 x2 x3 x4 x5).pending = x0.pending :=
  pending_of_hide (State.recordWake_hide queueMask rfl x0 x1 x2 x3 x4 x5) rfl
@[simp] theorem State.recordWake_mode (x0 : State) (x1) (x2) (x3) (x4) (x5) : (State.recordWake x0 x1 x2 x3 x4 x5).grid.mode = x0.grid.mode :=
  mode_of_hide (State.recordWake_hide queueMask rfl x0 x1 x2 x3 x4 x5) rfl

theorem pending_ite (c : Prop) [Decidable c] (a b : State) :
    (if c then a else b).pending = if c then a.pending else b.pending := apply_ite _ _ _ _

theorem mode_ite (c : Prop) [Decidable c] (a b : State) :
    (if c then a else b).grid.mode = if c then a.grid.mode else b.grid.mode := apply_ite (fun s : State => s.grid.mode) _ _ _

/-- `t` follows `s` with the queue as it was, and with the mode ACTIVE only where it was ACTIVE. -/
def Quiet (s t : State) : Prop := t.pending = s.pending ∧ (t.grid.mode = .active → s.grid.mode = .active)

theorem Quiet.trans {s t u : State} (h : Quiet s t) (h' : Quiet t u) : Quiet s u :=
  ⟨h'.1.trans h.1, fun e => h.2 (h'.2 e)⟩

theorem Quiet.ite {s a b : State} {c : Prop} [Decidable c] (ha : Quiet s a) (hb : Quiet s b) : Quiet s (if c then a else b) :=
  ite_both _ _ _ _ ha hb

/-! ### Operations that move the mode -/

theorem ownMode_quiet (s : State) (m : Mode) (hm : m ≠ .active) : Quiet s (s.ownMode m) := by
  unfold State.ownMode
  exact .ite ⟨rfl, id⟩ (by simp [Quiet, hm])

theorem boundaryMode_quiet (s : State) (m : Mode) (hm : m ≠ .active) : Quiet s (s.boundaryMode m) := by
  unfold State.boundaryMode
  exact .ite ⟨rfl, id⟩ (ownMode_quiet s m hm)

theorem toStandby_quiet (s : State) (r : DeferRef) : Quiet s (s.toStandby r).2 := by
  unfold State.toStandby
  extract_lets t
  split <;> simp [Quiet, t]

theorem toService_quiet (s : State) (r : DeferRef) : Quiet s (s.toService r).2 := by
  unfold State.toService
  split <;> simp [Quiet]

theorem applyMode_pending (s : State) (m : Mode) (r : DeferRef) : (s.applyMode m r).2.pending = s.pending := by
  unfold State.applyMode
  split
  · cases m <;> split <;> simp
  · cases m
    · exact (toService_quiet s r).1
    · dsimp only
      split
      · exact (toStandby_quiet s r).1
      · simp
    · rfl

theorem freshLane_quiet (s : State) : Quiet s s.freshLane := by simp [Quiet, State.freshLane]

theorem loadConfig_quiet (s : State) : Quiet s s.loadConfig := by
  unfold State.loadConfig
  simp only [Quiet, State.commitPosition_pending, State.commitPosition_mode, pending_ite, mode_ite, State.takeImage_pending,
    State.takeImage_mode, ite_self]
  split
  · exact ⟨trivial, id⟩
  · split
    · exact ⟨trivial, id⟩
    · exact ⟨trivial, nofun⟩

theorem loseLaneData_quiet (s : State) : Quiet s s.loseLaneData := by
  unfold State.loseLaneData
  simp [Quiet]

theorem loseVolatile_quiet (s : State) : Quiet s s.loseVolatile := by
  unfold State.loseVolatile
  simpa [Quiet] using loseLaneData_quiet s

theorem leaveProtOnly_quiet (s : State) : Quiet s s.leaveProtOnly := by
  have h := (freshLane_quiet s).trans (loadConfig_quiet s.freshLane)
  simpa [Quiet, State.leaveProtOnly, pending_ite, mode_ite] using h

theorem lanesUp_quiet (s : State) (sealsOk : Bool) : Quiet s (s.lanesUp sealsOk) := by
  unfold State.lanesUp
  extract_lets restore _ _ t
  have hr (x : State) : Quiet x (restore x) := by
    have hp := foldl_keeps (fun (s : State) i => s.restoreCell (i + 1)) State.pending (by simp) (List.range 96) x
    have hm := foldl_keeps (fun (s : State) i => s.restoreCell (i + 1)) (·.grid.mode) (by simp) (List.range 96) x
    exact ⟨hp, fun e => hm ▸ e⟩
  have hb (x : State) (init : Bool) : Quiet x (x.bootLanes init) := by simp [Quiet]
  refine .ite ?_ (.ite ?_ ?_)
  · have h0 : Quiet s s.losePanData := by simp [Quiet]
    exact ((h0.trans (loadConfig_quiet _)).trans (hb _ false)).trans (hr _)
  · have h0 : Quiet s { s.loseLaneData.losePanData with grid.mode := s.grid.mode } :=
      ⟨by simpa using (loseLaneData_quiet s).1, id⟩
    exact ((h0.trans (loadConfig_quiet _)).trans (hb _ false)).trans (hr _)
  · have ht : Quiet s t := .ite ⟨rfl, id⟩ (loseVolatile_quiet s)
    simpa [Quiet] using ht.trans (loadConfig_quiet t)

theorem restart_quiet (s : State) : Quiet s s.restart := by
  simpa [Quiet, State.restart] using loseVolatile_quiet s

theorem resetTail_quiet (s : State) : Quiet s s.resetTail := by
  unfold State.resetTail
  refine Quiet.trans ?_ (restart_quiet _)
  simp [Quiet, pending_ite, mode_ite]

theorem serviceDone_quiet (s : State) (told : Option DeferRef) : Quiet s (s.serviceDone told) := by
  unfold State.serviceDone
  split
  · exact .ite (.ite (by simp [Quiet]) (by simp [Quiet])) ⟨rfl, id⟩
  · exact ⟨rfl, id⟩

theorem convReachesOff_quiet (s : State) : Quiet s s.convReachesOff := by
  unfold State.convReachesOff
  refine Quiet.trans ?_ (serviceDone_quiet _ _)
  simp [Quiet, pending_ite, mode_ite]

theorem convBoundary_quiet (s : State) : Quiet s s.convBoundary := by
  unfold State.convBoundary
  extract_lets _ t _ u
  have ht : Quiet s t := .ite (convReachesOff_quiet s) (serviceDone_quiet { s with conv.toOff := false } none)
  have hu : Quiet t u := .ite ⟨rfl, id⟩ (.ite ⟨rfl, id⟩ ⟨rfl, id⟩)
  simpa [Quiet] using ht.trans hu

theorem contactorMode_quiet (s : State) : Quiet s s.contactorMode := by
  unfold State.contactorMode
  extract_lets _ t g
  have ht : Quiet s t := by
    unfold t
    split
    · simpa [Quiet] using boundaryMode_quiet { s with safe.opened := none } .service (by decide)
    · exact ⟨rfl, id⟩
  refine ht.trans ?_
  split
  · refine .ite ?_ ⟨rfl, id⟩
    split
    · simp [Quiet, g]
    · exact .ite (by simp [Quiet]) ⟨rfl, id⟩
  · exact ⟨rfl, id⟩

theorem beginRecovery_quiet (s : State) (t : PowerSt) : Quiet s (s.beginRecovery t) := by
  unfold State.beginRecovery
  extract_lets s1 _ s2 g s3
  have h1 : Quiet s s1 := .ite (by simp [Quiet]) ⟨rfl, id⟩
  have h2 : Quiet s1 s3 := .ite (by simpa [Quiet, s2, g] using boundaryMode_quiet s1 .service (by decide)) ⟨rfl, id⟩
  simpa [Quiet] using h1.trans h2

theorem recoveryBoundary_quiet (s : State) : Quiet s s.recoveryBoundary := by
  unfold State.recoveryBoundary
  split
  · exact ⟨rfl, id⟩
  · exact .ite ⟨rfl, id⟩ (.ite ⟨rfl, id⟩ (beginRecovery_quiet _ _))

theorem settleEntry_quiet (s : State) : Quiet s s.settleEntry := by
  unfold State.settleEntry
  refine Quiet.trans ?_ (Quiet.ite (beginRecovery_quiet _ _) ⟨rfl, id⟩)
  simp [Quiet]

theorem watchSettles_quiet (s : State) : Quiet s s.watchSettles := .ite (settleEntry_quiet s) ⟨rfl, id⟩

theorem powerBoundary_quiet (s : State) : Quiet s s.powerBoundary := by
  unfold State.powerBoundary
  refine Quiet.trans ?_ (watchSettles_quiet _)
  simpa [Quiet] using recoveryBoundary_quiet s

theorem doStep_quiet (s : State) : Quiet s s.doStep := by
  unfold State.doStep
  split
  · exact ⟨rfl, id⟩
  · simp only []
    split
    · refine Quiet.trans ?_ (settleEntry_quiet _)
      simp [Quiet]
    · simp [Quiet]


/-! ### Commands that move the mode -/

theorem takeoverComplete_quiet (s : State) : Quiet s (outState s (execTakeoverComplete s)) := by
  unfold execTakeoverComplete
  rw [out_next]
  split
  · exact ⟨rfl, id⟩
  · extract_lets t u v
    have ht : Quiet s t := .ite (leaveProtOnly_quiet s) ⟨rfl, id⟩
    have hv : Quiet t v := .ite ⟨rfl, id⟩ ⟨rfl, id⟩
    exact ht.trans hv

theorem protOnlyReset_quiet (port : Port) (bs : List Byte) (s : State) : Quiet s (outState s (execProtOnlyReset port bs s)) := by
  unfold execProtOnlyReset
  split
  · exact ⟨rfl, id⟩
  · rw [out_next]
    split
    · exact .ite (restart_quiet s) ⟨rfl, id⟩
    · exact ⟨rfl, id⟩

theorem auxOkClear_quiet (s : State) : Quiet s (outState s (execAuxOkClear s)) := by
  unfold execAuxOkClear
  rw [out_next]
  refine .ite ⟨rfl, id⟩ ?_
  extract_lets _ t _ u leave _ v w
  have hu : Quiet s u := .ite ⟨rfl, id⟩ ⟨rfl, id⟩
  split
  · refine .ite hu ?_
    have hw : Quiet u w := .ite (ownMode_quiet v .standby (by decide)) ⟨rfl, id⟩
    simpa [Quiet] using hu.trans hw
  · exact hu
  · exact hu

theorem stackLow_quiet (s : State) : Quiet s (outState s (execStackLow s)) := by
  unfold execStackLow
  rw [out_next]
  refine .ite ⟨rfl, id⟩ (.ite ?_ ⟨rfl, id⟩)
  simpa [Quiet] using beginRecovery_quiet { s with power.bridgeRun := false } .aphelion

theorem entryStepComplete_quiet (s : State) : Quiet s (outState s (execEntryStepComplete s)) := by
  unfold execEntryStepComplete
  rw [out_next]
  refine .ite ⟨rfl, id⟩ ?_
  split
  · exact ⟨rfl, id⟩
  · exact .ite (doStep_quiet s) ⟨rfl, id⟩

theorem Quiet.foldl {α : Type} {f : State → α → State} (h : ∀ s a, Quiet s (f s a)) (l : List α) (s : State) :
    Quiet s (l.foldl f s) := by
  induction l generalizing s with
  | nil => exact ⟨rfl, id⟩
  | cons a l ih => exact (h s a).trans (ih (f s a))

theorem entryForced_quiet (s : State) : Quiet s (outState s (execEntryForced s)) := by
  unfold execEntryForced
  rw [out_next]
  refine .ite ⟨rfl, id⟩ ?_
  extract_lets t _ _ u v
  have ht : Quiet s t := by simp [Quiet, t]
  have hu : Quiet t u := .ite ⟨rfl, id⟩ ⟨rfl, id⟩
  have hv : Quiet u v := .foldl (fun x _ => .ite (doStep_quiet x) ⟨rfl, id⟩) _ _
  exact ((ht.trans hu).trans hv).trans (.ite (settleEntry_quiet v) ⟨rfl, id⟩)

theorem returnStageReady_quiet (sealsOk : Bool) (s : State) : Quiet s (outState s (execReturnStageReady sealsOk s)) := by
  unfold execReturnStageReady
  rw [out_next]
  refine .ite ⟨rfl, id⟩ ?_
  split
  · exact ⟨rfl, id⟩
  · simpa [Quiet] using lanesUp_quiet s sealsOk
  all_goals simp [Quiet]

theorem nonVolatile_quiet (s : State) : Quiet s s.nonVolatile :=
  ⟨rfl, fun e => by cases (show Mode.service = Mode.active from e)⟩

/-- A cold start is in SERVICE, the mode after reset. -/
theorem coldStart_quiet (straps : Nat) (bridgeOnly : Bool) (s : State) :
    Quiet s (outState s (execColdStart straps bridgeOnly s)) := by
  have h : Quiet s (s.coldBase straps) := (nonVolatile_quiet s).trans (by
    unfold State.coldBase
    generalize s.nonVolatile = x
    simp [Quiet])
  unfold execColdStart
  revert h
  generalize s.coldBase straps = x
  intro h
  split
  · rw [out_next]
    exact .ite h (h.trans (by simp [Quiet, State.coldReturn]))
  · exact ⟨rfl, id⟩

theorem runCmd_reset_quiet (h : Hdr) (p : List Byte) (s : State) : Quiet s (runCmd 0xF0 opReset h p s) := by
  have e := runCmd_hide queueMask rfl 0xF0 opReset h p s fun h p x => opReset_hide queueMask rfl h p x
  exact ⟨pending_of_hide e rfl, fun ha => mode_of_hide e rfl ▸ ha⟩

theorem reset_quiet (h : Hdr) (p : List Byte) (s : State) : Quiet s (outState s (execReset h p s)) := by
  unfold execReset
  rw [out_next]
  exact (runCmd_reset_quiet h p s).trans (.ite (resetTail_quiet _) ⟨rfl, id⟩)

/-- Every command but MODE and a boundary is quiet: one that is not a mover of the mode by its frame. -/
theorem exec_quiet {c : Instr} {s t : State} (h : exec c s = .next t) (hm : ∀ x p, c ≠ .mode x p) (hb : ∀ n, c ≠ .frameBoundary n) :
    Quiet s t := by
  by_cases hc : c.movesMode = false
  · exact ⟨exec_keeps_pending_of_mode h hc, fun e => exec_keeps_mode h hc ▸ e⟩
  · rw [← outState_of_next h]
    cases c
    case takeoverComplete => exact takeoverComplete_quiet s
    case protOnlyReset port bs => exact protOnlyReset_quiet port bs s
    case auxOkClear => exact auxOkClear_quiet s
    case stackLow => exact stackLow_quiet s
    case entryStepComplete => exact entryStepComplete_quiet s
    case entryForced => exact entryForced_quiet s
    case returnStageReady sealsOk => exact returnStageReady_quiet sealsOk s
    case coldStart straps bridgeOnly => exact coldStart_quiet straps bridgeOnly s
    case reset x p => exact reset_quiet x p s
    case mode x p => exact absurd rfl (hm x p)
    case frameBoundary n => exact absurd rfl (hb n)
    all_goals exact absurd rfl hc

/-- Settles O11: a quiet command leaves the mode ACTIVE only where it found it so. -/
theorem onlyModeMakesActive : Obligations.OnlyModeMakesActive := by
  intro c s t h hs ht
  by_contra hno
  exact hs ((exec_quiet h (fun x p e => hno (.inl ⟨x, p, e⟩)) fun n e => hno (.inr ⟨n, e⟩)).2 ht)

end Sys2Proof.Machine
end


section
/-!
PROOFS. What a frame boundary keeps (01_one_frame.md R26): a predicate that the operations of the boundary keep, each by itself, is
kept by the boundary. No command changes the queue.
-/

-- One proof after the other: the threads of proofs that are elaborated at once take too much memory together.
set_option Elab.async false

namespace Sys2Proof.Machine

/-- All of the state but the lanes' records, the mode and queue, the keys, the power, converter and safety states, the gates and the
token. -/
def boundaryMask : Nat := 2 ^ 37 - 1 - 2 ^ 26 + 2 ^ 45 + 2 ^ 46

/-- A predicate on what `boundaryMask` leaves that is kept by each operation of a boundary which may change that. -/
structure BoundaryKeeps (Q : State → Prop) : Prop where
  frame : ∀ {s t : State}, Q s → t.hide boundaryMask = s.hide boundaryMask → Q t
  power : ∀ s, Q s → Q s.powerBoundary
  contactor : ∀ s, Q s → Q s.contactorMode
  converter : ∀ s, Q s → Q s.convBoundary
  reprov : ∀ s, Q s → Q s.reprovSteps
  latched : ∀ s d, Q s → Q (s.runLatchDue d)
  packet : ∀ s e, Q s → Q (s.runPacket e)
  commit : ∀ s, Q s → Q s.applyCommit
  outputs : ∀ s, Q s → Q s.applyOutputs
  restart : ∀ s, Q s → Q s.resetTail

theorem foldl_keeps_pred {α : Type} {Q : State → Prop} {f : State → α → State} (h : ∀ s a, Q s → Q (f s a)) (l : List α) {s : State}
    (hs : Q s) : Q (l.foldl f s) := by
  induction l generalizing s with
  | nil => exact hs
  | cons a l ih => exact ih (h s a hs)

section
variable {Q : State → Prop} (hQ : BoundaryKeeps Q) {s : State} (hs : Q s)
include hQ hs

theorem runDue_keeps (l : List LatchDue) : Q (s.runDue l) := by
  unfold State.runDue
  exact foldl_keeps_pred (fun t p ht => foldl_keeps_pred hQ.packet _ (foldl_keeps_pred hQ.latched _ ht)) _ (hQ.frame hs rfl)

/-- The module's own part of a boundary runs the operations one after the other. -/
theorem lanePart_keeps : Q s.lanePart := by
  unfold State.lanePart
  extract_lets _ t latches u v
  have ht : Q t := hQ.contactor _ (hQ.frame hs rfl)
  have hu : Q u := hQ.frame (hQ.reprov _ (hQ.frame (hQ.converter t ht) (State.balReachesOff_hide boundaryMask rfl _)))
    (State.reportPower_hide boundaryMask rfl _)
  have hd := hQ.outputs _ (hQ.commit _ (runDue_keeps hQ hu latches))
  have hv : Q v := hQ.frame (hQ.frame hd (State.checkVerify_hide boundaryMask rfl _)) (State.movesAndSlices_hide boundaryMask rfl _)
  clear_value v
  have hw : Q { v with ploza.holdNotices := false } := hQ.frame hv rfl
  exact hQ.frame hw (State.flushNotices_hide boundaryMask rfl _)

theorem asOf_keeps (n : Nat) (f : State → State) (hf : ∀ t, Q t → Q (f t)) : Q (s.asOf n f) := by
  unfold State.asOf
  extract_lets m _ t
  have ht : Q t := hf _ (hQ.frame hs rfl)
  exact hQ.frame ht rfl

/-- What a lane that has just been granted the token makes up for is the module's part of the boundaries it missed. -/
theorem replay_keeps : Q s.replay := by
  unfold State.replay
  extract_lets n l t
  have ht : Q t := by
    refine hQ.frame (foldl_keeps_pred (fun u k hu => ?_) l hs) (State.skipRecords_hide boundaryMask rfl _ _)
    refine asOf_keeps hQ hu k _ fun v hv => ?_
    exact hQ.frame (lanePart_keeps hQ (hQ.frame hv (State.freshBoundary_hide boundaryMask rfl v)))
      (State.dieDemand_hide boundaryMask rfl _)
  exact hQ.frame ht rfl

theorem gapEnds_keeps : Q s.gapEnds :=
  ite_both Q _ _ _ (replay_keeps hQ (hQ.frame hs rfl)) hs

theorem stepsOf_keeps (lane : Bool) (lateNs : Nat) : Q (s.stepsOf lane lateNs) := by
  unfold State.stepsOf
  extract_lets t u
  have h0 := hQ.frame hs (State.holdUndone_hide boundaryMask rfl s)
  have ht : Q t :=
    ite_both Q _ _ _ (hQ.frame (lanePart_keeps hQ h0) (State.takeSlices_hide boundaryMask rfl _))
      (hQ.frame h0 (State.anchoredMoves_hide boundaryMask rfl _))
  have hu : Q u := hQ.frame (hQ.frame (hQ.frame ht (State.startWindow_hide boundaryMask rfl t lane lateNs))
    (State.takeDecision_hide boundaryMask rfl _ lane)) (State.windowWork_hide boundaryMask rfl _)
  exact ite_both Q _ _ _ (hQ.frame (hQ.frame hu (State.laneWork_hide boundaryMask rfl u)) (State.sendMirror_hide boundaryMask rfl _)) hu

theorem boundaryBody_keeps (lateNs : Nat) : Q (s.boundaryBody lateNs) :=
  stepsOf_keeps hQ (gapEnds_keeps hQ (hQ.power _ (hQ.frame hs (State.freshBoundary_hide boundaryMask rfl s)))) _ _

theorem boundary_keeps (lateNs : Nat) : Q (s.boundary lateNs) := by
  unfold State.boundary
  refine ite_both Q _ _ _ hs ?_
  extract_lets _ _ t u
  have ht : Q t := ite_both Q _ _ _ (hQ.frame (hQ.frame hs (State.closeWindow_hide boundaryMask rfl s)) rfl) hs
  have hu : Q u := asOf_keeps hQ ht _ _ fun v hv => boundaryBody_keeps hQ hv lateNs
  exact ite_both Q _ _ _ (hQ.restart _ hu) hu

end

/-! ### What an opcode command keeps -/

/-- The records of the ports, in which an answer is noted and sent. -/
def answerMask : Nat := partsMask [.ring, .port, .ploza, .can, .spi]

/-- Beside the records of the ports, finishing a command leaves the state of its answer, or the state before the command. -/
theorem finish_cases (s : State) (op : Byte) (h : Hdr) (p : List Byte) (a : Ans) :
    (s.finish op h p a).hide answerMask = s.hide answerMask ∨ (s.finish op h p a).hide answerMask = a.s.hide answerMask := by
  have hf (b : Ans) : ((b.s.noteExecuted op h p b (s.replyPacket op h.seq b.st b.payload)).answer h
      (s.replyPacket op h.seq b.st b.payload)).hide answerMask = b.s.hide answerMask := by
    rw [State.answer_hide answerMask rfl, State.noteExecuted_hide answerMask rfl]
  unfold State.finish
  extract_lets b reply
  rw [hf b]
  unfold b State.settle
  split
  · exact .inl rfl
  · split
    · exact .inl rfl
    · exact .inr rfl

/-- The same for an opcode command, executed or not. -/
theorem runCmd_cases (op : Byte) (f : Hdr → List Byte → State → Ans) (h : Hdr) (p : List Byte) (s : State) :
    (runCmd op f h p s).hide answerMask = s.hide answerMask ∨
      (runCmd op f h p s).hide answerMask = (f h p s).s.hide answerMask := by
  unfold runCmd
  split
  · exact .inl rfl
  split
  · split
    · exact .inl (State.sendReply_hide answerMask rfl ..)
    · exact .inl rfl
  split
  · exact .inl rfl
  split
  · exact .inl (State.answer_hide answerMask rfl ..)
  · exact finish_cases ..

/-- The packet of a due entry runs as the command of its opcode does, and one of no opcode does nothing. -/
theorem runPacket_keeps {Q : State → Prop} (hexec : ∀ c s, (∀ n, c ≠ .frameBoundary n) → Q s → Q (outState s (exec c s)))
    (hreset : ∀ h p s, Q s → Q (runCmd 0xF0 opReset h p s)) {s : State} (e : InboxPkt) (hs : Q s) : Q (s.runPacket e) := by
  have hdiag (sub : Nat) (h : Hdr) (p : List Byte) : Q (runDiag sub h p s) := by
    unfold runDiag
    split
    · exact hexec (.diagDieTemp h p) s nofun hs
    · exact hexec (.diagCurCal h p) s nofun hs
    · exact hexec (.diagFaultClear h p) s nofun hs
    · exact hexec (.diagProtEvents h p) s nofun hs
    · exact hexec (.diagCellReset h p) s nofun hs
    · exact hexec (.diagThermoCal h p) s nofun hs
    · exact hexec (.diagAbsorbedEvents h p) s nofun hs
    · exact hexec (.diagPowerTest h p) s nofun hs
    · exact hs
  unfold State.runPacket
  split
  · rename_i r _
    unfold runOpcode
    generalize ({ port := e.port, target := r.target, seq := r.seq, flags := r.flags } : Hdr) = h
    generalize r.payload = p
    split
    · exact hexec (.ping h p) s nofun hs
    · exact hexec (.identify h p) s nofun hs
    · exact hexec (.health h p) s nofun hs
    · exact hexec (.paramGet h p) s nofun hs
    · exact hexec (.paramSet h p) s nofun hs
    · exact hexec (.commit h p) s nofun hs
    · exact hexec (.discard h p) s nofun hs
    · exact hexec (.tableWrite h p) s nofun hs
    · exact hexec (.tableRead h p) s nofun hs
    · exact hexec (.powerState h p) s nofun hs
    · exact hexec (.wakeRecord h p) s nofun hs
    · exact hexec (.mode h p) s nofun hs
    · exact hexec (.convEnable h p) s nofun hs
    · exact hexec (.convDisable h p) s nofun hs
    · exact hexec (.convSetpoint h p) s nofun hs
    · exact hexec (.convFaultRecord h p) s nofun hs
    · exact hexec (.balPlan h p) s nofun hs
    · exact hexec (.balStop h p) s nofun hs
    · exact hexec (.eisStart h p) s nofun hs
    · exact hexec (.eisResult h p) s nofun hs
    · exact hexec (.eisAbort h p) s nofun hs
    · exact hexec (.snapshot h p) s nofun hs
    · exact hexec (.streamConfig h p) s nofun hs
    · exact hexec (.fwStage h p) s nofun hs
    · exact hexec (.fwActivate h p) s nofun hs
    · exact hexec (.journalRead h p) s nofun hs
    · exact hexec (.attest h p) s nofun hs
    · exact hexec (.reprovision h p) s nofun hs
    · exact hexec (.ringStatus h p) s nofun hs
    · exact hexec (.ringEnumerate h p) s nofun hs
    · exact hexec (.safetyStatus h p) s nofun hs
    · exact hexec (.safetyReset h p) s nofun hs
    · exact hexec (.eclipseSwap h p) s nofun hs
    · exact hreset h p s hs
    · exact hdiag _ h _
    · exact hs
  · exact hs

/-- A predicate that every command but a boundary keeps, and the operations of a boundary too, is kept by every step. -/
theorem step_keeps_of_boundary {Q : State → Prop} (hq : ∀ (s : State) rest, Q s → Q { s with pending := rest })
    (hexec : ∀ c s, (∀ n, c ≠ .frameBoundary n) → Q s → Q (outState s (exec c s))) (hQ : BoundaryKeeps Q) {s t : State}
    (h : step s = .next t) (hs : Q s) : Q t := by
  refine step_keeps hq (fun c s t hc hs => ?_) h hs
  by_cases hb : ∃ n, c = .frameBoundary n
  · obtain ⟨n, rfl⟩ := hb
    cases hc
    exact boundary_keeps hQ hs n
  · exact outState_of_next hc ▸ hexec c s (fun n e => hb ⟨n, e⟩) hs

/-! ### The queue -/

theorem opMode_pending (h : Hdr) (p : List Byte) (s : State) : (opMode h p s).s.pending = s.pending := by
  unfold opMode
  split
  · rfl
  · extract_lets old
    simp only [ans_ite, pending_ite, fail_s, refuse_s, okAns_s, State.journal_pending, applyMode_pending, ite_self]

theorem mode_pending (h : Hdr) (p : List Byte) (s : State) : (runCmd 0x22 opMode h p s).pending = s.pending := by
  obtain e | e := runCmd_cases 0x22 opMode h p s
  · exact pending_of_hide e rfl
  · exact (pending_of_hide e rfl).trans (opMode_pending h p s)

theorem exec_pending {c : Instr} {s : State} (hb : ∀ n, c ≠ .frameBoundary n) : (outState s (exec c s)).pending = s.pending := by
  by_cases hm : ∃ h p, c = .mode h p
  · obtain ⟨h, p, rfl⟩ := hm
    exact mode_pending h p s
  · cases ho : exec c s with
    | next t => exact (exec_quiet ho (fun h p e => hm ⟨h, p, e⟩) hb).1
    | fault r => rfl
    | refused r => rfl

theorem boundary_pending (s : State) (lateNs : Nat) : (s.boundary lateNs).pending = s.pending := by
  refine boundary_keeps (Q := fun t => t.pending = s.pending) ?_ rfl lateNs
  exact {
    frame := fun ht h => (pending_of_hide h rfl).trans ht
    power := fun t ht => (powerBoundary_quiet t).1.trans ht
    contactor := fun t ht => (contactorMode_quiet t).1.trans ht
    converter := fun t ht => (convBoundary_quiet t).1.trans ht
    reprov := fun t ht => (pending_of_hide (State.reprovSteps_hide queueMask rfl t) rfl).trans ht
    latched := fun t d ht => (pending_of_hide (State.runLatchDue_hide queueMask rfl t d) rfl).trans ht
    packet := fun t e ht => runPacket_keeps (Q := fun t => t.pending = s.pending) (fun _ _ hc hu => (exec_pending hc).trans hu)
      (fun h p u hu => (runCmd_reset_quiet h p u).1.trans hu) e ht
    commit := fun t ht => (pending_of_hide (State.applyCommit_hide queueMask rfl t) rfl).trans ht
    outputs := fun t ht => (pending_of_hide (State.applyOutputs_hide queueMask rfl t) rfl).trans ht
    restart := fun t ht => (resetTail_quiet t).1.trans ht }

/-- Settles O3: quiet commands keep the queue, and so do MODE and the operations of a boundary. -/
theorem queueUntouched : Obligations.QueueUntouched := by
  intro c s t h
  by_cases hb : ∃ n, c = .frameBoundary n
  · obtain ⟨n, rfl⟩ := hb
    cases h
    exact boundary_pending s n
  · exact outState_of_next h ▸ exec_pending fun n e => hb ⟨n, e⟩

end Sys2Proof.Machine
end


section
/-!
PROOFS. Keys and TAMPER (20_security_and_journal.md R469, R470).
-/

-- One proof after the other: the threads of proofs that are elaborated at once take too much memory together.
set_option Elab.async false

namespace Sys2Proof.Machine

/-- All of the state but the keys and TAMPER. -/
def keysMask : Nat := 2 ^ 50 - 1 - 2 ^ 38 - 2 ^ 39

theorem State.KeysFollowTamper.of_hide {m : Nat} {s t : State} (hs : s.KeysFollowTamper) (h : t.hide m = s.hide m)
    (h38 : m.testBit 38 = false := by rfl) (h39 : m.testBit 39 = false := by rfl) : t.KeysFollowTamper := by
  obtain ⟨hk, ht⟩ := keys_of_hide h h38 h39
  rw [State.KeysFollowTamper, hk, ht]
  exact hs

/-! ### The two operations that move them -/

/-- An erasure takes the keys and latches TAMPER; what it answers to the provisioning that waited moves neither. -/
theorem eraseKeys_keysFollowTamper (s : State) : s.eraseKeys.KeysFollowTamper := by
  unfold State.eraseKeys
  extract_lets l _ t
  have ht : t.KeysFollowTamper := rfl
  refine State.KeysFollowTamper.of_hide ?_ (State.endVerify_hide keysMask rfl _ _ _)
  exact foldl_keeps_pred (fun u c hu => hu.of_hide (State.complete_hide keysMask rfl _ _ _ _ _ _ _)) l ht

/-- New keys release TAMPER. -/
theorem newKeys_keysFollowTamper (s : State) (r : DeferRef) : (s.newKeys r).KeysFollowTamper := by
  unfold State.newKeys
  extract_lets old e new _ t
  have ht : t.KeysFollowTamper := rfl
  exact (ht.of_hide (State.journal_hide keysMask rfl t r.port 0x92 e old new)).of_hide (State.complete_hide keysMask rfl _ _ _ _ _ _ _)

/-! ### Every step -/

theorem tamperDetect_keysFollowTamper {s : State} (hs : s.KeysFollowTamper) (sources : BitVec 4) (value : Int) :
    (s.tamperDetect sources value).KeysFollowTamper := by
  unfold State.tamperDetect
  extract_lets hit erase t
  have ht : t.KeysFollowTamper := ite_both State.KeysFollowTamper _ _ _ (eraseKeys_keysFollowTamper s) hs
  refine State.KeysFollowTamper.of_hide ?_ (State.flushTamper_hide keysMask rfl _)
  exact foldl_keeps_pred (fun u k hu => hu.of_hide (State.noteTamper_hide keysMask rfl u k value)) hit ht

theorem reprovSteps_keysFollowTamper {s : State} (hs : s.KeysFollowTamper) : s.reprovSteps.KeysFollowTamper := by
  unfold State.reprovSteps
  refine foldl_keeps_pred (fun u c hu => ?_) _ (hs.of_hide (m := keysMask) rfl)
  refine ite_both State.KeysFollowTamper _ _ _ (hu.of_hide (State.challenge_hide keysMask rfl u _)) ?_
  exact ite_both State.KeysFollowTamper _ _ _ (newKeys_keysFollowTamper u _) (hu.of_hide (State.complete_hide keysMask rfl ..))

theorem exec_keysFollowTamper {c : Instr} {s : State} (hb : ∀ n, c ≠ .frameBoundary n) (hs : s.KeysFollowTamper) :
    (outState s (exec c s)).KeysFollowTamper := by
  by_cases hc : movesKeys c = false
  · obtain ⟨-, h38, h39, -⟩ := frameMask_fields c
    exact hs.of_hide (exec_hide_of_sub (sub_self _) s) (h38.trans hc) (h39.trans hc)
  · cases c
    case tamperDetect sources value => exact tamperDetect_keysFollowTamper hs sources value
    case frameBoundary n => exact absurd rfl (hb n)
    all_goals exact absurd rfl hc

theorem boundaryKeeps_keysFollowTamper : BoundaryKeeps State.KeysFollowTamper where
  frame := fun hs h => hs.of_hide h
  power := fun t ht => ht.of_hide (State.powerBoundary_hide keysMask rfl t)
  contactor := fun t ht => ht.of_hide (State.contactorMode_hide keysMask rfl t)
  converter := fun t ht => ht.of_hide (State.convBoundary_hide keysMask rfl t)
  reprov := fun _ ht => reprovSteps_keysFollowTamper ht
  latched := fun t d ht => ht.of_hide (State.runLatchDue_hide keysMask rfl t d)
  packet := fun t e ht => ht.of_hide (State.runPacket_hide keysMask rfl t e)
  commit := fun t ht => ht.of_hide (State.applyCommit_hide keysMask rfl t)
  outputs := fun t ht => ht.of_hide (State.applyOutputs_hide keysMask rfl t)
  restart := fun t ht => ht.of_hide (State.resetTail_hide keysMask rfl t)

/-- Settles O6: a detection with erase and REPROVISION set both fields together, and nothing else moves either. -/
theorem keysFollowTamper : Obligations.KeysFollowTamper := fun _ _ h =>
  step_keeps_of_boundary (Q := State.KeysFollowTamper) (fun _ _ hs => hs) (fun _ _ => exec_keysFollowTamper)
    boundaryKeeps_keysFollowTamper h

end Sys2Proof.Machine
end


section
/-!
PROOFS. The gate kill and SAFE_OK (15_safety_block.md Table 15.2).
-/

-- One proof after the other: the threads of proofs that are elaborated at once take too much memory together.
set_option Elab.async false

namespace Sys2Proof.Machine

/-! ### The outputs of the safety block -/

/-- The safety state and its two outputs. -/
def Safe.outputs (x : Safe) : SafeSt × Bool × Bool := (x.st, x.gateKill, x.safeOk)

theorem State.SafetyOutputsFollowState.of_outputs {s t : State} (hs : s.SafetyOutputsFollowState)
    (h : t.safe.outputs = s.safe.outputs) : t.SafetyOutputsFollowState := by
  obtain ⟨hst, hkill, hok⟩ : t.safe.st = s.safe.st ∧ t.safe.gateKill = s.safe.gateKill ∧ t.safe.safeOk = s.safe.safeOk := by
    simpa [Safe.outputs] using h
  rw [State.SafetyOutputsFollowState, hst, hkill, hok]
  exact hs

/-- All of the state but the safety state and its outputs. -/
def safetyMask : Nat := 2 ^ 50 - 1 - 2 ^ 42 - 2 ^ 43 - 2 ^ 44

theorem State.SafetyOutputsFollowState.of_hide {m : Nat} {s t : State} (hs : s.SafetyOutputsFollowState) (h : t.hide m = s.hide m)
    (h42 : m.testBit 42 = false := by rfl) (h43 : m.testBit 43 = false := by rfl) (h44 : m.testBit 44 = false := by rfl) :
    t.SafetyOutputsFollowState := by
  obtain ⟨hst, hkill, hok⟩ := safety_of_hide h h42 h43 h44
  exact hs.of_outputs (by rw [Safe.outputs, hst, hkill, hok, Safe.outputs])

theorem settleArming_outputs (x : Safe) : x.settleArming.outputs = x.outputs := by
  unfold Safe.settleArming
  split <;> rfl

theorem setInput_outputs (x : Safe) (i : Nat) (v : SafeIn) : (x.setInput i v).outputs = x.outputs := by
  unfold Safe.setInput
  split <;> rfl

theorem dropInput_outputs (x : Safe) (t2 : Bool) (low : BitVec 7) (k : Nat) : (x.dropInput t2 low k).outputs = x.outputs := by
  unfold Safe.dropInput
  extract_lets v l
  split
  · rfl
  · exact setInput_outputs ..

theorem dropInputs_outputs (x : Safe) (t2 : Bool) (low : BitVec 7) (l : List Nat) :
    (l.foldl (fun (x : Safe) k => x.dropInput t2 low k) x).outputs = x.outputs := by
  induction l generalizing x with
  | nil => rfl
  | cons k l ih => exact (ih _).trans (dropInput_outputs x t2 low k)

theorem readLevels_outputs (x : Safe) (i : SafeSample) : (x.readLevels i).outputs = x.outputs := by
  unfold Safe.readLevels
  induction List.range 7 generalizing x with
  | nil => rfl
  | cons k l ih => exact (ih _).trans (ite_both (fun y : Safe => y.outputs = x.outputs) _ _ _ (setInput_outputs ..) rfl)

theorem readInputs_outputs (x : Safe) (i : SafeSample) : (x.readInputs i).outputs = x.outputs := by
  unfold Safe.readInputs
  have h := readLevels_outputs x i
  generalize x.readLevels i = y at h ⊢
  exact (settleArming_outputs _).trans h

/-! ### Operations that move them -/

theorem modSafe_follows {s : State} (hs : s.SafetyOutputsFollowState) (f : Safe → Safe) (hf : (f s.safe).outputs = s.safe.outputs) :
    (s.modSafe f).SafetyOutputsFollowState :=
  hs.of_outputs ((settleArming_outputs _).trans hf)

theorem armSafety_follows (s : State) : s.armSafety.SafetyOutputsFollowState := by
  unfold State.armSafety
  exact State.SafetyOutputsFollowState.of_hide (by exact ⟨rfl, rfl⟩) (State.notifySafety_hide safetyMask rfl _)

theorem disarmSafety_follows (s : State) : s.disarmSafety.SafetyOutputsFollowState := by
  unfold State.disarmSafety
  refine State.SafetyOutputsFollowState.of_hide ?_ (State.notifySafety_hide safetyMask rfl _)
  exact State.SafetyOutputsFollowState.of_hide (by exact ⟨rfl, rfl⟩) (State.convStop_hide safetyMask rfl _ _)

theorem safetyOff_follows (s : State) : s.safetyOff.SafetyOutputsFollowState := by
  cases h : s.safe.st <;> simp [State.SafetyOutputsFollowState, State.safetyOff, h]

theorem trip_follows {s : State} (hs : s.SafetyOutputsFollowState) (cause : Nat) : (s.trip cause).SafetyOutputsFollowState := by
  unfold State.trip
  split
  · exact hs
  · exact hs.of_outputs rfl
  · extract_lets _ _ _ t
    have ht : t.SafetyOutputsFollowState := ⟨rfl, rfl⟩
    exact (ht.of_hide (State.convStop_hide safetyMask rfl t 14)).of_hide (State.notifySafety_hide safetyMask rfl _)

theorem nonVolatile_follows (s : State) : s.nonVolatile.SafetyOutputsFollowState := by
  cases h : s.safe.st <;> simp [State.SafetyOutputsFollowState, State.nonVolatile, State.reset, h]

/-- A parameter set that gives up the block releases the gates; one that takes it into use again starts in SAFE, with SAFE_OK
still off. -/
theorem loadSafetySet_follows {s : State} (hs : s.SafetyOutputsFollowState) : s.loadSafetySet.SafetyOutputsFollowState := by
  unfold State.loadSafetySet
  extract_lets n t
  have ht : t.SafetyOutputsFollowState := modSafe_follows hs _ rfl
  clear_value t
  split
  · exact State.SafetyOutputsFollowState.of_hide (by exact ⟨rfl, rfl⟩) (State.notifySafety_hide safetyMask rfl _)
  · split
    · rename_i hu
      have hst : t.safe.st = .notUsed := eq_of_beq (Bool.and_eq_true _ _ ▸ hu).2
      refine State.SafetyOutputsFollowState.of_hide ?_ (State.notifySafety_hide safetyMask rfl _)
      refine ⟨rfl, ?_⟩
      change t.safe.safeOk = false
      rw [ht.2, hst]
      rfl
    · exact ht

theorem safetySample_follows {s : State} (hs : s.SafetyOutputsFollowState) (i : SafeSample) :
    (s.safetySample i).SafetyOutputsFollowState := by
  unfold State.safetySample
  extract_lets old x causes y t u v
  have hy : y.outputs = s.safe.outputs := by
    have hx : x.outputs = s.safe.outputs := readInputs_outputs _ _
    unfold y
    clear_value x
    induction List.range 4 generalizing x with
    | nil => exact hx
    | cons k l ih => exact ih _ (ite_both (fun z : Safe => z.outputs = s.safe.outputs) _ _ _ hx hx)
  have ht : t.SafetyOutputsFollowState := hs.of_outputs hy
  have hu : u.SafetyOutputsFollowState := 
    foldl_keeps_pred (Q := State.SafetyOutputsFollowState) (f := State.trip) (fun _ c hw => trip_follows hw c) causes ht
  have hv : v.SafetyOutputsFollowState := ite_both _ _ _ _ (disarmSafety_follows u) hu
  exact (hv.of_hide (State.twoHand_hide safetyMask rfl v _ _)).of_hide (State.followRequest_hide safetyMask rfl _)

theorem commitStep_follows {s : State} (hs : s.SafetyOutputsFollowState) (due : Bool) {f : State → State}
    (hf : ∀ x : State, x.SafetyOutputsFollowState → (f x).SafetyOutputsFollowState) :
    (s.commitStep due f).SafetyOutputsFollowState :=
  ite_both _ _ _ _ (hf s hs) hs

/-- Of the steps after a COMMIT only that of the safety page moves the outputs. -/
theorem applyCommit_follows {s : State} (hs : s.SafetyOutputsFollowState) : s.applyCommit.SafetyOutputsFollowState := by
  unfold State.applyCommit
  extract_lets ids has page
  refine commitStep_follows ?_ _ fun x hx => hx.of_hide (State.commitPolicy_hide safetyMask rfl x)
  refine commitStep_follows ?_ _ fun x hx => 
    ((hx.of_hide (State.canConfigure_hide safetyMask rfl x false)).of_hide (State.canConfigure_hide safetyMask rfl _ true)).of_hide
      (State.trimStreams_hide safetyMask rfl _)
  refine commitStep_follows ?_ _ fun x hx => hx.of_hide (State.evalThermal_hide safetyMask rfl x)
  refine commitStep_follows ?_ _ fun x hx => hx.of_outputs rfl
  refine commitStep_follows ?_ _ fun x hx => hx.of_hide (State.commitPosition_hide safetyMask rfl x)
  refine commitStep_follows ?_ _ fun x hx => hx.of_hide (State.commitEclipse_hide safetyMask rfl x)
  refine commitStep_follows ?_ _ fun x hx => loadSafetySet_follows hx
  refine commitStep_follows ?_ _ fun x hx => hx.of_hide (State.commitProtection_hide safetyMask rfl x)
  refine commitStep_follows ?_ _ fun x hx => hx.of_hide (State.initCells_hide safetyMask rfl x false false)
  refine commitStep_follows ?_ _ fun x hx => hx.of_hide (State.applyEstMode_hide safetyMask rfl x)
  refine commitStep_follows ?_ _ fun x hx => hx.of_hide (State.owOpenCause_hide safetyMask rfl x)
  refine commitStep_follows ?_ _ fun x hx => hx.of_hide (State.commitCfe_hide safetyMask rfl x)
  refine commitStep_follows ?_ _ fun x hx => 
    (hx.of_hide (State.endSweep_hide safetyMask rfl x 9 none)).of_hide (State.stopWatch_hide safetyMask rfl _)
  refine commitStep_follows ?_ _ fun x hx => hx.of_hide (State.commitCells_hide safetyMask rfl x)
  exact hs.of_outputs rfl

theorem opSafetyReset_follows {s : State} (hs : s.SafetyOutputsFollowState) (h : Hdr) (p : List Byte) :
    (opSafetyReset h p s).s.SafetyOutputsFollowState := by
  unfold opSafetyReset
  split
  · exact hs
  · exact hs
  · split
    · exact (armSafety_follows s).of_hide (State.journal_hide safetyMask rfl ..)
    · exact hs

theorem entryAction_follows {s : State} (hs : s.SafetyOutputsFollowState) (k : Nat) : (s.entryAction k).SafetyOutputsFollowState := by
  unfold State.entryAction
  extract_lets deep t _ _ _ _ u _
  split
  · refine ite_both _ _ _ _ (State.SafetyOutputsFollowState.of_hide ?_ (State.writeAll_hide safetyMask rfl _)) hs
    exact ite_both _ _ _ _ (hs.of_hide (State.threshJob_hide safetyMask rfl s)) hs
  · have ht : t.SafetyOutputsFollowState := hs.of_hide (State.gatePans_hide safetyMask rfl s deep)
    refine ite_both _ _ _ _ ht (ite_both _ _ _ _ (ht.of_hide (State.convOff_hide safetyMask rfl t)) ?_)
    exact (ht.of_hide (State.gatesOff_hide safetyMask rfl t)).of_outputs rfl
  · exact ite_both _ _ _ _ (hs.of_hide (State.portsDown_hide safetyMask rfl s)) hs
  · exact ite_both _ _ _ _ (hs.of_hide (State.lanesDown_hide safetyMask rfl s _)) hs
  · have hu : u.SafetyOutputsFollowState := hs.of_outputs rfl
    exact ite_both _ _ _ _ hs (ite_both _ _ _ _ ((safetyOff_follows u).of_outputs rfl) hu)
  · exact hs

theorem doStep_follows {s : State} (hs : s.SafetyOutputsFollowState) : s.doStep.SafetyOutputsFollowState := by
  unfold State.doStep
  split
  · exact hs
  · extract_lets _ _ t
    have ht : t.SafetyOutputsFollowState := (entryAction_follows hs _).of_outputs rfl
    exact ite_both _ _ _ _ (ht.of_hide (State.settleEntry_hide safetyMask rfl t)) ht

/-! ### Commands -/

section
variable {s : State} (hs : s.SafetyOutputsFollowState)
include hs

theorem execSafetySample_follows (i : SafeSample) : (outState s (execSafetySample i s)).SafetyOutputsFollowState :=
  ite_both _ _ _ _ (safetySample_follows hs i) hs

theorem execSafetyDiscrepancy_follows (door : Bool) : (outState s (execSafetyDiscrepancy door s)).SafetyOutputsFollowState := by
  refine ite_both _ _ _ _ hs (trip_follows (modSafe_follows hs _ ?_) 3)
  cases door <;> rfl

theorem execTestOutputDrop_follows (t2 : Bool) (low : BitVec 7) :
    (outState s (execTestOutputDrop t2 low s)).SafetyOutputsFollowState := by
  unfold execTestOutputDrop
  rw [out_next]
  refine ite_both _ _ _ _ ?_ hs
  extract_lets old t new stuck cross u
  have ht : t.SafetyOutputsFollowState := modSafe_follows hs _ (dropInputs_outputs ..)
  have hu : u.SafetyOutputsFollowState := ite_both _ _ _ _ (trip_follows ht 4) ht
  exact ite_both _ _ _ _ (trip_follows hu 5) hu

theorem execOutputTestDrop_follows (out : Nat) (ok : Bool) : (outState s (execOutputTestDrop out ok s)).SafetyOutputsFollowState := by
  unfold execOutputTestDrop
  split
  · rw [out_next]
    refine ite_both _ _ _ _ ?_ hs
    extract_lets t
    have ht : t.SafetyOutputsFollowState := hs.of_outputs rfl
    refine ite_both _ _ _ _ ht (trip_follows ?_ 6)
    exact ht.of_outputs rfl
  · exact hs

theorem execSafetySelfTest_follows (ramOk progOk setOk : Bool) :
    (outState s (execSafetySelfTest ramOk progOk setOk s)).SafetyOutputsFollowState := by
  unfold execSafetySelfTest
  rw [out_next]
  refine ite_both _ _ _ _ ?_ hs
  extract_lets wasSet wasInt t u
  have ht : t.SafetyOutputsFollowState := modSafe_follows hs _ rfl
  have hu : u.SafetyOutputsFollowState := ite_both _ _ _ _ (trip_follows ht 11) ht
  exact ite_both _ _ _ _ (trip_follows hu 12) hu

theorem execArmingReady_follows : (outState s (execArmingReady s)).SafetyOutputsFollowState := by
  refine ite_both _ _ _ _ (ite_both _ _ _ _ (armSafety_follows _) ?_) hs
  exact hs.of_outputs rfl

theorem execOutputOvercurrent_follows (out : Nat) : (outState s (execOutputOvercurrent out s)).SafetyOutputsFollowState := by
  unfold execOutputOvercurrent
  split
  · refine ite_both _ _ _ _ (trip_follows ?_ 7) hs
    exact hs.of_outputs rfl
  · exact hs

theorem execKSupplyLow_follows : (outState s (execKSupplyLow s)).SafetyOutputsFollowState :=
  ite_both _ _ _ _ (trip_follows (modSafe_follows hs _ rfl) 8) hs

theorem execPrechargeTimeout_follows : (outState s (execPrechargeTimeout s)).SafetyOutputsFollowState :=
  ite_both _ _ _ _ (trip_follows hs 9) hs

theorem execInrushTrip_follows : (outState s (execInrushTrip s)).SafetyOutputsFollowState := by
  refine ite_both _ _ _ _ (trip_follows ?_ 10) hs
  exact hs.of_outputs rfl

theorem execAonPowerLoss_follows : (outState s (execAonPowerLoss s)).SafetyOutputsFollowState := by
  unfold execAonPowerLoss
  rw [out_next]
  refine ite_both _ _ _ _ hs ?_
  extract_lets t
  have ht : t.SafetyOutputsFollowState := (safetyOff_follows _).of_hide (State.gatePans_hide safetyMask rfl _ true)
  exact ht.of_outputs rfl

theorem execEntryStepComplete_follows : (outState s (execEntryStepComplete s)).SafetyOutputsFollowState := by
  unfold execEntryStepComplete
  rw [out_next]
  refine ite_both _ _ _ _ hs ?_
  split
  · exact hs
  · exact ite_both _ _ _ _ (doStep_follows hs) hs

theorem execEntryForced_follows : (outState s (execEntryForced s)).SafetyOutputsFollowState := by
  unfold execEntryForced
  rw [out_next]
  refine ite_both _ _ _ _ hs ?_
  extract_lets t _ _ u v
  have ht : t.SafetyOutputsFollowState := hs.of_hide (State.absorb_hide safetyMask rfl s 16 2 0xFF 0 [])
  have hu : u.SafetyOutputsFollowState := ite_both _ _ _ _ ht (ht.of_outputs rfl)
  have hv : v.SafetyOutputsFollowState := foldl_keeps_pred (Q := State.SafetyOutputsFollowState)
    (fun _ _ hx => ite_both _ _ _ _ (doStep_follows hx) hx) (List.range 6) hu
  exact ite_both _ _ _ _ (hv.of_hide (State.settleEntry_hide safetyMask rfl v)) hv

theorem execColdStart_follows (straps : Nat) (bridgeOnly : Bool) :
    (outState s (execColdStart straps bridgeOnly s)).SafetyOutputsFollowState := by
  have h : (s.coldBase straps).SafetyOutputsFollowState := by
    have hn := nonVolatile_follows s
    unfold State.coldBase
    generalize s.nonVolatile = x at hn ⊢
    have h0 : ({ x with ring.straps := straps, power.aonPower := true, power.off := true } : State).SafetyOutputsFollowState := hn
    exact (h0.of_hide (State.startBist_hide safetyMask rfl _)).of_hide (State.initCells_hide safetyMask rfl _ true true)
  unfold execColdStart
  generalize s.coldBase straps = x at h ⊢
  split
  · exact ite_both _ _ _ _ (h.of_outputs rfl) (h.of_hide (State.coldReturn_hide safetyMask rfl x))
  · exact hs

theorem execSafetyReset_follows (h : Hdr) (p : List Byte) : (outState s (execSafetyReset h p s)).SafetyOutputsFollowState := by
  obtain e | e := runCmd_cases 0xB1 opSafetyReset h p s
  · exact hs.of_hide e
  · exact (opSafetyReset_follows hs h p).of_hide e

theorem exec_follows {c : Instr} (hb : ∀ n, c ≠ .frameBoundary n) : (outState s (exec c s)).SafetyOutputsFollowState := by
  by_cases hc : c.movesSafety = false
  · obtain ⟨-, -, -, -, -, h42, h43, h44, -⟩ := frameMask_fields c
    exact hs.of_hide (exec_hide_of_sub (sub_self _) s) (h42.trans hc) (h43.trans hc) (h44.trans hc)
  · cases c
    case safetySample i => exact execSafetySample_follows hs i
    case safetyDiscrepancy door => exact execSafetyDiscrepancy_follows hs door
    case testOutputDrop t2 low => exact execTestOutputDrop_follows hs t2 low
    case outputTestDrop out ok => exact execOutputTestDrop_follows hs out ok
    case safetySelfTest a b d => exact execSafetySelfTest_follows hs a b d
    case armingReady => exact execArmingReady_follows hs
    case prechargeTimeout => exact execPrechargeTimeout_follows hs
    case inrushTrip => exact execInrushTrip_follows hs
    case kSupplyLow => exact execKSupplyLow_follows hs
    case outputOvercurrent out => exact execOutputOvercurrent_follows hs out
    case aonPowerLoss => exact execAonPowerLoss_follows hs
    case entryStepComplete => exact execEntryStepComplete_follows hs
    case entryForced => exact execEntryForced_follows hs
    case coldStart straps bridgeOnly => exact execColdStart_follows hs straps bridgeOnly
    case safetyReset h p => exact execSafetyReset_follows hs h p
    case frameBoundary n => exact absurd rfl (hb n)
    all_goals exact absurd rfl hc

end

theorem boundaryKeeps_follows : BoundaryKeeps State.SafetyOutputsFollowState where
  frame := fun hs h => hs.of_hide h
  power := fun t ht => ht.of_hide (State.powerBoundary_hide safetyMask rfl t)
  contactor := fun t ht => ht.of_hide (State.contactorMode_hide safetyMask rfl t)
  converter := fun t ht => ht.of_hide (State.convBoundary_hide safetyMask rfl t)
  reprov := fun t ht => ht.of_hide (State.reprovSteps_hide safetyMask rfl t)
  latched := fun t d ht => ht.of_hide (State.runLatchDue_hide safetyMask rfl t d)
  packet := fun _ e ht => runPacket_keeps (Q := State.SafetyOutputsFollowState) (fun _ _ hc hu => exec_follows hu hc)
    (fun h p u hu => hu.of_hide (runCmd_hide safetyMask rfl 0xF0 opReset h p u fun h p x =>
      opReset_hide safetyMask rfl h p x)) e ht
  commit := fun _ ht => applyCommit_follows ht
  outputs := fun t ht => ht.of_hide (State.applyOutputs_hide safetyMask rfl t)
  restart := fun t ht => ht.of_hide (State.resetTail_hide safetyMask rfl t)

/-- Settles O7: each operation that moves the safety state sets both outputs with it. -/
theorem safetyOutputsFollowState : Obligations.SafetyOutputsFollowState := fun _ _ h =>
  step_keeps_of_boundary (Q := State.SafetyOutputsFollowState) (fun _ _ hs => hs) (fun _ _ hb hs => exec_follows hs hb)
    boundaryKeeps_follows h

end Sys2Proof.Machine
end


section
/-!
PROOFS. The gates run in no OFF converter (11_string_converter.md R253, Table 11.3).
-/

-- One proof after the other: the threads of proofs that are elaborated at once take too much memory together.
set_option Elab.async false

namespace Sys2Proof.Machine

/-- All of the state but the converter's state and its gates. -/
def gatesMask : Nat := 2 ^ 50 - 1 - 2 ^ 41 - 2 ^ 47

namespace State.GatesOnlyWhileRunning

theorem of_hide {m : Nat} {s t : State} (hs : s.GatesOnlyWhileRunning) (h : t.hide m = s.hide m)
    (h41 : m.testBit 41 = false := by rfl) (h47 : m.testBit 47 = false := by rfl) : t.GatesOnlyWhileRunning := by
  rw [State.GatesOnlyWhileRunning, gates_of_hide h h47, convSt_of_hide h h41]
  exact hs

theorem of_fields {s t : State} (hs : s.GatesOnlyWhileRunning) (hg : t.conv.gatesOn = s.conv.gatesOn)
    (hst : t.conv.st = s.conv.st) : t.GatesOnlyWhileRunning := by
  rw [State.GatesOnlyWhileRunning, hg, hst]
  exact hs

theorem of_gates_off {s : State} (h : s.conv.gatesOn = false) : s.GatesOnlyWhileRunning := fun e => by
  rw [h] at e
  cases e

theorem of_running {s : State} (h : s.conv.st ≠ .off) : s.GatesOnlyWhileRunning := fun _ => h

end State.GatesOnlyWhileRunning

open State.GatesOnlyWhileRunning

/-! ### Stops, hiccups and drains -/

theorem gatesOff_gatesOn (s : State) : s.gatesOff.conv.gatesOn = false := rfl

theorem convOff_gates (s : State) : s.convOff.GatesOnlyWhileRunning := of_gates_off rfl

theorem convStopWith_gates {s : State} (hs : s.GatesOnlyWhileRunning) (cause : Nat) (latch rec : Bool) (phase : Nat)
    (bus : Option Rat) : (s.convStopWith cause latch rec phase bus).GatesOnlyWhileRunning := by
  unfold State.convStopWith
  refine ite_both _ _ _ _ (ite_both _ _ _ _ (of_gates_off rfl) hs) ?_
  exact of_gates_off rfl

theorem convStop_gates {s : State} (hs : s.GatesOnlyWhileRunning) (cause : Nat) : (s.convStop cause).GatesOnlyWhileRunning :=
  convStopWith_gates hs _ _ _ _ _

theorem hiccup_gates {s : State} (hs : s.GatesOnlyWhileRunning) (phase : Nat) : (s.hiccup phase).GatesOnlyWhileRunning := by
  unfold State.hiccup
  refine ite_both _ _ _ _ (of_gates_off rfl) (ite_both _ _ _ _ (convStopWith_gates hs _ _ _ _ _) ?_)
  exact of_gates_off rfl

/-- A drain leaves a running converter DRAINING and another as it is. -/
theorem beginDrain_gates {s : State} (hs : s.GatesOnlyWhileRunning) (cause : Nat) (ref : Option DeferRef) :
    (s.beginDrain cause ref).GatesOnlyWhileRunning := by
  unfold State.beginDrain
  refine ite_both _ _ _ _ hs ?_
  extract_lets off t _ u back
  have hu : u.GatesOnlyWhileRunning := of_running nofun
  exact ite_both _ _ _ _ hu (hu.of_hide (State.addPhases_hide gatesMask rfl u back))

theorem checkOwner_gates {s : State} (hs : s.GatesOnlyWhileRunning) : s.checkOwner.GatesOnlyWhileRunning := by
  unfold State.checkOwner
  extract_lets own t
  have ht : t.GatesOnlyWhileRunning :=
    ite_both _ _ _ _ (beginDrain_gates (hs.of_hide (State.convCapture_hide gatesMask rfl s 17 4 0 none)) 4 none) hs
  exact ht

theorem trip_gates {s : State} (hs : s.GatesOnlyWhileRunning) (cause : Nat) : (s.trip cause).GatesOnlyWhileRunning := by
  unfold State.trip
  split
  · exact hs
  · exact hs
  · exact State.GatesOnlyWhileRunning.of_hide (convStop_gates (by exact hs) 14) (State.notifySafety_hide gatesMask rfl _)

theorem disarmSafety_gates {s : State} (hs : s.GatesOnlyWhileRunning) : s.disarmSafety.GatesOnlyWhileRunning :=
  State.GatesOnlyWhileRunning.of_hide (convStop_gates (by exact hs) 14) (State.notifySafety_hide gatesMask rfl _)

theorem safetySample_gates {s : State} (hs : s.GatesOnlyWhileRunning) (i : SafeSample) :
    (s.safetySample i).GatesOnlyWhileRunning := by
  unfold State.safetySample
  extract_lets old x causes y t u v
  have ht : t.GatesOnlyWhileRunning := hs
  have hu : u.GatesOnlyWhileRunning :=
    foldl_keeps_pred (Q := State.GatesOnlyWhileRunning) (f := State.trip) (fun _ c hw => trip_gates hw c) causes ht
  have hv : v.GatesOnlyWhileRunning := ite_both _ _ _ _ (disarmSafety_gates hu) hu
  exact (hv.of_hide (State.twoHand_hide gatesMask rfl v _ _)).of_hide (State.followRequest_hide gatesMask rfl _)

/-! ### The control samples and outputs -/

theorem startSafe_gates {s : State} (hs : s.GatesOnlyWhileRunning) (cause : Nat) (latch : Bool) :
    (s.startSafe cause latch).GatesOnlyWhileRunning := by
  unfold State.startSafe
  refine ite_both _ _ _ _ (convStopWith_gates hs _ _ _ _ _) ?_
  exact State.GatesOnlyWhileRunning.of_hide (by exact hs) (State.safeStep_hide gatesMask rfl _)

theorem declare_gates {s : State} (hs : s.GatesOnlyWhileRunning) : s.declare.GatesOnlyWhileRunning := by
  unfold State.declare
  extract_lets latch t
  have ht : t.GatesOnlyWhileRunning := hs.of_hide (State.convCapture_hide gatesMask rfl s 12 2 0 none)
  exact startSafe_gates (by exact ht) 12 latch

theorem faultPhase_gates {s : State} (hs : s.GatesOnlyWhileRunning) (j cause : Nat) : (s.faultPhase j cause).GatesOnlyWhileRunning := by
  unfold State.faultPhase
  extract_lets was t u _ v w
  have ht : t.GatesOnlyWhileRunning := (hs.of_hide (State.convCapture_hide gatesMask rfl s cause 0 j none)).of_hide
    (State.absorb_hide gatesMask rfl _ 11 (cause - 8) j 0 [])
  have hv : v.GatesOnlyWhileRunning := ht
  have hw : w.GatesOnlyWhileRunning := ite_both _ _ _ _ (hv.of_hide (State.respread_hide gatesMask rfl v)) hv
  exact ite_both _ _ _ _ (convStop_gates hw 11) hw

theorem checkShare_gates {s : State} (hs : s.GatesOnlyWhileRunning) : s.checkShare.GatesOnlyWhileRunning := by
  unfold State.checkShare
  extract_lets lim loaded
  refine foldl_keeps_pred (fun t j ht => ?_) _ hs
  extract_lets at' u
  have hu : u.GatesOnlyWhileRunning := ht
  exact ite_both _ _ _ _ (faultPhase_gates hu j 10) hu

theorem checkSense_gates {s : State} (hs : s.GatesOnlyWhileRunning) : s.checkSense.GatesOnlyWhileRunning := by
  unfold State.checkSense
  extract_lets zero _ t
  have ht : t.GatesOnlyWhileRunning := hs
  refine foldl_keeps_pred (fun u j hu => ?_) _ ht
  exact ite_both _ _ _ _ (faultPhase_gates hu j 9) hu

theorem checkBusRange_gates {s : State} (hs : s.GatesOnlyWhileRunning) : s.checkBusRange.GatesOnlyWhileRunning := by
  unfold State.checkBusRange
  split
  extract_lets bad _ t
  have ht : t.GatesOnlyWhileRunning := hs
  exact ite_both _ _ _ _ (convStop_gates ht 6) ht

theorem managePhases_gates {s : State} (hs : s.GatesOnlyWhileRunning) : s.managePhases.GatesOnlyWhileRunning := by
  have h := checkSense_gates hs
  unfold State.managePhases
  generalize s.checkSense = t at h ⊢
  extract_lets _ _ _ _ u sharing v w x y
  have hu : u.GatesOnlyWhileRunning := h
  have hv : v.GatesOnlyWhileRunning := ite_both _ _ _ _ (hu.of_hide (State.shareTrims_hide gatesMask rfl u)) hu
  have hw : w.GatesOnlyWhileRunning := ite_both _ _ _ _ (checkShare_gates hv) hv
  have hx : x.GatesOnlyWhileRunning := ite_both _ _ _ _ (hw.of_hide (State.decideShed_hide gatesMask rfl w)) hw
  have hy : y.GatesOnlyWhileRunning := (checkBusRange_gates hx).of_hide (State.checkDrain_hide gatesMask rfl _)
  exact hy.of_fields rfl rfl

theorem controlSample_gates {s : State} (hs : s.GatesOnlyWhileRunning) (sub : Nat) (phaseUv : List Nat) (busUv : Nat)
    (gdLow lineLow : Bool) : (s.controlSample sub phaseUv busUv gdLow lineLow).GatesOnlyWhileRunning := by
  have h := ((hs.of_hide (State.takeReadings_hide gatesMask rfl s sub phaseUv busUv gdLow lineLow)).of_hide
    (State.lawInputs_hide gatesMask rfl _)).of_hide (State.excStep_hide gatesMask rfl _)
  unfold State.controlSample
  generalize (s.takeReadings sub phaseUv busUv gdLow lineLow).lawInputs.excStep = t at h ⊢
  extract_lets _ _ _ _ _ u _ _ v _ _ w x
  have hu : u.GatesOnlyWhileRunning := h
  refine ite_both _ _ _ _ hu ?_
  have hv : v.GatesOnlyWhileRunning := ite_both _ _ _ _ (ite_both _ _ _ _ (hu.of_hide (State.safeStep_hide gatesMask rfl u))
    (hu.of_hide (State.supervise_hide gatesMask rfl u))) hu
  have hw : w.GatesOnlyWhileRunning := ite_both _ _ _ _ (ite_both _ _ _ _ hv (hv.of_hide (State.runLaw_hide gatesMask rfl v))) hv
  have hx : x.GatesOnlyWhileRunning := ite_both _ _ _ _ (managePhases_gates hw) hw
  exact hx.of_fields rfl rfl

theorem beginSoftStart_conv_st (s : State) : s.beginSoftStart.conv.st = s.conv.st := by
  show s.startPhases.conv.st = s.conv.st
  exact convSt_of_hide (State.startPhases_hide gatesMask rfl s) rfl

/-- The gates go on only in a soft-start, which STARTING alone carries out. -/
theorem startOutput_gates {s : State} (hs : s.GatesOnlyWhileRunning) : s.startOutput.GatesOnlyWhileRunning := by
  unfold State.startOutput
  split
  · exact hs
  · split
    · rename_i h
      refine ite_both _ _ _ _ (of_running ?_) hs
      rw [beginSoftStart_conv_st, h.1]
      decide
    · exact ite_both _ _ _ _ hs hs

theorem lateSet_gates {s : State} (hs : s.GatesOnlyWhileRunning) (k : Nat) : (s.lateSet k).GatesOnlyWhileRunning := by
  unfold State.lateSet
  split
  · exact (convStop_gates hs 13).of_hide (State.panFails_hide gatesMask rfl _ _ _)
  · exact hs

theorem lostAnchors_gates {s : State} (hs : s.GatesOnlyWhileRunning) : s.lostAnchors.GatesOnlyWhileRunning := by
  have h := hs.of_hide (State.convCapture_hide gatesMask rfl s 13 2 0 none)
  unfold State.lostAnchors
  generalize s.convCapture 13 2 0 none = t at h ⊢
  exact ite_both _ _ _ _ hs (ite_both _ _ _ _ (startSafe_gates h 13 true) (ite_both _ _ _ _ h hs))

theorem controlOutput_gates {s : State} (hs : s.GatesOnlyWhileRunning) (late34 late35 late36 : Bool) (sig34 sig35 sig36 : SigSet) :
    (s.controlOutput late34 late35 late36 sig34 sig35 sig36).GatesOnlyWhileRunning := by
  unfold State.controlOutput
  extract_lets _ _ t u v w c d e f g _ x _ y
  have ht : t.GatesOnlyWhileRunning := hs
  have hu : u.GatesOnlyWhileRunning := ite_both _ _ _ _ (lateSet_gates ht 34) ht
  have hv : v.GatesOnlyWhileRunning := ite_both _ _ _ _ (lateSet_gates hu 35) hu
  have hw : w.GatesOnlyWhileRunning := ite_both _ _ _ _ (lateSet_gates hv 36) hv
  have hd : d.GatesOnlyWhileRunning :=
    (hw.of_hide (State.checkpoint_hide gatesMask rfl w _)).of_hide (State.countSets_hide gatesMask rfl c)
  have he : e.GatesOnlyWhileRunning := lostAnchors_gates hd
  have hf : f.GatesOnlyWhileRunning := ite_both _ _ _ _ (he.of_hide (State.takePhaseSet_hide gatesMask rfl e)) he
  have hg : g.GatesOnlyWhileRunning := startOutput_gates (hf.of_hide (State.takeLawSet_hide gatesMask rfl f))
  have hx : x.GatesOnlyWhileRunning := by
    refine ite_both _ _ _ _ hd (State.GatesOnlyWhileRunning.of_hide ?_ (State.eisLimited_hide gatesMask rfl _))
    exact hg.of_fields rfl rfl
  have hy : y.GatesOnlyWhileRunning := hx.of_fields rfl rfl
  exact ((hy.of_hide (State.compareAnchor_hide gatesMask rfl y 34 sig34)).of_hide
    (State.compareAnchor_hide gatesMask rfl _ 35 sig35)).of_hide (State.compareAnchor_hide gatesMask rfl _ 36 sig36)

/-! ### Mode changes, restarts, power entries -/

theorem toService_gates {s : State} (hs : s.GatesOnlyWhileRunning) (r : DeferRef) : (s.toService r).2.GatesOnlyWhileRunning := by
  unfold State.toService
  split
  · exact State.GatesOnlyWhileRunning.of_hide (by exact hs) (State.requestContactors_hide gatesMask rfl _ false)
  · exact (beginDrain_gates (by exact hs) 2 (some r)).of_hide (State.deferMode_hide gatesMask rfl _ .service r)

theorem applyMode_gates {s : State} (hs : s.GatesOnlyWhileRunning) (m : Mode) (r : DeferRef) :
    (s.applyMode m r).2.GatesOnlyWhileRunning := by
  unfold State.applyMode
  split
  · extract_lets t
    have ht : t.GatesOnlyWhileRunning :=
      (hs.of_hide (State.drainPasses_hide gatesMask rfl s m r)).of_hide (State.supersedeMode_hide gatesMask rfl _)
    split
    · exact ht.of_hide (State.deferMode_hide gatesMask rfl t m r)
    · cases m
      case service => exact ht.of_hide (State.requestContactors_hide gatesMask rfl t false)
      all_goals exact ht
  · cases m
    case service => exact toService_gates hs r
    case active => exact hs
    case standby =>
      dsimp only
      split
      · exact hs.of_hide (State.toStandby_hide gatesMask rfl s r)
      · exact beginDrain_gates (by exact hs) 2 _

theorem opMode_gates {s : State} (hs : s.GatesOnlyWhileRunning) (h : Hdr) (p : List Byte) : (opMode h p s).s.GatesOnlyWhileRunning := by
  unfold opMode
  split
  · exact hs
  · extract_lets old
    simp only [ans_ite, fail_s, refuse_s, okAns_s]
    refine ite_both _ _ _ _ hs (ite_both _ _ _ _ hs (ite_both _ _ _ _ hs ?_))
    exact (applyMode_gates hs _ _).of_hide (State.journal_hide gatesMask rfl ..)

theorem beginStart_gates (s : State) : s.beginStart.GatesOnlyWhileRunning := of_running nofun

theorem opConvEnable_gates {s : State} (hs : s.GatesOnlyWhileRunning) (h : Hdr) (p : List Byte) :
    (opConvEnable h p s).s.GatesOnlyWhileRunning := by
  unfold opConvEnable
  simp only [ans_ite, fail_s, refuse_s, okAns_s]
  refine ite_both _ _ _ _ hs (ite_both _ _ _ _ (ite_both _ _ _ _ hs hs) (ite_both _ _ _ _ hs (ite_both _ _ _ _ hs
    (ite_both _ _ _ _ hs ?_))))
  exact (beginStart_gates s).of_hide (State.journalConv_hide gatesMask rfl ..)

theorem opConvDisable_gates {s : State} (hs : s.GatesOnlyWhileRunning) (h : Hdr) (p : List Byte) :
    (opConvDisable h p s).s.GatesOnlyWhileRunning := by
  have hj (t : State) (ht : t.GatesOnlyWhileRunning) (st : FnState) : (t.journalConv h 0x31 st).GatesOnlyWhileRunning :=
    ht.of_hide (State.journalConv_hide gatesMask rfl ..)
  unfold opConvDisable
  simp only [ans_ite, refuse_s, okAns_s]
  refine ite_both _ _ _ _ hs (ite_both _ _ _ _ (ite_both _ _ _ _ hs (ite_both _ _ _ _ (hj _ (by exact hs) _) (ite_both _ _ _ _ (hj _ (by exact hs) _) hs)))
    (ite_both _ _ _ _ (ite_both _ _ _ _ (hj _ (by exact hs) _) hs) (hj _ (beginDrain_gates hs 1 _) _)))

theorem runLatched_gates {s : State} (hs : s.GatesOnlyWhileRunning) (l : LatchedCmd) (f : Hdr → List Byte → State → Ans)
    (hf : (f l.hdr l.payload s).s.GatesOnlyWhileRunning) : (s.runLatched l f).1.GatesOnlyWhileRunning := by
  unfold State.runLatched
  simp only [fst_ite]
  exact ite_both _ _ _ _ hs (ite_both _ _ _ _ hf (ite_both _ _ _ _ hs hs))

theorem runLatchDue_gates {s : State} (hs : s.GatesOnlyWhileRunning) (d : LatchDue) : (s.runLatchDue d).GatesOnlyWhileRunning := by
  have h (x : State × (Nat × Nat)) (hx : x.1.GatesOnlyWhileRunning) :
      (x.1.complete d.ref .ok x.2.1 x.2.2 d.cause d.detail).GatesOnlyWhileRunning :=
    hx.of_hide (State.complete_hide gatesMask rfl ..)
  unfold State.runLatchDue
  refine h _ ?_
  split
  · refine ite_both (fun x : State × (Nat × Nat) => x.1.GatesOnlyWhileRunning) _ _ _ ?_ hs
    exact runLatched_gates (by exact hs) _ _ (opConvEnable_gates (by exact hs) _ _)
  · refine ite_both (fun x : State × (Nat × Nat) => x.1.GatesOnlyWhileRunning) _ _ _ ?_ hs
    exact runLatched_gates (by exact hs) _ _ (State.GatesOnlyWhileRunning.of_hide (by exact hs) (opBalPlan_hide gatesMask rfl ..))
  · refine ite_both (fun x : State × (Nat × Nat) => x.1.GatesOnlyWhileRunning) _ _ _ ?_ hs
    exact runLatched_gates (by exact hs) _ _ (State.GatesOnlyWhileRunning.of_hide (by exact hs) (opEisStart_hide gatesMask rfl ..))

theorem convReachesOff_gates (s : State) : s.convReachesOff.GatesOnlyWhileRunning := by
  unfold State.convReachesOff
  extract_lets stop drained ref cause waits out _ _ t _ u v
  have ht : t.GatesOnlyWhileRunning := ite_both _ _ _ _
    (((convOff_gates s).of_hide (State.lawReset_hide gatesMask rfl _)).of_fields rfl rfl) (convOff_gates s)
  have hu : u.GatesOnlyWhileRunning := ht.of_fields rfl rfl
  have hv : v.GatesOnlyWhileRunning := ite_both _ _ _ _ (hu.of_hide (State.complete_hide gatesMask rfl ..)) hu
  exact hv.of_hide (State.serviceDone_hide gatesMask rfl ..)

theorem convBoundary_gates {s : State} (hs : s.GatesOnlyWhileRunning) : s.convBoundary.GatesOnlyWhileRunning := by
  unfold State.convBoundary
  extract_lets _ t _ u
  have ht : t.GatesOnlyWhileRunning := ite_both _ _ _ _ (convReachesOff_gates s)
    (State.GatesOnlyWhileRunning.of_hide (by exact hs) (State.serviceDone_hide gatesMask rfl _ none))
  have hu : u.GatesOnlyWhileRunning := ite_both _ _ _ _ (of_running nofun) (ite_both _ _ _ _ (of_running nofun) ht)
  exact ((checkOwner_gates hu).of_hide (State.configurePhases_hide gatesMask rfl _)).of_hide (State.releaseHwLatch_hide gatesMask rfl _)

theorem applyOutputs_gates {s : State} (hs : s.GatesOnlyWhileRunning) : s.applyOutputs.GatesOnlyWhileRunning := by
  unfold State.applyOutputs
  extract_lets t
  have ht : t.GatesOnlyWhileRunning := ite_both _ _ _ _ (beginDrain_gates hs 2 none) hs
  exact (ht.of_hide (State.driveContactors_hide gatesMask rfl t _)).of_fields rfl rfl

theorem loseLaneData_gates (s : State) : s.loseLaneData.GatesOnlyWhileRunning := by
  unfold State.loseLaneData
  refine State.GatesOnlyWhileRunning.of_hide ?_ (State.loseLanes_hide gatesMask rfl _)
  exact of_gates_off rfl

theorem loseVolatile_gates (s : State) : s.loseVolatile.GatesOnlyWhileRunning := by
  have h := ((loseLaneData_gates s).of_hide (State.losePanData_hide gatesMask rfl _)).of_hide (State.startBist_hide gatesMask rfl _)
  unfold State.loseVolatile
  generalize s.loseLaneData.losePanData.startBist = t at h ⊢
  exact State.GatesOnlyWhileRunning.of_hide (by exact h) (State.initCells_hide gatesMask rfl _ true true)

theorem restart_gates (s : State) : s.restart.GatesOnlyWhileRunning := by
  have h := ((loseVolatile_gates s).of_hide (State.requestContactors_hide gatesMask rfl _ false)).of_hide
    (State.driveContactors_hide gatesMask rfl _ false)
  unfold State.restart
  generalize (s.loseVolatile.requestContactors false).driveContactors false = t at h ⊢
  exact h

theorem lanesUp_gates {s : State} (hs : s.GatesOnlyWhileRunning) (sealsOk : Bool) : (s.lanesUp sealsOk).GatesOnlyWhileRunning := by
  have hc {x : State} (hx : x.GatesOnlyWhileRunning) (nvm : Bool) : (x.loadConfig.bootLanes nvm).GatesOnlyWhileRunning :=
    (hx.of_hide (State.loadConfig_hide gatesMask rfl x)).of_hide (State.bootLanes_hide gatesMask rfl _ nvm)
  have hp {x : State} (hx : x.GatesOnlyWhileRunning) : x.losePanData.GatesOnlyWhileRunning :=
    hx.of_hide (State.losePanData_hide gatesMask rfl x)
  have hl := hp (loseLaneData_gates s)
  unfold State.lanesUp
  generalize s.loseLaneData.losePanData = y at hl ⊢
  extract_lets restore _ _ t
  have hr {x : State} (hx : x.GatesOnlyWhileRunning) : (restore x).GatesOnlyWhileRunning :=
    foldl_keeps_pred (fun _ _ hu => hu.of_hide (State.restoreCell_hide gatesMask rfl ..)) _ hx
  refine ite_both _ _ _ _ (hr (hc (hp hs) false)) (ite_both _ _ _ _ (hr (hc (by exact hl) false)) ?_)
  have ht : t.GatesOnlyWhileRunning := ite_both _ _ _ _ hs (loseVolatile_gates s)
  exact (hc ht true).of_hide (State.initCells_hide gatesMask rfl _ true true)

theorem entryAction_gates {s : State} (hs : s.GatesOnlyWhileRunning) (k : Nat) : (s.entryAction k).GatesOnlyWhileRunning := by
  unfold State.entryAction
  extract_lets deep t _ _ _ _ u
  split
  · refine ite_both _ _ _ _ (State.GatesOnlyWhileRunning.of_hide ?_ (State.writeAll_hide gatesMask rfl _)) hs
    exact ite_both _ _ _ _ (hs.of_hide (State.threshJob_hide gatesMask rfl s)) hs
  · have ht : t.GatesOnlyWhileRunning := hs.of_hide (State.gatePans_hide gatesMask rfl s deep)
    refine ite_both _ _ _ _ ht (ite_both _ _ _ _ (convOff_gates t) ?_)
    exact of_gates_off rfl
  · exact ite_both _ _ _ _ (hs.of_hide (State.portsDown_hide gatesMask rfl s)) hs
  · exact ite_both _ _ _ _ (hs.of_hide (State.lanesDown_hide gatesMask rfl s _)) hs
  · have hu : u.GatesOnlyWhileRunning := hs
    exact ite_both _ _ _ _ hs (ite_both _ _ _ _ ((hu.of_hide (State.safetyOff_hide gatesMask rfl u)).of_fields rfl rfl) hu)
  · exact hs

theorem doStep_gates {s : State} (hs : s.GatesOnlyWhileRunning) : s.doStep.GatesOnlyWhileRunning := by
  unfold State.doStep
  split
  · exact hs
  · extract_lets _ _ t
    have ht : t.GatesOnlyWhileRunning := (entryAction_gates hs _).of_fields rfl rfl
    exact ite_both _ _ _ _ (ht.of_hide (State.settleEntry_hide gatesMask rfl t)) ht

theorem leaveProtOnly_gates {s : State} (hs : s.GatesOnlyWhileRunning) : s.leaveProtOnly.GatesOnlyWhileRunning := by
  have h := (hs.of_hide (State.freshLane_hide gatesMask rfl s)).of_hide (State.loadConfig_hide gatesMask rfl _)
  unfold State.leaveProtOnly
  generalize s.freshLane.loadConfig = y at h ⊢
  extract_lets n _ _ _ t u v
  have ht : t.GatesOnlyWhileRunning := h
  have hu : u.GatesOnlyWhileRunning := ite_both _ _ _ _ ht (convOff_gates t)
  have hv : v.GatesOnlyWhileRunning := ((hu.of_hide (State.withdrawCause_hide gatesMask rfl u 22)).of_hide
    (State.requestContactors_hide gatesMask rfl _ false)).of_hide (State.driveContactors_hide gatesMask rfl _ false)
  exact ite_both _ _ _ _ hv (hv.of_hide (State.absorb_hide gatesMask rfl ..))

theorem resetTail_gates (s : State) : s.resetTail.GatesOnlyWhileRunning := restart_gates _

/-! ### Commands -/

section
variable {s : State} (hs : s.GatesOnlyWhileRunning)
include hs

theorem modSafe_trip_gates (f : Safe → Safe) (cause : Nat) : ((s.modSafe f).trip cause).GatesOnlyWhileRunning :=
  trip_gates (by exact hs) cause

theorem execTestOutputDrop_gates (t2 : Bool) (low : BitVec 7) : (outState s (execTestOutputDrop t2 low s)).GatesOnlyWhileRunning := by
  unfold execTestOutputDrop
  rw [out_next]
  refine ite_both _ _ _ _ ?_ hs
  extract_lets old t new stuck cross u
  have ht : t.GatesOnlyWhileRunning := hs
  have hu : u.GatesOnlyWhileRunning := ite_both _ _ _ _ (trip_gates ht 4) ht
  exact ite_both _ _ _ _ (trip_gates hu 5) hu

theorem execOutputTestDrop_gates (out : Nat) (ok : Bool) : (outState s (execOutputTestDrop out ok s)).GatesOnlyWhileRunning := by
  unfold execOutputTestDrop
  split
  · refine ite_both _ _ _ _ (ite_both _ _ _ _ hs (trip_gates (by exact hs) 6)) hs
  · exact hs

theorem execSafetySelfTest_gates (ramOk progOk setOk : Bool) :
    (outState s (execSafetySelfTest ramOk progOk setOk s)).GatesOnlyWhileRunning := by
  unfold execSafetySelfTest
  rw [out_next]
  refine ite_both _ _ _ _ ?_ hs
  extract_lets wasSet wasInt t u
  have ht : t.GatesOnlyWhileRunning := hs
  have hu : u.GatesOnlyWhileRunning := ite_both _ _ _ _ (trip_gates ht 11) ht
  exact ite_both _ _ _ _ (trip_gates hu 12) hu

theorem execOutputOvercurrent_gates (out : Nat) : (outState s (execOutputOvercurrent out s)).GatesOnlyWhileRunning := by
  unfold execOutputOvercurrent
  split
  · exact ite_both _ _ _ _ (trip_gates (by exact hs) 7) hs
  · exact hs

theorem execControlSubperiod_gates (sub : Nat) (phaseUv : List Nat) (busUv : Nat) (gdLow lineLow : Bool) :
    (outState s (execControlSubperiod sub phaseUv busUv gdLow lineLow s)).GatesOnlyWhileRunning := by
  unfold execControlSubperiod
  split
  · exact ite_both _ _ _ _ (controlSample_gates hs sub phaseUv busUv gdLow lineLow) hs
  · exact hs

theorem execLoopFault_gates (slot : Nat) : (outState s (execLoopFault slot s)).GatesOnlyWhileRunning := by
  unfold execLoopFault
  split
  · exact ite_both _ _ _ _ (convStop_gates hs 13) hs
  · exact hs

theorem execHiccupTrigger_gates (phase : Nat) : (outState s (execHiccupTrigger phase s)).GatesOnlyWhileRunning := by
  unfold execHiccupTrigger
  split
  · refine ite_both _ _ _ _ ?_ hs
    exact hiccup_gates hs phase
  · exact hs

theorem execHiccupRetry_gates : (outState s (execHiccupRetry s)).GatesOnlyWhileRunning := by
  unfold execHiccupRetry
  rw [out_next]
  split
  · rename_i h
    refine of_running ?_
    change s.beginSoftStart.conv.st ≠ .off
    rw [beginSoftStart_conv_st]
    rcases h.2.2.1 with e | e <;> rw [e] <;> decide
  · exact hs

theorem execTakeoverComplete_gates : (outState s (execTakeoverComplete s)).GatesOnlyWhileRunning := by
  unfold execTakeoverComplete
  rw [out_next]
  split
  · exact hs
  · extract_lets t u v
    have ht : t.GatesOnlyWhileRunning := ite_both _ _ _ _ (leaveProtOnly_gates hs) hs
    have hv : v.GatesOnlyWhileRunning := ite_both _ _ _ _ (ht.of_fields rfl rfl) (ht.of_fields rfl rfl)
    exact hv.of_fields rfl rfl

theorem execProtOnlyReset_gates (port : Port) (bs : List Byte) : (outState s (execProtOnlyReset port bs s)).GatesOnlyWhileRunning := by
  unfold execProtOnlyReset
  split
  · exact hs
  · rw [out_next]
    split
    · exact ite_both _ _ _ _ (restart_gates s) hs
    · exact hs

theorem execAuxOkClear_gates : (outState s (execAuxOkClear s)).GatesOnlyWhileRunning := by
  unfold execAuxOkClear
  rw [out_next]
  refine ite_both _ _ _ _ hs ?_
  extract_lets _ t _ u leave _ v w
  have hu : u.GatesOnlyWhileRunning := ite_both _ _ _ _ hs hs
  split
  · have hw : w.GatesOnlyWhileRunning := ite_both _ _ _ _ (State.GatesOnlyWhileRunning.of_hide (hu.of_fields rfl rfl)
      (State.ownMode_hide gatesMask rfl v .standby)) (hu.of_fields rfl rfl)
    exact ite_both _ _ _ _ hu (beginDrain_gates hw 3 none)
  · exact hu.of_fields rfl rfl
  · exact hu

theorem execAonPowerLoss_gates : (outState s (execAonPowerLoss s)).GatesOnlyWhileRunning := by
  have h := ((((convOff_gates s).of_hide (State.portsDown_hide gatesMask rfl _)).of_hide (State.lanesDown_hide gatesMask rfl _ false)).of_hide
    (State.safetyOff_hide gatesMask rfl _)).of_hide (State.gatePans_hide gatesMask rfl _ true)
  unfold execAonPowerLoss
  generalize (s.convOff.portsDown.lanesDown false).safetyOff.gatePans true = t at h ⊢
  exact ite_both _ _ _ _ hs h

theorem execEntryStepComplete_gates : (outState s (execEntryStepComplete s)).GatesOnlyWhileRunning := by
  unfold execEntryStepComplete
  rw [out_next]
  refine ite_both _ _ _ _ hs ?_
  split
  · exact hs
  · exact ite_both _ _ _ _ (doStep_gates hs) hs

theorem execEntryForced_gates : (outState s (execEntryForced s)).GatesOnlyWhileRunning := by
  unfold execEntryForced
  rw [out_next]
  refine ite_both _ _ _ _ hs ?_
  extract_lets t _ _ u v
  have ht : t.GatesOnlyWhileRunning := hs.of_hide (State.absorb_hide gatesMask rfl s 16 2 0xFF 0 [])
  have hu : u.GatesOnlyWhileRunning := ite_both _ _ _ _ ht (ht.of_fields rfl rfl)
  have hv : v.GatesOnlyWhileRunning := foldl_keeps_pred (Q := State.GatesOnlyWhileRunning)
    (fun _ _ hx => ite_both _ _ _ _ (doStep_gates hx) hx) (List.range 6) hu
  exact ite_both _ _ _ _ (hv.of_hide (State.settleEntry_hide gatesMask rfl v)) hv

theorem execReturnStageReady_gates (sealsOk : Bool) : (outState s (execReturnStageReady sealsOk s)).GatesOnlyWhileRunning := by
  unfold execReturnStageReady
  rw [out_next]
  refine ite_both _ _ _ _ hs ?_
  split
  · exact hs
  · exact (lanesUp_gates hs sealsOk).of_hide (State.toStage_hide gatesMask rfl _ 6)
  · exact (hs.of_hide (State.portsUp_hide gatesMask rfl s)).of_hide (State.toStage_hide gatesMask rfl _ 7)
  · exact (hs.of_hide (State.pansUp_hide gatesMask rfl s)).of_hide (State.toStage_hide gatesMask rfl _ 8)
  · exact hs.of_hide (State.settleReturn_hide gatesMask rfl s)
  · exact hs.of_hide (State.toStage_hide gatesMask rfl s _)

theorem execColdStart_gates (straps : Nat) (bridgeOnly : Bool) :
    (outState s (execColdStart straps bridgeOnly s)).GatesOnlyWhileRunning := by
  have h : (s.coldBase straps).GatesOnlyWhileRunning := by
    have hn : s.nonVolatile.GatesOnlyWhileRunning := of_gates_off rfl
    unfold State.coldBase
    generalize s.nonVolatile = x at hn ⊢
    exact (State.GatesOnlyWhileRunning.of_hide (by exact hn) (State.startBist_hide gatesMask rfl _)).of_hide
      (State.initCells_hide gatesMask rfl _ true true)
  unfold execColdStart
  generalize s.coldBase straps = x at h ⊢
  split
  · exact ite_both _ _ _ _ h (h.of_hide (State.coldReturn_hide gatesMask rfl x))
  · exact hs

theorem runCmd_gates (op : Byte) (f : Hdr → List Byte → State → Ans) (h : Hdr) (p : List Byte)
    (hf : (f h p s).s.GatesOnlyWhileRunning) : (runCmd op f h p s).GatesOnlyWhileRunning := by
  obtain e | e := runCmd_cases op f h p s
  · exact hs.of_hide e
  · exact hf.of_hide e

theorem runCmd_reset_gates (h : Hdr) (p : List Byte) : (runCmd 0xF0 opReset h p s).GatesOnlyWhileRunning :=
  runCmd_gates hs 0xF0 opReset h p (hs.of_hide (opReset_hide gatesMask rfl h p s))

theorem execReset_gates (h : Hdr) (p : List Byte) : (outState s (execReset h p s)).GatesOnlyWhileRunning :=
  ite_both _ _ _ _ (resetTail_gates _) (runCmd_reset_gates hs h p)

theorem exec_gates {c : Instr} (hb : ∀ n, c ≠ .frameBoundary n) : (outState s (exec c s)).GatesOnlyWhileRunning := by
  by_cases hc : movesGates c = false ∧ c.movesConverter = false
  · obtain ⟨-, -, -, -, h41, -, -, -, h47, -⟩ := frameMask_fields c
    exact hs.of_hide (exec_hide_of_sub (sub_self _) s) (h41.trans hc.2) (h47.trans hc.1)
  · cases c
    case controlSubperiod sub p b g l => exact execControlSubperiod_gates hs sub p b g l
    case controlOutput a b d e f g => exact ite_both _ _ _ _ (controlOutput_gates hs a b d e f g) hs
    case loopFault slot => exact execLoopFault_gates hs slot
    case loopImplausible => exact ite_both _ _ _ _ (declare_gates hs) hs
    case safeLawGatesOff => exact ite_both _ _ _ _ (convStopWith_gates hs _ _ _ _ _) hs
    case overcurrentTrip charge =>
      exact ite_both _ _ _ _ (convStop_gates (State.GatesOnlyWhileRunning.of_hide (by exact hs) (State.setCause_hide gatesMask rfl _ 29 7)) 1) hs
    case fastChannelLost =>
      exact ite_both _ _ _ _ (convStop_gates (State.GatesOnlyWhileRunning.of_hide (by exact hs) (State.setCause_hide gatesMask rfl _ 28 7)) 2) hs
    case faultLineLow => exact convStop_gates (by exact hs) 3
    case startTimeout => exact ite_both _ _ _ _ (convStop_gates (by exact hs) 16) hs
    case drainComplete => exact ite_both _ _ _ _ (of_gates_off rfl) hs
    case drainTimeout => exact ite_both _ _ _ _ (convStop_gates hs 15) hs
    case gateDriverFault => exact ite_both _ _ _ _ (convStop_gates (by exact hs) 4) hs
    case busOv busUv => exact ite_both _ _ _ _ (convStopWith_gates hs _ _ _ _ _) hs
    case hiccupTrigger phase => exact execHiccupTrigger_gates hs phase
    case hiccupRetry => exact execHiccupRetry_gates hs
    case takeoverComplete => exact execTakeoverComplete_gates hs
    case fallbackGatesOff => exact ite_both _ _ _ _ (of_gates_off rfl) hs
    case protOnlyReset port bs => exact execProtOnlyReset_gates hs port bs
    case safetySample i => exact ite_both _ _ _ _ (safetySample_gates hs i) hs
    case safetyDiscrepancy door => exact ite_both _ _ _ _ hs (modSafe_trip_gates hs _ 3)
    case testOutputDrop t2 low => exact execTestOutputDrop_gates hs t2 low
    case outputTestDrop out ok => exact execOutputTestDrop_gates hs out ok
    case safetySelfTest a b d => exact execSafetySelfTest_gates hs a b d
    case prechargeTimeout => exact ite_both _ _ _ _ (trip_gates hs 9) hs
    case inrushTrip => exact ite_both _ _ _ _ (trip_gates (by exact hs) 10) hs
    case kSupplyLow => exact ite_both _ _ _ _ (modSafe_trip_gates hs _ 8) hs
    case outputOvercurrent out => exact execOutputOvercurrent_gates hs out
    case auxOkClear => exact execAuxOkClear_gates hs
    case aonPowerLoss => exact execAonPowerLoss_gates hs
    case entryStepComplete => exact execEntryStepComplete_gates hs
    case entryForced => exact execEntryForced_gates hs
    case returnStageReady sealsOk => exact execReturnStageReady_gates hs sealsOk
    case coldStart straps bridgeOnly => exact execColdStart_gates hs straps bridgeOnly
    case mode h p => exact runCmd_gates hs 0x22 opMode h p (opMode_gates hs h p)
    case convEnable h p => exact runCmd_gates hs 0x30 opConvEnable h p (opConvEnable_gates hs h p)
    case convDisable h p => exact runCmd_gates hs 0x31 opConvDisable h p (opConvDisable_gates hs h p)
    case reset h p => exact execReset_gates hs h p
    case frameBoundary n => exact absurd rfl (hb n)
    all_goals exact absurd ⟨rfl, rfl⟩ hc

end

theorem boundaryKeeps_gates : BoundaryKeeps State.GatesOnlyWhileRunning where
  frame := fun hs h => hs.of_hide h
  power := fun t ht => ht.of_hide (State.powerBoundary_hide gatesMask rfl t)
  contactor := fun t ht => ht.of_hide (State.contactorMode_hide gatesMask rfl t)
  converter := fun _ ht => convBoundary_gates ht
  reprov := fun t ht => ht.of_hide (State.reprovSteps_hide gatesMask rfl t)
  latched := fun _ d ht => runLatchDue_gates ht d
  packet := fun _ e ht => runPacket_keeps (Q := State.GatesOnlyWhileRunning) (fun _ _ hc hu => exec_gates hu hc)
    (fun h p _ hu => runCmd_reset_gates hu h p) e ht
  commit := fun t ht => ht.of_hide (State.applyCommit_hide gatesMask rfl t)
  outputs := fun _ ht => applyOutputs_gates ht
  restart := fun t _ => resetTail_gates t

/-- Settles O8: a stop or OFF takes the gates off, and what turns them on runs in STARTING or ON alone. -/
theorem gatesOnlyWhileRunning : Obligations.GatesOnlyWhileRunning := fun _ _ h =>
  step_keeps_of_boundary (Q := State.GatesOnlyWhileRunning) (fun _ _ hs => hs) (fun _ _ hb hs => exec_gates hs hb)
    boundaryKeeps_gates h

end Sys2Proof.Machine
end


section
/-!
PROOFS. A lane is in charge exactly while it holds the valid token (14_lanes_and_failover.md R336, R337).
-/

-- One proof after the other: the threads of proofs that are elaborated at once take too much memory together.
set_option Elab.async false

namespace Sys2Proof.Machine

/-- The lane that holds the valid token. -/
def State.tokenLane (s : State) : Option Bool := if s.lanes.valid then some s.lanes.holder else none

/-- There are two lanes, and the lane of `c` alone is IN_CHARGE. -/
def State.Charge (s : State) (c : Option Bool) : Prop :=
  s.lane.length = 2 ∧ ∀ b, (s.laneAt b).st = .inCharge ↔ c = some b

/-- The lane in charge once lane `b` is not. -/
def without (c : Option Bool) (b : Bool) : Option Bool := if c = some b then none else c

theorem without_self (b : Bool) : without (some b) b = none := if_pos rfl

theorem without_of_ne {c : Option Bool} {b : Bool} (h : c ≠ some b) : without c b = c := if_neg h

theorem without_ne (c : Option Bool) (b : Bool) : without c b ≠ some b := by
  unfold without
  split
  · exact nofun
  · assumption

theorem without_eq_other (c : Option Bool) (b : Bool) : c = some (!b) ↔ without c b = some (!b) := by
  unfold without
  split
  · rename_i h
    simp [h]
  · rfl

/-- All of the state but the lanes and the token. -/
def chargeMask : Nat := 2 ^ 50 - 1 - 2 ^ 26 - 2 ^ 48 - 2 ^ 49

/-- All of the state but the token. -/
def tokenMask : Nat := 2 ^ 48 - 1

theorem oneLaneInCharge_iff (s : State) : s.OneLaneInCharge ↔ s.Charge s.tokenLane := by
  refine and_congr_right fun _ => forall_congr' fun b => iff_congr .rfl ?_
  unfold State.tokenLane
  cases s.lanes.valid <;> simp

theorem tokenLane_of_valid {s : State} (h : s.lanes.valid = true) : s.tokenLane = some s.lanes.holder := if_pos h

theorem tokenLane_of_free {s : State} (h : s.lanes.valid = false) : s.tokenLane = none := by
  unfold State.tokenLane
  rw [h]
  rfl

namespace State.Charge

variable {s t : State} {c : Option Bool}

theorem of_lane (hs : s.Charge c) (h : t.lane = s.lane) : t.Charge c := by
  unfold State.Charge State.laneAt
  rw [h]
  exact hs

theorem of_hide {m : Nat} (hs : s.Charge c) (h : t.hide m = s.hide m) (h26 : m.testBit 26 = false := by rfl) : t.Charge c :=
  hs.of_lane (same_of_hide (p := .lane) h h26)

theorem st_ne (hs : s.Charge c) {b : Bool} (h : c ≠ some b) : (s.laneAt b).st ≠ .inCharge := fun e => h ((hs.2 b).mp e)

/-- A lane that is written out of charge. -/
theorem modLane_out (hs : s.Charge c) {b : Bool} {f : Lane → Lane} (hf : (f (s.laneAt b)).st ≠ .inCharge) :
    (s.modLane b f).Charge (without c b) := by
  refine ⟨modLane_length s b f hs.1, fun d => ?_⟩
  by_cases hd : d = b
  · rw [hd, State.laneAt_modLane s b f hs.1]
    exact iff_of_false hf (without_ne c b)
  · rw [Bool.eq_not.mpr hd, State.laneAt_modLane_other, hs.2, without_eq_other]

/-- The state of the lane is as it was. -/
theorem modLane_same (hs : s.Charge c) (b : Bool) {f : Lane → Lane} (hf : (f (s.laneAt b)).st = (s.laneAt b).st) :
    (s.modLane b f).Charge c := by
  refine ⟨modLane_length s b f hs.1, fun d => ?_⟩
  by_cases hd : d = b
  · rw [hd, State.laneAt_modLane s b f hs.1, hf]
    exact hs.2 b
  · rw [Bool.eq_not.mpr hd, State.laneAt_modLane_other]
    exact hs.2 _

/-- A lane takes charge where none was. -/
theorem modLane_takes (hs : s.Charge none) {b : Bool} {f : Lane → Lane} (hf : (f (s.laneAt b)).st = .inCharge) :
    (s.modLane b f).Charge (some b) := by
  refine ⟨modLane_length s b f hs.1, fun d => ?_⟩
  by_cases hd : d = b
  · rw [hd, State.laneAt_modLane s b f hs.1]
    exact iff_of_true hf rfl
  · rw [Bool.eq_not.mpr hd, State.laneAt_modLane_other]
    exact iff_of_false (hs.st_ne nofun) (by simp)

/-- After an operation on both lanes that leaves none IN_CHARGE. -/
theorem of_map_idle {f : Lane → Lane} (hl : s.lane.length = 2) (h : t.lane = s.lane.map f) (hf : ∀ l, (f l).st ≠ .inCharge) :
    t.Charge none := by
  refine ⟨by rw [h, List.length_map, hl], fun b => iff_of_false ?_ nofun⟩
  have hb : bit b < s.lane.length := by cases b <;> simp [bit, hl]
  simp [State.laneAt, h, List.getD_eq_getElem?_getD, List.getElem?_eq_getElem hb, hf]

/-- After an operation on both lanes that leaves their states. -/
theorem of_map_same {f : Lane → Lane} (hs : s.Charge c) (h : t.lane = s.lane.map f) (hf : ∀ l, (f l).st = l.st) : t.Charge c := by
  refine ⟨by rw [h, List.length_map, hs.1], fun b => ?_⟩
  have hb : bit b < s.lane.length := by cases b <;> simp [bit, hs.1]
  have e : (t.laneAt b).st = (s.laneAt b).st := by
    simp [State.laneAt, h, List.getD_eq_getElem?_getD, List.getElem?_eq_getElem hb, hf]
  rw [e]
  exact hs.2 b

end State.Charge

namespace State.OneLaneInCharge

variable {s t : State}

theorem of_charge {c : Option Bool} (hs : s.Charge c) (h : s.tokenLane = c) : s.OneLaneInCharge :=
  (oneLaneInCharge_iff s).mpr (h ▸ hs)

theorem charge (hs : s.OneLaneInCharge) : s.Charge s.tokenLane := (oneLaneInCharge_iff s).mp hs

theorem of_token (hl : t.Charge s.tokenLane) (hv : t.lanes.valid = s.lanes.valid)
    (hh : t.lanes.holder = s.lanes.holder) : t.OneLaneInCharge :=
  of_charge hl (by rw [State.tokenLane, hv, hh, State.tokenLane])

theorem of_hide {m : Nat} (hs : s.OneLaneInCharge) (h : t.hide m = s.hide m) (h26 : m.testBit 26 = false := by rfl)
    (h48 : m.testBit 48 = false := by rfl) (h49 : m.testBit 49 = false := by rfl) : t.OneLaneInCharge :=
  have ⟨hv, hh⟩ := token_of_hide h h48 h49
  of_token (hs.charge.of_hide h h26) hv hh

/-- No lane is in charge while the token is free. -/
theorem idle (hs : s.OneLaneInCharge) (h : s.lanes.valid = false) : s.Charge none := tokenLane_of_free h ▸ hs.charge

theorem inCharge (hs : s.OneLaneInCharge) (h : s.lanes.valid = true) : s.Charge (some s.lanes.holder) :=
  tokenLane_of_valid h ▸ hs.charge

theorem of_idle (hs : s.Charge none) (h : s.lanes.valid = false) : s.OneLaneInCharge := of_charge hs (tokenLane_of_free h)

end State.OneLaneInCharge

open State.OneLaneInCharge

/-! ### A lane fails -/

theorem retireLane_charge {s : State} {c : Option Bool} (hs : s.Charge c) (b : Bool) : (s.retireLane b).Charge (without c b) :=
  State.Charge.of_lane (hs.modLane_out (by exact nofun)) (retireLane_lane s b)

theorem rebootLane_charge {s : State} {c : Option Bool} (hs : s.Charge c) (b : Bool) : (s.rebootLane b).Charge (without c b) := by
  unfold State.rebootLane
  extract_lets again t _ u
  have ht : t.Charge (without c b) := hs.modLane_out nofun
  have hu : u.Charge (without c b) := State.Charge.of_hide (s := State.modLane _ _ _)
    (State.Charge.modLane_same (by exact ht.of_lane rfl) b rfl) (State.absorb_hide chargeMask rfl ..)
  split
  · have hr := retireLane_charge hu b
    rwa [without_of_ne (without_ne c b)] at hr
  · exact hu

theorem releaseToken_charge {s : State} {c : Option Bool} (hs : s.Charge c) : s.releaseToken.Charge c := hs.of_lane rfl

theorem retireLane_one {s : State} (hs : s.OneLaneInCharge) {b : Bool} (hb : s.tokenLane ≠ some b) : (s.retireLane b).OneLaneInCharge :=
  have ⟨hv, hh⟩ := token_of_hide (State.retireLane_hide tokenMask rfl s b) rfl rfl
  of_token (without_of_ne hb ▸ retireLane_charge hs.charge b) hv hh

theorem putOffSwap_one {s : State} (hs : s.OneLaneInCharge) : s.putOffSwap.OneLaneInCharge :=
  hs.of_hide (State.putOffSwap_hide chargeMask rfl s)

/-- The token of a lane that fails is free, and the lane is out of charge. -/
theorem laneFails_one {s : State} (hs : s.OneLaneInCharge) (b retire : Bool) : (s.laneFails b retire).OneLaneInCharge := by
  unfold State.laneFails
  extract_lets inCharge swap _ _ t u
  have ht : t.Charge s.tokenLane ∧ t.tokenLane = without s.tokenLane b := by
    unfold t inCharge
    split
    · rename_i h
      obtain ⟨hv, rfl⟩ : s.lanes.valid = true ∧ s.lanes.holder = b := by simpa using h
      have hl : s.releaseToken.putOffSwap.Charge s.tokenLane :=
        (releaseToken_charge hs.charge).of_hide (State.putOffSwap_hide chargeMask rfl s.releaseToken)
      refine ⟨by exact hl, ?_⟩
      rw [tokenLane_of_valid hv, without_self]
      exact tokenLane_of_free (token_of_hide (State.putOffSwap_hide chargeMask rfl s.releaseToken) rfl rfl).1
    · rename_i h
      refine ⟨hs.charge, (without_of_ne fun e => h ?_).symm⟩
      unfold State.tokenLane at e
      split at e <;> simp_all
  have hu : u.OneLaneInCharge := by
    unfold u
    split
    · obtain ⟨hv, hh⟩ := token_of_hide (State.retireLane_hide tokenMask rfl t b) rfl rfl
      exact of_charge (retireLane_charge ht.1 b) (by rw [State.tokenLane, hv, hh]; exact ht.2)
    · obtain ⟨hv, hh⟩ := token_of_hide (State.rebootLane_hide tokenMask rfl t b) rfl rfl
      exact of_charge (rebootLane_charge ht.1 b) (by rw [State.tokenLane, hv, hh]; exact ht.2)
  exact ite_both _ _ _ _ (hu.of_hide (State.endSwap_hide chargeMask rfl u 2)) hu

/-! ### Lanes come up and go down -/

theorem grant_one {s : State} (hs : s.Charge none) (b : Bool) : (s.grant b).OneLaneInCharge :=
  of_charge (c := some b) (State.Charge.of_lane (hs.modLane_takes (b := b) (f := fun l => { l with st := .inCharge, resync := false }) rfl) rfl)
    rfl

theorem bootLanes_one {s : State} (hl : s.lane.length = 2) (nvm : Bool) : (s.bootLanes nvm).OneLaneInCharge := by
  refine of_idle (State.Charge.of_map_idle hl rfl fun l => ?_) rfl
  split
  · split <;> exact nofun
  · exact nofun

theorem loseLanes_one {s : State} (hl : s.lane.length = 2) : s.loseLanes.OneLaneInCharge :=
  of_idle (State.Charge.of_map_idle hl rfl fun _ => nofun) rfl

theorem lanesDown_one {s : State} {c : Option Bool} (hs : s.Charge c) (keep : Bool) : (s.lanesDown keep).OneLaneInCharge := by
  unfold State.lanesDown
  extract_lets down _ t
  have hd (l : Lane) (m : Nat) : (down l m).st ≠ .inCharge := by
    show (if _ then LaneSt.retired else LaneSt.off) ≠ _
    split <;> exact nofun
  have ht : t.Charge none := by
    have h := (hs.modLane_out (b := false) (f := fun l => down l (s.pn P.retainA)) (hd _ _)).modLane_out (b := true)
      (f := fun l => down l (s.pn P.retainB)) (hd _ _)
    rcases c with - | - | - <;> exact h
  exact of_idle (ht.of_lane rfl) rfl

theorem loseLaneData_one {s : State} (hl : s.lane.length = 2) : s.loseLaneData.OneLaneInCharge := by
  unfold State.loseLaneData
  refine loseLanes_one ?_
  exact hl

theorem loseVolatile_one {s : State} (hl : s.lane.length = 2) : s.loseVolatile.OneLaneInCharge := by
  have h := ((loseLaneData_one hl).of_hide (State.losePanData_hide chargeMask rfl _)).of_hide (State.startBist_hide chargeMask rfl _)
  unfold State.loseVolatile
  generalize s.loseLaneData.losePanData.startBist = t at h ⊢
  exact State.OneLaneInCharge.of_hide (by exact h) (State.initCells_hide chargeMask rfl _ true true)

theorem restart_one {s : State} (hl : s.lane.length = 2) : s.restart.OneLaneInCharge := by
  have h := ((loseVolatile_one hl).of_hide (State.requestContactors_hide chargeMask rfl _ false)).of_hide
    (State.driveContactors_hide chargeMask rfl _ false)
  unfold State.restart
  generalize (s.loseVolatile.requestContactors false).driveContactors false = t at h ⊢
  exact h

theorem resetTail_one {s : State} (hs : s.OneLaneInCharge) : s.resetTail.OneLaneInCharge := by
  unfold State.resetTail
  extract_lets t u
  have ht : t.OneLaneInCharge := hs.of_hide (State.supersedeDeferred_hide chargeMask rfl s)
  have hu : u.OneLaneInCharge := ite_both _ _ _ _ ht (ht.of_hide (State.complete_hide chargeMask rfl ..))
  exact restart_one (hu.of_hide (State.writeAll_hide chargeMask rfl u)).1

theorem enterProtOnly_one {s : State} (hs : s.Charge none) (cause : Nat) (reduced : Bool) : (s.enterProtOnly cause reduced).OneLaneInCharge := by
  unfold State.enterProtOnly
  extract_lets _ _ _ _ t
  have ht : t.OneLaneInCharge := of_idle (State.Charge.of_lane (t := t) hs rfl) rfl
  exact (ht.of_hide (State.setCause_hide chargeMask rfl t 22 0)).of_hide (State.protNotice_hide chargeMask rfl _)

theorem coreFails_one {s : State} (hl : s.lane.length = 2) : s.coreFails.OneLaneInCharge := by
  unfold State.coreFails
  extract_lets _ _ _ t
  have ht : t.Charge none := by
    refine State.Charge.of_map_idle hl rfl fun l => ?_
    split
    · rename_i h
      rw [eq_of_beq h]
      exact nofun
    · exact nofun
  exact ite_both _ _ _ _ (of_idle (ht.of_lane rfl) rfl) (enterProtOnly_one ht 3 true)

theorem lanesUp_one {s : State} (hs : s.OneLaneInCharge) (sealsOk : Bool) : (s.lanesUp sealsOk).OneLaneInCharge := by
  have hc {x : State} (hx : x.OneLaneInCharge) (nvm : Bool) : (x.loadConfig.bootLanes nvm).OneLaneInCharge :=
    bootLanes_one (hx.of_hide (State.loadConfig_hide chargeMask rfl x)).1 nvm
  have hp {x : State} (hx : x.OneLaneInCharge) : x.losePanData.OneLaneInCharge := hx.of_hide (State.losePanData_hide chargeMask rfl x)
  have hl := hp (loseLaneData_one hs.1)
  unfold State.lanesUp
  generalize s.loseLaneData.losePanData = y at hl ⊢
  extract_lets restore _ _ t
  have hr {x : State} (hx : x.OneLaneInCharge) : (restore x).OneLaneInCharge :=
    foldl_keeps_pred (fun _ _ hu => hu.of_hide (State.restoreCell_hide chargeMask rfl ..)) _ hx
  refine ite_both _ _ _ _ (hr (hc (hp hs) false)) (ite_both _ _ _ _ (hr (hc (by exact hl) false)) ?_)
  have ht : t.OneLaneInCharge := ite_both _ _ _ _ hs (loseVolatile_one hs.1)
  exact (hc ht true).of_hide (State.initCells_hide chargeMask rfl _ true true)

theorem entryAction_one {s : State} (hs : s.OneLaneInCharge) (k : Nat) : (s.entryAction k).OneLaneInCharge := by
  by_cases hk : k = 5
  · subst hk
    exact ite_both _ _ _ _ (lanesDown_one hs.charge _) hs
  · unfold State.entryAction
    extract_lets deep t _ _ _ _ u
    split
    · refine ite_both _ _ _ _ (State.OneLaneInCharge.of_hide ?_ (State.writeAll_hide chargeMask rfl _)) hs
      exact ite_both _ _ _ _ (hs.of_hide (State.threshJob_hide chargeMask rfl s)) hs
    · have ht : t.OneLaneInCharge := hs.of_hide (State.gatePans_hide chargeMask rfl s deep)
      exact ite_both _ _ _ _ ht (ite_both _ _ _ _ (ht.of_hide (State.convOff_hide chargeMask rfl t)) ht)
    · exact ite_both _ _ _ _ (hs.of_hide (State.portsDown_hide chargeMask rfl s)) hs
    · exact absurd rfl hk
    · have hu : u.OneLaneInCharge := hs
      exact ite_both _ _ _ _ hs (ite_both _ _ _ _ (by exact hu.of_hide (State.safetyOff_hide chargeMask rfl u)) hu)
    · exact hs

theorem doStep_one {s : State} (hs : s.OneLaneInCharge) : s.doStep.OneLaneInCharge := by
  unfold State.doStep
  split
  · exact hs
  · rename_i k _
    have h := entryAction_one hs k
    generalize s.entryAction k = x at h ⊢
    exact ite_both _ _ _ _ (State.OneLaneInCharge.of_hide (by exact h) (State.settleEntry_hide chargeMask rfl _)) h

theorem leaveProtOnly_one {s : State} (hs : s.OneLaneInCharge) : s.leaveProtOnly.OneLaneInCharge :=
  hs.of_hide (State.leaveProtOnly_hide chargeMask rfl s)

theorem nonVolatile_one {s : State} (hl : s.lane.length = 2) : s.nonVolatile.OneLaneInCharge :=
  of_idle (State.Charge.of_map_idle hl rfl fun _ => nofun) rfl

theorem activateTable_one {s : State} (hs : s.OneLaneInCharge) : s.activateTable.OneLaneInCharge :=
  of_token (hs.charge.of_map_same rfl fun _ => rfl) rfl rfl

theorem opCommit_one {s : State} (hs : s.OneLaneInCharge) (h : Hdr) (p : List Byte) : (opCommit h p s).s.OneLaneInCharge := by
  have hc : ((s.ploza.staged.foldl (fun s v => s.commitOne h v) s).commitTable h).OneLaneInCharge := by
    have ht := foldl_keeps_pred (Q := State.OneLaneInCharge) (f := fun s v => State.commitOne s h v)
      (fun _ _ hu => hu.of_hide (State.commitOne_hide chargeMask rfl ..)) s.ploza.staged hs
    unfold State.commitTable
    exact ite_both _ _ _ _ ((activateTable_one ht).of_hide (State.journal_hide chargeMask rfl ..)) ht
  unfold opCommit
  split
  · exact hs
  · exact hs
  · extract_lets l table x _ _ t
    rw [ans_ite, fail_s, okAns_s]
    have hx : x.OneLaneInCharge := hc
    clear_value x
    have ht : t.OneLaneInCharge := hx
    exact ite_both _ _ _ _ hs (ite_both _ _ _ _ (ht.of_hide (State.writeImage_hide chargeMask rfl t)) (ite_both _ _ _ _ (by exact ht) ht))

/-! ### Commands -/

/-- The commands that touch the lanes' records are of `movesLanes`. -/
theorem touches_lane (c : Instr) : ((touches c).contains .lane && !movesLanes c) = false := by
  cases c <;> exact rfl

theorem testBit_frameMask_lane {c : Instr} (hc : movesLanes c = false) : (frameMask c).testBit 26 = false := by
  refine testBit_frameMask_of_not_mem (p := .lane) fun h => ?_
  have h' := touches_lane c
  rw [hc, List.contains_iff_mem.mpr h] at h'
  cases h'

section
variable {s : State} (hs : s.OneLaneInCharge)
include hs

theorem modLane_one (b : Bool) {f : Lane → Lane} (hf : (f (s.laneAt b)).st = (s.laneAt b).st) : (s.modLane b f).OneLaneInCharge :=
  of_token (hs.charge.modLane_same b hf) rfl rfl

theorem modLane_idle_one {b : Bool} {f : Lane → Lane} (hb : (s.laneAt b).st ≠ .inCharge) (hf : (f (s.laneAt b)).st ≠ .inCharge) :
    (s.modLane b f).OneLaneInCharge :=
  of_token (without_of_ne (fun e => hb ((hs.charge.2 b).mpr e)) ▸ hs.charge.modLane_out hf) rfl rfl

theorem retireLane_idle_one {b : Bool} (hb : (s.laneAt b).st ≠ .inCharge) : (s.retireLane b).OneLaneInCharge :=
  retireLane_one hs fun e => hb ((hs.charge.2 b).mpr e)

theorem laneAbsorb_one (event : Nat) (b : Bool) (d : List Byte) : (s.laneAbsorb event b d).OneLaneInCharge :=
  (modLane_one hs b (by exact rfl)).of_hide (State.absorb_hide chargeMask rfl ..)

theorem endSwap_one (result : Nat) : (s.endSwap result).OneLaneInCharge := hs.of_hide (State.endSwap_hide chargeMask rfl s result)

theorem execTableBlockCheck_one (standby : Bool) (found : BlockCheck) :
    (outState s (execTableBlockCheck standby found s)).OneLaneInCharge := by
  unfold execTableBlockCheck
  extract_lets who b t
  have ht : t.OneLaneInCharge := modLane_one hs _ rfl
  exact ite_both _ _ _ _ (ite_both _ _ _ _ ht (State.OneLaneInCharge.of_hide (by exact ht) (State.notify_hide chargeMask rfl ..)))
    (ite_both _ _ _ _ ht (ht.of_hide (State.absorb_hide chargeMask rfl ..)))

theorem execTokenWatchdogExpire_one : (outState s (execTokenWatchdogExpire s)).OneLaneInCharge :=
  ite_both _ _ _ _ (laneFails_one hs _ _) hs

theorem execLaneHardFault_one (lane : Bool) (fault : LaneFault) : (outState s (execLaneHardFault lane fault s)).OneLaneInCharge := by
  unfold execLaneHardFault
  exact ite_both _ _ _ _ hs (laneFails_one (modLane_one hs lane (by exact rfl)) _ _)

theorem execTokenGrant_one (a b : Bool) : (outState s (execTokenGrant a b s)).OneLaneInCharge := by
  unfold execTokenGrant
  rw [out_next]
  split
  · exact hs
  · rename_i h
    have hv : s.lanes.valid = false := by simp_all
    split
    · exact grant_one (hs.idle hv) _
    · exact hs

theorem execRerunArbitration_one : (outState s (execRerunArbitration s)).OneLaneInCharge := by
  unfold execRerunArbitration
  rw [out_next]
  split
  · rename_i h
    have hv : s.lanes.valid = false := by simp_all
    split
    · exact grant_one (hs.idle hv) _
    · exact hs
  · exact hs

theorem execTakeoverComplete_one : (outState s (execTakeoverComplete s)).OneLaneInCharge := by
  unfold execTakeoverComplete
  rw [out_next]
  split
  · exact hs
  · rename_i b _
    extract_lets t u v
    have ht : t.OneLaneInCharge := ite_both _ _ _ _ (leaveProtOnly_one hs) hs
    have hu : u.OneLaneInCharge := modLane_one ht b rfl
    have hv : v.OneLaneInCharge := ite_both _ _ _ _ (modLane_one hu (!b) rfl) hu
    exact hv

theorem execTokenBeliefMismatch_one (lane : Bool) : (outState s (execTokenBeliefMismatch lane s)).OneLaneInCharge := by
  unfold execTokenBeliefMismatch
  rw [out_next]
  refine ite_both _ _ _ _ hs ?_
  extract_lets again t _ u v w
  have hl : t.lane.length = 2 := ((releaseToken_charge hs.charge).of_hide (State.putOffSwap_hide chargeMask rfl s.releaseToken)).1
  have hf : t.lanes.valid = false := (token_of_hide (State.putOffSwap_hide chargeMask rfl s.releaseToken) rfl rfl).1
  have hu : u.OneLaneInCharge := by
    refine of_idle (State.Charge.of_map_idle hl rfl fun l => ?_) hf
    split
    · exact nofun
    · rename_i h
      exact fun e => h (beq_iff_eq.mpr e)
  have hw : w.OneLaneInCharge := laneAbsorb_one (modLane_one hu lane rfl) 2 lane []
  have hwf : w.lanes.valid = false :=
    (token_of_hide (State.laneAbsorb_hide tokenMask rfl v 2 lane []) rfl rfl).1.trans hf
  refine ite_both _ _ _ _ (retireLane_one hw ?_) hw
  rw [tokenLane_of_free hwf]
  exact nofun

theorem execMirrorRx_one (frame : Word) (ok : Bool) : (outState s (execMirrorRx frame ok s)).OneLaneInCharge := by
  unfold execMirrorRx
  exact ite_both _ _ _ _ hs (ite_both _ _ _ _ (laneFails_one hs _ _)
    (ite_both _ _ _ _ (modLane_one hs _ (by exact rfl)) (modLane_one hs _ (by exact rfl))))

theorem execResyncComplete_one : (outState s (execResyncComplete s)).OneLaneInCharge :=
  ite_both _ _ _ _ (modLane_one hs _ (by exact rfl)) hs

theorem execLaneRebootComplete_one (lane pass : Bool) : (outState s (execLaneRebootComplete lane pass s)).OneLaneInCharge := by
  unfold execLaneRebootComplete
  rw [out_next]
  split
  · exact hs
  · rename_i h
    extract_lets diverge _ t u
    have ht : t.OneLaneInCharge := ite_both _ _ _ _ (by exact hs) hs
    have hl : (t.laneAt lane).st ≠ .inCharge := by
      have e : t.laneAt lane = s.laneAt lane := State.laneAt_congr (by unfold t; split <;> rfl) lane
      rw [e]
      intro e
      simp [e] at h
    have hu : u.OneLaneInCharge := modLane_idle_one ht hl (by exact nofun)
    exact ite_both _ _ _ _ (ite_both _ _ _ _ (laneAbsorb_one hu 3 lane []) hu) (retireLane_idle_one ht hl)

theorem execEclipseHandover_one (testOk : Bool) : (outState s (execEclipseHandover testOk s)).OneLaneInCharge := by
  unfold execEclipseHandover
  rw [out_next]
  split
  · exact hs
  · rename_i h
    have hv : s.lanes.valid = true := by simp_all
    have hc := hs.inCharge hv
    extract_lets old t u _
    have ht : t.Charge none := without_self old ▸ hc.modLane_out (by exact nofun)
    have hu : u.Charge (some (!old)) := ht.modLane_takes (by exact rfl)
    refine ite_both _ _ _ _ (of_charge (hu.of_lane rfl) (tokenLane_of_valid hv)) (endSwap_one ?_ 2)
    refine ite_both _ _ _ _ hs (retireLane_idle_one hs (hc.st_ne ?_))
    simp [old]

theorem execEclipseCheckEnd_one (verifyOk diverge : Bool) : (outState s (execEclipseCheckEnd verifyOk diverge s)).OneLaneInCharge := by
  unfold execEclipseCheckEnd
  rw [out_next]
  split
  · exact hs
  · rename_i h
    have hv : s.lanes.valid = true := by simp_all
    extract_lets new t _
    have ht : t.OneLaneInCharge := modLane_idle_one hs ((hs.inCharge hv).st_ne (by simp [new])) (by exact nofun)
    exact ite_both _ _ _ _ (laneFails_one hs new true)
      (ite_both _ _ _ _ (endSwap_one (by exact ht) 3) (endSwap_one (modLane_one hs new (by exact rfl)) 1))

theorem execProtOnlyEntry_one : (outState s (execProtOnlyEntry s)).OneLaneInCharge := by
  unfold execProtOnlyEntry
  rw [out_next]
  extract_lets none'
  split
  · exact hs
  · rename_i h
    exact enterProtOnly_one (hs.idle (by simp_all)) _ _

theorem execProtOnlyReset_one (port : Port) (bs : List Byte) : (outState s (execProtOnlyReset port bs s)).OneLaneInCharge := by
  unfold execProtOnlyReset
  split
  · exact hs
  · rw [out_next]
    split
    · exact ite_both _ _ _ _ (restart_one hs.1) hs
    · exact hs

theorem execAonPowerLoss_one : (outState s (execAonPowerLoss s)).OneLaneInCharge := by
  have h : ((s.convOff.portsDown.lanesDown false).safetyOff.gatePans true).OneLaneInCharge := by
    have hc := hs.charge.of_hide ((State.portsDown_hide chargeMask rfl _).trans (State.convOff_hide chargeMask rfl s))
    exact ((lanesDown_one hc false).of_hide (State.safetyOff_hide chargeMask rfl _)).of_hide (State.gatePans_hide chargeMask rfl _ true)
  unfold execAonPowerLoss
  generalize (s.convOff.portsDown.lanesDown false).safetyOff.gatePans true = t at h ⊢
  exact ite_both _ _ _ _ hs h

theorem execEntryStepComplete_one : (outState s (execEntryStepComplete s)).OneLaneInCharge := by
  unfold execEntryStepComplete
  rw [out_next]
  refine ite_both _ _ _ _ hs ?_
  split
  · exact hs
  · exact ite_both _ _ _ _ (doStep_one hs) hs

theorem execEntryForced_one : (outState s (execEntryForced s)).OneLaneInCharge := by
  unfold execEntryForced
  rw [out_next]
  refine ite_both _ _ _ _ hs ?_
  extract_lets t _ _ u v
  have ht : t.OneLaneInCharge := hs.of_hide (State.absorb_hide chargeMask rfl s 16 2 0xFF 0 [])
  have hu : u.OneLaneInCharge := ite_both _ _ _ _ ht (by exact ht)
  have hv : v.OneLaneInCharge := foldl_keeps_pred (Q := State.OneLaneInCharge)
    (fun _ _ hx => ite_both _ _ _ _ (doStep_one hx) hx) (List.range 6) hu
  exact ite_both _ _ _ _ (hv.of_hide (State.settleEntry_hide chargeMask rfl v)) hv

theorem execReturnStageReady_one (sealsOk : Bool) : (outState s (execReturnStageReady sealsOk s)).OneLaneInCharge := by
  unfold execReturnStageReady
  rw [out_next]
  refine ite_both _ _ _ _ hs ?_
  split
  · exact hs
  · exact (lanesUp_one hs sealsOk).of_hide (State.toStage_hide chargeMask rfl _ 6)
  · exact (hs.of_hide (State.portsUp_hide chargeMask rfl s)).of_hide (State.toStage_hide chargeMask rfl _ 7)
  · exact (hs.of_hide (State.pansUp_hide chargeMask rfl s)).of_hide (State.toStage_hide chargeMask rfl _ 8)
  · exact hs.of_hide (State.settleReturn_hide chargeMask rfl s)
  · exact hs.of_hide (State.toStage_hide chargeMask rfl s _)

theorem execReturnStageTimeout_one : (outState s (execReturnStageTimeout s)).OneLaneInCharge := by
  unfold execReturnStageTimeout
  rw [out_next]
  refine ite_both _ _ _ _ hs ?_
  extract_lets k n _ _ t
  have ht : t.OneLaneInCharge := hs
  clear_value t k n
  have hc := coreFails_one ht.1
  have hstage {x : State} (hx : x.OneLaneInCharge) (j : Nat) : (x.toStage j).OneLaneInCharge := hx.of_hide (State.toStage_hide chargeMask rfl x j)
  split
  · exact ite_both _ _ _ _ hc ht
  · exact hstage (by exact ht) 4
  · exact ite_both _ _ _ _ hc ht
  · exact ite_both _ _ _ _ ht hc
  · exact hstage (ht.of_hide (State.portsRelink_hide chargeMask rfl t)) 7
  · exact ite_both _ _ _ _ (hstage ((ht.of_hide (State.freeze_hide chargeMask rfl t 1)).of_hide
      (State.loseUnloaded_hide chargeMask rfl _)) 8) ht
  · exact (ht.of_hide (State.settleReturn_hide chargeMask rfl t)).of_hide (State.absorb_hide chargeMask rfl ..)
  · exact ht

theorem execColdStart_one (straps : Nat) (bridgeOnly : Bool) : (outState s (execColdStart straps bridgeOnly s)).OneLaneInCharge := by
  have h : (s.coldBase straps).OneLaneInCharge := by
    have hn : s.nonVolatile.OneLaneInCharge := nonVolatile_one hs.1
    unfold State.coldBase
    generalize s.nonVolatile = x at hn ⊢
    exact (State.OneLaneInCharge.of_hide (by exact hn) (State.startBist_hide chargeMask rfl _)).of_hide
      (State.initCells_hide chargeMask rfl _ true true)
  unfold execColdStart
  generalize s.coldBase straps = x at h ⊢
  split
  · exact ite_both _ _ _ _ h (h.of_hide (State.coldReturn_hide chargeMask rfl x))
  · exact hs

theorem execCorrectedSramError_one (lane : Bool) : (outState s (execCorrectedSramError lane s)).OneLaneInCharge := by
  unfold execCorrectedSramError
  extract_lets t lost
  have ht : t.OneLaneInCharge := modLane_one hs lane rfl
  exact ite_both _ _ _ _ ht ht

theorem runCmd_one (op : Byte) (f : Hdr → List Byte → State → Ans) (h : Hdr) (p : List Byte)
    (hf : (f h p s).s.OneLaneInCharge) : (runCmd op f h p s).OneLaneInCharge := by
  obtain e | e := runCmd_cases op f h p s
  · exact hs.of_hide e
  · exact hf.of_hide e

theorem runCmd_reset_one (h : Hdr) (p : List Byte) : (runCmd 0xF0 opReset h p s).OneLaneInCharge :=
  runCmd_one hs 0xF0 opReset h p (hs.of_hide (opReset_hide chargeMask rfl h p s))

theorem execReset_one (h : Hdr) (p : List Byte) : (outState s (execReset h p s)).OneLaneInCharge :=
  ite_both _ _ _ _ (resetTail_one (runCmd_reset_one hs h p)) (runCmd_reset_one hs h p)

theorem exec_one {c : Instr} (hb : ∀ n, c ≠ .frameBoundary n) : (outState s (exec c s)).OneLaneInCharge := by
  by_cases hc : movesLanes c = false
  · obtain ⟨-, -, -, -, -, -, -, -, -, h48, h49⟩ := frameMask_fields c
    exact hs.of_hide (exec_hide_of_sub (sub_self _) s) (testBit_frameMask_lane hc) (h48.trans hc) (h49.trans hc)
  · cases c
    case tableBlockCheck a b => exact execTableBlockCheck_one hs a b
    case tokenWatchdogExpire => exact execTokenWatchdogExpire_one hs
    case laneHardFault a b => exact execLaneHardFault_one hs a b
    case tokenGrant a b => exact execTokenGrant_one hs a b
    case takeoverComplete => exact execTakeoverComplete_one hs
    case tokenBeliefMismatch a => exact execTokenBeliefMismatch_one hs a
    case rerunArbitration => exact execRerunArbitration_one hs
    case mirrorRx a b => exact execMirrorRx_one hs a b
    case resyncComplete => exact execResyncComplete_one hs
    case laneRebootComplete a b => exact execLaneRebootComplete_one hs a b
    case eclipseHandover a => exact execEclipseHandover_one hs a
    case eclipseCheckEnd a b => exact execEclipseCheckEnd_one hs a b
    case protOnlyEntry => exact execProtOnlyEntry_one hs
    case protOnlyReset port bs => exact execProtOnlyReset_one hs port bs
    case aonPowerLoss => exact execAonPowerLoss_one hs
    case entryStepComplete => exact execEntryStepComplete_one hs
    case entryForced => exact execEntryForced_one hs
    case returnStageReady sealsOk => exact execReturnStageReady_one hs sealsOk
    case returnStageTimeout => exact execReturnStageTimeout_one hs
    case coldStart straps bridgeOnly => exact execColdStart_one hs straps bridgeOnly
    case commit h p => exact runCmd_one hs 0x12 opCommit h p (opCommit_one hs h p)
    case reset h p => exact execReset_one hs h p
    case correctedSramError lane => exact execCorrectedSramError_one hs lane
    case frameBoundary n => exact absurd rfl (hb n)
    all_goals exact absurd rfl hc

end

theorem boundaryKeeps_one : BoundaryKeeps State.OneLaneInCharge where
  frame := fun hs h => hs.of_hide h
  power := fun t ht => ht.of_hide (State.powerBoundary_hide chargeMask rfl t)
  contactor := fun t ht => ht.of_hide (State.contactorMode_hide chargeMask rfl t)
  converter := fun t ht => ht.of_hide (State.convBoundary_hide chargeMask rfl t)
  reprov := fun t ht => ht.of_hide (State.reprovSteps_hide chargeMask rfl t)
  latched := fun t d ht => ht.of_hide (State.runLatchDue_hide chargeMask rfl t d)
  packet := fun _ e ht => runPacket_keeps (Q := State.OneLaneInCharge) (fun _ _ hc hu => exec_one hu hc)
    (fun h p _ hu => runCmd_reset_one hu h p) e ht
  commit := fun t ht => ht.of_hide (State.applyCommit_hide chargeMask rfl t)
  outputs := fun t ht => ht.of_hide (State.applyOutputs_hide chargeMask rfl t)
  restart := fun _ ht => resetTail_one ht

/-- Settles O9: whatever frees the token or takes a lane out of service does both, and a grant puts one lane in charge. -/
theorem oneLaneInCharge : Obligations.OneLaneInCharge := fun _ _ h =>
  step_keeps_of_boundary (Q := State.OneLaneInCharge) (fun _ _ hs => hs) (fun _ _ hb hs => exec_one hs hb)
    boundaryKeeps_one h

end Sys2Proof.Machine
end


section
/-!
PROOFS. Packets: their bytes, their reception and their commands (17_ploza_protocol.md Table 17.1, R410, R411, R424).
-/

-- One proof after the other: the threads of proofs that are elaborated at once take too much memory together.
set_option Elab.async false

namespace Sys2Proof.Machine

/-! ### The bytes of a packet -/

/-- Header, length and payload of a packet, before its CRC. -/
def packetBody (op seq flags target : Byte) (p : List Byte) : List Byte := op :: seq :: flags :: target :: (toLe 2 p.length ++ p)

theorem mkPacket_eq (op seq flags target : Byte) (p : List Byte) :
    mkPacket op.toNat seq.toNat flags.toNat target.toNat p =
      packetBody op seq flags target p ++ toLe 4 (crc32c (packetBody op seq flags target p)).toNat := by
  simp [mkPacket, withCrc, packetBody, toLe_one_byte]

theorem packetBody_length (op seq flags target : Byte) (p : List Byte) : (packetBody op seq flags target p).length = p.length + 6 := by
  simp [packetBody, toLe_length]
  omega

/-- A packet of a body and a CRC field is checked by that field. -/
theorem parseRequest_append {body : List Byte} {v : Nat} {r : Request} (h : parseRequest (body ++ toLe 4 v) = some r) :
    r.crcOk = (v % 256 ^ 4 == (crc32c body).toNat) := by
  unfold parseRequest at h
  split at h
  · cases h
  · cases h
    have hl : (body ++ toLe 4 v).length - 4 = body.length := by simp [toLe_length]
    rw [hl]
    exact crcGood_append body v

theorem parseRequest_packet (op seq flags target : Byte) (p : List Byte) (hp : p.length ≤ 4096) (v : Nat) :
    parseRequest (packetBody op seq flags target p ++ toLe 4 v) =
      some { opcode := op, seq := seq, flags := flags, target := target, length := p.length, payload := p
             crcOk := v % 256 ^ 4 == (crc32c (packetBody op seq flags target p)).toNat } := by
  have hl : (packetBody op seq flags target p ++ toLe 4 v).length = p.length + 10 := by
    simp [packetBody_length, toLe_length]
  have hcrc : crcGood (p.length + 10 - 4) (packetBody op seq flags target p ++ toLe 4 v) =
      (v % 256 ^ 4 == (crc32c (packetBody op seq flags target p)).toNat) := by
    have e := crcGood_append (packetBody op seq flags target p) v
    rwa [packetBody_length] at e
  have hlen : getU (packetBody op seq flags target p ++ toLe 4 v) 4 2 = p.length := by
    have e : ((packetBody op seq flags target p ++ toLe 4 v).drop 4).take 2 = toLe 2 p.length := by
      simp [packetBody, toLe_length]
    rw [getU, e, leNat_toLe]
    omega
  have hpay : slice (packetBody op seq flags target p ++ toLe 4 v) 6 p.length = p := by
    have e : (packetBody op seq flags target p ++ toLe 4 v).drop 6 = p ++ toLe 4 v := by
      simp [packetBody, toLe]
    rw [slice, e, List.take_left]
  unfold parseRequest
  rw [hl, if_neg (by omega), hcrc, hlen, Nat.add_sub_cancel, hpay]
  rfl

/-- Settles O13: the fields stand at their offsets, and the CRC field is read modulo 2^32. -/
theorem packetReadsBack : Obligations.PacketReadsBack := by
  refine fun op seq flags target p hp => ⟨?_, fun body v r hv hne hr => ?_⟩
  · rw [mkPacket_eq, parseRequest_packet op seq flags target p hp]
    have hc : (crc32c (packetBody op seq flags target p)).toNat < 256 ^ 4 := (crc32c _).isLt
    rw [Nat.mod_eq_of_lt hc, beq_self_eq_true]
  · rw [parseRequest_append hr, show v % 256 ^ 4 = v from Nat.mod_eq_of_lt hv]
    exact beq_eq_false_iff_ne.mpr hne

/-! ### Reception -/

/-- Forwarding a packet leaves what the checks at receipt read. -/
theorem forward_checks (s : State) (port : Port) (r q : Request) (bs : List Byte) (late : Bool) :
    (s.forward port r bs).receiptFault port q = s.receiptFault port q ∧
      (s.forward port r bs).retryWaits port q = s.retryWaits port q ∧
      (s.forward port r bs).dueBoundary late = s.dueBoundary late := ⟨rfl, rfl, rfl⟩

/-- What a reception leaves, beside a forwarded packet, of a packet that was read. -/
def State.received (s : State) (port : Port) (late : Bool) (r : Request) (bs : List Byte) (u : State) : State :=
  match s.receiptFault port r with
  | some .badCrc => if r.target.toNat == s.ring.position then u.receiptReply port r .badCrc else u
  | some st => if s.takesFrom port r.target then u.receiptReply port r st else u
  | none =>
    if s.takesFrom port r.target || ((r.target == 0xFF && port != .ring) && bankOpcode r.opcode) then u.accept port late r bs else u

/-- The state after a packet that the primary forwards has gone to its downlink. -/
def State.relayed (s : State) (port : Port) (r : Request) (bs : List Byte) : State :=
  if s.forwards port r.target && r.crcOk && r.length == r.payload.length then s.forward port r bs else s

theorem receive_eq {s : State} {port : Port} {late : Bool} {bs : List Byte} {r : Request} (hon : s.portsOn = true)
    (hp : s.lanes.protOnly = false) (hr : parseRequest bs = some r) :
    s.receive port late bs = s.received port late r bs (s.relayed port r bs) := by
  unfold State.receive State.received State.relayed
  rw [hon, hp, hr, if_neg (by decide)]
  dsimp only
  cases s.forwards port r.target && r.crcOk && r.length == r.payload.length <;> rfl

theorem relayed_eq (s : State) (port : Port) (r : Request) (bs : List Byte) :
    s.relayed port r bs = if s.forwards port r.target = true ∧ r.crcOk = true ∧ r.length = r.payload.length then
      { s with
        ring.dnQueue := s.ring.dnQueue ++ [{ kind := 1, prio := 0, data := bs }]
        ring.fwd := ({ target := r.target.toNat, port := port, seq := r.seq.toNat, opcode := r.opcode.toNat
                       left := if r.target = 0xFE then s.pn P.ringModules - 1 else 1 } :: s.ring.fwd).take 64 } else s := by
  unfold State.relayed State.forward
  simp only [Bool.and_eq_true, beq_iff_eq, and_assoc]

theorem relayed_of_bad_crc (s : State) (port : Port) (r : Request) (bs : List Byte) (h : r.crcOk = false) :
    s.relayed port r bs = s := by
  unfold State.relayed
  rw [h, Bool.and_false]
  rfl

theorem receiptFault_of_bad_crc (s : State) (port : Port) (r : Request) (h : r.crcOk = false) :
    s.receiptFault port r = some .badCrc := by
  unfold State.receiptFault
  rw [h]
  rfl

theorem accept_relayed (s : State) (port : Port) (late : Bool) (r : Request) (bs : List Byte) :
    (s.relayed port r bs).accept port late r bs = if s.retryWaits port r = true then s.relayed port r bs
      else { s.relayed port r bs with
        lanes.inbox := s.lanes.inbox ++ [{ port := port, bytes := bs, frame := s.dueBoundary late, arrival := s.grid.frame }] } := by
  unfold State.relayed
  split <;> rfl

/-- Settles O14: the checks at receipt read nothing that forwarding writes. -/
theorem packetReception : Obligations.PacketReception := by
  intro port late bs s hport
  have hexec : exec (.packetReceived port late bs) s = .next (s.receive port late bs) := if_neg hport
  refine ⟨fun h => ?_, fun r u hon hp hr hu => ?_⟩
  · rw [hexec]
    unfold State.receive
    rcases h with h | h | h
    · rw [h]
      rfl
    · rw [h, Bool.or_true]
      rfl
    · rw [h]
      exact congrArg _ (ite_self s)
  · obtain rfl : u = s.relayed port r bs := hu.trans (relayed_eq s port r bs).symm
    rw [hexec, receive_eq hon hp hr]
    refine ⟨fun hf ht => ?_, fun hf hm hb => ?_, fun hc ht => ?_, fun hc ht => ?_, fun st hf hst => ?_⟩
    · have hin : (s.takesFrom port r.target || ((r.target == 0xFF && port != .ring) && bankOpcode r.opcode)) = true := by
        rcases ht with ht | ⟨ht, hne, hb⟩
        · rw [ht, Bool.true_or]
        · rw [ht, hb, bne_iff_ne.mpr hne]
          exact Bool.or_true _
      have hrec : s.received port late r bs (s.relayed port r bs) = (s.relayed port r bs).accept port late r bs := by
        unfold State.received
        rw [hf]
        exact if_pos hin
      rw [hrec, accept_relayed]
      exact ⟨fun h => by rw [h]; rfl, fun h => by rw [h]; rfl⟩
    · have hout : (s.takesFrom port r.target || ((r.target == 0xFF && port != .ring) && bankOpcode r.opcode)) = false := by
        rw [hm, Bool.false_or]
        simpa [and_assoc] using hb
      unfold State.received
      rw [hf]
      exact congrArg _ (if_neg (Bool.eq_false_iff.mp hout))
    · unfold State.received
      rw [receiptFault_of_bad_crc s port r hc, relayed_of_bad_crc s port r bs hc]
      exact congrArg _ (if_pos (beq_iff_eq.mpr ht))
    · unfold State.received
      rw [receiptFault_of_bad_crc s port r hc, relayed_of_bad_crc s port r bs hc]
      exact congrArg _ (if_neg fun e => ht (beq_iff_eq.mp e))
    · unfold State.received
      rw [hf]
      cases st
      case badCrc => exact absurd rfl hst
      all_goals rfl

/-! ### Opcodes that are not to execute -/

/-- The outcomes of an opcode that is not to execute. -/
def State.Unexecuted (s : State) (op : Byte) (h : Hdr) (p : List Byte) (t : State) : Prop :=
  (s.lanes.protOnly = true ∨ s.portsOn = false → t = s) ∧
    (s.lanes.protOnly = false → s.portsOn = true →
      (lengthOk op.toNat p = false → s.takes h.target = true → t = s.sendReply h.port (s.replyPacket op h.seq .badLength [])) ∧
      (lengthOk op.toNat p = false → s.takes h.target = false → t = s) ∧
      (lengthOk op.toNat p = true → h.target = 0xFF → bankOpcode op = false → t = s) ∧
      ∀ e, lengthOk op.toNat p = true → (h.target = 0xFF → bankOpcode op = true) → s.duplicateOf op h p = some e →
        t = s.answer h e.reply)

theorem runCmd_unexecuted (op : Byte) (f : Hdr → List Byte → State → Ans) (h : Hdr) (p : List Byte) (s : State) :
    s.Unexecuted op h p (runCmd op f h p s) := runCmd_not_executed op f h p s

/-- The same of a command whose executed reply waits: it is built with another state than that of an answer. -/
theorem unexecuted_of_checks (op : Byte) (h : Hdr) (p : List Byte) (s x : State) (hb : bankOpcode op = false) :
    s.Unexecuted op h p
      (if s.lanes.protOnly || !s.portsOn then s
      else if !lengthOk op.toNat p then
        if s.takes h.target then s.sendReply h.port (s.replyPacket op h.seq .badLength []) else s
      else if h.target == 0xFF then s
      else match s.duplicateOf op h p with
        | some e => s.answer h e.reply
        | none => x) := by
  refine ⟨fun a => ?_, fun a b => ⟨fun c d => ?_, fun c d => ?_, fun c d _ => ?_, fun e c d g => ?_⟩⟩
  · rcases a with a | a <;> simp [a]
  · simp [a, b, c, d]
  · simp [a, b, c, d]
  · simp [a, b, c, d]
  · have ht : h.target ≠ 0xFF := fun ht => absurd (d ht) (by rw [hb]; decide)
    rw [a, b, c, beq_false_of_ne ht, g]
    rfl

/-- A RESET that does not execute asks for no restart. -/
theorem execReset_unexecuted (h : Hdr) (p : List Byte) (s : State) : ∃ t, exec (.reset h p) s = .next t ∧ s.Unexecuted 0xF0 h p t := by
  have key {u : State} (hu : runCmd 0xF0 opReset h p s = u) (hsec : u.sec = s.sec) :
      (if (runCmd 0xF0 opReset h p s).sec.restart && !s.sec.restart then (runCmd 0xF0 opReset h p s).resetTail
        else runCmd 0xF0 opReset h p s) = u := by
    rw [hu, hsec, Bool.and_not_self]
    rfl
  obtain ⟨hoff, hon⟩ := runCmd_unexecuted 0xF0 opReset h p s
  refine ⟨_, rfl, fun a => key (hoff a) rfl, fun a b => ?_⟩
  obtain ⟨hlen, hdrop, hbank, hdup⟩ := hon a b
  refine ⟨fun c d => key (hlen c d) ?_, fun c d => key (hdrop c d) rfl, fun c d e => key (hbank c d e) rfl,
    fun e c d g => key (hdup e c d g) ?_⟩
  · exact same_of_hide (p := .sec) (State.sendReply_hide answerMask rfl ..) rfl
  · exact same_of_hide (p := .sec) (State.answer_hide answerMask rfl ..) rfl

theorem execEisStart_unexecuted (h : Hdr) (p : List Byte) (s : State) : ∃ t, exec (.eisStart h p) s = .next t ∧
    s.Unexecuted 0x50 h (if (forwardedSweep h p).isSome then p.take (p.length - 8) else p) t := by
  refine ⟨_, rfl, ?_⟩
  cases forwardedSweep h p with
  | none => exact runCmd_unexecuted ..
  | some a => exact runCmd_unexecuted ..

theorem packet_unexecuted {c : Instr} {op : Byte} {h : Hdr} {p : List Byte} (s : State) (hc : c.packet = some (op, h, p)) :
    ∃ t, exec c s = .next t ∧ s.Unexecuted op h p t := by
  cases c
  case diagDieTemp h p => cases hc; exact ⟨_, rfl, unexecuted_of_checks _ _ _ _ _ rfl⟩
  case reset h p => cases hc; exact execReset_unexecuted h p s
  case eisStart h p => cases hc; exact execEisStart_unexecuted h p s
  all_goals cases hc
  all_goals exact ⟨_, rfl, runCmd_unexecuted _ _ _ _ s⟩

/-- Settles O15: every opcode command is checked as `runCmd` checks it. -/
theorem opcodesDoNotExecute : Obligations.OpcodesDoNotExecute := by
  intro c op h p s hc
  obtain ⟨t, ht, hoff, hon⟩ := packet_unexecuted s hc
  refine ⟨fun a => ht.trans (congrArg _ (hoff a)), fun a b => ?_⟩
  obtain ⟨hlen, hdrop, hbank, hdup⟩ := hon a b
  exact ⟨fun c d => ht.trans (congrArg _ (hlen c d)), fun c d => ht.trans (congrArg _ (hdrop c d)),
    fun c d e => ht.trans (congrArg _ (hbank c d e)), fun e c d g => ht.trans (congrArg _ (hdup e c d g))⟩

/-! ### The record of an answer -/

theorem portAt_modPort (s : State) (p : Port) (f : PortSt → PortSt) (h : s.port.length = 4) : (s.modPort p f).portAt p = f (s.portAt p) := by
  have hp : portIdx p < s.port.length := by cases p <;> simp [portIdx, h]
  simp [State.portAt, State.modPort, List.getD_eq_getElem?_getD, List.getElem?_eq_getElem hp]

theorem portAt_congr {s t : State} (h : t.port = s.port) (p : Port) : t.portAt p = s.portAt p := by
  unfold State.portAt
  rw [h]

/-- All of the state but the ports. -/
def portMask : Nat := 2 ^ 50 - 1 - 2 ^ 30

theorem sendReply_hist (s : State) (p : Port) (bs : List Byte) (h : s.port.length = 4) :
    ((s.sendReply p bs).portAt p).hist = (s.portAt p).hist := by
  have hsent (f : State → State) (hf : ∀ u, (f u).hide portMask = u.hide portMask) :
      ((f (s.modPort p fun t => { t with sentReplies := ((getB bs 1, s.grid.frame) :: t.sentReplies).take 256 })).portAt p).hist =
        (s.portAt p).hist := by
    rw [portAt_congr (same_of_hide (p := .port) (hf _) rfl) p, portAt_modPort _ _ _ h]
  unfold State.sendReply
  cases p
  · exact hsent id fun _ => rfl
  · exact hsent _ (State.sendRing_hide portMask rfl · 1 0 bs)
  · exact hsent _ (State.sendSpi_hide portMask rfl · .reply bs)
  · exact hsent (fun u => u.sendCan false .reply (u.replyPrio .canA (getB bs 1)) bs) fun u => State.sendCan_hide portMask rfl u ..
  · exact hsent (fun u => u.sendCan true .reply (u.replyPrio .canB (getB bs 1)) bs) fun u => State.sendCan_hide portMask rfl u ..

theorem answer_hist (s : State) (h : Hdr) (r : List Byte) (hl : s.port.length = 4) :
    ((s.answer h r).portAt h.port).hist = (s.portAt h.port).hist :=
  ite_both (fun u : State => (u.portAt h.port).hist = (s.portAt h.port).hist) _ _ _ rfl (sendReply_hist s h.port r hl)

theorem noteExecuted_claims (s : State) (op : Byte) (h : Hdr) (p : List Byte) (a : Ans) (r : List Byte) :
    (s.noteExecuted op h p a r).ploza.claims = if a.st.applied then s.ploza.claims ++ a.claims else s.ploza.claims := by
  unfold State.noteExecuted
  split <;> split <;> rfl

theorem noteExecuted_hist (s : State) (op : Byte) (h : Hdr) (p : List Byte) (a : Ans) (r : List Byte) (hl : s.port.length = 4) :
    ((s.noteExecuted op h p a r).portAt h.port).hist =
      ({ seq := h.seq, opcode := op, target := h.target, crc := historyCrc op h p, reply := r, frame := s.grid.validFrames } ::
        (s.portAt h.port).hist).take 32 := by
  have hnote {u : State} (hp : u.port = s.port) (hg : u.grid = s.grid) :
      ((u.modPort h.port fun x => { x with hist :=
        ({ seq := h.seq, opcode := op, target := h.target, crc := historyCrc op h p, reply := r
           frame := u.grid.validFrames } :: x.hist).take 32 }).portAt h.port).hist =
        ({ seq := h.seq, opcode := op, target := h.target, crc := historyCrc op h p, reply := r, frame := s.grid.validFrames } ::
          (s.portAt h.port).hist).take 32 := by
    rw [portAt_modPort _ _ _ (hp ▸ hl), portAt_congr hp, hg]
  unfold State.noteExecuted
  split <;> split <;> exact hnote rfl rfl

theorem finish_eq {s : State} {op : Byte} {h : Hdr} {p : List Byte} {a : Ans} (hs : s.settle h.port a = a) :
    s.finish op h p a = (a.s.noteExecuted op h p a (s.replyPacket op h.seq a.st a.payload)).answer h
      (s.replyPacket op h.seq a.st a.payload) := by
  unfold State.finish
  rw [hs]

/-- Finishing a command that settles as it is leaves its effect in every part but the records of the ports. -/
theorem finish_same {s : State} {op : Byte} {h : Hdr} {p : List Byte} {a : Ans} (hs : s.settle h.port a = a) {x : Part}
    (hx : x ∉ [Part.ring, .port, .ploza, .can, .spi]) : x.same a.s (s.finish op h p a) := by
  rw [finish_eq hs]
  refine same_of_hide (m := answerMask) ?_ (partsMask_unset hx)
  rw [State.answer_hide answerMask rfl, State.noteExecuted_hide answerMask rfl]

/-- Settles O16: claims and history are written once, and sending the reply leaves both. -/
theorem answersAreRecorded : Obligations.AnswersAreRecorded := by
  intro s op h p a hs hl
  refine ⟨?_, ?_, fun x hx => finish_same hs hx⟩
  · rw [finish_eq hs, answer_ploza, noteExecuted_claims]
  · have hn : (a.s.noteExecuted op h p a (s.replyPacket op h.seq a.st a.payload)).port.length = 4 := by
      have e := State.noteExecuted_lengths a.s op h p a (s.replyPacket op h.seq a.st a.payload)
      simp only [State.lengths, List.cons.injEq] at e
      omega
    rw [finish_eq hs, answer_hist _ _ _ hn, noteExecuted_hist _ _ _ _ _ _ hl]

/-! ### Arbitration and the size of a reply -/

theorem settle_lost {s : State} {port : Port} {a : Ans} (ha : a.st.applied = true) (hc : ∃ c ∈ a.claims, c ∈ s.ploza.claims) :
    s.settle port a = { st := .lostArbitration, s := s } := by
  have h : a.claims.any s.ploza.claims.contains = true := by simpa using hc
  unfold State.settle
  rw [ha, h]
  rfl

theorem settle_too_long {s : State} {port : Port} {a : Ans} (hc : ¬(a.st.applied = true ∧ ∃ c ∈ a.claims, c ∈ s.ploza.claims))
    (hl : 4096 < a.payload.length) : s.settle port a = { st := .outOfRange, s := s } := by
  have h1 : (a.st.applied && a.claims.any s.ploza.claims.contains) = false := by simpa using hc
  have h2 : s.replyTooLong port a.payload.length = true := by
    unfold State.replyTooLong
    rw [decide_eq_true hl, Bool.true_or]
  unfold State.settle
  rw [h1, h2]
  rfl

/-- An answer that settles as another one, without effect, finishes as that one does and leaves the state before the command. -/
theorem finish_of_settle {s : State} (op : Byte) {h : Hdr} (p : List Byte) {a : Ans} {st : Status} (hst : st.applied = false)
    (hs : s.settle h.port a = { st := st, s := s }) :
    s.finish op h p a = s.finish op h p { st := st, s := s } ∧
      ∀ x : Part, x ∉ [Part.ring, .port, .ploza, .can, .spi] → x.same s (s.finish op h p a) := by
  have hn := settle_not_applied s h.port st hst
  have he : s.finish op h p a = s.finish op h p { st := st, s := s } := by
    unfold State.finish
    rw [hs, hn]
  exact ⟨he, fun x hx => he ▸ finish_same hn hx⟩

/-- Settles O17: both answers settle without an effect. -/
theorem arbitrationAndReplySize : Obligations.ArbitrationAndReplySize := fun _ op _ p _ =>
  ⟨fun ha hc => finish_of_settle op p rfl (settle_lost ha hc), fun hc hl => finish_of_settle op p rfl (settle_too_long hc hl)⟩

end Sys2Proof.Machine
end


section
/-!
PROOFS. The staged set and its COMMIT (17_ploza_protocol.md R416, R417), and the opcodes that only read.
-/

-- One proof after the other: the threads of proofs that are elaborated at once take too much memory together.
set_option Elab.async false

namespace Sys2Proof.Machine

/-- An opcode command that executes finishes with the answer of its operation. -/
theorem exec_finish {c : Instr} {op : Byte} {f : Hdr → List Byte → State → Ans} {h : Hdr} {p : List Byte} {s : State} {a : Ans}
    (he : s.executes op h p) (hc : exec c s = .next (runCmd op f h p s)) (ha : f h p s = a) :
    exec c s = .next (s.finish op h p a) := by
  rw [hc, runCmd_of_executes he, ha]

/-- All of the state but one part. -/
def butMask (p : Part) : Nat := 2 ^ 50 - 1 - 2 ^ p.bit

/-- An operation that may change any part but `p` leaves `p`. -/
theorem same_of_but {p : Part} {s t : State} (h : t.hide (butMask p) = s.hide (butMask p)) : p.same s t :=
  same_of_hide h (by cases p <;> rfl)

/-! ### Staging -/

theorem paramVals_stage (s : State) (id : Nat) (v : List Int) (w : Port) (i : Nat) : (s.stage id v w).paramVals i = s.paramVals i := rfl

theorem opParamSet_stages {h : Hdr} {p : List Byte} {s : State} {r : ParamRow} (hr : paramRow (getU p 0 2) = some r)
    (hro : r.ro = false) (hsize : getU p 2 2 = r.bytes) (hmode : r.service = true → s.grid.mode = .service)
    (hok : r.ok (r.decode (p.drop 4)) = true) (hroom : s.ploza.staged.length < 256) :
    opParamSet h p s = okAns (s.stage (getU p 0 2) (r.decode (p.drop 4)) h.port) (toLe 2 (getU p 0 2)) [.param (getU p 0 2)] := by
  have hm : (r.service && s.grid.mode != .service) = false := by
    cases hs : r.service
    · rfl
    · rw [hmode hs]
      rfl
  have hfull : (decide (256 ≤ s.ploza.staged.length) && (s.stagedVal (getU p 0 2)).isNone) = false := by
    rw [decide_eq_false (by omega), Bool.false_and]
  simp only [opParamSet, hr, hro, hsize, hm, hok, hfull, ne_eq, not_true_eq_false, Bool.not_true, Bool.false_eq_true, if_false]

theorem opParamGet_reads {h : Hdr} {p : List Byte} {s : State} {r : ParamRow} (hr : paramRow (getU p 0 2) = some r)
    (hsel : (getB p 2).toNat ≤ 1) :
    opParamGet h p s = okAns s (toLe 2 (getU p 0 2) ++ toLe 2 r.bytes ++
      toLe 1 (if getB p 2 = 1 ∧ (s.stagedVal (getU p 0 2)).isSome = true then 1 else 0) ++ [0] ++
      r.encode (if getB p 2 = 1 then (s.stagedVal (getU p 0 2)).getD (s.paramVals (getU p 0 2)) else s.paramVals (getU p 0 2))) := by
  simp only [opParamGet, hr, if_neg (Nat.not_lt.mpr hsel)]
  by_cases h1 : getB p 2 = 1
  · simp only [h1, true_and, if_true]
    cases s.stagedVal (getU p 0 2) <;> rfl
  · simp only [h1, false_and, if_false]
    rfl

/-- Settles O20: a value that passes the checks is staged in place of the one staged before, and no other is touched. -/
theorem stagedValuesReadBack : Obligations.StagedValuesReadBack := by
  refine fun h p s r hr => ⟨fun he hro hsize hmode hok hroom => ?_, fun he hsel => ?_⟩
  · refine ⟨s.stage (getU p 0 2) (r.decode (p.drop 4)) h.port,
      exec_finish he rfl (opParamSet_stages hr hro hsize hmode hok hroom), ?_, fun i hi => ?_, paramVals_stage s _ _ _⟩
    · rw [stagedVal_stage, if_pos rfl]
    · rw [stagedVal_stage, if_neg hi]
  · exact exec_finish he rfl (opParamGet_reads hr hsel)

/-! ### COMMIT -/

theorem lookup_filter_of_keep {l : List (Nat × List Int)} {q : Nat × List Int → Bool} {i : Nat} (hq : ∀ v, q (i, v) = true) :
    (l.filter q).lookup i = l.lookup i := by
  induction l with
  | nil => rfl
  | cons e l ih =>
    obtain ⟨k, v⟩ := e
    by_cases hk : i = k
    · subst hk
      rw [List.filter_cons_of_pos (hq v), List.lookup_cons_self, List.lookup_cons_self]
    · have hb : (i == k) = false := beq_false_of_ne hk
      cases he : q (k, v) <;> simp [he, List.lookup_cons, hb, ih]

theorem lookup_filter_of_drop {l : List (Nat × List Int)} {q : Nat × List Int → Bool} {i : Nat} (hq : ∀ v, q (i, v) = false) :
    (l.filter q).lookup i = none := by
  rw [List.lookup_eq_none_iff]
  intro e he
  refine bne_iff_ne.mpr fun hi => ?_
  subst hi
  have := (List.mem_filter.mp he).2
  rw [hq e.2] at this
  cases this

/-- A parameter list after one value is set: a value that is the default is not listed. -/
theorem lookup_setParam (l : List (Nat × List Int)) (id : Nat) (v : List Int) (i : Nat) :
    (setParam l id v).lookup i =
      if i = id then (if (paramRow id).map (·.dflt) = some v then none else some v) else l.lookup i := by
  by_cases hi : i = id
  · subst hi
    rw [if_pos rfl]
    unfold setParam
    extract_lets rest
    have hrest : rest.lookup i = none := lookup_filter_of_drop (by simp)
    split
    · exact hrest
    · rw [List.lookup_append, lookup_filter_of_drop (by simp), Option.none_or, List.lookup_cons_self]
  · rw [if_neg hi]
    have hb : (i == id) = false := beq_false_of_ne hi
    unfold setParam
    extract_lets rest
    have hrest : rest.lookup i = l.lookup i := lookup_filter_of_keep (by simp [hi])
    split
    · exact hrest
    · rw [List.lookup_append, List.lookup_cons, hb]
      rcases Nat.lt_or_gt_of_ne hi with h | h
      · have hgt : (rest.filter fun e => id < e.1).lookup i = none := lookup_filter_of_drop (by simp; omega)
        rw [lookup_filter_of_keep (by simpa using h), hrest, hgt]
        exact Option.or_none
      · have hlt : (rest.filter fun e => e.1 < id).lookup i = none := lookup_filter_of_drop (by simp; omega)
        have hgt : (rest.filter fun e => id < e.1).lookup i = rest.lookup i := lookup_filter_of_keep (by simpa using h)
        rw [hlt, hgt, hrest]
        rfl

/-- The parameters that the module itself keeps: no COMMIT sets them. -/
def OwnParam (i : Nat) : Prop := i = P.serial ∨ i = P.fwVersion ∨ i = P.configSeq ∨ i = P.configState

theorem paramVals_of_not_own (s : State) {i : Nat} (hi : ¬OwnParam i) :
    s.paramVals i = (s.ploza.params.lookup i).getD ((paramRow i).elim [] (·.dflt)) := by
  obtain ⟨h1, h2, h3, h4⟩ : i ≠ P.serial ∧ i ≠ P.fwVersion ∧ i ≠ P.configSeq ∧ i ≠ P.configState := by
    simpa [OwnParam] using hi
  unfold State.paramVals
  rw [if_neg h1, if_neg h2, if_neg h3, if_neg h4]
  cases s.ploza.params.lookup i
  · cases paramRow i <;> rfl
  · rfl

theorem commitOne_ploza (s : State) (h : Hdr) (v : StagedVal) :
    (s.commitOne h v).ploza = { s.ploza with params := setParam s.ploza.params v.id v.val } :=
  State.record_keeps_ploza ..

theorem paramVals_commitOne (s : State) (h : Hdr) (v : StagedVal) {i : Nat} (hi : ¬OwnParam i) :
    (s.commitOne h v).paramVals i = if i = v.id then v.val else s.paramVals i := by
  rw [paramVals_of_not_own _ hi, paramVals_of_not_own _ hi, commitOne_ploza, lookup_setParam]
  split
  · rename_i he
    subst he
    split
    · rename_i hd
      cases hr : paramRow v.id with
      | none => simp [hr] at hd
      | some r => simpa [hr] using hd
    · rfl
  · rfl

/-- After a commit of a list, each parameter has the value staged last for it. -/
theorem paramVals_commits (h : Hdr) {i : Nat} (hi : ¬OwnParam i) (l : List StagedVal) (s : State) :
    (l.foldl (fun s v => s.commitOne h v) s).paramVals i = ((l.reverse.find? (·.id == i)).map (·.val)).getD (s.paramVals i) := by
  induction l generalizing s with
  | nil => rfl
  | cons v l ih =>
    rw [List.foldl_cons, ih, List.reverse_cons, List.find?_append, paramVals_commitOne s h v hi]
    cases l.reverse.find? (·.id == i) with
    | some w => rfl
    | none =>
      by_cases he : i = v.id
      · simp [he]
      · simp [he, Ne.symm he]

theorem commits_ploza (h : Hdr) (l : List StagedVal) (s : State) :
    ∃ ps, (l.foldl (fun s v => s.commitOne h v) s).ploza = { s.ploza with params := ps } ∧ (l = [] → ps = s.ploza.params) := by
  induction l generalizing s with
  | nil => exact ⟨_, rfl, fun _ => rfl⟩
  | cons v l ih =>
    obtain ⟨ps, hps, -⟩ := ih (s.commitOne h v)
    exact ⟨ps, by rw [List.foldl_cons, hps, commitOne_ploza], nofun⟩

theorem commitTable_ploza (s : State) (h : Hdr) : (s.commitTable h).ploza = s.ploza :=
  same_of_but (p := .ploza) (State.commitTable_hide (butMask .ploza) rfl s h)

/-- The state that a COMMIT leaves. -/
def State.committed (s : State) (h : Hdr) : State :=
  let l := s.ploza.staged
  let t := (l.foldl (fun s v => s.commitOne h v) s).commitTable h
  let t := { t with ploza.staged := [], grid.commitIds := l.map (·.id) }
  if l != [] then t.writeImage
  else if s.tableInCommit then { t with
    ploza.images := t.ploza.images.modify t.ploza.activeImage fun x => { x with bank := t.tbl.activeBank }
    ploza.imageWrite := t.ploza.imageWrite.map fun x => { x with bank := t.tbl.activeBank } }
  else t

theorem opCommit_commits {h : Hdr} {s : State} (h1 : s.commitWrongState = none) (h2 : s.commitOutOfRange = none)
    (h3 : s.ploza.imageWrite = none) : opCommit h [] s = okAns (s.committed h)
      (w32 s.grid.frame ++ toLe 2 s.ploza.staged.length ++ toLe 1 (if s.tableInCommit then 1 else 0) ++ [0]) [.stagedSet] := by
  have hbusy : (s.ploza.staged != [] && s.ploza.imageWrite.isSome) = false := by rw [h3, Option.isSome_none, Bool.and_false]
  unfold opCommit State.committed
  rw [h1, h2]
  dsimp only
  rw [hbusy]
  rfl

/-- Writing the configuration image counts CONFIG_SEQ up and leaves the parameters and the staged set. -/
theorem writeImage_ploza (s : State) : ∃ w, s.writeImage.ploza =
    { s.ploza with configSeq := (s.ploza.configSeq + 1) % 2 ^ 32, configState := 0, imageWrite := w } :=
  ⟨_, same_of_but (p := .ploza) (State.nvmAsk_hide (butMask .ploza) rfl ..)⟩

theorem writeImage_grid (s : State) : s.writeImage.grid = s.grid :=
  same_of_but (p := .grid) (State.nvmAsk_hide (butMask .grid) rfl ..)

theorem paramVals_congr {s t : State} (h : t.ploza.params = s.ploza.params) {i : Nat} (hi : ¬OwnParam i) : t.paramVals i = s.paramVals i := by
  rw [paramVals_of_not_own _ hi, paramVals_of_not_own _ hi, h]

/-- What a COMMIT leaves of the interpreter's records, beside the image that is written. -/
theorem committed_facts (s : State) (h : Hdr) :
    (s.committed h).ploza.staged = [] ∧ (s.committed h).grid.commitIds = s.ploza.staged.map (·.id) ∧
      (s.committed h).ploza.params = (s.ploza.staged.foldl (fun s v => s.commitOne h v) s).ploza.params ∧
      (s.committed h).ploza.configSeq =
        if s.ploza.staged = [] then s.ploza.configSeq else (s.ploza.configSeq + 1) % 2 ^ 32 := by
  obtain ⟨ps, hps, -⟩ := commits_ploza h s.ploza.staged s
  have ht := (commitTable_ploza (s.ploza.staged.foldl (fun s v => s.commitOne h v) s) h).trans hps
  unfold State.committed
  rw [hps]
  extract_lets l t _ _ u
  have h1 : u.ploza.staged = [] := rfl
  have h2 : u.grid.commitIds = s.ploza.staged.map (·.id) := rfl
  have h3 : u.ploza.params = ps := by rw [show u.ploza.params = t.ploza.params from rfl, ht]
  have h4 : u.ploza.configSeq = s.ploza.configSeq := by rw [show u.ploza.configSeq = t.ploza.configSeq from rfl, ht]
  clear_value u
  by_cases hl : s.ploza.staged = []
  · have hn : ¬(l != []) = true := by simp [l, hl]
    rw [if_neg hn, if_pos hl]
    exact ite_both (fun x : State => x.ploza.staged = [] ∧ x.grid.commitIds = s.ploza.staged.map (·.id) ∧ x.ploza.params = ps ∧
      x.ploza.configSeq = s.ploza.configSeq) _ _ _ ⟨h1, h2, h3, h4⟩ ⟨h1, h2, h3, h4⟩
  · have hp : (l != []) = true := by simp [l, hl]
    obtain ⟨w, hw⟩ := writeImage_ploza u
    rw [if_pos hp, if_neg hl, hw, writeImage_grid]
    exact ⟨h1, h2, h3, by rw [h4]⟩

/-- Settles O21: the staged values are set one after the other, so that the last one for a parameter stands. -/
theorem commitAppliesTheStagedSet : Obligations.CommitAppliesTheStagedSet := by
  intro h s he h1 h2 h3
  obtain ⟨hstaged, hids, hparams, hseq⟩ := committed_facts s h
  refine ⟨s.committed h, exec_finish he rfl (opCommit_commits h1 h2 h3), hstaged, hids, fun i i1 i2 i3 i4 => ?_, fun hl => ?_, fun hl => ?_⟩
  · have hi : ¬OwnParam i := by simp [OwnParam, i1, i2, i3, i4]
    rw [paramVals_congr hparams hi, paramVals_commits h hi]
  · rw [hseq, if_neg hl]
  · rw [hseq, if_pos hl, hparams, hl]
    exact ⟨rfl, rfl⟩

/-! ### Queries -/

theorem opSnapshot_of_none {h : Hdr} {p : List Byte} {s : State} (hs : sectionShape (getB p 0).toNat = none) :
    opSnapshot h p s = fail s .outOfRange := by
  simp only [opSnapshot, hs]

/-- The section, its first unit and a count other than 0, inside the section. -/
theorem opSnapshot_reads {h : Hdr} {p : List Byte} {s : State} {lo hi n : Nat} (hs : sectionShape (getB p 0).toNat = some (lo, hi, n))
    (h1 : lo ≤ (getB p 1).toNat) (h2 : (getB p 1).toNat + (getB p 2).toNat ≤ hi + 1) (h3 : (getB p 1).toNat ≤ hi) (h0 : getB p 2 ≠ 0) :
    opSnapshot h p s = okAns s (s.sectionPayload (getB p 0).toNat (getB p 1).toNat (getB p 2).toNat 0 0xFF) := by
  simp only [opSnapshot, hs, if_neg h0]
  rw [if_neg]
  simp only [Bool.or_eq_true, decide_eq_true_eq]
  omega

/-- A count of 0 reads to the end of the section. -/
theorem opSnapshot_reads_rest {h : Hdr} {p : List Byte} {s : State} {lo hi n : Nat}
    (hs : sectionShape (getB p 0).toNat = some (lo, hi, n)) (h1 : lo ≤ (getB p 1).toNat) (h3 : (getB p 1).toNat ≤ hi) (h0 : getB p 2 = 0) :
    opSnapshot h p s = okAns s (s.sectionPayload (getB p 0).toNat (getB p 1).toNat (hi + 1 - (getB p 1).toNat) 0 0xFF) := by
  simp only [opSnapshot, hs, if_pos h0]
  rw [if_neg]
  simp only [Bool.or_eq_true, decide_eq_true_eq]
  omega

theorem opSnapshot_outOfRange {h : Hdr} {p : List Byte} {s : State} {lo hi n : Nat}
    (hs : sectionShape (getB p 0).toNat = some (lo, hi, n))
    (hr : (getB p 1).toNat < lo ∨ hi < (getB p 1).toNat ∨ (getB p 2 ≠ 0 ∧ hi + 1 < (getB p 1).toNat + (getB p 2).toNat)) :
    opSnapshot h p s = fail s .outOfRange := by
  simp only [opSnapshot, hs]
  rw [if_pos]
  simp only [Bool.or_eq_true, decide_eq_true_eq]
  rcases hr with hr | hr | ⟨h0, hr⟩
  · exact .inl (.inl hr)
  · exact .inl (.inr hr)
  · rw [if_neg h0]
    omega

theorem opEisResult_wrongState {h : Hdr} {p : List Byte} {s : State} (hs : s.power.st ≠ .run ∨ s.eis.result = none) :
    opEisResult h p s = fail s .wrongState := by
  unfold opEisResult
  dsimp only
  split
  · rename_i hp hr
    rcases hs with hs | hs
    · exact absurd hp hs
    · rw [hs] at hr
      cases hr
  · rfl

theorem opEisResult_outOfRange {h : Hdr} {p : List Byte} {s : State} (hp : s.power.st = .run) (hr : s.eis.result.isSome = true)
    (hb : (getB p 0).toNat = 0 ∨ (getB p 1).toNat < (getB p 0).toNat ∨ 96 < (getB p 1).toNat) :
    opEisResult h p s = fail s .outOfRange := by
  obtain ⟨r, hr⟩ := Option.isSome_iff_exists.mp hr
  simp only [opEisResult, hp, hr]
  exact if_pos (by omega)

theorem opEisResult_reads {h : Hdr} {p : List Byte} {s : State} (hp : s.power.st = .run) (hr : s.eis.result.isSome = true)
    (h1 : 1 ≤ (getB p 0).toNat) (h2 : (getB p 0).toNat ≤ (getB p 1).toNat) (h3 : (getB p 1).toNat ≤ 96) :
    ∃ d, opEisResult h p s = okAns s d := by
  obtain ⟨r, hr⟩ := Option.isSome_iff_exists.mp hr
  simp only [opEisResult, hp, hr]
  exact ⟨_, if_neg (by omega)⟩

/-- Settles O22: each of them answers over the state that it reads. -/
theorem queriesChangeNothing : Obligations.QueriesChangeNothing := by
  refine ⟨fun h p s he => exec_finish he rfl rfl, fun h s => ⟨fun he => exec_finish he rfl rfl, fun he => exec_finish he rfl rfl,
    fun he => exec_finish he rfl rfl, fun he => exec_finish he rfl rfl, fun he => exec_finish he rfl rfl⟩, fun h p s => ?_⟩
  refine ⟨fun he lo hi n hs h1 h2 h3 h0 => exec_finish he rfl (opSnapshot_reads hs h1 h2 h3 h0),
    fun he lo hi n hs => ⟨fun h1 h3 h0 => exec_finish he rfl (opSnapshot_reads_rest hs h1 h3 h0),
      fun hr => exec_finish he rfl (opSnapshot_outOfRange hs hr)⟩,
    fun he hs => exec_finish he rfl (opSnapshot_of_none hs),
    fun he hb => exec_finish he rfl (if_pos (by omega)),
    fun he hb => exec_finish he rfl (if_pos (by change (getB p 4).toNat < 1 ∨ 31 < (getB p 4).toNat; omega)),
    fun he hb => exec_finish he rfl (if_pos (by change (getB p 4).toNat = 0 || 120 < (getB p 4).toNat; simpa using hb)),
    fun he hs => exec_finish he rfl (opEisResult_wrongState hs),
    fun he hp hr hb => exec_finish he rfl (opEisResult_outOfRange hp hr hb),
    fun he h1 h2 h3 => ⟨_, exec_finish he rfl (if_neg (by omega)), fun h0 => ?_, fun h0 => ?_⟩,
    fun he h1 h2 => ⟨_, exec_finish he rfl (if_neg (by change ¬((getB p 4).toNat < 1 ∨ 31 < (getB p 4).toNat); omega)), rfl⟩,
    fun he h1 h2 => ⟨_, exec_finish he rfl (if_neg (by change ¬((getB p 4).toNat = 0 || 120 < (getB p 4).toNat) = true; simp; omega)), rfl⟩,
    fun he hp hr h1 h2 h3 => ?_⟩
  · exact if_pos (by rw [h0]; rfl)
  · exact if_neg (by rw [h0]; decide)
  · obtain ⟨d, hd⟩ := opEisResult_reads (h := h) hp hr h1 h2 h3
    exact ⟨d, exec_finish he rfl hd⟩

end Sys2Proof.Machine
end


section
/-!
PROOFS. MODE, the converter's and the balancing commands, POWER_STATE (00_scope.md R12; 11, 12, 09, 16; 17_ploza_protocol.md R422).
-/

-- One proof after the other: the threads of proofs that are elaborated at once take too much memory together.
set_option Elab.async false

namespace Sys2Proof.Machine

/-! ### MODE -/

/-- A MODE that passes its checks and asks for a change carries it out and is journalled. -/
theorem opMode_applies {h : Hdr} {p : List Byte} {s : State} {m : Mode} (hm : modeOf (getB p 0) = some m) (hmay : s.mayMode m = true)
    (hact : ¬(m = .active ∧ s.grid.mode = .service)) (hsafe : m = .service ∨ s.safe.st = .armed ∨ s.safe.st = .notUsed)
    (hnew : m ≠ s.grid.mode ∨ s.grid.deferredMode.isSome = true) :
    opMode h p s = { st := (s.applyMode m (hdrRef h 0x22 true)).1, claims := [.opMode]
                     s := (s.applyMode m (hdrRef h 0x22 true)).2.journal h.port 0x22 0 (toLe 1 s.grid.mode.code) (toLe 1 m.code) } := by
  have h1 : (!s.mayMode m || (m == .active && s.grid.mode == .service)) = false := by simpa [hmay] using hact
  have h2 : (m != .service && s.safe.st != SafeSt.armed && s.safe.st != SafeSt.notUsed) = false := by
    rcases hsafe with e | e | e <;> rw [e] <;> simp
  have h3 : (m == s.grid.mode && s.grid.deferredMode.isNone) = false := by
    rcases hnew with e | e
    · rw [beq_false_of_ne e, Bool.false_and]
    · rw [Option.isNone_eq_false_iff.mpr e, Bool.and_false]
  simp only [opMode, hm, h1, h2, h3, Bool.false_eq_true, if_false]

theorem opMode_running {h : Hdr} {p : List Byte} {s : State} {m : Mode} (hm : modeOf (getB p 0) = some m) (hmay : s.mayMode m = true)
    (hsame : m = s.grid.mode) (hd : s.grid.deferredMode = none) (hsafe : m = .service ∨ s.safe.st = .armed ∨ s.safe.st = .notUsed) :
    opMode h p s = okAns s [] [.opMode] := by
  have h1 : (!s.mayMode m || (m == .active && s.grid.mode == .service)) = false := by
    rw [hmay, ← hsame]
    cases m <;> rfl
  have h2 : (m != .service && s.safe.st != SafeSt.armed && s.safe.st != SafeSt.notUsed) = false := by
    rcases hsafe with e | e | e <;> rw [e] <;> simp
  have h3 : (m == s.grid.mode && s.grid.deferredMode.isNone) = true := by simp [hsame, hd]
  simp only [opMode, hm, h1, h2, h3, Bool.false_eq_true, if_false, if_true]

theorem opMode_refused {h : Hdr} {p : List Byte} {s : State} {m : Mode} (hm : modeOf (getB p 0) = some m) (hmay : s.mayMode m = true)
    (hact : ¬(m = .active ∧ s.grid.mode = .service)) (hs : m ≠ .service) (ha : s.safe.st ≠ .armed) (hu : s.safe.st ≠ .notUsed) :
    opMode h p s = refuse s 0x09 := by
  have h1 : (!s.mayMode m || (m == .active && s.grid.mode == .service)) = false := by simpa [hmay] using hact
  have h2 : (m != .service && s.safe.st != SafeSt.armed && s.safe.st != SafeSt.notUsed) = true := by simp [hs, ha, hu]
  simp only [opMode, hm, h1, h2, Bool.false_eq_true, if_false, if_true]

/-- What stands for the deferred change when a MODE is carried out: the drain passes to it, and the change is superseded. -/
def State.superseding (s : State) (m : Mode) (r : DeferRef) : State := (s.drainPasses m r).supersedeMode

theorem applyMode_of_deferred {s : State} {d : DeferredMode} (hd : s.grid.deferredMode = some d) (m : Mode) (r : DeferRef) :
    s.applyMode m r = if d.target == m then (.deferred, (s.superseding m r).deferMode m r)
      else match m with
        | .service => (.ok, (s.superseding m r).requestContactors false)
        | m' => (.ok, { s.superseding m r with grid.mode := m' }) := by
  unfold State.applyMode
  rw [hd]
  cases m <;> rfl

theorem superseding_grid {s : State} {d : DeferredMode} (hd : s.grid.deferredMode = some d) (m : Mode) (r : DeferRef) :
    (s.superseding m r).grid = { s.grid with deferredMode := none } := by
  have hg : (s.drainPasses m r).grid = s.grid := same_of_but (p := .grid) (State.drainPasses_hide (butMask .grid) rfl s m r)
  unfold State.superseding State.supersedeMode
  rw [hg, hd]
  exact State.complete_keeps_grid ..

/-- The parts of Table 0.5's changes that an answer shows, with no change deferred. -/
theorem applyMode_of_none {s : State} (hd : s.grid.deferredMode = none) (m : Mode) (r : DeferRef) :
    s.applyMode m r = match m with
      | .service => s.toService r
      | .active => (.ok, { s with grid.mode := .active })
      | .standby =>
        if s.grid.mode == .service then s.toStandby r
        else (.ok, { s with grid.mode := .standby }.beginDrain 2 (some { r with deferred := false })) := by
  unfold State.applyMode
  rw [hd]
  cases m <;> rfl

theorem toStandby_done {s : State} {r : DeferRef} (hk : s.safe.kPos = true ∨ s.safe.st = .notUsed) :
    s.toStandby r = (.ok, { s.requestContactors true with grid.mode := .standby }) := by
  have hc : ((s.requestContactors true).safe.st == SafeSt.notUsed || s.safe.kPos) = true := by
    rcases hk with hk | hk
    · rw [hk, Bool.or_true]
    · rw [show (s.requestContactors true).safe.st = .notUsed from hk]
      rfl
  exact if_pos hc

theorem toStandby_waits {s : State} {r : DeferRef} (hk : s.safe.kPos = false) (ha : s.safe.st = .armed) :
    s.toStandby r = (.deferred, (s.requestContactors true).deferMode .standby r) := by
  have hc : ((s.requestContactors true).safe.st == SafeSt.notUsed || s.safe.kPos) = false := by
    rw [hk, show (s.requestContactors true).safe.st = .armed from ha]
    rfl
  exact if_neg (Bool.eq_false_iff.mp hc)

/-- Settles O24: each row of Table 17.12 is one branch of the change that MODE carries out. -/
theorem modeCommands : Obligations.ModeCommands := by
  intro h p s m he hm
  have run {a : Ans} (ha : opMode h p s = a) : exec (.mode h p) s = .next (s.finish 0x22 h p a) := exec_finish he rfl ha
  refine ⟨fun hd hmay hsame hsafe => run (opMode_running hm hmay hsame hd hsafe), fun d hd hmay hact hsafe => ?_,
    fun hno => run (opMode_wrongState hm (hno.imp_left mayMode_eq_false_of_not_permitted)),
    fun hmay hact hs ha hu => run (opMode_refused hm hmay hact hs ha hu), fun hd hmay hm' hst hsafe => ?_,
    fun hd hmay hm' hne => ?_, fun hd hmay hm' hser hsafe => ?_, fun hd hmay hm' hact hsafe => ?_⟩
  · have hap := opMode_applies (h := h) hm hmay hact hsafe (.inr (by rw [hd]; rfl))
    rw [applyMode_of_deferred hd] at hap
    have hg := superseding_grid hd m (hdrRef h 0x22 true)
    generalize s.superseding m (hdrRef h 0x22 true) = u at hap hg
    refine ⟨fun hdm => ?_, fun hdm => ?_⟩
    · rw [beq_iff_eq.mpr hdm] at hap
      refine ⟨_, run hap, ?_, ⟨{ target := m, ref := hdrRef h 0x22 true }, by rw [State.journal_keeps_grid]; rfl, rfl, rfl⟩⟩
      simp [State.deferMode, hg]
    · rw [beq_false_of_ne hdm] at hap
      cases m with
      | service =>
        refine ⟨_, run hap, ?_, fun h => absurd rfl h, fun _ => ⟨?_, ?_⟩⟩
        · simp [State.requestContactors, hg]
        · simp [State.requestContactors, hg]
        · simp [State.requestContactors]
      | standby => exact ⟨_, run hap, by simp [hg], fun _ => by simp, nofun⟩
      | active => exact ⟨_, run hap, by simp [hg], fun _ => by simp, nofun⟩
  · have hap := opMode_applies (h := h) hm hmay (by rw [hst]; exact nofun) (.inr hsafe) (.inl (by rw [hm', hst]; exact nofun))
    rw [applyMode_of_none hd, hm'] at hap
    exact ⟨_, run hap, by rw [State.journal_keeps_grid]⟩
  · have hap := opMode_applies (h := h) hm hmay (by rw [hm']; exact nofun) (.inl hm') (.inl (by rw [hm']; exact hne.symm))
    rw [applyMode_of_none hd, hm'] at hap
    unfold State.toService at hap
    refine ⟨fun hc => ?_, fun hc => ?_⟩
    · rw [hc] at hap
      exact ⟨_, run hap, by rw [State.journal_keeps_grid]; rfl, by rw [State.journal_keeps_lanes]; rfl⟩
    · rw [if_neg (by simpa using hc)] at hap
      refine ⟨_, run hap, ?_, fun hon hoff => ?_, ?_⟩
      · simp [State.deferMode]
      · rw [State.journal_keeps_conv]
        exact beginDrain_drains { s with grid.mode := .standby } 2 _ (.inl hon) hoff
      · exact ⟨{ target := .service, ref := hdrRef h 0x22 true }, by rw [State.journal_keeps_grid]; rfl, rfl⟩
  · have hap := opMode_applies (h := h) hm hmay (by rw [hm']; exact nofun) (.inr hsafe) (.inl (by rw [hm', hser]; exact nofun))
    rw [applyMode_of_none hd, hm'] at hap
    dsimp only at hap
    rw [hser] at hap
    refine ⟨fun hk => ?_, fun hk ha => ?_⟩
    · rw [if_pos (beq_self_eq_true _), toStandby_done hk] at hap
      exact ⟨_, run hap, by rw [State.journal_keeps_grid], by rw [State.journal_keeps_lanes]; rfl⟩
    · rw [if_pos (beq_self_eq_true _), toStandby_waits hk ha] at hap
      exact ⟨_, run hap, by rw [State.journal_keeps_grid]; exact hser, by rw [State.journal_keeps_lanes]; rfl,
        { target := .standby, ref := hdrRef h 0x22 true }, by rw [State.journal_keeps_grid]; rfl, rfl⟩
  · have hap := opMode_applies (h := h) hm hmay (by rw [hm']; exact nofun) (.inr hsafe) (.inl (by rw [hm', hact]; exact nofun))
    rw [applyMode_of_none hd, hm'] at hap
    dsimp only at hap
    rw [hact] at hap
    refine ⟨_, run hap, ?_, fun hon hoff => ?_⟩
    · simp
    · rw [State.journal_keeps_conv]
      exact beginDrain_drains { s with grid.mode := .standby } 2 _ (.inl hon) hoff

/-! ### The converter's commands -/

theorem journalConv_conv (s : State) (h : Hdr) (op : Nat) (old : FnState) : (s.journalConv h op old).conv = s.conv := State.journal_keeps_conv ..

theorem journalConv_law (s : State) (h : Hdr) (op : Nat) (old : FnState) : (s.journalConv h op old).law = s.law := State.journal_keeps_law ..

theorem journalConv_phase (s : State) (h : Hdr) (op : Nat) (old : FnState) : (s.journalConv h op old).phase = s.phase := State.journal_keeps_phase ..

theorem beginDrain_hwLatch (s : State) (cause : Nat) (r : Option DeferRef) : (s.beginDrain cause r).conv.hwLatch = s.conv.hwLatch := by
  unfold State.beginDrain
  split
  · rfl
  · extract_lets off t _ u back
    have hu : u.conv.hwLatch = s.conv.hwLatch := ite_both (fun x : State => x.conv.hwLatch = s.conv.hwLatch) _ _ _ rfl rfl
    split
    · exact hu
    · rw [addPhases_conv]
      exact hu

/-- The state with a new setpoint, which is journalled. -/
def State.withSetpoint (s : State) (h : Hdr) (m : LawMode) (t : Int) : State :=
  let s' := { s with law.newMode := m, law.target := t }
  s'.journal h.port 0x32 0 s.setpointValue s'.setpointValue

theorem opConvSetpoint_sets {h : Hdr} {p : List Byte} {s : State} {m : LawMode} (hm : lawModeOf (getB p 0) = some m)
    (ht : s.targetOk m (getS p 4 4) = true) (hown : s.ownerReason = 0) : opConvSetpoint h p s =
      okAns (s.withSetpoint h m (getS p 4 4)) (s.withSetpoint h m (getS p 4 4)).setpointBytes [.convSetpoint] := by
  have hb : (s.withSetpoint h m (getS p 4 4)).setpointBytes = ({ s with law.newMode := m, law.target := getS p 4 4 } : State).setpointBytes := by
    unfold State.setpointBytes State.withSetpoint
    rw [State.journal_keeps_law]
  rw [hb]
  simp only [opConvSetpoint, hm, ht, hown, Bool.not_true, Bool.false_eq_true, ne_eq, not_true_eq_false, if_false]
  rfl

/-- Settles O25: the answers of the three commands are the branches of their operations. -/
theorem converterCommands : Obligations.ConverterCommands := by
  intro h p s
  refine ⟨fun he hrun hact => ?_, fun he hno => exec_finish he rfl (if_pos hno), fun he hown => exec_finish he rfl (if_pos hown),
    fun he hown => ?_, fun he m hm => ?_, fun he hm => exec_finish he rfl (by simp only [opConvSetpoint, hm, fail])⟩
  · have hst : ¬(s.power.st ≠ .run ∨ s.grid.mode ≠ .active) := by simp [hrun, hact]
    have run {a : Ans} (ha : opConvEnable h p s = a) : exec (.convEnable h p) s = .next (s.finish 0x30 h p a) := exec_finish he rfl ha
    refine ⟨fun hoff hl hr => ?_, fun hoff hl hr => run ?_, fun hst hto => run ?_, fun hst hto hl => run ?_, fun hst hto hl => run ?_⟩
    · refine ⟨s.beginStart.journalConv h 0x30 s.conv.st, run (by simp [opConvEnable, hrun, hact, hoff, hl, hr]), ?_, ?_, ?_, ?_⟩
      · rw [journalConv_conv]
        rfl
      · rw [journalConv_conv]
        rfl
      · rw [journalConv_law]
        rfl
      · rw [journalConv_phase]
        simp [State.beginStart]
    · simp [opConvEnable, hrun, hact, hoff, hl, hr, refuse]
    · rcases hst with hst | hst <;> simp [opConvEnable, hrun, hact, hst, hto]
    · rcases hst with hst | hst <;> simp [opConvEnable, hrun, hact, hst, hto, hl, fail]
    · simp [opConvEnable, hrun, hact, hst, hto, hl]
  · have run {a : Ans} (ha : opConvDisable h p s = a) : exec (.convDisable h p) s = .next (s.finish 0x31 h p a) := exec_finish he rfl ha
    refine ⟨fun hst hto => ?_, fun hst hto => ?_, fun hoff hhw => run ?_, fun hoff hhw => ?_⟩
    · by_cases hl : s.conv.latched.isSome = true
      · refine ⟨{ s with conv.latched := none, conv.enableOutcome := (2, 0) }.journalConv h 0x31 s.conv.st,
          run (by simp [opConvDisable, hown, hst, hto, hl]), ?_, ?_⟩
        · rw [journalConv_conv]
          exact hst
        · rw [journalConv_conv]
      · exact ⟨s, run (by simp [opConvDisable, hown, hst, hto, hl]), hst, by simpa using hl⟩
    · obtain ⟨hd, hc⟩ := beginDrain_drains s 1 (some (hdrRef h 0x31 false)) hst.symm hto
      refine ⟨(s.beginDrain 1 (some (hdrRef h 0x31 false))).journalConv h 0x31 s.conv.st, run ?_, ?_, ?_, ?_⟩
      · rcases hst with hst | hst <;> simp [opConvDisable, hown, hst, hto]
      · rw [journalConv_conv, hd]
      · rw [journalConv_conv, hc]
      · rw [journalConv_conv, beginDrain_hwLatch]
    · simp [opConvDisable, hown, hoff, hhw, refuse, toLe]
    · have hd : s.conv.st = .off ∨ s.conv.toOff = true := .inl hoff
      by_cases hl : s.conv.latched.isSome = true
      · exact ⟨_, run (by simp only [opConvDisable, hown, hhw, hl, hoff, true_or, ne_eq, not_true_eq_false, and_self, if_false, if_true,
          Bool.false_eq_true]; rfl), by rw [journalConv_conv]⟩
      · by_cases hf : (s.conv.faultLatch || s.conv.latchPend) = true
        · exact ⟨_, run (by simp only [opConvDisable, hown, hhw, hl, hoff, true_or, hf, ne_eq, not_true_eq_false, and_false, if_false, if_true,
            Bool.false_eq_true]; rfl), by rw [journalConv_conv]⟩
        · refine ⟨s, run (by simp only [opConvDisable, hown, hd, hhw, hl, hf, ne_eq, not_true_eq_false, and_false, if_false, if_true,
            Bool.false_eq_true]), ?_⟩
          exact (Bool.or_eq_false_iff.mp (Bool.eq_false_iff.mpr hf)).1
  · refine ⟨fun ht hown => ?_, fun ht hown => exec_finish he rfl ?_, fun ht => exec_finish he rfl ?_⟩
    · exact ⟨s.withSetpoint h m (getS p 4 4), exec_finish he rfl (opConvSetpoint_sets hm ht hown), State.journal_keeps_law ..,
        State.journal_keeps_conv ..⟩
    · simp [opConvSetpoint, hm, ht, hown, refuse]
    · simp [opConvSetpoint, hm, ht, fail]

/-! ### Balancing -/

/-- A plan of Table 17.12 in range. -/
def State.PlanInRange (s : State) (p : List Byte) : Prop :=
  ((getB p 0).toNat = 1 ∨ (getB p 0).toNat = 2) ∧ getU p 2 2 < 65535 ∧
    (((p.drop 4).map (·.toNat)).take s.cells).any (100 < ·) = false

theorem State.PlanInRange.not_out {s : State} {p : List Byte} (h : s.PlanInRange p) :
    ¬(((getB p 0).toNat ≠ 1 ∧ (getB p 0).toNat ≠ 2) ∨ getU p 2 2 = 65535 ∨
      (((p.drop 4).map (·.toNat)).take s.cells).any (100 < ·) = true) := by
  obtain ⟨hsrc, hdur, hduty⟩ := h
  rw [hduty]
  simp only [Bool.false_eq_true, or_false]
  omega

/-- A plan that passes every check waits for the next slot. -/
theorem opBalPlan_takes {h : Hdr} {p : List Byte} {s : State} (hst : s.bal.st ≠ .draining) (hl : s.bal.latched = none)
    (hp : s.PlanInRange p) (hs : (s.slotAt 38).suspended = false) : ∃ (t : State) (d : List Byte),
      opBalPlan h p s = okAns t d [.balPlan] ∧
        t.bal.pendingPlan = some { source := (getB p 0).toNat, duration := getU p 2 2, duty := (p.drop 4).map (·.toNat)
                                   cmd := some (hdrRef h 0x40 false) } ∧
        t.bal.st = (if s.bal.st = .off then .starting else s.bal.st) ∧ t.fe = s.fe := by
  refine ⟨(opBalPlan h p s).s, (opBalPlan h p s).payload, ?_⟩
  unfold opBalPlan
  rw [if_neg hst, if_neg hp.not_out, hl, hs]
  refine ⟨rfl, ?_, ?_, State.journal_keeps_fe ..⟩
  · exact congrArg Bal.pendingPlan (State.journal_keeps_bal ..)
  · exact congrArg Bal.st (State.journal_keeps_bal ..)

theorem opBalStop_drains {h : Hdr} {p : List Byte} {s : State} (hst : s.bal.st = .starting ∨ s.bal.st = .on) : ∃ t : State,
    opBalStop h p s = okAns t [] [.balPlan] ∧ t.bal.st = .draining ∧ t.bal.endCause = 2 ∧ t.bal.drainFrom = s.grid.frame + 2 ∧
      t.fe = s.fe.map fun (f : Fe) => { f with swDec := ((s.grid.frame + 2, 0) :: f.swDec).take 4 } := by
  have hd : s.balDrain 2 (some (hdrRef h 0x41 false)) = _ := if_pos hst
  have hf : opBalStop h p s = okAns ((s.balDrain 2 (some (hdrRef h 0x41 false))).journal h.port 0x41 0
      (((s.bal.pendingPlan <|> s.bal.plan).map fun (q : BalPlan) =>
        toLe 1 q.source ++ [0] ++ toLe 2 q.duration ++ q.duty.flatMap (toLe 1)).getD []) []) [] [.balPlan] := by
    unfold opBalStop
    rcases hst with e | e <;> rw [e]
  refine ⟨_, hf, ?_⟩
  rw [State.journal_keeps_bal, State.journal_keeps_fe, hd]
  exact ⟨rfl, rfl, rfl, rfl⟩

theorem opBalStop_drops {h : Hdr} {p : List Byte} {s : State} (hst : s.bal.st = .off ∨ s.bal.st = .draining)
    (hl : s.bal.latched.isSome = true) : ∃ t : State,
    opBalStop h p s = okAns t [] [.balPlan] ∧ t.bal.latched = none ∧ t.bal.st = s.bal.st ∧ t.fe = s.fe := by
  have hf : opBalStop h p s = okAns (({ s with bal.latched := none, bal.enableOutcome := (2, 0) } : State).journal h.port 0x41 0
      (((s.bal.pendingPlan <|> s.bal.plan).map fun (q : BalPlan) =>
        toLe 1 q.source ++ [0] ++ toLe 2 q.duration ++ q.duty.flatMap (toLe 1)).getD []) []) [] [.balPlan] := by
    unfold opBalStop
    rcases hst with e | e <;> rw [e] <;> exact if_pos hl
  refine ⟨_, hf, ?_⟩
  rw [State.journal_keeps_bal, State.journal_keeps_fe]
  exact ⟨rfl, rfl, rfl⟩

/-- Settles O26: a plan is checked before it is taken up, and a stop drains what runs. -/
theorem balancingCommands : Obligations.BalancingCommands := by
  intro h p s
  refine ⟨fun he => ?_, fun he => ?_⟩
  · have run {a : Ans} (ha : opBalPlan h p s = a) : exec (.balPlan h p) s = .next (s.finish 0x40 h p a) := exec_finish he rfl ha
    refine ⟨fun hst hl => run ?_, fun hst hl hsrc hdur hduty hs => ?_, fun hst hout => run ?_, fun hst hl => run ?_,
      fun hst hl hsrc hdur hduty hs => run ?_⟩
    · simp [opBalPlan, hst, hl]
    · obtain ⟨t, d, ha, ht⟩ := opBalPlan_takes (h := h) hst hl ⟨hsrc, hdur, hduty⟩ hs
      exact ⟨t, d, run ha, ht⟩
    · exact (if_neg hst).trans (if_pos hout)
    · simp [opBalPlan, hst, hl, fail]
    · unfold opBalPlan
      rw [if_neg hst, if_neg (State.PlanInRange.not_out ⟨hsrc, hdur, hduty⟩), hl, hs]
      rfl
  · have run {a : Ans} (ha : opBalStop h p s = a) : exec (.balStop h p) s = .next (s.finish 0x41 h p a) := exec_finish he rfl ha
    refine ⟨fun hst => ?_, fun hst hl => run ?_, fun hst hl => ?_⟩
    · obtain ⟨t, ha, ht⟩ := opBalStop_drains (h := h) (p := p) hst
      exact ⟨t, run ha, ht⟩
    · unfold opBalStop
      rcases hst with e | e <;> rw [e, hl] <;> rfl
    · obtain ⟨t, ha, ht⟩ := opBalStop_drops (h := h) (p := p) hst hl
      exact ⟨t, run ha, ht⟩

/-! ### POWER_STATE and DIAG POWER_TEST -/

theorem journalPower_power (s : State) (h : Hdr) (test : Bool) (old new : PowerSt) : (s.journalPower h test old new).power = s.power :=
  ite_both (fun x : State => x.power = s.power) _ _ _ rfl (State.journal_keeps_power ..)

/-- The request that either command makes. -/
def powerReq (h : Hdr) (test : Bool) (t : PowerSt) : PowerReq :=
  { target := t, ref := some (hdrRef h (if test then 0xF1 else 0x20) true), test := test, broadcast := h.target == 0xFE }

/-- The answer of a request that is carried out later. -/
def State.powerDeferred (s : State) (h : Hdr) (test : Bool) (t : PowerSt) (s' : State) : Ans :=
  { st := .deferred, claims := [.powerState], s := s'.journalPower h test s.power.st t }

section
variable {h : Hdr} {p : List Byte} {s : State} {t : PowerSt} {test : Bool} (ht : powerStOf (getB p (if test then 1 else 0)) = some t)
  (hm : s.mayState t = true)
include ht hm

theorem opPowerState_queued (hp : s.power.phase = .committed ∨ s.power.phase = .returning ∨ s.power.context = .recovery) :
    opPowerState test h p s = s.powerDeferred h test t (s.queueRequest (powerReq h test t)) := by
  have hq : (s.power.phase == .committed || s.power.phase == .returning || s.power.context == .recovery) = true := by
    rcases hp with e | e | e <;> simp [e]
  simp only [opPowerState, ht, hm, hq, Bool.not_true, Bool.false_eq_true, if_false, if_true]
  rfl

variable (hp : s.power.phase = .settled ∨ s.power.phase = .handshake) (hc : s.power.context ≠ .recovery)
include hp hc

theorem opPowerState_answers : opPowerState test h p s =
    if t == s.power.st then
      if s.power.phase == .handshake then
        okAns ((s.endRequest s.power.req 4 0 none).endHandshake.journalPower h test s.power.st t) [] [.powerState]
      else okAns s [] [.powerState]
    else if t.code < s.power.st.code then
      if t == .run && !s.power.auxOk then refuse s 6
      else s.powerDeferred h test t
        { (if s.power.phase == .handshake then (s.endRequest s.power.req 4 0 none).endHandshake else s).recordWake 9 0 s.power.st.code
          false false with power.req := some (powerReq h test t), power.wakePending := some 9 }
    else s.powerDeferred h test t
      ((if s.power.phase == .handshake then s.endRequest s.power.req 4 0 none else s).beginEntry (powerReq h test t) (s.contextOf test)) := by
  have hq : (s.power.phase == .committed || s.power.phase == .returning || s.power.context == .recovery) = false := by
    rcases hp with e | e <;> simp [e, hc]
  simp only [opPowerState, ht, hm, hq, Bool.not_true, Bool.false_eq_true, if_false]
  rfl

end

/-- Settles O28: the request is queued, answered at once, turned into a wake or begins an entry. -/
theorem powerCommands : Obligations.PowerCommands := by
  intro h p s target test c op q he
  have run {a : Ans} (ha : opPowerState test h q s = a) : exec c s = .next (s.finish op h q a) := by
    refine exec_finish (f := opPowerState test) he ?_ ha
    cases test <;> rfl
  have hread : getB q (if test then 1 else 0) = getB p 0 := by cases test <;> rfl
  have hop : op = if test then 0xF1 else 0x20 := rfl
  refine ⟨fun hn => run ?_, fun ht => ?_⟩
  · simp only [opPowerState, hread, hn, fail]
  · rw [← hread] at ht
    refine ⟨fun hno => run (opPowerState_wrongState ht hno), fun hm hp => ?_, fun hm hp hc => ?_⟩
    · refine ⟨_, run (opPowerState_queued ht hm hp), ?_⟩
      rw [journalPower_power]
      obtain ⟨o, ho⟩ := endRequest_eq s s.power.queued 4 0 none
      unfold State.queueRequest
      rw [ho]
      exact ⟨rfl, rfl, rfl, _, rfl, rfl, rfl⟩
    · have hans := opPowerState_answers (h := h) ht hm hp hc
      obtain ⟨o, ho⟩ := endRequest_eq s s.power.req 4 0 none
      refine ⟨fun hst hset => run ?_, fun hst hhs => ?_, fun hlt => ?_, fun hlt hrun haux => run ?_, fun hlt hrun => ?_⟩
      · rw [hans, beq_iff_eq.mpr hst, hset]
        rfl
      · rw [beq_iff_eq.mpr hst, hhs] at hans
        refine ⟨_, run hans, ?_⟩
        rw [journalPower_power]
        refine ⟨rfl, ?_, rfl, fun x y hx hy => ?_⟩
        · rw [ho]
          rfl
        · have e : s.power.req.bind (·.ref) = some y := by rw [hx]; exact hy
          unfold State.endRequest
          rw [e]
          rfl
      · have hne : ¬(target == s.power.st) = true := fun e => absurd (beq_iff_eq.mp e ▸ hlt) (Nat.lt_irrefl _)
        rw [if_neg hne, if_neg (Nat.lt_asymm hlt)] at hans
        refine ⟨_, run hans, ?_⟩
        rw [journalPower_power]
        refine ⟨rfl, rfl, rfl, ?_, fun htest => ?_⟩
        · rw [ho]
          exact ite_both (fun x : State => x.power.st = s.power.st) _ _ _ rfl rfl
        · rw [htest]
          rfl
      · have hne : ¬(target == s.power.st) = true := fun e => absurd (beq_iff_eq.mp e ▸ hlt) (Nat.lt_irrefl _)
        rw [hans, if_neg hne, if_pos hlt, hrun, haux]
        rfl
      · have hne : ¬(target == s.power.st) = true := fun e => absurd (beq_iff_eq.mp e ▸ hlt) (Nat.lt_irrefl _)
        have hr : ¬(target == .run && !s.power.auxOk) = true := by
          simp only [Bool.and_eq_true, beq_iff_eq, Bool.not_eq_true', not_and, Bool.not_eq_false]
          exact hrun
        rw [if_neg hne, if_pos hlt, if_neg hr] at hans
        refine ⟨_, run hans, ?_⟩
        rw [journalPower_power]
        refine ⟨rfl, rfl, ?_⟩
        rw [ho]
        exact ite_both (fun x : State => x.power.st = s.power.st) _ _ _ rfl rfl

end Sys2Proof.Machine
end


section
/-!
PROOFS. The DIAG subcommands that act (17_ploza_protocol.md Table 17.16).
-/

-- One proof after the other: the threads of proofs that are elaborated at once take too much memory together.
set_option Elab.async false

namespace Sys2Proof.Machine

/-! ### DIE_TEMP -/

theorem execDiagDieTemp_of_executes {h : Hdr} {p : List Byte} {s : State} (he : s.executes 0xF1 h (0x01 :: p)) :
    exec (.diagDieTemp h p) s =
      .next { s.startConversion false with ploza.dieAsk := s.ploza.dieAsk ++ [{ hdr := h, payload := 0x01 :: p }] } := by
  obtain ⟨hprot, hon, hlen, hbank, hdup⟩ := he
  have ht : (h.target == 0xFF) = false := by simpa [bankOpcode] using hbank
  change Host.Outcome.next (if s.lanes.protOnly || !s.portsOn then s
    else if !lengthOk (0xF1 : Byte).toNat (0x01 :: p) then _ else if h.target == 0xFF then s else _) = _
  rw [hprot, hon, hlen, ht, hdup]
  rfl

/-! ### FAULT_CLEAR -/

/-- Noting a record moves no cause from bit 22 on. -/
theorem capture_cause_getLsbD (s : State) (kind cause die : Nat) {b : Nat} (hb : 22 ≤ b) :
    (s.capture kind cause die).prot.cause.getLsbD b = s.prot.cause.getLsbD b ∧ (s.capture kind cause die).prot.present = s.prot.present := by
  unfold State.capture
  split
  · exact ⟨rfl, rfl⟩
  · exact ⟨by rw [setBit_getLsbD _ _ _ _ (by omega), if_neg (by omega)], rfl⟩

/-- Clearing the causes of the dies moves none from bit 7 on. -/
theorem clearDies_getLsbD (q : Nat → Bool) (l : List Nat) (hl : ∀ i ∈ l, i < 7) (c : BitVec 32) {b : Nat} (hb : 7 ≤ b) :
    (l.foldl (fun c i => if q i then c else setBit c i false) c).getLsbD b = c.getLsbD b := by
  induction l generalizing c with
  | nil => rfl
  | cons i l ih =>
    have hi := hl i List.mem_cons_self
    rw [List.foldl_cons, ih fun j hj => hl j (List.mem_cons_of_mem _ hj)]
    split
    · rfl
    · rw [setBit_getLsbD _ _ _ _ (by omega), if_neg (by omega)]

/-- A cause that is cleared stays where its source is present. -/
theorem clearCause_getLsbD (s : State) {c b : Nat} (hc : c < 32) (hb : 22 ≤ b) :
    (s.clearCause c).prot.cause.getLsbD b =
        (s.prot.cause.getLsbD b && (decide (b ≠ c) || s.prot.present.getLsbD (b - 22))) ∧
      (s.clearCause c).prot.present = s.prot.present := by
  unfold State.clearCause
  split
  · rename_i h
    extract_lets c' c'' _ s'
    obtain ⟨hcap, hpres⟩ := capture_cause_getLsbD s' 2 (32 - c) (s.prot.lastDie.getD (c - 22) 0) hb
    refine ⟨?_, hpres⟩
    rw [hcap, show s'.prot.cause = c'' from rfl, clearDies_getLsbD _ _ (fun i hi => List.mem_range.mp hi) _ (by omega),
      setBit_getLsbD _ _ _ _ hc]
    by_cases hbc : c = b
    · subst hbc
      have hp : s.prot.present.getLsbD (c - 22) = false := by simp_all
      simp [hp]
    · simp [hbc, Ne.symm hbc]
  · rename_i h
    refine ⟨?_, rfl⟩
    by_cases hbc : b = c
    · subst hbc
      cases hcause : s.prot.cause.getLsbD b
      · rfl
      · simp_all
    · simp [hbc]

theorem clearCauses_getLsbD (l : List Nat) (hl : ∀ c ∈ l, c < 32) (s : State) {b : Nat} (hb : 22 ≤ b) :
    (l.foldl State.clearCause s).prot.cause.getLsbD b =
      (s.prot.cause.getLsbD b && (decide (b ∉ l) || s.prot.present.getLsbD (b - 22))) := by
  induction l generalizing s with
  | nil => simp
  | cons c l ih =>
    obtain ⟨hcause, hpres⟩ := clearCause_getLsbD s (hl c List.mem_cons_self) hb
    rw [List.foldl_cons, ih fun d hd => hl d (List.mem_cons_of_mem _ hd), hcause, hpres]
    by_cases h1 : b = c
    · cases s.prot.present.getLsbD (b - 22) <;> simp [h1]
    · simp [h1]

/-- The state that a FAULT_CLEAR leaves. -/
def State.faultsCleared (s : State) : State :=
  let s' := if s.prot.set.release = 0 then causeBits.foldl State.clearCause s else s
  if s.prot.fifo = [] then { s' with prot.cause := setBit s'.prot.cause 13 false } else s'

theorem opFaultClear_eq (h : Hdr) (p : List Byte) (s : State) : ∃ t : State, opFaultClear h p s = okAns t (w32 (t.prot.cause &&& 0xFFC00000)) ∧
    t.prot = s.faultsCleared.prot := by
  have hp : (opFaultClear h p s).s.prot = s.faultsCleared.prot := State.journal_keeps_prot ..
  refine ⟨(opFaultClear h p s).s, ?_, hp⟩
  rw [hp]
  rfl

theorem faultsCleared_latch {s : State} (hr : s.prot.set.release = 0) {b : Nat} (h1 : 22 ≤ b) (h2 : b ≤ 31) :
    s.faultsCleared.prot.cause.getLsbD b = (s.prot.cause.getLsbD b && s.prot.present.getLsbD (b - 22)) := by
  have hmem : b ∈ causeBits := by
    simp only [causeBits, List.mem_cons, List.not_mem_nil, or_false]
    omega
  have hc : (causeBits.foldl State.clearCause s).prot.cause.getLsbD b = (s.prot.cause.getLsbD b && s.prot.present.getLsbD (b - 22)) := by
    rw [clearCauses_getLsbD causeBits (by decide) s h1, decide_eq_false (not_not.mpr hmem), Bool.false_or]
  unfold State.faultsCleared
  rw [if_pos hr]
  dsimp only
  split
  · exact (setBit_getLsbD _ _ _ _ (by omega)).trans ((if_neg (by omega)).trans hc)
  · exact hc

theorem faultsCleared_auto {s : State} (hr : s.prot.set.release ≠ 0) :
    s.faultsCleared.prot.cause = if s.prot.fifo = [] then setBit s.prot.cause 13 false else s.prot.cause := by
  unfold State.faultsCleared
  rw [if_neg hr]
  dsimp only
  split <;> rfl

/-! ### CELL_RESET -/

theorem opCellReset_resets {h : Hdr} {p : List Byte} {s : State} (hm : s.grid.mode = .service) (h1 : 1 ≤ (getB p 1).toNat)
    (h2 : (getB p 1).toNat ≤ s.cells) : ∃ t : State, opCellReset h p s = okAns t ∧ t.est = (s.initCell (getB p 1).toNat false).est := by
  exact ⟨_, (if_neg (not_not.mpr hm)).trans (if_neg (by omega)), State.journal_keeps_est ..⟩

theorem estAt_initCell_other (s : State) {k n : Nat} (keep : Bool) (hk : 1 ≤ k) (hn : 1 ≤ n) (hne : n ≠ k) :
    (s.initCell k keep).estAt n = s.estAt n := getD_modify_ne _ _ _ _ _ (by omega)

/-! ### THERMO_CAL -/

theorem normalised_calStore (s : State) (k : Nat) (t : Rat) (first : Bool) (n : Nat) (z : Rat) :
    (s.calStore k t first).normalised n z = s.normalised n z := rfl

/-- The references that a point stores: those of the cells of the list, each from its own last estimate. -/
theorem thermoAt_calStores (t : Rat) (first : Bool) {n : Nat} (hn : 1 ≤ n) (l : List Nat) (hl : ∀ k ∈ l, 1 ≤ k) (hd : l.Nodup) (s : State)
    (hlen : n ≤ s.thermo.length) : (n ∉ l → (l.foldl (fun s k => s.calStore k t first) s).thermoAt n = s.thermoAt n) ∧
      (n ∈ l → (l.foldl (fun s k => s.calStore k t first) s).thermoAt n = (s.calStore n t first).thermoAt n) := by
  induction l generalizing s with
  | nil => exact ⟨fun _ => rfl, nofun⟩
  | cons k l ih =>
    have hk := hl k List.mem_cons_self
    obtain ⟨hkl, hd⟩ := List.nodup_cons.mp hd
    obtain ⟨hout, hin⟩ := ih (fun j hj => hl j (List.mem_cons_of_mem _ hj)) hd (s.calStore k t first)
      (by simpa [State.calStore, State.modThermo] using hlen)
    have hother (hne : n ≠ k) : (s.calStore k t first).thermoAt n = s.thermoAt n := getD_modify_ne _ _ _ _ _ (by omega)
    refine ⟨fun hnot => ?_, fun hmem => ?_⟩
    · obtain ⟨hne, hnl⟩ := not_or.mp (mt List.mem_cons.mpr hnot)
      exact (hout hnl).trans (hother hne)
    · by_cases hne : n = k
      · subst hne
        exact hout hkl
      · have hnl : n ∈ l := (List.mem_cons.mp hmem).resolve_left hne
        refine (hin hnl).trans ?_
        have e (u : State) (hu : n ≤ u.thermo.length) : (u.calStore n t first).thermoAt n = _ :=
          State.thermoAt_modThermo u n _ (by omega)
        rw [e _ (by simpa [State.calStore, State.modThermo] using hlen), e _ hlen, normalised_calStore, hother hne]

theorem calCells_nodup (s : State) : s.calCells.Nodup :=
  (List.nodup_range.map fun _ _ h => Nat.succ_injective h).filter _

theorem one_le_of_mem_calCells {s : State} {n : Nat} (hn : n ∈ s.calCells) : 1 ≤ n := by
  obtain ⟨k, -, rfl⟩ := List.mem_map.mp (List.mem_filter.mp hn).1
  exact Nat.succ_pos k

/-- The first point of a calibration at a reference temperature that is given. -/
theorem opThermoCal_first {h : Hdr} {p : List Byte} {s : State} (hp : s.power.st = .run) (hm : s.grid.mode ≠ .service)
    (hpt : getB p 1 = 1) (href : getS p 2 2 ≠ -32768) : ∃ t : State,
      opThermoCal h p s = okAns t (toLe 1 s.calCells.length ++ [0] ++ toLe 2 0) ∧ t.ploza.staged = s.ploza.staged ∧
        t.thermo = (s.calCells.foldl (fun s n => s.calStore n ((getS p 2 2 : Rat) / 100) true) s).thermo := by
  refine ⟨(opThermoCal h p s).s, ?_⟩
  have hpt' : (getB p 1).toNat = 1 := by rw [hpt]; rfl
  have h1 : ¬(s.power.st ≠ .run ∨ s.grid.mode = .service) := by simp [hp, hm]
  have h2 : ¬((getB p 1).toNat < 1 ∨ 2 < (getB p 1).toNat ∨ (getS p 2 2 = -32768 ∧ s.ntc.temp.filterMap id = [])) := by
    rw [hpt']
    simp [href]
  unfold opThermoCal
  dsimp only
  rw [if_neg h1, if_neg h2, if_pos hpt', if_neg href]
  refine ⟨rfl, ?_, State.journal_keeps_thermo ..⟩
  refine (congrArg Ploza.staged (State.journal_keeps_ploza ..)).trans ?_
  exact foldl_keeps (fun s n => s.calStore n ((getS p 2 2 : Rat) / 100) true) (·.ploza.staged) (fun _ _ => rfl) _ _

/-- Settles O29: each subcommand is one operation on the part that it names. -/
theorem diagCommands : Obligations.DiagCommands := by
  intro h p s
  refine ⟨execDiagDieTemp_of_executes, fun he hp hm hc => ?_, fun he hp hm hc => ?_, fun he hno => exec_finish he rfl (if_pos hno),
    fun he => ?_, fun he hm h1 h2 => ?_, fun he hm => exec_finish he rfl (if_pos hm), fun he hm hno => ?_,
    fun he hno => exec_finish he rfl (if_pos hno), fun he hp hm hpt href => ?_⟩
  · exact exec_finish he rfl (by simp [opCurCal, hp, hm, hc])
  · exact exec_finish he rfl (by simp [opCurCal, hp, hm, hc, fail])
  · obtain ⟨t, ha, ht⟩ := opFaultClear_eq h (0x03 :: p) s
    refine ⟨t, exec_finish he rfl ha, fun hr b h1 h2 => ?_, fun hr => ?_⟩
    · rw [ht, faultsCleared_latch hr h1 h2]
    · rw [ht, faultsCleared_auto hr]
  · obtain ⟨t, ha, ht⟩ := opCellReset_resets (h := h) (p := 0x05 :: p) hm h1 h2
    refine ⟨t, exec_finish he rfl ha, fun n hn hne => ?_, fun hl hk => ?_⟩
    · exact (State.estAt_congr ht n).trans (estAt_initCell_other s false h1 hn hne)
    · exact (State.estAt_congr ht _).trans (State.estAt_modEst s _ _ (by change (getB p 0).toNat - 1 < _; omega))
  · exact exec_finish he rfl ((if_neg (not_not.mpr hm)).trans (if_pos (by change (getB p 0).toNat < 1 ∨ s.cells < (getB p 0).toNat; omega)))
  · obtain ⟨t, ha, hs, ht⟩ := opThermoCal_first (h := h) (p := 0x06 :: p) hp hm hpt href
    refine ⟨t, exec_finish he rfl ha, hs, fun n hn hlen => ?_⟩
    have h1 := one_le_of_mem_calCells hn
    have hst := (thermoAt_calStores ((getS (0x06 :: p) 2 2 : Rat) / 100) true h1 s.calCells (fun _ => one_le_of_mem_calCells)
      (calCells_nodup s) s hlen).2 hn
    rw [State.thermoAt_congr ht, hst, State.calStore, State.thermoAt_modThermo s n _ (by omega)]
    exact ⟨rfl, rfl, rfl⟩

end Sys2Proof.Machine
end


section
/-!
PROOFS. The commands of the ring, the safety block, the lanes and the streams, and RESET (17_ploza_protocol.md Table 17.12).
-/

-- One proof after the other: the threads of proofs that are elaborated at once take too much memory together.
set_option Elab.async false

namespace Sys2Proof.Machine

/-! ### RING_ENUMERATE -/

/-- Whether the other modules enumerate is drawn; nothing else moves. -/
theorem allEnum_eq (l : List Nat) (s : State) : (State.allEnum l s).2 = { s with free := (State.allEnum l s).2.free } := by
  induction l generalizing s with
  | nil => rfl
  | cons _ l ih => exact (ih s.draw.2).trans rfl

/-- The module and every one of the list that has been heard stand in SERVICE. -/
def State.allService (s : State) (l : List Nat) : Bool :=
  s.grid.mode == .service && l.all fun k => match s.ring.slots.getD k none with
    | some x => x.state.toNat / 2 ^ 30 == 0
    | none => true

theorem allService_iff (s : State) (l : List Nat) : s.allService l = true ↔
    s.grid.mode = .service ∧ ∀ k ∈ l, ∀ x, s.ring.slots.getD k none = some x → x.state.toNat / 2 ^ 30 = 0 := by
  rw [State.allService, Bool.and_eq_true, beq_iff_eq, List.all_eq_true]
  refine and_congr_right fun _ => forall_congr' fun k => imp_congr_right fun _ => ?_
  cases s.ring.slots.getD k none with
  | none => exact ⟨fun _ => nofun, fun _ => rfl⟩
  | some x => simp

/-- The other modules of the ring. -/
def State.others (s : State) : List Nat := (List.range 8).filter fun k => k != s.ring.position && s.ring.live.getLsbD k

theorem opRingEnumerate_eq (h : Hdr) (p : List Byte) (s : State) : opRingEnumerate h p s =
    if !s.isPrimary then refuse s 0x01
    else if !s.allService s.others then refuse s 0x02
    else if s.pn P.ringPosSrc ≠ 1 then refuse s 0x03
    else if !(State.allEnum s.others s).1 then refuse (State.allEnum s.others s).2 0x03
    else { st := .deferred, s := { (State.allEnum s.others s).2 with
      ring.forming := 16, ring.st := .forming, ring.enumBy := some (hdrRef h 0xA1 true) } } := rfl

/-! ### SAFETY_RESET -/

theorem armSafety_safe (s : State) : s.armSafety.safe =
    { s.safe with st := .armed, cause := 0, gateKill := false, safeOk := true, outFault := 0 } :=
  same_of_but (p := .safe) (State.notifySafety_hide (butMask .safe) rfl _)

theorem opSafetyReset_arms {h : Hdr} {p : List Byte} {s : State} (hst : s.safe.st = .safe ∨ s.safe.st = .tripped)
    (hr : s.safe.resetReady = true) : ∃ t : State, opSafetyReset h p s = okAns t ∧ t.safe = s.armSafety.safe := by
  refine ⟨(opSafetyReset h p s).s, ?_⟩
  unfold opSafetyReset
  rcases hst with e | e <;> rw [e] <;> dsimp only <;> rw [if_pos hr] <;> exact ⟨rfl, State.journal_keeps_safe ..⟩

theorem opSafetyReset_refused {h : Hdr} {p : List Byte} {s : State} (hst : s.safe.st = .safe ∨ s.safe.st = .tripped)
    (hr : s.safe.resetReady = false) : opSafetyReset h p s = fail s .refused (toLe 4 (safeWord s.safe)) := by
  unfold opSafetyReset
  rcases hst with e | e <;> rw [e] <;> exact if_neg (Bool.eq_false_iff.mp hr)

/-! ### ECLIPSE_SWAP -/

theorem opEclipseSwap_answers {h : Hdr} {p : List Byte} {s : State} (hp : s.power.st = .run) (h1 : (s.laneAt false).retired = false)
    (h2 : (s.laneAt true).retired = false) (h3 : s.otherLane.current = true) : opEclipseSwap h p s =
      if s.lanes.swapPhase != 0 || s.lanes.swapBy.isSome then fail s .busy
      else { st := .deferred, s := { s with lanes.swapBy := some (hdrRef h 0xE0 true) }.journal h.port 0xE0 0 (toLe 1 s.laneNo) (toLe 1 s.laneNo) } := by
  have hr : ((s.laneAt false).retired || (s.laneAt true).retired || !s.otherLane.current) = false := by rw [h1, h2, h3]; rfl
  exact (if_neg (not_not.mpr hp)).trans (if_neg (Bool.eq_false_iff.mp hr))

/-! ### STREAM_CONFIG -/

/-- A stream that a classical CAN port could not carry (17 R424, Table 17.12). -/
def State.StreamTooLong (s : State) (port : Port) (c : Nat) : Prop :=
  ((port = .canA ∧ s.canFd false = 0) ∨ (port = .canB ∧ s.canFd true = 0)) ∧ 2048 < 20 + sectionBytes c + 10

section
variable {h : Hdr} {p : List Byte} {s : State} {port : Port} {shape : Nat × Nat × Nat} (hport : streamPort (getB p 1) = some port)
  (hshape : sectionShape (getB p 2).toNat = some shape) (hk : (getB p 0).toNat ≤ 3)
include hport hshape hk

theorem opStreamConfig_stops (hd : getU p 4 2 = 0) :
    opStreamConfig h p s = okAns { s with ploza.streams := setAt s.ploza.streams (getB p 0).toNat none } := by
  simp only [opStreamConfig, hport, hshape, hd]
  rw [if_neg (by simp; omega)]
  rfl

theorem opStreamConfig_too_long (hd : getU p 4 2 ≠ 0) (ht : s.StreamTooLong port (getB p 2).toNat) :
    opStreamConfig h p s = fail s .outOfRange := by
  simp only [opStreamConfig, hport, hshape]
  exact if_pos (by simpa [State.StreamTooLong, hd, Nat.not_lt.mpr hk] using ht)

theorem opStreamConfig_budget (hd : getU p 4 2 ≠ 0) (ht : ¬s.StreamTooLong port (getB p 2).toNat) :
    let l := setAt s.ploza.streams (getB p 0).toNat (some { port := port, sect := (getB p 2).toNat, divider := getU p 4 2 })
    opStreamConfig h p s = if s.portBudget port < portRate l port then fail s .busy else okAns { s with ploza.streams := l } := by
  have hfit : ¬(decide (3 < (getB p 0).toNat) || (((port == .canA && s.canFd false == 0) || (port == .canB && s.canFd true == 0)) &&
      getU p 4 2 != 0 && decide (2048 < 20 + sectionBytes (getB p 2).toNat + 10))) = true := by
    simpa [State.StreamTooLong, hd, Nat.not_lt.mpr hk] using ht
  simp only [opStreamConfig, hport, hshape]
  rw [if_neg hfit, if_neg hd]
  simp only [Option.isSome_some, Bool.true_and, decide_eq_true_eq]

end

theorem opStreamConfig_outOfRange {h : Hdr} {p : List Byte} {s : State}
    (hno : streamPort (getB p 1) = none ∨ sectionShape (getB p 2).toNat = none ∨ 3 < (getB p 0).toNat) :
    opStreamConfig h p s = fail s .outOfRange := by
  unfold opStreamConfig
  dsimp only
  split
  · rename_i port shape hport hshape
    have hk : 3 < (getB p 0).toNat := by
      rcases hno with e | e | e
      · rw [e] at hport
        cases hport
      · rw [e] at hshape
        cases hshape
      · exact e
    exact if_pos (by simp [hk])
  · rfl

/-! ### RESET -/

/-- All of the state but the mode, the interpreter, the lanes and the token. -/
def clearedMask : Nat := 2 ^ 50 - 1 - 2 ^ 37 - 2 ^ 31 - 2 ^ 27 - 2 ^ 48

/-- What a loss of the volatile state leaves: SERVICE, no staged value, no token. -/
structure State.Cleared (s : State) : Prop where
  mode : s.grid.mode = .service
  staged : s.ploza.staged = []
  token : s.lanes.valid = false

theorem State.Cleared.of_fields {s t : State} (hs : s.Cleared) (hm : t.grid.mode = s.grid.mode) (hp : t.ploza.staged = s.ploza.staged)
    (hv : t.lanes.valid = s.lanes.valid) : t.Cleared := ⟨hm.trans hs.mode, hp.trans hs.staged, hv.trans hs.token⟩

theorem State.Cleared.of_hide {s t : State} (hs : s.Cleared) (h : t.hide clearedMask = s.hide clearedMask) : t.Cleared :=
  hs.of_fields (mode_of_hide h rfl) (congrArg Ploza.staged (same_of_hide (p := .ploza) h rfl))
    (congrArg Lanes.valid (same_of_hide (p := .lanes) h rfl))

theorem loseVolatile_cleared (s : State) : s.loseVolatile.Cleared := by
  have h : s.loseLaneData.Cleared := ⟨rfl, rfl, rfl⟩
  have h' := (h.of_hide (State.losePanData_hide clearedMask rfl _)).of_hide (State.startBist_hide clearedMask rfl _)
  unfold State.loseVolatile
  generalize s.loseLaneData.losePanData.startBist = t at h' ⊢
  exact State.Cleared.of_hide (h'.of_fields rfl rfl rfl) (State.initCells_hide clearedMask rfl _ true true)

theorem restart_cleared (s : State) : s.restart.Cleared := by
  have h := loseVolatile_cleared s
  unfold State.restart
  generalize s.loseVolatile = t at h ⊢
  have ht : (t.requestContactors false).Cleared := h.of_fields rfl rfl rfl
  have hd := ht.of_hide (State.driveContactors_hide clearedMask rfl _ false)
  generalize (t.requestContactors false).driveContactors false = u at hd ⊢
  exact hd.of_fields rfl rfl rfl

/-- A journal entry leaves a restart that is asked for. -/
theorem record_sec_restart (s : State) (kind port opcode stagedBy item : Nat) (old new : List Byte) :
    (s.record kind port opcode stagedBy item old new).sec.restart = s.sec.restart := by
  unfold State.record
  split
  · rfl
  · have h : (s.nvmAsk { lane := true, left := 1 }).sec = s.sec := same_of_but (p := .sec) (State.nvmAsk_hide (butMask .sec) rfl ..)
    show (s.nvmAsk { lane := true, left := 1 }).sec.restart = s.sec.restart
    rw [h]

/-- A RESET carried out asks for the restart that follows at once. -/
theorem resetAnswer_restarts {h : Hdr} {p : List Byte} {s : State} (hm : s.grid.mode = .service) (hc : getU p 0 4 = 0xA55A) :
    (s.finish 0xF0 h p (opReset h p s)).sec.restart = true := by
  have ha : opReset h p s = okAns ({ s with sec.restart := true }.journal h.port 0xF0 0 (toLe 1 s.laneNo) (toLe 1 s.laneNo)) := by
    unfold opReset
    rw [if_neg (by rw [hm]; decide), if_neg (not_not.mpr hc)]
  have hset : s.settle h.port (opReset h p s) = opReset h p s := by
    have hs : s.replyTooLong h.port 0 = false := by
      unfold State.replyTooLong
      simp
    rw [ha]
    exact if_neg (Bool.eq_false_iff.mp hs)
  have hsec : (s.finish 0xF0 h p (opReset h p s)).sec = (opReset h p s).s.sec := finish_same (x := .sec) hset (by decide)
  rw [hsec, ha]
  exact record_sec_restart ..

theorem finish_sec_of_not_applied (s : State) (op : Byte) (h : Hdr) (p : List Byte) {st : Status} (hst : st.applied = false) :
    (s.finish op h p { st := st, s := s }).sec = s.sec :=
  finish_same (x := .sec) (settle_not_applied s h.port st hst) (by decide)

theorem execReset_not_applied {h : Hdr} {p : List Byte} {s : State} {st : Status} (he : s.executes 0xF0 h p) (hst : st.applied = false)
    (hr : s.sec.restart = false) (ha : opReset h p s = { st := st, s := s }) :
    exec (.reset h p) s = .next (s.finish 0xF0 h p { st := st, s := s }) := by
  refine congrArg Host.Outcome.next ?_
  rw [runCmd_of_executes he, ha]
  dsimp only
  rw [finish_sec_of_not_applied s _ h p hst, hr]
  rfl

theorem execReset_applied {h : Hdr} {p : List Byte} {s : State} (he : s.executes 0xF0 h p) (hm : s.grid.mode = .service)
    (hc : getU p 0 4 = 0xA55A) (hr : s.sec.restart = false) :
    exec (.reset h p) s = .next (s.finish 0xF0 h p (opReset h p s)).resetTail := by
  refine congrArg Host.Outcome.next ?_
  rw [runCmd_of_executes he]
  dsimp only
  rw [resetAnswer_restarts hm hc, hr]
  rfl

/-- Settles O30: the answers of the commands, and a RESET that restarts the module by the one operation that does so. -/
theorem ringSafetyAndRestartCommands : Obligations.RingSafetyAndRestartCommands := by
  intro h p s
  refine ⟨fun he => ?_, fun he => ?_, fun he hp h1 h2 h3 h4 h5 => ?_, fun he hp hno => ?_, fun he hp h1 h2 h3 hno => ?_,
    fun he port shape hport hshape hk hd => exec_finish he rfl (opStreamConfig_stops hport hshape hk hd),
    fun he shape port hport hshape hk hd => ?_, fun he hno => exec_finish he rfl (opStreamConfig_outOfRange hno),
    fun he hm hr => ?_, fun he hm hc hr => ?_, fun he hm hc hr => ?_⟩
  · have run {a : Ans} (ha : opRingEnumerate h p s = a) : exec (.ringEnumerate h p) s = .next (s.finish 0xA1 h p a) := exec_finish he rfl ha
    have ha := opRingEnumerate_eq h p s
    refine ⟨fun hp => run (ha.trans (if_pos (by rw [hp]; rfl))), ?_⟩
    intro others svc t
    have hsvc : s.allService s.others = true ↔ svc := allService_iff s others
    have hprim (hp : s.isPrimary = true) := ha.trans (if_neg (by rw [hp]; decide))
    have hserv (hp : s.isPrimary = true) (hs : svc) := (hprim hp).trans (if_neg (by rw [hsvc.mpr hs]; decide))
    have hset (hp : s.isPrimary = true) (hs : svc) (h1 : s.pn P.ringPosSrc = 1) := (hserv hp hs).trans (if_neg (not_not.mpr h1))
    refine ⟨fun hp hno => run ((hprim hp).trans (if_pos ?_)), fun hp hs h1 => run ((hserv hp hs).trans (if_pos h1)),
      fun hp hs h1 hall => run ((hset hp hs h1).trans (if_pos ?_)),
      fun hp hs h1 hall => ⟨allEnum_eq others s, run ((hset hp hs h1).trans (if_neg ?_))⟩⟩
    · rw [Bool.eq_false_iff.mpr (mt hsvc.mp hno)]
      rfl
    · rw [show (State.allEnum s.others s).1 = false from hall]
      rfl
    · rw [show (State.allEnum s.others s).1 = true from hall]
      decide
  · refine ⟨fun hst => exec_finish he rfl (by simp only [opSafetyReset, hst, fail]),
      fun hst hr => exec_finish he rfl (opSafetyReset_refused hst hr), fun hst hr => ?_⟩
    obtain ⟨t, ha, ht⟩ := opSafetyReset_arms (h := h) (p := p) hst hr
    refine ⟨t, exec_finish he rfl ha, ?_⟩
    rw [ht, armSafety_safe]
    exact ⟨rfl, rfl, rfl, rfl⟩
  · have ha := (opEclipseSwap_answers (h := h) (p := p) hp h1 h2 h3).trans (if_neg (by rw [h4, h5]; decide))
    exact ⟨_, exec_finish he rfl ha, State.journal_keeps_lanes ..⟩
  · have hr : ((s.laneAt false).retired || (s.laneAt true).retired || !s.otherLane.current) = true := by
      rcases hno with e | e | e <;> simp [e]
    exact exec_finish he rfl ((if_neg (not_not.mpr hp)).trans (if_pos hr))
  · have hb : (s.lanes.swapPhase != 0 || s.lanes.swapBy.isSome) = true := by
      rcases hno with e | e <;> simp [e]
    exact exec_finish he rfl ((opEclipseSwap_answers hp h1 h2 h3).trans (if_pos hb))
  · intro l tooLong
    have hfit (ht : ¬tooLong) := opStreamConfig_budget (h := h) hport hshape hk hd ht
    exact ⟨fun ht => exec_finish he rfl (opStreamConfig_too_long hport hshape hk hd ht),
      fun ht hb => exec_finish he rfl ((hfit ht).trans (if_neg (not_lt.mpr hb))),
      fun ht hb => exec_finish he rfl ((hfit ht).trans (if_pos hb))⟩
  · exact ⟨_, execReset_not_applied he rfl hr (if_pos (bne_iff_ne.mpr hm)), rfl⟩
  · exact execReset_not_applied he rfl hr ((if_neg (by rw [hm]; decide)).trans (if_pos hc))
  · obtain ⟨hmode, hstaged, htoken⟩ := restart_cleared
      (State.writeAll _)
    exact ⟨_, execReset_applied he hm hc hr, rfl, hmode, hstaged, htoken⟩

end Sys2Proof.Machine
end


section
/-!
PROOFS. Firmware, journal, attestation and provisioning (20_security_and_journal.md R462 to R471), table blocks
(08_chemistry_model_table.md R208, R209).
-/

-- One proof after the other: the threads of proofs that are elaborated at once take too much memory together.
set_option Elab.async false

namespace Sys2Proof.Machine

/-! ### JOURNAL_READ -/

/-- Entries with a bad CRC are counted, which changes nothing of the journal. -/
theorem absorbs_sec (l : List (List Byte)) (s : State) : (l.foldl (fun s _ => s.absorb 17 4 0xFF 0 []) s).sec = s.sec :=
  foldl_keeps (fun s _ => State.absorb s 17 4 0xFF 0 []) (·.sec) (fun _ _ => State.absorb_keeps_sec ..) l s

theorem opJournalRead_reads {h : Hdr} {p : List Byte} {s : State} {top : Nat} (htop : s.newestIndex = some top)
    (h1 : 1 ≤ (getB p 4).toNat) (h2 : (getB p 4).toNat ≤ 63) (h3 : getU p 0 4 ≤ top) (h4 : top ≤ getU p 0 4 + 4095) :
    ∃ (t : State) (l : List (List Byte)), opJournalRead h p s = okAns t (toLe 1 l.length ++ zeros 3 ++ l.flatMap id) ∧
      l = (List.range (min (getB p 4).toNat (top + 1 - getU p 0 4))).map (fun i => s.entryBytes (getU p 0 4 + i)) ∧ t.sec = s.sec := by
  refine ⟨(opJournalRead h p s).s, _, ?_, rfl, ?_⟩
  all_goals
    unfold opJournalRead
    rw [htop]
    dsimp only
    rw [if_neg (by simp; omega)]
  · rw [List.length_map, List.length_range]
    rfl
  · exact absorbs_sec _ _

theorem opJournalRead_outOfRange {h : Hdr} {p : List Byte} {s : State} (hno : s.newestIndex = none ∨ (getB p 4).toNat = 0 ∨
    63 < (getB p 4).toNat ∨ (∃ top, s.newestIndex = some top ∧ (top < getU p 0 4 ∨ getU p 0 4 + 4095 < top))) :
    opJournalRead h p s = fail s .outOfRange := by
  unfold opJournalRead
  dsimp only
  split
  · rfl
  · rename_i top htop
    refine if_pos ?_
    simp only [Bool.or_eq_true, decide_eq_true_eq]
    rcases hno with e | e | e | ⟨top', htop', e⟩
    · rw [e] at htop
      cases htop
    · omega
    · omega
    · rw [htop] at htop'
      cases htop'
      omega

/-! ### ATTEST -/

theorem journalHead_eq (s : State) : s.journalHead.2 = { s with free := s.journalHead.2.free } := by
  have hd (n : Nat) (u : State) : (u.drawBytes n).2 = { u with free := (u.drawBytes n).2.free } := by
    induction n generalizing u with
    | zero => rfl
    | succ n ih => exact (ih u.draw.2).trans rfl
  unfold State.journalHead
  split
  · rfl
  · exact hd 36 s

theorem opAttest_counts {h : Hdr} {p : List Byte} {s : State} (hp : s.power.st = .run) (ht : s.sec.tamper = false)
    (ha : s.ploza.attests < 2) : ∃ (t : State) (d : List Byte),
      opAttest h p s = okAns t d ∧ t.ploza.attests = s.ploza.attests + 1 ∧ t.sec = s.sec := by
  have hhead := journalHead_eq s
  refine ⟨(opAttest h p s).s, (opAttest h p s).payload, ?_⟩
  unfold opAttest
  rw [hp, ht, if_neg (by decide), if_neg (by decide), if_neg (by omega)]
  dsimp only
  rw [hhead]
  exact ⟨rfl, rfl, rfl⟩

/-! ### FW_STAGE and FW_ACTIVATE -/

theorem opFwStage_stages {h : Hdr} {p : List Byte} {s : State} (hp : s.power.st = .run) (hv : s.sec.fwVerify = none)
    (ht : s.sec.tamper = false) : opFwStage h p s =
      let l := if getU p 0 4 = 0 then p.drop 4 else s.sec.fwStaged ++ p.drop 4
      if (getU p 0 4 ≠ 0 && getU p 0 4 ≠ s.sec.fwStaged.length) || 2097152 < getU p 0 4 + (p.drop 4).length then fail s .outOfRange
      else okAns { s with sec.fwStaged := l } (toLe 4 (getU p 0 4) ++ toLe 4 l.length) [.firmware] := by
  unfold opFwStage
  rw [hp, hv, ht]
  rfl

theorem opFwActivate_verifies {h : Hdr} {p : List Byte} {s : State} (hp : s.power.st = .run) (hm : s.grid.mode = .service)
    (hv : s.sec.fwVerify = none) (ht : s.sec.tamper = false) : opFwActivate h p s =
      if getU p 0 4 ≠ s.sec.fwStaged.length || getU p 0 4 ≠ 128 + getU s.sec.fwStaged 16 4 || getU s.sec.fwStaged 0 4 ≠ 0x5A583936 ||
        getU s.sec.fwStaged 4 2 ≠ 1 then fail s .outOfRange
      else { st := .deferred, claims := [.firmware], s := { s with sec.fwVerify := some (hdrRef h 0x81 true) } } := by
  unfold opFwActivate
  rw [hp, hm, hv, ht]
  rfl

/-- Settles O31: each of the five is its operation's branches. -/
theorem securityCommands : Obligations.SecurityCommands := by
  intro h p s
  refine ⟨fun he => ?_, fun he => ?_, fun he => ⟨fun top htop h1 h2 h3 h4 => ?_, fun hno => exec_finish he rfl (opJournalRead_outOfRange hno)⟩,
    fun he => ?_, fun he => ?_⟩
  · have run {a : Ans} (ha : opFwStage h p s = a) : exec (.fwStage h p) s = .next (s.finish 0x80 h p a) := exec_finish he rfl ha
    have hst (hp : s.power.st = .run) (hv : s.sec.fwVerify = none) : ¬(s.power.st != PowerSt.run || s.sec.fwVerify.isSome) = true := by
      rw [hp, hv]
      decide
    refine ⟨fun hno => run (if_pos (by simpa using hno)), fun hp hv ht => run ((if_neg (hst hp hv)).trans (if_pos ht)),
      fun hp hv ht => ⟨fun hno => run ((opFwStage_stages hp hv ht).trans (if_pos ?_)), fun h0 hlen => run ?_, fun h0 hlen => run ?_⟩⟩
    · simpa using hno
    · refine ((opFwStage_stages hp hv ht).trans (if_neg ?_)).trans ?_
      · rw [← h0]
        simpa using hlen
      · by_cases hz : getU p 0 4 = 0
        · have hnil : s.sec.fwStaged = [] := List.length_eq_zero_iff.mp (h0.symm.trans hz)
          simp [hz, hnil]
        · rw [if_neg hz, h0]
    · refine ((opFwStage_stages hp hv ht).trans (if_neg ?_)).trans ?_
      · rw [h0, Nat.zero_add]
        simpa using hlen
      · rw [if_pos h0, h0]
  · have run {a : Ans} (ha : opFwActivate h p s = a) : exec (.fwActivate h p) s = .next (s.finish 0x81 h p a) := exec_finish he rfl ha
    have hst (hp : s.power.st = .run) (hm : s.grid.mode = .service) (hv : s.sec.fwVerify = none) :
        ¬(s.power.st != PowerSt.run || s.grid.mode != Mode.service || s.sec.fwVerify.isSome) = true := by
      rw [hp, hm, hv]
      decide
    refine ⟨fun hno => run (if_pos (by simpa [or_assoc] using hno)), fun hp hm hv =>
      ⟨fun ht => run ((if_neg (hst hp hm hv)).trans (if_pos ht)), fun ht hno => run ((opFwActivate_verifies hp hm hv ht).trans (if_pos ?_)),
        fun ht h1 h2 h3 h4 => run ((opFwActivate_verifies hp hm hv ht).trans (if_neg ?_))⟩⟩
    · simpa [or_assoc] using hno
    · simp [← h1, ← h2, h3, h4]
  · obtain ⟨t, l, ha, hl, ht⟩ := opJournalRead_reads (h := h) htop h1 h2 h3 h4
    exact ⟨t, l, exec_finish he rfl ha, hl, ht⟩
  · have hrun (hp : s.power.st = .run) : ¬(s.power.st != PowerSt.run) = true := by rw [hp]; decide
    refine ⟨fun hp => exec_finish he rfl (if_pos (bne_iff_ne.mpr hp)), fun hp ht => exec_finish he rfl ((if_neg (hrun hp)).trans (if_pos ht)),
      fun hp ht ha => exec_finish he rfl (((if_neg (hrun hp)).trans (if_neg (Bool.eq_false_iff.mp ht))).trans (if_pos ha)),
      fun hp ht ha => ?_⟩
    obtain ⟨t, d, hans, hrest⟩ := opAttest_counts (h := h) (p := p) hp ht ha
    exact ⟨t, d, exec_finish he rfl hans, hrest⟩
  · refine ⟨fun hno => exec_finish he rfl (if_pos (by simpa using hno)), fun hp hm => exec_finish he rfl (if_neg ?_)⟩
    rw [hp, hm]
    decide

/-! ### Table blocks -/

theorem acceptBlock_tbl (s : State) (h : Hdr) (b : Nat) (tag : Word) (ws : List Word) (crc : Word) :
    (s.acceptBlock h b tag ws crc).tbl.staged = .loading ∧ (s.acceptBlock h b tag ws crc).tbl.stagedTag = tag ∧
      (s.acceptBlock h b tag ws crc).tbl.reject = 0 ∧ (s.acceptBlock h b tag ws crc).tbl.activeBank = s.tbl.activeBank := by
  unfold State.acceptBlock
  extract_lets fresh t dropped w _ u
  have ht : ((dropped.foldl (fun s x => State.complete s x.cmd .superseded 0 0 0 (toLe 1 x.block)) u).nvmAsk { lane := true, left := 17 }).tbl =
      u.tbl := (same_of_but (p := .tbl) (State.nvmAsk_hide (butMask .tbl) rfl ..)).trans
    (foldl_keeps (fun s (x : TblWrite) => State.complete s x.cmd .superseded 0 0 0 (toLe 1 x.block)) (·.tbl)
      (fun _ _ => State.complete_keeps_tbl ..) dropped u)
  rw [ht]
  exact ⟨rfl, rfl, rfl, rfl⟩

/-- Settles O32: a block is checked, then accepted under its tag; a read looks the stored block up. -/
theorem tableCommands : Obligations.TableCommands := by
  intro h p s
  refine ⟨fun he => ?_, fun he => ⟨fun h1 h0 => exec_finish he rfl (if_pos ⟨beq_iff_eq.mpr h1, h0⟩), fun ws hb h1 hws => exec_finish he rfl ?_⟩⟩
  · have hrange (hb : (getB p 0).toNat ≤ 63) (h1 : getB p 1 = 0) : ¬(63 < (getB p 0).toNat ∨ getB p 1 ≠ 0) := by
      rw [h1]
      simp
      omega
    refine ⟨fun hb => exec_finish he rfl (if_pos (.inl hb)), fun hb h1 hv => exec_finish he rfl ((if_neg (hrange hb h1)).trans (if_pos hv)),
      fun hb h1 hv hc => exec_finish he rfl (((if_neg (hrange hb h1)).trans (if_neg hv)).trans (if_pos hc)), fun hb h1 hv hc => ?_⟩
    obtain ⟨h1', h2', h3', h4'⟩ := acceptBlock_tbl s h (getB p 0).toNat (BitVec.ofNat 32 (getU p 4 4))
      ((List.range 256).map fun i => BitVec.ofNat 32 (getU p (8 + 4 * i) 4)) (BitVec.ofNat 32 (getU p 1032 4))
    exact ⟨_, exec_finish he rfl (((if_neg (hrange hb h1)).trans (if_neg hv)).trans (if_neg (not_not.mpr hc))), h1', h2', h3', h4'⟩
  · have hst : (getB p 1 == 0) = false := by rw [h1]; decide
    have hn : (getB p 1).toNat = 1 := by rw [h1]; rfl
    unfold opTableRead
    rw [hst, hn]
    dsimp only
    rw [if_neg (by simp), if_neg (by omega), if_neg (by decide), hws]

end Sys2Proof.Machine
end


section
/-!
PROOFS. The sample strobe and the boundary (01_one_frame.md R24, R26; 05_frame_budget_scheduler.md R115 to R135), and what
stands in an opened window.
-/

-- One proof after the other: the threads of proofs that are elaborated at once take too much memory together.
set_option Elab.async false

namespace Sys2Proof.Machine

/-! ### Events with a guard -/

/-- An event whose guard holds. -/
theorem next_pos {c : Prop} [Decidable c] {a b : State} (h : c) :
    (.next (if c then a else b) : Host.Outcome State Fault Refusal) = .next a := congrArg _ (if_pos h)

/-- An event whose guard fails. -/
theorem next_neg {c : Prop} [Decidable c] {a b : State} (h : ¬c) :
    (.next (if c then a else b) : Host.Outcome State Fault Refusal) = .next b := congrArg _ (if_neg h)

theorem slot_ok {k : Nat} (h : k < 40) : slotOk k = true := decide_eq_true h

theorem pan_ok {p : Nat} (h : p < 48) : panOk p = true := decide_eq_true h

/-! ### The sample strobe -/

/-- The front-end models and the counters of a strobe, which come after its own changes. -/
def State.modelsStrobed (s : State) : State :=
  (List.range 6).foldl (fun s i => s.feModel (i + 1)) s.ageSet.bridgeDraw.countExcitation

theorem countExcitation_eq (s : State) : s.countExcitation = { s with gov := s.countExcitation.gov } := by
  unfold State.countExcitation
  split <;> rfl

theorem modelsStrobed_eq (s : State) : s.modelsStrobed.grid = s.grid ∧ s.modelsStrobed.fe = s.fe ∧
    s.modelsStrobed.cfe = s.cfe ∧ s.modelsStrobed.ntc = s.ntc ∧ s.modelsStrobed.prot = s.ageSet.prot := by
  have hm {α : Type} (g : State → α) (h : ∀ u i, g (State.feModel u i) = g u) :
      g s.modelsStrobed = g s.ageSet.bridgeDraw.countExcitation :=
    foldl_keeps (fun s i => State.feModel s (i + 1)) g (fun u i => h u (i + 1)) _ _
  have hc := countExcitation_eq s.ageSet.bridgeDraw
  refine ⟨(hm (·.grid) (by simp)).trans ?_, (hm (·.fe) (by simp)).trans ?_, (hm (·.cfe) (by simp)).trans ?_,
    (hm (·.ntc) (by simp)).trans ?_, (hm (·.prot) (by simp)).trans ?_⟩
  all_goals
    rw [hc]
    simp

theorem ageSet_takes {s : State} {x} (h : s.prot.setPending = some x) (ha : s.prot.setAge ≤ 1) :
    s.ageSet.prot.set = x ∧ s.ageSet.prot.setPending = none := by
  unfold State.ageSet
  rw [h]
  dsimp only
  rw [if_pos ha]
  exact ⟨rfl, rfl⟩

theorem ageSet_of_none {s : State} (h : s.prot.setPending = none) : s.ageSet = s := by
  unfold State.ageSet
  rw [h]

/-- Settles O33: the strobe's own changes, then the models, of which only the ageing of the protection set shows here. -/
theorem strobeOpensTheFrame : Obligations.StrobeOpensTheFrame := by
  unfold Obligations.StrobeOpensTheFrame
  intro ntc s hn
  have hexec : exec (.sampleStrobe ntc) s = .next (if s.clockOn then s.strobe ntc else s) := if_pos hn
  rw [hexec]
  refine ⟨fun hc => by rw [if_neg (by simp [hc])], fun hc => ⟨s.strobe ntc, by rw [if_pos hc], ?_⟩⟩
  obtain ⟨a, ha, hframe, hns, htemp, hfronts, hsubs, hset⟩ : ∃ a : State, s.strobe ntc = a.modelsStrobed ∧
      a.grid.frame = s.grid.frame + 1 ∧ a.grid.plantNs = s.grid.plantNs + 100000 ∧ a.ntc.temp = ntc ∧
      a.fe = s.fe.map Fe.strobe ∧ a.cfe.subs = [] ∧ a.prot = s.prot := ⟨_, rfl, rfl, rfl, rfl, rfl, rfl, rfl⟩
  obtain ⟨hgrid, hfe, hcfe, hntc, hprot⟩ := modelsStrobed_eq a
  rw [ha, hgrid, hfe, hcfe, hntc, hprot]
  refine ⟨hframe, hns, htemp, hfronts, hsubs, fun x hx hage => ?_, fun hx => ?_⟩
  · exact ageSet_takes (hset ▸ hx) (hset ▸ hage)
  · rw [ageSet_of_none (hset ▸ hx), hset]

/-! ### The boundary -/

theorem applyDecision_sched (s : State) (lane tail : Bool) : (s.applyDecision lane tail).sched = (s.releaseFor s.sched.window).sched := by
  have hu (t : State) : (t.useDecision lane).sched = t.sched := by
    unfold State.useDecision
    extract_lets f
    generalize (if lane = true then t.decisionFor f else none) = d
    cases d <;> rfl
  unfold State.applyDecision
  extract_lets a b
  have hb : b.sched = a.sched := by
    unfold b
    split <;> rfl
  calc (if tail = true then b.tailOnly else b).sched = b.sched := by split <;> rfl
    _ = a.sched := hb
    _ = _ := hu _

/-- Taking a decision adds the jobs it releases to the schedule and changes nothing else there. -/
theorem takeDecision_sched (s : State) (lane : Bool) : (s.takeDecision lane).sched = (s.releaseFor s.sched.window).sched := by
  unfold State.takeDecision
  split
  · exact State.startShadows_keeps_sched ..
  · exact (State.startShadows_keeps_sched ..).trans (applyDecision_sched ..)

theorem sendMirror_sched (s : State) : s.sendMirror.sched = s.sched := rfl

/-- A window that was opened `late`, with nothing done in it. -/
def Sched.Opened (w : Sched) (late : Nat) : Prop :=
  w.windowOpen = true ∧ w.lateNs = late ∧ w.inTail = decide (0 < late) ∧ w.isComet = false ∧ w.done = []

theorem stepsOf_opened (lane : Bool) (late : Nat) (s : State) : (s.stepsOf lane late).sched.Opened late := by
  unfold State.stepsOf
  extract_lets a b
  have hb : b.sched.Opened late := by
    unfold b
    rw [State.windowWork_keeps_sched, takeDecision_sched]
    exact ⟨rfl, rfl, rfl, rfl, rfl⟩
  split
  · rw [sendMirror_sched, State.laneWork_keeps_sched]
    exact hb
  · exact hb

/-- Settles O34: the guards of a boundary, and the window that its last steps open. -/
theorem boundaryOpensTheWindow : Obligations.BoundaryOpensTheWindow := by
  unfold Obligations.BoundaryOpensTheWindow
  intro late s own
  have hexec : exec (.frameBoundary late) s = .next (s.boundary late) := rfl
  rw [hexec]
  refine ⟨fun hc => ?_, fun hw ho => ?_, fun hc hw => ?_⟩
  · exact congrArg _ (if_pos (by simp [hc]))
  · exact congrArg _ (if_pos (by simpa [hw] using .inr ho))
  · refine ⟨_, _, rfl, (if_neg ?_), ?_⟩
    · simp only [hc, Bool.not_true, Bool.false_or, Bool.and_eq_true, beq_iff_eq, bne_iff_ne]
      rintro ⟨h1, h2⟩
      exact h2 (hw h1)
    · exact stepsOf_opened ..

/-! ### The events of a window -/

theorem le_foldl_max (l : List Nat) (a : Nat) : a ≤ l.foldl max a ∧ ∀ x ∈ l, x ≤ l.foldl max a := by
  induction l generalizing a with
  | nil => simp
  | cons y l ih =>
    obtain ⟨ha, hl⟩ := ih (max a y)
    refine ⟨(le_max_left a y).trans ha, fun x hx => ?_⟩
    obtain rfl | hx := List.mem_cons.mp hx
    · exact (le_max_right a x).trans ha
    · exact hl x hx

theorem powerOf_releaseFor (s : State) (w : Nat) (adm : List Work) (spares : List Nat) :
    (s.releaseFor w).powerOf adm spares = s.powerOf adm spares := rfl

theorem permitExc_unmet (s : State) : s.permitExc true = false := by
  unfold State.permitExc
  rw [Bool.not_true, Bool.and_false, Bool.false_and, Bool.false_and]

/-- The decision that stands for the next window, by the words of R115 and R117. -/
theorem decide115_decides (s : State) : ∃ d : GovDecision, s.decide115.gov.next = ((s.grid.frame + 1, d) :: s.gov.next).take 8 ∧
    d.capUnmet = decide (s.pr P.modulePowerCap < s.powerOf d.admitted d.transit) ∧ (d.capUnmet = true → d.excPermit = false) := by
  unfold State.decide115
  extract_lets w no r pause all spares cap src
  generalize r.withdraw cap (r.withdrawOrder no all spares) (all, spares) = x
  refine ⟨_, rfl, ?_, fun h => ?_⟩
  · exact congrArg (fun y => decide (s.pr P.modulePowerCap < y)) (powerOf_releaseFor s w x.1 x.2)
  · dsimp only at h ⊢
    rw [h, permitExc_unmet]

theorem windowEnds_closes (s : State) (slot late : Nat) : (s.windowEnds slot late).sched.windowOpen = false ∧
    (s.windowEnds slot late).sched.lateNs = late := by
  unfold State.windowEnds
  extract_lets _ _ a
  have ha : a.sched.windowOpen = false ∧ a.sched.lateNs = late := ⟨rfl, rfl⟩
  split
  · rw [show ∀ t : State, (t.offends slot).sched = t.sched from fun t =>
      same_of_but (p := .sched) (State.offends_hide (butMask .sched) rfl t slot)]
    exact ha
  · exact ha

/-! ### Conversions of the die temperature -/

theorem evalThermal_gov (s : State) : s.evalThermal.gov.dieTemp = s.gov.dieTemp ∧ s.evalThermal.gov.dieNoConv = s.gov.dieNoConv ∧
    s.evalThermal.gov.diodeBad = s.gov.diodeBad := by
  have hn (t : State) (k : Nat) (b : List Byte) : (t.notify k b).gov = t.gov := by simp
  unfold State.evalThermal
  extract_lets rise _ a now e new _ b
  have hb : b.gov.dieTemp = s.gov.dieTemp ∧ b.gov.dieNoConv = s.gov.dieNoConv ∧ b.gov.diodeBad = s.gov.diodeBad := ⟨rfl, rfl, rfl⟩
  split
  · rwa [hn]
  split
  · rwa [hn]
  · exact hb

/-- A reading ends the conversion and says whether there was one. -/
theorem reading_ends (s : State) (x : Option Int) : (s.reading x).gov.convBusy = false ∧
    (s.reading x).gov.dieNoConv = x.isNone ∧ (s.reading x).gov.dieTemp = clampInt (-32767) 32767 (x.getD s.gov.dieTemp) ∧
    (x = none → (s.reading x).gov.diodeBad = true) := by
  have hgood (t : State) (v : Int) : (t.goodReading v).gov.dieTemp = t.gov.dieTemp ∧
      (t.goodReading v).gov.dieNoConv = t.gov.dieNoConv := ⟨rfl, rfl⟩
  have hbad (t : State) : t.badReading.gov.dieTemp = t.gov.dieTemp ∧ t.badReading.gov.dieNoConv = t.gov.dieNoConv ∧
      t.badReading.gov.diodeBad = true := by
    unfold State.badReading
    extract_lets fresh _ a
    split
    · rw [State.absorb_keeps_gov]
      exact ⟨rfl, rfl, rfl⟩
    · exact ⟨rfl, rfl, rfl⟩
  have hgrid (t : State) (v : Option Int) : (t.gridReading v).gov.dieTemp = t.gov.dieTemp ∧
      (t.gridReading v).gov.dieNoConv = t.gov.dieNoConv := by
    unfold State.gridReading
    split
    · exact ⟨rfl, rfl⟩
    · exact ⟨rfl, rfl⟩
  unfold State.reading
  extract_lets good _ a b c
  have hb := hgrid a good
  have hc : c.gov.dieTemp = b.gov.dieTemp ∧ c.gov.dieNoConv = b.gov.dieNoConv ∧ (x = none → c.gov.diodeBad = true) := by
    unfold c
    have hx : x = none → good = none := fun e => by rw [show good = x.filter plausibleTemp from rfl, e]; rfl
    generalize good = good at hx ⊢
    rcases good with _ | v
    · exact ⟨(hbad b).1, (hbad b).2.1, fun _ => (hbad b).2.2⟩
    · exact ⟨(hgood b v).1, (hgood b v).2, fun e => nomatch hx e⟩
  obtain ⟨htemp, hno, hdiode⟩ := evalThermal_gov c
  rw [State.dieReplies_keeps_gov]
  refine ⟨rfl, ?_, ?_, fun e => ?_⟩
  · exact hno.trans (hc.2.1.trans hb.2)
  · exact htemp.trans (hc.1.trans hb.1)
  · exact hdiode.trans (hc.2.2 e)

/-! ### A job that was done -/

theorem noteDone_done {s : State} {k : Nat} {j : JobKind} (held : Bool) (hj : jobClass j ≠ 1) :
    (k, j) ∈ (s.noteDone k j held).sched.done := by
  unfold State.noteDone
  rw [if_neg hj]
  exact List.mem_cons_self

theorem jobDone_done (s : State) (p k : Nat) (j : JobKind) (r : JobRes) (hj : jobClass j ≠ 1) :
    (k, j) ∈ (s.jobDone p k j r).sched.done := by
  unfold State.jobDone
  extract_lets a b held c d
  have hd : (k, j) ∈ d.sched.done := by
    unfold d
    rw [State.jobFlags_keeps_sched]
    exact noteDone_done held hj
  split
  · rw [State.shadowed_keeps_sched]
    exact hd
  · exact hd

/-- Settles O35: each event of the governor and of the window by its own function. -/
theorem windowAndGovernorEvents : Obligations.WindowAndGovernorEvents := by
  unfold Obligations.WindowAndGovernorEvents
  intro s
  refine ⟨fun h => ?_, fun h => ?_, fun slot late hk h => ?_, fun slot late hk h => ?_, fun h hc => ?_, fun h hl => ?_, rfl,
    fun k hk h hs => ?_, fun v h => ?_, fun h => ?_, fun pan job res k hp hk hw hc hm hj => ?_⟩
  · obtain ⟨d, hd⟩ := decide115_decides s
    exact ⟨s.decide115, d, next_pos h, hd⟩
  · exact next_neg (by simp [h])
  · exact ⟨_, (if_pos (slot_ok hk)).trans (next_pos h), windowEnds_closes s slot late⟩
  · exact (if_pos (slot_ok hk)).trans (next_neg (by simp [h]))
  · exact next_pos (by simp [h, hc])
  · exact ⟨_, next_pos (by simp [h, hl]), State.absorb_keeps_sched ..⟩
  · have hworst := (le_foldl_max (s.activeSlots.map fun k => (s.slotAt k).unshadowed) 0).2 _ (List.mem_map.mpr ⟨k, hk, rfl⟩)
    exact ⟨_, next_pos ⟨by omega, hs⟩, congrArg (·.transitSuspended) (State.absorb_keeps_sluice ..)⟩
  · obtain ⟨hb, hn, ht, -⟩ := reading_ends s (some v)
    exact ⟨_, next_pos h, hb, hn, ht⟩
  · obtain ⟨hb, hn, -, hd⟩ := reading_ends s none
    exact ⟨_, next_pos h, hb, hn, hd rfl⟩
  · refine ⟨s.jobDone pan k job res, (if_pos (pan_ok hp)).trans ?_, jobDone_done s pan k job res hj⟩
    rw [hk]
    exact next_pos (by simp [hw, hc, hm])

end Sys2Proof.Machine
end


section
/-!
PROOFS. The pan array (04_pan_array.md R97 to R107): faults, loads, self-tests, the frozen sluice, and the NVM port.
-/

-- One proof after the other: the threads of proofs that are elaborated at once take too much memory together.
set_option Elab.async false

namespace Sys2Proof.Machine

/-! ### Pans and slots -/

theorem panAt_modPan_ne (s : State) {p q : Nat} (f : Pan → Pan) (h : q ≠ p) : (s.modPan q f).panAt p = s.panAt p :=
  getD_modify_ne s.pan q p f {} h

/-- Clearing the arbitrations of a pan changes other pans alone. -/
def State.arbCleared (p : Nat) (s : State) (a : Arb) : State :=
  let s := match a.referee with
    | some q => if a.started || q == p then s else s.modPan q fun y => { y with loadFor := none }
    | none => s
  [a.orig, a.shadow].foldl (fun s q => if q == p then s else
    s.modPan q fun y => { y with inArb := false, st := if y.st == PanState.shadowing then .spareIdle else y.st }) s

theorem arbCleared_keeps (p : Nat) (s : State) (a : Arb) :
    ((s.arbCleared p a).panAt p, (s.arbCleared p a).slot) = (s.panAt p, s.slot) := by
  unfold State.arbCleared
  extract_lets u
  have hu : (u.panAt p, u.slot) = (s.panAt p, s.slot) := by
    unfold u
    split
    · split
      · rfl
      · rename_i h
        exact Prod.ext (panAt_modPan_ne s _ fun e => h (by simp [e])) rfl
    · rfl
  refine (foldl_keeps _ (fun t : State => (t.panAt p, t.slot)) (fun t q => ?_) _ u).trans hu
  split
  · rfl
  · rename_i h
    exact Prod.ext (panAt_modPan_ne t _ fun e => h (by simp [e])) rfl

/-- An idle spare with nothing to load halts, and no slot changes. -/
theorem panFails_idle {s : State} {p : Nat} (f : PanFault) (hp : p < s.pan.length) (hst : (s.panAt p).st = .spareIdle)
    (hload : (s.panAt p).loadFor = none) (hmove : s.slot.all (fun y => y.moveTo != some p) = true) :
    ((s.panFails p f).panAt p).st = .halted ∧ ((s.panFails p f).panAt p).lastFault = f ∧ (s.panFails p f).slot = s.slot := by
  unfold State.panFails
  extract_lets x k a gone b _ c d e g
  have ha : (a.panAt p).st = .halted ∧ (a.panAt p).lastFault = f ∧ a.slot = s.slot := by
    have h := State.panAt_modPan s p (fun x => { x with
      st := .halted, lastFault := f, eccRate := x.eccRate || f == .eccRate, shadowOf := none
      loadFor := none, withheld := true, inArb := false, queue := [] }) hp
    exact ⟨congrArg (·.st) h, congrArg (·.lastFault) h, rfl⟩
  have hb : (b.panAt p, b.slot) = (a.panAt p, a.slot) :=
    foldl_keeps (State.arbCleared p) (fun t : State => (t.panAt p, t.slot)) (arbCleared_keeps p) gone a
  obtain ⟨hpan, hslot⟩ := Prod.mk.inj hb
  have hslot' : b.slot = s.slot := hslot.trans ha.2.2
  have hd : d = c := by
    unfold d
    rw [show x.loadFor = none from hload]
  have he : e = c := by
    unfold e
    rw [hd, show c.slot = s.slot from hslot', List.findIdx?_eq_none_iff.mpr fun y hy => by simpa using List.all_eq_true.mp hmove y hy]
  have hg : g = c := by
    refine (if_neg ?_).trans he
    unfold Pan.serving
    rw [show x.st = .spareIdle from hst]
    simp
  rw [hg, State.panAt_congr (State.checkSpares_keeps_pan c), State.checkSpares_keeps_slot,
    show c.panAt p = b.panAt p from rfl, hpan]
  exact ⟨ha.1, ha.2.1, hslot'⟩

/-! ### Loads and self-tests -/

/-- A recipe that was loaded for a move or an arbitration (R97, R100, R102). -/
theorem loaded_idle {s : State} {p k : Nat} (hp : p < s.pan.length) (hk : k < s.slot.length) (hst : (s.panAt p).st = .spareIdle)
    (hload : (s.panAt p).loadFor = some k) (hf : s.sluice.frozen = false) :
    ((s.loaded p k).panAt p).recipe = some (slotRecipe k) ∧
    let mine (a : Arb) : Prop := a.slot = k ∧ (a.referee = some p ∨ (a.referee = none ∧ a.shadow = p))
    ((∀ a ∈ s.sluice.arbs, ¬mine a) → ((s.loaded p k).slotAt k).moveTo = some p ∧ (s.loaded p k).sluice = s.sluice) ∧
    ((∃ a ∈ s.sluice.arbs, mine a) → (s.loaded p k).slot = s.slot ∧
      (s.loaded p k).sluice.arbs.length = s.sluice.arbs.length ∧ ∀ (i : Nat) (a : Arb), s.sluice.arbs[i]? = some a →
        (mine a → (s.loaded p k).sluice.arbs[i]? = some { a with loaded := true }) ∧
        (¬mine a → (s.loaded p k).sluice.arbs[i]? = some a)) := by
  unfold State.loaded
  extract_lets x a forArb _ mine
  have ha : a = s.modPan p fun x => { x with recipe := some (slotRecipe k) } := by
    refine if_neg ?_
    rw [show x.st = .spareIdle from hst]
    decide
  have hpan : (a.panAt p).recipe = some (slotRecipe k) := by
    rw [ha, State.panAt_modPan s p _ hp]
  have hmine (b : Arb) : forArb b = true ↔ mine b := by
    simp only [forArb, mine, Bool.and_eq_true, Bool.or_eq_true, beq_iff_eq, Option.isNone_iff_eq_none]
  have hg : x.loadFor = some k ∧ a.sluice.frozen = false := ⟨hload, by rw [ha]; exact hf⟩
  have harbs : a.sluice = s.sluice := by rw [ha]; rfl
  rw [if_pos hg]
  by_cases hany : ∃ b ∈ s.sluice.arbs, mine b
  · rw [if_pos (by rw [harbs, List.any_eq_true]; simpa only [hmine] using hany)]
    refine ⟨hpan, fun hno => ?_, fun _ => ⟨?_, ?_, fun i b hb => ?_⟩⟩
    · obtain ⟨b, hb, hm⟩ := hany
      exact absurd hm (hno b hb)
    · rw [ha]
      rfl
    · rw [← harbs]
      exact List.length_map ..
    · dsimp only
      rw [harbs, List.getElem?_map, hb, Option.map_some]
      refine ⟨fun hm => ?_, fun hm => ?_⟩
      · rw [if_pos ((hmine b).mpr hm)]
      · rw [if_neg (fun h => hm ((hmine b).mp h))]
  · rw [if_neg (by rw [harbs, List.any_eq_true]; simpa only [hmine] using hany)]
    refine ⟨hpan, fun _ => ⟨?_, harbs⟩, fun h => absurd h hany⟩
    rw [State.slotAt_modSlot a k _ (by rw [ha]; exact hk)]

theorem bistEnds_pan {s : State} {p : Nat} (pass : Bool) (hp : p < s.pan.length) (ha : s.sluice.arbs = []) :
    (pass = true → ((s.bistEnds p pass).checkSpares.panAt p).st = .spareIdle ∧ ((s.bistEnds p pass).checkSpares.panAt p).role = 0xFE) ∧
    (pass = false → ((s.bistEnds p pass).checkSpares.panAt p).st = .retired ∧
      ((s.bistEnds p pass).checkSpares.panAt p).retireCount = satTo 3 ((s.panAt p).retireCount + 1)) := by
  rw [State.panAt_congr (State.checkSpares_keeps_pan _)]
  unfold State.bistEnds
  extract_lets mine
  rw [ha, if_neg (by simp)]
  refine ⟨fun h => ?_, fun h => ?_⟩
  · rw [if_pos h, State.toPool, State.panAt_modPan s p _ hp]
    exact ⟨rfl, rfl⟩
  · rw [if_neg (by simp [h]), State.retirePan, State.panAt_congr (State.absorb_keeps_pan ..), State.panAt_modPan s p _ hp]
    exact ⟨rfl, rfl⟩

/-! ### The frozen sluice and the NVM port -/

theorem freeze_sluice (s : State) (cause : Nat) : (s.freeze cause).sluice.frozen = true ∧ (s.freeze cause).sluice.arbs = [] := by
  unfold State.freeze
  extract_lets _ a b
  have hb : b.sluice = a.sluice := by
    refine foldl_keeps _ (·.sluice) (fun t k => ?_) _ a
    split
    · split
      · exact State.loseRole_keeps_sluice ..
      · rfl
    · rfl
  rw [State.notify_keeps_sluice, hb]
  exact ⟨rfl, rfl⟩

/-- The port goes to the only request that waits. -/
theorem nvmGrant_one (s : State) (r : NvmReq) : { s with nvm.busy := none, nvm.waiting := [r] }.nvmGrant =
    { s with nvm.busy := some r, nvm.waiting := [], nvm.lastLane := r.lane } := by
  unfold State.nvmGrant
  cases hr : r.lane
  · simp [nvmBest, hr]
  · simp [nvmBest, hr]

/-- With no request the port is free. -/
theorem nvmGrant_none (s : State) : { s with nvm.busy := none, nvm.waiting := [] }.nvmGrant =
    { s with nvm.busy := none, nvm.waiting := [] } := rfl

/-- Settles O36: each event of the pan array by its own function. -/
theorem panEvents : Obligations.PanEvents := by
  unfold Obligations.PanEvents
  intro s
  refine ⟨fun pan fault hp h => ?_, fun pan fault hp hl hst hload hmove => ?_, fun pan slot hp hk hl hlk hst hload hf => ?_,
    fun pan hp hl hst ha => ?_, fun pan hp hl hst ha => ?_, fun cause h1 h3 hf => ?_, fun h => ?_, fun r h hr hw => ?_,
    fun r h hr hw => ?_⟩
  · refine (if_pos (pan_ok hp)).trans (next_pos ?_)
    rcases h with h | h | h <;> rw [h] <;> decide
  · refine ⟨s.panFails pan fault, (if_pos (pan_ok hp)).trans (next_neg ?_), panFails_idle fault (hl ▸ hp) hst hload hmove⟩
    rw [hst]
    decide
  · exact ⟨s.loaded pan slot, if_pos (by rw [pan_ok hp, slot_ok hk]; rfl), loaded_idle (hl ▸ hp) (hlk ▸ hk) hst hload hf⟩
  · exact ⟨_, (if_pos (pan_ok hp)).trans (next_pos hst), (bistEnds_pan true (hl ▸ hp) ha).1 rfl⟩
  · exact ⟨_, (if_pos (pan_ok hp)).trans (next_pos hst), (bistEnds_pan false (hl ▸ hp) ha).2 rfl⟩
  · exact ⟨s.freeze cause, (if_pos ⟨h1, h3⟩).trans (next_neg (by simp [hf])), freeze_sluice s cause⟩
  · unfold exec execNvmTransferComplete
    rw [h]
  · unfold exec execNvmTransferComplete
    rw [h]
    dsimp only
    rw [if_neg (by omega), hw]
    exact congrArg _ (nvmGrant_none s)
  · unfold exec execNvmTransferComplete
    rw [h]
    dsimp only
    rw [if_pos hr, hw]
    exact congrArg _ (nvmGrant_one s _)

end Sys2Proof.Machine
end


section
/-!
PROOFS. The packets of the front ends (02_cell_taps_and_front_ends.md R40, R59 to R61; 05_frame_budget_scheduler.md R131,
R134).
-/

-- One proof after the other: the threads of proofs that are elaborated at once take too much memory together.
set_option Elab.async false

namespace Sys2Proof.Machine

/-! ### Units of a list that changes -/

/-- What a change of one element leaves of every element. -/
theorem getD_modify_keeps {α β : Type} (g : α → β) {f : α → α} (hf : ∀ x, g (f x) = g x) (l : List α) (i k : Nat) (d : α) :
    g ((l.modify i f).getD k d) = g (l.getD k d) := by
  by_cases e : i = k
  · subst e
    by_cases h : i < l.length
    · rw [getD_modify _ _ _ _ h, hf]
    · rw [List.getD_eq_default _ _ (by simpa using h), List.getD_eq_default _ _ (by simpa using h)]
  · rw [getD_modify_ne _ _ _ _ _ e]

theorem getD_map_of_lt {α β : Type} (f : α → β) {l : List α} {k : Nat} (h : k < l.length) (d : α) (d' : β) :
    (l.map f).getD k d' = f (l.getD k d) := by
  simp [List.getD, h]

theorem feAt_modFe_ne (s : State) {k fe : Nat} (f : Fe → Fe) (h : fe - 1 ≠ k - 1) : (s.modFe fe f).feAt k = s.feAt k :=
  getD_modify_ne s.fe _ _ f {} h

theorem modFe_feAt_keeps {β : Type} (g : Fe → β) (s : State) (fe k : Nat) {f : Fe → Fe} (hf : ∀ x, g (f x) = g x) :
    g ((s.modFe fe f).feAt k) = g (s.feAt k) := getD_modify_keeps g hf s.fe _ _ {}

/-! ### Room in the buffers -/

/-- A front end whose buffer no longer holds the sample of stamp `old`. -/
def Fe.without (old : Word) (f : Fe) : Fe := { f with buf := f.buf.filter fun y => y.stamp != old }

/-- The oldest waiting sample leaves every buffer (R134). -/
theorem discardSample_old {s : State} {l : List Word} {old : Word} {rest : List Word} (h : s.waitingOf l = old :: rest) :
    (s.discardSample l).sched.discards = bump 0xFF s.sched.discards ∧ (s.discardSample l).sched.discarded = true ∧
    (s.discardSample l).cfe.buf = (s.cfe.buf.filter fun y => y.stamp != old) ∧ (s.discardSample l).grid = s.grid ∧
    (s.discardSample l).fe = s.fe.map (Fe.without old) := by
  unfold State.discardSample
  rw [h]
  dsimp only
  rw [State.absorb_keeps_sched, State.absorb_keeps_cfe, State.absorb_keeps_grid, State.absorb_keeps_fe]
  exact ⟨rfl, rfl, rfl, rfl, rfl⟩

/-- The state with room for one more sample of front end `fe`. -/
def State.roomFor (s : State) (fe : Nat) : State :=
  if 3 ≤ s.waitingIn (s.feAt fe) then s.discardSample ((s.feAt fe).buf.map (·.stamp)) else s

theorem roomFor_full {s : State} {fe : Nat} (h : 3 ≤ s.waitingIn (s.feAt fe)) :
    s.roomFor fe = s.discardSample ((s.feAt fe).buf.map (·.stamp)) := if_pos h

/-- Room is made in the buffers alone. -/
theorem roomFor_keeps {s : State} {fe : Nat} (h : fe - 1 < s.fe.length) : (s.roomFor fe).fe.length = s.fe.length ∧
    ∃ b, (s.roomFor fe).feAt fe = { s.feAt fe with buf := b } ∧ (s.waitingIn (s.feAt fe) < 3 → b = (s.feAt fe).buf) := by
  by_cases hw : 3 ≤ s.waitingIn (s.feAt fe)
  · rw [roomFor_full hw]
    rcases hl : s.waitingOf ((s.feAt fe).buf.map (·.stamp)) with _ | ⟨old, rest⟩
    · rw [State.waitingIn, hl] at hw
      simp at hw
    · obtain ⟨-, -, -, -, hfe⟩ := discardSample_old hl
      refine ⟨by rw [hfe, List.length_map], (s.feAt fe).buf.filter fun y => y.stamp != old, ?_, fun hlt => absurd hw (by omega)⟩
      rw [State.feAt, hfe]
      exact getD_map_of_lt (Fe.without old) h {} {}
  · rw [State.roomFor, if_neg hw]
    exact ⟨rfl, _, rfl, fun _ => rfl⟩

theorem framePacket_up {s : State} {fe : Nat} {bs : List Byte} {lo hi : BitVec 16} (ha : s.feActive fe = true)
    (hu : (s.feAt fe).linkUp = true) (hl : (s.feAt fe).lost = false) :
    s.framePacket fe bs lo hi = (if feGood fe (s.grid.frame - 1) bs then
      (s.roomFor fe).goodPacket fe (feSampleOf (s.grid.frame - 1) bs lo hi)
      else (s.roomFor fe).badPacket fe (s.grid.frame - 1)).noteBacklog :=
  if_neg (by simp [ha, hu, hl])

/-! ### What a packet leaves of the front ends -/

/-- The part of a front end that a packet's own rules write. -/
def Fe.link (f : Fe) : Nat × Nat × Nat × List FeSample := (f.badRun, f.heldRun, f.skipSamples, f.buf)

theorem absorb_ite_fe (c : Prop) [Decidable c] (s : State) (i j k l : Nat) (b : List Byte) :
    (if c then s.absorb i j k l b else s).fe = s.fe := by
  split
  · exact State.absorb_keeps_fe ..
  · rfl

theorem noteStatus_link (s : State) (fe : Nat) (x : FeSample) (k : Nat) :
    ((s.noteStatus fe x).feAt k).link = (s.feAt k).link := by
  unfold State.noteStatus
  extract_lets f aux stk bc edge frames burst a b c d
  have ha : (a.feAt k).link = (s.feAt k).link := modFe_feAt_keeps Fe.link s fe k (by exact fun _ => rfl)
  have hd : d.fe = a.fe := (absorb_ite_fe ..).trans ((absorb_ite_fe ..).trans (absorb_ite_fe ..))
  refine (congrArg Fe.link (State.feAt_congr (t := a) ?_ k)).trans ha
  split
  · exact (State.absorb_keeps_fe ..).trans hd
  · exact hd

theorem goodPacket_link (s : State) (fe : Nat) (x : FeSample) (k : Nat) : ((s.goodPacket fe x).feAt k).link =
    ((s.modFe fe fun f => { f with badRun := 0, heldRun := 0, skipSamples := f.skipSamples - 1
                                   buf := f.buf ++ [if 0 < (s.feAt fe).skipSamples then { x with bad := true } else x] }).feAt k).link := by
  unfold State.goodPacket
  extract_lets f a x' b
  have ha : a.fe = s.fe := absorb_ite_fe ..
  rw [State.feAt_congr (State.nameCells_keeps_fe ..), State.feAt_congr (State.noteImax_keeps_fe ..),
    State.feAt_congr (State.takeCurrents_keeps_fe ..), noteStatus_link]
  unfold b State.modFe
  rw [ha]
  rfl

theorem badPacket_fe {s : State} {fe : Nat} (stamp : Word) (h : fe - 1 < s.fe.length) :
    let f := (s.badPacket fe stamp).feAt fe
    let run := (s.feAt fe).badRun + 1
    f.badRun = run ∧ f.heldRun = satTo 3 run ∧ f.crcErrors = bump 0xFFFF (s.feAt fe).crcErrors ∧
    f.linkUp = (!decide (4 ≤ run) && (s.feAt fe).linkUp) ∧ f.relinking = (decide (4 ≤ run) || (s.feAt fe).relinking) ∧
    f.buf = (s.feAt fe).buf ++ [{ (s.feAt fe).buf.getLastD {} with stamp := stamp, held := true, bad := decide (4 ≤ run) }] := by
  unfold State.badPacket
  extract_lets f run _ x a f' run'
  have ha : a.feAt fe = { s.feAt fe with
      badRun := run, heldRun := satTo 3 run, crcErrors := bump 0xFFFF (s.feAt fe).crcErrors, buf := (s.feAt fe).buf ++ [x] } :=
    State.feAt_modFe s fe _ h
  by_cases h4 : 4 ≤ run
  · have hf : f' = { a.feAt fe with linkUp := false, relinking := true, relinkTries := 0, attempt := true } := by
      refine (congrArg (State.feAt · fe) (if_pos h4)).trans (State.feAt_modFe a fe _ ?_)
      exact (List.length_modify ..).symm ▸ h
    rw [hf, ha]
    exact ⟨rfl, rfl, rfl, by simp [show 4 ≤ run' from h4], by simp [show 4 ≤ run' from h4], rfl⟩
  · have hf : f' = a.feAt fe := congrArg (State.feAt · fe) (if_neg h4)
    rw [hf, ha]
    exact ⟨rfl, rfl, rfl, by simp [show ¬4 ≤ run' from h4], by simp [show ¬4 ≤ run' from h4], rfl⟩

theorem badPacket_buf_ne (s : State) {fe k : Nat} (stamp : Word) (h : fe - 1 ≠ k - 1) :
    (s.badPacket fe stamp).feAt k = s.feAt k := by
  unfold State.badPacket
  extract_lets f run _ x a
  have ha : a.feAt k = s.feAt k := feAt_modFe_ne s _ h
  split
  · exact (feAt_modFe_ne a _ h).trans ha
  · exact ha

theorem noteBacklog_eq (s : State) :
    s.noteBacklog = { s with sched := { s.sched with maxBacklog := s.noteBacklog.sched.maxBacklog } } := by
  unfold State.noteBacklog
  split <;> rfl

theorem noteBacklog_feAt (s : State) (k : Nat) : s.noteBacklog.feAt k = s.feAt k :=
  State.feAt_congr (congrArg State.fe (noteBacklog_eq s)) k

/-- `t` comes from `u` with the schedule, the CFE port and the buffers of the other front ends as they were. -/
def State.OwnFeOnly (fe : Nat) (u t : State) : Prop :=
  t.sched = u.sched ∧ t.cfe = u.cfe ∧ ∀ k, fe - 1 ≠ k - 1 → (t.feAt k).buf = (u.feAt k).buf

theorem goodPacket_own (u : State) (fe : Nat) (x : FeSample) : u.OwnFeOnly fe (u.goodPacket fe x) := by
  refine ⟨same_of_but (p := .sched) (State.goodPacket_hide (butMask .sched) rfl ..),
    same_of_but (p := .cfe) (State.goodPacket_hide (butMask .cfe) rfl ..), fun k hk => ?_⟩
  have h := goodPacket_link u fe x k
  rw [feAt_modFe_ne u _ hk] at h
  exact congrArg (·.2.2.2) h

theorem badPacket_own (u : State) (fe : Nat) (stamp : Word) : u.OwnFeOnly fe (u.badPacket fe stamp) :=
  ⟨same_of_but (p := .sched) (State.badPacket_hide (butMask .sched) rfl ..),
    same_of_but (p := .cfe) (State.badPacket_hide (butMask .cfe) rfl ..), fun _ hk => by rw [badPacket_buf_ne u _ hk]⟩

/-- Beside its own front end, a packet only makes room and notes the backlog. -/
theorem framePacket_room {s : State} {fe : Nat} (bs : List Byte) (lo hi : BitVec 16) (ha : s.feActive fe = true)
    (hu : (s.feAt fe).linkUp = true) (hl : (s.feAt fe).lost = false) :
    ∃ t : State, s.framePacket fe bs lo hi = t.noteBacklog ∧ (s.roomFor fe).OwnFeOnly fe t := by
  refine ⟨_, framePacket_up ha hu hl, ?_⟩
  split
  · exact goodPacket_own ..
  · exact badPacket_own ..

/-- Settles O37: room is made on every port, and the packet then writes its own front end. -/
theorem frontEndPackets : Obligations.FrontEndPackets := by
  unfold Obligations.FrontEndPackets
  intro fe bs lo hi s h1 h6 hlen stamp run
  have hexec : exec (.feFramePacket fe bs lo hi) s = .next (s.framePacket fe bs lo hi) := if_pos (by simp [feOk, h1, h6])
  have hfe : fe - 1 < s.fe.length := by omega
  obtain ⟨hroomlen, buf, hroom, hbuf⟩ := roomFor_keeps hfe
  have hin : fe - 1 < (s.roomFor fe).fe.length := by omega
  have hsat : satTo 3 run = min 3 run := by
    unfold satTo
    split <;> omega
  refine ⟨fun h => ?_, fun ha hu hl => ⟨fun hg => ⟨_, hexec, ?_⟩, fun hg => ⟨_, hexec, ?_⟩, fun hw old rest hold => ⟨_, hexec, ?_⟩⟩⟩
  · rw [hexec]
    refine congrArg _ (if_pos ?_)
    rcases h with h | h | h <;> simp [h]
  · rw [framePacket_up ha hu hl, if_pos hg, noteBacklog_feAt]
    have h := goodPacket_link (s.roomFor fe) fe (feSampleOf (s.grid.frame - 1) bs lo hi) fe
    rw [State.feAt_modFe _ _ _ hin, hroom] at h
    obtain ⟨hbad, hheld, hskip, hb⟩ : _ ∧ _ ∧ _ ∧ _ := by simpa only [Fe.link, Prod.mk.injEq] using h
    exact ⟨hbad, hheld, hskip, fun hw => hb.trans (by rw [hbuf hw])⟩
  · rw [framePacket_up ha hu hl, if_neg (ne_true_of_eq_false hg), noteBacklog_feAt]
    obtain ⟨hbad, hheld, hcrc, hlink, hre, hb⟩ := badPacket_fe (s.grid.frame - 1) hin
    rw [hroom] at hbad hheld hcrc hlink hre hb
    refine ⟨hbad, hheld.trans hsat, hcrc, hlink.trans ?_, hre, fun hw => hb.trans (by rw [hbuf hw])⟩
    rw [hu, Bool.and_true]
    exact (decide_not (p := 4 ≤ run)).symm.trans (decide_eq_decide.mpr not_le)
  · obtain ⟨t, ht, hsched, hcfe, hk⟩ := framePacket_room bs lo hi ha hu hl
    obtain ⟨od, odd, ocfe, -, ofe⟩ := discardSample_old hold
    rw [roomFor_full hw] at hsched hcfe hk
    rw [ht, noteBacklog_eq]
    refine ⟨(congrArg (·.discards) hsched).trans od, (congrArg (·.discarded) hsched).trans odd,
      (congrArg (·.buf) hcfe).trans ocfe, fun k hk1 hk6 hne => (hk k (by omega)).trans ?_⟩
    rw [State.feAt, ofe]
    exact congrArg (·.buf) (getD_map_of_lt (Fe.without old) (show k - 1 < s.fe.length by omega) {} {})

end Sys2Proof.Machine
end


section
/-!
PROOFS. The links and supplies of the front ends and of the CFE (01_one_frame.md R29, 02_cell_taps_and_front_ends.md R39 to
R74, 03_current_front_end.md).
-/

-- One proof after the other: the threads of proofs that are elaborated at once take too much memory together.
set_option Elab.async false

namespace Sys2Proof.Machine

theorem port_ok {k : Nat} (h1 : 1 ≤ k) (h7 : k ≤ 7) : portNoOk k = true := by
  simp [portNoOk, h1, h7]

/-! ### Front ends that change -/

theorem modify_congr {α : Type} (l : List α) (i : Nat) (d : α) {f g : α → α} (h : f (l.getD i d) = g (l.getD i d)) :
    l.modify i f = l.modify i g := by
  refine List.ext_getElem? fun k => ?_
  rw [List.getElem?_modify, List.getElem?_modify]
  rcases hk : l[k]? with _ | x
  · rfl
  · by_cases e : i = k
    · subst e
      simpa [List.getD, hk] using h
    · simp [e]

theorem modFe_congr {s : State} {fe : Nat} {f g : Fe → Fe} (h : f (s.feAt fe) = g (s.feAt fe)) : s.modFe fe f = s.modFe fe g := by
  unfold State.modFe
  rw [modify_congr s.fe (fe - 1) {} h]

theorem startRelink_feAt {s : State} {fe : Nat} (h : fe - 1 < s.fe.length) : (s.startRelink fe).feAt fe =
    { s.feAt fe with linkUp := false, relinking := true, relinkTries := 0, attempt := true } := State.feAt_modFe s fe _ h

theorem modFe_length (s : State) (fe : Nat) (f : Fe → Fe) : (s.modFe fe f).fe.length = s.fe.length := List.length_modify ..

/-! ### Lines and attempts of a front end -/

/-- A line that goes down (R60). -/
def State.lineLost (s : State) (fe : Nat) : State :=
  let s := s.modFe fe fun f => { f with lineDown := true, linkUp := false, heldRun := 0 }
  if (s.feAt fe).lost then s else s.startRelink fe

theorem lineLost_feAt {s : State} {fe : Nat} (h : fe - 1 < s.fe.length) : ((s.lineLost fe).feAt fe).lineDown = true ∧
    ((s.lineLost fe).feAt fe).linkUp = false ∧
    ((s.lineLost fe).feAt fe).relinking = (!(s.feAt fe).lost || (s.feAt fe).relinking) := by
  unfold State.lineLost
  extract_lets a
  have ha : a.feAt fe = { s.feAt fe with lineDown := true, linkUp := false, heldRun := 0 } := State.feAt_modFe s fe _ h
  have hlen : fe - 1 < a.fe.length := (modFe_length ..).symm ▸ h
  rw [show (a.feAt fe).lost = (s.feAt fe).lost from congrArg (·.lost) ha]
  cases hl : (s.feAt fe).lost
  · rw [if_neg (by simp), startRelink_feAt hlen, ha]
    exact ⟨rfl, rfl, rfl⟩
  · rw [if_pos rfl, ha]
    exact ⟨rfl, rfl, rfl⟩

theorem filter_delayOk {d : Nat} (h50 : 50 ≤ d) (h400 : d ≤ 400) : (some d).filter delayOk = some d := by
  simp [Option.filter, delayOk, h50, h400]

theorem filter_delayOk_none {x : Option Nat} (h : ∀ d, x = some d → d < 50 ∨ 400 < d) : x.filter delayOk = none := by
  rcases x with _ | d
  · rfl
  · have hd : delayOk d = false := by
      have := h d rfl
      simp only [delayOk, Bool.and_eq_false_iff, decide_eq_false_iff_not]
      omega
    simp [Option.filter, hd]

/-- An attempt that ends with a delay in range (R61). -/
theorem relinkEnd_feAt_up {s : State} {fe d : Nat} (h : fe - 1 < s.fe.length) (h50 : 50 ≤ d) (h400 : d ≤ 400) :
    (s.relinkEnd fe (some d)).feAt fe =
      { s.feAt fe with linkUp := true, relinking := false, attempt := false, relinkTries := 0, delayNs := d, lineDown := false
                       badRun := 0, heldRun := 0, skipSamples := 2 } := by
  unfold State.relinkEnd
  extract_lets f
  rw [filter_delayOk h50 h400]
  dsimp only
  have hfe := absorb_ite_fe (4 ≤ f.badRun) s 1 2 fe 0 []
  rw [State.feAt_congr (State.linksUp_keeps_fe _), State.feAt_modFe _ _ _ (by rw [hfe]; exact h), State.feAt_congr hfe]

theorem relinkEnd_feAt_down {s : State} {fe : Nat} {x : Option Nat} (h : fe - 1 < s.fe.length)
    (hx : ∀ d, x = some d → d < 50 ∨ 400 < d) : ((s.relinkEnd fe x).feAt fe).attempt = false ∧
      ((s.relinkEnd fe x).feAt fe).lost = (decide (10 ≤ (s.feAt fe).relinkTries + 1) || (s.feAt fe).lost) := by
  unfold State.relinkEnd
  extract_lets f _ a
  rw [filter_delayOk_none hx]
  dsimp only
  have ha : a.feAt fe = { s.feAt fe with attempt := false, relinkTries := (s.feAt fe).relinkTries + 1, attemptAt := s.grid.frame } :=
    State.feAt_modFe s fe _ h
  have hlen : fe - 1 < a.fe.length := (modFe_length ..).symm ▸ h
  by_cases h10 : 10 ≤ f.relinkTries + 1
  · rw [if_pos h10, State.feAt_congr (State.notify_keeps_fe ..), State.feAt_modFe _ _ _ hlen, ha]
    exact ⟨rfl, by simp [show 10 ≤ (s.feAt fe).relinkTries + 1 from h10]⟩
  · rw [if_neg h10, ha]
    exact ⟨rfl, by simp [show ¬10 ≤ (s.feAt fe).relinkTries + 1 from h10]⟩

/-! ### The delay measurement -/

/-- What a measured delay does on a front end (R62). -/
def Fe.measured (d : Nat) (f : Fe) : Fe :=
  if !f.linkUp then f
  else if !delayOk d then { f with linkUp := false, relinking := true, relinkTries := 0, attempt := true }
  else
    let far := decide (10 < ((d : Int) - f.delayNs).natAbs)
    { f with strobeAdj := far, delayNext := if far then some d else f.delayNext }

theorem measureDelay_feAt {s : State} {fe : Nat} (d : Nat) (h6 : fe ≤ 6) (h : fe - 1 < s.fe.length) :
    (s.measureDelay fe d).feAt fe = (s.feAt fe).measured d := by
  unfold State.measureDelay Fe.measured
  rw [if_neg (by omega)]
  split
  · rfl
  split
  · exact startRelink_feAt h
  · exact State.feAt_modFe s fe _ h

theorem measureDelay_feAt_ne (s : State) {j k : Nat} (d : Nat) (hj : 1 ≤ j) (hk : 1 ≤ k) (h : j ≠ k) :
    (s.measureDelay j d).feAt k = s.feAt k := by
  have hne : j - 1 ≠ k - 1 := by omega
  unfold State.measureDelay
  split
  · split
    · rfl
    · split
      · rfl
      · split <;> rfl
  split
  · rfl
  split
  · exact feAt_modFe_ne s _ hne
  · exact feAt_modFe_ne s _ hne

theorem measureDelay_length (s : State) (j d : Nat) : (s.measureDelay j d).fe.length = s.fe.length := by
  unfold State.measureDelay
  split
  · split
    · rfl
    · split
      · rfl
      · split <;> rfl
  split
  · rfl
  split
  · exact modFe_length ..
  · exact modFe_length ..

theorem measureDelays_feAt (l : List Nat) (n : Nat) {s : State} {k : Nat} (hk : 1 ≤ k) (h6 : k ≤ 6) (h : k - 1 < s.fe.length) :
    ((l.zipIdx n).foldl (fun s (d, i) => State.measureDelay s (i + 1) d) s).feAt k =
      if n < k ∧ k ≤ n + l.length then (s.feAt k).measured (l.getD (k - 1 - n) 0) else s.feAt k := by
  induction l generalizing n s with
  | nil => simp
  | cons d l ih =>
    rw [List.zipIdx_cons, List.foldl_cons, ih (n + 1) (by rw [measureDelay_length]; exact h)]
    by_cases e : n + 1 = k
    · subst e
      rw [measureDelay_feAt d h6 h, if_neg (by omega), if_pos (by simp)]
      simp
    · rw [measureDelay_feAt_ne s d (by omega) hk e]
      by_cases hr : n + 1 < k ∧ k ≤ n + 1 + l.length
      · rw [if_pos hr, if_pos (by simp; omega), show k - 1 - n = k - 1 - (n + 1) + 1 by omega, List.getD_cons_succ]
      · rw [if_neg hr, if_neg (by simp; omega)]

/-! ### Supplies of a front end -/

theorem feSupply_feAt {s : State} {fe : Nat} (h : fe - 1 < s.fe.length) (lostPower was : Bool) :
    let a := s.modFe fe fun f =>
      { f with auxSupplyFail := true, supplyStack := !lostPower, noFallback := lostPower
               lineDown := f.lineDown || lostPower, faultChDown := f.faultChDown || lostPower
               linkUp := f.linkUp && !lostPower, swNow := if lostPower then 0 else f.swNow
               owNow := if lostPower then none else f.owNow }
    let t := if was then a else a.absorb 1 3 fe 0 []
    (t.feAt fe).auxSupplyFail = true ∧ (t.feAt fe).supplyStack = !lostPower ∧ (t.feAt fe).noFallback = lostPower := by
  extract_lets a t
  have ht : t.fe = a.fe := by
    unfold t
    split
    · rfl
    · exact State.absorb_keeps_fe ..
  rw [State.feAt_congr ht, State.feAt_modFe s fe _ h]
  exact ⟨rfl, rfl, rfl⟩

/-- The return of a front end's aux supply (R74). -/
def State.feAuxBack (s : State) (fe : Nat) : State :=
  let dead := (s.feAt fe).noFallback
  let s := s.modFe fe fun f => { f with supplyStack := false, auxSupplyFail := false, noFallback := false }
  if dead then (s.modFe fe fun f => { f with faultChDown := false, thr := {} }).startRelink fe else s

theorem feAuxBack_feAt {s : State} {fe : Nat} (h : fe - 1 < s.fe.length) : ((s.feAuxBack fe).feAt fe).auxSupplyFail = false ∧
    ((s.feAuxBack fe).feAt fe).supplyStack = false ∧ ((s.feAuxBack fe).feAt fe).noFallback = false ∧
    ((s.feAt fe).noFallback = true → ((s.feAuxBack fe).feAt fe).relinking = true) := by
  unfold State.feAuxBack
  extract_lets dead a
  have ha : a.feAt fe = { s.feAt fe with supplyStack := false, auxSupplyFail := false, noFallback := false } :=
    State.feAt_modFe s fe _ h
  have hlen : fe - 1 < a.fe.length := (modFe_length ..).symm ▸ h
  by_cases hd : dead = true
  · rw [if_pos hd, startRelink_feAt (by rw [modFe_length]; exact hlen), State.feAt_modFe a fe _ hlen, ha]
    exact ⟨rfl, rfl, rfl, fun _ => rfl⟩
  · rw [if_neg hd, ha]
    exact ⟨rfl, rfl, rfl, fun h => absurd h hd⟩

theorem keepalive_feAt {s : State} {fe : Nat} (pass : Bool) (h : fe - 1 < s.fe.length) (c : Bool) :
    let a := s.modFe fe fun f => { f with stackSupplyFail := !pass }
    ((if c then a.absorb 1 4 fe 0 [] else a).feAt fe).stackSupplyFail = !pass := by
  extract_lets a
  rw [State.feAt_congr (absorb_ite_fe ..), State.feAt_modFe s fe _ h]

theorem setCause_present (s : State) {b : Nat} (k : Nat) (hb : 22 ≤ b) (hb2 : b ≤ 31) :
    (s.setCause b k).prot.present.getLsbD (b - 22) = true := by
  unfold State.setCause
  extract_lets was dieWas c _ s'
  have hs : s'.prot.present.getLsbD (b - 22) = true := by
    refine (setBit_true_getLsbD _ _ _ (by omega)).trans ?_
    simp
  split
  · exact hs
  · rw [(capture_cause_getLsbD s' 1 (32 - b) k hb).2]
    exact hs

/-! ### The cutoff of the back channel -/

/-- What the next strobe is to find on a front end (R41). -/
def State.cutFe (s : State) (f : Fe) : Fe :=
  let strobe := s.grid.frame + 1
  { f with
    swNext := if s.lanes.protOnly then 0 else if s.laneRuns then (pickDec strobe f.swDec).getD f.swNow else f.swNow
    owNext := if s.laneRuns then ((f.owDec.find? fun e => e.1 == strobe).map (·.2)).getD none else none
    swDec := laterDec strobe f.swDec, owDec := laterDec strobe f.owDec
    bcErrNext := false, thrNext := if !(s.prot.imageBad || s.lanes.protOnly) then some s.strobeSet else none }

theorem cutoff_feAt {s : State} {fe : Nat} (h : fe - 1 < s.fe.length) :
    (s.cutoff.feAt fe).swNext = (if s.lanes.protOnly then 0
      else if s.laneRuns then (pickDec (s.grid.frame + 1) (s.feAt fe).swDec).getD (s.feAt fe).swNow else (s.feAt fe).swNow) ∧
    (s.laneRuns = false → (s.cutoff.feAt fe).owNext = none) ∧
    (s.cutoff.feAt fe).thrNext = (if s.prot.imageBad || s.lanes.protOnly then none else some s.strobeSet) := by
  have hf : s.cutoff.feAt fe = s.cutFe (s.feAt fe) := getD_map_of_lt s.cutFe h {} {}
  rw [hf]
  refine ⟨rfl, fun hr => if_neg (by simp [hr]), ?_⟩
  cases hp : s.prot.imageBad || s.lanes.protOnly
  · exact if_pos (by rw [hp]; rfl)
  · exact if_neg (by rw [hp]; simp)

/-! ### The port of the CFE -/

theorem cfeRelinkEnd_up {s : State} {d : Nat} (h50 : 50 ≤ d) (h400 : d ≤ 400) : (s.cfeRelinkEnd (some d)).cfe.linkUp = true ∧
    (s.cfeRelinkEnd (some d)).cfe.relinking = false ∧ (s.cfeRelinkEnd (some d)).cfe.delayNs = d ∧
    (s.cfeRelinkEnd (some d)).cfe.badRun = 0 := by
  unfold State.cfeRelinkEnd
  rw [filter_delayOk h50 h400]
  exact ⟨rfl, rfl, rfl, rfl⟩

theorem cfeRelinkEnd_down {s : State} {x : Option Nat} (hx : ∀ d, x = some d → d < 50 ∨ 400 < d) :
    (s.cfeRelinkEnd x).cfe.attempt = false ∧
      (s.cfeRelinkEnd x).cfe.lost = (decide (10 ≤ s.cfe.relinkTries + 1) || s.cfe.lost) := by
  unfold State.cfeRelinkEnd
  rw [filter_delayOk_none hx]
  dsimp only
  by_cases h10 : 10 ≤ s.cfe.relinkTries + 1
  · rw [if_pos h10, State.notify_keeps_cfe]
    exact ⟨rfl, by simp [h10]⟩
  · rw [if_neg h10]
    exact ⟨rfl, by simp [h10]⟩

/-- The line of the CFE goes down. -/
def State.cfeLineLost (s : State) : State := { s.cfeRelink with cfe.lineDown := true, cfe.heldRun := 0 }

theorem cfeLineDown_eq {s : State} (h : s.pn P.cfeRole ≠ 0) : exec (.portLineDown 7 false) s = .next s.cfeLineLost := by
  have hn : ¬(s.pn P.cfeRole = 0 ∨ false = true) := by simp [h]
  exact congrArg Host.Outcome.next (if_neg hn)

/-- A front end without cells has no events. -/
theorem frontEndLinks_inactive {fe : Nat} {s : State} (h1 : 1 ≤ fe) (h6 : fe ≤ 6) :
    (s.feActive fe = false → (∀ b, exec (.portLineDown fe b) s = .next s) ∧ exec (.feLinkFault fe) s = .next s ∧
      exec (.feSupplyChangeover fe) s = .next s ∧ ∀ b, exec (.stackKeepaliveTest fe b) s = .next s) := by
  have hok : portNoOk fe = true := port_ok h1 (by omega)
  have hfe : feOk fe = true := by simp [feOk, h1, h6]
  have h7 : fe ≠ 7 := by omega
  intro ha
  refine ⟨fun b => ?_, ?_, ?_, fun b => ?_⟩
  · exact (if_pos hok).trans (congrArg _ ((if_neg h7).trans (if_pos (by simp [ha]))))
  · exact (if_pos hfe).trans (next_neg (by simp [ha]))
  · exact (if_pos hok).trans (congrArg _ ((if_neg h7).trans (if_pos (by simp [ha]))))
  · exact (if_pos hok).trans (congrArg _ ((if_neg h7).trans (if_pos (by simp [ha]))))

/-- Settles O38: the events of the front ends' ports, and those of the CFE's. -/
theorem frontEndLinkEvents : Obligations.FrontEndLinkEvents := by
  unfold Obligations.FrontEndLinkEvents
  refine ⟨fun fe s h1 h6 hlen => ?_, fun s => ?_⟩
  · have hok : portNoOk fe = true := port_ok h1 (by omega)
    have hfeok : feOk fe = true := by simp [feOk, h1, h6]
    have h7 : fe ≠ 7 := by omega
    have hfe : fe - 1 < s.fe.length := by omega
    refine ⟨frontEndLinks_inactive h1 h6, fun ha => ⟨⟨s.lineLost fe, ?_, lineLost_feAt hfe⟩, ?_⟩, fun ha hap hd => ?_, fun hr hat => ?_,
      fun h => ?_, fun hat hlt => ?_, fun hu d hd => ?_, fun ha => ?_, ⟨s.feAuxBack fe, ?_, feAuxBack_feAt hfe⟩,
      fun pass ha hs => ?_, ?_, ⟨_, (if_pos hok).trans (congrArg _ ((if_neg (by simp)).trans (if_neg h7))), ?_⟩,
      ⟨s.cutoff, rfl, ?_⟩⟩
    · exact (if_pos hok).trans (congrArg _ ((if_neg h7).trans ((if_neg (by simp [ha])).trans (if_neg (by simp)))))
    · exact (if_pos hok).trans (congrArg _ ((if_neg h7).trans ((if_neg (by simp [ha])).trans (if_pos rfl))))
    · refine ⟨_, (if_pos hfeok).trans (next_pos ?_), setCause_sets s 27 fe (by omega) (by omega) (by omega),
        setCause_present s fe (by omega) (by omega)⟩
      rcases hd with ⟨hl, hz⟩ | hf
      · simp [ha, hap, hl, hz]
      · simp [ha, hap, hf]
    · have hexec (x : Option Nat) : exec (.relinkAttemptEnd fe x) s = .next (s.relinkEnd fe x) :=
        (if_pos hok).trans (congrArg _ ((if_neg h7).trans (if_pos (by simp [hr, hat]))))
      refine ⟨fun d h50 h400 => ⟨_, hexec _, ?_⟩, fun x hx => ⟨_, hexec _, relinkEnd_feAt_down hfe hx⟩⟩
      rw [relinkEnd_feAt_up hfe h50 h400]
      exact ⟨rfl, rfl, rfl, rfl⟩
    · refine (if_pos hok).trans (congrArg _ ((if_neg h7).trans (modFe_congr ?_)))
      rw [decide_eq_true h, Bool.or_true, Bool.and_true]
    · refine ⟨_, (if_pos hok).trans (congrArg _ (if_neg h7)), ?_⟩
      rw [State.feAt_modFe s fe _ hfe, hat, decide_eq_false (by omega), Bool.or_false, Bool.and_false]
    · have ht := measureDelays_feAt d 0 h1 h6 hfe
      rw [if_pos (by omega), show fe - 1 - 0 = fe - 1 from rfl] at ht
      generalize d.getD (fe - 1) 0 = n at ht ⊢
      refine ⟨fun hn => ⟨_, if_pos hd, ?_⟩, fun h50 h400 => ⟨_, if_pos hd, ?_⟩⟩
      · have hno : delayOk n = false := by
          simp only [delayOk, Bool.and_eq_false_iff, decide_eq_false_iff_not]
          omega
        rw [ht, Fe.measured, hu, hno]
        exact ⟨rfl, rfl⟩
      · rw [ht, Fe.measured, hu, show delayOk n = true by simp [delayOk, h50, h400]]
        exact ⟨rfl, rfl, fun hfar => if_pos hfar⟩
    · exact ⟨_, (if_pos hok).trans (congrArg _ ((if_neg h7).trans (if_neg (by simp [ha])))),
        feSupply_feAt hfe (s.noRide fe) (s.feAt fe).auxSupplyFail⟩
    · exact (if_pos hok).trans (congrArg _ (if_neg h7))
    · exact ⟨_, (if_pos hok).trans (congrArg _ ((if_neg h7).trans (if_neg (by simp [hs, ha])))), keepalive_feAt pass hfe _⟩
    · exact (if_pos hok).trans (congrArg _ (if_pos rfl))
    · rw [State.feAt_modFe s fe _ hfe]
      exact ⟨rfl, rfl, rfl, rfl⟩
    · obtain ⟨hsw, how, hthr⟩ := cutoff_feAt hfe
      exact ⟨hsw, how, hthr⟩
  · refine ⟨fun hr => ⟨s.cfeLineLost, cfeLineDown_eq hr, rfl, rfl, rfl, rfl, rfl⟩,
      fun hr => ?_, fun hr => ⟨?_, ?_⟩, ?_, rfl, fun pass hs => ?_, rfl, rfl, fun hr hat => ?_, fun h => ?_⟩
    · refine ⟨_, congrArg Host.Outcome.next (if_neg hr), ?_⟩
      split
      · exact ⟨rfl, rfl⟩
      · rw [State.absorb_keeps_cfe]
        exact ⟨rfl, rfl⟩
    · exact congrArg Host.Outcome.next (if_pos (Or.inl hr))
    · exact congrArg Host.Outcome.next (if_pos hr)
    · exact congrArg Host.Outcome.next (if_pos (Or.inr rfl))
    · exact congrArg Host.Outcome.next (if_neg (ne_true_of_eq_false hs))
    · have hexec (x : Option Nat) : exec (.relinkAttemptEnd 7 x) s = .next (s.cfeRelinkEnd x) :=
        congrArg Host.Outcome.next (if_pos ((Bool.and_eq_true ..).mpr ⟨hr, hat⟩))
      exact ⟨fun d h50 h400 => ⟨_, hexec _, cfeRelinkEnd_up h50 h400⟩, fun x hx => ⟨_, hexec _, cfeRelinkEnd_down hx⟩⟩
    · have hexec : exec (.relinkRetry 7) s = .next { s with
          cfe.attempt := s.cfe.relinking && (s.cfe.attempt || decide (100 ≤ (s.grid.frame - s.cfe.attemptAt).toNat)) } := rfl
      rw [hexec, decide_eq_true h, Bool.or_true, Bool.and_true]

end Sys2Proof.Machine
end


section
/-!
PROOFS. The current front end (03_current_front_end.md R67 to R82): its packets, the zero tracker, the records of the ring
and the calibration.
-/

-- One proof after the other: the threads of proofs that are elaborated at once take too much memory together.
set_option Elab.async false

namespace Sys2Proof.Machine

/-! ### Sub-samples -/

theorem subPacket_good {s : State} {idx : Nat} {bs : List Byte} (hl : s.cfe.linkUp = true)
    (hg : subGood idx s.grid.frame bs = true) : (s.subPacket idx bs).cfe.subs =
      { idx := idx, cur := getS bs 4 3, vstr := getS bs 7 3, flags := getB bs 10 } :: s.cfe.subs ∧
    (idx % 2 = 0 → (s.subPacket idx bs).cfe.ctlMissing = false ∧
      (s.subPacket idx bs).cfe.ctlCur = roundAway (s.currentOf (getS bs 4 3 : Rat) 1)) := by
  by_cases hc : idx % 2 = 0
  · simp only [State.subPacket, hl, hg, hc, Bool.and_self, if_true, Bool.not_true, true_and, forall_const]
    rfl
  · simp [State.subPacket, hl, hg, hc]

theorem subPacket_bad {s : State} {idx : Nat} {bs : List Byte} (hok : (s.cfe.linkUp && subGood idx s.grid.frame bs) = false) :
    (s.subPacket idx bs).cfe.subs = s.cfe.subs ∧ (s.cfe.linkUp = true → (s.subPacket idx bs).cfe.ctlMissCount = s.cfe.ctlMissCount + 1) ∧
    (idx % 2 = 0 → (s.subPacket idx bs).cfe.ctlMissing = true) := by
  by_cases hc : idx % 2 = 0
  · by_cases hl : s.cfe.linkUp = true
    · rw [hl, Bool.true_and] at hok
      simp [State.subPacket, hok, hc, hl]
    · simp [State.subPacket, hc, hl]
  · by_cases hl : s.cfe.linkUp = true
    · rw [hl, Bool.true_and] at hok
      simp [State.subPacket, hok, hc, hl]
    · simp [State.subPacket, hc, hl]

/-! ### Frame packets -/

theorem discardSample_cfe (s : State) (l : List Word) : ∃ b, (s.discardSample l).cfe = { s.cfe with buf := b } := by
  unfold State.discardSample
  split
  · exact ⟨_, rfl⟩
  · exact ⟨_, State.absorb_keeps_cfe ..⟩

/-- The state with room for one more sample of the CFE. -/
def State.cfeRoom (s : State) : State :=
  if 3 ≤ (s.waitingOf (s.cfe.buf.map (·.stamp))).length then s.discardSample (s.cfe.buf.map (·.stamp)) else s

theorem noteBacklog_cfe (s : State) : s.noteBacklog.cfe = s.cfe := by
  rw [noteBacklog_eq]

theorem cfeStore_eq (s : State) (x : CfeSamp) :
    s.cfeStore x = { s.cfeRoom with cfe := { s.cfeRoom.cfe with buf := s.cfeRoom.cfe.buf ++ [x] } }.noteBacklog := rfl

/-- Storing a sample changes the buffer of the CFE alone, at whose end the sample stands (R131, R134). -/
theorem cfeStore_cfe (s : State) (x : CfeSamp) : ∃ b, (s.cfeStore x).cfe = { s.cfe with buf := b } ∧
    ((s.waitingOf (s.cfe.buf.map (·.stamp))).length < 3 → b = s.cfe.buf ++ [x]) := by
  obtain ⟨b, hb, hroom⟩ : ∃ b, s.cfeRoom.cfe = { s.cfe with buf := b } ∧
      ((s.waitingOf (s.cfe.buf.map (·.stamp))).length < 3 → b = s.cfe.buf) := by
    unfold State.cfeRoom
    split
    · rename_i h
      obtain ⟨b, hb⟩ := discardSample_cfe s (s.cfe.buf.map (·.stamp))
      exact ⟨b, hb, fun hlt => absurd h (Nat.not_le.mpr hlt)⟩
    · exact ⟨_, rfl, fun _ => rfl⟩
  rw [cfeStore_eq, noteBacklog_cfe]
  refine ⟨b ++ [x], ?_, fun h => by rw [hroom h]⟩
  dsimp only
  rw [hb]

theorem cfePacket_up {s : State} (bs : List Byte) (hc : s.hasCfe = true) (hl : s.cfe.linkUp = true) : s.cfePacket bs =
    if 0 < s.cfe.skipSamples then
      { s with cfe.skipSamples := s.cfe.skipSamples - 1 }.cfeStore { stamp := s.grid.frame - 1, bad := true }
    else if s.cfeAccepts bs (cfeFrameOf (s.grid.frame - 1) bs) then s.cfeGood (cfeFrameOf (s.grid.frame - 1) bs)
    else s.cfeBad (s.grid.frame - 1) := if_neg (by simp [hc, hl])

theorem cfeBad_cfe (s : State) (stamp : Word) :
    let run := s.cfe.badRun + 1
    (s.cfeBad stamp).cfe.badRun = run ∧ (s.cfeBad stamp).cfe.crcErrors = bump 0xFFFF s.cfe.crcErrors ∧
    (run < 4 → (s.cfeBad stamp).cfe.linkUp = s.cfe.linkUp) ∧
    (4 ≤ run → (s.cfeBad stamp).cfe.iInvalid = true ∧ (s.cfeBad stamp).cfe.linkUp = false ∧
      (s.cfeBad stamp).cfe.relinking = !s.cfe.lost) ∧
    ((s.waitingOf (s.cfe.buf.map (·.stamp))).length < 3 →
      (s.cfeBad stamp).cfe.buf = s.cfe.buf ++ [{ stamp := stamp, held := true, bad := decide (4 ≤ run) }]) := by
  unfold State.cfeBad
  extract_lets run _ a
  obtain ⟨b, ha, hb⟩ : ∃ b, a.cfe = { s.cfe with badRun := run, heldRun := satTo 3 run, crcErrors := bump 0xFFFF s.cfe.crcErrors
                                                 gapFrames := s.cfe.gapFrames + 1, buf := b } ∧
      ((s.waitingOf (s.cfe.buf.map (·.stamp))).length < 3 →
        b = s.cfe.buf ++ [{ stamp := stamp, held := true, bad := decide (4 ≤ run) }]) := cfeStore_cfe _ _
  by_cases h : 4 ≤ run
  · have hr : a.cfeRelink.cfe = { a.cfe with
        linkUp := false, relinking := !a.cfe.lost, attempt := !a.cfe.lost, relinkTries := 0, iHeld := false, iInvalid := true
        vstrInvalid := true, ctlMissing := true, zeroHold := 0, zeroSum := 0, zeroN := 0 } := rfl
    rw [if_pos h, hr, ha]
    exact ⟨rfl, rfl, fun hlt => absurd h (Nat.not_le.mpr hlt), fun _ => ⟨rfl, rfl, rfl⟩, hb⟩
  · rw [if_neg h, ha]
    exact ⟨rfl, rfl, fun _ => rfl, fun h4 => absurd h4 h, hb⟩

/-! ### Records from the ring -/

theorem takeRecord_branchAt {s : State} {r : CurRec} (h : r.branch < (s.followBranch r).branch.length) :
    (if r.check then ((s.takeRecord r).branchAt r.branch).checkRecs else ((s.takeRecord r).branchAt r.branch).mainRecs).head? =
      some r := by
  unfold State.takeRecord
  rw [State.branchAt_modBranch _ _ _ h]
  cases hc : r.check
  · simp only [Bool.false_eq_true, if_false]
    rw [apply_ite Branch.mainRecs]
    simp
  · simp only [if_true]
    rw [apply_ite Branch.checkRecs]
    simp

theorem recordMissing_branchAt {s : State} {b : Nat} (stamp : Word) (h : b < s.branch.length) :
    ((s.recordMissing b stamp).branchAt b).curHeld = (!(s.branchAt b).inUse.any (·.stamp == stamp) || (s.branchAt b).curHeld) ∧
    ((s.recordMissing b stamp).branchAt b).mainInvalidRun = (s.branchAt b).mainInvalidRun +
      (if (s.branchAt b).mainRecs.any (·.stamp == stamp) then 0 else 1) := by
  unfold State.recordMissing
  extract_lets t
  have ht : ∀ c : Prop, [Decidable c] → (if c then t.prechargeFrame stamp 0 false else t).branchAt b = t.branchAt b := by
    intro c _
    split
    · exact State.branchAt_congr (State.prechargeFrame_keeps_branch ..) b
    · rfl
  rw [ht, State.branchAt_modBranch s b _ h]
  cases (s.branchAt b).inUse.any (·.stamp == stamp) <;> cases hm : (s.branchAt b).mainRecs.any (·.stamp == stamp)
  all_goals simp [hm]

theorem followBranch_branch (s : State) (r : CurRec) : (s.followBranch r).branch = s.branch :=
  same_of_but (p := .branch) (State.followBranch_hide (butMask .branch) rfl ..)

theorem ringRecord_branchAt {s : State} {r : CurRec} (hlen : s.branch.length = 2) (hb : r.branch < 2) :
    (if r.check then ((s.ringRecord r).branchAt r.branch).checkRecs else ((s.ringRecord r).branchAt r.branch).mainRecs).head? =
      some r := by
  have h := takeRecord_branchAt (s := s) (r := r) (by rw [followBranch_branch, hlen]; exact hb)
  have ht : (s.ringRecord r).branchAt r.branch = (s.takeRecord r).branchAt r.branch := by
    unfold State.ringRecord
    extract_lets b mine t
    split
    · exact State.branchAt_congr (State.prechargeFrame_keeps_branch ..) _
    · rfl
  rw [ht]
  exact h

/-! ### The zero tracker and the calibration -/

theorem curCalComplete_outside {s : State} {c : CalRun} (hc : s.cfe.calRun = some c) (hn : 10000 ≤ c.n)
    (ht : c.sum = 0 ∨ ∀ trim, trim = roundAway (((c.ref : Rat) * (c.n : Rat) / (c.sum : Rat) - 1) * 1000000) →
      trim < -20000 ∨ 20000 < trim) : exec .curCalComplete s =
        .next ({ s with cfe.calRun := none }.complete c.cmd .outOfRange 0 0 0 []) := by
  have h : c.sum = 0 ∨ roundAway (((c.ref : Rat) * (c.n : Rat) / (c.sum : Rat) - 1) * 1000000) < -20000 ∨
      20000 < roundAway (((c.ref : Rat) * (c.n : Rat) / (c.sum : Rat) - 1) * 1000000) := ht.imp id fun h => h _ rfl
  unfold exec execCurCalComplete
  rw [hc]
  exact congrArg _ ((if_neg (by omega)).trans (if_pos h))

theorem curCalComplete_inside {s : State} {c : CalRun} {trim : Int} (hc : s.cfe.calRun = some c) (hn : 10000 ≤ c.n)
    (h0 : c.sum ≠ 0) (ht : trim = roundAway (((c.ref : Rat) * (c.n : Rat) / (c.sum : Rat) - 1) * 1000000))
    (hlo : -20000 ≤ trim) (hhi : trim ≤ 20000) : exec .curCalComplete s =
      .next (({ s with cfe.calRun := none }.stage P.curGainTrim [trim] c.cmd.port).complete c.cmd .ok 0 0 0 (toLeInt 4 trim)) := by
  have h : ¬(c.sum = 0 ∨ trim < -20000 ∨ 20000 < trim) := by omega
  unfold exec execCurCalComplete
  rw [hc]
  dsimp only
  rw [← ht, if_neg (by omega), if_neg h]

/-- Settles O39: each event of the current front end by its own function. -/
theorem currentFrontEndEvents : Obligations.CurrentFrontEndEvents := by
  unfold Obligations.CurrentFrontEndEvents
  intro s
  have hsub (idx : Nat) (bs : List Byte) (hi : idx < 8) (hc : s.hasCfe = true) :
      exec (.cfeSubsamplePacket idx bs) s = .next (s.subPacket idx bs) := (if_pos hi).trans (next_pos hc)
  have hpkt (bs : List Byte) : exec (.cfeFramePacket bs) s = .next (s.cfePacket bs) := rfl
  refine ⟨fun idx bs hi hc hl hg => ⟨_, hsub idx bs hi hc, subPacket_good hl hg⟩, fun idx bs hi hc hl hg => ?_,
    fun idx bs hi hc => (if_pos hi).trans (next_neg (by simp [hc])), fun idx bs hi hc hl => ?_, fun bs h => ?_, fun bs hc hl => ?_,
    fun m hc hn hm hb => ?_, fun m hc hn hm hb => ?_, ?_, fun bs r hr hlen hb => ?_, fun bs hr => ?_, fun b stamp hb hlen => ?_,
    fun c hc hn ht => ?_, fun c trim hc hn h0 ht hlo hhi => ?_⟩
  · obtain ⟨h1, h2, h3⟩ := subPacket_bad (s := s) (idx := idx) (bs := bs) (by rw [hl, hg]; rfl)
    exact ⟨_, hsub idx bs hi hc, h1, h2 hl, h3⟩
  · obtain ⟨h1, -, h3⟩ := subPacket_bad (s := s) (idx := idx) (bs := bs) (by rw [hl]; rfl)
    exact ⟨_, hsub idx bs hi hc, h1, h3⟩
  · rw [hpkt]
    refine congrArg _ (if_pos ?_)
    rcases h with h | h <;> simp [h]
  · intro stamp room
    rw [hpkt, cfePacket_up bs hc hl]
    refine ⟨fun hs => ?_, fun hs ha => ?_, fun hs ha => ?_⟩
    · obtain ⟨b, hb, hroom⟩ := cfeStore_cfe { s with cfe.skipSamples := s.cfe.skipSamples - 1 } { stamp := stamp, bad := true }
      refine ⟨_, next_pos hs, ?_⟩
      rw [hb]
      exact ⟨rfl, hroom⟩
    · obtain ⟨h1, h2, h3, h4, h5⟩ := cfeBad_cfe s stamp
      refine ⟨s.cfeBad stamp, ?_, h1, h2, fun hlt => (h3 (by omega)).trans hl, fun hle => h4 (by omega), fun hr => ?_⟩
      · rw [if_neg (by omega), if_neg (ne_true_of_eq_false ha)]
      · rw [h5 hr]
        simp
    · refine ⟨s.cfeGood (cfeFrameOf stamp bs), ?_, ?_⟩
      · rw [if_neg (by omega), if_pos ha]
      · obtain ⟨b, hb, hroom⟩ := cfeStore_cfe { s with cfe.badRun := 0, cfe.heldRun := 0, cfe.prev := some (cfeFrameOf stamp bs) }
          { stamp := stamp, pkt := cfeFrameOf stamp bs, subSum := s.subSum }
        have hg : (s.cfeGood (cfeFrameOf stamp bs)).cfe = _ := hb
        rw [hg]
        exact ⟨rfl, rfl, hroom⟩
  · subst hm
    exact (next_pos ⟨hc, hn⟩).trans (next_pos hb)
  · subst hm
    exact ⟨_, (next_pos ⟨hc, hn⟩).trans (next_neg (not_le.mpr hb)), State.absorb_keeps_cfe ..⟩
  · change execZeroValidExpire s = _
    simp only [execZeroValidExpire, decide_eq_true_eq]
  · refine ⟨s.ringRecord r, ?_, ringRecord_branchAt hlen hb⟩
    change execCurrentRecordRx bs s = _
    unfold execCurrentRecordRx
    rw [hr]
  · change execCurrentRecordRx bs s = _
    unfold execCurrentRecordRx
    rw [hr]
  · exact ⟨_, if_pos hb, recordMissing_branchAt stamp (by omega)⟩
  · exact ⟨_, curCalComplete_outside hc hn ht, State.complete_keeps_cfe .., complete_ploza_staged ..⟩
  · refine ⟨_, curCalComplete_inside hc hn h0 ht hlo hhi, ?_, ?_⟩
    · rw [State.complete_keeps_cfe]
      rfl
    · have hst (u : State) (r : DeferRef) (d : List Byte) : (u.complete r .ok 0 0 0 d).stagedVal P.curGainTrim =
          u.stagedVal P.curGainTrim := by
        unfold State.stagedVal
        rw [complete_ploza_staged]
      rw [hst, stagedVal_stage, if_pos rfl]

end Sys2Proof.Machine
end


section
/-!
PROOFS. The timed events of the estimator (06_state_estimation.md R145 to R171) and the events of the control law
(12_control_engine.md R277 to R292).
-/

-- One proof after the other: the threads of proofs that are elaborated at once take too much memory together.
set_option Elab.async false

namespace Sys2Proof.Machine

/-! ### The estimator's timed events -/

theorem draw_str (s : State) : s.draw.2.str = s.str := rfl

theorem restRequest_str (s : State) : s.restRequest.str = { s.str with restAskAt := s.grid.plantNs } := by
  unfold State.restRequest
  dsimp only
  split
  · exact State.notify_keeps_str ..
  · exact State.notify_keeps_str ..

theorem anchorStarved_ends {s : State} (hc : s.estMod.counting = true) (ha : s.estMod.anchorStarved = false)
    (hn : s.pn P.anchorStarveDays * 86400000000000 ≤ s.estMod.anchorNs) : ∃ t : State, exec .anchorStarved s = .next t ∧
      t.estMod.anchorStarved = true ∧ t.estMod.counting = (if s.pb P.autoBlend then false else true) ∧
      t.estMod.autoBlended = (s.pb P.autoBlend || s.estMod.autoBlended) := by
  have habs (u : State) : (u.absorb 6 5 0xFF 0 []).ploza.params = u.ploza.params := by
    obtain ⟨l, hl⟩ := absorb_ploza u 6 5 0xFF 0 []
    rw [hl]
  refine ⟨_, next_pos (by simp [hc, ha, hn]), ?_⟩
  extract_lets _ a
  have hest : a.estMod = { s.estMod with anchorStarved := true } := State.absorb_keeps_estMod ..
  have hpb : a.pb P.autoBlend = s.pb P.autoBlend :=
    pb_congr (habs _) P.autoBlend (by decide) (by decide) (by decide) (by decide)
  have hset : (a.setCounting false).estMod = { a.estMod with counting := false } := by
    unfold State.setCounting
    rw [if_neg (by rw [hest]; exact ne_of_eq_of_ne hc (by decide))]
    rfl
  rw [hpb]
  cases s.pb P.autoBlend
  · rw [if_neg (by decide), hest]
    exact ⟨rfl, hc, rfl⟩
  · rw [if_pos rfl]
    exact ⟨(congrArg (·.anchorStarved) hset).trans (congrArg (·.anchorStarved) hest), congrArg (·.counting) hset, rfl⟩

/-- Settles O40: each timed event by its own function. -/
theorem estimationEvents : Obligations.EstimationEvents := by
  unfold Obligations.EstimationEvents
  intro s
  refine ⟨fun pos hp h1 h2 h3 => ?_, fun pos hp h1 => ?_, ?_, fun h1 h2 h3 => ?_, anchorStarved_ends, fun h => ?_⟩
  · exact (if_pos (decide_eq_true hp)).trans (next_pos (by simp only [h1, h2, h3, Bool.and_self, decide_true]))
  · exact (if_pos (decide_eq_true hp)).trans (next_neg (by simp [h1]))
  · change execRestStarved s = _
    simp only [execRestStarved, decide_eq_true_eq]
  · refine ⟨s.restRequest, next_pos (by simp only [h1, h2, h3, Bool.and_self, decide_true]), ?_, ?_, State.restRequest_keeps_est s, State.restRequest_keeps_estMod s⟩
    · rw [restRequest_str]
    · rw [restRequest_str]
      exact h2
  · exact ⟨_, next_pos h, rfl⟩

/-! ### The control sample -/

theorem takeReadings_takes (s : State) (sub : Nat) (ph : List Nat) (bus : Nat) (gd line : Bool) :
    let t := s.takeReadings sub ph bus gd line
    t.grid.sub = sub ∧ t.prot.lineLow = line ∧ t.conv.vBus = s.busOf bus ∧ t.conv.gdFaultLow = gd ∧ t.conv.st = s.conv.st ∧
      t.law = s.law := ⟨rfl, rfl, rfl, rfl, rfl, rfl⟩

/-- The string readings and the excitation change the law's inputs alone. -/
theorem lawInputs_law (s : State) : s.lawInputs.law.outMode = s.law.outMode := by
  have h (u : State) : u.fromRecord.law.outMode = u.law.outMode := by
    unfold State.fromRecord
    split <;> rfl
  unfold State.lawInputs
  dsimp only
  split
  · exact h s
  split
  · split
    · exact h s
    · rfl
  split
  · exact h s
  split
  · exact h s
  · rfl

/-- The anchored pans of a converter that runs, after the readings. -/
def State.anchoredStep (s : State) : State :=
  let s := if s.anchorRuns 35 then (if s.law.safeRun then s.safeStep else s.supervise) else s
  let s := if s.anchorRuns 34 || (s.lanes.fallback && s.anchorRuns 35) then
      (if s.law.safeRun then { s with law.sets.law := true } else s.runLaw) else s
  let s := if s.anchorRuns 36 then s.managePhases else s
  { s with conv.setSince := min 8 (s.conv.setSince + 1), conv.stepSince := min 8 (s.conv.stepSince + 1) }

theorem anchoredStep_keeps (s : State) : s.anchoredStep.grid = s.grid ∧ s.anchoredStep.prot = s.prot := by
  have hsup (u : State) : u.supervise.grid = u.grid ∧ u.supervise.prot = u.prot :=
    ⟨same_of_but (p := .grid) (State.supervise_hide (butMask .grid) rfl u), same_of_but (p := .prot) (State.supervise_hide (butMask .prot) rfl u)⟩
  have hlaw (u : State) : u.runLaw.grid = u.grid ∧ u.runLaw.prot = u.prot :=
    ⟨same_of_but (p := .grid) (State.runLaw_hide (butMask .grid) rfl u), same_of_but (p := .prot) (State.runLaw_hide (butMask .prot) rfl u)⟩
  have hph (u : State) : u.managePhases.grid = u.grid ∧ u.managePhases.prot = u.prot :=
    ⟨same_of_but (p := .grid) (State.managePhases_hide (butMask .grid) rfl u), same_of_but (p := .prot) (State.managePhases_hide (butMask .prot) rfl u)⟩
  unfold State.anchoredStep
  extract_lets a _ _ b c
  have ha : a.grid = s.grid ∧ a.prot = s.prot := by
    unfold a
    split
    · split
      · exact ⟨rfl, rfl⟩
      · exact hsup s
    · exact ⟨rfl, rfl⟩
  have hb : b.grid = a.grid ∧ b.prot = a.prot := by
    unfold b
    split
    · split
      · exact ⟨rfl, rfl⟩
      · exact hlaw a
    · exact ⟨rfl, rfl⟩
  have hc : c.grid = b.grid ∧ c.prot = b.prot := by
    unfold c
    split
    · exact hph b
    · exact ⟨rfl, rfl⟩
  exact ⟨hc.1.trans (hb.1.trans ha.1), hc.2.trans (hb.2.trans ha.2)⟩

/-- The outputs of a converter that does not run hold their mode. -/
def State.heldOutputs (s : State) : State :=
  { s with
    law.sets.law := s.anchorRuns 34, law.sets.plaus := s.anchorRuns 35, law.sets.phase := s.anchorRuns 36
    law.mode := s.law.outMode, law.modeChange := false, law.excC := false, law.excS := false, law.excV := false
    law.rhoC := none, law.rhoS := none, law.rhoV := none, law.excOn := false
    law.slewing := s.law.x.val != (s.law.outTarget : Rat) }

theorem controlSample_eq (s : State) (sub : Nat) (ph : List Nat) (bus : Nat) (gd line : Bool) :
    ∃ b : State, b.grid.sub = sub ∧ b.prot.lineLow = line ∧ b.conv.vBus = s.busOf bus ∧ b.conv.gdFaultLow = gd ∧
      b.conv.st = s.conv.st ∧ b.law.outMode = s.law.outMode ∧
      s.controlSample sub ph bus gd line =
        if b.conv.st = .off ∨ b.conv.toOff = true ∨ (b.conv.st = .starting ∧ b.conv.enabled = false) then b.heldOutputs
        else b.anchoredStep := by
  obtain ⟨hsub, hline, hbus, hgd, hst, hlaw⟩ := takeReadings_takes s sub ph bus gd line
  unfold State.controlSample
  generalize s.takeReadings sub ph bus gd line = r at hsub hline hbus hgd hst hlaw ⊢
  have hgrid : r.lawInputs.grid = r.grid := same_of_but (p := .grid) (State.lawInputs_hide (butMask .grid) rfl r)
  have hprot : r.lawInputs.prot = r.prot := same_of_but (p := .prot) (State.lawInputs_hide (butMask .prot) rfl r)
  have hconv : r.lawInputs.conv = r.conv := same_of_but (p := .conv) (State.lawInputs_hide (butMask .conv) rfl r)
  refine ⟨_, ?_, ?_, ?_, ?_, ?_, ?_, rfl⟩
  · exact (congrArg (·.sub) hgrid).trans hsub
  · exact (congrArg (·.lineLow) hprot).trans hline
  · exact (congrArg (·.vBus) hconv).trans hbus
  · exact (congrArg (·.gdFaultLow) hconv).trans hgd
  · exact (congrArg (·.st) hconv).trans hst
  · exact (lawInputs_law r).trans (congrArg (·.outMode) hlaw)

theorem controlSample_takes (s : State) (sub : Nat) (ph : List Nat) (bus : Nat) (gd line : Bool) :
    let t := s.controlSample sub ph bus gd line
    t.grid.sub = sub ∧ t.prot.lineLow = line ∧
      (s.conv.st = .off → t.law.mode = s.law.outMode ∧ t.law.modeChange = false ∧ t.conv.vBus = s.busOf bus ∧
        t.conv.gdFaultLow = gd) := by
  obtain ⟨b, hsub, hline, hbus, hgd, hst, hout, he⟩ := controlSample_eq s sub ph bus gd line
  obtain ⟨hgrid, hprot⟩ := anchoredStep_keeps b
  rw [he]
  split
  · exact ⟨hsub, hline, fun _ => ⟨hout, rfl, hbus, hgd⟩⟩
  · rename_i h
    exact ⟨(congrArg (·.sub) hgrid).trans hsub, (congrArg (·.lineLow) hprot).trans hline,
      fun hoff => absurd (.inl (hst.trans hoff)) h⟩

/-! ### The output instant -/

/-- The converter is on its way to OFF with its gates off. -/
def State.Stopping (s : State) : Prop := s.conv.st ≠ .off ∧ s.conv.gatesOn = false ∧ s.conv.toOff = true

theorem convStop_stopping {s : State} (cause : Nat) (h : s.conv.st ≠ .off) : (s.convStop cause).Stopping := by
  obtain ⟨hg, -, -, ho, hst, -⟩ := stoppedAs_convStopWith s s cause (latchingCause cause) true 0 none h rfl rfl rfl rfl
  exact ⟨ne_of_eq_of_ne hst h, hg, ho⟩

theorem Stopping_of_conv {s t : State} (h : t.conv = s.conv) (hs : s.Stopping) : t.Stopping := by
  unfold State.Stopping
  rw [h]
  exact hs

/-- A late set of a pan that runs stops the converter, and of one that does not changes nothing (R277). -/
theorem lateSet_cases (s : State) (k : Nat) (h : s.conv.st ≠ .off) :
    (s.lateSet k).Stopping ∨ (s.lateSet k = s ∧ s.runningPan k = none) := by
  unfold State.lateSet
  split
  · refine .inl (Stopping_of_conv (s := s.convStop 13) ?_ (convStop_stopping 13 h))
    exact same_of_but (p := .conv) (State.panFails_hide (butMask .conv) rfl ..)
  · rename_i hn
    exact .inr ⟨rfl, hn⟩

theorem lateSet_stopping {s : State} (k : Nat) (h : s.Stopping) : (s.lateSet k).Stopping := by
  rcases lateSet_cases s k h.1 with hs | ⟨hs, -⟩
  · exact hs
  · exact hs.symm ▸ h

/-- The sets that are late, one after the other. -/
def State.lateSets (s : State) (l : List (Bool × Nat)) : State := l.foldl (fun s x => if x.1 then s.lateSet x.2 else s) s

theorem lateSets_stopping {s : State} (l : List (Bool × Nat)) (h : s.Stopping) : (s.lateSets l).Stopping := by
  induction l generalizing s with
  | nil => exact h
  | cons x l ih =>
    refine ih (s := if x.1 then s.lateSet x.2 else s) ?_
    split
    · exact lateSet_stopping _ h
    · exact h

theorem lateSets_stop {s : State} (l : List (Bool × Nat)) (h : s.conv.st ≠ .off)
    (hl : ∃ x ∈ l, x.1 = true ∧ (s.runningPan x.2).isSome = true) : (s.lateSets l).Stopping := by
  induction l with
  | nil =>
    obtain ⟨x, hx, -⟩ := hl
    cases hx
  | cons y l ih =>
    by_cases hy : y.1 = true
    · rcases lateSet_cases s y.2 h with hs | ⟨hs, hn⟩
      · exact lateSets_stopping (s := if y.1 then s.lateSet y.2 else s) l (by rw [if_pos hy]; exact hs)
      · obtain ⟨x, hx, hx1, hx2⟩ := hl
        have hxl : x ∈ l := by
          rcases List.mem_cons.mp hx with rfl | hx
          · rw [hn] at hx2
            cases hx2
          · exact hx
        have he : s.lateSets (y :: l) = s.lateSets l := by
          unfold State.lateSets
          rw [List.foldl_cons, if_pos hy, hs]
        exact he ▸ ih ⟨x, hxl, hx1, hx2⟩
    · obtain ⟨x, hx, hx1, hx2⟩ := hl
      have hxl : x ∈ l := by
        rcases List.mem_cons.mp hx with rfl | hx
        · exact absurd hx1 hy
        · exact hx
      have he : s.lateSets (y :: l) = s.lateSets l := by
        unfold State.lateSets
        rw [List.foldl_cons, if_neg hy]
      exact he ▸ ih ⟨x, hxl, hx1, hx2⟩

/-- The sets that were written take effect in a converter that is not stopped. -/
def State.setsTaken (s : State) : State :=
  if s.conv.st = .off ∨ s.conv.toOff = true then s
  else
    let s := s.lostAnchors
    let s := if s.law.sets.phase then s.takePhaseSet else s
    let s := s.takeLawSet.startOutput
    { s with law.nEff := s.shareSum }.eisLimited

/-- The anchored slots whose sets are there. -/
def State.freshSets (s : State) : List Nat :=
  (if s.law.sets.law then [34] else []) ++ (if s.law.sets.plaus then [35] else []) ++ (if s.law.sets.phase then [36] else [])

/-- An output instant, after the late sets. -/
def State.outputTail (s : State) (sig34 sig35 sig36 : SigSet) : State :=
  let s := (s.checkpoint s.freshSets).countSets.setsTaken
  let s := { s with law.sets := {} }
  ((s.compareAnchor 34 sig34).compareAnchor 35 sig35).compareAnchor 36 sig36

theorem compareAnchor_conv_law (s : State) (k : Nat) (r : SigSet) : (s.compareAnchor k r).conv = s.conv ∧ (s.compareAnchor k r).law = s.law :=
  ⟨same_of_but (p := .conv) (State.compareAnchor_hide (butMask .conv) rfl ..),
    same_of_but (p := .law) (State.compareAnchor_hide (butMask .law) rfl ..)⟩

theorem outputTail_sets (s : State) (x y z : SigSet) : (s.outputTail x y z).law.sets = {} := by
  unfold State.outputTail
  extract_lets
  rw [(compareAnchor_conv_law _ _ _).2, (compareAnchor_conv_law _ _ _).2, (compareAnchor_conv_law _ _ _).2]

theorem setsTaken_of_stopping {s : State} (h : s.Stopping) : s.setsTaken = s := if_pos (.inr h.2.2)

theorem outputTail_stopping {s : State} (x y z : SigSet) (h : s.Stopping) : (s.outputTail x y z).Stopping := by
  have hcheck : (s.checkpoint s.freshSets).countSets.Stopping :=
    Stopping_of_conv (s := s) (same_of_but (p := .conv) (State.checkpoint_hide (butMask .conv) rfl ..)) h
  unfold State.outputTail
  rw [setsTaken_of_stopping hcheck]
  refine Stopping_of_conv (s := (s.checkpoint s.freshSets).countSets) ?_ hcheck
  dsimp only
  rw [(compareAnchor_conv_law _ _ _).1, (compareAnchor_conv_law _ _ _).1, (compareAnchor_conv_law _ _ _).1]

/-- The state in which the sets that are late do not stand. -/
def State.withoutSets (s : State) (l1 l2 l3 : Bool) : State :=
  { s with law.sets.law := s.law.sets.law && !l1, law.sets.plaus := s.law.sets.plaus && !l2
           law.sets.phase := s.law.sets.phase && !l3 }

theorem withoutSets_runningPan (s : State) (l1 l2 l3 : Bool) (k : Nat) :
    (s.withoutSets l1 l2 l3).runningPan k = s.runningPan k := rfl

theorem controlOutput_eq (s : State) (l1 l2 l3 : Bool) (x y z : SigSet) : s.controlOutput l1 l2 l3 x y z =
    ((s.withoutSets l1 l2 l3).lateSets [(l1, 34), (l2, 35), (l3, 36)]).outputTail x y z := rfl

/-! ### The safe law -/

/-- A capture changes the FIFO and its flags, and of the converter nothing else. -/
theorem convCapture_conv (s : State) (a b c : Nat) (d : Option Rat) : ∃ f o r, (s.convCapture a b c d).conv =
    { s.conv with fifo := f, capOverflow := o, stopRecorded := r } := by
  have hdraw : (State.drawPhases 8 s).2.conv = s.conv := (drawPhases_keeps 8 s).1
  unfold State.convCapture
  extract_lets stops
  split
  rename_i iph vbus s' hs'
  have hc : s'.conv = s.conv := by
    split at hs'
    · rcases hd : State.drawPhases 8 s with ⟨v, s1⟩
      rw [hd] at hs' hdraw
      cases d <;> (cases hs'; exact hdraw)
    · cases hs'
      rfl
  extract_lets _ u
  have hu : ∃ f o, u.conv = { s'.conv with fifo := f, capOverflow := o } := by
    unfold u
    split
    · exact ⟨_, _, rfl⟩
    · exact ⟨_, _, rfl⟩
  obtain ⟨f, o, hu⟩ := hu
  rw [hc] at hu
  split
  · exact ⟨f, o, true, congrArg (fun k : Conv => { k with stopRecorded := true }) hu⟩
  · exact ⟨f, o, _, hu⟩

theorem declare_safe {s : State} (hst : s.conv.st = .starting → 3 ≤ s.conv.startStep) : s.declare.law.safeRun = true ∧
    s.declare.law.safeCause = 12 ∧ s.declare.law.safeI0 = s.law.iRefPrev ∧
    s.declare.law.safeLatch = s.law.loopStops.any (fun x => (s.sampleNs - x).toNat ≤ s.pn P.plausLatchS * 1000000000) := by
  unfold State.declare
  extract_lets latch a _
  have hlaw : a.law = s.law := same_of_but (p := .law) (State.convCapture_hide (butMask .law) rfl ..)
  obtain ⟨f, o, r, hconv⟩ := convCapture_conv s 12 2 0 none
  unfold State.startSafe
  rw [if_neg]
  · exact ⟨rfl, rfl, congrArg (·.iRefPrev) hlaw, rfl⟩
  · dsimp only
    rw [show a.conv = _ from hconv]
    rintro ⟨h1, h2⟩
    exact absurd (hst h1) (Nat.not_le.mpr h2)

/-- Settles O41: the control sample, the output instant and the declaration, each by its own lemmas. -/
theorem controlLawEvents : Obligations.ControlLawEvents := by
  unfold Obligations.ControlLawEvents
  intro s
  refine ⟨fun sub ph bus gd line hs hp ho => ?_, fun sub ph bus gd line hs hp ho => ?_, fun l1 l2 l3 d1 d2 d3 ho => ?_,
    fun l1 l2 l3 d1 d2 d3 ho => next_neg (by simp [ho]), fun l1 l2 l3 d1 d2 d3 ho hst hl => ?_, fun h8 hst hstep hoff hrun => ?_⟩
  · exact ⟨_, (if_pos ⟨hs, hp⟩).trans (next_pos ho), controlSample_takes s sub ph bus gd line⟩
  · exact (if_pos ⟨hs, hp⟩).trans (next_neg (by simp [ho]))
  · refine ⟨_, next_pos ho, ?_⟩
    rw [controlOutput_eq]
    exact outputTail_sets ..
  · have hl' : ∃ x ∈ [(l1, 34), (l2, 35), (l3, 36)], x.1 = true ∧ ((s.withoutSets l1 l2 l3).runningPan x.2).isSome = true := by
      rcases hl with h | h | h
      · exact ⟨(l1, 34), by simp, h⟩
      · exact ⟨(l2, 35), by simp, h⟩
      · exact ⟨(l3, 36), by simp, h⟩
    obtain ⟨-, hg, hoff⟩ := outputTail_stopping d1 d2 d3 (lateSets_stop (s := s.withoutSets l1 l2 l3) _ hst hl')
    refine ⟨_, next_pos ho, ?_⟩
    rw [controlOutput_eq]
    exact ⟨hg, hoff⟩
  · exact ⟨_, next_pos ⟨h8, hst, hoff, hrun⟩, declare_safe hstep⟩

end Sys2Proof.Machine
end


section
/-!
PROOFS. The string converter (11_string_converter.md R255 to R274): its stops, and the events of its sequence.
-/

-- One proof after the other: the threads of proofs that are elaborated at once take too much memory together.
set_option Elab.async false

namespace Sys2Proof.Machine

/-! ### Stops -/

/-- A stop of a converter that runs, by its cause. -/
theorem convStop_stoppedAs {s x : State} (cause : Nat) (h : s.conv.st ≠ .off) (hc : x.conv.st = s.conv.st) (hg : x.grid = s.grid)
    (hl : x.lanes = s.lanes) (hs : x.safe = s.safe) : s.StoppedAs (x.convStop cause) :=
  stoppedAs_convStopWith s x cause (latchingCause cause) true 0 none h hc hg hl hs

/-- A hardware cause in a converter that is OFF acts on the latches. -/
theorem convStopWith_off {s : State} {cause : Nat} {latch rec : Bool} {phase : Nat} {bus : Option Rat} (h : s.conv.st = .off)
    (hc : [1, 2, 3, 5].contains cause = true) : s.convStopWith cause latch rec phase bus =
      { s.gatesOff with conv.hwLatch := true, conv.faultLatch := s.conv.faultLatch || latch } :=
  (if_pos h).trans (if_pos hc)

/-- Gates that go off leave the fault line of the gate drivers. -/
theorem gatesOff_gdFaultLow (s : State) : s.gatesOff.conv.gdFaultLow = s.conv.gdFaultLow := rfl

theorem convStop_gdFaultLow {s : State} (cause : Nat) (h : s.conv.st ≠ .off) :
    (s.convStop cause).conv.gdFaultLow = s.conv.gdFaultLow := by
  unfold State.convStop State.convStopWith
  rw [if_neg h, if_pos rfl]
  exact (gatesOff_gdFaultLow (s.convCapture cause (if cause = 8 then 3 else 2) 0 none)).trans
    (convCapture_keeps_conv_fields ..).2.2.2.2

theorem convStop_off {s : State} {cause : Nat} (h : s.conv.st = .off) (hc : [1, 2, 3, 5].contains cause = true) :
    (s.convStop cause).conv.hwLatch = true ∧ (s.convStop cause).conv.faultLatch = (s.conv.faultLatch || latchingCause cause) ∧
    (s.convStop cause).conv.gatesOn = false ∧ (s.convStop cause).conv.toOff = s.conv.toOff := by
  rw [State.convStop, convStopWith_off h hc]
  exact ⟨rfl, rfl, rfl, rfl⟩

/-- The hiccup with no retry left. -/
theorem hiccup_stops {s : State} (j : Nat) (h : s.conv.st ≠ .off) (hd : s.conv.st ≠ .draining)
    (hr : s.pn P.hiccupRetries ≤ s.retriesNow) : s.StoppedAs (s.hiccup j) := by
  unfold State.hiccup
  rw [if_neg hd, if_pos hr]
  exact stoppedAs_convStopWith s s 8 true true j none h rfl rfl rfl rfl

/-- An implausible loop before the soft-start. -/
theorem declare_stops {s : State} (h : s.conv.st ≠ .off) (hs : s.conv.st = .starting) (h3 : s.conv.startStep < 3) :
    s.StoppedAs s.declare := by
  unfold State.declare
  extract_lets latch a _
  obtain ⟨f, o, r, hc⟩ := convCapture_conv s 12 2 0 none
  unfold State.startSafe
  rw [if_pos (by dsimp only; rw [show a.conv = _ from hc]; exact ⟨hs, h3⟩)]
  exact stoppedAs_convStopWith s _ 12 latch false 0 none h (congrArg (·.st) hc) (State.convCapture_keeps_grid ..)
    (State.convCapture_keeps_lanes ..) (State.convCapture_keeps_safe ..)

theorem StoppedAs_phase {s t : State} (h : s.StoppedAs t) (l : List Phase) : s.StoppedAs { t with phase := l } := h

theorem phase_ok {j : Nat} (h1 : 1 ≤ j) (h8 : j ≤ 8) : phaseOk j = true := by
  simp [phaseOk, h1, h8]

/-- Settles O42: every cause by the one rule of a stop, and in OFF by that of the latches. -/
theorem converterStops : Obligations.ConverterStops := by
  unfold Obligations.ConverterStops
  intro s
  refine ⟨fun h => ⟨fun c hf => ?_, fun hf => ?_, ?_, fun hg hs => ?_, fun uv hu => ?_⟩, fun h ht => ⟨fun hs h1 h40 => ?_,
    fun hs hd h40 => ?_, fun k h34 h36 h7 => ?_, fun h5 => ?_, fun h8 hr hs h3 => ?_, fun j h1 h8 hg hd hn hr => ?_⟩,
    fun h => ⟨fun c hf => ?_, fun hf => ?_, ?_, fun uv hu => ?_⟩, fun uv hu => next_neg (not_le.mpr hu)⟩
  · refine ⟨_, next_pos hf, convStop_stoppedAs 1 h ?_ ?_ ?_ ?_, ?_, ?_⟩
    · rw [State.setCause_keeps_conv]
    · rw [State.setCause_keeps_grid]
    · rw [State.setCause_keeps_lanes]
    · rw [State.setCause_keeps_safe]
    · rw [State.convStop_keeps_cfe, State.setCause_keeps_cfe]
    · rw [State.convStop_keeps_prot]
      exact setCause_sets _ 29 7 (by omega) (by omega) (by omega)
  · refine ⟨_, next_pos hf, convStop_stoppedAs 2 h ?_ ?_ ?_ ?_, ?_, ?_⟩
    · rw [State.setCause_keeps_conv]
    · rw [State.setCause_keeps_grid]
    · rw [State.setCause_keeps_lanes]
    · rw [State.setCause_keeps_safe]
    · rw [State.convStop_keeps_cfe, State.setCause_keeps_cfe]
    · rw [State.convStop_keeps_prot]
      exact setCause_sets _ 28 7 (by omega) (by omega) (by omega)
  · exact ⟨_, rfl, convStop_stoppedAs 3 h rfl rfl rfl rfl, congrArg (·.lineLow) (State.convStop_keeps_prot ..)⟩
  · exact ⟨_, next_pos ⟨hg, hs⟩, convStop_stoppedAs 4 h rfl rfl rfl rfl,
      convStop_gdFaultLow (s := { s with conv.gdFaultLow := true }) 4 h⟩
  · exact ⟨_, next_pos hu, stoppedAs_convStopWith s s 5 true true 0 _ h rfl rfl rfl rfl⟩
  · exact ⟨_, next_pos ⟨hs, h1, ht, h40⟩, convStop_stoppedAs 16 h rfl rfl rfl rfl⟩
  · exact ⟨_, next_pos ⟨hs, hd, ht, h40⟩, convStop_stoppedAs 15 h rfl rfl rfl rfl⟩
  · exact ⟨_, (if_pos ⟨h34, h36⟩).trans (next_pos ⟨h7, h, ht⟩), convStop_stoppedAs 13 h rfl rfl rfl rfl⟩
  · exact ⟨_, next_pos ⟨h5, h, ht⟩, stoppedAs_convStopWith s s _ _ false 0 none h rfl rfl rfl rfl⟩
  · exact ⟨_, next_pos ⟨h8, h, ht, hr⟩, declare_stops h hs h3⟩
  · exact ⟨_, (if_pos (phase_ok h1 h8)).trans (next_pos ⟨hg, h, ht, hn⟩), StoppedAs_phase (hiccup_stops j h hd hr) _⟩
  · obtain ⟨h1, h2, h3, h4⟩ := convStop_off (cause := 1) (s := ({ s with
      cfe.ocLatched := true, prot.ocFrame := s.grid.frame, prot.ocCharge := c }).setCause 29 7)
      (by rw [State.setCause_keeps_conv]; exact h) rfl
    rw [State.setCause_keeps_conv] at h2 h4
    exact ⟨_, next_pos hf, h1, h2.trans (Bool.or_true _), h3, h4⟩
  · obtain ⟨h1, h2, h3, h4⟩ := convStop_off (cause := 2) (s := { s with cfe.fastOk := false }.setCause 28 7)
      (by rw [State.setCause_keeps_conv]; exact h) rfl
    rw [State.setCause_keeps_conv] at h2 h4
    exact ⟨_, next_pos hf, h1, h2.trans (Bool.or_true _), h3, h4⟩
  · obtain ⟨h1, -, h3, h4⟩ := convStop_off (cause := 3) (s := { s with prot.lineLow := true, conv.lineHighUs := 0 }) h rfl
    exact ⟨_, rfl, h1, h3, h4⟩
  · refine ⟨_, next_pos hu, ?_⟩
    rw [convStopWith_off h rfl]
    exact ⟨rfl, Bool.or_true _, rfl⟩

/-! ### Hiccup and records -/

/-- A hiccup in a drain ends the drain. -/
theorem hiccup_draining {s : State} (j : Nat) (h : s.conv.st = .draining) : (s.hiccup j).conv.gatesOn = false ∧
    (s.hiccup j).conv.drainDone = true ∧ (s.hiccup j).conv.latched = none ∧ (s.hiccup j).conv.hwLatch = s.conv.hwLatch := by
  unfold State.hiccup
  rw [if_pos h]
  exact ⟨rfl, rfl, rfl, (convCapture_keeps_conv_fields s 7 2 j none).2.1⟩

/-- A hiccup with a retry left turns the gates off until the retry (R272). -/
theorem hiccup_retries {s : State} (j : Nat) (h : s.conv.st ≠ .draining) (hr : s.retriesNow < s.pn P.hiccupRetries) :
    let t := s.hiccup j
    t.conv.gatesOn = false ∧ t.conv.toHiccup = true ∧ t.conv.hiccupOff = true ∧ t.conv.ssLimit = 0 ∧
      t.conv.hwLatch = s.conv.hwLatch ∧ t.conv.toOff = s.conv.toOff := by
  unfold State.hiccup
  rw [if_neg h, if_neg (not_le.mpr hr)]
  exact ⟨rfl, rfl, rfl, rfl, (convCapture_keeps_conv_fields s 7 1 j none).2.1, (convCapture_keeps_conv_fields s 7 1 j none).2.2.1⟩

theorem startPhases_conv (s : State) : s.startPhases.conv = s.conv :=
  same_of_but (p := .conv) (State.startPhases_hide (butMask .conv) rfl s)

theorem writeConvRecord_conv {s : State} {c : ConvCap} {rest : List ConvCap} (h : s.conv.fifo = c :: rest) :
    s.writeConvRecord.conv.fifo = rest ∧ s.writeConvRecord.conv.seq = s.conv.seq + 1 ∧ s.writeConvRecord.conv.lastCause = c.cause ∧
    s.writeConvRecord.conv.ring.head?.map ConvRec.seq = some s.conv.seq := by
  have hnvm (u : State) (r : NvmReq) : (u.nvmAsk r).conv = u.conv := by
    unfold State.nvmAsk
    split <;> rfl
  unfold State.writeConvRecord
  rw [h]
  dsimp only
  rw [State.notify_keeps_conv, hnvm]
  exact ⟨rfl, rfl, rfl, rfl⟩

/-! ### Switching periods -/

theorem advance_active {p : Phase} (h : p.st = .active) : ∃ o n, p.advance = { p with offset := o, spread := n } := by
  unfold Phase.advance
  extract_lets q
  have hq : ∃ o n, q = { p with offset := o, spread := n } := by
    unfold q
    split
    · exact ⟨_, _, rfl⟩
    · exact ⟨_, _, rfl⟩
  obtain ⟨o, n, hq⟩ := hq
  refine ⟨o, n, ?_⟩
  rw [if_neg (by rw [hq]; simp [h])]
  exact hq

theorem advance_rampOut {p : Phase} (h : p.st = .rampOut) : ∃ o n, p.advance = if p.ramp = 0 then { p with offset := o, spread := n, st := .shed }
    else { p with offset := o, spread := n, ramp := p.ramp - 1, share8 := p.share8 - 1 } := by
  unfold Phase.advance
  extract_lets q
  have hq : ∃ o n, q = { p with offset := o, spread := n } := by
    unfold q
    split
    · exact ⟨_, _, rfl⟩
    · exact ⟨_, _, rfl⟩
  obtain ⟨o, n, hq⟩ := hq
  refine ⟨o, n, ?_⟩
  rw [hq, if_pos h]

/-- The period that ended, of a phase that had one (R255). -/
def State.periodEnded (s : State) (j : Nat) (trip : Option (Nat × Nat)) : State :=
  if (s.phaseAt j).inPeriod then s.endPeriod j trip else s

theorem periodEnded_phaseAt {s : State} {j : Nat} (trip : Option (Nat × Nat)) (h : j - 1 < s.phase.length) :
    ∃ i d f, (s.periodEnded j trip).phaseAt j = { s.phaseAt j with ilimRun := i, duty := d, hsFrac := f } ∧
      ((s.phaseAt j).inPeriod = true →
        d = satTo 0xFFFF (roundAway (((s.onTime j trip).1 : Rat) * 65536 / (s.pwmT : Rat))).toNat ∧
        i = (if ((s.phaseAt j).clamped && (s.onTime j trip).2) || !(s.onTime j trip).2 then
          bump 0xFF (s.phaseAt j).ilimRun else 0)) ∧
      ((s.phaseAt j).inPeriod = false → d = (s.phaseAt j).duty ∧ i = (s.phaseAt j).ilimRun) := by
  unfold State.periodEnded
  cases hp : (s.phaseAt j).inPeriod
  · exact ⟨_, _, _, rfl, nofun, fun _ => ⟨rfl, rfl⟩⟩
  · rw [if_pos rfl]
    unfold State.endPeriod
    generalize s.onTime j trip = x
    exact ⟨_, _, _, State.phaseAt_modPhase s j _ h, fun _ => ⟨rfl, rfl⟩, nofun⟩

/-- The period that ended writes its phase and the converter's limit flag. -/
theorem periodEnded_keeps (s : State) (j : Nat) (trip : Option (Nat × Nat)) :
    (s.periodEnded j trip).phase.length = s.phase.length ∧ (s.periodEnded j trip).law = s.law ∧
      (s.periodEnded j trip).phaseLimit = s.phaseLimit ∧ (s.periodEnded j trip).conv.shedPhase = s.conv.shedPhase := by
  unfold State.periodEnded
  split
  · unfold State.endPeriod
    generalize s.onTime j trip = x
    exact ⟨List.length_modify .., rfl, rfl, rfl⟩
  · exact ⟨rfl, rfl, rfl, rfl⟩

theorem spreadDone_phase (s before : State) : (s.spreadDone before).phase = s.phase ∧
    (s.spreadDone before).conv.shedPhase = s.conv.shedPhase := by
  unfold State.spreadDone
  split <;> exact ⟨rfl, rfl⟩

theorem modPhase_length (s : State) (j : Nat) (f : Phase → Phase) : (s.modPhase j f).phase.length = s.phase.length :=
  List.length_modify ..

/-- A phase that still switches applies its new peak (R256). -/
theorem periodStart_switching {s : State} {j : Nat} (trip : Option (Nat × Nat))
    (hst : (((s.periodEnded j trip).phaseAt j).advance).st ≠ .shed)
    (hsw : (((s.periodEnded j trip).phaseAt j).advance).switching = true) (h : j - 1 < s.phase.length) :
    ((s.periodStart j trip).phaseAt j).st = (((s.periodEnded j trip).phaseAt j).advance).st ∧
    ((s.periodStart j trip).phaseAt j).ramp = (((s.periodEnded j trip).phaseAt j).advance).ramp ∧
    ((s.periodStart j trip).phaseAt j).share8 = (((s.periodEnded j trip).phaseAt j).advance).share8 ∧
    ((s.periodStart j trip).phaseAt j).duty = (((s.periodEnded j trip).phaseAt j).advance).duty ∧
    ((s.periodStart j trip).phaseAt j).ilimRun = (((s.periodEnded j trip).phaseAt j).advance).ilimRun ∧
    ((s.periodStart j trip).phaseAt j).inPeriod = true ∧
    ((s.periodStart j trip).phaseAt j).iPk =
      clampRat (-s.phaseLimit) s.phaseLimit ((((s.periodEnded j trip).phaseAt j).advance).rawPk s.law.iPk) := by
  obtain ⟨hlen, hlaw, hlim, -⟩ := periodEnded_keeps s j trip
  have h1 : j - 1 < (s.periodEnded j trip).phase.length := hlen ▸ h
  have h2 := State.phaseAt_modPhase (s.periodEnded j trip) j Phase.advance h1
  unfold State.periodStart
  rw [show (if (s.phaseAt j).inPeriod = true then s.endPeriod j trip else s) = s.periodEnded j trip from rfl]
  generalize s.periodEnded j trip = s1 at h1 h2 hst hsw hlaw hlim ⊢
  extract_lets _ s2 _ s3 s4
  have h3 : s3 = s2 := if_neg fun hc => hst (h2 ▸ hc.2)
  have h4 : s4 = s2.applyPeak j := by
    unfold s4
    rw [h3, if_pos (by rw [h2]; exact hsw)]
  rw [State.phaseAt_congr (spreadDone_phase s4 s).1, h4, State.applyPeak,
    State.phaseAt_modPhase s2 j _ (by rw [modPhase_length]; exact h1), h2, ← hlaw, ← hlim]
  exact ⟨rfl, rfl, rfl, rfl, rfl, rfl, rfl⟩

theorem respread_phaseAt (s : State) (k : Nat) : (s.respread.phaseAt k).st = (s.phaseAt k).st := by
  unfold State.respread
  refine foldl_keeps _ (fun u : State => (u.phaseAt k).st) (fun u x => ?_) _ s
  exact getD_modify_keeps (fun p : Phase => p.st) (by exact fun _ => rfl) u.phase _ _ {}

theorem respread_length (s : State) : s.respread.phase.length = s.phase.length := by
  unfold State.respread
  exact foldl_keeps _ (fun u : State => u.phase.length) (fun u x => modPhase_length ..) _ s

theorem respread_conv (s : State) : s.respread.conv = s.conv :=
  same_of_but (p := .conv) (State.respread_hide (butMask .conv) rfl s)

/-- A phase whose ramp has ended is shed (R261). -/
theorem periodStart_shed {s : State} {j : Nat} (trip : Option (Nat × Nat))
    (hst : (((s.periodEnded j trip).phaseAt j).advance).st = .shed) (h : j - 1 < s.phase.length) :
    ((s.periodStart j trip).phaseAt j).st = .shed ∧ ((s.periodStart j trip).phaseAt j).inPeriod = false ∧
    (s.periodStart j trip).conv.shedPhase = if s.conv.shedPhase = some j then none else s.conv.shedPhase := by
  obtain ⟨hlen, -, -, hshed⟩ := periodEnded_keeps s j trip
  have h1 : j - 1 < (s.periodEnded j trip).phase.length := hlen ▸ h
  have h2 := State.phaseAt_modPhase (s.periodEnded j trip) j Phase.advance h1
  unfold State.periodStart
  rw [show (if (s.phaseAt j).inPeriod = true then s.endPeriod j trip else s) = s.periodEnded j trip from rfl]
  generalize s.periodEnded j trip = s1 at h1 h2 hst hshed ⊢
  extract_lets _ s2 _ s3 s4
  have hst2 : (s2.phaseAt j).st = .shed := h2 ▸ hst
  have h3 : (s3.phaseAt j).st = .shed ∧ s3.phase.length = s2.phase.length ∧
      s3.conv.shedPhase = if s.conv.shedPhase = some j then none else s.conv.shedPhase := by
    unfold s3
    by_cases hs : s.conv.shedPhase = some j
    · rw [if_pos ⟨hs, hst2⟩, if_pos hs, respread_phaseAt, respread_conv, respread_length]
      exact ⟨hst2, rfl, rfl⟩
    · rw [if_neg fun hc => hs hc.1, if_neg hs]
      exact ⟨hst2, rfl, hshed⟩
  obtain ⟨hst3, hlen3, hshed3⟩ := h3
  have h4 : s4 = s3.modPhase j fun p => { p with inPeriod := false } := by
    refine if_neg ?_
    unfold Phase.switching
    rw [hst3]
    decide
  have h5 : s4.phaseAt j = { s3.phaseAt j with inPeriod := false } := by
    rw [h4]
    exact State.phaseAt_modPhase s3 j _ (by rw [hlen3, modPhase_length]; exact h1)
  obtain ⟨hsp, hsc⟩ := spreadDone_phase s4 s
  rw [State.phaseAt_congr hsp, hsc, h5, h4]
  exact ⟨hst3, rfl, hshed3⟩

/-- Settles O43: each event of the converter's sequence by its own function. -/
theorem converterSequence : Obligations.ConverterSequence := by
  unfold Obligations.ConverterSequence
  intro s
  refine ⟨fun h1 h2 h3 => next_pos ⟨h1, h2, h3⟩, fun h1 h2 h3 => next_pos ⟨h1, h2, h3⟩,
    fun h1 h2 h3 => ⟨_, next_pos ⟨h1, h2, h3⟩, rfl, rfl, rfl, rfl⟩, fun j h1 h8 hg ht hn => ⟨fun hst hr => ?_, fun hst => ?_⟩,
    fun hh ht hst hn => ?_, rfl, rfl, fun h => ?_, fun c rest hp hf => ?_, fun j near count uv h1 h8 hlen => ?_⟩
  · have hd : s.conv.st ≠ .draining := by rcases hst with e | e <;> rw [e] <;> decide
    have hoff : s.conv.st ≠ .off := by rcases hst with e | e <;> rw [e] <;> decide
    obtain ⟨r1, r2, r3, r4, r5, r6⟩ := hiccup_retries j hd hr
    refine ⟨_, (if_pos (phase_ok h1 h8)).trans (next_pos ⟨hg, hoff, ht, hn⟩), r1, r2, r3, r4, r5, r6.trans ht, fun p hp => ?_⟩
    obtain ⟨q, -, rfl⟩ := List.mem_map.mp hp
    rfl
  · exact ⟨_, (if_pos (phase_ok h1 h8)).trans (next_pos ⟨hg, by rw [hst]; decide, ht, hn⟩), hiccup_draining j hst⟩
  · refine ⟨_, next_pos ⟨hh, ht, hst.symm, hn⟩, rfl, rfl, rfl, rfl, rfl, rfl⟩
  · change execFaultRecordWrite s = _
    unfold execFaultRecordWrite
    rcases h with h | h
    · rw [if_pos h]
    · unfold State.writeConvRecord
      rw [h]
      exact congrArg _ (ite_self _)
  · exact ⟨_, next_neg (by simp [hp]), writeConvRecord_conv hf⟩
  · intro trip
    have hj : j - 1 < s.phase.length := by omega
    have hexec (hg : s.conv.gatesOn = true) (hs : (s.phaseAt j).switching = true) :
        exec (.pwmPeriodStart j near count uv) s = .next (s.periodStart j trip) :=
      (if_pos (phase_ok h1 h8)).trans (next_pos ⟨hg, hs⟩)
    obtain ⟨i, d, f, hp, hin, hout⟩ := periodEnded_phaseAt trip hj
    refine ⟨fun h => ?_, fun hg ha => ?_, fun hg hr h1 => ?_, fun hg hr h0 => ?_⟩
    · refine (if_pos (phase_ok h1 h8)).trans (next_neg ?_)
      rintro ⟨hg, hs⟩
      rcases h with h | h
      · rw [h] at hg
        cases hg
      · rw [h] at hs
        cases hs
    · obtain ⟨o, n, hadv⟩ := advance_active (p := (s.periodEnded j trip).phaseAt j) (by rw [hp]; exact ha)
      obtain ⟨-, -, -, hduty, hilim, hper, hpk⟩ := periodStart_switching trip (by rw [hadv, hp]; simp [ha])
        (by rw [hadv, hp]; simp [Phase.switching, ha]) hj
      rw [hadv, hp] at hduty hilim hpk
      refine ⟨_, hexec hg (by simp [Phase.switching, ha]), fun hi => ?_, fun hi => ?_, hper, hpk⟩
      · exact ⟨hduty.trans (hin hi).1, hilim.trans (hin hi).2⟩
      · exact ⟨hduty.trans (hout hi).1, hilim.trans (hout hi).2⟩
    · obtain ⟨o, n, hadv⟩ := advance_rampOut (p := (s.periodEnded j trip).phaseAt j) (by rw [hp]; exact hr)
      rw [if_neg (by rw [hp]; exact Nat.one_le_iff_ne_zero.mp h1)] at hadv
      obtain ⟨hst, hramp, hshare, -⟩ := periodStart_switching trip (by rw [hadv, hp]; simp [hr])
        (by rw [hadv, hp]; simp [Phase.switching, hr]) hj
      rw [hadv, hp] at hst hramp hshare
      exact ⟨_, hexec hg (by simp [Phase.switching, hr]), hst.trans hr, hramp, hshare⟩
    · obtain ⟨o, n, hadv⟩ := advance_rampOut (p := (s.periodEnded j trip).phaseAt j) (by rw [hp]; exact hr)
      rw [if_pos (by rw [hp]; exact h0)] at hadv
      exact ⟨_, hexec hg (by simp [Phase.switching, hr]), periodStart_shed trip (by rw [hadv]) hj⟩

end Sys2Proof.Machine
end


section
/-!
PROOFS. The protection (10_hardware_protection.md R236 to R248): comparators, fault channels, records and causes.
-/

-- One proof after the other: the threads of proofs that are elaborated at once take too much memory together.
set_option Elab.async false

namespace Sys2Proof.Machine

theorem fe_ok {k : Nat} (h1 : 1 ≤ k) (h6 : k ≤ 6) : feOk k = true := by
  simp [feOk, h1, h6]

theorem channel_ok {c : Nat} (h1 : 1 ≤ c) (h16 : c ≤ 16) : channelOk c = true := by
  simp [channelOk, h1, h16]

/-! ### Comparators -/

theorem comparator_feAt {s : State} {fe ch : Nat} (ov v : Bool) (hfe : fe - 1 < s.fe.length) (h1 : 1 ≤ ch) (h16 : ch ≤ 16)
    (hn : ch ≤ s.feCells fe) (hl : s.dieLive fe = true) :
    (if ov then ((s.comparator fe ch ov v).feAt fe).ovOut else ((s.comparator fe ch ov v).feAt fe).uvOut).getLsbD (ch - 1) = v ∧
    (if ov then ((s.comparator fe ch ov v).feAt fe).uvOut = (s.feAt fe).uvOut
      else ((s.comparator fe ch ov v).feAt fe).ovOut = (s.feAt fe).ovOut) := by
  have hc : s.comparator fe ch ov v = s.modFe fe fun f =>
      if ov then { f with ovOut := setBit f.ovOut (ch - 1) v } else { f with uvOut := setBit f.uvOut (ch - 1) v } :=
    if_pos (by rw [hl, decide_eq_true hn]; rfl)
  rw [hc, State.feAt_modFe s fe _ hfe]
  cases ov
  · exact ⟨(setBit_getLsbD _ _ _ _ (by omega)).trans (if_pos rfl), rfl⟩
  · exact ⟨(setBit_getLsbD _ _ _ _ (by omega)).trans (if_pos rfl), rfl⟩

theorem comparator_dead {s : State} {fe ch : Nat} (ov v : Bool) (h : s.dieLive fe = false ∨ s.feCells fe < ch) :
    s.comparator fe ch ov v = s := by
  refine if_neg ?_
  rcases h with h | h
  · simp [h]
  · simp [Nat.not_le.mpr h]

/-! ### Causes -/

/-- The fault channels' own bits, which a cause leaves. -/
def Prot.channels (x : Prot) : BitVec 7 × BitVec 7 := (x.feOv, x.feUv)

theorem capture_channels (s : State) (kind cause die : Nat) : (s.capture kind cause die).prot.channels = s.prot.channels := by
  unfold State.capture
  split <;> rfl

theorem setCause_channels (s : State) (b die : Nat) : (s.setCause b die).prot.channels = s.prot.channels := by
  unfold State.setCause
  extract_lets was dieWas c _ s'
  split
  · rfl
  · exact capture_channels s' 1 (32 - b) die

/-- A withdrawn cause above bit 26 stays until it is cleared. -/
theorem withdrawCause_late {s : State} {b : Nat} (hb : 26 < b) : s.withdrawCause b = { s with
    prot.present := setBit s.prot.present (b - 22) false
    prot.clearAt := if s.prot.present.getLsbD (b - 22) then setAt s.prot.clearAt (b - 22) s.grid.plantNs else s.prot.clearAt } :=
  if_neg (by simp; omega)

theorem cellCause_channels {s : State} {b : Nat} (die : Nat) (on any : Bool) (hb : 26 < b) :
    (s.cellCause b die on any).prot.channels = s.prot.channels := by
  unfold State.cellCause
  split
  · exact setCause_channels s b die
  split
  · rfl
  · rw [withdrawCause_late hb]
    rfl

/-- The cause of a cell leaves the other causes that are set. -/
theorem cellCause_keeps {s : State} {b c die : Nat} (on any : Bool) (hb : 26 < b) (hb2 : b ≤ 31) (hd : die ≤ 7)
    (h : s.prot.cause.getLsbD c = true) : (s.cellCause b die on any).prot.cause.getLsbD c = true := by
  unfold State.cellCause
  split
  · unfold State.setCause
    extract_lets was dieWas c' _ s'
    have hs : s'.prot.cause.getLsbD c = true := by
      change (if die = 0 then c' else setBit c' (die - 1) true).getLsbD c = true
      have h' : c'.getLsbD c = true := (setBit_true_getLsbD _ _ _ (by omega)).trans (by simp [h])
      split
      · exact h'
      · exact (setBit_true_getLsbD _ _ _ (by omega)).trans (by simp [h'])
    split
    · exact hs
    · exact capture_keeps_cause s' 1 (32 - b) die c hs
  split
  · exact h
  · rw [withdrawCause_late hb]
    exact h

theorem cellCause_sets {s : State} {b die : Nat} (any : Bool) (hb : 22 ≤ b) (hb2 : b ≤ 31) (hd : die ≤ 7) :
    (s.cellCause b die true any).prot.cause.getLsbD b = true := setCause_sets s b die hb hb2 hd

theorem cellCause_fe (s : State) (b die : Nat) (on any : Bool) : (s.cellCause b die on any).fe = s.fe :=
  same_of_but (p := .fe) (State.cellCause_hide (butMask .fe) rfl ..)

theorem linksUp_channels (s : State) : s.linksUp.prot.channels = s.prot.channels := by
  unfold State.linksUp
  split
  · rfl
  · rw [withdrawCause_late (by decide)]
    rfl

/-! ### A fault channel -/

theorem faultChannel_takes {s : State} {fe : Nat} (q : FaultFreq) (h1 : 1 ≤ fe) (h6 : fe ≤ 6) (hlen : s.fe.length = 6) :
    let t := s.faultChannel fe q
    (t.feAt fe).faultChDown = false ∧
      t.prot.feOv.getLsbD (fe - 1) = (freqShows q).1 ∧ t.prot.feUv.getLsbD (fe - 1) = (freqShows q).2 ∧
      ((freqShows q).1 = true → s.prot.feOv.getLsbD (fe - 1) = false → t.prot.cause.getLsbD 31 = true) ∧
      ((freqShows q).2 = true → s.prot.feUv.getLsbD (fe - 1) = false → t.prot.cause.getLsbD 30 = true) := by
  unfold State.faultChannel
  extract_lets a was _ b c t
  have hach : a.prot.channels = s.prot.channels := linksUp_channels _
  obtain ⟨haov, hauv⟩ := Prod.mk.inj hach
  have hafe : (a.feAt fe).faultChDown = false := by
    unfold a
    rw [State.feAt_congr (State.linksUp_keeps_fe _), State.feAt_modFe s fe _ (by omega)]
  have hbov : b.prot.feOv.getLsbD (fe - 1) = (freqShows q).1 := (setBit_getLsbD _ _ _ _ (by omega)).trans (if_pos rfl)
  have hbuv : b.prot.feUv.getLsbD (fe - 1) = (freqShows q).2 := (setBit_getLsbD _ _ _ _ (by omega)).trans (if_pos rfl)
  have hc : c.prot.channels = b.prot.channels ∧ c.fe = a.fe := by
    unfold c
    split
    · exact ⟨rfl, rfl⟩
    · exact ⟨cellCause_channels fe _ _ (by decide), cellCause_fe ..⟩
  have hcov : (freqShows q).1 = true → s.prot.feOv.getLsbD (fe - 1) = false → c.prot.cause.getLsbD 31 = true := by
    intro h1 h0
    unfold c
    have hw : was.1 = false := (congrArg (·.getLsbD (fe - 1)) haov).trans h0
    rw [if_neg (by rw [hw, Bool.and_false]; decide), h1]
    exact cellCause_sets _ (by decide) (by decide) (by omega)
  by_cases h : ((freqShows q).2 && was.2) = true
  · rw [show t = c from if_pos h]
    obtain ⟨hov, huv⟩ := Prod.mk.inj hc.1
    rw [State.feAt_congr hc.2, hov, huv]
    refine ⟨hafe, hbov, hbuv, hcov, fun h1 h0 => ?_⟩
    rw [show was.2 = s.prot.feUv.getLsbD (fe - 1) from congrArg (·.getLsbD (fe - 1)) hauv, h0, Bool.and_false] at h
    cases h
  · rw [show t = _ from if_neg h]
    have hch := cellCause_channels (s := c) (b := 30) fe (freqShows q).2 (c.prot.feUv != 0) (by decide)
    obtain ⟨hov, huv⟩ := Prod.mk.inj (hch.trans hc.1)
    rw [State.feAt_congr (cellCause_fe ..), State.feAt_congr hc.2, hov, huv]
    refine ⟨hafe, hbov, hbuv, fun h1 h0 => ?_, fun h1 h0 => ?_⟩
    · exact cellCause_keeps _ _ (by decide) (by decide) (by omega) (hcov h1 h0)
    · rw [h1]
      exact cellCause_sets _ (by decide) (by decide) (by omega)

/-! ### Records and releases -/

theorem nvmAsk_prot (s : State) (r : NvmReq) : (s.nvmAsk r).prot = s.prot := by
  unfold State.nvmAsk
  split <;> rfl

theorem writeProtRecord_prot {s : State} {e : CapEntry} {rest : List CapEntry} (h : s.prot.fifo = e :: rest) :
    s.writeProtRecord.prot = { s.prot with
      fifo := rest, seq := s.prot.seq + 1, recs := ({ seq := s.prot.seq, bytes := s.protBytes e } :: s.prot.recs).take 256 } := by
  unfold State.writeProtRecord
  rw [h]
  dsimp only
  rw [State.notify_keeps_prot, nvmAsk_prot]

theorem thermalTrip_takes {s : State} {fe : Nat} (h : fe - 1 < s.fe.length) : ((s.thermalTrip fe).feAt fe).tsdLatched = true ∧
    ((s.thermalTrip fe).feAt fe).swNow = 0 ∧ (s.thermalTrip fe).prot.cause.getLsbD 22 = s.prot.cause.getLsbD 22 := by
  have hcap (u : State) : (u.capture 3 11 fe).fe = u.fe := by
    unfold State.capture
    split <;> rfl
  unfold State.thermalTrip
  extract_lets a
  rw [State.feAt_congr (State.absorb_keeps_fe ..), State.feAt_congr (hcap a), State.absorb_keeps_prot,
    (capture_cause_getLsbD a 3 11 fe (by decide)).1, State.feAt_modFe s fe _ h]
  exact ⟨rfl, rfl, rfl⟩

/-- Settles O44: each event of the protection by its own function. -/
theorem protectionEvents : Obligations.ProtectionEvents := by
  unfold Obligations.ProtectionEvents
  intro s
  have hcmp {fe ch : Nat} (h1 : 1 ≤ fe) (h6 : fe ≤ 6) (c1 : 1 ≤ ch) (c16 : ch ≤ 16) (ov : Bool) :
      exec (.comparatorAssert fe ch ov) s = .next (s.comparator fe ch ov true) ∧
      exec (.comparatorRelease fe ch ov) s = .next (s.comparator fe ch ov false) := by
    have hok : (feOk fe && channelOk ch) = true := by rw [fe_ok h1 h6, channel_ok c1 c16]; rfl
    exact ⟨if_pos hok, if_pos hok⟩
  refine ⟨fun fe ch ov h1 h6 hlen c1 hn c16 hl => ?_, fun fe ch ov h1 h6 c1 c16 h => ?_, fun fe q h1 h6 h => ?_,
    fun fe q h1 h6 hlen hl hq => ?_, fun e rest hp ho hr hf => ?_, fun fe h1 h6 hlen => ⟨fun hl ht => ?_, fun hl => ?_, ?_⟩,
    fun hf => ?_, fun hf => next_neg (by simp [hf]), fun b h22 h31 => ?_⟩
  · obtain ⟨ha, hb⟩ := hcmp h1 h6 c1 c16 ov
    exact ⟨⟨_, ha, comparator_feAt ov true (by omega) c1 c16 hn hl⟩, ⟨_, hb, (comparator_feAt ov false (by omega) c1 c16 hn hl).1⟩⟩
  · obtain ⟨ha, hb⟩ := hcmp h1 h6 c1 c16 ov
    rw [ha, hb, comparator_dead ov true h, comparator_dead ov false h]
    exact ⟨rfl, rfl⟩
  · refine (if_pos (fe_ok h1 h6)).trans (next_neg ?_)
    rcases h with h | h
    · simp [h]
    · simp [h]
  · exact ⟨_, (if_pos (fe_ok h1 h6)).trans (next_pos (by simp [hl, hq])), faultChannel_takes q h1 h6 hlen⟩
  · exact ⟨_, next_neg (by simp [hp, ho, hr, hf]), writeProtRecord_prot hf⟩
  · exact ⟨_, (if_pos (fe_ok h1 h6)).trans (next_pos (by simp [hl, ht])), thermalTrip_takes (by omega)⟩
  · exact (if_pos (fe_ok h1 h6)).trans (next_neg (by simp [hl]))
  · exact if_pos (fe_ok h1 h6)
  · refine ⟨_, next_pos hf, ?_⟩
    rw [withdrawCause_late (by decide)]
    exact ⟨rfl, rfl, rfl⟩
  · intro since hr hc
    have hok : causeBitOk b = true := by simp [causeBitOk, h22, h31]
    refine ⟨fun hlt => ?_, fun hp hle => ?_, fun hp => ?_⟩
    · refine (if_pos hok).trans (next_neg ?_)
      simp only [hr, decide_true, Bool.true_and, decide_eq_true_eq, not_le]
      exact hlt
    · obtain ⟨hcause, hpres⟩ := clearCause_getLsbD s (c := b) (b := b) (by omega) h22
      refine ⟨_, (if_pos hok).trans (next_pos ?_), ?_, hpres⟩
      · simp only [hr, decide_true, Bool.true_and, decide_eq_true_eq]
        exact hle
      · rw [hcause, hp]
        simp
    · refine (if_pos hok).trans (congrArg _ ?_)
      rw [show s.clearCause b = s from if_neg (by simp [hp])]
      exact ite_self _

end Sys2Proof.Machine
end


section
/-!
PROOFS. The protection-only state (14_lanes_and_failover.md R347 to R352).
-/

-- One proof after the other: the threads of proofs that are elaborated at once take too much memory together.
set_option Elab.async false

namespace Sys2Proof.Machine

/-! ### Notices on the ports -/

/-- A port that a notice of the protection-only state goes out on. -/
def NoticedPort (q : Port) : Prop := q = .spi ∨ q = .canA ∨ q = .canB

theorem portIdx_ne {p q : Port} (hq : NoticedPort q) (hp : p ≠ .own) (h : p ≠ q) : portIdx q ≠ portIdx p := by
  rcases hq with rfl | rfl | rfl <;> cases p <;> simp_all [portIdx]

/-- A notice counts on the port it goes out on. -/
theorem noticeOn_notices {s : State} {p q : Port} (n : Notice) (hq : NoticedPort q) (hp : p ≠ .own) (h : s.port.length = 4) :
    ((s.noticeOn q n).portAt p).notices = if p = q then ((s.portAt p).notices + 1) % 256 else (s.portAt p).notices := by
  have hport : (s.noticeOn q n).port = (s.modPort q fun x => { x with notices := (x.notices + 1) % 256 }).port := by
    rcases hq with rfl | rfl | rfl
    · exact same_of_but (p := .port) (State.sendSpi_hide (butMask .port) rfl ..)
    · exact same_of_but (p := .port) (State.noticeCan_hide (butMask .port) rfl ..)
    · exact same_of_but (p := .port) (State.noticeCan_hide (butMask .port) rfl ..)
  rw [portAt_congr hport]
  split
  · subst p
    rw [portAt_modPort s q _ h]
  · rename_i hne
    exact congrArg (·.notices) (getD_modify_ne s.port _ _ _ {} (portIdx_ne hq hp hne))

theorem noticeOn_length (s : State) (q : Port) (n : Notice) : (s.noticeOn q n).port.length = s.port.length := by
  have h := State.noticeOn_lengths s q n
  simp only [State.lengths, List.cons.injEq] at h
  exact h.2.2.2.2.2.2.2.2.2.2.1

theorem noticesOn_notices (n : Notice) {p : Port} (hp : p ≠ .own) (l : List Port) (hl : l.Nodup) (hq : ∀ q ∈ l, NoticedPort q) {s : State}
    (h : s.port.length = 4) : ((l.foldl (fun s q => s.noticeOn q n) s).portAt p).notices =
      if p ∈ l then ((s.portAt p).notices + 1) % 256 else (s.portAt p).notices := by
  induction l generalizing s with
  | nil => rfl
  | cons q l ih =>
    have hn := noticeOn_notices n (hq q List.mem_cons_self) hp h
    rw [List.foldl_cons, ih hl.of_cons (fun r hr => hq r (List.mem_cons_of_mem _ hr)) ((noticeOn_length ..).trans h), hn]
    by_cases e : p = q
    · subst e
      have hnot : p ∉ l := (List.nodup_cons.mp hl).1
      simp [hnot]
    · simp [e]

/-- The ports of NOTIFY_PORTS without the ring. -/
theorem noticePorts_off_ring (m : Nat) : ((noticePorts m).filter (· != .ring)).Nodup ∧
    (∀ q ∈ (noticePorts m).filter (· != .ring), NoticedPort q) ∧
    ∀ p ∈ noticePorts m, p ≠ .own ∧ (p ∈ (noticePorts m).filter (· != .ring) ↔ p ≠ .ring) := by
  unfold noticePorts NoticedPort
  cases m.testBit 0 <;> cases m.testBit 1 <;> cases m.testBit 2 <;> cases m.testBit 3 <;> decide

theorem protNotice_lanes (s : State) : s.protNotice.lanes = s.lanes :=
  same_of_but (p := .lanes) (State.protNotice_hide (butMask .lanes) rfl s)

theorem protNotice_notices {s : State} {p : Port} (hp : p ∈ noticePorts (s.pn P.notifyPorts)) (hr : s.lanes.protReduced = false)
    (ho : s.portsOn = true) (h : s.port.length = 4) : (s.protNotice.portAt p).notices =
      if p = .ring then (s.portAt p).notices else ((s.portAt p).notices + 1) % 256 := by
  obtain ⟨hnodup, hports, hmem⟩ := noticePorts_off_ring (s.pn P.notifyPorts)
  obtain ⟨hown, hring⟩ := hmem p hp
  unfold State.protNotice
  extract_lets n
  rw [if_neg (by simp [hr, ho]), noticesOn_notices n hown _ hnodup hports h]
  by_cases e : p = .ring
  · rw [if_neg (fun hm => hring.mp hm e), if_pos e]
  · rw [if_pos (hring.mpr e), if_neg e]

/-! ### The entry -/

theorem enterProtOnly_takes (s : State) (cause : Nat) : ∃ u : State, s.enterProtOnly cause false = (u.setCause 22 0).protNotice ∧
    u.lanes.protOnly = true ∧ u.lanes.valid = false ∧ u.lanes.protReduced = false ∧ u.lanes.protCause = cause ∧
    u.lanes.fallback = (s.conv.st != FnState.off) ∧ u.gov.pause = 7 ∧ u.law.excOn = false :=
  ⟨_, rfl, rfl, rfl, rfl, rfl, rfl, rfl, rfl⟩

theorem enterProtOnly_facts (s : State) (cause : Nat) : let t := s.enterProtOnly cause false
    t.lanes.protOnly = true ∧ t.lanes.valid = false ∧ t.lanes.protReduced = false ∧ t.lanes.protCause = cause ∧
      t.lanes.fallback = (s.conv.st != FnState.off) ∧ t.gov.pause = 7 ∧ t.law.excOn = false ∧ t.prot.cause.getLsbD 22 = true := by
  obtain ⟨u, hu, h1, h2, h3, h4, h5, h6, h7⟩ := enterProtOnly_takes s cause
  have hlanes : (u.setCause 22 0).protNotice.lanes = u.lanes := (protNotice_lanes _).trans (State.setCause_keeps_lanes ..)
  have hgov : (u.setCause 22 0).protNotice.gov = u.gov :=
    (same_of_but (p := .gov) (State.protNotice_hide (butMask .gov) rfl _)).trans (State.setCause_keeps_gov ..)
  have hlaw : (u.setCause 22 0).protNotice.law = u.law :=
    (same_of_but (p := .law) (State.protNotice_hide (butMask .law) rfl _)).trans (State.setCause_keeps_law ..)
  have hprot : (u.setCause 22 0).protNotice.prot = (u.setCause 22 0).prot :=
    same_of_but (p := .prot) (State.protNotice_hide (butMask .prot) rfl _)
  rw [hu]
  dsimp only
  rw [hlanes, hgov, hlaw, hprot]
  exact ⟨h1, h2, h3, h4, h5, h6, h7, setCause_sets u 22 0 (by decide) (by decide) (by decide)⟩

/-! ### The contactor request -/

/-- The state in which the lanes and the hands ask for open contactors. -/
def State.openAsked (s : State) : State :=
  { s with safe.closeReq := false, safe.twohandClose := false, lanes.closeReq := false
           safe.opened := if s.safe.anyOn then some .other else s.safe.opened }

theorem followRequest_keeps (s : State) : s.followRequest.lanes = s.lanes ∧ s.followRequest.safe.closeReq = s.safe.closeReq ∧
    s.followRequest.safe.twohandClose = s.safe.twohandClose := by
  unfold State.followRequest State.beginOpen
  split
  · exact ⟨rfl, rfl, rfl⟩
  split
  · split <;> exact ⟨rfl, rfl, rfl⟩
  · split <;> exact ⟨rfl, rfl, rfl⟩
  · split <;> exact ⟨rfl, rfl, rfl⟩
  · exact ⟨rfl, rfl, rfl⟩
  · exact ⟨rfl, rfl, rfl⟩

/-- An armed block whose contactors are closed and that no request closes begins to open (R369). -/
theorem followRequest_opens {s : State} (ha : s.safe.st = .armed) (ht : s.safe.tripT = none) (hs : s.safe.seq = .closed)
    (hw : s.safe.wantsClosed = false) : s.followRequest = s.beginOpen := by
  unfold State.followRequest
  rw [ha, ht, hs, hw]
  rfl

/-- Settles O45: entry, notice, fallback, contactor request and RESET of the protection-only state. -/
theorem protectionOnlyState : Obligations.ProtectionOnlyState := by
  unfold Obligations.ProtectionOnlyState
  intro s
  refine ⟨fun hv hp ho h => ?_, fun h => ?_, fun p hp hpo hr ho hl hn => ?_, fun hf hz => ?_, fun h => ?_, fun h => ?_, fun hpo h => ?_,
    fun port bs hport hno => ?_, fun port bs r hport hr => ?_⟩
  · refine ⟨_, next_neg ?_, ?_⟩
    · rcases h with h | ⟨h1, h2⟩
      · simp [hv, hp, ho, h]
      · simp [hv, hp, ho, h1, h2]
    · exact enterProtOnly_facts ..
  · refine next_pos ?_
    rcases h with h | h | h <;> simp [h]
  · refine ⟨_, next_pos ?_, ?_, protNotice_notices hp hr ho hl⟩
    · rw [hpo, decide_eq_true hn]
      rfl
    · exact congrArg (fun x : Lanes => { x with protAt := s.grid.frame }) (protNotice_lanes s)
  · exact ⟨_, next_pos ⟨hf, hz⟩, rfl, rfl, rfl, rfl⟩
  · refine next_neg ?_
    rcases h with h | h
    · simp [h]
    · rw [Bool.and_eq_true, decide_eq_true_eq]
      rintro ⟨-, hle⟩
      omega
  · refine next_neg ?_
    rcases h with h | ⟨h1, h2, h3⟩
    · simp [h]
    · simp [h1, h2, h3]
  · refine ⟨_, next_pos ?_, ?_⟩
    · rcases h with h | h | h <;> simp [hpo, h]
    · obtain ⟨hl, hc, ht⟩ := followRequest_keeps s.openAsked
      refine ⟨hc, congrArg (·.closeReq) hl, ht, fun h1 h2 h3 => ?_⟩
      have hopen : s.openAsked.followRequest = s.openAsked.beginOpen := followRequest_opens h1 h2 h3 rfl
      rw [State.openAsked] at hopen
      rw [hopen]
      exact ⟨rfl, rfl, rfl⟩
  · refine (if_neg hport).trans ?_
    rw [hno]
  · intro key
    have hexec : exec (.protOnlyReset port bs) s = .next (if s.lanes.protOnly && !s.lanes.protReduced && s.portsOn && r.crcOk &&
        r.length == r.payload.length && r.opcode == 0xF0 && r.payload.length == 4 && getU r.payload 0 4 == 0xA55A &&
        (r.target.toNat == s.ring.position || r.target == 0xFE) then s.restart else s) := by
      refine (if_neg hport).trans ?_
      rw [hr]
    have hkey : (s.lanes.protOnly && !s.lanes.protReduced && s.portsOn && r.crcOk && r.length == r.payload.length && r.opcode == 0xF0 &&
        r.payload.length == 4 && getU r.payload 0 4 == 0xA55A && (r.target.toNat == s.ring.position || r.target == 0xFE)) = true ↔ key := by
      simp only [key, Bool.and_eq_true, Bool.or_eq_true, Bool.not_eq_true', beq_iff_eq, and_assoc]
    rw [hexec]
    refine ⟨fun h => ⟨_, next_pos (hkey.mpr h), rfl, rfl, ?_, ?_⟩, fun h => next_neg fun h' => h (hkey.mp h')⟩
    · exact (restart_cleared s).mode
    · exact (restart_cleared s).token

end Sys2Proof.Machine
end


section
/-!
PROOFS. The events of a sweep (07_impedance_spectroscopy.md).
-/

-- One proof after the other: the threads of proofs that are elaborated at once take too much memory together.
set_option Elab.async false

namespace Sys2Proof.Machine

/-! ### Verdicts -/

theorem releaseP37_eis (s : State) (j : JobKind) (w : Nat) : (s.releaseP37 j w).eis = s.eis := State.releaseP37_keeps_eis s j w

/-- What a verdict leaves of the sweep. -/
theorem applyVerdict_eis (s : State) (b v : Nat) : ∃ n l, (s.applyVerdict b v).eis =
    { s.eis with
      waits := s.eis.waits.filter (· != b), verdicts := s.eis.verdicts ++ [(b, v)], blocks := n, lastCounted := l } ∧
    (v ≠ 0 → n = s.eis.blocks) := by
  refine ⟨_, _, releaseP37_eis _ _ _, fun hv => if_neg ?_⟩
  rw [Bool.and_eq_true, beq_iff_eq]
  exact fun h => hv h.2

/-- The windows of the watch move on with their blocks: nothing else of a sweep does. -/
theorem watchShift_eis (s : State) : ∃ g w e, s.watchShift.eis = { s.eis with watchGoing := g, sweep := w, excSweep := e } := by
  unfold State.watchShift
  split
  · exact ⟨_, _, _, rfl⟩
  · exact ⟨_, _, _, rfl⟩

/-- The end of a sweep keeps its blocks and their verdicts. -/
theorem endSweep_counts (s : State) (cause : Nat) (cmd : Option DeferRef) :
    (s.endSweep cause cmd).eis.verdicts = s.eis.verdicts ∧ (s.endSweep cause cmd).eis.blockIdx = s.eis.blockIdx := by
  unfold State.endSweep
  dsimp only
  split
  · split <;> exact ⟨rfl, rfl⟩
  · split <;> exact ⟨rfl, rfl⟩

/-- A live sweep that ends drains, with its cause. -/
theorem endSweep_drains {s : State} (cause : Nat) (cmd : Option DeferRef) (h : s.sweepLive = true) :
    (s.endSweep cause cmd).eis.st = .draining ∧ (s.endSweep cause cmd).eis.endCause = cause ∧
      (s.endSweep cause cmd).eis.halted = false := by
  unfold State.endSweep
  rw [if_pos h]
  dsimp only
  split <;> exact ⟨rfl, rfl, rfl⟩

theorem sweepLive_congr {s t : State} (h : t.eis.st = s.eis.st) : t.sweepLive = s.sweepLive := by
  unfold State.sweepLive
  rw [h]

/-! ### The end of a block -/

/-- The next block index: the blocks of the watch begin again where the 32 bits of the frame number do. -/
def State.blockAfter (s : State) : Nat :=
  if s.eis.kind = .watch ∧ s.blockStart s.eis.blockIdx + 1000 < s.blockStart s.eis.blockIdx then 0 else s.eis.blockIdx + 1

theorem blockAfter_eq (s : State) :
    (if s.eis.kind == .watch && s.blockStart s.eis.blockIdx + 1000 < s.blockStart s.eis.blockIdx then 0
      else (s.eis.blockIdx + 1)) = s.blockAfter := by
  unfold State.blockAfter
  simp only [Bool.and_eq_true, beq_iff_eq, decide_eq_true_eq]

/-- The block index and the void state that the next block begins with. -/
def State.nextBlock (next void : Nat) (resume : Option Word) (s : State) : State :=
  { s.watchShift with eis.blockIdx := next, eis.blockVoid := void, eis.resumeAt := resume }

theorem nextBlock_eis (s : State) (next void : Nat) (resume : Option Word) :
    (s.nextBlock next void resume).eis.blockIdx = next ∧ (s.nextBlock next void resume).eis.verdicts = s.eis.verdicts ∧
      (s.nextBlock next void resume).eis.waits = s.eis.waits := by
  obtain ⟨g, w, e, h⟩ := watchShift_eis s
  exact ⟨rfl, congrArg (·.verdicts) h, congrArg (·.waits) h⟩

/-- A satellite leaves the verdict on its block to the primary. -/
theorem blockEnd_satellite {s : State} (h : s.isPrimary = false) : ∃ void resume, s.blockEnd =
    State.nextBlock s.blockAfter void resume { s with eis.waits := s.eis.waits ++ [s.eis.blockIdx] } := by
  unfold State.blockEnd
  dsimp only
  rw [blockAfter_eq, if_pos (by rw [h]; rfl)]
  exact ⟨_, _, rfl⟩

/-- A sweep of the host ends with the last of its blocks. -/
def State.endIfWhole (s : State) : State :=
  match s.eis.sweep with
  | none => s
  | some w => if s.eis.kind != EisKind.watch && w.nb ≤ s.eis.blocks then s.endSweep 1 none else s

theorem endIfWhole_counts (s : State) : s.endIfWhole.eis.verdicts = s.eis.verdicts ∧ s.endIfWhole.eis.blockIdx = s.eis.blockIdx := by
  unfold State.endIfWhole
  split
  · exact ⟨rfl, rfl⟩
  · split
    · exact endSweep_counts ..
    · exact ⟨rfl, rfl⟩

/-- The primary takes its verdict. -/
theorem blockEnd_primary {s : State} (h : s.isPrimary = true) : ∃ n bs void resume, s.blockEnd =
    (State.nextBlock s.blockAfter void resume
      ((State.applyVerdict { s with eis.settleLeft := n } s.eis.blockIdx s.verdictNow).queueControl bs)).endIfWhole := by
  have hsettle : ∃ n, (if s.verdictNow = 1 then { s with eis.settleLeft := s.eis.settleLeft - 1 } else s) =
      { s with eis.settleLeft := n } := by
    split <;> exact ⟨_, rfl⟩
  obtain ⟨n, hn⟩ := hsettle
  unfold State.blockEnd
  dsimp only
  rw [blockAfter_eq, if_neg (by rw [h]; decide), hn]
  exact ⟨n, _, _, _, rfl⟩

theorem blockEnd_facts (s : State) : s.blockEnd.eis.blockIdx = s.blockAfter ∧
    (s.isPrimary = false → s.blockEnd.eis.waits = s.eis.waits ++ [s.eis.blockIdx] ∧ s.blockEnd.eis.verdicts = s.eis.verdicts) ∧
    (s.isPrimary = true → s.blockEnd.eis.verdicts = s.eis.verdicts ++ [(s.eis.blockIdx, s.verdictNow)]) := by
  cases hp : s.isPrimary with
  | false =>
    obtain ⟨void, resume, he⟩ := blockEnd_satellite hp
    obtain ⟨hi, hv, hw⟩ := nextBlock_eis { s with eis.waits := s.eis.waits ++ [s.eis.blockIdx] } s.blockAfter void resume
    rw [he]
    exact ⟨hi, fun _ => ⟨hw, hv⟩, nofun⟩
  | true =>
    obtain ⟨n, bs, void, resume, he⟩ := blockEnd_primary hp
    obtain ⟨k, l, ha, -⟩ := applyVerdict_eis { s with eis.settleLeft := n } s.eis.blockIdx s.verdictNow
    obtain ⟨hi, hv, -⟩ := nextBlock_eis ((State.applyVerdict { s with eis.settleLeft := n } s.eis.blockIdx s.verdictNow).queueControl bs)
      s.blockAfter void resume
    obtain ⟨hv', hi'⟩ := endIfWhole_counts (State.nextBlock s.blockAfter void resume
      ((State.applyVerdict { s with eis.settleLeft := n } s.eis.blockIdx s.verdictNow).queueControl bs))
    rw [he]
    exact ⟨hi'.trans hi, nofun, fun _ => hv'.trans (hv.trans (congrArg (·.verdicts) ha))⟩

/-! ### Control records -/

/-- A control record that the module does not follow. -/
theorem controlRx_ignored {s : State} {bs : List Byte}
    (h : s.isPrimary = true ∨ bs.length ≠ 16 ∨ getB bs 0 ≠ 0x33 ∨ crcGood 12 bs = false) : s.controlRx bs = s := by
  unfold State.controlRx
  refine if_pos ?_
  rw [Bool.or_eq_true, Bool.not_eq_true', Bool.and_eq_false_iff, Bool.and_eq_false_iff, beq_eq_false_iff_ne, beq_eq_false_iff_ne]
  tauto

/-- The verdict of a control record, for a block that waits. -/
def State.recordVerdict (s : State) (b v : Nat) : State :=
  match s.eis.waits.find? fun x => x % 65536 == b with
  | some x => s.applyVerdict x (v % 4)
  | none => s

/-- What a good control record does, of the watch or of the module's own sweep. -/
def State.followRecord (s : State) (watch mine : Bool) (bs : List Byte) : State :=
  if !watch && !mine then s
  else
    let st := (getB bs 2).toNat
    let s := s.recordVerdict (getU bs 8 2) (getB bs 10).toNat
    let s := if watch then s.followWatch (st % 4 != 0) else { s with eis.halted := st.testBit 7 && s.sweepLive }
    if mine && getB bs 3 != 0 && s.sweepLive then s.endSweep (getB bs 3).toNat none else s

theorem controlRx_eq (s : State) (bs : List Byte) : s.controlRx bs =
    if s.isPrimary || !(bs.length == 16 && getB bs 0 == 0x33 && crcGood 12 bs) then s
    else s.followRecord (s.eis.kind == .watch && (getB bs 1).toNat == 0)
      (s.eis.st != .off && (getB bs 1).toNat == s.eis.sweepId && (getB bs 1).toNat != 0) bs := rfl

theorem recordVerdict_live {s : State} (b v : Nat) (h : s.sweepLive = true) : (s.recordVerdict b v).sweepLive = true := by
  unfold State.recordVerdict
  split
  · rename_i x _
    obtain ⟨k, l, ha, -⟩ := applyVerdict_eis s x (v % 4)
    exact (sweepLive_congr (congrArg (·.st) ha)).trans h
  · exact h

/-- A record of the running sweep: its verdict, its halt and its end. -/
theorem followRecord_mine {s : State} (bs : List Byte) (h : s.sweepLive = true) : s.followRecord false true bs =
    (let u := { s.recordVerdict (getU bs 8 2) (getB bs 10).toNat with eis.halted := (getB bs 2).toNat.testBit 7 }
      if getB bs 3 ≠ 0 then u.endSweep (getB bs 3).toNat none else u) := by
  have hlive := recordVerdict_live (getU bs 8 2) (getB bs 10).toNat h
  unfold State.followRecord
  rw [if_neg (by decide)]
  dsimp only
  rw [if_neg Bool.false_ne_true, hlive, Bool.and_true]
  have hend : (true && getB bs 3 != 0 && ({ s.recordVerdict (getU bs 8 2) (getB bs 10).toNat with
      eis.halted := (getB bs 2).toNat.testBit 7 } : State).sweepLive) = decide (getB bs 3 ≠ 0) := by
    refine (congrArg (_ && ·) hlive).trans ?_
    rw [Bool.and_true, Bool.true_and, decide_not]
    rfl
  rw [hend]
  simp only [decide_eq_true_eq]

/-- A good control record that names the running sweep of a satellite. -/
theorem controlRx_mine {s : State} {bs : List Byte} (hp : s.isPrimary = false) (hl : bs.length = 16) (h0 : getB bs 0 = 0x33)
    (hc : crcGood 12 bs = true) (hlive : s.sweepLive = true) (hid : (getB bs 1).toNat = s.eis.sweepId) (hne : s.eis.sweepId ≠ 0) :
    s.controlRx bs = s.followRecord false true bs := by
  have hoff : s.eis.st ≠ .off := by
    unfold State.sweepLive at hlive
    intro h
    rw [h] at hlive
    exact absurd hlive (by decide)
  have hwatch : (s.eis.kind == .watch && s.eis.sweepId == 0) = false := by
    rw [Bool.and_eq_false_iff, beq_eq_false_iff_ne (a := s.eis.sweepId)]
    exact Or.inr hne
  have hmine : (s.eis.st != .off && s.eis.sweepId == s.eis.sweepId && s.eis.sweepId != 0) = true := by
    rw [Bool.and_eq_true, Bool.and_eq_true, bne_iff_ne, bne_iff_ne]
    exact ⟨⟨hoff, beq_self_eq_true _⟩, hne⟩
  rw [controlRx_eq, hid, hwatch, hmine, hp, hl, h0, hc]
  rfl

/-! ### The end of a drain -/

/-- The sweep of a drain that has ended is gone; the command that stopped it learns so. -/
def State.sweepGone (s : State) : State :=
  let s := { s with eis.st := .off, eis.kind := .none, eis.sweep := none, eis.g := 0 }
  if s.eis.latched.isSome then s
  else s.complete (s.eis.stopBy.getD {}) .ok s.eis.enableOutcome.1 s.eis.enableOutcome.2 s.eis.endCause
    (toLe 1 s.eis.sweepId ++ toLe 2 s.eis.blocks)

theorem sweepGone_eis (s : State) : s.sweepGone.eis.st = .off ∧ s.sweepGone.eis.sweep = none ∧ s.sweepGone.eis.g = 0 := by
  unfold State.sweepGone
  dsimp only
  split
  · exact ⟨rfl, rfl, rfl⟩
  · rw [State.complete_keeps_eis]
    exact ⟨rfl, rfl, rfl⟩

theorem drainEnds_eis (s : State) : s.drainEnds.eis.st = .off ∧ s.drainEnds.eis.sweep = none ∧ s.drainEnds.eis.g = 0 := by
  obtain ⟨u, hu⟩ : ∃ u : State, s.drainEnds = u.sweepGone := ⟨_, rfl⟩
  rw [hu]
  exact sweepGone_eis u

/-- Settles O46: each event is taken apart by its guard; verdicts go through `applyVerdict_eis`, the end of a block through
`blockEnd_facts`, a control record through `controlRx_mine` and the end of a sweep through `endSweep_drains`. -/
theorem sweepEvents : Obligations.SweepEvents := by
  unfold Obligations.SweepEvents
  intro s
  refine ⟨?_, ?_, ?_, ?_, ?_, ?_, ?_, ?_, ?_, ?_, ?_, ?_, ?_⟩
  · intro h
    refine ⟨_, next_pos h, rfl, rfl, fun hr => ?_⟩
    dsimp only
    rw [hr, Bool.or_false]
  · exact fun h => next_neg h
  · intro h
    refine next_neg ?_
    rw [h, Option.isSome_none, Bool.and_false]
    decide
  · intro hst hdue
    refine ⟨_, next_pos ?_, (blockEnd_facts s).1, (blockEnd_facts s).2.1, (blockEnd_facts s).2.2⟩
    rw [hdue, Bool.and_true, Bool.or_eq_true, decide_eq_true_eq, decide_eq_true_eq]
    exact hst
  · exact fun bs h => congrArg Host.Outcome.next (controlRx_ignored h)
  · intro bs hp hl h0 hc hlive hid hne
    have hexec : exec (.eisControlRecordRx bs) s = .next (s.controlRx bs) := rfl
    have hul := recordVerdict_live (getU bs 8 2) (getB bs 10).toNat hlive
    rw [hexec, controlRx_mine hp hl h0 hc hlive hid hne, followRecord_mine bs hlive]
    refine ⟨fun h3 x hx => ?_, fun h3 hx => ?_, fun h3 => ?_⟩
    · have hu : s.recordVerdict (getU bs 8 2) (getB bs 10).toNat = s.applyVerdict x ((getB bs 10).toNat % 4) := by
        unfold State.recordVerdict
        rw [hx]
      obtain ⟨k, l, ha, -⟩ := applyVerdict_eis s x ((getB bs 10).toNat % 4)
      exact ⟨_, next_neg (not_not.mpr h3), rfl, (congrArg (·.eis.verdicts) hu).trans (congrArg (·.verdicts) ha)⟩
    · have hu : s.recordVerdict (getU bs 8 2) (getB bs 10).toNat = s := by
        unfold State.recordVerdict
        rw [hx]
      exact ⟨_, next_neg (not_not.mpr h3), congrArg (fun e : State => { e.eis with halted := (getB bs 2).toNat.testBit 7 }) hu⟩
    · obtain ⟨hst, hcause, -⟩ := endSweep_drains (s := { s.recordVerdict (getU bs 8 2) (getB bs 10).toNat with
        eis.halted := (getB bs 2).toNat.testBit 7 }) (getB bs 3).toNat none hul
      exact ⟨_, next_pos h3, hst, hcause⟩
  · intro h
    change execEisVerdictTimeout s = _
    unfold execEisVerdictTimeout
    rw [h]
  · intro b rest hw
    have hexec : exec .eisVerdictTimeout s = .next (if (s.sinceBlock b).any (100 ≤ ·) then s.applyVerdict b 2 else s) := by
      change execEisVerdictTimeout s = _
      unfold execEisVerdictTimeout
      rw [hw]
    rw [hexec]
    constructor
    · intro n hn hlate
      obtain ⟨k, l, ha, hk⟩ := applyVerdict_eis s b 2
      refine ⟨_, next_pos ?_, congrArg (·.verdicts) ha, ?_, (congrArg (·.blocks) ha).trans (hk (by decide))⟩
      · rw [hn]
        exact decide_eq_true hlate
      · refine (congrArg (·.waits) ha).trans ?_
        rw [hw, List.filter_cons_of_neg (by simp)]
    · intro h
      refine next_neg ?_
      cases hs : s.sinceBlock b with
      | none => decide
      | some n =>
        have := h n hs
        simp only [Option.any_some, decide_eq_true_eq]
        omega
  · intro hlive hp hover
    obtain ⟨hst, hcause, hhalt⟩ := endSweep_drains 4 none hlive
    refine ⟨_, next_pos ?_, hst, hcause, hhalt⟩
    rw [hlive, hp, Bool.true_and, Bool.true_and, Bool.or_eq_true, Bool.and_eq_true, decide_eq_true_eq, Option.any_eq_true]
    exact hover
  · exact fun h => ⟨_, next_pos h, drainEnds_eis s⟩
  · exact fun h => next_neg h
  · intro hp hst hf
    refine next_neg ?_
    rw [hp, hst, hf]
    decide
  · intro h
    refine next_pos ?_
    rw [Bool.or_eq_true, Bool.or_eq_true, bne_iff_ne, bne_iff_ne]
    tauto

end Sys2Proof.Machine
end


section
/-!
PROOFS. Table blocks, slices and balancing slots (08_chemistry_model_table.md, 09_balancing.md).
-/

-- One proof after the other: the threads of proofs that are elaborated at once take too much memory together.
set_option Elab.async false

namespace Sys2Proof.Machine

/-! ### Block checks and blocks that are stored -/

/-- The lane whose block is checked: the holder's, or the other one's. -/
theorem checkedLane (standby : Bool) (s : State) :
    ((if standby then 1 - s.laneNo else s.laneNo) == 1) = (s.lanes.holder != standby) := by
  unfold State.laneNo
  cases standby <;> cases s.lanes.holder <;> rfl

theorem validating_keeps (u : State) (c : Prop) [Decidable c] :
    (if c then { u with tbl.staged := .validating } else u).tbl.writing = u.tbl.writing ∧
      (if c then { u with tbl.staged := .validating } else u).tbl.banks = u.tbl.banks := by
  split <;> exact ⟨rfl, rfl⟩

/-- A block that is stored: the staged bank holds it, unless a newer one of its number waits. -/
theorem blockStored_tbl (s : State) (w : TblWrite) : (s.blockStored w).tbl.writing = s.tbl.writing ∧
    (s.blockStored w).tbl.banks = s.tbl.banks.modify (1 - s.tbl.activeBank) fun k =>
      { k with
          blocks := setAt k.blocks w.block (if s.tbl.writing.any (·.block == w.block) then none else some w.words)
          crcs := setAt k.crcs w.block w.crc } := by
  unfold State.blockStored
  dsimp only
  rw [State.complete_keeps_tbl]
  exact validating_keeps ..

theorem cell_ok {n : Nat} (h1 : 1 ≤ n) (h96 : n ≤ 96) : cellOk n = true := by
  unfold cellOk
  rw [Bool.and_eq_true, decide_eq_true_eq, decide_eq_true_eq]
  exact ⟨h1, h96⟩

/-! ### Balancing slots -/

theorem newPlan_beginSlot (s : State) (p : BalPlan) : ((s.newPlan p).beginSlot true).bal.plan = some p ∧
    ((s.newPlan p).beginSlot true).bal.pendingPlan = none ∧ ((s.newPlan p).beginSlot true).bal.planSlots = 1 ∧
    ((s.newPlan p).beginSlot true).bal.source = p.source := ⟨rfl, rfl, rfl, rfl⟩

/-- What a balancing slot finds: its number and what each cell conducted in the slot before. -/
def State.SlotFound (s t : State) : Prop :=
  t.bal.refineSlots = s.bal.refineSlots ∧ t.bal.cells.map BalCell.achieved = s.bal.cells.map BalCell.achieved

theorem newPlan_slotFound (s : State) (p : BalPlan) : s.SlotFound (s.newPlan p) := by
  refine ⟨rfl, ?_⟩
  change (s.bal.cells.map _).map _ = _
  rw [List.map_map]
  rfl

/-- The grants of a slot leave what the cells achieved in the one before. -/
theorem beginSlot_slotFound (s : State) (planned : Bool) : s.SlotFound (s.beginSlot planned) := by
  refine ⟨rfl, ?_⟩
  change (s.bal.cells.zipIdx.map _).map _ = _
  rw [List.map_map, ← List.zipIdx_map_fst 0 s.bal.cells, List.map_map, List.zipIdx_map_fst]
  refine List.map_congr_left fun ci _ => ?_
  cases planned <;> rfl

theorem balDrain_slotFound (s : State) (cause : Nat) (ref : Option DeferRef) : s.SlotFound (s.balDrain cause ref) := by
  unfold State.balDrain
  split
  · exact ⟨rfl, rfl⟩
  · split <;> exact ⟨rfl, rfl⟩

/-- A slot that turns takes what its cells conducted in the last one. -/
theorem turnSlot_bal (s : State) : s.turnSlot.bal.refineSlots = s.bal.refineSlots + 1 ∧
    s.turnSlot.bal.cells.map BalCell.achieved = s.bal.cells.map BalCell.conducted := by
  refine ⟨rfl, ?_⟩
  change (s.bal.cells.map _).map _ = _
  rw [List.map_map]
  rfl

theorem SlotFound.trans {s t u : State} (h : s.SlotFound t) (h' : t.SlotFound u) : s.SlotFound u :=
  ⟨h'.1.trans h.1, h'.2.trans h.2⟩

theorem slotStart_slotFound (s : State) : s.turnSlot.SlotFound s.slotStart := by
  unfold State.slotStart
  dsimp only
  split
  · exact ⟨rfl, rfl⟩
  · split
    · exact SlotFound.trans (newPlan_slotFound ..) (beginSlot_slotFound ..)
    · exact ⟨rfl, rfl⟩
    · split
      · exact balDrain_slotFound ..
      · exact beginSlot_slotFound ..

/-- The pending plan of a planned slot takes over. -/
theorem slotStart_newPlan {s : State} {p : BalPlan} (hon : s.bal.st = .on) (hplanned : s.bal.slotPlanned = true)
    (hnew : s.bal.plannedNew = true) (hp : s.bal.pendingPlan = some p) :
    s.slotStart = (s.turnSlot.newPlan p).beginSlot true := by
  have hst : s.turnSlot.bal.st = .on := hon
  have hboth : (s.turnSlot.bal.slotPlanned && s.turnSlot.bal.plannedNew) = true := by
    change (s.bal.slotPlanned && s.bal.plannedNew) = true
    rw [hplanned, hnew]
    rfl
  have hpend : s.turnSlot.bal.pendingPlan = some p := hp
  unfold State.slotStart
  dsimp only
  rw [hst, if_neg (by decide), hboth, hpend]

/-- Settles O47: each event is taken apart by its guard; a stored block goes through `blockStored_tbl`, a balancing slot through
`turnSlot_bal`, `slotStart_slotFound` and `slotStart_newPlan`. -/
theorem tableAndSlotEvents : Obligations.TableAndSlotEvents := by
  unfold Obligations.TableAndSlotEvents
  intro s
  refine ⟨?_, ?_, ?_, ?_, ?_, ?_, ?_, ?_⟩
  · intro h
    constructor
    · intro hr
      refine (next_pos h).trans ?_
      rw [hr]
    · intro c n hr
      refine (next_pos h).trans ?_
      rw [hr]
  · intro standby sram nvm hlen who
    have hlane (f : Lane → Lane) : ((s.modLane who f).laneAt who = f (s.laneAt who)) ∧
        (s.modLane who f).laneAt (!who) = s.laneAt (!who) :=
      ⟨State.laneAt_modLane s who f hlen, State.laneAt_modLane_other s who f⟩
    have hexec : ∃ n b, exec (.tableBlockCheck standby ⟨sram, nvm⟩) s = .next
        (let t := s.modLane who fun l => { l with tblIdx := ((s.laneAt who).tblIdx + 1) % 64 }
          if nvm = false then if t.tbl.fault then t else { t with tbl.fault := true }.notify 0x11 (toLe 1 b)
          else if sram then t else t.absorb 8 1 n 0 (toLe 1 b)) := by
      change ∃ n b, execTableBlockCheck standby ⟨sram, nvm⟩ s = _
      unfold execTableBlockCheck
      dsimp only
      rw [checkedLane]
      exact ⟨_, _, rfl⟩
    obtain ⟨n, b, he⟩ := hexec
    obtain ⟨hsame, hother⟩ := hlane fun l => { l with tblIdx := ((s.laneAt who).tblIdx + 1) % 64 }
    have hidx := congrArg (·.tblIdx) hsame
    rw [he]
    refine ⟨_, rfl, ?_⟩
    dsimp only
    cases nvm with
    | true =>
      rw [if_neg (by decide)]
      split
      · exact ⟨rfl, hidx, hother⟩
      · rw [State.absorb_keeps_tbl, State.laneAt_congr (State.absorb_keeps_lane ..), State.laneAt_congr (State.absorb_keeps_lane ..)]
        exact ⟨rfl, hidx, hother⟩
    | false =>
      rw [if_pos rfl]
      split
      · rename_i hf
        refine ⟨?_, hidx, hother⟩
        have hf' : s.tbl.fault = true := hf
        change s.tbl = { s.tbl with fault := true }
        rw [← hf']
      · rw [State.notify_keeps_tbl, State.laneAt_congr (State.notify_keeps_lane ..), State.laneAt_congr (State.notify_keeps_lane ..)]
        exact ⟨rfl, hidx, hother⟩
  · intro cell h1 h96 hf hr
    have hc := cell_ok h1 h96
    exact ⟨_, (if_pos hc).trans (next_pos ⟨hr, hf⟩), rfl, rfl⟩
  · intro cell h1 h96 h
    have hc := cell_ok h1 h96
    refine (if_pos hc).trans (next_neg ?_)
    rintro ⟨hr, hf⟩
    rcases h with h | h
    · exact absurd (h.symm.trans hf) (by decide)
    · exact absurd (h.symm.trans hr) (by decide)
  · exact fun h => next_neg h
  · intro b h
    change execTableBlockStored b s = _
    unfold execTableBlockStored
    rw [h]
  · intro w rest h
    have hexec (b : Bool) : exec (.tableBlockStored b) s = .next (if b then { s with tbl.writing := rest }.blockStored w
        else if w.tries = 0 then { s with tbl.writing := { w with tries := 1 } :: rest }
        else { s with tbl.writing := rest }.complete w.cmd .internal 0 0 0 (toLe 1 w.block)) := by
      change execTableBlockStored b s = _
      unfold execTableBlockStored
      rw [h]
    refine ⟨?_, fun h0 => ?_, fun h0 => ?_⟩
    · obtain ⟨hw, hb⟩ := blockStored_tbl { s with tbl.writing := rest } w
      exact ⟨_, (hexec true).trans (next_pos rfl), hw, hb⟩
    · exact (hexec false).trans ((next_neg (by decide)).trans (next_pos h0))
    · exact ⟨_, (hexec false).trans ((next_neg (by decide)).trans (next_neg h0)), State.complete_keeps_tbl ..⟩
  · obtain ⟨hn, hc⟩ := turnSlot_bal s
    obtain ⟨hn', hc'⟩ := slotStart_slotFound s
    refine ⟨_, rfl, hn'.trans hn, hc'.trans hc, fun p hon hplanned hnew hp => ?_⟩
    rw [slotStart_newPlan hon hplanned hnew hp]
    exact newPlan_beginSlot ..

end Sys2Proof.Machine
end


section
/-!
PROOFS. The traffic of the ring (13_ceyth_ring.md).
-/

-- One proof after the other: the threads of proofs that are elaborated at once take too much memory together.
set_option Elab.async false

namespace Sys2Proof.Machine

/-! ### A ring record behind events and notices -/

theorem absorb_ring_at {α : Type} (f : Ring → α) (hf : ∀ (r : Ring) q, f { r with upQueue := q } = f r) (s : State) (a b c d : Nat)
    (e : List Byte) : f (s.absorb a b c d e).ring = f s.ring := by
  obtain ⟨q, h⟩ := absorb_ring s a b c d e
  rw [h, hf]

theorem notify_ring_at {α : Type} (f : Ring → α) (hf : ∀ (r : Ring) q, f { r with upQueue := q } = f r) (s : State) (a : Nat)
    (b : List Byte) : f (s.notify a b).ring = f s.ring := by
  obtain ⟨q, h⟩ := notify_ring s a b
  rw [h, hf]

/-! ### Frames that are emitted -/

/-- The slot of a module is fixed for the frame; the other queues of the ring wait. -/
theorem fixSlot_ring (s : State) : s.fixSlot.ring.slotFrame = some s.grid.frame ∧ s.fixSlot.ring.dnQueue = s.ring.dnQueue ∧
    s.fixSlot.ring.dnMsg = s.ring.dnMsg ∧ s.fixSlot.ring.eisCtl = s.ring.eisCtl ∧ s.fixSlot.ring.regenCw = s.ring.regenCw ∧
    s.fixSlot.ring.regenCcw = s.ring.regenCcw := by
  unfold State.fixSlot
  split
  · rename_i h
    exact ⟨h, rfl, rfl, rfl, rfl, rfl⟩
  · exact ⟨rfl, rfl, rfl, rfl, rfl, rfl⟩

/-! ### Headers -/

/-- A header of another module leaves the role of this one and the frame of the header last taken. -/
def State.RoleKept (s t : State) : Prop := t.ring.isPrimary = s.ring.isPrimary ∧ t.ring.hdrFrame = s.ring.hdrFrame

theorem State.RoleKept.trans {s t u : State} (h : s.RoleKept t) (h' : t.RoleKept u) : s.RoleKept u := ⟨h'.1.trans h.1, h'.2.trans h.2⟩

theorem absorb_roleKept (s : State) (a b c d : Nat) (e : List Byte) : s.RoleKept (s.absorb a b c d e) :=
  ⟨absorb_ring_at (·.isPrimary) (fun _ _ => rfl) .., absorb_ring_at (·.hdrFrame) (fun _ _ => rfl) ..⟩

theorem ite_roleKept {s t u : State} (c : Prop) [Decidable c] (ht : s.RoleKept t) (hu : s.RoleKept u) :
    s.RoleKept (if c then t else u) := by
  split
  · exact ht
  · exact hu

theorem adoptTime_roleKept (s : State) (f : Word) (t : BitVec 64) : s.RoleKept (s.adoptTime f t) :=
  State.RoleKept.trans (t := if f == s.grid.frame then s else s.absorb 13 2 s.ring.position 0 [])
    (ite_roleKept _ ⟨rfl, rfl⟩ (absorb_roleKept ..)) (ite_roleKept _ ⟨rfl, rfl⟩ (absorb_roleKept ..))

theorem positionStep_roleKept (s : State) (d : Int) (hcw hccw : Nat) : s.RoleKept (s.positionStep d hcw hccw) :=
  ite_roleKept _ (ite_roleKept _ (absorb_roleKept ..) ⟨rfl, rfl⟩) ⟨rfl, rfl⟩

theorem lockStep_roleKept (s : State) (e : Int) : s.RoleKept (s.lockStep e) := ite_roleKept _ ⟨rfl, rfl⟩ ⟨rfl, rfl⟩

theorem discipline_roleKept (s : State) (again preferred : Bool) (e : Int) : s.RoleKept (s.discipline again preferred e) := by
  unfold State.discipline
  split
  · exact State.RoleKept.trans ⟨rfl, rfl⟩ (lockStep_roleKept ..)
  · split
    · split
      · exact State.RoleKept.trans ⟨rfl, rfl⟩ (lockStep_roleKept ..)
      · exact ⟨rfl, rfl⟩
    · exact ⟨rfl, rfl⟩

/-- What a module does with a header that it follows. -/
def State.takeHeader (s : State) (cw : Bool) (bs : List Byte) (e : Int) (d : Option Int) (q p : Nat) : State :=
  let f := BitVec.ofNat 32 (getU bs 4 4)
  let again := s.ring.hdrFrame == some f
  if again && decide (s.ring.primary < q) then s
  else
    let matching := f == s.grid.frame
    let s := s.adoptTime f (BitVec.ofNat 64 (getU bs 8 8))
    let s := { s.followHeader bs with ring.hdrFrame := some f }
    let (hcw, hccw) := hops (s.pn P.ringModules) p q
    let s := match d with
      | some v => if again && s.ring.cwUp && s.ring.ccwUp then s.positionStep v hcw hccw else s
      | none => s
    let preferred := cw == decide (hcw ≤ hccw)
    if s.ring.posMismatch then { s with ring.holdover := true }
    else if matching then s.discipline again preferred e else s

theorem headerRx_eq (s : State) (cw : Bool) (bs : List Byte) (e : Int) (d : Option Int) : s.headerRx cw bs e d =
    (let q := (getB bs 2).toNat % 8
      if !headerGood bs || q == s.ring.position then s
      else if s.isPrimary && decide (s.ring.position < q) then { s with ring.term := (max s.ring.term (getU bs 16 2) + 1) % 65536 }
      else (if s.isPrimary then { s with ring.isPrimary := false, ring.lockRun := 0 }.primaryLost else s).takeHeader cw bs e d q
        s.ring.position) := by
  unfold State.headerRx State.takeHeader
  rfl

/-- The last part of a header: its position and its time. -/
theorem headerTail_roleKept (s : State) (again up matching preferred : Bool) (d : Option Int) (e : Int) (hcw hccw : Nat) :
    let t := match d with
      | some v => if up then s.positionStep v hcw hccw else s
      | none => s
    s.RoleKept (if t.ring.posMismatch then { t with ring.holdover := true }
      else if matching then t.discipline again preferred e else t) := by
  intro t
  have ht : s.RoleKept t := by
    unfold t
    split
    · split
      · exact positionStep_roleKept ..
      · exact ⟨rfl, rfl⟩
    · exact ⟨rfl, rfl⟩
  refine ht.trans ?_
  split
  · exact ⟨rfl, rfl⟩
  · split
    · exact discipline_roleKept ..
    · exact ⟨rfl, rfl⟩

theorem takeHeader_role (s : State) (cw : Bool) (bs : List Byte) (e : Int) (d : Option Int) (q p : Nat) :
    (s.takeHeader cw bs e d q p).ring.isPrimary = s.ring.isPrimary ∧
      (s.ring.hdrFrame ≠ some (BitVec.ofNat 32 (getU bs 4 4)) →
        (s.takeHeader cw bs e d q p).ring.hdrFrame = some (BitVec.ofNat 32 (getU bs 4 4))) := by
  unfold State.takeHeader
  dsimp only
  split
  · rename_i h
    rw [Bool.and_eq_true, beq_iff_eq] at h
    exact ⟨rfl, fun hne => absurd h.1 hne⟩
  · have h := headerTail_roleKept { (s.adoptTime (BitVec.ofNat 32 (getU bs 4 4)) (BitVec.ofNat 64 (getU bs 8 8))).followHeader bs with
      ring.hdrFrame := some (BitVec.ofNat 32 (getU bs 4 4)) }
    obtain ⟨hp, hf⟩ := h _ _ _ _ d e _ _
    exact ⟨hp.trans (adoptTime_roleKept ..).1, fun _ => hf⟩

theorem primaryLost_isPrimary (s : State) : s.primaryLost.ring.isPrimary = s.ring.isPrimary := by
  unfold State.primaryLost State.endSweep
  dsimp only
  split
  · split <;> rfl
  · split <;> rfl

/-! ### Harvests -/

theorem sum_bits_lt (f : Nat → Bool) (n : Nat) : ((List.range n).map fun i => if f i then 2 ^ i else 0).sum < 2 ^ n := by
  induction n with
  | zero => simp
  | succ n ih =>
    rw [List.range_succ, List.map_append, List.sum_append, List.map_singleton, List.sum_singleton, Nat.pow_succ]
    split <;> omega

theorem sum_bits_testBit (f : Nat → Bool) (n j : Nat) :
    (((List.range n).map fun i => if f i then 2 ^ i else 0).sum).testBit j = (decide (j < n) && f j) := by
  induction n with
  | zero => simp
  | succ n ih =>
    have hlt := sum_bits_lt f n
    rw [List.range_succ, List.map_append, List.sum_append, List.map_singleton, List.sum_singleton]
    cases hf : f n with
    | false =>
      rw [if_neg (by decide), Nat.add_zero, ih]
      rcases Nat.lt_trichotomy j n with h | h | h
      · rw [decide_eq_true h, decide_eq_true (Nat.lt_succ_of_lt h)]
      · rw [h, hf, Bool.and_false, Bool.and_false]
      · rw [decide_eq_false (by omega), decide_eq_false (by omega)]
    | true =>
      have hor := Nat.two_pow_add_eq_or_of_lt hlt 1
      rw [Nat.mul_one] at hor
      rw [if_pos rfl, Nat.add_comm, hor, Nat.testBit_or, ih, Nat.testBit_two_pow]
      rcases Nat.lt_trichotomy j n with h | h | h
      · rw [decide_eq_true h, decide_eq_true (Nat.lt_succ_of_lt h), decide_eq_false (by omega), Bool.false_or]
      · rw [h, hf, decide_eq_true rfl, decide_eq_true (Nat.lt_succ_self n), Bool.true_or, Bool.true_and]
      · rw [decide_eq_false (show ¬j < n by omega), decide_eq_false (show ¬n = j by omega), decide_eq_false (by omega)]
        rfl

theorem ofBits_getLsbD (n : Nat) (f : Nat → Bool) (j : Nat) : (ofBits n f).getLsbD j = (decide (j < n) && f j) := by
  unfold ofBits
  rw [BitVec.getLsbD_ofNat, sum_bits_testBit]
  cases decide (j < n) <;> rfl

theorem sendNotice_live (s : State) (n : Notice) : (s.sendNotice n).ring.live = s.ring.live := by
  unfold State.sendNotice
  obtain ⟨q, h⟩ := notices_ring (noticePorts (s.pn P.notifyPorts)) n s
  rw [h]

theorem ite_live {t u : State} {l : BitVec 8} (c : Prop) [Decidable c] (ht : t.ring.live = l) (hu : u.ring.live = l) :
    (if c then t else u).ring.live = l := by
  split
  · exact ht
  · exact hu

theorem noteBreaks_live (s : State) (old : List Nat) (l : List (Nat × Bool × Bool)) : (s.noteBreaks old l).ring.live = s.ring.live := by
  unfold State.noteBreaks
  refine foldl_keeps _ (·.ring.live) (fun t b => ?_) l s
  dsimp only
  split
  · rfl
  · rw [absorb_ring_at (·.live) (fun _ _ => rfl), notify_ring_at (·.live) (fun _ _ => rfl)]

theorem ringStateOf_live (s : State) (l : List (Option Slot)) : (s.ringStateOf l).ring.live = s.ring.live := by
  unfold State.ringStateOf
  dsimp only
  split
  · rw [notify_ring_at (·.live) (fun _ _ => rfl)]
    exact noteBreaks_live ..
  · exact noteBreaks_live ..

theorem configCheck_live (s : State) (l : List Slot) : (s.configCheck l).ring.live = s.ring.live := by
  unfold State.configCheck
  dsimp only
  split
  · rw [notify_ring_at (·.live) (fun _ _ => rfl)]
  · rfl

theorem protRelay_live (s : State) (l : List (Option Slot)) : (s.protRelay l).ring.live = s.ring.live := by
  unfold State.protRelay
  refine foldl_keeps _ (·.ring.live) (fun t p => ?_) _ s
  exact ite_live _ (sendNotice_live ..) rfl

/-- The members that a harvest finds. -/
theorem harvest_live (s : State) (cw ccw : List Byte) (p : Nat) (hp : p < 8) : (s.harvest cw ccw).ring.live.getLsbD p =
    (decide (p < s.pn P.ringModules) && (s.harvestSlot cw ccw p).isSome) := by
  unfold State.harvest
  dsimp only
  rw [protRelay_live, configCheck_live, ringStateOf_live]
  dsimp only
  rw [ofBits_getLsbD, decide_eq_true hp, Bool.true_and, List.getD_eq_getElem?_getD, List.getElem?_map, List.getElem?_range hp]
  by_cases h : p < s.pn P.ringModules <;> simp [h]

/-! ### Side windows -/

theorem ringRecord_keeps (s : State) (r : CurRec) : (s.ringRecord r).ring = s.ring ∧ (s.ringRecord r).ploza = s.ploza :=
  ⟨same_of_but (p := .ring) (State.ringRecord_hide (butMask .ring) rfl ..),
    same_of_but (p := .ploza) (State.ringRecord_hide (butMask .ploza) rfl ..)⟩

theorem isPrimary_congr {s t : State} (hr : s.ring = t.ring) (hp : s.ploza.params = t.ploza.params) : s.isPrimary = t.isPrimary := by
  unfold State.isPrimary
  rw [hr, pn_congr hp _ (by decide) (by decide) (by decide) (by decide)]

/-- The records of a side window, with the module's own left out. -/
def State.sideRecords (s : State) (own : Nat) (rec' : Nat → Option CurRec) : State :=
  (List.range 4).foldl (fun s i =>
    match rec' i with
    | some r => if r.pos == own && s.hasCfe then s else s.ringRecord r
    | none => s) s

theorem sideRecords_keeps (s : State) (own : Nat) (rec' : Nat → Option CurRec) :
    (s.sideRecords own rec').ring = s.ring ∧ (s.sideRecords own rec').ploza = s.ploza := by
  unfold State.sideRecords
  constructor
  · refine foldl_keeps _ (·.ring) (fun t i => ?_) _ s
    split
    · split
      · rfl
      · exact (ringRecord_keeps ..).1
    · rfl
  · refine foldl_keeps _ (·.ploza) (fun t i => ?_) _ s
    split
    · split
      · rfl
      · exact (ringRecord_keeps ..).2
    · rfl

/-- A satellite relays no side window, and notes its hop while the ring forms. -/
theorem sideRx_satellite {s : State} (cw : Bool) (bs : List Byte) (h : s.isPrimary = false) :
    (s.sideRx cw bs).ring.relaying = false ∧ (s.sideRx cw bs).ring.sideRelayCw = [none, none] ∧
      (cw = true → s.ring.st = .forming → (s.sideRx cw bs).ring.hopSeen = some (getB bs 0).toNat) := by
  have hu : ∃ u : State, u = (if cw && s.ring.st == .forming && !s.isPrimary then
      { s with ring.hopSeen := some (getB bs 0).toNat } else s) := ⟨_, rfl⟩
  obtain ⟨u, hu⟩ := hu
  have huPrim : u.isPrimary = false := by
    rw [hu]
    split
    · exact h
    · exact h
  have hsat : s.sideRx cw bs = { u.sideRecords u.ring.position (fun i => u.ringRecOf (slice bs (1 + 28 * i) 28)) with
      ring.sideRelayCw := [none, none], ring.sideRelayCcw := [none, none], ring.relaying := false } := by
    obtain ⟨hr, hp⟩ := sideRecords_keeps u u.ring.position (fun i => u.ringRecOf (slice bs (1 + 28 * i) 28))
    have hnot := (isPrimary_congr hr (congrArg (·.params) hp)).trans huPrim
    subst hu
    unfold State.sideRx
    refine if_neg ?_
    rw [Bool.and_eq_true]
    exact fun hc => absurd (hc.1.symm.trans hnot) (by decide)
  rw [hsat]
  refine ⟨rfl, rfl, fun hcw hst => ?_⟩
  have hseen : u.ring.hopSeen = some (getB bs 0).toNat := by
    rw [hu, if_pos]
    rw [hcw, hst, h]
    rfl
  exact (congrArg (·.hopSeen) (sideRecords_keeps ..).1).trans hseen

/-! ### Messages -/

/-- A message that is complete. -/
def State.takeMessage (s : State) (src kind : Nat) (raw : List Byte) : State :=
  let bs := messageBytes kind raw
  if kind = 1 then
    if src = 8 then (if s.isPrimary then s else s.receive .ring false bs)
    else if s.isPrimary then s.relayUp src bs else s
  else if kind = 2 then
    (match summaryOf bs with
     | some x => s.takeSummary x
     | none => s)
  else s.takeStatus bs

/-- A segment from the primary: it joins the message of the primary, which is taken when it is whole. -/
theorem messageRx_down {s : State} {seg : List Byte} {r : Option Reasm} {m : Option (Nat × List Byte)}
    (h : takeSegment s.ring.rxDn seg = (r, m)) : s.messageRx 8 seg = match m with
      | none => { s with ring.rxDn := r }
      | some (kind, raw) => ({ s with ring.rxDn := r } : State).takeMessage 8 kind raw := by
  unfold State.messageRx
  dsimp only
  rw [if_pos (by decide), if_pos (by decide)]
  simp only [h]
  cases m with
  | none => rfl
  | some x => rfl

/-- A segment from a satellite. -/
theorem messageRx_up {s : State} {src : Nat} {seg : List Byte} {r : Option Reasm} {m : Option (Nat × List Byte)} (hsrc : src < 8)
    (h : takeSegment (s.ring.rxUp.getD src none) seg = (r, m)) : s.messageRx src seg = match m with
      | none => { s with ring.rxUp := setAt s.ring.rxUp src r }
      | some (kind, raw) => ({ s with ring.rxUp := setAt s.ring.rxUp src r } : State).takeMessage src kind raw := by
  have h8 : (src == 8) = false := by
    rw [beq_eq_false_iff_ne]
    omega
  have h8' : src ≠ 8 := by omega
  unfold State.messageRx State.takeMessage
  dsimp only
  rw [h8, if_neg Bool.false_ne_true, if_neg Bool.false_ne_true]
  simp only [h]
  cases m with
  | none => rfl
  | some x => simp only [Bool.false_eq_true, if_false, h8'] <;> rfl

/-- Settles O48: emitted frames go through `fixSlot_ring`, headers through `takeHeader_role`, a harvest through `harvest_live`, side
windows through `sideRx_satellite` and messages through `messageRx_down` and `messageRx_up`. -/
theorem ringTraffic : Obligations.RingTraffic := by
  unfold Obligations.RingTraffic
  intro s
  refine ⟨?_, ?_, ?_, ?_, ?_, ?_, ?_, ?_, ?_, ?_, ?_, ?_⟩
  · intro hp hr ho
    obtain ⟨hframe, hq, hm, he, -⟩ := fixSlot_ring s
    refine ⟨_, next_neg (by rw [hp, hr, ho]; decide), ?_, congrArg List.tail he, hframe⟩
    rw [← hq, ← hm]
  · intro h
    refine next_pos ?_
    rw [Bool.or_eq_true, Bool.or_eq_true, Bool.not_eq_true', Bool.not_eq_true']
    tauto
  · intro cw rx hp hr
    refine ⟨_, next_neg (by rw [hp, hr]; decide), ?_⟩
    cases cw with
    | true =>
      obtain ⟨hframe, -, -, -, hcw, hccw⟩ := fixSlot_ring { s with ring.regenCw := s.ring.regenCw && !s.ring.ccwUp }
      exact ⟨hframe, hcw, hccw.trans (Bool.and_true _).symm⟩
    | false =>
      obtain ⟨hframe, -, -, -, hcw, hccw⟩ := fixSlot_ring { s with ring.regenCcw := s.ring.regenCcw && !s.ring.cwUp }
      exact ⟨hframe, hcw.trans (Bool.and_true _).symm, hccw⟩
  · intro cw rx h
    refine next_pos ?_
    rw [Bool.or_eq_true, Bool.not_eq_true']
    exact h
  · exact fun cw bs e d h => next_neg (by rw [h]; decide)
  · intro cw bs e d hr q f
    have hexec : exec (.ringHeaderRx cw bs e d) s = .next (s.headerRx cw bs e d) := next_pos hr
    rw [hexec, headerRx_eq]
    refine ⟨fun h => ?_, fun hg hp hlt => ?_, fun hg hp hlt => ?_, fun hg hq hp hf => ?_⟩
    · refine next_pos ?_
      rw [Bool.or_eq_true, Bool.not_eq_true', beq_iff_eq]
      exact h
    · refine (next_neg (by simp [hg]; omega)).trans (next_pos ?_)
      rw [hp, decide_eq_true hlt]
      rfl
    · refine ⟨_, (next_neg (by simp [hg]; omega)).trans (next_neg ?_), ?_⟩
      · rw [hp, decide_eq_false (by omega)]
        decide
      · rw [if_pos hp]
        exact (takeHeader_role ..).1.trans (primaryLost_isPrimary ..)
    · refine ⟨_, (next_neg ?_).trans (next_neg (by rw [hp]; exact Bool.false_ne_true)), ?_⟩
      · rw [Bool.or_eq_true, Bool.not_eq_true', beq_iff_eq, hg]
        exact fun h => h.elim (by decide) hq
      · rw [hp, if_neg Bool.false_ne_true]
        exact (takeHeader_role ..).2 hf
  · intro cw ccw hp hr hcw hccw
    refine ⟨_, next_pos (by rw [hp, hr, hcw, hccw]; rfl), fun p h => harvest_live s cw ccw p h⟩
  · intro cw ccw h
    refine next_neg ?_
    rw [Bool.and_eq_true, Bool.and_eq_true, Bool.and_eq_true, beq_iff_eq, beq_iff_eq]
    rintro ⟨⟨⟨h1, h2⟩, h3⟩, h4⟩
    rw [h1, h2] at h
    tauto
  · intro cw bs h
    refine next_neg ?_
    rw [Bool.and_eq_true, beq_iff_eq]
    rintro ⟨h1, h2⟩
    rw [h1] at h
    tauto
  · intro src seg hsrc h
    exact (if_pos hsrc).trans (next_neg (by rw [h]; decide))
  · intro cw bs hon hl
    exact ⟨_, next_pos (by rw [hon, hl]; rfl), sideRx_satellite cw bs⟩
  · intro seg hon
    have hexec {src : Nat} (h : src ≤ 8) : exec (.ringMessageRx src seg) s = .next (s.messageRx src seg) := (if_pos h).trans (next_pos hon)
    have hdn : exec (.ringMessageRx 8 seg) s = .next (s.messageRx 8 seg) := hexec (Nat.le_refl 8)
    refine ⟨fun r h => ?_, fun src r hsrc h => ?_, fun r raw h => ?_, fun src r raw hsrc h => ?_, fun src r raw x hsrc h hx => ?_⟩
    · rw [hdn, messageRx_down h]
    · rw [hexec (Nat.le_of_lt hsrc), messageRx_up hsrc h]
    · rw [hdn, messageRx_down h]
      rfl
    · rw [hexec (Nat.le_of_lt hsrc), messageRx_up hsrc h]
      exact congrArg Host.Outcome.next (if_neg (Nat.ne_of_lt hsrc))
    · rw [hexec (Nat.le_of_lt hsrc), messageRx_up hsrc h]
      simp only [State.takeMessage, hx, if_true]
      rfl

end Sys2Proof.Machine
end


section
/-!
PROOFS. Ports, elections, enumeration, time and wake tones of the ring (13_ceyth_ring.md, 16_power_states.md).
-/

-- One proof after the other: the threads of proofs that are elaborated at once take too much memory together.
set_option Elab.async false

namespace Sys2Proof.Machine

/-! ### Elections -/

/-- The loss of the primary leaves what an election set. -/
theorem primaryLost_election (s : State) : s.primaryLost.ring.headerMiss = s.ring.headerMiss ∧
    s.primaryLost.ring.holdover = s.ring.holdover ∧ s.primaryLost.ring.elections = s.ring.elections ∧
    s.primaryLost.ring.becomePrimary = s.ring.becomePrimary := by
  unfold State.primaryLost State.endSweep
  dsimp only
  split
  · split <;> exact ⟨rfl, rfl, rfl, rfl⟩
  · split <;> exact ⟨rfl, rfl, rfl, rfl⟩

/-- The best candidate of an election. -/
def State.candidate (s : State) (members eligible : BitVec 8) : Option Nat :=
  (List.range 8).find? fun q => if q = s.ring.position then s.selfEligible else members.getLsbD q && eligible.getLsbD q

/-- What the best candidate of an election brings. -/
def State.elect (s : State) (cand : Option Nat) : State :=
  match cand with
  | none => s.primaryLost
  | some c =>
    if c = s.ring.primary then s
    else { s with ring.elections := bump 0xFF s.ring.elections, ring.becomePrimary := decide (c = s.ring.position) }.primaryLost

theorem missHeader_eq (s : State) (members eligible : BitVec 8) : s.missHeader members eligible =
    ({ s with ring.headerMiss := true, ring.holdover := true } : State).elect (s.candidate members eligible) := rfl

theorem missHeader_ring (s : State) (members eligible : BitVec 8) : (s.missHeader members eligible).ring.headerMiss = true ∧
    (s.missHeader members eligible).ring.holdover = true ∧
    ∀ c, s.candidate members eligible = some c → c ≠ s.ring.primary →
      (s.missHeader members eligible).ring.elections = bump 0xFF s.ring.elections ∧
      (s.missHeader members eligible).ring.becomePrimary = decide (c = s.ring.position) := by
  rw [missHeader_eq]
  unfold State.elect
  cases s.candidate members eligible with
  | none =>
    obtain ⟨hm, hh, -⟩ := primaryLost_election { s with ring.headerMiss := true, ring.holdover := true }
    exact ⟨hm, hh, nofun⟩
  | some c =>
    dsimp only
    by_cases hc : c = s.ring.primary
    · rw [if_pos hc]
      refine ⟨rfl, rfl, fun d hd hne => ?_⟩
      cases hd
      exact absurd hc hne
    · rw [if_neg hc]
      obtain ⟨hm, hh, he, hb⟩ := primaryLost_election { s with
        ring.headerMiss := true, ring.holdover := true
        ring.elections := bump 0xFF s.ring.elections, ring.becomePrimary := decide (c = s.ring.position) }
      refine ⟨hm, hh, fun d hd _ => ?_⟩
      cases hd
      exact ⟨he, hb⟩

/-! ### Enumeration -/

/-- A position that a module takes is journalled; its parameters and the rest of its ring record stay. -/
theorem takePosition_keeps (s : State) (port : Port) (p : Nat) :
    (s.takePosition port p).ring = { s.ring with position := p, enumPos := some p } ∧ (s.takePosition port p).ploza = s.ploza :=
  ⟨State.journal_keeps_ring .., State.journal_keeps_ploza ..⟩

theorem complete_ring_at {α : Type} (f : Ring → α) (hf : ∀ (r : Ring) q, f { r with upQueue := q } = f r) (s : State) (r : DeferRef)
    (final : Status) (o e c : Nat) (d : List Byte) : f (s.complete r final o e c d).ring = f s.ring :=
  notify_ring_at f hf ..

/-- What an enumeration leaves of a ring record behind its reply. -/
def Ring.enumerated (r : Ring) : Nat × Nat × RingSt × Option DeferRef × Nat × Bool :=
  (r.position, r.primary, r.st, r.enumBy, r.enumFound, r.conflictEnum)

/-- The report of an enumeration, and of its conflict. -/
theorem enumerationReport_ring (s : State) (r : DeferRef) (found : Nat) (bad : Bool) :
    (if bad then (s.complete r .ok 0 0 0 (toLe 1 found)).notify 0x12 (toLe 1 4) else s.complete r .ok 0 0 0 (toLe 1 found)).ring.enumerated =
      s.ring.enumerated := by
  split
  · rw [notify_ring_at Ring.enumerated (fun _ _ => rfl), complete_ring_at Ring.enumerated (fun _ _ => rfl)]
  · rw [complete_ring_at Ring.enumerated (fun _ _ => rfl)]

/-! ### Wake tones -/

theorem elapse_st (s : State) : s.elapse.power.st = s.power.st := by
  unfold State.elapse
  dsimp only
  split <;> rfl

/-- A wake in a settled WATCH waits for the boundary. -/
theorem wakeBy_watch {s : State} (src cell : Nat) (hph : s.power.phase = .settled) (hst : s.power.st = .watch) :
    (s.wakeBy src cell).power.wakePending = some src ∧ (s.wakeBy src cell).ring = s.ring := by
  have key (u : State) (hu : u.power.st = .watch) (hr : u.ring = s.ring) :
      let v := u.recordWake src cell u.power.st.code false false
      (if v.power.st == .watch || v.power.dwell then { v with power.wakePending := some src } else v.startReturn false).power.wakePending =
        some src ∧
      (if v.power.st == .watch || v.power.dwell then { v with power.wakePending := some src } else v.startReturn false).ring = s.ring := by
    intro v
    have hv : (v.power.st == .watch || v.power.dwell) = true := by
      have : v.power.st = .watch := hu
      rw [this]
      rfl
    rw [if_pos hv]
    exact ⟨rfl, hr⟩
  unfold State.wakeBy
  rw [hph]
  dsimp only
  split
  · exact key s hst rfl
  · exact key s.elapse ((elapse_st s).trans hst) (State.elapse_keeps_ring s)

/-- Settles O49: an election goes through `missHeader_ring`, an enumeration through `takePosition_keeps` and `enumerationReport_ring`,
a tone through `wakeBy_watch`; the other events are their guards. -/
theorem ringRoles : Obligations.RingRoles := by
  unfold Obligations.RingRoles
  intro s
  refine ⟨?_, ?_, ?_, ?_, ?_, ?_, ?_, ?_, ?_, ?_, ?_, ?_, ?_, ?_, ?_, ?_⟩
  · intro hon hn
    have h : ¬(!s.portsOn || s.pn P.ringModules = 1) = true := by
      rw [hon, Bool.or_eq_true, decide_eq_true_eq]
      exact fun h => h.elim (by decide) hn
    exact ⟨next_neg h, next_neg h, next_neg h, next_neg h⟩
  · intro h b
    have hc : (!s.portsOn || s.pn P.ringModules = 1) = true := by
      rw [Bool.or_eq_true, Bool.not_eq_true', decide_eq_true_eq]
      exact h
    exact ⟨next_pos hc, next_pos hc⟩
  · intro m e h
    refine next_neg ?_
    rw [Bool.and_eq_true, Bool.and_eq_true, Bool.not_eq_true', Bool.not_eq_true']
    rintro ⟨⟨h1, h2⟩, h3⟩
    rw [h1, h2, h3] at h
    exact absurd h (by decide)
  · intro m e hr hp ho cand
    exact ⟨_, next_pos (by rw [hr, hp, ho]; rfl), missHeader_ring s m e⟩
  · intro p hp hf
    refine (next_neg (by rw [hp]; decide)).trans ?_
    rw [hf]
  · exact fun h => next_pos (by rw [h]; rfl)
  · intro found r hp he hf
    have hfilter : (s.ring.enumBy.filter fun _ => s.ring.forming == 0) = some r := by
      rw [he, hf]
      rfl
    obtain ⟨hring, hploza⟩ := takePosition_keeps s r.port 0
    have hpn : (s.takePosition r.port 0).pn P.ringModules = s.pn P.ringModules :=
      pn_congr (congrArg (·.params) hploza) _ (by decide) (by decide) (by decide) (by decide)
    refine ⟨_, next_pos hp, ?_⟩
    rw [hfilter]
    dsimp only
    have h := enumerationReport_ring { s.takePosition r.port 0 with
      ring.primary := 0, ring.forming := 0, ring.st := .closed, ring.enumBy := none, ring.enumFound := found
      ring.conflictEnum := found != (s.takePosition r.port 0).pn P.ringModules
      ring.configConflict := (s.takePosition r.port 0).ring.configConflict || found != (s.takePosition r.port 0).pn P.ringModules }
      r found (found != (s.takePosition r.port 0).pn P.ringModules)
    simp only [Ring.enumerated, Prod.mk.injEq] at h
    obtain ⟨h1, h2, h3, h4, h5, h6⟩ := h
    exact ⟨h1.trans (congrArg (·.position) hring), h2, h3, h4, h5, h6.trans (congrArg (found != ·) hpn)⟩
  · intro found n hp hn hst
    obtain ⟨hring, -⟩ := takePosition_keeps s .own ((n + 1) % 8)
    refine ⟨{ s.takePosition .own ((n + 1) % 8) with ring.hopSeen := none, ring.primary := 0 },
      (next_neg (by rw [hp]; decide)).trans ?_, congrArg (·.position) hring, congrArg (·.enumPos) hring, rfl, rfl⟩
    rw [hn]
    exact next_pos hst
  · intro o hp ht
    exact next_pos (by rw [hp, ht]; rfl)
  · intro o h
    refine next_neg ?_
    rw [Bool.and_eq_true, beq_iff_eq]
    rintro ⟨h1, h2⟩
    rw [h1] at h
    exact h.elim (by decide) fun h => h h2
  · intro h
    refine next_neg ?_
    rintro ⟨h1, h2, h3⟩
    rw [h2] at h
    rcases h with h | h | h
    · exact h h1
    · exact absurd h (by decide)
    · exact absurd h3 (Nat.not_le.mpr h)
  · intro h1 h2 h3
    exact ⟨_, next_pos ⟨h1, h2, h3⟩, absorb_ring_at (·.timeSrc) (fun _ _ => rfl) ..⟩
  · intro b hon htone harm hph hst
    obtain ⟨hw, hr⟩ := wakeBy_watch (s := s.sendTone) 7 0 hph hst
    exact ⟨_, next_neg (by rw [hon, htone, harm]; decide), congrArg (·.toneSending) hr, hw⟩
  · intro b h
    refine next_pos ?_
    rw [h, Bool.not_false, Bool.or_true]
  · intro h b
    refine next_pos ?_
    rw [h]
    rfl
  · rfl

end Sys2Proof.Machine
end


section
/-!
PROOFS. Lanes: their failures, the token, mirrors and reboots (14_lanes_and_failover.md).
-/

-- One proof after the other: the threads of proofs that are elaborated at once take too much memory together.
set_option Elab.async false

namespace Sys2Proof.Machine

/-! ### Lane operations -/

theorem retireLane_lanes (s : State) (b : Bool) : (s.retireLane b).lanes = s.lanes :=
  same_of_but (p := .lanes) (State.retireLane_hide (butMask .lanes) rfl s b)

theorem retireLane_laneAt {s : State} (b : Bool) (h : s.lane.length = 2) : (s.retireLane b).laneAt b =
    { s.laneAt b with st := .retired, retired := true, retireCount := (s.laneAt b).retireCount + 1, current := false, resync := false } :=
  (State.laneAt_congr (retireLane_lane s b) b).trans (State.laneAt_modLane s b _ h)

theorem retireLane_laneAt_other (s : State) (b : Bool) : (s.retireLane b).laneAt (!b) = s.laneAt (!b) :=
  (State.laneAt_congr (retireLane_lane s b) (!b)).trans (State.laneAt_modLane_other s b _)

theorem laneAbsorb_laneAt {s : State} (event : Nat) (b : Bool) (d : List Byte) (h : s.lane.length = 2) :
    (s.laneAbsorb event b d).laneAt b = { s.laneAt b with laneEvents := s.grid.validFrames :: (s.laneAt b).laneEvents } :=
  (State.laneAt_congr (State.absorb_keeps_lane ..) b).trans (State.laneAt_modLane s b _ h)

theorem laneAbsorb_length {s : State} (event : Nat) (b : Bool) (d : List Byte) (h : s.lane.length = 2) :
    (s.laneAbsorb event b d).lane.length = 2 := by
  unfold State.laneAbsorb
  rw [State.absorb_keeps_lane]
  exact modLane_length s b _ h

/-- Events of a lane leave the token and the pause before a rerun. -/
theorem laneAbsorb_lanes (s : State) (event : Nat) (b : Bool) (d : List Byte) :
    (s.laneAbsorb event b d).lanes.valid = s.lanes.valid ∧ (s.laneAbsorb event b d).lanes.hold = s.lanes.hold ∧
      (s.laneAbsorb event b d).lanes.reruns = s.lanes.reruns := by
  obtain ⟨hv, -, hh, hr, -⟩ := absorb_lanes (s.modLane b fun l => { l with laneEvents := s.grid.validFrames :: l.laneEvents }) 14 event
    (laneUnit b) 0 d
  exact ⟨hv, hh, hr⟩

theorem putOffSwap_keeps (s : State) : s.putOffSwap.lane = s.lane ∧ s.putOffSwap.lanes.valid = s.lanes.valid ∧
    s.putOffSwap.lanes.gap = s.lanes.gap ∧ s.putOffSwap.lanes.switchovers = s.lanes.switchovers ∧
    s.putOffSwap.lanes.reruns = s.lanes.reruns ∧ s.putOffSwap.grid = s.grid := by
  unfold State.putOffSwap
  split <;> exact ⟨rfl, rfl, rfl, rfl, rfl, rfl⟩

/-! ### Lanes that fail -/

/-- The token of a lane that fails. -/
def State.tokenFrom (s : State) (b : Bool) : State :=
  if s.lanes.valid && s.lanes.holder == b then
    { s.releaseToken.putOffSwap with lanes.switchovers := bump 0xFF s.lanes.switchovers }
  else s

theorem tokenFrom_facts (s : State) (b : Bool) : (s.tokenFrom b).lane = s.lane ∧
    (s.tokenFrom b).lanes.valid = (s.lanes.valid && s.lanes.holder != b) ∧
    (s.lanes.valid = true → s.lanes.holder = b →
      (s.tokenFrom b).lanes.gap = true ∧ (s.tokenFrom b).lanes.switchovers = bump 0xFF s.lanes.switchovers) := by
  obtain ⟨hl, hv, hg, -⟩ := putOffSwap_keeps s.releaseToken
  unfold State.tokenFrom
  split
  · rename_i h
    rw [Bool.and_eq_true, beq_iff_eq] at h
    obtain ⟨-, h2⟩ := h
    have hne : (s.lanes.valid && s.lanes.holder != b) = false := by
      rw [h2]
      cases s.lanes.valid <;> cases b <;> rfl
    exact ⟨hl, hv.trans hne.symm, fun _ _ => ⟨hg, rfl⟩⟩
  · rename_i h
    refine ⟨rfl, ?_, fun h1 h2 => absurd ?_ h⟩
    · rw [Bool.not_eq_true] at h
      rw [bne]
      revert h
      cases s.lanes.valid <;> cases s.lanes.holder == b <;> decide
    · rw [h1, h2, beq_self_eq_true]
      rfl

theorem laneFails_eq (s : State) (b retire : Bool) : s.laneFails b retire =
    (let swap := s.lanes.valid && s.lanes.holder == b && s.lanes.swapPhase == 2
     let t := if retire || swap then (s.tokenFrom b).retireLane b else (s.tokenFrom b).rebootLane b
     if swap then t.endSwap 2 else t) := rfl

/-- Out of service: a lane that reboots or is retired. -/
def State.OutOfService (s : State) (b : Bool) : Prop := (s.laneAt b).st = .rebooting ∨ (s.laneAt b).st = .retired

/-- What a failure of lane `b` does to the lanes. -/
structure State.LaneOut (s t : State) (b retire : Bool) : Prop where
  out : t.OutOfService b
  retired : retire = true → (t.laneAt b).st = .retired
  other : t.laneAt (!b) = s.laneAt (!b)
  valid : t.lanes.valid = s.lanes.valid
  gap : t.lanes.gap = s.lanes.gap
  switchovers : t.lanes.switchovers = s.lanes.switchovers

theorem retireLane_out {s : State} (b retire : Bool) (h : s.lane.length = 2) : s.LaneOut (s.retireLane b) b retire := by
  have hst := congrArg (·.st) (retireLane_laneAt b h)
  have hl := retireLane_lanes s b
  exact ⟨.inr hst, fun _ => hst, retireLane_laneAt_other s b, congrArg (·.valid) hl, congrArg (·.gap) hl, congrArg (·.switchovers) hl⟩

theorem rebootLane_out {s : State} (b : Bool) (h : s.lane.length = 2) : s.LaneOut (s.rebootLane b) b false := by
  obtain ⟨ho, hother, hv, hg, hs⟩ := rebootLane_facts s b h
  exact ⟨ho, nofun, hother, hv, hg, hs⟩

theorem endSwap_out {s t : State} {b retire : Bool} (h : s.LaneOut t b retire) (r : Nat) : s.LaneOut (t.endSwap r) b retire := by
  obtain ⟨hl, hv, hg, hs, -⟩ := endSwap_facts t r
  have hat (c : Bool) : (t.endSwap r).laneAt c = t.laneAt c := State.laneAt_congr hl c
  constructor
  · unfold State.OutOfService
    rw [hat]
    exact h.out
  · rw [hat]
    exact h.retired
  · rw [hat]
    exact h.other
  · exact hv.trans h.valid
  · exact hg.trans h.gap
  · exact hs.trans h.switchovers

theorem laneFails_out (s : State) (b retire : Bool) (h : s.lane.length = 2) : (s.tokenFrom b).LaneOut (s.laneFails b retire) b retire := by
  have hl : (s.tokenFrom b).lane.length = 2 := (congrArg List.length (tokenFrom_facts s b).1).trans h
  rw [laneFails_eq]
  dsimp only
  generalize (s.lanes.valid && s.lanes.holder == b && s.lanes.swapPhase == 2) = swap
  cases swap with
  | true =>
    rw [Bool.or_true, if_pos rfl, if_pos rfl]
    exact endSwap_out (retireLane_out b retire hl) 2
  | false =>
    rw [if_neg Bool.false_ne_true, Bool.or_false]
    cases retire with
    | true => exact retireLane_out b true hl
    | false => exact rebootLane_out b hl

/-! ### The token -/

theorem arbitrate_one (s : State) (b : Bool) : s.arbitrate (!b) b = some b := by
  cases b <;> rfl

/-- Of two lanes that claim, the one with the higher score wins. -/
theorem arbitrate_score {s : State} {b : Bool} (h : s.score (!b) < s.score b) : s.arbitrate true true = some b := by
  cases b with
  | false => exact if_pos h
  | true => exact (if_neg (Nat.lt_asymm h)).trans (if_pos h)

theorem arbitrate_tie {s : State} (h : s.score false = s.score true) : s.arbitrate true true = some (!s.lanes.last) :=
  (if_neg (by omega)).trans (if_neg (by omega))

theorem grant_grantedTo {s : State} (b : Bool) (h : s.lane.length = 2) : s.GrantedTo b (.next (s.grant b)) := by
  have hb : (s.grant b).laneAt b = { s.laneAt b with st := .inCharge, resync := false } := State.laneAt_modLane s b _ h
  exact ⟨_, rfl, rfl, rfl, rfl, rfl, congrArg (·.st) hb, congrArg (·.resync) hb, State.laneAt_modLane_other s b _⟩

/-! ### Beliefs that differ -/

/-- The lanes of a module without a holder: the one that held the token stands by. -/
def State.standDown (s : State) (l : Lane) : Lane :=
  if l.st == LaneSt.inCharge then
    { l with st := .standby, current := true, lastMirror := some s.lanes.lastBoundary, mirror := s.lanes.mirror }
  else l

/-- A belief that differs frees the token for a rerun. -/
def State.forRerun (s : State) (reruns : Nat) (b : Bool) : State :=
  State.laneAbsorb (State.modLane { s with
      lanes.hold := true, lanes.reruns := bump 0xFF reruns, lanes.sinceSwitch := 0, lane := s.lane.map s.standDown } b
    fun l => { l with beliefDiffs := s.grid.validFrames :: l.beliefDiffs }) 2 b []

theorem forRerun_facts {s : State} (reruns : Nat) {b : Bool} (h : s.lane.length = 2)
    (hb : (s.laneAt b).st = .standby ∨ (s.laneAt b).st = .inCharge) : (s.forRerun reruns b).lane.length = 2 ∧
    (s.forRerun reruns b).lanes.valid = s.lanes.valid ∧ (s.forRerun reruns b).lanes.hold = true ∧
    (s.forRerun reruns b).lanes.reruns = bump 0xFF reruns ∧
    ((s.forRerun reruns b).laneAt b).beliefDiffs = s.grid.validFrames :: (s.laneAt b).beliefDiffs ∧
    ((s.forRerun reruns b).laneAt b).st = .standby := by
  have hdown : (s.standDown (s.laneAt b)).st = .standby ∧ (s.standDown (s.laneAt b)).beliefDiffs = (s.laneAt b).beliefDiffs := by
    unfold State.standDown
    split
    · exact ⟨rfl, rfl⟩
    · rename_i hne
      exact ⟨hb.resolve_right fun h => hne (beq_iff_eq.mpr h), rfl⟩
  have hbit : bit b < s.lane.length := by
    rw [h]
    cases b <;> decide
  obtain ⟨u, hu⟩ : ∃ u : State, u = { s with
      lanes.hold := true, lanes.reruns := bump 0xFF reruns, lanes.sinceSwitch := 0, lane := s.lane.map s.standDown } := ⟨_, rfl⟩
  have hul : u.lane.length = 2 := by
    rw [hu]
    exact (List.length_map ..).trans h
  have hub : u.laneAt b = s.standDown (s.laneAt b) := by
    rw [hu]
    exact getD_map_of_lt s.standDown hbit _ _
  have hmod := State.laneAt_modLane u b (fun l => { l with beliefDiffs := s.grid.validFrames :: l.beliefDiffs }) hul
  have hml := modLane_length u b (fun l => { l with beliefDiffs := s.grid.validFrames :: l.beliefDiffs }) hul
  have he : s.forRerun reruns b = (u.modLane b fun l => { l with beliefDiffs := s.grid.validFrames :: l.beliefDiffs }).laneAbsorb 2 b [] := by
    rw [hu]
    rfl
  obtain ⟨hv, hh, hr⟩ := laneAbsorb_lanes (u.modLane b fun l => { l with beliefDiffs := s.grid.validFrames :: l.beliefDiffs }) 2 b []
  have hat := laneAbsorb_laneAt 2 b [] hml
  rw [hmod, hub] at hat
  rw [he]
  refine ⟨laneAbsorb_length 2 b [] hml, hv.trans (congrArg (·.lanes.valid) hu), hh.trans (congrArg (·.lanes.hold) hu),
    hr.trans (congrArg (·.lanes.reruns) hu), ?_, ?_⟩
  · exact (congrArg (·.beliefDiffs) hat).trans (congrArg (s.grid.validFrames :: ·) hdown.2)
  · exact (congrArg (·.st) hat).trans hdown.1

theorem execTokenBeliefMismatch_eq {s : State} {b : Bool} (hb : (s.laneAt b).st = .standby ∨ (s.laneAt b).st = .inCharge) :
    exec (.tokenBeliefMismatch b) s = .next (if 0 < s.within 36000000 (s.laneAt b).beliefDiffs then
      (s.releaseToken.putOffSwap.forRerun s.releaseToken.putOffSwap.lanes.reruns b).retireLane b
      else s.releaseToken.putOffSwap.forRerun s.releaseToken.putOffSwap.lanes.reruns b) := by
  refine (next_neg ?_).trans ?_
  · rcases hb with h | h <;> rw [h] <;> decide
  · rfl

/-! ### Arbitration, mirrors and takeovers -/

/-- An arbitration of the lanes that may claim, and what it answers where none may. -/
theorem arbitrate_granted {s : State} {a b : Bool} {c : Bool} (u : State) (hl : s.lane.length = 2) (h : s.arbitrate a b = some c) :
    s.GrantedTo c (.next (match s.arbitrate a b with
      | some b => s.grant b
      | none => u)) := by
  rw [h]
  exact grant_grantedTo c hl

theorem mayClaim_pair {s : State} {b : Bool} {x y : Bool} (h : s.mayClaim b = x) (h' : s.mayClaim (!b) = y) :
    s.arbitrate (s.mayClaim false) (s.mayClaim true) = if b then s.arbitrate y x else s.arbitrate x y := by
  cases b with
  | false => rw [h, show s.mayClaim true = y from h']; rfl
  | true => rw [h, show s.mayClaim false = y from h']; rfl

/-- The one lane that may claim wins. -/
theorem arbitrate_sole {s : State} {b : Bool} (h : s.mayClaim b = true) (h' : s.mayClaim (!b) = false) :
    s.arbitrate (s.mayClaim false) (s.mayClaim true) = some b := by
  rw [mayClaim_pair h h']
  cases b <;> rfl

/-- Of two lanes that may claim, the one with the higher score wins. -/
theorem arbitrate_better {s : State} {b : Bool} (h : s.mayClaim b = true) (h' : s.mayClaim (!b) = true)
    (hscore : s.score (!b) < s.score b) : s.arbitrate (s.mayClaim false) (s.mayClaim true) = some b := by
  rw [mayClaim_pair h h', ite_self]
  exact arbitrate_score hscore

/-- The standby lane that a mirror is for, and whether the mirror follows the one before. -/
theorem execMirrorRx_eq {s : State} (f : Word) (ok : Bool) (hv : s.lanes.valid = true) (hst : (s.laneAt (!s.lanes.holder)).st = .standby)
    (hr : (s.laneAt (!s.lanes.holder)).resync = false) : exec (.mirrorRx f ok) s = .next (
      if !ok && s.lanes.swapPhase == 2 then s.laneFails s.lanes.holder true
      else if ok && (match (s.laneAt (!s.lanes.holder)).lastMirror with
          | some m => s.successor m f
          | none => false) then
        s.modLane (!s.lanes.holder) fun l => { l with lastMirror := some f, mirror := s.lanes.mirror, current := true }
      else s.modLane (!s.lanes.holder) fun l => { l with current := false, resync := true }) :=
  next_neg (by rw [hv, hst, hr]; decide)

/-- A takeover without the protection-only state: the lane's outputs are good, and another that stands by resyncs. -/
theorem execTakeoverComplete_eq {s : State} {b : Bool} (hg : s.lanes.granted = some b) (hp : s.lanes.protOnly = false) :
    exec .takeoverComplete s = .next (
      let t := s.modLane b fun l => { l with outOk := true, current := true }
      { (if t.lanes.booting && (t.laneAt (!b)).st == .standby then
          t.modLane (!b) fun l => { l with current := false, resync := true } else t) with
        lanes.granted := none, lanes.takeoverDone := true, lanes.started := true, lanes.booting := false
        lanes.gap := true, lanes.hold := false }) := by
  change execTakeoverComplete s = _
  unfold execTakeoverComplete
  rw [hg]
  dsimp only
  rw [hp, if_neg Bool.false_ne_true]

/-- The other lane of a takeover: the one that took over stays, and a standby lane of a boot resyncs. -/
theorem resyncOther_laneAt {s : State} (b : Bool) (h : s.lane.length = 2) :
    let t := if s.lanes.booting && (s.laneAt (!b)).st == .standby then
      s.modLane (!b) fun l => { l with current := false, resync := true } else s
    t.laneAt b = s.laneAt b ∧
      (s.lanes.booting = true → (s.laneAt (!b)).st = .standby → (t.laneAt (!b)).resync = true) := by
  intro t
  unfold t
  split
  · have hb := State.laneAt_modLane_other s (!b) fun l => { l with current := false, resync := true }
    rw [Bool.not_not] at hb
    exact ⟨hb, fun _ _ => congrArg (·.resync) (State.laneAt_modLane s (!b) _ h)⟩
  · rename_i hn
    refine ⟨rfl, fun h1 h2 => absurd ?_ hn⟩
    rw [h1, h2]
    rfl

/-- Settles O50: failures go through `laneFails_out`, the token through `arbitrate_granted`, beliefs through `forRerun_facts`, and the
other events are their guards with the rules of the lane operations. -/
theorem laneEvents : Obligations.LaneEvents := by
  unfold Obligations.LaneEvents
  intro s hl
  refine ⟨?_, ?_, ?_, ?_, ?_, ?_, ?_, ?_, ?_, ?_, ?_, ?_, ?_, ?_⟩
  · intro hv
    have hfail := laneFails_out s s.lanes.holder false hl
    obtain ⟨-, hval, htok⟩ := tokenFrom_facts s s.lanes.holder
    obtain ⟨hgap, hsw⟩ := htok hv rfl
    refine ⟨_, next_pos hv, ?_, hfail.gap.trans hgap, hfail.switchovers.trans hsw, ?_⟩
    · rw [hfail.valid, hval]
      cases s.lanes.holder <;> rw [hv] <;> rfl
    · rcases hfail.out with h | h <;> rw [h] <;> decide
  · intro hv
    exact next_neg (by rw [hv]; decide)
  · intro b f hb
    obtain ⟨u, hu⟩ : ∃ u : State, u = s.modLane b fun l =>
      { l with
        lockstepOk := l.lockstepOk && f != .lockstep
        memOk := l.memOk && f != .sramUncorrectable
        outOk := l.outOk && f != .writeVerify } := ⟨_, rfl⟩
    have hul : u.lane.length = 2 := by
      rw [hu]
      exact modLane_length s b _ hl
    have huo : u.laneAt (!b) = s.laneAt (!b) := by
      rw [hu]
      exact State.laneAt_modLane_other s b _
    have hfail := laneFails_out u b (f == .writeVerify) hul
    obtain ⟨hlane, hval, -⟩ := tokenFrom_facts u b
    refine ⟨u.laneFails b (f == .writeVerify), ?_, hfail.out, fun hf => hfail.retired (beq_iff_eq.mpr hf), ?_, ?_⟩
    · rw [hu]
      refine next_neg ?_
      rcases hb with h | h <;> rw [h] <;> decide
    · rw [hfail.valid, hval, hu]
      rfl
    · exact hfail.other.trans ((State.laneAt_congr hlane _).trans huo)
  · intro a b h
    refine next_pos ?_
    rw [Bool.or_eq_true]
    exact h
  · intro hv hh
    have hexec (a b : Bool) : exec (.tokenGrant a b) s = .next (match s.arbitrate (a && s.mayClaim false) (b && s.mayClaim true) with
        | some b => s.grant b
        | none => s) := next_neg (by rw [hv, hh]; decide)
    refine ⟨fun a b ha hb => ?_, fun a b ha hb => ?_, fun b h h' hs => ?_, fun h h' hs => ?_, fun a b ha hb => ?_⟩
    · rw [hexec]
      exact arbitrate_granted s hl (by rw [ha, hb]; rfl)
    · rw [hexec]
      exact arbitrate_granted s hl (by rw [ha, hb]; rfl)
    · rw [hexec]
      exact arbitrate_granted s hl (arbitrate_better h h' hs)
    · rw [hexec]
      exact arbitrate_granted s hl (by rw [h, h']; exact arbitrate_tie hs)
    · rw [hexec, ha, hb]
      rfl
  · intro b hg hp
    have hml := modLane_length s b (fun l => { l with outOk := true, current := true }) hl
    have hb := State.laneAt_modLane s b (fun l => { l with outOk := true, current := true }) hl
    have ho := State.laneAt_modLane_other s b (fun l => { l with outOk := true, current := true })
    obtain ⟨hsame, hres⟩ := resyncOther_laneAt b hml
    have hsame' := hsame.trans hb
    exact ⟨_, execTakeoverComplete_eq hg hp, rfl, rfl, rfl, congrArg (·.current) hsame', congrArg (·.outOk) hsame',
      fun hboot hst => hres hboot ((congrArg (·.st) ho).trans hst)⟩
  · intro b hb
    obtain ⟨hlane, hv, -, -, hr, hgrid⟩ := putOffSwap_keeps s.releaseToken
    have hat (c : Bool) : s.releaseToken.putOffSwap.laneAt c = s.laneAt c := State.laneAt_congr hlane c
    obtain ⟨hlen, hv', hh', hr', hd, hst⟩ := forRerun_facts s.releaseToken.putOffSwap.lanes.reruns
      (s := s.releaseToken.putOffSwap) (b := b) ((congrArg List.length hlane).trans hl) (by rw [hat]; exact hb)
    have hdiffs : ((s.releaseToken.putOffSwap.forRerun s.releaseToken.putOffSwap.lanes.reruns b).laneAt b).beliefDiffs =
        s.grid.validFrames :: (s.laneAt b).beliefDiffs := by
      rw [hd, hat, hgrid]
      rfl
    have hreruns := hr'.trans (congrArg (bump 0xFF) hr)
    refine ⟨_, execTokenBeliefMismatch_eq hb, ?_⟩
    split
    · have hret := retireLane_laneAt b hlen
      have hll := retireLane_lanes (s.releaseToken.putOffSwap.forRerun s.releaseToken.putOffSwap.lanes.reruns b) b
      exact ⟨(congrArg (·.valid) hll).trans (hv'.trans hv), (congrArg (·.hold) hll).trans hh', (congrArg (·.reruns) hll).trans hreruns,
        (congrArg (·.beliefDiffs) hret).trans hdiffs, congrArg (·.st) hret⟩
    · exact ⟨hv'.trans hv, hh', hreruns, hdiffs, hst⟩
  · intro hh hv hlate
    have hexec : exec .rerunArbitration s = .next (match s.arbitrate (s.mayClaim false) (s.mayClaim true) with
        | some b => s.grant b
        | none => { s with lanes.hold := false }) := next_pos (by rw [hh, hv, decide_eq_true hlate]; rfl)
    rw [hexec]
    refine ⟨fun h h' => ?_, fun b h h' => ?_, fun b h h' hs => ?_, fun h h' hs => ?_⟩
    · rw [h, h']
      rfl
    · exact arbitrate_granted _ hl (arbitrate_sole h h')
    · exact arbitrate_granted _ hl (arbitrate_better h h' hs)
    · exact arbitrate_granted _ hl (by rw [h, h']; exact arbitrate_tie hs)
  · intro h
    refine next_neg ?_
    rw [Bool.and_eq_true, Bool.and_eq_true, Bool.not_eq_true', decide_eq_true_eq]
    rintro ⟨⟨h1, h2⟩, h3⟩
    rw [h1, h2] at h
    rcases h with h | h | h
    · exact absurd h (by decide)
    · exact absurd h (by decide)
    · exact absurd h3 (Nat.not_le.mpr h)
  · intro hv hst hr
    refine ⟨fun f m hm hf => ?_, fun f ok hok hnot => ?_, fun f hph => ?_⟩
    · refine (execMirrorRx_eq f true hv hst hr).trans ((next_neg Bool.false_ne_true).trans (next_pos ?_))
      rw [hm]
      exact hf
    · refine (execMirrorRx_eq f ok hv hst hr).trans ((next_neg ?_).trans (next_neg ?_))
      · rw [Bool.and_eq_true, Bool.not_eq_true', beq_iff_eq]
        rintro ⟨h1, h2⟩
        exact hok.elim (fun h => h h2) (fun h => absurd (h.symm.trans h1) (by decide))
      · rw [Bool.and_eq_true]
        rintro ⟨h1, h2⟩
        cases hm : (s.laneAt (!s.lanes.holder)).lastMirror with
        | none =>
          rw [hm] at h2
          exact absurd h2 Bool.false_ne_true
        | some m =>
          rw [hm] at h2
          exact absurd (h2.symm.trans (hnot h1 m hm)) (by decide)
    · have hfail := laneFails_out s s.lanes.holder true hl
      obtain ⟨-, hval, -⟩ := tokenFrom_facts s s.lanes.holder
      refine ⟨_, (execMirrorRx_eq f false hv hst hr).trans (next_pos (by rw [hph]; rfl)), ?_, hfail.retired rfl⟩
      rw [hfail.valid, hval]
      cases s.lanes.holder <;> rw [hv] <;> rfl
  · intro f ok h
    refine next_pos ?_
    rw [Bool.or_eq_true, Bool.or_eq_true, Bool.not_eq_true', bne_iff_ne]
    tauto
  · intro hv hst hr
    exact next_pos (by rw [hv, hst, hr]; rfl)
  · intro b hb
    obtain ⟨u, hu⟩ : ∃ u : State, u = (if s.lanes.selfTest == some b then { s with lanes.selfTest := none } else s) := ⟨_, rfl⟩
    have hlane : u.lane = s.lane := by
      rw [hu]
      split <;> rfl
    have hul : u.lane.length = 2 := (congrArg List.length hlane).trans hl
    have hexec (pass : Bool) : exec (.laneRebootComplete b pass) s = .next (if pass then
        let t := u.modLane b fun l =>
          { l with st := .standby, retired := false, lockstepOk := true, memOk := true, current := false, resync := true }
        if s.lanes.selfTest == some b then t.laneAbsorb 3 b [] else t
        else u.retireLane b) := by
      rw [hu]
      exact next_neg (by rw [hb]; decide)
    constructor
    · have hm := State.laneAt_modLane u b (fun l =>
          { l with st := .standby, retired := false, lockstepOk := true, memOk := true, current := false, resync := true }) hul
      have hml := modLane_length u b (fun l =>
          { l with st := .standby, retired := false, lockstepOk := true, memOk := true, current := false, resync := true }) hul
      refine ⟨_, (hexec true).trans (next_pos rfl), ?_⟩
      dsimp only
      split
      · have ha := laneAbsorb_laneAt 3 b [] hml
        rw [ha, hm]
        exact ⟨rfl, rfl, rfl⟩
      · rw [hm]
        exact ⟨rfl, rfl, rfl⟩
    · have hret := retireLane_laneAt b hul
      rw [State.laneAt_congr hlane b] at hret
      exact ⟨_, (hexec false).trans (next_neg Bool.false_ne_true), congrArg (·.st) hret, congrArg (·.retireCount) hret⟩
  · intro b
    obtain ⟨u, hu⟩ : ∃ u : State, u = s.modLane b fun l => { l with eccFrames := (s.grid.validFrames :: l.eccFrames).take 16 } := ⟨_, rfl⟩
    have hm : u.laneAt b = { s.laneAt b with eccFrames := (s.grid.validFrames :: (s.laneAt b).eccFrames).take 16 } := by
      rw [hu]
      exact State.laneAt_modLane s b _ hl
    have ho : u.laneAt (!b) = s.laneAt (!b) := by
      rw [hu]
      exact State.laneAt_modLane_other s b _
    have hexec : ∃ t : State, exec (.correctedSramError b) s = .next t ∧ t.lane = u.lane := by
      rw [hu]
      refine ⟨_, rfl, ?_⟩
      dsimp only
      split <;> rfl
    obtain ⟨t, he, ht⟩ := hexec
    exact ⟨t, he, (congrArg (·.eccFrames) (State.laneAt_congr ht b)).trans (congrArg (·.eccFrames) hm), (State.laneAt_congr ht (!b)).trans ho⟩

end Sys2Proof.Machine
end


section
/-!
PROOFS. Swaps of the lanes (14_lanes_and_failover.md).
-/

-- One proof after the other: the threads of proofs that are elaborated at once take too much memory together.
set_option Elab.async false

namespace Sys2Proof.Machine

/-- A swap that ends with a result: the lanes stay, the phase is over. -/
theorem endSwap_result (s : State) (r : Nat) : (∀ b, (s.endSwap r).laneAt b = s.laneAt b) ∧
    (s.endSwap r).lanes.valid = s.lanes.valid ∧ (s.endSwap r).lanes.holder = s.lanes.holder ∧
    (s.endSwap r).lanes.lastSwap = r ∧ (s.endSwap r).lanes.swapPhase = 0 := by
  obtain ⟨hl, hv, -, -, hh, hr, hp, -⟩ := endSwap_facts s r
  exact ⟨State.laneAt_congr hl, hv, hh, hr, hp⟩

/-- A swap that ends without a failure counts, and its period begins again. -/
theorem endSwap_counted (s : State) {r : Nat} (h : r ≠ 2) : (s.endSwap r).lanes.swaps = bump 0xFF s.lanes.swaps ∧
    (s.endSwap r).lanes.swapTimer = 0 ∧ (s.endSwap r).lanes.swapOverdue = false := by
  obtain ⟨-, -, -, -, -, -, -, -, -, hc, -⟩ := endSwap_facts s r
  exact hc h

theorem endSwap_failed (s : State) : (s.endSwap 2).lanes.swaps = s.lanes.swaps := by
  obtain ⟨-, -, -, -, -, -, -, -, hf, -⟩ := endSwap_facts s 2
  exact hf rfl

theorem endSwap_diverged (s : State) : (s.endSwap 3).lanes.selfTest = s.lanes.selfTest ∧ (s.endSwap 3).lanes.swapNext = 36000000 := by
  obtain ⟨-, -, -, -, -, -, -, ht, -, -, hn⟩ := endSwap_facts s 3
  exact ⟨ht, hn rfl⟩

/-- A new lane that fails the check of its swap is retired, with the token free. -/
theorem laneFails_inCheck {s : State} (hl : s.lane.length = 2) (hv : s.lanes.valid = true) (hp : s.lanes.swapPhase = 2) :
    (s.laneFails s.lanes.holder true).lanes.lastSwap = 2 ∧ (s.laneFails s.lanes.holder true).lanes.swapPhase = 0 ∧
    (s.laneFails s.lanes.holder true).lanes.valid = false ∧ ((s.laneFails s.lanes.holder true).laneAt s.lanes.holder).st = .retired := by
  have hfail := laneFails_out s s.lanes.holder true hl
  obtain ⟨-, hval, -⟩ := tokenFrom_facts s s.lanes.holder
  have hswap : (s.lanes.valid && s.lanes.holder == s.lanes.holder && s.lanes.swapPhase == 2) = true := by
    rw [hv, hp, beq_self_eq_true]
    rfl
  have he : s.laneFails s.lanes.holder true = ((s.tokenFrom s.lanes.holder).retireLane s.lanes.holder).endSwap 2 := by
    rw [laneFails_eq]
    dsimp only
    rw [hswap, if_pos rfl, if_pos (by decide)]
  obtain ⟨-, -, -, hr, hph⟩ := endSwap_result ((s.tokenFrom s.lanes.holder).retireLane s.lanes.holder) 2
  refine ⟨he ▸ hr, he ▸ hph, ?_, hfail.retired rfl⟩
  rw [hfail.valid, hval, bne_self_eq_false, Bool.and_false]

/-- A handover after a good test: the two lanes change places. -/
theorem handover_lanes {s : State} (o : Bool) (hl : s.lane.length = 2) :
    let t := (s.modLane o fun l => { l with
        st := .standby, current := true, lastMirror := some s.lanes.lastBoundary, mirror := s.lanes.mirror }).modLane (!o)
      fun l => { l with st := .inCharge }
    (t.laneAt (!o)).st = .inCharge ∧ (t.laneAt o).st = .standby := by
  have hml := modLane_length s o (fun l => { l with
        st := .standby, current := true, lastMirror := some s.lanes.lastBoundary, mirror := s.lanes.mirror }) hl
  have ho := State.laneAt_modLane_other (s.modLane o fun l => { l with
        st := .standby, current := true, lastMirror := some s.lanes.lastBoundary, mirror := s.lanes.mirror }) (!o)
      fun l => { l with st := .inCharge }
  rw [Bool.not_not] at ho
  exact ⟨congrArg (·.st) (State.laneAt_modLane _ (!o) _ hml), congrArg (·.st) (ho.trans (State.laneAt_modLane s o _ hl))⟩

/-- Settles O51: a handover goes through `handover_lanes`, the end of a swap through the lemmas on `endSwap`, and a failure in the check
through `laneFails_inCheck`. -/
theorem swapEvents : Obligations.SwapEvents := by
  unfold Obligations.SwapEvents
  intro s hl
  refine ⟨rfl, ?_, ?_, ?_, ?_, ?_, ?_⟩
  · intro hp hv
    have hgo : ¬(s.lanes.swapPhase != 1 || !s.lanes.valid) = true := by
      rw [hp, hv]
      decide
    constructor
    · intro hst
      obtain ⟨hn, ho⟩ := handover_lanes s.lanes.holder hl
      exact ⟨_, (next_neg hgo).trans (next_pos (by rw [hst]; rfl)), rfl, hv, rfl, rfl, hn, ho⟩
    · intro ok hbad
      obtain ⟨u, hu⟩ : ∃ u : State, u = (if (s.laneAt (!s.lanes.holder)).st == .retired then s else s.retireLane (!s.lanes.holder)) :=
        ⟨_, rfl⟩
      have hull : u.lanes = s.lanes := by
        rw [hu]
        split
        · rfl
        · exact retireLane_lanes ..
      have hust : (u.laneAt (!s.lanes.holder)).st = .retired := by
        rw [hu]
        split
        · rename_i h
          exact beq_iff_eq.mp h
        · exact congrArg (·.st) (retireLane_laneAt _ hl)
      obtain ⟨hat, hval, hh, hr, hph⟩ := endSwap_result u 2
      refine ⟨u.endSwap 2, ?_, hh.trans (congrArg (·.holder) hull), hval.trans ((congrArg (·.valid) hull).trans hv), hph, hr,
        (endSwap_failed u).trans (congrArg (·.swaps) hull), (congrArg (·.st) (hat _)).trans hust⟩
      rw [hu]
      refine (next_neg hgo).trans (next_neg ?_)
      rw [Bool.and_eq_true, beq_iff_eq]
      rintro ⟨h1, h2⟩
      exact hbad.elim (fun h => absurd (h.symm.trans h1) (by decide)) (fun h => h h2)
  · intro x y hp
    constructor
    · refine next_pos ?_
      rw [Bool.or_eq_true, bne_iff_ne]
      exact Or.inl hp
    · intro hp2
      refine next_pos ?_
      rw [Bool.or_eq_true, Bool.or_eq_true, bne_iff_ne]
      exact Or.inl (Or.inl hp2)
  · intro x y h
    refine next_pos ?_
    rw [Bool.or_eq_true, decide_eq_true_eq]
    exact Or.inr h
  · intro hp hv hlate
    have hgo : ¬(s.lanes.swapPhase != 2 || !s.lanes.valid || decide (s.lanes.swapFrames < s.pn P.eclipseCheckFrames)) = true := by
      rw [hp, hv, decide_eq_false (Nat.not_lt.mpr hlate)]
      decide
    refine ⟨?_, ?_, fun d => ?_⟩
    · obtain ⟨hat, -, -, hr, hph⟩ := endSwap_result (s.modLane s.lanes.holder fun l => { l with outOk := true }) 1
      obtain ⟨hc, ht, ho⟩ := endSwap_counted (s.modLane s.lanes.holder fun l => { l with outOk := true }) (r := 1) (by decide)
      exact ⟨_, next_neg hgo, hr, hph, hc, ht, ho,
        (congrArg (·.outOk) (hat _)).trans (congrArg (·.outOk) (State.laneAt_modLane s _ _ hl))⟩
    · obtain ⟨u, hu⟩ : ∃ u : State, u = { s.modLane (!s.lanes.holder) fun l =>
          { l with st := .rebooting, current := false, resync := false } with lanes.selfTest := some (!s.lanes.holder) } := ⟨_, rfl⟩
      have hst : (u.laneAt (!s.lanes.holder)).st = .rebooting := by
        rw [hu]
        exact congrArg (·.st) (State.laneAt_modLane s _ (fun l => { l with st := .rebooting, current := false, resync := false }) hl)
      obtain ⟨hat, -, -, hr, hph⟩ := endSwap_result u 3
      obtain ⟨ht, hn⟩ := endSwap_diverged u
      refine ⟨u.endSwap 3, ?_, hr, hph, (congrArg (·.st) (hat _)).trans hst, ht.trans (congrArg (·.lanes.selfTest) hu), hn⟩
      rw [hu]
      exact next_neg hgo
    · exact ⟨_, next_neg hgo, laneFails_inCheck hl hv hp⟩
  · intro ho hlate
    obtain ⟨-, -, -, -, -, -, h⟩ := absorb_lanes { s with lanes.swapOverdue := true } 14 4 0xFF 0 []
    exact ⟨_, next_neg (by rw [ho, decide_eq_false (Nat.not_lt.mpr hlate)]; decide), h, State.absorb_keeps_lane ..⟩
  · intro h
    refine next_pos ?_
    rw [Bool.or_eq_true, decide_eq_true_eq]
    exact h

end Sys2Proof.Machine
end


section
/-!
PROOFS. Trips of the safety block (15_safety_block.md).
-/

-- One proof after the other: the threads of proofs that are elaborated at once take too much memory together.
set_option Elab.async false

namespace Sys2Proof.Machine

/-! ### The block before a trip -/

theorem foldl_fixes {σ α β : Type} (g : σ → β) {f : σ → α → σ} (h : ∀ x a, g (f x a) = g x) (l : List α) (x : σ) :
    g (l.foldl f x) = g x := by
  induction l generalizing x with
  | nil => rfl
  | cons a l ih => exact (ih (f x a)).trans (h x a)

/-- What a trip reads and counts: a change of inputs, pairs and tests leaves it. -/
def Safe.tripKey (x : Safe) : SafeSt × Nat × Nat := (x.st, x.trips, x.lateCauses)

theorem settleArming_eq (x : Safe) : ∃ a r, x.settleArming = { x with armSamples := a, resetReady := r } := by
  unfold Safe.settleArming
  split <;> exact ⟨_, _, rfl⟩

theorem setInput_tripKey (x : Safe) (i : Nat) (v : SafeIn) : (x.setInput i v).tripKey = x.tripKey := by
  unfold Safe.setInput
  split <;> rfl

theorem settleArming_tripKey (x : Safe) : x.settleArming.tripKey = x.tripKey := by
  obtain ⟨a, r, h⟩ := settleArming_eq x
  rw [h]
  rfl

theorem dropInput_tripKey (x : Safe) (t2 : Bool) (low : BitVec 7) (k : Nat) : (x.dropInput t2 low k).tripKey = x.tripKey := by
  unfold Safe.dropInput
  dsimp only
  split
  · rfl
  · exact setInput_tripKey ..

theorem readLevels_tripKey (x : Safe) (i : SafeSample) : (x.readLevels i).tripKey = x.tripKey := by
  unfold Safe.readLevels
  refine foldl_fixes Safe.tripKey (fun y k => ?_) _ x
  split
  · exact setInput_tripKey ..
  · rfl

theorem readInputs_tripKey (x : Safe) (i : SafeSample) : (x.readInputs i).tripKey = x.tripKey := by
  unfold Safe.readInputs
  rw [settleArming_tripKey]
  have h := readLevels_tripKey x i
  generalize x.readLevels i = y at h ⊢
  exact h

theorem faultOuts_tripKey (x : Safe) (bad : BitVec 4) :
    ((List.range 4).foldl (fun (x : Safe) k => if bad.getLsbD k then x.faultOut k else x) x).tripKey = x.tripKey := by
  refine foldl_fixes Safe.tripKey (fun y k => ?_) _ x
  split <;> rfl

/-! ### Trips -/

/-- A state in which only the safety record moved, and what a trip reads of it did not. -/
theorem trips_by {s x : State} (c : Nat) (h : s.safe.st = .safe ∨ s.safe.st = .armed) (hg : x.grid = s.grid) (hc : x.conv = s.conv)
    (hk : x.safe.tripKey = s.safe.tripKey) : s.TrippedBy c (x.trip c) := by
  simp only [Safe.tripKey, Prod.mk.injEq] at hk
  obtain ⟨hst, htr, -⟩ := hk
  exact trippedBy_trip s x c (hst ▸ h) hg hc htr

theorem trip_at {α : Type} (f : Safe → α) {x : State} (c : Nat) (h : x.safe.st = .safe ∨ x.safe.st = .armed)
    (hf : ∀ (y : Safe) st cause last frame time trips kill ok pre two seq t,
      f { y with
        st := st, cause := cause, lastCause := last, lastFrame := frame, lastTime := time, trips := trips, gateKill := kill
        safeOk := ok, precharging := pre, twohandClose := two, seq := seq, tripT := t } = f y) : f (x.trip c).safe = f x.safe := by
  rw [trip_safe x c h, hf]

/-- A block that may trip. -/
def Safe.mayTrip (x : Safe) : Prop := x.st = .safe ∨ x.st = .armed

theorem mayTrip_of_key {x y : Safe} (h : y.tripKey = x.tripKey) (hx : x.mayTrip) : y.mayTrip := by
  have hst : y.st = x.st := congrArg (·.1) h
  unfold Safe.mayTrip
  rw [hst]
  exact hx

/-- Further causes of a sample are counted. -/
theorem trips_counted {s : State} (c : Nat) (rest : List Nat) (h : s.safe.mayTrip) :
    (c :: rest).foldl State.trip s = { s.trip c with safe.lateCauses := s.safe.lateCauses + rest.length } := by
  have hst : (s.trip c).safe.st = .tripped := by
    rw [trip_safe s c h]
  have hlate : (s.trip c).safe.lateCauses = s.safe.lateCauses :=
    trip_at (·.lateCauses) c h fun _ _ _ _ _ _ _ _ _ _ _ _ _ => rfl
  rw [List.foldl_cons, trips_tripped rest _ hst, hlate]

theorem trips_state {s : State} {c : Nat} {rest : List Nat} (h : s.safe.mayTrip) : ((c :: rest).foldl State.trip s).safe.st = .tripped := by
  rw [trips_counted c rest h]
  exact congrArg (·.st) (trip_safe s c h)

/-! ### A sample of the inputs -/

/-- The two-hand inputs leave the record of a trip. -/
structure State.TripKept (s t : State) : Prop where
  st : t.safe.st = s.safe.st
  cause : t.safe.cause = s.safe.cause
  lastCause : t.safe.lastCause = s.safe.lastCause
  lastFrame : t.safe.lastFrame = s.safe.lastFrame
  trips : t.safe.trips = s.safe.trips
  gateKill : t.safe.gateKill = s.safe.gateKill
  safeOk : t.safe.safeOk = s.safe.safeOk
  seq : t.safe.seq = s.safe.seq
  late : t.safe.lateCauses = s.safe.lateCauses
  conv : t.conv = s.conv

theorem twoHand_tripKept (s : State) (one two : Bool) : s.TripKept (s.twoHand one two) := by
  unfold State.twoHand
  dsimp only
  split
  · constructor <;> rfl
  · split
    · constructor <;> rfl
    · split
      · constructor <;> rfl
      · split <;> constructor <;> rfl

theorem TrippedBy.kept {s t u : State} {c : Nat} (h : s.TrippedBy c t) (hk : t.TripKept u) : s.TrippedBy c u := by
  obtain ⟨h1, h2, h3, h4, h5, h6, h7, h8, h9, h10⟩ := h
  exact ⟨hk.st.trans h1, hk.cause.trans h2, hk.lastCause.trans h3, hk.lastFrame.trans h4, hk.trips.trans h5, hk.gateKill.trans h6,
    hk.safeOk.trans h7, hk.seq.trans h8, by rw [hk.conv]; exact h9, fun hc => by rw [hk.conv]; exact h10 hc⟩

theorem safetySample_eq (s : State) (i : SafeSample) : s.safetySample i =
    (let new := s.safe.tick.readInputs i
     let x := (List.range 4).foldl (fun (x : Safe) k => if i.outBad.getLsbD k then x.faultOut k else x) new
     let t := (sampleCauses s.safe new i).foldl State.trip { s with safe := { x with rbBad := i.outBad } }
     let t := if t.safe.st == SafeSt.armed && !t.safe.doorsClosed && !t.safe.anyOn then t.disarmSafety else t
     (t.twoHand (filtered s.safe.two1 (i.high.getLsbD 5) (i.masked.getLsbD 5))
       (filtered s.safe.two2 (i.high.getLsbD 6) (i.masked.getLsbD 6))).followRequest) := rfl

/-- A sample with a cause trips the block by its first cause, and counts the others. -/
theorem safetySample_trips {s : State} (i : SafeSample) {c : Nat} {rest : List Nat} (h : s.safe.mayTrip)
    (hc : sampleCauses s.safe (s.safe.tick.readInputs i) i = c :: rest) :
    s.TrippedBy c (s.safetySample i) ∧ (s.safetySample i).safe.lateCauses = s.safe.lateCauses + rest.length := by
  obtain ⟨u, hu⟩ : ∃ u : State, u = { s with safe := { (List.range 4).foldl
      (fun (x : Safe) k => if i.outBad.getLsbD k then x.faultOut k else x) (s.safe.tick.readInputs i) with rbBad := i.outBad } } := ⟨_, rfl⟩
  have hkey : u.safe.tripKey = s.safe.tripKey := by
    rw [hu]
    exact (faultOuts_tripKey ..).trans (readInputs_tripKey ..)
  have hmay := mayTrip_of_key hkey h
  have hlate : u.safe.lateCauses = s.safe.lateCauses := congrArg (·.2.2) hkey
  have hby : s.TrippedBy c ((c :: rest).foldl State.trip u) := by
    rw [trips_counted c rest hmay]
    exact trips_by c h (congrArg (·.grid) hu) (congrArg (·.conv) hu) hkey
  have hst := trips_state (rest := rest) (c := c) hmay
  have hcount : ((c :: rest).foldl State.trip u).safe.lateCauses = s.safe.lateCauses + rest.length := by
    rw [trips_counted c rest hmay]
    exact congrArg (· + rest.length) hlate
  generalize hv : (c :: rest).foldl State.trip u = v at hby hst hcount
  have hkept := twoHand_tripKept v (filtered s.safe.two1 (i.high.getLsbD 5) (i.masked.getLsbD 5))
    (filtered s.safe.two2 (i.high.getLsbD 6) (i.masked.getLsbD 6))
  have harmed : (v.safe.st == SafeSt.armed && !v.safe.doorsClosed && !v.safe.anyOn) = false := by
    rw [hst]
    rfl
  have he : s.safetySample i = v.twoHand (filtered s.safe.two1 (i.high.getLsbD 5) (i.masked.getLsbD 5))
      (filtered s.safe.two2 (i.high.getLsbD 6) (i.masked.getLsbD 6)) := by
    rw [safetySample_eq]
    dsimp only
    rw [hc, ← hu, hv, harmed, if_neg Bool.false_ne_true]
    exact followRequest_tripped _ (hkept.st.trans hst)
  rw [he]
  exact ⟨TrippedBy.kept hby hkept, hkept.late.trans hcount⟩

/-! ### Test drops of the inputs -/

/-- The inputs after a drop of a test output. -/
def Safe.afterDrop (x : Safe) (t2 : Bool) (low : BitVec 7) : Safe :=
  ((List.range 7).foldl (fun (x : Safe) k => x.dropInput t2 low k) x).settleArming

theorem afterDrop_tripKey (x : Safe) (t2 : Bool) (low : BitVec 7) : (x.afterDrop t2 low).tripKey = x.tripKey :=
  (settleArming_tripKey _).trans (foldl_fixes Safe.tripKey (fun y k => dropInput_tripKey y t2 low k) _ x)

/-- An input that a drop found stuck or crossed. -/
def newly (p : SafeIn → Bool) (old new : Safe) : Bool := (List.range 7).any fun k => p (new.input k) && !p (old.input k)

theorem newly_iff (p : SafeIn → Bool) (old new : Safe) :
    newly p old new = true ↔ ∃ k, k < 7 ∧ p (new.input k) = true ∧ p (old.input k) = false := by
  unfold newly
  rw [List.any_eq_true]
  simp only [List.mem_range, Bool.and_eq_true, Bool.not_eq_true']

theorem newly_false {p : SafeIn → Bool} {old new : Safe} (h : ∀ k, k < 7 → p (new.input k) = true → p (old.input k) = true) :
    newly p old new = false := by
  rw [← Bool.not_eq_true, newly_iff]
  rintro ⟨k, hk, h1, h2⟩
  exact absurd (h2.symm.trans (h k hk h1)) (by decide)

theorem execTestOutputDrop_eq {s : State} (t2 : Bool) (low : BitVec 7) (ha : s.safeActive = true) :
    exec (.testOutputDrop t2 low) s = .next (
      let t := { s with safe := s.safe.afterDrop t2 low }
      let t := if newly (·.stuck) s.safe (s.safe.afterDrop t2 low) then t.trip 4 else t
      if newly (·.cross) s.safe (s.safe.afterDrop t2 low) then t.trip 5 else t) := next_pos ha

/-- A drop that finds a fault trips the block once. -/
theorem drop_trips {s x : State} (stuck cross : Bool) (h : s.safe.mayTrip) (hk : x.safe.tripKey = s.safe.tripKey)
    (hf : stuck = true ∨ cross = true) :
    let t := if stuck then x.trip 4 else x
    let u := if cross then t.trip 5 else t
    u.safe.st = .tripped ∧ u.safe.trips = s.safe.trips + 1 := by
  have hmay := mayTrip_of_key hk h
  have htr : x.safe.trips = s.safe.trips := congrArg (·.2.1) hk
  have one (c : Nat) : (x.trip c).safe.st = .tripped ∧ (x.trip c).safe.trips = s.safe.trips + 1 := by
    rw [trip_safe x c hmay]
    exact ⟨rfl, congrArg (· + 1) htr⟩
  cases stuck with
  | false =>
    have hc : cross = true := hf.resolve_left Bool.false_ne_true
    subst hc
    exact one 5
  | true =>
    cases cross with
    | false => exact one 4
    | true =>
      have hst := (one 4).1
      have h5 := trip_tripped (x.trip 4) 5 hst
      exact ⟨(congrArg (·.safe.st) h5).trans hst, (congrArg (·.safe.trips) h5).trans (one 4).2⟩

/-! ### Contactors of a trip -/

/-- A request that is followed leaves the time since the trip. -/
theorem followRequest_tripT (s : State) : s.followRequest.safe.tripT = s.safe.tripT := by
  unfold State.followRequest State.beginOpen
  split
  · rfl
  · split
    · split <;> rfl
    · split <;> rfl
    · split <;> rfl
    · rfl
    · rfl

/-! ### The obligation -/

theorem faultOut_getLsbD (x : Safe) {o : Nat} (h : o < 4) : (x.faultOut o).outFault.getLsbD (3 - o) = true :=
  (setBit_getLsbD x.outFault (3 - o) (3 - o) true (by omega)).trans (if_pos rfl)

/-- A pair that a discrepancy leaves unresolved. -/
def SafePair.marked (p : SafePair) : SafePair := { p with unresolved := true, bothOpen := false, reclose := 0 }

/-- A discrepancy of the E-stop or of the door pair. -/
def Safe.discrepant (x : Safe) (door : Bool) : Safe :=
  if door then { x with door := x.door.marked } else { x with estop := x.estop.marked }

theorem discrepant_settled (x : Safe) (door : Bool) : (x.discrepant door).settleArming.tripKey = x.tripKey ∧
    (if door then (x.discrepant door).settleArming.door else (x.discrepant door).settleArming.estop).unresolved = true := by
  obtain ⟨a, r, h⟩ := settleArming_eq (x.discrepant door)
  rw [h]
  cases door <;> exact ⟨rfl, rfl⟩

theorem execSafetyDiscrepancy_late {s : State} {door : Bool} (ha : s.safeActive = true) (hd : door = true → s.safe.set.doorUsed = true)
    (hl : 40 * s.safe.set.discMs < (if door then s.safe.door else s.safe.estop).discUs) :
    exec (.safetyDiscrepancy door) s = .next (State.trip { s with safe := (s.safe.discrepant door).settleArming } 3) := by
  refine next_neg ?_
  rw [Bool.or_eq_true, Bool.or_eq_true, ha, Bool.and_eq_true, Bool.not_eq_true', decide_eq_true_eq]
  rintro ((h | ⟨h1, h2⟩) | h)
  · exact absurd h (by decide)
  · rw [hd h1] at h2
    exact absurd h2 (by decide)
  · exact Nat.not_le.mpr hl h

theorem execSafetyDiscrepancy_none {s : State} {door : Bool} (h : s.safeActive = false ∨ (door = true ∧ s.safe.set.doorUsed = false) ∨
    (if door then s.safe.door else s.safe.estop).discUs ≤ 40 * s.safe.set.discMs) : exec (.safetyDiscrepancy door) s = .next s := by
  refine next_pos ?_
  rw [Bool.or_eq_true, Bool.or_eq_true, Bool.and_eq_true, Bool.not_eq_true', Bool.not_eq_true', decide_eq_true_eq, or_assoc]
  exact h

/-- A self-test of the block: what it finds, and the trips of what it had not found before. -/
theorem execSafetySelfTest_eq {s : State} (ram prog set : Bool) (ha : s.safeActive = true) :
    exec (.safetySelfTest ram prog set) s = .next (
      let t := { s with safe := Safe.settleArming { s.safe with internalFault := !(ram && prog), setBad := !set } }
      let t := if !set && !s.safe.setBad then t.trip 11 else t
      if !(ram && prog) && !s.safe.internalFault then t.trip 12 else t) := next_pos ha

theorem selfTest_settled (x : Safe) (int bad : Bool) :
    (Safe.settleArming { x with internalFault := int, setBad := bad }).tripKey = x.tripKey ∧
    (Safe.settleArming { x with internalFault := int, setBad := bad }).internalFault = int ∧
    (Safe.settleArming { x with internalFault := int, setBad := bad }).setBad = bad := by
  obtain ⟨a, r, h⟩ := settleArming_eq { x with internalFault := int, setBad := bad }
  rw [h]
  exact ⟨rfl, rfl, rfl⟩

theorem kLow_settled (x : Safe) : (Safe.settleArming { x with kVsupOk := false }).tripKey = x.tripKey ∧
    (Safe.settleArming { x with kVsupOk := false }).kVsupOk = false ∧ (Safe.settleArming { x with kVsupOk := false }).cause = x.cause := by
  obtain ⟨a, r, h⟩ := settleArming_eq { x with kVsupOk := false }
  rw [h]
  exact ⟨rfl, rfl, rfl⟩

/-- Settles O52: each cause is its guard with `trips_by`; a sample goes through `safetySample_trips`, a test drop through `drop_trips`. -/
theorem safetyTrips : Obligations.SafetyTrips := by
  unfold Obligations.SafetyTrips
  intro s
  refine ⟨?_, ?_, ?_, ?_, ?_, ?_, ?_, ?_, ?_, ?_⟩
  · intro hmay ha
    refine ⟨?_, ?_, ?_, ?_, ?_, ?_, ?_, ?_, ?_, ?_, ?_, ?_⟩
    · intro hl
      obtain ⟨hk, hm⟩ := discrepant_settled s.safe false
      have hm' : (s.safe.discrepant false).settleArming.estop.unresolved = true := hm
      refine ⟨_, execSafetyDiscrepancy_late (door := false) ha nofun hl, trips_by 3 hmay rfl rfl hk, ?_⟩
      exact (trip_at (·.estop.unresolved) 3 (mayTrip_of_key hk hmay) fun _ _ _ _ _ _ _ _ _ _ _ _ _ => rfl).trans hm'
    · intro hu hl
      obtain ⟨hk, hm⟩ := discrepant_settled s.safe true
      have hm' : (s.safe.discrepant true).settleArming.door.unresolved = true := hm
      refine ⟨_, execSafetyDiscrepancy_late (door := true) ha (fun _ => hu) hl, trips_by 3 hmay rfl rfl hk, ?_⟩
      exact (trip_at (·.door.unresolved) 3 (mayTrip_of_key hk hmay) fun _ _ _ _ _ _ _ _ _ _ _ _ _ => rfl).trans hm'
    · intro o ho hon
      have hgo : (s.safeActive && s.safe.outOn o) = true := by
        rw [ha, hon]
        rfl
      have hmay' : ({ s with safe := (s.safe.nextSwitch o).faultOut o } : State).safe.mayTrip := hmay
      have hmay'' : ({ s with safe := s.safe.faultOut o } : State).safe.mayTrip := hmay
      refine ⟨_, _, (if_pos ho).trans (next_pos hgo), trips_by (x := { s with safe := (s.safe.nextSwitch o).faultOut o }) 6 hmay rfl rfl rfl,
        ?_, ?_, (if_pos ho).trans (next_pos hgo), trips_by (x := { s with safe := s.safe.faultOut o }) 7 hmay rfl rfl rfl, ?_,
        (if_pos ho).trans (next_pos hgo)⟩
      · exact (trip_at (·.outFault.getLsbD (3 - o)) 6 hmay' fun _ _ _ _ _ _ _ _ _ _ _ _ _ => rfl).trans (faultOut_getLsbD _ ho)
      · exact trip_at (·.testSw) 6 hmay' fun _ _ _ _ _ _ _ _ _ _ _ _ _ => rfl
      · exact (trip_at (·.outFault.getLsbD (3 - o)) 7 hmay'' fun _ _ _ _ _ _ _ _ _ _ _ _ _ => rfl).trans (faultOut_getLsbD _ ho)
    · intro o ok ho hoff
      have hno : ¬(s.safeActive && s.safe.outOn o) = true := by
        rw [hoff, Bool.and_false]
        decide
      exact ⟨(if_pos ho).trans (next_neg hno), (if_pos ho).trans (next_neg hno)⟩
    · intro hb
      obtain ⟨hk, -, hbad⟩ := selfTest_settled s.safe false true
      refine ⟨_, (execSafetySelfTest_eq true true false ha).trans ((next_neg Bool.false_ne_true).trans (next_pos (by rw [hb]; rfl))),
        trips_by 11 hmay rfl rfl hk, ?_⟩
      exact (trip_at (·.setBad) 11 (mayTrip_of_key hk hmay) fun _ _ _ _ _ _ _ _ _ _ _ _ _ => rfl).trans hbad
    · intro ram prog hrp hi
      obtain ⟨hk, hint, -⟩ := selfTest_settled s.safe true false
      have hexec : exec (.safetySelfTest ram prog true) s = .next
          (State.trip { s with safe := Safe.settleArming { s.safe with internalFault := true, setBad := false } } 12) := by
        refine (execSafetySelfTest_eq ram prog true ha).trans ?_
        dsimp only
        rw [hrp]
        exact next_pos (by rw [hi]; rfl)
      refine ⟨_, hexec, trips_by 12 hmay rfl rfl hk, ?_⟩
      exact (trip_at (·.internalFault) 12 (mayTrip_of_key hk hmay) fun _ _ _ _ _ _ _ _ _ _ _ _ _ => rfl).trans hint
    · obtain ⟨hk, hint, hbad⟩ := selfTest_settled s.safe false false
      exact ⟨_, (execSafetySelfTest_eq true true true ha).trans ((next_neg Bool.false_ne_true).trans (next_neg Bool.false_ne_true)),
        hint, hbad, congrArg (·.1) hk⟩
    · intro hseq hpre hlate
      refine ⟨_, next_pos ?_, trips_by 9 hmay rfl rfl rfl⟩
      rw [ha, decide_eq_true hseq, hpre, decide_eq_true hlate]
      rfl
    · intro hpos hin
      refine ⟨_, next_pos (by rw [ha, hpos, hin]; rfl), trips_by (x := { s with safe.inrush := false }) 10 hmay rfl rfl rfl, ?_⟩
      exact trip_at (x := { s with safe.inrush := false }) (·.inrush) 10 hmay fun _ _ _ _ _ _ _ _ _ _ _ _ _ => rfl
    · intro hlow
      obtain ⟨hk, hsup, -⟩ := kLow_settled s.safe
      refine ⟨_, next_pos (by rw [ha, decide_eq_true hlow]; rfl), trips_by 8 hmay rfl rfl hk, ?_⟩
      exact (trip_at (·.kVsupOk) 8 (mayTrip_of_key hk hmay) fun _ _ _ _ _ _ _ _ _ _ _ _ _ => rfl).trans hsup
    · exact fun i c rest hc => ⟨_, next_pos ha, safetySample_trips i hmay hc⟩
    · intro t2 low new
      have hk := afterDrop_tripKey s.safe t2 low
      rw [execTestOutputDrop_eq t2 low ha]
      constructor
      · rintro ⟨k, hk7, hf⟩
        refine ⟨_, rfl, drop_trips _ _ hmay hk ?_⟩
        rw [newly_iff, newly_iff]
        exact hf.imp (fun h => ⟨k, hk7, h⟩) fun h => ⟨k, hk7, h⟩
      · intro hs hc
        have h4 : newly (·.stuck) s.safe (s.safe.afterDrop t2 low) = false := newly_false hs
        have h5 : newly (·.cross) s.safe (s.safe.afterDrop t2 low) = false := newly_false hc
        dsimp only
        rw [h4, h5]
        rfl
  · intro hst ha hlow
    obtain ⟨hk, -, hcause⟩ := kLow_settled s.safe
    have htripped : ({ s with safe := Safe.settleArming { s.safe with kVsupOk := false } } : State).safe.st = .tripped :=
      (congrArg (·.1) hk).trans hst
    have he : exec .kSupplyLow s = .next (State.trip { s with safe := Safe.settleArming { s.safe with kVsupOk := false } } 8) :=
      next_pos (by rw [ha, decide_eq_true hlow]; rfl)
    rw [trip_tripped _ 8 htripped] at he
    exact ⟨_, he, congrArg (·.2.1) hk, hcause, congrArg (fun k => k.2.2 + 1) hk, rfl⟩
  · intro x hx hlate
    have he : exec .tripContactorOff s = .next (State.followRequest { s with
        safe.kPos := false, safe.kNeg := false, safe.kPre := false, safe.tripT := none, safe.opened := some .other }) := by
      refine next_pos ?_
      rw [hx]
      exact decide_eq_true hlate
    refine ⟨_, he, followRequest_tripT _, fun hst => ?_⟩
    have hf := followRequest_tripped { s with
      safe.kPos := false, safe.kNeg := false, safe.kPre := false, safe.tripT := none, safe.opened := some .other } hst
    exact ⟨congrArg (·.safe.kPos) hf, congrArg (·.safe.kNeg) hf, congrArg (·.safe.kPre) hf⟩
  · intro h
    refine next_neg ?_
    cases hx : s.safe.tripT with
    | none => exact Bool.false_ne_true
    | some x =>
      rw [decide_eq_true_eq]
      exact Nat.not_le.mpr (h x hx)
  · intro h
    refine next_neg ?_
    rw [Bool.and_eq_true, decide_eq_true_eq]
    omega
  · intro h
    refine next_neg ?_
    rw [Bool.and_eq_true, Bool.and_eq_true]
    rintro ⟨⟨-, h1⟩, h2⟩
    rw [h1, h2] at h
    exact absurd h (by decide)
  · intro h
    refine next_neg ?_
    rw [Bool.and_eq_true, Bool.and_eq_true, decide_eq_true_eq]
    rintro ⟨⟨-, h1⟩, h2⟩
    rw [h1] at h
    exact h.elim (by decide) (Nat.not_lt.mpr h2)
  · exact fun h => execSafetyDiscrepancy_none (door := false) (Or.inr (Or.inr h))
  · intro h
    refine execSafetyDiscrepancy_none (door := true) (Or.inr ?_)
    exact h.imp (fun h => ⟨rfl, h⟩) id
  · intro h
    refine ⟨?_, ?_, ?_, fun d => execSafetyDiscrepancy_none (Or.inl h), fun r p x => ?_, fun t2 low => ?_, fun i => ?_⟩ <;>
    · refine next_neg ?_
      rw [h]
      exact Bool.false_ne_true

end Sys2Proof.Machine
end


section
/-!
PROOFS. The contactor sequences and the two-hand input (15_safety_block.md).
-/

-- One proof after the other: the threads of proofs that are elaborated at once take too much memory together.
set_option Elab.async false

namespace Sys2Proof.Machine

/-! ### A request that is followed -/

/-- A request that the sequence has already met changes nothing. -/
theorem followRequest_met {s : State} (h : (s.safe.seq = .closed ∧ s.safe.wantsClosed = true) ∨
    (s.safe.seq = .opened ∧ s.safe.wantsClosed = false)) : s.followRequest = s := by
  unfold State.followRequest
  split
  · rfl
  · rcases h with ⟨h1, h2⟩ | ⟨h1, h2⟩
    · rw [h1]
      exact if_pos h2
    · rw [h1]
      exact if_neg (by rw [h2]; exact Bool.false_ne_true)

/-- A close that is asked for begins with K_NEG. -/
theorem followRequest_closes {s : State} (ha : s.safe.st = .armed) (ht : s.safe.tripT = none) (hs : s.safe.seq = .opened)
    (hw : s.safe.wantsClosed = true) : s.followRequest.safe.kNeg = true ∧ s.followRequest.safe.seq = .closing := by
  unfold State.followRequest
  rw [if_neg (by rw [ha, ht]; decide), hs]
  dsimp only
  rw [if_pos hw]
  exact ⟨rfl, rfl⟩

/-- An open that is asked for takes K_PRE and K_POS off at once. -/
theorem beginOpen_safe (s : State) : s.beginOpen.safe.kPre = false ∧ s.beginOpen.safe.kPos = false ∧ s.beginOpen.safe.seq = .opening :=
  ⟨rfl, rfl, rfl⟩

/-! ### The two-hand input -/

/-- Both hands at once, after both were released, ask for closed contactors in SERVICE. -/
theorem twoHand_both {s : State} (h1 : s.safe.two1.closed = false) (h2 : s.safe.two2.closed = false) (hr : s.safe.twoReleased = true)
    (hm : s.grid.mode = .service) (ha : s.safe.st = .armed) : s.twoHand true true = { s with
      safe.two1.closed := true, safe.two2.closed := true, safe.twohandClose := true, safe.twoReleased := false, safe.twoFirst := none } := by
  unfold State.twoHand
  dsimp only
  rw [h1, h2, hr, hm, ha]
  rfl

/-- Both hands released end the request. -/
theorem twoHand_released {s : State} (h : s.safe.two1.closed = true ∨ s.safe.two2.closed = true) :
    (s.twoHand false false).safe.twohandClose = false ∧ (s.twoHand false false).safe.twoReleased = true := by
  unfold State.twoHand
  dsimp only
  have hmoved : (s.safe.two1.closed == false && s.safe.two2.closed == false) = false := by
    rcases h with h | h <;> rw [h]
    · rfl
    · rw [Bool.and_comm]
      rfl
  rw [hmoved, if_neg Bool.false_ne_true]
  exact ⟨rfl, rfl⟩

theorem followRequest_twoReleased (s : State) : s.followRequest.safe.twoReleased = s.safe.twoReleased := by
  unfold State.followRequest State.beginOpen
  split
  · rfl
  · split
    · split <;> rfl
    · split <;> rfl
    · split <;> rfl
    · rfl
    · rfl

/-- Settles O53: the events are their guards; what follows a request goes through the lemmas on `followRequest`, the hands through
`twoHand_both` and `twoHand_released`. -/
theorem contactorSequence : Obligations.ContactorSequence := by
  unfold Obligations.ContactorSequence
  intro s hact
  refine ⟨?_, ?_, ?_, ?_, ?_, ?_, ?_, ?_, ?_, ?_, ?_, ?_⟩
  · intro harm hlate
    have hgo : (s.safeActive && s.safe.armable && decide (4000 ≤ s.safe.armSamples)) = true := by
      rw [hact, harm, decide_eq_true hlate]
      rfl
    constructor
    · intro hauto hst
      refine ⟨_, (next_pos hgo).trans (next_pos ?_), ?_⟩
      · dsimp only
        rw [hauto, hst]
        rfl
      · rw [armSafety_safe]
        exact ⟨rfl, rfl, rfl, rfl, rfl⟩
    · intro hauto
      refine (next_pos hgo).trans (next_neg ?_)
      dsimp only
      rw [hauto]
      exact Bool.false_ne_true
  · intro h
    refine next_neg ?_
    rw [Bool.and_eq_true, Bool.and_eq_true, decide_eq_true_eq]
    rintro ⟨⟨-, h1⟩, h2⟩
    rw [h1] at h
    exact h.elim (by decide) (Nat.not_lt.mpr h2)
  · intro hseq hpre hlate
    exact next_pos (by rw [hact, decide_eq_true hseq, hpre, decide_eq_true hlate]; rfl)
  · intro h
    refine next_neg ?_
    rw [Bool.and_eq_true, Bool.and_eq_true, Bool.and_eq_true, decide_eq_true_eq, decide_eq_true_eq]
    rintro ⟨⟨⟨-, h1⟩, -⟩, h2⟩
    exact h.elim (fun h => h h1) (Nat.not_lt.mpr h2)
  · intro hseq hpre hrun
    exact next_pos (by rw [hact, decide_eq_true hseq, hpre, decide_eq_true hrun]; rfl)
  · intro h
    refine next_neg ?_
    rw [Bool.and_eq_true, Bool.and_eq_true, Bool.and_eq_true, decide_eq_true_eq, decide_eq_true_eq]
    rintro ⟨⟨⟨-, h1⟩, -⟩, h2⟩
    exact h.elim (fun h => h h1) (Nat.not_lt.mpr h2)
  · intro h
    refine next_neg ?_
    rw [Bool.and_eq_true, decide_eq_true_eq]
    exact fun hc => Nat.not_lt.mpr hc.2 h
  · intro hseq hlate
    have hgo : (s.safeActive && decide (s.safe.seq = .overlap) && decide (40 * s.safe.set.preOverlapMs ≤ s.safe.posT)) = true := by
      rw [hact, decide_eq_true hseq, decide_eq_true hlate]
      rfl
    obtain ⟨u, hu⟩ : ∃ u : State, u = { s with
      safe.kPre := false, safe.seq := .closed
      grid.deferredMode := s.grid.deferredMode.map fun (d : DeferredMode) =>
        if d.target == Mode.standby then { d with done := true } else d } := ⟨_, rfl⟩
    have hsafe : u.safe = { s.safe with kPre := false, seq := .closed } := congrArg (·.safe) hu
    have hexec : exec .kPreOff s = .next u.followRequest := by
      rw [hu]
      exact next_pos hgo
    have huseq : u.safe.seq = .closed := congrArg (·.seq) hsafe
    have huwant : u.safe.wantsClosed = s.safe.wantsClosed := by
      rw [hsafe]
      rfl
    rw [hexec]
    constructor
    · intro hw
      exact ⟨_, rfl, (congrArg (·.safe) (followRequest_met (Or.inl ⟨huseq, huwant.trans hw⟩))).trans hsafe⟩
    · intro hw ha ht
      refine ⟨_, rfl, ?_⟩
      rw [followRequest_opens ((congrArg (·.st) hsafe).trans ha) ((congrArg (·.tripT) hsafe).trans ht) huseq (huwant.trans hw)]
      exact beginOpen_safe u
  · intro h
    refine next_neg ?_
    rw [Bool.and_eq_true, decide_eq_true_eq]
    exact fun hc => Nat.not_lt.mpr hc.2 h
  · intro hseq hlate
    have hexec : exec .kNegOpen s = .next (State.followRequest { s with safe.kNeg := false, safe.seq := .opened }) :=
      next_pos (by rw [hact, decide_eq_true hseq, decide_eq_true hlate]; rfl)
    rw [hexec]
    constructor
    · intro hw
      exact congrArg Host.Outcome.next (followRequest_met (Or.inr ⟨rfl, hw⟩))
    · intro hw ha ht
      exact ⟨_, rfl, followRequest_closes ha ht rfl hw⟩
  · intro h1 h2 hr hm ha
    have hexec : exec (.twohandInput true true) s = .next (s.twoHand true true).followRequest := next_pos hact
    rw [hexec, twoHand_both h1 h2 hr hm ha]
    refine ⟨_, rfl, (followRequest_keeps _).2.2, fun ht hs => followRequest_closes ha ht hs ?_⟩
    exact Bool.or_true _
  · intro h
    have hexec : exec (.twohandInput false false) s = .next (s.twoHand false false).followRequest := next_pos hact
    obtain ⟨hc, hr⟩ := twoHand_released h
    rw [hexec]
    exact ⟨_, rfl, (followRequest_keeps _).2.2.trans hc, (followRequest_twoReleased _).trans hr⟩

end Sys2Proof.Machine
end


section
/-!
PROOFS. Loss and return of the supplies and a start from cold (16_power_states.md).
-/

-- One proof after the other: the threads of proofs that are elaborated at once take too much memory together.
set_option Elab.async false

namespace Sys2Proof.Machine

/-! ### Loss of aux -/

theorem ownMode_keeps (s : State) (m : Mode) : (s.ownMode m).power = s.power ∧ (s.ownMode m).conv = s.conv ∧
    (s.ownMode m).grid.mode = m :=
  ⟨same_of_but (p := .power) (State.ownMode_hide (butMask .power) rfl ..), same_of_but (p := .conv) (State.ownMode_hide (butMask .conv) rfl ..), by
    unfold State.ownMode
    split
    · rename_i h
      exact beq_iff_eq.mp h
    · rw [State.journal_keeps_grid]⟩

/-- AUX_OK falls: a return that runs goes to WATCH. -/
def State.auxOff (s : State) : State :=
  { s with power.auxOk := false, power.target := if s.power.phase = .returning then .watch else s.power.target }

/-- AUX_OK rises: a return that runs goes to RUN. -/
def State.auxOn (s : State) : State :=
  { s with
    power.auxOk := true, power.onBridge := false, power.bridgeRun := false, power.auxLoss := false
    power.target := if s.power.phase = .returning then .run else s.power.target }

/-- The return from which a state has a target of its own. -/
theorem returning_target (s : State) (t : PowerSt) : (if s.power.phase == .returning then { s with power.target := t } else s) =
    { s with power.target := if s.power.phase = .returning then t else s.power.target } := by
  by_cases h : s.power.phase = .returning <;> simp [h]

/-- A RUN without aux: the bridge runs, an entry to WATCH is planned, and string work ends. -/
def State.onBridgeRun (s : State) : State :=
  { s with
    power.onBridge := true, power.bridgeRun := true, power.auxLoss := true, power.recoverTo := some .watch
    power.bridgeAt := s.grid.frame }

/-- What a loss of aux does in the state that it finds. -/
def State.auxLost (s : State) : State :=
  match s.power.st with
  | .run => if s.power.off then s else
      (if s.grid.mode == .active then s.onBridgeRun.ownMode .standby else s.onBridgeRun).beginDrain 3 none
  | .watch => { s with power.onBridge := true }
  | _ => s

theorem execAuxOkClear_eq {s : State} (h : s.power.auxOk = true) : exec .auxOkClear s = .next s.auxOff.auxLost :=
  (next_neg (by rw [h]; decide)).trans
    (congrArg (fun u : State => Host.Outcome.next u.auxLost) (returning_target { s with power.auxOk := false } .watch))

/-- The mode that a loss of aux leaves, and what it leaves as it was. -/
theorem leaveActive (s : State) : let t := if s.grid.mode == .active then s.ownMode .standby else s
    t.power = s.power ∧ t.conv = s.conv ∧ t.grid.mode = (if s.grid.mode = .active then .standby else s.grid.mode) := by
  intro t
  unfold t
  by_cases h : s.grid.mode = .active
  · obtain ⟨hp, hc, hm⟩ := ownMode_keeps s .standby
    rw [if_pos (beq_iff_eq.mpr h), if_pos h]
    exact ⟨hp, hc, hm⟩
  · rw [if_neg (fun hb => h (beq_iff_eq.mp hb)), if_neg h]
    exact ⟨rfl, rfl, rfl⟩

theorem armed_auxOn (s : State) : s.auxOn.armed 8 = s.armed 8 := by
  unfold State.armed State.auxOn
  cases hp : s.power.phase <;> rfl

/-- What the return of aux does after a loss that was recorded. -/
def State.auxBack (s : State) (lost : Bool) : State :=
  if !lost then s
  else if s.power.recoverTo == some .watch then { s with power.recoverTo := none }
  else if s.armed 8 then s.wakeBy 8 0 else s

theorem execAuxOkSet_eq {s : State} (h : s.power.auxOk = false) (ha : s.power.aonPower = true) :
    exec .auxOkSet s = .next (s.auxOn.auxBack s.power.auxLoss) :=
  (next_neg (by rw [h, ha]; decide)).trans
    (congrArg (fun u : State => Host.Outcome.next (u.auxBack s.power.auxLoss)) (returning_target { s with
      power.auxOk := true, power.onBridge := false, power.bridgeRun := false, power.auxLoss := false } .run))

/-- What a wake in a settled WATCH leaves of the power record. -/
theorem wakeBy_watch_power {s : State} (src cell : Nat) (hph : s.power.phase = .settled) (hst : s.power.st = .watch) :
    (s.wakeBy src cell).power.auxOk = s.power.auxOk ∧ (s.wakeBy src cell).power.auxLoss = s.power.auxLoss ∧
    (s.wakeBy src cell).power.wake.source = src ∧ (s.wakeBy src cell).power.st = .watch := by
  have helapse : s.elapse.power.auxOk = s.power.auxOk ∧ s.elapse.power.auxLoss = s.power.auxLoss := by
    unfold State.elapse
    dsimp only
    split <;> exact ⟨rfl, rfl⟩
  have key (u : State) (hu : u.power.st = .watch) (ho : u.power.auxOk = s.power.auxOk) (hl : u.power.auxLoss = s.power.auxLoss) :
      let v := u.recordWake src cell u.power.st.code false false
      let w := if v.power.st == .watch || v.power.dwell then { v with power.wakePending := some src } else v.startReturn false
      w.power.auxOk = s.power.auxOk ∧ w.power.auxLoss = s.power.auxLoss ∧ w.power.wake.source = src ∧ w.power.st = .watch := by
    intro v w
    have hv : (v.power.st == .watch || v.power.dwell) = true := by
      have : v.power.st = .watch := hu
      rw [this]
      rfl
    unfold w
    rw [if_pos hv]
    exact ⟨ho, hl, rfl, hu⟩
  unfold State.wakeBy
  rw [hph]
  dsimp only
  split
  · exact key s hst rfl rfl
  · exact key s.elapse ((elapse_st s).trans hst) helapse.1 helapse.2

/-! ### A low stack -/

/-- The entry that a low stack begins. -/
theorem beginRecovery_aphelion (s : State) : (s.beginRecovery .aphelion).grid.mode = .service ∧
    (s.beginRecovery .aphelion).lanes.closeReq = false ∧ (s.beginRecovery .aphelion).power.phase = .handshake ∧
    (s.beginRecovery .aphelion).power.target = .aphelion ∧ (s.beginRecovery .aphelion).power.context = .recovery ∧
    (s.beginRecovery .aphelion).power.block = some 0 ∧ (s.beginRecovery .aphelion).power.asked = true := by
  have hmode (u : State) : (u.boundaryMode .service).grid.mode = .service := by
    unfold State.boundaryMode
    split
    · rename_i h
      exact beq_iff_eq.mp h
    · exact (ownMode_keeps u .service).2.2
  unfold State.beginRecovery
  dsimp only
  rw [State.journal_keeps_grid, State.journal_keeps_lanes, State.journal_keeps_power]
  exact ⟨hmode _, rfl, rfl, rfl, rfl, rfl, rfl⟩

theorem followRequest_mode (s : State) : s.followRequest.grid.mode = s.grid.mode := by
  unfold State.followRequest State.beginOpen
  split
  · rfl
  · split
    · split <;> rfl
    · split <;> rfl
    · split <;> rfl
    · rfl
    · rfl

theorem driveContactors_mode (s : State) (close : Bool) : (s.driveContactors close).grid.mode = s.grid.mode := by
  unfold State.driveContactors
  split
  · rfl
  · exact followRequest_mode _

theorem driveContactors_keeps (s : State) (close : Bool) : (s.driveContactors close).lanes = s.lanes ∧ (s.driveContactors close).power = s.power :=
  ⟨same_of_but (p := .lanes) (State.driveContactors_hide (butMask .lanes) rfl ..),
    same_of_but (p := .power) (State.driveContactors_hide (butMask .power) rfl ..)⟩

/-! ### Loss of all power -/

/-- Pans that are gated leave the converter, the safety block and the lanes. -/
theorem gatePans_keeps (s : State) (all : Bool) : (s.gatePans all).conv = s.conv ∧ (s.gatePans all).safe = s.safe ∧
    (s.gatePans all).lanes = s.lanes ∧ (s.gatePans all).lane = s.lane :=
  ⟨same_of_but (p := .conv) (State.gatePans_hide (butMask .conv) rfl s all), same_of_but (p := .safe) (State.gatePans_hide (butMask .safe) rfl s all),
    same_of_but (p := .lanes) (State.gatePans_hide (butMask .lanes) rfl s all),
    same_of_but (p := .lane) (State.gatePans_hide (butMask .lane) rfl s all)⟩

theorem convOff_lane (s : State) : s.convOff.lane = s.lane := same_of_but (p := .lane) (State.convOff_hide (butMask .lane) rfl s)

theorem convOff_conv (s : State) : s.convOff.conv.st = .off ∧ s.convOff.conv.gatesOn = false := ⟨rfl, rfl⟩

theorem portsDown_keeps (s : State) : s.portsDown.conv = s.conv ∧ s.portsDown.lane = s.lane := ⟨rfl, rfl⟩

theorem lanesDown_keeps (s : State) (keep : Bool) : (s.lanesDown keep).conv = s.conv ∧ (s.lanesDown keep).lanes.valid = false := ⟨rfl, rfl⟩

theorem safetyOff_facts (s : State) : s.safetyOff.conv = s.conv ∧ s.safetyOff.lanes = s.lanes ∧ s.safetyOff.lane = s.lane ∧
    s.safetyOff.safe.kPos = false ∧ s.safetyOff.safe.kNeg = false ∧ s.safetyOff.safe.kPre = false := ⟨rfl, rfl, rfl, rfl, rfl, rfl⟩

/-- Everything off: converter, ports, lanes, safety block and pans. -/
def State.unpowered (s : State) : State := ((s.convOff.portsDown.lanesDown false).safetyOff).gatePans true

/-- What a loss of all power leaves off. -/
theorem unpowered_facts (s : State) : s.unpowered.conv.st = .off ∧ s.unpowered.conv.gatesOn = false ∧ s.unpowered.safe.kPos = false ∧
    s.unpowered.safe.kNeg = false ∧ s.unpowered.safe.kPre = false ∧ s.unpowered.lanes.valid = false ∧
    (s.lane.length = 2 → ∀ l ∈ s.unpowered.lane, l.st = .off ∨ l.st = .retired) := by
  obtain ⟨hconv, hsafe, hlanes, hlane⟩ := gatePans_keeps (s.convOff.portsDown.lanesDown false).safetyOff true
  obtain ⟨hc, hls, hl, hpos, hneg, hpre⟩ := safetyOff_facts (s.convOff.portsDown.lanesDown false)
  obtain ⟨hc', hv⟩ := lanesDown_keeps s.convOff.portsDown false
  obtain ⟨hc'', hl'⟩ := portsDown_keeps s.convOff
  obtain ⟨hst, hg⟩ := convOff_conv s
  have hconv' : s.unpowered.conv = s.convOff.conv := hconv.trans (hc.trans (hc'.trans hc''))
  have hlane' : s.unpowered.lane = (s.convOff.portsDown.lanesDown false).lane := hlane.trans hl
  refine ⟨(congrArg (·.st) hconv').trans hst, (congrArg (·.gatesOn) hconv').trans hg, (congrArg (·.kPos) hsafe).trans hpos,
    (congrArg (·.kNeg) hsafe).trans hneg, (congrArg (·.kPre) hsafe).trans hpre,
    ((congrArg (·.valid) hlanes).trans (congrArg (·.valid) hls)).trans hv, fun h l hm => ?_⟩
  rw [hlane'] at hm
  exact lanesDown_off s.convOff.portsDown false ((congrArg List.length (hl'.trans (convOff_lane s))).trans h) l hm

/-- What a loss of power leaves of the supplies' record. -/
theorem execAonPowerLoss_eq {s : State} (h : s.power.auxOk = false) : ∃ p r, exec .aonPowerLoss s = .next { s.unpowered with
    power := p, ring := r
    lanes.protOnly := false, lanes.protReduced := false, lanes.fallback := false } ∧
    p.aonPower = false ∧ p.off = true ∧ p.st = .aphelion :=
  ⟨_, _, next_neg (by rw [h]; decide), rfl, rfl, rfl⟩

/-! ### A start from cold -/

/-- A start from cold keeps what `nonVolatile` keeps outside pans, cells and checkpoints. -/
theorem coldBase_keeps (s : State) (n : Nat) : (s.coldBase n).power = { s.nonVolatile.power with aonPower := true, off := true } ∧
    (s.coldBase n).ring = { s.nonVolatile.ring with straps := n } ∧ (s.coldBase n).tbl = s.nonVolatile.tbl ∧
    (s.coldBase n).ploza = s.nonVolatile.ploza ∧ (s.coldBase n).prot = s.nonVolatile.prot ∧ (s.coldBase n).conv = s.nonVolatile.conv ∧
    (s.coldBase n).lanes = s.nonVolatile.lanes :=
  ⟨same_of_but (p := .power) (State.initCells_hide (butMask .power) rfl ..), same_of_but (p := .ring) (State.initCells_hide (butMask .ring) rfl ..),
    same_of_but (p := .tbl) (State.initCells_hide (butMask .tbl) rfl ..), same_of_but (p := .ploza) (State.initCells_hide (butMask .ploza) rfl ..),
    same_of_but (p := .prot) (State.initCells_hide (butMask .prot) rfl ..), same_of_but (p := .conv) (State.initCells_hide (butMask .conv) rfl ..),
    same_of_but (p := .lanes) (State.initCells_hide (butMask .lanes) rfl ..)⟩

/-- What a start from cold takes from reset and from non-volatile memory. -/
theorem nonVolatile_facts (s : State) : s.nonVolatile.power.phase = .settled ∧
    s.nonVolatile.power.wake.counts = s.power.wake.counts ∧ s.nonVolatile.tbl.banks = s.tbl.banks ∧
    s.nonVolatile.ploza.images = s.ploza.images ∧ s.nonVolatile.prot.recs = s.prot.recs ∧ s.nonVolatile.conv.ring = s.conv.ring ∧
    s.nonVolatile.lanes.absRecs = s.lanes.absRecs ∧ s.nonVolatile.lanes.valid = false ∧ s.nonVolatile.conv.st = .off :=
  ⟨rfl, rfl, rfl, rfl, rfl, rfl, rfl, rfl, rfl⟩

theorem coldReturn_power (s : State) : s.coldReturn.power.phase = .returning ∧ s.coldReturn.power.stage = 1 ∧
    s.coldReturn.power.cold = true ∧ s.coldReturn.power.wake.source = 10 ∧
    s.coldReturn.power.wake.counts = s.power.wake.counts.modify 9 (bump 0xFFFF) := ⟨rfl, rfl, rfl, rfl, rfl⟩

theorem coldReturn_keeps (s : State) : s.coldReturn.ring = s.ring ∧ s.coldReturn.tbl = s.tbl ∧ s.coldReturn.ploza = s.ploza ∧
    s.coldReturn.prot = s.prot ∧ s.coldReturn.conv = s.conv ∧ s.coldReturn.lanes = s.lanes := ⟨rfl, rfl, rfl, rfl, rfl, rfl⟩

/-- A module that the bridge alone feeds. -/
def State.onBridgeAlone (s : State) : State := { s with power.st := .aphelion, power.target := .aphelion, power.dwell := false }

theorem onBridgeAlone_facts (s : State) : s.onBridgeAlone.power.st = .aphelion ∧ s.onBridgeAlone.power.phase = s.power.phase ∧
    s.onBridgeAlone.ring = s.ring ∧ s.onBridgeAlone.power.aonPower = s.power.aonPower := ⟨rfl, rfl, rfl, rfl⟩

theorem execColdStart_eq {s : State} {n : Nat} (b : Bool) (h : n < 8) : exec (.coldStart n b) s =
    .next (if b then (s.coldBase n).onBridgeAlone else (s.coldBase n).coldReturn) := if_pos h

/-! ### A block asked in DOZE -/

/-- The power record at a commit point. -/
theorem commitEntry_power (s : State) : s.commitEntry.power = { s.power with
    phase := .committed, block := none, asked := false, delayLeft := 0, entryStep := 0, commitAt := s.grid.frame } := by
  unfold State.commitEntry
  dsimp only
  rw [State.stopWatch_keeps_power, State.endSweep_keeps_power]
  split
  · rw [State.balDrain_keeps_power]
  · rfl

theorem handshakeStep_doze {s : State} {b : Nat} (hst : s.power.st = .doze) (hph : s.power.phase = .handshake)
    (hask : s.power.asked = true) (hb : s.power.block = some b) : s.handshakeStep = s.blockAccepts b := by
  have hanswer : s.blockAnswer b = .accept := by
    unfold State.blockAnswer
    exact if_pos (by rw [hst]; rfl)
  unfold State.handshakeStep
  rw [hph, hb]
  dsimp only
  rw [if_neg (by rw [hask]; decide), hanswer]

/-- Settles O54: a loss of aux goes through `execAuxOkClear_eq`, its return through `execAuxOkSet_eq`, a low stack through
`beginRecovery_aphelion`, a loss of all power through `allOff_facts`, a start from cold through `coldBase_keeps`. -/
theorem powerSupply : Obligations.PowerSupply := by
  unfold Obligations.PowerSupply
  intro s
  refine ⟨?_, ?_, ?_, ?_, ?_, ?_, rfl, ?_, ?_, ?_, ?_, ?_, ?_, ?_, ?_, ?_⟩
  · intro haux hst hoff
    have hexec : exec .auxOkClear s = .next
        ((if s.grid.mode == .active then s.auxOff.onBridgeRun.ownMode .standby else s.auxOff.onBridgeRun).beginDrain 3 none) := by
      refine (execAuxOkClear_eq haux).trans (congrArg Host.Outcome.next ?_)
      unfold State.auxLost
      rw [show s.auxOff.power.st = .run from hst]
      exact if_neg (fun h => absurd (hoff.symm.trans h) (by decide))
    obtain ⟨hp, hc, hm⟩ := leaveActive s.auxOff.onBridgeRun
    generalize hv : (if s.grid.mode == .active then s.auxOff.onBridgeRun.ownMode .standby else s.auxOff.onBridgeRun) = v at hexec
    have hp' : v.power = s.auxOff.onBridgeRun.power := hv ▸ hp
    have hc' : v.conv = s.conv := hv ▸ hc
    have hm' : v.grid.mode = (if s.grid.mode = .active then .standby else s.grid.mode) := hv ▸ hm
    refine ⟨_, hexec, ?_, ?_, fun h ht => beginDrain_drains v 3 none (hc' ▸ h) (hc' ▸ ht)⟩
    · rw [State.beginDrain_keeps_power, hp']
      rfl
    · rw [State.beginDrain_keeps_grid, hm']
  · intro haux hst
    refine (execAuxOkClear_eq haux).trans (congrArg Host.Outcome.next ?_)
    unfold State.auxLost
    rw [show s.auxOff.power.st = .watch from hst]
    rfl
  · intro haux hst
    refine (execAuxOkClear_eq haux).trans (congrArg Host.Outcome.next ?_)
    unfold State.auxLost
    rcases hst with h | h | ⟨h, ho⟩
    · rw [show s.auxOff.power.st = .doze from h]
      rfl
    · rw [show s.auxOff.power.st = .aphelion from h]
      rfl
    · rw [show s.auxOff.power.st = .run from h]
      exact if_pos ho
  · exact fun haux => next_pos (by rw [haux]; rfl)
  · intro h
    refine next_pos ?_
    rw [Bool.or_eq_true, Bool.not_eq_true']
    exact h
  · intro haux ha
    rw [execAuxOkSet_eq haux ha]
    unfold State.auxBack
    rw [armed_auxOn]
    refine ⟨fun h => ?_, fun hl hr => ?_, fun hl hr hst hph => ?_⟩
    · by_cases hl : s.power.auxLoss = true
      · obtain ⟨hr, h8⟩ := h.resolve_left (fun h => absurd (h.symm.trans hl) (by decide))
        refine (next_neg (by rw [hl]; decide)).trans ((next_neg ?_).trans (next_neg (by rw [h8]; decide)))
        rw [beq_iff_eq]
        exact hr
      · rw [Bool.not_eq_true] at hl
        exact next_pos (by rw [hl]; rfl)
    · exact (next_neg (by rw [hl]; decide)).trans (next_pos (beq_iff_eq.mpr hr))
    · have h8 : s.armed 8 = true := by
        unfold State.armed
        rw [hph, hst]
        rfl
      have hph' : s.auxOn.power.phase = .settled := hph
      obtain ⟨ho, hloss, hsrc, hst'⟩ := wakeBy_watch_power (s := s.auxOn) 8 0 hph' hst
      refine ⟨_, (next_neg (by rw [hl]; decide)).trans ((next_neg ?_).trans (next_pos h8)), ho, hloss,
        (wakeBy_watch (s := s.auxOn) 8 0 hph' hst).1, hsrc, hst'⟩
      rw [beq_iff_eq]
      exact hr
  · intro h
    refine next_pos ?_
    rw [Bool.or_eq_true, Bool.or_eq_true, Bool.and_eq_true, beq_iff_eq, beq_iff_eq, beq_iff_eq, or_assoc]
    exact h
  · intro haux hst hnot
    refine (next_neg ?_).trans (next_neg ?_)
    · rw [Bool.or_eq_true, Bool.or_eq_true, Bool.and_eq_true, beq_iff_eq, beq_iff_eq, beq_iff_eq, haux]
      rintro ((h | h) | h)
      · exact absurd h (by decide)
      · rw [h] at hst
        exact absurd hst (by decide)
      · exact hnot h
    · dsimp only
      rcases hst with h | h <;> rw [h] <;> exact Bool.false_ne_true
  · intro haux hst hph
    obtain ⟨hm, hl, h1, h2, h3, h4, h5⟩ := beginRecovery_aphelion { s with power.bridgeRun := false }
    obtain ⟨hlanes, hpower⟩ := driveContactors_keeps (State.beginRecovery { s with power.bridgeRun := false } .aphelion) false
    refine ⟨_, (next_neg ?_).trans (next_pos ?_), (driveContactors_mode ..).trans hm, driveContactors_closeReq .., ?_⟩
    · rw [haux, hst, hph, Bool.and_comm]
      exact Bool.false_ne_true
    · dsimp only
      rw [hst, hph]
      rfl
    · rw [hlanes, hpower]
      exact ⟨hl, h1, h2, h3, h4, h5⟩
  · intro haux
    obtain ⟨p, r, he, hon, hoff, hst⟩ := execAonPowerLoss_eq haux
    exact ⟨_, he, hon, hoff, hst, unpowered_facts s⟩
  · exact fun haux => next_pos haux
  · intro n hn
    obtain ⟨hp, hr, ht, hz, hprot, hc, hl⟩ := coldBase_keeps s n
    obtain ⟨nph, ncnt, nt, nz, nprot, nc, nl, nv, nst⟩ := nonVolatile_facts s
    have hstraps : (s.coldBase n).ring.straps = n := congrArg (·.straps) hr
    have hphase : (s.coldBase n).power.phase = .settled := by
      rw [hp]
      exact nph
    have hcounts : (s.coldBase n).power.wake.counts = s.power.wake.counts := by
      rw [hp]
      exact ncnt
    have hon : (s.coldBase n).power.aonPower = true := congrArg (·.aonPower) hp
    constructor
    · obtain ⟨b1, b2, b3, b4⟩ := onBridgeAlone_facts (s.coldBase n)
      exact ⟨_, (execColdStart_eq true hn).trans (next_pos rfl), b1, b2.trans hphase, (congrArg (·.straps) b3).trans hstraps, b4.trans hon⟩
    · obtain ⟨r1, r2, r3, r4, r5⟩ := coldReturn_power (s.coldBase n)
      obtain ⟨k1, k2, k3, k4, k5, k6⟩ := coldReturn_keeps (s.coldBase n)
      rw [hcounts] at r5
      exact ⟨_, (execColdStart_eq false hn).trans (next_neg Bool.false_ne_true), r1, r2, r3, r4, (congrArg (·.straps) k1).trans hstraps,
        (congrArg (·.banks) (k2.trans ht)).trans nt, (congrArg (·.images) (k3.trans hz)).trans nz,
        (congrArg (·.recs) (k4.trans hprot)).trans nprot, (congrArg (·.ring) (k5.trans hc)).trans nc,
        (congrArg (·.absRecs) (k6.trans hl)).trans nl, r5, (congrArg (·.valid) (k6.trans hl)).trans nv,
        (congrArg (·.st) (k5.trans hc)).trans nst⟩
  · exact fun n b h => if_neg (Nat.not_lt.mpr h)
  · intro hst hph hask b hb
    have hexec : exec .dozeBlockAsk s = .next (s.blockAccepts b) :=
      (next_pos (by rw [hst]; rfl)).trans (congrArg Host.Outcome.next (handshakeStep_doze hst hph hask hb))
    rw [hexec]
    constructor
    · exact fun h => next_neg (Nat.not_le.mpr h)
    · intro h
      refine ⟨_, next_pos h, ?_⟩
      rw [commitEntry_power]
      exact ⟨rfl, rfl, rfl⟩
  · intro h
    refine next_neg ?_
    rw [beq_iff_eq]
    exact h

end Sys2Proof.Machine
end


section
/-!
PROOFS. Entries into a power state (16_power_states.md).
-/

-- One proof after the other: the threads of proofs that are elaborated at once take too much memory together.
set_option Elab.async false

namespace Sys2Proof.Machine

/-! ### A handshake that times out -/

/-- A request with an origin reports where it ended. -/
theorem endRequest_outs {s : State} {q : PowerReq} {r : DeferRef} (hq : s.power.req = some q) (hr : q.ref = some r) (final reason : Nat)
    (block : Option Nat) : s.endRequest s.power.req final reason block = { s with power.outs := s.power.outs ++
      [{ ref := r, final := final, reason := reason, reached := s.power.st, block := block }] } := by
  unfold State.endRequest
  rw [hq]
  dsimp only [Option.bind_some]
  rw [hr]

theorem execHandshakeTimeout_eq {s : State} {b : Nat} (hph : s.power.phase = .handshake) (hb : s.power.block = some b) :
    exec .handshakeTimeout s = .next (if 10000 ≤ s.power.delayTotals.getD b 0 then s.blockRefuses b 4 else s) := by
  change execHandshakeTimeout s = _
  unfold execHandshakeTimeout
  rw [hph, hb]

/-! ### Entry steps -/

theorem entryAction_power (s : State) (k : Nat) : (s.entryAction k).power = s.power :=
  same_of_but (p := .power) (State.entryAction_hide (butMask .power) rfl s k)

/-- A step of an entry before its last one. -/
theorem doStep_eq {s : State} {k : Nat} (hk : nextStepOf s.power.target s.power.entryStep = some k) (h6 : k ≠ 6) :
    s.doStep = { s.entryAction k with power.entryStep := k } := by
  unfold State.doStep
  rw [hk]
  exact if_neg h6

theorem doStep_power {s : State} {k : Nat} (hk : nextStepOf s.power.target s.power.entryStep = some k) (h6 : k ≠ 6) :
    s.doStep.power = { s.power with entryStep := k } := by
  rw [doStep_eq hk h6]
  exact congrArg (fun p : Power => { p with entryStep := k }) (entryAction_power s k)

/-- Beside the step number, a step before the last one leaves what its action left. -/
theorem doStep_keeps {s : State} {k : Nat} (hk : nextStepOf s.power.target s.power.entryStep = some k) (h6 : k ≠ 6) :
    s.doStep.pan = (s.entryAction k).pan ∧ s.doStep.conv = (s.entryAction k).conv ∧ s.doStep.lanes = (s.entryAction k).lanes ∧
    s.doStep.lane = (s.entryAction k).lane ∧ s.doStep.ploza = (s.entryAction k).ploza ∧ s.doStep.sec = (s.entryAction k).sec ∧
    s.doStep.spi = (s.entryAction k).spi ∧ s.doStep.can = (s.entryAction k).can := by
  rw [doStep_eq hk h6]
  exact ⟨rfl, rfl, rfl, rfl, rfl, rfl, rfl, rfl⟩

/-- The last step of an entry settles the state. -/
theorem doStep_last {s : State} (hk : nextStepOf s.power.target s.power.entryStep = some 6) :
    s.doStep = State.settleEntry { s.entryAction 6 with power.entryStep := 6 } := by
  unfold State.doStep
  rw [hk]
  exact if_pos rfl

theorem execEntryStepComplete_eq {s : State} {k : Nat} (hph : s.power.phase = .committed)
    (hk : nextStepOf s.power.target s.power.entryStep = some k) :
    exec .entryStepComplete s = .next (if s.stepDone k then s.doStep else s) := by
  refine (next_neg (by rw [hph]; decide)).trans ?_
  rw [hk]

/-! ### Step 3: pans and converter -/

/-- The pans that are gated: all of them below WATCH, those of spares and of slots 34 to 37 in WATCH. -/
def State.gatedPan (all : Bool) (p : Pan) : Pan :=
  if p.st == PanState.retired || p.st == PanState.halted then p
  else if all || 40 ≤ p.role || (34 ≤ p.role && p.role ≤ 37) then
    { p with st := .gated, shadowOf := none, loadFor := none, inArb := false, queue := [] }
  else p

/-- Pans are gated in place where no slot moves. -/
theorem gatePans_pan {s : State} (all : Bool) (hm : ∀ x ∈ s.slot, x.moveTo = none) : (s.gatePans all).pan = s.pan.map (State.gatedPan all) := by
  have hslot (k : Nat) : (s.slotAt k).moveTo = none := by
    unfold State.slotAt
    rw [List.getD_eq_getElem?_getD]
    cases hk : s.slot[k]? with
    | none => rfl
    | some x => exact hm x (List.mem_of_getElem? hk)
  have hmoving : ((List.range 40).filter fun k =>
      !(all || decide (40 ≤ k) || (decide (34 ≤ k) && decide (k ≤ 37))) && (s.slotAt k).moveTo.isSome) = [] := by
    rw [List.filter_eq_nil_iff]
    intro k _
    rw [hslot, Option.isSome_none, Bool.and_false]
    exact Bool.false_ne_true
  unfold State.gatePans
  dsimp only
  rw [hmoving]
  rfl

theorem gatePans_panAt {s : State} {p : Nat} (all : Bool) (hm : ∀ x ∈ s.slot, x.moveTo = none) (hp : p < s.pan.length) :
    (s.gatePans all).panAt p = State.gatedPan all (s.panAt p) := by
  unfold State.panAt
  rw [gatePans_pan all hm]
  exact getD_map_of_lt _ hp _ _

theorem gatedPan_gated {all : Bool} {p : Pan} (hr : p.st ≠ .retired) (hh : p.st ≠ .halted)
    (h : all = true ∨ 40 ≤ p.role ∨ (34 ≤ p.role ∧ p.role ≤ 37)) : (State.gatedPan all p).st = .gated := by
  unfold State.gatedPan
  rw [if_neg, if_pos]
  · rw [Bool.or_eq_true, Bool.or_eq_true, Bool.and_eq_true, decide_eq_true_eq, decide_eq_true_eq, decide_eq_true_eq, or_assoc]
    exact h
  · rw [Bool.or_eq_true, beq_iff_eq, beq_iff_eq]
    exact fun hc => hc.elim hr hh

theorem gatedPan_keeps {p : Pan} (h : p.role < 34 ∨ (37 < p.role ∧ p.role < 40)) : State.gatedPan false p = p := by
  unfold State.gatedPan
  split
  · rfl
  · refine if_neg ?_
    rw [Bool.or_eq_true, Bool.or_eq_true, Bool.and_eq_true, decide_eq_true_eq, decide_eq_true_eq, decide_eq_true_eq]
    rintro ((hc | hc) | hc)
    · exact absurd hc (by decide)
    · omega
    · omega

theorem convOff_pan (s : State) : s.convOff.pan = s.pan := same_of_but (p := .pan) (State.convOff_hide (butMask .pan) rfl s)

theorem gatesOff_pan (s : State) : s.gatesOff.pan = s.pan := same_of_but (p := .pan) (State.gatesOff_hide (butMask .pan) rfl s)

/-- The converter of step 3. -/
def State.convDown (s : State) (deep : Bool) : State :=
  if s.conv.st == .off then s else if deep then s.convOff else { s.gatesOff with conv.toOff := true }

theorem entryAction_three (s : State) : s.entryAction 3 =
    (s.gatePans (s.power.target != PowerSt.watch)).convDown (s.power.target != PowerSt.watch) := rfl

theorem convDown_pan (s : State) (deep : Bool) : (s.convDown deep).pan = s.pan := by
  unfold State.convDown
  split
  · rfl
  · split
    · exact convOff_pan s
    · exact gatesOff_pan s

theorem convDown_deep (s : State) : (s.convDown true).conv.st = .off := by
  unfold State.convDown
  split
  · rename_i h
    exact beq_iff_eq.mp h
  · exact (convOff_conv s).1

theorem entryAction_three_panAt {s : State} {p : Nat} (hm : ∀ x ∈ s.slot, x.moveTo = none) (hp : p < s.pan.length) :
    (s.entryAction 3).panAt p = State.gatedPan (s.power.target != PowerSt.watch) (s.panAt p) := by
  rw [entryAction_three, State.panAt_congr (convDown_pan ..), gatePans_panAt _ hm hp]

/-! ### Steps 4 to 6 -/

theorem deep_target {s : State} (h : s.power.target ≠ .watch) : (s.power.target != PowerSt.watch) = true := bne_iff_ne.mpr h

theorem entryAction_four {s : State} (h : s.power.target ≠ .watch) : s.entryAction 4 = s.portsDown := if_pos (deep_target h)

theorem entryAction_five {s : State} (h : s.power.target ≠ .watch) : s.entryAction 5 = s.lanesDown (s.power.target == .doze) :=
  if_pos (deep_target h)

/-- What the ports hold once they are off. -/
theorem portsDown_empty (s : State) : s.portsDown.ploza.staged = [] ∧ s.portsDown.ploza.streams = [none, none, none, none] ∧
    s.portsDown.sec.ephemeral = false ∧ s.portsDown.spi = {} ∧ ∀ c ∈ s.portsDown.can, c = {} := by
  refine ⟨rfl, rfl, rfl, rfl, fun c hc => ?_⟩
  obtain ⟨_, _, h⟩ := List.mem_map.mp hc
  exact h.symm

/-- The links of step 6. -/
def State.linksDown (s : State) : State :=
  { s with
    fe := s.fe.map fun (f : Fe) => { f with linkUp := false, relinking := false, attempt := false, swNow := 0, owNow := none }
    cfe.linkUp := false, cfe.relinking := false, ring.cwUp := false, ring.ccwUp := false }

/-- The front ends and the safety block of APHELION. -/
def State.aphelionDown (s : State) : State :=
  { s.safetyOff with
    fe := s.fe.map fun (f : Fe) => { f with linkUp := false, relinking := false, swNow := 0, owNow := none, thr := {} } }

theorem entryAction_six {s : State} (h : s.power.target ≠ .watch) : s.entryAction 6 =
    if s.power.target == PowerSt.aphelion then s.linksDown.aphelionDown else s.linksDown :=
  if_neg (by rw [deep_target h]; decide)

theorem entryAction_six_facts {s : State} (h : s.power.target ≠ .watch) : (∀ f ∈ (s.entryAction 6).fe, f.linkUp = false) ∧
    (s.entryAction 6).cfe.linkUp = false ∧ (s.power.target = .aphelion → (s.entryAction 6).safe.safeOk = false ∧
      (s.entryAction 6).safe.kPos = false ∧ (s.entryAction 6).safe.kNeg = false ∧ (s.entryAction 6).safe.kPre = false) := by
  rw [entryAction_six h]
  split
  · refine ⟨fun f hf => ?_, rfl, fun _ => ⟨rfl, rfl, rfl, rfl⟩⟩
    obtain ⟨_, _, e⟩ := List.mem_map.mp hf
    rw [← e]
  · rename_i hn
    refine ⟨fun f hf => ?_, rfl, fun ha => absurd (beq_iff_eq.mpr ha) hn⟩
    obtain ⟨_, _, e⟩ := List.mem_map.mp hf
    rw [← e]

/-! ### Entries that are forced -/

/-- An entry with nothing that waits behind it. -/
structure State.EntryRuns (s : State) (t : PowerSt) : Prop where
  phase : s.power.phase = .committed
  target : s.power.target = t
  queued : s.power.queued = none
  wakeLatched : s.power.wakeLatched = none
  wakePending : s.power.wakePending = none
  recoverTo : s.power.recoverTo = none

/-- An entry that has settled. -/
structure State.SettledIn (s : State) (t : PowerSt) : Prop where
  st : s.power.st = t
  phase : s.power.phase = .settled
  req : s.power.req = none

theorem EntryRuns.step {s u : State} {t : PowerSt} {k : Nat} (h : s.EntryRuns t) (hu : u.power = { s.power with entryStep := k }) :
    u.EntryRuns t := by
  constructor <;> rw [hu]
  · exact h.phase
  · exact h.target
  · exact h.queued
  · exact h.wakeLatched
  · exact h.wakePending
  · exact h.recoverTo

theorem EntryRuns.settles {s : State} {t : PowerSt} (h : s.EntryRuns t) : s.settleEntry.SettledIn t := by
  obtain ⟨o, q, he⟩ := settleEntry_eq s h.queued h.wakeLatched h.recoverTo (Or.inl h.wakePending)
  rw [he]
  exact ⟨h.target, rfl, rfl⟩

/-- The steps that are left, taken one after the other. -/
def State.forceSteps (s : State) (l : List Nat) : State :=
  l.foldl (fun s _ => if s.power.phase == .committed then s.doStep else s) s

theorem forceSteps_settled {s : State} (l : List Nat) (h : s.power.phase = .settled) : s.forceSteps l = s := by
  unfold State.forceSteps
  induction l with
  | nil => rfl
  | cons a l ih =>
    rw [List.foldl_cons, if_neg (by rw [h]; decide)]
    exact ih

theorem forceSteps_cons {s : State} {t : PowerSt} (a : Nat) (l : List Nat) (h : s.EntryRuns t) : s.forceSteps (a :: l) = s.doStep.forceSteps l := by
  unfold State.forceSteps
  rw [List.foldl_cons, if_pos (by rw [h.phase]; rfl)]

/-- A forced entry below WATCH reaches its last step. -/
theorem forceSteps_deep {t : PowerSt} (ht : t ≠ .watch) (l : List Nat) {s : State} (h : s.EntryRuns t) (h5 : s.power.entryStep ≤ 5)
    (hl : 6 ≤ s.power.entryStep + l.length) : (s.forceSteps l).SettledIn t := by
  induction l generalizing s with
  | nil => exact absurd hl (by simp; omega)
  | cons a l ih =>
    have hnext : nextStepOf s.power.target s.power.entryStep = some (s.power.entryStep + 1) := by
      unfold nextStepOf
      rw [h.target, if_neg (by rw [beq_iff_eq]; exact ht), if_pos (by omega)]
    rw [forceSteps_cons a l h]
    rw [List.length_cons] at hl
    by_cases h6 : s.power.entryStep + 1 = 6
    · rw [h6] at hnext
      have hs : s.doStep.SettledIn t := by
        rw [doStep_last hnext]
        exact EntryRuns.settles (EntryRuns.step h (u := { s.entryAction 6 with power.entryStep := 6 })
          (congrArg (fun p : Power => { p with entryStep := 6 }) (entryAction_power s 6)))
      rw [forceSteps_settled l hs.phase]
      exact hs
    · have hp := doStep_power hnext h6
      have hstep : s.doStep.power.entryStep = s.power.entryStep + 1 := congrArg (·.entryStep) hp
      exact ih (EntryRuns.step h hp) (by omega) (by omega)

/-- In WATCH the steps end before the last one. -/
theorem forceSteps_watch (l : List Nat) {s : State} (h : s.EntryRuns .watch) : (s.forceSteps l).EntryRuns .watch := by
  induction l generalizing s with
  | nil => exact h
  | cons a l ih =>
    rw [forceSteps_cons a l h]
    cases hn : nextStepOf s.power.target s.power.entryStep with
    | none =>
      have : s.doStep = s := by
        unfold State.doStep
        rw [hn]
      rw [this]
      exact ih h
    | some k =>
      have h6 : k ≠ 6 := by
        rw [h.target] at hn
        unfold nextStepOf at hn
        rw [if_pos (by decide)] at hn
        split at hn
        · cases hn; decide
        · split at hn
          · cases hn; omega
          · cases hn
      exact ih (EntryRuns.step h (doStep_power hn h6))

/-- What a forced entry begins with: it is noted, and balancing and sweeps end below WATCH. -/
def State.forcedBase (s : State) : State :=
  let s := s.absorb 16 2 0xFF 0 []
  if s.power.target == PowerSt.watch then s
  else { s with
    bal.st := .off, bal.latched := none
    eis := { s.eis with st := .off, kind := .none, latched := none, sweep := none, excSweep := none, g := 0 } }

theorem forcedBase_power (s : State) : s.forcedBase.power = s.power := by
  unfold State.forcedBase
  dsimp only
  split <;> exact State.absorb_keeps_power ..

theorem execEntryForced_eq {s : State} (hph : s.power.phase = .committed)
    (hl : s.clockOn = true → s.entryLimit ≤ (s.grid.frame - s.power.commitAt).toNat) : exec .entryForced s = .next (
      let t := s.forcedBase.forceSteps (List.range 6)
      if t.power.phase == .committed && t.power.target == PowerSt.watch then t.settleEntry else t) := by
  have hgo : ¬(s.power.phase != .committed || (s.clockOn && decide ((s.grid.frame - s.power.commitAt).toNat < s.entryLimit))) = true := by
    rw [Bool.or_eq_true, bne_iff_ne, Bool.and_eq_true, decide_eq_true_eq]
    rintro (h | ⟨h1, h2⟩)
    · exact h hph
    · exact Nat.not_lt.mpr (hl h1) h2
  change execEntryForced s = _
  unfold execEntryForced State.forceSteps State.forcedBase
  rw [if_neg hgo]

/-! ### The obligation -/

/-- The last step below WATCH: the state settles with its links down. -/
theorem lastStep_facts {s : State} (hk : nextStepOf s.power.target s.power.entryStep = some 6) (hq : s.power.queued = none)
    (hw : s.power.wakeLatched = none) (hr : s.power.recoverTo = none) (ht : s.power.target ≠ .watch) :
    s.doStep.power.st = s.power.target ∧ s.doStep.power.phase = .settled ∧ s.doStep.power.req = none ∧ s.doStep.power.dwell = true ∧
    (∀ f ∈ s.doStep.fe, f.linkUp = false) ∧ s.doStep.cfe.linkUp = false ∧
    (s.power.target = .aphelion → s.doStep.safe.safeOk = false ∧ s.doStep.safe.kPos = false ∧ s.doStep.safe.kNeg = false ∧
      s.doStep.safe.kPre = false) := by
  have hp := entryAction_power s 6
  obtain ⟨hfe, hcfe, hsafe⟩ := entryAction_six_facts ht
  obtain ⟨o, q, he⟩ := settleEntry_eq { s.entryAction 6 with power.entryStep := 6 } ((congrArg (·.queued) hp).trans hq)
    ((congrArg (·.wakeLatched) hp).trans hw) ((congrArg (·.recoverTo) hp).trans hr)
    (Or.inr fun h => ht ((congrArg (·.target) hp).symm.trans h))
  have htarget : (s.entryAction 6).power.target = s.power.target := congrArg (·.target) hp
  rw [doStep_last hk, he]
  refine ⟨htarget, rfl, rfl, ?_, hfe, hcfe, hsafe⟩
  exact (congrArg (fun t : PowerSt => t != PowerSt.watch) htarget).trans (deep_target ht)

/-- Settles O55: a handshake goes through `blockRefuses` and `commitEntry_power`, an entry step through `doStep_eq` and the lemmas on
`entryAction`, the last step through `lastStep_facts`, and a forced entry through `forceSteps_deep` and `forceSteps_watch`. -/
theorem powerEntries : Obligations.PowerEntries := by
  unfold Obligations.PowerEntries
  intro s
  refine ⟨?_, ?_, ?_, ?_, ?_, ?_⟩
  · intro hph b hb
    rw [execHandshakeTimeout_eq hph hb]
    refine ⟨fun hlate hctx q r hq hr => ?_, fun hlate hctx => ?_, fun h => next_neg (Nat.not_le.mpr h)⟩
    · have he : s.blockRefuses b 4 = State.endHandshake { s with power.outs := s.power.outs ++
          [{ ref := r, final := 0x20, reason := 4, reached := s.power.st, block := some b }] } := by
        unfold State.blockRefuses
        rw [if_pos (by rw [hctx]; rfl), endRequest_outs hq hr]
      refine ⟨_, next_pos hlate, ?_⟩
      rw [he]
      exact ⟨rfl, rfl, rfl, rfl, rfl, rfl⟩
    · obtain ⟨u, hu⟩ : ∃ u : State, u = s.absorb 16 1 0xFF 0 (toLe 1 b ++ toLe 1 4) := ⟨_, rfl⟩
      have hup : u.power = s.power := by
        rw [hu]
        exact State.absorb_keeps_power ..
      have he : s.blockRefuses b 4 = u.blockAccepts b := by
        unfold State.blockRefuses
        rw [if_neg (by rw [beq_iff_eq]; exact hctx), hu]
      refine ⟨_, next_pos hlate, fun h5 => ?_, fun h5 => ?_⟩
      · rw [he]
        unfold State.blockAccepts
        rw [if_neg (Nat.not_le.mpr h5)]
        exact ⟨(congrArg (·.phase) hup).trans hph, rfl, rfl, rfl⟩
      · rw [he]
        unfold State.blockAccepts
        rw [if_pos h5, commitEntry_power]
        exact ⟨rfl, rfl⟩
  · intro hph
    change execHandshakeTimeout s = _
    unfold execHandshakeTimeout
    cases hp : s.power.phase with
    | handshake => exact absurd hp hph
    | settled => rfl
    | committed => rfl
    | returning => rfl
  · intro hph
    have hne : (s.power.phase != .committed) = true := bne_iff_ne.mpr hph
    exact ⟨next_pos hne, next_pos (by rw [hne]; rfl)⟩
  · intro hph k hk
    rw [execEntryStepComplete_eq hph hk]
    refine ⟨fun hd => next_neg (by rw [hd]; decide), fun hd h6 => ?_, fun h6 hq hw hr ht => ?_⟩
    · have hpow := doStep_power hk h6
      obtain ⟨hpan, hconv, hlanes, hlane, hploza, hsec, hspi, hcan⟩ := doStep_keeps hk h6
      refine ⟨_, next_pos hd, congrArg (·.entryStep) hpow, (congrArg (·.phase) hpow).trans hph, ?_, ?_, ?_, ?_⟩
      · intro h3 hm p hp hr hh
        subst h3
        have hat : s.doStep.panAt p = State.gatedPan (s.power.target != PowerSt.watch) (s.panAt p) :=
          (State.panAt_congr hpan p).trans (entryAction_three_panAt hm hp)
        rw [hat]
        constructor
        · exact fun h => gatedPan_gated hr hh (h.imp_left fun ht => deep_target ht)
        · intro ht h
          rw [ht]
          exact gatedPan_keeps h
      · intro h3 ht
        subst h3
        rw [hconv, entryAction_three, deep_target ht]
        exact convDown_deep _
      · intro h4 ht
        subst h4
        rw [hploza, hsec, hspi, hcan, entryAction_four ht]
        exact portsDown_empty s
      · intro h5 ht
        subst h5
        rw [hlanes, hlane, entryAction_five ht]
        exact ⟨(lanesDown_keeps ..).2, fun hl => lanesDown_off s _ hl⟩
    · subst h6
      exact ⟨_, next_pos rfl, lastStep_facts hk hq hw hr ht⟩
  · intro hc hl
    refine next_pos ?_
    rw [hc, decide_eq_true hl]
    exact Bool.or_true _
  · intro hph hl h5 hq hwl hwp hr
    have hbase := forcedBase_power s
    have hruns : s.forcedBase.EntryRuns s.power.target := by
      constructor <;> rw [hbase]
      · exact hph
      · exact hq
      · exact hwl
      · exact hwp
      · exact hr
    have hset : ∃ t : State, exec .entryForced s = .next t ∧ t.SettledIn s.power.target := by
      rw [execEntryForced_eq hph hl]
      by_cases ht : s.power.target = .watch
      · rw [ht] at hruns ⊢
        have h := forceSteps_watch (List.range 6) hruns
        exact ⟨_, next_pos (by rw [h.phase, h.target]; rfl), EntryRuns.settles h⟩
      · have h := forceSteps_deep ht (List.range 6) hruns (by rw [hbase]; exact h5) (by rw [List.length_range]; omega)
        exact ⟨_, next_neg (by rw [h.phase]; exact Bool.false_ne_true), h⟩
    obtain ⟨t, he, h⟩ := hset
    exact ⟨t, he, h.st, h.phase, h.req⟩

end Sys2Proof.Machine
end


section
/-!
PROOFS. Wakes and the return from a power state (16_power_states.md).
-/

-- One proof after the other: the threads of proofs that are elaborated at once take too much memory together.
set_option Elab.async false

namespace Sys2Proof.Machine

/-! ### Wakes -/

/-- The time that passed in a state without clocks costs the bridge charge and nothing else of the power record. -/
theorem elapse_power (s : State) : ∃ u, s.elapse.power = { s.power with bridgeUc := u } := by
  unfold State.elapse
  dsimp only
  split
  · exact ⟨_, rfl⟩
  · exact ⟨_, rfl⟩

/-- A wake that is recorded. -/
structure State.WakeBegan (s t : State) (src : Nat) : Prop where
  source : t.power.wake.source = src
  counts : t.power.wake.counts = s.power.wake.counts.modify (src - 1) (bump 0xFFFF)

/-- A wake in a settled state, after the time that passed without clocks. -/
def State.wakeSettled (s : State) (src cell : Nat) : State :=
  let s := s.recordWake src cell s.power.st.code false false
  if s.power.st == .watch || s.power.dwell then { s with power.wakePending := some src } else s.startReturn false

theorem wakeBy_settled {s : State} (src cell : Nat) (h : s.power.phase = .settled) :
    s.wakeBy src cell = (if s.clockOn then s else s.elapse).wakeSettled src cell := by
  unfold State.wakeBy State.wakeSettled
  rw [h]

/-- A wake that waits for the boundary, or for the end of the dwell. -/
theorem wakeSettled_waits {s : State} (src cell : Nat) (h : s.power.st = .watch ∨ s.power.dwell = true) :
    s.wakeSettled src cell = { s.recordWake src cell s.power.st.code false false with power.wakePending := some src } := by
  unfold State.wakeSettled
  refine if_pos ?_
  rw [Bool.or_eq_true, beq_iff_eq]
  exact h

/-- A wake that begins the return. -/
theorem wakeSettled_returns {s : State} (src cell : Nat) (hst : s.power.st ≠ .watch) (hd : s.power.dwell = false) :
    s.wakeSettled src cell = (s.recordWake src cell s.power.st.code false false).startReturn false := by
  unfold State.wakeSettled
  refine if_neg ?_
  rw [Bool.or_eq_true, beq_iff_eq]
  exact fun h => h.elim hst fun h => absurd (h.symm.trans hd) (by decide)

theorem wakeSettled_began (s : State) (src cell : Nat) : s.WakeBegan (s.wakeSettled src cell) src := by
  unfold State.wakeSettled
  dsimp only
  split
  · exact ⟨rfl, rfl⟩
  · obtain ⟨-, -, -, -, -, hs, hc, -⟩ := startReturn_power (s.recordWake src cell s.power.st.code false false) false
    exact ⟨hs, hc⟩

theorem endRequest_power (s : State) (q : Option PowerReq) (f r : Nat) (b : Option Nat) :
    ∃ o, (s.endRequest q f r b).power = { s.power with outs := o } := by
  obtain ⟨o, h⟩ := endRequest_eq s q f r b
  exact ⟨o, congrArg (·.power) h⟩

/-- A wake in a handshake: it ends a NORMAL one, and waits in the others. -/
theorem wakeBy_handshake {s : State} (src cell : Nat) (h : s.power.phase = .handshake) : s.wakeBy src cell =
    (let t := s.recordWake src cell s.power.st.code false false
      if s.power.context == .normal then (t.endRequest s.power.req 0x20 5 none).endHandshake
      else { t with power.wakePending := some src }) := by
  unfold State.wakeBy
  rw [h]
  rfl

theorem wakeBy_committed {s : State} (src cell : Nat) (h : s.power.phase = .committed) : s.wakeBy src cell =
    if s.power.context == .normal then
      { s.recordWake src cell s.power.target.code true true with power.wakeLatched := some src }
    else { s.recordWake src cell s.power.target.code false false with power.wakePending := some src } := by
  unfold State.wakeBy
  rw [h]

theorem wakeBy_returning {s : State} (src cell : Nat) (h : s.power.phase = .returning) :
    ∃ w, s.wakeBy src cell = { s with power.wake := w } ∧ w.source = src ∧ w.counts = s.power.wake.counts.modify (src - 1) (bump 0xFFFF) := by
  unfold State.wakeBy
  rw [h]
  exact ⟨_, rfl, rfl, rfl⟩

theorem wakeBy_began (s : State) (src cell : Nat) : s.WakeBegan (s.wakeBy src cell) src := by
  cases hp : s.power.phase with
  | settled =>
    have hu : (if s.clockOn then s else s.elapse).power.wake = s.power.wake := by
      split
      · rfl
      · obtain ⟨u, h⟩ := elapse_power s
        exact congrArg (·.wake) h
    have h := wakeSettled_began (if s.clockOn then s else s.elapse) src cell
    rw [wakeBy_settled src cell hp]
    exact ⟨h.source, h.counts.trans (congrArg (fun w : WakeRec => w.counts.modify (src - 1) (bump 0xFFFF)) hu)⟩
  | handshake =>
    obtain ⟨o, ho⟩ := endRequest_power (s.recordWake src cell s.power.st.code false false) s.power.req 0x20 5 none
    rw [wakeBy_handshake src cell hp]
    dsimp only
    split
    · exact ⟨congrArg (·.wake.source) ho, congrArg (·.wake.counts) ho⟩
    · exact ⟨rfl, rfl⟩
  | committed =>
    rw [wakeBy_committed src cell hp]
    split <;> exact ⟨rfl, rfl⟩
  | returning =>
    obtain ⟨w, he, hs, hc⟩ := wakeBy_returning src cell hp
    rw [he]
    exact ⟨hs, hc⟩

/-! ### Stages of a return -/

theorem lanesUp_lane (s : State) (sealsOk : Bool) : ∀ l ∈ (s.lanesUp sealsOk).lane, l.st = .standby ∨ l.st = .retired ∨ l.st = .rebooting := by
  have hrestore (u : State) : ((List.range 96).foldl (fun s i => s.restoreCell (i + 1)) u).lane = u.lane :=
    foldl_keeps _ (·.lane) (fun v i => same_of_but (p := .lane) (State.restoreCell_hide (butMask .lane) rfl ..)) _ u
  unfold State.lanesUp
  dsimp only
  split
  · rw [hrestore]
    exact bootLanes_up _ _
  · split
    · rw [hrestore]
      exact bootLanes_up _ _
    · rw [State.initCells_keeps_lane]
      exact bootLanes_up _ _

theorem execReturnStageReady_eq {s : State} (b : Bool) (hph : s.power.phase = .returning) (hw : s.power.retryWait = false) :
    exec (.returnStageReady b) s = .next (match s.power.stage with
      | 0 => s
      | 5 => (s.lanesUp b).toStage 6
      | 6 => s.portsUp.toStage 7
      | 7 => s.pansUp.toStage 8
      | 8 => s.settleReturn
      | k => s.toStage (k + 1)) := by
  refine next_neg ?_
  rw [hph, hw]
  decide

/-- The stages before the core are simple. -/
theorem ready_early {s : State} (b : Bool) (hph : s.power.phase = .returning) (hw : s.power.retryWait = false) (h1 : 1 ≤ s.power.stage)
    (h4 : s.power.stage ≤ 4) : exec (.returnStageReady b) s = .next (s.toStage (s.power.stage + 1)) := by
  rw [execReturnStageReady_eq b hph hw]
  obtain h | h | h | h : s.power.stage = 1 ∨ s.power.stage = 2 ∨ s.power.stage = 3 ∨ s.power.stage = 4 := by omega
  all_goals rw [h] <;> rfl

/-- Lanes, ports and pans come up, and the next stage follows. -/
theorem ready_late {s : State} (b : Bool) (hph : s.power.phase = .returning) (hw : s.power.retryWait = false) (h5 : 5 ≤ s.power.stage)
    (h7 : s.power.stage ≤ 7) : ∃ u : State, exec (.returnStageReady b) s = .next (u.toStage (s.power.stage + 1)) ∧ u.power = s.power ∧
      (s.power.stage = 5 → u = s.lanesUp b) := by
  rw [execReturnStageReady_eq b hph hw]
  obtain h | h | h : s.power.stage = 5 ∨ s.power.stage = 6 ∨ s.power.stage = 7 := by omega
  all_goals rw [h]
  · exact ⟨_, rfl, State.lanesUp_keeps_power .., fun _ => rfl⟩
  · exact ⟨_, rfl, State.portsUp_keeps_power .., fun h => absurd h (by decide)⟩
  · exact ⟨_, rfl, State.pansUp_keeps_power .., fun h => absurd h (by decide)⟩

/-! ### The end of a return -/

/-- A return that has settled. -/
structure Power.Settled (p q : Power) : Prop where
  phase : q.phase = .settled
  stage : q.stage = 0
  st : q.st = if p.auxOk then .run else .watch
  auxLoss : q.auxLoss = !p.auxOk
  wakeStage : q.wake.stage = p.wake.stage
  queued : q.queued = p.queued
  wakeLatched : q.wakeLatched = p.wakeLatched
  wakePending : q.wakePending = p.wakePending

/-- The clock of a module whose return ends. -/
def State.returnClock (s : State) : State :=
  if s.power.cold then { s with grid.frame := 0, grid.plantNs := 0, power.returnStart := 0 }
  else if s.clockOn then s else s.elapse

/-- The state that a return ends in. -/
def State.returnEnds (s : State) (left : PowerSt) : State :=
  { s with
    power.st := if s.power.auxOk then .run else .watch
    power.onBridge := !s.power.auxOk
    power.auxLoss := !s.power.auxOk, power.phase := .settled, power.stage := 0, power.off := false
    power.wake.returnUs := satTo 0xFFFFFFFF ((s.grid.plantNs - s.power.returnStart).toNat / 1000)
    power.framesSinceStart := if s.power.cold || left == PowerSt.aphelion then 0 else s.power.framesSinceStart
    lanes.lastBoundary := if left == PowerSt.watch then s.lanes.lastBoundary else s.grid.frame
    lanes.gap := s.lanes.gap && (left == PowerSt.watch || !s.lanes.takeoverDone)
    lanes.takeoverDone := s.lanes.takeoverDone && left == PowerSt.watch }

/-- What follows a return: estimates over the gap, thresholds after DOZE, and the role of a module with a degraded clock. -/
def State.afterReturn (s : State) (left : PowerSt) : State :=
  let s := if left == PowerSt.doze || left == PowerSt.aphelion then s.afterGap else s
  let s := if left == PowerSt.doze then s.threshJob else s
  if s.power.clockDegraded && decide (1 < s.pn P.ringModules) then { s with ring.isPrimary := false } else s

/-- The request that a return ends. -/
def State.answerReturn (s : State) : State :=
  let q := s.power.req
  let s := { s with power.req := none, power.cold := false, power.laneBoot := false, power.target := s.power.st
                    power.dwellStart := s.grid.plantNs }
  (s.endRequest q 0 0 none).resolveQueue

theorem settleReturn_eq (s : State) :
    s.settleReturn = ((s.returnClock.returnEnds s.power.fromSt).afterReturn s.power.fromSt).answerReturn := rfl

theorem afterReturn_power (s : State) (left : PowerSt) : (s.afterReturn left).power = s.power := by
  have hgap : (if left == PowerSt.doze || left == PowerSt.aphelion then s.afterGap else s).power = s.power := by
    split
    · exact State.afterGap_keeps_power s
    · rfl
  unfold State.afterReturn
  dsimp only
  generalize (if left == PowerSt.doze || left == PowerSt.aphelion then s.afterGap else s) = u at hgap
  have hthr : (if left == PowerSt.doze then u.threshJob else u).power = s.power := by
    split
    · exact (same_of_but (p := .power) (State.threshJob_hide (butMask .power) rfl u)).trans hgap
    · exact hgap
  generalize (if left == PowerSt.doze then u.threshJob else u) = v at hthr
  split
  · exact hthr
  · exact hthr

theorem returnClock_power (s : State) : ∃ u r, s.returnClock.power = { s.power with bridgeUc := u, returnStart := r } := by
  unfold State.returnClock
  split
  · exact ⟨_, _, rfl⟩
  · split
    · exact ⟨_, _, rfl⟩
    · obtain ⟨u, h⟩ := elapse_power s
      exact ⟨u, _, h⟩

theorem returnEnds_settled (s : State) (left : PowerSt) : s.power.Settled (s.returnEnds left).power :=
  ⟨rfl, rfl, rfl, rfl, rfl, rfl, rfl, rfl⟩

theorem clocked_settled {p q : Power} {u : Int} {r : BitVec 64} (h : ({ p with bridgeUc := u, returnStart := r } : Power).Settled q) :
    p.Settled q :=
  ⟨h.phase, h.stage, h.st, h.auxLoss, h.wakeStage, h.queued, h.wakeLatched, h.wakePending⟩

/-- A return that ends, before its request is answered. -/
theorem returned_settled (s : State) :
    s.power.Settled ((s.returnClock.returnEnds s.power.fromSt).afterReturn s.power.fromSt).power := by
  obtain ⟨u, r, h⟩ := returnClock_power s
  rw [afterReturn_power]
  have hs := returnEnds_settled s.returnClock s.power.fromSt
  rw [h] at hs
  exact clocked_settled hs

/-- A return with no request behind it stays where it ended, unless a wake begins the next. -/
theorem answerReturn_power {s : State} (hq : s.power.queued = none) : ∃ u : State, ∃ o, u.power = { s.power with
      req := none, cold := false, laneBoot := false, target := s.power.st, dwellStart := s.grid.plantNs, outs := o, queued := none } ∧
    (s.answerReturn = u ∨ ∃ b, s.answerReturn = u.startReturn b) ∧
    (s.power.wakeLatched = none → s.power.wakePending = none → s.answerReturn = u) := by
  obtain ⟨v, hv⟩ : ∃ v : State, v = State.endRequest { s with
      power.req := none, power.cold := false, power.laneBoot := false, power.target := s.power.st
      power.dwellStart := s.grid.plantNs } s.power.req 0 0 none := ⟨_, rfl⟩
  obtain ⟨o, ho⟩ := endRequest_power { s with
      power.req := none, power.cold := false, power.laneBoot := false, power.target := s.power.st
      power.dwellStart := s.grid.plantNs } s.power.req 0 0 none
  have hvp : v.power = { s.power with
      req := none, cold := false, laneBoot := false, target := s.power.st, dwellStart := s.grid.plantNs, outs := o } := hv ▸ ho
  have he : s.answerReturn = v.resolveQueue := by
    rw [hv]
    rfl
  have hvq : v.power.queued = none := (congrArg (·.queued) hvp).trans hq
  have hvw : v.power.wakeLatched = s.power.wakeLatched := congrArg (·.wakeLatched) hvp
  have hvn : v.power.wakePending = s.power.wakePending := congrArg (·.wakePending) hvp
  refine ⟨{ v with power.queued := none }, o, congrArg (fun p : Power => { p with queued := none }) hvp, ?_, fun hw hn => ?_⟩
  · rw [he]
    unfold State.resolveQueue
    dsimp only
    rw [hvq]
    split
    · rename_i h
      cases h
    · exact Or.inr ⟨_, rfl⟩
    · rename_i h
      cases h
    · split
      · exact Or.inr ⟨_, rfl⟩
      · exact Or.inl rfl
  · rw [he]
    unfold State.resolveQueue
    dsimp only
    rw [hvq, hvw, hw, hvn, hn]
    rfl

/-- The end of a return with nothing behind it. -/
theorem settleReturn_power {s : State} (hq : s.power.queued = none) (hw : s.power.wakeLatched = none) (hn : s.power.wakePending = none) :
    s.settleReturn.power.phase = .settled ∧ s.settleReturn.power.stage = 0 ∧
    s.settleReturn.power.st = (if s.power.auxOk then .run else .watch) ∧ s.settleReturn.power.auxLoss = !s.power.auxOk ∧
    s.settleReturn.power.req = none ∧ s.settleReturn.power.cold = false := by
  have h := returned_settled s
  obtain ⟨u, o, hu, -, hstay⟩ := answerReturn_power (h.queued.trans hq)
  rw [settleReturn_eq, hstay (h.wakeLatched.trans hw) (h.wakePending.trans hn), hu]
  exact ⟨h.phase, h.stage, h.st, h.auxLoss, rfl, rfl⟩

/-- The stage that a wake record names stays at the end of a return. -/
theorem settleReturn_wakeStage {s : State} (hq : s.power.queued = none) : s.settleReturn.power.wake.stage = s.power.wake.stage := by
  have h := returned_settled s
  obtain ⟨u, o, hu, hor, -⟩ := answerReturn_power (h.queued.trans hq)
  have hstage : u.power.wake.stage = s.power.wake.stage := (congrArg (·.wake.stage) hu).trans h.wakeStage
  rw [settleReturn_eq]
  rcases hor with he | ⟨b, he⟩
  · rw [he]
    exact hstage
  · rw [he]
    obtain ⟨-, -, -, -, -, -, -, hk⟩ := startReturn_power u b
    exact hk.trans hstage

/-! ### Stages that time out -/

/-- The record of a stage that times out. -/
def State.stageLate (s : State) : State := { s with power.wake.stage := s.power.stage, power.stageTries := s.power.stageTries + 1 }

/-- What a late stage does, by its number and its tries. -/
def State.lateStage (s : State) (k n : Nat) : State :=
  match k with
  | 2 => if 4 ≤ n then s.coreFails else { s with power.retryWait := true }
  | 3 => { s with power.clockDegraded := true, power.wake.fromSrc := setBit s.power.wake.fromSrc 5 true }.toStage 4
  | 4 => if 2 ≤ n then s.coreFails else s
  | 5 => if s.power.fromSt == .doze && !s.power.laneBoot then { s with power.laneBoot := true, power.stageTries := 0 }
      else s.coreFails
  | 6 => s.portsRelink.toStage 7
  | 7 => if 2 ≤ n then (s.freeze 1).loseUnloaded.toStage 8 else s
  | 8 => s.settleReturn.absorb 16 3 0xFF 0 (toLe 1 8)
  | _ => s

theorem execReturnStageTimeout_none {s : State} (h : s.power.phase ≠ .returning ∨ s.power.stage = 0 ∨ s.power.retryWait = true ∨
    (s.clockOn = true ∧ (s.grid.frame - s.power.stageAt).toNat < 100 * (s.power.stageTries + 1))) :
    exec .returnStageTimeout s = .next s := by
  refine next_pos ?_
  rw [Bool.or_eq_true, Bool.or_eq_true, Bool.or_eq_true, bne_iff_ne, Bool.and_eq_true, decide_eq_true_eq, decide_eq_true_eq, or_assoc, or_assoc]
  exact h

theorem execReturnStageTimeout_eq {s : State} (hph : s.power.phase = .returning) (hw : s.power.retryWait = false) (h0 : s.power.stage ≠ 0)
    (hl : s.clockOn = true → 100 * (s.power.stageTries + 1) ≤ (s.grid.frame - s.power.stageAt).toNat) :
    exec .returnStageTimeout s = .next (s.stageLate.lateStage s.power.stage (s.power.stageTries + 1)) := by
  have hgo : ¬(s.power.phase != .returning || s.power.stage = 0 || s.power.retryWait ||
      (s.clockOn && decide ((s.grid.frame - s.power.stageAt).toNat < 100 * (s.power.stageTries + 1)))) = true := by
    rw [Bool.or_eq_true, Bool.or_eq_true, Bool.or_eq_true, bne_iff_ne, Bool.and_eq_true, decide_eq_true_eq, decide_eq_true_eq]
    rintro (((h | h) | h) | ⟨h1, h2⟩)
    · exact h hph
    · exact h0 h
    · exact absurd (h.symm.trans hw) (by decide)
    · exact Nat.not_lt.mpr (hl h1) h2
  change execReturnStageTimeout s = _
  unfold execReturnStageTimeout State.lateStage State.stageLate
  rw [if_neg hgo] <;> rfl

theorem lateStage_core (s : State) (n : Nat) : s.lateStage 2 n = if 4 ≤ n then s.coreFails else { s with power.retryWait := true } := rfl

theorem lateStage_clock (s : State) (n : Nat) : s.lateStage 3 n =
    { s with power.clockDegraded := true, power.wake.fromSrc := setBit s.power.wake.fromSrc 5 true }.toStage 4 := rfl

theorem lateStage_pll (s : State) (n : Nat) : s.lateStage 4 n = if 2 ≤ n then s.coreFails else s := rfl

theorem lateStage_lanes (s : State) (n : Nat) : s.lateStage 5 n = if s.power.fromSt == .doze && !s.power.laneBoot then
    { s with power.laneBoot := true, power.stageTries := 0 } else s.coreFails := rfl

theorem lateStage_ports (s : State) (n : Nat) : s.lateStage 6 n = s.portsRelink.toStage 7 := rfl

theorem lateStage_pans (s : State) (n : Nat) : s.lateStage 7 n = if 2 ≤ n then (s.freeze 1).loseUnloaded.toStage 8 else s := rfl

theorem lateStage_settles (s : State) (n : Nat) : s.lateStage 8 n = s.settleReturn.absorb 16 3 0xFF 0 (toLe 1 8) := rfl

/-- What the last failure of the core leaves: the protection-only state, with the token free. -/
structure State.CoreFailed (s t : State) : Prop where
  coreFail : t.power.coreFail = true
  stage : t.power.stage = 0
  protOnly : t.lanes.protOnly = true
  protReduced : t.lanes.protReduced = true
  valid : t.lanes.valid = false
  wakeStage : t.power.wake.stage = s.power.wake.stage

/-- The lanes of a core that fails. -/
def State.coreDown (s : State) : State :=
  { s with power.coreFail := true, power.stage := 0, power.stageTries := 0, power.retryWait := false
           power.wake.fromSrc := setBit s.power.wake.fromSrc 6 true
           lane := s.lane.map fun (l : Lane) => if l.st == LaneSt.retired then l else { l with st := .off } }

theorem coreFails_eq (s : State) : s.coreFails = if s.coreDown.lanes.protOnly then
    { s.coreDown.releaseToken with lanes.protReduced := true } else s.coreDown.enterProtOnly 3 true := rfl

theorem enterProtOnly_enters (s : State) (cause : Nat) (reduced : Bool) : ∃ u : State,
    s.enterProtOnly cause reduced = (u.setCause 22 0).protNotice ∧ u.lanes.protOnly = true ∧ u.lanes.protReduced = reduced ∧
    u.lanes.valid = false :=
  ⟨_, rfl, rfl, rfl, rfl⟩

theorem enterProtOnly_lanes (s : State) (cause : Nat) (reduced : Bool) : (s.enterProtOnly cause reduced).lanes.protOnly = true ∧
    (s.enterProtOnly cause reduced).lanes.protReduced = reduced ∧ (s.enterProtOnly cause reduced).lanes.valid = false ∧
    (s.enterProtOnly cause reduced).power = s.power := by
  obtain ⟨u, hu, h1, h2, h3⟩ := enterProtOnly_enters s cause reduced
  have hl : (s.enterProtOnly cause reduced).lanes = u.lanes := by
    rw [hu, protNotice_lanes, State.setCause_keeps_lanes]
  rw [hl]
  exact ⟨h1, h2, h3, same_of_but (p := .power) (State.enterProtOnly_hide (butMask .power) rfl s cause reduced)⟩

theorem coreFails_failed (s : State) : s.CoreFailed s.coreFails := by
  rw [coreFails_eq]
  split
  · rename_i h
    exact ⟨rfl, rfl, h, rfl, rfl, rfl⟩
  · obtain ⟨h1, h2, h3, h4⟩ := enterProtOnly_lanes s.coreDown 3 true
    exact ⟨congrArg (·.coreFail) h4, congrArg (·.stage) h4, h1, h2, h3, congrArg (·.wake.stage) h4⟩

/-! ### Ports that are not up in time -/

/-- An active front end whose port is down. -/
def State.PortDown (s : State) (i : Nat) : Prop := s.fe.length = 6 ∧ s.feActive i = true ∧ (s.feAt i).linkUp = false

/-- A port that is asked to relink. -/
def State.relinkDown (s : State) (i : Nat) : State :=
  if s.feActive (i + 1) && !(s.feAt (i + 1)).linkUp then s.startRelink (i + 1) else s

theorem startRelink_length (s : State) (k : Nat) : (s.startRelink k).fe.length = s.fe.length := List.length_modify ..

theorem startRelink_active (s : State) (k i : Nat) : (s.startRelink k).feActive i = s.feActive i := rfl

/-- One port of the loop: the others stay as they are. -/
theorem relinkDown_keeps {s : State} {i k : Nat} (hi : 1 ≤ i) (h6 : i ≤ 6) (h : s.PortDown i) : (s.relinkDown k).PortDown i ∧
    ((s.feAt i).relinking = true ∨ k = i - 1 → ((s.relinkDown k).feAt i).relinking = true) := by
  obtain ⟨hl, ha, hd⟩ := h
  unfold State.relinkDown
  by_cases hk : k = i - 1
  · have hk' : k + 1 = i := by omega
    rw [hk', ha, hd, if_pos (by decide)]
    have hat := startRelink_feAt (s := s) (fe := i) (by omega)
    exact ⟨⟨(startRelink_length ..).trans hl, ha, congrArg (·.linkUp) hat⟩, fun _ => congrArg (·.relinking) hat⟩
  · split
    · have hat : (s.startRelink (k + 1)).feAt i = s.feAt i := feAt_modFe_ne s _ (by omega)
      refine ⟨⟨(startRelink_length ..).trans hl, ha, (congrArg (·.linkUp) hat).trans hd⟩, fun hr => ?_⟩
      exact (congrArg (·.relinking) hat).trans (hr.resolve_right hk)
    · exact ⟨⟨hl, ha, hd⟩, fun hr => hr.resolve_right hk⟩

theorem relinkDown_loop {i : Nat} (hi : 1 ≤ i) (h6 : i ≤ 6) (l : List Nat) {s : State} (h : s.PortDown i)
    (hm : (s.feAt i).relinking = true ∨ i - 1 ∈ l) : ((l.foldl State.relinkDown s).feAt i).relinking = true := by
  induction l generalizing s with
  | nil => exact hm.resolve_right List.not_mem_nil
  | cons k l ih =>
    obtain ⟨hd, hr⟩ := relinkDown_keeps (k := k) hi h6 h
    refine ih hd ?_
    rw [List.mem_cons] at hm
    rcases hm with hm | hm | hm
    · exact Or.inl (hr (Or.inl hm))
    · exact Or.inl (hr (Or.inr hm.symm))
    · exact Or.inr hm

/-- The CFE port of the loop's end. -/
def State.relinkCfe (s : State) : State :=
  if s.hasCfe && !s.cfe.linkUp then { s with cfe.relinking := true, cfe.attempt := true, cfe.relinkTries := 0 } else s

theorem relinkCfe_fe (s : State) : s.relinkCfe.fe = s.fe := by
  unfold State.relinkCfe
  split <;> rfl

theorem portsRelink_eq (s : State) : s.portsRelink = ((List.range 6).foldl State.relinkDown s).relinkCfe := by
  unfold State.portsRelink State.relinkCfe State.relinkDown
  rfl

theorem portsRelink_relinks {s : State} {i : Nat} (hi : 1 ≤ i) (h6 : i ≤ 6) (h : s.PortDown i) : (s.portsRelink.feAt i).relinking = true := by
  rw [portsRelink_eq, State.feAt_congr (relinkCfe_fe _)]
  exact relinkDown_loop hi h6 (List.range 6) h (Or.inr (by rw [List.mem_range]; omega))

/-! ### The obligation -/

theorem toStage_wakeStage {s u : State} (k : Nat) (h : u.power = s.power) : (u.toStage k).power.wake.stage = s.power.wake.stage :=
  congrArg (·.wake.stage) h

/-- The power record behind a frozen pan array. -/
theorem loseGated_power (s : State) : (s.freeze 1).loseUnloaded.power = s.power :=
  (State.loseUnloaded_keeps_power _).trans (State.freeze_keeps_power s 1)

theorem lateStage_wakeStage {s : State} (k n : Nat) (hq : s.power.queued = none) :
    (s.lateStage k n).power.wake.stage = s.power.wake.stage := by
  unfold State.lateStage
  split
  · split
    · exact (coreFails_failed s).wakeStage
    · rfl
  · rfl
  · split
    · exact (coreFails_failed s).wakeStage
    · rfl
  · split
    · rfl
    · exact (coreFails_failed s).wakeStage
  · exact toStage_wakeStage 7 (State.portsRelink_keeps_power s)
  · split
    · exact toStage_wakeStage 8 (loseGated_power s)
    · rfl
  · rw [State.absorb_keeps_power]
    exact settleReturn_wakeStage hq
  · rfl

/-- The stages whose last failure is that of the core. -/
theorem lateStage_fails {s : State} {k n : Nat} (h : k = 2 ∧ 4 ≤ n ∨ k = 4 ∧ 2 ≤ n ∨
    k = 5 ∧ (s.power.fromSt ≠ .doze ∨ s.power.laneBoot = true)) : s.CoreFailed (s.lateStage k n) := by
  have hc := coreFails_failed s
  rcases h with ⟨rfl, h⟩ | ⟨rfl, h⟩ | ⟨rfl, h⟩
  · rw [lateStage_core, if_pos h]
    exact hc
  · rw [lateStage_pll, if_pos h]
    exact hc
  · rw [lateStage_lanes, if_neg]
    · exact hc
    · rw [Bool.and_eq_true, beq_iff_eq, Bool.not_eq_true']
      rintro ⟨h1, h2⟩
      exact h.elim (fun h => h h1) fun h => absurd (h.symm.trans h2) (by decide)

theorem toStage_facts (s : State) (k : Nat) : (s.toStage k).power.stage = k ∧ (s.toStage k).sluice = s.sluice ∧ (s.toStage k).fe = s.fe :=
  ⟨rfl, rfl, rfl⟩

/-- The ports that did not come up in time are left to their retries. -/
theorem portsLate (s : State) : (s.portsRelink.toStage 7).power.stage = 7 ∧ ∀ i, 1 ≤ i → i ≤ 6 → s.PortDown i →
    ((s.portsRelink.toStage 7).feAt i).relinking = true := by
  obtain ⟨hst, -, hfe⟩ := toStage_facts s.portsRelink 7
  refine ⟨hst, fun i h1 h6 h => ?_⟩
  rw [State.feAt_congr hfe]
  exact portsRelink_relinks h1 h6 h

/-- The pans that did not come up in time are lost, with the assignment frozen. -/
theorem loseGated_frozen (s : State) : ((s.freeze 1).loseUnloaded.toStage 8).power.stage = 8 ∧
    ((s.freeze 1).loseUnloaded.toStage 8).sluice.frozen = true := by
  obtain ⟨hst, hsl, -⟩ := toStage_facts (s.freeze 1).loseUnloaded 8
  rw [hsl, State.loseUnloaded_keeps_sluice]
  exact ⟨hst, (freeze_sluice s 1).1⟩

theorem execReturnStageReady_none {s : State} (b : Bool) (h : s.power.phase ≠ .returning ∨ s.power.retryWait = true ∨ s.power.stage = 0) :
    exec (.returnStageReady b) s = .next s := by
  by_cases hgo : s.power.phase = .returning ∧ s.power.retryWait = false
  · obtain ⟨hp, hw⟩ := hgo
    have h0 : s.power.stage = 0 := (h.resolve_left fun h => h hp).resolve_left fun h => absurd (h.symm.trans hw) (by decide)
    rw [execReturnStageReady_eq b hp hw, h0] <;> rfl
  · refine next_pos ?_
    rw [Bool.or_eq_true, bne_iff_ne]
    by_cases hp : s.power.phase = .returning
    · refine Or.inr ?_
      rw [← Bool.not_eq_false]
      exact fun hw => hgo ⟨hp, hw⟩
    · exact Or.inl hp

theorem portDown_late {s : State} {i : Nat} (h : s.PortDown i) : s.stageLate.PortDown i := h

/-- Settles O56: a wake goes through the lemmas on `wakeBy`, a stage that is ready through `ready_early` and `ready_late`, one that is
late through `lateStage`, and the end of a return through `settleReturn_power`. -/
theorem wakeAndReturn : Obligations.WakeAndReturn := by
  unfold Obligations.WakeAndReturn
  intro s
  have hok {src cell : Nat} (h1 : 1 ≤ src) (h8 : src ≤ 8) (hc : cell ≤ 96) : 1 ≤ src ∧ src ≤ 8 ∧ cell ≤ 96 := ⟨h1, h8, hc⟩
  have hseen {src : Nat} {bus : List Int} (h8 : src ≠ 8) (hon : s.power.aonPower = true) (hb : src = 1 → s.busWakes bus = true)
      (hw : src = 4 → s.within100ms s.power.wakeFrom = false) : ¬(!s.power.aonPower || src == 8 || (src == 1 && !s.busWakes bus) ||
        (src == 4 && s.within100ms s.power.wakeFrom)) = true := by
    rw [Bool.or_eq_true, Bool.or_eq_true, Bool.or_eq_true, Bool.and_eq_true, Bool.and_eq_true, beq_iff_eq, beq_iff_eq, beq_iff_eq,
      Bool.not_eq_true', Bool.not_eq_true']
    rintro (((h | h) | ⟨h1, h2⟩) | ⟨h1, h2⟩)
    · exact absurd (h.symm.trans hon) (by decide)
    · exact h8 h
    · exact absurd (h2.symm.trans (hb h1)) (by decide)
    · exact absurd (h2.symm.trans (hw h1)) (by decide)
  have hunseen {src cell : Nat} {bus : List Int} (h1 : 1 ≤ src) (h8 : src ≤ 8) (hc : cell ≤ 96)
      (h : s.power.aonPower = false ∨ src = 8 ∨ (src = 1 ∧ s.busWakes bus = false) ∨
        (src = 4 ∧ s.within100ms s.power.wakeFrom = true)) : exec (.wakeConfirmed src ⟨cell, bus⟩) s = .next s := by
    refine (if_pos (hok h1 h8 hc)).trans (next_pos ?_)
    rw [Bool.or_eq_true, Bool.or_eq_true, Bool.or_eq_true, Bool.and_eq_true, Bool.and_eq_true, beq_iff_eq, beq_iff_eq, beq_iff_eq,
      Bool.not_eq_true', Bool.not_eq_true', or_assoc, or_assoc]
    exact h
  have hcore (h : ¬(s.power.coreFail = true ∧ s.power.phase = .returning ∧ s.power.stage = 0)) :
      ¬(s.power.coreFail && s.power.phase == .returning && s.power.stage == 0) = true := by
    rw [Bool.and_eq_true, Bool.and_eq_true, beq_iff_eq, beq_iff_eq, and_assoc]
    exact h
  refine ⟨?_, ?_, ?_, ?_, ?_, rfl, ?_, ?_, ?_, ?_, ?_, ?_, ?_⟩
  · intro src cell bus h1 h7 hc hon harm hb hw hnot
    have hexec : exec (.wakeConfirmed src ⟨cell, bus⟩) s = .next (s.wakeBy src (if src = 3 then cell else 0)) :=
      (if_pos (hok h1 (by omega) hc)).trans ((next_neg (hseen (by omega) hon hb hw)).trans ((next_neg (hcore hnot)).trans (next_pos harm)))
    generalize (if src = 3 then cell else 0) = c at hexec
    have hbegan := wakeBy_began s src c
    have hsettled (hp : s.power.phase = .settled) : ∃ u : State, ∃ x, u.power = { s.power with bridgeUc := x } ∧
        s.wakeBy src c = u.wakeSettled src c := by
      refine ⟨if s.clockOn then s else s.elapse, ?_⟩
      rw [wakeBy_settled src c hp]
      split
      · exact ⟨_, rfl, rfl⟩
      · obtain ⟨x, hx⟩ := elapse_power s
        exact ⟨x, hx, rfl⟩
    refine ⟨_, hexec, hbegan.source, hbegan.counts, fun hp hst => ?_, fun hp hst hd => ?_, fun hp hctx => ?_, fun hp hctx => ?_,
      fun hp hctx => ?_, fun hp hctx => ?_, fun hp => ?_⟩
    · obtain ⟨u, x, hu, he⟩ := hsettled hp
      have hst' : u.power.st = .watch ∨ u.power.dwell = true := by
        rw [hu]
        exact hst
      rw [he, wakeSettled_waits src c hst']
      exact ⟨rfl, (congrArg (·.phase) hu).trans hp, congrArg (·.st) hu⟩
    · obtain ⟨u, x, hu, he⟩ := hsettled hp
      have hust : u.power.st = s.power.st := congrArg (·.st) hu
      have huaux : u.power.auxOk = s.power.auxOk := congrArg (·.auxOk) hu
      have hnw : u.power.st ≠ .watch := by
        rw [hust]
        rcases hst with h | h <;> rw [h] <;> decide
      obtain ⟨hph, hfrom, hstage, htarget, -⟩ := startReturn_power (u.recordWake src c u.power.st.code false false) false
      rw [he, wakeSettled_returns src c hnw ((congrArg (·.dwell) hu).trans hd)]
      exact ⟨hph, hstage.trans (if_neg hnw), hfrom.trans hust, htarget.trans (congrArg (fun a : Bool => if a then PowerSt.run else .watch) huaux)⟩
    · have hwake := wakeBy_handshake src c hp
      dsimp only at hwake
      rw [if_pos (beq_iff_eq.mpr hctx)] at hwake
      obtain ⟨o, ho⟩ := endRequest_eq (s.recordWake src c s.power.st.code false false) s.power.req 0x20 5 none
      rw [ho] at hwake
      refine ⟨congrArg (·.power.phase) hwake, congrArg (·.power.st) hwake, fun q r hq hr => ?_⟩
      have houts := endRequest_outs (s := s.recordWake src c s.power.st.code false false) hq hr 0x20 5 none
      rw [wakeBy_handshake src c hp]
      dsimp only
      rw [if_pos (beq_iff_eq.mpr hctx)]
      exact congrArg (·.power.outs) houts
    · rw [wakeBy_handshake src c hp]
      dsimp only
      rw [if_neg (fun h => hctx (beq_iff_eq.mp h))]
      exact ⟨hp, rfl⟩
    · rw [wakeBy_committed src c hp, if_pos (beq_iff_eq.mpr hctx)]
    · rw [wakeBy_committed src c hp, if_neg (fun h => hctx (beq_iff_eq.mp h))]
    · obtain ⟨w, he, -⟩ := wakeBy_returning src c hp
      exact ⟨w, he⟩
  · exact fun src cell bus h1 h8 hc h => hunseen h1 h8 hc h
  · intro src cell bus h1 h7 hc harm hnot
    refine (if_pos (hok h1 (by omega) hc)).trans ?_
    dsimp only
    split
    · rfl
    · exact (next_neg (hcore hnot)).trans (next_neg (by rw [harm]; exact Bool.false_ne_true))
  · intro src cell bus h1 h7 hc hon hcf hp h0
    have hgo : (s.power.coreFail && s.power.phase == .returning && s.power.stage == 0) = true := by
      rw [hcf, hp, h0]
      rfl
    have hexec (hb : src = 1 → s.busWakes bus = true) (hw : src = 4 → s.within100ms s.power.wakeFrom = false) :
        exec (.wakeConfirmed src ⟨cell, bus⟩) s = .next (if src == 4 then
          { s.recordWake 4 0 s.power.fromSt.code false false with power.stage := 2, power.stageTries := 0, power.retryWait := false }
          else s) :=
      (if_pos (hok h1 (by omega) hc)).trans ((next_neg (hseen (by omega) hon hb hw)).trans (next_pos hgo))
    constructor
    · intro h4
      by_cases hb : src = 1 ∧ s.busWakes bus = false
      · exact hunseen h1 (by omega) hc (Or.inr (Or.inr (Or.inl hb)))
      · rw [hexec (fun h => by simpa [h] using hb) fun h => absurd h h4, if_neg (by rw [beq_iff_eq]; exact h4)]
    · intro h4 hw
      rw [hexec (fun h => absurd (h.symm.trans h4) (by decide)) fun _ => hw, if_pos (by rw [h4]; rfl)]
      exact ⟨_, rfl, rfl, rfl, hp, rfl⟩
  · intro hd hp
    have hgo : ¬(!s.power.dwell || s.power.phase != .settled) = true := by
      rw [hd, hp]
      decide
    constructor
    · intro hn
      exact (next_neg hgo).trans (next_neg (by dsimp only; rw [hn]; exact Bool.false_ne_true))
    · intro hsome
      obtain ⟨x, hx⟩ := elapse_power { s with power.dwell := false }
      obtain ⟨hph, hfrom, hstage, -, hdw, -⟩ := startReturn_power (State.elapse { s with power.dwell := false }) false
      have hst : (State.elapse { s with power.dwell := false }).power.st = s.power.st := congrArg (·.st) hx
      exact ⟨_, (next_neg hgo).trans (next_pos hsome), hdw, hph, hfrom.trans hst,
        hstage.trans (congrArg (fun t : PowerSt => if t = .watch then 7 else 2) hst)⟩
  · intro hp
    exact ⟨fun b => execReturnStageReady_none b (Or.inl hp), execReturnStageTimeout_none (Or.inl hp)⟩
  · intro hp h2
    exact next_pos (by rw [hp, h2]; rfl)
  · intro h
    refine next_neg ?_
    rw [Bool.and_eq_true, beq_iff_eq, beq_iff_eq]
    exact fun hc => h.elim (fun h => h hc.1) fun h => h hc.2
  · intro h
    exact ⟨fun b => execReturnStageReady_none b (Or.inr h), execReturnStageTimeout_none (Or.inr (h.elim (fun h => Or.inr (Or.inl h)) Or.inl))⟩
  · intro hp hw b
    refine ⟨fun h1 h4 => ready_early b hp hw h1 h4, fun h5 h7 => ?_, fun h8 hq hwl hn => ?_⟩
    · obtain ⟨u, he, hu, hlanes⟩ := ready_late b hp hw h5 h7
      refine ⟨_, he, rfl, (congrArg (·.phase) hu).trans hp, fun h => ?_⟩
      rw [hlanes h]
      exact lanesUp_lane s b
    · have he : exec (.returnStageReady b) s = .next s.settleReturn := by
        rw [execReturnStageReady_eq b hp hw, h8] <;> rfl
      exact ⟨_, he, settleReturn_power hq hwl hn⟩
  · exact fun hc hl => execReturnStageTimeout_none (Or.inr (Or.inr (Or.inr ⟨hc, hl⟩)))
  · intro hp hw hl
    by_cases h0 : s.power.stage = 0
    · refine ⟨s, execReturnStageTimeout_none (Or.inr (Or.inl h0)), fun h => absurd h0 h, ?_⟩
      rw [h0]
      refine ⟨fun h => absurd h (by decide), fun h => ?_, fun h => absurd h (by decide), fun h => absurd h (by decide),
        fun h => absurd h (by decide), fun h => absurd h (by decide), fun h => absurd h (by decide), fun h => absurd h (by decide)⟩
      omega
    · refine ⟨_, execReturnStageTimeout_eq hp hw h0 hl, fun _ hq => lateStage_wakeStage _ _ hq, fun h2 hn => ?_, fun h => ?_, fun h3 => ?_,
        fun h4 hn => ?_, fun h5 hf hb => ?_, fun h6 => ?_, fun h7 hn => ?_, fun h8 hq hwl hn => ?_⟩
      · rw [h2, lateStage_core, if_neg (by omega)]
        exact ⟨rfl, rfl⟩
      · have hfail := lateStage_fails (s := s.stageLate) (k := s.power.stage) (n := s.power.stageTries + 1)
          (h.imp (fun h => ⟨h.1, by omega⟩) (Or.imp (fun h => ⟨h.1, by omega⟩) id))
        exact ⟨hfail.coreFail, hfail.stage, hfail.protOnly, hfail.protReduced, hfail.valid⟩
      · rw [h3, lateStage_clock]
        exact ⟨rfl, rfl, (setBit_getLsbD _ 5 5 true (by decide)).trans (if_pos rfl)⟩
      · rw [h4, lateStage_pll, if_neg (by omega)]
        exact ⟨congrArg (· + 1) hn, h4⟩
      · have hgo : (s.stageLate.power.fromSt == .doze && !s.stageLate.power.laneBoot) = true := by
          rw [show s.stageLate.power.fromSt = .doze from hf, show s.stageLate.power.laneBoot = false from hb]
          rfl
        rw [h5, lateStage_lanes, if_pos hgo]
        exact ⟨rfl, h5, rfl⟩
      · rw [h6, lateStage_ports]
        obtain ⟨hst, hports⟩ := portsLate s.stageLate
        exact ⟨hst, fun i h1 hi hlen ha hd => hports i h1 hi (portDown_late ⟨hlen, ha, hd⟩)⟩
      · rw [h7, lateStage_pans, if_pos (by omega)]
        exact loseGated_frozen s.stageLate
      · obtain ⟨h1, -, h3, -⟩ := settleReturn_power (s := s.stageLate) hq hwl hn
        rw [h8, lateStage_settles, State.absorb_keeps_power]
        exact ⟨h1, h3⟩

end Sys2Proof.Machine
end


section
/-!
PROOFS. Image and seal writes, firmware activations, keys and tamper (20_security_and_journal.md).
-/

-- One proof after the other: the threads of proofs that are elaborated at once take too much memory together.
set_option Elab.async false

namespace Sys2Proof.Machine

/-! ### Journal entries and seals -/

theorem nvmAsk_sec (s : State) (r : NvmReq) : (s.nvmAsk r).sec = s.sec := same_of_but (p := .sec) (State.nvmAsk_hide (butMask .sec) rfl s r)

theorem nvmAsk_lanes (s : State) (r : NvmReq) : (s.nvmAsk r).lanes = s.lanes :=
  same_of_but (p := .lanes) (State.nvmAsk_hide (butMask .lanes) rfl s r)

/-- An absorbed event under a lane that runs takes the next number. -/
theorem absorb_absSeq {s : State} (a b c d : Nat) (e : List Byte) (h : s.lanes.protOnly = false) :
    (s.absorb a b c d e).lanes.absSeq = s.lanes.absSeq + 1 := by
  unfold State.absorb
  rw [if_neg (by rw [h]; exact Bool.false_ne_true)]
  dsimp only
  rw [State.notify_keeps_lanes]

theorem laneRuns_protOnly {s : State} (h : s.laneRuns = true) : s.lanes.protOnly = false := by
  unfold State.laneRuns at h
  rw [Bool.and_eq_true, Bool.and_eq_true, Bool.not_eq_true'] at h
  exact h.1.2

/-- The seal of a group: its two entries, and a notice while there are no keys. -/
theorem writeSeal_facts {s : State} {g : Nat} {rest : List Nat} (hg : s.sec.seals = g :: rest) (hp : s.lanes.protOnly = false) :
    let records := (List.range 62).flatMap fun k => s.entryBytes (64 * g + k)
    let sig := if s.sec.tamper then zeros 64 else be64 (Config.signJournal s.sec.keyEpoch (hashNum records))
    s.writeSeal.sec = { s.sec with
      seals := rest
      journal := journalPut (journalPut s.sec.journal (s.sealPart 3 (64 * g + 62) (sig.take 32)))
        (s.sealPart 4 (64 * g + 63) (sig.drop 32)) } ∧
    s.writeSeal.lanes.absSeq = s.lanes.absSeq + (if s.sec.tamper then 1 else 0) := by
  intro records sig
  obtain ⟨t, ht⟩ : ∃ t : State, t = { s.nvmAsk { lane := true, left := 2 } with
      sec.seals := rest
      sec.journal := journalPut (journalPut s.sec.journal (s.sealPart 3 (64 * g + 62) (sig.take 32)))
        (s.sealPart 4 (64 * g + 63) (sig.drop 32)) } := ⟨_, rfl⟩
  have hsec : t.sec = { s.sec with
      seals := rest
      journal := journalPut (journalPut s.sec.journal (s.sealPart 3 (64 * g + 62) (sig.take 32)))
        (s.sealPart 4 (64 * g + 63) (sig.drop 32)) } := by
    rw [ht]
    dsimp only
    rw [nvmAsk_sec]
  have hlanes : t.lanes = s.lanes := by
    rw [ht]
    exact nvmAsk_lanes ..
  have he : s.writeSeal = if s.sec.tamper then t.absorb 17 2 0xFF 0 [] else t := by
    rw [ht]
    unfold State.writeSeal
    rw [hg]
  rw [he]
  split
  · rw [State.absorb_keeps_sec, absorb_absSeq _ _ _ _ _ (by rw [hlanes]; exact hp), hlanes]
    exact ⟨hsec, rfl⟩
  · exact ⟨hsec, congrArg (·.absSeq) hlanes⟩

/-- A journal entry moves the journal alone. -/
theorem record_sec_at {α : Type} (f : Sec → α) (hf : ∀ (x : Sec) j n l q, f { x with journal := j, jNext := n, jLast := l, seals := q } = f x)
    (s : State) (kind port opcode stagedBy item : Nat) (old new : List Byte) :
    f (s.record kind port opcode stagedBy item old new).sec = f s.sec := by
  unfold State.record
  split
  · rfl
  · dsimp only
    rw [hf, nvmAsk_sec]

/-! ### Firmware -/

/-- The slots and the floor of the firmware. -/
def Sec.firmware (x : Sec) : List FwSlot × Nat × Nat := (x.fwSlots, x.fwBoot, x.secFloor)

/-- An image that passes every check: it becomes the TRIAL slot, and asks for a restart. -/
def State.takeTrial (s : State) (r : DeferRef) (old new : Word) (slot : FwSlot) : State :=
  let s := s.journal r.port 0x81 0 (w32 old) (w32 new)
  { s with
    sec.fwVerify := none, sec.fwTrial := some r, sec.fwTrialFails := 0, sec.fwOldVersion := old, sec.restart := true
    sec.fwSlots := setAt s.sec.fwSlots (1 - s.sec.fwBoot) slot }

theorem takeTrial_sec (s : State) (r : DeferRef) (old new : Word) (slot : FwSlot) : (s.takeTrial r old new slot).sec.fwVerify = none ∧
    (s.takeTrial r old new slot).sec.fwTrial = some r ∧ (s.takeTrial r old new slot).sec.fwTrialFails = 0 ∧
    (s.takeTrial r old new slot).sec.restart = true ∧ (s.takeTrial r old new slot).sec.secFloor = s.sec.secFloor ∧
    (s.takeTrial r old new slot).sec.fwBoot = s.sec.fwBoot ∧
    (s.takeTrial r old new slot).sec.fwSlots = setAt s.sec.fwSlots (1 - s.sec.fwBoot) slot := by
  have h : (s.journal r.port 0x81 0 (w32 old) (w32 new)).sec.firmware = s.sec.firmware :=
    record_sec_at Sec.firmware (fun _ _ _ _ _ => rfl) ..
  simp only [Sec.firmware, Prod.mk.injEq] at h
  obtain ⟨hs, hb, hf⟩ := h
  refine ⟨rfl, rfl, rfl, rfl, hf, hb, ?_⟩
  exact congrArg₂ (fun l b => setAt l (1 - b) slot) hs hb

/-- The checks of a staged image, in their order. -/
theorem verifyEnds_eq {s : State} {r : DeferRef} (h : s.sec.fwVerify = some r) : s.verifyEnds =
    if !Config.vendorFwOk (hashNum (s.sec.fwStaged.take 64 ++ s.sec.fwStaged.drop 128)) (BitVec.ofNat 512 (beNat (slice s.sec.fwStaged 64 64)))
      then s.endVerify .signatureInvalid 0
    else if getU s.sec.fwStaged 12 2 < s.sec.secFloor then s.endVerify .refused 1
    else match Config.decryptFw s.sec.keyEpoch s.sec.fwStaged with
      | none => s.endVerify .signatureInvalid 0
      | some plain =>
        if !recipesOk (Config.recipes plain) then s.endVerify .refused 2
        else s.takeTrial r s.fwVersion (BitVec.ofNat 32 (getU s.sec.fwStaged 8 4))
          { version := BitVec.ofNat 32 (getU s.sec.fwStaged 8 4), hash := sha256 plain, secVersion := getU s.sec.fwStaged 12 2 } := by
  unfold State.verifyEnds State.takeTrial
  rw [h] <;> rfl

/-- The result of a trial that runs. -/
theorem trialResult_eq {s : State} {r : DeferRef} (h : s.sec.fwTrial = some r) (hr : s.sec.restart = false) (pass : Bool) : ∃ d d',
    s.trialResult pass = if pass then
      { s with
        sec.fwTrial := none, sec.fwTrialFails := 0, sec.fwBoot := 1 - s.sec.fwBoot
        sec.secFloor := max s.sec.secFloor (s.sec.fwSlots.getD (1 - s.sec.fwBoot) {}).secVersion }.complete r .ok 0 0 0 d
    else if s.sec.fwTrialFails = 0 then { s with sec.fwTrialFails := 1 }
    else ({ s with sec.fwTrial := none, sec.fwTrialFails := 0 }.absorb 17 3 0xFF 0 []).complete r .internal 0 0 0 d' := by
  unfold State.trialResult
  rw [h]
  dsimp only
  rw [if_neg (by rw [hr]; exact Bool.false_ne_true)]
  exact ⟨_, _, rfl⟩

/-! ### Tamper -/

/-- What a note of tamper leaves of the security record. -/
def Sec.tamperKey (x : Sec) : Bool × Bool × Option DeferRef := (x.tamper, x.keys, x.fwVerify)

/-- What the records and notices of tamper leave of the security record. -/
def Sec.flushKey (x : Sec) : (Bool × Bool × Option DeferRef) × List Nat := (x.tamperKey, x.tamperCounts)

/-- The notes of the sources that were hit. -/
def State.noteTampers (s : State) (l : List Nat) (v : Int) : State := l.foldl (fun s k => s.noteTamper k v) s

theorem noteTampers_key (l : List Nat) (v : Int) (s : State) : (s.noteTampers l v).sec.tamperKey = s.sec.tamperKey :=
  foldl_keeps (fun (s : State) (k : Nat) => s.noteTamper k v) (·.sec.tamperKey) (fun _ _ => rfl) l s

theorem writeTamper_flushKey (s : State) (r : TamperRec) : (s.writeTamper r).sec.flushKey = s.sec.flushKey := by
  unfold State.writeTamper
  dsimp only
  split
  · rw [State.absorb_keeps_sec]
    exact record_sec_at Sec.flushKey (fun _ _ _ _ _ => rfl) ..
  · exact record_sec_at Sec.flushKey (fun _ _ _ _ _ => rfl) ..

theorem notifyTamper_flushKey (s : State) (i : Nat) : (s.notifyTamper i).sec.flushKey = s.sec.flushKey := by
  unfold State.notifyTamper
  split
  · rfl
  · dsimp only
    split
    · split
      · rfl
      · rw [State.sendNotice_keeps_sec]
        rfl
    · rw [if_neg Bool.false_ne_true, State.sendNotice_keeps_sec]
      rfl

theorem flushTamper_flushKey (s : State) : s.flushTamper.sec.flushKey = s.sec.flushKey := by
  unfold State.flushTamper
  split
  · refine (foldl_keeps State.notifyTamper (·.sec.flushKey) notifyTamper_flushKey _ _).trans ?_
    exact foldl_keeps State.writeTamper (·.sec.flushKey) writeTamper_flushKey _ _
  · rfl

/-- The count of a source goes up by one for each note of it. -/
theorem noteTampers_count (v : Int) {k : Nat} (hk : 1 ≤ k) (hk4 : k ≤ 4) (l : List Nat) (hl : l.Nodup) (hpos : ∀ j ∈ l, 1 ≤ j) {s : State}
    (h4 : s.sec.tamperCounts.length = 4) : (s.noteTampers l v).sec.tamperCounts.getD (k - 1) 0 =
      if k ∈ l then bump 0xFFFF (s.sec.tamperCounts.getD (k - 1) 0) else s.sec.tamperCounts.getD (k - 1) 0 := by
  induction l generalizing s with
  | nil => rfl
  | cons j l ih =>
    have hcounts : (s.noteTamper j v).sec.tamperCounts =
        setAt s.sec.tamperCounts (j - 1) (bump 0xFFFF (s.sec.tamperCounts.getD (j - 1) 0)) := rfl
    have hstep : s.noteTampers (j :: l) v = (s.noteTamper j v).noteTampers l v := rfl
    have hj := hpos j List.mem_cons_self
    rw [hstep, ih hl.of_cons (fun i hi => hpos i (List.mem_cons_of_mem _ hi)) (by rw [hcounts]; exact (List.length_modify ..).trans h4),
      hcounts]
    by_cases e : k = j
    · subst e
      have hnot : k ∉ l := (List.nodup_cons.mp hl).1
      rw [if_neg hnot, if_pos List.mem_cons_self]
      exact getD_modify _ _ _ _ (by rw [h4]; omega)
    · have hother : (setAt s.sec.tamperCounts (j - 1) (bump 0xFFFF (s.sec.tamperCounts.getD (j - 1) 0))).getD (k - 1) 0 =
          s.sec.tamperCounts.getD (k - 1) 0 := getD_modify_ne _ _ _ _ _ (by omega)
      rw [hother]
      simp [e]

/-- The sources of a detection that are monitored. -/
def State.hits (s : State) (sources : BitVec 4) : List Nat := ([1, 2, 3, 4].filter fun k => sources.getLsbD (k - 1)).filter s.monitored

theorem mem_hits {s : State} {sources : BitVec 4} {k : Nat} :
    k ∈ s.hits sources ↔ (1 ≤ k ∧ k ≤ 4) ∧ sources.getLsbD (k - 1) = true ∧ s.monitored k = true := by
  unfold State.hits
  rw [List.mem_filter, List.mem_filter]
  have hrange : k ∈ [1, 2, 3, 4] ↔ 1 ≤ k ∧ k ≤ 4 := by
    simp only [List.mem_cons, List.not_mem_nil, or_false]
    omega
  rw [hrange, and_assoc]

theorem hits_nodup (s : State) (sources : BitVec 4) : (s.hits sources).Nodup :=
  List.Nodup.filter _ (List.Nodup.filter _ (by decide))

/-- A detection whose policy is to erase. -/
def State.erasing (s : State) (sources : BitVec 4) : Bool := (s.hits sources).any fun k => k = 1 || s.sec.policy.getLsbD (k - 1)

theorem erasing_iff {s : State} {sources : BitVec 4} : s.erasing sources = true ↔
    ∃ k, k ∈ s.hits sources ∧ (k = 1 ∨ s.sec.policy.getLsbD (k - 1) = true) := by
  unfold State.erasing
  rw [List.any_eq_true]
  simp only [Bool.or_eq_true, decide_eq_true_eq]

theorem tamperDetect_eq (s : State) (sources : BitVec 4) (v : Int) : s.tamperDetect sources v =
    ((if s.erasing sources then s.eraseKeys else s).noteTampers (s.hits sources) v).flushTamper := rfl

/-- Keys, latch and counts behind a detection. -/
theorem tamperDetect_sec (s : State) (sources : BitVec 4) (v : Int) :
    (s.tamperDetect sources v).sec.tamperKey = (if s.erasing sources then s.eraseKeys else s).sec.tamperKey ∧
    (s.tamperDetect sources v).sec.tamperCounts =
      ((if s.erasing sources then s.eraseKeys else s).noteTampers (s.hits sources) v).sec.tamperCounts := by
  rw [tamperDetect_eq]
  generalize (if s.erasing sources then s.eraseKeys else s) = u
  have h := flushTamper_flushKey (u.noteTampers (s.hits sources) v)
  exact ⟨(congrArg (·.1) h).trans (noteTampers_key ..), congrArg (·.2) h⟩

/-- Settles O57: a seal goes through `writeSeal_facts`, an activation through `verifyEnds_eq` and `takeTrial_sec`, a trial through
`trialResult_eq`, and a detection through `tamperDetect_sec`. -/
theorem securityEvents : Obligations.SecurityEvents := by
  unfold Obligations.SecurityEvents
  intro s
  refine ⟨?_, ?_, ?_, ?_, fun st reason => endVerify_sec s st reason, ?_, ?_, ?_, ?_, ?_⟩
  · intro h
    change Host.Outcome.next s.finishImage = _
    unfold State.finishImage
    rw [h]
  · intro x h
    change Host.Outcome.next s.finishImage = _
    unfold State.finishImage
    rw [h]
  · intro h
    exact ⟨next_neg (by rw [h]; exact Bool.false_ne_true), next_neg (by rw [h]; exact Bool.false_ne_true)⟩
  · intro hrun
    have hseal : exec .journalSealWrite s = .next s.writeSeal := next_pos hrun
    have hverify : exec .fwVerifyComplete s = .next s.verifyEnds := next_pos hrun
    rw [hseal, hverify]
    refine ⟨fun h => ?_, fun g rest hg => ⟨_, rfl, writeSeal_facts hg (laneRuns_protOnly hrun)⟩, fun h => ?_, fun r h => ?_⟩
    · unfold State.writeSeal
      rw [h]
    · unfold State.verifyEnds
      rw [h]
    · rw [verifyEnds_eq h]
      intro im ok
      refine ⟨fun hok => ?_, fun hok hlow => ?_, fun hok hfloor => ⟨fun hn => ?_, fun plain hpl => ⟨fun hbad => ?_, fun hgood => ?_⟩⟩⟩
      · exact next_pos (congrArg (! ·) hok)
      · exact (next_neg (by rw [show (!ok) = false from congrArg (! ·) hok]; exact Bool.false_ne_true)).trans (next_pos hlow)
      · refine (next_neg (by rw [show (!ok) = false from congrArg (! ·) hok]; exact Bool.false_ne_true)).trans
          ((next_neg (Nat.not_lt.mpr hfloor)).trans ?_)
        rw [hn]
      · refine (next_neg (by rw [show (!ok) = false from congrArg (! ·) hok]; exact Bool.false_ne_true)).trans
          ((next_neg (Nat.not_lt.mpr hfloor)).trans ?_)
        rw [hpl]
        exact next_pos (by rw [hbad]; rfl)
      · refine ⟨_, (next_neg (by rw [show (!ok) = false from congrArg (! ·) hok]; exact Bool.false_ne_true)).trans
          ((next_neg (Nat.not_lt.mpr hfloor)).trans ?_), takeTrial_sec s r s.fwVersion (BitVec.ofNat 32 (getU im 8 4))
            { version := BitVec.ofNat 32 (getU im 8 4), hash := sha256 plain, secVersion := getU im 12 2 }⟩
        rw [hpl]
        exact next_neg (by rw [hgood]; exact Bool.false_ne_true)
  · intro r h hr
    have hexec (pass : Bool) : exec (.fwTrialResult pass) s = .next (s.trialResult pass) := rfl
    refine ⟨?_, fun h0 => ?_, fun h0 => ?_⟩
    · obtain ⟨d, d', he⟩ := trialResult_eq h hr true
      rw [hexec, he]
      exact ⟨_, next_pos rfl, State.complete_keeps_sec ..⟩
    · obtain ⟨d, d', he⟩ := trialResult_eq h hr false
      rw [hexec, he]
      exact (next_neg Bool.false_ne_true).trans (next_pos h0)
    · obtain ⟨d, d', he⟩ := trialResult_eq h hr false
      rw [hexec, he]
      refine ⟨_, (next_neg Bool.false_ne_true).trans (next_neg h0), ?_⟩
      rw [State.complete_keeps_sec, State.absorb_keeps_sec]
  · intro h b
    change Host.Outcome.next (s.trialResult b) = _
    unfold State.trialResult
    rw [h]
  · intro h b
    change Host.Outcome.next (s.trialResult b) = _
    unfold State.trialResult
    split
    · rfl
    · exact next_pos h
  · exact congrArg Host.Outcome.next (if_congr (P := decide (36000000 ≤ s.grid.validFrames - s.sec.ephFrame) = true) decide_eq_true_iff rfl rfl)
  · intro src v
    obtain ⟨hkey, hcounts⟩ := tamperDetect_sec s src v
    refine ⟨_, rfl, ?_, ?_, ?_⟩
    · rintro ⟨k, h1, h4, hsrc, hmon, hpol⟩
      have he : s.erasing src = true := erasing_iff.mpr ⟨k, mem_hits.mpr ⟨⟨h1, h4⟩, hsrc, hmon⟩, hpol⟩
      obtain ⟨ht, hk, hv, -⟩ := eraseKeys_sec s
      rw [if_pos he] at hkey
      exact ⟨(congrArg (·.1) hkey).trans ht, (congrArg (·.2.1) hkey).trans hk, (congrArg (·.2.2) hkey).trans hv⟩
    · intro h
      have he : ¬s.erasing src = true := by
        rw [erasing_iff]
        rintro ⟨k, hm, hpol⟩
        obtain ⟨⟨h1, h4⟩, hsrc, hmon⟩ := mem_hits.mp hm
        obtain ⟨hne, hno⟩ := h k h1 h4 hsrc hmon
        exact hpol.elim hne fun h => absurd (h.symm.trans hno) (by decide)
      rw [if_neg he] at hkey
      exact ⟨congrArg (·.1) hkey, congrArg (·.2.1) hkey⟩
    · intro hlen k h1 h4
      have hsame : (if s.erasing src then s.eraseKeys else s).sec.tamperCounts = s.sec.tamperCounts := by
        obtain ⟨-, -, -, hc, -⟩ := eraseKeys_sec s
        split
        · exact hc
        · rfl
      rw [hcounts, noteTampers_count v h1 h4 (s.hits src) (hits_nodup s src) (fun j hj => (mem_hits.mp hj).1.1)
        (by rw [hsame]; exact hlen), hsame]
      refine if_congr ?_ rfl rfl
      rw [mem_hits, Bool.and_eq_true]
      exact ⟨fun h => h.2, fun h => ⟨⟨h1, h4⟩, h⟩⟩

end Sys2Proof.Machine
end


section
/-!
PROOFS. Frames, errors and bus-off of the CAN ports (19_can_fd_and_spi.md).
-/

-- One proof after the other: the threads of proofs that are elaborated at once take too much memory together.
set_option Elab.async false

namespace Sys2Proof.Machine

/-! ### What a CAN port's operations leave alone -/

/-- Nothing but the CAN ports and the SPI record, which holds their event bits, differs. -/
def State.CanOnly (s t : State) : Prop := t = { s with can := t.can, spi := t.spi }

theorem State.CanOnly.eq {s t : State} (h : s.CanOnly t) : t = { s with can := t.can, spi := t.spi } := h

theorem State.CanOnly.trans {s t u : State} (h : s.CanOnly t) (h2 : t.CanOnly u) : s.CanOnly u :=
  Eq.trans h2 (congrArg (fun x : State => { x with can := u.can, spi := u.spi }) h)

theorem canOnly_modCan (s : State) (b : Bool) (f : Can → Can) : s.CanOnly (s.modCan b f) := rfl

theorem canOnly_setBus (s : State) (b : Bool) (st : BusState) : s.CanOnly (s.setBus b st) := by
  unfold State.setBus
  split
  · rfl
  · rfl

theorem canOnly_settleBus (s : State) (b : Bool) : s.CanOnly (s.settleBus b) := by
  unfold State.settleBus
  dsimp only
  split
  · exact canOnly_setBus ..
  · rfl

theorem State.CanOnly.grid {s t : State} (h : s.CanOnly t) : t.grid = s.grid := (congrArg State.grid h.eq).trans rfl

theorem State.CanOnly.ploza {s t : State} (h : s.CanOnly t) : t.ploza = s.ploza := (congrArg State.ploza h.eq).trans rfl

theorem State.CanOnly.portsOn {s t : State} (h : s.CanOnly t) : t.portsOn = s.portsOn := (congrArg State.portsOn h.eq).trans rfl

theorem State.CanOnly.ringsRead {s t : State} (h : s.CanOnly t) : t.ringsRead = s.ringsRead := (congrArg State.ringsRead h.eq).trans rfl

theorem State.CanOnly.canFd {s t : State} (h : s.CanOnly t) (b : Bool) : t.canFd b = s.canFd b :=
  (congrArg (State.canFd · b) h.eq).trans rfl

/-- A change of BUS_STATE sets the port's event bit. -/
theorem setBus_irq {s : State} {b : Bool} {st : BusState} (h : (s.canAt b).bus ≠ st) :
    (s.setBus b st).spi.irqStatus = setBit s.spi.irqStatus (4 + bit b) true :=
  congrArg (fun t : State => t.spi.irqStatus) (if_neg h)

theorem onBus_iff {c : Can} : c.onBus = true ↔ c.bus = .errorActive ∨ c.bus = .errorPassive := by
  simp [Can.onBus]

/-- The counters only say which of the two states of the bus the port is in. -/
theorem settleBus_at {s : State} {b : Bool} (h : s.can.length = 2) :
    ∃ st, (s.settleBus b).canAt b = { s.canAt b with bus := st } ∧ ((s.canAt b).onBus = true → ((s.settleBus b).canAt b).onBus = true) := by
  obtain ⟨st, hc, hst⟩ := settleBus_canAt s b h
  exact ⟨st, hc, fun hon => by rw [hc]; exact onBus_iff.mpr (hst hon)⟩

/-- A port's record is changed and its bus state then settled. -/
theorem settleBus_modCan {s : State} {b : Bool} (f : Can → Can) (h : s.can.length = 2) :
    ∃ st, ((s.modCan b f).settleBus b).canAt b = { f (s.canAt b) with bus := st } := by
  obtain ⟨st, hc, -⟩ := settleBus_canAt (s.modCan b f) b ((State.length_modCan ..).trans h)
  exact ⟨st, by rw [hc, State.canAt_modCan _ _ _ h]⟩

/-! ### Reception -/

/-- A frame is counted as good, and the ring takes it while it has room. -/
def State.canEntered (s : State) (b : Bool) (id : BitVec 29) (data : List Byte) : State :=
  let s := (s.modCan b fun c => { c with recCnt := recAfterGood c.recCnt }).settleBus b
  if (s.canAt b).rxRing.length < 128 then
    s.modCan b fun c => { c with rxRing := c.rxRing ++ [{ id := id, data := data, time := s.grid.plantNs }] }
  else s.modCan b fun c => { c with rxDropped := bump 0xFF c.rxDropped }

theorem canEntered_only (s : State) (b id data) : s.CanOnly (s.canEntered b id data) := by
  have h := (canOnly_modCan s b fun c => { c with recCnt := recAfterGood c.recCnt }).trans (canOnly_settleBus _ b)
  unfold State.canEntered
  dsimp only
  split
  · exact h.trans (canOnly_modCan ..)
  · exact h.trans (canOnly_modCan ..)

/-- The count of good frames, whatever the ring holds. -/
theorem counted_at {s : State} (b : Bool) (h : s.can.length = 2) :
    ∃ (u : State) (st : BusState), u = (s.modCan b fun c => { c with recCnt := recAfterGood c.recCnt }).settleBus b ∧
      u.can.length = 2 ∧ u.grid = s.grid ∧ u.canAt b = { s.canAt b with recCnt := recAfterGood (s.canAt b).recCnt, bus := st } := by
  obtain ⟨st, hc⟩ := settleBus_modCan (b := b) (fun c : Can => { c with recCnt := recAfterGood c.recCnt }) h
  exact ⟨_, st, rfl, ((settleBus_length ..).trans (State.length_modCan ..)).trans h,
    State.CanOnly.grid ((canOnly_modCan ..).trans (canOnly_settleBus ..)), hc⟩

theorem canEntered_room {s : State} {b : Bool} (id data) (h : s.can.length = 2) (hl : (s.canAt b).rxRing.length < 128) :
    ∃ st, (s.canEntered b id data).canAt b = { s.canAt b with
      recCnt := recAfterGood (s.canAt b).recCnt, bus := st
      rxRing := (s.canAt b).rxRing ++ [{ id := id, data := data, time := s.grid.plantNs }] } := by
  obtain ⟨u, st, hu, hlen, hg, hc⟩ := counted_at b h
  have hl2 : (u.canAt b).rxRing.length < 128 := by rw [hc]; exact hl
  refine ⟨st, ?_⟩
  unfold State.canEntered
  rw [← hu]
  dsimp only
  rw [if_pos hl2, State.canAt_modCan _ _ _ hlen, hc, hg]

theorem canEntered_full {s : State} {b : Bool} (id data) (h : s.can.length = 2) (hl : 128 ≤ (s.canAt b).rxRing.length) :
    ∃ st, (s.canEntered b id data).canAt b = { s.canAt b with
      recCnt := recAfterGood (s.canAt b).recCnt, bus := st, rxDropped := bump 0xFF (s.canAt b).rxDropped } := by
  obtain ⟨u, st, hu, hlen, -, hc⟩ := counted_at b h
  have hl2 : ¬(u.canAt b).rxRing.length < 128 := by rw [hc]; exact Nat.not_lt.mpr hl
  refine ⟨st, ?_⟩
  unfold State.canEntered
  rw [← hu]
  dsimp only
  rw [if_neg hl2, State.canAt_modCan _ _ _ hlen, hc]

theorem canEntered_length (s : State) (b id data) : (s.canEntered b id data).can.length = s.can.length := by
  have h : ((s.modCan b fun c => { c with recCnt := recAfterGood c.recCnt }).settleBus b).can.length = s.can.length :=
    (settleBus_length ..).trans (State.length_modCan ..)
  unfold State.canEntered
  dsimp only
  split
  · exact (State.length_modCan ..).trans h
  · exact (State.length_modCan ..).trans h

/-- A port that is off the bus, or one without FD at a frame with FD, receives nothing. -/
theorem canFrameRx_off {s : State} {b fd : Bool} (late id data)
    (h : (!s.portsOn || !(s.canAt b).onBus || (fd && s.canFd b == 0)) = true) :
    exec (.canFrameRx b id fd late data) s = .next s := next_pos h

theorem canFrameRx_on {s : State} {b fd : Bool} (late id data) (hp : s.portsOn = true) (hb : (s.canAt b).onBus = true)
    (hfd : (fd && s.canFd b == 0) = false) :
    exec (.canFrameRx b id fd late data) s =
      .next (if (s.canEntered b id data).ringsRead then (s.canEntered b id data).readRing b late else s.canEntered b id data) :=
  next_neg (by rw [hp, hb, hfd]; exact Bool.false_ne_true)

/-- No lane runs: the ring keeps the frame. -/
theorem canFrameRx_kept {s : State} {b fd : Bool} (late id data) (hp : s.portsOn = true) (hb : (s.canAt b).onBus = true)
    (hfd : (fd && s.canFd b == 0) = false) (hr : s.ringsRead = false) :
    exec (.canFrameRx b id fd late data) s = .next (s.canEntered b id data) :=
  (canFrameRx_on late id data hp hb hfd).trans
    (congrArg Host.Outcome.next (if_neg (by rw [(canEntered_only ..).ringsRead, hr]; exact Bool.false_ne_true)))

/-- A lane that runs takes the one frame of an empty ring. -/
theorem canFrameRx_read {s : State} {b fd : Bool} (late id data) (h : s.can.length = 2) (hp : s.portsOn = true)
    (hb : (s.canAt b).onBus = true) (hfd : (fd && s.canFd b == 0) = false) (hr : s.ringsRead = true)
    (he : (s.canAt b).rxRing = []) :
    ∃ (u : State) (n : Nat) (st : BusState), exec (.canFrameRx b id fd late data) s = .next (u.canTake b late id data) ∧
      s.CanOnly u ∧ u.can.length = 2 ∧ u.canAt b = { s.canAt b with recCnt := n, bus := st, rxRing := [] } := by
  obtain ⟨st, hc⟩ := canEntered_room id data h (by rw [he]; exact Nat.zero_lt_succ _)
  have hlen : (s.canEntered b id data).can.length = 2 := (canEntered_length ..).trans h
  refine ⟨(s.canEntered b id data).modCan b fun c => { c with rxRing := [] }, recAfterGood (s.canAt b).recCnt, st, ?_,
    (canEntered_only ..).trans (canOnly_modCan ..), (State.length_modCan ..).trans hlen, ?_⟩
  · refine (canFrameRx_on late id data hp hb hfd).trans (congrArg Host.Outcome.next ?_)
    rw [if_pos ((canEntered_only ..).ringsRead.trans hr)]
    unfold State.readRing
    rw [hc, he]
    rfl
  · rw [State.canAt_modCan _ _ _ hlen, hc]

/-! ### Firmware takes a frame (19 R447, 17 R409) -/

theorem canTake_refused {u : State} {b : Bool} (late) {id} (data) (h : (u.canAt b).keeps id = false) :
    u.canTake b late id data = u :=
  if_pos (by rw [h]; rfl)

section Kept
variable {u : State} {b : Bool} (late : Bool) {id : BitVec 29} (data : List Byte) (hk : (u.canAt b).keeps id = true)
include hk

theorem canTake_single (hf : idField id 13 2 = 0) :
    u.canTake b late id data = u.canPacket b late id (trimPadding data data.length) := by
  unfold State.canTake
  dsimp only
  rw [hk, hf]
  rfl

theorem canTake_first (hf : idField id 13 2 = 1) (hi : idField id 0 8 = 0) :
    u.canTake b late id data = u.modCan b fun c => { c with
      reasm := (u.canAt b).reasm.filter (·.key != reasmKey id) ++
        [{ key := reasmKey id, next := 1, data := data, lastAt := u.grid.plantNs }] } := by
  unfold State.canTake
  dsimp only
  rw [hk, hf]
  exact (if_neg Bool.false_ne_true).trans (if_neg (fun h => h hi))

theorem canTake_first_misplaced (hf : idField id 13 2 = 1) (hi : idField id 0 8 ≠ 0) : u.canTake b late id data = u := by
  unfold State.canTake
  dsimp only
  rw [hk, hf]
  exact (if_neg Bool.false_ne_true).trans (if_pos hi)

theorem canTake_stray (hf : idField id 13 2 = 2) (hr : (u.canAt b).reasm.find? (·.key == reasmKey id) = none) :
    u.canTake b late id data = u := by
  unfold State.canTake
  dsimp only
  rw [hk, hf, hr]
  rfl

/-- A packet under reassembly and a segment of it: out of order, the last one, or another one. -/
theorem canTake_next {r : CanReasm} (hf : idField id 13 2 = 2) (hr : (u.canAt b).reasm.find? (·.key == reasmKey id) = some r) :
    u.canTake b late id data =
      let others := (u.canAt b).reasm.filter (·.key != reasmKey id)
      let all := r.data ++ data
      if (decide (idField id 0 8 ≠ r.next) || decide ((if u.canFd b = 0 then 255 else 64) < idField id 0 8)) = true then
        u.modCan b fun c => { c with reasm := others }
      else if 10 + getU all 4 2 ≤ all.length then
        (u.modCan b fun c => { c with reasm := others }).canPacket b late id (trimPadding all data.length)
      else u.modCan b fun c => { c with
        reasm := others ++ [{ r with next := idField id 0 8 + 1, data := all, lastAt := u.grid.plantNs }] } := by
  unfold State.canTake
  dsimp only
  rw [hk, hf, hr]
  rfl

end Kept

/-! ### Transmission and errors -/

/-- A bus error counts by 8 as transmitter and by 1 as receiver, and the port stays on the bus. -/
theorem canError_at {s : State} {b : Bool} (tx : Bool) (h : s.can.length = 2) (hp : s.portsOn = true)
    (hb : (s.canAt b).onBus = true) :
    ∃ st, (s.canError b tx).canAt b = { s.canAt b with
      tecCnt := if tx then satTo 0xFF ((s.canAt b).tecCnt + 8) else (s.canAt b).tecCnt
      recCnt := if tx then (s.canAt b).recCnt else bump 0xFF (s.canAt b).recCnt, bus := st } ∧
      (st = .errorActive ∨ st = .errorPassive) := by
  have he : s.canError b tx = (s.modCan b fun c =>
      if tx then { c with tecCnt := satTo 0xFF (c.tecCnt + 8) } else { c with recCnt := bump 0xFF c.recCnt }).settleBus b :=
    if_neg (by rw [hp, hb]; exact Bool.false_ne_true)
  obtain ⟨st, hc, hst⟩ := settleBus_canAt (s.modCan b fun c =>
      if tx then { c with tecCnt := satTo 0xFF (c.tecCnt + 8) } else { c with recCnt := bump 0xFF c.recCnt }) b
    ((State.length_modCan ..).trans h)
  rw [State.canAt_modCan _ _ _ h] at hc hst
  rw [he]
  cases tx with
  | true => exact ⟨st, hc, hst hb⟩
  | false => exact ⟨st, hc, hst hb⟩

/-- The delay of a frame with BRS is measured. -/
def State.canMeasured (s : State) (b : Bool) (delay : Nat) : State :=
  if s.canFd b == 2 then s.modCan b fun c => { c with tdcValue := satTo 127 delay, ssp := s.sampleAt b delay } else s

theorem canMeasured_fd {s : State} {b : Bool} (d : Nat) (h : s.can.length = 2) (hfd : s.canFd b = 2) :
    (s.canMeasured b d).canAt b = { s.canAt b with tdcValue := satTo 127 d, ssp := s.sampleAt b d } := by
  have he : s.canMeasured b d = s.modCan b fun c => { c with tdcValue := satTo 127 d, ssp := s.sampleAt b d } :=
    if_pos (by rw [hfd]; rfl)
  rw [he, State.canAt_modCan _ _ _ h]

theorem canMeasured_classic {s : State} {b : Bool} (d : Nat) (hfd : s.canFd b ≠ 2) : s.canMeasured b d = s :=
  if_neg (by simpa using hfd)

theorem canMeasured_only (s : State) (b d) : s.CanOnly (s.canMeasured b d) := by
  unfold State.canMeasured
  split
  · exact canOnly_modCan ..
  · rfl

theorem canMeasured_length (s : State) (b d) : (s.canMeasured b d).can.length = s.can.length := by
  unfold State.canMeasured
  split
  · exact State.length_modCan ..
  · rfl

/-- What the measurement leaves: the port but for the place of its sample point. -/
theorem canMeasured_at {s : State} {b : Bool} (d : Nat) (h : s.can.length = 2) :
    ∃ v p, (s.canMeasured b d).canAt b = { s.canAt b with tdcValue := v, ssp := p } ∧
      (s.canFd b = 2 → v = satTo 127 d ∧ p = s.sampleAt b d) := by
  by_cases hfd : s.canFd b = 2
  · exact ⟨_, _, canMeasured_fd d h hfd, fun _ => ⟨rfl, rfl⟩⟩
  · exact ⟨(s.canAt b).tdcValue, (s.canAt b).ssp, by rw [canMeasured_classic d hfd], fun h2 => absurd h2 hfd⟩

theorem canTxComplete_off {s : State} {b alarm : Bool} (d : Nat)
    (h : (!s.portsOn || !(s.canAt b).onBus || (alarm && (s.canAt b).alarm.isNone) || (!alarm && (s.canAt b).fifo.isEmpty)) = true) :
    exec (.canTxComplete b alarm d) s = .next s := next_pos h

/-- What a frame that was sent leaves of its port. -/
def Can.sent (alarm : Bool) (c : Can) : Can :=
  let c : Can := { c with tecCnt := c.tecCnt - 1 }
  if alarm then { c with alarm := none } else Can.refill { c with fifo := c.fifo.drop 1 }

/-- A port with a frame to send: a bit error past a loop delay of 127 on an FD_BRS port, or a frame sent. -/
theorem canTxComplete_on {s : State} {b alarm : Bool} (d : Nat)
    (h : (!s.portsOn || !(s.canAt b).onBus || (alarm && (s.canAt b).alarm.isNone) || (!alarm && (s.canAt b).fifo.isEmpty)) = false) :
    exec (.canTxComplete b alarm d) s = .next
      (if (s.canFd b == 2 && decide (127 < d)) = true then (s.canMeasured b d).canError b true
       else ((s.canMeasured b d).modCan b (Can.sent alarm)).settleBus b) :=
  next_neg (by rw [h]; exact Bool.false_ne_true)

/-- There is a frame to send, in the alarm slot or at the head of the FIFO. -/
def Can.offers (c : Can) (alarm : Bool) : Prop := if alarm then c.alarm.isSome = true else c.fifo ≠ []

theorem txGuard {s : State} {b alarm : Bool} (hp : s.portsOn = true) (hb : (s.canAt b).onBus = true)
    (ho : (s.canAt b).offers alarm) :
    (!s.portsOn || !(s.canAt b).onBus || (alarm && (s.canAt b).alarm.isNone) || (!alarm && (s.canAt b).fifo.isEmpty)) = false := by
  rw [hp, hb]
  cases alarm with
  | true =>
    obtain ⟨f, hf⟩ := Option.isSome_iff_exists.mp ho
    rw [hf]; rfl
  | false =>
    obtain ⟨f, l, hf⟩ := List.exists_cons_of_ne_nil ho
    rw [hf]; rfl

/-- A frame was sent: the port's record is that of `Can.sent` but for its sample point and its bus state. -/
theorem canTxComplete_sent {s : State} {b alarm : Bool} {d : Nat} (h : s.can.length = 2) (hp : s.portsOn = true)
    (hb : (s.canAt b).onBus = true) (ho : (s.canAt b).offers alarm) (hd : s.canFd b ≠ 2 ∨ d ≤ 127) :
    ∃ (t : State) (v p : Nat) (st : BusState), exec (.canTxComplete b alarm d) s = .next t ∧
      t.canAt b = { Can.sent alarm { s.canAt b with tdcValue := v, ssp := p } with bus := st } ∧
      (s.canFd b = 2 → v = d ∧ p = s.sampleAt b d) := by
  obtain ⟨v, p, hm, hv⟩ := canMeasured_at (b := b) d h
  obtain ⟨st, hc⟩ := settleBus_modCan (b := b) (Can.sent alarm) ((canMeasured_length s b d).trans h)
  have hg : ¬(s.canFd b == 2 && decide (127 < d)) = true := by
    rintro hg
    rw [Bool.and_eq_true, beq_iff_eq, decide_eq_true_iff] at hg
    exact hd.elim (fun h2 => h2 hg.1) (fun h2 => absurd hg.2 (Nat.not_lt.mpr h2))
  refine ⟨_, v, p, st, (canTxComplete_on d (txGuard hp hb ho)).trans (congrArg Host.Outcome.next (if_neg hg)), by rw [hc, hm], ?_⟩
  intro hfd
  obtain ⟨hv, hp⟩ := hv hfd
  have hd2 : d ≤ 127 := hd.resolve_left (fun h2 => h2 hfd)
  exact ⟨hv.trans (if_pos hd2), hp⟩

/-- A loop delay above 127 is a bit error, and the frame is offered again. -/
theorem canTxComplete_failed {s : State} {b alarm : Bool} {d : Nat} (h : s.can.length = 2) (hp : s.portsOn = true)
    (hb : (s.canAt b).onBus = true) (ho : (s.canAt b).offers alarm) (hfd : s.canFd b = 2) (hd : 127 < d) :
    ∃ (t : State) (p : Nat) (st : BusState), exec (.canTxComplete b alarm d) s = .next t ∧
      t.canAt b = { s.canAt b with
        tdcValue := 127, ssp := p, tecCnt := satTo 0xFF ((s.canAt b).tecCnt + 8), bus := st } := by
  have hm := canMeasured_fd (b := b) d h hfd
  have hb2 : ((s.canMeasured b d).canAt b).onBus = true := by rw [hm]; exact hb
  obtain ⟨st, hc, -⟩ := canError_at true ((canMeasured_length s b d).trans h) ((canMeasured_only s b d).portsOn.trans hp) hb2
  have hg : (s.canFd b == 2 && decide (127 < d)) = true := by rw [hfd, decide_eq_true hd]; rfl
  have hsat : satTo 127 d = 127 := if_neg (Nat.not_le.mpr hd)
  refine ⟨_, s.sampleAt b d, st, (canTxComplete_on d (txGuard hp hb ho)).trans (congrArg Host.Outcome.next (if_pos hg)), ?_⟩
  rw [hc, hm, hsat]
  rfl

theorem canBusOff_at {s : State} {b : Bool} (h : s.can.length = 2) (hp : s.portsOn = true) (hb : (s.canAt b).onBus = true) :
    (s.canBusOff b).canAt b = { s.canAt b with busOffs := bump 0xFF (s.canAt b).busOffs, bus := .busOff } ∧
      (s.canBusOff b).spi.irqStatus = setBit s.spi.irqStatus (4 + bit b) true := by
  have he : s.canBusOff b = (s.modCan b fun c => { c with busOffs := bump 0xFF c.busOffs }).setBus b .busOff :=
    if_neg (by rw [hp, hb]; exact Bool.false_ne_true)
  have hl : (s.modCan b fun c => { c with busOffs := bump 0xFF c.busOffs }).can.length = 2 := (State.length_modCan ..).trans h
  rw [he]
  refine ⟨by rw [setBus_canAt _ _ _ hl, State.canAt_modCan _ _ _ h], setBus_irq ?_⟩
  rw [State.canAt_modCan _ _ _ h]
  rcases onBus_iff.mp hb with hb | hb
  · exact fun h2 => BusState.noConfusion (hb.symm.trans h2)
  · exact fun h2 => BusState.noConfusion (hb.symm.trans h2)

theorem canRecover_at {s : State} {b : Bool} (h : s.can.length = 2) (hp : s.portsOn = true) (hb : (s.canAt b).bus = .busOff) :
    (s.canRecover b).canAt b = { s.canAt b with tecCnt := 0, recCnt := 0, bus := .errorActive } ∧
      (s.canRecover b).spi.irqStatus = setBit s.spi.irqStatus (4 + bit b) true := by
  have he : s.canRecover b = (s.modCan b fun c => { c with tecCnt := 0, recCnt := 0 }).setBus b .errorActive :=
    if_pos (by rw [hp, hb]; rfl)
  have hl : (s.modCan b fun c => { c with tecCnt := 0, recCnt := 0 }).can.length = 2 := (State.length_modCan ..).trans h
  rw [he]
  refine ⟨by rw [setBus_canAt _ _ _ hl, State.canAt_modCan _ _ _ h], setBus_irq ?_⟩
  rw [State.canAt_modCan _ _ _ h]
  exact fun h2 => BusState.noConfusion (hb.symm.trans h2)

/-- Settles O58: each event of a CAN port by its guard, the frame taken by the form of its identifier. -/
theorem canEvents : Obligations.CanEvents := by
  unfold Obligations.CanEvents
  intro s b h
  refine ⟨fun hp hb => ⟨?_, ?_, ?_, ?_, ?_, ?_, ?_, ?_, ?_⟩, ?_, ?_, ?_, ?_, ?_⟩
  · intro id fd late data hfd hr
    refine ⟨fun hl => ⟨_, canFrameRx_kept late id data hp hb hfd hr, ?_⟩, fun hl => ⟨_, canFrameRx_kept late id data hp hb hfd hr, ?_⟩⟩
    · obtain ⟨st, hc⟩ := canEntered_room id data h hl
      rw [hc]
      exact ⟨rfl, rfl, rfl⟩
    · obtain ⟨st, hc⟩ := canEntered_full id data h hl
      rw [hc]
      exact ⟨rfl, rfl⟩
  · intro id fd late data hfd hr he
    obtain ⟨u, n, st, hx, hu, hlen, hc⟩ := canFrameRx_read late id data h hp hb hfd hr he
    have hkeeps : (u.canAt b).keeps id = (s.canAt b).keeps id := by rw [hc]; rfl
    have hreasm : (u.canAt b).reasm = (s.canAt b).reasm := by rw [hc]
    have hring : (u.canAt b).rxRing = [] := by rw [hc]
    rw [hx, ← hkeeps, ← hreasm]
    refine ⟨fun hk => ?_, fun hk hf hi => ?_, fun hk hf hi => ?_, fun hk hf => ?_, fun hk hf => ⟨fun hn => ?_, fun r hr => ?_⟩⟩
    · rw [canTake_refused late data hk]
      exact ⟨u, rfl, hring, rfl, hu.ploza⟩
    · rw [canTake_first late data hk hf hi]
      refine ⟨_, rfl, ?_⟩
      rw [State.canAt_modCan _ _ _ hlen, hu.grid]
      exact ⟨hring, rfl⟩
    · rw [canTake_first_misplaced late data hk hf hi]
      exact ⟨u, rfl, hring, rfl, hu.ploza⟩
    · rw [canTake_single late data hk hf]
      exact ⟨u, hu, hring, rfl, rfl⟩
    · rw [canTake_stray late data hk hf hn]
      exact ⟨u, rfl, rfl, hu.ploza⟩
    · dsimp only
      rw [canTake_next late data hk hf hr, hu.canFd]
      refine ⟨fun hbad => ?_, fun hi hle => ?_⟩
      · have hg : (decide (idField id 0 8 ≠ r.next) || decide ((if s.canFd b = 0 then 255 else 64) < idField id 0 8)) = true := by
          rw [Bool.or_eq_true, decide_eq_true_iff, decide_eq_true_iff]
          exact hbad
        refine ⟨_, next_pos hg, ?_, hu.ploza⟩
        rw [State.canAt_modCan _ _ _ hlen]
      · have hg : ¬(decide (idField id 0 8 ≠ r.next) || decide ((if s.canFd b = 0 then 255 else 64) < idField id 0 8)) = true := by
          rw [Bool.or_eq_true, decide_eq_true_iff, decide_eq_true_iff]
          rintro (h2 | h2)
          · exact h2 hi
          · rw [hi] at h2
            exact absurd h2 (Nat.not_lt.mpr hle)
        dsimp only
        rw [if_neg hg]
        refine ⟨fun hshort => ⟨_, next_neg (Nat.not_le.mpr hshort), ?_, hu.ploza⟩, fun hwhole => ⟨_, ?_, ?_, next_pos hwhole⟩⟩
        · rw [State.canAt_modCan _ _ _ hlen, hu.grid, hi]
        · exact hu.trans (canOnly_modCan ..)
        · rw [State.canAt_modCan _ _ _ hlen]
  · intro f rest d hf hd
    obtain ⟨t, v, p, st, hx, hc, hv⟩ := canTxComplete_sent (alarm := false) h hp hb (by rw [Can.offers, hf]; exact List.cons_ne_nil _ _) hd
    refine ⟨t, hx, ?_⟩
    rw [hc]
    simp only [Can.sent, Can.refill, hf, List.drop_succ_cons, List.drop_zero]
    exact ⟨rfl, rfl, rfl, rfl, hv⟩
  · intro d ha hd
    obtain ⟨t, v, p, st, hx, hc, -⟩ := canTxComplete_sent (alarm := true) h hp hb ha hd
    refine ⟨t, hx, ?_⟩
    rw [hc]
    exact ⟨rfl, rfl, rfl⟩
  · intro f rest d hf hfd hd
    obtain ⟨t, p, st, hx, hc⟩ := canTxComplete_failed (alarm := false) h hp hb (by rw [Can.offers, hf]; exact List.cons_ne_nil _ _) hfd hd
    refine ⟨t, hx, ?_⟩
    rw [hc]
    exact ⟨rfl, rfl, rfl, rfl⟩
  · intro d ha hfd hd
    obtain ⟨t, p, st, hx, hc⟩ := canTxComplete_failed (alarm := true) h hp hb ha hfd hd
    refine ⟨t, hx, ?_⟩
    rw [hc]
    exact ⟨rfl, rfl⟩
  · intro d
    refine ⟨fun ha => canTxComplete_off d ?_, fun hf => canTxComplete_off d ?_⟩
    · rw [hp, hb, ha]; rfl
    · rw [hp, hb, hf]; rfl
  · intro tx
    obtain ⟨st, hc, hst⟩ := canError_at tx h hp hb
    refine ⟨_, rfl, ?_⟩
    rw [hc]
    exact ⟨onBus_iff.mpr hst, rfl, rfl⟩
  · obtain ⟨hc, hi⟩ := canBusOff_at h hp hb
    refine ⟨_, rfl, ?_⟩
    rw [hc]
    exact ⟨rfl, rfl, rfl, rfl, hi⟩
  · intro hp hb
    obtain ⟨hc, hi⟩ := canRecover_at h hp hb
    refine ⟨_, rfl, ?_⟩
    rw [hc]
    exact ⟨rfl, rfl, rfl, rfl, hi⟩
  · intro key
    exact ⟨_, rfl, congrArg Can.reasm (State.canAt_modCan _ _ _ h), State.canAt_modCan_other ..⟩
  · rintro (hp | hb)
    · exact next_neg (by rw [hp]; exact Bool.false_ne_true)
    · exact next_neg (by rw [Bool.and_eq_true, beq_iff_eq]; exact fun h2 => hb h2.2)
  · intro hfd id late data
    exact canFrameRx_off late id data (by rw [hfd]; exact Bool.or_true _)
  · intro hoff
    have hg : (!s.portsOn || !(s.canAt b).onBus) = true := by
      rw [Bool.or_eq_true, Bool.not_eq_true', Bool.not_eq_true']
      exact hoff
    refine ⟨fun id fd late data => canFrameRx_off late id data ?_, fun a d => canTxComplete_off d ?_, fun tx => next_pos hg, next_pos hg⟩
    · rw [hg]; rfl
    · rw [hg]; rfl

end Sys2Proof.Machine

end


section
/-!
PROOFS. The SPI mailbox (19_can_fd_and_spi.md).
-/

-- One proof after the other: the threads of proofs that are elaborated at once take too much memory together.
set_option Elab.async false

namespace Sys2Proof.Machine

/-! ### IN_DATA (19 R453) -/

theorem spiIn_dropping {s : State} (w : Word) (late : Bool) (h : s.spi.inDrop = true) : s.spiIn w late = s :=
  if_pos (by rw [h]; exact Bool.or_true _)

section Taken
variable {s : State} (w : Word) (late : Bool) (hp : s.portsOn = true) (hd : s.spi.inDrop = false)
include hp hd

theorem spiIn_unfit (hf : s.spiFree < 4) : s.spiIn w late = { s.spiDiscard with spi.inDrop := true } :=
  (if_neg (by rw [hp, hd]; exact Bool.false_ne_true)).trans (if_pos hf)

/-- A word that fits joins the packet in progress, which goes on, is discarded, or is received. -/
theorem spiIn_fit (hf : 4 ≤ s.spiFree) :
    s.spiIn w late =
      let bs := s.spi.inPart ++ toLe 4 w.toNat
      let total := 10 + getU bs 4 2
      if (decide (bs.length < 6) || decide (bs.length < total)) = true then
        { s with spi.inPart := bs, spi.inAt := s.grid.plantNs }
      else if (bs.drop total).any (· != 0) = true then s.spiDiscard
      else ({ s with spi.inPart := [], spi.irqStatus := setBit s.spi.irqStatus 1 true } : State).receive .spi late (bs.take total) :=
  (if_neg (by rw [hp, hd]; exact Bool.false_ne_true)).trans (if_neg (Nat.not_lt.mpr hf))

end Taken

theorem any_ne_zero {l : List Byte} : l.any (· != 0) = true ↔ ∃ x ∈ l, x ≠ 0 := by
  simp [List.any_eq_true]

/-! ### OUT_DATA and IRQ_STATUS -/

theorem spiOut_empty {s : State} (hp : s.portsOn = true) (h : s.spi.outQ = []) : s.spiOut = { s with spi.miso := 0 } := by
  unfold State.spiOut
  rw [hp, h]
  rfl

theorem spiOut_head {s : State} {p q} (hp : s.portsOn = true) (h : s.spi.outQ = p :: q) :
    s.spiOut =
      let w := BitVec.ofNat 32 (getU (padTo (p.bytes.length + 4) p.bytes) (4 * s.spi.outPos) 4)
      if p.bytes.length ≤ 4 * (s.spi.outPos + 1) then { s with spi.miso := w, spi.outQ := q, spi.outPos := 0 }
      else { s with spi.miso := w, spi.outPos := s.spi.outPos + 1 } := by
  unfold State.spiOut
  rw [hp, h]
  rfl

/-- The W1C bits of Table 19.8. -/
theorem w1c_getLsbD : ∀ k < 32, (0xF3 : Word).getLsbD k = (k == 0 || k == 1 || k == 4 || k == 5 || k == 6 || k == 7) := by
  decide

theorem spiIrqStatus_on {s : State} (w : Word) (hp : s.portsOn = true) :
    s.spiIrqStatus w = { s with spi.irqStatus := s.spi.irqStatus &&& ~~~(w &&& 0xF3) } := if_pos hp

theorem clear_w1c_getLsbD (x w : Word) {k : Nat} (h : k < 32) :
    (x &&& ~~~(w &&& 0xF3)).getLsbD k = (x.getLsbD k &&
      !(w.getLsbD k && (k == 0 || k == 1 || k == 4 || k == 5 || k == 6 || k == 7))) := by
  rw [← w1c_getLsbD k h]
  simp [h]

/-- IRQ_ENABLE keeps its bit 2. -/
theorem setBit_two_getLsbD (w : Word) (k : Nat) : (setBit w 2 true).getLsbD k = (k == 2 || w.getLsbD k) := by
  rw [setBit_getLsbD w 2 k true (by decide)]
  by_cases h : k = 2
  · subst h
    rfl
  · rw [if_neg (Ne.symm h), beq_false_of_ne h, Bool.false_or]

/-! ### Transactions (19 R452) -/

theorem spiWrite_other {s : State} {a : Nat} (w : Word) (late : Bool) (h1 : a ≠ 1) (h2 : a ≠ 2) (h4 : a ≠ 4) :
    s.spiWrite a w late = s := by
  unfold State.spiWrite
  split
  · exact absurd rfl h1
  · exact absurd rfl h2
  · exact absurd rfl h4
  · rfl

/-- The fields of a command word (Table 19.6). -/
theorem command_fields {a n rsv : Nat} (ha : a < 128) (hn : n < 2048) (hr : rsv < 8192) (write : Bool) :
    let c := (BitVec.ofNat 32 ((if write then 2147483648 else 0) + 16777216 * a + 2048 * rsv + n)).toNat
    (c / 2 ^ 11) % 2 ^ 13 = rsv ∧ decide (2 ^ 31 ≤ c) = write ∧ (c / 2 ^ 24) % 128 = a ∧ c % 2 ^ 11 = n := by
  cases write with
  | true =>
    have hc : (BitVec.ofNat 32 (2147483648 + 16777216 * a + 2048 * rsv + n)).toNat = 2147483648 + 16777216 * a + 2048 * rsv + n := by
      rw [BitVec.toNat_ofNat]
      omega
    simp only [if_true, hc, decide_eq_true_iff]
    omega
  | false =>
    have hc : (BitVec.ofNat 32 (0 + 16777216 * a + 2048 * rsv + n)).toNat = 16777216 * a + 2048 * rsv + n := by
      rw [BitVec.toNat_ofNat]
      omega
    simp only [Bool.false_eq_true, if_false, hc, decide_eq_false_iff_not]
    omega

/-- MISO carries IRQ_STATUS with the command word, and the words of a well-formed one are taken from its address. -/
theorem spiTransaction_on {s : State} (cmd : Word) (words : List Word) (late : Bool) (hp : s.portsOn = true) :
    s.spiTransaction cmd words late =
      let t : State := { s with spi.miso := setBit s.spi.irqStatus 2 (!s.spi.outQ.isEmpty) }
      if (cmd.toNat / 2 ^ 11) % 2 ^ 13 ≠ 0 then t
      else t.spiWords (decide (2 ^ 31 ≤ cmd.toNat)) late ((cmd.toNat / 2 ^ 24) % 128) (words.take (cmd.toNat % 2 ^ 11)) :=
  if_neg (by rw [hp]; exact Bool.false_ne_true)

theorem spiCsRise_on {s : State} (hp : s.portsOn = true) :
    s.spiCsRise = if s.spi.inPart = [] then { s with spi.inDrop := false } else { s.spiDiscard with spi.inDrop := false } :=
  if_neg (by rw [hp]; exact Bool.false_ne_true)

/-- Settles O59: each word by its address and by what the packet in progress holds. -/
theorem spiMailbox : Obligations.SpiMailbox := by
  unfold Obligations.SpiMailbox
  intro s
  refine ⟨fun hp => ⟨?_, ?_, ?_, ?_, ?_, ?_, ?_, ?_, ?_, ?_, ?_⟩, fun hp => ?_⟩
  · exact fun w late h => congrArg Host.Outcome.next (spiIn_dropping w late h)
  · exact fun w late hd hf => congrArg Host.Outcome.next (spiIn_unfit w late hp hd hf)
  · intro w late hd hf
    dsimp only
    change (_ → Host.Outcome.next (s.spiIn w late) = _) ∧ (_ → _ → (_ → Host.Outcome.next (s.spiIn w late) = _) ∧
      (_ → Host.Outcome.next (s.spiIn w late) = _))
    rw [spiIn_fit w late hp hd hf]
    dsimp only
    refine ⟨fun h => next_pos ?_, fun h6 ht => ?_⟩
    · rw [Bool.or_eq_true, decide_eq_true_iff, decide_eq_true_iff]
      exact h
    · rw [decide_eq_false (Nat.not_lt.mpr h6), decide_eq_false (Nat.not_lt.mpr ht), Bool.or_false, if_neg Bool.false_ne_true]
      refine ⟨fun h => next_pos (any_ne_zero.mpr h), fun h => next_neg fun h2 => ?_⟩
      obtain ⟨x, hx, hx0⟩ := any_ne_zero.mp h2
      exact hx0 (h x hx)
  · exact fun h => congrArg Host.Outcome.next (spiOut_empty hp h)
  · intro p q h
    exact ⟨fun hl => congrArg Host.Outcome.next ((spiOut_head hp h).trans (if_pos hl)),
      fun hl => congrArg Host.Outcome.next ((spiOut_head hp h).trans (if_neg (Nat.not_le.mpr hl)))⟩
  · intro w
    exact ⟨_, congrArg Host.Outcome.next (spiIrqStatus_on w hp), rfl, fun k hk => clear_w1c_getLsbD _ _ hk⟩
  · intro a n rsv words late ha hn hr write
    obtain ⟨h1, h2, h3, h4⟩ := command_fields ha hn hr write
    dsimp only
    change (_ → Host.Outcome.next (s.spiTransaction _ words late) = _) ∧ (_ → Host.Outcome.next (s.spiTransaction _ words late) = _)
    rw [spiTransaction_on _ _ _ hp]
    dsimp only
    rw [h1, h2, h3, h4]
    exact ⟨fun h => next_pos h, fun h => next_neg (fun h2 => h2 h)⟩
  · intro a w l late
    refine ⟨rfl, rfl, fun h4 h6 => if_neg (not_or.mpr ⟨h4, h6⟩), rfl, rfl, ?_, ?_, ?_, ?_, ?_, ?_⟩
    · rintro rfl
      exact ⟨_, rfl, rfl⟩
    · rintro rfl
      exact ⟨{ s with spi.irqEnable := setBit w 2 true }, rfl, fun k _ => setBit_two_getLsbD w k, rfl⟩
    · rintro rfl
      exact ⟨_, rfl, rfl⟩
    · intro h1 h2 h4
      exact congrArg (State.spiWords true late (spiNext a) l) (spiWrite_other w late h1 h2 h4)
    · rintro rfl
      exact ⟨_, rfl, rfl⟩
    · exact fun h6 => congrArg (State.spiWords false late (spiNext a) l) (if_neg h6)
  · exact fun h => congrArg Host.Outcome.next ((spiCsRise_on hp).trans (if_pos h))
  · rintro (h | h)
    · exact next_neg (by rw [h]; simp)
    · exact next_neg (by rw [h, Bool.and_false]; exact Bool.false_ne_true)
  · intro h
    refine ⟨congrArg Host.Outcome.next ((spiCsRise_on hp).trans (if_neg h)), fun ht => next_pos ?_⟩
    rw [hp, ht, Bool.and_true, Bool.true_and]
    exact bne_iff_ne.mpr h
  · have hn : (!s.portsOn) = true := by rw [hp]; rfl
    refine ⟨fun w late => next_pos (by rw [hn]; rfl), next_pos hn, fun w => next_neg (by rw [hp]; exact Bool.false_ne_true),
      fun a w => next_pos hn, next_pos hn, next_neg (by rw [hp]; exact Bool.false_ne_true)⟩

end Sys2Proof.Machine

end
